-- ==== Sys2Proof/Word.lean ====
section
/-!
DEFINITION. The plain data the model is built from: bytes, register words and finite maps from numbers.
-/
namespace Sys2Proof

/-- One byte. -/
abbrev Byte := BitVec 8

/-- One 32-bit setup-space register word (R38). -/
abbrev Word := BitVec 32

/-- A finite map from numbers to values, held as a list of pairs with strictly rising keys
(the operations of `Machine/Maps.lean` keep that form). -/
abbrev AMap (α : Type) := List (Nat × α)

end Sys2Proof
end

