-- ==== Sys2Proof/Syntax.lean ====
section
/-!
DEFINITION. The commands the block takes, one constructor per row of spec/opcode_table.json, and the data they carry
(packets, link blocks, messages, table entries), each type after the format rule its docstring names.
-/
namespace Sys2Proof

/-- The three routes into the setup space (R36); BAR0 names the upstream attachment. -/
inductive Route | mp | drisiul | bar0 (a : Fin 64)
  deriving DecidableEq, Repr

/-- Every unit of the fixed map (R57). -/
inductive UnitId
  | root | mgmtProc | secProc | flask | mgmtEth (k : Fin 2) | gazetteer | atlas | matching | collective | compass
  | meterBank | injShaper | cluster (c : Fin 4) | engine (e : Fin 16) | switchCore | tileCluster (c : Fin 16)
  | tile (t : Fin 256) | macroGroup (d : Fin 4) | fabricMacro (m : Fin 24) | port (n : Fin 96)
  | egressShaper (n : Fin 96) | hostGroup (d : Fin 4) | hostMacro (h : Fin 16) | attachment (a : Fin 64)
  | stack (s : Fin 6) | slice (i : Fin 48)
  deriving DecidableEq, Repr

/-- One reading of the VCORE regulator over AVSBus (R16): rail power in W and voltage in mV. -/
structure RailReading where
  watts : BitVec 16
  mv : BitVec 16
  deriving DecidableEq, Repr

/-- Where a die-bridge code error strikes (R29): the switch pipeline of a core port and virtual channel, on the way out to
its fabric port or host macro (`outward`) or in from it, or the memory-mesh link of a host macro. -/
inductive BridgePlace | pipeline (p : Fin 112) (vc : Fin 16) (outward : Bool) | mesh (h : Fin 16)
  deriving DecidableEq, Repr

/-- A 4-byte write to the setup space (R38): byte offset, value and byte enables. -/
structure BusWrite where
  off : BitVec 28
  value : BitVec 32
  enables : BitVec 4
  deriving DecidableEq, Repr

/-- A write access: of 4 bytes or of 8 to the setup space by a route, or of 4 to the queue BAR of a function (R38, R309). -/
inductive RegWrite
  | setup (r : Route) (w : BusWrite)
  | wide (r : Route) (off : BitVec 28) (value : BitVec 64) (enables : BitVec 8)
  | queue (f : Fin 1024) (off : BitVec 18) (value : BitVec 32) (enables : BitVec 4)
  deriving DecidableEq, Repr

/-- Where a read access goes: to the setup space by a route, or to the queue BAR of a function (R38, R60, R309). -/
inductive RegRead
  | setup (r : Route) (off : BitVec 28)
  | queue (f : Fin 1024) (off : BitVec 18)
  deriving DecidableEq, Repr

/-- What a configuration scrub found for one unit (R600, R601): no mismatch, a mismatch in one Atlas or multicast
entry (its setup-space offset), or elsewhere (table code and entry index). -/
inductive ScrubResult | good | entry (off : BitVec 28) | elsewhere (table : BitVec 16) (index : BitVec 32)
  deriving DecidableEq, Repr

/-- One reading of the thirty-two temperature sensors (R631), each in 0.1 °C. -/
abbrev SensorReadings := List (BitVec 16)

/-- A clock that the housekeeping island monitors (R602): an island's clock, or a reference clock. -/
inductive ClockId | island (i : Fin 60) | refFab (d : Fin 4) | refCore | refHost (h : Fin 16)
  deriving DecidableEq, Repr

/-- What the security processor finds when it verifies the signatures of the stored firmware images
(R575, R582): the SM2 verifications are outside the model and their results come with the command. -/
structure BootChecks where
  sigA : Bool
  sigB : Bool
  sigRecovery : Bool
  deriving DecidableEq, Repr

/-- The 16-byte route header of a Cicen packet, field by field (R87). -/
structure RouteHdr where
  dst : BitVec 24
  vclass : BitVec 3
  hoplvl : BitVec 3
  epoch : Bool
  fence : Bool
  src : BitVec 24
  hopcnt : BitVec 4
  mode : BitVec 2
  colour : BitVec 2
  waypt : BitVec 11
  ce : Bool
  mc : Bool
  len : BitVec 13
  rsv : BitVec 6
  flowhash : BitVec 16
  chk : BitVec 16
  deriving DecidableEq, Repr

/-- The transport header (R98): the common twelve bytes, then the opcode's own words from offset 0x1C on (R102). -/
structure TransHdr where
  top : BitVec 8
  thlen : BitVec 2
  rsvA : BitVec 2
  channel : BitVec 20
  gen : BitVec 8
  psn : BitVec 24
  first : Bool
  last : Bool
  ackreq : Bool
  rsvB : BitVec 5
  fenceCnt : BitVec 24
  words : List (BitVec 32)
  deriving DecidableEq, Repr

/-- The trailer (R93). -/
structure Trailer where
  crc : BitVec 32
  stomp : BitVec 8
  reason : BitVec 8
  dev : BitVec 16
  deriving DecidableEq, Repr

/-- A Cicen packet (R85); the pad is transmitted as zero and is not held. `intact` tells that E2E_CRC agrees with the bytes
that came, pad included (R94, R97). -/
structure Packet where
  rh : RouteHdr
  th : TransHdr
  payload : List Byte
  tr : Trailer
  intact : Bool := true
  deriving DecidableEq, Repr

/-- A link block (R113): sixteen 64-byte slots and the fields of block control, without LINK_CRC. `rsv` holds the reserved
bits of word 0x400, which LINK_CRC covers (R3, R114). -/
structure LinkBlock where
  slots : List (BitVec 512)
  seq : BitVec 12
  ack : BitVec 12
  ctl : Bool
  ndata : BitVec 5
  tail : BitVec 16
  split : BitVec 4
  vcA : BitVec 4
  vcB : BitVec 4
  audVc : BitVec 4
  cr0Vc : BitVec 4
  cr0Cnt : BitVec 6
  cr1Vc : BitVec 4
  cr1Cnt : BitVec 6
  audCa : BitVec 12
  rsv : BitVec 2 := 0
  deriving DecidableEq, Repr

/-- A block as a receiver frames it: from the lanes in use together, or from one lane framed as a one-lane link (R137). -/
structure RxBlock where
  block : LinkBlock
  lane : Option (Fin 4)
  deriving DecidableEq, Repr

/-- The training messages' fields (R119): TRAIN_REQ, TRAIN_ACK and TRAIN_DONE. `vcMin` lists VC 0 to 15. -/
structure TrainMsg where
  reason : BitVec 8
  reqId : BitVec 64
  ownId : BitVec 64
  rxGood : BitVec 4
  width : BitVec 2
  rate : Bool
  rxExpect : BitVec 12
  vcMin : List (BitVec 10)
  deriving DecidableEq, Repr

/-- A timestamp of a timebase exchange (R119, R146): nanoseconds and 1/65,536 ns. -/
structure LinkTime where
  ns : BitVec 64
  frac : BitVec 16
  deriving DecidableEq, Repr

/-- Block lock gained (R118, R136): the lanes that hold it now, each framed as a one-lane link, and the bring-up TRAIN_REQ
that the first block received intact carried, if one (R138). -/
structure LockGain where
  lanes : BitVec 4
  req : Option TrainMsg
  deriving DecidableEq, Repr

/-- The lane fault events of R135. -/
inductive LaneEvent | signal (lane : Fin 4) | codeword (lane : Fin 4) | blockLock
  deriving DecidableEq, Repr

/-- A phase of bring-up or training that ends without a message (R136). -/
inductive TrainPhase | pmd | codeword (lanes : BitVec 4)
  deriving DecidableEq, Repr

/-- Where a flit read finds an error (R175): the receive buffer's current packet of an input virtual channel, or the
packet at a position of a lossy queue. -/
inductive EccPlace | rxBuffer (p : Fin 96) (vc : Fin 16) | pool (q : Fin 384) (i : Nat)
  deriving DecidableEq, Repr


/-- An error in the snoop-filter entry of a line (R471), and whether ECC can correct it. -/
structure SfUpset where
  line : BitVec 46
  corrects : Bool
  deriving DecidableEq, Repr

/-- A cache of Compass (R380, R395): the TLB, the walk cache, the key cache. -/
inductive XlCache | tlb | walk | key
  deriving DecidableEq, Repr

/-- An upset of an entry of a Compass cache (R395): the cache, the entry (counted round the entries held), and whether ECC can
correct it. -/
structure CacheUpset where
  cache : XlCache
  at_ : Nat
  corrects : Bool
  deriving DecidableEq, Repr

/-- The read of a table entry returns (R391): what memory outside the device gave, none for a read that failed or returned
poison; and an upset of a cache that Compass finds meanwhile (R395). -/
structure WalkRead where
  entry : Option (BitVec 64)
  upset : Option CacheUpset
  deriving DecidableEq, Repr

/-- An entry of an Atlas version (R185, R187): group table, device table, Waypoint table. -/
inductive AtlasEntry | group (g : Fin 2048) | device (d : Fin 32)
  deriving DecidableEq, Repr


/-- An upset of the stored word of an Atlas entry or Waypoint entry (R188): version, the entry (or the Waypoint entry's
number), and whether ECC can correct it. -/
inductive AtlasPlace | entry (e : AtlasEntry) | waypoint (i : Fin 256)
  deriving DecidableEq, Repr

/-- An upset of an Atlas table (R188). -/
structure AtlasUpset where
  v : Fin 2
  at_ : AtlasPlace
  corrects : Bool
  deriving DecidableEq, Repr

/-- A head at an input stage: its virtual channel, and an upset that has struck the Atlas tables before its lookup (R188). -/
structure HeadAt where
  vc : Fin 16
  upset : Option AtlasUpset
  deriving DecidableEq, Repr

/-- Which payload read returns (R234, R254, R431): the one for the packet a channel builds, for the READ_RSP with this PSN,
or for the oldest tunnel frame that a cluster builds. -/
inductive ReadFor | send (ch : Fin 1048576) | rsp (ch : Fin 1048576) (psn : Fin 16777216) | tun (c : Fin 4)
  deriving DecidableEq, Repr

/-- A queue whose index is written back (R280, R318): a work queue, a completion queue, or a domain's receive queue. -/
inductive IdxOf | wq (g : Fin 65536) | cq (g : Fin 65536) | rq (d : Fin 4096)
  deriving DecidableEq, Repr


/-- A device that the virtual CXL switch of an upstream attachment shows its host (R410, R412, R416): the NIC's physical
function, its VF `i + 1`, the pool, the upstream switch port, a vPPB. -/
inductive CfgDev | nic | vf (i : Fin 63) | pool | usp | vppb (v : Fin 18)
  deriving DecidableEq, Repr

/-- A 32-bit register of configuration space: vendor and device ID, class code and revision, a BAR, the SR-IOV values of
R412, Cache_Enable of the CXL DVSEC (R415), the Completion Timeout Value (R414), or any other by its offset. -/
inductive CfgReg
  | ids | classRev | bar (i : Fin 6) | totalVfs | numVfs | firstVfOffset | vfStride | vfBar (i : Fin 6) | cacheEnable
  | completionTimeout | other (off : BitVec 12)
  deriving DecidableEq, Repr

/-- A configuration request of a host (R412 to R415): a read; writes of a BAR or a VF BAR of the NIC, of NumVFs, of
Cache_Enable of the NIC's CXL DVSEC, of the Completion Timeout Value of the PF, of MSI-X Enable and Function Mask of a
function; a write without effect here. -/
inductive CfgReq
  | read (d : CfgDev) (r : CfgReg) | other | bar (i : Fin 6) (v : BitVec 32) | vfBar (i : Fin 6) (v : BitVec 32)
  | numVfs (n : BitVec 16) | cacheEnable (b : Bool) | completionTimeout (v : BitVec 4)
  | msix (f : Fin 1024) (on mask : Bool)
  deriving DecidableEq, Repr

/-- What Physical Port Control does (R409; the operations of CXL 3.1). -/
inductive PortControl | assertPerst | deassertPerst | resetPpb
  deriving DecidableEq, Repr

/-- The FM API commands of R409, u being the virtual CXL switch (R559): the physical ports asked for by number; the byte
enables of a configuration request; the first vPPB, their number and the switches asked for; the dynamic-capacity commands
with what they ask for or the extents they name; a payload that names nothing there is; any other opcode. -/
inductive FmCmd
  | identifySwitch
  | getPortState (ports : List Nat)
  | portControl (a : Fin 64) (op : PortControl)
  | ppbConfig (a : Fin 64) (reg : BitVec 12) (enables : BitVec 4) (write : Option (BitVec 32))
  | getVcsInfo (start limit : Nat) (us : List Nat)
  | bind (u : Fin 64) (v : Fin 18) (a : Fin 64)
  | unbind (u : Fin 64) (v : Fin 18) (option : Fin 3)
  | aer (u : Fin 64) (v : Fin 18) (error : BitVec 32)
  | backgroundStatus
  | dcInfo
  | dcRegion (u : Fin 64) (count start : Nat)
  | dcExtents (u : Fin 64) (count start : Nat)
  | dcAdd (u : Fin 64) (es : List (Fin 131072)) (tag : BitVec 128)
  | dcRelease (u : Fin 64) (es : List (Fin 131072))
  | dcForcedRemoval (u : Fin 64) (es : List (Fin 131072))
  | invalid
  | other (opcode : BitVec 16)
  deriving DecidableEq, Repr

/-- A host's CXL.mem request (R472): MemRd or MemRdData with MetaValue S or A, MemRd with MetaField No-Op, MemInv or
MemClnEvct, MemWr with MetaValue I, MemWr No-Op or MemWrPtl. -/
inductive HostMem
  | readS | readA | readNoOp | evict
  | writeBack (data : List Byte) (poison : Bool)
  | writePart (off : Fin 64) (bytes : List Byte) (poison : Bool)
  deriving DecidableEq, Repr

/-- An interrupt or message of a downstream device (R426). -/
inductive DownMsg
  | msi (addr : BitVec 64) (data : BitVec 32) | intx (line : Fin 4) (assert : Bool) | pme | err (severity : Fin 3)
  deriving DecidableEq, Repr

/-- A memory request of a downstream device: a read of `n` bytes under a tag, or a posted write. -/
inductive DevReq | read (tag : BitVec 16) (n : BitVec 13) | write (bytes : List Byte) (poison : Bool)
  deriving DecidableEq, Repr

/-- Where a bound device's request goes by the host's decoders (R427): host memory, or the embedded pool. -/
inductive DevDest | host (addr : BitVec 64) | pool (da : BitVec 52)
  deriving DecidableEq, Repr

/-- A host's request to a bound downstream device (R418). -/
inductive HostDevReq | nonPosted | posted | memRead | memWrite
  deriving DecidableEq, Repr


/-- What a scrub read finds (R454): whether a mirror copy, where there is one, is good when the line itself is not. -/
inductive ScrubRead | good | corrected | uncorrectable (otherGood : Bool)
  deriving DecidableEq, Repr


/-- A host's answer to a BISnp (R473): BIRspI, BIRspS, BIRspE. -/
inductive HostAns | i | s | e
  deriving DecidableEq, Repr

/-- A shaper (R513, R514): injection shaper, or egress shaper of a fabric port for L0, L1 or L2. -/
inductive ShaperId | inj (s : Fin 4096) | egress (n : Fin 96) (k : Fin 3)
  deriving DecidableEq, Repr

/-- A meter or shaper bank (R515, R517). -/
inductive BankId | meters | injShapers | egress (n : Fin 96)
  deriving DecidableEq, Repr



/-- A frame on a management port (R545): FCS good, addresses, EtherType, and the bytes from after the EtherType to the FCS. -/
structure MgmtFrame where
  fcsGood : Bool
  dst : BitVec 48
  src : BitVec 48
  etype : BitVec 16
  body : List Byte
  deriving DecidableEq, Repr

/-- An operation of a Drisiul request (R557): one whose data do not have the form of its OP, and one with another OP. -/
inductive DrsOp
  | regRead (off n : BitVec 32)
  | regWrite (off : BitVec 32) (words : List (BitVec 32))
  | regRmw (off mask value : BitVec 32)
  | poll (off mask value tmo : BitVec 32)
  | commit (groups tmo : BitVec 32)
  | atlasLoad (table : BitVec 2) (v : Fin 2) (force : Bool) (first : BitVec 11) (words : List (BitVec 32))
  | atlasRead (table : BitVec 2) (v : Fin 2) (first : BitVec 11) (n : BitVec 32)
  | stream (st : BitVec 4) (enable : Bool) (rate decim : BitVec 32)
  | fmapi (c : FmCmd)
  | storeOpen (config : Bool) (length : BitVec 32)
  | storeData (off : BitVec 32) (bytes : List Byte)
  | storeClose
  | cfgSave
  | storeAbort
  | malformed (op : BitVec 8)
  | unknown (op : BitVec 8)
  deriving DecidableEq, Repr

/-- What a requester delivers in a mutual authentication (R551): its digests, or its certificate chain with the outcome of
the security processor's verification and the SM3 digest of its root certificate. -/
inductive EncapResp | digests | chain (good : Bool) (root : BitVec 256)
  deriving DecidableEq, Repr

/-- A secured request as it arrives (R549, R555): port, requester, session, SEQ, whether its tag passes, and the message that
the tag covers, deciphered (R554). -/
structure DrsReq where
  port : Fin 2
  mac : BitVec 48
  session : BitVec 32
  seq : BitVec 64
  tagGood : Bool
  msg : List Byte
  deriving DecidableEq, Repr

/-- The commands. Each constructor's docstring names its row of spec/opcode_table.json, the row's rule, and what the
operands are. -/
inductive Instr where
  /-- PACE_INTERVAL_END (R10): the eight replica counts. -/
  | paceIntervalEnd (counts : List (BitVec 16))
  /-- PACE_LOW_ENTER (R19): the guard's condition of R19 or R17 holds. -/
  | paceLowEnter
  /-- PACE_RESTORED (R19): the guard's exit condition holds. -/
  | paceRestored
  /-- PACE_FLOOR_WRITE (R19): a write of the PACE_FLOOR word. -/
  | paceFloorWrite (r : Route) (v : BitVec 32)
  /-- AVS_LOOP_PERIOD (R13): a 10 us period of the loop. -/
  | avsLoopPeriod
  /-- POWER_ESTIMATE (R16): the regulator's answer and the island rails' power. -/
  | powerEstimate (rail : Option RailReading) (islandsW : BitVec 16)
  /-- AVS_TXN_NACK (R15): the outstanding transaction goes unacknowledged. -/
  | avsTxnNack
  /-- AVS_STATUS_READ (R15): the 1 ms status read. -/
  | avsStatusRead
  /-- AVS_STATUS_ACK (R15): the regulator acknowledges, with its voltage. -/
  | avsStatusAck (mv : BitVec 16)
  /-- BRIDGE_CODE_ERROR (R28): the pipeline or link on which the code error is received. -/
  | bridgeCodeError (w : BridgePlace)
  /-- REGISTER_WRITE (R59): one 4-byte access. -/
  | registerWrite (w : RegWrite)
  /-- RC_FIELD_READ (R60): the read access, of `n + 1` bytes. -/
  | rcFieldRead (x : RegRead) (n : Fin 8)
  /-- REG64_LOW_WRITE (R75): the low half's offset and value. -/
  | reg64LowWrite (r : Route) (w : BusWrite)
  /-- REG64_HIGH_WRITE (R75): the high half's offset and value. -/
  | reg64HighWrite (r : Route) (w : BusWrite)
  /-- REG64_LOW_READ (R76): the low half's offset. -/
  | reg64LowRead (r : Route) (off : BitVec 28)
  /-- REG64_HIGH_READ (R76): the high half's offset. -/
  | reg64HighRead (r : Route) (off : BitVec 28)
  /-- ST_FIELD_WRITE (R62): a word that holds staged fields. -/
  | stFieldWrite (r : Route) (w : BusWrite)
  /-- FP_FIELD_WRITE (R69): a word that holds far-posted fields. -/
  | fpFieldWrite (r : Route) (w : BusWrite)
  /-- FP_WRITE_APPLIED (R69): the island that applies its pending write. -/
  | fpWriteApplied (island : Fin 60)
  /-- FP_WRITE_ABANDON (R71): the island whose 1 ms has run out. -/
  | fpWriteAbandon (island : Fin 60)
  /-- FENCE (R50): LEG_CONTROL written with FENCE 1 and UNIT_RESET 0. -/
  | fence (r : Route) (u : UnitId)
  /-- UNIT_RESET (R53): LEG_CONTROL written with UNIT_RESET 1. -/
  | unitReset (r : Route) (u : UnitId) (alsoFence : Bool)
  /-- UNIT_RESET_DONE (R53): the unit whose reset completes. -/
  | unitResetDone (u : UnitId)
  /-- CMT_GROUP_WRITE (R56): LEG_CONTROL written with a new CMT_GROUP. -/
  | cmtGroupWrite (r : Route) (u : UnitId) (g : Fin 32)
  /-- CMT_STROBE (R63): the word written. -/
  | cmtStrobe (r : Route) (groups : BitVec 32)
  /-- COMMIT_APPLY (R64): the unit that reaches its operation boundary. -/
  | commitApply (u : UnitId)
  /-- CMT_DISCARD (R68): the word written. -/
  | cmtDiscard (r : Route) (groups : BitVec 32)
  /-- WARM_RESET (R591): DEV_CONTROL written with WARM_RESET 1. -/
  | warmReset (r : Route)
  /-- COLD_RESET (R589): DEV_CONTROL written with COLD_RESET 1. -/
  | coldReset (r : Route)
  /-- POOL_STALE_CLR (R80): DEV_CONTROL written with POOL_STALE_CLR 1. -/
  | poolStaleClr (r : Route)
  /-- INJ_EPOCH_WRITE (R209): the INJ_EPOCH word written. -/
  | injEpochWrite (r : Route) (e : BitVec 32)
  /-- PACKET_HEAD_ARRIVE (R151): the input core port, and the virtual channel whose next packet's head is there. -/
  | packetHeadArrive (p : Fin 128) (vc : HeadAt)
  /-- EGRESS_GRANT (R154): the output core port. -/
  | egressGrant (o : Fin 128)
  /-- PACKET_TAIL_ARRIVE (R96): the input core port and virtual channel whose packet's TAIL flit is there. -/
  | packetTailArrive (p : Fin 128) (vc : Fin 16)
  /-- RED_AVG_IDLE_TICK (R162). -/
  | redAvgIdleTick
  /-- BUFFER_ECC_ERROR (R175): where the flit is read, and whether the error is a single-symbol one. -/
  | bufferEccError (w : EccPlace) (corrected : Bool)
  /-- POOL_HWM_CLR (R177): SW_CTL.HWM_CLR written with 1. -/
  | poolHwmClr (r : Route)
  /-- SWITCH_CNT_CLR (R177): SW_CTL.CNT_CLR written with 1. -/
  | switchCntClr (r : Route)
  /-- MC_ENTRY_WORD_WRITE (R180): the entry, the word at 4 w and its value. -/
  | mcEntryWordWrite (r : Route) (g : Fin 65536) (w : Fin 7) (v : BitVec 32)
  /-- MC_ENTRY_APPLY (R180): the entry and the value written to word 0x1C. -/
  | mcEntryApply (r : Route) (g : Fin 65536) (v : BitVec 32)
  /-- LINK_BLOCK_SEND (R117): the port whose block time comes. -/
  | linkBlockSend (n : Fin 96)
  /-- LINK_BLOCK_RECEIVE (R122): the block, its LINK_CRC, the lane of a codeword the FEC could not correct, and the lanes of codewords it corrected. -/
  | linkBlockReceive (n : Fin 96) (b : RxBlock) (crc : BitVec 32) (fecBad : Option (Fin 4)) (fecCorr : List (Fin 4))
  /-- REPLAY_REQ_RECEIVE (R125): EXPECT of the message. -/
  | replayReqReceive (n : Fin 96) (ex : BitVec 12)
  /-- REPLAY_TIMEOUT (R124): the port. -/
  | replayTimeout (n : Fin 96)
  /-- CREDIT_GRANT_PERIOD (R128): the port. -/
  | creditGrantPeriod (n : Fin 96)
  /-- AUDIT_TIMEOUT (R133): the virtual channel whose timer expires. -/
  | auditTimeout (n : Fin 96) (vc : Fin 16)
  /-- CREDIT_STALL_TIMEOUT (R134): the virtual channel whose packet waits. -/
  | creditStallTimeout (n : Fin 96) (vc : Fin 16)
  /-- LANE_FAULT (R135): the fault. -/
  | laneFault (n : Fin 96) (e : LaneEvent)
  /-- LANE_LOCK_GAIN (R142): the lane. -/
  | laneLockGain (n : Fin 96) (lane : Fin 4)
  /-- WIDTH_RESTORE_DUE (R142): the port. -/
  | widthRestoreDue (n : Fin 96)
  /-- BLOCK_LOCK_GAIN (R118): the lanes that hold block lock, and the bring-up TRAIN_REQ of the first block. -/
  | blockLockGain (n : Fin 96) (g : LockGain)
  /-- BRINGUP_PHASE_DONE (R136): the phase, with the lanes that hold codeword lock. -/
  | bringupPhaseDone (n : Fin 96) (p : TrainPhase)
  /-- TRAIN_REQ_RECEIVE (R138): the message. -/
  | trainReqReceive (n : Fin 96) (m : TrainMsg)
  /-- TRAIN_ACK_RECEIVE (R140): the message. -/
  | trainAckReceive (n : Fin 96) (m : TrainMsg)
  /-- TRAIN_DONE_RECEIVE (R141): the message. -/
  | trainDoneReceive (n : Fin 96) (m : TrainMsg)
  /-- TRAIN_RESUME (R141): the receiver regains block lock after training. -/
  | trainResume (n : Fin 96)
  /-- BRINGUP_TIMEOUT (R135): the port. -/
  | bringupTimeout (n : Fin 96)
  /-- RETRAIN_TIMEOUT (R135): the port. -/
  | retrainTimeout (n : Fin 96)
  /-- LINK_DOWN_SENT (R636): the port. -/
  | linkDownSent (n : Fin 96)
  /-- LINK_DOWN_RECEIVE (R135): the peer's DOWN_REASON. -/
  | linkDownReceive (n : Fin 96) (reason : BitVec 8)
  /-- SALVAGE_COMPLETE (R144): the port. -/
  | salvageComplete (n : Fin 96)
  /-- BROKEN_HOLD_EXPIRE (R135): the port. -/
  | brokenHoldExpire (n : Fin 96)
  /-- PORT_BRINGUP (R135): PORT_CTL.BRINGUP written with 1. -/
  | portBringup (r : Route) (n : Fin 96)
  /-- PORT_RETRAIN (R135): PORT_CTL.RETRAIN written with 1. -/
  | portRetrain (r : Route) (n : Fin 96)
  /-- PORT_TAKEDOWN (R135): PORT_CTL.TAKEDOWN written with 1. -/
  | portTakedown (r : Route) (n : Fin 96)
  /-- PORT_CNT_CLR (R149): PORT_CTL.CNT_CLR written with 1. -/
  | portCntClr (r : Route) (n : Fin 96)
  /-- TIME_SYNC_PERIOD (R146): the port. -/
  | timeSyncPeriod (n : Fin 96)
  /-- TIME_SYNC_RECEIVE (R146): T1 carried, T2 at arrival, and the error of reading T3 when the reply's block leaves, signed, in
  1/65,536 ns. -/
  | timeSyncReceive (n : Fin 96) (t1 : LinkTime) (t2 : LinkTime) (t3 : BitVec 18)
  /-- TIME_REPLY_RECEIVE (R147): the reply's timestamps and T4 at arrival. -/
  | timeReplyReceive (n : Fin 96) (t1 : LinkTime) (t2 : LinkTime) (t3 : LinkTime) (t4 : LinkTime)
  /-- TIME_EXCHANGE_TIMEOUT (R147): the port. -/
  | timeExchangeTimeout (n : Fin 96)
  /-- CONG_EST_TICK (R197). -/
  | congEstTick
  /-- WARMUP_END (R197): the port. -/
  | warmupEnd (n : Fin 96)
  /-- FMGT_WAIT_TIMEOUT (R203): the input whose FMGT head waits. -/
  | fmgtWaitTimeout (p : Fin 128) (vc : Fin 16)
  /-- FMGT_RECEIVE (R203): whether the management endpoint can take the packet. -/
  | fmgtReceive (room : Bool)
  /-- ATLAS_ENTRY_WORD_WRITE (R186): version, entry, the word at 4 w and its value. -/
  | atlasEntryWordWrite (r : Route) (v : Fin 2) (e : AtlasEntry) (w : Fin 3) (x : BitVec 32)
  /-- ATLAS_ENTRY_APPLY (R186): version, entry and the value written to word 0xC. -/
  | atlasEntryApply (r : Route) (v : Fin 2) (e : AtlasEntry) (x : BitVec 32)
  /-- WAYPOINT_ENTRY_WRITE (R187): version, entry and its word. -/
  | waypointEntryWrite (r : Route) (v : Fin 2) (i : Fin 256) (x : BitVec 32)
  /-- ATLAS_VALID_WRITE (R212): the word written to ATLAS_CTL. -/
  | atlasValidWrite (r : Route) (x : BitVec 32)
  /-- ATLAS_CNT_CLR (R225): ATLAS_CTL.CNT_CLR written with 1. -/
  | atlasCntClr (r : Route)
  /-- FENCE_RELEASE (R214): the selective-repeat channel whose held packets are looked at. -/
  | fenceRelease (ch : BitVec 20)
  /-- FENCE_TIMEOUT (R216): the held packet. -/
  | fenceTimeout (ch : BitVec 20) (psn : BitVec 24)
  /-- CONTOUR_PERIOD (R218): whether the event stream can take the record. -/
  | contourPeriod (room : Bool)
  /-- OPEN (R233): CHAN_CMD of the cluster written with OP OPEN and GO. -/
  | openCmd (r : Route) (c : Fin 4)
  /-- MODIFY (R233): CHAN_CMD written with OP MODIFY and GO. -/
  | modify (r : Route) (c : Fin 4)
  /-- CLOSE (R233): CHAN_CMD written with OP CLOSE and GO. -/
  | close (r : Route) (c : Fin 4)
  /-- CLOSE_FORCE (R233): CHAN_CMD written with OP CLOSE_FORCE and GO. -/
  | closeForce (r : Route) (c : Fin 4)
  /-- QUERY (R233): CHAN_CMD written with OP QUERY and GO. -/
  | query (r : Route) (c : Fin 4)
  /-- CHANNEL_CLOSE_COMPLETE (R234): the channel. -/
  | channelCloseComplete (ch : Fin 1048576)
  /-- CTX_FETCH_DONE (R256): the channel; the 64 words that host memory returned (the pool's own are read there), or none when the read failed. -/
  | ctxFetchDone (ch : Fin 1048576) (words : Option (List (BitVec 32)))
  /-- CTX_WRITEBACK_FAIL (R234): the channel. -/
  | ctxWritebackFail (ch : Fin 1048576)
  /-- CHANNEL_PACKET_SEND (R240): the channel; whether delivery space for a response can be reserved. -/
  | channelPacketSend (ch : Fin 1048576) (space : Bool)
  /-- PAYLOAD_READ_DONE (R234): whose read; the bytes that came from outside the pool, or none when the read failed. -/
  | payloadReadDone (w : ReadFor) (data : Option (List Byte))
  /-- CHANNEL_PACKET_RECEIVE (R246): the cluster whose oldest delivered request it is; whether delivery space can be reserved. -/
  | channelPacketReceive (c : Fin 4) (space : Bool)
  /-- ACK_DELAY_TIMEOUT (R251): the channel. -/
  | ackDelayTimeout (ch : Fin 1048576)
  /-- ACK_RECEIVE (R259): the cluster. -/
  | ackReceive (c : Fin 4)
  /-- NAK_RECEIVE (R260): the cluster. -/
  | nakReceive (c : Fin 4)
  /-- READ_RSP_RECEIVE (R262): the cluster. -/
  | readRspReceive (c : Fin 4)
  /-- RETX_TIMEOUT (R261): the channel. -/
  | retxTimeout (ch : Fin 1048576)
  /-- MISS_BACKOFF_EXPIRE (R260): the channel. -/
  | missBackoffExpire (ch : Fin 1048576)
  /-- CC_INC_PERIOD (R265): the channel. -/
  | ccIncPeriod (ch : Fin 1048576)
  /-- TRANSPORT_CNT_CLR (R272): TP_CTL.CNT_CLR of the cluster written with 1. -/
  | transportCntClr (r : Route) (c : Fin 4)
  /-- WQ_DOORBELL (R286): WQ_PI of local queue i in the queue BAR of function f written with v. -/
  | wqDoorbell (f : Fin 1024) (i : Fin 4096) (v : BitVec 32)
  /-- WATCHED_LINE_SNOOP (R288): the line, by function and function address. -/
  | watchedLineSnoop (f : Fin 1024) (a : BitVec 64)
  /-- WATCHED_LINE_READ_DONE (R288): the line; its bytes when it lies in host memory, or none when the read failed. -/
  | watchedLineReadDone (f : Fin 1024) (a : BitVec 64) (data : Option (List Byte))
  /-- WATCH_POLL_TIMER (R289). -/
  | watchPollTimer
  /-- WQ_ENTRY_ARRIVE (R279): the global queue; the entry's bytes when its ring lies in host memory, or none when the read failed. -/
  | wqEntryArrive (g : Fin 65536) (data : Option (List Byte))
  /-- FRAG_TABLE_READ_DONE (R283): the global queue whose oldest entry needs its table; the bytes that lie in host memory, or none when the read failed. -/
  | fragTableReadDone (g : Fin 65536) (data : Option (List Byte))
  /-- WQ_ENTRY_TAKE (R284): the engine. -/
  | wqEntryTake (e : Fin 16)
  /-- INDEX_WRITEBACK (R280): the queue. -/
  | indexWriteback (q : IdxOf)
  /-- CQ_CI_WRITE (R278): CQ_CI of local queue i written with v. -/
  | cqCiWrite (f : Fin 1024) (i : Fin 4096) (v : BitVec 32)
  /-- CQ_ARM (R300): CQ_ARM of local queue i written with 1. -/
  | cqArm (f : Fin 1024) (i : Fin 4096)
  /-- EQ_ARM (R300): EQ_ARM written with 1. -/
  | eqArm (f : Fin 1024)
  /-- EQ_CI_WRITE (R309): EQ_CI written with v. -/
  | eqCiWrite (f : Fin 1024) (v : BitVec 32)
  /-- QUEUE_RESET (R305): FN_CTL.QUEUE_RESET written with 1, or an FLR of the function. -/
  | queueReset (f : Fin 1024)
  /-- QUEUE_RESET_DONE (R305): the function. -/
  | queueResetDone (f : Fin 1024)
  /-- FN_VALID_WRITE (R274): FN.VALID of function f written with v. -/
  | fnValidWrite (r : Route) (f : Fin 1024) (v : Bool)
  /-- WQ_CREATE (R310): CMD written with OP WQ_CREATE and GO in the queue BAR of f. -/
  | wqCreate (f : Fin 1024)
  /-- WQ_MODIFY (R310): CMD written with OP WQ_MODIFY and GO. -/
  | wqModify (f : Fin 1024)
  /-- CQ_CREATE (R310): CMD written with OP CQ_CREATE and GO. -/
  | cqCreate (f : Fin 1024)
  /-- WQ_QUERY (R310): CMD written with OP WQ_QUERY and GO. -/
  | wqQuery (f : Fin 1024)
  /-- CQ_QUERY (R310): CMD written with OP CQ_QUERY and GO. -/
  | cqQuery (f : Fin 1024)
  /-- CH_OPEN (R309): CMD written with OP CH_OPEN and GO. -/
  | chOpen (f : Fin 1024)
  /-- CH_MODIFY (R309): CMD written with OP CH_MODIFY and GO. -/
  | chModify (f : Fin 1024)
  /-- CH_CLOSE (R309): CMD written with OP CH_CLOSE and GO. -/
  | chClose (f : Fin 1024)
  /-- CH_CLOSE_FORCE (R309): CMD written with OP CH_CLOSE_FORCE and GO. -/
  | chCloseForce (f : Fin 1024)
  /-- CH_QUERY (R309): CMD written with OP CH_QUERY and GO. -/
  | chQuery (f : Fin 1024)
  /-- ENGINE_CNT_CLR (R308): ENG_CTL.CNT_CLR of the engine written with 1. -/
  | engineCntClr (r : Route) (e : Fin 16)
  /-- RQ_DOORBELL (R318): RQ_PI of local domain j of function f written with v. -/
  | rqDoorbell (f : Fin 1024) (j : Fin 256) (v : BitVec 32)
  /-- RECV_ENTRY_TAKE (R319): the domain; the entry's bytes when its ring lies in host memory, or none when the read failed. -/
  | recvEntryTake (d : Fin 4096) (data : Option (List Byte))
  /-- OVERFLOW_MOVE (R324): the domain. -/
  | overflowMove (d : Fin 4096)
  /-- EAGER_RECV_DONE (R330): the domain and the RQ index of the receive. -/
  | eagerRecvDone (d : Fin 4096) (index : BitVec 32)
  /-- UX_COPY_DONE (R330): the domain and the RQ index; the slot's bytes that lie in host memory, or none when that read failed. -/
  | uxCopyDone (d : Fin 4096) (index : BitVec 32) (data : Option (List Byte))
  /-- RNDV_JOB_DONE (R333): the channel whose oldest finished rendezvous job ends. -/
  | rndvJobDone (ch : Fin 1048576)
  /-- DOMAIN_ENABLE (R345): the word written at 0x10 of the domain area, with EN 1. -/
  | domainEnable (f : Fin 1024) (j : Fin 256) (w : BitVec 32)
  /-- DOMAIN_DISABLE (R336): the word written at 0x10 of the domain area, with EN 0. -/
  | domainDisable (f : Fin 1024) (j : Fin 256) (w : BitVec 32)
  /-- MATCH_LIST_ECC_ERROR (R326): the domain. -/
  | matchListEccError (d : Fin 4096)
  /-- MATCH_CNT_CLR (R342): MT_CTL.CNT_CLR written with 1. -/
  | matchCntClr (r : Route)
  /-- CREATE (R348): OUT_CMD written with OP CREATE and GO; the slot is OUT_CMD_SLOT. -/
  | outingCreate (r : Route)
  /-- ABORT (R369): OUT_CMD written with OP ABORT and GO. -/
  | outingAbort (r : Route)
  /-- REBUILD (R370): OUT_CMD written with OP REBUILD and GO. -/
  | outingRebuild (r : Route)
  /-- DESTROY (R350): OUT_CMD written with OP DESTROY and GO. -/
  | outingDestroy (r : Route)
  /-- COLL_SOURCE_READ_DONE (R356): the Outing slot, the child slot of the member, the bytes that came from outside the pool (none when that read failed). -/
  | collSourceReadDone (o : Fin 256) (k : Fin 64) (data : Option (List Byte))
  /-- COLL_UP_RECEIVE (R359). -/
  | collUpReceive
  /-- COLL_DOWN_RECEIVE (R357). -/
  | collDownReceive
  /-- SEGMENT_COMBINE (R356): the Outing slot. -/
  | segmentCombine (o : Fin 256)
  /-- COLL_RESULT_DELIVERED (R361). -/
  | collResultDelivered
  /-- COLL_RTO_EXPIRE (R368): the Outing slot. -/
  | collRtoExpire (o : Fin 256)
  /-- BASKET_ECC_ERROR (R374): the Outing slot that holds the unit; whether ECC corrected the error. -/
  | basketEccError (o : Fin 256) (corrected : Bool)
  /-- COLL_CNT_CLR (R374): CL_CTL.CNT_CLR written with 1. -/
  | collCntClr (r : Route)
  /-- KEY_WRITE (R379): KEY_CMD written with OP KEY_WRITE and GO in the queue BAR of f. -/
  | keyWrite (f : Fin 1024)
  /-- KEY_FREE (R379): KEY_CMD written with OP KEY_FREE and GO. -/
  | keyFree (f : Fin 1024)
  /-- KEY_QUERY (R404): KEY_CMD written with OP KEY_QUERY and GO. -/
  | keyQuery (f : Fin 1024)
  /-- KEY_CMD_DONE (R379): the function whose command ends. -/
  | keyCmdDone (f : Fin 1024)
  /-- KEY_CFG_EN_WRITE (R380): KEY_CFG written with EN. -/
  | keyCfgEnWrite (r : Route) (en : Bool)
  /-- KEY_FETCH_DONE (R380): the key index whose entry returns. -/
  | keyFetchDone (i : Fin 1048576)
  /-- WALK_ENTRY_READ_DONE (R389): the function and the address walked for; the entry when it lies in host memory, or none when that read failed. -/
  | walkEntryReadDone (f : Fin 1024) (a : BitVec 64) (data : WalkRead)
  /-- INVALIDATE_DONE (R399): the global queue of the INVALIDATE. -/
  | invalidateDone (g : Fin 65536)
  /-- XLATE_CNT_CLR (R400): XL_CTL.CNT_CLR written with 1. -/
  | xlateCntClr (r : Route)
  /-- FLOG_CLR (R400): XL_CTL.FLOG_CLR written with 1. -/
  | flogClr (r : Route)
  /-- ATTACH_LINK_UP (R408): the attachment, its trained rate and width, whether CXL was negotiated, whether it presents a switch upstream port. -/
  | attachLinkUp (a : Fin 64) (rate : BitVec 3) (width : BitVec 5) (cxl : Bool) (isSwitch : Bool)
  /-- ATTACH_DOWN (R419): the upstream attachment. -/
  | attachDown (a : Fin 64)
  /-- DOWNSTREAM_LINK_DOWN (R418): the downstream attachment. -/
  | downstreamLinkDown (a : Fin 64)
  /-- HOST_CONFIG_REQUEST (R413): the upstream attachment and the request. -/
  | hostConfigRequest (a : Fin 64) (q : CfgReq)
  /-- HOST_READY (R413). -/
  | hostReady
  /-- DPC_TRIGGER_CLEAR (R418): the contained attachment. -/
  | dpcTriggerClear (a : Fin 64)
  /-- DPC_RELEASE (R418): ATT_CTL.DPC_RELEASE written with 1. -/
  | dpcRelease (r : Route) (a : Fin 64)
  /-- ATTACH_CNT_CLR (R436): ATT_CTL.CNT_CLR written with 1. -/
  | attachCntClr (r : Route) (a : Fin 64)
  /-- IDENTIFY_SWITCH_DEVICE (R409). -/
  | identifySwitchDevice
  /-- GET_PHYSICAL_PORT_STATE (R409): the attachments asked for. -/
  | getPhysicalPortState (ports : List (Fin 64))
  /-- PHYSICAL_PORT_CONTROL (R409): the attachment and the operation. -/
  | physicalPortControl (a : Fin 64) (op : PortControl)
  /-- SEND_PPB_CONFIG_REQUEST (R409): the attachment, the register, and the value of a write. -/
  | sendPpbConfigRequest (a : Fin 64) (reg : BitVec 12) (write : Option (BitVec 32))
  /-- GET_VIRTUAL_CXL_SWITCH_INFO (R409): the virtual CXL switch. -/
  | getVirtualCxlSwitchInfo (u : Fin 64)
  /-- BIND_VPPB (R411): the switch, the vPPB and the attachment. -/
  | bindVppb (u : Fin 64) (v : Fin 18) (a : Fin 64)
  /-- UNBIND_VPPB (R411): the switch, the vPPB and the option. -/
  | unbindVppb (u : Fin 64) (v : Fin 18) (option : Fin 3)
  /-- UNBIND_COMPLETE (R411): the attachment being unbound. -/
  | unbindComplete (a : Fin 64)
  /-- GENERATE_AER_EVENT (R409): the switch, the vPPB and the error. -/
  | generateAerEvent (u : Fin 64) (v : Fin 18) (error : BitVec 32)
  /-- BACKGROUND_OPERATION_STATUS (R559). -/
  | backgroundOperationStatus
  /-- INITIATE_DYNAMIC_CAPACITY_ADD (R446): the host, the extent and the tag. -/
  | initiateDynamicCapacityAdd (u : Fin 64) (e : Fin 131072) (tag : BitVec 128)
  /-- FORCED_DC_REMOVAL (R448): the host and the extent. -/
  | forcedDcRemoval (u : Fin 64) (e : Fin 131072)
  /-- ADD_DC_RESPONSE (R447): the host, the extent and its answer. -/
  | addDcResponse (u : Fin 64) (e : Fin 131072) (accept : Bool)
  /-- DC_RESP_TIMEOUT (R447): the host and the extent offered to it. -/
  | dcRespTimeout (u : Fin 64) (e : Fin 131072)
  /-- DC_RELEASE_RESPONSE (R448): the host and the extent. -/
  | dcReleaseResponse (u : Fin 64) (e : Fin 131072)
  /-- HOST_MEM_REQUEST (R472): the host's attachment, the line (DPA / 64) and the request. -/
  | hostMemRequest (u : Fin 64) (line : BitVec 46) (q : HostMem)
  /-- FAR_WINDOW_READ (R423): the attachment, the BAR4 offset, the length in bytes and the host's request number. -/
  | farWindowRead (a : Fin 64) (off : BitVec 44) (n : BitVec 13) (req : BitVec 16)
  /-- FAR_WINDOW_WRITE (R422): the attachment, the BAR4 offset and the bytes. -/
  | farWindowWrite (a : Fin 64) (off : BitVec 44) (bytes : List Byte)
  /-- FAR_READ_COMPLETE (R423): the attachment and the host's request number. -/
  | farReadComplete (a : Fin 64) (req : BitVec 16)
  /-- FAR_READ_TIMEOUT (R423): the attachment and the host's request number. -/
  | farReadTimeout (a : Fin 64) (req : BitVec 16)
  /-- FAR_WIN_VALID_WRITE (R420): the attachment, the window and the word written at 0x00 of its entry. -/
  | farWinValidWrite (r : Route) (a : Fin 64) (w : Fin 16) (x : BitVec 32)
  /-- DOWNSTREAM_MESSAGE (R427): the downstream attachment and the message. -/
  | downstreamMessage (a : Fin 64) (m : DownMsg)
  /-- OWNED_DEVICE_REQUEST (R428): the owned attachment, the device address and the request. -/
  | ownedDeviceRequest (a : Fin 64) (da : BitVec 52) (q : DevReq)
  /-- CLAIM_VALID_WRITE (R429): the attachment, the claim entry, the word written at 0xC of it, and whether the range lies within the expander's capacity. -/
  | claimValidWrite (r : Route) (a : Fin 64) (k : Fin 8) (x : BitVec 32) (fits : Bool)
  /-- TUNNEL_RECEIVE (R432): the core port whose oldest packet it is; the ring entry's bytes when the ring lies in host memory, or none when the read failed. -/
  | tunnelReceive (p : Fin 128) (frag : Option (List Byte))
  /-- TRQ_DOORBELL (R433): the function and the value written to TRQ_PI. -/
  | trqDoorbell (f : Fin 1024) (v : BitVec 32)
  /-- ASSIGN (R448): EXT_CMD written with OP ASSIGN and GO. -/
  | assign (r : Route)
  /-- RELEASE (R448): EXT_CMD written with OP RELEASE and GO. -/
  | release (r : Route)
  /-- PAIR (R451): EXT_CMD written with OP PAIR and GO. -/
  | pair (r : Route)
  /-- UNPAIR (R451): EXT_CMD written with OP UNPAIR and GO. -/
  | unpair (r : Route)
  /-- EXTENT_QUERY (R459): EXT_CMD written with OP QUERY and GO. -/
  | extentQuery (r : Route)
  /-- RELEASE_DRAINED (R448): the extent. -/
  | releaseDrained (e : Fin 131072)
  /-- SANITIZE_DONE (R449): the extent. -/
  | sanitizeDone (e : Fin 131072)
  /-- PAIR_COPY_DONE (R451): the primary. -/
  | pairCopyDone (e : Fin 1152)
  /-- POOL_INIT_DONE (R450). -/
  | poolInitDone
  /-- HBM_PHY_LOCK_LOSS (R452): the stack. -/
  | hbmPhyLockLoss (st : Fin 6)
  /-- HBM_CMD_TIMEOUT (R452): the stack. -/
  | hbmCmdTimeout (st : Fin 6)
  /-- HBM_UNCORR_ERROR (R453): the line read (DA / 64); whether the other copy, where there is one, is good. -/
  | hbmUncorrError (line : BitVec 46) (otherGood : Bool)
  /-- STACK_OFFLINE (R452): STACK_CTL.OFFLINE of the stack written with 1. -/
  | stackOffline (r : Route) (st : Fin 6)
  /-- SCRUB_READ (R454): what the read of the next line finds. -/
  | scrubRead (x : ScrubRead)
  /-- POOL_CNT_CLR (R458): POOL_CTL.CNT_CLR written with 1. -/
  | poolCntClr (r : Route)
  /-- ELOG_CLR (R458): POOL_CTL.ELOG_CLR written with 1. -/
  | elogClr (r : Route)
  /-- RDSHARED (R476): the slice, whose next request is a RdShared. -/
  | rdShared (i : Fin 48)
  /-- RDOWN (R476): the slice, whose next request is a RdOwn. -/
  | rdOwn (i : Fin 48)
  /-- RDNOALLOC (R476): the slice, whose next request is a RdNoAlloc. -/
  | rdNoAlloc (i : Fin 48)
  /-- WRNOALLOC (R493): the slice, whose next request is a WrNoAlloc. -/
  | wrNoAlloc (i : Fin 48)
  /-- WBMOD (R478): the slice, whose oldest writeback is a WbMod. -/
  | wbMod (i : Fin 48)
  /-- WBCLEAN (R478): the slice, whose oldest writeback is a WbClean. -/
  | wbClean (i : Fin 48)
  /-- EVICT (R476): the slice, whose oldest writeback is an Evict. -/
  | evict (i : Fin 48)
  /-- HOME_SNOOP_RESPONSE (R476): the agent that answers and the line (DA / 64); a host's answer, which an on-die agent's own message replaces. -/
  | homeSnoopResponse (a : Fin 80) (line : BitVec 46) (h : HostAns)
  /-- HOME_ACK (R479): the requester and the line. -/
  | homeAck (a : Fin 80) (line : BitVec 46)
  /-- SNOOP_TIMEOUT (R480): the agent whose response has not come. -/
  | snoopTimeout (a : Fin 80)
  /-- AGENT_SNOOP (R477): the agent and the line of its oldest snoop. -/
  | agentSnoop (a : Fin 80) (line : BitVec 46)
  /-- AGENT_GRANT (R479): the agent and the line. -/
  | agentGrant (a : Fin 80) (line : BitVec 46)
  /-- AGENT_CMP (R485): the agent and the line. -/
  | agentCmp (a : Fin 80) (line : BitVec 46)
  /-- AGENT_LOAD (R485): the agent and the line. -/
  | agentLoad (a : Fin 80) (line : BitVec 46)
  /-- AGENT_STORE (R485): the agent, the line, the first byte and the bytes stored. -/
  | agentStore (a : Fin 80) (line : BitVec 46) (off : Fin 64) (bytes : List Byte)
  /-- AGENT_REPLACE (R485): the agent and the line. -/
  | agentReplace (a : Fin 80) (line : BitVec 46)
  /-- AGENT_DATA (R485): the agent and the line. -/
  | agentData (a : Fin 80) (line : BitVec 46)
  /-- AGENT_INVACK (R485): the agent and the line. -/
  | agentInvack (a : Fin 80) (line : BitVec 46)
  /-- AGENT_GNTM (R485): the agent and the line. -/
  | agentGntm (a : Fin 80) (line : BitVec 46)
  /-- AGENT_SNPDRAIN (R487): the agent and the slice. -/
  | agentSnpdrain (a : Fin 80) (i : Fin 48)
  /-- RSPDRAIN (R487): the agent and the slice. -/
  | rspdrain (a : Fin 80) (i : Fin 48)
  /-- ENTER_CAREFUL (R483): SLICE_CTL.ENTER_CAREFUL of the slice written with 1. -/
  | enterCareful (r : Route) (i : Fin 48)
  /-- CAREFUL_ENTERED (R483): the slice. -/
  | carefulEntered (i : Fin 48)
  /-- LEAVE_CAREFUL (R487): SLICE_CTL.LEAVE_CAREFUL of the slice written with 1. -/
  | leaveCareful (r : Route) (i : Fin 48)
  /-- AGENT_KILL (R489): AGENT_KILL.GO written with 1. -/
  | agentKill (r : Route)
  /-- RECLAIM_SCAN_DONE (R490): the slice. -/
  | reclaimScanDone (i : Fin 48)
  /-- BCT_RUN (R488): BCT_CTL.RUN written with 1. -/
  | bctRun (r : Route)
  /-- BCT_DONE (R488): whether the test passed, and the first slice that failed. -/
  | bctDone (ok : Bool) (i : Fin 48)
  /-- SF_ECC_ERROR (R471): the line whose entry holds the error, and whether ECC corrects it. -/
  | sfEccError (line : SfUpset)
  /-- SLICE_CNT_CLR (R501): SLICE_CTL.CNT_CLR of the slice written with 1. -/
  | sliceCntClr (r : Route) (i : Fin 48)
  /-- METER_REFILL (R504): the meter whose refill instant comes. -/
  | meterRefill (m : Fin 16384)
  /-- SHAPER_REFILL (R504): the shaper whose refill instant comes. -/
  | shaperRefill (x : ShaperId)
  /-- METER_CNT_CLR (R515): the bank whose MTR_CTL.CNT_CLR is written with 1. -/
  | meterCntClr (r : Route) (b : BankId)
  /-- SWEEP_TICK (R526). -/
  | sweepTick
  /-- DUMP_WRITTEN (R531): whether a write of the dump fails. -/
  | dumpWritten (fault : Bool)
  /-- COUNTER_SEL_WRITE (R523): a word of a counter bank's selections, masters or address ranges. -/
  | counterSelWrite (r : Route) (w : BusWrite)
  /-- GZ_CI_WRITE (R528): the value written to GZ_CI. -/
  | gzCiWrite (r : Route) (x : BitVec 32)
  /-- GZ_EN_WRITE (R540): the word written to GZ_CFG. -/
  | gzEnWrite (r : Route) (x : BitVec 32)
  /-- GZ_CNT_CLR (R539): GZ_CTL.CNT_CLR written with 1. -/
  | gzCntClr (r : Route)
  /-- TRAIL_EN_WRITE (R535): the word written to TR_CFG. -/
  | trailEnWrite (r : Route) (x : BitVec 32)
  /-- TRAIL_ITEM_END (R536): the oldest ended item. -/
  | trailItemEnd
  /-- TRAIL_RECORD_MOVE (R538): whether the write of the record fails. -/
  | trailRecordMove (fault : Bool)
  /-- MGMT_FRAME_RECEIVE (R545): the port (0 A, 1 B) and the frame. -/
  | mgmtFrameReceive (p : Fin 2) (f : MgmtFrame)
  /-- HELLO_TIMER (R546). -/
  | helloTimer
  /-- HELLO_TIMEOUT (R546): the port. -/
  | helloTimeout (p : Fin 2)
  /-- MGMT_LINK_CHANGE (R546): the port and the new ME_STATE.LINK. -/
  | mgmtLinkChange (p : Fin 2) (st : BitVec 2)
  /-- BYPASS_CLOSE (R543). -/
  | bypassClose
  /-- BYPASS_OPEN (R543). -/
  | bypassOpen
  /-- GET_VERSION (R550): the port of arrival and the requester. -/
  | getVersion (p : Fin 2) (mac : BitVec 48)
  /-- GET_CAPABILITIES (R550): the port of arrival and the requester. -/
  | getCapabilities (p : Fin 2) (mac : BitVec 48)
  /-- NEGOTIATE_ALGORITHMS (R550): whether the requester offers what R550 lists. -/
  | negotiateAlgorithms (p : Fin 2) (mac : BitVec 48) (offers : Bool)
  /-- GET_DIGESTS (R550): the port of arrival and the requester. -/
  | getDigests (p : Fin 2) (mac : BitVec 48)
  /-- GET_CERTIFICATE (R550): the slot, offset and length asked for. -/
  | getCertificate (p : Fin 2) (mac : BitVec 48) (slot : BitVec 4) (off : BitVec 16) (n : BitVec 16)
  /-- CHALLENGE (R550): the slot. -/
  | challenge (p : Fin 2) (mac : BitVec 48) (slot : BitVec 4)
  /-- GET_MEASUREMENTS (R553): the measurement index, 0xFF for all. -/
  | getMeasurements (p : Fin 2) (mac : BitVec 48) (index : BitVec 8)
  /-- KEY_EXCHANGE (R551): the session ID. -/
  | keyExchange (p : Fin 2) (mac : BitVec 48) (session : BitVec 32)
  /-- FINISH (R551): whether the requester's verify data pass. -/
  | finish (session : BitVec 32) (good : Bool)
  /-- HEARTBEAT (R552): the session. -/
  | heartbeat (session : BitVec 32)
  /-- KEY_UPDATE (R549): the session. -/
  | keyUpdate (session : BitVec 32)
  /-- END_SESSION (R552): the session. -/
  | endSession (session : BitVec 32)
  /-- SESSION_TIMEOUT (R552): the session. -/
  | sessionTimeout (session : BitVec 32)
  /-- DRISIUL_REQUEST (R556): the request. -/
  | drisiulRequest (q : DrsReq)
  /-- REG_READ (R557). -/
  | regRead
  /-- REG_WRITE (R557). -/
  | regWrite
  /-- REG_RMW (R557). -/
  | regRmw
  /-- POLL (R557). -/
  | poll
  /-- POLL_END (R557): whether TMO_US has run out. -/
  | pollEnd (timeout : Bool)
  /-- COMMIT (R557). -/
  | commit
  /-- COMMIT_WAIT_END (R557): whether TMO_US has run out. -/
  | commitWaitEnd (timeout : Bool)
  /-- ATLAS_LOAD (R558). -/
  | atlasLoad
  /-- ATLAS_READ (R557). -/
  | atlasRead
  /-- STREAM (R562). -/
  | stream
  /-- FMAPI (R559). -/
  | fmapi
  /-- STORE_OPEN (R560): whether the write to Flask fails. -/
  | storeOpen (fault : Bool)
  /-- STORE_DATA (R560): whether the write to Flask fails. -/
  | storeData (fault : Bool)
  /-- STORE_CLOSE (R560): whether the signature of a firmware image verifies; whether the write to Flask fails. -/
  | storeClose (sig : Bool) (fault : Bool)
  /-- CFG_SAVE (R560): whether the write to Flask fails. -/
  | cfgSave (fault : Bool)
  /-- STORE_ABORT (R557). -/
  | storeAbort
  /-- STREAM_RECORD_SEND (R563): the stream, how many of its next records leave, how many after them do not fit its rate. -/
  | streamRecordSend (st : Fin 4) (fit : Nat) (drop : Nat)
  /-- PTP_EVENT_MESSAGE (R566): the port of arrival, the domain, the residence time in ns, and the offset in ps that the slave derives from it. -/
  | ptpEventMessage (p : Fin 2) (domain : BitVec 8) (residence : BitVec 32) (offset : Option (BitVec 64))
  /-- TB_OFFSET_SAMPLE (R565). -/
  | tbOffsetSample
  /-- TB_HOLDOVER (R565). -/
  | tbHoldover
  /-- TIME_PPS_IN_EDGE (R564). -/
  | timePpsInEdge
  /-- TIME_PPS_OUT_EDGE (R567): whether the pin rises. -/
  | timePpsOutEdge (rise : Bool)
  /-- LOCKSTEP_MISMATCH (R568). -/
  | lockstepMismatch
  /-- MP_WATCHDOG_EXPIRE (R568). -/
  | mpWatchdogExpire
  /-- MP_MEMORY_ERROR (R568). -/
  | mpMemoryError
  /-- MP_RESTART (R568): MP_CTL.RESTART written with 1. -/
  | mpRestart (r : Route)
  /-- MP_RESTART_DONE (R568): whether the firmware bank verifies again. -/
  | mpRestartDone (good : Bool)
  /-- MGMT_ETH_CNT_CLR (R570): ME_CTL.CNT_CLR of the unit written with 1. -/
  | mgmtEthCntClr (r : Route) (k : Fin 2)
  /-- MP_CNT_CLR (R571): MP_CTL.CNT_CLR written with 1. -/
  | mpCntClr (r : Route)
  /-- V3P3_AUX_RISE (R24). -/
  | v3p3AuxRise
  /-- V3P3_AUX_LOSS (R589). -/
  | v3p3AuxLoss
  /-- PWR_GOOD_RISE (R585). -/
  | pwrGoodRise
  /-- PWR_GOOD_FALL (R589). -/
  | pwrGoodFall
  /-- RESET_N_ASSERT (R589): held low for at least 1 us. -/
  | resetNAssert
  /-- RESET_N_RELEASE (R585). -/
  | resetNRelease
  /-- TEST_EN_ASSERT (R616). -/
  | testEnAssert
  /-- RAIL_PG_RISE (R620): the rail group. -/
  | railPgRise (g : Fin 4)
  /-- RAIL_PG_TIMEOUT (R621): the rail group. -/
  | railPgTimeout (g : Fin 4)
  /-- RAIL_PG_FALL (R621): the rail group. -/
  | railPgFall (g : Fin 4)
  /-- BOOT_FIRMWARE_SELECT (R581): what the signature checks found. -/
  | bootFirmwareSelect (c : BootChecks)
  /-- CONFIG_IMAGE_APPLY (R579). -/
  | configImageApply
  /-- STACK_IN_SERVICE (R585): the stack. -/
  | stackInService (st : Fin 6)
  /-- FABRIC_READY (R586). -/
  | fabricReady
  /-- FW_CONFIRM (R583): FW_CTL.CONFIRM written with 1, and what the validity test of R575 finds. -/
  | fwConfirm (r : Route) (c : BootChecks)
  /-- STALL_WATCHDOG_FIRE (R597): the unit, the stage number, and the core port of the held request or 0xFFFF. -/
  | stallWatchdogFire (u : UnitId) (stage : BitVec 16) (held : BitVec 16)
  /-- WATCHDOG_TEST (R598): the stage tested and whether its watchdog fired. -/
  | watchdogTest (u : UnitId) (stage : BitVec 16) (fired : Bool)
  /-- CONFIG_SCRUB_TICK (R600): the unit scrubbed and what the comparison found. -/
  | configScrubTick (u : UnitId) (res : ScrubResult)
  /-- CLOCK_LOSS (R602): the clock lost. -/
  | clockLoss (c : ClockId)
  /-- CLR_ALL (R606): ERR_CTL.CLR_ALL written with 1. -/
  | clrAll (r : Route)
  /-- CLR_UNIT (R606): ERR_CTL.CLR_UNIT written with 1. -/
  | clrUnit (r : Route)
  /-- LOG_CLR (R612): ERR_CTL.LOG_CLR written with 1. -/
  | logClr (r : Route)
  /-- ERR_CNT_CLR (R612): ERR_CTL.CNT_CLR written with 1. -/
  | errCntClr (r : Route)
  /-- THERMAL_SENSOR_READ (R631): the thirty-two sensors. -/
  | thermalSensorRead (t : SensorReadings)
  /-- TJ_PEAK_CLR (R633): HK_CTL.TJ_PEAK_CLR written with 1. -/
  | tjPeakClr (r : Route)
  /-- CTX_WRITEBACK_DONE (R237): the channel. -/
  | ctxWritebackDone (ch : Fin 1048576)
  /-- WRNOALLOC_CMP (R251): the cluster that receives its oldest Cmp. -/
  | wrnoallocCmp (c : Fin 4)
  /-- ISLAND_LOCK (R564): the clocked islands lock. -/
  | islandLock
  /-- CLOCK_RESTORED (R602): the clock present again. -/
  | clockRestored (c : ClockId)
  /-- TEST_EN_RELEASE (R616). -/
  | testEnRelease
  /-- DELIVER_ENCAPSULATED_RESPONSE (R551): the session and what is delivered. -/
  | deliverEncapsulatedResponse (session : BitVec 32) (x : EncapResp)
  /-- BOUND_DEVICE_REQUEST (R418): the bound attachment and the request. -/
  | boundDeviceRequest (a : Fin 64) (q : HostDevReq)
  /-- DOWNSTREAM_DEVICE_REQUEST (R427): the bound attachment, where the host's decoders send it, and the request. -/
  | downstreamDeviceRequest (a : Fin 64) (d : DevDest) (q : DevReq)
  deriving DecidableEq, Repr

end Sys2Proof
end

