-- ==== Sys2Proof/Machine/Maps.lean ====
section
/-!
DEFINITION. Finite maps from numbers: look up, put, delete. Every sparse piece of state is held in one of these.
-/
namespace Sys2Proof.Machine

/-- The value at key `k`, if there is one. -/
def look {α : Type} : AMap α → Nat → Option α
  | [], _ => none
  | (k', v) :: m, k => if k = k' then some v else look m k

/-- The map with key `k` holding `v`; keys stay strictly rising. -/
def put {α : Type} : AMap α → Nat → α → AMap α
  | [], k, v => [(k, v)]
  | (k', v') :: m, k, v =>
    if k < k' then (k, v) :: (k', v') :: m
    else if k = k' then (k, v) :: m
    else (k', v') :: put m k v

/-- The map without key `k`. -/
def del {α : Type} : AMap α → Nat → AMap α
  | [], _ => []
  | (k', v') :: m, k => if k = k' then del m k else (k', v') :: del m k

/-- The value at key `k`, or `d`. -/
def lookD {α : Type} (m : AMap α) (k : Nat) (d : α) : α := (look m k).getD d

/-- The map with the value at `k` (or `d`) changed by `f`. -/
def upd {α : Type} (m : AMap α) (k : Nat) (d : α) (f : α → α) : AMap α := put m k (f (lookD m k d))

/-- The map with the keys that `p` does not name. -/
def dropKeys {α : Type} (m : AMap α) (p : Nat → Bool) : AMap α := m.filter (fun kv => !p kv.1)

/-- Some entry of the map satisfies `p`. -/
def anyEntry {α : Type} (m : AMap α) (p : Nat → α → Bool) : Bool := m.any (fun kv => p kv.1 kv.2)

/-- The keys whose entries satisfy `p`, in rising order. -/
def keysWhere {α : Type} (m : AMap α) (p : Nat → α → Bool) : List Nat :=
  (m.filter (fun kv => p kv.1 kv.2)).map Prod.fst

/-- Bit `i` of a number. -/
def bitOf (n i : Nat) : Bool := n / 2 ^ i % 2 == 1

/-- A truth value as a one-bit number. -/
def b2n (b : Bool) : Nat := if b then 1 else 0

/-- `n` with bit `i` set. -/
def setBit (n i : Nat) : Nat := if bitOf n i then n else n + 2 ^ i

/-- `n` with bit `i` clear. -/
def clrBit (n i : Nat) : Nat := if bitOf n i then n - 2 ^ i else n

/-- Bits `hi` to `lo` of a number. -/
def bits (n hi lo : Nat) : Nat := n / 2 ^ lo % 2 ^ (hi + 1 - lo)

/-- A list of set members: `x` added once. -/
def addOnce {α : Type} [DecidableEq α] (l : List α) (x : α) : List α := if l.contains x then l else l ++ [x]

end Sys2Proof.Machine
end

