-- ==== Sys2Proof/Machine/Arith.lean ====
section
/-!
DEFINITION. The collective engine's arithmetic (R362 to R366): IEEE 754 numbers of the six float types, rounding to nearest
with ties to even, sums, minimum and maximum, and the exact window.
-/
namespace Sys2Proof.Machine

/-! ### Data types (R106, R354) -/

/-- DTYPE codes. -/
def dtInt32 : Nat := 0
def dtInt64 : Nat := 1
def dtUint32 : Nat := 2
def dtUint64 : Nat := 3

/-- Width of a DTYPE in bytes. -/
def dtWidth (d : Nat) : Nat :=
  if d = 0 ∨ d = 2 ∨ d = 5 then 4 else if d = 1 ∨ d = 3 ∨ d = 4 then 8 else if d = 6 ∨ d = 7 then 2 else 1

/-- The DTYPE is a float type. -/
def dtFloat (d : Nat) : Bool := 4 ≤ d && d ≤ 9

/-- A float format: mantissa bits, exponent bias, the exponent field's largest value, and whether it is E4M3, which has no
infinity. -/
structure FloatFmt where
  mant : Nat
  bias : Nat
  top : Nat
  e4m3 : Bool
  deriving DecidableEq, Repr

/-- The format of a float DTYPE. -/
def fmtOf (d : Nat) : FloatFmt :=
  if d = 4 then { mant := 52, bias := 1023, top := 2047, e4m3 := false }
  else if d = 5 then { mant := 23, bias := 127, top := 255, e4m3 := false }
  else if d = 6 then { mant := 10, bias := 15, top := 31, e4m3 := false }
  else if d = 7 then { mant := 7, bias := 127, top := 255, e4m3 := false }
  else if d = 8 then { mant := 3, bias := 7, top := 15, e4m3 := true }
  else { mant := 2, bias := 15, top := 31, e4m3 := false }

/-- A float's value: NaN, an infinity, or (−1)^s m 2^k. -/
inductive FVal | nan | inf (s : Bool) | num (s : Bool) (m : Nat) (k : Int)
  deriving DecidableEq, Repr

/-- The sign bit's weight. -/
def FloatFmt.signBit (f : FloatFmt) : Nat := (f.top + 1) * 2 ^ f.mant

/-- The value of a bit pattern. -/
def FloatFmt.decode (f : FloatFmt) (x : Nat) : FVal :=
  let s := x / f.signBit % 2 == 1
  let e := x / 2 ^ f.mant % (f.top + 1)
  let m := x % 2 ^ f.mant
  if f.e4m3 && e == f.top && m == 2 ^ f.mant - 1 then .nan
  else if !f.e4m3 && e == f.top then (if m = 0 then .inf s else .nan)
  else if e = 0 then .num s m (1 - (f.bias : Int) - (f.mant : Int))
  else .num s (m + 2 ^ f.mant) ((e : Int) - (f.bias : Int) - (f.mant : Int))

/-- The canonical quiet NaN (R362): sign 0, the mantissa's top bit set; E4M3's one NaN pattern. -/
def FloatFmt.qnan (f : FloatFmt) : Nat :=
  if f.e4m3 then f.signBit - 1 else f.top * 2 ^ f.mant + 2 ^ (f.mant - 1)

/-- Infinity. -/
def FloatFmt.infinity (f : FloatFmt) (s : Bool) : Nat := b2n s * f.signBit + f.top * 2 ^ f.mant

/-- m × 2^k rounded to an integer, to nearest with ties to even. -/
def roundEven (m : Nat) (k : Int) : Nat :=
  if 0 ≤ k then m * 2 ^ k.toNat
  else
    let d := 2 ^ (-k).toNat
    let q := m / d
    let r := m % d
    if d < 2 * r || (2 * r == d && q % 2 == 1) then q + 1 else q

/-- The magnitude bits of m × 2^k rounded to the format, before any overflow: they exceed the largest finite pattern when
the value does. -/
def FloatFmt.magnitude (f : FloatFmt) (m : Nat) (k : Int) : Nat :=
  if m = 0 then 0
  else
    let low : Int := 1 - (f.bias : Int)
    let e := max (k + Nat.log2 m) low
    let q := roundEven m (k - (e - (f.mant : Int)))
    (e - low).toNat * 2 ^ f.mant + q

/-- The largest finite pattern. -/
def FloatFmt.largest (f : FloatFmt) : Nat := if f.e4m3 then f.signBit - 2 else f.top * 2 ^ f.mant - 1

/-- (−1)^s m 2^k in the format. Past the largest finite value: infinity, or for E4M3 NaN (`sat` false, R362) or the
largest value (`sat` true, R364). -/
def FloatFmt.encode (f : FloatFmt) (sat s : Bool) (m : Nat) (k : Int) : Nat :=
  let x := f.magnitude m k
  if x ≤ f.largest then b2n s * f.signBit + x
  else if !f.e4m3 then f.infinity s
  else if sat then b2n s * f.signBit + f.largest
  else f.qnan

/-- Sum of two patterns (R362). -/
def FloatFmt.add (f : FloatFmt) (a b : Nat) : Nat :=
  match f.decode a, f.decode b with
  | .nan, _ => f.qnan
  | _, .nan => f.qnan
  | .inf s, .inf t => if s = t then f.infinity s else f.qnan
  | .inf s, _ => f.infinity s
  | _, .inf t => f.infinity t
  | .num s m k, .num t n l =>
    let e := min k l
    let x : Int := (m * 2 ^ (k - e).toNat : Nat)
    let y : Int := (n * 2 ^ (l - e).toNat : Nat)
    let z := (if s then -x else x) + (if t then -y else y)
    if z = 0 then (if s && t then f.signBit else 0) else f.encode false (z < 0) z.natAbs e

/-- A pattern's place in the order of minimum and maximum, −0 below +0 (R362). -/
def FloatFmt.rank (f : FloatFmt) (x : Nat) : Int :=
  if x / f.signBit % 2 = 1 then -((x % f.signBit : Nat) : Int) - 1 else (x : Int)

/-- The pattern is a NaN. -/
def FloatFmt.isNan (f : FloatFmt) (x : Nat) : Bool := f.decode x == .nan

/-- Minimum or maximum of two patterns (R362). -/
def FloatFmt.pick (f : FloatFmt) (big : Bool) (a b : Nat) : Nat :=
  if f.isNan a || f.isNan b then f.qnan
  else if (if big then f.rank a < f.rank b else f.rank b < f.rank a) then b else a

/-- The pattern is NaN or infinite. -/
def FloatFmt.nonfinite (f : FloatFmt) (x : Nat) : Bool :=
  match f.decode x with | .num _ _ _ => false | _ => true

/-! ### Ordered mode (R362) -/

/-- A signed value of `w` bits. -/
def signedOf (x w : Nat) : Int := if x < 2 ^ (w - 1) then (x : Int) else (x : Int) - 2 ^ w

/-- One combination in ordered mode: FUNC 0 sum, 1 min, 2 max, 3 and, 4 or, 5 xor. -/
def combine (dtype func a b : Nat) : Nat :=
  let w := 8 * dtWidth dtype
  if func = 3 then a &&& b
  else if func = 4 then a ||| b
  else if func = 5 then a ^^^ b
  else if dtFloat dtype then
    let f := fmtOf dtype
    if func = 0 then f.add a b else f.pick (func == 2) a b
  else if func = 0 then (a + b) % 2 ^ w
  else
    let lt := if dtype ≤ 1 then signedOf a w < signedOf b w else a < b
    if func = 1 then (if lt then a else b) else (if lt then b else a)

/-! ### The exact window (R363, R364) -/

/-- An input converted to a window of `w` bits (R363): the element, with RFLAGS bits CLIPPED (1) and NONFINITE (2). -/
def toWindow (f : FloatFmt) (x : Nat) (e : Int) (w h : Nat) : Nat × Nat :=
  match f.decode x with
  | .num s m k =>
    let q := roundEven m (k - e)
    let lim := 2 ^ (w - 1 - h) - 1
    let c := Nat.min q lim
    ((if s then (2 ^ w - c) % 2 ^ w else c), b2n (lim < q))
  | _ => (0, 2)

/-- A window element converted to the DTYPE (R364): the pattern, and whether it is rounded. -/
def fromWindow (f : FloatFmt) (t w : Nat) (e : Int) : Nat × Bool :=
  let v := signedOf t w
  if v = 0 then (0, false)
  else
    let y := f.encode true (v < 0) v.natAbs e
    (y, match f.decode y with
      | .num _ m k =>
        let b := min k e
        m * 2 ^ (k - b).toNat != v.natAbs * 2 ^ (e - b).toNat
      | _ => true)

end Sys2Proof.Machine
end

