-- ==== Sys2Proof/Config.lean ====
section
/-!
DEFINITION. What one implementation fixes (fused values) and the values the specification leaves open.
Every constant here is opaque: no proof can see a value of it, and a theorem holds whatever it is.
-/
namespace Sys2Proof.Config

/-- A fresh open value of width `w`: the number is the counter `State.free` at the draw
(notes/assumptions/2.md lists where one is drawn). -/
opaque freeBits : (w : Nat) → Nat → BitVec w

/-- DEV_IDENT.MINOR, fused (R78). -/
opaque devMinorBits : BitVec 4
/-- DEV_SERIAL, fused: 64 bits, unique per device (R78). -/
opaque devSerial : BitVec 64
/-- SVN.MIN_SVN, fused (R594). -/
opaque minSvnBits : BitVec 7
/-- The SM3 digest of a byte string (R553). -/
opaque sm3 : List Byte → BitVec 256
/-- SM3 digests of the boot ROM, the factory area and its recovery image (R553, R582). -/
opaque bootRomDigest : BitVec 256
opaque factoryDigest : BitVec 256
opaque recoveryDigest : BitVec 256
/-- Voxeb's PCI vendor ID and the revision of the NIC (R412). -/
opaque pciVendor : BitVec 16
opaque nicRevision : BitVec 8
/-- The destination address of a HELLO, which the manual does not give (R546). -/
opaque helloMac : BitVec 48
/-- What an FM API response says of an attachment that the manual does not tell: the type of the device connected and the
modes it supports; HDM decoders of an upstream switch port (R409; notes/assumptions/56.md). -/
opaque fmDeviceType : Nat → BitVec 8
opaque fmModes : Nat → BitVec 8
opaque fmDecoders : BitVec 8
/-- SUB of an ECC record, its structure code, by unit window and structure; SUB of a CFG_SIGNATURE record, its table code, by unit
window and table; INFO of an ECC record of a flit buffer or a Basket, its index: R603 names these codes and lists none
(notes/assumptions/80.md). -/
opaque eccCode : Nat → Nat → BitVec 16
opaque tableCode : Nat → Nat → BitVec 16
opaque eccIndex : Nat → Nat → BitVec 64
/-- What reserved bits of a register word read as: software must not rely on it (R4). -/
opaque reservedRead : Nat → BitVec 32

/-- DEV_IDENT.MINOR as a number. -/
def devMinor : Nat := devMinorBits.toNat
/-- DEV_SERIAL_LO as a number. -/
def devSerialLo : Nat := devSerial.toNat % 2 ^ 32
/-- DEV_SERIAL_HI as a number. -/
def devSerialHi : Nat := devSerial.toNat / 2 ^ 32
/-- SVN.MIN_SVN as a number. -/
def fusedMinSvn : Nat := Nat.min minSvnBits.toNat 64

/-- The channel of a fabric port is an optical module, not a copper one (R110). -/
opaque optical : Nat → Bool

/-- The set of its home slice's snoop filter that a line falls in (R466); the manual does not state the mapping. -/
opaque sfSet : Nat → Nat

end Sys2Proof.Config
end

