-- ==== Sys2Proof/Machine/State.lean ====
section
/-!
DEFINITION. The state of the block as plain data: registers, engines, queues, pins, the pending commands and what the
block has emitted; the reasons a step can stop; and the state after reset.
-/
namespace Sys2Proof.Machine

/-- One event or error record as it goes to an event queue or the EVENTS stream (R302): CODE, SEQ, TIMESTAMP and the
four DETAIL words. -/
structure EvRecord where
  code : Nat
  seq : Nat
  time : Nat
  detail : List Nat
  deriving DecidableEq, Repr

/-- Events the manual raises by name without giving them a CODE (R15, R19, R134, R135). -/
inductive NamedEvent
  | avsFault | lineRateAtRisk | creditStall (n vc : Nat) | linkState (n : Nat) | degraded (n : Nat)
  deriving DecidableEq, Repr

/-- Pace measurement, AVSBus loop and power limiter of island 59 (R10 to R20). The guard's state is the register bit
DEV_STATUS.PACE_LOW: 1 is LOW, 0 is NORMAL. -/
structure PaceSt where
  /-- the last ten PACE_NOW values, newest first (R13) -/
  hist : List Nat
  /-- intervals in a row below the floor in force (R19) -/
  lowRun : Nat
  /-- intervals in a row at or above the floor plus 50 MHz (R19) -/
  highRun : Nat
  /-- line-rate-at-risk already raised since entering LOW (R19) -/
  atRisk : Bool
  /-- the floor in force; a written PACE_FLOOR joins it at the next interval (R19) -/
  floor : Nat
  /-- VCORE as commanded, in mV (R13, R14) -/
  vcore : Nat
  /-- the VCORE before an AVSBus voltage command not yet known to be acknowledged (R15) -/
  avsOut : Option Nat
  /-- unacknowledged transactions in a row (R15) -/
  nacks : Nat
  /-- the last ten power estimates in W, newest first (R16) -/
  power : List Nat
  /-- the last VCORE-rail reading in W and the pace at that reading (R18) -/
  railW : Nat
  railPace : Nat
  /-- the core die left power-on reset, so pace measurement and the loop run (R585 step 2) -/
  running : Bool
  deriving DecidableEq, Repr

/-- The mechanisms of the setup space that stand beside the registers themselves (R50 to R76). Keys of the value maps
are register-field keys (`Field.key`); keys of unit maps are window offsets. -/
structure SetupSt where
  /-- staged values of ST fields (R62) -/
  staged : AMap Nat
  /-- ST writes held while their group commits, in order (R67) -/
  held : List (Nat × Nat)
  /-- the pending far-posted write of an island: its field values, the offset written and the route (R69, R71) -/
  fp : AMap (List (Nat × Nat))
  fpAt : AMap Nat
  fpBy : AMap Route
  /-- write latch and read latch of the 64-bit registers, per route (R74): 0 management processor, 1 Drisiul, 2 BAR0 -/
  wlatch : AMap Nat
  rlatch : AMap Nat
  /-- commit group of each unit that differs from its default (R56) -/
  groups : AMap Nat
  /-- units of each busy commit group that have still to apply (R63) -/
  toApply : List UnitId
  /-- units of busy commit groups that have applied: their COMMIT_PENDING clears with the group's end (R63) -/
  applied : List UnitId
  /-- fenced units (R50), units in reset (R53), units whose fence waits for the end of their reset (R54) -/
  fenced : List UnitId
  inReset : List UnitId
  fencePend : List UnitId
  /-- when the unit reset of a unit began, by window offset (R53) -/
  resetAt : AMap Nat
  deriving DecidableEq, Repr

/-- A packet that a port's egress has begun (R116, R144): its flits so far, the route header it leaves with, whether its
TAIL flit has come from the switch core, how many flits are in blocks so far, and the blocks that carry them, oldest first.
`kept` is the route header with the HOPCNT and HOPLVL it had when it entered the device, `viaFabric` tells whether it
entered by a fabric port. -/
structure TxPkt where
  rh : RouteHdr
  flits : List (BitVec 512)
  whole : Bool
  vc : Nat
  sent : Nat
  seqs : List Nat
  kept : RouteHdr
  viaFabric : Bool
  deriving DecidableEq, Repr

/-- A salvaged packet: its flits, and its route header with the HOPCNT and HOPLVL it had on entry (R144). -/
structure SalvPkt where
  rh : RouteHdr
  flits : List (BitVec 512)
  viaFabric : Bool
  deriving DecidableEq, Repr

/-- What a port does once its eight LINK_DOWN blocks have left (R636): stays BROKEN, goes DOWN, or is reset. -/
inductive AfterDown | stayBroken | toDown (reason : Nat) | reset
  deriving DecidableEq, Repr

/-- A data block in the replay buffer, and whether it is acknowledged (R123). -/
structure ReplayEnt where
  seq : Nat
  blk : LinkBlock
  acked : Bool
  deriving DecidableEq, Repr

/-- Block lock of one block stream (R118): held, and how many blocks in a row have failed while it is held, or passed while
it is not. -/
structure BlkLock where
  held : Bool
  run : Nat
  deriving DecidableEq, Repr

/-- The link-layer state of one fabric port (R113 to R147, R636 to R638). Lists of sixteen hold one entry per VC. -/
structure PortSt where
  /-- next BLK_SEQ to assign (R121) and next expected (R122) -/
  nextSeq : Nat
  expect : Nat
  /-- the last ACK_SEQ received (R121) -/
  ackRx : Nat
  /-- data blocks held for replay, oldest first (R123), and those still to be sent again (R125) -/
  replay : List ReplayEnt
  resend : List (Nat × LinkBlock)
  /-- in sequence: no REPLAY_REQ is outstanding (R124); how many were sent for this `expect` (R126) -/
  inSeq : Bool
  reqCount : Nat
  /-- transmitter's credits per VC (R127) and cumulative credits applied (R131) -/
  credits : List Nat
  applied : List Nat
  /-- receiver's credits outstanding G, arrivals A of the last 256 ns and of the current 256 ns, flits held (R128) -/
  g : List Nat
  aLast : List Nat
  aNow : List Nat
  held : List Nat
  /-- flits in the buffer since before the link-layer state was last reset: their leaving returns no credit -/
  old : List Nat
  /-- credits to return per VC, the round-robin pointers of returns (R129) and of grants (R128), cumulative credits returned (R132) -/
  toReturn : List Nat
  retPtr : Nat
  grantPtr : Nat
  returned : List Nat
  /-- cumulative credits returned as of each of the last 512 data blocks sent, newest first (R132) -/
  history : List (Nat × List Nat)
  /-- AUD_VC of the next block (R131); when each VC's audit last passed (R133) -/
  audVc : Nat
  audAt : List Nat
  /-- whether each of the last eight blocks was a link control block, newest first (R117) -/
  recent : List Bool
  /-- link control messages that wait (R117) -/
  lcms : List (BitVec 512)
  /-- bring-up or training phase, 0 when none (R136); when it began -/
  phase : Nat
  phaseAt : Nat
  /-- own identity of the request outstanding or last used; a request is outstanding; its REASON (R120, R138) -/
  ident : Option (BitVec 64)
  reqOut : Bool
  reqReason : Nat
  /-- the identity, RX_GOOD, RX_EXPECT and VC_MIN the peer announced in this training -/
  peerId : BitVec 64
  peerGood : BitVec 4
  peerExpect : Nat
  peerVcMin : List Nat
  /-- own TRAIN_DONE sent, the peer's received, the width chosen (R141) -/
  doneSent : Bool
  doneRcvd : Bool
  newWidth : Nat
  /-- width code that the transmitter and the receiver have switched to; none: every lane framed as a one-lane link (R137,
  R141) -/
  txW : Option Nat
  rxW : Option Nat
  /-- block lock of the four lanes' own streams and of the joined stream (R118) -/
  lock : List BlkLock
  /-- RX_GOOD as announced in the last training, and the receive lanes in use since (R140) -/
  ownGood : Nat
  lanes : List Nat
  /-- receive minima, shared limit, WIDTH_MAX and RATE in force since the last bring-up (R148) -/
  vcMin : List Nat
  shareMax : Nat
  widthMax : Nat
  rate : Nat
  /-- entries to RETRAIN, newest first (R135) -/
  retrains : List Nat
  /-- AUTO suspended until BRINGUP is written; BRINGUP written (R135) -/
  autoSusp : Bool
  asked : Bool
  /-- LINK_DOWN blocks still to send, and what follows them (R636) -/
  ldLeft : Nat
  ldThen : AfterDown
  /-- salvaged packets not yet left, and when salvage completed (R144) -/
  salvage : List SalvPkt
  salvDone : Option Nat
  /-- when each lane out of use gained codeword lock (R142); when the last training ended -/
  lockAt : AMap Nat
  trainEnd : Nat
  /-- T1 of the exchange in progress; the exchange belongs to a bring-up (R146, R638) -/
  exch : Option LinkTime
  exchAt : Nat
  upWaits : Bool
  /-- flits in the receive buffer whose packet's head no input stage has taken yet, per VC, oldest first; true marks
  a TAIL flit (R156) -/
  rx : List (List (BitVec 512 × Bool))
  /-- packets the egress has begun and not yet had acknowledged in full (R144) -/
  tx : List TxPkt
  /-- the link has completed a bring-up since reset, or its first bring-up ended (R586) -/
  firstEnded : Bool
  /-- flits sent and received so far, for Contour maps (R218) -/
  txFlits : Nat
  rxFlits : Nat
  deriving DecidableEq, Repr

/-- Link-layer state of a port that has not come up: everything discarded (R135). -/
def PortSt.init : PortSt :=
  { nextSeq := 0, expect := 0, ackRx := 4095, replay := [], resend := [], inSeq := true, reqCount := 0,
    credits := List.replicate 16 0, applied := List.replicate 16 0, g := List.replicate 16 0,
    aLast := List.replicate 16 0, aNow := List.replicate 16 0, held := List.replicate 16 0, old := List.replicate 16 0,
    toReturn := List.replicate 16 0, retPtr := 0, grantPtr := 0, returned := List.replicate 16 0, history := [(4095, List.replicate 16 0)],
    audVc := 0, audAt := List.replicate 16 0, recent := [], lcms := [], phase := 0, phaseAt := 0,
    ident := none, reqOut := false, reqReason := 0, peerId := 0, peerGood := 0, peerExpect := 0,
    peerVcMin := List.replicate 16 0, doneSent := false, doneRcvd := false, newWidth := 0, txW := none, rxW := none,
    lock := List.replicate 5 { held := false, run := 0 }, ownGood := 0, lanes := [],
    vcMin := List.replicate 16 128, shareMax := 4096, widthMax := 0, rate := 0, retrains := [],
    autoSusp := false, asked := false, ldLeft := 0, ldThen := .stayBroken, salvage := [], salvDone := none,
    lockAt := [], trainEnd := 0, exch := none, exchAt := 0, upWaits := false, rx := List.replicate 16 [], tx := [], firstEnded := false,
    txFlits := 0, rxFlits := 0 }

/-- Where the current packet of an input virtual channel stands (R151 to R158): its head waits for a grant; it is being
stored before its head may ask (R152); it is granted; its flits go to the lossy pool; it is being discarded; it is being discarded
and is refused by a NAK once its tail has passed (R204). -/
inductive InPhase | waiting | storing | granted | pooled | dropped | refused
  deriving DecidableEq, Repr

/-- The current packet of one input core port and virtual channel (R153). -/
structure SwPkt where
  /-- the route header as it will leave, and as it arrived -/
  rh : RouteHdr
  inRh : RouteHdr
  /-- flits so far, the TAIL flit has arrived, the checks at the tail have been made (R96) -/
  flits : List (BitVec 512)
  whole : Bool
  checked : Bool
  /-- flits that have left the receive buffer -/
  left : Nat
  phase : InPhase
  /-- output core port and output virtual channel (R151) -/
  out : Nat
  outVc : Nat
  viaFabric : Bool
  salvaged : Bool
  since : Nat
  /-- stomped for this reason before it was granted: the egress port counts it as it begins (R95) -/
  stomp : Option Nat := none
  /-- since when it waits for credits at its output (CREDIT_WAIT_NS, R525) -/
  credSince : Option Nat := none
  deriving DecidableEq, Repr

/-- A packet in a lossy queue (R159): flits reserved, flits written, whether it has begun to leave. `src` is the input
virtual channel (`16 * port + vc`) that still writes it; `inPort` where it entered. A mirror copy carries its session, and
while it is being made its packet without payload (R172). `slow` marks a packet to be stored whole first (R152). -/
structure PoolPkt where
  rh : RouteHdr
  inRh : RouteHdr
  flits : List (BitVec 512)
  whole : Bool
  begun : Bool
  n : Nat
  src : Option Nat
  inPort : Nat
  viaFabric : Bool
  mirror : Option (Nat × Packet)
  session : Option Nat := none
  slow : Bool := false
  /-- it has waited for its shaper (SHAPED_CNT, R517); since when it waits for credits (R525) -/
  shaped : Bool := false
  credSince : Option Nat := none
  /-- the attachment that a multicast copy is for (R168) -/
  att : Option Nat
  deriving DecidableEq, Repr

/-- A packet on its way through an output to the unit behind a core port. -/
structure AsmPkt where
  rh : RouteHdr
  flits : List (BitVec 512)
  att : Option Nat
  deriving DecidableEq, Repr

/-- The switch core (R150 to R181). -/
structure SwitchSt where
  /-- current packet of input VC `16 * p + vc` -/
  cur : AMap SwPkt
  /-- lossy queue q = 3p + k, oldest first -/
  pool : AMap (List PoolPkt)
  /-- packets that the units behind core ports 96–127 hold for injection, oldest first (R157) -/
  inj : AMap (List Packet)
  /-- packets leaving by core ports 96–127, by `16 * port + class` -/
  asm : AMap AsmPkt
  /-- packets delivered to the unit behind a core port 96–127, oldest first -/
  inbox : AMap (List Packet)
  /-- the attachments that the multicast packets of an inbox are for, in their order (R168) -/
  mcTo : AMap (List Nat)
  /-- RED average of a queue in 1/256 bytes (R162); queues with an arrival in the present 1 us interval -/
  avg : AMap Nat
  redSeen : List Nat
  /-- the group (LL, L0, L1, L2) whose turn it is at an output, and the flits it has sent in it (R154) -/
  round : AMap (Nat × Nat)
  /-- input last granted for output VC `16 * o + vc` (R154) -/
  rr : AMap Nat
  /-- packets selected so far by each mirror session (R171) -/
  selected : AMap Nat
  /-- multicast table latch per route: entry and words held (R180) -/
  mcLatch : AMap (Nat × AMap Nat)
  deriving DecidableEq, Repr

/-- A packet held in the fence store (R214, R215): the channel that receives it and when it was held. -/
structure FenceHeld where
  channel : Nat
  pkt : Packet
  since : Nat
  deriving DecidableEq, Repr

/-- What a Contour period has gathered for one port (R218): sum and count of E(n) samples, the highest, and the counts
at the start of the period. -/
structure ContourPort where
  /-- sum of the E(n) samples and the highest, each exact as in `RouteSt.est` -/
  sum : Nat × Nat
  cnt : Nat
  max : Nat × Nat
  tx : Nat
  rx : Nat
  marks : Nat
  drops : Nat
  deriving DecidableEq, Repr

/-- A port at the first Contour period. -/
def ContourPort.init : ContourPort :=
  { sum := (0, 0), cnt := 0, max := (0, 0), tx := 0, rx := 0, marks := 0, drops := 0 }

/-- Routing state (R184 to R218). -/
structure RouteSt where
  /-- E(n) as numerator and binary exponent: the value is exact (R197) -/
  est : AMap (Nat × Nat)
  /-- ports whose estimate is being seeded, with the time they came up (R197) -/
  warmAt : AMap Nat
  /-- Atlas latch per route: entry offset and words held (R186) -/
  latch : AMap (Nat × AMap Nat)
  /-- the fence store, oldest first (R214) -/
  fence : List FenceHeld
  /-- Contour gathering per port, and records closed so far (R218) -/
  contour : AMap ContourPort
  contourSeq : Nat
  /-- Atlas and Waypoint entries whose stored word an upset has struck, by offset: true when ECC corrects it (R188) -/
  damaged : AMap Bool
  /-- packets marked under R166 by core port, and drops and push-outs by lossy queue, since reset (R218) -/
  marks : AMap Nat
  drops : AMap Nat
  deriving DecidableEq, Repr

/-- Owner of an extent (R443). -/
inductive Owner | free | host | shared | fabric | device | failed
  deriving DecidableEq, Repr

/-- XSTATE of an extent (R459). -/
inductive XState | settled | offered | releasing | sanitizing | copying
  deriving DecidableEq, Repr

/-- An extent (R443 to R459). `hosts` is HOST_MASK, `offers` the hosts that have been offered it, `tag` the tag of its first
Add (R446), `leaving` the hosts whose copies are being invalidated before their bit clears (R417, R448). -/
structure ExtSt where
  owner : Owner
  xstate : XState
  partition : Nat
  hosts : Nat
  mirrored : Bool
  isMirror : Bool
  onMirror : Bool
  mirror : Nat
  offers : List Nat
  tag : Option Nat
  leaving : List Nat
  deriving DecidableEq, Repr

/-- A FREE, settled extent. -/
def ExtSt.init : ExtSt :=
  { owner := .free, xstate := .settled, partition := 0, hosts := 0, mirrored := false, isMirror := false,
    onMirror := false, mirror := 0, offers := [], tag := none, leaving := [] }

/-- The pool (R440 to R461). -/
structure PoolSt where
  /-- pool bytes by device address; an unlisted byte is zero (R449, R450) -/
  mem : List Host.Cell
  /-- lines with the poison marker, and with DIR_SH (R442, R467), by line number DA / 64 -/
  poison : AMap Unit
  dirSh : AMap Unit
  /-- extents; an unlisted HBM extent is FREE and settled, an unlisted claimed one is not backed -/
  exts : AMap ExtSt
  /-- sanitizes of each stack, the one in progress first (R449) -/
  san : AMap (List Nat)
  /-- channel and time of uncorrectable errors of each stack (R452) -/
  errs : AMap (List (Nat × Nat))
  /-- the write of every line after a cold reset has ended (R450) -/
  ready : Bool
  /-- next line the scrubber reads (R454) -/
  scrub : Nat
  deriving DecidableEq, Repr

/-- Line states of a caching agent (R477, R485). -/
inductive LineState
  | i | sh | e | m | o | isD | isDI | imAD | smAD | imA | smA | omAC | omA | miA | oiA | siA | iiA
  deriving DecidableEq, Repr

/-- A local operation of an on-die caching agent: a load, or a store of bytes at an offset in the line. -/
inductive LineOp | load | store (off : Nat) (bytes : List Byte) | replace
  deriving DecidableEq, Repr

/-- A forwarded snoop that an agent defers (R485). -/
inductive Fwd | share (r : Nat) | own (r : Nat) (n : Nat)
  deriving DecidableEq, Repr

/-- A line in an on-die caching agent (R485): its data while it holds any, the acknowledgement count A, the deferred
snoops D, the operation it works on and those held. `wb` tells a pending WbMod from a WbClean. -/
structure CLine where
  st : LineState
  data : List Byte
  bad : Bool
  a : Int
  d : List Fwd
  op : Option LineOp
  held : List LineOp
  wb : Bool
  deriving DecidableEq, Repr

/-- An access tag: the translation and key an access in flight used (R379, R399). -/
structure XTag where
  fn : Nat
  va : Nat
  vaLog : Nat
  ipa : Nat
  part : Nat
  key : Option Nat
  deriving DecidableEq, Repr

/-- Kinds of home request (R464). -/
inductive HomeKind | rdShared | rdOwn | rdNoAlloc | wrNoAlloc
  deriving DecidableEq, Repr

/-- Who asked: a caching agent 0–79; payload of a channel's packet (`id` names the read or the packet); the collective
engine; a request whose answer nobody waits for. -/
inductive Asker | agent (a : Nat) | payload (cl ch id : Nat) | coll (id : Nat) | att (a id : Nat) | none
  deriving DecidableEq, Repr

/-- A request at a home slice (R464, R474). `group` is the ingress group 0 host, 1 remote, 2 engine; `seg` is the
position of its bytes in the access; `since` when it was delivered, `held` that careful mode held it. -/
structure HomeReq where
  kind : HomeKind
  asker : Asker
  line : Nat
  off : Nat
  bytes : List Byte
  bad : Bool
  group : Nat
  seg : Nat
  tag : Option XTag
  since : Nat
  held : Bool
  deriving DecidableEq, Repr

/-- Writebacks and evictions (R464). -/
inductive WbKind | wbMod | wbClean | evict
  deriving DecidableEq, Repr

/-- A writeback on its way to a home. -/
structure WbReq where
  kind : WbKind
  agent : Nat
  line : Nat
  data : List Byte
  bad : Bool
  deriving DecidableEq, Repr

/-- Snoops (R464). -/
inductive SnpKind | inv | shr | cur | invTo (r : Nat) | fwdS (r : Nat) | fwdM (r n : Nat) | drain (slice : Nat)
  deriving DecidableEq, Repr

/-- A snoop on its way to an agent. -/
structure Snp where
  agent : Nat
  line : Nat
  kind : SnpKind
  deriving DecidableEq, Repr

/-- Answers to snoops (R464, R473). -/
inductive SnpAns | i | s | cur | iData | sData | curData | iWb
  deriving DecidableEq, Repr

/-- Messages to a home on RSP and DAT: snoop responses, Ack, RspDrain. -/
inductive HomeMsg
  | rsp (a line : Nat) (r : SnpAns) (data : List Byte) (bad : Bool)
  | ack (a line : Nat)
  | drained (a slice : Nat)
  deriving DecidableEq, Repr

/-- Messages to a caching agent: grants with data, Cmp, and those of careful mode. -/
inductive AgentMsg
  | gntS (data : List Byte) (bad : Bool) | gntE (data : Option (List Byte)) (bad : Bool) | cmp
  | data (n : Nat) (bytes : List Byte) (bad : Bool) | gntM (n : Nat) | invAck
  deriving DecidableEq, Repr

/-- A snoop-filter entry (R466): the owner, or the sharers; `mask` is the group mask once FMT is 1, else 0; `used` orders
entries by last use. -/
structure SfEnt where
  owner : Option Nat
  sharers : List Nat
  mask : Nat
  used : Nat
  deriving DecidableEq, Repr

/-- A busy line (R475, R476): the request in service (none: a victim's or a broken entry's removal), the agents whose
responses are missing, data that a RspCurData brought, agents that answered RspIWb and whose writeback is missing, agents
whose writeback has come while the line was busy, whether a broadcast of R469 is out,
whether the requester's Ack is awaited, and the wait queue. -/
structure BusyEnt where
  req : Option HomeReq
  waits : List Nat
  got : Option (List Byte × Bool)
  wbFrom : List Nat
  wbGot : List Nat
  dir : Bool
  acking : Bool
  queue : List HomeReq
  since : Nat
  deriving DecidableEq, Repr

/-- What one home slice keeps beside its registers (R474, R482, R483, R487). `drains` lists agents whose RspDrain is
missing; `credit` the requests the three groups may still make in the round. -/
structure SliceSt where
  ing : List HomeReq
  credit : List Nat
  drains : List Nat
  deriving DecidableEq, Repr

/-- A slice right after reset. -/
def SliceSt.init : SliceSt := { ing := [], credit := [0, 0, 0], drains := [] }

/-- A payload read in progress through the homes: lines asked, their bytes as they come, poison seen. -/
structure ReadSt where
  lines : Nat
  got : AMap (List Byte)
  bad : Bool
  deriving DecidableEq, Repr

/-- Coherence (R462 to R502). -/
structure MeshSt where
  cache : AMap (AMap CLine)
  slices : AMap SliceSt
  sf : AMap SfEnt
  busy : AMap BusyEnt
  wbs : List WbReq
  snps : List Snp
  toHome : List HomeMsg
  toAgent : List (Nat × Nat × AgentMsg)
  /-- Cmp for WrNoAllocs of payload, per asker; answered reads -/
  cmps : List HomeReq
  reads : AMap ReadSt
  nextId : Nat
  tick : Nat
  /-- dead-agent recoveries in order: agent, slices still to scan, lines lost (R490) -/
  recover : List (Nat × List Nat × Nat)
  /-- lost lines recorded since cold reset (R492), and those of agents 0 to 63 (R592) -/
  lostSeq : Nat
  hostLost : Nat
  /-- lines whose snoop-filter entry an uncorrectable error struck in careful mode: rebuilt in service mode (R471) -/
  damaged : List Nat
  deriving DecidableEq, Repr

/-- A channel context (R230), field by field. -/
structure Ctx where
  state : Nat
  mode : Nat
  ccEn : Bool
  gen : Nat
  owner : Nat
  localEp : Nat
  errCode : Nat
  readMax : Nat
  retryMax : Nat
  remoteAddr : Nat
  remoteGen : Nat
  remoteChannel : Nat
  rtoUs : Nat
  retryCnt : Nat
  rnrCnt : Nat
  flowLabel : Nat
  waypt : Nat
  meter : Nat
  meterEn : Bool
  shaper : Nat
  shaperEn : Bool
  sndNxt : Nat
  sndUna : Nat
  rcvNxt : Nat
  fenceSince : Nat
  errPsn : Nat
  rate : Nat
  ecePend : Nat
  nakPending : Bool
  deriving DecidableEq, Repr

/-- A context of zeros: CLOSED with GEN 0 (R235). -/
def Ctx.zero : Ctx :=
  { state := 0, mode := 0, ccEn := false, gen := 0, owner := 0, localEp := 0, errCode := 0, readMax := 0, retryMax := 0,
    remoteAddr := 0, remoteGen := 0, remoteChannel := 0, rtoUs := 0, retryCnt := 0, rnrCnt := 0, flowLabel := 0,
    waypt := 0, meter := 0, meterEn := false, shaper := 0, shaperEn := false, sndNxt := 0, sndUna := 0, rcvNxt := 0,
    fenceSince := 0, errPsn := 0, rate := 0, ecePend := 0, nakPending := false }

/-- A fragment (R283). -/
structure Frag where
  addr : Nat
  len : Nat
  lkey : Nat
  deriving DecidableEq, Repr

/-- Where the data of a job comes from or goes to: in the entry itself, or in fragments. -/
inductive Payload | bytes (b : List Byte) | frags (l : List Frag)
  deriving DecidableEq, Repr

/-- Where a job came from: a work entry (global WQ, index, USER_ID, SIGNAL, OPCODE); a bound rendezvous receive (domain,
its RQ index); an RNDV_FIN of the device's own; a far-window access (attachment, window, access number, offset). -/
inductive JobFrom
  | wq (g index userId : Nat) (signal : Bool) (opcode : Nat)
  | rndv (dom index : Nat)
  | fin
  | far (a w id off : Nat)
  deriving DecidableEq, Repr

/-- Work joined to a channel (R284, R332, R421). `op` is the transport opcode of its packets, `words` the opcode's words
that all its packets share, `done_` bytes cut so far, `left` its packets not retired, `started`/`cut` whether its first
and its last packet have taken their PSN. -/
structure Job where
  id : Nat
  src : JobFrom
  fn : Nat
  op : Nat
  raddr : Nat
  rkey : Nat
  len : Nat
  data : Payload
  words : List Nat
  fence : Bool
  done_ : Nat
  left : Nat
  started : Bool
  cut : Bool
  firstPsn : Nat
  poison : Bool
  writeFault : Bool
  finStatus : Option Nat
  killed : Bool
  deriving DecidableEq, Repr

/-- A packet that has taken its PSN (R242): what rebuilds it. `off`, `n` is its part of its job's data; `read` marks a
READ_REQ; `marked` a PSN the scoreboard shows as received, `fast` one resent once under R263. -/
structure SentPkt where
  psn : Nat
  job : Nat
  op : Nat
  first : Bool
  last : Bool
  ackreq : Bool
  fence : Bool
  fenceCnt : Nat
  words : List Nat
  off : Nat
  n : Nat
  marked : Bool
  fast : Bool
  deriving DecidableEq, Repr

/-- A read tracker (R244, R262): the READ_REQ's PSN, READ_LEN, and the part of its job it fills. `late`: the access it
served has ended, its response is discarded (R424). -/
structure Tracker where
  psn : Nat
  job : Nat
  off : Nat
  n : Nat
  late : Bool
  deriving DecidableEq, Repr

/-- A piece of memory that an access touches after translation (R396). -/
structure Chunk where
  da : Nat
  len : Nat
  dev : Bool
  tag : XTag
  deriving DecidableEq, Repr

/-- A READ_REQ in execution (R254): its PSN and length, its chunks and the read through the homes. -/
structure RspJob where
  psn : Nat
  n : Nat
  chunks : List Chunk
  read : Nat
  deriving DecidableEq, Repr

/-- An eager message in arrival on a channel (R329 to R331, R336): its first PSN, domain, length, bytes arrived, and where
they go: a bound receive (RQ index, buffer, length), an unexpected slot, or nowhere. -/
inductive MsgDest | recv (index addr len lkey : Nat) | slot (seq slot : Nat) | nowhere
  deriving DecidableEq, Repr

/-- An eager message in progress. -/
structure InMsg where
  psn : Nat
  dom : Nat
  msgLen : Nat
  got : Nat
  dest : MsgDest
  tag : Nat
  src : Nat
  deriving DecidableEq, Repr

/-- A channel: its context and what the device keeps with it (R230 ENGINE_PRIVATE). -/
structure ChanSt where
  ctx : Ctx
  /-- changed since it was fetched; last use; a fetch, waiting for a slot, a writeback in flight (R237, R256) -/
  dirty : Bool
  used : Nat
  resident : Bool
  fetching : Bool
  slotWait : Bool
  /-- the channel whose writeback frees the slot that the fetch waits for; none while no slot is to be had (R237, R258) -/
  slotFrom : Option Nat
  /-- when its fetch began (CTX_FETCH_NS, R525) -/
  fetchAt : Nat
  writing : Bool
  /-- parked packets; PSN of the first dropped during the fetch (R256, R257) -/
  parked : List Packet
  parkDrop : Option Packet
  /-- parked packets not yet handled after the fetch: NAK CTX_MISS waits for them (R257) -/
  parkLeft : Nat
  /-- sender -/
  jobs : List Job
  sent : List SentPkt
  trk : List Tracker
  high : Nat
  resend : List Nat
  backoff : List Nat
  payload : Option (Nat × List Byte)
  reading : Option (Nat × Nat × List Chunk)
  timer : Option Nat
  seqSeen : Option (Nat × Nat)
  cutAt : Option Nat
  cutNow : Bool
  nextStart : Nat
  /-- since when its next packet waits for its window or shaper; it is held by its meter (R510, R525) -/
  winSince : Option Nat
  shSince : Option Nat
  mtHeld : Bool
  /-- the meter whose next refill its next packet waits for (R510) -/
  mtWait : Option Nat
  /-- receiver -/
  score : List Nat
  unacked : Nat
  ackAt : Option Nat
  ackDue : Bool
  nakAt : Option Nat
  vis : List (Nat × Nat)
  rsps : List RspJob
  msgs : List InMsg
  /-- issuers of CLOSE that wait (R640): cluster (none) or function -/
  closers : List (Option Nat)
  deriving DecidableEq, Repr

/-- What the device keeps for a context that has left Hamper, as its ENGINE_PRIVATE words do (R230, R231): the context as it
left, the last rate cut and whether the current period holds one, the end of its spacing, its last NAKs. -/
structure EngPriv where
  ctx : Ctx
  rate : Nat
  cutAt : Option Nat
  cutNow : Bool
  nextStart : Nat
  nakAt : Option Nat
  seqSeen : Option (Nat × Nat)
  deriving DecidableEq, Repr

/-- A queue reset of `fn` going through the backing store of a cluster in host memory (R305 step 2): the channel whose context
it is reading, or writing back as CLOSED. -/
structure ScanSt where
  fn : Nat
  cluster : Nat
  ch : Nat
  writing : Bool
  deriving DecidableEq, Repr

/-- A channel with this context and nothing in progress. -/
def ChanSt.ofCtx (c : Ctx) : ChanSt :=
  { ctx := c, dirty := false, used := 0, resident := true, fetching := false, slotWait := false,
    slotFrom := none, writing := false, parked := [], parkDrop := none, parkLeft := 0, jobs := [], sent := [], trk := [], high := c.sndNxt, resend := [], backoff := [],
    payload := none, reading := none, timer := none, seqSeen := none, cutAt := none, cutNow := false, nextStart := 0, winSince := none,
    shSince := none, mtHeld := false, mtWait := none, fetchAt := 0,
    score := [], unacked := 0, ackAt := none, ackDue := false, nakAt := none, vis := [], rsps := [], msgs := [],
    closers := [] }

/-- A channel command that waits for its context (R232): the issuing function (none: the cluster's registers), the
operation and the channel. -/
structure CmdWait where
  fn : Option Nat
  op : Nat
  ch : Nat
  deriving DecidableEq, Repr

/-- Transport (R226 to R272). -/
structure TransSt where
  chans : AMap ChanSt
  /-- packets of each cluster that wait for a translation or for earlier effects to become visible, in order -/
  stalled : AMap (List Packet)
  cmds : List CmdWait
  nextJob : Nat
  tick : Nat
  /-- when HAMPER_FULL was last raised by a cluster (R269) -/
  fullAt : AMap Nat
  /-- what the device keeps of contexts that left Hamper (R231, R265) -/
  priv : AMap EngPriv
  /-- queue resets that read backing stores in host memory (R305) -/
  scans : List ScanSt
  deriving DecidableEq, Repr

/-- What a function holds beside its function-table and queue-BAR registers (R300 to R310). -/
structure FnSt where
  /-- a queue reset is in progress (R305) -/
  resetting : Bool
  /-- the event queue is armed (R300); events raised to it so far (R302) -/
  eqArmed : Bool
  eqSeq : Nat
  /-- events that hold a place in the queue and are still to be written (R302; notes/assumptions/78.md) -/
  eqWait : List EvRecord
  /-- the queue command whose BUSY waits for a translation (R310) -/
  cmd : Option Nat
  /-- MSI-X Enable and Function Mask of the function's MSI-X capability (R412; notes/assumptions/72.md) -/
  msixOn : Bool
  msixMask : Bool
  deriving DecidableEq, Repr

/-- A function right after reset. -/
def FnSt.init : FnSt := { resetting := false, eqArmed := false, eqSeq := 0, eqWait := [], cmd := none, msixOn := false, msixMask := false }

/-- A work entry on die (R279, R291): its index, its 64 bytes (none: the read failed), its fragment table once read
(none inside: that read failed). -/
structure Fetched where
  index : Nat
  bytes : Option (List Byte)
  table : Option (Option (List Frag))
  asked : Bool
  deriving DecidableEq, Repr

/-- A created work queue (R310) and what the device holds for it. `next` are WEIGHT, BURST and PREFETCH of a WQ_MODIFY
that waits for the next round; `wbCi` the index last written back; `lineDirty` a snoop during a read of its line. -/
structure WqSt where
  fn : Nat
  idx : Nat
  logSize : Nat
  watched : Bool
  cluster : Nat
  weight : Nat
  burst : Nat
  cq : Nat
  prefetch : Nat
  ring : Nat
  wb : Nat
  watchAddr : Nat
  watchWord : Nat
  next : Option (Nat × Nat × Nat)
  fetched : List Fetched
  waiting : Bool
  wbCi : Nat
  wbAt : Option Nat
  deriving DecidableEq, Repr

/-- A created completion queue (R310). -/
structure CqSt where
  fn : Nat
  idx : Nat
  logSize : Nat
  intEn : Bool
  vec : Nat
  ring : Nat
  wb : Nat
  reserved : Nat
  armed : Bool
  wbPi : Nat
  wbAt : Option Nat
  /-- entries not written yet, oldest first, with the engine they are counted at (R284, R297, R304) -/
  wait : List (Nat × List Byte)
  deriving DecidableEq, Repr

/-- One level of the arbiter of R293: the member being served, entries it has taken in this visit, credits left. -/
structure Arb where
  cur : Nat
  taken : Nat
  credit : AMap Nat
  deriving DecidableEq, Repr

/-- A watched line (R288): function, address, a read outstanding, snooped again since. `line` is the pool line that the
cluster's agent holds for it. -/
structure WatchSt where
  fn : Nat
  addr : Nat
  cluster : Nat
  line : Option Nat
  reading : Bool
  again : Bool
  deriving DecidableEq, Repr

/-- A tunnel frame on its way out (R431): its work entry, destination, class, pieces of its data, and the read. -/
structure TunJob where
  g : Nat
  index : Nat
  userId : Nat
  signal : Bool
  fn : Nat
  cluster : Nat
  dest : Nat
  mc : Bool
  tclass : Nat
  data : Payload
  len : Nat
  reading : Option (Nat × List Chunk)
  deriving DecidableEq, Repr

/-- Work queues, completion queues and the engines' arbiters (R273 to R310). -/
structure QueueSt where
  wqs : AMap WqSt
  cqs : AMap CqSt
  fnArb : AMap Arb
  wqArb : AMap Arb
  lines : List WatchSt
  tuns : List TunJob
  /-- queues with entries to fetch, in the order their doorbells arrived (R291) -/
  order : List Nat
  deriving DecidableEq, Repr

/-- A posted receive (R318, R324). `va` is the stage-1 address that its key gave for ADDR (R378). -/
structure PostEnt where
  seq : Nat
  index : Nat
  srcAny : Bool
  source : Nat
  comm : Nat
  tag : Nat
  ignore : Nat
  addr : Nat
  va : Nat
  len : Nat
  lkey : Nat
  onDie : Bool
  deriving DecidableEq, Repr

/-- An unexpected message (R321, R329): an eager one with its slot, or a SEND_RTS with SKEY and SADDR. `ch` and `psn`
name the channel and head; `done_` tells that all its bytes have arrived. -/
structure UxEnt where
  seq : Nat
  rts : Bool
  src : Nat
  comm : Nat
  tag : Nat
  msgLen : Nat
  slot : Option Nat
  ch : Nat
  gen : Nat
  psn : Nat
  skey : Nat
  saddr : Nat
  done_ : Bool
  onDie : Bool
  deriving DecidableEq, Repr

/-- A receive bound to a message (R330, R333): RQ index, buffer, the message, whether it copies from a slot, and whether
its bytes have all arrived. -/
structure BoundEnt where
  index : Nat
  addr : Nat
  va : Nat
  len : Nat
  lkey : Nat
  ch : Nat
  gen : Nat
  psn : Nat
  src : Nat
  tag : Nat
  msgLen : Nat
  rts : Bool
  slot : Option Nat
  arrived : Bool
  fault : Bool
  deriving DecidableEq, Repr

/-- A matching domain (R311 to R345). -/
structure DomSt where
  posted : List PostEnt
  ux : List UxEnt
  bound : List BoundEnt
  postSeq : Nat
  uxSeq : Nat
  /-- enabled since its last queue reset (R344) -/
  used : Bool
  /-- the overflow area stands full for POSTs, for heads (R325) -/
  fullPost : Bool
  fullHead : Bool
  /-- a write of EN = 1 waits for its translations (R345) -/
  enabling : Bool
  wbCi : Nat
  wbAt : Option Nat
  /-- unexpected SEND_RTSs of a domain reset whose channel's context is off die: channel, GEN and RTS_PSN of the RNDV_FIN still to
  send (R336) -/
  owed : List (Nat × Nat × Nat)
  deriving DecidableEq, Repr

/-- An unconfigured domain. -/
def DomSt.init : DomSt :=
  { posted := [], ux := [], bound := [], postSeq := 0, uxSeq := 0, used := false, fullPost := false, fullHead := false, enabling := false,
    wbCi := 0, wbAt := none, owed := [] }

/-- The parameters of a call (R353): what its first contribution or COLL_UP gave. `n` is its element count and `segs` its
segments, each once known; `least` elements that COLL_UPs have shown at least; `turns` segments that have turned. -/
structure CollRef where
  call : Nat
  rmode : Nat
  op : Nat
  func : Nat
  dtype : Nat
  scale : Nat
  n : Option Nat
  segs : Option Nat
  least : Nat
  turns : Nat
  deriving DecidableEq, Repr

/-- A contribution that has been taken (R351): its work entry, its child slot, its source and destination; the next
segment to read and the read in progress (its number, pieces, segment); segments delivered, RFLAGS so far, writes not yet
visible by segment, and result bytes that wait for a translation. -/
structure Contrib where
  id : Nat
  g : Nat
  index : Nat
  userId : Nat
  signal : Bool
  fn : Nat
  slot : Nat
  call : Nat
  len : Nat
  src : Frag
  dst : Frag
  next : Nat
  reading : Option (Nat × List Chunk × Nat)
  got : Nat
  flags : Nat
  vis : List (Nat × Nat)
  toWrite : List (Nat × List Byte)
  deriving DecidableEq, Repr

/-- What a child supplied to a segment: wire bytes, elements, RFLAGS. -/
structure CollIn where
  bytes : List Byte
  count : Nat
  flags : Nat
  deriving DecidableEq, Repr

/-- A segment in flight (R355, R358): its call and number, what its children supplied, its partial once combined, whether
its COLL_UP has left (a root's segment never has one), and whether its result has arrived or been formed. -/
structure SegSt where
  call : Nat
  seg : Nat
  last : Bool
  inputs : AMap CollIn
  out : Option CollIn
  sent : Bool
  turned : Bool
  deriving DecidableEq, Repr

/-- A result unit: what its COLL_DOWN carries (R357, R358). -/
structure CollRes where
  call : Nat
  seg : Nat
  last : Bool
  body : CollIn
  deriving DecidableEq, Repr

/-- What the collective engine holds for an Outing slot beside its entry (R353 to R359, R368): calls, contributions,
segments and results by PSN, the oldest segment each device child has not supplied, the first PSN of call NEXT_CALL, each
member's last call, and expiries since the parent's last sign of life. -/
structure OutingSt where
  refs : List CollRef
  contribs : List Contrib
  segs : AMap SegSt
  results : AMap CollRes
  due : AMap Nat
  start : Nat
  lastCall : AMap Nat
  retry : Nat
  /-- the GEN the slot was made ACTIVE with (R370) -/
  gen : Nat
  deriving DecidableEq, Repr

/-- A slot with nothing in progress. -/
def OutingSt.init : OutingSt :=
  { refs := [], contribs := [], segs := [], results := [], due := [], start := 0, lastCall := [], retry := 0, gen := 0 }

/-- The collective engine (R346 to R374). -/
structure CollSt where
  slots : AMap OutingSt
  nextId : Nat
  deriving DecidableEq, Repr

/-- A key entry (R377). -/
structure KeyEnt where
  valid : Bool
  rights : Nat
  zeroBased : Bool
  tag : Nat
  owner : Nat
  base : Nat
  length : Nat
  deriving DecidableEq, Repr

/-- A combined translation (R395): input page, the IPA page it passed through, the output, and of each stage's leaf the
permissions, type, level and entry address. `fresh` until its first use. -/
structure TlbEnt where
  fn : Nat
  part : Nat
  va : Nat
  log : Nat
  ipa : Nat
  da : Nat
  s1 : Bool
  s2 : Bool
  rd1 : Bool
  wr1 : Bool
  dev1 : Bool
  lvl1 : Nat
  ea1 : Nat
  rd2 : Bool
  wr2 : Bool
  dev2 : Bool
  lvl2 : Nat
  ea2 : Nat
  fresh : Bool
  deriving DecidableEq, Repr

/-- A walk-cache entry (R395): stage, owner (function or partition), level, first input address its slot spans. -/
structure WalkEnt where
  stage : Nat
  owner : Nat
  level : Nat
  start : Nat
  entry : Nat
  deriving DecidableEq, Repr

/-- A walk fault (R392, R403). -/
structure WalkFault where
  reason : Nat
  stage : Nat
  level : Nat
  nested : Bool
  s1Level : Nat
  input : Nat
  ea : Nat
  deriving DecidableEq, Repr

/-- What an access is, for its fault record: write, remote, its key index, payload (may use a device page), and
the function and VA it is for. -/
structure XAccess where
  write : Bool
  remote : Bool
  key : Nat
  payload : Bool
  deriving DecidableEq, Repr

/-- A translation context: a function's stage 1, its partition and that partition's stage 2 (R381, R401, R402). -/
structure XlCtx where
  valid : Bool
  s1 : Bool
  s1Bits : Nat
  s1Root : Nat
  part : Nat
  s2 : Bool
  s2Bits : Nat
  s2Root : Nat
  deriving DecidableEq, Repr

/-- A walk in progress for (function, VA): the context it began under (R383), entries read so far by DA, or the fault it ended in
(R389 to R393). -/
structure Walk where
  fn : Nat
  va : Nat
  acc : XAccess
  ctx : XlCtx
  /-- no demand access waits for it (R394) -/
  spec : Bool
  /-- when it began (WALK_NS, R525) -/
  since : Nat
  got : AMap (Option Nat)
  failed : Option WalkFault
  deriving DecidableEq, Repr

/-- An INVALIDATE that waits (R399). -/
structure InvalWait where
  wq : Nat
  index : Nat
  userId : Nat
  signal : Bool
  scope : Nat
  target : Nat
  part : Nat
  addr : Nat
  len : Nat
  deriving DecidableEq, Repr

/-- Compass (R375 to R404). -/
structure CompassSt where
  tlb : List TlbEnt
  wcache : List WalkEnt
  /-- key cache by index (R380); key fetches outstanding -/
  keys : AMap KeyEnt
  keyWant : List Nat
  /-- key fetches that failed: the key is invalid for the access that needs it -/
  keyBad : List Nat
  walks : List Walk
  inval : List InvalWait
  /-- key commands of functions whose BUSY waits (R379): function and index -/
  keyCmd : AMap Nat
  deriving DecidableEq, Repr

/-- A held far-window read (R423): its number, the host's request number, window, BAR4 offset, length, channel, bytes as
they arrive by position, poison seen, and when it came. -/
structure FarRead where
  id : Nat
  req : Nat
  w : Nat
  off : Nat
  len : Nat
  ch : Nat
  got : AMap (List Byte)
  bad : Bool
  since : Nat
  deriving DecidableEq, Repr

/-- A far-window access whose channel's context is not on die yet: a read by its number, or a write's bytes. -/
structure FarAcc where
  id : Nat
  w : Nat
  off : Nat
  ch : Nat
  bytes : Option (List Byte)
  n : Nat
  deriving DecidableEq, Repr

/-- What a host attachment holds beside its registers (R405 to R430). -/
structure AttSt where
  far : List FarRead
  farSeq : Nat
  /-- accesses that wait for a context, in their order of arrival (R421) -/
  farQ : List FarAcc
  /-- when FAR_TIMEOUT and FAR_WRITE_DROP were last raised, by window (R425) -/
  tmoAt : AMap Nat
  dropAt : AMap Nat
  /-- an unbind in progress: its option (R411); a bound host's DPC status is set (R418) -/
  unbind : Option Nat
  dpc : Bool
  /-- VFs the host has enabled (R412), CXL.cache enabled in the NIC's DVSEC (R415) -/
  numVfs : Nat
  cacheEn : Bool
  /-- BAR4 size in force, taken at link-down (R436) -/
  barLog : Nat
  /-- Completion Timeout Value of the PF (R414); what the host has written to its BARs and VF BARs (R412) -/
  cplTmo : Nat
  bars : AMap Nat
  vfBars : AMap Nat
  /-- PERST# asserted to the downstream device by Physical Port Control (R409) -/
  perst : Bool
  /-- the downstream device presents a switch upstream port, so the attachment is used for nothing (R408) -/
  unusable : Bool
  /-- reads of a downstream device in the pool: mesh read, tag (R427, R428) -/
  reads : List (Nat × Nat)
  /-- pool writes of a downstream device: the last number, the numbers without Cmp (one per line), and messages that wait
  for every write up to a number (R427) -/
  wseq : Nat
  wout : List Nat
  msgs : List (Nat × DownMsg)
  deriving DecidableEq, Repr

/-- An attachment right after reset. -/
def AttSt.init : AttSt :=
  { far := [], farSeq := 0, farQ := [], tmoAt := [], dropAt := [], unbind := none, dpc := false, numVfs := 0, cacheEn := false, barLog := 0,
    cplTmo := 0, bars := [], vfBars := [], perst := false, unusable := false, reads := [], wseq := 0, wout := [], msgs := [] }

/-- How a held host read ends (R423). -/
inductive FarEnd | data (b : List Byte) (ep : Bool) | completerAbort | unsupported
  deriving DecidableEq, Repr

/-- The FM API's background operation (R411, R559): its opcode, the attachment, and its end. -/
structure FmBg where
  op : Nat
  att : Nat
  done_ : Bool
  deriving DecidableEq, Repr

/-- How a request of a downstream device ends (R427, R428). -/
inductive DevEnd | data (b : List Byte) (poison : Bool) | written | unsupported
  deriving DecidableEq, Repr

/-- How a host's request to a bound device fares (R418). -/
inductive HostDevEnd | forwarded | unsupported | discarded | poisoned
  deriving DecidableEq, Repr

/-- A token bucket pair in millibits (R504): committed and peak. -/
structure Buckets where
  tc : Int
  tp : Int
  deriving DecidableEq, Repr

/-- Meters and shapers (R503 to R518): an unlisted one has both buckets full. Keys: meter m; injection shaper
16,384 + s; egress shaper 20,480 + 3n + k. -/
structure PoliceSt where
  buckets : AMap Buckets
  deriving DecidableEq, Repr

/-- One bank's part of the last snapshot (R526, R530): counters, then slot values; SEL_GEN of the interval; no snapshot at
the last tick; reset since the tick before. -/
structure BankSnap where
  vals : List Nat
  gen : Nat
  noSnap : Bool
  reset : Bool
  deriving DecidableEq, Repr

/-- A dump being written (R527, R529): its tick, SEQ, period, pace, PACE_LOW, and the type mask at the tick. -/
structure DumpSt where
  tick : Nat
  seq : Nat
  period : Nat
  pace : Nat
  low : Bool
  mask : Nat
  deriving DecidableEq, Repr

/-- What identifies a sampled item (R535): a work entry, or a channel packet at its destination. -/
inductive TrailKey | send (g index : Nat) | recv (ch psn : Nat)
  deriving DecidableEq, Repr

/-- A sampled item (R536, R537): `t` lists the instants at which LAT0 to LAT3 start and LAT3 ends, as far as reached. -/
structure TrailItem where
  engine : Nat
  key : TrailKey
  opcode : Nat
  status : Nat
  ended : Bool
  ch : Nat
  gen : Nat
  psn : Nat
  src : Nat
  fn : Nat
  va : Nat
  da : Nat
  t : List (Option Nat)
  deriving DecidableEq, Repr

/-- Gazetteer and Trail (R523 to R538). Keys of `snaps` and members of `fresh` and `chosen` are window offsets. -/
structure GzSt where
  snaps : AMap BankSnap
  /-- banks reset since the previous tick -/
  fresh : List Nat
  /-- banks with a selection that software wrote -/
  chosen : List Nat
  /-- selection writes held for the next tick, by field key (R523) -/
  held : AMap Nat
  /-- the dump being written; a write of EN = 0 that waits for it (R540) -/
  dump : Option DumpSt
  stopping : Bool
  /-- ticks since EN was set; ticks skipped and dumps lost since the previous written dump -/
  ticks : Nat
  skipped : Nat
  lost : Nat
  lostAt : Option Nat
  /-- Trail: countdown per engine, items followed, records held on die, records produced since EN was set -/
  count : AMap Nat
  items : List TrailItem
  recs : List (List Byte)
  trSeq : Nat
  deriving DecidableEq, Repr

/-- The EVENTS stream's kept records, and the count of records given a SEQ (R562, R563). -/
structure EvStream where
  kept : List EvRecord
  seq : Nat
  deriving DecidableEq, Repr

/-- How far an SPDM session has come (R551): key exchange answered and the requester's chain awaited; chain verified (full
or provisioning); established. -/
inductive SessPhase | exchange | verified | established
  deriving DecidableEq, Repr

/-- The result of one operation of a request (R554): OP, STATUS and result words. -/
structure OpRes where
  op : Nat
  status : Nat
  data : List (BitVec 32)
  deriving DecidableEq, Repr

/-- A Drisiul session (R549 to R552, R556): requester, port it was last heard on, `full` (else provisioning), SEQ of the
device's next frame, the highest SEQ accepted and those accepted among the 64 below it, the last executed REQ_ID with the
plaintext of its response, and when a valid secured frame last arrived. -/
structure SessSt where
  id : Nat
  mac : BitVec 48
  port : Nat
  phase : SessPhase
  full : Bool
  digests : Bool
  tx : Nat
  high : Option Nat
  seen : List Nat
  last : Option (Nat × List Byte)
  heard : Nat
  deriving DecidableEq, Repr

/-- A request being executed or waiting (R555): its OP_COUNT, OP and ARG of every operation, operations left and results so far; `since` the time at which a POLL or
COMMIT began to wait. -/
structure ReqRun where
  session : Nat
  mac : BitVec 48
  port : Nat
  reqId : Nat
  count : Nat
  heads : List (Nat × Nat)
  left : List DrsOp
  done_ : List OpRes
  since : Option Nat
  deriving DecidableEq, Repr

/-- Who holds a stream, and its RATE_MBPS and DECIM (R557, R562); dumps seen since it was enabled. -/
structure StreamSt where
  session : Nat
  rate : Nat
  decim : Nat
  count : Nat
  deriving DecidableEq, Repr

/-- A record of streams 1 to 3 (R562). -/
inductive StreamRec | bytes (b : List Byte) | event (e : EvRecord)
  deriving DecidableEq, Repr

/-- What the device answers to an SPDM request (R550 to R553). -/
inductive SpdmAns
  | version | capabilities (hb : Nat) | algorithms | digests | certificate (slot off n : Nat) | challengeAuth (slot : Nat)
  | measurements (l : List (Nat × BitVec 256)) (raw : List (BitVec 32)) | measurementCount (n : Nat) | keyExchangeRsp (session : Nat) | getDigests (session : Nat)
  | getCertificate (session : Nat) | finishRsp (session : Nat) | heartbeatAck (session : Nat) | keyUpdateAck (session : Nat)
  | endSessionAck (session : Nat) | error | sessionLimit
  deriving DecidableEq, Repr

/-- The management processor, the ring ports and the timebase servo (R541 to R569). -/
structure MgmtSt where
  /-- SPDM negotiation per requester MAC: 1 version, 2 capabilities, 3 algorithms (R550) -/
  spdm : AMap Nat
  sess : List SessSt
  reqs : List ReqRun
  streams : AMap StreamSt
  recs : AMap (List StreamRec)
  /-- ports that have received a HELLO in the present interval (R546) -/
  heard : List Nat
  /-- PSNs of the last FMGT packets taken from each source, newest first (R145) -/
  fmgtSeen : AMap (List Nat)
  /-- the fence of the management processor in force is a restart's own (R52, R569) -/
  ownFence : Bool
  /-- restarts of the last 60 s, newest first (R569) -/
  restarts : List Nat
  /-- servo (R565): frequency correction in ppb; the total rate in force until `slewEnd`, in ppb; ps carried to the next
  interval; the fraction of the count in 10^-9 ns; when the last sample came -/
  freq : Int
  rate : Int
  slewEnd : Nat
  slew : Int
  carry : Int
  sampleAt : Option Nat
  /-- SEQ of the DEVMSG stream's records -/
  dseq : Nat
  /-- TIME_PPS_OUT is high (R567) -/
  pps : Bool
  deriving DecidableEq, Repr

/-- The larger reset kinds (R589). -/
inductive ResetKind | cold | warm
  deriving DecidableEq, Repr

/-- One bank of Flask (R573): header fields and image bytes. The SIGNATURE is not held: its check comes with
the commands that make it (R575, R582). -/
structure FlaskBank where
  magic : BitVec 32
  hdrVer : BitVec 8
  svn : BitVec 8
  seq : BitVec 64
  length : BitVec 32
  check : BitVec 32
  image : List Byte
  deriving DecidableEq, Repr

/-- A bank never written. -/
def FlaskBank.blank : FlaskBank :=
  { magic := 0, hdrVer := 0, svn := 0, seq := 0, length := 0, check := 0, image := [] }

/-- An open store (R560, R576): the area (false firmware, true configuration), the target bank (false A, true B),
the session that opened it and the image bytes written. -/
structure StoreOpen where
  cfgArea : Bool
  bankB : Bool
  session : Nat
  total : Nat
  written : Nat
  deriving DecidableEq, Repr

/-- Flask and its interface (R572 to R584). -/
structure FlaskSt where
  fwA : FlaskBank
  fwB : FlaskBank
  cfgA : FlaskBank
  cfgB : FlaskBank
  /-- SEQ of the firmware bank recorded as confirmed in the boot record (R583) -/
  confirmed : Nat
  store : Option StoreOpen
  /-- the digests taken at this boot, by block index of R553 (R581) -/
  meas : AMap (BitVec 256)
  /-- the configuration image kept for unit resets (R580), as word offset and value -/
  image : List (Nat × Nat)
  deriving DecidableEq, Repr

/-- Start-up and reset progress (R585 to R593), pins (R616, R620) and clocks (R602). -/
structure BootSt where
  /-- the cold or warm reset in progress, until the management processor starts -/
  kind : Option ResetKind
  aux : Bool
  pwrGood : Bool
  resetN : Bool
  testEn : Bool
  /-- PWR_EN[3:0] and RAIL_PG[3:0] -/
  pwrEn : List Bool
  railPg : List Bool
  /-- enables locked out until PWR_GOOD or RESET_N is cycled (R621, R632); when PWR_GOOD fell -/
  lockedOut : Bool
  pwrLowAt : Option Nat
  /-- when the last cold or warm reset began (R634) -/
  resetAt : Option Nat
  hardTrip : Bool
  /-- THERM_N is asserted; the thermal trip has been acted on (R631) -/
  thermAsserted : Bool
  thermTripped : Bool
  /-- clocked islands whose clock does not run (R40, R602) -/
  stopped : List Nat
  /-- boot steps reached (R585): core die out of power-on reset, firmware booted, configuration applied -/
  locked : Bool
  fwBooted : Bool
  cfgApplied : Bool
  /-- a warm boot leaves out the writing of the pool (R591) -/
  warmBoot : Bool
  /-- the start-up coherence test has failed (R587) -/
  bctFailed : Bool
  /-- the home slices have left careful mode since the boot began (R585 step 7) -/
  started : Bool
  /-- SEQ of the firmware bank that runs, 0 for the recovery image (R583, R584) -/
  runSeq : Nat
  deriving DecidableEq, Repr

/-- What the error machinery keeps beside its registers (R29, R42, R604, R605); keys are window offsets of units. -/
structure ErrSt where
  /-- highest uncleared severity recorded by the unit itself (R604) -/
  sev : AMap Nat
  /-- LEG_ERR_FIRST of the unit (R42) -/
  first : AMap Nat
  /-- errors recorded since cold reset (R613) -/
  seq : Nat
  /-- when the unit last logged a corrected error (R604) and last raised event 0x60 (R605) -/
  lastCorr : AMap Nat
  lastEvt : AMap Nat
  /-- bridge code errors of a fabric port or host macro, newest first (R29) -/
  bridge : AMap (List Nat)
  deriving DecidableEq, Repr


/-- What the device emits: the model's own observation log (`State.out`, newest first; notes/assumptions/3.md). -/
inductive Emit
  | readData (r : Route) (off : Nat) (v : BitVec 32)
  | queueData (f off : Nat) (v : BitVec 32)
  | avsVoltage (mv : Nat)
  | avsStatusRead
  | named (e : NamedEvent)
  | msix (fn vec addr data : Nat)
  | stompAt (n vc reason : Nat)
  | block (n : Nat) (b : LinkBlock) (crc : BitVec 32)
  | laneBlocks (n : Nat) (lanes : List Nat) (b : LinkBlock) (crc : BitVec 32)
  | hostPayload (port att addr : Nat) (bytes : List Byte)
  | idle (n : Nat)
  | pwrEn (g : Nat) (on : Bool)
  | thermN (asserted : Bool)
  | bypass (closed : Bool)
  | fmgt (p : Packet)
  | farDone (a req : Nat) (r : FarEnd)
  | cfgDone (a : Nat) (q : CfgReq) (retry : Bool)
  | cfgData (a : Nat) (d : CfgDev) (r : CfgReg) (v : BitVec 32)
  | cfgUnsupported (a : Nat) (q : CfgReq)
  | fmAnswer (c : FmCmd) (code : Nat) (data : List Byte)
  | slotChange (u v : Nat) (present : Bool)
  | attention (u v : Nat)
  | aerError (u v : Nat) (error : BitVec 32)
  | linkReset (a : Nat)
  | perst (a : Nat) (on : Bool)
  | ppbConfig (a : Nat) (reg : BitVec 12) (enables : BitVec 4) (write : Option (BitVec 32))
  | claimDecoder (a entry dpa first count : Nat)
  | dcOffer (u e : Nat) (tag : Nat)
  | dcAsked (u e : Nat)
  | dcRemoved (u e : Nat)
  | toDevice (a : Nat) (q : HostDevReq) (r : HostDevEnd)
  | deviceDone (a tag : Nat) (r : DevEnd)
  | forwarded (a : Nat) (m : DownMsg)
  | toMgmt (p : Packet)
  | memWrite (att addr : Nat) (bytes : List Byte)
  | memRead (att addr n : Nat)
  | biSnp (host line : Nat) (k : SnpKind)
  | hostAnswer (host line : Nat) (r : HomeKind) (data : Option (List Byte)) (bad : Bool)
  | hostCmp (host line : Nat)
  | loaded (agent line : Nat) (data : List Byte) (bad : Bool)
  | mgmtFrame (port : Nat) (f : MgmtFrame)
  | spdm (port : Nat) (mac : BitVec 48) (r : SpdmAns)
  | secured (port : Nat) (f : MgmtFrame)
  | ppsOut (high : Bool)
  | ptp (port residence : Nat)
  deriving DecidableEq, Repr

/-- The state of the block. Every register field of the manual's tables has its value in `regs` (an unlisted field
holds the reset value its table gives, `Field.reset`); what the manual gives outside its tables is in the other fields. -/
structure State where
  /-- model time in ns, for the manual's windows and timers (notes/assumptions/4.md) -/
  now : Nat
  /-- pace guard, AVSBus loop, power limiter -/
  pace : PaceSt
  /-- active copy of every register field, by field key; an unlisted field holds its reset value (`Field.reset`) -/
  regs : AMap Nat
  /-- staging, far posting, latches, fences and unit resets -/
  setup : SetupSt
  /-- link layer of fabric ports 0-95; an unlisted port holds PortSt.init -/
  ports : AMap PortSt
  /-- timebase offsets in ps that ports have passed to the servo (R147) -/
  tbOffers : List Int
  /-- the switch core's queues and arbiters -/
  switch : SwitchSt
  /-- routing estimates, latches, fence store, Contour gathering -/
  route : RouteSt
  /-- transport channels -/
  tp : TransSt
  /-- the 1,024 functions; an unlisted one holds FnSt.init -/
  fns : AMap FnSt
  /-- queues and arbiters -/
  wq : QueueSt
  /-- matching domains 0–4,095; an unlisted one holds DomSt.init -/
  doms : AMap DomSt
  /-- collective engine; an unlisted slot holds OutingSt.init -/
  coll : CollSt
  /-- Compass caches and walks -/
  xl : CompassSt
  /-- host attachments; an unlisted one holds AttSt.init -/
  atts : AMap AttSt
  /-- committed BIFURC, MAX_RATE, SRIS and ROLE values that wait for their macro's links to be down, by field key (R406) -/
  hostCfg : AMap Nat
  /-- the FM API's last background operation -/
  fmBg : Option FmBg
  /-- the memory pool -/
  pool : PoolSt
  /-- coherence: caches, home slices, snoop filter, messages in flight -/
  mesh : MeshSt
  /-- token buckets of meters and shapers -/
  police : PoliceSt
  /-- Gazetteer and Trail -/
  gz : GzSt
  /-- records of the EVENTS stream waiting to be sent -/
  events : EvStream
  /-- sessions, requests, streams, ring ports, restarts, timebase servo -/
  mg : MgmtSt
  /-- Flask banks, boot record and open store -/
  flask : FlaskSt
  /-- start-up progress, pins, clocks -/
  boot : BootSt
  /-- error summaries and log bookkeeping -/
  err : ErrSt
  /-- what has been emitted, newest first (the model's own field) -/
  out : List Emit
  /-- draws of open values so far (the model's own field; notes/assumptions/2.md) -/
  free : Nat
  /-- commands waiting, first in first out -/
  pending : List Instr
  deriving DecidableEq, Repr

/-- Why a step stops with a fault. No command of this block does: every command takes a next state. -/
inductive Fault
  /-- nobody raises it; it keeps the type inhabited (safe) -/
  | none
  deriving DecidableEq, Repr

/-- Why a command is refused. -/
inductive Refusal
  /-- raised only by a dispatch arm that has no meaning yet (safe) -/
  | notModelled (mnemonic : String)
  deriving DecidableEq, Repr

/-- The state right after reset: a cold reset in progress with V3P3_AUX present, before PWR_GOOD rises (R585, R588). -/
def State.reset : State :=
  { now := 0
    pace := { hist := [], lowRun := 0, highRun := 0, atRisk := false, floor := 1000, vcore := 750, avsOut := none, nacks := 0, power := [], railW := 0, railPace := 0, running := false }
    regs := []
    setup := { staged := [], held := [], fp := [], fpAt := [], fpBy := [], wlatch := [], rlatch := [], groups := [], toApply := [], applied := [], fenced := [], inReset := [], fencePend := [], resetAt := [] }
    ports := []
    tbOffers := []
    switch := { cur := [], pool := [], inj := [], asm := [], inbox := [], mcTo := [], avg := [], redSeen := [], round := [], rr := [], selected := [], mcLatch := [] }
    route := { est := [], warmAt := [], latch := [], fence := [], contour := [], contourSeq := 0, damaged := [], marks := [], drops := [] }
    tp := { chans := [], stalled := [], cmds := [], nextJob := 0, tick := 0, fullAt := [], priv := [], scans := [] }
    fns := []
    wq := { wqs := [], cqs := [], fnArb := [], wqArb := [], lines := [], tuns := [], order := [] }
    doms := []
    coll := { slots := [], nextId := 0 }
    xl := { tlb := [], wcache := [], keys := [], keyWant := [], keyBad := [], walks := [], inval := [], keyCmd := [] }
    atts := []
    hostCfg := []
    fmBg := none
    pool := { mem := [], poison := [], dirSh := [], exts := [], san := [], errs := [], ready := false, scrub := 0 }
    mesh := { cache := [], slices := [], sf := [], busy := [], wbs := [], snps := [], toHome := [], toAgent := [], cmps := [], reads := [], nextId := 0, tick := 0, recover := [], lostSeq := 0, hostLost := 0, damaged := [] }
    police := { buckets := [] }
    gz := { snaps := [], fresh := [], chosen := [], held := [], dump := none, stopping := false, ticks := 0, skipped := 0, lost := 0, lostAt := none, count := [], items := [], recs := [], trSeq := 0 }
    events := { kept := [], seq := 0 }
    mg := { spdm := [], sess := [], reqs := [], streams := [], recs := [], heard := [], fmgtSeen := [], ownFence := false, restarts := [], freq := 0, rate := 0, slewEnd := 0, slew := 0, carry := 0, sampleAt := none, dseq := 0, pps := false }
    flask := { fwA := .blank, fwB := .blank, cfgA := .blank, cfgB := .blank, confirmed := 0, store := none, meas := [], image := [] }
    boot := { kind := some .cold, aux := true, pwrGood := false, resetN := true, testEn := false, pwrEn := [false, false, false, false], railPg := [false, false, false, false], lockedOut := false, pwrLowAt := none, resetAt := none, hardTrip := false, thermAsserted := false, thermTripped := false, stopped := List.range 56 ++ [57], locked := false, fwBooted := false, cfgApplied := false, warmBoot := false, bctFailed := false, started := false, runSeq := 0 }
    err := { sev := [], first := [], seq := 0, lastCorr := [], lastEvt := [], bridge := [] }
    out := []
    free := 0
    pending := [] }

end Sys2Proof.Machine
end

