-- ==== Sys2Proof/Machine/Regs.lean ====
section
/-!
DEFINITION. Every register field of the specification's register tables: place, access code, reset value and range.
One namespace per table; each table's header names its rule and file. The rows follow the tables' own order.
-/
namespace Sys2Proof.Machine

/-- The six access codes (R59 and the notation section of spec/00_scope.md). -/
inductive Access | rw | ro | rc | st | fp | w1
  deriving DecidableEq, Repr

/-- One register field. `off` is the byte offset of its word from the window (or entry) base, `lo` its lowest bit.
An array field repeats `count` times every `stride` bytes, and a second time `count2` times every `stride2`. -/
structure Field where
  off : Nat
  lo : Nat
  width : Nat
  acc : Access
  reset : Nat
  stride : Nat
  count : Nat
  stride2 : Nat
  count2 : Nat
  min : Nat
  max : Nat
  zeroOk : Bool
  /-- values between `min` and `max` that are not applied all the same -/
  gap : Option (Nat × Nat)
  cfg : Bool
  deriving DecidableEq, Repr

/-- A field of bits `hi` to `lo` at `off`. -/
def fld (off hi lo : Nat) (acc : Access) (reset : Nat) : Field :=
  { off := off, lo := lo, width := hi + 1 - lo, acc := acc, reset := reset, stride := 4, count := 1,
    stride2 := 4, count2 := 1, min := 0, max := 2 ^ (hi + 1 - lo) - 1, zeroOk := false, gap := none, cfg := false }

/-- The field repeated `n` times every `stride` bytes (an outer array, when it is an array already). -/
def Field.arr (f : Field) (stride n : Nat) : Field :=
  if f.count = 1 then { f with stride := stride, count := n } else { f with stride2 := stride, count2 := n }

/-- The field with the range of values that are applied (R5). -/
def Field.rng (f : Field) (a b : Nat) : Field := { f with min := a, max := b }

/-- The signed field (two's complement) with the range -`a` to `b` (R5). -/
def Field.signedRng (f : Field) (a b : Nat) : Field := { f with gap := some (b + 1, 2 ^ f.width - a - 1) }

/-- The field that also takes 0 beside its range. -/
def Field.orZero (f : Field) : Field := { f with zeroOk := true }

/-- The field whose value the configuration bank restores (R77). -/
def Field.fromCfg (f : Field) : Field := { f with cfg := true }

/-- The field takes the value `v` (R5). -/
def Field.takes (f : Field) (v : Nat) : Bool :=
  ((f.min ≤ v && v ≤ f.max) || (f.zeroOk && v == 0)) &&
  (match f.gap with | some (a, b) => !(a ≤ v && v ≤ b) | none => true)

/-- The field has a word at byte offset `o` of its window. -/
def Field.hits (f : Field) (o : Nat) : Bool :=
  f.off ≤ o &&
  (let d := o - f.off
   if f.count2 = 1 then d % f.stride == 0 && d / f.stride < f.count
   else
     let big := Nat.max f.stride f.stride2
     let small := Nat.min f.stride f.stride2
     let nb := if f.stride < f.stride2 then f.count2 else f.count
     let ns := if f.stride < f.stride2 then f.count else f.count2
     d / big < nb && d % big % small == 0 && d % big / small < ns)

/-- The key of the field's value in the register map: word address and lowest bit. -/
def Field.key (f : Field) (base : Nat) : Nat := (base + f.off) * 32 + f.lo

namespace Reg

/-! ### `Reg.Leg`: the Legend of every unit (R42 of spec/02_setup_space.md). -/
namespace Leg
def LEG_TYPE : Field := fld 0x0 15 0 .ro 0
def LEG_INSTANCE : Field := fld 0x0 31 16 .ro 0
def LEG_VERSION_MINOR : Field := fld 0x4 7 0 .ro 0x0
def LEG_VERSION_MAJOR : Field := fld 0x4 15 8 .ro 0x1
def LEG_SIZE : Field := fld 0x8 4 0 .ro 0
def LEG_ISLAND : Field := fld 0xC 7 0 .ro 0
def LEG_CHILDREN : Field := fld 0x10 15 0 .ro 0
def LEG_CHILD_TABLE : Field := fld 0x14 31 0 .ro 0
def LEG_STATUS_READY : Field := fld 0x18 0 0 .ro 0
def LEG_STATUS_FENCED : Field := fld 0x18 1 1 .ro 0
def LEG_STATUS_IN_RESET : Field := fld 0x18 2 2 .ro 0
def LEG_STATUS_COMMIT_PENDING : Field := fld 0x18 3 3 .ro 0
def LEG_STATUS_ERR_ANY : Field := fld 0x18 4 4 .ro 0
def LEG_STATUS_ERR_SEV : Field := fld 0x18 6 5 .ro 0
def LEG_CONTROL_FENCE : Field := fld 0x1C 0 0 .w1 0
def LEG_CONTROL_UNIT_RESET : Field := fld 0x1C 1 1 .w1 0
def LEG_CONTROL_CMT_GROUP : Field := fld 0x1C 12 8 .rw 0
def LEG_PARENT : Field := fld 0x20 31 0 .ro 0
def LEG_REGS : Field := fld 0x24 31 0 .ro 0x40
def LEG_ERR_FIRST : Field := fld 0x28 31 0 .ro 0xffffffff
/-- All fields of this table. -/
def all : List Field :=
  [LEG_TYPE, LEG_INSTANCE, LEG_VERSION_MINOR, LEG_VERSION_MAJOR, LEG_SIZE, LEG_ISLAND, LEG_CHILDREN, LEG_CHILD_TABLE, LEG_STATUS_READY, LEG_STATUS_FENCED, LEG_STATUS_IN_RESET, LEG_STATUS_COMMIT_PENDING, LEG_STATUS_ERR_ANY, LEG_STATUS_ERR_SEV, LEG_CONTROL_FENCE, LEG_CONTROL_UNIT_RESET, LEG_CONTROL_CMT_GROUP, LEG_PARENT, LEG_REGS, LEG_ERR_FIRST]
end Leg

/-! ### `Reg.Root`: the root unit (R78 of spec/02_setup_space.md). -/
namespace Root
def DEV_IDENT_PART : Field := fld 0x40 15 0 .ro 0x9600
def DEV_IDENT_STEPPING : Field := fld 0x40 19 16 .ro 0x1
def DEV_IDENT_MINOR : Field := fld 0x40 23 20 .ro Config.devMinor
def DEV_CICEN_ID_DEVICE_ID : Field := (fld 0x44 15 0 .st 0x0).fromCfg
def DEV_CICEN_ID_VALID : Field := (fld 0x44 16 16 .st 0).fromCfg
def DEV_SERIAL_LO : Field := fld 0x48 31 0 .ro Config.devSerialLo
def DEV_SERIAL_HI : Field := fld 0x4C 31 0 .ro Config.devSerialHi
def DEV_STATUS_CFG_DEFAULTED : Field := fld 0x50 0 0 .ro 0
def DEV_STATUS_POOL_STALE : Field := fld 0x50 1 1 .ro 0
def DEV_STATUS_PACE_LOW : Field := fld 0x50 2 2 .ro 0
def DEV_STATUS_FW_BANK : Field := fld 0x50 3 3 .ro 0
def DEV_STATUS_CFG_BANK : Field := fld 0x50 4 4 .ro 0
def DEV_STATUS_FABRIC_READY : Field := fld 0x50 5 5 .ro 0
def DEV_STATUS_AVS_FAILED : Field := fld 0x50 6 6 .ro 0
def DEV_CONTROL_WARM_RESET : Field := fld 0x54 0 0 .w1 0
def DEV_CONTROL_COLD_RESET : Field := fld 0x54 1 1 .w1 0
def DEV_CONTROL_POOL_STALE_CLR : Field := fld 0x54 2 2 .w1 0
def PRIV_ATTACH_LO : Field := (fld 0x58 31 0 .rw 0).fromCfg
def PRIV_ATTACH_HI : Field := (fld 0x5C 31 0 .rw 0).fromCfg
def CMT_STROBE : Field := fld 0x60 31 0 .w1 0
def CMT_STATUS : Field := fld 0x64 31 0 .ro 0
def CMT_PENDING : Field := fld 0x68 31 0 .ro 0
def CMT_DISCARD : Field := fld 0x6C 31 0 .w1 0
def PACE_NOW : Field := fld 0x70 15 0 .ro 0
def PACE_FLOOR : Field := ((fld 0x74 15 0 .rw 1000).rng 850 1400).fromCfg
def TIMEBASE_NS_LO : Field := fld 0x78 31 0 .ro 0
def TIMEBASE_NS_HI : Field := fld 0x7C 31 0 .ro 0
def INJ_EPOCH_EPOCH : Field := fld 0x80 0 0 .rw 0
def WIN_BUSY_LO : Field := fld 0x88 31 0 .ro 0
def WIN_BUSY_HI : Field := fld 0x8C 31 0 .ro 0
def ACC_VIOL_VALID : Field := fld 0x90 0 0 .rc 0
def ACC_VIOL_ROUTE : Field := fld 0x90 2 1 .rc 0
def ACC_VIOL_REASON : Field := fld 0x90 6 3 .rc 0
def ACC_VIOL_OVERFLOW : Field := fld 0x90 7 7 .rc 0
def ACC_VIOL_ATTACH : Field := fld 0x90 13 8 .rc 0
def ACC_VIOL_ADDR : Field := fld 0x94 31 0 .ro 0
/-- All fields of this table. -/
def all : List Field :=
  [DEV_IDENT_PART, DEV_IDENT_STEPPING, DEV_IDENT_MINOR, DEV_CICEN_ID_DEVICE_ID, DEV_CICEN_ID_VALID, DEV_SERIAL_LO, DEV_SERIAL_HI, DEV_STATUS_CFG_DEFAULTED, DEV_STATUS_POOL_STALE, DEV_STATUS_PACE_LOW, DEV_STATUS_FW_BANK, DEV_STATUS_CFG_BANK, DEV_STATUS_FABRIC_READY, DEV_STATUS_AVS_FAILED, DEV_CONTROL_WARM_RESET, DEV_CONTROL_COLD_RESET, DEV_CONTROL_POOL_STALE_CLR, PRIV_ATTACH_LO, PRIV_ATTACH_HI, CMT_STROBE, CMT_STATUS, CMT_PENDING, CMT_DISCARD, PACE_NOW, PACE_FLOOR, TIMEBASE_NS_LO, TIMEBASE_NS_HI, INJ_EPOCH_EPOCH, WIN_BUSY_LO, WIN_BUSY_HI, ACC_VIOL_VALID, ACC_VIOL_ROUTE, ACC_VIOL_REASON, ACC_VIOL_OVERFLOW, ACC_VIOL_ATTACH, ACC_VIOL_ADDR]
end Root

/-! ### `Reg.Port`: a fabric port (R148 of spec/04_cicen_link.md). -/
namespace Port
def PORT_CFG_ROLE : Field := (fld 0x40 2 0 .st 4).fromCfg
def PORT_CFG_RATE : Field := (fld 0x40 4 4 .st 0).fromCfg
def PORT_CFG_WIDTH_MAX : Field := ((fld 0x40 6 5 .st 0).rng 0 2).fromCfg
def PORT_CFG_AUTO : Field := (fld 0x40 8 8 .st 1).fromCfg
def PORT_CFG_AUTO_RESTORE : Field := (fld 0x40 9 9 .st 1).fromCfg
def PORT_CFG_TIME_FOLLOW : Field := (fld 0x40 10 10 .st 0).fromCfg
def PORT_CTL_BRINGUP : Field := fld 0x44 0 0 .w1 0
def PORT_CTL_RETRAIN : Field := fld 0x44 1 1 .w1 0
def PORT_CTL_TAKEDOWN : Field := fld 0x44 2 2 .w1 0
def PORT_CTL_CNT_CLR : Field := fld 0x44 3 3 .w1 0
def PORT_STATE_STATE : Field := fld 0x48 2 0 .ro 0
def PORT_STATE_WIDTH : Field := fld 0x48 5 4 .ro 0
def PORT_STATE_RX_GOOD : Field := fld 0x48 11 8 .ro 0
def PORT_STATE_DOWN_REASON : Field := fld 0x48 19 16 .ro 0x1
def PORT_STATE_LEADER : Field := fld 0x48 20 20 .ro 0
def PEER_DEVICE : Field := fld 0x4C 15 0 .ro 0x0
def PEER_PORT : Field := fld 0x4C 23 16 .ro 0x0
def PEER_VALID : Field := fld 0x4C 31 31 .ro 0
def REPLAY_LIMIT : Field := ((fld 0x50 3 0 .rw 4).rng 1 15).fromCfg
def RETRAIN_LIMIT : Field := ((fld 0x50 11 8 .rw 3).rng 1 15).fromCfg
def REPLAY_MARGIN_NS : Field := ((fld 0x54 31 0 .rw 1000).rng 100 100000).fromCfg
def RETRAIN_TMO_NS : Field := ((fld 0x58 31 0 .rw 12000).rng 4000 1000000).fromCfg
def BRINGUP_TMO_MS : Field := ((fld 0x5C 31 0 .rw 500).rng 10 10000).fromCfg
def CREDIT_AUDIT_TMO_NS : Field := ((fld 0x60 31 0 .rw 8000).rng 1000 1000000).fromCfg
def CREDIT_STALL_TMO_US : Field := ((fld 0x64 31 0 .rw 10000).rng 100 1000000).fromCfg
def BROKEN_HOLD_US : Field := ((fld 0x68 31 0 .rw 1000).rng 0 1000000).fromCfg
def TIME_CFG_INTERVAL_US : Field := ((fld 0x6C 7 0 .rw 10).rng 1 255).fromCfg
def TIME_ASYM_PS : Field := (fld 0x70 31 0 .rw 0).fromCfg
def RTT_NS : Field := fld 0x74 31 0 .ro 0
def TIME_OFFSET_PS : Field := fld 0x78 31 0 .ro 0
def VC_MIN_ODD : Field := (((fld 0x80 9 0 .st 128).arr 0x4 8).rng 66 512).fromCfg
def VC_MIN_EVEN : Field := (((fld 0x80 25 16 .st 128).arr 0x4 8).rng 66 512).fromCfg
def VC_SHARE_MAX : Field := ((fld 0xA0 12 0 .st 4096).rng 0 7136).fromCfg
def LINK_EVENT : Field := fld 0xA4 7 0 .rc 0
def HDR_ERR_CNT : Field := fld 0xB0 31 0 .ro 0
def CRC_ERR_CNT : Field := fld 0xB4 31 0 .ro 0
def REPLAY_CNT : Field := fld 0xB8 31 0 .ro 0
def RETRAIN_CNT : Field := fld 0xBC 31 0 .ro 0
def STOMP_CNT : Field := fld 0xC0 31 0 .ro 0
def SALVAGE_CNT : Field := fld 0xC4 31 0 .ro 0
def AUDIT_FAIL_CNT : Field := fld 0xC8 31 0 .ro 0
def DISCARD_CNT : Field := fld 0xCC 31 0 .ro 0
def FEC_CORR : Field := (fld 0xD0 31 0 .ro 0).arr 0x4 4
def FEC_UNCORR : Field := (fld 0xE0 31 0 .ro 0).arr 0x4 4
/-- All fields of this table. -/
def all : List Field :=
  [PORT_CFG_ROLE, PORT_CFG_RATE, PORT_CFG_WIDTH_MAX, PORT_CFG_AUTO, PORT_CFG_AUTO_RESTORE, PORT_CFG_TIME_FOLLOW, PORT_CTL_BRINGUP, PORT_CTL_RETRAIN, PORT_CTL_TAKEDOWN, PORT_CTL_CNT_CLR, PORT_STATE_STATE, PORT_STATE_WIDTH, PORT_STATE_RX_GOOD, PORT_STATE_DOWN_REASON, PORT_STATE_LEADER, PEER_DEVICE, PEER_PORT, PEER_VALID, REPLAY_LIMIT, RETRAIN_LIMIT, REPLAY_MARGIN_NS, RETRAIN_TMO_NS, BRINGUP_TMO_MS, CREDIT_AUDIT_TMO_NS, CREDIT_STALL_TMO_US, BROKEN_HOLD_US, TIME_CFG_INTERVAL_US, TIME_ASYM_PS, RTT_NS, TIME_OFFSET_PS, VC_MIN_ODD, VC_MIN_EVEN, VC_SHARE_MAX, LINK_EVENT, HDR_ERR_CNT, CRC_ERR_CNT, REPLAY_CNT, RETRAIN_CNT, STOMP_CNT, SALVAGE_CNT] ++
  [AUDIT_FAIL_CNT, DISCARD_CNT, FEC_CORR, FEC_UNCORR]
end Port

/-! ### `Reg.Sw`: the switch core (R177 of spec/05_switch_core.md). -/
namespace Sw
def CE_THRESH_FLITS : Field := (fld 0x40 15 0 .st 1024).fromCfg
def EGR_WEIGHT_LL : Field := ((fld 0x44 7 0 .st 128).rng 1 255).fromCfg
def EGR_WEIGHT_L0 : Field := ((fld 0x44 15 8 .st 64).rng 1 255).fromCfg
def EGR_WEIGHT_L1 : Field := ((fld 0x44 23 16 .st 32).rng 1 255).fromCfg
def EGR_WEIGHT_L2 : Field := ((fld 0x44 31 24 .st 8).rng 1 255).fromCfg
def POOL_USED : Field := fld 0x48 19 0 .ro 0
def POOL_HWM : Field := fld 0x4C 19 0 .ro 0
def SW_CTL_HWM_CLR : Field := fld 0x50 0 0 .w1 0
def SW_CTL_CNT_CLR : Field := fld 0x50 1 1 .w1 0
def SW_EVENT : Field := fld 0x54 4 0 .rc 0
def MC_MISS_CNT : Field := fld 0x58 31 0 .ro 0
def MC_COPY_DROP_CNT : Field := fld 0x5C 31 0 .ro 0
def ECC_CORR_CNT : Field := fld 0x60 31 0 .ro 0
def ECC_UNCORR_CNT : Field := fld 0x64 31 0 .ro 0
def CE_MARK_CNT : Field := (fld 0x1000 31 0 .ro 0).arr 0x4 128
/-- All fields of this table. -/
def all : List Field :=
  [CE_THRESH_FLITS, EGR_WEIGHT_LL, EGR_WEIGHT_L0, EGR_WEIGHT_L1, EGR_WEIGHT_L2, POOL_USED, POOL_HWM, SW_CTL_HWM_CLR, SW_CTL_CNT_CLR, SW_EVENT, MC_MISS_CNT, MC_COPY_DROP_CNT, ECC_CORR_CNT, ECC_UNCORR_CNT, CE_MARK_CNT]
end Sw

/-! ### `Reg.Q`: a lossy queue of the switch core (R178 of spec/05_switch_core.md). -/
namespace Q
def QMAX_KIB : Field := (((fld 0x10000 15 0 .st 2048).arr 0x20 384).rng 1 32768).fromCfg
def RED_W : Field := (((fld 0x10000 19 16 .st 9).arr 0x20 384).rng 1 15).fromCfg
def RED_EN : Field := ((fld 0x10000 24 24 .st 0).arr 0x20 384).fromCfg
def MARK_KIB : Field := (((fld 0x10004 15 0 .st 0).arr 0x20 384).rng 0 32768).fromCfg
def G_MIN_KIB : Field := (((fld 0x10008 15 0 .st 1024).arr 0x20 384).rng 0 32768).fromCfg
def G_MAX_KIB : Field := (((fld 0x10008 31 16 .st 2048).arr 0x20 384).rng 0 32768).fromCfg
def G_MAXP : Field := ((fld 0x1000C 7 0 .st 32).arr 0x20 384).fromCfg
def Y_MIN_KIB : Field := (((fld 0x10010 15 0 .st 512).arr 0x20 384).rng 0 32768).fromCfg
def Y_MAX_KIB : Field := (((fld 0x10010 31 16 .st 1536).arr 0x20 384).rng 0 32768).fromCfg
def Y_MAXP : Field := ((fld 0x10014 7 0 .st 64).arr 0x20 384).fromCfg
def R_MIN_KIB : Field := (((fld 0x10018 15 0 .st 128).arr 0x20 384).rng 0 32768).fromCfg
def R_MAX_KIB : Field := (((fld 0x10018 31 16 .st 512).arr 0x20 384).rng 0 32768).fromCfg
def R_MAXP : Field := ((fld 0x1001C 7 0 .st 128).arr 0x20 384).fromCfg
def DEPTH_FLITS : Field := (fld 0x20000 19 0 .ro 0).arr 0x20 384
def AVG_BYTES : Field := (fld 0x20004 31 0 .ro 0).arr 0x20 384
def TAIL_DROP : Field := (fld 0x20008 31 0 .ro 0).arr 0x20 384
def RED_DROP : Field := (fld 0x2000C 31 0 .ro 0).arr 0x20 384
def PUSHED_OUT : Field := (fld 0x20010 31 0 .ro 0).arr 0x20 384
def PORT_DROP : Field := (fld 0x20014 31 0 .ro 0).arr 0x20 384
def MARKED : Field := (fld 0x20018 31 0 .ro 0).arr 0x20 384
/-- All fields of this table. -/
def all : List Field :=
  [QMAX_KIB, RED_W, RED_EN, MARK_KIB, G_MIN_KIB, G_MAX_KIB, G_MAXP, Y_MIN_KIB, Y_MAX_KIB, Y_MAXP, R_MIN_KIB, R_MAX_KIB, R_MAXP, DEPTH_FLITS, AVG_BYTES, TAIL_DROP, RED_DROP, PUSHED_OUT, PORT_DROP, MARKED]
end Q

/-! ### `Reg.Mir`: a mirror session of the switch core (R179 of spec/05_switch_core.md). -/
namespace Mir
def EN : Field := (fld 0x30000 0 0 .st 0).arr 0x40 16
def SRC_KIND : Field := ((fld 0x30000 2 1 .st 0).arr 0x40 16).rng 0 2
def DEST_PORT : Field := ((fld 0x30000 14 8 .st 0).arr 0x40 16).rng 0 95
def TRUNC_FLITS : Field := ((fld 0x30000 22 16 .st 64).arr 0x40 16).rng 1 64
def SAMPLE_N : Field := ((fld 0x30004 15 0 .st 1).arr 0x40 16).rng 1 65535
def DEST_ADDR : Field := (fld 0x30008 23 0 .st 0).arr 0x40 16
def PORT_MASK : Field := ((fld 0x3000C 31 0 .st 0).arr 0x40 16).arr 0x4 4
def DST_VAL : Field := (fld 0x3001C 23 0 .st 0).arr 0x40 16
def DST_MASK : Field := (fld 0x30020 23 0 .st 0).arr 0x40 16
def SRC_VAL : Field := (fld 0x30024 23 0 .st 0).arr 0x40 16
def SRC_MASK : Field := (fld 0x30028 23 0 .st 0).arr 0x40 16
def FLOWHASH_VAL : Field := (fld 0x3002C 15 0 .st 0).arr 0x40 16
def FLOWHASH_MASK : Field := (fld 0x3002C 31 16 .st 0).arr 0x40 16
def VCLASS_MASK : Field := (fld 0x30030 5 0 .st 0).arr 0x40 16
def COPIES : Field := (fld 0x30034 31 0 .ro 0).arr 0x40 16
def COPY_DROPS : Field := (fld 0x30038 31 0 .ro 0).arr 0x40 16
/-- All fields of this table. -/
def all : List Field :=
  [EN, SRC_KIND, DEST_PORT, TRUNC_FLITS, SAMPLE_N, DEST_ADDR, PORT_MASK, DST_VAL, DST_MASK, SRC_VAL, SRC_MASK, FLOWHASH_VAL, FLOWHASH_MASK, VCLASS_MASK, COPIES, COPY_DROPS]
end Mir

/-! ### `Reg.Mc`: a multicast entry of the switch core (R180 of spec/05_switch_core.md). -/
namespace Mc
def FPORT_MASK : Field := ((fld 0x800000 31 0 .rw 0).arr 0x20 65536).arr 0x4 3
def ATT_MASK : Field := ((fld 0x80000C 31 0 .rw 0).arr 0x20 65536).arr 0x4 2
def MGMT_EP : Field := (fld 0x800014 0 0 .rw 0).arr 0x20 65536
def VALID : Field := (fld 0x80001C 31 31 .rw 0).arr 0x20 65536
/-- All fields of this table. -/
def all : List Field :=
  [FPORT_MASK, ATT_MASK, MGMT_EP, VALID]
end Mc

/-! ### `Reg.AtlasEnt`: an Atlas entry (R185 of spec/06_routing.md). -/
namespace AtlasEnt
def CAND0 : Field := fld 0x0 7 0 .rw 0xff
def CAND1 : Field := fld 0x0 15 8 .rw 0xff
def CAND2 : Field := fld 0x0 23 16 .rw 0xff
def CAND3 : Field := fld 0x0 31 24 .rw 0xff
def CAND4 : Field := fld 0x4 7 0 .rw 0xff
def CAND5 : Field := fld 0x4 15 8 .rw 0xff
def CAND6 : Field := fld 0x4 23 16 .rw 0xff
def CAND7 : Field := fld 0x4 31 24 .rw 0xff
def DIST0 : Field := fld 0x8 1 0 .rw 0
def DIST1 : Field := fld 0x8 3 2 .rw 0
def DIST2 : Field := fld 0x8 5 4 .rw 0
def DIST3 : Field := fld 0x8 7 6 .rw 0
def DIST4 : Field := fld 0x8 9 8 .rw 0
def DIST5 : Field := fld 0x8 11 10 .rw 0
def DIST6 : Field := fld 0x8 13 12 .rw 0
def DIST7 : Field := fld 0x8 15 14 .rw 0
def VALID : Field := fld 0xC 31 31 .rw 0
/-- All fields of this table. -/
def all : List Field :=
  [CAND0, CAND1, CAND2, CAND3, CAND4, CAND5, CAND6, CAND7, DIST0, DIST1, DIST2, DIST3, DIST4, DIST5, DIST6, DIST7, VALID]
end AtlasEnt

/-! ### `Reg.Atlas`: the Atlas unit (R224 of spec/06_routing.md). -/
namespace Atlas
def ATLAS_CTL_VALID0 : Field := fld 0x40 0 0 .rw 0
def ATLAS_CTL_VALID1 : Field := fld 0x40 1 1 .rw 0
def ATLAS_CTL_CNT_CLR : Field := fld 0x40 8 8 .w1 0
def ATLAS_CFG_TAIL_MIN : Field := ((fld 0x44 2 0 .st 1).rng 0 5).fromCfg
def ATLAS_CFG_TAIL_WP : Field := ((fld 0x44 6 4 .st 3).rng 0 5).fromCfg
def ATLAS_CFG_CONG_W : Field := ((fld 0x44 11 8 .st 3).rng 1 8).fromCfg
def WARMUP_FLITS : Field := (fld 0x48 15 0 .st 512).fromCfg
def DIST_PENALTY : Field := (fld 0x48 31 16 .st 128).fromCfg
def RAMBLE_BIAS : Field := (fld 0x4C 15 0 .st 256).fromCfg
def ROUTE_SALT : Field := (fld 0x4C 31 16 .st (Config.devSerialLo % 65536)).fromCfg
def FENCE_CHAN_MAX : Field := ((fld 0x50 12 0 .st 16).rng 1 4096).fromCfg
def FENCE_TMO_US : Field := ((fld 0x54 31 0 .rw 100000).rng 1000 10000000).fromCfg
def FMGT_WAIT_US : Field := ((fld 0x58 31 0 .rw 50).rng 10 10000).fromCfg
def CONTOUR_CFG_EN : Field := (fld 0x5C 0 0 .rw 0).fromCfg
def CONTOUR_PERIOD_US : Field := ((fld 0x60 31 0 .rw 1000).rng 10 10000000).fromCfg
def PORT_DEAD : Field := (fld 0x64 31 0 .ro 0xffffffff).arr 0x4 3
def PORT_AVOID : Field := ((fld 0x70 31 0 .rw 0).arr 0x4 3).fromCfg
def ATLAS_EVENT : Field := fld 0x7C 8 0 .rc 0
def NOROUTE_CNT : Field := fld 0x80 31 0 .ro 0
def BUDGET_DROP_CNT : Field := fld 0x84 31 0 .ro 0
def HOPLIMIT_CNT : Field := fld 0x88 31 0 .ro 0
def NOT_READY_CNT : Field := fld 0x8C 31 0 .ro 0
def FMGT_DROP_CNT : Field := fld 0x90 31 0 .ro 0
def FENCE_FULL_CNT : Field := fld 0x94 31 0 .ro 0
def FENCE_TMO_CNT : Field := fld 0x98 31 0 .ro 0
def FENCE_HELD : Field := fld 0x9C 12 0 .ro 0
def REROUTE_CNT : Field := fld 0xA0 31 0 .ro 0
def RAMBLE_CNT : Field := fld 0xA4 31 0 .ro 0
def MISMATCH_CNT : Field := fld 0xA8 31 0 .ro 0
def ECC_CORR_CNT : Field := fld 0xAC 31 0 .ro 0
def PORT_EST_E : Field := (fld 0x100 15 0 .ro 0).arr 0x4 96
def PORT_EST_WARMING : Field := (fld 0x100 16 16 .ro 0).arr 0x4 96
def WAYPOINT_ENTRY : Field := ((fld 0x19000 31 0 .rw 0).arr 0x4 256).arr 0x10000 2
def WP_N : Field := ((fld 0x1F000 8 0 .rw 0).arr 0x10000 2).rng 0 256
/-- All fields of this table. -/
def all : List Field :=
  [ATLAS_CTL_VALID0, ATLAS_CTL_VALID1, ATLAS_CTL_CNT_CLR, ATLAS_CFG_TAIL_MIN, ATLAS_CFG_TAIL_WP, ATLAS_CFG_CONG_W, WARMUP_FLITS, DIST_PENALTY, RAMBLE_BIAS, ROUTE_SALT, FENCE_CHAN_MAX, FENCE_TMO_US, FMGT_WAIT_US, CONTOUR_CFG_EN, CONTOUR_PERIOD_US, PORT_DEAD, PORT_AVOID, ATLAS_EVENT, NOROUTE_CNT, BUDGET_DROP_CNT, HOPLIMIT_CNT, NOT_READY_CNT, FMGT_DROP_CNT, FENCE_FULL_CNT, FENCE_TMO_CNT, FENCE_HELD, REROUTE_CNT, RAMBLE_CNT, MISMATCH_CNT, ECC_CORR_CNT, PORT_EST_E, PORT_EST_WARMING, WAYPOINT_ENTRY, WP_N]
end Atlas

/-! ### `Reg.Tc`: a transport cluster (R271 of spec/07_transport.md). -/
namespace Tc
def CTX_CFG_EN : Field := fld 0x40 0 0 .rw 0
def CTX_CFG_LOC : Field := fld 0x40 1 1 .rw 0
def CTX_CFG_ATTACH : Field := fld 0x40 13 8 .rw 0
def CTX_BASE_LO : Field := fld 0x44 31 0 .rw 0
def CTX_BASE_HI : Field := fld 0x48 31 0 .rw 0
def CTX_ENTRIES : Field := (fld 0x4C 20 0 .rw 0).rng 0 1044480
def CTX_FAULT_FUNC : Field := (fld 0x50 9 0 .rw 0).fromCfg
def ACK_COALESCE : Field := ((fld 0x54 6 0 .st 16).rng 1 64).fromCfg
def ACK_DELAY_NS : Field := ((fld 0x58 31 0 .st 1000).rng 100 100000).fromCfg
def MISS_BACKOFF_NS : Field := ((fld 0x5C 31 0 .st 2000).rng 100 1000000).fromCfg
def NAK_REPEAT_NS : Field := ((fld 0x60 31 0 .st 8000).rng 1000 1000000).fromCfg
def RTO_DEFAULT_US : Field := ((fld 0x64 19 0 .st 24).rng 4 1000000).fromCfg
def RNR_MAX : Field := ((fld 0x68 7 0 .st 255).rng 1 255).fromCfg
def CC_CUT : Field := ((fld 0x6C 7 0 .st 64).rng 1 255).fromCfg
def CC_CUT_GAP_NS : Field := ((fld 0x70 31 0 .st 4000).rng 500 1000000).fromCfg
def CC_INC_PERIOD_NS : Field := ((fld 0x74 31 0 .st 8000).rng 500 1000000).fromCfg
def CC_AI_MBPS : Field := ((fld 0x78 19 0 .st 5000).rng 1 100000).fromCfg
def CC_MIN_MBPS : Field := ((fld 0x7C 19 0 .st 100).rng 1 10000).fromCfg
def CC_MAX_MBPS : Field := ((fld 0x80 19 0 .st 790000).rng 1000 800000).fromCfg
def CHAN_CMD_OP : Field := fld 0x84 2 0 .rw 0
def CHAN_CMD_GO : Field := fld 0x84 4 4 .w1 0
def CHAN_CMD_CHANNEL : Field := fld 0x88 19 0 .rw 0
def CMD_STATUS_BUSY : Field := fld 0x8C 0 0 .ro 0
def CMD_STATUS_RESULT : Field := fld 0x8C 7 4 .ro 0x0
def CMD_STATUS_GEN : Field := fld 0x8C 15 8 .ro 0x0
def TP_CTL_CNT_CLR : Field := fld 0x90 0 0 .w1 0
def TP_EVENT : Field := fld 0x94 6 0 .rc 0
def HAMPER_USED : Field := fld 0x98 14 0 .ro 1024
def HAMPER_PINNED : Field := fld 0x9C 14 0 .ro 0
def PARK_HELD : Field := fld 0xA0 10 0 .ro 0
def DEV_EVT_ATTACH_LO : Field := (fld 0xA4 31 0 .rw 0).fromCfg
def DEV_EVT_ATTACH_HI : Field := (fld 0xA8 31 0 .rw 0).fromCfg
def CMD_IMAGE : Field := (fld 0x100 31 0 .rw 0).arr 0x4 64
def NAK_SENT_CNT : Field := (fld 0x204 31 0 .ro 0).arr 0x4 10
def NAK_RCVD_CNT : Field := (fld 0x244 31 0 .ro 0).arr 0x4 10
def ACK_SENT_CNT : Field := fld 0x280 31 0 .ro 0
def DUP_CNT : Field := fld 0x284 31 0 .ro 0
def RETX_TMO_CNT : Field := fld 0x288 31 0 .ro 0
def PARKED_CNT : Field := fld 0x28C 31 0 .ro 0
def PARK_DROP_CNT : Field := fld 0x290 31 0 .ro 0
def CTX_FETCH_CNT : Field := fld 0x294 31 0 .ro 0
def CTX_FETCH_FAIL_CNT : Field := fld 0x298 31 0 .ro 0
def EVICT_CNT : Field := fld 0x29C 31 0 .ro 0
def NOCTX_DROP_CNT : Field := fld 0x2A0 31 0 .ro 0
def MISMATCH_CNT : Field := fld 0x2A4 31 0 .ro 0
def CE_RCVD_CNT : Field := fld 0x2A8 31 0 .ro 0
def STALE_ACK_CNT : Field := fld 0x2AC 31 0 .ro 0
def STOMP_RCVD_CNT : Field := fld 0x2B0 31 0 .ro 0
def MALFORMED_CNT : Field := fld 0x2B4 31 0 .ro 0
def HAMPER_FULL_CNT : Field := fld 0x2B8 31 0 .ro 0
/-- All fields of this table. -/
def all : List Field :=
  [CTX_CFG_EN, CTX_CFG_LOC, CTX_CFG_ATTACH, CTX_BASE_LO, CTX_BASE_HI, CTX_ENTRIES, CTX_FAULT_FUNC, ACK_COALESCE, ACK_DELAY_NS, MISS_BACKOFF_NS, NAK_REPEAT_NS, RTO_DEFAULT_US, RNR_MAX, CC_CUT, CC_CUT_GAP_NS, CC_INC_PERIOD_NS, CC_AI_MBPS, CC_MIN_MBPS, CC_MAX_MBPS, CHAN_CMD_OP, CHAN_CMD_GO, CHAN_CMD_CHANNEL, CMD_STATUS_BUSY, CMD_STATUS_RESULT, CMD_STATUS_GEN, TP_CTL_CNT_CLR, TP_EVENT, HAMPER_USED, HAMPER_PINNED, PARK_HELD, DEV_EVT_ATTACH_LO, DEV_EVT_ATTACH_HI, CMD_IMAGE, NAK_SENT_CNT, NAK_RCVD_CNT, ACK_SENT_CNT, DUP_CNT, RETX_TMO_CNT, PARKED_CNT, PARK_DROP_CNT] ++
  [CTX_FETCH_CNT, CTX_FETCH_FAIL_CNT, EVICT_CNT, NOCTX_DROP_CNT, MISMATCH_CNT, CE_RCVD_CNT, STALE_ACK_CNT, STOMP_RCVD_CNT, MALFORMED_CNT, HAMPER_FULL_CNT]
end Tc

/-! ### `Reg.FnTab`: the function table in transport cluster 0 (R307 of spec/08_work_queues.md). -/
namespace FnTab
def WATCH_POLL_US : Field := (((fld 0xAC 19 0 .rw 1000).rng 10 1000000).fromCfg).orZero
def FN_WQ_FIRST : Field := ((fld 0x1000 15 0 .rw 0).arr 0x20 1024).fromCfg
def FN_WQ_COUNT : Field := (((fld 0x1000 28 16 .rw 0).arr 0x20 1024).rng 0 4096).fromCfg
def FN_CQ_FIRST : Field := ((fld 0x1004 15 0 .rw 0).arr 0x20 1024).fromCfg
def FN_CQ_COUNT : Field := (((fld 0x1004 28 16 .rw 0).arr 0x20 1024).rng 0 4096).fromCfg
def FN_CHAN_FIRST : Field := ((fld 0x1008 19 0 .rw 0).arr 0x20 1024).fromCfg
def FN_CHAN_COUNT : Field := (((fld 0x100C 20 0 .rw 0).arr 0x20 1024).rng 0 1044480).fromCfg
def FN_FN_WEIGHT : Field := (((fld 0x1010 7 0 .rw 16).arr 0x20 1024).rng 1 255).fromCfg
def FN_FN_BURST : Field := (((fld 0x1010 24 16 .rw 8).arr 0x20 1024).rng 1 256).fromCfg
def FN_PRIV : Field := ((fld 0x1014 0 0 .rw 0).arr 0x20 1024).fromCfg
def FN_VALID : Field := ((fld 0x101C 31 31 .rw 0).arr 0x20 1024).fromCfg
/-- All fields of this table. -/
def all : List Field :=
  [WATCH_POLL_US, FN_WQ_FIRST, FN_WQ_COUNT, FN_CQ_FIRST, FN_CQ_COUNT, FN_CHAN_FIRST, FN_CHAN_COUNT, FN_FN_WEIGHT, FN_FN_BURST, FN_PRIV, FN_VALID]
end FnTab

/-! ### `Reg.Eng`: a transport engine (R308 of spec/08_work_queues.md). -/
namespace Eng
def ARB_FN : Field := fld 0x40 9 0 .ro 0
def ARB_WQ : Field := fld 0x44 15 0 .ro 0
def ROUND_CNT : Field := fld 0x48 31 0 .ro 0
def PF_BUF_USED : Field := fld 0x4C 11 0 .ro 0
def ENG_CTL_CNT_CLR : Field := fld 0x50 0 0 .w1 0
def TAKEN_CNT : Field := fld 0x54 31 0 .ro 0
def ERR_COMPL_CNT : Field := fld 0x58 31 0 .ro 0
def DB_MMIO_CNT : Field := fld 0x5C 31 0 .ro 0
def DB_WATCH_CNT : Field := fld 0x60 31 0 .ro 0
def WATCH_POLL_CNT : Field := fld 0x64 31 0 .ro 0
def BAD_PI_CNT : Field := fld 0x68 31 0 .ro 0
def CQ_FAULT_CNT : Field := fld 0x6C 31 0 .ro 0
/-- All fields of this table. -/
def all : List Field :=
  [ARB_FN, ARB_WQ, ROUND_CNT, PF_BUF_USED, ENG_CTL_CNT_CLR, TAKEN_CNT, ERR_COMPL_CNT, DB_MMIO_CNT, DB_WATCH_CNT, WATCH_POLL_CNT, BAD_PI_CNT, CQ_FAULT_CNT]
end Eng

/-! ### `Reg.Bar2`: BAR2 of a function (R309 of spec/08_work_queues.md). -/
namespace Bar2
def FN_STATUS_READY : Field := fld 0x0 0 0 .ro 0
def FN_STATUS_RESETTING : Field := fld 0x0 1 1 .ro 0
def FN_CTL_QUEUE_RESET : Field := fld 0x4 0 0 .w1 0
def WQ_COUNT : Field := fld 0x8 12 0 .ro 0
def CQ_COUNT : Field := fld 0xC 12 0 .ro 0
def CHAN_FIRST : Field := fld 0x10 19 0 .ro 0
def CHAN_COUNT : Field := fld 0x14 20 0 .ro 0
def NOTIFY_CQ_CQ : Field := fld 0x18 11 0 .rw 0
def NOTIFY_CQ_VALID : Field := fld 0x18 31 31 .rw 0
def CMD_OP : Field := fld 0x20 3 0 .rw 0x0
def CMD_GO : Field := fld 0x20 8 8 .w1 0
def CMD_ARG : Field := fld 0x24 19 0 .rw 0
def CMD_STATUS_BUSY : Field := fld 0x28 0 0 .ro 0
def CMD_STATUS_RESULT : Field := fld 0x28 7 4 .ro 0x0
def CMD_STATUS_GEN : Field := fld 0x28 15 8 .ro 0x0
def CMD_IMAGE : Field := (fld 0x40 31 0 .rw 0).arr 0x4 64
def EQ_BASE_LO : Field := fld 0x200 31 0 .rw 0
def EQ_BASE_HI : Field := fld 0x204 31 0 .rw 0
def EQ_CFG_LOG_SIZE : Field := (fld 0x208 3 0 .rw 0x4).rng 4 16
def EQ_CFG_EN : Field := fld 0x208 8 8 .rw 0
def EQ_CFG_VEC : Field := fld 0x208 26 16 .rw 0
def EQ_PI : Field := fld 0x20C 31 0 .ro 0
def EQ_CI : Field := fld 0x210 31 0 .rw 0
def EQ_ARM : Field := fld 0x214 0 0 .w1 0
def EQ_OVERFLOW : Field := fld 0x218 31 0 .ro 0
def WQ_PI : Field := (fld 0x10000 31 0 .rw 0).arr 0x20 4096
def WQ_CI : Field := (fld 0x10004 31 0 .ro 0).arr 0x20 4096
def CQ_CI : Field := (fld 0x10008 31 0 .rw 0).arr 0x20 4096
def CQ_PI : Field := (fld 0x1000C 31 0 .ro 0).arr 0x20 4096
def CQ_ARM : Field := (fld 0x10010 0 0 .w1 0).arr 0x20 4096
/-- All fields of this table. -/
def all : List Field :=
  [FN_STATUS_READY, FN_STATUS_RESETTING, FN_CTL_QUEUE_RESET, WQ_COUNT, CQ_COUNT, CHAN_FIRST, CHAN_COUNT, NOTIFY_CQ_CQ, NOTIFY_CQ_VALID, CMD_OP, CMD_GO, CMD_ARG, CMD_STATUS_BUSY, CMD_STATUS_RESULT, CMD_STATUS_GEN, CMD_IMAGE, EQ_BASE_LO, EQ_BASE_HI, EQ_CFG_LOG_SIZE, EQ_CFG_EN, EQ_CFG_VEC, EQ_PI, EQ_CI, EQ_ARM, EQ_OVERFLOW, WQ_PI, WQ_CI, CQ_CI, CQ_PI, CQ_ARM]
end Bar2

/-! ### `Reg.Msix`: pending bits and table of the queue BAR, 2,048 vectors (R412 of spec/12_host_ports.md; layout and reset
values of PCIe 6.0, notes/assumptions/72.md). -/
namespace Msix
def PBA : Field := (fld 0x34000 31 0 .ro 0).arr 4 64
def ADDR_LO : Field := (fld 0x38000 31 2 .rw 0).arr 16 2048
def ADDR_HI : Field := (fld 0x38004 31 0 .rw 0).arr 16 2048
def DATA : Field := (fld 0x38008 31 0 .rw 0).arr 16 2048
def MASK : Field := (fld 0x3800C 0 0 .rw 1).arr 16 2048
/-- All fields of this table. -/
def all : List Field :=
  [PBA, ADDR_LO, ADDR_HI, DATA, MASK]
end Msix

/-! ### `Reg.Mt`: the matching unit (R342 of spec/09_matching.md). -/
namespace Mt
def EAGER_BYTES : Field := ((fld 0x40 13 0 .st 4096).rng 0 8192).fromCfg
def DOM_PR_MAX : Field := ((fld 0x44 15 0 .st 2048).rng 1 32768).fromCfg
def DOM_UX_MAX : Field := ((fld 0x48 14 0 .st 1024).rng 1 16384).fromCfg
def MT_CTL_CNT_CLR : Field := fld 0x4C 0 0 .w1 0
def MT_EVENT : Field := fld 0x50 4 0 .rc 0
def PR_ON_DIE : Field := fld 0x54 15 0 .ro 0
def UX_ON_DIE : Field := fld 0x58 14 0 .ro 0
def HEAD_BOUND_CNT : Field := fld 0x60 31 0 .ro 0
def HEAD_FILED_CNT : Field := fld 0x64 31 0 .ro 0
def POST_BOUND_CNT : Field := fld 0x68 31 0 .ro 0
def POST_FILED_CNT : Field := fld 0x6C 31 0 .ro 0
def OVF_SEARCH_CNT : Field := fld 0x70 31 0 .ro 0
def RNDV_JOB_CNT : Field := fld 0x74 31 0 .ro 0
def TRUNC_CNT : Field := fld 0x78 31 0 .ro 0
def CANCEL_CNT : Field := fld 0x7C 31 0 .ro 0
def NOSPACE_NAK_CNT : Field := fld 0x80 31 0 .ro 0
def FIN_STALE_CNT : Field := fld 0x84 31 0 .ro 0
def RQ_STALL_CNT : Field := fld 0x88 31 0 .ro 0
def ABORT_CNT : Field := fld 0x8C 31 0 .ro 0
def FN_DOM_DOM_FIRST : Field := ((fld 0x1000 11 0 .rw 0).arr 0x4 1024).fromCfg
def FN_DOM_DOM_COUNT : Field := (((fld 0x1000 24 16 .rw 0).arr 0x4 1024).rng 0 256).fromCfg
/-- All fields of this table. -/
def all : List Field :=
  [EAGER_BYTES, DOM_PR_MAX, DOM_UX_MAX, MT_CTL_CNT_CLR, MT_EVENT, PR_ON_DIE, UX_ON_DIE, HEAD_BOUND_CNT, HEAD_FILED_CNT, POST_BOUND_CNT, POST_FILED_CNT, OVF_SEARCH_CNT, RNDV_JOB_CNT, TRUNC_CNT, CANCEL_CNT, NOSPACE_NAK_CNT, FIN_STALE_CNT, RQ_STALL_CNT, ABORT_CNT, FN_DOM_DOM_FIRST, FN_DOM_DOM_COUNT]
end Mt

/-! ### `Reg.Dom`: the domain area of a function (BAR2) (R344 of spec/09_matching.md). -/
namespace Dom
def RQ_PI : Field := (fld 0x30000 31 0 .rw 0).arr 0x40 256
def RQ_CI : Field := (fld 0x30004 31 0 .ro 0).arr 0x40 256
def RQ_BASE_LO : Field := (fld 0x30008 31 0 .rw 0).arr 0x40 256
def RQ_BASE_HI : Field := (fld 0x3000C 31 0 .rw 0).arr 0x40 256
def DOM_CFG_LOG_SIZE : Field := ((fld 0x30010 3 0 .rw 0x4).arr 0x40 256).rng 4 16
def DOM_CFG_EN : Field := (fld 0x30010 8 8 .rw 0).arr 0x40 256
def DOM_CFG_CQ : Field := (fld 0x30010 27 16 .rw 0).arr 0x40 256
def CI_WB_ADDR_LO : Field := (fld 0x30018 31 0 .rw 0).arr 0x40 256
def CI_WB_ADDR_HI : Field := (fld 0x3001C 31 0 .rw 0).arr 0x40 256
def UX_BASE_LO : Field := (fld 0x30020 31 0 .rw 0).arr 0x40 256
def UX_BASE_HI : Field := (fld 0x30024 31 0 .rw 0).arr 0x40 256
def UX_SLOTS : Field := ((fld 0x30028 12 0 .rw 0).arr 0x40 256).rng 0 4096
def OVF_ENTRIES : Field := (fld 0x3002C 19 0 .rw 0).arr 0x40 256
def OVF_BASE_LO : Field := (fld 0x30030 31 0 .rw 0).arr 0x40 256
def OVF_BASE_HI : Field := (fld 0x30034 31 0 .rw 0).arr 0x40 256
def DOM_STATUS_UX_SLOTS_USED : Field := (fld 0x30038 12 0 .ro 0).arr 0x40 256
def DOM_STATUS_PR_IN_OVF : Field := (fld 0x30038 16 16 .ro 0).arr 0x40 256
def DOM_STATUS_UX_IN_OVF : Field := (fld 0x30038 17 17 .ro 0).arr 0x40 256
def DOM_STATUS_OVF_FULL : Field := (fld 0x30038 18 18 .ro 0).arr 0x40 256
def DOM_STATUS_CFG_ERR : Field := (fld 0x30038 19 19 .ro 0).arr 0x40 256
def OVF_USED : Field := (fld 0x3003C 31 0 .ro 0).arr 0x40 256
/-- All fields of this table. -/
def all : List Field :=
  [RQ_PI, RQ_CI, RQ_BASE_LO, RQ_BASE_HI, DOM_CFG_LOG_SIZE, DOM_CFG_EN, DOM_CFG_CQ, CI_WB_ADDR_LO, CI_WB_ADDR_HI, UX_BASE_LO, UX_BASE_HI, UX_SLOTS, OVF_ENTRIES, OVF_BASE_LO, OVF_BASE_HI, DOM_STATUS_UX_SLOTS_USED, DOM_STATUS_PR_IN_OVF, DOM_STATUS_UX_IN_OVF, DOM_STATUS_OVF_FULL, DOM_STATUS_CFG_ERR, OVF_USED]
end Dom

/-! ### `Reg.Out`: an Outing entry of the collective unit (R347 of spec/10_collectives.md). -/
namespace Out
def OID : Field := (fld 0x10000 19 0 .rw 0).arr 0x200 256
def GEN : Field := ((fld 0x10000 31 24 .rw 0).arr 0x200 256).rng 1 255
def PARENT : Field := (fld 0x10004 15 0 .rw 0).arr 0x200 256
def UP_SLOT : Field := (fld 0x10004 21 16 .rw 0).arr 0x200 256
def ROOT : Field := (fld 0x10004 24 24 .rw 0).arr 0x200 256
def DEPTH : Field := ((fld 0x10008 4 0 .rw 4).arr 0x200 256).rng 1 16
def ORDERED_OK : Field := (fld 0x10008 8 8 .rw 1).arr 0x200 256
def HEADROOM : Field := ((fld 0x10008 20 16 .rw 0).arr 0x200 256).rng 0 20
def ROUTE_MODE : Field := (fld 0x10008 25 24 .rw 1).arr 0x200 256
def STATE : Field := (fld 0x1000C 1 0 .ro 0).arr 0x200 256
def ABORT_CAUSE : Field := (fld 0x1000C 10 8 .ro 0).arr 0x200 256
def NEXT_CALL : Field := (fld 0x10010 15 0 .ro 0).arr 0x200 256
def BASKET_UNITS : Field := (fld 0x10014 12 0 .ro 0).arr 0x200 256
def SEG_CNT : Field := (fld 0x10018 23 0 .ro 0).arr 0x200 256
def CHILD_KIND : Field := ((fld 0x10100 1 0 .rw 0).arr 0x200 256).arr 0x4 64
def CHILD_ID : Field := ((fld 0x10100 31 16 .rw 0).arr 0x200 256).arr 0x4 64
/-- All fields of this table. -/
def all : List Field :=
  [OID, GEN, PARENT, UP_SLOT, ROOT, DEPTH, ORDERED_OK, HEADROOM, ROUTE_MODE, STATE, ABORT_CAUSE, NEXT_CALL, BASKET_UNITS, SEG_CNT, CHILD_KIND, CHILD_ID]
end Out

/-! ### `Reg.Cl`: the collective unit (R373 of spec/10_collectives.md). -/
namespace Cl
def OUT_CMD_OP : Field := fld 0x40 3 0 .rw 0x0
def OUT_CMD_GO : Field := fld 0x40 8 8 .w1 0
def OUT_CMD_SLOT : Field := fld 0x44 7 0 .rw 0
def OUT_STATUS_BUSY : Field := fld 0x48 0 0 .ro 0
def OUT_STATUS_RESULT : Field := fld 0x48 7 4 .ro 0x0
def COLL_RTO_US : Field := ((fld 0x4C 19 0 .st 50).rng 4 1000000).fromCfg
def COLL_RETRY_MAX : Field := ((fld 0x50 3 0 .st 6).rng 1 15).fromCfg
def BASKET_FREE : Field := fld 0x54 12 0 .ro 4096
def CL_CTL_CNT_CLR : Field := fld 0x58 0 0 .w1 0
def CL_EVENT : Field := fld 0x5C 3 0 .rc 0
def SEG_UP_CNT : Field := fld 0x60 31 0 .ro 0
def SEG_DOWN_CNT : Field := fld 0x64 31 0 .ro 0
def COLL_RETX_CNT : Field := fld 0x68 31 0 .ro 0
def COLL_DUP_CNT : Field := fld 0x6C 31 0 .ro 0
def COLL_DISCARD_CNT : Field := fld 0x70 31 0 .ro 0
def ABORT_CNT : Field := fld 0x74 31 0 .ro 0
def CLIP_CNT : Field := fld 0x78 31 0 .ro 0
/-- All fields of this table. -/
def all : List Field :=
  [OUT_CMD_OP, OUT_CMD_GO, OUT_CMD_SLOT, OUT_STATUS_BUSY, OUT_STATUS_RESULT, COLL_RTO_US, COLL_RETRY_MAX, BASKET_FREE, CL_CTL_CNT_CLR, CL_EVENT, SEG_UP_CNT, SEG_DOWN_CNT, COLL_RETX_CNT, COLL_DUP_CNT, COLL_DISCARD_CNT, ABORT_CNT, CLIP_CNT]
end Cl

/-! ### `Reg.Xl`: the Compass unit (R400 of spec/11_translation.md). -/
namespace Xl
def KEY_CFG_EN : Field := fld 0x40 0 0 .rw 0
def KEY_TABLE_BASE_LO : Field := fld 0x44 31 0 .rw 0
def KEY_TABLE_BASE_HI : Field := fld 0x48 31 0 .rw 0
def KEY_ENTRIES : Field := (fld 0x4C 20 0 .rw 0).rng 0 1048576
def XL_CFG_SPEC_EN : Field := (fld 0x50 0 0 .st 1).fromCfg
def XL_CTL_CNT_CLR : Field := fld 0x54 0 0 .w1 0
def XL_CTL_FLOG_CLR : Field := fld 0x54 1 1 .w1 0
def XL_EVENT : Field := fld 0x58 5 0 .rc 0
def FLOG_PI : Field := fld 0x5C 31 0 .ro 0
def FLOG_CI : Field := fld 0x60 31 0 .rw 0
def FLOG_LOST : Field := fld 0x64 31 0 .ro 0
def TLB_HIT_CNT : Field := fld 0x80 31 0 .ro 0
def TLB_MISS_CNT : Field := fld 0x84 31 0 .ro 0
def WALK_READ_CNT : Field := fld 0x88 31 0 .ro 0
def FAULT_CNT : Field := fld 0x8C 31 0 .ro 0
def SPEC_DROP_CNT : Field := fld 0x90 31 0 .ro 0
def KEY_MISS_CNT : Field := fld 0x94 31 0 .ro 0
def KEY_FAIL_CNT : Field := fld 0x98 31 0 .ro 0
def INVAL_CNT : Field := fld 0x9C 31 0 .ro 0
def ECC_CORR_CNT : Field := fld 0xA0 31 0 .ro 0
def ECC_UNCORR_CNT : Field := fld 0xA4 31 0 .ro 0
/-- All fields of this table. -/
def all : List Field :=
  [KEY_CFG_EN, KEY_TABLE_BASE_LO, KEY_TABLE_BASE_HI, KEY_ENTRIES, XL_CFG_SPEC_EN, XL_CTL_CNT_CLR, XL_CTL_FLOG_CLR, XL_EVENT, FLOG_PI, FLOG_CI, FLOG_LOST, TLB_HIT_CNT, TLB_MISS_CNT, WALK_READ_CNT, FAULT_CNT, SPEC_DROP_CNT, KEY_MISS_CNT, KEY_FAIL_CNT, INVAL_CNT, ECC_CORR_CNT, ECC_UNCORR_CNT]
end Xl

/-! ### `Reg.FnXl`: an FN_XLATE entry of Compass (R401 of spec/11_translation.md). -/
namespace FnXl
def VALID : Field := ((fld 0x1000 0 0 .st 0).arr 0x20 1024).fromCfg
def S1_EN : Field := ((fld 0x1000 1 1 .st 0).arr 0x20 1024).fromCfg
def S1_IA_BITS : Field := (((fld 0x1000 13 8 .st 48).arr 0x20 1024).rng 40 56).fromCfg
def PARTITION : Field := ((fld 0x1000 23 16 .st 0).arr 0x20 1024).fromCfg
def S1_ROOT_LO : Field := ((fld 0x1008 31 0 .st 0).arr 0x20 1024).fromCfg
def S1_ROOT_HI : Field := ((fld 0x100C 31 0 .st 0).arr 0x20 1024).fromCfg
def KEY_FIRST : Field := ((fld 0x1010 19 0 .st 0).arr 0x20 1024).fromCfg
def KEY_COUNT : Field := (((fld 0x1014 20 0 .st 0).arr 0x20 1024).rng 0 1048576).fromCfg
/-- All fields of this table. -/
def all : List Field :=
  [VALID, S1_EN, S1_IA_BITS, PARTITION, S1_ROOT_LO, S1_ROOT_HI, KEY_FIRST, KEY_COUNT]
end FnXl

/-! ### `Reg.Part`: a PART entry of Compass (R402 of spec/11_translation.md). -/
namespace Part
def S2_EN : Field := ((fld 0x9000 0 0 .st 0).arr 0x10 256).fromCfg
def S2_IA_BITS : Field := (((fld 0x9000 13 8 .st 48).arr 0x10 256).rng 40 56).fromCfg
def S2_ROOT_LO : Field := ((fld 0x9008 31 0 .st 0).arr 0x10 256).fromCfg
def S2_ROOT_HI : Field := ((fld 0x900C 31 0 .st 0).arr 0x10 256).fromCfg
/-- All fields of this table. -/
def all : List Field :=
  [S2_EN, S2_IA_BITS, S2_ROOT_LO, S2_ROOT_HI]
end Part

/-! ### `Reg.Flog`: a fault-log record of Compass (R403 of spec/11_translation.md). -/
namespace Flog
def REASON : Field := (fld 0xA000 7 0 .ro 0).arr 0x20 256
def STAGE : Field := (fld 0xA000 8 8 .ro 0).arr 0x20 256
def LEVEL : Field := (fld 0xA000 10 9 .ro 0).arr 0x20 256
def NESTED : Field := (fld 0xA000 11 11 .ro 0).arr 0x20 256
def S1_LEVEL : Field := (fld 0xA000 13 12 .ro 0).arr 0x20 256
def WRITE : Field := (fld 0xA000 14 14 .ro 0).arr 0x20 256
def REMOTE : Field := (fld 0xA000 15 15 .ro 0).arr 0x20 256
def FUNC : Field := (fld 0xA000 25 16 .ro 0).arr 0x20 256
def VALID : Field := (fld 0xA000 31 31 .ro 0).arr 0x20 256
def PARTITION : Field := (fld 0xA004 7 0 .ro 0).arr 0x20 256
def KEY_INDEX : Field := (fld 0xA004 31 8 .ro 0).arr 0x20 256
def INPUT_ADDR_LO : Field := (fld 0xA008 31 0 .ro 0).arr 0x20 256
def INPUT_ADDR_HI : Field := (fld 0xA00C 31 0 .ro 0).arr 0x20 256
def VA_LO : Field := (fld 0xA010 31 0 .ro 0).arr 0x20 256
def VA_HI : Field := (fld 0xA014 31 0 .ro 0).arr 0x20 256
def ENTRY_ADDR_LO : Field := (fld 0xA018 31 0 .ro 0).arr 0x20 256
def ENTRY_ADDR_HI : Field := (fld 0xA01C 31 0 .ro 0).arr 0x20 256
/-- All fields of this table. -/
def all : List Field :=
  [REASON, STAGE, LEVEL, NESTED, S1_LEVEL, WRITE, REMOTE, FUNC, VALID, PARTITION, KEY_INDEX, INPUT_ADDR_LO, INPUT_ADDR_HI, VA_LO, VA_HI, ENTRY_ADDR_LO, ENTRY_ADDR_HI]
end Flog

/-! ### `Reg.KeyBar`: the key registers of BAR2 (R404 of spec/11_translation.md). -/
namespace KeyBar
def KEY_CMD_OP : Field := fld 0x300 3 0 .rw 0x0
def KEY_CMD_GO : Field := fld 0x300 8 8 .w1 0
def KEY_CMD_KEY : Field := fld 0x304 31 0 .rw 0
def KEY_STATUS_BUSY : Field := fld 0x308 0 0 .ro 0
def KEY_STATUS_RESULT : Field := fld 0x308 7 4 .ro 0x0
def KEY_IMAGE : Field := (fld 0x320 31 0 .rw 0).arr 0x4 8
/-- All fields of this table. -/
def all : List Field :=
  [KEY_CMD_OP, KEY_CMD_GO, KEY_CMD_KEY, KEY_STATUS_BUSY, KEY_STATUS_RESULT, KEY_IMAGE]
end KeyBar

/-! ### `Reg.Mac`: a host macro (R435 of spec/12_host_ports.md). -/
namespace Mac
def MAC_CFG_BIFURC : Field := ((fld 0x40 1 0 .st 2).rng 0 2).fromCfg
def MAC_CFG_MAX_RATE : Field := ((fld 0x40 6 4 .st 5).rng 0 5).fromCfg
def MAC_CFG_SRIS : Field := (fld 0x40 8 8 .st 0).fromCfg
/-- All fields of this table. -/
def all : List Field :=
  [MAC_CFG_BIFURC, MAC_CFG_MAX_RATE, MAC_CFG_SRIS]
end Mac

/-! ### `Reg.Att`: a host attachment (R436 of spec/12_host_ports.md). -/
namespace Att
def ATT_CFG_ROLE : Field := ((fld 0x40 1 0 .st 0).rng 0 2).fromCfg
def ATT_CFG_OWNED : Field := (fld 0x40 4 4 .st 0).fromCfg
def ATT_CFG_APT_EN : Field := (fld 0x40 8 8 .st 0).fromCfg
def VF_MAX : Field := (fld 0x44 5 0 .st 0).fromCfg
def VF_FIRST : Field := ((fld 0x44 25 16 .st 64).rng 64 1023).fromCfg
def FAR_BAR_LOG : Field := (((fld 0x48 5 0 .st 0).rng 20 44).fromCfg).orZero
def FAR_TMO_US : Field := ((fld 0x4C 21 0 .rw 40).rng 1 4000000).fromCfg
def FAR_READ_MAX : Field := ((fld 0x50 8 0 .rw 256).rng 1 256).fromCfg
def TUN_FUNC : Field := (fld 0x54 9 0 .rw 0).fromCfg
def TUN_EN : Field := (fld 0x54 16 16 .rw 0).fromCfg
def TUN_MODE : Field := ((fld 0x54 21 20 .rw 1).rng 0 2).fromCfg
def TUN_METER : Field := (fld 0x58 13 0 .rw 0).fromCfg
def TUN_METER_EN : Field := (fld 0x58 14 14 .rw 0).fromCfg
def ATT_STATE_LINK : Field := fld 0x5C 2 0 .ro 0
def ATT_STATE_RATE : Field := fld 0x5C 6 4 .ro 0
def ATT_STATE_WIDTH : Field := fld 0x5C 12 8 .ro 0
def ATT_STATE_HOST_READY : Field := fld 0x5C 16 16 .ro 0
def ATT_STATE_CXL : Field := fld 0x5C 17 17 .ro 0
def BIND_VCS : Field := fld 0x60 5 0 .ro 0x3f
def BIND_VALID : Field := fld 0x60 7 7 .ro 0
def BIND_VPPB : Field := fld 0x60 12 8 .ro 0
def ATT_CTL_DPC_RELEASE : Field := fld 0x64 0 0 .w1 0
def ATT_CTL_CNT_CLR : Field := fld 0x64 1 1 .w1 0
def ATT_EVENT : Field := fld 0x68 7 0 .rc 0
def FAR_READ_CNT : Field := fld 0x80 31 0 .ro 0
def FAR_WRITE_CNT : Field := fld 0x84 31 0 .ro 0
def FAR_TMO_CNT : Field := fld 0x88 31 0 .ro 0
def FAR_LATE_CNT : Field := fld 0x8C 31 0 .ro 0
def FAR_UR_CNT : Field := fld 0x90 31 0 .ro 0
def FAR_DROP_CNT : Field := fld 0x94 31 0 .ro 0
def TUN_TX_CNT : Field := fld 0x98 31 0 .ro 0
def TUN_RX_CNT : Field := fld 0x9C 31 0 .ro 0
def TUN_DROP_CNT : Field := fld 0xA0 31 0 .ro 0
def UNALLOC_CNT : Field := fld 0xA4 31 0 .ro 0
def TUN_MAC_LO : Field := (fld 0x400 31 0 .rw 0).arr 0x8 16
def TUN_MAC_HI : Field := (fld 0x404 15 0 .rw 0).arr 0x8 16
def TUN_MAC_FUNC : Field := (fld 0x404 25 16 .rw 0).arr 0x8 16
def TUN_MAC_VALID : Field := (fld 0x404 31 31 .rw 0).arr 0x8 16
/-- All fields of this table. -/
def all : List Field :=
  [ATT_CFG_ROLE, ATT_CFG_OWNED, ATT_CFG_APT_EN, VF_MAX, VF_FIRST, FAR_BAR_LOG, FAR_TMO_US, FAR_READ_MAX, TUN_FUNC, TUN_EN, TUN_MODE, TUN_METER, TUN_METER_EN, ATT_STATE_LINK, ATT_STATE_RATE, ATT_STATE_WIDTH, ATT_STATE_HOST_READY, ATT_STATE_CXL, BIND_VCS, BIND_VALID, BIND_VPPB, ATT_CTL_DPC_RELEASE, ATT_CTL_CNT_CLR, ATT_EVENT, FAR_READ_CNT, FAR_WRITE_CNT, FAR_TMO_CNT, FAR_LATE_CNT, FAR_UR_CNT, FAR_DROP_CNT, TUN_TX_CNT, TUN_RX_CNT, TUN_DROP_CNT, UNALLOC_CNT, TUN_MAC_LO, TUN_MAC_HI, TUN_MAC_FUNC, TUN_MAC_VALID]
end Att

/-! ### `Reg.FarWin`: a far-window entry of an attachment (R437 of spec/12_host_ports.md). -/
namespace FarWin
def VALID : Field := (fld 0x100 0 0 .rw 0).arr 0x20 16
def RD_EN : Field := (fld 0x100 1 1 .rw 0).arr 0x20 16
def WR_EN : Field := (fld 0x100 2 2 .rw 0).arr 0x20 16
def LOG_SIZE : Field := ((fld 0x100 13 8 .rw 0).arr 0x20 16).rng 12 44
def CHANNEL : Field := (fld 0x104 19 0 .rw 0).arr 0x20 16
def BASE_LO : Field := (fld 0x108 31 0 .rw 0).arr 0x20 16
def BASE_HI : Field := (fld 0x10C 31 0 .rw 0).arr 0x20 16
def RADDR_LO : Field := (fld 0x110 31 0 .rw 0).arr 0x20 16
def RADDR_HI : Field := (fld 0x114 31 0 .rw 0).arr 0x20 16
def RKEY : Field := (fld 0x118 31 0 .rw 0).arr 0x20 16
/-- All fields of this table. -/
def all : List Field :=
  [VALID, RD_EN, WR_EN, LOG_SIZE, CHANNEL, BASE_LO, BASE_HI, RADDR_LO, RADDR_HI, RKEY]
end FarWin

/-! ### `Reg.Claim`: a claim entry of an attachment (R438 of spec/12_host_ports.md). -/
namespace Claim
def DPA_BASE_LO : Field := (fld 0x500 31 0 .rw 0).arr 0x10 8
def DPA_BASE_HI : Field := (fld 0x504 31 0 .rw 0).arr 0x10 8
def EXT_FIRST : Field := ((fld 0x508 16 0 .rw 0).arr 0x10 8).rng 65536 131071
def EXT_COUNT : Field := ((fld 0x50C 16 0 .rw 0).arr 0x10 8).rng 1 65536
def VALID : Field := (fld 0x50C 31 31 .rw 0).arr 0x10 8
/-- All fields of this table. -/
def all : List Field :=
  [DPA_BASE_LO, DPA_BASE_HI, EXT_FIRST, EXT_COUNT, VALID]
end Claim

/-! ### `Reg.Trq`: the tunnel queue registers of BAR2 (R439 of spec/12_host_ports.md). -/
namespace Trq
def TRQ_BASE_LO : Field := fld 0x400 31 0 .rw 0
def TRQ_BASE_HI : Field := fld 0x404 31 0 .rw 0
def TRQ_CFG_LOG_SIZE : Field := (fld 0x408 3 0 .rw 0x4).rng 4 16
def TRQ_CFG_EN : Field := fld 0x408 8 8 .rw 0
def TRQ_CFG_CQ : Field := fld 0x408 27 16 .rw 0
def TRQ_PI : Field := fld 0x40C 31 0 .rw 0
def TRQ_CI : Field := fld 0x410 31 0 .ro 0
/-- All fields of this table. -/
def all : List Field :=
  [TRQ_BASE_LO, TRQ_BASE_HI, TRQ_CFG_LOG_SIZE, TRQ_CFG_EN, TRQ_CFG_CQ, TRQ_PI, TRQ_CI]
end Trq

/-! ### `Reg.Pool`: the pool-wide registers of HBM stack 0 (R458 of spec/13_memory_pool.md). -/
namespace Pool
def EXT_CMD_OP : Field := fld 0x40 3 0 .rw 0x0
def EXT_CMD_GO : Field := fld 0x40 8 8 .w1 0
def EXT_CMD_EXTENT : Field := fld 0x44 16 0 .rw 0
def EXT_STATUS_BUSY : Field := fld 0x48 0 0 .ro 0
def EXT_STATUS_RESULT : Field := fld 0x48 7 4 .ro 0x0
def SAN_SHARE_PCT : Field := ((fld 0x60 6 0 .st 50).rng 10 100).fromCfg
def SCRUB_HOURS : Field := (((fld 0x64 7 0 .st 24).rng 1 168).fromCfg).orZero
def DC_RESP_TMO_MS : Field := ((fld 0x68 19 0 .st 10000).rng 100 600000).fromCfg
def POOL_CTL_CNT_CLR : Field := fld 0x6C 0 0 .w1 0
def POOL_CTL_ELOG_CLR : Field := fld 0x6C 1 1 .w1 0
def POOL_EVENT : Field := fld 0x70 4 0 .rc 0
def FREE_HBM : Field := fld 0x74 10 0 .ro 0
def STACK_FAILED : Field := fld 0x78 5 0 .ro 0
def ELOG_PI : Field := fld 0x7C 31 0 .ro 0
def ELOG_CI : Field := fld 0x80 31 0 .rw 0
def ELOG_LOST : Field := fld 0x84 31 0 .ro 0
def SAN_DONE_CNT : Field := fld 0x90 31 0 .ro 0
def SCRUB_CORR_CNT : Field := fld 0x94 31 0 .ro 0
def POISON_NEW_CNT : Field := fld 0x98 31 0 .ro 0
def MIRROR_REPAIR_CNT : Field := fld 0x9C 31 0 .ro 0
def LOST_WB_CNT : Field := fld 0xA0 31 0 .ro 0
def POISON_READ_CNT : Field := fld 0xA4 31 0 .ro 0
/-- All fields of this table. -/
def all : List Field :=
  [EXT_CMD_OP, EXT_CMD_GO, EXT_CMD_EXTENT, EXT_STATUS_BUSY, EXT_STATUS_RESULT, SAN_SHARE_PCT, SCRUB_HOURS, DC_RESP_TMO_MS, POOL_CTL_CNT_CLR, POOL_CTL_ELOG_CLR, POOL_EVENT, FREE_HBM, STACK_FAILED, ELOG_PI, ELOG_CI, ELOG_LOST, SAN_DONE_CNT, SCRUB_CORR_CNT, POISON_NEW_CNT, MIRROR_REPAIR_CNT, LOST_WB_CNT, POISON_READ_CNT]
end Pool

/-! ### `Reg.ExtIm`: the extent image EXT_IMAGE (R459 of spec/13_memory_pool.md). -/
namespace ExtIm
def OWNER : Field := fld 0x50 2 0 .rw 0
def XSTATE : Field := fld 0x50 6 4 .ro 0
def MIRRORED : Field := fld 0x50 8 8 .ro 0
def IS_MIRROR : Field := fld 0x50 9 9 .ro 0
def ON_MIRROR : Field := fld 0x50 10 10 .ro 0
def PARTITION : Field := fld 0x50 23 16 .rw 0
def MIRROR : Field := fld 0x54 16 0 .rw 0
def HOST_MASK_LO : Field := fld 0x58 31 0 .ro 0
def HOST_MASK_HI : Field := fld 0x5C 31 0 .ro 0
/-- All fields of this table. -/
def all : List Field :=
  [OWNER, XSTATE, MIRRORED, IS_MIRROR, ON_MIRROR, PARTITION, MIRROR, HOST_MASK_LO, HOST_MASK_HI]
end ExtIm

/-! ### `Reg.Elog`: an error-log record of the pool (R460 of spec/13_memory_pool.md). -/
namespace Elog
def KIND : Field := (fld 0x1000 1 0 .ro 0).arr 0x10 64
def SOURCE : Field := (fld 0x1000 3 2 .ro 0).arr 0x10 64
def STACK : Field := (fld 0x1000 10 8 .ro 0).arr 0x10 64
def SLICE : Field := (fld 0x1000 21 16 .ro 0).arr 0x10 64
def VALID : Field := (fld 0x1000 31 31 .ro 0).arr 0x10 64
def DA_LO : Field := (fld 0x1008 31 0 .ro 0).arr 0x10 64
def DA_HI : Field := (fld 0x100C 31 0 .ro 0).arr 0x10 64
/-- All fields of this table. -/
def all : List Field :=
  [KIND, SOURCE, STACK, SLICE, VALID, DA_LO, DA_HI]
end Elog

/-! ### `Reg.Stk`: an HBM stack (R461 of spec/13_memory_pool.md). -/
namespace Stk
def STACK_STATE : Field := fld 0x400 1 0 .ro 0
def STACK_CTL_OFFLINE : Field := fld 0x404 0 0 .w1 0
def HBM_CMD_TMO_NS : Field := ((fld 0x408 13 0 .rw 1000).rng 200 10000).fromCfg
def ECC_CORR_CNT : Field := fld 0x40C 31 0 .ro 0
def ECC_UNCORR_CNT : Field := fld 0x410 31 0 .ro 0
/-- All fields of this table. -/
def all : List Field :=
  [STACK_STATE, STACK_CTL_OFFLINE, HBM_CMD_TMO_NS, ECC_CORR_CNT, ECC_UNCORR_CNT]
end Stk

/-! ### `Reg.Coh`: the device-wide coherence registers of HBM stack 0 (R500 of spec/14_coherence.md). -/
namespace Coh
def SNP_TMO_US : Field := ((fld 0x200 19 0 .rw 20).rng 2 10000).fromCfg
def BI_TMO_US : Field := ((fld 0x204 19 0 .rw 1000).rng 100 1000000).fromCfg
def LLOG_BASE_LO : Field := (fld 0x208 31 0 .rw 0).fromCfg
def LLOG_BASE_HI : Field := (fld 0x20C 31 0 .rw 0).fromCfg
def LLOG_CFG_LOG_SIZE : Field := ((fld 0x210 4 0 .rw 10).rng 4 20).fromCfg
def LLOG_CFG_EN : Field := (fld 0x210 8 8 .rw 0).fromCfg
def LLOG_PI : Field := fld 0x214 31 0 .ro 0
def LLOG_CI : Field := fld 0x218 31 0 .rw 0
def LLOG_LOST : Field := fld 0x21C 31 0 .ro 0
def AGENT_DEAD_0 : Field := fld 0x220 31 0 .ro 0
def AGENT_DEAD_1 : Field := fld 0x224 31 0 .ro 0
def AGENT_DEAD_2 : Field := fld 0x228 15 0 .ro 0
def AGENT_KILL_AGENT : Field := fld 0x230 6 0 .rw 0
def AGENT_KILL_GO : Field := fld 0x230 8 8 .w1 0
def RECOVERY_ACTIVE : Field := fld 0x234 0 0 .ro 0
def RECOVERY_AGENT : Field := fld 0x234 14 8 .ro 0
def BCT_CTL_RUN : Field := fld 0x238 0 0 .w1 0
def BCT_STATUS_STATE : Field := fld 0x23C 1 0 .ro 0
def BCT_STATUS_FAIL_SLICE : Field := fld 0x23C 13 8 .ro 0
def COH_EVENT : Field := fld 0x240 4 0 .rc 0
/-- All fields of this table. -/
def all : List Field :=
  [SNP_TMO_US, BI_TMO_US, LLOG_BASE_LO, LLOG_BASE_HI, LLOG_CFG_LOG_SIZE, LLOG_CFG_EN, LLOG_PI, LLOG_CI, LLOG_LOST, AGENT_DEAD_0, AGENT_DEAD_1, AGENT_DEAD_2, AGENT_KILL_AGENT, AGENT_KILL_GO, RECOVERY_ACTIVE, RECOVERY_AGENT, BCT_CTL_RUN, BCT_STATUS_STATE, BCT_STATUS_FAIL_SLICE, COH_EVENT]
end Coh

/-! ### `Reg.Slc`: a home slice (R501 of spec/14_coherence.md). -/
namespace Slc
def SLICE_MODE : Field := fld 0x40 1 0 .ro 1
def MODE_REASON : Field := fld 0x40 6 4 .ro 1
def SLICE_CTL_ENTER_CAREFUL : Field := fld 0x44 0 0 .w1 0
def SLICE_CTL_LEAVE_CAREFUL : Field := fld 0x44 1 1 .w1 0
def SLICE_CTL_CNT_CLR : Field := fld 0x44 2 2 .w1 0
def ING_W_HOST : Field := ((fld 0x48 7 0 .st 8).rng 1 255).fromCfg
def ING_W_REMOTE : Field := ((fld 0x48 15 8 .st 8).rng 1 255).fromCfg
def ING_W_ENGINE : Field := ((fld 0x48 23 16 .st 4).rng 1 255).fromCfg
def BUSY_USED : Field := fld 0x4C 10 0 .ro 0
def BUSY_HWM : Field := fld 0x4C 26 16 .ro 0
def SF_USED : Field := fld 0x50 16 0 .ro 0
def HELD : Field := fld 0x54 15 0 .ro 0
def SLICE_EVENT : Field := fld 0x58 3 0 .rc 0
def SNOOP_CNT : Field := fld 0x80 31 0 .ro 0
def BISNP_CNT : Field := fld 0x84 31 0 .ro 0
def RSPIWB_CNT : Field := fld 0x88 31 0 .ro 0
def WB_BYPASS_CNT : Field := fld 0x8C 31 0 .ro 0
def WAITQ_CNT : Field := fld 0x90 31 0 .ro 0
def SF_VICTIM_CNT : Field := fld 0x94 31 0 .ro 0
def SPILL_CNT : Field := fld 0x98 31 0 .ro 0
def DIR_BCAST_CNT : Field := fld 0x9C 31 0 .ro 0
def LOST_LINE_CNT : Field := fld 0xA0 31 0 .ro 0
def DEAD_MSG_CNT : Field := fld 0xA4 31 0 .ro 0
/-- All fields of this table. -/
def all : List Field :=
  [SLICE_MODE, MODE_REASON, SLICE_CTL_ENTER_CAREFUL, SLICE_CTL_LEAVE_CAREFUL, SLICE_CTL_CNT_CLR, ING_W_HOST, ING_W_REMOTE, ING_W_ENGINE, BUSY_USED, BUSY_HWM, SF_USED, HELD, SLICE_EVENT, SNOOP_CNT, BISNP_CNT, RSPIWB_CNT, WB_BYPASS_CNT, WAITQ_CNT, SF_VICTIM_CNT, SPILL_CNT, DIR_BCAST_CNT, LOST_LINE_CNT, DEAD_MSG_CNT]
end Slc

/-! ### `Reg.Mb`: the meter bank (R515 of spec/15_policing_shaping.md). -/
namespace Mb
def MTR_CTL_CNT_CLR : Field := fld 0x40 0 0 .w1 0
def MTR_EVENT : Field := fld 0x44 1 0 .rc 0
def INJ_HOLD_CNT : Field := fld 0x48 31 0 .ro 0
def IN_METER_METER : Field := ((fld 0x1000 13 0 .st 0).arr 0x4 288).fromCfg
def IN_METER_EN : Field := ((fld 0x1000 16 16 .st 0).arr 0x4 288).fromCfg
/-- All fields of this table. -/
def all : List Field :=
  [MTR_CTL_CNT_CLR, MTR_EVENT, INJ_HOLD_CNT, IN_METER_METER, IN_METER_EN]
end Mb

/-! ### `Reg.Mtr`: a meter entry (R516 of spec/15_policing_shaping.md). -/
namespace Mtr
def CIR_MBPS : Field := (((fld 0x80000 19 0 .st 0).arr 0x20 16384).rng 0 800000).fromCfg
def EN : Field := ((fld 0x80000 20 20 .st 0).arr 0x20 16384).fromCfg
def AWARE : Field := ((fld 0x80000 21 21 .st 0).arr 0x20 16384).fromCfg
def RED_DROP : Field := ((fld 0x80000 22 22 .st 0).arr 0x20 16384).fromCfg
def PIR_MBPS : Field := (((fld 0x80004 19 0 .st 0).arr 0x20 16384).rng 0 800000).fromCfg
def CBS_BYTES : Field := (((fld 0x80008 23 0 .st 65536).arr 0x20 16384).rng 4423 16777215).fromCfg
def PBS_BYTES : Field := (((fld 0x8000C 23 0 .st 65536).arr 0x20 16384).rng 4423 16777215).fromCfg
def REFILL_64NS : Field := (((fld 0x80010 13 0 .st 16).arr 0x20 16384).rng 1 15625).fromCfg
def OVERHEAD : Field := (((fld 0x80010 24 16 .st 0).arr 0x20 16384).signedRng 64 255).fromCfg
def GREEN_CNT : Field := (fld 0x80014 31 0 .ro 0).arr 0x20 16384
def YELLOW_CNT : Field := (fld 0x80018 31 0 .ro 0).arr 0x20 16384
def RED_CNT : Field := (fld 0x8001C 31 0 .ro 0).arr 0x20 16384
/-- All fields of this table. -/
def all : List Field :=
  [CIR_MBPS, EN, AWARE, RED_DROP, PIR_MBPS, CBS_BYTES, PBS_BYTES, REFILL_64NS, OVERHEAD, GREEN_CNT, YELLOW_CNT, RED_CNT]
end Mtr

/-! ### `Reg.Shp`: a shaper entry (R517 of spec/15_policing_shaping.md). -/
namespace Shp
def CIR_MBPS : Field := ((fld 0x0 19 0 .st 0).rng 0 800000).fromCfg
def EN : Field := (fld 0x0 20 20 .st 0).fromCfg
def PIR_MBPS : Field := ((fld 0x4 19 0 .st 0).rng 0 800000).fromCfg
def CBS_BYTES : Field := ((fld 0x8 23 0 .st 65536).rng 4423 16777215).fromCfg
def PBS_BYTES : Field := ((fld 0xC 23 0 .st 65536).rng 4423 16777215).fromCfg
def REFILL_64NS : Field := ((fld 0x10 13 0 .st 16).rng 1 15625).fromCfg
def OVERHEAD : Field := ((fld 0x10 24 16 .st 0).signedRng 64 255).fromCfg
def SHAPED_CNT : Field := fld 0x14 31 0 .ro 0
def TC_BYTES : Field := fld 0x18 31 0 .ro 65536
def TP_BYTES : Field := fld 0x1C 31 0 .ro 65536
/-- All fields of this table. -/
def all : List Field :=
  [CIR_MBPS, EN, PIR_MBPS, CBS_BYTES, PBS_BYTES, REFILL_64NS, OVERHEAD, SHAPED_CNT, TC_BYTES, TP_BYTES]
end Shp

/-! ### `Reg.Cnt`: a counter bank (R520 of spec/16_performance_counters.md). -/
namespace Cnt
def CNT_INFO_N : Field := fld 0x0 6 0 .ro 0
def CNT_INFO_SLOT : Field := fld 0x0 8 8 .ro 0
def CNT_INFO_SEL_GEN : Field := fld 0x0 23 16 .ro 0
def ADDR0_BASE_LO : Field := fld 0x10 31 0 .rw 0
def ADDR0_BASE_HI : Field := fld 0x14 31 0 .rw 0
def ADDR0_LIMIT_LO : Field := fld 0x18 31 0 .rw 0xffffffff
def ADDR0_LIMIT_HI : Field := fld 0x1C 31 0 .rw 0xffffffff
def ADDR1_BASE_LO : Field := fld 0x20 31 0 .rw 0
def ADDR1_BASE_HI : Field := fld 0x24 31 0 .rw 0
def ADDR1_LIMIT_LO : Field := fld 0x28 31 0 .rw 0xffffffff
def ADDR1_LIMIT_HI : Field := fld 0x2C 31 0 .rw 0xffffffff
def SLOT_CNT_LO : Field := (fld 0x80 31 0 .ro 0).arr 0x8 4
def SLOT_CNT_HI : Field := (fld 0x84 15 0 .ro 0).arr 0x8 4
def SEL_EVENT : Field := (fld 0x100 11 0 .rw 0).arr 0x10 64
def SEL_PRIV : Field := ((fld 0x100 13 12 .rw 0).arr 0x10 64).rng 0 2
def SEL_ADDR_EN : Field := (fld 0x100 14 14 .rw 0).arr 0x10 64
def SEL_ADDR_RANGE : Field := (fld 0x100 15 15 .rw 0).arr 0x10 64
def SEL_CLASS : Field := (fld 0x100 21 16 .rw 0x3f).arr 0x10 64
def SEL_MASTER_EN : Field := (fld 0x100 24 24 .rw 0).arr 0x10 64
def MASTER_VAL : Field := (fld 0x104 15 0 .rw 0).arr 0x10 64
def MASTER_MASK : Field := (fld 0x104 31 16 .rw 0).arr 0x10 64
def VALUE_LO : Field := (fld 0x108 31 0 .ro 0).arr 0x10 64
def VALUE_HI : Field := (fld 0x10C 15 0 .ro 0).arr 0x10 64
/-- All fields of this table. -/
def all : List Field :=
  [CNT_INFO_N, CNT_INFO_SLOT, CNT_INFO_SEL_GEN, ADDR0_BASE_LO, ADDR0_BASE_HI, ADDR0_LIMIT_LO, ADDR0_LIMIT_HI, ADDR1_BASE_LO, ADDR1_BASE_HI, ADDR1_LIMIT_LO, ADDR1_LIMIT_HI, SLOT_CNT_LO, SLOT_CNT_HI, SEL_EVENT, SEL_PRIV, SEL_ADDR_EN, SEL_ADDR_RANGE, SEL_CLASS, SEL_MASTER_EN, MASTER_VAL, MASTER_MASK, VALUE_LO, VALUE_HI]
end Cnt

/-! ### `Reg.Gz`: the Gazetteer (R539 of spec/16_performance_counters.md). -/
namespace Gz
def GZ_CFG_EN : Field := (fld 0x40 0 0 .rw 0).fromCfg
def GZ_PERIOD_US : Field := ((fld 0x44 23 0 .rw 1000).rng 1 10000000).fromCfg
def GZ_TYPE_MASK : Field := (fld 0x48 20 0 .rw 0x1fffff).fromCfg
def GZ_BASE_LO : Field := (fld 0x4C 31 0 .rw 0).fromCfg
def GZ_BASE_HI : Field := (fld 0x50 31 0 .rw 0).fromCfg
def GZ_LOG_SIZE : Field := ((fld 0x54 4 0 .rw 20).rng 17 30).fromCfg
def GZ_PI : Field := fld 0x58 31 0 .ro 0
def GZ_CI : Field := fld 0x5C 31 0 .rw 0
def GZ_WB_ADDR_LO : Field := (fld 0x60 31 0 .rw 0).fromCfg
def GZ_WB_ADDR_HI : Field := (fld 0x64 31 0 .rw 0).fromCfg
def GZ_LOST : Field := fld 0x68 31 0 .ro 0
def GZ_SKIP : Field := fld 0x6C 31 0 .ro 0
def GZ_LAST_LEN : Field := fld 0x70 31 0 .ro 0
def GZ_CTL_CNT_CLR : Field := fld 0x74 0 0 .w1 0
def GZ_EVENT : Field := fld 0x78 4 0 .rc 0
def TR_CFG_EN : Field := (fld 0x80 0 0 .rw 0).fromCfg
def TR_CFG_SEND : Field := (fld 0x80 1 1 .rw 1).fromCfg
def TR_CFG_RECV : Field := (fld 0x80 2 2 .rw 1).fromCfg
def TR_CFG_FUNC_EN : Field := (fld 0x80 3 3 .rw 0).fromCfg
def TR_CFG_FUNC : Field := (fld 0x80 25 16 .rw 0).fromCfg
def TR_PERIOD : Field := ((fld 0x84 19 0 .rw 4096).rng 1 1048575).fromCfg
def TR_JITTER : Field := (fld 0x88 19 0 .rw 1024).fromCfg
def TR_BASE_LO : Field := (fld 0x8C 31 0 .rw 0).fromCfg
def TR_BASE_HI : Field := (fld 0x90 31 0 .rw 0).fromCfg
def TR_LOG_SIZE : Field := ((fld 0x94 4 0 .rw 12).rng 6 20).fromCfg
def TR_PI : Field := fld 0x98 31 0 .ro 0
def TR_CI : Field := fld 0x9C 31 0 .rw 0
def TR_LOST : Field := fld 0xA0 31 0 .ro 0
def TR_SKIP : Field := fld 0xA4 31 0 .ro 0
def TR_HELD : Field := fld 0xA8 10 0 .ro 0
/-- All fields of this table. -/
def all : List Field :=
  [GZ_CFG_EN, GZ_PERIOD_US, GZ_TYPE_MASK, GZ_BASE_LO, GZ_BASE_HI, GZ_LOG_SIZE, GZ_PI, GZ_CI, GZ_WB_ADDR_LO, GZ_WB_ADDR_HI, GZ_LOST, GZ_SKIP, GZ_LAST_LEN, GZ_CTL_CNT_CLR, GZ_EVENT, TR_CFG_EN, TR_CFG_SEND, TR_CFG_RECV, TR_CFG_FUNC_EN, TR_CFG_FUNC, TR_PERIOD, TR_JITTER, TR_BASE_LO, TR_BASE_HI, TR_LOG_SIZE, TR_PI, TR_CI, TR_LOST, TR_SKIP, TR_HELD]
end Gz

/-! ### `Reg.Me`: a management Ethernet unit (R570 of spec/17_management.md). -/
namespace Me
def ME_CFG_SPEED : Field := ((fld 0x40 1 0 .rw 0).rng 0 2).fromCfg
def ME_CFG_BYPASS_FORCE : Field := fld 0x40 8 8 .rw 0
def ME_STATE_LINK : Field := fld 0x44 1 0 .ro 0
def ME_STATE_RING_BROKEN : Field := fld 0x44 4 4 .ro 1
def ME_STATE_BYPASS_CLOSED : Field := fld 0x44 5 5 .ro 1
def NEIGH_DEVICE_ID : Field := fld 0x48 15 0 .ro 0
def NEIGH_PORT : Field := fld 0x48 16 16 .ro 0
def NEIGH_VALID : Field := fld 0x48 31 31 .ro 0
def NEIGH_SERIAL_LO : Field := fld 0x4C 31 0 .ro 0
def NEIGH_SERIAL_HI : Field := fld 0x50 31 0 .ro 0
def ME_CTL_CNT_CLR : Field := fld 0x54 0 0 .w1 0
def ME_EVENT : Field := fld 0x58 4 0 .rc 0
def FWD_FRAMES : Field := fld 0x80 31 0 .ro 0
def FWD_DROP : Field := fld 0x84 31 0 .ro 0
def TTL_DROP : Field := fld 0x88 31 0 .ro 0
def LOOP_DROP : Field := fld 0x8C 31 0 .ro 0
def FCS_ERR : Field := fld 0x90 31 0 .ro 0
def BAD_FRAME : Field := fld 0x94 31 0 .ro 0
def HELLO_MISS : Field := fld 0x98 31 0 .ro 0
/-- All fields of this table. -/
def all : List Field :=
  [ME_CFG_SPEED, ME_CFG_BYPASS_FORCE, ME_STATE_LINK, ME_STATE_RING_BROKEN, ME_STATE_BYPASS_CLOSED, NEIGH_DEVICE_ID, NEIGH_PORT, NEIGH_VALID, NEIGH_SERIAL_LO, NEIGH_SERIAL_HI, ME_CTL_CNT_CLR, ME_EVENT, FWD_FRAMES, FWD_DROP, TTL_DROP, LOOP_DROP, FCS_ERR, BAD_FRAME, HELLO_MISS]
end Me

/-! ### `Reg.Mp`: the management processor (R571 of spec/17_management.md). -/
namespace Mp
def MP_STATE : Field := fld 0x40 1 0 .ro 0
def MP_RESTARTS : Field := fld 0x40 15 8 .ro 0
def MP_LAST_CAUSE : Field := fld 0x40 18 16 .ro 0
def MP_WDT_MS : Field := ((fld 0x44 13 0 .rw 100).rng 10 10000).fromCfg
def MP_RESTART_MAX : Field := ((fld 0x48 3 0 .rw 3).rng 1 15).fromCfg
def MP_CTL_RESTART : Field := fld 0x4C 0 0 .w1 0
def MP_CTL_CNT_CLR : Field := fld 0x4C 1 1 .w1 0
def DRS_ETYPE : Field := (fld 0x50 15 0 .rw 0x88b5).fromCfg
def DRS_MAC_HI : Field := (fld 0x54 31 0 .rw (0x02000000 + (Config.devSerialHi % 256) * 65536 + Config.devSerialLo / 65536)).fromCfg
def DRS_MAC_LO : Field := (fld 0x58 15 0 .rw (Config.devSerialLo % 65536)).fromCfg
def RESP_TTL : Field := ((fld 0x5C 7 0 .rw 32).rng 1 255).fromCfg
def HELLO_US : Field := ((fld 0x60 16 0 .rw 1000).rng 100 100000).fromCfg
def HB_S : Field := ((fld 0x64 7 0 .rw 10).rng 1 255).fromCfg
def SESS_ACTIVE : Field := fld 0x68 3 0 .ro 0
def EVT_LOST : Field := fld 0x6C 31 0 .ro 0
def DRS_EVENT : Field := fld 0x70 4 0 .rc 0
def AUTH_FAIL_CNT : Field := fld 0x74 31 0 .ro 0
def BAD_TAG_CNT : Field := fld 0x78 31 0 .ro 0
def REQ_DUP_CNT : Field := fld 0x7C 31 0 .ro 0
def TB_STEP_CNT : Field := fld 0x80 31 0 .ro 0
def TB_CFG_SRC : Field := (fld 0x84 1 0 .rw 0).fromCfg
def TB_CFG_STEP_OK : Field := (fld 0x84 4 4 .rw 1).fromCfg
def TB_CFG_KP_SHIFT : Field := (fld 0x84 11 8 .rw 1).fromCfg
def TB_CFG_KI_SHIFT : Field := (fld 0x84 15 12 .rw 4).fromCfg
def TB_MAX_PPB : Field := ((fld 0x88 18 0 .rw 100000).rng 1 500000).fromCfg
def TB_STEP_NS : Field := ((fld 0x8C 29 0 .rw 1000).rng 10 1000000000).fromCfg
def TB_HOLDOVER_MS : Field := ((fld 0x90 13 0 .rw 10).rng 1 10000).fromCfg
def PTP_DOMAIN : Field := (fld 0x94 7 0 .rw 0).fromCfg
def TB_STATUS_STATE : Field := fld 0x98 1 0 .ro 0
def TB_STATUS_PTP_PORT : Field := fld 0x98 8 8 .ro 0
def TB_OFFSET_PS : Field := fld 0x9C 31 0 .ro 0
def TB_FREQ_PPB : Field := fld 0xA0 31 0 .ro 0
def FM_ROOT_DIGEST : Field := ((fld 0x100 31 0 .rw 0).arr 0x4 8).fromCfg
/-- All fields of this table. -/
def all : List Field :=
  [MP_STATE, MP_RESTARTS, MP_LAST_CAUSE, MP_WDT_MS, MP_RESTART_MAX, MP_CTL_RESTART, MP_CTL_CNT_CLR, DRS_ETYPE, DRS_MAC_HI, DRS_MAC_LO, RESP_TTL, HELLO_US, HB_S, SESS_ACTIVE, EVT_LOST, DRS_EVENT, AUTH_FAIL_CNT, BAD_TAG_CNT, REQ_DUP_CNT, TB_STEP_CNT, TB_CFG_SRC, TB_CFG_STEP_OK, TB_CFG_KP_SHIFT, TB_CFG_KI_SHIFT, TB_MAX_PPB, TB_STEP_NS, TB_HOLDOVER_MS, PTP_DOMAIN, TB_STATUS_STATE, TB_STATUS_PTP_PORT, TB_OFFSET_PS, TB_FREQ_PPB, FM_ROOT_DIGEST]
end Mp

/-! ### `Reg.Flk`: the Flask unit (R594 of spec/18_startup_reset.md). -/
namespace Flk
def BANK_STATUS_FWA_VALID : Field := fld 0x40 0 0 .ro 0
def BANK_STATUS_FWB_VALID : Field := fld 0x40 1 1 .ro 0
def BANK_STATUS_CFGA_VALID : Field := fld 0x40 2 2 .ro 0
def BANK_STATUS_CFGB_VALID : Field := fld 0x40 3 3 .ro 0
def BANK_STATUS_RECOVERY : Field := fld 0x40 4 4 .ro 0
def BANK_STATUS_FW_UNCONFIRMED : Field := fld 0x40 5 5 .ro 0
def FWA_SEQ_LO : Field := fld 0x48 31 0 .ro 0
def FWA_SEQ_HI : Field := fld 0x4C 31 0 .ro 0
def FWB_SEQ_LO : Field := fld 0x50 31 0 .ro 0
def FWB_SEQ_HI : Field := fld 0x54 31 0 .ro 0
def CFGA_SEQ_LO : Field := fld 0x58 31 0 .ro 0
def CFGA_SEQ_HI : Field := fld 0x5C 31 0 .ro 0
def CFGB_SEQ_LO : Field := fld 0x60 31 0 .ro 0
def CFGB_SEQ_HI : Field := fld 0x64 31 0 .ro 0
def SVN_FW_SVN : Field := fld 0x68 7 0 .ro 0
def SVN_MIN_SVN : Field := fld 0x68 14 8 .ro Config.fusedMinSvn
def FW_CTL_CONFIRM : Field := fld 0x6C 0 0 .w1 0
def STORE_STATE : Field := fld 0x70 1 0 .ro 0
def STORE_BYTES : Field := fld 0x74 31 0 .ro 0
def BOOT_CFG_BCT_EN : Field := (fld 0x78 0 0 .rw 1).fromCfg
def FLK_EVENT : Field := fld 0x7C 4 0 .rc 0
def CFG_SKIP_CNT : Field := fld 0x80 31 0 .ro 0
/-- All fields of this table. -/
def all : List Field :=
  [BANK_STATUS_FWA_VALID, BANK_STATUS_FWB_VALID, BANK_STATUS_CFGA_VALID, BANK_STATUS_CFGB_VALID, BANK_STATUS_RECOVERY, BANK_STATUS_FW_UNCONFIRMED, FWA_SEQ_LO, FWA_SEQ_HI, FWB_SEQ_LO, FWB_SEQ_HI, CFGA_SEQ_LO, CFGA_SEQ_HI, CFGB_SEQ_LO, CFGB_SEQ_HI, SVN_FW_SVN, SVN_MIN_SVN, FW_CTL_CONFIRM, STORE_STATE, STORE_BYTES, BOOT_CFG_BCT_EN, FLK_EVENT, CFG_SKIP_CNT]
end Flk

/-! ### `Reg.Err`: the error registers of the root unit (R612 of spec/19_reliability.md). -/
namespace Err
def ERR_STATUS_FATAL : Field := fld 0x100 0 0 .ro 0
def ERR_STATUS_FATAL_KIND : Field := fld 0x100 15 8 .ro 0x0
def ERR_CTL_CLR_ALL : Field := fld 0x104 0 0 .w1 0
def ERR_CTL_CLR_UNIT : Field := fld 0x104 1 1 .w1 0
def ERR_CTL_LOG_CLR : Field := fld 0x104 2 2 .w1 0
def ERR_CTL_CNT_CLR : Field := fld 0x104 3 3 .w1 0
def ERR_CLR_WIN : Field := fld 0x108 31 0 .rw 0
def CFG_SCRUB_US : Field := ((fld 0x10C 9 0 .rw 500).rng 100 1000).fromCfg
def ERR_EVT_MIN_SEV : Field := ((fld 0x110 1 0 .rw 2).rng 1 3).fromCfg
def ERRLOG_PI : Field := fld 0x118 31 0 .ro 0
def ERRLOG_CI : Field := fld 0x11C 31 0 .rw 0
def ERRLOG_LOST : Field := fld 0x120 31 0 .ro 0
def CORR_CNT : Field := fld 0x124 31 0 .ro 0
def UNCORR_CNT : Field := fld 0x128 31 0 .ro 0
def WD_TEST_CNT : Field := fld 0x12C 31 0 .ro 0
/-- All fields of this table. -/
def all : List Field :=
  [ERR_STATUS_FATAL, ERR_STATUS_FATAL_KIND, ERR_CTL_CLR_ALL, ERR_CTL_CLR_UNIT, ERR_CTL_LOG_CLR, ERR_CTL_CNT_CLR, ERR_CLR_WIN, CFG_SCRUB_US, ERR_EVT_MIN_SEV, ERRLOG_PI, ERRLOG_CI, ERRLOG_LOST, CORR_CNT, UNCORR_CNT, WD_TEST_CNT]
end Err

/-! ### `Reg.ErrRec`: an error-log record of the root unit (R613 of spec/19_reliability.md). -/
namespace ErrRec
def SEV : Field := (fld 0x2000 1 0 .ro 0).arr 0x20 256
def FENCED : Field := (fld 0x2000 2 2 .ro 0).arr 0x20 256
def FATAL : Field := (fld 0x2000 3 3 .ro 0).arr 0x20 256
def KIND : Field := (fld 0x2000 15 8 .ro 0).arr 0x20 256
def SUB : Field := (fld 0x2000 31 16 .ro 0).arr 0x20 256
def WINDOW : Field := (fld 0x2004 31 0 .ro 0).arr 0x20 256
def TIMESTAMP_LO : Field := (fld 0x2008 31 0 .ro 0).arr 0x20 256
def TIMESTAMP_HI : Field := (fld 0x200C 31 0 .ro 0).arr 0x20 256
def INFO_LO : Field := (fld 0x2010 31 0 .ro 0).arr 0x20 256
def INFO_HI : Field := (fld 0x2014 31 0 .ro 0).arr 0x20 256
def SEQ : Field := (fld 0x2018 31 0 .ro 0).arr 0x20 256
def VALID : Field := (fld 0x201C 31 31 .ro 0).arr 0x20 256
/-- All fields of this table. -/
def all : List Field :=
  [SEV, FENCED, FATAL, KIND, SUB, WINDOW, TIMESTAMP_LO, TIMESTAMP_HI, INFO_LO, INFO_HI, SEQ, VALID]
end ErrRec

/-! ### `Reg.Hk`: the housekeeping registers of the root unit (R633 of spec/20_electrical.md). -/
namespace Hk
def TJ_NOW : Field := fld 0x180 15 0 .ro 0
def TJ_SENSOR : Field := fld 0x180 20 16 .ro 0
def TJ_PEAK : Field := fld 0x184 15 0 .ro 0
def THERM_WARN_C : Field := ((fld 0x188 7 0 .fp 100).rng 85 110).fromCfg
def THERM_TRIP_C : Field := ((fld 0x188 15 8 .fp 110).rng 100 115).fromCfg
def HK_CTL_TJ_PEAK_CLR : Field := fld 0x18C 0 0 .w1 0
def VCORE_MV : Field := fld 0x190 15 0 .ro 0
def PKG_POWER_W : Field := fld 0x194 15 0 .ro 0
def HK_EVENT : Field := fld 0x198 3 0 .rc 0
def LAST_RESET_CAUSE : Field := fld 0x19C 2 0 .ro 0
def LAST_RESET_GROUP : Field := fld 0x19C 7 4 .ro 0
def LAST_RESET_COUNT : Field := fld 0x19C 15 8 .ro 0
/-- All fields of this table. -/
def all : List Field :=
  [TJ_NOW, TJ_SENSOR, TJ_PEAK, THERM_WARN_C, THERM_TRIP_C, HK_CTL_TJ_PEAK_CLR, VCORE_MV, PKG_POWER_W, HK_EVENT, LAST_RESET_CAUSE, LAST_RESET_GROUP, LAST_RESET_COUNT]
end Hk

end Reg

end Sys2Proof.Machine
end

