-- ==== Sys2Proof/Machine/Units.lean ====
section
/-!
DEFINITION. The unit tree: the fixed map of R57, types (R43), instances (R48), islands (R23), default commit groups,
parents and children (R45 to R49), and which register table each unit carries.
-/
namespace Sys2Proof.Machine

/-- A number as an index below `n + 1` (only used on numbers already below it). -/
def idx (n k : Nat) : Fin (n + 1) := Fin.ofNat (n + 1) k

/-- Window offset of the unit (R57). -/
def base : UnitId → Nat
  | .root => 0
  | .mgmtProc => 0x10000
  | .secProc => 0x20000
  | .flask => 0x30000
  | .mgmtEth k => 0x40000 + 0x10000 * k.val
  | .gazetteer => 0x60000
  | .atlas => 0x100000
  | .matching => 0x200000
  | .collective => 0x300000
  | .compass => 0x400000
  | .meterBank => 0x500000
  | .injShaper => 0x600000
  | .cluster c => 0x1000000 + 0x400000 * c.val
  | .engine e => 0x1000000 + 0x400000 * (e.val / 4) + 0x300000 + 0x10000 * (e.val % 4)
  | .switchCore => 0x2000000
  | .tileCluster c => 0x3000000 + 0x100000 * c.val
  | .tile t => 0x3000000 + 0x100000 * (t.val / 16) + 0x80000 + 0x8000 * (t.val % 16)
  | .macroGroup d => 0x4000000 + 0x800000 * d.val
  | .fabricMacro m => 0x4000000 + 0x800000 * (m.val / 6) + 0x100000 * (m.val % 6 + 1)
  | .port n => 0x4000000 + 0x800000 * (n.val / 24) + 0x100000 * (n.val % 24 / 4 + 1) + 0x80000 + 0x20000 * (n.val % 4)
  | .egressShaper n =>
    0x4000000 + 0x800000 * (n.val / 24) + 0x100000 * (n.val % 24 / 4 + 1) + 0x80000 + 0x20000 * (n.val % 4) + 0x10000
  | .hostGroup d => 0x6000000 + 0x200000 * d.val
  | .hostMacro h => 0x6000000 + 0x200000 * (h.val / 4) + 0x100000 + 0x40000 * (h.val % 4)
  | .attachment a =>
    0x6000000 + 0x200000 * (a.val / 16) + 0x100000 + 0x40000 * (a.val % 16 / 4) + 0x20000 + 0x8000 * (a.val % 4)
  | .stack s => 0x8000000 + 0x200000 * s.val
  | .slice i => 0x8000000 + 0x200000 * (i.val / 8) + 0x100000 + 0x20000 * (i.val % 8)

/-- log2 of the window size (R57). -/
def sizeLog : UnitId → Nat
  | .root => 28
  | .mgmtProc | .secProc | .flask | .mgmtEth _ | .gazetteer | .engine _ => 16
  | .atlas | .matching | .collective | .compass | .meterBank | .injShaper | .tileCluster _ | .fabricMacro _ => 20
  | .cluster _ => 22
  | .switchCore => 25
  | .tile _ | .attachment _ => 15
  | .macroGroup _ => 23
  | .port _ => 17
  | .egressShaper _ => 12
  | .hostGroup _ => 21
  | .hostMacro _ => 18
  | .stack _ => 21
  | .slice _ => 17

/-- LEG_TYPE (R43). -/
def legType : UnitId → Nat
  | .root => 0x0001
  | .mgmtProc => 0x00C0
  | .secProc => 0x00C1
  | .flask => 0x00D0
  | .mgmtEth _ => 0x00E0
  | .gazetteer => 0x00B0
  | .atlas => 0x0040
  | .matching => 0x0060
  | .collective => 0x0070
  | .compass => 0x0080
  | .meterBank => 0x00A0
  | .injShaper | .egressShaper _ => 0x00A1
  | .cluster _ => 0x0050
  | .engine _ => 0x0051
  | .switchCore | .tileCluster _ => 0x0030
  | .tile _ => 0x0031
  | .macroGroup _ | .fabricMacro _ => 0x0010
  | .port _ => 0x0011
  | .hostGroup _ | .hostMacro _ => 0x0020
  | .attachment _ => 0x0021
  | .stack _ => 0x0090
  | .slice _ => 0x0091

/-- LEG_INSTANCE (R48, R57). -/
def legInstance : UnitId → Nat
  | .root | .mgmtProc | .secProc | .flask | .gazetteer | .atlas | .matching | .collective | .compass
  | .meterBank | .injShaper => 0
  | .mgmtEth k => k.val
  | .cluster c => c.val
  | .engine e => e.val
  | .switchCore => 0x0100
  | .tileCluster c => c.val
  | .tile t => t.val
  | .macroGroup d => 0x0100 + d.val
  | .fabricMacro m => m.val
  | .port n => n.val
  | .egressShaper n => 1 + n.val
  | .hostGroup d => 0x0100 + d.val
  | .hostMacro h => h.val
  | .attachment a => a.val
  | .stack s => s.val
  | .slice i => i.val

/-- LEG_ISLAND (R57): 0–59 a clocked island, 0xFE a mixed compound, 0xFF self-timed. -/
def legIsland : UnitId → Nat
  | .root | .macroGroup _ | .hostGroup _ | .stack _ => 0xFE
  | .mgmtProc => 55
  | .secProc => 56
  | .flask => 58
  | .mgmtEth k => 52 + k.val
  | .fabricMacro m => m.val
  | .port n => n.val / 4
  | .hostMacro h => 24 + h.val
  | .attachment a => 24 + a.val / 4
  | .gazetteer | .atlas | .matching | .collective | .compass | .meterBank | .injShaper | .cluster _ | .engine _
  | .switchCore | .tileCluster _ | .tile _ | .egressShaper _ | .slice _ => 0xFF

/-- The default commit group of the unit (R57). -/
def defaultGroup : UnitId → Nat
  | .root | .mgmtProc | .secProc | .flask | .mgmtEth _ => 0
  | .gazetteer => 9
  | .atlas => 1
  | .matching | .collective => 6
  | .compass => 7
  | .meterBank | .injShaper | .egressShaper _ => 2
  | .cluster _ | .engine _ => 5
  | .switchCore | .tileCluster _ | .tile _ | .macroGroup _ | .fabricMacro _ | .port _ => 3
  | .hostGroup _ | .hostMacro _ | .attachment _ => 4
  | .stack _ | .slice _ => 8

/-- The parent unit (LEG_PARENT; the root has none). -/
def parent : UnitId → Option UnitId
  | .root => none
  | .engine e => some (.cluster (idx 3 (e.val / 4)))
  | .tileCluster _ => some .switchCore
  | .tile t => some (.tileCluster (idx 15 (t.val / 16)))
  | .fabricMacro m => some (.macroGroup (idx 3 (m.val / 6)))
  | .port n => some (.fabricMacro (idx 23 (n.val / 4)))
  | .egressShaper n => some (.port n)
  | .hostMacro h => some (.hostGroup (idx 3 (h.val / 4)))
  | .attachment a => some (.hostMacro (idx 15 (a.val / 4)))
  | .slice i => some (.stack (idx 5 (i.val / 8)))
  | .mgmtProc | .secProc | .flask | .mgmtEth _ | .gazetteer | .atlas | .matching | .collective | .compass
  | .meterBank | .injShaper | .cluster _ | .switchCore | .macroGroup _ | .hostGroup _ | .stack _ => some .root

/-- The children of a unit, in ascending order of window offset (R45, R57). -/
def children : UnitId → List UnitId
  | .root =>
    [.mgmtProc, .secProc, .flask, .mgmtEth 0, .mgmtEth 1, .gazetteer, .atlas, .matching, .collective, .compass,
     .meterBank, .injShaper] ++ (List.range 4).map (fun c => .cluster (idx 3 c)) ++ [.switchCore] ++
    (List.range 4).map (fun d => .macroGroup (idx 3 d)) ++ (List.range 4).map (fun d => .hostGroup (idx 3 d)) ++
    (List.range 6).map (fun s => .stack (idx 5 s))
  | .cluster c => (List.range 4).map (fun e => .engine (idx 15 (4 * c.val + e)))
  | .switchCore => (List.range 16).map (fun c => .tileCluster (idx 15 c))
  | .tileCluster c => (List.range 16).map (fun t => .tile (idx 255 (16 * c.val + t)))
  | .macroGroup d => (List.range 6).map (fun k => .fabricMacro (idx 23 (6 * d.val + k)))
  | .fabricMacro m => (List.range 4).map (fun p => .port (idx 95 (4 * m.val + p)))
  | .port n => [.egressShaper n]
  | .hostGroup d => (List.range 4).map (fun k => .hostMacro (idx 15 (4 * d.val + k)))
  | .hostMacro h => (List.range 4).map (fun s => .attachment (idx 63 (4 * h.val + s)))
  | .stack s => (List.range 8).map (fun i => .slice (idx 47 (8 * s.val + i)))
  | .mgmtProc | .secProc | .flask | .mgmtEth _ | .gazetteer | .atlas | .matching | .collective | .compass
  | .meterBank | .injShaper | .engine _ | .tile _ | .egressShaper _ | .attachment _ | .slice _ => []

/-- The units below `u`, `u` itself first, down `fuel` levels; the deepest path has five levels (R49). -/
def subtreeTo : Nat → UnitId → List UnitId
  | 0, u => [u]
  | n + 1, u => u :: (children u).flatMap (subtreeTo n)

/-- The unit and its whole subtree. -/
def subtree (u : UnitId) : List UnitId := subtreeTo 4 u

/-- The unit's ancestors, the parent first. -/
def ancestorsTo : Nat → UnitId → List UnitId
  | 0, _ => []
  | n + 1, u => match parent u with
    | some p => p :: ancestorsTo n p
    | none => []

/-- The ancestors of the unit up to the root (R49: at most four). -/
def ancestors (u : UnitId) : List UnitId := ancestorsTo 4 u

/-- `v` lies in the subtree of `u`. -/
def inSubtree (v u : UnitId) : Bool := v == u || (ancestors v).contains u

/-- The child of `u` whose window holds offset `o`. -/
def childAt (u : UnitId) (o : Nat) : Option UnitId :=
  (children u).find? (fun c => base c ≤ o && o < base c + 2 ^ sizeLog c)

/-- The unit whose window holds setup-space offset `o`, as deep in the tree as there is one, starting at `u`. -/
def unitAtFrom : Nat → UnitId → Nat → UnitId
  | 0, u, _ => u
  | n + 1, u, o => match childAt u o with
    | some c => unitAtFrom n c o
    | none => u

/-- The unit that owns setup-space offset `o` (R57). -/
def unitAt (o : Nat) : UnitId := unitAtFrom 4 .root o

/-- A unit is compound when it has children (R47). -/
def compound (u : UnitId) : Bool := !(children u).isEmpty

/-- The window offset of the counter bank of the unit (R519); the security processor and the grouping units have none. -/
def bankOffset : UnitId → Option Nat
  | .root => some 0x8000
  | .fabricMacro _ | .hostMacro _ | .attachment _ | .tileCluster _ | .tile _ | .atlas | .engine _ | .matching
  | .collective | .stack _ | .slice _ | .meterBank => some 0x4000
  | .port _ | .gazetteer => some 0x8000
  | .cluster _ => some 0x10000
  | .compass => some 0xC000
  | .injShaper | .egressShaper _ => some 0x0800
  | .mgmtProc | .flask | .mgmtEth _ => some 0xF000
  | .secProc | .switchCore | .macroGroup _ | .hostGroup _ => none

/-- The number of counters of the unit's bank (R519). -/
def bankCounters : UnitId → Nat
  | .root | .atlas | .cluster _ | .stack _ | .mgmtEth _ => 16
  | .fabricMacro _ | .hostMacro _ | .tile _ | .meterBank | .injShaper | .egressShaper _ | .gazetteer | .mgmtProc
  | .flask => 8
  | .port _ | .attachment _ | .tileCluster _ | .matching | .collective | .compass | .slice _ => 32
  | .engine _ => 64
  | .secProc | .switchCore | .macroGroup _ | .hostGroup _ => 0

/-- The unit's bit of GZ_TYPE_MASK (R519). -/
def bankMaskBit : UnitId → Nat
  | .root => 0
  | .fabricMacro _ | .macroGroup _ => 1
  | .port _ => 2
  | .hostMacro _ | .hostGroup _ => 3
  | .attachment _ => 4
  | .tileCluster _ | .switchCore => 5
  | .tile _ => 6
  | .atlas => 7
  | .cluster _ => 8
  | .engine _ => 9
  | .matching => 10
  | .collective => 11
  | .compass => 12
  | .stack _ => 13
  | .slice _ => 14
  | .meterBank => 15
  | .injShaper | .egressShaper _ => 16
  | .gazetteer => 17
  | .mgmtProc | .secProc => 18
  | .flask => 19
  | .mgmtEth _ => 20

/-- The field, laid at byte offset `d` further on. -/
def Field.shift (f : Field) (d : Nat) : Field := { f with off := f.off + d }

/-- A shaper bank's entries: shaper `i` at `0x1_0000 + 32 i` (injection) or `0x100 + 32 i` (egress), R517. -/
def shaperFields (off n : Nat) : List Field :=
  ([Reg.Mb.MTR_CTL_CNT_CLR, Reg.Mb.MTR_EVENT]) ++ Reg.Shp.all.map (fun f => (f.shift off).arr 32 n)

/-- Reset of TC_BYTES and TP_BYTES is full: the reset bucket depth (R517). -/
def atlasEntries : List Field :=
  Reg.AtlasEnt.all.map (fun f => ((f.shift 0x10000).arr 16 2048).arr 0x10000 2) ++
  Reg.AtlasEnt.all.map (fun f => ((f.shift 0x18000).arr 16 32).arr 0x10000 2)

/-- The unit's own register fields, offsets from its window base (the chapters' register tables). -/
def ownFields : UnitId → List Field
  | .root => Reg.Root.all ++ Reg.Err.all ++ Reg.ErrRec.all ++ Reg.Hk.all
  | .mgmtProc => Reg.Mp.all
  | .secProc => []
  | .flask => Reg.Flk.all
  | .mgmtEth _ => Reg.Me.all
  | .gazetteer => Reg.Gz.all
  | .atlas => Reg.Atlas.all ++ atlasEntries
  | .matching => Reg.Mt.all
  | .collective => Reg.Cl.all ++ Reg.Out.all
  | .compass => Reg.Xl.all ++ Reg.FnXl.all ++ Reg.Part.all ++ Reg.Flog.all
  | .meterBank => Reg.Mb.all ++ Reg.Mtr.all
  | .injShaper => shaperFields 0x10000 4096
  | .egressShaper _ => shaperFields 0x100 3
  | .cluster c => if c.val = 0 then Reg.Tc.all ++ Reg.FnTab.all else Reg.Tc.all.filter (fun f => f.off != 0xA4 && f.off != 0xA8)
  | .engine _ => Reg.Eng.all
  | .switchCore => Reg.Sw.all ++ Reg.Q.all ++ Reg.Mir.all ++ Reg.Mc.all
  | .tileCluster _ | .tile _ | .macroGroup _ | .fabricMacro _ | .hostGroup _ => []
  | .port _ => Reg.Port.all
  | .hostMacro _ => Reg.Mac.all
  | .attachment _ => Reg.Att.all ++ Reg.FarWin.all ++ Reg.Claim.all
  | .stack s => Reg.Stk.all ++ (if s.val = 0 then Reg.Pool.all ++ Reg.ExtIm.all ++ Reg.Elog.all ++ Reg.Coh.all else [])
  | .slice _ => Reg.Slc.all

/-- The counter bank's fields in the unit's window: as many counters as the bank has, slot counters in the engines' banks
of 64, RW fields far-posted in a clocked island (R519, R520). -/
def bankFields (u : UnitId) : List Field :=
  match bankOffset u with
  | none => []
  | some o => (Reg.Cnt.all.filter (fun f => f.count != 4 || bankCounters u == 64)).map (fun f =>
      let g := { f.shift o with count := if f.count = 64 then bankCounters u else f.count }
      if g.acc = .rw ∧ legIsland u < 60 then { g with acc := .fp } else g)

/-- The register fields with a word at byte offset `o` of the unit's window. -/
def fieldsAt (u : UnitId) (o : Nat) : List Field := (ownFields u ++ bankFields u).filter (fun f => f.hits o)

end Sys2Proof.Machine
end

