-- ==== Sys2Proof/Machine/Ops.lean ====
section
/-!
DEFINITION. The named operations over the state: reading and writing register fields, events, error records,
access violations, fences. Every family's meanings are written over these.
-/
namespace Sys2Proof.Machine

/-- A big-endian number of `n` bytes. -/
def beBytes (v n : Nat) : List Byte := (List.range n).map (fun i => BitVec.ofNat 8 (v / 256 ^ (n - 1 - i)))

/-- The big-endian number of a list of bytes. -/
def beNat (b : List Byte) : Nat := b.foldl (fun m x => m * 256 + x.toNat) 0

/-! ### Register fields -/

/-- The value of a register field of the window (or entry) at `b`. -/
def State.rd (s : State) (b : Nat) (f : Field) : Nat := (look s.regs (f.key b)).getD f.reset

/-- Element `i` of an array field. -/
def State.rdi (s : State) (b : Nat) (f : Field) (i : Nat) : Nat := s.rd (b + f.stride * i) f

/-- The state with the field holding `v` (modulo its width). -/
def State.wr (s : State) (b : Nat) (f : Field) (v : Nat) : State :=
  { s with regs := put s.regs (f.key b) (v % 2 ^ f.width) }

/-- Element `i` of an array field written. -/
def State.wri (s : State) (b : Nat) (f : Field) (i v : Nat) : State := s.wr (b + f.stride * i) f v

/-- The field as a truth value. -/
def State.on (s : State) (b : Nat) (f : Field) : Bool := s.rd b f != 0

/-- A counter field raised by `d`, saturating at its largest value. -/
def State.add (s : State) (b : Nat) (f : Field) (d : Nat) : State := s.wr b f (Nat.min (s.rd b f + d) (2 ^ f.width - 1))

/-- A counter field raised by one, saturating. -/
def State.bump (s : State) (b : Nat) (f : Field) : State := s.add b f 1

/-- A counter of an array raised by one, saturating. -/
def State.bumpi (s : State) (b : Nat) (f : Field) (i : Nat) : State := s.bump (b + f.stride * i) f

/-- Event bit `i` of an RC field set (R60). -/
def State.setEvt (s : State) (b : Nat) (f : Field) (i : Nat) : State := s.wr b f (setBit (s.rd b f) i)

/-- A list of fields of one window set to zero (a CNT_CLR action). -/
def State.clearAll (s : State) (b : Nat) (fs : List Field) : State := fs.foldl (fun t f => t.wr b f 0) s

/-- Elements 0 to `n − 1` of an array field set to zero. -/
def State.clearArr (s : State) (b : Nat) (f : Field) (n : Nat) : State :=
  (List.range n).foldl (fun t i => t.wri b f i 0) s

/-- A 64-bit value held in two fields. -/
def State.rd64 (s : State) (b : Nat) (lo hi : Field) : Nat := s.rd b lo + 2 ^ 32 * s.rd b hi

/-- A 64-bit value written to two fields. -/
def State.wr64 (s : State) (b : Nat) (lo hi : Field) (v : Nat) : State := (s.wr b lo v).wr b hi (v / 2 ^ 32)

/-! ### Emissions, open values and time -/

/-- The device emits `e`. -/
def State.emit (s : State) (e : Emit) : State := { s with out := e :: s.out }

/-- An open value of width `w` drawn, as a number: nothing is known of it (notes/assumptions/2.md). -/
def State.drawn (s : State) (w : Nat) : Nat := (Config.freeBits w s.free).toNat

/-- The state after a draw. -/
def State.spend (s : State) : State := { s with free := s.free + 1 }

/-- TIMEBASE_NS (R78). -/
def State.timebase (s : State) : Nat := s.rd64 0 Reg.Root.TIMEBASE_NS_LO Reg.Root.TIMEBASE_NS_HI

/-- The last event at `last` lies less than `w` ns before now. -/
def within (s : State) (last : Option Nat) (w : Nat) : Bool :=
  match last with
  | some t => s.now < t + w
  | none => false

/-! ### Event queues and device events (R269, R270, R300 to R303, R562, R563) -/

/-- The model's number for offset 0 of the 256 KiB BAR2 of function `f`, above the 256 MiB of the setup space. -/
def bar2 (f : Nat) : Nat := 0x10000000 + 0x40000 * f

/-- What function `f` holds beside its registers. -/
def State.fn (s : State) (f : Nat) : FnSt := lookD s.fns f FnSt.init

/-- The function changed. -/
def State.setFn (s : State) (f : Nat) (x : FnSt) : State := { s with fns := put s.fns f x }

/-- The modulo-2^32 distance from `ci` to `pi` (R278). -/
def ringDist (pi ci : Nat) : Nat := (pi + 2 ^ 32 - ci) % 2 ^ 32

/-- The message of MSI-X vector `v` of function `f` may leave: MSI-X enabled, neither the function nor the vector masked (R412;
notes/assumptions/72.md). -/
def msixOpen (s : State) (f v : Nat) : Bool :=
  (s.fn f).msixOn && !(s.fn f).msixMask && s.rdi (bar2 f) Reg.Msix.MASK v == 0

/-- The message of vector `v` as its table entry has it. -/
def msixWrite (s : State) (f v : Nat) : State :=
  s.emit (.msix f v (s.rdi (bar2 f) Reg.Msix.ADDR_HI v * 2 ^ 32 + 4 * s.rdi (bar2 f) Reg.Msix.ADDR_LO v)
    (s.rdi (bar2 f) Reg.Msix.DATA v))

/-- The pending bit of vector `v` is 1. -/
def msixPending (s : State) (f v : Nat) : Bool := bitOf (s.rdi (bar2 f) Reg.Msix.PBA (v / 32)) (v % 32)

/-- MSI-X vector `v` of function `f` is sent; a masked vector becomes pending; with MSI-X off nothing leaves (R300;
notes/assumptions/72.md). -/
def sendMsix (s : State) (f v : Nat) : State :=
  if msixOpen s f v then msixWrite s f v
  else if (s.fn f).msixOn then s.wri (bar2 f) Reg.Msix.PBA (v / 32) (setBit (s.rdi (bar2 f) Reg.Msix.PBA (v / 32)) (v % 32))
  else s

/-- A pending vector that may leave now leaves. -/
def msixRelease (s : State) (f v : Nat) : State :=
  if msixPending s f v && msixOpen s f v then
    msixWrite (s.wri (bar2 f) Reg.Msix.PBA (v / 32) (s.rdi (bar2 f) Reg.Msix.PBA (v / 32) - 2 ^ (v % 32))) f v
  else s

/-- Every pending vector of `f` that may leave leaves, the lowest first. -/
def msixReleaseAll (s : State) (f : Nat) : State := (List.range 2048).foldl (fun t v => msixRelease t f v) s

/-- An armed event queue whose producer index differs from its consumer index interrupts and disarms (R300). -/
def eqFire (s : State) (f : Nat) : State :=
  if (s.fn f).eqArmed && s.rd (bar2 f) Reg.Bar2.EQ_PI != s.rd (bar2 f) Reg.Bar2.EQ_CI then
    sendMsix (s.setFn f { s.fn f with eqArmed := false }) f (s.rd (bar2 f) Reg.Bar2.EQ_CFG_VEC)
  else s

/-- One event raised to the event queue of function `f` (R269, R302): it takes the next place of the queue and waits to be
written there, or is counted in EQ_OVERFLOW when the queue is full (R270). A function without an event queue in use, or in a
queue reset (R305 step 4), receives none. -/
def raiseEvent (s : State) (f code : Nat) (detail : List Nat) : State :=
  let b := bar2 f
  let x := s.fn f
  if s.on b Reg.Bar2.EQ_CFG_EN && !x.resetting then
    let n := (x.eqSeq + 1) % 2 ^ 32
    if ringDist (s.rd b Reg.Bar2.EQ_PI) (s.rd b Reg.Bar2.EQ_CI) + x.eqWait.length < 2 ^ s.rd b Reg.Bar2.EQ_CFG_LOG_SIZE then
      s.setFn f { x with eqSeq := n, eqWait := x.eqWait ++ [{ code := code, seq := n, time := s.timebase, detail := detail }] }
    else (s.setFn f { x with eqSeq := n }).bump b Reg.Bar2.EQ_OVERFLOW
  else s

/-- One record for the EVENTS stream (R562): kept until it is sent, at most 4,096 of them, the rest counted in
EVT_LOST (R563). -/
def streamEvent (s : State) (code : Nat) (detail : List Nat) : State :=
  let q := (s.events.seq + 1) % 2 ^ 32
  if s.events.kept.length < 4096 then
    { s with events := { kept := s.events.kept ++ [{ code := code, seq := q, time := s.timebase, detail := detail }],
                         seq := q } }
  else ({ s with events := { s.events with seq := q } }).bump (base .mgmtProc) Reg.Mp.EVT_LOST

/-- The physical functions that receive device events: the upstream attachments named in DEV_EVT_ATTACH of
cluster 0 (R269); the physical function of attachment `a` is function `a` (R412). -/
def devEvtFns (s : State) : List Nat :=
  (List.range 64).filter (fun a =>
    bitOf (s.rd64 (base (.cluster 0)) Reg.Tc.DEV_EVT_ATTACH_LO Reg.Tc.DEV_EVT_ATTACH_HI) a &&
    s.rd (base (.attachment (idx 63 a))) Reg.Att.ATT_CFG_ROLE == 1)

/-- A device event (R269): to the named physical functions and to the EVENTS stream (R562). -/
def deviceEvent (s : State) (code : Nat) (detail : List Nat) : State :=
  (devEvtFns s).foldl (fun t f => raiseEvent t f code detail) (streamEvent s code detail)

/-! ### Counter banks (R519 to R525) -/

/-- Type-specific events of the unit: codes 0x100 up (R525). -/
def bankEvents : UnitId → Nat
  | .root | .gazetteer | .mgmtEth _ => 3
  | .fabricMacro _ | .meterBank => 2
  | .port _ | .attachment _ | .tileCluster _ => 8
  | .hostMacro _ | .tile _ | .injShaper | .egressShaper _ => 1
  | .atlas | .cluster _ | .collective | .stack _ => 4
  | .engine _ => 12
  | .matching => 6
  | .compass | .slice _ => 7
  | .mgmtProc | .secProc | .flask | .switchCore | .macroGroup _ | .hostGroup _ => 0

/-- An increment of an event with what its filters look at (R522); `none` is a filter the event does not support. -/
structure CntEvent where
  code : Nat
  inc : Nat
  priv : Option Bool
  master : Option Nat
  addr : Option Nat
  cls : Option Nat
  deriving DecidableEq, Repr

/-- An event without filters that adds `n`. -/
def CntEvent.plain (code n : Nat) : CntEvent :=
  { code := code, inc := n, priv := none, master := none, addr := none, cls := none }

/-- SEL.EVENT of counter `i` of the bank at `b`: the default is the unit's `i`-th own event, or 0 (R520). -/
def selEvent (s : State) (u : UnitId) (b i : Nat) : Nat :=
  (look s.regs (Reg.Cnt.SEL_EVENT.key (b + 16 * i))).getD (if i < bankEvents u then 0x100 + i else 0)

/-- Counter `i` of the bank at `b` counts this event (R522). -/
def cntPasses (s : State) (u : UnitId) (b i : Nat) (e : CntEvent) : Bool :=
  let p := s.rdi b Reg.Cnt.SEL_PRIV i
  let range := s.rdi b Reg.Cnt.SEL_ADDR_RANGE i
  let lo := if range = 0 then s.rd64 b Reg.Cnt.ADDR0_BASE_LO Reg.Cnt.ADDR0_BASE_HI
    else s.rd64 b Reg.Cnt.ADDR1_BASE_LO Reg.Cnt.ADDR1_BASE_HI
  let hi := if range = 0 then s.rd64 b Reg.Cnt.ADDR0_LIMIT_LO Reg.Cnt.ADDR0_LIMIT_HI
    else s.rd64 b Reg.Cnt.ADDR1_LIMIT_LO Reg.Cnt.ADDR1_LIMIT_HI
  selEvent s u b i == e.code &&
  (match e.priv with
   | some q => p == 0 || (p == 1 && q) || (p == 2 && !q)
   | none => true) &&
  (match e.master with
   | some m => s.rdi b Reg.Cnt.SEL_MASTER_EN i == 0 ||
       (m ^^^ s.rdi b Reg.Cnt.MASTER_VAL i) &&& s.rdi b Reg.Cnt.MASTER_MASK i == 0
   | none => true) &&
  (match e.addr with
   | some a => s.rdi b Reg.Cnt.SEL_ADDR_EN i == 0 || (lo ≤ a && a ≤ hi)
   | none => true) &&
  (match e.cls with
   | some v => bitOf (s.rdi b Reg.Cnt.SEL_CLASS i) v
   | none => true)

/-- The event added to every counter of the unit's bank that selects it, modulo 2^48 (R521). -/
def countEv (s : State) (u : UnitId) (e : CntEvent) : State :=
  match bankOffset u with
  | none => s
  | some o =>
    let b := base u + o
    (List.range (bankCounters u)).foldl (fun t i =>
      if cntPasses t u b i e then
        t.wr64 (b + 16 * i) Reg.Cnt.VALUE_LO Reg.Cnt.VALUE_HI
          ((t.rd64 (b + 16 * i) Reg.Cnt.VALUE_LO Reg.Cnt.VALUE_HI + e.inc) % 2 ^ 48)
      else t) s

/-- One occurrence of an event without filters. -/
def cnt1 (s : State) (u : UnitId) (code : Nat) : State := countEv s u (CntEvent.plain code 1)

/-- An event of increment `n` with a class and a master to filter on (R522, R525). -/
def cntCM (s : State) (u : UnitId) (code n : Nat) (cls master : Option Nat) : State :=
  countEv s u { code := code, inc := n, priv := none, master := master, addr := none, cls := cls }

/-- An event with privilege, master and address to filter on (R522, R525). -/
def cntPMA (s : State) (u : UnitId) (code n : Nat) (priv : Option Bool) (master addr : Option Nat) : State :=
  countEv s u { code := code, inc := n, priv := priv, master := master, addr := addr, cls := none }

/-! ### Access violations (R79) -/

/-- Reason codes of ACC_VIOL (R78). -/
inductive Viol | denied | misaligned | fpBusy | fpAbandoned | inReset | busyGroup | rootFence | locked | cmdBusy
  deriving DecidableEq, Repr

/-- The code of a reason. -/
def Viol.code : Viol → Nat
  | .denied => 1 | .misaligned => 2 | .fpBusy => 3 | .fpAbandoned => 4 | .inReset => 5 | .busyGroup => 6
  | .rootFence => 7 | .locked => 8 | .cmdBusy => 9

/-- The code of a route (ACC_VIOL.ROUTE). -/
def routeCode : Route → Nat
  | .mp => 0 | .drisiul => 1 | .bar0 _ => 2

/-- The attachment of a route, 0 when it is not BAR0. -/
def routeAttach : Route → Nat
  | .bar0 a => a.val | _ => 0

/-- A violation recorded: the first since ACC_VIOL was last read, or OVERFLOW (R79). -/
def accViol (s : State) (r : Route) (v : Viol) (off : Nat) : State :=
  let s := cnt1 s .root 0x102
  if s.on 0 Reg.Root.ACC_VIOL_VALID then s.wr 0 Reg.Root.ACC_VIOL_OVERFLOW 1
  else ((((s.wr 0 Reg.Root.ACC_VIOL_VALID 1).wr 0 Reg.Root.ACC_VIOL_ROUTE (routeCode r)).wr 0
      Reg.Root.ACC_VIOL_REASON v.code).wr 0 Reg.Root.ACC_VIOL_ATTACH (routeAttach r)).wr 0
      Reg.Root.ACC_VIOL_ADDR off

/-! ### Unit status (R42, R47, R50 to R54) -/

/-- The unit reads FENCED: it or a unit of its subtree is fenced (R47). -/
def fencedView (s : State) (u : UnitId) : Bool := s.setup.fenced.any (fun v => inSubtree v u)

/-- The unit itself is fenced. -/
def isFenced (s : State) (u : UnitId) : Bool := s.setup.fenced.contains u

/-- A unit reset of the unit or an ancestor is in progress (R42). -/
def inReset (s : State) (u : UnitId) : Bool := s.setup.inReset.contains u

/-- The unit's clock runs: a self-timed or compound unit has none to lose (R23, R40). -/
def clockRuns (s : State) (u : UnitId) : Bool := !(s.boot.stopped.contains (legIsland u))

/-- The unit takes nothing in: it is fenced, in unit reset, or its clock is lost (R50, R53, R602). -/
def unitOff (s : State) (u : UnitId) : Bool := isFenced s u || inReset s u || !(clockRuns s u)

/-- A fatal stop is in force (R609). -/
def fatalStopped (s : State) : Bool := s.on 0 Reg.Err.ERR_STATUS_FATAL

/-- Transport cluster `c`, or an engine of it, is fenced or in unit reset: the cluster is the containment unit (R607). -/
def clusterLost (s : State) (c : Nat) : Bool := (subtree (.cluster (idx 3 c))).any (fun u => isFenced s u || inReset s u)

/-- The commit group of the unit (R56). -/
def groupOf (s : State) (u : UnitId) : Nat := lookD s.setup.groups (base u) (defaultGroup u)

/-- Highest uncleared severity in the subtree (R47). -/
def sevView (s : State) (u : UnitId) : Nat :=
  (s.err.sev.filter (fun kv => base u ≤ kv.1 && kv.1 < base u + 2 ^ sizeLog u)).foldl (fun m kv => Nat.max m kv.2) 0

/-- LEG_ERR_FIRST of the unit: no unit while ERR_ANY reads 0 (R42). -/
def errFirst (s : State) (u : UnitId) : Nat :=
  if sevView s u = 0 then 0xFFFFFFFF else lookD s.err.first (base u) 0xFFFFFFFF

/-- The event bit that shows a configuration error in a unit (the event registers of the chapters), where it has one. -/
def cfgErrBit : UnitId → Option (Field × Nat)
  | .root => some (Reg.Hk.HK_EVENT, 3)
  | .gazetteer => some (Reg.Gz.GZ_EVENT, 4)
  | .matching => some (Reg.Mt.MT_EVENT, 4)
  | .collective => some (Reg.Cl.CL_EVENT, 3)
  | .compass => some (Reg.Xl.XL_EVENT, 5)
  | .meterBank | .injShaper | .egressShaper _ => some (Reg.Mb.MTR_EVENT, 0)
  | .cluster _ | .engine _ => some (Reg.Tc.TP_EVENT, 6)
  | .attachment _ => some (Reg.Att.ATT_EVENT, 6)
  | .stack _ => some (Reg.Pool.POOL_EVENT, 4)
  | .mgmtProc | .mgmtEth _ | .atlas | .switchCore | .slice _ | .secProc | .flask | .tileCluster _ | .tile _ | .macroGroup _ | .fabricMacro _ | .port _ | .hostGroup _
  | .hostMacro _ => none

/-- The unit records a configuration error: its event bit, and nothing else (R5, R603). -/
def configError (s : State) (u : UnitId) : State :=
  let s := cnt1 s u 0x005
  match cfgErrBit u with
  | some (f, i) => s.setEvt (match u with
      | .engine e => base (.cluster (idx 3 (e.val / 4)))
      | .stack _ => base (.stack 0)
      | v => base v) f i
  | none => s

/-- The unit and its subtree fenced (R50, R51); a unit in reset is fenced when its reset completes (R54, R607). A compound unit of
which only a unit below is in reset, so that its IN_RESET reads 1 by R47 all the same, is fenced at once, and that unit with it
(DESIGN CHOICE, notes/assumptions/83.md). -/
def markFenced (s : State) (u : UnitId) : State :=
  if inReset s u then { s with setup := { s.setup with fencePend := addOnce s.setup.fencePend u } }
  else { s with
    setup := { s.setup with fenced := (subtree u).foldl addOnce s.setup.fenced }
    mg := { s.mg with ownFence := s.mg.ownFence && u != .mgmtProc } }

/-! ### Error records (R603 to R605, R613) -/

/-- KIND codes (R603). -/
inductive ErrKind
  | header | e2e | bridgeCode | eccCorr | eccUncorr | stall | cfgSignature | lockstep | protocol | audit
  | clockLoss | wdLatent | misdelivery | coherence | thermal
  deriving DecidableEq, Repr

/-- The code of a KIND. -/
def ErrKind.code : ErrKind → Nat
  | .header => 1 | .e2e => 2 | .bridgeCode => 3 | .eccCorr => 4 | .eccUncorr => 5 | .stall => 6
  | .cfgSignature => 7 | .lockstep => 8 | .protocol => 9 | .audit => 10 | .clockLoss => 11 | .wdLatent => 12
  | .misdelivery => 13 | .coherence => 14 | .thermal => 15

/-- One error to record. -/
structure ErrRec where
  unit : UnitId
  kind : ErrKind
  sev : Nat
  sub : Nat
  info : Nat
  fenced : Bool
  fatal : Bool
  deriving DecidableEq, Repr

/-- An uncorrected, contained error. -/
def ErrRec.contained (u : UnitId) (k : ErrKind) (sub info : Nat) : ErrRec :=
  { unit := u, kind := k, sev := 2, sub := sub, info := info, fenced := false, fatal := false }

/-- An ECC error of a structure of a unit, corrected or contained (R603). -/
def ErrRec.ecc (u : UnitId) (corrects : Bool) (place info : Nat) : ErrRec :=
  { unit := u, kind := if corrects then .eccCorr else .eccUncorr, sev := if corrects then 1 else 2,
    sub := (Config.eccCode (base u) place).toNat, info := info, fenced := false, fatal := false }

/-- Word 0x00 of the record (R613). -/
def ErrRec.word0 (e : ErrRec) : Nat :=
  e.sev + 4 * b2n e.fenced + 8 * b2n e.fatal + 256 * e.kind.code + 65536 * (e.sub % 65536)

/-- The unit's summary raised, and LEG_ERR_FIRST set wherever it reads none (R604). -/
def errSummary (s : State) (e : ErrRec) : State :=
  let first := (e.unit :: ancestors e.unit).foldl
    (fun m v => if errFirst s v = 0xFFFFFFFF then put m (base v) (base e.unit) else m) s.err.first
  { s with err := { s.err with
      sev := put s.err.sev (base e.unit) (Nat.max (lookD s.err.sev (base e.unit) 0) e.sev), first := first,
      seq := (s.err.seq + 1) % 2 ^ 32 } }

/-- The record written at ERRLOG_PI within the ring rule of R403, or counted in ERRLOG_LOST (R604, R613). -/
def errLogWrite (s : State) (e : ErrRec) : State :=
  let pi := s.rd 0 Reg.Err.ERRLOG_PI
  if ringDist pi (s.rd 0 Reg.Err.ERRLOG_CI) < 256 then
    let b := 32 * (pi % 256)
    let t := s.timebase
    let s := ((((s.wr b Reg.ErrRec.SEV e.sev).wr b Reg.ErrRec.FENCED (b2n e.fenced)).wr b Reg.ErrRec.FATAL
      (b2n e.fatal)).wr b Reg.ErrRec.KIND e.kind.code).wr b Reg.ErrRec.SUB e.sub
    let s := ((s.wr b Reg.ErrRec.WINDOW (base e.unit)).wr64 b Reg.ErrRec.TIMESTAMP_LO Reg.ErrRec.TIMESTAMP_HI t).wr64
      b Reg.ErrRec.INFO_LO Reg.ErrRec.INFO_HI e.info
    ((s.wr b Reg.ErrRec.SEQ s.err.seq).wr b Reg.ErrRec.VALID 1).wr 0 Reg.Err.ERRLOG_PI (pi + 1)
  else s.bump 0 Reg.Err.ERRLOG_LOST

/-- The error report of a logged record (R605): to the EVENTS stream always, as device event 0x60 when its severity is
high enough and the unit raised none within the last 1 ms. -/
def errReport (s : State) (e : ErrRec) : State :=
  let d := [base e.unit, e.word0, e.info % 2 ^ 32, e.info / 2 ^ 32]
  let s' := streamEvent s 0x60 d
  if s.rd 0 Reg.Err.ERR_EVT_MIN_SEV ≤ e.sev && !(within s (look s.err.lastEvt (base e.unit)) 1000000) then
    (devEvtFns s).foldl (fun t f => raiseEvent t f 0x60 d)
      { s' with err := { s'.err with lastEvt := put s'.err.lastEvt (base e.unit) s.now } }
  else s'

/-- A corrected error of this unit was logged within the preceding 1 ms of TIMEBASE_NS (R604). -/
def corrRecent (s : State) (u : UnitId) : Bool :=
  match look s.err.lastCorr (base u) with
  | some t => s.timebase < t + 1000000
  | none => false

/-- An error recorded (R604, R605): summaries, counter, log and report. -/
def recordError (s : State) (e : ErrRec) : State :=
  let s := errSummary s e
  let s := if e.sev = 1 then cnt1 s e.unit 0x003 else if e.sev = 2 then cnt1 s e.unit 0x004 else s
  let s := if e.sev = 1 then s.bump 0 Reg.Err.CORR_CNT else if e.sev = 2 then s.bump 0 Reg.Err.UNCORR_CNT else s
  if e.sev = 1 && corrRecent s e.unit then s
  else
    let s := if e.sev = 1 then
        { s with err := { s.err with lastCorr := put s.err.lastCorr (base e.unit) s.timebase } } else s
    errReport (errLogWrite s e) e

/-! ### Units that start a fatal stop (R608) -/

/-- A dangerous failure detected in this unit starts a fatal stop (R608). -/
def fatalUnit : UnitId → Bool
  | .root | .atlas | .switchCore | .compass | .slice _ | .meterBank | .injShaper | .egressShaper _ | .secProc => true
  | _ => false

/-! ### Ports and attachments named by several families -/

/-- Window of fabric port `n`. -/
def portBase (n : Nat) : Nat := base (.port (idx 95 n))

/-- Window of host attachment `a`. -/
def attBase (a : Nat) : Nat := base (.attachment (idx 63 a))

/-- Window of transport cluster `c`. -/
def clusterBase (c : Nat) : Nat := base (.cluster (idx 3 c))

/-- Window of home slice `i`. -/
def sliceBase (i : Nat) : Nat := base (.slice (idx 47 i))

/-- Window of HBM stack `i`. -/
def stackBase (i : Nat) : Nat := base (.stack (idx 5 i))

/-- PORT_STATE.STATE codes (R148). -/
def stDown : Nat := 0
def stUp : Nat := 1
def stDegraded : Nat := 2
def stRetrain : Nat := 3
def stBroken : Nat := 4

/-- The port is UP or DEGRADED. -/
def portRunning (s : State) (n : Nat) : Bool :=
  s.rd (portBase n) Reg.Port.PORT_STATE_STATE == stUp || s.rd (portBase n) Reg.Port.PORT_STATE_STATE == stDegraded

/-- The device's Cicen device ID (R78). -/
def deviceId (s : State) : Nat := s.rd 0 Reg.Root.DEV_CICEN_ID_DEVICE_ID

/-- The device is in receive-first (R19, R20). -/
def receiveFirst (s : State) : Bool := s.on 0 Reg.Root.DEV_STATUS_PACE_LOW

/-- Window of host macro `h`. -/
def macBase (h : Nat) : Nat := base (.hostMacro (idx 15 h))

/-- Lanes of an attachment under its macro's bifurcation, 0 when the bifurcation does not use it (R405). -/
def attLanes (s : State) (a : Nat) : Nat :=
  let m := s.rd (macBase (a / 4)) Reg.Mac.MAC_CFG_BIFURC
  if m = 0 then (if a % 4 = 0 then 16 else 0) else if m = 1 then (if a % 2 = 0 then 8 else 0) else 4

end Sys2Proof.Machine
end

