-- ==== Sys2Proof/Machine/Packets.lean ====
section
/-!
DEFINITION. Cicen packets (spec/03_cicen_packets.md): bytes in wire order, the two check words, flit counts,
the arrival checks of R91 and R101, stomping, and the fields of the opcodes.
-/
namespace Sys2Proof

open Sys2Proof.Machine

/-! ### Bytes in wire order (R2, R85, R87, R98) -/

/-- A 32-bit word as four bytes, most significant first (R2). -/
def be4 (w : Nat) : List Nat := [w / 2 ^ 24 % 256, w / 2 ^ 16 % 256, w / 2 ^ 8 % 256, w % 256]

/-- The four words of the route header, with HDR_CHK as given (R87). -/
def RouteHdr.wordsWith (h : RouteHdr) (chk : Nat) : List Nat :=
  [h.dst.toNat * 2 ^ 8 + h.vclass.toNat * 2 ^ 5 + h.hoplvl.toNat * 4 + b2n h.epoch * 2 + b2n h.fence,
   h.src.toNat * 2 ^ 8 + h.hopcnt.toNat * 2 ^ 4 + h.mode.toNat * 4 + h.colour.toNat,
   h.waypt.toNat * 2 ^ 21 + b2n h.ce * 2 ^ 20 + b2n h.mc * 2 ^ 19 + h.len.toNat * 2 ^ 6 + h.rsv.toNat,
   h.flowhash.toNat * 2 ^ 16 + chk]

/-- The words of the transport header (R98, R102). -/
def TransHdr.allWords (t : TransHdr) : List Nat :=
  [t.top.toNat * 2 ^ 24 + t.thlen.toNat * 2 ^ 22 + t.rsvA.toNat * 2 ^ 20 + t.channel.toNat,
   t.gen.toNat * 2 ^ 24 + t.psn.toNat,
   b2n t.first * 2 ^ 31 + b2n t.last * 2 ^ 30 + b2n t.ackreq * 2 ^ 29 + t.rsvB.toNat * 2 ^ 24 + t.fenceCnt.toNat] ++
  t.words.map BitVec.toNat

/-- THLEN in bytes (R98). -/
def TransHdr.bytes (t : TransHdr) : Nat := 16 * t.thlen.toNat

/-- Flits of a packet whose LEN is `len` (R86). -/
def flitsOfLen (len : Nat) : Nat := (len + 8 + 63) / 64

/-- Flits of the packet (R86). -/
def Packet.flits (p : Packet) : Nat := flitsOfLen p.rh.len.toNat

/-- The packet's length in bytes as other chapters count it: LEN + 8 (R86). -/
def Packet.size (p : Packet) : Nat := p.rh.len.toNat + 8

/-- The pad between payload and trailer (R85). -/
def Packet.pad (p : Packet) : Nat := 64 * p.flits - p.size

/-! ### Check words (R90, R94) -/

/-- One bit step of the CRC-16 with polynomial 0x1021, most significant bit first. -/
def crc16Bit (c : Nat) : Nat := if 0x8000 ≤ c then (c * 2 % 65536) ^^^ 0x1021 else c * 2

/-- The CRC-16 over bytes, initial value 0xFFFF (R90). -/
def crc16 (bytes : List Nat) : Nat :=
  bytes.foldl (fun c b =>
    let x := c ^^^ (b * 256)
    crc16Bit (crc16Bit (crc16Bit (crc16Bit (crc16Bit (crc16Bit (crc16Bit (crc16Bit x)))))))) 0xFFFF

/-- One bit step of a reflected 32-bit CRC. -/
def crcRefBit (poly c : Nat) : Nat := if c % 2 = 1 then (c / 2) ^^^ poly else c / 2

/-- A reflected CRC-32 over bytes: initial value and final XOR all ones. -/
def crcRef (poly : Nat) (bytes : List Nat) : Nat :=
  (bytes.foldl (fun c b =>
    let x := c ^^^ b
    let f := crcRefBit poly
    f (f (f (f (f (f (f (f x)))))))) 0xFFFFFFFF) ^^^ 0xFFFFFFFF

/-- CRC-32C: polynomial 0x1EDC_6F41 reflected (R94). -/
def crc32c (bytes : List Nat) : Nat := crcRef 0x82F63B78 bytes

/-- The CRC-32 of IEEE 802.3: polynomial 0x04C1_1DB7 reflected (R114). -/
def crc32 (bytes : List Nat) : Nat := crcRef 0xEDB88320 bytes

/-- HDR_CHK of a route header (R90). -/
def RouteHdr.check (h : RouteHdr) : Nat := crc16 ((h.wordsWith 0).flatMap be4)

/-- The route header as E2E_CRC sees it: HOPLVL, HOPCNT, COLOUR, WAYPT, CE and HDR_CHK zero (R94). -/
def RouteHdr.forCrc (h : RouteHdr) : RouteHdr :=
  { h with hoplvl := 0, hopcnt := 0, colour := 0, waypt := 0, ce := false, chk := 0 }

/-- E2E_CRC computed over the packet (R94). -/
def Packet.e2e (p : Packet) : Nat :=
  crc32c (((p.rh.forCrc.wordsWith 0).flatMap be4) ++ (p.th.allWords.flatMap be4) ++ p.payload.map BitVec.toNat ++
    List.replicate p.pad 0)

/-- HDR_CHK recomputed, as every device does on every packet it transmits (R90). -/
def Packet.reseal (p : Packet) : Packet := { p with rh := { p.rh with chk := BitVec.ofNat 16 p.rh.check } }

/-- The packet finished by its originator: HOPLVL, HOPCNT and CE zero (R88), both check words computed, not stomped. -/
def Packet.originate (p : Packet) : Packet :=
  let p := { p with rh := { p.rh with hoplvl := 0, hopcnt := 0, ce := false, rsv := 0 } }
  let p := { p with tr := { crc := BitVec.ofNat 32 p.e2e, stomp := 0, reason := 0, dev := 0 }, intact := true }
  p.reseal

/-- STOMP reasons (R93). -/
def stompLink : Nat := 1
def stompE2e : Nat := 2
def stompBridge : Nat := 3
def stompEcc : Nat := 4
def stompFenced : Nat := 5
def stompLength : Nat := 6

/-- The packet stomped by device `dev` (R95). -/
def Packet.stomped (p : Packet) (reason dev : Nat) : Packet :=
  { p with tr := { crc := ~~~ (BitVec.ofNat 32 p.e2e), stomp := 0xA5, reason := BitVec.ofNat 8 reason,
                   dev := BitVec.ofNat 16 dev } }

/-- The trailer says the packet is whole: STOMP 0x00 and E2E_CRC correct (R97). -/
def Packet.whole (p : Packet) : Bool := p.tr.stomp == 0 && p.intact

/-- STOMP holds neither 0x00 nor 0xA5: the packet counts as stomped and as malformed (R93). -/
def Packet.oddStomp (p : Packet) : Bool := p.tr.stomp != 0 && p.tr.stomp != 0xA5

/-! ### Classes, virtual channels, opcodes (R87, R89, R99) -/

/-- VCLASS codes. -/
def clsReq : Nat := 0
def clsRsp : Nat := 1
def clsL0 : Nat := 2
def clsL1 : Nat := 3
def clsL2 : Nat := 4
def clsFmgt : Nat := 5

/-- The class is lossless: REQ, RSP or FMGT. -/
def lossless (c : Nat) : Bool := c == clsReq || c == clsRsp || c == clsFmgt

/-- The class is lossy: L0, L1 or L2. -/
def lossy (c : Nat) : Bool := c == clsL0 || c == clsL1 || c == clsL2

/-- The link virtual channel of a class and hop level (R89). -/
def vcOf (cls lvl : Nat) : Nat :=
  if cls = clsReq then lvl else if cls = clsRsp then 6 + lvl else if cls = clsL0 then 12 else if cls = clsL1 then 13
  else if cls = clsL2 then 14 else 15

/-- The class of a packet. -/
def Packet.cls (p : Packet) : Nat := p.rh.vclass.toNat

/-- TOP codes (R99). -/
def opWrite : Nat := 0x01
def opReadReq : Nat := 0x02
def opReadRsp : Nat := 0x03
def opSendEager : Nat := 0x04
def opSendRts : Nat := 0x05
def opRndvFin : Nat := 0x06
def opNotify : Nat := 0x07
def opCollUp : Nat := 0x08
def opCollDown : Nat := 0x09
def opTunnel : Nat := 0x0A
def opMirror : Nat := 0x0B
def opAck : Nat := 0x10
def opNak : Nat := 0x11
def opFmgt : Nat := 0x20

/-- The opcode of a packet. -/
def Packet.op (p : Packet) : Nat := p.th.top.toNat

/-- A channel opcode: every opcode but COLL_UP, COLL_DOWN, TUNNEL, MIRROR and FMGT (R99). -/
def channelOp (op : Nat) : Bool :=
  op == opWrite || op == opReadReq || op == opReadRsp || op == opSendEager || op == opSendRts || op == opRndvFin ||
  op == opNotify || op == opAck || op == opNak

/-- The channel number is a selective-repeat one (R99). -/
def isSr (channel : Nat) : Bool := 0xFF000 ≤ channel

/-- The THLEN code of R99: 1 = 16 B, 2 = 32 B, 3 = 48 B; `sr` for a selective-repeat channel. -/
def thlenOf (op : Nat) (sr : Bool) : Option Nat :=
  if op = opReadRsp ∨ op = opNotify ∨ op = opTunnel ∨ op = opNak then some 1
  else if op = opAck then some (if sr then 2 else 1)
  else if op = opWrite ∨ op = opReadReq ∨ op = opRndvFin ∨ op = opCollUp ∨ op = opCollDown ∨ op = opMirror ∨ op = opFmgt
    then some 2
  else if op = opSendEager ∨ op = opSendRts then some 3
  else none

/-- The payload range of R99, in bytes. -/
def payloadRange (op : Nat) : Nat × Nat :=
  if op = opWrite ∨ op = opReadRsp then (1, 4096)
  else if op = opReadReq ∨ op = opSendRts ∨ op = opRndvFin ∨ op = opAck ∨ op = opNak then (0, 0)
  else if op = opNotify then (0, 32)
  else if op = opTunnel then (14, 4096)
  else (0, 4096)

/-- The class is one R99 gives for the opcode. -/
def classFits (op : Nat) (sr : Bool) (c : Nat) : Bool :=
  if op = opCollUp then c == clsReq
  else if op = opCollDown then c == clsRsp
  else if op = opTunnel then lossy c
  else if op = opMirror then c == clsL2
  else if op = opFmgt then c == clsFmgt
  else if sr then c == clsL0
  else if op = opReadRsp ∨ op = opAck ∨ op = opNak then c == clsRsp
  else c == clsReq

/-- The class on which a packet of this opcode is sent (R99). -/
def classOf (op : Nat) (sr : Bool) : Nat :=
  if op = opFmgt then clsFmgt
  else if op = opMirror then clsL2
  else if op = opCollDown then clsRsp
  else if op = opCollUp then clsReq
  else if sr then clsL0
  else if op = opReadRsp ∨ op = opAck ∨ op = opNak then clsRsp
  else clsReq

/-- The packet is malformed at its destination (R101). -/
def Packet.malformed (p : Packet) : Bool :=
  let sr := channelOp p.op && isSr p.th.channel.toNat
  match thlenOf p.op sr with
  | none => true
  | some t =>
    t != p.th.thlen.toNat || p.rh.len.toNat < 16 + p.th.bytes || p.payload.length < (payloadRange p.op).1 || (payloadRange p.op).2 < p.payload.length ||
    !(classFits p.op sr p.cls) || (p.rh.mc && p.op != opTunnel)

/-- The first of checks 1 to 7 of R91 that the packet fails, arriving on link VC `vc`. -/
def Packet.headFail (p : Packet) (vc : Nat) : Option Nat :=
  let lvl := p.rh.hoplvl.toNat
  if p.rh.chk.toNat ≠ p.rh.check then some 1
  else if 6 ≤ p.cls then some 2
  else if (p.cls = clsReq ∨ p.cls = clsRsp) ∧ 6 ≤ lvl then some 3
  else if vcOf p.cls lvl ≠ vc then some 4
  else if p.rh.len.toNat < 32 ∨ 4160 < p.rh.len.toNat then some 5
  else if p.rh.mc ∧ lossless p.cls then some 6
  else if p.rh.mc ∧ p.rh.dst.toNat / 65536 ≠ 0 then some 7
  else none

/-! ### Header fields by name (R102 to R107) -/

/-- Word `i` of the opcode's own words (offset 0x1C + 4 i). -/
def Packet.w (p : Packet) (i : Nat) : Nat := (p.th.words[i]?.getD 0).toNat

/-- RKEY of WRITE and READ_REQ. -/
def Packet.rkey (p : Packet) : Nat := p.w 0
/-- RADDR of WRITE and READ_REQ. -/
def Packet.raddr (p : Packet) : Nat := p.w 1 * 2 ^ 32 + p.w 2
/-- READ_LEN of READ_REQ. -/
def Packet.readLen (p : Packet) : Nat := p.w 3 % 2 ^ 13
/-- POISON of READ_RSP. -/
def Packet.poison (p : Packet) : Bool := bitOf (p.w 0) 31
/-- DOMAIN of SEND_EAGER and SEND_RTS. -/
def Packet.domain (p : Packet) : Nat := p.w 0 / 2 ^ 20
/-- COMM of SEND_EAGER and SEND_RTS. -/
def Packet.comm (p : Packet) : Nat := p.w 0 % 2 ^ 16
/-- TAG of SEND_EAGER and SEND_RTS. -/
def Packet.tag (p : Packet) : Nat := p.w 1 * 2 ^ 32 + p.w 2
/-- MSG_LEN of SEND_EAGER and SEND_RTS. -/
def Packet.msgLen (p : Packet) : Nat := p.w 3
/-- MSG_OFF of SEND_EAGER. -/
def Packet.msgOff (p : Packet) : Nat := p.w 4
/-- SKEY of SEND_RTS. -/
def Packet.skey (p : Packet) : Nat := p.w 4
/-- SADDR of SEND_RTS. -/
def Packet.saddr (p : Packet) : Nat := p.w 5 * 2 ^ 32 + p.w 6
/-- FIN_STATUS of RNDV_FIN. -/
def Packet.finStatus (p : Packet) : Nat := p.w 0 / 2 ^ 24
/-- RTS_PSN of RNDV_FIN. -/
def Packet.rtsPsn (p : Packet) : Nat := p.w 0 % 2 ^ 24
/-- DELIVERED_LEN of RNDV_FIN. -/
def Packet.deliveredLen (p : Packet) : Nat := p.w 1
/-- IMM of NOTIFY. -/
def Packet.imm (p : Packet) : Nat := p.w 0
/-- FRAME_LEN of TUNNEL. -/
def Packet.frameLen (p : Packet) : Nat := p.w 0 % 2 ^ 13
/-- ECE of ACK. -/
def Packet.ackEce (p : Packet) : Nat := p.w 0 / 2 ^ 16
/-- SACK of a selective-repeat ACK. -/
def Packet.sack (p : Packet) : Nat := p.w 1 * 2 ^ 32 + p.w 2
/-- NAK_CODE of NAK. -/
def Packet.nakCode (p : Packet) : Nat := p.w 0 / 2 ^ 24
/-- ECE of NAK. -/
def Packet.nakEce (p : Packet) : Nat := p.w 0 % 2 ^ 16
/-- RT_LEN of FMGT. -/
def Packet.rtLen (p : Packet) : Nat := p.w 0 / 2 ^ 28
/-- RT_PORT[i] of FMGT (offset 0x20 + i). -/
def Packet.rtPort (p : Packet) (i : Nat) : Nat := p.w (1 + i / 4) / 2 ^ (8 * (3 - i % 4)) % 256

/-- The endpoint a packet is for. -/
def Packet.endpoint (p : Packet) : Nat := p.rh.dst.toNat % 256

/-- The device ID a packet is for. -/
def Packet.dstDevice (p : Packet) : Nat := p.rh.dst.toNat / 256

/-- A new route header. -/
def mkRoute (dst cls src mode waypt len flowhash : Nat) (epoch fence : Bool) (colour : Nat) : RouteHdr :=
  { dst := BitVec.ofNat 24 dst, vclass := BitVec.ofNat 3 cls, hoplvl := 0, epoch := epoch, fence := fence,
    src := BitVec.ofNat 24 src, hopcnt := 0, mode := BitVec.ofNat 2 mode, colour := BitVec.ofNat 2 colour,
    waypt := BitVec.ofNat 11 waypt, ce := false, mc := false, len := BitVec.ofNat 13 len, rsv := 0,
    flowhash := BitVec.ofNat 16 flowhash, chk := 0 }

/-- A new transport header. -/
def mkTrans (top thlen channel gen psn : Nat) (first last ackreq : Bool) (fenceCnt : Nat) (words : List Nat) : TransHdr :=
  { top := BitVec.ofNat 8 top, thlen := BitVec.ofNat 2 thlen, rsvA := 0, channel := BitVec.ofNat 20 channel,
    gen := BitVec.ofNat 8 gen, psn := BitVec.ofNat 24 psn, first := first, last := last, ackreq := ackreq, rsvB := 0,
    fenceCnt := BitVec.ofNat 24 fenceCnt,
    words := (words ++ List.replicate (4 * thlen - 3 - words.length) 0).map (BitVec.ofNat 32) }

/-- LEN of a packet with this THLEN code and payload (R86). -/
def lenOf (thlen payload : Nat) : Nat := 16 + 16 * thlen + payload

/-- The packet's bytes up to the trailer, then the trailer, cut into flits of 64 bytes (R85). -/
def Packet.bytes (p : Packet) : List Nat :=
  ((p.rh.wordsWith p.rh.chk.toNat).flatMap be4) ++ (p.th.allWords.flatMap be4) ++ p.payload.map BitVec.toNat ++
  List.replicate p.pad 0 ++ be4 p.tr.crc.toNat ++
  be4 (p.tr.stomp.toNat * 2 ^ 24 + p.tr.reason.toNat * 2 ^ 16 + p.tr.dev.toNat)

/-- Flit `i` of the packet as a 512-bit slot, first byte most significant. -/
def Packet.flit (p : Packet) (i : Nat) : BitVec 512 :=
  BitVec.ofNat 512 (((p.bytes.drop (64 * i)).take 64).foldl (fun m b => m * 256 + b) 0)

/-- All flits of the packet, in order (R86). -/
def Packet.allFlits (p : Packet) : List (BitVec 512) := (List.range p.flits).map p.flit

/-! ### Reading flits -/

/-- The 64 bytes of a flit, in wire order. -/
def flitBytes (f : BitVec 512) : List Nat := (List.range 64).map (fun i => f.toNat / 256 ^ (63 - i) % 256)

/-- A flit from at most 64 bytes; missing bytes are zero. -/
def flitOf (bytes : List Nat) : BitVec 512 :=
  BitVec.ofNat 512 ((bytes.take 64 ++ List.replicate (64 - bytes.length) 0).foldl (fun m b => m * 256 + b) 0)

/-- A big-endian 32-bit word at byte `i`. -/
def wordAt (bytes : List Nat) (i : Nat) : Nat := ((bytes.drop i).take 4).foldl (fun m b => m * 256 + b) 0

/-- The route header in the first 16 bytes (R87). -/
def RouteHdr.ofBytes (b : List Nat) : RouteHdr :=
  let w0 := wordAt b 0
  let w1 := wordAt b 4
  let w2 := wordAt b 8
  let w3 := wordAt b 12
  { dst := BitVec.ofNat 24 (w0 / 2 ^ 8), vclass := BitVec.ofNat 3 (w0 / 2 ^ 5), hoplvl := BitVec.ofNat 3 (w0 / 4),
    epoch := bitOf w0 1, fence := bitOf w0 0, src := BitVec.ofNat 24 (w1 / 2 ^ 8), hopcnt := BitVec.ofNat 4 (w1 / 2 ^ 4),
    mode := BitVec.ofNat 2 (w1 / 4), colour := BitVec.ofNat 2 w1, waypt := BitVec.ofNat 11 (w2 / 2 ^ 21),
    ce := bitOf w2 20, mc := bitOf w2 19, len := BitVec.ofNat 13 (w2 / 2 ^ 6), rsv := BitVec.ofNat 6 w2,
    flowhash := BitVec.ofNat 16 (w3 / 2 ^ 16), chk := BitVec.ofNat 16 w3 }

/-- The transport header that begins at byte 16 (R98). -/
def TransHdr.ofBytes (b : List Nat) : TransHdr :=
  let w0 := wordAt b 16
  let w1 := wordAt b 20
  let w2 := wordAt b 24
  let t := w0 / 2 ^ 22 % 4
  { top := BitVec.ofNat 8 (w0 / 2 ^ 24), thlen := BitVec.ofNat 2 t, rsvA := BitVec.ofNat 2 (w0 / 2 ^ 20),
    channel := BitVec.ofNat 20 w0, gen := BitVec.ofNat 8 (w1 / 2 ^ 24), psn := BitVec.ofNat 24 w1,
    first := bitOf w2 31, last := bitOf w2 30, ackreq := bitOf w2 29, rsvB := BitVec.ofNat 5 (w2 / 2 ^ 24),
    fenceCnt := BitVec.ofNat 24 w2,
    words := (List.range (4 * t - 3)).map (fun i => BitVec.ofNat 32 (wordAt b (28 + 4 * i))) }

/-- The trailer in the last eight bytes (R93). -/
def Trailer.ofBytes (b : List Nat) : Trailer :=
  let t := b.drop (b.length - 8)
  { crc := BitVec.ofNat 32 (wordAt t 0), stomp := BitVec.ofNat 8 (wordAt t 4 / 2 ^ 24),
    reason := BitVec.ofNat 8 (wordAt t 4 / 2 ^ 16), dev := BitVec.ofNat 16 (wordAt t 4) }

/-- The E2E_CRC over the bytes of a run of flits up to the trailer, pad included (R94, R95). -/
def flitsCrc (rh : RouteHdr) (fs : List (BitVec 512)) : Nat :=
  let b := fs.flatMap flitBytes
  crc32c (((rh.forCrc.wordsWith 0).flatMap be4) ++ (b.take (b.length - 8)).drop 16)

/-- The trailer of a run of flits (R93). -/
def flitsTrailer (fs : List (BitVec 512)) : Trailer := Trailer.ofBytes (fs.flatMap flitBytes)

/-- E2E_CRC of a run of flits is right (R96); nothing of the transport header is read (R100). -/
def flitsIntact (rh : RouteHdr) (fs : List (BitVec 512)) : Bool := (flitsTrailer fs).crc == BitVec.ofNat 32 (flitsCrc rh fs)

/-- The packet that a run of flits spells, with this route header (R85). -/
def Packet.ofFlits (rh : RouteHdr) (fs : List (BitVec 512)) : Packet :=
  let b := fs.flatMap flitBytes
  let th := TransHdr.ofBytes b
  { rh := rh, th := th, tr := Trailer.ofBytes b,
    payload := ((b.drop (16 + th.bytes)).take (rh.len.toNat - 16 - th.bytes)).map (BitVec.ofNat 8),
    intact := flitsIntact rh fs }

/-- A head flit that carries this route header, with HDR_CHK recomputed (R90). -/
def withHead (f : BitVec 512) (rh : RouteHdr) : BitVec 512 :=
  flitOf (((rh.wordsWith rh.check).flatMap be4) ++ (flitBytes f).drop 16)

/-- The flits with the trailer of their last flit replaced by a stomp (R95). -/
def stompFlits (rh : RouteHdr) (fs : List (BitVec 512)) (reason dev : Nat) : List (BitVec 512) :=
  match fs.getLast? with
  | none => []
  | some l =>
    fs.dropLast ++ [flitOf ((flitBytes l).take 56 ++
      be4 (2 ^ 32 - 1 - flitsCrc rh fs) ++ be4 (0xA5 * 2 ^ 24 + reason * 2 ^ 16 + dev))]

/-- A packet cut short: one more flit with a stomped trailer ends it (R143). -/
def cutFlits (rh : RouteHdr) (fs : List (BitVec 512)) (reason dev : Nat) : List (BitVec 512) :=
  stompFlits rh (fs ++ [0]) reason dev

end Sys2Proof
end

