-- ==== Sys2Proof/Machine/Setup.lean ====
section
/-!
DEFINITION. The setup space (spec/02_setup_space.md): routes and their rights, reading words, staging and commits,
far-posted writes, 64-bit latches. What a write does to a unit beyond its registers is in Machine/Bus.lean.
-/
namespace Sys2Proof.Machine

/-! ### Routes (R36 to R38) -/

/-- PRIV_ATTACH grants attachment `a`, and it is upstream (R37, R78). -/
def privileged (s : State) (a : Nat) : Bool :=
  bitOf (s.rd64 0 Reg.Root.PRIV_ATTACH_LO Reg.Root.PRIV_ATTACH_HI) a && s.rd (attBase a) Reg.Att.ATT_CFG_ROLE == 1

/-- The route may not write this offset of this unit (R36, R37). -/
def routeDenied (s : State) (r : Route) (u : UnitId) (off : Nat) : Bool :=
  match r with
  | .mp => false
  | .drisiul => u == .secProc
  | .bar0 a =>
    !(privileged s a.val) ||
    (match u with
     | .mgmtProc | .secProc | .flask | .mgmtEth _ => true
     | .root => off == 0x58 || off == 0x5C
     | _ => false)

/-- Why a 4-byte write is turned away before any field is looked at: the route's rights, its form, a unit reset
(R36 to R38, R53). R37 has every write of an ungranted BAR0 recorded as denied, so rights come before form; which reason stands
for a write with two faults on another route, and that such a write is recorded where no register lies (R40), is the model's
choice (DESIGN CHOICE, notes/assumptions/12.md). Offsets below 0x40 of a window are its Legend. -/
def writeRefused (s : State) (r : Route) (off enables : Nat) : Option Viol :=
  let u := unitAt off
  if routeDenied s r u off then some .denied
  else if off % 4 != 0 || enables != 15 then some .misaligned
  else if inReset s u && 0x40 ≤ off - base u then some .inReset
  else none

/-! ### Reading (R38, R40, R47, R53, R62, R72) -/

/-- The reset value of a field in this unit: counter banks have values of their own (R520). -/
def resetOf (u : UnitId) (w : Nat) (f : Field) : Nat :=
  match bankOffset u with
  | none => f.reset
  | some o =>
    if f.off = o && f.lo = 0 then bankCounters u
    else if f.off = o && f.lo = 8 then (match u with | .engine _ => 1 | _ => 0)
    else if f.off = o + 0x100 && f.lo = 0 then
      (if (w - (o + 0x100)) / 16 < bankEvents u then 0x100 + (w - (o + 0x100)) / 16 else 0)
    else f.reset

/-- The key of the field's element whose word stands at byte offset `w` of the unit's window. -/
def keyAt (u : UnitId) (w : Nat) (f : Field) : Nat := (base u + w) * 32 + f.lo

/-- Active value of a field's element at word offset `w` of the unit. -/
def activeAt (s : State) (u : UnitId) (w : Nat) (f : Field) : Nat := (look s.regs (keyAt u w f)).getD (resetOf u w f)

/-- What a read of the field returns: a W1 field 0 (R61), an ST field its staged value while one is held (R62), a counter's
selection the value that waits for the next sweep tick (R523). -/
def fieldView (s : State) (u : UnitId) (w : Nat) (f : Field) : Nat :=
  match look s.gz.held (keyAt u w f) with
  | some v => v
  | none => match f.acc with
  | .w1 => 0
  | .st => (look s.setup.staged (keyAt u w f)).getD (activeAt s u w f)
  | _ => activeAt s u w f

/-- Bits of the word that belong to a field. -/
def usedBits (fs : List Field) : Nat := fs.foldl (fun m f => m ||| ((2 ^ f.width - 1) * 2 ^ f.lo)) 0

/-- A word of a register that fields occupy; its reserved bits read as an open value (R4). -/
def fieldWord (s : State) (u : UnitId) (w : Nat) (fs : List Field) : Nat :=
  fs.foldl (fun m f => m ||| (fieldView s u w f * 2 ^ f.lo)) 0 |||
    ((Config.reservedRead (base u + w)).toNat &&& (2 ^ 32 - 1 - usedBits fs))

/-- The unit itself is ready: it has left reset and is usable (its clock runs, it is not fenced, configuration has been
applied), the bifurcation uses it (R42, R58), a stack is in service, the management processor runs (R569). -/
def ownReady (s : State) (u : UnitId) : Bool :=
  s.boot.cfgApplied && !(inReset s u) && !(isFenced s u) && clockRuns s u &&
  (match u with
   | .attachment a =>
     let mode := s.rd (base (.hostMacro (idx 15 (a.val / 4)))) Reg.Mac.MAC_CFG_BIFURC
     if mode = 0 then a.val % 4 == 0 else if mode = 1 then a.val % 2 == 0 else true
   | .stack i => s.rd (base (.stack i)) Reg.Stk.STACK_STATE == 1
   | .mgmtProc => s.rd (base .mgmtProc) Reg.Mp.MP_STATE == 1
   | _ => true)

/-- LEG_STATUS.READY: the unit and its subtree (R47). -/
def readyView (s : State) (u : UnitId) : Bool := (subtree u).all (ownReady s)

/-- A staged value in the subtree awaits its commit, or the group whose commit a unit of the subtree has joined has not ended
(R42, R47, R63). -/
def commitPending (s : State) (u : UnitId) : Bool :=
  anyEntry s.setup.staged (fun k _ => base u * 32 ≤ k && k < (base u + 2 ^ sizeLog u) * 32) ||
  s.setup.applied.any (fun v => inSubtree v u)

/-- LEG_STATUS (R42). -/
def legStatus (s : State) (u : UnitId) : Nat :=
  b2n (readyView s u) + 2 * b2n (fencedView s u) + 4 * b2n ((subtree u).any (inReset s)) +
  8 * b2n (commitPending s u) + 16 * b2n (sevView s u != 0) + 32 * sevView s u

/-- LEG_CHILD_TABLE: 0x1000 at the root, 0x0F00 elsewhere, 0 without children (R45). -/
def childTable (u : UnitId) : Nat := if !(compound u) then 0 else if u = .root then 0x1000 else 0xF00

/-- The Legend word at byte offset `w` (R42). -/
def legendWord (s : State) (u : UnitId) (w : Nat) : Nat :=
  if w = 0x00 then legType u + 65536 * legInstance u
  else if w = 0x04 then 0x0100
  else if w = 0x08 then sizeLog u
  else if w = 0x0C then legIsland u
  else if w = 0x10 then (children u).length
  else if w = 0x14 then childTable u
  else if w = 0x18 then legStatus s u
  else if w = 0x1C then 256 * groupOf s u
  else if w = 0x20 then (match parent u with | some p => base p | none => 0xFFFFFFFF)
  else if w = 0x24 then 0x40
  else if w = 0x28 then errFirst s u
  else 0

/-- The child-table word at byte offset `w` of the window, if it is one (R45). -/
def childWord (u : UnitId) (w : Nat) : Option Nat :=
  if compound u && childTable u ≤ w && w < childTable u + 8 * (children u).length then
    match (children u)[(w - childTable u) / 8]? with
    | some c => some (if (w - childTable u) % 8 = 0 then base c else legType c + 65536 * legInstance c)
    | none => none
  else none

/-- The clock that a word of a unit needs runs: the island of its unit, or island 59 for the root's housekeeping words (R40, R69,
R633). -/
def wordClock (s : State) (u : UnitId) (w : Nat) : Bool :=
  clockRuns s u && !(u == .root && Reg.Hk.all.any (fun f => f.hits w) && s.boot.stopped.contains 59)

/-- The 32-bit word at a setup-space offset (R38, R40, R53). In a stopped island a unit reset changes nothing of what is read: every
register reads 0xFFFF_FFFF (DESIGN CHOICE, notes/assumptions/12.md). -/
def readWord (s : State) (off : Nat) : Nat :=
  let u := unitAt off
  let w := off / 4 * 4 - base u
  let fs := fieldsAt u w
  let child := childWord u w
  if 0x40 ≤ w ∧ child.isNone ∧ fs.isEmpty then 0
  else if !(wordClock s u w) then 0xFFFFFFFF
  else if w < 0x40 then legendWord s u w
  else match child with
    | some x => x
    | none => if inReset s u then 0 else fieldWord s u w fs

/-- What a read by this route returns: 0 through BAR0 of an attachment that PRIV_ATTACH does not grant (R37). -/
def routeRead (s : State) (r : Route) (off : Nat) : Nat :=
  match r with
  | .bar0 a => if privileged s a.val then readWord s off else 0
  | _ => readWord s off

/-- The read data leaves by the route. -/
def answerRead (s : State) (r : Route) (off v : Nat) : State := s.emit (.readData r off (BitVec.ofNat 32 v))

/-- The RC fields of a word are cleared by the access that returns them (R60). -/
def clearRc (s : State) (u : UnitId) (w : Nat) : State :=
  { s with regs := (fieldsAt u w).foldl (fun m f => if f.acc = .rc then put m (keyAt u w f) 0 else m) s.regs }

/-- The route is served: BAR0 needs its attachment's grant (R37). -/
def routeServed (s : State) (r : Route) : Bool := match r with | .bar0 a => privileged s a.val | _ => true

/-- The read reaches the register itself: the route is served, the clock runs and no unit reset covers it. -/
def readReaches (s : State) (r : Route) (u : UnitId) (w : Nat) : Bool := routeServed s r && wordClock s u w && !(inReset s u)

/-! ### 64-bit registers (R74 to R76) -/

/-- The number of a route's latches. -/
def routeIdx (r : Route) : Nat := routeCode r

/-- Byte offsets, in the window of their unit, of the low halves of the 64-bit registers: X_LO and X_HI of a table at an
8-byte aligned offset with no FP or RC field (R74). -/
def isReg64 (u : UnitId) (w : Nat) : Bool :=
  w % 8 == 0 &&
  (match u with
   | .root => w == 0x48 || w == 0x58 || w == 0x78 || w == 0x88 || (0x2000 ≤ w && w < 0x4000 && (w % 32 == 8 || w % 32 == 16))
   | .flask => w == 0x48 || w == 0x50 || w == 0x58 || w == 0x60
   | .gazetteer => w == 0x60
   | .compass => (0x1000 ≤ w && w < 0x9000 && w % 32 == 8) || (0x9000 ≤ w && w < 0xA000 && w % 16 == 8) ||
       (0xA000 ≤ w && w < 0xC000 && (w % 32 == 8 || w % 32 == 16 || w % 32 == 24))
   | .attachment _ => (0x100 ≤ w && w < 0x300 && (w % 32 == 8 || w % 32 == 16)) || (0x400 ≤ w && w < 0x480) ||
       (0x500 ≤ w && w < 0x580 && w % 16 == 0)
   | .stack i => i.val == 0 && (w == 0x208 || w == 0x58 || (0x1000 ≤ w && w < 0x1400 && w % 16 == 8))
   | _ => false) ||
  (match bankOffset u with
   | some o => w % 8 == 0 && o ≤ w &&
       ((60 ≤ legIsland u && 0x10 ≤ w - o && w - o < 0x30) || (0x80 ≤ w - o && w - o < 0xA0) ||
        (0x100 ≤ w - o && w - o < 0x100 + 16 * bankCounters u && (w - o) % 16 == 8))
   | none => false)

/-- A 4-byte read by a route, as R37, R38, R60 and R76 have it: the value and what the read leaves behind. The low half of a 64-bit
register leaves the live high half in the route's read latch; the high half of the same register takes it from there, once; a read
that the route does not serve touches no latch (the address check and the single use are DESIGN CHOICE,
notes/assumptions/13.md). -/
def busRead (s : State) (r : Route) (off : Nat) : Nat × State :=
  let o := off / 4 * 4
  let u := unitAt o
  let w := o - base u
  let v := routeRead s r o
  if !(routeServed s r) then (v, s)
  else if isReg64 u w then
    (v, { s with setup := { s.setup with rlatch := put s.setup.rlatch (routeIdx r) ((o + 4) * 2 ^ 32 + routeRead s r (o + 4)) } })
  else if 4 ≤ w && isReg64 u (w - 4) then
    match look s.setup.rlatch (routeIdx r) with
    | some x =>
      if x / 2 ^ 32 = o then (x % 2 ^ 32, { s with setup := { s.setup with rlatch := del s.setup.rlatch (routeIdx r) } }) else (v, s)
    | none => (v, s)
  else (v, if readReaches s r u w then clearRc s u w else s)

/-- A 4-byte read served: its data leaves by the route. -/
def readOne (s : State) (r : Route) (o : Nat) : State :=
  let x := busRead s r o
  answerRead x.2 r (o / 4 * 4) x.1

/-- The words that `n + 1` bytes from `off` on touch, the lowest first (R38). -/
def wordsOf (off n : Nat) : List Nat := (List.range ((off + n) / 4 + 1 - off / 4)).map (fun i => 4 * (off / 4 + i))

/-- The read of every word of the setup space that an access touches (R38, R39). -/
def readSetup (s : State) (r : Route) (off n : Nat) : State :=
  ((wordsOf off n).filter (· < 2 ^ 28)).foldl (fun t o => readOne t r o) s

/-- REG64_LOW_READ (R76): the live low half is returned, and the live high half goes into the route's read latch. -/
def execReg64LowRead (r : Route) (off : BitVec 28) (s : State) : Host.Outcome State Fault Refusal := .next (readOne s r off.toNat)

/-- REG64_HIGH_READ (R76): the route's latch of this register when a low-half read preceded, the live value otherwise. -/
def execReg64HighRead (r : Route) (off : BitVec 28) (s : State) : Host.Outcome State Fault Refusal := .next (readOne s r off.toNat)

/-! ### Staged registers and commits (R62 to R68) -/

/-- The group has staged values somewhere in the device. -/
def groupHasStaged (s : State) (g : Nat) : Bool :=
  anyEntry s.setup.staged (fun k _ => groupOf s (unitAt (k / 32)) == g)

/-- CMT_PENDING recomputed for every group: a group not busy holds staged values (R53, R62, R68). -/
def refreshPending (s : State) : State :=
  s.wr 0 Reg.Root.CMT_PENDING ((List.range 32).foldl (fun m g =>
    if groupHasStaged s g && !(bitOf (s.rd 0 Reg.Root.CMT_STATUS) g) then setBit m g else m) 0)

/-- One ST value staged (R62), or held while the unit's group commits (R67). -/
def stageValue (s : State) (u : UnitId) (key v : Nat) : State :=
  if bitOf (s.rd 0 Reg.Root.CMT_STATUS) (groupOf s u) then
    { s with setup := { s.setup with held := s.setup.held ++ [(key, v)] } }
  else
    let s := { s with setup := { s.setup with staged := put s.setup.staged key v } }
    s.wr 0 Reg.Root.CMT_PENDING (setBit (s.rd 0 Reg.Root.CMT_PENDING) (groupOf s u))

/-- Units that hold staged values of group `g`, by their windows. -/
def unitsStaged (s : State) (g : Nat) : List UnitId :=
  ((s.setup.staged.map (fun kv => unitAt (kv.1 / 32))).filter (fun u => groupOf s u == g)).foldl addOnce []

/-- One group strobed (R63): busy, with the units that hold staged values still to apply; a group that holds none
clears at once. -/
def strobeGroup (s : State) (g : Nat) : State :=
  let us := unitsStaged s g
  let s := s.wr 0 Reg.Root.CMT_PENDING (clrBit (s.rd 0 Reg.Root.CMT_PENDING) g)
  if us.isEmpty then s
  else
    let s := { s with setup := { s.setup with toApply := us.foldl addOnce s.setup.toApply } }
    s.wr 0 Reg.Root.CMT_STATUS (setBit (s.rd 0 Reg.Root.CMT_STATUS) g)

/-- Every bit set in a strobe or discard write acts by itself: on an idle group by `act`, on a busy one it is ignored
and recorded (R63, R65, R66, R68). -/
def eachGroup (s : State) (r : Route) (addr groups : Nat) (act : State → Nat → State) : State :=
  (List.range 32).foldl (fun t g =>
    if bitOf groups g then
      (if bitOf (s.rd 0 Reg.Root.CMT_STATUS) g then accViol t r .busyGroup addr else act t g)
    else t) s

/-- A staged group discarded (R68). -/
def discardGroup (s : State) (g : Nat) : State :=
  let s' := { s with setup := { s.setup with staged := dropKeys s.setup.staged (fun k => groupOf s (unitAt (k / 32)) == g) } }
  s'.wr 0 Reg.Root.CMT_PENDING (clrBit (s'.rd 0 Reg.Root.CMT_PENDING) g)

/-- A write that the device takes on a route runs `act`; one it turns away is recorded (R36, R38, R53, R79). During a hard
trip no register write has an effect (R632). -/
def guarded (s : State) (r : Route) (off : Nat) (act : State → State) : State :=
  if s.boot.hardTrip then s
  else match writeRefused s r off 15 with
    | some v => accViol s r v off
    | none => act s

/-- CMT_STROBE (R63, R65, R66). -/
def execCmtStrobe (r : Route) (groups : BitVec 32) (s : State) : Host.Outcome State Fault Refusal :=
  .next (guarded s r 0x60 (fun t => eachGroup t r 0x60 groups.toNat strobeGroup))

/-- CMT_DISCARD (R66, R68). -/
def execCmtDiscard (r : Route) (groups : BitVec 32) (s : State) : Host.Outcome State Fault Refusal :=
  .next (guarded s r 0x6C (fun t => eachGroup t r 0x6C groups.toNat discardGroup))

/-- The staged values of the unit's own fields, as key and value. -/
def stagedOf (s : State) (u : UnitId) : List (Nat × Nat) :=
  s.setup.staged.filter (fun kv => unitAt (kv.1 / 32) == u)

/-- When no unit of the group has still to apply, the group's CMT_STATUS bit clears and the writes held meanwhile are
staged (R63, R67). -/
def finishGroup (s : State) (g : Nat) : State :=
  if s.setup.toApply.any (fun v => groupOf s v == g) then s
  else
    let s := { s with setup := { s.setup with applied := s.setup.applied.filter (fun v => !(groupOf s v == g)) } }
    let s := s.wr 0 Reg.Root.CMT_STATUS (clrBit (s.rd 0 Reg.Root.CMT_STATUS) g)
    let mine := s.setup.held.filter (fun kv => groupOf s (unitAt (kv.1 / 32)) == g)
    let rest := s.setup.held.filter (fun kv => !(groupOf s (unitAt (kv.1 / 32)) == g))
    mine.foldl (fun t kv => stageValue t (unitAt (kv.1 / 32)) kv.1 kv.2)
      { s with setup := { s.setup with held := rest } }

/-- A unit of a busy group has applied its staged values: it waits no longer, and the group ends with its last unit (R63). -/
def commitDone (s : State) (u : UnitId) : State :=
  finishGroup { s with setup := { s.setup with
    toApply := s.setup.toApply.filter (· != u), applied := addOnce s.setup.applied u } } (groupOf s u)

/-! ### Far-posted registers (R69 to R72) -/

/-- WIN_BUSY bit of an island. -/
def winBusy (s : State) (i : Nat) : Bool := bitOf (s.rd64 0 Reg.Root.WIN_BUSY_LO Reg.Root.WIN_BUSY_HI) i

/-- WIN_BUSY bit of an island set or cleared. -/
def setWinBusy (s : State) (i : Nat) (b : Bool) : State :=
  let v := s.rd64 0 Reg.Root.WIN_BUSY_LO Reg.Root.WIN_BUSY_HI
  s.wr64 0 Reg.Root.WIN_BUSY_LO Reg.Root.WIN_BUSY_HI (if b then setBit v i else clrBit v i)

/-- The island of a unit's FP fields: its own, or island 59 for the root's housekeeping fields (R69, R633). -/
def fpIsland (u : UnitId) : Nat := if legIsland u < 60 then legIsland u else 59

/-- A far-posted write forwarded to its island (R69), or discarded while one is pending there (R70). -/
def postFp (s : State) (r : Route) (u : UnitId) (off : Nat) (kvs : List (Nat × Nat)) : State :=
  if winBusy s (fpIsland u) then accViol s r .fpBusy off
  else
    let s := setWinBusy s (fpIsland u) true
    { s with setup := { s.setup with fp := put s.setup.fp (fpIsland u) kvs, fpAt := put s.setup.fpAt (fpIsland u) off, fpBy := put s.setup.fpBy (fpIsland u) r } }

/-- The island's pending write leaves the queue and WIN_BUSY clears. -/
def dropFp (s : State) (i : Nat) : State :=
  setWinBusy { s with setup := { s.setup with fp := del s.setup.fp i, fpAt := del s.setup.fpAt i, fpBy := del s.setup.fpBy i } } i false

/-- FP_WRITE_ABANDON (R71): not applied within 1 ms, the write is given up and recorded. -/
def execFpWriteAbandon (island : Fin 60) (s : State) : Host.Outcome State Fault Refusal :=
  if winBusy s island.val then
    .next (accViol (dropFp s island.val) (lookD s.setup.fpBy island.val .mp) .fpAbandoned (lookD s.setup.fpAt island.val 0))
  else .next s

end Sys2Proof.Machine
end

