-- ==== Sys2Proof/Machine/Police.lean ====
section
/-!
DEFINITION. Meters and shapers (spec/15_policing_shaping.md): token buckets, the colour test, the shaper gate, refills.
-/
namespace Sys2Proof.Machine

/-! ### Buckets (R503, R504) -/

/-- A signed 9-bit OVERHEAD field. -/
def overheadOf (v : Nat) : Int := if v < 256 then (v : Int) else (v : Int) - 512

/-- The counted length of a packet with this LEN (R503). -/
def countedLen (len : Nat) (overhead : Int) : Int := max 1 ((len : Int) + 8 + overhead)

/-- The cost of a counted length in millibits (R504). -/
def costOf (len : Nat) (overhead : Int) : Int := countedLen len overhead * 8000

/-- Where a meter or shaper keeps its configuration: unit, entry offset and the fields of its entry. -/
structure BucketRef where
  unit : UnitId
  entry : Nat
  key : Nat
  cir : Field
  en : Field
  pir : Field
  cbs : Field
  pbs : Field
  refill : Field
  overhead : Field
  deriving DecidableEq, Repr

/-- Meter `m` (R516). -/
def meterRef (m : Nat) : BucketRef :=
  { unit := .meterBank, entry := base .meterBank + 32 * m, key := m, cir := Reg.Mtr.CIR_MBPS, en := Reg.Mtr.EN,
    pir := Reg.Mtr.PIR_MBPS, cbs := Reg.Mtr.CBS_BYTES, pbs := Reg.Mtr.PBS_BYTES, refill := Reg.Mtr.REFILL_64NS,
    overhead := Reg.Mtr.OVERHEAD }

/-- Where shaper entry `i` of a shaper bank lies (R517). -/
def shaperAt (unit : UnitId) (entry key : Nat) : BucketRef :=
  { unit := unit, entry := entry, key := key, cir := Reg.Shp.CIR_MBPS, en := Reg.Shp.EN, pir := Reg.Shp.PIR_MBPS,
    cbs := Reg.Shp.CBS_BYTES, pbs := Reg.Shp.PBS_BYTES, refill := Reg.Shp.REFILL_64NS, overhead := Reg.Shp.OVERHEAD }

/-- A shaper (R517). -/
def shaperRef : ShaperId → BucketRef
  | .inj i => shaperAt .injShaper (base .injShaper + 0x10000 + 32 * i.val) (16384 + i.val)
  | .egress n k => shaperAt (.egressShaper n) (base (.egressShaper n) + 0x100 + 32 * k.val) (20480 + 3 * n.val + k.val)

/-- The buckets as they stand; an unlisted pair is full. -/
def bucketsOf (s : State) (x : BucketRef) : Buckets :=
  lookD s.police.buckets x.key { tc := (s.rd x.entry x.cbs : Int) * 8000, tp := (s.rd x.entry x.pbs : Int) * 8000 }

/-- Buckets stored; a shaper's TC_BYTES and TP_BYTES show them in whole bytes (R517). -/
def setBuckets (s : State) (x : BucketRef) (b : Buckets) : State :=
  let s := { s with police := { s.police with buckets := put s.police.buckets x.key b } }
  if x.key < 16384 then s
  else (s.wr x.entry Reg.Shp.TC_BYTES (BitVec.ofInt 32 (b.tc.fdiv 8000)).toNat).wr x.entry Reg.Shp.TP_BYTES
    (BitVec.ofInt 32 (b.tp.fdiv 8000)).toNat

/-! ### The meter's test (R508, R509) -/

/-- COLOUR codes (R87). -/
def green : Nat := 0
def yellow : Nat := 1
def red : Nat := 2

/-- Result and new buckets of a test of cost `b` with this pre-colour (R508). -/
def meterResult (aware : Bool) (k : Buckets) (pre : Nat) (b : Int) : Nat × Buckets :=
  if aware && red ≤ pre then (red, k)
  else if k.tp < b then (red, k)
  else if aware && pre == yellow then (yellow, { k with tp := k.tp - b })
  else if k.tc < b then (yellow, { k with tp := k.tp - b })
  else (green, { tc := k.tc - b, tp := k.tp - b })

/-- Meter `m` tested with a packet of this LEN: its colour and the state with the debits, counted in the bank (R525). A meter with EN at 0 returns
the pre-colour and debits nothing (R508). -/
def meterTest (s : State) (m len pre : Nat) : Nat × State :=
  let x := meterRef m
  if unitOff s .meterBank then (red, s)
  else if s.on x.entry x.en then
    let r := meterResult (s.on x.entry Reg.Mtr.AWARE) (bucketsOf s x) pre (costOf len (overheadOf (s.rd x.entry x.overhead)))
    let s := cntCM (setBuckets s x r.2) .meterBank 0x100 1 none (some m)
    (r.1, if red ≤ r.1 then cntCM s .meterBank 0x101 1 none (some m) else s)
  else (pre, s)

/-- The colour counted in the meter's counters (R516). -/
def countColour (s : State) (m colour : Nat) : State :=
  s.bump (meterRef m).entry
    (if colour = green then Reg.Mtr.GREEN_CNT else if colour = yellow then Reg.Mtr.YELLOW_CNT else Reg.Mtr.RED_CNT)

/-- A packet tested at tunnel injection or fabric ingress (R510): its colour, or discarded as red. -/
def policeDrop (s : State) (m len pre : Nat) : Option Nat × State :=
  let r := meterTest s m len pre
  let x := (meterRef m).entry
  if !(s.on x Reg.Mtr.EN) then (some pre, s)
  else if red ≤ r.1 && s.on x Reg.Mtr.RED_DROP then
    (none, (r.2.bump x Reg.Mtr.RED_CNT).setEvt (base .meterBank) Reg.Mb.MTR_EVENT 1)
  else (some r.1, countColour r.2 m r.1)

/-- The meter of fabric ingress entry 3 n + k, where it is in force (R509, R515). -/
def ingressMeter (s : State) (n k : Nat) : Option Nat :=
  if s.rdi (base .meterBank) Reg.Mb.IN_METER_EN (3 * n + k) = 1 then
    some (s.rdi (base .meterBank) Reg.Mb.IN_METER_METER (3 * n + k))
  else none

/-! ### The shaper's gate (R512) -/

/-- The shaper lets a packet begin. -/
def shaperOpen (s : State) (x : BucketRef) : Bool :=
  !(unitOff s x.unit) && (!(s.on x.entry x.en) || (0 < (bucketsOf s x).tc && 0 < (bucketsOf s x).tp))

/-- A packet of this LEN begins under the shaper (R512). -/
def shaperDebit (s : State) (x : BucketRef) (len : Nat) : State :=
  if s.on x.entry x.en then
    let b := costOf len (overheadOf (s.rd x.entry x.overhead))
    let k := bucketsOf s x
    setBuckets s x { tc := k.tc - b, tp := k.tp - b }
  else s

/-- A packet waits for this shaper: SHAPED_CNT, and HOLDS of its bank (R517, R525). -/
def shaperWaited (s : State) (i : ShaperId) : State :=
  let x := shaperRef i
  let no := match i with | .inj n => n.val | .egress _ k => k.val
  cntCM (s.bump x.entry Reg.Shp.SHAPED_CNT) x.unit 0x100 1 none (some no)

/-! ### Refills and commits (R504, R505, R507) -/

/-- The refill interval in ns. -/
def refillNs (s : State) (x : BucketRef) : Nat := s.rd x.entry x.refill * 64

/-- Both buckets after one refill (R504). -/
def refilled (s : State) (x : BucketRef) : Buckets :=
  let k := bucketsOf s x
  { tc := min (k.tc + (s.rd x.entry x.cir * refillNs s x : Nat)) ((s.rd x.entry x.cbs : Int) * 8000)
    tp := min (k.tp + (s.rd x.entry x.pir * refillNs s x : Nat)) ((s.rd x.entry x.pbs : Int) * 8000) }

/-- The entry's staged values, as key and value. -/
def stagedEntry (s : State) (x : BucketRef) : List (Nat × Nat) :=
  s.setup.staged.filter (fun kv => x.cir.key x.entry / 32 ≤ kv.1 / 32 && kv.1 / 32 < x.cir.key x.entry / 32 + 32)

/-- The value a field of the entry has after the staged values are installed. -/
def installed (s : State) (x : BucketRef) (f : Field) : Nat :=
  (look s.setup.staged (f.key x.entry)).getD (s.rd x.entry f)

/-- The staged configuration may be applied: PIR is not below CIR (R507); CBS and PBS are held by their ranges. -/
def bucketConfigGood (s : State) (x : BucketRef) : Bool := installed s x x.cir ≤ installed s x x.pir

/-- Staged entries of a bank are installed at refills: its unit is among those still to apply (R505). -/
def applyDue (s : State) (x : BucketRef) : Bool :=
  s.setup.toApply.contains x.unit && !(stagedEntry s x).isEmpty

/-- The staged values of the entry leave staging; the last one of the unit ends its part of the commit. -/
def dropStagedEntry (s : State) (x : BucketRef) : State :=
  let gone := (stagedEntry s x).map Prod.fst
  let s := { s with setup := { s.setup with staged := dropKeys s.setup.staged gone.contains } }
  if (stagedOf s x.unit).isEmpty then
    commitDone s x.unit
  else s

/-- The commit at a refill (R505): every new value installed, then both buckets clipped to the new sizes, or filled when
EN goes from 0 to 1. A configuration that R507 rules out is not applied and is recorded. -/
def applyBucket (s : State) (x : BucketRef) : State :=
  if bucketConfigGood s x then
    let wasOn := s.on x.entry x.en
    let st := stagedEntry s x
    let s := { s with regs := st.foldl (fun m kv => put m kv.1 kv.2) s.regs }
    let full : Buckets := { tc := (s.rd x.entry x.cbs : Int) * 8000, tp := (s.rd x.entry x.pbs : Int) * 8000 }
    let k := bucketsOf s x
    let k := if !wasOn && s.on x.entry x.en then full else { tc := min k.tc full.tc, tp := min k.tp full.tp }
    dropStagedEntry (setBuckets s x k) x
  else dropStagedEntry (configError s x.unit) x

/-- A refill (R504, R505): tokens under the old rates, then any commit that is due. A fenced bank does not refill. -/
def refillBucket (s : State) (x : BucketRef) : State :=
  let s := setBuckets s x (refilled s x)
  if applyDue s x then applyBucket s x else s

/-- The channel packets held by meter `m` may be tested again (R510). -/
def heldAgain (s : State) (m : Nat) : State :=
  { s with tp := { s.tp with chans := s.tp.chans.map (fun kv =>
      (kv.1, if kv.2.mtWait = some m then { kv.2 with mtWait := none } else kv.2)) } }

/-- METER_REFILL (R504, R505, R507, R510). -/
def execMeterRefill (m : Fin 16384) (s : State) : Host.Outcome State Fault Refusal :=
  .next (if unitOff s .meterBank then s else heldAgain (refillBucket s (meterRef m.val)) m.val)

/-- SHAPER_REFILL (R504, R505, R507). -/
def execShaperRefill (x : ShaperId) (s : State) : Host.Outcome State Fault Refusal :=
  .next (if unitOff s (shaperRef x).unit then s else refillBucket s (shaperRef x))

/-- METER_CNT_CLR (R515, R517, R518): every counter of the bank cleared. -/
def execMeterCntClr (r : Route) (b : BankId) (s : State) : Host.Outcome State Fault Refusal :=
  match b with
  | .meters => .next (guarded s r (base .meterBank + 0x40) (fun t =>
      { t.clearAll (base .meterBank) [Reg.Mb.INJ_HOLD_CNT] with
        regs := dropKeys (t.clearAll (base .meterBank) [Reg.Mb.INJ_HOLD_CNT]).regs
          (fun k => let o := k / 32 - base .meterBank
                    base .meterBank ≤ k / 32 && 0x80000 ≤ o && o < 0x80000 + 32 * 16384 &&
                      0x14 ≤ o % 32 && o % 32 ≤ 0x1C) }))
  | .injShapers => .next (guarded s r (base .injShaper + 0x40) (fun t =>
      { t with regs := dropKeys t.regs (fun k => let o := k / 32 - base .injShaper
                                                base .injShaper ≤ k / 32 && 0x10000 ≤ o && o < 0x10000 + 32 * 4096 &&
                                                  o % 32 == 0x14) }))
  | .egress n => .next (guarded s r (base (.egressShaper n) + 0x40) (fun t =>
      (List.range 3).foldl (fun t k => t.wr (base (.egressShaper n) + 0x100 + 32 * k) Reg.Shp.SHAPED_CNT 0) t))

end Sys2Proof.Machine
end

