-- ==== Sys2Proof/Machine/SwitchOps.lean ====
section
/-!
DEFINITION. Shared operations of the switch core (spec/05_switch_core.md): receive-buffer credits, the lossy pool, the
outputs, stomping, mirror copies, and the flow of a packet's flits from its input to everything it goes to.
-/
namespace Sys2Proof.Machine

/-! ### Small list helpers -/

/-- Element `i` of a list of numbers, 0 outside it. -/
def nth (l : List Nat) (i : Nat) : Nat := l[i]?.getD 0

/-- The list with element `i` changed by `f`. -/
def modNth {α : Type} (l : List α) (i : Nat) (f : α → α) : List α := l.modify i f

/-! ### Ports (R127 to R129, R156) -/

/-- Link state of port `n`. -/
def State.port (s : State) (n : Nat) : PortSt := lookD s.ports n PortSt.init

/-- Port `n` changed. -/
def State.setPort (s : State) (n : Nat) (p : PortSt) : State := { s with ports := put s.ports n p }

/-- One flit of VC `v` leaves the receive buffer: its credit is returned, unless the VC holds more than its minimum and
was idle over the last 256 ns, when it is withheld (R128). A flit from before the link-layer state was last reset has no
credit of the present link. -/
def creditBack (p : PortSt) (v : Nat) : PortSt :=
  if nth p.old v ≠ 0 then { p with old := modNth p.old v (· - 1) }
  else
    let p := { p with held := modNth p.held v (· - 1) }
    if nth p.vcMin v < nth p.g v && nth p.aLast v == 0 then { p with g := modNth p.g v (· - 1) }
    else { p with toReturn := modNth p.toReturn v (· + 1) }

/-- `k` flits of VC `v` leave. -/
def creditsBack (p : PortSt) (v : Nat) : Nat → PortSt
  | 0 => p
  | k + 1 => creditsBack (creditBack p v) v k

/-- `k` flits leave the receive buffer behind core port `p` (only fabric ports have one, R157). -/
def flitsLeave (s : State) (p v k : Nat) : State :=
  if p < 96 then s.setPort p (creditsBack (s.port p) v k) else s

/-! ### Atlas in force (R78, R184, R204) -/

/-- Window of the Atlas unit. -/
def atBase : Nat := base .atlas

/-- ATLAS_CTL.VALID of version `v` (R184). -/
def atlasValid (s : State) (v : Nat) : Bool :=
  !(unitOff s .atlas) && s.on atBase (if v = 0 then Reg.Atlas.ATLAS_CTL_VALID0 else Reg.Atlas.ATLAS_CTL_VALID1)

/-- The device may originate packets of classes other than FMGT: its device ID is in force (R78), and the version that
INJ_EPOCH names has VALID at 1 (R204). -/
def mayOriginate (s : State) : Bool :=
  s.on 0 Reg.Root.DEV_CICEN_ID_VALID && atlasValid s (s.rd 0 Reg.Root.INJ_EPOCH_EPOCH)

/-! ### Inputs -/

/-- Number of an input virtual channel. -/
def inKey (p vc : Nat) : Nat := 16 * p + vc

/-- The current packet of an input VC changed. -/
def setCur (s : State) (k : Nat) (c : SwPkt) : State := { s with switch := { s.switch with cur := put s.switch.cur k c } }

/-- The input VC is free for its next packet. -/
def dropCur (s : State) (k : Nat) : State := { s with switch := { s.switch with cur := del s.switch.cur k } }

/-- The packet is one that the device addresses to itself (R30): unicast, its DST this device, and not source-routed. -/
def toSelf (s : State) (pkt : Packet) : Bool :=
  !pkt.rh.mc && pkt.rh.dst.toNat / 256 == deviceId s && !(pkt.cls == clsFmgt && pkt.rtLen != 0)

/-- A unit behind core port `p` holds a packet for injection (R157). A packet to the device itself enters by the loopback,
core port 127 (R30). -/
def inject (s : State) (p : Nat) (pkt : Packet) : State :=
  let p := if toSelf s pkt then 127 else p
  { s with switch := { s.switch with inj := put s.switch.inj p (lookD s.switch.inj p [] ++ [pkt]) } }

/-! ### Outputs (R151, R156) -/

/-- The output VC of a packet leaving by core port `o`: the link VC of R89 for a fabric port, the class elsewhere. -/
def outVcOf (o cls lvl : Nat) : Nat := if o < 96 then vcOf cls lvl else cls

/-- The header a packet leaves a fabric port with (R87, R200, R511): HOPCNT + 1, the departure level for REQ and RSP and 0
for the other classes, and no COLOUR 0b11. -/
def departure (h : RouteHdr) (lvl : Nat) : RouteHdr :=
  { h with hopcnt := h.hopcnt + 1,
           hoplvl := if h.vclass.toNat = clsReq ∨ h.vclass.toNat = clsRsp then BitVec.ofNat 3 lvl else 0,
           colour := if h.colour.toNat = 3 then 2 else h.colour }

/-- The output VC belongs to a packet whose TAIL flit has not passed. -/
def outBusy (s : State) (o vc : Nat) : Bool :=
  if o < 96 then (s.port o).tx.any (fun t => t.vc == vc && !t.whole)
  else (look s.switch.asm (inKey o vc)).isSome

/-- A packet begins at an output: a fabric port's transmit store takes it, or the unit behind the core port. -/
def outBegin (s : State) (o vc : Nat) (rh kept : RouteHdr) (viaFabric : Bool) (att : Option Nat) : State :=
  if o < 96 then
    let p := s.port o
    s.setPort o { p with tx := p.tx ++ [{ rh := rh, flits := [], whole := false, vc := vc, sent := 0, seqs := [],
                                          kept := kept, viaFabric := viaFabric }] }
  else { s with switch := { s.switch with asm := put s.switch.asm (inKey o vc) { rh := rh, flits := [], att := att } } }

/-- Flits appended, the head flit carrying the header the packet leaves with (R200, R90). -/
def addFlits (rh : RouteHdr) (have_ new_ : List (BitVec 512)) : List (BitVec 512) :=
  match have_, new_ with
  | [], h :: t => withHead h rh :: t
  | l, n => l ++ n

/-- Packets whose flits have all come from the switch core and wait in a BROKEN port's transmit store are salvaged, when
their class is lossless, with the HOPCNT and HOPLVL of their arrival; lossy ones are discarded and counted (R144). Packets
that still arrive stay until their TAIL. -/
def salvageReady (s : State) (n : Nat) : State :=
  let p := s.port n
  let ready := p.tx.filter (fun t => t.whole && lossless t.rh.vclass.toNat)
  let lost := (p.tx.filter (fun t => lossy t.rh.vclass.toNat)).length
  let s := s.setPort n { p with
    salvage := p.salvage ++ ready.map (fun t =>
      { rh := { t.rh with hopcnt := t.kept.hopcnt, hoplvl := t.kept.hoplvl }, flits := t.flits, viaFabric := t.viaFabric }),
    tx := p.tx.filter (fun t => !t.whole && lossless t.rh.vclass.toNat) }
  (s.add (portBase n) Reg.Port.SALVAGE_CNT ready.length).add (portBase n) Reg.Port.DISCARD_CNT lost

/-- The packet in progress on a VC of a transmit store. -/
def TxPkt.open_ (vc : Nat) (t : TxPkt) : Bool := t.vc == vc && !t.whole

/-- Flits pass into a transmit store; at the TAIL flit, credits taken for flits that LEN announced and that did not come are
free again, and flits beyond them take theirs (R116). -/
def pushTx (p : PortSt) (vc : Nat) (fs : List (BitVec 512)) (tail : Bool) : PortSt :=
  match p.tx.find? (TxPkt.open_ vc) with
  | none => p
  | some t =>
    { p with
      tx := p.tx.map (fun u => if u.open_ vc then { u with flits := addFlits u.rh u.flits fs, whole := tail } else u)
      credits := if tail then modNth p.credits vc (fun c => c + flitsOfLen t.rh.len.toNat - (t.flits.length + fs.length))
        else p.credits }

/-- Flits pass to the output; `tail` when the TAIL flit is the last of them, which releases the output VC (R151). A packet
that leaves by a core port 96–127 is then delivered to the unit behind it; one whose port is BROKEN is salvaged (R144). -/
def outPush (s : State) (o vc : Nat) (fs : List (BitVec 512)) (tail : Bool) : State :=
  if o < 96 then
    let s := s.setPort o (pushTx (s.port o) vc fs tail)
    if tail && s.rd (portBase o) Reg.Port.PORT_STATE_STATE == stBroken then salvageReady s o else s
  else
    match look s.switch.asm (inKey o vc) with
    | none => s
    | some a =>
      let a := { a with flits := addFlits a.rh a.flits fs }
      if tail then
        { s with switch := { s.switch with
            asm := del s.switch.asm (inKey o vc),
            inbox := put s.switch.inbox o (lookD s.switch.inbox o [] ++ [Packet.ofFlits a.rh a.flits])
            mcTo := match a.att with
              | some x => put s.switch.mcTo o (lookD s.switch.mcTo o [] ++ [x])
              | none => s.switch.mcTo } }
      else { s with switch := { s.switch with asm := put s.switch.asm (inKey o vc) a } }

/-- The egress port counts a stomp (R95). -/
def countStomp (s : State) (o vc reason : Nat) : State :=
  if o < 96 then (s.bump (portBase o) Reg.Port.STOMP_CNT).emit (.stompAt o vc reason) else s

/-- The packet in progress at an output: its header and the flits it has so far. -/
def inProgress (s : State) (o vc : Nat) : Option (RouteHdr × List (BitVec 512)) :=
  if o < 96 then ((s.port o).tx.find? (TxPkt.open_ vc)).map (fun t => (t.rh, t.flits))
  else (look s.switch.asm (inKey o vc)).map (fun a => (a.rh, a.flits))

/-- The packet in progress at an output is ended with a stomp (R95, R143): one more flit with the stomped trailer. -/
def outStomp (s : State) (o vc reason : Nat) : State :=
  match inProgress s o vc with
  | none => s
  | some (h, fs) => outPush (countStomp s o vc reason) o vc ((cutFlits h fs reason (deviceId s)).drop fs.length) true

/-- The head of the packet in progress at an output has not left the device: no block carries it, or the output is no fabric
port (R143). -/
def headInside (s : State) (o vc : Nat) : Bool :=
  96 ≤ o || (((s.port o).tx.find? (TxPkt.open_ vc)).map (fun t => t.sent == 0)).getD true

/-- The packet in progress at an output is taken back whole: the output VC and its credits are free again (R116, R143). -/
def outRemove (s : State) (o vc : Nat) : State :=
  if o < 96 then
    let p := s.port o
    match p.tx.find? (TxPkt.open_ vc) with
    | none => s
    | some t => s.setPort o { p with
        tx := p.tx.filter (fun u => !(u.open_ vc)), credits := modNth p.credits vc (· + flitsOfLen t.rh.len.toNat) }
  else { s with switch := { s.switch with asm := del s.switch.asm (inKey o vc) } }

/-! ### The lossy pool (R159 to R165) -/

/-- Lossy class index k of a class: 0 for L0, 1 for L1, 2 for L2. -/
def lossyK (cls : Nat) : Nat := cls - clsL0

/-- The lossy queue of core port `o` and class `cls` (R159). -/
def queueOf (o cls : Nat) : Nat := 3 * o + lossyK cls

/-- The packets of queue `q`. -/
def queue (s : State) (q : Nat) : List PoolPkt := lookD s.switch.pool q []

/-- Window of the switch core. -/
def swBase : Nat := base .switchCore

/-- A field of queue `q`. -/
def qrd (s : State) (f : Field) (q : Nat) : Nat := s.rdi swBase f q

/-- A counter of queue `q` raised. -/
def qbump (s : State) (f : Field) (q : Nat) : State := s.bumpi swBase f q

/-- `n` drops or push-outs of queue `q` noted for Contour maps (R218). -/
def noteDrops (s : State) (q n : Nat) : State :=
  { s with route := { s.route with drops := put s.route.drops q (lookD s.route.drops q 0 + n) } }

/-- A packet of queue `q` dropped or pushed out, counted. -/
def qdrop (s : State) (f : Field) (q : Nat) : State := noteDrops (qbump s f q) q 1

/-- Depth of queue `q` in flits: reserved from admission until the tail has left (R159). -/
def depthOf (s : State) (q : Nat) : Nat := (queue s q).foldl (fun m x => m + x.n) 0

/-- Flits of the pool in use. -/
def poolUsed (s : State) : Nat := s.switch.pool.foldl (fun m kv => kv.2.foldl (fun a x => a + x.n) m) 0

/-- The pool's size in flits. -/
def poolFlits : Nat := 524288

/-- The depth and occupancy registers after the pool has changed (R177, R178). -/
def poolRegs (s : State) (q : Nat) : State :=
  let s := s.wri swBase Reg.Q.DEPTH_FLITS q (depthOf s q)
  let u := poolUsed s
  let s := s.wr swBase Reg.Sw.POOL_USED u
  if s.rd swBase Reg.Sw.POOL_HWM < u then s.wr swBase Reg.Sw.POOL_HWM u else s

/-- Queue `q` holding these packets. -/
def setQueue (s : State) (q : Nat) (l : List PoolPkt) : State :=
  poolRegs { s with switch := { s.switch with
    pool := if l.isEmpty then del s.switch.pool q else put s.switch.pool q l } } q

/-- A counter event of the tile cluster whose input stage serves core port `p` (R150, R525), for class `cls`. -/
def swEvent (s : State) (p code cls : Nat) : State := cntCM s (.tileCluster (idx 15 (p / 8))) code 1 (some cls) (some p)

/-- The RED average moved toward the depth (R162): an arithmetic right shift of the difference. -/
def redStep (avg d w : Nat) : Nat := ((avg : Int) + ((d : Int) * 256 - (avg : Int)) / (2 ^ w : Int)).toNat

/-- The average of queue `q` updated, and shown in whole bytes (R162, R178). -/
def redUpdate (s : State) (q : Nat) : State :=
  let a := redStep (lookD s.switch.avg q 0) (64 * depthOf s q) (qrd s Reg.Q.RED_W q)
  { s with switch := { s.switch with avg := put s.switch.avg q a } }.wri swBase Reg.Q.AVG_BYTES q
    (Nat.min (a / 256) (2 ^ 32 - 1))

/-- The queue's profile for a colour: MIN and MAX in KiB, MAXP (R161). -/
def redProfile (s : State) (q colour : Nat) : Nat × Nat × Nat :=
  if colour = green then (qrd s Reg.Q.G_MIN_KIB q, qrd s Reg.Q.G_MAX_KIB q, qrd s Reg.Q.G_MAXP q)
  else if colour = yellow then (qrd s Reg.Q.Y_MIN_KIB q, qrd s Reg.Q.Y_MAX_KIB q, qrd s Reg.Q.Y_MAXP q)
  else (qrd s Reg.Q.R_MIN_KIB q, qrd s Reg.Q.R_MAX_KIB q, qrd s Reg.Q.R_MAXP q)

/-- The drop value P of R161, in 1/256; 256 is always. -/
def redP (s : State) (q colour : Nat) : Nat :=
  let a := lookD s.switch.avg q 0 / 256
  let (mn, mx, p) := redProfile s q colour
  if a < mn * 1024 then 0 else if a < mx * 1024 then p * (a - mn * 1024) / (mx * 1024 - mn * 1024) else 256

/-- Random early drop of step 1 (R160): the average updated, a fresh uniform 8-bit value drawn and compared. The verdict
and the state after. -/
def redTest (s : State) (q colour : Nat) : Bool × State :=
  let s := { s with switch := { s.switch with redSeen := addOnce s.switch.redSeen q } }
  if qrd s Reg.Q.RED_EN q = 0 then (false, s)
  else
    let s := redUpdate s q
    (s.drawn 8 < redP s q colour, s.spend)

/-- Queues whose packets an arrival of lossy class index `k` may push out, of class index `j` (R163). -/
def pushable (k j : Nat) : Bool := k < j

/-- The evictable packets of a queue (R163). -/
def evictable (l : List PoolPkt) : List PoolPkt := l.filter (fun x => !x.begun)

/-- Flits that push-out could free for class index `k`. -/
def evictFlits (s : State) (k : Nat) : Nat :=
  s.switch.pool.foldl (fun m kv => if pushable k (kv.1 % 3) then (evictable kv.2).foldl (fun a x => a + x.n) m else m) 0

/-- The queue push-out takes from next: the lowest class first, then the most flits, then the lowest number (R163). -/
def evictQueue (s : State) (k : Nat) : Option Nat :=
  (s.switch.pool.foldl (fun (best : Option (Nat × Nat × Nat)) kv =>
    if pushable k (kv.1 % 3) && !(evictable kv.2).isEmpty then
      let d := kv.2.foldl (fun a x => a + x.n) 0
      match best with
      | some (j, e, _) => if j < kv.1 % 3 || (j == kv.1 % 3 && e < d) then some (kv.1 % 3, d, kv.1) else best
      | none => some (kv.1 % 3, d, kv.1)
    else best) none).map (fun x => x.2.2)

/-- The list without its last element that satisfies `p`. -/
def dropLastWhere {α : Type} (p : α → Bool) (l : List α) : List α :=
  match l.reverse.findIdx? p with
  | some i => (l.reverse.eraseIdx i).reverse
  | none => l

/-- Push-out (R163): evicts, from the most recently admitted backward, until `need` flits are free. -/
def pushOut (s : State) (k need : Nat) : Nat → State
  | 0 => s
  | fuel + 1 =>
    if need ≤ poolFlits - poolUsed s then s
    else match evictQueue s k with
      | none => s
      | some q =>
        pushOut (swEvent (qdrop (setQueue s q (dropLastWhere (fun x => !x.begun) (queue s q))) Reg.Q.PUSHED_OUT q) (q / 3) 0x105 (clsL0 + q % 3))
          k need fuel

/-- Pool space for `n` flits of class index `k`, by push-out where it can free enough (R160 step 3, R163). -/
def makeRoom (s : State) (k n : Nat) : Option State :=
  if n ≤ poolFlits - poolUsed s then some s
  else if n ≤ poolFlits - poolUsed s + evictFlits s k then
    some (pushOut s k n (s.switch.pool.foldl (fun m kv => m + kv.2.length) 0))
  else none

/-- A fabric port that is BROKEN or DOWN: packets routing sends to its queues are dropped at admission (R165). -/
def portGone (s : State) (o : Nat) : Bool :=
  o < 96 && (s.rd (portBase o) Reg.Port.PORT_STATE_STATE == stDown || s.rd (portBase o) Reg.Port.PORT_STATE_STATE == stBroken)

/-- Admission of a packet or copy to queue `q` (R160, R165): whether it was admitted, and the state after. -/
def takeIn (s : State) (q : Nat) (x : PoolPkt) : Bool × State :=
  if portGone s (q / 3) then (false, qdrop s Reg.Q.PORT_DROP q)
  else
    let r := redTest s q x.rh.colour.toNat
    let s := r.2
    if r.1 then (false, swEvent (qdrop s Reg.Q.RED_DROP q) x.inPort 0x103 (clsL0 + q % 3))
    else if qrd s Reg.Q.QMAX_KIB q * 1024 < (depthOf s q + x.n) * 64 then
      (false, swEvent (qdrop s Reg.Q.TAIL_DROP q) x.inPort 0x104 (clsL0 + q % 3))
    else match makeRoom s (q % 3) x.n with
      | none => (false, swEvent ((qdrop s Reg.Q.TAIL_DROP q).setEvt swBase Reg.Sw.SW_EVENT 0) x.inPort 0x104 (clsL0 + q % 3))
      | some s =>
        let mark := qrd s Reg.Q.MARK_KIB q ≠ 0 ∧ qrd s Reg.Q.MARK_KIB q * 1024 ≤ lookD s.switch.avg q 0 / 256
        let x := if mark then { x with rh := { x.rh with ce := true } } else x
        let s := if mark then qbump s Reg.Q.MARKED q else s
        (true, swEvent (setQueue s q (queue s q ++ [x])) x.inPort 0x102 (clsL0 + q % 3))

/-- A mirror copy of session `m` is dropped (R173). -/
def copyDropped (s : State) (m : Nat) : State := (s.bumpi swBase Reg.Mir.COPY_DROPS m).setEvt swBase Reg.Sw.SW_EVENT 2

/-- The mirror copies among packets that are dropped from a queue are counted in their sessions (R173). -/
def copiesLost (s : State) (l : List PoolPkt) : State := (l.filterMap (fun x => x.session)).foldl copyDropped s

/-- Packets of a queue removed and counted in PORT_DROP (R165, R176). -/
def dropQueued (s : State) (q : Nat) (p : PoolPkt → Bool) : State :=
  let gone := (queue s q).filter (fun x => !x.begun && p x)
  if gone.isEmpty then s
  else
    let s := setQueue s q ((queue s q).filter (fun x => x.begun || !(p x)))
    copiesLost (noteDrops (s.add (swBase + 32 * q) Reg.Q.PORT_DROP gone.length) q gone.length) gone

/-- The packets of a queue of a lost port that have begun to leave are stomped (R143, R165): the port counts them, and
nothing more of them leaves. -/
def stompBegun (s : State) (q : Nat) : State :=
  let b := (queue s q).filter (fun x => x.begun)
  if b.isEmpty then s
  else b.foldl (fun t x => countStomp t (q / 3) (outVcOf (q / 3) x.rh.vclass.toNat 0) stompLink)
    (setQueue s q ((queue s q).filter (fun x => !x.begun)))

/-- Lossy queues of a fabric port emptied: packets that have not begun to leave are dropped, the others stomped (R165). -/
def portDrop (s : State) (n : Nat) : State :=
  [3 * n, 3 * n + 1, 3 * n + 2].foldl (fun t q => dropQueued (stompBegun t q) q (fun _ => true)) s

/-! ### Flits that flow (R151, R156, R158) -/

/-- The queues with a packet that input VC `k` still writes. -/
def writtenBy (s : State) (k : Nat) : List Nat := keysWhere s.switch.pool (fun _ l => l.any (fun x => x.src == some k))

/-- A pool packet takes flits from its input: into the pool, or straight on when it has begun to leave. A mirror copy
takes none here: it is completed at its original's tail. -/
def feedPool (s : State) (k : Nat) (fs : List (BitVec 512)) : State :=
  (writtenBy s k).foldl (fun t q =>
    let begun := (queue t q).find? (fun x => x.src == some k && x.begun && x.mirror.isNone)
    let t := match begun with
      | some x => outPush t (q / 3) (outVcOf (q / 3) x.rh.vclass.toNat 0) fs false
      | none => t
    setQueue t q ((queue t q).map (fun x =>
      if x.src == some k && x.mirror.isNone then { x with flits := x.flits ++ fs } else x))) s

/-- The flits of the current packet that may move on now, moved on: all but an unchecked TAIL flit (R96). Flits that move
on leave the receive buffer. -/
def flow (s : State) (k : Nat) : State :=
  match look s.switch.cur k with
  | none => s
  | some c =>
    let ready := if c.whole && !c.checked then c.flits.length - 1 else c.flits.length
    let new_ := (c.flits.take ready).drop c.left
    if new_.isEmpty then s
    else match c.phase with
      | .waiting | .storing => s
      | .granted => setCur (flitsLeave (outPush s c.out c.outVc new_ false) (k / 16) (k % 16)
          (if c.salvaged then 0 else new_.length)) k { c with left := ready }
      | .pooled => setCur (flitsLeave (feedPool s k new_) (k / 16) (k % 16) (if c.salvaged then 0 else new_.length)) k
          { c with left := ready }
      | .dropped | .refused => setCur (flitsLeave s (k / 16) (k % 16) (if c.salvaged then 0 else new_.length)) k { c with left := ready }

/-- The input virtual channel that a salvaged packet enters by (R144, R157). -/
def SalvPkt.vc (x : SalvPkt) : Nat := vcOf x.rh.vclass.toNat x.rh.hoplvl.toNat

/-- The packet of input VC `k` leaves the salvage list of its port, if it came from there (R144). -/
def salvageLeft (s : State) (k : Nat) (c : SwPkt) : State :=
  if c.salvaged && k / 16 < 96 then
    let p := s.port (k / 16)
    s.setPort (k / 16) { p with salvage := p.salvage.eraseP (fun x => x.vc == k % 16) }
  else s

/-- The input VC is free, once the flits of its packet that had not moved on have left the receive buffer (R156). -/
def freeInput (s : State) (k : Nat) (c : SwPkt) : State :=
  let s := if c.salvaged then s else flitsLeave s (k / 16) (k % 16) (c.flits.length - c.left)
  dropCur (salvageLeft s k c) k

/-! ### Mirror copies (R171 to R174) -/

/-- A field of mirror session `m`. -/
def mrd (s : State) (f : Field) (m : Nat) : Nat := s.rdi swBase f m

/-- The session's PORT_MASK names core port `p`. -/
def mirMask (s : State) (m p : Nat) : Bool :=
  bitOf (s.rd (swBase + 64 * m + 4 * (p / 32)) Reg.Mir.PORT_MASK) (p % 32)

/-- The original matches the session's flow fields (R171). -/
def mirFlow (s : State) (m : Nat) (h : RouteHdr) : Bool :=
  (h.dst.toNat ^^^ mrd s Reg.Mir.DST_VAL m) &&& mrd s Reg.Mir.DST_MASK m == 0 &&
  (h.src.toNat ^^^ mrd s Reg.Mir.SRC_VAL m) &&& mrd s Reg.Mir.SRC_MASK m == 0 &&
  (h.flowhash.toNat ^^^ mrd s Reg.Mir.FLOWHASH_VAL m) &&& mrd s Reg.Mir.FLOWHASH_MASK m == 0

/-- Session `m` selects a packet at its input (`egress` false, port `p`) or at its grant (`egress` true) (R171). MIRROR
packets, which `isMirror` tells by their opcode, are never selected (R174). -/
def mirSelects (s : State) (m : Nat) (egress : Bool) (p : Nat) (h : RouteHdr) (isMirror : Bool) : Bool :=
  mrd s Reg.Mir.EN m == 1 && !isMirror && bitOf (mrd s Reg.Mir.VCLASS_MASK m) h.vclass.toNat &&
  (match mrd s Reg.Mir.SRC_KIND m with
   | 0 => !egress && mirMask s m p
   | 1 => egress && mirMask s m p
   | _ => !egress && mirFlow s m h)

/-- DEST_PORT can take copies: role ANALYSIS and UP or DEGRADED (R173). -/
def mirPortGood (s : State) (d : Nat) : Bool :=
  s.rd (portBase d) Reg.Port.PORT_CFG_ROLE == 3 && portRunning s d

/-- Payload bytes of a copy of an original of `n` flits (R172). -/
def mirPayload (s : State) (m n : Nat) : Nat := Nat.min (Nat.min (64 * n) (64 * mrd s Reg.Mir.TRUNC_FLITS m)) 4096

/-- The MIRROR packet of session `m`, its payload still missing (R107, R172). -/
def mirPacket (s : State) (m inP outP : Nat) (h : RouteHdr) : Packet :=
  let n := flitsOfLen h.len.toNat
  let pay := mirPayload s m n
  let t := s.timebase
  { rh := mkRoute (mrd s Reg.Mir.DEST_ADDR m) clsL2 (deviceId s * 256 + 66) 0 0 (48 + pay) h.flowhash.toNat
      (s.on 0 Reg.Root.INJ_EPOCH_EPOCH) false 0
    th := mkTrans opMirror 2 0 0 (mrd s Reg.Mir.COPIES m % 2 ^ 24) false false false 0
      [m * 2 ^ 28 + b2n (pay < 64 * n) * 2 ^ 27 + h.len.toNat, t / 2 ^ 32, t % 2 ^ 32, inP * 2 ^ 8 + outP]
    payload := []
    tr := { crc := 0, stomp := 0, reason := 0, dev := 0 } }

/-- The copy completed with the original's bytes, cut to the length its header announces (R172). -/
def mirFill (pkt : Packet) (orig : List (BitVec 512)) : Packet :=
  ({ pkt with payload := ((orig.flatMap flitBytes).take (pkt.rh.len.toNat - 48)).map (BitVec.ofNat 8) }).originate

/-- A copy made by session `m` of the packet that input VC `k` brings, entering at `inP` and leaving by `outP`; `whole_`
holds the original's flits when it is already complete. It is admitted to the L2 queue of DEST_PORT, or dropped and
counted (R171 to R173). -/
def mirCopy (s : State) (m k inP outP : Nat) (h : RouteHdr) (whole_ : Option (List (BitVec 512))) : State :=
  let c := lookD s.switch.selected m 0
  let s := { s with switch := { s.switch with selected := put s.switch.selected m (c + 1) } }
  if c % mrd s Reg.Mir.SAMPLE_N m ≠ 0 then s
  else
    let pkt := mirPacket s m inP outP h
    let s := swEvent (s.bumpi swBase Reg.Mir.COPIES m) inP 0x107 h.vclass.toNat
    let d := mrd s Reg.Mir.DEST_PORT m
    if !(mirPortGood s d) || !(mayOriginate s) then copyDropped s m
    else
      let done := whole_.map (mirFill pkt)
      let x : PoolPkt :=
        { rh := departure pkt.rh 0, inRh := pkt.rh, flits := (done.map Packet.allFlits).getD [], whole := whole_.isSome,
          begun := false, n := flitsOfLen pkt.rh.len.toNat, src := if whole_.isSome then none else some k, inPort := inP,
          viaFabric := false, mirror := if whole_.isSome then none else some (m, pkt), session := some m, att := none }
      let r := takeIn s (queueOf d clsL2) x
      if r.1 then r.2 else copyDropped r.2 m

/-- Every session that selects the packet copies it (R174). -/
def mirAll (s : State) (egress : Bool) (p k inP outP : Nat) (h : RouteHdr) (isMirror : Bool)
    (whole_ : Option (List (BitVec 512))) : State :=
  (List.range 16).foldl (fun t m =>
    if mirSelects t m egress p h isMirror then mirCopy t m k inP outP h whole_ else t) s

/-- The copies of the packet that input VC `k` brought are completed with its flits, or stomped with its reason when it
was cut or stomped before the truncation point (R174). -/
def mirFinish (s : State) (k : Nat) (orig : List (BitVec 512)) (cutReason : Option Nat) : State :=
  (writtenBy s k).foldl (fun t q =>
    let l := (queue t q).map (fun x =>
      match x.mirror with
      | some (_, pkt) =>
        if x.src == some k then
          let full := mirFill pkt orig
          let stompIt := cutReason.isSome && orig.length * 64 ≤ pkt.rh.len.toNat - 48
          { x with flits := if stompIt then stompFlits full.rh full.allFlits (cutReason.getD 0) (deviceId t) else full.allFlits,
                   whole := true, src := none, mirror := none, att := none }
        else x
      | none => x)
    let begun := (queue t q).find? (fun x => x.src == some k && x.begun && x.mirror.isSome)
    let now_ := l.find? (fun x => x.begun && x.whole)
    let t := setQueue t q (l.filter (fun x => !(x.begun && x.whole)))
    match begun, now_ with
    | some _, some x => outPush t (q / 3) (outVcOf (q / 3) clsL2 0) x.flits true
    | _, _ => t) s

/-! ### The tail passes (R96, R151) -/

/-- The pool packets that input VC `k` writes are completed by these last flits; one that has begun to leave leaves
whole, and its pool space is free. -/
def finishPool (s : State) (k : Nat) (fs : List (BitVec 512)) : State :=
  (writtenBy s k).foldl (fun t q =>
    let l := (queue t q).map (fun x =>
      if x.src == some k && x.mirror.isNone then { x with flits := x.flits ++ fs, whole := true, src := none } else x)
    let begun := (queue t q).find? (fun x => x.src == some k && x.begun && x.mirror.isNone)
    match begun with
    | some x => outPush (setQueue t q (l.filter (fun y => !(y.begun && y.whole)))) (q / 3)
        (outVcOf (q / 3) x.rh.vclass.toNat 0) fs true
    | none => setQueue t q l) s

/-- What is in progress at an output is ended early: with a stomp; or, for the loss of the link it came by (`byLink`), taken
back where its head has not left the device (R95, R143). -/
def outEnd (s : State) (o vc reason : Nat) (byLink : Bool) : State :=
  if byLink && headInside s o vc then outRemove s o vc else outStomp s o vc reason

/-- A packet that input VC `k` writes into queue `q` has begun to leave. -/
def begunFrom (s : State) (k q : Nat) : Option PoolPkt :=
  (queue s q).find? (fun x => x.src == some k && x.begun && x.mirror.isNone)

/-- Something of the packet that input VC `k` writes into the pool has left, and stays: `outEnd` would stomp it. -/
def poolLeft (s : State) (k : Nat) (byLink : Bool) : Bool :=
  (writtenBy s k).any (fun q => match begunFrom s k q with
    | some x => !(byLink && headInside s (q / 3) (outVcOf (q / 3) x.rh.vclass.toNat 0))
    | none => false)

/-- The pool packets that input VC `k` writes are discarded where none of their flits has left, and ended at their outputs
where some has (R143, R175). -/
def cutPool (s : State) (k reason : Nat) (byLink : Bool) : State :=
  (writtenBy s k).foldl (fun t q =>
    let t := match begunFrom t k q with
      | some x => outEnd t (q / 3) (outVcOf (q / 3) x.rh.vclass.toNat 0) reason byLink
      | none => t
    setQueue t q ((queue t q).filter (fun x => !(x.src == some k && x.mirror.isNone)))) s

/-- What becomes of the current packet of input VC `k` when it is ended before its tail has come: stomped where its head
has left, discarded otherwise (R143, R175). `count` is what a discard counts. -/
def endOutputs (s : State) (k : Nat) (c : SwPkt) (reason : Nat) (byLink : Bool) (count : State → State) : State :=
  match c.phase with
  | .granted =>
    let t := outEnd s c.out c.outVc reason byLink
    if byLink && headInside s c.out c.outVc then count t else t
  | .pooled => if poolLeft s k byLink then cutPool s k reason byLink else count (cutPool s k reason byLink)
  | .dropped | .refused => s
  | .waiting | .storing => count s

/-- The current packet of input VC `k` is ended before its tail has come, and no more of it will come: the input is free. -/
def cutInput (s : State) (k reason : Nat) (byLink : Bool) (count : State → State) : State :=
  match look s.switch.cur k with
  | none => s
  | some c => freeInput (endOutputs (mirFinish s k c.flits (some reason)) k c reason byLink count) k c

/-- The current packet of input VC `k` is ended, and what still comes of it is discarded. -/
def haltInput (s : State) (k reason : Nat) (count : State → State) : State :=
  match look s.switch.cur k with
  | none => s
  | some c =>
    let s := endOutputs (mirFinish s k c.flits (some reason)) k c reason false count
    flow (setCur s k { c with phase := .dropped, checked := true }) k

/-! ### Waiting heads -/

/-- Input VCs whose head waits for a grant at output `o`. -/
def waitingAt (s : State) (o : Nat) : List Nat := keysWhere s.switch.cur (fun _ c => c.phase == .waiting && c.out == o)

/-- Input VCs whose lossless head is for output `o` and has not been granted there: it waits, or is still being stored. -/
def headsFor (s : State) (o : Nat) : List Nat :=
  keysWhere s.switch.cur (fun _ c => (c.phase == .waiting || c.phase == .storing) && c.out == o)

/-- LL_BACKLOG of output `o`: flits of the REQ and RSP packets whose heads wait there (R166). -/
def llBacklog (s : State) (o : Nat) : Nat :=
  s.switch.cur.foldl (fun m kv =>
    if kv.2.phase == .waiting && kv.2.out == o && (kv.2.rh.vclass.toNat == clsReq || kv.2.rh.vclass.toNat == clsRsp) then
      m + flitsOfLen kv.2.rh.len.toNat else m) 0

/-- Tile (c, t), which joins these core ports, is fenced or in unit reset (R176). -/
def tileLost (s : State) (p o : Nat) : Bool := unitOff s (.tile (idx 255 (16 * (p / 8) + o / 8)))

end Sys2Proof.Machine
end

