-- ==== Sys2Proof/Machine/Memory.lean ====
section
/-!
DEFINITION. Pool memory, extents and device addresses (spec/13_memory_pool.md, R375): bytes, lines, homes, backing and
admission, and the view of a line that a read takes.
-/
namespace Sys2Proof.Machine

/-! ### Bytes of the pool -/

/-- A byte of a memory: an unlisted byte is zero (R449, R450). -/
def memByte (m : List Host.Cell) (a : Nat) : Byte := (look m a).getD 0

/-- The memory with one byte written: zero is never listed. -/
def memPut (m : List Host.Cell) (a : Nat) (b : Byte) : List Host.Cell := if b = 0 then del m a else put m a b

/-- Bytes written from address `a` on. -/
def memWrite (m : List Host.Cell) (a : Nat) : List Byte → List Host.Cell
  | [] => m
  | b :: bs => memWrite (memPut m a b) (a + 1) bs

/-- `n` bytes from address `a` on. -/
def memRead (m : List Host.Cell) (a n : Nat) : List Byte := (List.range n).map (fun i => memByte m (a + i))

/-- The canonical form: addresses strictly rising and no listed zero. -/
def Memory.wf : List Host.Cell → Bool
  | [] => true
  | (a, b) :: m => b != 0 && (match m with | [] => true | (a', _) :: _ => a < a') && Memory.wf m

/-- Bytes of a little-endian number. -/
def leBytes (n k : Nat) : List Byte := (List.range k).map (fun i => BitVec.ofNat 8 (n / 256 ^ i))

/-- The little-endian number of a list of bytes. -/
def leNat (b : List Byte) : Nat := b.foldr (fun x m => x.toNat + 256 * m) 0

/-- The little-endian number in `k` bytes at byte `i` of a list. -/
def leAt (b : List Byte) (i k : Nat) : Nat := leNat ((b.drop i).take k)

/-! ### Where device addresses lie (R375, R430, R440, R441) -/

/-- A region of R375. -/
inductive Region | pool | host (a addr : Nat) | device (a addr : Nat) | nowhere
  deriving DecidableEq, Repr

/-- The region of a device address. -/
def regionOf (da : Nat) : Region :=
  if da < 0x4800000000 then .pool
  else if 0x100000000000 ≤ da ∧ da < 0x200000000000 then .pool
  else if 0x4000000000000 ≤ da ∧ da < 0x8000000000000 then .device (da / 2 ^ 44 % 64) (da % 2 ^ 44)
  else if 0x8000000000000 ≤ da ∧ da < 0x10000000000000 then .host (da / 2 ^ 45 % 64) (da % 2 ^ 45)
  else .nowhere

/-- The extent of a pool address (R375). -/
def extentOf (da : Nat) : Nat := da / 2 ^ 28

/-- HBM extents (R440). -/
def isHbm (e : Nat) : Bool := e < 1152

/-- The extent, when it is backed; until the write of every line after a cold reset has ended an HBM extent is being
sanitized (R450). -/
def State.ext (s : State) (e : Nat) : Option ExtSt :=
  if isHbm e then
    some (lookD s.pool.exts e (if s.pool.ready then ExtSt.init else { ExtSt.init with xstate := .sanitizing }))
  else look s.pool.exts e

/-- The extent changed. -/
def State.setExt (s : State) (e : Nat) (x : ExtSt) : State := { s with pool := { s.pool with exts := put s.pool.exts e x } }

/-- The home stack of an extent (R440). -/
def homeStack (e : Nat) : Nat := if isHbm e then e / 192 else e % 6

/-- The home slice of a line, by device address (R441). -/
def sliceOf (da : Nat) : Nat := 8 * homeStack (extentOf da) + (bits da 8 6 ^^^ bits da 14 12 ^^^ bits da 20 18)

/-- The channel of its stack on which an HBM line is stored (R441). -/
def hbmChannel (da : Nat) : Nat := 4 * (sliceOf da % 8) + (bits da 10 9 ^^^ bits da 16 15)

/-- An attachment is upstream with its link up (R375, R407). -/
def attUp (s : State) (a : Nat) : Bool :=
  s.rd (attBase a) Reg.Att.ATT_CFG_ROLE == 1 && s.rd (attBase a) Reg.Att.ATT_STATE_LINK == 2

/-- The byte at this device address is backed (R375). -/
def backed (s : State) (da : Nat) : Bool :=
  match regionOf da with
  | .pool => (s.ext (extentOf da)).isSome
  | .host a _ => attUp s a
  | .device a _ => s.on (attBase a) Reg.Att.ATT_CFG_APT_EN && s.on (attBase a) Reg.Att.ATT_CFG_OWNED
  | .nowhere => false

/-- Memory in the sense of R375: pool and host windows. -/
def isMemory (s : State) (da : Nat) : Bool :=
  backed s da && (match regionOf da with | .pool | .host _ _ => true | _ => false)

/-- The upstream attachment that a function belongs to (R412). -/
def attOfFn (s : State) (f : Nat) : Option Nat :=
  if f < 64 then some f
  else (List.range 64).find? (fun a =>
    s.rd (attBase a) Reg.Att.VF_FIRST ≤ f && f < s.rd (attBase a) Reg.Att.VF_FIRST + s.rd (attBase a) Reg.Att.VF_MAX)

/-- Window of Compass, and the partition of a function (R401). -/
def xlBase : Nat := base .compass

/-- The partition of a function. -/
def partOf (s : State) (f : Nat) : Nat := s.rdi xlBase Reg.FnXl.PARTITION f

/-- The extent shows a state in which its owner may reach it (R444, R448). -/
def ExtSt.open_ (x : ExtSt) : Bool := x.xstate == .settled || x.xstate == .copying

/-- Access for function `f` is admitted to the extent (R444). -/
def fnAdmitted (s : State) (f e : Nat) : Bool :=
  match s.ext e with
  | none => false
  | some x => x.open_ &&
      (match x.owner with
       | .host | .shared => (match attOfFn s f with | some a => bitOf x.hosts a | none => false)
       | .fabric => x.partition == partOf s f
       | _ => false)

/-- Host `u` is admitted to the extent (R444). -/
def hostAdmitted (s : State) (u e : Nat) : Bool :=
  match s.ext e with
  | none => false
  | some x => x.open_ && (x.owner == .host || x.owner == .shared) && bitOf x.hosts u && !(x.leaving.contains u)

/-- Every byte of a translated access is backed, and admitted where it is pool memory (R388). -/
def chunkReaches (s : State) (f da n : Nat) : Bool :=
  let last := da + n - 1
  (List.range (extentOf last + 1 - extentOf da)).all (fun i =>
    let a := Nat.max da ((extentOf da + i) * 2 ^ 28)
    backed s a && (match regionOf a with | .pool => fnAdmitted s f (extentOf a) | _ => true)) && backed s last

/-! ### Lines as a read sees them (R476, R493) -/

/-- The line number of a device address. -/
def lineOf (da : Nat) : Nat := da / 64

/-- The line of an on-die agent, if it keeps one. -/
def cacheLine (s : State) (a line : Nat) : Option CLine := (look s.mesh.cache a).bind (fun m => look m line)

/-- The states in which an agent's data is newer than memory. -/
def CLine.dirty (c : CLine) : Bool :=
  match c.st with
  | .m | .o | .omAC | .omA | .oiA => true
  | .miA => c.wb
  | _ => false

/-- The on-die agent whose copy of the line is newer than memory. -/
def dirtyHolder (s : State) (line : Nat) : Option CLine :=
  s.mesh.cache.findSome? (fun kv => match look kv.2 line with
    | some c => if c.dirty then some c else none
    | none => none)

/-- The current data of a line and its poison marker. -/
def viewLine (s : State) (line : Nat) : List Byte × Bool :=
  match dirtyHolder s line with
  | some c => (c.data, c.bad)
  | none => (memRead s.pool.mem (64 * line) 64, (look s.pool.poison line).isSome)

/-- `n` bytes of the pool as they are now. -/
def viewBytes (s : State) (da n : Nat) : List Byte :=
  (List.range n).map (fun i => (viewLine s (lineOf (da + i))).1[(da + i) % 64]?.getD 0)

/-- A read of these bytes returns poison (R453). -/
def viewBad (s : State) (da n : Nat) : Bool :=
  (List.range (lineOf (da + n - 1) + 1 - lineOf da)).any (fun i => (viewLine s (lineOf da + i)).2)

/-- The line's poison marker set or cleared. -/
def setPoison (s : State) (line : Nat) (b : Bool) : State :=
  let s := if b && (look s.pool.poison line).isNone then s.bump (base (.stack 0)) Reg.Pool.POISON_NEW_CNT else s
  { s with pool := { s.pool with poison := if b then put s.pool.poison line () else del s.pool.poison line } }

/-- Bytes of one line written: a whole clean line clears the marker, poisoned data sets it, a partial write keeps it
(R453). -/
def writeLine (s : State) (line off : Nat) (b : List Byte) (bad : Bool) : State :=
  let s := { s with pool := { s.pool with mem := memWrite s.pool.mem (64 * line + off) b } }
  if bad then setPoison s line true else if b.length = 64 then setPoison s line false else s

/-- An access of `n` bytes at `da` cut into lines: line, offset in it, position in the data, length (R493). -/
def cutLines (da n : Nat) : List (Nat × Nat × Nat × Nat) :=
  if n = 0 then []
  else (List.range (lineOf (da + n - 1) + 1 - lineOf da)).map (fun i =>
    let l := lineOf da + i
    let first := Nat.max da (64 * l)
    let last := Nat.min (da + n) (64 * l + 64)
    (l, first - 64 * l, first - da, last - first))

/-- On-die copies of the line dropped where their state is stable. -/
def dropCopies (s : State) (line : Nat) : State :=
  { s with mesh := { s.mesh with
      cache := s.mesh.cache.map (fun kv => (kv.1, match look kv.2 line with
        | some c => (match c.st with | .sh | .e | .m | .o => del kv.2 line | _ => kv.2)
        | none => kv.2))
      sf := del s.mesh.sf line } }

/-- The engine of a work queue (R275). -/
def engineOf (g : Nat) (x : WqSt) : Nat := 4 * x.cluster + g % 4

/-- Window of engine `e`. -/
def engBase (e : Nat) : Nat := base (.engine (idx 15 e))

/-- Queues that watch a line. -/
def watchers (s : State) (f a : Nat) : List (Nat × WqSt) :=
  s.wq.wqs.filter (fun kv => kv.2.watched && kv.2.fn == f && kv.2.watchAddr == a)

/-- A watched line changed. -/
def mapLine (s : State) (f a : Nat) (k : WatchSt → WatchSt) : State :=
  { s with wq := { s.wq with lines := s.wq.lines.map (fun w => if w.fn = f ∧ w.addr = a then k w else w) } }

/-- A counter of the engine of the line's first queue raised (R308). -/
def lineCount (s : State) (f a : Nat) (c : Field) : State :=
  match watchers s f a with
  | (g, q) :: _ => s.bump (engBase (engineOf g q)) c
  | [] => s

/-- A snoop takes a watched line: it is read again, or once more after the read that is out (R288). -/
def lineTaken (s : State) (w : WatchSt) : State :=
  if w.reading then mapLine s w.fn w.addr (fun k => { k with again := true })
  else lineCount (mapLine s w.fn w.addr (fun k => { k with reading := true })) w.fn w.addr Reg.Eng.DB_WATCH_CNT

/-- A pool line is taken from the agent of cluster `c` that holds it for watched queues, or from every one (R288). -/
def poolLineTaken (s : State) (line : Nat) (c : Option Nat) : State :=
  (s.wq.lines.filter (fun w => w.line == some line && (c.isNone || c == some w.cluster))).foldl lineTaken s

/-- A write by one of the device's own structures (rings, entries, indices, contexts, logs), which takes effect at once
at the home: merged onto the current data, every copy removed, that of a watched line too (R288, R493; notes/assumptions/21.md). -/
def directWrite (s : State) (da : Nat) (b : List Byte) (bad : Bool) : State :=
  (cutLines da b.length).foldl (fun t (l, o, p, n) =>
    let v := viewLine t l
    let hosts := match look t.mesh.sf l with
      | some e => (e.owner.toList ++ e.sharers).filter (· < 64)
      | none => []
    let t := hosts.foldl (fun t h => t.emit (.biSnp h l .inv)) (writeLine (dropCopies (poolLineTaken t l none) l) l 0 v.1 v.2)
    writeLine t l o ((b.drop p).take n) bad) s

/-! ### The pool's own records -/

/-- Windows of HBM stack 0, where the pool-wide registers lie (R458, R500). -/
def poolBase : Nat := base (.stack 0)

/-- A pool event bit set (R458). -/
def poolEvent (s : State) (i : Nat) : State := s.setEvt poolBase Reg.Pool.POOL_EVENT i

/-- An error-log record written, or counted as lost (R455, R460). -/
def elogWrite (s : State) (kind source stack slice da : Nat) : State :=
  let pi := s.rd poolBase Reg.Pool.ELOG_PI
  if ringDist pi (s.rd poolBase Reg.Pool.ELOG_CI) < 64 then
    let b := poolBase + 16 * (pi % 64)
    let s := ((((s.wr b Reg.Elog.KIND kind).wr b Reg.Elog.SOURCE source).wr b Reg.Elog.STACK stack).wr b Reg.Elog.SLICE
      slice).wr64 b Reg.Elog.DA_LO Reg.Elog.DA_HI da
    poolEvent ((s.wr b Reg.Elog.VALID 1).wr poolBase Reg.Pool.ELOG_PI (pi + 1)) 2
  else poolEvent (s.bump poolBase Reg.Pool.ELOG_LOST) 3

end Sys2Proof.Machine
end

