-- ==== Sys2Proof/Machine/CompassOps.lean ====
section
/-!
DEFINITION. Compass (spec/11_translation.md): memory keys, the two-stage walk, the TLB, fault records. An access that
misses waits: it is tried again by the command that brings what it missed.
-/
namespace Sys2Proof.Machine

/-- An on-die cache with room made for one entry more: the victim's choice is open (R380, R395). -/
def evictOne {α : Type} (s : State) (l : List α) (cap : Nat) : List α × State :=
  if l.length < cap then (l, s) else (l.eraseIdx (s.drawn 16 % l.length), s.spend)

/-! ### Keys (R376 to R380) -/

/-- A key entry from its 32 bytes (R377). -/
def KeyEnt.ofBytes (b : List Byte) : KeyEnt :=
  let w := leAt b 0 4
  { valid := bitOf w 0, rights := bits w 4 1, zeroBased := bitOf w 5, tag := bits w 15 8, owner := bits w 25 16,
    base := leAt b 8 8, length := leAt b 16 8 }

/-- The 32 bytes of a key entry. -/
def KeyEnt.toBytes (k : KeyEnt) : List Byte :=
  leBytes (b2n k.valid + 2 * k.rights + 32 * b2n k.zeroBased + 2 ^ 8 * k.tag + 2 ^ 16 * k.owner) 4 ++ leBytes 0 4 ++
  leBytes k.base 8 ++ leBytes k.length 8 ++ leBytes 0 8

/-- Rights of R377 by bit of KeyEnt.rights: 0 L_READ, 1 L_WRITE, 2 R_READ, 3 R_WRITE. -/
def rLRead : Nat := 0
def rLWrite : Nat := 1
def rRRead : Nat := 2
def rRWrite : Nat := 3

/-- KEY_TABLE_BASE (R400). -/
def keyTable (s : State) : Nat := s.rd64 xlBase Reg.Xl.KEY_TABLE_BASE_LO Reg.Xl.KEY_TABLE_BASE_HI

/-- The index lies in function `f`'s range and names an entry of the table (R376, R378). -/
def keyInRange (s : State) (f idx : Nat) : Bool :=
  idx != 0 && idx < s.rd xlBase Reg.Xl.KEY_ENTRIES && s.rdi xlBase Reg.FnXl.KEY_FIRST f ≤ idx &&
  idx < s.rdi xlBase Reg.FnXl.KEY_FIRST f + s.rdi xlBase Reg.FnXl.KEY_COUNT f

/-- A key check: passed with the stage-1 address, failed, or waiting for the entry. -/
inductive KeyRes | ok (va : Nat) | bad | wait
  deriving DecidableEq, Repr

/-- A failed check, counted. -/
def keyFail (s : State) : KeyRes × State := (.bad, s.bump xlBase Reg.Xl.KEY_FAIL_CNT)

/-- An access of `n` bytes at `a` under `key` for function `f`, needing this right (R378). -/
def keyCheck (s : State) (f key a n right : Nat) : KeyRes × State :=
  let idx := key / 256
  if unitOff s .compass then (.wait, s)
  else if !(s.on xlBase Reg.Xl.KEY_CFG_EN) || !(keyInRange s f idx) then keyFail s
  else match look s.xl.keys idx with
    | some k =>
      if k.valid && k.owner == f && k.tag == key % 256 && bitOf k.rights right then
        if k.zeroBased then (if a + n ≤ k.length then (.ok (k.base + a), s) else keyFail s)
        else if k.base ≤ a ∧ a + n ≤ k.base + k.length then (.ok a, s) else keyFail s
      else keyFail s
    | none =>
      if s.xl.keyBad.contains idx then
        keyFail { s with xl := { s.xl with keyBad := s.xl.keyBad.erase idx } }
      else if s.xl.keyWant.contains idx then (.wait, s)
      else
        let s := cntCM (s.bump xlBase Reg.Xl.KEY_MISS_CNT) .compass 0x105 1 none (some f)
        (.wait, { s with xl := { s.xl with keyWant := s.xl.keyWant ++ [idx] } })

/-! ### Table entries (R384 to R386) -/

/-- What a table entry says. -/
inductive Entry | invalid | table (oa : Nat) | leaf (ps : Nat) (rd wr dev : Bool) (oa : Nat) | bad | misaligned
  deriving DecidableEq, Repr

/-- A table entry read at a level, for a stage of `b` input bits. -/
def entryAt (e lvl b : Nat) : Entry :=
  let ps := bits e 7 2
  let mt := bits e 11 10
  let oa := bits e 51 12 * 4096
  if !(bitOf e 0) then .invalid
  else if bits e 55 52 ≠ 0 then .bad
  else if bitOf e 1 then
    if lvl = 3 ∨ ps ≠ 0 ∨ bitOf e 8 ∨ bitOf e 9 ∨ mt ≠ 0 then .bad else .table oa
  else
    let lo := 12 + 9 * (3 - lvl)
    let hi := if lvl = 0 then Nat.min b 52 else lo + 8
    if ps < lo ∨ hi < ps ∨ 2 ≤ mt then .bad
    else if oa % 2 ^ ps ≠ 0 then .misaligned
    else .leaf ps (bitOf e 8) (bitOf e 9) (mt == 1) oa

/-- log2 of the slot size at a level (R385). -/
def slotLog (lvl : Nat) : Nat := 12 + 9 * (3 - lvl)

/-- The index of an input address at a level. -/
def slotIndex (a lvl : Nat) : Nat := if lvl = 0 then a / 2 ^ 39 else a / 2 ^ slotLog lvl % 512

/-! ### The walk (R389 to R392) -/

/-- How far one stage of a walk comes: a leaf, a fault, or the entry it must read next. -/
inductive StageRes
  | leaf (out log : Nat) (rd wr dev : Bool) (lvl ea : Nat)
  | fault (f : WalkFault)
  | need (ea : Nat) (want : WalkEnt)
  deriving DecidableEq, Repr

/-- A fault of a stage. -/
def wf (reason stage level input ea : Nat) : WalkFault :=
  { reason := reason, stage := stage, level := level, nested := false, s1Level := 0, input := input, ea := ea }

/-- The walk-cache entry that names a slot, without its value. -/
def slotOf (stage owner lvl a : Nat) : WalkEnt :=
  { stage := stage, owner := owner, level := lvl, start := a / 2 ^ slotLog lvl * 2 ^ slotLog lvl, entry := 0 }

/-- The cached value of a slot. -/
def cachedSlot (s : State) (x : WalkEnt) : Option Nat :=
  (s.xl.wcache.find? (fun e => { e with entry := 0 } == x)).map (·.entry)

/-- The context of a function as the active registers give it. -/
def xlCtx (s : State) (f : Nat) : XlCtx :=
  let p := partOf s f
  { valid := s.rdi xlBase Reg.FnXl.VALID f == 1, s1 := s.rdi xlBase Reg.FnXl.S1_EN f == 1
    s1Bits := s.rdi xlBase Reg.FnXl.S1_IA_BITS f
    s1Root := s.rd64 (xlBase + 32 * f) Reg.FnXl.S1_ROOT_LO Reg.FnXl.S1_ROOT_HI, part := p
    s2 := s.rdi xlBase Reg.Part.S2_EN p == 1, s2Bits := s.rdi xlBase Reg.Part.S2_IA_BITS p
    s2Root := s.rd64 (xlBase + 16 * p) Reg.Part.S2_ROOT_LO Reg.Part.S2_ROOT_HI }

/-- Stage 2 from a level on (R389). -/
def stage2Go (s : State) (got : AMap (Option Nat)) (part b a : Nat) : Nat → Nat → Nat → StageRes
  | 0, lvl, _ => .fault (wf 4 2 lvl a 0)
  | k + 1, lvl, table =>
    let ea := table + 8 * slotIndex a lvl
    let slot := slotOf 2 part lvl a
    let use := fun (e : Nat) => match entryAt e lvl b with
      | .invalid => StageRes.fault (wf 1 2 lvl a ea)
      | .bad => .fault (wf 4 2 lvl a ea)
      | .misaligned => .fault (wf 5 2 lvl a ea)
      | .leaf ps r w d oa => .leaf (oa + a % 2 ^ ps) ps r w d lvl ea
      | .table oa => stage2Go s got part b a k (lvl + 1) oa
    match cachedSlot s slot with
    | some e => use e
    | none =>
      if !(isMemory s table) then .fault (wf 6 2 lvl a ea)
      else match look got ea with
        | none => .need ea slot
        | some none => .fault (wf 7 2 lvl a ea)
        | some (some e) => use e

/-- Stage 2 of a context (R381, R389). -/
def stage2 (s : State) (got : AMap (Option Nat)) (c : XlCtx) (a : Nat) : StageRes :=
  if c.s2 then
    if 2 ^ c.s2Bits ≤ a then .fault (wf 3 2 0 a 0) else stage2Go s got c.part c.s2Bits a 4 0 c.s2Root
  else if 2 ^ 52 ≤ a then .fault (wf 3 2 0 a 0)
  else .leaf a 52 true true false 0 0

/-- Stage 1 from a level on: every table address is translated by stage 2 first (R389, R390). -/
def stage1Go (s : State) (got : AMap (Option Nat)) (f : Nat) (c : XlCtx) (a : Nat) : Nat → Nat → Nat → StageRes
  | 0, lvl, _ => .fault (wf 4 1 lvl a 0)
  | k + 1, lvl, table =>
    let ia := table + 8 * slotIndex a lvl
    let slot := slotOf 1 f lvl a
    let use := fun (e : Nat) => match entryAt e lvl c.s1Bits with
      | .invalid => StageRes.fault (wf 1 1 lvl a ia)
      | .bad => .fault (wf 4 1 lvl a ia)
      | .misaligned => .fault (wf 5 1 lvl a ia)
      | .leaf ps r w d oa => .leaf (oa + a % 2 ^ ps) ps r w d lvl ia
      | .table oa => stage1Go s got f c a k (lvl + 1) oa
    match cachedSlot s slot with
    | some e => use e
    | none => match stage2 s got c ia with
      | .need ea x => .need ea x
      | .fault x => .fault { x with nested := true, s1Level := lvl }
      | .leaf da _ r _ d _ _ =>
        if !r || d || !(isMemory s da) then .fault (wf 6 1 lvl a ia)
        else match look got da with
          | none => .need da slot
          | some none => .fault (wf 7 1 lvl a ia)
          | some (some e) => use e

/-- Stage 1 of a function (R381). -/
def stage1 (s : State) (got : AMap (Option Nat)) (f : Nat) (c : XlCtx) (a : Nat) : StageRes :=
  if c.s1 then
    if 2 ^ c.s1Bits ≤ a then .fault (wf 3 1 0 a 0) else stage1Go s got f c a 4 0 c.s1Root
  else .leaf a 52 true true false 0 0

/-- A whole walk: a combined translation, a fault, or the next entry to read. -/
inductive WalkRes | hit (e : TlbEnt) | fault (f : WalkFault) | need (ea : Nat) (want : WalkEnt)
  deriving DecidableEq, Repr

/-- The last enabled stage of a function (R392). -/
def lastStage (s1 s2 : Bool) : Nat := if s2 then 2 else if s1 then 1 else 1

/-- The permission and type checks of R388, stage 1 first. -/
def permFault (e : TlbEnt) (x : XAccess) (a ipa : Nat) : Option WalkFault :=
  if e.s1 && !(if x.write then e.wr1 else e.rd1) then some (wf 2 1 e.lvl1 a e.ea1)
  else if e.s2 && !(if x.write then e.wr2 else e.rd2) then some (wf 2 2 e.lvl2 ipa e.ea2)
  else if !x.payload && e.s1 && e.dev1 then some (wf 0xA 1 e.lvl1 a e.ea1)
  else if !x.payload && e.s2 && e.dev2 then some (wf 0xA 2 e.lvl2 ipa e.ea2)
  else none

/-- The walk of `a` for function `f` under a context, with the entries it has read (R389). A leaf of stage 1 that denies the
access faults as it is read. -/
def walk (s : State) (c : XlCtx) (got : AMap (Option Nat)) (f a : Nat) (x : XAccess) : WalkRes :=
  if !c.valid then .fault (wf 9 1 0 a 0)
  else
    let s1 := c.s1
    match stage1 s got f c a with
    | .need ea w => .need ea w
    | .fault w => .fault w
    | .leaf ipa p1 r1 w1 d1 l1 e1 =>
      if s1 && !(if x.write then w1 else r1) then .fault (wf 2 1 l1 a e1)
      else
        let part := c.part
        let s2 := c.s2
        match stage2 s got c ipa with
        | .need ea w => .need ea w
        | .fault w => .fault w
        | .leaf da p2 r2 w2 d2 l2 e2 =>
          let log := Nat.min p1 p2
          .hit { fn := f, part := part, va := a / 2 ^ log * 2 ^ log, log := log, ipa := ipa / 2 ^ log * 2 ^ log,
                 da := da / 2 ^ log * 2 ^ log, s1 := s1, s2 := s2, rd1 := r1, wr1 := w1, dev1 := d1, lvl1 := l1, ea1 := e1,
                 rd2 := r2, wr2 := w2, dev2 := d2, lvl2 := l2, ea2 := e2, fresh := true }

/-! ### Fault records (R393, R403) -/

/-- Word 0 bits [15:0] of a fault record. -/
def WalkFault.low (w : WalkFault) (x : XAccess) : Nat :=
  w.reason + 2 ^ 8 * (w.stage - 1) + 2 ^ 9 * w.level + 2 ^ 11 * b2n w.nested + 2 ^ 12 * (if w.nested then w.s1Level else 0) +
  2 ^ 14 * b2n x.write + 2 ^ 15 * b2n x.remote

/-- The record of a demand access's fault, or its loss, and event XLATE_FAULT to `f` (R393, R403). -/
def recordFault (s : State) (f va : Nat) (x : XAccess) (w : WalkFault) : State :=
  let s := cntCM (s.bump xlBase Reg.Xl.FAULT_CNT) .compass 0x104 1 none (some f)
  let pi := s.rd xlBase Reg.Xl.FLOG_PI
  let room := ringDist pi (s.rd xlBase Reg.Xl.FLOG_CI) < 256
  let d := [va % 2 ^ 32, va / 2 ^ 32, w.low x + 2 ^ 16 * (pi % 256) + 2 ^ 24 * b2n room, 0]
  let s :=
    if room then
      let b := xlBase + 32 * (pi % 256)
      let s := ((((((((s.wr b Reg.Flog.REASON w.reason).wr b Reg.Flog.STAGE (w.stage - 1)).wr b Reg.Flog.LEVEL w.level).wr b
        Reg.Flog.NESTED (b2n w.nested)).wr b Reg.Flog.S1_LEVEL (if w.nested then w.s1Level else 0)).wr b Reg.Flog.WRITE
        (b2n x.write)).wr b Reg.Flog.REMOTE (b2n x.remote)).wr b Reg.Flog.FUNC f).wr b Reg.Flog.VALID 1
      let s := (((s.wr b Reg.Flog.PARTITION (partOf s f)).wr b Reg.Flog.KEY_INDEX x.key).wr64 b Reg.Flog.INPUT_ADDR_LO
        Reg.Flog.INPUT_ADDR_HI w.input).wr64 b Reg.Flog.VA_LO Reg.Flog.VA_HI va
      ((s.wr64 b Reg.Flog.ENTRY_ADDR_LO Reg.Flog.ENTRY_ADDR_HI w.ea).wr xlBase Reg.Xl.FLOG_PI (pi + 1)).setEvt xlBase
        Reg.Xl.XL_EVENT 0
    else (s.bump xlBase Reg.Xl.FLOG_LOST).setEvt xlBase Reg.Xl.XL_EVENT 1
  raiseEvent s f 0x40 d

/-! ### Translating an access (R378, R388, R395, R396) -/

/-- A translation: the pieces of memory, a fault (already recorded), or a wait for a walk. -/
inductive XRes | ok (l : List Chunk) | fault | wait
  deriving DecidableEq, Repr

/-- The TLB entry that covers `a` for `f`. -/
def tlbFind (s : State) (f a : Nat) : Option TlbEnt :=
  s.xl.tlb.find? (fun e => e.fn == f && e.va ≤ a && a < e.va + 2 ^ e.log)

/-- The TLB with one entry more. -/
def tlbAdd (s : State) (e : TlbEnt) : State :=
  let r := evictOne s s.xl.tlb 65536
  { r.2 with xl := { r.2.xl with tlb := r.1 ++ [e] } }

/-- One chunk of an access through a TLB entry: checked, or its fault. -/
def chunkVia (s : State) (f a n : Nat) (x : XAccess) (e : TlbEnt) : Chunk ⊕ WalkFault :=
  let ipa := e.ipa + (a - e.va)
  let da := e.da + (a - e.va)
  match permFault e x a ipa with
  | some w => .inr w
  | none =>
    if chunkReaches s f da n then
      .inl { da := da, len := n, dev := e.dev1 || e.dev2,
             tag := { fn := f, va := e.va, vaLog := e.log, ipa := e.ipa, part := e.part,
                      key := if x.key = 0 then none else some x.key } }
    else .inr (if e.s2 then wf 8 2 e.lvl2 ipa e.ea2 else wf 8 1 e.lvl1 a e.ea1)

/-- A translation buffer entry serves an access: a first use after a walk only clears its mark, any other counts a hit (spec/11_translation.md, TLB_HIT_CNT). -/
def tlbServed (s : State) (f a : Nat) (e : TlbEnt) : State :=
  if e.fresh then
    { s with xl := { s.xl with tlb := s.xl.tlb.map (fun y => if y == e then { y with fresh := false } else y) } }
  else cntPMA (s.bump xlBase Reg.Xl.TLB_HIT_CNT) .compass 0x100 1 (some (s.rdi (base (.cluster 0)) Reg.FnTab.FN_PRIV f == 1))
    (some f) (some a)

/-- No translation buffer entry serves an access: it counts a miss (spec/11_translation.md, TLB_MISS_CNT). -/
def tlbMissed (s : State) (f a : Nat) : State :=
  cntPMA (s.bump xlBase Reg.Xl.TLB_MISS_CNT) .compass 0x101 1 (some (s.rdi (base (.cluster 0)) Reg.FnTab.FN_PRIV f == 1))
    (some f) (some a)

/-- A walk begins for an access. -/
def walkBegun (s : State) (f a : Nat) (x : XAccess) : State :=
  { s with xl := { s.xl with walks := s.xl.walks ++ [{ fn := f, va := a, acc := x, ctx := xlCtx s f, spec := false, since := s.now, got := [], failed := none }] } }

/-- A walk that failed answers its access and is gone. -/
def walkDropped (s : State) (w : Walk) : State := { s with xl := { s.xl with walks := s.xl.walks.erase w } }

/-- A demand access joins a walk under way, speculative until now or not: a fault will be its own (R394). -/
def walkJoined (s : State) (w : Walk) : State :=
  { s with xl := { s.xl with walks := s.xl.walks.map (fun k => if k == w then { k with spec := false } else k) } }

/-- The entry that serves address `a`, with the state after the search; otherwise the access's answer. -/
def xlateFind (s : State) (f : Nat) (x : XAccess) (a : Nat) : (TlbEnt ⊕ XRes) × State :=
  match tlbFind s f a with
  | some e => (.inl e, tlbServed s f a e)
  | none =>
    match s.xl.walks.find? (fun w => w.fn == f && w.va == a && w.acc == x) with
    | some w =>
      (match w.failed with
       | some _ => (.inr .fault, walkDropped s w)
       | none => (.inr .wait, if w.spec then walkJoined (tlbMissed s f a) w else s))
    | none =>
      (match walk (tlbMissed s f a) (xlCtx s f) [] f a x with
       | .fault w => (.inr .fault, recordFault (tlbMissed s f a) f a x w)
       | .hit e => (.inl e, tlbAdd (tlbMissed s f a) { e with fresh := false })
       | .need _ _ => (.inr .wait, walkBegun (tlbMissed s f a) f a x))

/-- The pieces of an access found so far, from address `a` on. -/
def xlateGo (s : State) (f : Nat) (x : XAccess) : Nat → Nat → Nat → List Chunk → XRes × State
  | 0, _, _, l => (.ok l.reverse, s)
  | k + 1, a, n, l =>
    if n = 0 then (.ok l.reverse, s)
    else match xlateFind s f x a with
      | (.inr r, s) => (r, s)
      | (.inl e, s) =>
        let m := Nat.min n (e.va + 2 ^ e.log - a)
        match chunkVia s f a m x e with
        | .inl c => xlateGo s f x k (a + m) (n - m) (c :: l)
        | .inr w => (.fault, recordFault s f a x w)

/-- An access of `n` bytes at `a` for function `f` translated, every chunk of it before any byte moves (R388, R396). -/
def xlate (s : State) (f a n : Nat) (x : XAccess) : XRes × State := if unitOff s .compass then (.wait, s) else xlateGo s f x (n / 4096 + 2) a n []

/-- An access of a local structure: no key. -/
def accLocal (write : Bool) : XAccess := { write := write, remote := false, key := 0, payload := false }

/-- An access that a key has passed. -/
def accKey (write remote payload : Bool) (key : Nat) : XAccess :=
  { write := write, remote := remote, key := key / 256, payload := payload }

/-! ### Bytes of translated pieces -/

/-- The bytes of the pieces: pool bytes as they are, the others from what memory outside the device returned. -/
def gather (s : State) (l : List Chunk) (given : List Byte) : List Byte :=
  (l.foldl (fun (m : List Byte × List Byte) c => match regionOf c.da with
    | .pool => (m.1 ++ viewBytes s c.da c.len, m.2)
    | _ => (m.1 ++ (m.2.take c.len ++ List.replicate (c.len - m.2.length) 0), m.2.drop c.len)) ([], given)).1

/-- A read of the pieces returns poison from the pool. -/
def gatherBad (s : State) (l : List Chunk) : Bool :=
  l.any (fun c => match regionOf c.da with | .pool => viewBad s c.da c.len | _ => false)

/-- The pieces have a part outside the pool. -/
def outside (l : List Chunk) : Bool := l.any (fun c => match regionOf c.da with | .pool => false | _ => true)

/-- Bytes written to the pieces at once; outside the pool they leave as `out` says. -/
def scatterBy (out : Nat → Nat → List Byte → Emit) (s : State) (l : List Chunk) (b : List Byte) (bad : Bool) : State :=
  (l.foldl (fun (m : State × List Byte) c => match regionOf c.da with
    | .pool => (directWrite m.1 c.da (m.2.take c.len) bad, m.2.drop c.len)
    | .host a h => (m.1.emit (out a h (m.2.take c.len)), m.2.drop c.len)
    | .device a h => (m.1.emit (out a h (m.2.take c.len)), m.2.drop c.len)
    | .nowhere => (m.1, m.2.drop c.len)) (s, b)).1

/-- Bytes written by a structure of the device. -/
def scatter (s : State) (l : List Chunk) (b : List Byte) (bad : Bool) : State := scatterBy .memWrite s l b bad

/-- The payload of a received packet written: to host memory it leaves by core port 96+h of the host macro (R30). -/
def scatterPayload (s : State) (l : List Chunk) (b : List Byte) : State :=
  scatterBy (fun a h x => .hostPayload (96 + a / 4) a h x) s l b false

/-- The reads of the pieces that go outside the pool, emitted. -/
def askOutside (s : State) (l : List Chunk) : State :=
  l.foldl (fun t c => match regionOf c.da with
    | .host a h => t.emit (.memRead a h c.len)
    | .device a h => t.emit (.memRead a h c.len)
    | _ => t) s

/-- The part of a fragment list that holds bytes `off` to `off + n − 1` of its data (R283). -/
def fragPart : List Frag → Nat → Nat → List Frag
  | [], _, _ => []
  | f :: l, off, n =>
    if n = 0 then []
    else if f.len ≤ off then fragPart l (off - f.len) n
    else { f with addr := f.addr + off, len := Nat.min n (f.len - off) } :: fragPart l 0 (n - Nat.min n (f.len - off))

/-- Fragments checked under their keys and translated, for function `f` (R378, R396): the pieces, a key failure (`none`
inside `ok`), a fault, or a wait. -/
inductive FragRes | ok (l : List Chunk) | badKey | fault | wait
  deriving DecidableEq, Repr

/-- The pieces of fragments, in order. -/
def fragChunks (s : State) (f right : Nat) (x : Nat → XAccess) : List Frag → List Chunk → FragRes × State
  | [], acc => (.ok acc, s)
  | g :: l, acc =>
    if g.len = 0 then fragChunks s f right x l acc
    else match keyCheck s f g.lkey g.addr g.len right with
      | (.bad, s) => (.badKey, s)
      | (.wait, s) => (.wait, s)
      | (.ok va, s) => match xlate s f va g.len (x g.lkey) with
        | (.ok c, s) => fragChunks s f right x l (acc ++ c)
        | (.fault, s) => (.fault, s)
        | (.wait, s) => (.wait, s)

/-! ### Speculative accesses (R394) -/

/-- A speculative access that would fault: dropped and counted, with no record and no event. -/
def specDrop (s : State) (f : Nat) : State := cntCM (s.bump xlBase Reg.Xl.SPEC_DROP_CNT) .compass 0x106 1 none (some f)

/-- A speculative translation of `a`, beside the counts of demand accesses: kept in the TLB, dropped, or a walk of its own.
Of an address that the TLB holds or a walk is under way for, there is none to make. -/
def specXlate (s : State) (f : Nat) (x : XAccess) (a : Nat) : State :=
  if unitOff s .compass || (tlbFind s f a).isSome || s.xl.walks.any (fun w => w.fn == f && w.va == a && w.acc == x) then s
  else match walk s (xlCtx s f) [] f a x with
    | .fault _ => specDrop s f
    | .hit e => if (permFault e x a (e.ipa + (a - e.va))).isSome then specDrop s f else tlbAdd s { e with fresh := false }
    | .need _ _ => { s with xl := { s.xl with walks := s.xl.walks ++
        [{ fn := f, va := a, acc := x, ctx := xlCtx s f, spec := true, since := s.now, got := [], failed := none }] } }

/-- The stage-1 address that the key cache gives an access, which must pass (R378). -/
def keyKnown (s : State) (f key a n right : Nat) : Option Nat :=
  match keyCheck s f key a n right with
  | (.ok va, _) => some va
  | _ => none

/-- What a transfer does speculatively as an access of it ends at position `off` of its fragments: the engine reads ahead for
the packet to come, and Compass translates the page after that while SPEC_EN is 1 (notes/assumptions/38.md). -/
def specAhead (s : State) (f right : Nat) (x : Nat → XAccess) (l : List Frag) (off : Nat) : State :=
  match (fragPart l off (2 ^ 64)).find? (fun g => g.len != 0) with
  | none => s
  | some g => match keyKnown s f g.lkey g.addr g.len right with
    | none => s
    | some va =>
      let s := specXlate s f (x g.lkey) va
      match tlbFind s f va with
      | some e =>
        let next := e.va + 2 ^ e.log
        if s.on xlBase Reg.Xl.XL_CFG_SPEC_EN && next < va + g.len then specXlate s f (x g.lkey) next else s
      | none => s

/-- The access tags of everything under way: requests at the homes and unread answers, reads and writes of channels,
collectives and tunnel frames (R379, R399). -/
def liveTags (s : State) : List XTag :=
  let ofReqs := fun (l : List HomeReq) => l.filterMap (·.tag)
  let ofChunks := fun (l : List Chunk) => l.map (·.tag)
  s.mesh.slices.flatMap (fun kv => ofReqs kv.2.ing) ++
  s.mesh.busy.flatMap (fun kv => ofReqs (kv.2.req.toList ++ kv.2.queue)) ++ ofReqs s.mesh.cmps ++
  s.tp.chans.flatMap (fun kv => (match kv.2.reading with | some (_, _, l) => ofChunks l | none => []) ++
    kv.2.rsps.flatMap (fun r => ofChunks r.chunks)) ++
  s.wq.tuns.flatMap (fun j => match j.reading with | some (_, l) => ofChunks l | none => []) ++
  s.coll.slots.flatMap (fun kv => kv.2.contribs.flatMap (fun k => match k.reading with
    | some (_, l, _) => ofChunks l
    | none => []))

/-! ### Stored keys (R379, R380) -/

/-- The table entry of a key can be accessed: it lies in HBM whose stack stands (R377). -/
def keyPlace (s : State) (i : Nat) : Bool :=
  let a := keyTable s + 32 * i
  isHbm (extentOf a) && ((s.ext (extentOf a)).map (fun x => x.owner != .failed)).getD false && regionOf a == .pool

/-- The stored entry of a key, when its read succeeds (R380). -/
def keyStored (s : State) (i : Nat) : Option KeyEnt :=
  let a := keyTable s + 32 * i
  if !(keyPlace s i) || viewBad s a 32 then none else some (KeyEnt.ofBytes (viewBytes s a 32))

/-- A key entry stored; no cached copy of the old one stays (R379). -/
def keyStore (s : State) (i : Nat) (k : KeyEnt) : State :=
  let s := directWrite s (keyTable s + 32 * i) k.toBytes false
  { s with xl := { s.xl with keys := del s.xl.keys i, keyBad := s.xl.keyBad.erase i } }

/-- Every key in the function's range freed (R379). -/
def freeKeys (s : State) (f : Nat) : State :=
  (List.range (s.rdi xlBase Reg.FnXl.KEY_COUNT f)).foldl (fun t n =>
    let i := s.rdi xlBase Reg.FnXl.KEY_FIRST f + n
    match keyStored t i with
    | some k => if k.valid && k.owner == f then keyStore t i { k with valid := false } else t
    | none => t) s

end Sys2Proof.Machine
end

