-- ==== Sys2Proof/Machine/MeshOps.lean ====
section
/-!
DEFINITION. The memory mesh as its users see it (R463, R464, R493): requests put at the home slices, reads that gather
their lines, writes that wait for their Cmp.
-/
namespace Sys2Proof.Machine

/-- What a home slice keeps. -/
def State.slice (s : State) (i : Nat) : SliceSt := lookD s.mesh.slices i SliceSt.init

/-- The slice changed. -/
def State.setSlice (s : State) (i : Nat) (x : SliceSt) : State :=
  { s with mesh := { s.mesh with slices := put s.mesh.slices i x } }

/-- SLICE_MODE of a slice: 0 service, 1 careful, 2 entering careful, 3 draining to service (R501). -/
def sliceMode (s : State) (i : Nat) : Nat := s.rd (sliceBase i) Reg.Slc.SLICE_MODE

/-- A request that careful mode does not serve: host requests, RdNoAlloc and WrNoAlloc (R482). -/
def HomeReq.holds (q : HomeReq) : Bool :=
  match q.asker with
  | .agent a => a < 64 || q.kind == .rdNoAlloc || q.kind == .wrNoAlloc
  | _ => true

/-- HELD: requests held under R482. -/
def showHeld (s : State) (i : Nat) : State :=
  s.wr (sliceBase i) Reg.Slc.HELD (if sliceMode s i = 0 then 0 else ((s.slice i).ing.filter HomeReq.holds).length)

/-- A request delivered to the ingress of its line's home (R474, R475). -/
def askHome (s : State) (q : HomeReq) : State :=
  let i := sliceOf (64 * q.line)
  let x := s.slice i
  let q := { q with since := s.now, held := q.holds && sliceMode s i != 0 }
  showHeld (s.setSlice i { x with ing := x.ing ++ [q] }) i

/-- The pieces of an access that lie in the pool, cut into lines: piece, line, offset, position in the data, length. -/
def poolLines (l : List Chunk) : List (Chunk × Nat × Nat × Nat × Nat) :=
  (l.foldl (fun (m : List (Chunk × Nat × Nat × Nat × Nat) × Nat) c =>
    (match regionOf c.da with
     | .pool => m.1 ++ (cutLines c.da c.len).map (fun (x, o, p, n) => (c, x, o, m.2 + p, n))
     | _ => m.1, m.2 + c.len)) ([], 0)).1

/-- A write to host memory or a device behind attachment `a`; payload of a packet leaves by core port 96+h of its host macro
(R30). -/
def toHost (who : Asker) (a addr : Nat) (b : List Byte) : Emit :=
  match who with
  | .payload .. => .hostPayload (96 + a / 4) a addr b
  | .agent _ | .coll _ | .att .. | .none => .memWrite a addr b

/-- A payload write: one WrNoAlloc per line of the pool, and the rest to host memory or a device at once. The number of
Cmps to come, and the state (R463, R493). -/
def meshWrite (s : State) (who : Asker) (group : Nat) (l : List Chunk) (b : List Byte) (bad : Bool) : Nat × State :=
  let lines := poolLines l
  let s := lines.foldl (fun t (c, x, o, p, n) => askHome t
    { kind := .wrNoAlloc, asker := who, line := x, off := o, bytes := (b.drop p).take n, bad := bad, group := group, seg := p,
      tag := some c.tag, since := 0, held := false }) s
  let s := (l.foldl (fun (m : State × Nat) c => match regionOf c.da with
    | .host a h => (m.1.emit (toHost who a h ((b.drop m.2).take c.len)), m.2 + c.len)
    | .device a h => (m.1.emit (toHost who a h ((b.drop m.2).take c.len)), m.2 + c.len)
    | _ => (m.1, m.2 + c.len)) (s, 0)).1
  (lines.length, s)

/-- A payload read: one RdNoAlloc per line of the pool, and the rest asked of host memory or a device. Its number, and
the state. `seg` is the byte position in the data. -/
def meshRead (s : State) (who : Nat → Asker) (group : Nat) (l : List Chunk) : Nat × State :=
  let id := s.mesh.nextId
  let lines := poolLines l
  let s := { s with mesh := { s.mesh with
    nextId := id + 1, reads := put s.mesh.reads id { lines := lines.length, got := [], bad := false } } }
  let s := lines.foldl (fun t (c, x, o, p, n) => askHome t
    { kind := .rdNoAlloc, asker := who id, line := x, off := o, bytes := List.replicate n 0, bad := false,
      group := group, seg := p, tag := some c.tag, since := 0, held := false }) s
  (id, askOutside s l)

/-- The answer of a home to one line of a read. -/
def readAnswered (s : State) (id : Nat) (q : HomeReq) (line : List Byte) (bad : Bool) : State :=
  match look s.mesh.reads id with
  | none => s
  | some r =>
    let r := { r with got := put r.got q.seg ((line.drop q.off).take q.bytes.length), bad := r.bad || bad }
    { s with mesh := { s.mesh with reads := put s.mesh.reads id r } }

/-- Every line of the read has been answered. -/
def readDone (s : State) (id : Nat) : Bool :=
  match look s.mesh.reads id with
  | some r => r.got.length == r.lines
  | none => true

/-- The data of a read: pool bytes as answered, the others as given; and whether poison came with it. -/
def readData (s : State) (id : Nat) (l : List Chunk) (given : List Byte) : List Byte × Bool :=
  let r := lookD s.mesh.reads id { lines := 0, got := [], bad := false }
  let pool := r.got.flatMap (fun kv => kv.2)
  ((l.foldl (fun (m : List Byte × List Byte × List Byte) c => match regionOf c.da with
    | .pool => (m.1 ++ m.2.1.take c.len, m.2.1.drop c.len, m.2.2)
    | _ => (m.1 ++ (m.2.2.take c.len ++ List.replicate (c.len - m.2.2.length) 0), m.2.1, m.2.2.drop c.len))
    ([], pool, given)).1, r.bad)

/-- A read forgotten, its late answers with it. -/
def endRead (s : State) (id : Nat) : State := { s with mesh := { s.mesh with reads := del s.mesh.reads id } }

/-! ### Attachments, and what downstream devices send (R426 to R428) -/

/-- What an attachment holds. -/
def State.att (s : State) (a : Nat) : AttSt := lookD s.atts a AttSt.init

/-- The attachment changed. -/
def State.setAtt (s : State) (a : Nat) (x : AttSt) : State := { s with atts := put s.atts a x }

/-- A record of streams 1 to 3, while a session holds the stream (R562). -/
def streamPut (s : State) (st : Nat) (r : StreamRec) : State :=
  if (look s.mg.streams st).isSome then { s with mg := { s.mg with recs := upd s.mg.recs st [] (fun l => l ++ [r]) } } else s

/-- The message code of a message, or the data of an MSI (R562): the codes of PCIe 6.0. -/
def msgWord : DownMsg → Nat
  | .msi _ d => d.toNat
  | .intx l up => (if up then 0x20 else 0x24) + l.val
  | .pme => 0x18
  | .err k => if k.val = 0 then 0x30 else if k.val = 1 then 0x31 else 0x33

/-- INTx of a device behind vPPB `v`, which is device `v` of its bus, as the switch passes it on (R426, PCIe 6.0). -/
def swizzled (v : Nat) : DownMsg → DownMsg
  | .intx l on => .intx (idx 3 ((l.val + v) % 4)) on
  | m => m

/-- A message of a downstream device goes to its host, or to the DEVMSG stream for an owned one (R426, R428). -/
def passMessage (s : State) (a : Nat) (m : DownMsg) : State :=
  if s.on (attBase a) Reg.Att.ATT_CFG_OWNED then
    let q := (s.mg.dseq + 1) % 2 ^ 32
    streamPut { s with mg := { s.mg with dseq := q } } 3
      (.event { code := 0x5A, seq := q, time := s.timebase, detail := [a, msgWord m, 0, 0] })
  else s.emit (.forwarded a (swizzled (s.rd (attBase a) Reg.Att.BIND_VPPB) m))

/-- Messages whose earlier writes are all visible leave, in order (R427). -/
def pumpMsgs (s : State) (a : Nat) : State :=
  let x := s.att a
  let go := x.msgs.takeWhile (fun m => x.wout.all (fun w => m.1 < w))
  go.foldl (fun t m => passMessage t a m.2) (s.setAtt a { x with msgs := x.msgs.drop go.length })

/-- A Cmp for a device's write. -/
def devWritten (s : State) (a id : Nat) : State :=
  let x := s.att a
  pumpMsgs (s.setAtt a { x with wout := x.wout.erase id }) a

/-- A device's read whose lines are all in is answered. -/
def devReadDone (s : State) (a id : Nat) : State :=
  let x := s.att a
  match x.reads.find? (fun r => r.1 == id), look s.mesh.reads id with
  | some r, some k =>
    if readDone s id then
      (endRead (s.setAtt a { x with reads := x.reads.erase r }) id).emit (.deviceDone a r.2 (.data (k.got.flatMap (fun kv => kv.2)) k.bad))
    else s
  | _, _ => s

/-- A device's access to the pool, cut into lines (R427, R428): reads are answered when all their lines are in, writes
count until each line's Cmp. -/
def devPool (s : State) (a da : Nat) (q : DevReq) : State :=
  let x := s.att a
  let ask := fun (t : State) (k : HomeKind) (id : Nat) (bytes : List Byte) (bad : Bool) (n : Nat) =>
    (cutLines da n).foldl (fun t (l, o, p, m) => askHome t
      { kind := k, asker := .att a id, line := l, off := o,
        bytes := if k = HomeKind.wrNoAlloc then (bytes.drop p).take m else List.replicate m 0, bad := bad, group := 2,
        seg := p, tag := none, since := 0, held := false }) t
  match q with
  | .write bytes poison =>
    let id := x.wseq + 1
    ask (s.setAtt a { x with wseq := id, wout := x.wout ++ List.replicate (cutLines da bytes.length).length id }) .wrNoAlloc id bytes poison
      bytes.length
  | .read tag n =>
    let id := s.mesh.nextId
    let s := { s with mesh := { s.mesh with
      nextId := id + 1, reads := put s.mesh.reads id { lines := (cutLines da n.toNat).length, got := [], bad := false } } }
    ask (s.setAtt a { x with reads := x.reads ++ [(id, tag.toNat)] }) .rdNoAlloc id [] false n.toNat

end Sys2Proof.Machine
end

