-- ==== Sys2Proof/Machine/TrailOps.lean ====
section
/-!
DEFINITION. Trail (R535 to R538 of spec/16_performance_counters.md): which items are sampled, the instants they pass,
and how they end.
-/
namespace Sys2Proof.Machine

/-- Window of the Gazetteer. -/
def gzBase : Nat := base .gazetteer

/-- The Gazetteer's and Trail's state changed. -/
def State.setGz (s : State) (x : GzSt) : State := { s with gz := x }

/-- TR_CFG selects this kind of item of this function (R535). -/
def trailSelects (s : State) (recv : Bool) (f : Nat) : Bool :=
  s.on gzBase Reg.Gz.TR_CFG_EN && s.on gzBase (if recv then Reg.Gz.TR_CFG_RECV else Reg.Gz.TR_CFG_SEND) &&
  (!(s.on gzBase Reg.Gz.TR_CFG_FUNC_EN) || s.rd gzBase Reg.Gz.TR_CFG_FUNC == f)

/-- A countdown reloaded with TR_PERIOD − 1 + r, r an open value from 0 to TR_JITTER (R535). -/
def trailReload (s : State) (e : Nat) : State :=
  let r := s.drawn 20 % (s.rd gzBase Reg.Gz.TR_JITTER + 1)
  s.spend.setGz { s.gz with count := put s.gz.count e (s.rd gzBase Reg.Gz.TR_PERIOD - 1 + r) }

/-- An item meets its engine's countdown; the one that brings it to 0 is sampled, unless 16 are followed (R535). -/
def trailStart (s : State) (x : TrailItem) : State :=
  let recv := match x.key with | .recv _ _ => true | .send _ _ => false
  if unitOff s .gazetteer || !(trailSelects s recv x.fn) then s
  else
    let c := lookD s.gz.count x.engine 0
    if 1 < c then s.setGz { s.gz with count := put s.gz.count x.engine (c - 1) }
    else
      let s := trailReload s x.engine
      if 16 ≤ (s.gz.items.filter (fun y => y.engine == x.engine && !y.ended)).length then s.bump gzBase Reg.Gz.TR_SKIP
      else s.setGz { s.gz with items := s.gz.items ++ [x] }

/-- The item followed under this key changed. -/
def trailUpd (s : State) (k : TrailKey) (g : TrailItem → TrailItem) : State :=
  s.setGz { s.gz with items := s.gz.items.map (fun x => if x.key == k && !x.ended then g x else x) }

/-- The instant `i` noted, the first time it is passed. -/
def TrailItem.mark (x : TrailItem) (i now : Nat) : TrailItem :=
  { x with t := (List.range 5).map (fun j => if j = i then some (((x.t[j]?).getD none).getD now) else (x.t[j]?).getD none) }

/-- The item passes instant `i` (R537). -/
def trailMark (s : State) (k : TrailKey) (i : Nat) : State := trailUpd s k (fun x => x.mark i s.timebase)

/-- The item's first address has its device address from its translation (R536). -/
def trailDa (s : State) (k : TrailKey) : State :=
  trailUpd s k (fun x => if x.da = 0 ∧ x.va ≠ 0 then
      { x with da := match tlbFind s x.fn x.va with | some e => e.da + (x.va - e.va) | none => 0 } else x)

/-- The item ends with this status: its last phase begun ends with it (R537). -/
def trailEnd (s : State) (k : TrailKey) (status : Nat) : State :=
  trailUpd s k (fun x =>
    let n := ((List.range 5).filter (fun i => ((x.t[i]?).getD none).isSome)).foldl Nat.max 0
    { x.mark (n + 1) s.timebase with status := status, ended := true })

/-- Every item that `p` names ends with this status. -/
def trailEndAll (s : State) (p : TrailItem → Bool) (status : Nat) : State :=
  (s.gz.items.filter (fun x => !x.ended && p x)).foldl (fun t x => trailEnd t x.key status) s

/-- The receive items of a channel that an ACK covers end (R536, R537). -/
def trailAcked (s : State) (ch rcvNxt : Nat) (score : List Nat) : State :=
  trailEndAll s (fun x => match x.key with
    | .recv c p => c == ch && (2 ^ 23 ≤ (p + 2 ^ 24 - rcvNxt) % 2 ^ 24 || score.contains p)
    | .send _ _ => false) 0

/-- The receive items of a channel end with it. -/
def trailChanEnds (s : State) (ch : Nat) : State :=
  trailEndAll s (fun x => match x.key with | .recv c _ => c == ch | .send _ _ => false) 0

/-- A send item as its entry arrives on die (R536). -/
def sendItem (s : State) (e g index fn : Nat) (b : List Byte) : TrailItem :=
  { engine := e, key := .send g index, opcode := leAt b 0 1, status := 0, ended := false, ch := bits (leAt b 4 4) 19 0,
    gen := 0, psn := 0, src := g, fn := fn, va := 0, da := 0, t := [some s.timebase] }

/-- A receive item as its packet passes R97 (R536). -/
def recvItem (s : State) (e fn : Nat) (p : Packet) : TrailItem :=
  { engine := e, key := .recv p.th.channel.toNat p.th.psn.toNat, opcode := p.th.top.toNat, status := 0, ended := false,
    ch := p.th.channel.toNat, gen := p.th.gen.toNat, psn := p.th.psn.toNat, src := p.rh.src.toNat, fn := fn,
    va := match p.th.words with
      | _ :: hi :: lo :: _ => if p.th.top = 0x01 ∨ p.th.top = 0x02 then 2 ^ 32 * hi.toNat + lo.toNat else 0
      | _ => 0
    da := 0, t := [some s.timebase] }

/-- Latency `i` of an item: between its two instants, saturating; 0 when the phase was not reached (R537). -/
def TrailItem.lat (x : TrailItem) (i : Nat) : Nat :=
  match (x.t[i]?).getD none, (x.t[i + 1]?).getD none with
  | some a, some b => Nat.min (b - a) 0xFFFFFFFF
  | _, _ => 0

/-- The 64-byte record of an item (R536). -/
def TrailItem.record (x : TrailItem) (seq : Nat) : List Byte :=
  let kind := match x.key with | .send _ _ => 1 | .recv _ _ => 2
  let index := match x.key with | .send _ i => i | .recv _ _ => 0
  let start := ((x.t[0]?).getD none).getD 0
  leBytes (kind + 2 ^ 8 * x.engine + 2 ^ 16 * x.opcode + 2 ^ 24 * x.status) 4 ++ leBytes seq 4 ++ leBytes start 8 ++
  leBytes (x.ch + 2 ^ 24 * x.gen) 4 ++ leBytes x.psn 4 ++ leBytes x.src 4 ++ leBytes index 4 ++ leBytes x.va 8 ++
  leBytes x.da 8 ++ leBytes (x.lat 0) 4 ++ leBytes (x.lat 1) 4 ++ leBytes (x.lat 2) 4 ++ leBytes (x.lat 3) 4

/-- A Trail record lost (R538). -/
def trailLost (s : State) (n : Nat) : State :=
  if n = 0 then s else (s.add gzBase Reg.Gz.TR_LOST n).setEvt gzBase Reg.Gz.GZ_EVENT 3

end Sys2Proof.Machine
end

