-- ==== Sys2Proof/Machine/QueueOps.lean ====
section
/-!
DEFINITION. Completion queues (R295 to R304): reservations, entries, their writes, index tests.
-/
namespace Sys2Proof.Machine

/-- Window of the function table (R307). -/
def fnTab : Nat := base (.cluster 0)

/-- A field of function `f`'s table entry. -/
def fnRd (s : State) (f : Nat) (x : Field) : Nat := s.rdi fnTab x f

/-- Global number of local CQ or WQ `i` of function `f` (R273). -/
def cqNo (s : State) (f i : Nat) : Nat := fnRd s f Reg.FnTab.FN_CQ_FIRST + i
/-- Global number of a local WQ. -/
def wqNo (s : State) (f i : Nat) : Nat := fnRd s f Reg.FnTab.FN_WQ_FIRST + i

/-- A created work queue or completion queue. -/
def State.wqAt (s : State) (g : Nat) : Option WqSt := look s.wq.wqs g
/-- A created completion queue. -/
def State.cqAt (s : State) (g : Nat) : Option CqSt := look s.wq.cqs g
/-- The work queue changed. -/
def State.setWq (s : State) (g : Nat) (x : WqSt) : State := { s with wq := { s.wq with wqs := put s.wq.wqs g x } }
/-- The completion queue changed. -/
def State.setCq (s : State) (g : Nat) (x : CqSt) : State := { s with wq := { s.wq with cqs := put s.wq.cqs g x } }

/-- Index registers of a queue (R309). -/
def wqPi (s : State) (x : WqSt) : Nat := s.rdi (bar2 x.fn) Reg.Bar2.WQ_PI x.idx
/-- WQ_CI. -/
def wqCi (s : State) (x : WqSt) : Nat := s.rdi (bar2 x.fn) Reg.Bar2.WQ_CI x.idx
/-- CQ_PI. -/
def cqPi (s : State) (x : CqSt) : Nat := s.rdi (bar2 x.fn) Reg.Bar2.CQ_PI x.idx
/-- CQ_CI. -/
def cqCi (s : State) (x : CqSt) : Nat := s.rdi (bar2 x.fn) Reg.Bar2.CQ_CI x.idx

/-- The test of R278: the new producer index `p` against the queue's indices. -/
def indexGood (p ci pi log : Nat) : Bool := ringDist p ci ≤ 2 ^ log && ringDist p pi ≤ 2 ^ log

/-- The test of R278 for a consumer index: `c` lies between the present one and the producer index. -/
def consumerGood (c ci pi log : Nat) : Bool := ringDist pi c ≤ 2 ^ log && ringDist c ci ≤ 2 ^ log

/-- The CQ has a slot that is neither filled nor reserved (R284). -/
def cqRoom (s : State) (x : CqSt) (n : Nat) : Bool :=
  ringDist (cqPi s x) (cqCi s x) + x.wait.length + x.reserved + n ≤ 2 ^ x.logSize

/-- `n` slots reserved. -/
def cqReserve (s : State) (g n : Nat) : State :=
  match s.cqAt g with
  | some x => s.setCq g { x with reserved := x.reserved + n }
  | none => s

/-- `n` reservations given back. -/
def cqRelease (s : State) (g n : Nat) : State :=
  match s.cqAt g with
  | some x => s.setCq g { x with reserved := x.reserved - n }
  | none => s

/-- Entries that wait are written at CQ_PI, in order, as far as their translations go (R284, R297). An entry that cannot
be written is passed over (R304). -/
def cqDrain (s : State) (g : Nat) : Nat → State
  | 0 => s
  | k + 1 => match s.cqAt g with
    | none => s
    | some x => match x.wait with
      | [] => s
      | (e, b) :: rest =>
        let pi := cqPi s x
        (match xlate s x.fn (x.ring + 32 * (pi % 2 ^ x.logSize)) 32 (accLocal true) with
         | (.wait, s) => s
         | (.ok l, s) =>
           let s := scatter s l b false
           cqDrain ((s.setCq g { x with wait := rest }).wri (bar2 x.fn) Reg.Bar2.CQ_PI x.idx (pi + 1)) g k
         | (.fault, s) =>
           let s := (s.setCq g { x with wait := rest }).wri (bar2 x.fn) Reg.Bar2.CQ_PI x.idx (pi + 1)
           let s := raiseEvent (s.bump (engBase e) Reg.Eng.CQ_FAULT_CNT) x.fn 0x22 [x.idx, pi, 0, 0]
           cqDrain s g k)

/-- A completion entry that takes its reserved slot (R284). -/
def cqPut (s : State) (g e : Nat) (b : List Byte) : State :=
  match s.cqAt g with
  | none => s
  | some x => cqDrain (s.setCq g { x with reserved := x.reserved - 1, wait := x.wait ++ [(e, b)] }) g (x.wait.length + 1)

/-- Every CQ whose entries wait for a translation tried again. -/
def drainAll (s : State) : State :=
  s.wq.cqs.foldl (fun t kv => if kv.2.wait.isEmpty then t else cqDrain t kv.1 kv.2.wait.length) s

/-- The 32 bytes of an event-queue entry (R302), little-endian. -/
def eqe (e : EvRecord) : List Byte :=
  leBytes (e.code % 256) 4 ++ leBytes e.seq 4 ++ leBytes e.time 8 ++ (List.range 4).flatMap (fun i => leBytes (e.detail[i]?.getD 0) 4)

/-- Waiting entries of a function's event queue written at EQ_PI, in order, as far as their translations go (R277, R302). One
that cannot be written is lost (R304). The queue interrupts as a CQ does (R300). -/
def eqDrain (s : State) (f : Nat) : Nat → State
  | 0 => s
  | k + 1 => match (s.fn f).eqWait with
    | [] => s
    | e :: rest =>
      let b := bar2 f
      let pi := s.rd b Reg.Bar2.EQ_PI
      let at_ := s.rd64 b Reg.Bar2.EQ_BASE_LO Reg.Bar2.EQ_BASE_HI + 32 * (pi % 2 ^ s.rd b Reg.Bar2.EQ_CFG_LOG_SIZE)
      let took := fun (t : State) => t.setFn f { t.fn f with eqWait := rest }
      match xlate s f at_ 32 (accLocal true) with
      | (.wait, s) => s
      | (.ok l, s) => eqDrain (eqFire ((took (scatter s l (eqe e) false)).wr b Reg.Bar2.EQ_PI (pi + 1)) f) f k
      | (.fault, s) => eqDrain ((took s).bump b Reg.Bar2.EQ_OVERFLOW) f k

/-- Every event queue written as far as it goes. -/
def eqDrainAll (s : State) : State :=
  s.fns.foldl (fun t kv => if kv.2.eqWait.isEmpty then t else eqDrain t kv.1 kv.2.eqWait.length) s

/-- The 32 bytes of a completion entry from its eight words (R295). -/
def cqe (w : List Nat) : List Byte := w.flatMap (fun x => leBytes x 4)

/-- Word 0 of a completion entry. -/
def cqeWord0 (status opcode : Nat) (recv ext : Bool) : Nat := status + 2 ^ 8 * opcode + 2 ^ 16 * b2n recv + 2 ^ 17 * b2n ext

/-- Completion statuses (R296, R339, R371). -/
def stSuccess : Nat := 0
def stBadEntry : Nat := 1
def stPrivDenied : Nat := 2
def stNotReady : Nat := 3
def stChannelClosed : Nat := 4
def stFlushed : Nat := 5
def stBadChannel : Nat := 6
def stLocalKey : Nat := 7
def stFragFault : Nat := 8
def stEntryFault : Nat := 9
def stPoisoned : Nat := 0x11
def stLocalWrite : Nat := 0x12

/-- A work entry completed (R284, R295, R298): written when it failed or asked for it, its reservation given back. `w6` is
word 0x18. -/
def completeWq (s : State) (g index userId : Nat) (signal : Bool) (opcode status channel gen w6 : Nat) : State :=
  match s.wqAt g with
  | none => s
  | some q =>
    let c := cqNo s q.fn q.cq
    let e := engineOf g q
    let s := trailUpd s (.send g index) (fun x => { x with ch := channel, gen := gen })
    let s := if status = 0 ∧ !signal then trailUpd s (.send g index) (fun x => { x with ended := true })
      else trailEnd s (.send g index) status
    let s := if status = 0 then s else s.bump (engBase e) Reg.Eng.ERR_COMPL_CNT
    if status = 0 ∧ !signal then cqRelease s c 1
    else cqPut s c e (cqe [cqeWord0 status opcode false false, q.idx, index, channel + 2 ^ 24 * gen, userId % 2 ^ 32,
      userId / 2 ^ 32, w6, s.timebase % 2 ^ 32])

end Sys2Proof.Machine
end

