-- ==== Sys2Proof/Machine/RoutingOps.lean ====
section
/-!
DEFINITION. Routing decisions (spec/06_routing.md, R182 to R202): the target entry, eligible candidates, the level
budget, costs and picks, the Ramble decision, and what a port's loss does to waiting heads.
-/
namespace Sys2Proof.Machine

/-! ### Addresses and Atlas entries -/

/-- Group of a device ID or of DST[23:8]. -/
def groupOfDev (d : Nat) : Nat := d / 32

/-- This device's group. -/
def myGroup (s : State) : Nat := groupOfDev (deviceId s)

/-- The version a packet is looked up in (R209). -/
def epochOf (h : RouteHdr) : Nat := b2n h.epoch

/-- Offset of an entry of a version (R224). -/
def entryBase (v : Nat) : AtlasEntry → Nat
  | .group g => atBase + 0x10000 + 0x10000 * v + 16 * g.val
  | .device d => atBase + 0x18000 + 0x10000 * v + 16 * d.val

/-- Slot `i`'s port and distance fields (R185). -/
def candFields (i : Nat) : Field × Field :=
  match i with
  | 0 => (Reg.AtlasEnt.CAND0, Reg.AtlasEnt.DIST0)
  | 1 => (Reg.AtlasEnt.CAND1, Reg.AtlasEnt.DIST1)
  | 2 => (Reg.AtlasEnt.CAND2, Reg.AtlasEnt.DIST2)
  | 3 => (Reg.AtlasEnt.CAND3, Reg.AtlasEnt.DIST3)
  | 4 => (Reg.AtlasEnt.CAND4, Reg.AtlasEnt.DIST4)
  | 5 => (Reg.AtlasEnt.CAND5, Reg.AtlasEnt.DIST5)
  | 6 => (Reg.AtlasEnt.CAND6, Reg.AtlasEnt.DIST6)
  | _ => (Reg.AtlasEnt.CAND7, Reg.AtlasEnt.DIST7)

/-- A candidate: its fabric port and its DIST. -/
structure Cand where
  port : Nat
  dist : Nat
  deriving DecidableEq, Repr

/-- The candidates of the entry at `b`, in slot order; an entry not VALID has none (R185, R190). -/
def candsAt (s : State) (b : Nat) : List Cand :=
  if s.on b Reg.AtlasEnt.VALID then
    ((List.range 8).map (fun i => { port := s.rd b (candFields i).1, dist := s.rd b (candFields i).2 : Cand })).filter
      (fun c => c.port ≤ 95)
  else []

/-- A target of R189: the entry, the version, and the tail T. -/
structure Target where
  v : Nat
  ent : AtlasEntry
  tail : Nat
  deriving DecidableEq, Repr

/-- What routing knows of the packet's way here: its departure level, the fabric port it arrived by, its input core
port. -/
structure Via where
  lvl : Nat
  arr : Option Nat
  inPort : Nat
  deriving DecidableEq, Repr

/-! ### Eligibility (R190, R191, R193) -/

/-- Bit `n` of a 96-bit mask held in three words. -/
def mask96 (s : State) (f : Field) (n : Nat) : Bool := bitOf (s.rdi atBase f (n / 32)) (n % 32)

/-- Bit `n` of a 96-bit mask set or cleared. -/
def setMask96 (s : State) (f : Field) (n : Nat) (b : Bool) : State :=
  let w := s.rdi atBase f (n / 32)
  s.wri atBase f (n / 32) (if b then setBit w (n % 32) else clrBit w (n % 32))

/-- PORT_CFG.ROLE of a port: 1 LOCAL, 2 GLOBAL. -/
def roleOf (s : State) (n : Nat) : Nat := s.rd (portBase n) Reg.Port.PORT_CFG_ROLE

/-- PEER.DEVICE of a port. -/
def peerDev (s : State) (n : Nat) : Nat := s.rd (portBase n) Reg.Port.PEER_DEVICE

/-- The peer check (R191). -/
def peerGood (s : State) (t : Target) (c : Cand) : Bool :=
  s.on (portBase c.port) Reg.Port.PEER_VALID &&
  (if roleOf s c.port = 1 then groupOfDev (peerDev s c.port) == myGroup s
   else groupOfDev (peerDev s c.port) != myGroup s) &&
  (c.dist != 0 ||
    (match t.ent with
     | .group g => groupOfDev (peerDev s c.port) == g.val
     | .device d => peerDev s c.port == 32 * myGroup s + d.val))

/-- The role makes the port a candidate (R182, R190). -/
def roleGood (s : State) (n : Nat) : Bool := roleOf s n == 1 || roleOf s n == 2

/-- Everything R190 asks of a candidate but the level budget. -/
def eligibleButBudget (s : State) (t : Target) (cls : Nat) (w : Via) (c : Cand) : Bool :=
  !(mask96 s Reg.Atlas.PORT_DEAD c.port) && !(mask96 s Reg.Atlas.PORT_AVOID c.port) && roleGood s c.port &&
  peerGood s t c && w.arr != some c.port && !(tileLost s w.inPort c.port) &&
  !(cls == clsL0 && s.rd (portBase c.port) Reg.Port.PORT_STATE_STATE == stRetrain)

/-- The candidate fits the level budget (R193); only REQ and RSP packets have one. -/
def fitsBudget (t : Target) (cls : Nat) (w : Via) (c : Cand) : Bool :=
  !(cls == clsReq || cls == clsRsp) || w.lvl + c.dist + t.tail ≤ 5

/-- The stored word at this offset has an uncorrectable error (R188). -/
def uncorrectable (s : State) (off : Nat) : Bool := look s.route.damaged off == some false

/-- The candidates of a target's entry; an entry with an uncorrectable error counts as invalid (R188). -/
def targetCands (s : State) (t : Target) : List Cand :=
  if uncorrectable s (entryBase t.v t.ent) then [] else candsAt s (entryBase t.v t.ent)

/-- The eligible candidates (R190), in slot order. -/
def eligible (s : State) (t : Target) (cls : Nat) (w : Via) : List Cand :=
  (targetCands s t).filter (fun c => eligibleButBudget s t cls w c && fitsBudget t cls w c)

/-- Peer checks that fail are counted, set MISMATCH and are recorded as misdelivery (R191, R596, R603; notes/assumptions/80.md). -/
def countMismatch (s : State) (t : Target) : State :=
  ((targetCands s t).filter (fun c => roleGood s c.port && !(peerGood s t c))).foldl (fun s c =>
    recordError ((s.bump atBase Reg.Atlas.MISMATCH_CNT).setEvt atBase Reg.Atlas.ATLAS_EVENT 2)
      (ErrRec.contained .atlas .misdelivery 1 c.port)) s

/-- The Atlas table that a setup-space offset lies in (0 the group tables, 1 the device tables, 2 the Waypoint tables), and the
entry's index there (R225). -/
def atlasPlace (off : Nat) : Nat × Nat :=
  let o := (off - atBase - 0x10000) % 0x10000
  if o < 0x8000 then (0, o / 16) else if o < 0x9000 then (1, (o - 0x8000) / 16) else (2, (o - 0x9000) / 4)

/-- What the ECC of the word looked up at this offset finds: a single-bit error is corrected and counted, an uncorrectable one
sets ENTRY_ECC and is reported (R188). -/
def eccLookup (s : State) (off : Nat) : State :=
  match look s.route.damaged off with
  | none => s
  | some true => recordError (s.bump atBase Reg.Atlas.ECC_CORR_CNT) (ErrRec.ecc .atlas true (atlasPlace off).1 off)
  | some false => recordError (s.setEvt atBase Reg.Atlas.ATLAS_EVENT 8) (ErrRec.ecc .atlas false (atlasPlace off).1 off)

/-- The counts and reports of one lookup of a target's entry (R188, R191). -/
def noteLookup (s : State) (t : Target) : State := countMismatch (eccLookup s (entryBase t.v t.ent)) t

/-- The smallest DIST of a list of candidates. -/
def minDist : List Cand → Nat
  | [] => 0
  | c :: cs => cs.foldl (fun m x => Nat.min m x.dist) c.dist

/-- The least-DIST set (R192), in slot order. -/
def leastDist (l : List Cand) : List Cand := l.filter (fun c => c.dist == minDist l)

/-! ### Picks and costs (R195 to R197) -/

/-- The index of a flow pick among `n` (R195). -/
def flowIndex (s : State) (hash n : Nat) : Nat :=
  ((hash ^^^ s.rd atBase Reg.Atlas.ROUTE_SALT) * 0x9E37 % 65536) * n / 65536

/-- The flow pick of a set (R195). -/
def flowPick (s : State) (hash : Nat) (l : List Cand) : Option Cand := l[flowIndex s hash l.length]?

/-- A number of flits held exactly, as numerator and binary exponent. -/
abbrev Dyadic := Nat × Nat

/-- `a < b`. -/
def Dyadic.lt (a b : Dyadic) : Bool := a.1 * 2 ^ b.2 < b.1 * 2 ^ a.2

/-- A dyadic number times a whole number, plus a whole number. -/
def Dyadic.mulAdd (a : Dyadic) (m c : Nat) : Dyadic := (a.1 * m + c * 2 ^ a.2, a.2)

/-- The sample S of port `n`: LL_BACKLOG and the depths of its lossy queues (R197). -/
def congSample (s : State) (n : Nat) : Nat := llBacklog s n + depthOf s (3 * n) + depthOf s (3 * n + 1) + depthOf s (3 * n + 2)

/-- E(n), or the value it is held at while it is seeded (R197). -/
def congEst (s : State) (n : Nat) : Dyadic :=
  if (look s.route.warmAt n).isSome then (Nat.max (s.rd atBase Reg.Atlas.WARMUP_FLITS) (congSample s n), 0)
  else lookD s.route.est n (0, 0)

/-- E × 4 ÷ w of a port: the width code is 0 for four lanes, 1 for two, 2 for one (R148, R196). -/
def estPerWidth (s : State) (n : Nat) : Dyadic :=
  Dyadic.mulAdd (congEst s n) (2 ^ s.rd (portBase n) Reg.Port.PORT_STATE_WIDTH) 0

/-- The cost of a candidate (R196). -/
def costOfCand (s : State) (c : Cand) : Dyadic :=
  Dyadic.mulAdd (estPerWidth s c.port) 1 (c.dist * s.rd atBase Reg.Atlas.DIST_PENALTY)

/-- The candidates of lowest cost, in slot order. -/
def cheapest (s : State) (l : List Cand) : List Cand :=
  l.filter (fun c => l.all (fun d => !(Dyadic.lt (costOfCand s d) (costOfCand s c))))

/-- The lowest-cost candidate; among equals the flow pick with a fresh random value in place of FLOWHASH (R196). -/
def pickCheapest (s : State) (l : List Cand) : Option Cand × State :=
  match cheapest s l with
  | [] => (none, s)
  | [c] => (some c, s)
  | m => (flowPick s (s.drawn 16) m, s.spend)

/-! ### The target (R189 cases 5 to 8) -/

/-- DST's group. -/
def dstGroup (h : RouteHdr) : Nat := groupOfDev (h.dst.toNat / 256)

/-- A group-table target. -/
def groupTarget (s : State) (h : RouteHdr) (g : Nat) (wp : Bool) : Target :=
  { v := epochOf h, ent := .group (idx 2047 g),
    tail := s.rd atBase (if wp then Reg.Atlas.ATLAS_CFG_TAIL_WP else Reg.Atlas.ATLAS_CFG_TAIL_MIN) }

/-- MODE is ADAPT_FULL or FIXED_WAYPOINT: 0 DIRECT, 1 ADAPT_MIN, 2 ADAPT_FULL, 3 FIXED_WAYPOINT. -/
def rambling (h : RouteHdr) : Bool := h.mode.toNat == 2 || h.mode.toNat == 3

/-- Cases 5 to 8 of R189: the header with the WAYPT it leaves with, and the target. -/
def targetOf (s : State) (h : RouteHdr) : RouteHdr × Target :=
  let dg := dstGroup h
  let ended := { h with waypt := BitVec.ofNat 11 dg }
  if dg = myGroup s then
    (if rambling h then ended else h,
     { v := epochOf h, ent := .device (idx 31 (h.dst.toNat / 256 % 32)), tail := 0 })
  else
    let h := if rambling h ∧ h.waypt.toNat = myGroup s then ended else h
    if rambling h ∧ h.waypt.toNat ≠ dg then (h, groupTarget s h h.waypt.toNat true)
    else (h, groupTarget s h dg false)

/-! ### The Ramble decision (R199) -/

/-- Offset of Waypoint entry `i` of version `v` (R224). -/
def waypointAt (v i : Nat) : Nat := atBase + 0x10000 * v + 4 * i + Reg.Atlas.WAYPOINT_ENTRY.off

/-- Waypoint entry `i` (GROUP in [10:0], VALID in [31], R187): its group, when it is valid and neither this device's nor the
destination's. -/
def waypointDraw (s : State) (h : RouteHdr) (i : Nat) : Option Nat :=
  let x := s.rd (atBase + 0x10000 * epochOf h + 4 * i) Reg.Atlas.WAYPOINT_ENTRY
  let g := x % 2048
  if bitOf x 31 && !(uncorrectable s (waypointAt (epochOf h) i)) && g != myGroup s && g != dstGroup h then some g else none

/-- The minimal target (R199): that of the header with its Waypoint at the destination group (R189 cases 5 and 8). -/
def minimalTarget (s : State) (h : RouteHdr) : Target := (targetOf s { h with waypt := BitVec.ofNat 11 (dstGroup h) }).2

/-- The lowest-cost candidate within a target's least-DIST set, with Q × H: E × 4 ÷ w times 1 + DIST + T (R199). -/
def pathOf (s : State) (t : Target) (cls : Nat) (w : Via) : Option (Cand × Dyadic) × State :=
  let r := pickCheapest (noteLookup s t) (leastDist (eligible s t cls w))
  (r.1.map (fun c => (c, Dyadic.mulAdd (estPerWidth s c.port) (1 + c.dist + t.tail) 0)), r.2)

/-- The outcome of a Ramble decision: a Waypoint group with the candidate found for it, or the minimal path. -/
inductive Ramble | waypoint (g : Nat) (c : Cand) | minimal
  deriving DecidableEq, Repr

/-- WP_N of a version. -/
def wpN (s : State) (v : Nat) : Nat := s.rd (atBase + 0x10000 * v) Reg.Atlas.WP_N

/-- Two draws, the better path of those that remain, and its comparison with the minimal path (R199). -/
def rambleDecision (s : State) (h : RouteHdr) (cls : Nat) (w : Via) : Ramble × State :=
  let n := wpN s (epochOf h)
  if n = 0 then (.minimal, s)
  else
    let i := s.drawn 16 % n
    let s := s.spend
    let j := s.drawn 16 % n
    let s := s.spend
    let path := fun (s : State) (i : Nat) => match waypointDraw s h i with
      | none => (none, eccLookup s (waypointAt (epochOf h) i))
      | some g =>
        let r := pathOf (eccLookup s (waypointAt (epochOf h) i)) (groupTarget s h g true) cls w
        (r.1.map (fun x => (g, x)), r.2)
    let r1 := path s i
    let r2 := path r1.2 j
    let best := match r1.1, r2.1 with
      | some a, some b => some (if Dyadic.lt b.2.2 a.2.2 then b else a)
      | some a, none => some a
      | none, b => b
    let m := pathOf r2.2 (minimalTarget s h) cls w
    match best, m.1 with
    | some b, some x =>
      if Dyadic.lt (Dyadic.mulAdd b.2.2 1 (s.rd atBase Reg.Atlas.RAMBLE_BIAS)) x.2 then
        (.waypoint b.1 b.2.1, cnt1 (m.2.bump atBase Reg.Atlas.RAMBLE_CNT) .atlas 0x101)
      else (.minimal, m.2)
    | some b, none => (.waypoint b.1 b.2.1, cnt1 (m.2.bump atBase Reg.Atlas.RAMBLE_CNT) .atlas 0x101)
    | none, _ => (.minimal, m.2)

/-! ### Choosing a port (R194, R201) -/

/-- What routing makes of a packet: a fabric port with the header it leaves with, no route, or no candidate within the
budget. -/
inductive Choice | port (n : Nat) (h : RouteHdr) | noRoute | noBudget
  deriving DecidableEq, Repr

/-- The class and mode table of R194 over the eligible candidates of a target. -/
def selectCand (s : State) (h : RouteHdr) (l : List Cand) : Option Cand × State :=
  let cls := h.vclass.toNat
  if cls = clsFmgt ∨ h.mode.toNat = 0 then (l.head?, s)
  else if cls = clsL0 then pickCheapest s l
  else (flowPick s h.flowhash.toNat (leastDist l), s)

/-- A packet without an eligible candidate (R201): a REQ or RSP packet in ADAPT_FULL still on its minimal path, at a
device of its source's group, may yet Ramble; the others have no route, or none within the budget. -/
def withoutRoute (s : State) (h : RouteHdr) (t : Target) (w : Via) : Choice × State :=
  let cls := h.vclass.toNat
  let lossl := cls == clsReq || cls == clsRsp
  let fail := if lossl && (targetCands s t).any (eligibleButBudget s t cls w) then Choice.noBudget else Choice.noRoute
  if lossl && h.mode.toNat == 2 && h.waypt.toNat == dstGroup h && groupOfDev (h.src.toNat / 256) == myGroup s then
    let r := rambleDecision s h cls w
    match r.1 with
    | .waypoint g c => (.port c.port { h with waypt := BitVec.ofNat 11 g }, r.2)
    | .minimal => (fail, r.2)
  else (fail, s)

/-- WAYPT as the injecting device writes it (R194): 0 in DIRECT and ADAPT_MIN, the destination's group for L1 and L2 in
ADAPT_FULL, the Ramble decision's for L0 in ADAPT_FULL (R199); the flowlet's for the others (R198). -/
def injectWaypt (s : State) (h : RouteHdr) (w : Via) : RouteHdr × State :=
  let cls := h.vclass.toNat
  let m := h.mode.toNat
  if cls = clsFmgt then (h, s)
  else if m < 2 then ({ h with waypt := 0 }, s)
  else if m = 2 ∧ lossy cls then
    (if cls = clsL0 then
      (match rambleDecision s h cls w with
       | (.waypoint g _, s) => ({ h with waypt := BitVec.ofNat 11 g }, s)
       | (.minimal, s) => ({ h with waypt := BitVec.ofNat 11 (dstGroup h) }, s))
     else ({ h with waypt := BitVec.ofNat 11 (dstGroup h) }, s))
  else (h, s)

/-- Routing of a unicast packet that is not for this device and names a valid version (R189 cases 5 to 8, R190 to R201). -/
def chooseRoute (s : State) (h : RouteHdr) (w : Via) : Choice × State :=
  let cls := h.vclass.toNat
  let r := if w.arr = none then injectWaypt s h w else (h, s)
  let ht := targetOf r.2 r.1
  let s := cntCM (noteLookup r.2 ht.2) .atlas 0x100 1 (some cls) (some w.inPort)
  let l := eligible s ht.2 cls w
  let p := selectCand s ht.1 l
  match p.1 with
  | some c => (.port c.port ht.1, p.2)
  | none => withoutRoute p.2 ht.1 ht.2 w

/-- A discard of R201, counted. -/
def countNoRoute (s : State) (c : Choice) (cls : Nat) : State :=
  match c with
  | .port _ _ => s
  | .noRoute => cntCM ((s.bump atBase Reg.Atlas.NOROUTE_CNT).setEvt atBase Reg.Atlas.ATLAS_EVENT 3) .atlas 0x103 1 (some cls) none
  | .noBudget => (s.bump atBase Reg.Atlas.BUDGET_DROP_CNT).setEvt atBase Reg.Atlas.ATLAS_EVENT 4

/-! ### Flowlet decisions (R198) -/

/-- The flow label's uniform draw: a label for which the flow pick of the set selects its member `i`. The draw is open
but for that property; where the drawn value itself has it, it is the value drawn (R198 step 3). -/
def labelFor (s : State) (l : List Cand) (i : Nat) : Nat :=
  let good := fun x => flowIndex s x l.length == i
  let d := s.drawn 16
  ((List.range 65536).find? (fun k => good ((d + k) % 65536))).map (fun k => (d + k) % 65536) |>.getD d

/-- The flowlet decision of a go-back-N channel (R198): FLOWHASH and WAYPT for the header `h` the channel's context gives.
DIRECT returns the context's FLOWHASH; WAYPT is 0 in DIRECT and ADAPT_MIN (R194). -/
def flowletDecision (s : State) (h : RouteHdr) (w : Via) : (Nat × Nat) × State :=
  let cls := h.vclass.toNat
  let dg := dstGroup h
  let m := h.mode.toNat
  let r : Nat × State :=
    if m = 2 then
      (match rambleDecision s h cls w with
       | (.waypoint g _, s) => (g, s)
       | (.minimal, s) => (dg, s))
    else if m = 3 then (h.waypt.toNat, s)
    else (0, s)
  if m = 0 then ((h.flowhash.toNat, 0), s)
  else
    let ht := targetOf r.2 { h with waypt := BitVec.ofNat 11 r.1 }
    let l := leastDist (eligible r.2 ht.2 cls w)
    let p := pickCheapest (noteLookup r.2 ht.2) l
    match p.1 with
    | none => ((h.flowhash.toNat, r.1), p.2)
    | some c =>
      match l.findIdx? (· == c) with
      | none => ((h.flowhash.toNat, r.1), p.2)
      | some i => ((labelFor p.2 l i, r.1), p.2.spend)

end Sys2Proof.Machine
end

