-- ==== Sys2Proof/Machine/ChanOps.lean ====
section
/-!
DEFINITION. Channels (spec/07_transport.md): contexts and their images, the packets a channel sends, acknowledgements,
refusals, and the jobs that join a channel.
-/
namespace Sys2Proof.Machine

/-! ### Contexts (R230) -/

/-- Word `i` of an image. -/
def imgW (w : List Nat) (i : Nat) : Nat := w[i]?.getD 0

/-- A context from the words of its image (R230). -/
def Ctx.ofWords (w : List Nat) : Ctx :=
  { state := bits (imgW w 0) 3 0, mode := bits (imgW w 0) 5 4, ccEn := bitOf (imgW w 0) 6, gen := bits (imgW w 0) 15 8,
    owner := bits (imgW w 0) 25 16, localEp := bits (imgW w 1) 6 0, errCode := bits (imgW w 1) 15 8,
    readMax := bits (imgW w 1) 23 16, retryMax := bits (imgW w 1) 26 24, remoteAddr := bits (imgW w 2) 23 0,
    remoteGen := bits (imgW w 2) 31 24, remoteChannel := bits (imgW w 3) 19 0, rtoUs := bits (imgW w 4) 19 0,
    retryCnt := bits (imgW w 4) 23 20, rnrCnt := bits (imgW w 4) 31 24, flowLabel := bits (imgW w 5) 15 0,
    waypt := bits (imgW w 5) 26 16, meter := bits (imgW w 6) 13 0, meterEn := bitOf (imgW w 6) 14,
    shaper := bits (imgW w 6) 27 16, shaperEn := bitOf (imgW w 6) 28, sndNxt := bits (imgW w 7) 23 0,
    sndUna := bits (imgW w 8) 23 0, rcvNxt := bits (imgW w 9) 23 0, fenceSince := bits (imgW w 10) 23 0,
    errPsn := bits (imgW w 11) 23 0, rate := bits (imgW w 12) 19 0, ecePend := bits (imgW w 13) 15 0,
    nakPending := bitOf (imgW w 13) 16 }

/-- The words of a context's image (R230); ENGINE_PRIVATE is written as zero. -/
def Ctx.toWords (c : Ctx) : List Nat :=
  [c.state + 2 ^ 4 * c.mode + 2 ^ 6 * b2n c.ccEn + 2 ^ 8 * c.gen + 2 ^ 16 * c.owner,
   c.localEp + 2 ^ 8 * c.errCode + 2 ^ 16 * c.readMax + 2 ^ 24 * c.retryMax, c.remoteAddr + 2 ^ 24 * c.remoteGen,
   c.remoteChannel, c.rtoUs + 2 ^ 20 * c.retryCnt + 2 ^ 24 * c.rnrCnt, c.flowLabel + 2 ^ 16 * c.waypt,
   c.meter + 2 ^ 14 * b2n c.meterEn + 2 ^ 16 * c.shaper + 2 ^ 28 * b2n c.shaperEn, c.sndNxt, c.sndUna, c.rcvNxt,
   c.fenceSince, c.errPsn, c.rate, c.ecePend + 2 ^ 16 * b2n c.nakPending] ++ List.replicate 50 0

/-- STATE codes (R230). -/
def csClosed : Nat := 0
def csOpen : Nat := 1
def csClosing : Nat := 2
def csError : Nat := 3

/-! ### Channels in state -/

/-- The cluster of a channel (R226). -/
def clusterOf (ch : Nat) : Nat := ch % 4

/-- Window of the channel's cluster. -/
def tb (ch : Nat) : Nat := clusterBase (clusterOf ch)

/-- The cluster's unit. -/
def tpUnit (ch : Nat) : UnitId := .cluster (idx 3 (clusterOf ch))

/-- The engine that the counter events of a channel's packets are counted at: an engine of its cluster, by channel. -/
def chanEngine (ch : Nat) : UnitId := .engine (idx 15 (4 * clusterOf ch + ch / 4 % 4))

/-- What the device holds for a channel: a selective-repeat channel is always held (R235). -/
def State.chanAny (s : State) (ch : Nat) : Option ChanSt :=
  match look s.tp.chans ch with
  | some x => some x
  | none => if isSr ch then some (ChanSt.ofCtx Ctx.zero) else none

/-- The channel with its context on die. -/
def State.chan (s : State) (ch : Nat) : Option ChanSt :=
  match s.chanAny ch with
  | some x => if x.resident then some x else none
  | none => none

/-- The channel changed: its slot's last use is now, and a changed context is to be written back (R237). -/
def State.setChan (s : State) (ch : Nat) (x : ChanSt) : State :=
  let old := (s.chanAny ch).map (·.ctx)
  let x := { x with used := s.tp.tick, dirty := x.dirty || (old.isSome && old != some x.ctx) }
  { s with tp := { s.tp with chans := put s.tp.chans ch x, tick := s.tp.tick + 1 } }

/-- The context is pinned (R237). -/
def ChanSt.pinned (x : ChanSt) : Bool :=
  !x.sent.isEmpty || !x.trk.isEmpty || !x.parked.isEmpty || x.ackDue || x.fetching || x.writing || x.slotWait ||
  !x.jobs.isEmpty || !x.rsps.isEmpty || !x.vis.isEmpty || !x.msgs.isEmpty || x.unacked != 0 || !x.closers.isEmpty

/-- The context is pinned, a packet that waits in an engine counting as an engine at work (R237). -/
def chanPinned (s : State) (ch : Nat) (x : ChanSt) : Bool :=
  x.pinned || (lookD s.tp.stalled (clusterOf ch) []).any (fun p => p.th.channel.toNat == ch)

/-- Channels of a cluster. -/
def chansOf (s : State) (c : Nat) : List (Nat × ChanSt) := s.tp.chans.filter (fun kv => clusterOf kv.1 == c)

/-- HAMPER_USED, HAMPER_PINNED and PARK_HELD of a cluster shown as they are (R271). -/
def tpSync (s : State) (c : Nat) : State :=
  let l := chansOf s c
  let gbn := l.filter (fun kv => !(isSr kv.1) && (kv.2.resident || (kv.2.fetching && !kv.2.slotWait)))
  ((s.wr (clusterBase c) Reg.Tc.HAMPER_USED (1024 + gbn.length)).wr (clusterBase c) Reg.Tc.HAMPER_PINNED
    (gbn.filter (fun kv => chanPinned s kv.1 kv.2)).length).wr (clusterBase c) Reg.Tc.PARK_HELD
    (l.foldl (fun m kv => m + kv.2.parked.length) 0)

/-- All four clusters shown as they are. -/
def tpSyncAll (s : State) : State := (List.range 4).foldl tpSync s

/-- Distance from PSN `a` to PSN `b`. -/
def psnDist (a b : Nat) : Nat := (b + 2 ^ 24 - a) % 2 ^ 24

/-- The PSN `n` further on. -/
def psnAdd (a n : Nat) : Nat := (a + n) % 2 ^ 24

/-! ### Packets a channel sends (R227, R240, R247, R251, R254) -/

/-- EPOCH of packets injected now (R209). -/
def injEpoch (s : State) : Bool := s.on 0 Reg.Root.INJ_EPOCH_EPOCH

/-- A packet of the channel: header of the peer, route of the context (R227, R243). -/
def chanPacket (s : State) (ch : Nat) (c : Ctx) (op psn : Nat) (first last ackreq fence : Bool) (fenceCnt colour : Nat)
    (words : List Nat) (data : List Byte) : Packet :=
  let sr := isSr ch
  let t := (thlenOf op sr).getD 1
  Packet.originate
    { rh := mkRoute c.remoteAddr (classOf op sr) (deviceId s * 256 + c.localEp) c.mode c.waypt (lenOf t data.length)
        c.flowLabel (injEpoch s) fence colour
      th := mkTrans op t c.remoteChannel c.remoteGen psn first last ackreq fenceCnt words
      payload := data
      tr := { crc := 0, stomp := 0, reason := 0, dev := 0 } }

/-- The core port at which a cluster injects what does not come from a host macro (R33; notes/assumptions/22.md). -/
def tpPort (ch : Nat) : Nat := 112 + 3 * clusterOf ch

/-- An event of the channel's engine, adding `n`: the master is the owning function; ENTRIES_TAKEN, PKTS_SENT and PKTS_RCVD
look at its privilege (R522, R525). -/
def chanEv (s : State) (ch code n : Nat) (cls addr : Option Nat) : State :=
  match s.chanAny ch with
  | none => s
  | some x => countEv s (chanEngine ch)
      { code := code, inc := n,
        priv := if code ≤ 0x102 then some (isSr ch || s.rdi fnTab Reg.FnTab.FN_PRIV x.ctx.owner == 1) else none,
        master := some x.ctx.owner, addr := addr, cls := cls }

/-- A packet of the channel handed to the switch core, where the device may originate it (R78, R204). -/
def sendVia (s : State) (ch port : Nat) (p : Packet) : State :=
  if mayOriginate s then chanEv (inject s port p) ch 0x101 1 (some p.cls) none else s

/-- A NAK of the channel, with its pending ECE (R247, R264). It sets NAK_PENDING for SEQ, CTX_MISS and NO_SPACE on a
go-back-N channel (R248). -/
def sendNak (s : State) (ch code psn : Nat) : State :=
  match s.chan ch with
  | none => s
  | some x =>
    let p := chanPacket s ch x.ctx opNak psn false false false false 0 green [code * 2 ^ 24 + x.ctx.ecePend] []
    let pend := !(isSr ch) && (code == 1 || code == 2 || code == 4)
    let c := { x.ctx with ecePend := 0, nakPending := x.ctx.nakPending || pend }
    let s := s.setChan ch { x with ctx := c, nakAt := if pend then some s.now else x.nakAt }
    let s := trailEnd s (.recv ch psn) code
    sendVia (s.bumpi (tb ch) Reg.Tc.NAK_SENT_CNT (code - 1)) ch (tpPort ch) p

/-- SACK of a selective-repeat receiver: bit `i` reports PSN RCV_NXT + i (R104). -/
def sackOf (x : ChanSt) : Nat :=
  (List.range 64).foldl (fun m i => if x.score.contains (psnAdd x.ctx.rcvNxt i) then m + 2 ^ i else m) 0

/-- A due ACK is sent once every executed packet's effects are visible (R251, R499) and the device may originate it (R78,
R204). -/
def tryAck (s : State) (ch : Nat) : State :=
  match s.chan ch with
  | none => s
  | some x =>
    if !x.ackDue || x.vis.any (fun v => v.1 < 2 ^ 24) || !(mayOriginate s) then s
    else
      let k := sackOf x
      let words := if isSr ch then [x.ctx.ecePend * 2 ^ 16, k / 2 ^ 32, k % 2 ^ 32] else [x.ctx.ecePend * 2 ^ 16]
      let p := chanPacket s ch x.ctx opAck (psnAdd x.ctx.rcvNxt (2 ^ 24 - 1)) false false false false 0 green words []
      let s := s.setChan ch { x with ctx := { x.ctx with ecePend := 0 }, ackDue := false, unacked := 0, ackAt := none }
      let s := trailAcked s ch x.ctx.rcvNxt x.score
      sendVia (s.bump (tb ch) Reg.Tc.ACK_SENT_CNT) ch (tpPort ch) p

/-- An ACK becomes due (R251). -/
def ackDue (s : State) (ch : Nat) : State :=
  match s.chan ch with
  | none => s
  | some x => tryAck (s.setChan ch { x with ackDue := true }) ch

/-! ### Jobs -/

/-- A job with nothing sent yet. -/
def mkJob (src : JobFrom) (fn op raddr rkey len : Nat) (data : Payload) (words : List Nat) (fence : Bool) : Job :=
  { id := 0, src := src, fn := fn, op := op, raddr := raddr, rkey := rkey, len := len, data := data, words := words,
    fence := fence, done_ := 0, left := 0, started := false, cut := false, firstPsn := 0, poison := false,
    writeFault := false, finStatus := none, killed := false }

/-- A job joined to its channel: behind the others, or ahead of every work entry's job that has not begun when it is a
rendezvous's (R332). -/
def addJob (s : State) (ch : Nat) (j : Job) (ahead : Bool) : State :=
  match s.chan ch with
  | none => s
  | some x =>
    let j := { j with id := s.tp.nextJob }
    let begun := x.jobs.takeWhile (fun k => k.started || ahead && (match k.src with | .wq .. => false | _ => true))
    let rest := x.jobs.drop begun.length
    let s := { s with tp := { s.tp with nextJob := s.tp.nextJob + 1 } }
    s.setChan ch { x with jobs := if ahead then begun ++ [j] ++ rest else x.jobs ++ [j] }

/-- The RNDV_FIN job of R333, R336 (FIN_STATUS, RTS_PSN, DELIVERED_LEN). -/
def addFin (s : State) (ch status rtsPsn n : Nat) : State :=
  addJob s ch (mkJob .fin 0 opRndvFin 0 0 0 (.bytes []) [status * 2 ^ 24 + rtsPsn, n] false) true

/-- A job of a channel changed. -/
def mapJob (x : ChanSt) (id : Nat) (g : Job → Job) : ChanSt :=
  { x with jobs := x.jobs.map (fun j => if j.id = id then g j else j) }

end Sys2Proof.Machine
end

