-- ==== Sys2Proof/Machine/MatchOps.lean ====
section
/-!
DEFINITION. Matching (spec/09_matching.md): domains, lists on die and in overflow, heads, eager delivery, domain reset.
-/
namespace Sys2Proof.Machine

/-- Window of the matching unit. -/
def mtBase : Nat := base .matching

/-- A domain. -/
def State.dom (s : State) (d : Nat) : DomSt := lookD s.doms d DomSt.init

/-- The function that owns domain `d`, and its local number there (R311). -/
def domOwner (s : State) (d : Nat) : Option (Nat × Nat) :=
  ((List.range 1024).find? (fun f =>
    s.rdi mtBase Reg.Mt.FN_DOM_DOM_FIRST f ≤ d &&
    d < s.rdi mtBase Reg.Mt.FN_DOM_DOM_FIRST f + s.rdi mtBase Reg.Mt.FN_DOM_DOM_COUNT f)).map
    (fun f => (f, d - s.rdi mtBase Reg.Mt.FN_DOM_DOM_FIRST f))

/-- A field of the domain area of local domain `j` of function `f` (R344). -/
def drd (s : State) (f j : Nat) (x : Field) : Nat := s.rdi (bar2 f) x j

/-- A 64-bit address of the domain area. -/
def drd64 (s : State) (f j : Nat) (lo hi : Field) : Nat := drd s f j lo + 2 ^ 32 * drd s f j hi

/-- The domain is enabled (R311). -/
def domOn (s : State) (f j : Nat) : Bool := drd s f j Reg.Dom.DOM_CFG_EN == 1

/-- Overflow records of a domain in use. -/
def DomSt.ovf (x : DomSt) : Nat := (x.posted.filter (fun p => !p.onDie)).length + (x.ux.filter (fun u => !u.onDie)).length

/-- Slots of a domain in use: by unexpected messages and by receives that still copy from one. -/
def DomSt.slots (x : DomSt) : List Nat := x.ux.filterMap (·.slot) ++ x.bound.filterMap (·.slot)

/-- The status registers of the matching unit and of the domain shown as they are (R342, R344). -/
def domSync (s : State) (d : Nat) : State :=
  let pr := s.doms.foldl (fun m kv => m + (kv.2.posted.filter (·.onDie)).length) 0
  let ux := s.doms.foldl (fun m kv => m + (kv.2.ux.filter (·.onDie)).length) 0
  let s := (s.wr mtBase Reg.Mt.PR_ON_DIE pr).wr mtBase Reg.Mt.UX_ON_DIE ux
  match domOwner s d with
  | none => s
  | some (f, j) =>
    let x := s.dom d
    let w := fun (t : State) (g : Field) (v : Nat) => t.wri (bar2 f) g j v
    w (w (w (w (w s Reg.Dom.DOM_STATUS_UX_SLOTS_USED x.slots.length) Reg.Dom.DOM_STATUS_PR_IN_OVF
      (b2n (x.posted.any (fun p => !p.onDie)))) Reg.Dom.DOM_STATUS_UX_IN_OVF (b2n (x.ux.any (fun u => !u.onDie))))
      Reg.Dom.DOM_STATUS_OVF_FULL (b2n (x.fullPost || x.fullHead))) Reg.Dom.OVF_USED x.ovf

/-! ### Room in the lists (R323 to R325) -/

/-- Where an entry appended to the posted list goes: on die, in overflow, or nowhere. -/
def postRoom (s : State) (d f j : Nat) : Option Bool :=
  let x := s.dom d
  let own := (x.posted.filter (·.onDie)).length
  let all := s.doms.foldl (fun m kv => m + (kv.2.posted.filter (·.onDie)).length) 0
  if x.posted.all (·.onDie) && own < s.rd mtBase Reg.Mt.DOM_PR_MAX && all < 32768 then some true
  else if x.ovf < drd s f j Reg.Dom.OVF_ENTRIES then some false
  else none

/-- Where an entry appended to the unexpected list goes. -/
def uxRoom (s : State) (d f j : Nat) : Option Bool :=
  let x := s.dom d
  let own := (x.ux.filter (·.onDie)).length
  let all := s.doms.foldl (fun m kv => m + (kv.2.ux.filter (·.onDie)).length) 0
  if x.ux.all (·.onDie) && own < s.rd mtBase Reg.Mt.DOM_UX_MAX && all < 16384 then some true
  else if x.ovf < drd s f j Reg.Dom.OVF_ENTRIES then some false
  else none

/-- The domain changed; the full condition of a list ends as soon as the list has room again (R325). -/
def State.setDom (s : State) (d : Nat) (x : DomSt) : State :=
  let t := { s with doms := put s.doms d x }
  match domOwner t d with
  | none => domSync t d
  | some (f, j) =>
    let x : DomSt := { x with
      fullPost := x.fullPost && (postRoom t d f j).isNone
      fullHead := x.fullHead && (uxRoom t d f j).isNone }
    domSync { t with doms := put t.doms d x } d

/-- A free unexpected slot: the lowest (R322, R329). -/
def freeSlot (s : State) (d f j : Nat) : Option Nat :=
  (List.range (drd s f j Reg.Dom.UX_SLOTS)).find? (fun i => !((s.dom d).slots.contains i))

/-- On-die space that has freed is taken by the oldest overflow entries, in SEQ order (R324). -/
def moveOverflow (s : State) (d : Nat) : State :=
  let x := s.dom d
  let allP := s.doms.foldl (fun m kv => m + (kv.2.posted.filter (·.onDie)).length) 0
  let allU := s.doms.foldl (fun m kv => m + (kv.2.ux.filter (·.onDie)).length) 0
  let ownP := (x.posted.filter (·.onDie)).length
  let ownU := (x.ux.filter (·.onDie)).length
  let roomP := Nat.min (s.rd mtBase Reg.Mt.DOM_PR_MAX - ownP) (32768 - allP)
  let roomU := Nat.min (s.rd mtBase Reg.Mt.DOM_UX_MAX - ownU) (16384 - allU)
  let posted := x.posted.mapIdx (fun i (p : PostEnt) => { p with onDie := p.onDie || decide (i < ownP + roomP) })
  let ux := x.ux.mapIdx (fun i (u : UxEnt) => { u with onDie := u.onDie || decide (i < ownU + roomU) })
  s.setDom d { x with posted := posted, ux := ux }

/-! ### Completions and events of a domain (R338 to R340) -/

/-- A receive completion (R338): kind 0x81 or 0x82, written to the domain's CQ. -/
def completeRecv (s : State) (d kind status index ch gen tag src msgLen : Nat) : State :=
  match domOwner s d with
  | none => s
  | some (f, j) =>
    let s := if status = 0x23 then s.bump mtBase Reg.Mt.TRUNC_CNT
      else if status = 0x24 then s.bump mtBase Reg.Mt.CANCEL_CNT
      else if status = 0x25 then s.bump mtBase Reg.Mt.ABORT_CNT else s
    cqPut s (cqNo s f (drd s f j Reg.Dom.DOM_CFG_CQ)) (4 * clusterOf ch)
      (cqe [cqeWord0 status kind true false, 0, index, ch + 2 ^ 24 * gen, tag % 2 ^ 32, tag / 2 ^ 32, src + 2 ^ 24 * j, msgLen])

/-- The record of the overflow area that an entry appended there takes is written; its format is not stated, so its bytes
are open (R323, R393). -/
def ovfWrite (s : State) (d f j : Nat) : XRes × State :=
  match xlate s f (drd64 s f j Reg.Dom.OVF_BASE_LO Reg.Dom.OVF_BASE_HI + 64 * (s.dom d).ovf) 64 (accLocal true) with
  | (.ok l, s) => (.ok l, scatter s.spend l (leBytes (s.drawn 512) 64) false)
  | r => r

/-- The domain's overflow area stands full for a POST (`post`) or a head: raised once on each transition (R325, R340). -/
def ovfFull (s : State) (d f j : Nat) (post : Bool) : State :=
  let x := s.dom d
  let was := if post then x.fullPost else x.fullHead
  let s := s.setDom d (if post then { x with fullPost := true } else { x with fullHead := true })
  if was then s else (raiseEvent s f 0x31 [j, b2n post, 0, 0]).setEvt mtBase Reg.Mt.MT_EVENT 1

/-! ### The match rule (R320, R321) -/

/-- What matching looks at in a head. -/
structure Head where
  rts : Bool
  comm : Nat
  tag : Nat
  src : Nat
  msgLen : Nat
  psn : Nat
  skey : Nat
  saddr : Nat
  deriving DecidableEq, Repr

/-- The head in a SEND_EAGER or SEND_RTS packet. -/
def headOf (p : Packet) : Head :=
  { rts := p.op == opSendRts, comm := p.comm, tag := p.tag, src := p.rh.src.toNat, msgLen := p.msgLen,
    psn := p.th.psn.toNat, skey := p.skey, saddr := p.saddr }

/-- The match rule (R320). -/
def matchRule (comm src tag : Nat) (p : PostEnt) : Bool :=
  comm == p.comm && (p.srcAny || src == p.source) && ((tag ^^^ p.tag) &&& (2 ^ 64 - 1 - p.ignore)) == 0

/-- The first posted receive that a head matches (R321). -/
def findPost (x : DomSt) (h : Head) : Option PostEnt := x.posted.find? (matchRule h.comm h.src h.tag)

/-- The first unexpected message that a POST matches (R321). -/
def findUx (x : DomSt) (p : PostEnt) : Option UxEnt := x.ux.find? (fun u => matchRule u.comm u.src u.tag p)

/-- A search, counted (R341, R342, R525): it reached overflow when nothing on die matched and overflow entries stand. -/
def countSearch (s : State) (d : Nat) (reached : Bool) : State :=
  let s := cntCM s .matching 0x100 1 none (some d)
  if reached then cntCM (s.bump mtBase Reg.Mt.OVF_SEARCH_CNT) .matching 0x101 1 none (some d) else s

/-- The rendezvous job of a bound SEND_RTS (R332): it reads min(MSG_LEN, LENGTH) bytes. -/
def startRndv (s : State) (d ch : Nat) (b : BoundEnt) (skey saddr : Nat) : State :=
  let n := Nat.min b.msgLen b.len
  let s := s.bump mtBase Reg.Mt.RNDV_JOB_CNT
  let owner := ((s.chan ch).map (fun x => x.ctx.owner)).getD 0
  let j := mkJob (.rndv d b.index) owner opReadReq saddr skey n (.frags [{ addr := b.addr, len := n, lkey := b.lkey }]) [] false
  addJob s ch (if n = 0 then { j with started := true, cut := true } else j) true

/-- A head bound to posted receive `p` (R321, R332). -/
def bindHead (s : State) (d ch gen : Nat) (h : Head) (p : PostEnt) : State :=
  let x := s.dom d
  let b : BoundEnt :=
    { index := p.index, addr := p.addr, va := p.va, len := p.len, lkey := p.lkey, ch := ch, gen := gen, psn := h.psn,
      src := h.src, tag := h.tag, msgLen := h.msgLen, rts := h.rts, slot := none, arrived := h.msgLen == 0, fault := false }
  let s := s.setDom d { x with posted := x.posted.erase p, bound := x.bound ++ [b] }
  let s := cntCM (s.bump mtBase Reg.Mt.HEAD_BOUND_CNT) .matching 0x102 1 none (some d)
  if h.rts then startRndv s d ch b h.skey h.saddr else s

/-- A head filed as unexpected (R321, R329). -/
def fileHead (s : State) (d ch gen : Nat) (h : Head) (slot : Option Nat) (onDie : Bool) : State :=
  let x := s.dom d
  let u : UxEnt :=
    { seq := x.uxSeq, rts := h.rts, src := h.src, comm := h.comm, tag := h.tag, msgLen := h.msgLen,
      slot := slot, ch := ch, gen := gen, psn := h.psn, skey := h.skey, saddr := h.saddr, done_ := h.rts || h.msgLen == 0, onDie := onDie }
  let s := s.setDom d { x with ux := x.ux ++ [u], uxSeq := (x.uxSeq + 1) % 2 ^ 32, fullHead := false }
  cntCM (s.bump mtBase Reg.Mt.HEAD_FILED_CNT) .matching 0x103 1 none (some d)

/-! ### Domain reset (R336) -/

/-- Messages in progress of a domain go nowhere from now on (R336 step 4). -/
def loseMsgs (s : State) (d : Nat) : State :=
  let lose := fun (m : InMsg) => if m.dom = d then { m with dest := .nowhere } else m
  let chans := s.tp.chans.map (fun kv => (kv.1, { kv.2 with msgs := kv.2.msgs.map lose }))
  { s with tp := { s.tp with chans := chans } }

/-- The domain reset of R336: receives cancelled and aborted, rendezvous jobs marked to end as failed, unexpected messages
answered or discarded, the domain disabled. -/
def domReset (s : State) (d : Nat) : State :=
  match domOwner s d with
  | none => s
  | some (f, j) =>
    let x := s.dom d
    let s := x.posted.foldl (fun t p => completeRecv t d 0x81 0x24 p.index 0 0 0 0 0) s
    let cut := x.bound.filter (fun b => !b.rts && !b.arrived)
    let s := cut.foldl (fun t b => completeRecv t d 0x81 0x25 b.index b.ch b.gen b.tag b.src b.msgLen) s
    let s := x.bound.foldl (fun t b => if b.rts then (match t.chanAny b.ch with
        | some c =>
          let kill := fun (k : Job) => if k.src == .rndv d b.index then { k with killed := true } else k
          t.setChan b.ch { c with jobs := c.jobs.map kill }
        | none => t) else t) s
    let s := x.ux.foldl (fun t u => if u.rts then (match t.chan u.ch with
        | some c => if c.ctx.state = csOpen ∧ c.ctx.gen = u.gen then addFin t u.ch 2 u.psn 0 else t
        | none => t) else t) s
    let far := (x.ux.filter (fun u => u.rts && (s.chan u.ch).isNone)).map (fun u => (u.ch, u.gen, u.psn))
    let s := loseMsgs s d
    let s := s.wri (bar2 f) Reg.Dom.DOM_CFG_EN j 0
    let x : DomSt := { s.dom d with
      posted := []
      ux := []
      bound := x.bound.filter (fun b => b.rts || b.arrived)
      fullPost := false
      fullHead := false
      enabling := false
      owed := (s.dom d).owed ++ far }
    s.setDom d x

/-- A list entry of the domain was lost: reset and MATCH_LIST_LOST (R326, R340). -/
def domLost (s : State) (d : Nat) : State :=
  match domOwner s d with
  | none => s
  | some (f, j) => (raiseEvent (domReset s d) f 0x30 [j, 0, 0, 0]).setEvt mtBase Reg.Mt.MT_EVENT 0

/-! ### Receiving tagged packets (R312, R322, R329) -/

/-- What step 6 and 7 of R246 come to for a SEND_EAGER or SEND_RTS: refused as a key failure, no space, waiting for a
translation, or executed with so many writes to become visible. -/
inductive SendOut | refuse | noSpace | wait | done (cmps : Nat)
  deriving DecidableEq, Repr

/-- The address at which byte `o` of a message goes, for `n` bytes, and how many of them are kept (R329). -/
def destOf (s : State) (f j : Nat) (m : MsgDest) (o n : Nat) : Option (Nat × Nat) :=
  match m with
  | .recv _ addr len _ => some (addr + o, Nat.min n (len - o))
  | .slot _ i => some (drd64 s f j Reg.Dom.UX_BASE_LO Reg.Dom.UX_BASE_HI + 8192 * i + o, n)
  | .nowhere => none

/-- Bytes of a message have arrived: its receive or unexpected entry is told when they are all there (R330). -/
def msgArrived (s : State) (ch : Nat) (m : InMsg) (n : Nat) (fault : Bool) : State :=
  let got := m.got + n
  let all := m.msgLen ≤ got
  let s := match s.chan ch with
    | some x =>
      let mine := fun (k : InMsg) => k.psn == m.psn && k.dom == m.dom
      let step := fun (k : InMsg) => if mine k then { k with got := got } else k
      s.setChan ch { x with msgs := if all then x.msgs.filter (fun k => !(mine k)) else x.msgs.map step }
    | none => s
  let x := s.dom m.dom
  let upB := fun (b : BoundEnt) => if b.ch == ch && b.psn == m.psn && !b.rts then
    { b with arrived := b.arrived || decide all, fault := b.fault || fault } else b
  let upU := fun (u : UxEnt) => if u.ch == ch && u.psn == m.psn && !u.rts then
    { u with done_ := u.done_ || decide all } else u
  s.setDom m.dom { x with bound := x.bound.map upB, ux := x.ux.map upU }

/-- Payload of a message written to where the message is bound: translated first (R388). `space` tells that delivery
space was reserved. -/
def deliver (s : State) (ch f j : Nat) (m : InMsg) (p : Packet) (space : Bool) : SendOut × State :=
  match destOf s f j m.dest p.msgOff p.payload.length with
  | none => (.done 0, msgArrived s ch m p.payload.length false)
  | some (a, n) =>
    if n = 0 then (.done 0, msgArrived s ch m p.payload.length false)
    else if !space then (.noSpace, s)
    else match xlate s f a n (accLocal true) with
      | (.wait, s) => (.wait, s)
      | (.fault, s) => (match m.dest with
          | .slot .. => (.refuse, domLost s m.dom)
          | _ => (.done 0, msgArrived s ch m p.payload.length true))
      | (.ok l, s) =>
        let r := meshWrite s (.payload (clusterOf ch) ch p.th.psn.toNat) 1 l (p.payload.take n) false
        (.done r.1, msgArrived r.2 ch m p.payload.length false)

/-- A message head filed or bound, then its payload delivered. -/
def beginMsg (s : State) (ch : Nat) (m : InMsg) : State :=
  match s.chan ch with
  | some x => if m.msgLen = 0 then s else s.setChan ch { x with msgs := x.msgs ++ [m] }
  | none => s

/-- Delivery could be translated without a wait: nothing is bound or filed before it is (R321, R388). -/
def deliverReady (s : State) (f j : Nat) (m : InMsg) (p : Packet) : Bool × State :=
  match destOf s f j m.dest p.msgOff p.payload.length with
  | none => (true, s)
  | some (a, n) => if n = 0 then (true, s) else
      match tlbFind s f a, tlbFind s f (a + n - 1) with
      | some _, some _ => (true, s)
      | _, _ => (match xlate s f a n (accLocal true) with
        | (.wait, s) => (false, s)
        | (_, s) => (true, s))

/-- A SEND_EAGER or SEND_RTS at steps 6 and 7 of R246 (R312, R322). -/
def receiveSend (s : State) (ch owner gen : Nat) (p : Packet) (space : Bool) : SendOut × State :=
  if unitOff s .matching then (.noSpace, s) else
  let d := p.domain
  let h := headOf p
  let first := h.rts || p.th.first
  let key := psnAdd h.psn (2 ^ 24 - p.msgOff / 4096)
  let cur := ((s.chan ch).map (fun x => x.msgs.find? (fun m => m.psn == key && m.dom == d))).getD none
  match (if first then none else cur) with
  | some m =>
    (match m.dest, domOwner s d with
     | .nowhere, _ => (.done 0, msgArrived s ch m p.payload.length false)
     | _, some (f, j) => deliver s ch f j m p space
     | _, none => (.done 0, s))
  | none =>
    match domOwner s d with
    | none => (.refuse, s)
    | some (f, j) =>
      if !(domOn s f j) || f != owner then (.refuse, s)
      else if !first then (.done 0, s)
      else
        let x := s.dom d
        let found := findPost x h
        let reached := (match found with | some q => !q.onDie | none => x.posted.any (fun q => !q.onDie))
        let refuse := fun (t : State) => (SendOut.noSpace, t.bump mtBase Reg.Mt.NOSPACE_NAK_CNT)
        match found with
        | some q =>
          let m : InMsg := { psn := h.psn, dom := d, msgLen := h.msgLen, got := 0, dest := .recv q.index q.va q.len q.lkey,
                             tag := h.tag, src := h.src }
          if h.rts then (.done 0, bindHead (countSearch s d reached) d ch gen h q)
          else if Nat.min p.payload.length q.len ≠ 0 ∧ !space then refuse s
          else (match deliverReady s f j m p with
            | (false, s) => (.wait, s)
            | (true, s) => deliver (beginMsg (bindHead (countSearch s d reached) d ch gen h q) ch m) ch f j m p space)
        | none =>
          (match uxRoom s d f j with
           | none => refuse (ovfFull s d f j false)
           | some onDie =>
             let bare : Bool := h.rts || h.msgLen == 0
             match (if bare then some 0 else if space then freeSlot s d f j else none) with
             | none => refuse s
             | some i =>
               match (if onDie then (XRes.ok [], s) else ovfWrite s d f j) with
               | (.wait, s) => (.wait, s)
               | (.fault, s) => (.refuse, domLost s d)
               | (.ok _, s) =>
                 if bare then (.done 0, fileHead (countSearch s d reached) d ch gen h none onDie)
                 else
                   let m : InMsg := { psn := h.psn, dom := d, msgLen := h.msgLen, got := 0, dest := .slot x.uxSeq i,
                                      tag := h.tag, src := h.src }
                   match deliverReady s f j m p with
                   | (false, s) => (.wait, s)
                   | (true, s) => deliver (beginMsg (fileHead (countSearch s d reached) d ch gen h (some i) onDie) ch m) ch f j m p
                       space)

/-- The messages of a channel that enters ERROR or CLOSED before all their bytes came (R331), and the rendezvous
receives that its jobs served (R334). -/
def abortMsgs (s : State) (ch : Nat) : State :=
  let chans := s.tp.chans.map (fun (kv : Nat × ChanSt) => if kv.1 = ch then (kv.1, { kv.2 with msgs := [] }) else kv)
  let s := { s with tp := { s.tp with chans := chans } }
  s.doms.foldl (fun t kv =>
    let cut := kv.2.bound.filter (fun b => b.ch == ch && !b.rts && !b.arrived)
    let rd := kv.2.bound.filter (fun b => b.ch == ch && b.rts)
    let ux := kv.2.ux.filter (fun u => u.ch == ch && !u.done_)
    if cut.isEmpty && rd.isEmpty && ux.isEmpty then t
    else
      let t := cut.foldl (fun t b => completeRecv t kv.1 0x81 0x25 b.index b.ch b.gen b.tag b.src b.msgLen) t
      let t := rd.foldl (fun t b => completeRecv t kv.1 0x81 0x22 b.index b.ch b.gen b.tag b.src b.msgLen) t
      let x := t.dom kv.1
      let x : DomSt := { x with
        bound := x.bound.filter (fun b => !(cut.contains b || rd.contains b))
        ux := x.ux.filter (fun u => !(ux.contains u)) }
      t.setDom kv.1 x) s

end Sys2Proof.Machine
end

