-- ==== Sys2Proof/Machine/TransportOps.lean ====
section
/-!
DEFINITION. What the transport does with a channel (spec/07_transport.md): errors and closing, context fetches and
parking, sending, receiving, and the sender's answer to acknowledgements.
-/
namespace Sys2Proof.Machine

/-! ### Far-window accesses that end (R423, R425, R434) -/

/-- A held read ends (R423). -/
def farEnd (s : State) (a id : Nat) (r : FarEnd) : State :=
  let x := s.att a
  match x.far.find? (fun q => q.id == id) with
  | none => s
  | some q => (s.setAtt a { x with far := x.far.filter (fun k => k.id != id) }).emit (.farDone a q.req r)

/-- FAR_WRITE_DROP, at most once per 1 ms and window (R425, R434). -/
def farDropEvent (s : State) (a w off : Nat) : State :=
  let s := (s.bump (attBase a) Reg.Att.FAR_DROP_CNT).setEvt (attBase a) Reg.Att.ATT_EVENT 4
  if within s (look (s.att a).dropAt w) 1000000 then s
  else
    let x := s.att a
    raiseEvent (s.setAtt a { x with dropAt := put x.dropAt w s.now }) a 0x49 [w, 0, off % 2 ^ 32, off / 2 ^ 32]

/-! ### Completing jobs (R298, R299, R316) -/

/-- Payload writes of a channel's own reads use ids from 2^24 up among its visibility counts. -/
def ChanSt.rxVis (x : ChanSt) : List (Nat × Nat) := x.vis.filter (fun v => v.1 < 2 ^ 24)

/-- A job has nothing more to wait for (R298, R316). -/
def jobReady (x : ChanSt) (j : Job) : Bool :=
  j.cut && j.left == 0 && (j.op != opSendRts || j.finStatus.isSome) &&
  (j.op != opReadReq || x.vis.all (fun v => v.1 < 2 ^ 24))

/-- The status of a finished job (R296, R298, R316). -/
def jobStatus (j : Job) : Nat :=
  if j.poison then stPoisoned
  else if j.writeFault then stLocalWrite
  else match j.finStatus with
    | some 1 => 0x20
    | some 2 => 0x21
    | some 3 => 0x22
    | _ => 0

/-- The WQ of a job, when it came from a work entry. -/
def Job.wqOf (j : Job) : Option Nat := match j.src with | .wq g _ _ _ _ => some g | _ => none

/-- The first job that may complete now: ready, and behind no unfinished job of its own queue (R299). A rendezvous's job
ends by RNDV_JOB_DONE, a far read's by FAR_READ_COMPLETE. -/
def nextDone (x : ChanSt) : Option Job :=
  x.jobs.find? (fun j => jobReady x j && (match j.src with | .rndv .. => false | _ => true) &&
    (match j.wqOf with
     | some g => (x.jobs.takeWhile (· != j)).all (fun k => k.wqOf != some g)
     | none => true))

/-- Jobs that may complete are completed, in order. -/
def completeJobs (s : State) (ch : Nat) : Nat → State
  | 0 => s
  | k + 1 => match s.chanAny ch with
    | none => s
    | some x => match nextDone x with
      | none => s
      | some j =>
        let s := s.setChan ch { x with jobs := x.jobs.filter (· != j) }
        let s := match j.src with
          | .wq g i u sg op => completeWq s g i u sg op (jobStatus j) ch x.ctx.gen 0
          | _ => s
        completeJobs s ch k

/-- Jobs that may complete are completed. -/
def finishJobs (s : State) (ch : Nat) : State :=
  let jobs := ((s.chanAny ch).map (·.jobs)).getD []
  completeJobs (jobs.foldl (fun t j => match j.src with
    | .wq g i _ _ _ => if j.cut && j.left == 0 then trailMark t (.send g i) 3 else t
    | _ => t) s) ch jobs.length

/-! ### Flush, error and close (R234, R216, R331) -/

/-- The fence store holding these packets, and FENCE_HELD (R224). -/
def setFence (s : State) (l : List FenceHeld) : State :=
  { s with route := { s.route with fence := l } }.wr atBase Reg.Atlas.FENCE_HELD l.length

/-- Packets of the channel leave the fence store undelivered (R216). -/
def freeFence (s : State) (ch : Nat) : State :=
  setFence s (s.route.fence.filter (fun h => h.channel != ch))

/-- A flush: every job of the channel ends, the one that holds `psn` with `status`, the others FLUSHED; trackers are
freed. Nothing is written when `quiet` (R234, R305). -/
def flush (s : State) (ch status psn w6 : Nat) (quiet : Bool) : State :=
  match s.chanAny ch with
  | none => s
  | some x =>
    let holder := match x.sent.find? (fun p => p.psn == psn) with
      | some p => some p.job
      | none => (x.jobs.find? (fun j => !j.cut)).map (·.id)
    let s := x.rsps.foldl (fun t r => endRead t r.read) s
    let s := match x.reading with | some (_, id, _) => endRead s id | none => s
    let x : ChanSt := { x with
      jobs := []
      sent := []
      trk := []
      resend := []
      backoff := []
      payload := none
      reading := none
      timer := none
      rsps := []
      high := x.ctx.sndNxt }
    let jobs := ((s.chanAny ch).map (·.jobs)).getD []
    let s := trailChanEnds (s.setChan ch x) ch
    jobs.foldl (fun t j => match j.src with
      | .wq g i u sg op => if quiet then t
          else completeWq t g i u sg op (if some j.id = holder then status else stFlushed) ch x.ctx.gen w6
      | .far a w id off => if j.op = opReadReq then farEnd t a id .completerAbort else farDropEvent t a w off
      | _ => t) s

/-- The completion status of an ERR_CODE (R296). -/
def statusOfErr (code : Nat) : Nat :=
  if code = 3 then 0x0A else if code = 4 then 0x0B else if code = 5 then 0x0C else if code = 1 then 0x0D
  else if code = 2 then 0x0E else if code = 8 then 0x0F else if code = 9 then 0x10 else stFlushed

/-- A channel command ends: RESULT, GEN, BUSY (R232, R309). -/
def cmdDone (s : State) (fn : Option Nat) (ch result : Nat) (gen : Option Nat) : State :=
  match fn with
  | some f =>
    let s := (s.wr (bar2 f) Reg.Bar2.CMD_STATUS_BUSY 0).wr (bar2 f) Reg.Bar2.CMD_STATUS_RESULT result
    (match gen with | some g => s.wr (bar2 f) Reg.Bar2.CMD_STATUS_GEN g | none => s)
  | none =>
    let s := (s.wr (tb ch) Reg.Tc.CMD_STATUS_BUSY 0).wr (tb ch) Reg.Tc.CMD_STATUS_RESULT result
    (match gen with | some g => s.wr (tb ch) Reg.Tc.CMD_STATUS_GEN g | none => s)

/-- The channel is CLOSED; every CLOSE that waits for that completes (R234, R640). -/
def toClosed (s : State) (ch : Nat) : State :=
  match s.chanAny ch with
  | none => s
  | some x =>
    let c := { x.ctx with state := csClosed, errCode := 0 }
    let s := freeFence (s.setChan ch { x with ctx := c, closers := [], unacked := 0, ackAt := none, ackDue := false,
                                              score := [], vis := [] }) ch
    x.closers.foldl (fun t f => cmdDone t f ch 0 none) s

/-- The channel closes at once: flush, messages in progress aborted (R234). -/
def closeNow (s : State) (ch : Nat) (quiet : Bool) : State :=
  toClosed (abortMsgs (flush s ch stFlushed (2 ^ 24) 0 quiet) ch) ch

/-- The channel enters ERROR (R234): the code and PSN recorded, the flush, CHANNEL_ERROR. A CLOSE that waits then closes
it (R640). -/
def chanError (s : State) (ch code psn : Nat) : State :=
  match s.chanAny ch with
  | none => s
  | some x =>
    let c := { x.ctx with state := csError, errCode := code, errPsn := psn }
    let s := s.setChan ch { x with ctx := c }
    let s := freeFence (abortMsgs (flush s ch (statusOfErr code) psn psn false) ch) ch
    let s := raiseEvent (s.setEvt (tb ch) Reg.Tc.TP_EVENT 0) c.owner 0x01 [ch + 2 ^ 24 * c.gen, code, psn, 0]
    if x.closers.isEmpty then s else closeNow s ch false

/-- A CLOSING channel with nothing outstanding and no tracker held may close (R234, R316). -/
def closable (x : ChanSt) : Bool :=
  x.ctx.state == csClosing && x.jobs.isEmpty && x.sent.isEmpty && x.trk.isEmpty

/-! ### Hamper (R235 to R238, R256 to R258) -/

/-- The backing-store address of a channel's context (R236). -/
def ctxAddr (s : State) (ch : Nat) : Nat := s.rd64 (tb ch) Reg.Tc.CTX_BASE_LO Reg.Tc.CTX_BASE_HI + 256 * ch

/-- The channel has a context: selective-repeat, or backed while EN is 1 (R232, R246). -/
def ctxExists (s : State) (ch : Nat) : Bool :=
  !(clusterLost s (clusterOf ch)) && (isSr ch || (s.on (tb ch) Reg.Tc.CTX_CFG_EN && ch < s.rd (tb ch) Reg.Tc.CTX_ENTRIES))

/-- Go-back-N slots of a cluster in use: resident contexts and fetches that have a slot (R235). -/
def slotsUsed (s : State) (c : Nat) : Nat :=
  ((chansOf s c).filter (fun kv => !(isSr kv.1) && (kv.2.resident || (kv.2.fetching && !kv.2.slotWait)))).length

/-- Fetches of a cluster outstanding (R255). -/
def fetches (s : State) (c : Nat) : Nat := ((chansOf s c).filter (fun kv => kv.2.fetching && !kv.2.slotWait)).length

/-- A context written back to its store: in the pool at once, to host memory emitted (R236, R237). -/
def writeCtx (s : State) (ch : Nat) (c : Ctx) : State :=
  let b := c.toWords.flatMap (fun w => leBytes w 4)
  if s.on (tb ch) Reg.Tc.CTX_CFG_LOC then s.emit (.memWrite (s.rd (tb ch) Reg.Tc.CTX_CFG_ATTACH) (ctxAddr s ch) b)
  else directWrite s (ctxAddr s ch) b false

/-- The channel's slot is freed. -/
def dropChan (s : State) (ch : Nat) : State :=
  trailChanEnds { s with tp := { s.tp with chans := del s.tp.chans ch } } ch

/-- A context leaves Hamper: what its ENGINE_PRIVATE words keep stays (R230, R231, R237). -/
def evictChan (s : State) (ch : Nat) (x : ChanSt) : State :=
  let k : EngPriv := { ctx := x.ctx, rate := x.ctx.rate, cutAt := x.cutAt, cutNow := x.cutNow, nextStart := x.nextStart,
                       nakAt := x.nakAt, seqSeen := x.seqSeen }
  dropChan { s with tp := { s.tp with priv := put s.tp.priv ch k } } ch

/-- A channel whose context has been fetched. ENGINE_PRIVATE counts only for a context that the device itself wrote (R231). -/
def restored (s : State) (ch : Nat) (c : Ctx) : ChanSt :=
  let x : ChanSt := { ChanSt.ofCtx c with used := s.tp.tick }
  match look s.tp.priv ch with
  | none => x
  | some k =>
    if k.ctx ≠ c then x
    else
      let d := { c with rate := k.rate }
      { x with ctx := d, cutAt := k.cutAt, cutNow := k.cutNow, nextStart := k.nextStart, nakAt := k.nakAt, seqSeen := k.seqSeen,
               dirty := k.rate != c.rate }

/-- The least recently used unpinned resident context of a cluster (R237). -/
def lruVictim (s : State) (c : Nat) : Option (Nat × ChanSt) :=
  (chansOf s c).foldl (fun (b : Option (Nat × ChanSt)) kv =>
    if isSr kv.1 || !kv.2.resident || chanPinned s kv.1 kv.2 then b
    else match b with
      | some y => if kv.2.used < y.2.used then some kv else b
      | none => some kv) none

/-- A slot asked for: had at once, to come when the writeback of a channel ends, or none to be had (R237, R258). -/
inductive SlotRes | now | later (victim : Nat) | full
  deriving DecidableEq, Repr

/-- A Hamper slot asked for in a cluster: a clean victim is dropped, a changed one written back first (R237). -/
def askSlot (s : State) (c : Nat) : SlotRes × State :=
  if slotsUsed s c < 15360 then (.now, s)
  else match lruVictim s c with
    | none => (.full, s)
    | some (v, x) =>
      let s := cnt1 (s.bump (clusterBase c) Reg.Tc.EVICT_CNT) (.cluster (idx 3 c)) 0x102
      if x.dirty then (.later v, writeCtx (s.setChan v { x with writing := true, dirty := false }) v x.ctx)
      else (.now, evictChan s v x)

/-- A context fetch begins, unless one is outstanding (R256); `waits`: it waits for a slot, which the writeback of `src`
frees. The read of a host store is emitted. -/
def startFetch (s : State) (ch : Nat) (waits : Bool) (src : Option Nat) : State :=
  let x := (s.chanAny ch).getD { ChanSt.ofCtx Ctx.zero with resident := false }
  if x.fetching && !x.slotWait then s
  else
    let s := s.setChan ch { x with fetching := true, slotWait := waits, slotFrom := src, fetchAt := s.now, resident := false }
    if waits then s
    else
      let s := cnt1 (s.bump (tb ch) Reg.Tc.CTX_FETCH_CNT) (tpUnit ch) 0x100
      if s.on (tb ch) Reg.Tc.CTX_CFG_LOC then
        s.emit (.memRead (s.rd (tb ch) Reg.Tc.CTX_CFG_ATTACH) (ctxAddr s ch) 256)
      else s

/-- Event HAMPER_FULL, at most once per 1 ms and cluster (R258, R269). -/
def hamperFull (s : State) (c : Nat) : State :=
  let s := (s.bump (clusterBase c) Reg.Tc.HAMPER_FULL_CNT).setEvt (clusterBase c) Reg.Tc.TP_EVENT 3
  if within s (look s.tp.fullAt c) 1000000 then s
  else raiseEvent { s with tp := { s.tp with fullAt := put s.tp.fullAt c s.now } }
    (s.rd (clusterBase c) Reg.Tc.CTX_FAULT_FUNC) 0x05 [c, 0, 0, 0]

/-- Parking space of a cluster in use, in bytes, and packets parked (R255). -/
def parkUse (s : State) (c : Nat) : Nat × Nat :=
  (chansOf s c).foldl (fun m kv => (m.1 + kv.2.parked.foldl (fun a p => a + 64 * p.flits) 0, m.2 + kv.2.parked.length)) (0, 0)

/-- A packet of a non-resident channel parked, or dropped (R256 to R258). A fetch that a command waits to begin, with no slot
to be had, is not outstanding. -/
def park (s : State) (ch : Nat) (p : Packet) : State :=
  let c := clusterOf ch
  let fetching := ((look s.tp.chans ch).map (fun x => x.fetching && !(x.slotWait && x.slotFrom.isNone))).getD false
  let r : Bool × State :=
    if fetching then (true, s)
    else if 512 ≤ fetches s c then (false, hamperFull s c)
    else match askSlot s c with
      | (.now, s) => (true, startFetch s ch false none)
      | (.later v, s) => (true, startFetch s ch true (some v))
      | (.full, s) => (false, hamperFull s c)
  let s := r.2
  if !r.1 then s
  else match look s.tp.chans ch with
    | none => s
    | some x =>
      let u := parkUse s c
      if x.parkDrop.isSome ∨ 16 ≤ x.parked.length ∨ 1024 ≤ u.2 ∨ 524288 < u.1 + 64 * p.flits then
        let s := s.setChan ch { x with parkDrop := some (x.parkDrop.getD p) }
        let s := if x.parkDrop.isSome then trailEnd s (.recv ch p.th.psn.toNat) 0 else s
        (s.bump (tb ch) Reg.Tc.PARK_DROP_CNT).setEvt (tb ch) Reg.Tc.TP_EVENT 4
      else cnt1 ((s.setChan ch { x with parked := x.parked ++ [p] }).bump (tb ch) Reg.Tc.PARKED_CNT) (tpUnit ch) 0x103

/-! ### Executing a request at its target (R246 steps 5 to 7, R248 to R254) -/

/-- What executing comes to: refused with a NAK code and an ERR_CODE, no space, waiting, or executed with so many Cmps
to come. -/
inductive ExecOut | refuse (code err : Nat) | noSpace | wait | done (cmps : Nat)
  deriving DecidableEq, Repr

/-- Read-response slots of a cluster in use (R253). -/
def rspSlots (s : State) (c : Nat) : Nat := (chansOf s c).foldl (fun m kv => m + kv.2.rsps.length) 0

/-- An address checked and translated at its target: a refusal, a wait, or the pieces (R252, R378). -/
def targetChunks (s : State) (f rkey a n right : Nat) (write : Bool) : (ExecOut ⊕ List Chunk) × State :=
  match keyCheck s f rkey a n right with
  | (.bad, s) => (.inl (.refuse 5 6), s)
  | (.wait, s) => (.inl .wait, s)
  | (.ok va, s) => match xlate s f va n (accKey write true true rkey) with
    | (.wait, s) => (.inl .wait, s)
    | (.fault, s) => (.inl (.refuse 6 7), s)
    | (.ok l, s) => (.inr l, s)

/-- NOTIFY executed (R301): one or two entries in NOTIFY_CQ. -/
def notifyExec (s : State) (ch : Nat) (c : Ctx) (p : Packet) : ExecOut × State :=
  let f := c.owner
  let n := if p.payload.length ≤ 16 then 1 else 2
  let g := cqNo s f (s.rd (bar2 f) Reg.Bar2.NOTIFY_CQ_CQ)
  match s.on (bar2 f) Reg.Bar2.NOTIFY_CQ_VALID, s.cqAt g with
  | true, some q =>
    if !(cqRoom s q n) then (.noSpace, s)
    else
      let b := p.payload ++ List.replicate (32 - p.payload.length) 0
      let head := leBytes (cqeWord0 0 0x80 true (n == 2)) 4 ++ leBytes p.payload.length 4 ++ leBytes p.imm 4 ++
        leBytes (ch + 2 ^ 24 * c.gen) 4 ++ b.take 16
      let s := cqPut (cqReserve s g n) g (4 * clusterOf ch) head
      (.done 0, if n = 2 then cqPut s g (4 * clusterOf ch) ((b.drop 16).take 16 ++ List.replicate 16 0) else s)
  | _, _ => (.noSpace, s)

/-- RNDV_FIN executed (R316, R317). -/
def finExec (s : State) (ch : Nat) (p : Packet) : ExecOut × State :=
  match s.chan ch with
  | none => (.done 0, s)
  | some x =>
    match x.jobs.find? (fun j => j.op == opSendRts && j.started && j.firstPsn == p.rtsPsn && j.finStatus.isNone) with
    | some j => (.done 0, s.setChan ch (mapJob x j.id (fun k => { k with finStatus := some p.finStatus })))
    | none => (.done 0, (s.bump mtBase Reg.Mt.FIN_STALE_CNT).setEvt mtBase Reg.Mt.MT_EVENT 3)

/-- A request executed, or not (R252, R253, R496, R497). `space` tells that delivery space was reserved. A flagged packet
and a NOTIFY of a go-back-N channel wait until every earlier effect is visible. -/
def execReq (s : State) (ch : Nat) (p : Packet) (space : Bool) : ExecOut × State :=
  match s.chan ch with
  | none => (.done 0, s)
  | some x =>
    let c := x.ctx
    let later := !(isSr ch) && (p.rh.fence || p.op == opNotify) && !(x.rxVis.isEmpty)
    let readsOpen := p.rh.fence && p.op == opReadReq &&
      x.rsps.any (fun r => psnDist r.psn p.th.psn.toNat < 2 ^ 23 && !(readDone s r.read))
    if later || readsOpen then (.wait, s)
    else if p.op = opWrite then
      (match targetChunks s c.owner p.rkey p.raddr p.payload.length rRWrite true with
       | (.inl r, s) => (r, s)
       | (.inr l, s) =>
         if !space then (.noSpace, s)
         else
           let s := chanEv s ch 0x104 p.payload.length none (some p.raddr)
           let r := meshWrite s (.payload (clusterOf ch) ch p.th.psn.toNat) 1 l p.payload false
           (.done r.1, r.2))
    else if p.op = opReadReq then
      (match targetChunks s c.owner p.rkey p.raddr p.readLen rRRead false with
       | (.inl r, s) => (r, s)
       | (.inr l, s) =>
         if 4096 ≤ rspSlots s (clusterOf ch) then (.noSpace, s)
         else
           let r := meshRead s (.payload (clusterOf ch) ch) 1 l
           match r.2.chan ch with
           | none => (.done 0, r.2)
           | some y => (.done 0, r.2.setChan ch { y with rsps := y.rsps ++
               [{ psn := p.th.psn.toNat, n := p.readLen, chunks := l, read := r.1 }] }))
    else if p.op = opSendEager ∨ p.op = opSendRts then
      (match receiveSend s ch c.owner c.gen p space with
       | (.refuse, s) => (.refuse 5 6, s)
       | (.noSpace, s) => (.noSpace, s)
       | (.wait, s) => (.wait, s)
       | (.done k, s) => (.done k, s))
    else if p.op = opNotify then notifyExec s ch c p
    else finExec s ch p

/-- RCV_NXT moved past every PSN the scoreboard marks (R250). -/
def runScore (score : List Nat) : Nat → Nat → Nat × List Nat
  | 0, n => (n, score)
  | k + 1, n => if score.contains n then runScore (score.filter (· != n)) k (psnAdd n 1) else (n, score)

/-- The receive state after an execution (R248, R250, R251). -/
def advance (s : State) (ch : Nat) (p : Packet) (cmps : Nat) : State :=
  match s.chan ch with
  | none => s
  | some x =>
    let psn := p.th.psn.toNat
    let r := if isSr ch then runScore (x.score ++ [psn]) 1025 x.ctx.rcvNxt else (psnAdd x.ctx.rcvNxt 1, x.score)
    let c := { x.ctx with rcvNxt := r.1, nakPending := if isSr ch then x.ctx.nakPending else false }
    let due := p.th.ackreq || s.rd (tb ch) Reg.Tc.ACK_COALESCE ≤ x.unacked + 1
    let x : ChanSt := { x with
      ctx := c
      score := r.2
      vis := if cmps = 0 then x.vis else x.vis ++ [(psn, cmps)]
      unacked := x.unacked + 1
      ackAt := some (x.ackAt.getD s.now)
      ackDue := x.ackDue || due }
    let s := s.setChan ch x
    finishJobs (tryAck (if cmps = 0 then trailMark s (.recv ch psn) 3 else s) ch) ch

/-- A refusal under R252: the NAK, then ERROR (R234). -/
def refuse (s : State) (ch code err psn : Nat) : State := chanError (sendNak s ch code psn) ch err psn

/-- Steps 6 and 7 of R246 for a packet whose sequence is right: executed and the receive state advanced, refused, or left
to wait (`true`). A duplicate READ_REQ (`dup`) is executed without an advance (R249). -/
def step67 (s : State) (ch : Nat) (p : Packet) (dup space : Bool) : Bool × State :=
  match execReq s ch p space with
  | (.wait, s) => (true, s)
  | (.refuse code err, s) => (false, refuse s ch code err p.th.psn.toNat)
  | (.noSpace, s) => (false, sendNak s ch 4 p.th.psn.toNat)
  | (.done k, s) =>
    let key : TrailKey := .recv ch p.th.psn.toNat
    let s := trailDa (trailMark s key 2) key
    (false, if dup then s else advance s ch p k)

/-- A duplicate (R249, R251): discarded with an ACK due at once; a READ_REQ is executed again first. -/
def duplicate (s : State) (ch : Nat) (p : Packet) (space : Bool) : Bool × State :=
  let r := if p.op = opReadReq then step67 s ch p true space else (false, s)
  let live := ((r.2.chan ch).map (fun x => x.ctx.state == csOpen || x.ctx.state == csClosing)).getD false
  if r.1 || !live then r
  else (false, ackDue (chanEv (r.2.bump (tb ch) Reg.Tc.DUP_CNT) ch 0x107 1 none none) ch)

/-! ### The fence store (R214 to R216) -/

/-- The PSN has been executed on a selective-repeat channel. -/
def delivered (x : ChanSt) (psn : Nat) : Bool := 2 ^ 23 ≤ psnDist x.ctx.rcvNxt psn || x.score.contains psn

/-- A flagged packet may be delivered (R214): the packets before it have been executed and their effects are visible. -/
def fenceOpen (x : ChanSt) (p : Packet) : Bool :=
  let psn := p.th.psn.toNat
  let n := p.th.fenceCnt.toNat
  let below := psnDist x.ctx.rcvNxt psn
  x.rxVis.all (fun v => psnDist v.1 psn = 0 ∨ n + 1 < psnDist v.1 psn) &&
  -- only PSNs from RCV_NXT on can be missing
  (List.range (Nat.min (n + 1) (if below < 2 ^ 23 then below else 0))).all (fun i => delivered x (psnAdd psn (2 ^ 24 - 1 - i)))

/-- Space of the fence store in use, in flits (R215). -/
def fenceFlits (s : State) : Nat := s.route.fence.foldl (fun m h => m + h.pkt.flits) 0

/-- A flagged packet held, or refused for want of room (R215). -/
def fenceHold (s : State) (ch : Nat) (p : Packet) : State :=
  let mine := (s.route.fence.filter (fun h => h.channel == ch)).length
  if 4096 ≤ s.route.fence.length ∨ 32768 < fenceFlits s + p.flits ∨ s.rd atBase Reg.Atlas.FENCE_CHAN_MAX ≤ mine then
    sendNak (s.bump atBase Reg.Atlas.FENCE_FULL_CNT) ch 3 p.th.psn.toNat
  else
    let h : FenceHeld := { channel := ch, pkt := p, since := s.now }
    setFence s (s.route.fence ++ [h])

/-- Step 5 on (R248, R250). Answers whether the packet has to wait. -/
def sequence (s : State) (ch : Nat) (x : ChanSt) (p : Packet) (space : Bool) : Bool × State :=
  let psn := p.th.psn.toNat
  let d := psnDist x.ctx.rcvNxt psn
  if isSr ch then
    if 2 ^ 23 ≤ d ∨ x.score.contains psn then duplicate s ch p space
    else if 1024 ≤ d then (false, s.bump (tb ch) Reg.Tc.DUP_CNT)
    else if p.rh.fence then
      if s.route.fence.any (fun h => h.channel == ch && h.pkt.th.psn == p.th.psn) then (false, s)
      else if fenceOpen x p then step67 s ch p false space
      else (false, fenceHold s ch p)
    else step67 s ch p false space
  else if d = 0 then step67 s ch p false space
  else if 2 ^ 23 ≤ d then duplicate s ch p space
  else if x.ctx.nakPending && within s x.nakAt (s.rd (tb ch) Reg.Tc.NAK_REPEAT_NS) then (false, s)
  else (false, trailEnd (sendNak s ch 1 x.ctx.rcvNxt) (.recv ch psn) 1)

/-- Delivery space for a packet that has waited: an open value for what needs such space (R32, R253;
notes/assumptions/31.md). -/
def drawSpace (s : State) (p : Packet) : Bool × State :=
  if p.op = opWrite ∨ p.op = opSendEager then (s.drawn 1 == 1, s.spend) else (true, s)

/-- Held packets of a channel that have become deliverable, delivered in PSN order (R214). -/
def releaseFence (s : State) (ch : Nat) : Nat → State
  | 0 => s
  | k + 1 => match s.chan ch with
    | none => s
    | some x =>
      let open_ := (s.route.fence.filter (fun h => h.channel == ch && fenceOpen x h.pkt)).foldl
        (fun (b : Option FenceHeld) h => match b with
          | some y => if psnDist x.ctx.rcvNxt h.pkt.th.psn.toNat < psnDist x.ctx.rcvNxt y.pkt.th.psn.toNat then some h else b
          | none => some h) none
      match open_ with
      | none => s
      | some h =>
        let a := drawSpace s h.pkt
        let r := step67 (setFence a.2 (s.route.fence.erase h)) ch h.pkt false a.1
        if r.1 then setFence r.2 s.route.fence else releaseFence r.2 ch k

/-- Every held packet of the channel that may go goes. -/
def releaseAll (s : State) (ch : Nat) : State := releaseFence s ch (s.route.fence.length + 1)

/-! ### Receiving (R246) -/

/-- A CE mark of a packet received on the channel counted (R251, R264). -/
def countCe (s : State) (ch : Nat) (p : Packet) : State :=
  if !p.rh.ce then s
  else match s.chan ch with
    | none => s
    | some x =>
      let first := x.ctx.ecePend = 0
      let c := { x.ctx with ecePend := Nat.min (x.ctx.ecePend + 1) 0xFFFF }
      let s := (s.setChan ch { x with ctx := c, ackDue := x.ackDue || first }).bump (tb ch) Reg.Tc.CE_RCVD_CNT
      chanEv s ch 0x10B 1 none none

/-- Steps 2 to 7 of R246 on a resident context. Answers whether the packet has to wait. -/
def onContext (s : State) (ch : Nat) (p : Packet) (space : Bool) : Bool × State :=
  match s.chan ch with
  | none => (false, s)
  | some x =>
    let c := x.ctx
    let psn := p.th.psn.toNat
    let s := trailMark s (.recv ch psn) 1
    if p.rh.src.toNat ≠ c.remoteAddr ∨ p.endpoint ≠ c.localEp then
      (false, recordError ((s.bump (tb ch) Reg.Tc.MISMATCH_CNT).setEvt (tb ch) Reg.Tc.TP_EVENT 5)
        (ErrRec.contained (tpUnit ch) .misdelivery 2 ch))
    else if c.state = csClosed then (false, sendNak s ch 8 psn)
    else if c.state = csError then
      let code := if c.errCode = 6 then 5 else if c.errCode = 7 then 6 else 8
      (false, trailEnd (sendNak s ch code c.errPsn) (.recv ch psn) code)
    else if p.th.gen.toNat ≠ c.gen then (false, sendNak s ch 7 psn)
    else
      let s := countCe s ch p
      let r := sequence s ch ((s.chan ch).getD x) p space
      (r.1, if r.1 then r.2 else releaseAll (tryAck r.2 ch) ch)

/-- The owner of a packet's channel, as far as its context can be seen: on die, or in its store in the pool. -/
def ownerSeen (s : State) (ch : Nat) : Nat :=
  match s.chan ch with
  | some x => x.ctx.owner
  | none =>
    if s.on (tb ch) Reg.Tc.CTX_CFG_LOC then 1024
    else (Ctx.ofWords ((List.range 64).map (fun i => leNat (viewBytes s (ctxAddr s ch + 4 * i) 4)))).owner

/-- A packet that is neither executed nor held nor kept waiting is done with, so its sampled item ends (R536). -/
def trailSettle (s : State) (ch : Nat) (p : Packet) : State :=
  let k : TrailKey := .recv ch p.th.psn.toNat
  if s.gz.items.any (fun x => x.key == k && !x.ended && ((x.t[2]?).getD none).isNone) &&
      !(s.route.fence.any (fun h => h.channel == ch && h.pkt.th.psn == p.th.psn)) then trailEnd s k 0
  else s

/-- The packet with its CE mark taken, so that it is counted once. -/
def noCe (p : Packet) : Packet := { p with rh := { p.rh with ce := false } }

/-- A packet of the cluster has to wait, and every later one of its channel behind it. -/
def stall (s : State) (ch : Nat) (p : Packet) : State :=
  { s with tp := { s.tp with stalled := upd s.tp.stalled (clusterOf ch) [] (· ++ [p]) } }

/-- A channel request on its channel (R246): behind packets that wait, at once, or parked. -/
def receiveReq (s : State) (p : Packet) (space : Bool) : State :=
  let ch := p.th.channel.toNat
  let s := chanEv s ch 0x102 1 (some p.cls) none
  let s := if s.on gzBase Reg.Gz.TR_CFG_EN then
      trailStart s (recvItem s (4 * clusterOf ch + ch / 4 % 4) (ownerSeen s ch) p)
    else s
  if !(ctxExists s ch) then trailEnd (s.bump (tb ch) Reg.Tc.NOCTX_DROP_CNT) (.recv ch p.th.psn.toNat) 0
  else if (lookD s.tp.stalled (clusterOf ch) []).any (fun q => q.th.channel == p.th.channel) then stall s ch p
  else if (s.chan ch).isNone then park s ch p
  else
    let r := onContext s ch p space
    if r.1 then stall r.2 ch (noCe p) else trailSettle r.2 ch p

/-- NAK CTX_MISS after a fetch during which a packet was dropped, once the packets parked then have been handled (R257). -/
def missNak (s : State) (ch : Nat) : State :=
  match s.chan ch with
  | none => s
  | some x => match x.parkDrop with
    | none => s
    | some p =>
      if x.parkLeft ≠ 0 then s
      else
        let c := x.ctx
        let s := s.setChan ch { x with parkDrop := none }
        if p.rh.src.toNat = c.remoteAddr ∧ p.endpoint = c.localEp ∧ (c.state = csOpen ∨ c.state = csClosing) ∧
            p.th.gen.toNat = c.gen ∧ !c.nakPending then sendNak s ch 2 p.th.psn.toNat
        else s

/-- One more of the packets parked during the fetch has been handled (R257). -/
def parkedDone (s : State) (ch : Nat) : State :=
  match s.chan ch with
  | none => s
  | some x => if x.parkLeft = 0 then s else missNak (s.setChan ch { x with parkLeft := x.parkLeft - 1 }) ch

/-- The stalled packets of a cluster tried again, in order; a channel whose packet waits on holds its later ones. -/
def resumeGo (s : State) (c : Nat) : List Packet → List Nat → State
  | [], _ => s
  | p :: l, blocked =>
    let ch := p.th.channel.toNat
    if blocked.contains ch then resumeGo (stall s ch p) c l blocked
    else
      let a := drawSpace s p
      let r := onContext a.2 ch p a.1
      if r.1 then resumeGo (stall r.2 ch (noCe p)) c l (ch :: blocked)
      else resumeGo (parkedDone (trailSettle r.2 ch p) ch) c l blocked

/-- What waits on translations or visibility in a cluster tried again. -/
def resumeCluster (s : State) (c : Nat) : State :=
  let l := lookD s.tp.stalled c []
  if l.isEmpty then s else resumeGo { s with tp := { s.tp with stalled := put s.tp.stalled c [] } } c l []

/-- What waits anywhere for a translation, a key or visibility tried again. -/
def resumeAll (s : State) : State := tpSyncAll ((List.range 4).foldl resumeCluster (drainAll s))

/-- A NAK of class `cls` for a packet without a context of its own (R101, R204): to the packet's source; CHANNEL and GEN from
the resident context whose peer it is, otherwise open values. Its SRC is the packet's DST, with an open endpoint up to 66 in
place of a reserved one, which no device originates (R83; notes/assumptions/23.md). -/
def nakStray (s : State) (p : Packet) (code mode cls : Nat) : Packet × State :=
  let known := match s.chan p.th.channel.toNat with
    | some x => if x.ctx.remoteAddr = p.rh.src.toNat then some x.ctx else none
    | none => none
  let r : (Nat × Nat) × State := match known with
    | some c => ((c.remoteChannel, c.remoteGen), s)
    | none => ((s.drawn 20, s.spend.drawn 8), s.spend.spend)
  let e : Nat × State := if 66 < p.endpoint then (r.2.drawn 16 % 67, r.2.spend) else (p.endpoint, r.2)
  (Packet.originate
    { rh := mkRoute p.rh.src.toNat cls (p.rh.dst.toNat / 256 * 256 + e.1) mode 0 (lenOf 1 0) p.rh.flowhash.toNat (injEpoch s)
        false green
      th := mkTrans opNak 1 r.1.1 r.1.2 p.th.psn.toNat false false false 0 [code * 2 ^ 24]
      payload := []
      tr := { crc := 0, stomp := 0, reason := 0, dev := 0 } }, e.2)

/-- The endpoint number names something (R83). -/
def endpointReal (e : Nat) : Bool := e % 256 ≤ 66

/-- An attachment is absent: not upstream, or unused by its macro's bifurcation (R83, R405). An upstream attachment is always
bound to its functions (R412), so `not bound` is ROLE unused. -/
def attAbsent (s : State) (a : Nat) : Bool := s.rd (attBase a) Reg.Att.ATT_CFG_ROLE != 1 || attLanes s a == 0

/-- Endpoint reserved or absent (R83, R101). -/
def endpointAbsent (s : State) (e : Nat) : Bool := !(endpointReal e) || (e < 64 && attAbsent s e)

/-- The request opcodes of a channel (R246). -/
def requestOp (op : Nat) : Bool :=
  op == opWrite || op == opReadReq || op == opSendEager || op == opSendRts || op == opRndvFin || op == opNotify

/-- R93, R97 and R101 at a transport cluster: the packet is discarded and counted, or goes on. -/
def arriveGood (s : State) (c : Nat) (p : Packet) : Option State :=
  if clusterLost s c then some (s.bump atBase Reg.Atlas.NOROUTE_CNT)
  else if p.tr.stomp ≠ 0 then
    let s := s.bump (clusterBase c) Reg.Tc.STOMP_RCVD_CNT
    some (if p.oddStomp then s.bump (clusterBase c) Reg.Tc.MALFORMED_CNT else s)
  else if !p.whole then some (recordError s (ErrRec.contained (.cluster (idx 3 c)) .e2e 1 (2 ^ 24 * p.rh.dst.toNat + 112 + 3 * c)))
  else if p.malformed then
    some (recordError (s.bump (clusterBase c) Reg.Tc.MALFORMED_CNT) (ErrRec.contained (.cluster (idx 3 c)) .protocol 0 0))
  else if p.op ≠ opTunnel ∧ endpointAbsent s p.endpoint then
    if (p.cls = clsReq ∨ p.cls = clsL0) ∧ channelOp p.op ∧ endpointReal p.rh.src.toNat then
      let r := nakStray s p 9 0 (classOf opNak (isSr p.th.channel.toNat))
      some (inject (r.2.bumpi (clusterBase c) Reg.Tc.NAK_SENT_CNT 8) (112 + 3 * c) r.1)
    else some (s.bump (clusterBase c) Reg.Tc.MALFORMED_CNT)
  else none

/-- The first core port of a cluster whose oldest delivered packet satisfies `f`, with that packet (R31, R635). -/
def takeInbox (s : State) (ports : List Nat) (f : Packet → Bool) : Option (Packet × State) :=
  ports.findSome? (fun p => match lookD s.switch.inbox p [] with
    | x :: l => if f x then some (x, { s with switch := { s.switch with
          inbox := put s.switch.inbox p l
          mcTo := if x.rh.mc && p != 126 then put s.switch.mcTo p ((lookD s.switch.mcTo p []).drop 1) else s.switch.mcTo } }) else none
    | [] => none)

/-- The core ports of a transport cluster (R30, R635). -/
def tpPorts (c : Nat) : List Nat := [112 + 3 * c, 113 + 3 * c, 114 + 3 * c]

end Sys2Proof.Machine
end

