-- ==== Sys2Proof/Machine/SendOps.lean ====
section
/-!
DEFINITION. The sender's side of a channel (R240 to R245, R259 to R265, R513): which packet comes next, what lets it go, how
it is built, and what an acknowledgement retires.
-/
namespace Sys2Proof.Machine

/-! ### What is outstanding (R259, R261) -/

/-- A PSN is outstanding or a read tracker is held (R261). -/
def ChanSt.outstanding (x : ChanSt) : Bool := !x.sent.isEmpty || !x.trk.isEmpty

/-- The retransmit interval of the context in ns, doubled `k` times, at most 1 s (R261). -/
def rtoNs (c : Ctx) (k : Nat) : Nat := Nat.min (c.rtoUs * 2 ^ k * 1000) 1000000000

/-- The packets that `gone` names retire; SND_UNA moves to the oldest that is left (R259). -/
def retireWhere (x : ChanSt) (gone : SentPkt → Bool) : ChanSt :=
  let out := x.sent.filter gone
  let rest := x.sent.filter (fun p => !(gone p))
  let una := match rest with | p :: _ => p.psn | [] => x.high
  let nxt := if psnDist x.ctx.sndUna x.ctx.sndNxt < psnDist x.ctx.sndUna una then una else x.ctx.sndNxt
  let c := { x.ctx with sndUna := una, sndNxt := nxt }
  { x with
    ctx := c
    sent := rest
    jobs := x.jobs.map (fun j => { j with left := j.left - (out.filter (fun p => p.job == j.id)).length })
    resend := x.resend.filter (fun n => rest.any (fun p => p.psn == n))
    backoff := x.backoff.filter (fun n => n == una || psnDist x.ctx.sndUna una ≤ psnDist x.ctx.sndUna n) }

/-- Progress (R259): RETRY_CNT and RNR_CNT 0, the timer restarted at RTO_US, or stopped with nothing outstanding. -/
def progressed (s : State) (x : ChanSt) : ChanSt :=
  let c := { x.ctx with retryCnt := 0, rnrCnt := 0 }
  { x with ctx := c, timer := if x.outstanding then some (s.now + rtoNs c 0) else none }

/-- Every write, send, notify and rendezvous packet up to PSN `p` retires; READ_REQs wait for their responses (R259). -/
def retireTo (s : State) (x : ChanSt) (p : Nat) : ChanSt :=
  let una := x.ctx.sndUna
  let y := retireWhere x (fun q => q.op != opReadReq && psnDist una q.psn ≤ psnDist una p)
  if y.sent.length = x.sent.length then y else progressed s y

/-! ### The rate (R245, R265) -/

/-- The cut of R265 for an ACK or NAK that reports marks; no cut raises a rate above CC_MAX_MBPS. -/
def rateCut (s : State) (ch ece : Nat) : State :=
  match s.chan ch with
  | none => s
  | some x =>
    if ece = 0 || !x.ctx.ccEn || within s x.cutAt (s.rd (tb ch) Reg.Tc.CC_CUT_GAP_NS) then s
    else
      let r := x.ctx.rate
      let cut := Nat.max (s.rd (tb ch) Reg.Tc.CC_MIN_MBPS) (r - r * s.rd (tb ch) Reg.Tc.CC_CUT / 256)
      let c := { x.ctx with rate := Nat.min (s.rd (tb ch) Reg.Tc.CC_MAX_MBPS) cut }
      s.setChan ch { x with ctx := c, cutAt := some s.now, cutNow := true }

/-- When the next packet may start after one of `n` bytes that starts now: the time its bytes take at RATE_MBPS, rounded
up to whole ns (R245). -/
def spacingEnd (s : State) (c : Ctx) (n : Nat) : Nat :=
  if c.ccEn && c.rate != 0 then s.now + (n * 8000 + c.rate - 1) / c.rate else s.now

/-! ### The next packet (R240 to R243, R261, R263) -/

/-- The send window of a channel in PSNs (R241). -/
def windowOf (ch : Nat) : Nat := if isSr ch then 1024 else 2048

/-- What a channel sends next: a packet again, or the next one of a job. -/
inductive NextPkt | again (p : SentPkt) | fresh (j : Job) (p : SentPkt)
  deriving DecidableEq, Repr

/-- Bytes of the next packet that a job cuts (R240). -/
def cutLen (j : Job) : Nat :=
  let left := j.len - j.done_
  if j.op = opWrite ∨ j.op = opReadReq then Nat.min left (4096 - (j.raddr + j.done_) % 4096)
  else if j.op = opSendEager then Nat.min left 4096
  else if j.op = opNotify then left
  else 0

/-- The opcode's words of a job's packet (R102, R103). -/
def cutWords (j : Job) (n : Nat) : List Nat :=
  let a := (j.raddr + j.done_) % 2 ^ 64
  if j.op = opWrite then [j.rkey, a / 2 ^ 32, a % 2 ^ 32]
  else if j.op = opReadReq then [j.rkey, a / 2 ^ 32, a % 2 ^ 32, n]
  else if j.op = opSendEager then j.words ++ [j.done_]
  else j.words

/-- The next new packet of a job, with PSN `psn` (R240). -/
def cutPkt (c : Ctx) (j : Job) (psn : Nat) : SentPkt :=
  let n := cutLen j
  let last := (j.op != opWrite && j.op != opReadReq && j.op != opSendEager) || j.done_ + n == j.len
  let fence := j.fence && !j.started
  { psn := psn, job := j.id, op := j.op, first := !j.started, last := last, ackreq := last, fence := fence,
    fenceCnt := if fence then c.fenceSince else 0, words := cutWords j n, off := j.done_, n := n, marked := false,
    fast := false }

/-- The packet that a go-back-N channel sends again: the first at or after SND_NXT that has not retired. -/
def againGbn (x : ChanSt) : Option SentPkt :=
  x.sent.find? (fun p => psnDist x.ctx.sndUna x.ctx.sndNxt ≤ psnDist x.ctx.sndUna p.psn)

/-- What a channel would send next, if anything. -/
def nextPkt (ch : Nat) (x : ChanSt) : Option NextPkt :=
  let fresh := (x.jobs.find? (fun j => !j.cut)).map (fun j => NextPkt.fresh j (cutPkt x.ctx j x.high))
  if isSr ch then
    match x.resend.findSome? (fun n => x.sent.find? (fun p => p.psn == n)) with
    | some p => some (.again p)
    | none => fresh
  else if !x.backoff.isEmpty then none
  else if x.ctx.sndNxt ≠ x.high then
    match againGbn x with
    | some p => some (.again p)
    | none => fresh
  else fresh

/-- Read trackers of a cluster in use (R244). -/
def trackers (s : State) (c : Nat) : Nat := (chansOf s c).foldl (fun m kv => m + kv.2.trk.length) 0

/-- Rendezvous trackers of a cluster in use (R315). -/
def rndvTrackers (s : State) (c : Nat) : Nat :=
  (chansOf s c).foldl (fun m kv => m + (kv.2.jobs.filter (fun j => j.op == opSendRts && j.started)).length) 0

/-- Packets received for the cluster wait to be served. -/
def receivedWait (s : State) (c : Nat) : Bool := (tpPorts c).any (fun p => !(lookD s.switch.inbox p []).isEmpty)

/-- Packets received for the cluster wait to be served, or one of its channels has a packet to send again (R20). -/
def clusterBusy (s : State) (c : Nat) : Bool :=
  receivedWait s c ||
  (chansOf s c).any (fun kv => match nextPkt kv.1 kv.2 with | some (.again _) => true | _ => false)

/-- A new packet finds its window, trackers and delivery space (R20, R241, R244, R315). -/
def freshFits (s : State) (ch : Nat) (x : ChanSt) (p : SentPkt) (space : Bool) : Bool :=
  psnDist x.ctx.sndUna x.high < windowOf ch && !(receiveFirst s && clusterBusy s (clusterOf ch)) &&
  (p.op != opReadReq || (space && trackers s (clusterOf ch) < 8192 && x.trk.length < x.ctx.readMax)) &&
  (p.op != opSendRts || rndvTrackers s (clusterOf ch) < 4096)

/-! ### Payload (R242, R283) -/

/-- The payload of a packet: at hand, yet to be read from these pieces of the source, waiting, or failed. -/
inductive PayRes | have_ (b : List Byte) | read (l : List Chunk) | wait | fail
  deriving DecidableEq, Repr

/-- The payload of the packet that comes next; nothing but WRITE, SEND_EAGER and NOTIFY carries one. -/
def payloadOf (s : State) (x : ChanSt) (p : SentPkt) : PayRes × State :=
  if p.n = 0 ∨ p.op = opReadReq then (.have_ [], s)
  else match x.payload.bind (fun y => if y.1 = p.psn then some y.2 else none) with
    | some b => (.have_ b, s)
    | none =>
      if x.reading.isSome then (.wait, s)
      else match (x.jobs.find? (fun j => j.id == p.job)) with
        | none => (.have_ [], s)
        | some j => match j.data with
          | .bytes b => (.have_ ((b.drop p.off).take p.n), s)
          | .frags l => match fragChunks s j.fn rLRead (fun k => accKey false false true k) (fragPart l p.off p.n) [] with
            | (.ok c, s) => (.read c, specAhead s j.fn rLRead (fun k => accKey false false true k) l (p.off + p.n))
            | (.wait, s) => (.wait, s)
            | (_, s) => (.fail, s)

/-- The core port at which a packet enters the switch core: its host macro's when its payload comes from host memory
(R33), else the cluster's (notes/assumptions/22.md). -/
def injectPort (s : State) (ch : Nat) (x : ChanSt) (p : SentPkt) : Nat :=
  match (x.jobs.find? (fun j => j.id == p.job)).map Job.data with
  | some (.frags l) => match fragChunks s x.ctx.owner rLRead (fun k => accKey false false true k) (fragPart l p.off 1) [] with
    | (.ok (c :: _), _) => (match regionOf c.da with | .host a _ => 96 + a / 4 | _ => tpPort ch)
    | _ => tpPort ch
  | _ => tpPort ch

/-! ### Injection (R243, R244, R261, R510, R513) -/

/-- The flowlet decision that a go-back-N channel takes when a new packet finds nothing outstanding (R198, R243). -/
def newFlowlet (s : State) (ch : Nat) (x : ChanSt) (op n port : Nat) : Ctx × State :=
  if isSr ch || x.ctx.sndUna != x.high || !x.trk.isEmpty then (x.ctx, s)
  else
    let p := chanPacket s ch x.ctx op x.high false false false false 0 green [] (List.replicate n 0)
    let r := flowletDecision s p.rh { lvl := 0, arr := none, inPort := port }
    ({ x.ctx with flowLabel := r.1.1, waypt := r.1.2 }, r.2)

/-- The packet's shaper waits, counted once for the packet (R513, R517). -/
def holdShaper (s : State) (ch : Nat) (x : ChanSt) : State :=
  if x.shSince.isSome then s
  else shaperWaited (s.setChan ch { x with shSince := some s.now }) (.inj (idx 4095 x.ctx.shaper))

/-- The packet's meter returns red: held until the meter's next refill, counted once for the packet (R510, R515). -/
def holdMeter (s : State) (ch : Nat) (x : ChanSt) : State :=
  let s := s.setChan ch { x with mtHeld := true, mtWait := some x.ctx.meter }
  if x.mtHeld then s
  else chanEv (s.bump (base .meterBank) Reg.Mb.INJ_HOLD_CNT) ch 0x109 1 none none

/-- A new packet recorded as sent: PSN, window, fence count, tracker, its job's share (R240, R244). -/
def recordSent (x : ChanSt) (j : Job) (p : SentPkt) : ChanSt :=
  let nxt := psnAdd p.psn 1
  let c := { x.ctx with sndNxt := nxt, fenceSince := if p.fence then 0 else psnAdd x.ctx.fenceSince 1 }
  let g := fun (k : Job) => { k with
    done_ := k.done_ + p.n, left := k.left + 1, started := true, cut := p.last,
    firstPsn := if k.started then k.firstPsn else p.psn }
  let x := mapJob x j.id g
  { x with
    ctx := c
    high := nxt
    sent := x.sent ++ [p]
    trk := if p.op = opReadReq then x.trk ++ [{ psn := p.psn, job := j.id, off := p.off, n := p.n, late := j.killed }]
           else x.trk }

/-- A packet sent again: SND_NXT passes it, or it leaves the resend list. -/
def recordAgain (ch : Nat) (x : ChanSt) (p : SentPkt) : ChanSt :=
  if isSr ch then { x with resend := x.resend.filter (· != p.psn) }
  else
    let after := match x.sent.find? (fun q => psnDist x.ctx.sndUna p.psn < psnDist x.ctx.sndUna q.psn) with
      | some q => q.psn
      | none => x.high
    let c := { x.ctx with sndNxt := after }
    { x with ctx := c }

/-- Address of the first payload byte of a packet whose payload lies in memory (R525). -/
def payloadVa (x : ChanSt) (p : SentPkt) : Option Nat :=
  match (x.jobs.find? (fun j => j.id == p.job)).map Job.data with
  | some (.frags l) => ((fragPart l p.off p.n).head?).map (·.addr)
  | _ => none

/-- The packet injected with its payload and colour: spacing, shaper debit, timer, counters. -/
def injectPkt (s : State) (ch : Nat) (n : NextPkt) (b : List Byte) (colour : Nat) : State :=
  match s.chan ch with
  | none => s
  | some x =>
    let p := match n with | .again p => p | .fresh _ p => p
    let port := injectPort s ch x p
    let r := match n with | .again _ => (x.ctx, s) | .fresh _ _ => newFlowlet s ch x p.op b.length port
    let s := r.2
    let x : ChanSt := { x with ctx := r.1 }
    let pkt := chanPacket s ch x.ctx p.op p.psn p.first p.last p.ackreq p.fence p.fenceCnt colour p.words b
    let waited := match x.winSince with | some t => s.now - t | none => 0
    let shaped := match x.shSince with | some t => s.now - t | none => 0
    let s := match n with
      | .fresh j _ => (match j.src with
        | .wq g i _ _ _ => if p.first then
            trailDa (trailMark (trailUpd s (.send g i) (fun x => { x with psn := p.psn })) (.send g i) 2) (.send g i) else s
        | _ => s)
      | .again _ => s
    let y := match n with | .again _ => recordAgain ch x p | .fresh j _ => recordSent x j p
    let y : ChanSt := { y with
      payload := none
      nextStart := spacingEnd s y.ctx pkt.size
      timer := some (y.timer.getD (s.now + rtoNs y.ctx y.ctx.retryCnt))
      winSince := none
      shSince := none
      mtHeld := false
      mtWait := none }
    let s := s.setChan ch y
    let s := if y.ctx.shaperEn then shaperDebit s (shaperRef (.inj (idx 4095 y.ctx.shaper))) pkt.rh.len.toNat else s
    let s := if b.isEmpty then s else chanEv s ch 0x103 b.length none (payloadVa x p)
    let s := match n with | .again _ => chanEv s ch 0x105 1 none none | .fresh _ _ => s
    let s := if waited = 0 then s else chanEv s ch 0x108 waited none none
    let s := if shaped = 0 then s else chanEv s ch 0x10A shaped none none
    sendVia s ch port pkt

/-- Spacing, shaper and meter tested at one moment, then the injection (R245, R510, R513). -/
def gate (s : State) (ch : Nat) (x : ChanSt) (n : NextPkt) (b : List Byte) : State :=
  let p := match n with | .again p => p | .fresh _ p => p
  let len := lenOf ((thlenOf p.op (isSr ch)).getD 1) b.length
  if s.now < x.nextStart then s
  else if x.ctx.shaperEn && !(shaperOpen s (shaperRef (.inj (idx 4095 x.ctx.shaper)))) then holdShaper s ch x
  else if x.ctx.meterEn && x.mtWait == some x.ctx.meter && s.on (meterRef x.ctx.meter).entry Reg.Mtr.EN then s
  else if x.ctx.meterEn then
    let r := meterTest s x.ctx.meter len green
    if red ≤ r.1 then holdMeter s ch x
    else injectPkt (if s.on (meterRef x.ctx.meter).entry Reg.Mtr.EN then countColour r.2 x.ctx.meter r.1 else r.2) ch n b r.1
  else injectPkt s ch n b green

/-- The channel sends its next packet, as far as everything allows (R240 to R245, R513). A payload still in memory is
asked for first. -/
def sendNext (s : State) (ch : Nat) (space : Bool) : State :=
  match s.chan ch with
  | none => s
  | some x =>
    if (x.ctx.state ≠ csOpen ∧ x.ctx.state ≠ csClosing) ∨ !(mayOriginate s) then s
    else match nextPkt ch x with
      | none => s
      | some n =>
        let p := match n with | .again p => p | .fresh _ p => p
        let first := match n with | .again _ => receiveFirst s && receivedWait s (clusterOf ch) | .fresh _ _ => false
        let ok := match n with | .again _ => true | .fresh _ p => freshFits s ch x p space
        if first then s
        else if !ok then s.setChan ch { x with winSince := some (x.winSince.getD s.now) }
        else match payloadOf s x p with
          | (.wait, s) => s
          | (.fail, s) => chanError s ch 8 p.psn
          | (.read l, s) =>
            let r := meshRead s (.payload (clusterOf ch) ch) 2 l
            (match r.2.chan ch with
             | none => r.2
             | some y => r.2.setChan ch { y with reading := some (p.psn, r.1, l) })
          | (.have_ b, s) => (match s.chan ch with | none => s | some y => gate s ch y n b)

/-! ### Answers to the sender (R259 to R263) -/

/-- The PSNs that SACK reports are marked, and a gap below three of them is resent once (R259, R263). -/
def applySack (x : ChanSt) (p sack : Nat) : ChanSt :=
  let bitFor := fun (n : Nat) => let d := psnDist (psnAdd p 1) n; d < 64 && bitOf sack d
  let sent := x.sent.map (fun q => if bitFor q.psn then { q with marked := true } else q)
  let above := fun (n : Nat) => ((List.range 64).filter (fun i => bitOf sack i && psnDist (psnAdd p 1) n < i)).length
  let due := sent.filter (fun q => !q.marked && !q.fast && psnDist (psnAdd p 1) q.psn < 64 && 3 ≤ above q.psn)
  { x with
    sent := sent.map (fun q => if due.any (fun d => d.psn == q.psn) then { q with fast := true } else q)
    resend := x.resend ++ (due.map (·.psn)).filter (fun n => !(x.resend.contains n)) }

/-- An answer of the peer that R234, R238 and R259 let through: the channel's state, or nothing. -/
def answerOn (s : State) (p : Packet) : Option ChanSt :=
  match s.chan p.th.channel.toNat with
  | none => none
  | some x =>
    if (x.ctx.state = csOpen ∨ x.ctx.state = csClosing) ∧ p.rh.src.toNat = x.ctx.remoteAddr ∧ p.th.gen.toNat = x.ctx.gen
    then some x else none

/-- A stale answer counted (STALE_ACK_CNT). -/
def staleAnswer (s : State) (p : Packet) : State := s.bump (tb p.th.channel.toNat) Reg.Tc.STALE_ACK_CNT

/-- The CE mark of an answer on its channel counted, and the ACK it makes due sent (R251, R264). -/
def answerCe (s : State) (p : Packet) : State := tryAck (countCe s p.th.channel.toNat p) p.th.channel.toNat

/-- An ACK on its channel (R259). -/
def onAck (s : State) (p : Packet) : State :=
  let ch := p.th.channel.toNat
  match answerOn s p with
  | none => staleAnswer s p
  | some _ =>
    let s := rateCut (answerCe s p) ch p.ackEce
    match s.chan ch with
    | none => s
    | some x =>
      let n := p.th.psn.toNat
      if psnDist x.ctx.sndUna x.ctx.sndNxt ≤ psnDist x.ctx.sndUna n then staleAnswer s p
      else
        let y := retireTo s x n
        finishJobs (s.setChan ch (if isSr ch then applySack y n p.sack else y)) ch

/-- A refusal that asks for a packet again after the backoff (R260): RNR_CNT raised, or ERROR past RNR_MAX. -/
def backOff (s : State) (ch : Nat) (x : ChanSt) (n : Nat) : State :=
  if s.rd (tb ch) Reg.Tc.RNR_MAX ≤ x.ctx.rnrCnt then chanError s ch 2 x.ctx.sndUna
  else
    let c := { x.ctx with rnrCnt := x.ctx.rnrCnt + 1, sndNxt := if isSr ch then x.ctx.sndNxt else n }
    s.setChan ch { x with ctx := c, backoff := if isSr ch then addOnce x.backoff n else [n] }

/-- A NAK on its channel (R260). -/
def onNak (s : State) (p : Packet) : State :=
  let ch := p.th.channel.toNat
  match answerOn s p with
  | none => staleAnswer s p
  | some _ =>
    let code := if 1 ≤ p.nakCode ∧ p.nakCode ≤ 10 then p.nakCode else 8
    let s := chanEv (s.bumpi (tb ch) Reg.Tc.NAK_RCVD_CNT (code - 1)) ch 0x106 1 none none
    let s := rateCut (answerCe s p) ch p.nakEce
    match s.chan ch with
    | none => s
    | some x =>
      let e := p.th.psn.toNat
      if psnDist x.ctx.sndUna x.ctx.sndNxt < psnDist x.ctx.sndUna e then staleAnswer s p
      else if code = 1 then
        if isSr ch then s
        else if (match x.seqSeen with | some (k, t) => k == e && within s (some t) (s.rd (tb ch) Reg.Tc.NAK_REPEAT_NS) | none => false)
        then s
        else
          let y := if e = x.ctx.sndUna then x else retireTo s x (psnAdd e (2 ^ 24 - 1))
          let c := { y.ctx with sndNxt := e }
          finishJobs (s.setChan ch { y with ctx := c, seqSeen := some (e, s.now), backoff := [] }) ch
      else if code = 2 ∨ code = 4 then backOff s ch x e
      else if code = 3 then (if isSr ch then backOff s ch x e else s)
      else if (code = 5 ∨ code = 6 ∨ code = 9) ∧ x.ctx.state = csOpen then
        chanError s ch (if code = 5 then 3 else if code = 6 then 4 else 5) e
      else s

/-- A read tracker retires with its PSN (R262). -/
def retireTracker (s : State) (ch : Nat) (t : Tracker) : State :=
  match s.chan ch with
  | none => s
  | some x =>
    let y := retireWhere { x with trk := x.trk.filter (fun k => k.psn != t.psn) } (fun q => q.psn == t.psn)
    finishJobs (s.setChan ch (progressed s y)) ch

/-- The bytes of a READ_RSP delivered to what its job reads into: whether the answer may be taken now (`false` leaves it
waiting for a translation), and the state (R262, R296, R423). -/
def deliverRead (s : State) (ch : Nat) (t : Tracker) (j : Job) (p : Packet) : Bool × State :=
  let bad := p.poison
  let mark := fun (s : State) (g : Job → Job) => match s.chan ch with
    | some x => s.setChan ch (mapJob x j.id g)
    | none => s
  let poisoned := fun (s : State) => if bad then mark s (fun k => { k with poison := true }) else s
  match j.src with
  | .far a _ id _ =>
    let x := s.att a
    if t.late || !(x.far.any (fun q => q.id == id)) then (true, s.bump (attBase a) Reg.Att.FAR_LATE_CNT)
    else
      let far := x.far.map (fun q => if q.id == id then
        { q with got := put q.got t.off p.payload, bad := q.bad || bad } else q)
      (true, poisoned (s.setAtt a { x with far := far }))
  | _ => match j.data with
    | .bytes _ => (true, s)
    | .frags l =>
      match fragChunks s j.fn rLWrite (fun k => accKey true false true k) (fragPart l t.off t.n) [] with
      | (.wait, s) => (false, s)
      | (.ok c, s) =>
        let s := specAhead s j.fn rLWrite (fun k => accKey true false true k) l (t.off + t.n)
        let s := chanEv s ch 0x104 p.payload.length none (((fragPart l t.off t.n).head?).map (·.addr))
        let r := meshWrite s (.payload (clusterOf ch) ch (2 ^ 24 + t.psn)) 2 c p.payload bad
        let s := match r.2.chan ch with
          | some x => if r.1 = 0 then r.2 else r.2.setChan ch { x with vis := x.vis ++ [(2 ^ 24 + t.psn, r.1)] }
          | none => r.2
        (true, poisoned s)
      | (_, s) => (true, mark s (fun k => { k with writeFault := true }))

/-- A READ_RSP on its channel (R262). The state is `none` while its delivery waits. -/
def onReadRsp (s : State) (p : Packet) : Bool × State :=
  let ch := p.th.channel.toNat
  match answerOn s p with
  | none => (true, staleAnswer s p)
  | some x => match x.trk.find? (fun t => t.psn == p.th.psn.toNat) with
    | none => (true, (answerCe s p).bump (tb ch) Reg.Tc.DUP_CNT)
    | some t =>
      if p.payload.length ≠ t.n then
        (true, recordError ((answerCe s p).bump (tb ch) Reg.Tc.MALFORMED_CNT) (ErrRec.contained (tpUnit ch) .protocol 0 0))
      else match x.jobs.find? (fun j => j.id == t.job) with
        | none => (true, answerCe (retireTracker s ch t) p)
        | some j => match deliverRead s ch t j p with
          | (false, s) => (false, s)
          | (true, s) => (true, answerCe (retireTracker s ch t) p)

/-! ### Far-window accesses (R421 to R424) -/

/-- A non-resident channel's context asked for, when a slot is free (R237). -/
def wantCtx (s : State) (ch : Nat) : State :=
  if ((look s.tp.chans ch).map (·.fetching)).getD false || 512 ≤ fetches s (clusterOf ch) then s
  else match askSlot s (clusterOf ch) with
    | (.now, s) => startFetch s ch false none
    | (.later v, s) => startFetch s ch true (some v)
    | (.full, s) => s

/-- An RNDV_FIN that a domain reset owes is sent once its channel's context is on die, when the channel still is the one that
carried the SEND_RTS and is OPEN; until then the context is asked for (R237, R336). -/
def payFin (d : Nat) (s : State) (q : Nat × Nat × Nat) : State :=
  let paid := s.setDom d { s.dom d with owed := (s.dom d).owed.erase q }
  match s.chan q.1 with
  | some c => if c.ctx.state = csOpen ∧ c.ctx.gen = q.2.1 then addFin paid q.1 2 q.2.2 0 else paid
  | none => if ctxExists s q.1 then wantCtx s q.1 else paid

/-- Every domain's owed RNDV_FINs. -/
def payFins (s : State) : State := s.doms.foldl (fun t kv => kv.2.owed.foldl (payFin kv.1) t) s

/-- The RNDV_FINs owed on a channel whose context could not be read are not sent. -/
def finsFail (s : State) (ch : Nat) : State :=
  { s with doms := s.doms.map (fun kv => (kv.1, { kv.2 with owed := kv.2.owed.filter (fun q => q.1 != ch) })) }

/-- The job of a far-window access (R421, R422). -/
def farJob (s : State) (a : Nat) (q : FarAcc) : Job :=
  let b := attBase a + 32 * q.w
  let raddr := s.rd64 b Reg.FarWin.RADDR_LO Reg.FarWin.RADDR_HI + (q.off - s.rd64 b Reg.FarWin.BASE_LO Reg.FarWin.BASE_HI)
  match q.bytes with
  | some d => mkJob (.far a q.w q.id q.off) a opWrite raddr (s.rd b Reg.FarWin.RKEY) q.n (.bytes d) [] false
  | none => mkJob (.far a q.w q.id q.off) a opReadReq raddr (s.rd b Reg.FarWin.RKEY) q.n (.bytes []) [] false

/-- An access whose channel cannot take it ends (R423). -/
def farRefuse (s : State) (a : Nat) (q : FarAcc) : State :=
  match q.bytes with
  | none => farEnd s a q.id .completerAbort
  | some _ => farDropEvent s a q.w q.off

/-- Accesses that wait at an attachment join their channels, in order; the first whose context is missing has it fetched. -/
def farPump (s : State) (a : Nat) : Nat → State
  | 0 => s
  | k + 1 =>
    match (s.att a).farQ with
    | [] => s
    | q :: rest =>
      let go := s.setAtt a { s.att a with farQ := rest }
      match s.chan q.ch with
      | some x => farPump (if x.ctx.state = csOpen then addJob go q.ch (farJob s a q) false else farRefuse go a q) a k
      | none => if ctxExists s q.ch then wantCtx s q.ch else farPump (farRefuse go a q) a k

/-- Every attachment's waiting accesses tried again. -/
def farPumpAll (s : State) : State :=
  s.atts.foldl (fun t kv => if kv.2.farQ.isEmpty then t else farPump t kv.1 kv.2.farQ.length) s

/-- A channel whose context cannot be fetched ends the accesses that wait for it. -/
def farFail (s : State) (ch : Nat) : State :=
  s.atts.foldl (fun t kv => (kv.2.farQ.filter (fun q => q.ch == ch)).foldl (fun t q =>
    farRefuse (t.setAtt kv.1 { t.att kv.1 with farQ := (t.att kv.1).farQ.erase q }) kv.1 q) t) s

/-- An ended read's job: never sent where no PSN is taken, its trackers late (R424). -/
def farKill (s : State) (a ch id : Nat) : State :=
  let s := s.setAtt a { s.att a with farQ := (s.att a).farQ.filter (fun q => q.bytes.isSome || q.id != id) }
  let mine := fun (j : Job) => match j.src with | .far b _ k _ => b == a && k == id && j.op == opReadReq | _ => false
  match s.chanAny ch with
  | none => s
  | some x =>
    let jobs := x.jobs.filter (fun j => !(mine j && !j.started))
    let dead := (jobs.filter mine).map (·.id)
    finishJobs (s.setChan ch { x with
      jobs := jobs.map (fun j => if mine j then { j with killed := true, cut := true } else j)
      trk := x.trk.map (fun t => if dead.contains t.job then { t with late := true } else t) }) ch

end Sys2Proof.Machine
end

