-- ==== Sys2Proof/Machine/CollOps.lean ====
section
/-!
DEFINITION. The collective engine's shared operations (spec/10_collectives.md): the Outing table, the checks of a
contribution, collective packets, segments, results, aborts.
-/
namespace Sys2Proof.Machine

/-! ### The Outing table (R346, R347) -/

/-- Window of the collective unit. -/
def clBase : Nat := base .collective

/-- A field of slot `o`'s entry. -/
def ord (s : State) (o : Nat) (f : Field) : Nat := s.rdi clBase f o

/-- A field of slot `o`'s entry written. -/
def owr (s : State) (o : Nat) (f : Field) (v : Nat) : State := s.wri clBase f o v

/-- A child slot of slot `o`: kind and identity. -/
def childKind (s : State) (o k : Nat) : Nat := s.rd (clBase + 512 * o + 4 * k) Reg.Out.CHILD_KIND
/-- CHILD_ID of a child slot. -/
def childId (s : State) (o k : Nat) : Nat := s.rd (clBase + 512 * o + 4 * k) Reg.Out.CHILD_ID
/-- The function of a local child (CHILD_ID [25:16] of the word). -/
def childFn (s : State) (o k : Nat) : Nat := childId s o k % 1024

/-- The non-empty child slots, in order. -/
def childSlots (s : State) (o : Nat) : List Nat := (List.range 64).filter (fun k => childKind s o k != 0)

/-- The device children, in order. -/
def deviceChildren (s : State) (o : Nat) : List Nat := (List.range 64).filter (fun k => childKind s o k == 1)

/-- The functions of the local members, each once. -/
def memberFns (s : State) (o : Nat) : List Nat :=
  (((List.range 64).filter (fun k => childKind s o k == 2)).map (childFn s o)).foldl addOnce []

/-- STATE codes. -/
def oFree : Nat := 0
def oActive : Nat := 1
def oAborted : Nat := 2

/-- STATE of a slot. -/
def oState (s : State) (o : Nat) : Nat := ord s o Reg.Out.STATE

/-- What the engine holds for a slot. -/
def State.outing (s : State) (o : Nat) : OutingSt := lookD s.coll.slots o OutingSt.init

/-- The slot changed. -/
def State.setOuting (s : State) (o : Nat) (x : OutingSt) : State :=
  { s with coll := { s.coll with slots := put s.coll.slots o x } }

/-- The slot, not FREE, that holds an OID (R346). -/
def slotOfOid (s : State) (oid : Nat) : Option Nat :=
  (List.range 256).find? (fun o => oState s o != oFree && ord s o Reg.Out.OID == oid)

/-- DEPTH of a slot. -/
def depth (s : State) (o : Nat) : Nat := ord s o Reg.Out.DEPTH

/-- An event of the collective unit, its master OID[15:0] (R525). -/
def clEvent (s : State) (o code n : Nat) : State := cntCM s .collective code n none (some (ord s o Reg.Out.OID % 65536))

/-! ### Calls and segments (R354, R355) -/

/-- OP codes. -/
def opAllreduce : Nat := 0
def opReduce : Nat := 1
def opBroadcast : Nat := 2
def opBarrier : Nat := 3

/-- The window's width in bits; 0 in ordered mode. -/
def windowBits (rmode : Nat) : Nat := if rmode = 1 then 64 else if rmode = 2 then 128 else 0

/-- Wire width in bytes (R355). -/
def wireWidth (rmode dtype : Nat) : Nat := if rmode = 0 then dtWidth dtype else windowBits rmode / 8

/-- Elements per segment. -/
def perSeg (rmode dtype : Nat) : Nat := 4096 / wireWidth rmode dtype

/-- Segments of a call of `n` elements. -/
def segCount (rmode dtype n : Nat) : Nat := Nat.max 1 ((n + perSeg rmode dtype - 1) / perSeg rmode dtype)

/-- Elements of segment `j` of a call of `n` elements. -/
def segElems (rmode dtype n j : Nat) : Nat := Nat.min (perSeg rmode dtype) (n - j * perSeg rmode dtype)

/-- The combination is one of R354. -/
def comboGood (ordered : Bool) (rmode op func dtype len : Nat) : Bool :=
  if op = opBarrier then rmode == 0 && len == 0
  else if 10 ≤ dtype then false
  else if op = opBroadcast then rmode == 0
  else if rmode = 0 then
    (func == 0 && (!(dtFloat dtype) || ordered)) || func == 1 || func == 2 || (3 ≤ func && func ≤ 5 && !(dtFloat dtype))
  else rmode != 3 && func == 0 && dtFloat dtype

/-- The first PSN of a call, when the engine knows it: of call NEXT_CALL, or of the next while NEXT_CALL's segments are
known. -/
def callStart (s : State) (o call : Nat) : Option Nat :=
  let x := s.outing o
  let nc := ord s o Reg.Out.NEXT_CALL
  if call = nc then some x.start
  else if call = (nc + 1) % 65536 then
    (x.refs.find? (fun r => r.call == nc)).bind (fun r => r.segs.map (fun n => psnAdd x.start n))
  else none

/-- A segment's record, made on first use; SEG_CNT passes it (R355). -/
def touchSeg (s : State) (o psn call seg : Nat) : State :=
  let x := s.outing o
  if (look x.segs psn).isSome then s
  else
    let sg : SegSt := { call := call, seg := seg, last := false, inputs := [], out := none, sent := false, turned := false }
    let s := s.setOuting o { x with segs := put x.segs psn sg }
    if psnDist (ord s o Reg.Out.SEG_CNT) psn < 2 ^ 23 then owr s o Reg.Out.SEG_CNT (psnAdd psn 1) else s

/-- A segment changed. -/
def mapSeg (s : State) (o psn : Nat) (g : SegSt → SegSt) : State :=
  let x := s.outing o
  match look x.segs psn with
  | some k => s.setOuting o { x with segs := put x.segs psn (g k) }
  | none => s

/-! ### Packets (R106, R357, R360) -/

/-- The fields of a collective packet that the call gives (word 0x1C without RFLAGS, and SCALE). -/
def refWord (r : CollRef) : Nat :=
  r.call * 2 ^ 16 + r.rmode * 2 ^ 14 + r.op * 2 ^ 12 + r.func * 2 ^ 8 + r.dtype * 2 ^ 4

/-- A call that has no reference (a marker's). -/
def CollRef.blank : CollRef :=
  { call := 0, rmode := 0, op := 0, func := 0, dtype := 0, scale := 0, n := none, segs := none, least := 0, turns := 0 }

/-- A collective packet to endpoint 65 of a device. -/
def collPacket (s : State) (o : Nat) (up : Bool) (dev child psn : Nat) (r : CollRef) (seg : Nat) (last : Bool)
    (b : CollIn) : Packet :=
  let op := if up then opCollUp else opCollDown
  let oid := ord s o Reg.Out.OID
  Packet.originate
    { rh := mkRoute (256 * dev + 65) (classOf op false) (deviceId s * 256 + 65) (ord s o Reg.Out.ROUTE_MODE) 0
        (lenOf 2 b.bytes.length) (oid % 65536) (injEpoch s) false green
      th := mkTrans op 2 oid (ord s o Reg.Out.GEN) psn (seg == 0) last false 0
        [refWord r + b.flags, r.scale * 2 ^ 16 + seg, b.count, child]
      payload := b.bytes
      tr := { crc := 0, stomp := 0, reason := 0, dev := 0 } }

/-- The core port at which the collective engine injects (R360; notes/assumptions/22.md). -/
def clPort : Nat := 124

/-- A collective packet handed to the switch core. -/
def collSend (s : State) (p : Packet) : State := inject s clPort p

/-- Nothing: the data of a marker. -/
def CollIn.empty : CollIn := { bytes := [], count := 0, flags := 0 }

/-- The reference of a call. -/
def refOf (s : State) (o call : Nat) : CollRef :=
  ((s.outing o).refs.find? (fun r => r.call == call)).getD { CollRef.blank with call := call }

/-- Fields of an arriving collective packet. -/
def cCall (p : Packet) : Nat := p.w 0 / 2 ^ 16
/-- SEG. -/
def cSeg (p : Packet) : Nat := p.w 1 % 2 ^ 16
/-- COUNT. -/
def cCount (p : Packet) : Nat := p.w 2 % 2 ^ 16
/-- CHILD. -/
def cChild (p : Packet) : Nat := p.w 3 % 64
/-- RFLAGS. -/
def cFlags (p : Packet) : Nat := p.w 0 % 16
/-- The call's parameters as the packet gives them. -/
def cRef (p : Packet) : CollRef :=
  { call := cCall p, rmode := p.w 0 / 2 ^ 14 % 4, op := p.w 0 / 2 ^ 12 % 4, func := p.w 0 / 2 ^ 8 % 16,
    dtype := p.w 0 / 2 ^ 4 % 16, scale := p.w 1 / 2 ^ 16, n := none, segs := none, least := 0, turns := 0 }

/-! ### Aborts (R350, R369) -/

/-- Completion statuses of R371. -/
def stCollAborted : Nat := 0x28
def stCollMismatch : Nat := 0x29
def stCollBadOuting : Nat := 0x2A
def stCollSeq : Nat := 0x2B

/-- A contribution completes (R371). -/
def contribDone (s : State) (o : Nat) (k : Contrib) (status : Nat) : State :=
  completeWq s k.g k.index k.userId k.signal 0x04 status (ord s o Reg.Out.OID) (ord s o Reg.Out.GEN)
    (k.call + 2 ^ 16 * (if status = 0 then k.flags else 0))

/-- Reads of an Outing's contributions are forgotten. -/
def endReads (s : State) (x : OutingSt) : State :=
  x.contribs.foldl (fun t k => match k.reading with | some (id, _, _) => endRead t id | none => t) s

/-- The abort actions of R369, on an ACTIVE slot. `from_` is the neighbour an ABORT came from: none, the parent (`some
none`), or a child slot. -/
def abortOuting (s : State) (o cause : Nat) (from_ : Option (Option Nat)) : State :=
  if oState s o ≠ oActive then s
  else
    let x := s.outing o
    let s := (owr s o Reg.Out.STATE oAborted)
    let s := owr s o Reg.Out.ABORT_CAUSE cause
    let s := (s.bump clBase Reg.Cl.ABORT_CNT).setEvt clBase Reg.Cl.CL_EVENT 0
    let s := if ord s o Reg.Out.ROOT = 1 ∨ from_ = some none then s
      else collSend s (collPacket s o true (ord s o Reg.Out.PARENT) (ord s o Reg.Out.UP_SLOT) 0 CollRef.blank 0xFFFF false .empty)
    let s := (deviceChildren s o).foldl (fun t k =>
      if from_ = some (some k) then t
      else collSend t (collPacket t o false (childId t o k) 0 0 CollRef.blank 0xFFFF false .empty)) s
    let s := endReads s x
    let s := s.setOuting o { OutingSt.init with gen := x.gen }
    let s := x.contribs.foldl (fun t k => contribDone t o k stCollAborted) s
    (memberFns s o).foldl (fun t f => raiseEvent t f 0x38
      [ord t o Reg.Out.OID + 2 ^ 24 * ord t o Reg.Out.GEN, cause, ord t o Reg.Out.NEXT_CALL, 0]) s

/-! ### References (R353) -/

/-- The packet's or contribution's parameters agree with the reference. -/
def sameParams (a b : CollRef) : Bool :=
  a.rmode == b.rmode && a.op == b.op && a.func == b.func && a.dtype == b.dtype && a.scale == b.scale

/-- What a COLL_UP or COLL_DOWN segment says of its call's element count: joined into the reference, or none when it
differs. -/
def joinCount (r : CollRef) (seg count : Nat) (last : Bool) : Option CollRef :=
  let r' : Option CollRef := if r.op = opBroadcast ∨ r.op = opBarrier ∨ (r.op = opReduce ∧ count = 0) then some r
    else
      let full := perSeg r.rmode r.dtype
      let total := seg * full + count
      match r.n with
      | some n => if count = segElems r.rmode r.dtype n seg then some r else none
      | none => if last || count < full then (if total < r.least then none else some { r with n := some total })
          else some { r with least := Nat.max r.least total }
  r'.bind (fun r => match r.segs with
    | some k => if last = (seg + 1 == k) && seg < k then some r else none
    | none => some (if last then { r with segs := some (seg + 1) } else r))

/-- What a contribution of `n` elements says: joined into the reference, or none when it differs. -/
def joinContrib (r c : CollRef) (n : Nat) : Option CollRef :=
  if !(sameParams r c) then none
  else
    let k := segCount c.rmode c.dtype n
    match r.n, r.segs with
    | some m, _ => if m = n then some { r with segs := some k } else none
    | none, some j => if j = k ∧ r.least ≤ n then some { r with n := some n } else none
    | none, none => if r.least ≤ n then some { r with n := some n, segs := some k } else none

/-- The reference stored for its call. -/
def putRef (s : State) (o : Nat) (r : CollRef) : State :=
  let x := s.outing o
  s.setOuting o { x with refs := x.refs.filter (fun k => k.call != r.call) ++ [r] }

/-! ### Contributions (R351, R352) -/

/-- What taking a work entry comes to: it fails with a status, it cannot be taken yet, or it is taken. -/
inductive TakeRes | fail (status : Nat) | wait | taken
  deriving DecidableEq, Repr

/-- A contribution from the 64 bytes of its entry, and its call's parameters (R351). -/
def contribOf (g fn index userId : Nat) (signal : Bool) (b : List Byte) : Contrib × CollRef :=
  let w4 := leAt b 0x10 4
  let w5 := leAt b 0x14 4
  ({ id := 0, g := g, index := index, userId := userId, signal := signal, fn := fn, slot := bits (leAt b 4 4) 29 24,
     call := bits w4 15 0, len := leAt b 0x1C 4, src := { addr := leAt b 0x20 8, len := leAt b 0x28 4, lkey := leAt b 0x2C 4 },
     dst := { addr := leAt b 0x30 8, len := leAt b 0x1C 4, lkey := leAt b 0x38 4 }, next := 0, reading := none, got := 0,
     flags := 0, vis := [], toWrite := [] },
   { CollRef.blank with call := bits w4 15 0, rmode := bits w4 17 16, op := bits w4 21 20, func := bits w4 27 24,
                        dtype := bits w5 3 0, scale := bits w5 31 16 })

/-- Elements of a contribution. -/
def contribElems (k : Contrib) (r : CollRef) : Nat := if r.op = opBarrier then 0 else k.len / dtWidth r.dtype

/-- Check 2 of R352. -/
def contribFields (s : State) (o : Option Nat) (dkind : Nat) (k : Contrib) (r : CollRef) : Bool :=
  let ordered := match o with | some o => ord s o Reg.Out.ORDERED_OK == 1 | none => true
  dkind == 1 && comboGood ordered r.rmode r.op r.func r.dtype k.len && k.len < 2 ^ 31 &&
  (r.op == opBarrier || k.len % dtWidth r.dtype == 0) && segCount r.rmode r.dtype (contribElems k r) ≤ 65534

/-- R356 requires data of this member. -/
def needsData (r : CollRef) : Bool := r.op == opAllreduce || r.op == opReduce

/-- Check 9 of R352 on the two keys: passed, failed or waiting. -/
def contribKeys (s : State) (k : Contrib) (r : CollRef) : TakeRes × State :=
  if !(k.src.len = 0 ∨ k.src.len = k.len) || (needsData r && k.src.len != k.len) then (.fail stLocalKey, s)
  else
    let r1 : KeyRes × State := if k.src.len = 0 then (.ok 0, s) else keyCheck s k.fn k.src.lkey k.src.addr k.src.len rLRead
    match r1 with
    | (.bad, s) => (.fail stLocalKey, s)
    | (.wait, s) => (.wait, s)
    | (.ok _, s) =>
      let r2 : KeyRes × State := if k.dst.lkey = 0 then (.ok 0, s) else keyCheck s k.fn k.dst.lkey k.dst.addr k.len rLWrite
      match r2 with
      | (.bad, s) => (.fail stLocalKey, s)
      | (.wait, s) => (.wait, s)
      | (.ok _, s) => (.taken, s)

/-- A COLL_CONTRIB whose checks have passed is recorded, or aborts the Outing (R353). -/
def contribJoin (s : State) (o : Nat) (k : Contrib) (r : CollRef) : TakeRes × State :=
  let n := contribElems k r
  let old := ((s.outing o).refs.find? (fun q => q.call == r.call)).getD r
  match joinContrib old r n with
  | none => (.fail stCollMismatch, abortOuting s o 4 none)
  | some q =>
    let s := putRef s o q
    let x := s.outing o
    let k := { k with id := s.coll.nextId }
    let s := { s with coll := { s.coll with nextId := s.coll.nextId + 1 } }
    (.taken, s.setOuting o { x with contribs := x.contribs ++ [k], lastCall := put x.lastCall k.slot k.call })

/-- A COLL_CONTRIB taken (R352, R353): `ready` tells that the version INJ_EPOCH names is valid (check 5). -/
def collTake (s : State) (g fn index userId : Nat) (signal : Bool) (b : List Byte) (ready : Bool) : TakeRes × State :=
  let kr := contribOf g fn index userId signal b
  let k := kr.1
  let r := kr.2
  let slot := slotOfOid s (bits (leAt b 4 4) 19 0)
  if !(contribFields s slot (bits (leAt b 0 4) 11 10) k r) then (.fail stBadEntry, s)
  else match slot with
    | none => (.fail stCollBadOuting, s)
    | some o =>
      if childKind s o k.slot ≠ 2 ∨ childFn s o k.slot ≠ fn then (.fail stCollBadOuting, s)
      else if !ready then (.fail stNotReady, s)
      else if oState s o ≠ oActive then (.fail stCollAborted, s)
      else
        let nc := ord s o Reg.Out.NEXT_CALL
        let last := look (s.outing o).lastCall k.slot
        let follows := last == some ((k.call + 65535) % 65536)
        if last = some k.call ∨ !(k.call = nc ∨ follows) then (.fail stCollSeq, s)
        else if k.call ≠ nc ∧ k.call ≠ (nc + 1) % 65536 then (.wait, s)
        else match contribKeys s k r with
          | (.taken, s) => contribJoin s o k r
          | x => x

/-! ### Elements (R363 to R366) -/

/-- Element `i` of wire data. -/
def wireAt (b : List Byte) (w i : Nat) : Nat := beNat ((b.drop (w * i)).take w)

/-- A member's little-endian elements put into wire form (R363, R366). -/
def toWire (r : CollRef) (h : Nat) (b : List Byte) (n : Nat) : CollIn :=
  let w := dtWidth r.dtype
  (List.range n).foldl (fun m i =>
    let x := leAt b (w * i) w
    if r.rmode = 0 then { m with bytes := m.bytes ++ beBytes x w, count := m.count + 1 }
    else
      let y := toWindow (fmtOf r.dtype) x (signedOf r.scale 16) (windowBits r.rmode) h
      { bytes := m.bytes ++ beBytes y.1 (wireWidth r.rmode r.dtype), count := m.count + 1, flags := m.flags ||| y.2 }) .empty

/-- A result segment as a member's memory has it, and whether some element was rounded (R361, R364). -/
def fromWire (r : CollRef) (c : CollIn) : List Byte × Bool :=
  let w := wireWidth r.rmode r.dtype
  (List.range c.count).foldl (fun m i =>
    let x := wireAt c.bytes w i
    if r.rmode = 0 then (m.1 ++ leBytes x w, m.2)
    else
      let y := fromWindow (fmtOf r.dtype) x (windowBits r.rmode) (signedOf r.scale 16)
      (m.1 ++ leBytes y.1 (dtWidth r.dtype), m.2 || y.2)) ([], false)

/-- Two supplies combined element by element (R362, R364). -/
def combineIn (r : CollRef) (a b : CollIn) : CollIn :=
  let w := wireWidth r.rmode r.dtype
  { bytes := (List.range (Nat.min a.count b.count)).flatMap (fun i =>
      let x := wireAt a.bytes w i
      let y := wireAt b.bytes w i
      beBytes (if r.rmode = 0 then combine r.dtype r.func x y else (x + y) % 2 ^ windowBits r.rmode) w)
    count := Nat.min a.count b.count
    flags := a.flags ||| b.flags }

/-- NONFINITE of an ordered float segment: some input or result is NaN or infinite (R362). -/
def orderedFlags (r : CollRef) (l : List CollIn) : Nat :=
  if r.rmode = 0 && dtFloat r.dtype && needsData r &&
      l.any (fun c => (List.range c.count).any (fun i => (fmtOf r.dtype).nonfinite (wireAt c.bytes (dtWidth r.dtype) i))) then 2 else 0

/-- The supplies of a segment combined in slot order (R356, R362, R364). -/
def combineAll (r : CollRef) (l : List CollIn) : CollIn :=
  match l with
  | [] => .empty
  | c :: cs =>
    let acc := cs.foldl (combineIn r) c
    { acc with flags := acc.flags ||| orderedFlags r (acc :: l) }

/-! ### Reading sources (R356, R358) -/

/-- A contribution of a slot changed. -/
def mapContrib (s : State) (o id : Nat) (g : Contrib → Contrib) : State :=
  let x := s.outing o
  s.setOuting o { x with contribs := x.contribs.map (fun k => if k.id = id then g k else k) }

/-- The Basket slot of PSN `psn` still holds segment `psn − DEPTH` (R358). -/
def basketBusy (s : State) (o psn : Nat) : Bool := (look (s.outing o).segs (psnAdd psn (2 ^ 24 - depth s o))).isSome

/-- The member supplies data to its segments: at the root device only, for a broadcast (R356). -/
def supplies (s : State) (o : Nat) (k : Contrib) (r : CollRef) : Bool :=
  needsData r || (r.op == opBroadcast && ord s o Reg.Out.ROOT == 1 && k.src.len != 0 &&
    !((s.outing o).contribs.any (fun q => q.call == k.call && q.slot < k.slot && q.src.len != 0)))

/-- A supply recorded for a segment (R356). -/
def supply (s : State) (o psn call seg child : Nat) (last : Bool) (c : CollIn) : State :=
  mapSeg (touchSeg s o psn call seg) o psn (fun k =>
    { k with inputs := put k.inputs child c, last := k.last || last })

/-- During receive-first, contributions of child devices that wait at the engine's core ports go before those of local hosts
(R20). -/
def childrenFirst (s : State) : Bool :=
  receiveFirst s && [124, 125].any (fun p => (lookD s.switch.inbox p []).any (fun x => x.op == opCollUp))

/-- The next segment of a contribution begun: its read started, or a marker supplied. -/
def startRead (s : State) (o : Nat) (k : Contrib) : State :=
  if childrenFirst s then s else
  let r := refOf s o k.call
  match callStart s o k.call, r.segs with
  | some b, some n =>
    let psn := psnAdd b k.next
    if k.reading.isSome ∨ n ≤ k.next ∨ basketBusy s o psn then s
    else
      let e := if supplies s o k r then segElems r.rmode r.dtype (contribElems k r) k.next else 0
      if e = 0 then
        mapContrib (supply s o psn k.call k.next k.slot (k.next + 1 == n) .empty) o k.id (fun q => { q with next := q.next + 1 })
      else
        let w := dtWidth r.dtype
        match fragChunks s k.fn rLRead (fun x => accKey false false true x)
            (fragPart [k.src] (k.next * perSeg r.rmode r.dtype * w) (e * w)) [] with
        | (.ok l, s) =>
          let s := specAhead s k.fn rLRead (fun x => accKey false false true x) [k.src] ((k.next * perSeg r.rmode r.dtype + e) * w)
          let m := meshRead s .coll 2 l
          mapContrib m.2 o k.id (fun q => { q with reading := some (m.1, l, k.next) })
        | (.wait, s) => s
        | (_, s) => abortOuting s o 5 none
  | _, _ => s

/-! ### Results (R357, R358, R361, R364) -/

/-- Result bytes of a contribution written, when they translate (R361). -/
def writeResult (s : State) (o : Nat) (k : Contrib) (seg : Nat) (b : List Byte) : State :=
  let r := refOf s o k.call
  let off := seg * perSeg r.rmode r.dtype * dtWidth r.dtype
  match fragChunks s k.fn rLWrite (fun x => accKey true false true x) (fragPart [k.dst] off b.length) [] with
  | (.ok l, s) =>
    let m := meshWrite s (.coll (65536 * k.id + seg)) 2 l b false
    mapContrib m.2 o k.id (fun q => { q with
      toWrite := q.toWrite.filter (fun t => t.1 != seg)
      vis := if m.1 = 0 then q.vis else q.vis ++ [(seg, m.1)] })
  | (.wait, s) => s
  | (_, s) => abortOuting s o 5 none

/-- A segment whose result has come and whose local delivery is visible leaves; its Basket slot is free (R358). -/
def dropSegs (s : State) (o : Nat) : State :=
  let x := s.outing o
  s.setOuting o { x with segs := x.segs.filter (fun kv => !(kv.2.turned &&
    x.contribs.all (fun k => k.call != kv.2.call ||
      (k.toWrite.all (fun t => t.1 != kv.2.seg) && k.vis.all (fun t => t.1 != kv.2.seg))))) }

/-- Contributions with every segment of their call delivered and visible complete (R361). -/
def finishContribs (s : State) (o : Nat) : State :=
  let x := s.outing o
  let done_ := x.contribs.filter (fun k =>
    (refOf s o k.call).segs == some k.got && k.vis.isEmpty && k.toWrite.isEmpty)
  let s := s.setOuting o { x with contribs := x.contribs.filter (fun k => !(done_.any (fun d => d.id == k.id))) }
  done_.foldl (fun t k => contribDone t o k 0) s

/-- Result units that every device child has passed are freed (R358). -/
def dropResults (s : State) (o : Nat) : State :=
  let x := s.outing o
  let d := depth s o
  let passed := fun (psn k : Nat) =>
    let n := psnAdd psn d
    (match look x.segs n with | some g => (look g.inputs k).isSome | none => false) ||
    (psnDist n (lookD x.due k 0) != 0 && psnDist n (lookD x.due k 0) < 2 ^ 23)
  let kids := deviceChildren s o
  let shown := fun (psn : Nat) => (look x.segs psn).isNone
  s.setOuting o { x with results := x.results.filter (fun kv => !(shown kv.1 && kids.all (passed kv.1))) }

/-- Call NEXT_CALL ends once all its segments have turned: NEXT_CALL and the first PSN of the next move on (R347, R353). -/
def endCall (s : State) (o : Nat) : State :=
  let x := s.outing o
  let nc := ord s o Reg.Out.NEXT_CALL
  match x.refs.find? (fun r => r.call == nc) with
  | some r => (match r.segs with
    | some n => if r.turns < n then s else owr (s.setOuting o { x with start := psnAdd x.start n }) o Reg.Out.NEXT_CALL ((nc + 1) % 65536)
    | none => s)
  | none => s

/-- References that no call, segment or result needs any longer are forgotten. -/
def dropRefs (s : State) (o : Nat) : State :=
  let x := s.outing o
  let nc := ord s o Reg.Out.NEXT_CALL
  s.setOuting o { x with refs := x.refs.filter (fun r =>
    r.call == nc || r.call == (nc + 1) % 65536 || x.contribs.any (fun k => k.call == r.call) ||
    x.segs.any (fun kv => kv.2.call == r.call) || x.results.any (fun kv => kv.2.call == r.call)) }

/-- Everything an Outing can do of itself: results written, segments and contributions ended, sources read. -/
def collPump (s : State) (o : Nat) : State :=
  let s := (s.outing o).contribs.foldl (fun t k => k.toWrite.foldl (fun t w =>
    if oState t o = oActive then writeResult t o k w.1 w.2 else t) t) s
  let s := dropRefs (finishContribs (dropResults (dropSegs s o) o) o) o
  (s.outing o).contribs.foldl (fun t k => if oState t o = oActive then startRead t o k else t) s

/-- Every Outing in use. -/
def collPumpAll (s : State) : State := s.coll.slots.foldl (fun t kv => if oState t kv.1 = oActive then collPump t kv.1 else t) s

/-- A segment turns at this device (R357, R361): delivered to the local members, sent on to the device children, kept in
its result unit. -/
def turnSeg (s : State) (o psn : Nat) (g : SegSt) (last : Bool) (c : CollIn) : State :=
  let r := refOf s o g.call
  let mem := (fromWire r c).1
  let root := ord s o Reg.Out.ROOT == 1
  let body := if r.op = opReduce then { c with bytes := [], count := 0 } else c
  let here := if r.op = opReduce ∧ !root then ([] : List Byte) else mem
  let x := s.outing o
  let give := fun (k : Contrib) => if k.call = g.call then
      { k with got := k.got + 1, flags := k.flags ||| c.flags,
               toWrite := if k.dst.lkey = 0 || here.isEmpty then k.toWrite else k.toWrite ++ [(g.seg, here)] } else k
  let res : CollRes := { call := g.call, seg := g.seg, last := last, body := body }
  let s := s.setOuting o { x with
    contribs := x.contribs.map give
    segs := put x.segs psn { g with turned := true }
    results := put x.results psn res
    retry := 0
    refs := x.refs.map (fun q => if q.call = g.call then { q with turns := q.turns + 1 } else q) }
  let s := (deviceChildren s o).foldl (fun t k =>
    (collSend t (collPacket t o false (childId t o k) 0 psn r g.seg last body)).bump clBase Reg.Cl.SEG_DOWN_CNT) s
  collPump (endCall (endCall s o) o) o

end Sys2Proof.Machine
end

