-- ==== Sys2Proof/Machine/Collective.lean ====
section
/-!
DEFINITION. The collective engine's commands (spec/10_collectives.md).
-/
namespace Sys2Proof.Machine

/-! ### Outing commands (R348, R350, R370, R373) -/

/-- Basket units an entry asks for (R348). -/
def basketUnits (s : State) (o : Nat) : Nat :=
  if ord s o Reg.Out.ORDERED_OK = 1 then depth s o * ((childSlots s o).length + 2) else depth s o * 2

/-- The entry passes the checks of R348 but for Basket space. -/
def entryGood (s : State) (o : Nat) : Bool :=
  let oid := ord s o Reg.Out.OID
  1 ≤ ord s o Reg.Out.GEN && 1 ≤ depth s o && depth s o ≤ 16 && ord s o Reg.Out.HEADROOM ≤ 20 &&
  ord s o Reg.Out.ROUTE_MODE != 3 && !(childSlots s o).isEmpty &&
  (List.range 256).all (fun p => p == o || oState s p == oFree || ord s p Reg.Out.OID != oid) &&
  (childSlots s o).all (fun k =>
    if childKind s o k = 1 then childId s o k != deviceId s
    else childKind s o k == 2 && s.rdi (base (.cluster 0)) Reg.FnTab.FN_VALID (childFn s o k) == 1)

/-- The slot takes its entry: units reserved, counters 0, ACTIVE, the members told (R348, R370, R372). -/
def activate (s : State) (o units : Nat) : State :=
  let s := s.wr clBase Reg.Cl.BASKET_FREE (s.rd clBase Reg.Cl.BASKET_FREE - units)
  let s := owr (owr (owr (owr (owr s o Reg.Out.BASKET_UNITS units) o Reg.Out.NEXT_CALL 0) o Reg.Out.SEG_CNT 0) o
    Reg.Out.STATE oActive) o Reg.Out.ABORT_CAUSE 0
  let s := s.setOuting o { OutingSt.init with gen := ord s o Reg.Out.GEN }
  (memberFns s o).foldl (fun t f => raiseEvent t f 0x39
    [ord t o Reg.Out.OID + 2 ^ 24 * ord t o Reg.Out.GEN, 0, 0, 0]) s

/-- Basket units given back. -/
def freeBasket (s : State) (o : Nat) : State :=
  owr (s.wr clBase Reg.Cl.BASKET_FREE (s.rd clBase Reg.Cl.BASKET_FREE + ord s o Reg.Out.BASKET_UNITS)) o
    Reg.Out.BASKET_UNITS 0

/-- CREATE: RESULT and the state (R348). -/
def runCreate (s : State) (o : Nat) : Nat × State :=
  if oState s o ≠ oFree then (2, s)
  else if !(entryGood s o) then (3, s)
  else if s.rd clBase Reg.Cl.BASKET_FREE < basketUnits s o then (4, s)
  else (0, activate s o (basketUnits s o))

/-- ABORT (R350, R369). -/
def runAbort (s : State) (o : Nat) : Nat × State :=
  if oState s o = oFree then (2, s) else (0, abortOuting s o 1 none)

/-- REBUILD (R370). The old GEN is the one the slot was made ACTIVE with. -/
def runRebuild (s : State) (o : Nat) : Nat × State :=
  if oState s o ≠ oAborted then (2, s)
  else if !(entryGood s o) || (s.outing o).gen == ord s o Reg.Out.GEN then (3, s)
  else if s.rd clBase Reg.Cl.BASKET_FREE + ord s o Reg.Out.BASKET_UNITS < basketUnits s o then (4, s)
  else
    let t := freeBasket s o
    (0, activate t o (basketUnits s o))

/-- DESTROY (R350). -/
def runDestroy (s : State) (o : Nat) : Nat × State :=
  if oState s o = oFree then (2, s)
  else
    let s := freeBasket (abortOuting s o 1 none) o
    (0, (owr (owr s o Reg.Out.STATE oFree) o Reg.Out.ABORT_CAUSE 0).setOuting o OutingSt.init)

/-- GO of OUT_CMD on the slot that OUT_CMD_SLOT names (R373). -/
def outCmd (r : Route) (op : Nat) (run : State → Nat → Nat × State) (s : State) : State :=
  guarded s r (clBase + 0x40) (fun s =>
    if unitOff s .collective then s
    else if s.on clBase Reg.Cl.OUT_STATUS_BUSY then accViol s r .cmdBusy (clBase + 0x40)
    else
      let x := run (s.wr clBase Reg.Cl.OUT_CMD_OP op) (s.rd clBase Reg.Cl.OUT_CMD_SLOT)
      x.2.wr clBase Reg.Cl.OUT_STATUS_RESULT x.1)

/-- CREATE (R348, R350). -/
def execOutingCreate (r : Route) (s : State) : Host.Outcome State Fault Refusal := .next (outCmd r 1 runCreate s)
/-- ABORT (R350, R369). -/
def execOutingAbort (r : Route) (s : State) : Host.Outcome State Fault Refusal := .next (outCmd r 2 runAbort s)
/-- REBUILD (R350, R370). -/
def execOutingRebuild (r : Route) (s : State) : Host.Outcome State Fault Refusal := .next (outCmd r 3 runRebuild s)
/-- DESTROY (R350). -/
def execOutingDestroy (r : Route) (s : State) : Host.Outcome State Fault Refusal := .next (outCmd r 4 runDestroy s)

/-! ### Segments (R356 to R359) -/

/-- COLL_SOURCE_READ_DONE (R356, R363, R369): the read of a member's segment returns, or one that waits begins. -/
def execCollSourceReadDone (o : Fin 256) (k : Fin 64) (data : Option (List Byte)) (s : State) : Host.Outcome State Fault Refusal :=
  let o := o.val
  match (s.outing o).contribs.find? (fun c => c.slot == k.val && c.reading.isSome) with
  | none => .next (if oState s o = oActive then collPump s o else s)
  | some c => match c.reading, callStart s o c.call with
    | some (id, l, seg), some b =>
      if !(readDone s id) then .next s
      else
        let r := refOf s o c.call
        let d := readData s id l (data.getD [])
        let s := endRead s id
        if d.2 || (data.isNone && outside l) then .next (abortOuting s o 5 none)
        else
          let n := segElems r.rmode r.dtype (contribElems c r) seg
          let w := toWire r (ord s o Reg.Out.HEADROOM) d.1 n
          let s := supply s o (psnAdd b seg) c.call seg c.slot (r.segs == some (seg + 1)) w
          .next (collPump (mapContrib s o c.id (fun q => { q with reading := none, next := seg + 1 })) o)
    | _, _ => .next s

/-- The lowest PSN of an Outing whose segment every child has supplied and which is not combined. -/
def readySeg (s : State) (o : Nat) : Option (Nat × SegSt) :=
  let x := s.outing o
  let e := ord s o Reg.Out.SEG_CNT
  (x.segs.filter (fun kv => kv.2.out.isNone && (childSlots s o).all (fun k => (look kv.2.inputs k).isSome))).foldl
    (fun (b : Option (Nat × SegSt)) kv => match b with
      | some y => if psnDist kv.1 e < psnDist y.1 e then b else some kv
      | none => some kv) none

/-- The combined supplies of a segment: the one that brings data for a broadcast, nothing for a barrier (R356, R362, R364). -/
def segResult (r : CollRef) (l : List CollIn) : CollIn :=
  if r.op = opBarrier then .empty
  else if r.op = opBroadcast then (l.find? (fun c => c.count != 0)).getD .empty
  else combineAll r l

/-- The root's RFLAGS: its own conversion's INEXACT_OUT added (R365). -/
def rootFlags (r : CollRef) (c : CollIn) : CollIn :=
  if r.rmode = 0 then c else { c with flags := c.flags ||| (if (fromWire r c).2 then 4 else 0) }

/-- SEGMENT_COMBINE (R356 to R358, R362 to R365): the Outing's oldest segment that all children have supplied. -/
def execSegmentCombine (o : Fin 256) (s : State) : Host.Outcome State Fault Refusal :=
  let o := o.val
  if oState s o ≠ oActive then .next s
  else match readySeg s o with
    | none => .next s
    | some (psn, g) =>
      if basketBusy s o psn then .next s
      else
        let r := refOf s o g.call
        let l := (childSlots s o).filterMap (fun k => look g.inputs k)
        let root := ord s o Reg.Out.ROOT == 1
        if r.op = opBroadcast ∧ root ∧ r.n ≠ some 0 ∧ l.all (fun c => c.count == 0) then .next (abortOuting s o 4 none)
        else
          let c := segResult r l
          let kids := (deviceChildren s o).filterMap (fun k => look g.inputs k)
          let clipped := bitOf c.flags 0 && kids.all (fun q => !(bitOf q.flags 0))
          let s := clEvent (clEvent s o 0x100 1) o 0x101 (l.foldl (fun m q => m + q.bytes.length) 0)
          let s := if clipped then clEvent (s.bump clBase Reg.Cl.CLIP_CNT) o 0x102 1 else s
          if root then .next (turnSeg s o psn { g with out := some c } g.last (rootFlags r c))
          else
            let s := mapSeg s o psn (fun q => { q with out := some c, sent := true })
            .next (collPump (collSend s (collPacket s o true (ord s o Reg.Out.PARENT) (ord s o Reg.Out.UP_SLOT) psn r g.seg g.last
              (if r.op = opBroadcast then .empty else c))) o)

/-! ### Receiving (R359, R368) -/

/-- A packet discarded and counted (R359). -/
def collDiscard (s : State) : State := (s.bump clBase Reg.Cl.COLL_DISCARD_CNT).setEvt clBase Reg.Cl.CL_EVENT 1

/-- A packet that the Outing checks of R359 find to be no packet of an Outing held here (R349, R596, R603; notes/assumptions/80.md). -/
def collStray (s : State) (p : Packet) : State :=
  recordError (collDiscard s) (ErrRec.contained .collective .misdelivery 3 p.th.channel.toNat)

/-- A collective packet that R31, R93, R97 and R101 let through; every other packet is discarded, and counted. -/
def collGood (s : State) (p : Packet) : Option State :=
  if unitOff s .collective then some s
  else if p.tr.stomp ≠ 0 then some (collDiscard s)
  else if !p.whole then some (recordError s (ErrRec.contained .collective .e2e 1 (2 ^ 24 * p.rh.dst.toNat + 124)))
  else if p.malformed then
    some (recordError (collDiscard s) (ErrRec.contained .collective .protocol 0 0))
  else if p.op ≠ opCollUp ∧ p.op ≠ opCollDown then some (collDiscard s)
  else none

/-- The oldest segment a device child has not supplied (R359). -/
def dueOf (s : State) (o k : Nat) : Nat := lookD (s.outing o).due k 0

/-- The oldest PSN from `e` on that child `k` has not supplied. -/
def advanceDue (x : OutingSt) (k : Nat) : Nat → Nat → Nat
  | 0, e => e
  | n + 1, e => match look x.segs e with
    | some g => if (look g.inputs k).isSome then advanceDue x k n (psnAdd e 1) else e
    | none => e

/-- A COLL_UP that R359 accepts (R353, R356). -/
def acceptUp (s : State) (o k : Nat) (p : Packet) : State :=
  let psn := p.th.psn.toNat
  let r := cRef p
  let old := ((s.outing o).refs.find? (fun q => q.call == r.call)).getD r
  match (if sameParams old r then joinCount old (cSeg p) (cCount p) p.th.last else none) with
  | none => abortOuting s o 4 none
  | some q =>
    let s := (putRef s o q).bump clBase Reg.Cl.SEG_UP_CNT
    let s := supply s o psn r.call (cSeg p) k p.th.last { bytes := p.payload, count := cCount p, flags := cFlags p }
    let x := s.outing o
    collPump (s.setOuting o { x with due := put x.due k (advanceDue x k 17 (lookD x.due k 0)) }) o

/-- A COLL_UP below the window (R368): the result again, HOLD, or nothing. -/
def dupUp (s : State) (o k : Nat) (p : Packet) : State :=
  let psn := p.th.psn.toNat
  let s := s.bump clBase Reg.Cl.COLL_DUP_CNT
  let x := s.outing o
  match look x.results psn with
  | some r => (collSend s (collPacket s o false (childId s o k) 0 psn (refOf s o r.call) r.seg r.last r.body)).bump clBase
      Reg.Cl.SEG_DOWN_CNT
  | none => if (look x.segs psn).isSome then
      collSend s (collPacket s o false (childId s o k) 0 psn { CollRef.blank with call := cCall p } 0xFFFE false .empty)
    else s

/-- A packet taken at the engine that is no COLL_DOWN (R31, R349, R359, R368, R369). -/
def collUp (s : State) (p : Packet) : State :=
  match collGood s p with
  | some s => s
  | none =>
    let k := cChild p
    match slotOfOid s p.th.channel.toNat with
    | none => collStray s p
    | some o =>
      if ord s o Reg.Out.GEN ≠ p.th.gen.toNat ∨ childKind s o k ≠ 1 ∨ p.rh.src.toNat ≠ 256 * childId s o k + 65 then
        collStray s p
      else if cSeg p = 0xFFFF then abortOuting s o 2 (some (some k))
      else if oState s o ≠ oActive then collDiscard s
      else
        let psn := p.th.psn.toNat
        let e := dueOf s o k
        if psnDist e psn < depth s o then
          if (match look (s.outing o).segs psn with | some g => (look g.inputs k).isSome | none => false) then
            dupUp s o k p
          else acceptUp s o k p
        else if 2 ^ 23 ≤ psnDist e psn then dupUp s o k p
        else collDiscard s

/-- COLL_UP_RECEIVE (R357, R364, R366): the oldest packet at the engine that is no COLL_DOWN. During receive-first, what is then
left waiting decides whether local contributions go on (R20). -/
def execCollUpReceive (s : State) : Host.Outcome State Fault Refusal :=
  if fatalStopped s then .next s else
  match takeInbox s [124, 125] (fun p => p.op != opCollDown) with
  | none => .next s
  | some (p, s) =>
    let t := collUp s p
    .next (if receiveFirst t then collPumpAll t else t)

/-- A COLL_DOWN on its slot (R353, R357, R359, R368). -/
def acceptDown (s : State) (o : Nat) (p : Packet) : State :=
  let psn := p.th.psn.toNat
  let x := s.outing o
  match look x.segs psn with
  | some g =>
    if !g.sent || g.turned then s.bump clBase Reg.Cl.COLL_DUP_CNT
    else
      let r := refOf s o g.call
      let c : CollIn := { bytes := p.payload, count := cCount p, flags := cFlags p }
      let fits := if r.op = opReduce then cCount p == 0
        else if r.op = opBroadcast ∨ r.op = opBarrier then (match r.n with
          | some n => cCount p == (if r.op = opBarrier then 0 else segElems r.rmode r.dtype n g.seg)
          | none => true)
        else (joinCount r g.seg (cCount p) p.th.last).isSome
      if !(sameParams r (cRef p)) || cCall p != g.call || cSeg p != g.seg || !fits then abortOuting s o 4 none
      else turnSeg (s.bump clBase Reg.Cl.SEG_DOWN_CNT) o psn g p.th.last c
  | none => if 2 ^ 23 ≤ psnDist (ord s o Reg.Out.SEG_CNT) psn then s.bump clBase Reg.Cl.COLL_DUP_CNT else collDiscard s

/-- COLL_DOWN_RECEIVE (R357, R359, R368, R369). -/
def execCollDownReceive (s : State) : Host.Outcome State Fault Refusal :=
  if fatalStopped s then .next s else
  match takeInbox s [124, 125] (fun p => p.op == opCollDown) with
  | none => .next s
  | some (p, s) => match collGood s p with
    | some s => .next s
    | none => match slotOfOid s p.th.channel.toNat with
      | none => .next (collStray s p)
      | some o =>
        if ord s o Reg.Out.GEN ≠ p.th.gen.toNat ∨ ord s o Reg.Out.ROOT = 1 ∨
            p.rh.src.toNat ≠ 256 * ord s o Reg.Out.PARENT + 65 then .next (collStray s p)
        else if cSeg p = 0xFFFF then .next (abortOuting s o 2 (some none))
        else if oState s o ≠ oActive then .next (collDiscard s)
        else
          let s := s.setOuting o { s.outing o with retry := 0 }
          .next (if cSeg p = 0xFFFE then s else acceptDown s o p)

/-! ### Results, timers, errors -/

/-- COLL_RESULT_DELIVERED (R361): the oldest Cmp of the engine's result writes; a contribution whose results are all
visible completes. -/
def execCollResultDelivered (s : State) : Host.Outcome State Fault Refusal :=
  match s.mesh.cmps.find? (fun q => match q.asker with | .coll _ => true | _ => false) with
  | none => .next s
  | some q =>
    let s := { s with mesh := { s.mesh with cmps := s.mesh.cmps.erase q } }
    let id := match q.asker with | .coll i => i | _ => 0
    match s.coll.slots.find? (fun kv => kv.2.contribs.any (fun k => k.id == id / 65536)) with
    | none => .next s
    | some (o, _) =>
      let less := fun (v : Nat × Nat) => if v.1 = id % 65536 then (v.1, v.2 - 1) else v
      .next (collPump (mapContrib s o (id / 65536) (fun k => { k with vis := (k.vis.map less).filter (fun v => v.2 != 0) })) o)

/-- COLL_RTO_EXPIRE (R368). -/
def execCollRtoExpire (o : Fin 256) (s : State) : Host.Outcome State Fault Refusal :=
  let o := o.val
  let x := s.outing o
  let e := ord s o Reg.Out.SEG_CNT
  let oldest := (x.segs.filter (fun kv => kv.2.sent && !kv.2.turned)).foldl (fun (b : Option (Nat × SegSt)) kv => match b with
    | some y => if psnDist kv.1 e < psnDist y.1 e then b else some kv
    | none => some kv) none
  match oldest with
  | none => .next s
  | some (psn, g) =>
    if oState s o ≠ oActive then .next s
    else
      let s := s.bump clBase Reg.Cl.COLL_RETX_CNT
      if s.rd clBase Reg.Cl.COLL_RETRY_MAX ≤ x.retry then .next (abortOuting s o 3 none)
      else
        let r := refOf s o g.call
        let c := if r.op = opBroadcast then CollIn.empty else g.out.getD .empty
        let s := s.setOuting o { x with retry := x.retry + 1 }
        .next (collSend (clEvent s o 0x103 1) (collPacket s o true (ord s o Reg.Out.PARENT) (ord s o Reg.Out.UP_SLOT) psn r g.seg
          g.last c))

/-- BASKET_ECC_ERROR (R374). -/
def execBasketEccError (o : Fin 256) (corrected : Bool) (s : State) : Host.Outcome State Fault Refusal :=
  if corrected then
    .next (recordError (s.setEvt clBase Reg.Cl.CL_EVENT 2) (ErrRec.ecc .collective true 0 (Config.eccIndex clBase o.val).toNat))
  else .next (recordError (abortOuting s o.val 6 none) (ErrRec.ecc .collective false 0 (Config.eccIndex clBase o.val).toNat))

/-- COLL_CNT_CLR (R374). -/
def execCollCntClr (r : Route) (s : State) : Host.Outcome State Fault Refusal :=
  .next (guarded s r (clBase + 0x58) (fun s => s.clearAll clBase [Reg.Cl.SEG_UP_CNT, Reg.Cl.SEG_DOWN_CNT,
    Reg.Cl.COLL_RETX_CNT, Reg.Cl.COLL_DUP_CNT, Reg.Cl.COLL_DISCARD_CNT, Reg.Cl.ABORT_CNT, Reg.Cl.CLIP_CNT]))

/-! ### What others do to Outings (R350, R369) -/

/-- The queue reset of function `f` aborts the Outings it is a member of (R369). Its own contributions complete nothing
(R305). -/
def collFnReset (s : State) (f : Nat) : State :=
  s.coll.slots.foldl (fun t kv =>
    if oState t kv.1 = oActive && (memberFns t kv.1).contains f then
      let x := t.outing kv.1
      let t := endReads t { x with contribs := x.contribs.filter (fun k => k.fn == f) }
      abortOuting (t.setOuting kv.1 { x with contribs := x.contribs.filter (fun k => k.fn != f) }) kv.1 5 none
    else t) s

/-- A unit reset, fence or larger reset of the collective unit (R350): every slot FREE, its contributions COLL_ABORTED. -/
def collReset (s : State) : State :=
  let s := s.coll.slots.foldl (fun t kv => kv.2.contribs.foldl (fun u k => contribDone u kv.1 k stCollAborted) (endReads t kv.2)) s
  let s := (List.range 256).foldl (fun t o =>
    if oState t o = oFree then t else owr (owr (owr t o Reg.Out.STATE oFree) o Reg.Out.ABORT_CAUSE 0) o Reg.Out.BASKET_UNITS 0) s
  { s.wr clBase Reg.Cl.BASKET_FREE 4096 with coll := { s.coll with slots := [] } }

end Sys2Proof.Machine
end

