-- ==== Sys2Proof/Machine/CohOps.lean ====
section
/-!
DEFINITION. What a home slice does with a line (spec/14_coherence.md): snoop filter, busy table, answers, the end of a
transaction, dead agents, lost lines.
-/
namespace Sys2Proof.Machine

/-! ### Agents (R462, R489) -/

/-- A number is a live or dead agent's index: 72–75 are reserved (R462). -/
def isAgent (a : Nat) : Bool := a < 72 || (76 ≤ a && a < 80)

/-- The on-die caching agents. -/
def onDie : List Nat := [64, 65, 66, 67, 68, 69, 70, 71, 76, 77, 78, 79]

/-- The word of AGENT_DEAD that holds agent `a`. -/
def deadField (a : Nat) : Field :=
  if a < 32 then Reg.Coh.AGENT_DEAD_0 else if a < 64 then Reg.Coh.AGENT_DEAD_1 else Reg.Coh.AGENT_DEAD_2

/-- Agent `a` is dead (R489). -/
def isDead (s : State) (a : Nat) : Bool := bitOf (s.rd poolBase (deadField a)) (a % 32)

/-- AGENT_DEAD bit of an agent set or cleared. -/
def setDead (s : State) (a : Nat) (b : Bool) : State :=
  let w := s.rd poolBase (deadField a)
  s.wr poolBase (deadField a) (if b then setBit w (a % 32) else clrBit w (a % 32))

/-- The unit of an on-die agent (R462); the test agents have none. -/
def agentUnit (a : Nat) : Option UnitId :=
  if a < 64 then some (.attachment (idx 63 a))
  else if a < 68 then some (.cluster (idx 3 (a - 64)))
  else if a = 68 then some .matching
  else if a = 69 then some .collective
  else if a = 70 then some .compass
  else if a = 71 then some .mgmtProc
  else none

/-- Agents of the extent's HOST_MASK. -/
def maskHosts (s : State) (line : Nat) : List Nat :=
  match s.ext (extentOf (64 * line)) with
  | some x => (List.range 64).filter (bitOf x.hosts)
  | none => []

/-- Every live agent that can reach the line's extent (R466, R471). -/
def liveReach (s : State) (line : Nat) : List Nat := (maskHosts s line ++ onDie).filter (fun a => !(isDead s a))

/-- The slice of a line. -/
def lineSlice (line : Nat) : Nat := sliceOf (64 * line)

/-- The slice serves nothing: fenced, in reset or without clock. -/
def sliceOff (s : State) (i : Nat) : Bool := isFenced s (.slice (idx 47 i)) || inReset s (.slice (idx 47 i))

/-! ### Snoop filter (R466 to R470) -/

/-- The line's entry. -/
def sfEnt (s : State) (line : Nat) : Option SfEnt := look s.mesh.sf line

/-- SF_USED of a slice. -/
def showSf (s : State) (i : Nat) : State :=
  s.wr (sliceBase i) Reg.Slc.SF_USED ((s.mesh.sf.filter (fun kv => lineSlice kv.1 == i)).length)

/-- The line's entry written; one that names nobody is freed. -/
def setSf (s : State) (line : Nat) (e : SfEnt) : State :=
  let t := { s with mesh := { s.mesh with
    sf := if e.owner.isNone && e.sharers.isEmpty then del s.mesh.sf line else put s.mesh.sf line e, tick := s.mesh.tick + 1 } }
  showSf t (lineSlice line)

/-- The entry freed. -/
def freeSf (s : State) (line : Nat) : State :=
  showSf { s with mesh := { s.mesh with sf := del s.mesh.sf line } } (lineSlice line)

/-- The group mask that covers a list of sharers (R466). -/
def groupMask (l : List Nat) : Nat := l.foldl (fun m a => setBit m (a / 10)) 0

/-- An entry with these sharers: one is held exactly, more as a group mask, which stays a mask once it is one (R466). -/
def SfEnt.withSharers (e : SfEnt) (l : List Nat) : SfEnt :=
  { e with sharers := l,
           mask := if l.isEmpty then 0 else if e.mask = 0 && l.length ≤ 1 then 0 else e.mask ||| groupMask l }

/-- A line nobody is recorded for. -/
def SfEnt.none_ : SfEnt := { owner := none, sharers := [], mask := 0, used := 0 }

/-- The entry as it is, or empty, marked used. -/
def sfTouch (s : State) (line : Nat) : SfEnt := { (sfEnt s line).getD SfEnt.none_ with used := s.mesh.tick }

/-- Agent `a` no longer holds the line. -/
def sfRemove (s : State) (line a : Nat) : State :=
  match sfEnt s line with
  | none => s
  | some e =>
    let e := if e.owner = some a then { e with owner := none } else e
    setSf s line (if e.sharers.contains a then e.withSharers (e.sharers.erase a) else e)

/-- The owner becomes a sharer. -/
def sfDemote (s : State) (line a : Nat) : State :=
  match sfEnt s line with
  | none => s
  | some e => if e.owner = some a then setSf s line ({ e with owner := none }.withSharers (addOnce e.sharers a)) else s

/-- Agent `a` becomes a sharer. -/
def sfShare (s : State) (line a : Nat) : State :=
  let e := sfTouch s line
  setSf s line (e.withSharers (addOnce e.sharers a))

/-- Agent `a` becomes the owner and the only holder. -/
def sfOwn (s : State) (line a : Nat) : State := setSf s line { sfTouch s line with owner := some a, sharers := [], mask := 0 }

/-- The agents that a snoop to every holder goes to: the owner; sharers exactly, or every live agent of the marked groups
that can reach the extent (R466). -/
def holders (s : State) (line : Nat) : List Nat :=
  match sfEnt s line with
  | none => []
  | some e => addAll e.owner.toList
      (if e.mask = 0 then e.sharers else (liveReach s line).filter (fun a => bitOf e.mask (a / 10)))
where
  addAll (l m : List Nat) : List Nat := m.foldl addOnce l

/-- DIR_SH of a line (R467). -/
def dirShared (s : State) (line : Nat) : Bool := (look s.pool.dirSh line).isSome

/-- DIR_SH written. -/
def setDirSh (s : State) (line : Nat) (b : Bool) : State :=
  { s with pool := { s.pool with dirSh := if b then put s.pool.dirSh line () else del s.pool.dirSh line } }

/-! ### Counters of a slice -/

/-- A counter of slice `i` raised. -/
def slBump (s : State) (i : Nat) (f : Field) : State := s.bump (sliceBase i) f

/-- An event of a slice's bank with master and address (R525). -/
def slEvent (s : State) (i code n : Nat) (master addr : Option Nat) : State :=
  cntPMA s (.slice (idx 47 i)) code n none master addr

/-- BUSY_USED and BUSY_HWM of a slice (R501). -/
def showBusy (s : State) (i : Nat) : State :=
  let n := (s.mesh.busy.filter (fun kv => lineSlice kv.1 == i)).length
  let s := s.wr (sliceBase i) Reg.Slc.BUSY_USED n
  s.wr (sliceBase i) Reg.Slc.BUSY_HWM (Nat.max n (s.rd (sliceBase i) Reg.Slc.BUSY_HWM))

/-- Busy entries of a slice. -/
def busyUsed (s : State) (i : Nat) : Nat := (s.mesh.busy.filter (fun kv => lineSlice kv.1 == i)).length

/-- The busy entry of a line. -/
def busyOf (s : State) (line : Nat) : Option BusyEnt := look s.mesh.busy line

/-- The busy entry written. -/
def setBusy (s : State) (line : Nat) (b : BusyEnt) : State := { s with mesh := { s.mesh with busy := put s.mesh.busy line b } }

/-! ### Lost lines (R490, R492) -/

/-- A line that dead agent `d` owned is lost: poisoned in memory and recorded. `o` tells that it was held in O. -/
def loseLine (s : State) (d line : Nat) (o : Bool) : State :=
  let i := lineSlice line
  let s := s.setEvt poolBase Reg.Coh.COH_EVENT 1
  let s := slBump (setPoison s line true) i Reg.Slc.LOST_LINE_CNT
  let s := sfRemove s line d
  let q := (s.mesh.lostSeq + 1) % 2 ^ 32
  let s := { s with mesh := { s.mesh with lostSeq := q, hostLost := s.mesh.hostLost + b2n (d < 64), recover := s.mesh.recover.map (fun (r : Nat × List Nat × Nat) =>
    if r.1 = d then (r.1, r.2.1, r.2.2 + 1) else r) } }
  let pi := s.rd poolBase Reg.Coh.LLOG_PI
  let log := s.rd poolBase Reg.Coh.LLOG_CFG_LOG_SIZE
  if s.on poolBase Reg.Coh.LLOG_CFG_EN ∧ ringDist pi (s.rd poolBase Reg.Coh.LLOG_CI) < 2 ^ log then
    let rec_ := leBytes (64 * line) 8 ++ leBytes (d + 2 ^ 8 * i + 2 ^ 16 * (if o then 3 else 2) + 2 ^ 31) 4 ++ leBytes 0 4 ++
      leBytes s.timebase 8 ++ leBytes q 4 ++ leBytes 0 4
    let at_ := s.rd64 poolBase Reg.Coh.LLOG_BASE_LO Reg.Coh.LLOG_BASE_HI + 32 * (pi % 2 ^ log)
    (directWrite s at_ rec_ false).wr poolBase Reg.Coh.LLOG_PI (pi + 1)
  else
    let s := s.bump poolBase Reg.Coh.LLOG_LOST
    if s.on poolBase Reg.Coh.LLOG_CFG_EN then s.setEvt poolBase Reg.Coh.COH_EVENT 2 else s

/-! ### Snoops (R473, R476, R480, R490) -/

/-- A snoop of careful mode as a host gets it (R473; notes/assumptions/48.md). -/
def SnpKind.forHost : SnpKind → SnpKind
  | .invTo _ | .fwdM _ _ => .inv
  | .fwdS _ => .shr
  | k => k

/-- A snoop leaves for an agent: to a host as BISnp. What a host's answer to a snoop of careful mode owes the requester stands with
the snoops until it comes. -/
def sendSnp (s : State) (i line a : Nat) (k : SnpKind) : State :=
  if a < 64 then
    let s := if k.forHost = k then s
      else { s with mesh := { s.mesh with snps := s.mesh.snps ++ [{ agent := a, line := line, kind := k }] } }
    cnt1 (slBump (s.emit (.biSnp a line k.forHost)) i Reg.Slc.BISNP_CNT) (.attachment (idx 63 a)) 0x104
  else
    let s := slBump { s with mesh := { s.mesh with snps := s.mesh.snps ++ [{ agent := a, line := line, kind := k }] } } i Reg.Slc.SNOOP_CNT
    slEvent s i 0x101 1 (some a) none

/-- Messages to an agent. -/
def tell (s : State) (a line : Nat) (m : AgentMsg) : State :=
  { s with mesh := { s.mesh with toAgent := s.mesh.toAgent ++ [(a, line, m)] } }

/-- The extent of a line has failed (R448). -/
def lineFailed (s : State) (line : Nat) : Bool := ((s.ext (extentOf (64 * line))).map (fun x => x.owner == .failed)).getD false

/-- The line as memory holds it, with its marker; a line whose data is lost reads as poisoned (R443, R453). -/
def memLine (s : State) (line : Nat) : List Byte × Bool :=
  (memRead s.pool.mem (64 * line) 64, (look s.pool.poison line).isSome || lineFailed s line)

/-- POISON_READ_CNT for an answer that carries the marker (R458). -/
def countPoison (s : State) (bad : Bool) : State := if bad then s.bump poolBase Reg.Pool.POISON_READ_CNT else s

/-- The unit whose stack stores the line, for the counts of R525. -/
def stackEvent (s : State) (line code : Nat) : State :=
  if isHbm (extentOf (64 * line)) then
    countEv s (.stack (idx 5 (homeStack (extentOf (64 * line)))))
      { code := code, inc := 1, priv := none, master := none, addr := some (64 * line), cls := none }
  else s

/-- Answer to a requester with a grant: an on-die agent by message, a host by response (R472, R476). -/
def grant (s : State) (q : HomeReq) (a : Nat) (excl : Bool) (data : Option (List Byte)) (bad : Bool) : State :=
  let s := countPoison s (bad && data.isSome)
  if a < 64 then s.emit (.hostAnswer a q.line q.kind data bad)
  else tell s a q.line (if excl then .gntE data bad else .gntS (data.getD []) bad)

/-- A RdNoAlloc or WrNoAlloc answered (R476): to the reader or writer that waits for it. -/
def answerPlain (s : State) (q : HomeReq) (data : List Byte) (bad : Bool) : State :=
  if q.kind = .rdNoAlloc then
    let s := countPoison s bad
    match q.asker with
    | .agent a => if a < 64 then s.emit (.hostAnswer a q.line q.kind (some data) bad)
        else s.emit (.loaded a q.line data bad)
    | .payload _ _ id | .coll id => readAnswered s id q data bad
    | .att a id => devReadDone (readAnswered s id q data bad) a id
    | .none => s
  else
    match q.asker with
    | .agent a => if a < 64 then s.emit (.hostCmp a q.line) else tell s a q.line .cmp
    | .att a id => devWritten s a id
    | .payload _ _ _ | .coll _ => { s with mesh := { s.mesh with cmps := s.mesh.cmps ++ [q] } }
    | .none => s

/-- The asker of a request as its source (R475): who is held up when its head waits. -/
def HomeReq.agent (q : HomeReq) : Option Nat := match q.asker with | .agent a => some a | _ => none

/-! ### The end of a transaction (R476, R478, R479) -/

/-- Every response is in: the requester is answered and the snoop filter brought up to date. The line is left busy until
the Ack, or free. -/
def answer (s : State) (line : Nat) (b : BusyEnt) : State :=
  let s := if b.dir then setDirSh s line false else s
  let drop := fun (s : State) => { s with mesh := { s.mesh with busy := del s.mesh.busy line } }
  match b.req with
  | none => drop s
  | some q =>
    let m := memLine s line
    match q.kind, q.agent with
    | .rdShared, some r =>
      let s := stackEvent s line 0x100
      let alone := (((sfEnt s line).map (fun e => e.owner.isNone && (e.sharers.erase r).isEmpty)).getD true) && !(dirShared s line)
      if 64 ≤ r ∧ alone then setBusy (grant (sfOwn s line r) q r true (some m.1) m.2) line { b with acking := true }
      else setBusy (grant (sfShare s line r) q r false (some m.1) m.2) line { b with acking := true }
    | .rdOwn, some r =>
      let still := ((sfEnt s line).map (fun e => e.sharers.contains r)).getD false
      let s := if still then s else stackEvent s line 0x100
      setBusy (grant (sfOwn s line r) q r true (if still then none else some m.1) m.2) line { b with acking := true }
    | .rdNoAlloc, _ =>
      let s := stackEvent s line 0x100
      let d := b.got.getD m
      drop (answerPlain s q d.1 d.2)
    | .wrNoAlloc, _ =>
      let s := stackEvent (writeLine s line q.off q.bytes q.bad) line 0x101
      drop (answerPlain (freeSf s line) q [] false)
    | _, none => drop s

/-- The snoops that serving a request sends (R469, R476): the agents, the kind, and whether a broadcast is among them. -/
def snoopsFor (s : State) (q : HomeReq) : List Nat × SnpKind × Bool :=
  let others := (holders s q.line).filter (fun a => q.agent != some a)
  let owner := ((sfEnt s q.line).bind SfEnt.owner).toList.filter (fun a => q.agent != some a)
  let wide := dirShared s q.line
  let hosts := if wide then (maskHosts s q.line).filter (fun a => q.agent != some a && !(isDead s a)) else []
  match q.kind with
  | .rdShared => (owner, .shr, false)
  | .rdNoAlloc => (owner, .cur, false)
  | .rdOwn => (hosts.foldl addOnce others, .inv, wide)
  | .wrNoAlloc => (hosts.foldl addOnce (holders s q.line), .inv, wide)

/-- A pending snoop to dead agent `d` answered by the slice on its behalf (R490). -/
def answerForDead (s : State) (line d : Nat) : State :=
  match sfEnt s line with
  | some e => if e.owner = some d then loseLine s d line (!e.sharers.isEmpty) else sfRemove s line d
  | none => s

/-- A line made busy for a request or a removal, with its snoops sent; agents already dead are answered for at once. -/
def startBusy (s : State) (line : Nat) (req : Option HomeReq) (targets : List Nat) (k : SnpKind) (dir : Bool)
    (queue : List HomeReq) : State :=
  let i := lineSlice line
  let dead := targets.filter (isDead s)
  let live := targets.filter (fun a => !(isDead s a))
  let b : BusyEnt := { req := req, waits := live, got := none, wbFrom := [], wbGot := [], dir := dir, acking := false, queue := queue, since := s.now }
  let s := dead.foldl (fun t d => answerForDead t line d) (showBusy (setBusy s line b) i)
  let s := if dir then slBump s i Reg.Slc.DIR_BCAST_CNT else s
  live.foldl (fun t a => sendSnp t i line a k) s

/-! ### Free ways and victims (R468) -/

/-- A request that needs an entry for a line that has none. -/
def needsWay (s : State) (q : HomeReq) : Bool := (q.kind == .rdShared || q.kind == .rdOwn) && (sfEnt s q.line).isNone

/-- Lines of the slice that hold or will hold an entry in the set of `line` (R466). -/
def waysUsed (s : State) (line : Nat) : List Nat :=
  let i := lineSlice line
  let held := keysWhere s.mesh.sf (fun l _ => lineSlice l == i)
  let coming := keysWhere s.mesh.busy (fun l b => lineSlice l == i && l != line && (sfEnt s l).isNone &&
    (b.req.map (fun q => q.kind == .rdShared || q.kind == .rdOwn)).getD false)
  if (held ++ coming).length < 16 then []
  else (held ++ coming).filter (fun l => Config.sfSet l % 5460 == Config.sfSet line % 5460)

/-- The entry is held by hosts in shared state only. -/
def SfEnt.spillable (e : SfEnt) : Bool := e.owner.isNone && e.sharers.all (· < 64)

/-- The least recently used of some lines with an entry. -/
def oldest (s : State) (l : List Nat) : Option Nat :=
  l.foldl (fun (m : Option Nat) x => match m with
    | none => some x
    | some y => if ((sfEnt s x).map SfEnt.used).getD 0 < ((sfEnt s y).map SfEnt.used).getD 0 then some x else m) none

/-- Entries of the set of `line` that may make way: no transaction holds their lines. -/
def wayCands (s : State) (line : Nat) : List Nat :=
  (waysUsed s line).filter (fun l => (sfEnt s l).isSome && (busyOf s l).isNone)

/-- Those that are spilled: held by hosts in shared state only (R468). -/
def waySpills (s : State) (line : Nat) : List Nat :=
  (wayCands s line).filter (fun l => ((sfEnt s l).map SfEnt.spillable).getD false)

/-- No victim of the set of `line` can be snooped now: one is on its way out already, the busy table is full, or the slice is in
careful mode, whose tables have no such snoop (R468, R475, R484, R485; notes/assumptions/49.md). -/
def noVictim (s : State) (line : Nat) : Bool :=
  (waysUsed s line).any (fun l => ((busyOf s l).map (fun b => b.req.isNone)).getD false) || 1024 ≤ busyUsed s (lineSlice line) ||
  sliceMode s (lineSlice line) == 1 || sliceMode s (lineSlice line) == 3

/-- A request that waits for a way that is being made, or that only other traffic can free (R468). -/
def wayStuck (s : State) (q : HomeReq) : Bool :=
  needsWay s q && 16 ≤ (waysUsed s q.line).length && (waySpills s q.line).isEmpty && noVictim s q.line

/-- A way made free for `line`, or started to be made (R468). -/
def makeWay (s : State) (line : Nat) : State :=
  let i := lineSlice line
  match oldest s (waySpills s line) with
  | some v => slBump (setDirSh (freeSf s v) v true) i Reg.Slc.SPILL_CNT
  | none =>
    match (if noVictim s line then none else oldest s (wayCands s line)) with
    | some v => cnt1 (slBump (startBusy s v none (holders s v) .inv false []) i Reg.Slc.SF_VICTIM_CNT) (.slice (idx 47 i)) 0x105
    | none => s

/-! ### Lines served one after the other (R475, R479) -/

/-- A line whose responses are all in is answered; when that frees it, the next queued request is served. -/
def runLine (s : State) (line : Nat) : Nat → State
  | 0 => s
  | fuel + 1 =>
    match busyOf s line with
    | none => s
    | some b =>
      if !b.waits.isEmpty || !b.wbFrom.isEmpty || b.acking then s
      else
        let s := answer s line b
        match busyOf s line with
        | some _ => s
        | none =>
          match b.queue with
          | [] => showBusy s (lineSlice line)
          | q :: rest =>
            let i := lineSlice line
            if needsWay s q && 16 ≤ (waysUsed s line).length then
              -- the requests go back to the head of the ingress
              let x := s.slice i
              showBusy (makeWay (s.setSlice i { x with ing := (q :: rest) ++ x.ing }) line) i
            else
              let w := snoopsFor s q
              let s := slEvent s i 0x102 (s.now - q.since) none (some (64 * line))
              runLine (startBusy s line (some q) w.1 w.2.1 w.2.2 rest) line fuel

/-- The transactions of a line carried as far as they go. -/
def settle (s : State) (line : Nat) : State :=
  runLine s line (((busyOf s line).map (fun b => b.queue.length)).getD 0 + 2)

/-! ### Extents that wait for their copies to go (R417, R448) -/

/-- Removal of copies of one line: from the agents of `whom`, where they may hold it. Only in service mode and while no
transaction holds the line. -/
def purgeLine (s : State) (line : Nat) (whom : Nat → Bool) : State :=
  let i := lineSlice line
  if sliceMode s i ≠ 0 ∨ (busyOf s line).isSome ∨ 1024 ≤ busyUsed s i then s
  else
    let wide := dirShared s line
    let t := ((holders s line) ++ (if wide then maskHosts s line else [])).foldl addOnce [] |>.filter whom
    if t.isEmpty then (if wide then setDirSh s line false else s)
    else settle (startBusy s line none t .inv (wide && (maskHosts s line).all whom) []) line

/-- Lines of an extent with an entry, a broadcast mark or a transaction. -/
def touchedLines (s : State) (e : Nat) : List Nat :=
  let here := fun (l : Nat) => extentOf (64 * l) == e
  ((keysWhere s.mesh.sf (fun l _ => here l)) ++ (keysWhere s.pool.dirSh (fun l _ => here l)) ++
    (keysWhere s.mesh.busy (fun l _ => here l))).foldl addOnce []

/-- Some line of the extent is or may be held by `whom`, or a snoop to it is out. -/
def stillHeld (s : State) (e : Nat) (whom : Nat → Bool) : Bool :=
  (touchedLines s e).any (fun l => (holders s l).any whom ||
    (match busyOf s l with
     | some b => b.waits.any whom || b.wbFrom.any whom || (b.req.bind HomeReq.agent).any whom || (b.queue.filterMap HomeReq.agent).any whom
     | none => false))

/-- Removal started for every line of the extent. -/
def purge (s : State) (e : Nat) (whom : Nat → Bool) : State := (touchedLines s e).foldl (fun t l => purgeLine t l whom) s

/-- HOST_MASK bits of a host cleared once its copies are gone: HOST or SHARED by the bits left; the last bit begins the
release actions (R448). -/
def hostLeaves (s : State) (e u : Nat) : State :=
  match s.ext e with
  | none => s
  | some x =>
    let h := clrBit x.hosts u
    let n := ((List.range 64).filter (bitOf h)).length
    let y := { x with hosts := h, leaving := x.leaving.erase u }
    if n = 0 then s.setExt e { y with owner := .free, xstate := .releasing, offers := [] }
    else s.setExt e { y with owner := if n = 1 then .host else .shared }

/-- Removals of every extent carried on: copies of leaving hosts, copies of extents in release (R448). -/
def pumpExtents (s : State) : State :=
  s.pool.exts.foldl (fun t kv =>
    let e := kv.1
    if kv.2.xstate = .releasing then purge t e (fun _ => true)
    else kv.2.leaving.foldl (fun t u =>
      let t := purge t e (· == u)
      if stillHeld t e (· == u) then t
      else
        let t := hostLeaves t e u
        if ((t.ext e).map (fun x => x.xstate == .releasing)).getD false then purge t e (fun _ => true) else t) t) s

/-- A line settled, with what waits for it elsewhere. -/
def settleAll (s : State) (line : Nat) : State := pumpExtents (settle s line)

/-! ### Dead agents (R489 to R491) -/

/-- SLICE_MODE and MODE_REASON of a slice set, with its event bit (R501). -/
def setMode (s : State) (i mode reason : Nat) : State :=
  let b := sliceBase i
  let s := ((s.wr b Reg.Slc.SLICE_MODE mode).wr b Reg.Slc.MODE_REASON reason).setEvt b Reg.Slc.SLICE_EVENT 0
  let x := s.slice i
  showHeld (s.setSlice i { x with ing := x.ing.map (fun q => { q with held := q.held || (mode != 0 && q.holds) }) }) i

/-- The busy entries in which `d` plays a part, carried on without it: its response, its writeback, its Ack, its requests. -/
def withoutAgent (s : State) (d : Nat) : State :=
  (keysWhere s.mesh.busy (fun _ _ => true)).foldl (fun t l =>
    match busyOf t l with
    | none => t
    | some b =>
      let owed := b.waits.contains d || b.wbFrom.contains d
      let t := if b.wbFrom.contains d then loseLine t d l false else if b.waits.contains d then answerForDead t l d else t
      let mine := (b.req.bind HomeReq.agent) == some d
      let b := { b with waits := b.waits.erase d, wbFrom := b.wbFrom.erase d, acking := b.acking && !mine,
                        queue := b.queue.filter (fun q => q.agent != some d),
                        req := if mine && (owed || b.acking) then none else b.req }
      let t := setBusy t l (if mine && !b.acking then { b with req := none } else b)
      settle t l) s

/-- RECOVERY shows the first recovery of the list (R500). -/
def showRecovery (s : State) : State :=
  match s.mesh.recover with
  | [] => s.wr poolBase Reg.Coh.RECOVERY_ACTIVE 0
  | r :: _ => (s.wr poolBase Reg.Coh.RECOVERY_ACTIVE 1).wr poolBase Reg.Coh.RECOVERY_AGENT r.1

/-- Transient states of R485. -/
def LineState.transient : LineState → Bool
  | .i | .sh | .e | .m | .o => false
  | _ => true

/-- Slice `i` in careful mode fences every on-die agent with a transient state on its lines (R488). -/
def transientAgents (s : State) (i : Nat) : List Nat :=
  (keysWhere s.mesh.cache (fun _ m => m.any (fun kv => lineSlice kv.1 == i && kv.2.st.transient)))

/-- One agent declared dead with its cause (R489, R490): reported, its messages and copies gone, every slice on its way
into careful mode. -/
def declareDead (s : State) (d cause : Nat) : State :=
  if isDead s d || !(isAgent d) then s
  else
    let s := (setDead s d true).setEvt poolBase Reg.Coh.COH_EVENT 0
    let s := deviceEvent s 0x54 [d, cause, 0, 0]
    let s := { s with mesh := { s.mesh with
      recover := s.mesh.recover ++ [(d, List.range 48, 0)], cache := del s.mesh.cache d,
      snps := s.mesh.snps.filter (fun x => x.agent != d), toAgent := s.mesh.toAgent.filter (fun x => x.1 != d) } }
    let s := { s with mesh := { s.mesh with slices := s.mesh.slices.map (fun kv =>
      (kv.1, { kv.2 with ing := kv.2.ing.filter (fun q => q.agent != some d), drains := kv.2.drains.erase d })) } }
    let s := showRecovery (withoutAgent s d)
    (List.range 48).foldl (fun t i =>
      if sliceMode t i = 0 then setMode t i 2 3
      else if sliceMode t i = 3 then setMode t i 1 3
      else t.wr (sliceBase i) Reg.Slc.MODE_REASON 3) s

/-! ### Writebacks (R478, R484, R491) -/

/-- Cmp to a writer. -/
def cmpTo (s : State) (a line : Nat) : State := if a < 64 then s.emit (.hostCmp a line) else tell s a line .cmp

/-- The data of a WbMod written to memory; a host's to a FAILED extent is lost and counted (R448). -/
def wbData (s : State) (w : WbReq) : State :=
  if lineFailed s w.line then (if w.agent < 64 then s.bump poolBase Reg.Pool.LOST_WB_CNT else s)
  else stackEvent (writeLine s w.line 0 w.data w.bad) w.line 0x101

/-- A writeback or eviction at its home: under R478 in service mode, under the table of R484 in careful mode. -/
def doWriteback (s : State) (w : WbReq) : State :=
  let i := lineSlice w.line
  if sliceMode s i = 0 ∨ sliceMode s i = 2 then
    let s := if w.kind = .wbMod then wbData s w else s
    let s := match busyOf s w.line with
      | none => s
      | some b => cnt1 (slBump (setBusy s w.line { b with wbGot := addOnce b.wbGot w.agent, wbFrom := b.wbFrom.erase w.agent }) i
          Reg.Slc.WB_BYPASS_CNT) (.slice (idx 47 i)) 0x103
    settleAll (cmpTo (sfRemove s w.line w.agent) w.agent w.line) w.line
  else
    let owner := ((sfEnt s w.line).bind SfEnt.owner) == some w.agent
    let s := match w.kind with
      | .evict => (match sfEnt s w.line with
          | some e => if e.sharers.contains w.agent then setSf s w.line (e.withSharers (e.sharers.erase w.agent)) else s
          | none => s)
      | .wbMod => if owner then
            let s := wbData s w
            (match sfEnt s w.line with | some e => setSf s w.line { e with owner := none } | none => s)
          else s
      | .wbClean => if owner then
            (match sfEnt s w.line with | some e => setSf s w.line { e with owner := none } | none => s)
          else s
    cmpTo s w.agent w.line

/-- The writebacks of a host that its link has already delivered complete as usual (R491). -/
def flushHost (s : State) (d : Nat) : State :=
  let mine := s.mesh.wbs.filter (fun w => w.agent == d)
  mine.foldl doWriteback { s with mesh := { s.mesh with wbs := s.mesh.wbs.filter (fun w => w.agent != d) } }

/-- An agent found dead, and with it the agents that R488 fences where a slice is in careful mode. -/
def agentDies (s : State) (d cause : Nat) : State :=
  if isDead s d || !(isAgent d) then s
  else
    let also := (List.range 48).foldl (fun (l : List Nat) i =>
      if sliceMode s i = 1 ∨ sliceMode s i = 3 then ((transientAgents s i).filter (· != d)).foldl addOnce l else l) []
    let s := if d < 64 then flushHost s d else s
    let s := declareDead s d cause
    also.foldl (fun t a =>
      let t := t.setEvt poolBase Reg.Coh.COH_EVENT 3
      let t := match agentUnit a with | some u => markFenced t u | none => t
      declareDead t a 2) s

end Sys2Proof.Machine
end

