-- ==== Sys2Proof/Machine/AgentOps.lean ====
section
/-!
DEFINITION. The lines of an on-die caching agent (R477, R485, R486): local operations, snoops, grants, data.
-/
namespace Sys2Proof.Machine

/-! ### A line of an agent -/

/-- A line the agent does not hold. -/
def CLine.none_ : CLine := { st := .i, data := [], bad := false, a := 0, d := [], op := none, held := [], wb := false }

/-- The agent's line. -/
def lineOfAgent (s : State) (a line : Nat) : CLine := (cacheLine s a line).getD CLine.none_

/-- The agent's line changed. -/
def setLine (s : State) (a line : Nat) (c : CLine) : State :=
  let m := lookD s.mesh.cache a []
  let m := if c.st = .i ∧ c.held.isEmpty then del m line else put m line c
  { s with mesh := { s.mesh with cache := if m.isEmpty then del s.mesh.cache a else put s.mesh.cache a m } }

/-- Bytes stored into a line's data: a whole line clears the marker (R453). -/
def CLine.store (c : CLine) (off : Nat) (b : List Byte) : CLine :=
  let b := b.take (64 - off)
  { c with data := c.data.take off ++ b ++ c.data.drop (off + b.length), bad := c.bad && b.length != 64 }

/-- The SnpDrain of a slice has reached the agent, so it issues no new request to it (R487). -/
def draining (s : State) (a line : Nat) : Bool :=
  s.mesh.snps.any (fun x => x.agent == a && x.kind == .drain (lineSlice line))

/-- A request of an agent leaves for the home. -/
def agentAsk (s : State) (a line : Nat) (k : HomeKind) : State :=
  askHome s { kind := k, asker := .agent a, line := line, off := 0, bytes := [], bad := false, group := 2, seg := 0,
              tag := none, since := 0, held := false }

/-- A writeback of an agent leaves for the home. -/
def agentWb (s : State) (a line : Nat) (k : WbKind) (c : CLine) : State :=
  { s with mesh := { s.mesh with wbs := s.mesh.wbs ++ [{ kind := k, agent := a, line := line, data := c.data, bad := c.bad }] } }

/-- An agent that meets a pair not listed in R485 fences itself (R51). -/
def agentFault (s : State) (a line : Nat) : State :=
  match agentUnit a with
  | none => agentDies s a 2
  | some u =>
    let s := recordError s { unit := u, kind := .coherence, sev := 2, sub := a, info := 64 * line, fenced := true, fatal := false }
    agentDies (markFenced s u) a 2

/-! ### Local operations (R485, R486) -/

/-- A load that hits. -/
def hit (s : State) (a line : Nat) (c : CLine) : State := countPoison (s.emit (.loaded a line c.data c.bad)) c.bad

/-- A local operation on a line: done, turned into a request, or held. -/
def localOp (s : State) (a line : Nat) (c : CLine) (op : LineOp) : State :=
  let hold := setLine s a line { c with held := c.held ++ [op] }
  let ask := fun (k : HomeKind) (st : LineState) =>
    if draining s a line then hold else agentAsk (setLine s a line { c with st := st, a := 0, op := some op }) a line k
  let wb := fun (k : WbKind) (st : LineState) => agentWb (setLine s a line { c with st := st, wb := k == .wbMod }) a line k c
  match c.st, op with
  | .i, .load => ask .rdShared .isD
  | .i, .store _ _ => ask .rdOwn .imAD
  | .i, .replace => s
  | .sh, .load | .e, .load | .m, .load | .o, .load | .smAD, .load | .smA, .load | .omAC, .load | .omA, .load => hit s a line c
  | .sh, .store _ _ => ask .rdOwn .smAD
  | .sh, .replace => wb .evict .siA
  | .e, .store off b | .m, .store off b => setLine s a line { c.store off b with st := .m }
  | .e, .replace => wb .wbClean .miA
  | .m, .replace => wb .wbMod .miA
  | .o, .store _ _ => ask .rdOwn .omAC
  | .o, .replace => wb .wbMod .oiA
  | _, _ => hold

/-- Held operations tried again while the line is in a stable state (R486). -/
def retry (s : State) (a line : Nat) : Nat → State
  | 0 => s
  | n + 1 =>
    let c := lineOfAgent s a line
    match c.held with
    | [] => s
    | op :: rest =>
      if c.st.transient then s
      else
        let c := { c with held := rest }
        retry (localOp (setLine s a line c) a line c op) a line n

/-- Every held operation of the line tried. -/
def retryAll (s : State) (a line : Nat) : State := retry s a line ((lineOfAgent s a line).held.length)

/-- Data of an owner forwarded to another agent (R485). -/
def forward (s : State) (r line n : Nat) (c : CLine) : State := tell s r line (.data n c.data c.bad)

/-- The deferred snoops answered in order (R485): M and O answer a SnpFwdS and keep the line in O; a SnpFwdM ends in I. -/
def answerD (s : State) (a line : Nat) (c : CLine) : State :=
  let r := c.d.foldl (fun (m : State × LineState) f => match f with
    | .share r => (forward m.1 r line 0 c, .o)
    | .own r n => (forward m.1 r line n c, .i)) (s, c.st)
  retryAll (setLine r.1 a line { c with st := r.2, d := [] }) a line

/-- Complete (R485): the pending operation is done, the line is M, and D is answered. -/
def complete (s : State) (a line : Nat) (c : CLine) : State :=
  match c.op with
  | some (.store off b) => answerD s a line { c.store off b with st := .m, op := none, a := 0 }
  | some .load => answerD (hit s a line c) a line { c with st := .m, op := none, a := 0 }
  | _ => answerD s a line { c with st := .m, op := none, a := 0 }

/-! ### Watched lines of the pool (R288, R462) -/

/-- The agent of the cluster that watches the line reads it again: a load, unless one is under way. -/
def watchLoad (s : State) (w : WatchSt) : State :=
  match w.line with
  | none => s
  | some l =>
    let c := lineOfAgent s (64 + w.cluster) l
    if c.st = .i ∧ c.held.isEmpty ∧ !(isDead s (64 + w.cluster)) then localOp s (64 + w.cluster) l c .load else s

/-- A watched pool line that no other agent owns and no transaction holds is taken shared at once, as the device's own
accesses are (notes/assumptions/21.md). -/
def watchShare (s : State) (a line : Nat) : Option State :=
  let free := sliceMode s (lineSlice line) = 0 ∧ (busyOf s line).isNone ∧ ((sfEnt s line).bind SfEnt.owner).isNone ∧
    ((sfEnt s line).isSome ∨ (waysUsed s line).length < 16) ∧ !(isDead s a)
  if free then
    let v := viewLine s line
    some (setLine (sfShare s line a) a line { CLine.none_ with st := .sh, data := v.1, bad := v.2 })
  else none

/-- The agent's line as its watch finds it: held with data, or none. -/
def watchHeld (s : State) (a line : Nat) : Option CLine :=
  let c := lineOfAgent s a line
  match c.st with
  | .sh | .e | .m | .o => some c
  | _ => none

/-! ### Snoops (R477, R485) -/

/-- The answer to a service-mode snoop, and the line afterwards (R477). -/
def serviceAnswer (c : CLine) (k : SnpKind) : SnpAns × CLine :=
  match c.st with
  | .sh => (match k with | .inv => (.i, { c with st := .i }) | _ => (.s, c))
  | .smAD => (match k with | .inv => (.i, { c with st := .imAD }) | _ => (.s, c))
  | .e => (match k with | .inv => (.i, { c with st := .i }) | .shr => (.s, { c with st := .sh }) | _ => (.cur, c))
  | .m | .o | .omAC | .omA => (match k with
      | .inv => (.iData, { c with st := .i })
      | .shr => (.sData, { c with st := .sh })
      | _ => (.curData, c))
  | .miA | .oiA => if c.wb then (.iWb, c) else (.i, c)
  | _ => (.i, c)

/-- The snoop takes the line away. -/
def SnpKind.takes : SnpKind → Bool
  | .inv | .invTo _ | .fwdM _ _ => true
  | _ => false

/-- The watch of a line that a snoop takes begins its next read (R288). -/
def watchSnooped (s : State) (a line : Nat) : State :=
  let s := poolLineTaken s line (some (a - 64))
  match s.wq.lines.find? (fun w => w.line == some line && w.cluster + 64 == a) with
  | some w => watchLoad s w
  | none => s

/-- A snoop acted on by an on-die agent. -/
def takeSnoop (s : State) (a line : Nat) (k : SnpKind) : State :=
  let c := lineOfAgent s a line
  let toHome := fun (s : State) (m : HomeMsg) => { s with mesh := { s.mesh with toHome := s.mesh.toHome ++ [m] } }
  match k with
  | .inv | .shr | .cur =>
    let r := serviceAnswer c k
    let dat := r.1 == .iData || r.1 == .sData || r.1 == .curData
    let s := toHome s (.rsp a line r.1 (if dat then c.data else []) (dat && c.bad))
    retryAll (setLine s a line r.2) a line
  | .invTo r =>
    let ack := tell s r line .invAck
    (match c.st with
     | .sh => retryAll (setLine ack a line { c with st := .i }) a line
     | .isD => setLine ack a line { c with st := .isDI }
     | .smAD => setLine ack a line { c with st := .imAD }
     | .siA => setLine ack a line { c with st := .iiA }
     | _ => agentFault s a line)
  | .fwdS r =>
    (match c.st with
     | .e | .m | .o => retryAll (setLine (forward s r line 0 c) a line { c with st := .o }) a line
     | .imAD | .smAD | .imA | .smA | .omA => setLine s a line { c with d := c.d ++ [.share r] }
     | .omAC => forward s r line 0 c
     | .miA | .oiA => setLine (forward s r line 0 c) a line { c with st := .oiA }
     | _ => agentFault s a line)
  | .fwdM r n =>
    (match c.st with
     | .e | .m | .o => retryAll (setLine (forward s r line n c) a line { c with st := .i }) a line
     | .imAD | .smAD | .imA | .smA | .omA => setLine s a line { c with d := c.d ++ [.own r n] }
     | .omAC => setLine (forward s r line n c) a line { c with st := .imAD }
     | .miA | .oiA => setLine (forward s r line n c) a line { c with st := .iiA }
     | _ => agentFault s a line)
  | .drain _ => s

/-! ### Grants, data, acknowledgements -/

/-- A grant of service mode (R476, R479): the operation is done, the line is S, E or M, and Ack leaves. -/
def takeGrant (s : State) (a line : Nat) (excl : Bool) (data : Option (List Byte)) (bad : Bool) : State :=
  let c := lineOfAgent s a line
  let c := match data with | some b => { c with data := b, bad := bad } | none => c
  let acked := { s with mesh := { s.mesh with toHome := s.mesh.toHome ++ [.ack a line] } }
  match c.st with
  | .isD => retryAll (setLine (hit acked a line c) a line { c with st := if excl then .e else .sh, op := none }) a line
  | .isDI => retryAll (setLine (hit acked a line c) a line { c with st := .i, op := none }) a line
  | .imAD | .smAD => if excl then complete acked a line c else agentFault s a line
  | _ => agentFault s a line

/-- Data or DataFwd with its count (R485). -/
def takeData (s : State) (a line n : Nat) (b : List Byte) (bad : Bool) : State :=
  let c0 := lineOfAgent s a line
  let c := { c0 with data := b, bad := bad, a := c0.a + n }
  match c.st with
  | .isD => if n = 0 then retryAll (setLine (hit s a line c) a line { c with st := .sh, op := none }) a line else agentFault s a line
  | .isDI => if n = 0 then retryAll (setLine (hit s a line c) a line { c with st := .i, op := none }) a line else agentFault s a line
  | .imAD => if c.a = 0 then complete s a line c else setLine s a line { c with st := .imA }
  | .smAD => if c.a = 0 then complete s a line c else setLine s a line { c with st := .smA }
  | _ => agentFault s a line

/-- An InvAck (R485). -/
def takeInvAck (s : State) (a line : Nat) : State :=
  let c0 := lineOfAgent s a line
  let c := { c0 with a := c0.a - 1 }
  match c.st with
  | .imAD | .smAD | .omAC => setLine s a line c
  | .imA | .smA | .omA => if c.a = 0 then complete s a line c else setLine s a line c
  | _ => agentFault s a line

/-- GntM(n) (R485). -/
def takeGntM (s : State) (a line n : Nat) : State :=
  let c0 := lineOfAgent s a line
  let c := { c0 with a := c0.a + n }
  match c.st with
  | .omAC => if c.a = 0 then complete s a line c else setLine s a line { c with st := .omA }
  | _ => agentFault s a line

/-- Cmp (R485). -/
def takeCmp (s : State) (a line : Nat) : State :=
  let c := lineOfAgent s a line
  match c.st with
  | .miA | .oiA | .siA | .iiA => retryAll (setLine s a line { c with st := .i, data := [], wb := false }) a line
  | _ => agentFault s a line

end Sys2Proof.Machine
end

