-- ==== Sys2Proof/Machine/TunnelOps.lean ====
section
/-!
DEFINITION. Tunnelled Ethernet frames on their way out (R431): the frame's data, its TUNNEL packet, its completion.
-/
namespace Sys2Proof.Machine

/-- VCLASS of a TCLASS code: 0 L1, 1 L0, 2 L2 (R282). -/
def tunClass (t : Nat) : Nat := if t = 0 then clsL1 else if t = 1 then clsL0 else clsL2

/-- The TUNNEL packet of a frame from attachment `a` (R431, R106). DST is DEST as it stands (R431), also where a multicast
DEST has bits [23:16] that R84 says are zero (notes/assumptions/46.md). -/
def tunPacket (s : State) (a dest : Nat) (mc : Bool) (tclass colour : Nat) (b : List Byte) : Packet :=
  let hash := crc32c ((b.take 14).map BitVec.toNat) % 65536
  let rh := mkRoute dest (tunClass tclass) (deviceId s * 256 + a) (s.rd (attBase a) Reg.Att.TUN_MODE) 0 (lenOf 1 b.length)
    hash (injEpoch s) false colour
  Packet.originate
    { rh := { rh with mc := mc }
      th := mkTrans opTunnel 1 0 0 0 true true false 0 [b.length]
      payload := b
      tr := { crc := 0, stomp := 0, reason := 0, dev := 0 } }

/-- Core port at which a tunnel frame enters: that of the host macro its data comes from, else the cluster's. -/
def tunPort (c : Nat) (l : List Chunk) : Nat :=
  match l with
  | k :: _ => (match regionOf k.da with | .host a _ => 96 + a / 4 | _ => 112 + 3 * c)
  | [] => 112 + 3 * c

/-- The work entry of a tunnel frame completes. -/
def tunDone (s : State) (j : TunJob) (status : Nat) : State := completeWq s j.g j.index j.userId j.signal 0x06 status 0 0 0

/-- A frame with its data at hand passes TUN_METER and is injected, or is discarded as red (R431, R509, R510). Its entry
succeeds either way (R298). -/
def tunInject (s : State) (j : TunJob) (b : List Byte) (l : List Chunk) : State :=
  match attOfFn s j.fn with
  | none => tunDone s j stBadEntry
  | some a =>
    let r : Option Nat × State := if s.on (attBase a) Reg.Att.TUN_METER_EN then
        policeDrop s (s.rd (attBase a) Reg.Att.TUN_METER) (lenOf 1 b.length) green else (some green, s)
    match r with
    | (none, s) => tunDone s j 0
    | (some c, s) =>
      tunDone (inject (s.bump (attBase a) Reg.Att.TUN_TX_CNT) (tunPort j.cluster l) (tunPacket s a j.dest j.mc j.tclass c b)) j 0

/-- Reads of tunnel frames that wait for a translation, or that have not begun, begin. -/
def tunPump (s : State) : State :=
  s.wq.tuns.foldl (fun t j => match j.reading, j.data with
    | none, .frags l => (match fragChunks t j.fn rLRead (fun k => accKey false false true k) l [] with
      | (.ok c, t) =>
        let m := meshRead t (.payload j.cluster 1048576) 2 c
        { m.2 with wq := { m.2.wq with tuns := m.2.wq.tuns.map (fun k =>
            if k == j then { k with reading := some (m.1, c) } else k) } }
      | (.wait, t) => t
      | (_, t) => tunDone { t with wq := { t.wq with tuns := t.wq.tuns.erase j } } j 0x0F)
    | _, _ => t) s

/-- A tunnel frame whose entry has passed the checks of R284. -/
def tunTake (s : State) (j : TunJob) : State :=
  match j.data with
  | .bytes b => tunInject s j b []
  | .frags _ => tunPump { s with wq := { s.wq with tuns := s.wq.tuns ++ [j] } }

/-- The data of a cluster's oldest frame returns. -/
def tunReadDone (s : State) (c : Nat) (data : Option (List Byte)) : State :=
  match s.wq.tuns.find? (fun j => j.cluster == c && j.reading.isSome) with
  | none => tunPump s
  | some j => match j.reading with
    | none => s
    | some (id, l) =>
      if !(readDone s id) then s
      else
        let d := readData s id l (data.getD [])
        let s := endRead { s with wq := { s.wq with tuns := s.wq.tuns.erase j } } id
        if d.2 || (data.isNone && outside l) then tunDone s j 0x0F else tunInject s j d.1 l

end Sys2Proof.Machine
end

