-- ==== Sys2Proof/Machine/Transport.lean ====
section
/-!
DEFINITION. The transport's commands (spec/07_transport.md): channel commands, context fetches, sending, receiving, timers.
-/
namespace Sys2Proof.Machine

/-! ### Channel commands (R232, R233, R309, R640) -/

/-- CMD_IMAGE of a command's path: the function's, or the cluster's. -/
def cmdImage (s : State) (fn : Option Nat) (ch : Nat) : List Nat :=
  (List.range 64).map (fun i => match fn with
    | some f => s.rdi (bar2 f) Reg.Bar2.CMD_IMAGE i
    | none => s.rdi (tb ch) Reg.Tc.CMD_IMAGE i)

/-- An image copied into CMD_IMAGE. -/
def putImage (s : State) (fn : Option Nat) (ch : Nat) (w : List Nat) : State :=
  (List.range 64).foldl (fun t i => match fn with
    | some f => t.wri (bar2 f) Reg.Bar2.CMD_IMAGE i (imgW w i)
    | none => t.wri (tb ch) Reg.Tc.CMD_IMAGE i (imgW w i)) s

/-- The image's defaults (R233); a rate is never above CC_MAX_MBPS (R265). -/
def imageDefaults (s : State) (ch : Nat) (c : Ctx) : Ctx :=
  let mx := s.rd (tb ch) Reg.Tc.CC_MAX_MBPS
  { c with
    readMax := if c.readMax = 0 then 64 else c.readMax
    retryMax := if c.retryMax = 0 then 7 else c.retryMax
    rtoUs := if c.rtoUs = 0 then s.rd (tb ch) Reg.Tc.RTO_DEFAULT_US else c.rtoUs
    rate := if c.rate = 0 then mx else Nat.min c.rate mx }

/-- The fields that OPEN and MODIFY both take are in range (R230). -/
def imageRanges (c : Ctx) : Bool := 4 ≤ c.rtoUs && c.rtoUs ≤ 1000000

/-- What OPEN asks of the image beyond ranges: LOCAL_EP 64 or an upstream attachment bound to OWNER_FUNC, and an
endpoint of REMOTE_ADDR up to 64 (R233). -/
def openGood (s : State) (c : Ctx) : Bool :=
  imageRanges c &&
  (c.localEp == 64 || (attOfFn s c.owner == some c.localEp && s.rd (attBase c.localEp) Reg.Att.ATT_CFG_ROLE == 1)) &&
  c.remoteAddr % 256 ≤ 64

/-- The context that OPEN leaves (R229, R233). -/
def opened (old img : Ctx) : Ctx :=
  { img with
    state := csOpen, gen := if old.gen = 255 then 1 else old.gen + 1, errCode := 0, retryCnt := 0, rnrCnt := 0,
    sndUna := img.sndNxt, fenceSince := 0, errPsn := 0, ecePend := 0, nakPending := false }

/-- OPEN on a channel whose context is on die. -/
def runOpen (s : State) (fn : Option Nat) (ch : Nat) (x : ChanSt) : State :=
  let img := Ctx.ofWords (cmdImage s fn ch)
  let img := imageDefaults s ch { img with owner := fn.getD img.owner }
  if x.ctx.state ≠ csClosed then cmdDone s fn ch 2 none
  else if !(openGood s img) then cmdDone s fn ch 3 none
  else
    let c := opened x.ctx img
    cmdDone (s.setChan ch { ChanSt.ofCtx c with dirty := x.dirty, writing := x.writing }) fn ch 0 (some c.gen)

/-- MODIFY on a channel whose context is on die (R233, R640). -/
def runModify (s : State) (fn : Option Nat) (ch : Nat) (x : ChanSt) : State :=
  let img := imageDefaults s ch (Ctx.ofWords (cmdImage s fn ch))
  if x.ctx.state ≠ csOpen then cmdDone s fn ch 2 none
  else if !(imageRanges img) then cmdDone s fn ch 3 none
  else
    let c := { x.ctx with
      mode := img.mode, ccEn := img.ccEn, rtoUs := img.rtoUs, retryMax := img.retryMax, readMax := img.readMax,
      meter := img.meter, meterEn := img.meterEn, shaper := img.shaper, shaperEn := img.shaperEn }
    cmdDone (s.setChan ch { x with ctx := c }) fn ch 0 none

/-- CLOSE on a channel whose context is on die (R234, R640): it waits in CLOSING. -/
def runClose (s : State) (fn : Option Nat) (ch : Nat) (x : ChanSt) : State :=
  if x.ctx.state = csOpen then
    let c := { x.ctx with state := csClosing }
    s.setChan ch { x with ctx := c, closers := [fn] }
  else if x.ctx.state = csError then cmdDone (closeNow s ch false) fn ch 0 none
  else cmdDone s fn ch 2 none

/-- CLOSE_FORCE on a channel whose context is on die (R234). -/
def runCloseForce (s : State) (fn : Option Nat) (ch : Nat) (x : ChanSt) : State :=
  cmdDone (if x.ctx.state = csClosed then s else closeNow s ch false) fn ch 0 none

/-- A channel command on a channel whose context is on die: OP 1 to 5. -/
def runCmd (s : State) (fn : Option Nat) (op ch : Nat) : State :=
  match s.chan ch with
  | none => cmdDone s fn ch 4 none
  | some x =>
    if op = 1 then runOpen s fn ch x
    else if op = 2 then runModify s fn ch x
    else if op = 3 then runClose s fn ch x
    else if op = 4 then runCloseForce s fn ch x
    else cmdDone (putImage s fn ch x.ctx.toWords) fn ch 0 (some x.ctx.gen)

/-- Fetches of a cluster that wait for a slot begin as slots and fetch slots come free (R232, R237, R255). -/
def pumpSlots (s : State) (c : Nat) : State :=
  ((chansOf s c).filter (fun kv => kv.2.slotWait)).foldl (fun t kv =>
    let coming := (kv.2.slotFrom.bind (fun v => (look t.tp.chans v).map (·.writing))).getD false
    if 512 ≤ fetches t c || (coming && 15360 ≤ slotsUsed t c) then t
    else match askSlot t c with
      | (.now, t) => startFetch t kv.1 false none
      | (.later v, t) => startFetch t kv.1 true (some v)
      | (.full, t) => startFetch t kv.1 true none) s

/-- What every command of a cluster ends with: waiting fetches, and the registers that show its store. -/
def tpEnd (s : State) (c : Nat) : State := tpSync (farPumpAll (pumpSlots s c)) c

/-- A channel command begins, BUSY being 1: at once on a resident context, otherwise once it has been fetched (R232). -/
def startCmd (s : State) (fn : Option Nat) (op ch : Nat) : State :=
  if (s.chan ch).isSome then runCmd s fn op ch
  else
    let s := { s with tp := { s.tp with cmds := s.tp.cmds ++ [{ fn := fn, op := op, ch := ch }] } }
    if ((s.chanAny ch).map (·.fetching)).getD false then s
    else if 512 ≤ fetches s (clusterOf ch) then startFetch s ch true none
    else match askSlot s (clusterOf ch) with
      | (.now, s) => startFetch s ch false none
      | (.later v, s) => startFetch s ch true (some v)
      | (.full, s) => startFetch s ch true none

/-- GO through a cluster's registers (R232). -/
def clusterCmd (r : Route) (c : Fin 4) (op : Nat) (s : State) : State :=
  let b := clusterBase c.val
  guarded s r (b + 0x84) (fun s =>
    if clusterLost s c.val then s
    else if s.on b Reg.Tc.CMD_STATUS_BUSY then accViol s r .cmdBusy (b + 0x84)
    else
      let ch := s.rd b Reg.Tc.CHAN_CMD_CHANNEL
      let s := (s.wr b Reg.Tc.CHAN_CMD_OP op).wr b Reg.Tc.CMD_STATUS_BUSY 1
      if clusterOf ch ≠ c.val ∨ !(ctxExists s ch) then
        (s.wr b Reg.Tc.CMD_STATUS_BUSY 0).wr b Reg.Tc.CMD_STATUS_RESULT 1
      else tpEnd (startCmd s none op ch) c.val)

/-- OPEN (R229, R232, R233). -/
def execOpen (r : Route) (c : Fin 4) (s : State) : Host.Outcome State Fault Refusal := .next (clusterCmd r c 1 s)
/-- MODIFY (R232, R233). -/
def execModify (r : Route) (c : Fin 4) (s : State) : Host.Outcome State Fault Refusal := .next (clusterCmd r c 2 s)
/-- CLOSE (R232, R234, R640). -/
def execClose (r : Route) (c : Fin 4) (s : State) : Host.Outcome State Fault Refusal := .next (clusterCmd r c 3 s)
/-- CLOSE_FORCE (R232, R234). -/
def execCloseForce (r : Route) (c : Fin 4) (s : State) : Host.Outcome State Fault Refusal := .next (clusterCmd r c 4 s)
/-- QUERY (R232, R233). -/
def execQuery (r : Route) (c : Fin 4) (s : State) : Host.Outcome State Fault Refusal := .next (clusterCmd r c 5 s)

/-- CHANNEL_CLOSE_COMPLETE (R234, R640). -/
def execChannelCloseComplete (ch : Fin 1048576) (s : State) : Host.Outcome State Fault Refusal :=
  match s.chan ch.val with
  | some x => .next (if closable x then tpEnd (toClosed s ch.val) (clusterOf ch.val) else s)
  | none => .next s

/-! ### Context fetches and writebacks (R236, R237, R256 to R258) -/

/-- A parked packet whose context has come handled, behind packets of its channel that wait (R246, R256). -/
def handleReq (s : State) (p : Packet) : State :=
  let ch := p.th.channel.toNat
  if (lookD s.tp.stalled (clusterOf ch) []).any (fun q => q.th.channel == p.th.channel) then stall s ch p
  else
    let a := drawSpace s p
    let r := onContext a.2 ch p a.1
    if r.1 then stall r.2 ch (noCe p) else parkedDone (trailSettle r.2 ch p) ch

/-- The words of a context that a fetch returned: the pool's, or what host memory gave; none when the read failed,
returned poison or holds an invalid STATE (R258). -/
def fetchedCtx (s : State) (ch : Nat) (words : Option (List (BitVec 32))) : Option Ctx :=
  let a := ctxAddr s ch
  let w : Option (List Nat) :=
    if s.on (tb ch) Reg.Tc.CTX_CFG_LOC then words.map (fun l => l.map BitVec.toNat)
    else if !(isMemory s a) || viewBad s a 256 then none
    else
      let b := viewBytes s a 256
      some ((List.range 64).map (fun i => leAt b (4 * i) 4))
  w.bind (fun w => if bits (imgW w 0) 3 0 ≤ 3 then some (Ctx.ofWords w) else none)

/-- The channel commands that wait for this channel's context leave the queue and run. -/
def runWaiting (s : State) (ch : Nat) (run : State → CmdWait → State) : State :=
  let mine := s.tp.cmds.filter (fun k => k.ch == ch)
  mine.foldl run { s with tp := { s.tp with cmds := s.tp.cmds.filter (fun k => k.ch != ch) } }

/-- A context of a store that could not be read (R258, R269, R305). -/
def fetchFailed (s : State) (ch : Nat) : State :=
  let a := ctxAddr s ch
  raiseEvent ((s.bump (tb ch) Reg.Tc.CTX_FETCH_FAIL_CNT).setEvt (tb ch) Reg.Tc.TP_EVENT 1) (s.rd (tb ch) Reg.Tc.CTX_FAULT_FUNC) 0x03
    [ch, 0, a % 2 ^ 32, a / 2 ^ 32]

/-- A context that could not be written to its store (R234, R269, R305). -/
def writebackFailed (s : State) (ch : Nat) : State :=
  let a := ctxAddr s ch
  raiseEvent (s.setEvt (tb ch) Reg.Tc.TP_EVENT 2) (s.rd (tb ch) Reg.Tc.CTX_FAULT_FUNC) 0x04 [ch, 0, a % 2 ^ 32, a / 2 ^ 32]

/-! ### Backing stores in host memory read by a queue reset (R305 step 2) -/

/-- The first channel from `k.ch` on that the store covers and that is not on die is read; with none left the scan is over. A
context whose fetch is out already needs no read of its own. -/
def scanStep (s : State) (k : ScanSt) : State :=
  match (List.range (s.rd (clusterBase k.cluster) Reg.Tc.CTX_ENTRIES)).find?
      (fun n => k.ch ≤ n && n % 4 == k.cluster && (s.chan n).isNone) with
  | none => s
  | some n =>
    let s := { s with tp := { s.tp with scans := s.tp.scans ++ [{ k with ch := n, writing := false }] } }
    if ((look s.tp.chans n).map (fun x => x.fetching && !x.slotWait)).getD false then s
    else s.emit (.memRead (s.rd (tb n) Reg.Tc.CTX_CFG_ATTACH) (ctxAddr s n) 256)

/-- A scan goes on behind the channel it stands at. -/
def scanNext (s : State) (k : ScanSt) : State :=
  scanStep { s with tp := { s.tp with scans := s.tp.scans.erase k } } { k with ch := k.ch + 1 }

/-- Scans that stand at a channel whose own fetch has ended go on. -/
def scansPass (s : State) (ch : Nat) : State :=
  (s.tp.scans.filter (fun k => k.ch == ch && !k.writing)).foldl scanNext s

/-- The scan's read of a context returns: one of the function that is not CLOSED is written back as CLOSED with its GEN. -/
def scanRead (s : State) (k : ScanSt) (words : Option (List (BitVec 32))) : State :=
  match fetchedCtx s k.ch words with
  | none => scanNext (fetchFailed s k.ch) k
  | some c =>
    if c.owner = k.fn ∧ c.state ≠ csClosed then
      writeCtx { s with tp := { s.tp with scans := s.tp.scans.map (fun j => if j = k then { k with writing := true } else j) } } k.ch
        { c with state := csClosed, errCode := 0 }
    else scanNext s k

/-- The scan that waits for the store at a channel: for a read, or for a write. -/
def scanAt (s : State) (ch : Nat) (writing : Bool) : Option ScanSt :=
  s.tp.scans.find? (fun k => k.ch == ch && k.writing == writing)

/-- A context that comes on die while its owner's queues are being reset is closed at once (R305). -/
def closeIfResetting (s : State) (ch : Nat) : State :=
  match s.chan ch with
  | some x => if (s.fn x.ctx.owner).resetting && x.ctx.state != csClosed then closeNow s ch true else s
  | none => s

/-- CTX_FETCH_DONE (R256 to R258, R305). -/
def execCtxFetchDone (ch : Fin 1048576) (words : Option (List (BitVec 32))) (s : State) : Host.Outcome State Fault Refusal :=
  let ch := ch.val
  match (look s.tp.chans ch).filter (fun x => x.fetching && !x.slotWait) with
  | none => match scanAt s ch false with
    | some k => .next (scanRead s k words)
    | none => .next s
  | some x =>
    let s := countEv s (tpUnit ch) (CntEvent.plain 0x101 (s.now - x.fetchAt))
    match fetchedCtx s ch words with
    | none =>
      let s := runWaiting (fetchFailed (dropChan s ch) ch) ch (fun t k => cmdDone t k.fn ch 4 none)
      .next (tpEnd (scansPass (finsFail (farFail s ch) ch) ch) (clusterOf ch))
    | some c =>
      let y : ChanSt := { restored s ch c with parkDrop := x.parkDrop, parkLeft := x.parked.length }
      let s := { s with tp := { s.tp with chans := put s.tp.chans ch y, priv := del s.tp.priv ch } }
      let s := runWaiting (closeIfResetting s ch) ch (fun t k => runCmd t k.fn k.op ch)
      .next (tpEnd (payFins (scansPass (missNak (x.parked.foldl handleReq s) ch) ch)) (clusterOf ch))

/-- CTX_WRITEBACK_DONE (R237, R305): the slot is free, unless the context has been used again meanwhile. -/
def execCtxWritebackDone (ch : Fin 1048576) (s : State) : Host.Outcome State Fault Refusal :=
  let ch := ch.val
  match (look s.tp.chans ch).filter (·.writing) with
  | none => match scanAt s ch true with
    | some k => .next (scanNext s k)
    | none => .next s
  | some x =>
    let y : ChanSt := { x with writing := false }
    let s := if x.dirty || chanPinned s ch y then { s with tp := { s.tp with chans := put s.tp.chans ch y } } else evictChan s ch y
    .next (tpEnd (payFins s) (clusterOf ch))

/-- The commands that wait for the slot of a channel whose writeback failed end with RESULT 4 (R233); a fetch that nothing
else waits for is given up. -/
def failSlotCmds (s : State) (v : Nat) : State :=
  ((chansOf s (clusterOf v)).filter (fun kv => kv.2.slotWait && kv.2.slotFrom == some v)).foldl (fun t kv =>
    let t := runWaiting t kv.1 (fun t k => cmdDone t k.fn kv.1 4 none)
    if kv.2.parked.isEmpty && kv.2.parkDrop.isNone then dropChan t kv.1 else t) s

/-- CTX_WRITEBACK_FAIL (R233, R234, R269, R305). -/
def execCtxWritebackFail (ch : Fin 1048576) (s : State) : Host.Outcome State Fault Refusal :=
  let ch := ch.val
  match (look s.tp.chans ch).filter (·.writing) with
  | none => match scanAt s ch true with
    | some k => .next (scanNext (writebackFailed s ch) k)
    | none => .next s
  | some x =>
    let y : ChanSt := { x with writing := false, dirty := true }
    let s := { s with tp := { s.tp with chans := put s.tp.chans ch y } }
    let s := if x.ctx.state = csOpen ∨ x.ctx.state = csClosing then chanError s ch 9 0 else s
    .next (tpEnd (failSlotCmds (writebackFailed s ch) ch) (clusterOf ch))

/-! ### Sending (R240 to R245) -/

/-- CHANNEL_PACKET_SEND (R240 to R245, R510, R513). -/
def execChannelPacketSend (ch : Fin 1048576) (space : Bool) (s : State) : Host.Outcome State Fault Refusal :=
  .next (tpEnd (sendNext s ch.val space) (clusterOf ch.val))

/-- The payload read of the packet a channel builds returns (R234, R242). -/
def sendReadDone (s : State) (ch : Nat) (data : Option (List Byte)) : State :=
  match s.chan ch with
  | none => s
  | some x => match x.reading with
    | none => s
    | some (psn, id, l) =>
      if !(readDone s id) then s
      else
        let r := readData s id l (data.getD [])
        let failed := r.2 || (data.isNone && outside l)
        let s := endRead s id
        if failed then chanError (s.setChan ch { x with reading := none }) ch 8 psn
        else s.setChan ch { x with reading := none, payload := some (psn, r.1) }

/-- A READ_REQ's data is at hand: the READ_RSP leaves (R254). Data that cannot be read goes as poison over open bytes. -/
def respond (s : State) (ch psn : Nat) (data : Option (List Byte)) : State :=
  match s.chan ch with
  | none => s
  | some x => match x.rsps.find? (fun r => r.psn == psn) with
    | none => s
    | some j =>
      if !(readDone s j.read) then s
      else
        let lost := data.isNone && outside j.chunks
        let r := readData s j.read j.chunks (data.getD ((List.range j.n).map (fun i => Config.freeBits 8 (s.free + i))))
        let s := if lost then { s with free := s.free + j.n } else s
        let s := (endRead s j.read).setChan ch { x with rsps := x.rsps.erase j }
        let port := match j.chunks with
          | c :: _ => (match regionOf c.da with | .host a _ => 96 + a / 4 | _ => tpPort ch)
          | [] => tpPort ch
        let p := chanPacket s ch x.ctx opReadRsp psn true true false false 0 green [2 ^ 31 * b2n (r.2 || lost)] r.1
        resumeCluster (trailEnd (sendVia s ch port p) (.recv ch psn) 0) (clusterOf ch)

/-- PAYLOAD_READ_DONE (R234, R242, R254, R431). -/
def execPayloadReadDone (w : ReadFor) (data : Option (List Byte)) (s : State) : Host.Outcome State Fault Refusal :=
  match w with
  | .send ch => .next (tpEnd (sendReadDone s ch.val data) (clusterOf ch.val))
  | .rsp ch psn => .next (tpEnd (respond s ch.val psn.val data) (clusterOf ch.val))
  | .tun c => .next (tunReadDone s c.val data)

/-! ### Receiving (R246 to R251) -/

/-- The answers of a channel: ACK, NAK, READ_RSP. -/
def answerOp (op : Nat) : Bool := op == opAck || op == opNak || op == opReadRsp

/-- CHANNEL_PACKET_RECEIVE (R246): the cluster's oldest delivered packet that is neither an answer nor a tunnel frame. -/
def execChannelPacketReceive (c : Fin 4) (space : Bool) (s : State) : Host.Outcome State Fault Refusal :=
  if fatalStopped s then .next s else
  match takeInbox s (tpPorts c.val) (fun p => !(answerOp p.op) && p.op != opTunnel) with
  | none => .next s
  | some (p, s) => match arriveGood s c.val p with
    | some s => .next s
    | none =>
      if requestOp p.op then .next (tpEnd (receiveReq s p space) c.val)
      else .next (recordError (s.bump (clusterBase c.val) Reg.Tc.MALFORMED_CNT)
        (ErrRec.contained (.cluster c) .protocol 0 0))

/-- ACK_DELAY_TIMEOUT (R251). -/
def execAckDelayTimeout (ch : Fin 1048576) (s : State) : Host.Outcome State Fault Refusal :=
  match s.chan ch.val with
  | some x => .next (if x.ackAt.isSome then tpEnd (ackDue s ch.val) (clusterOf ch.val) else s)
  | none => .next s

/-- ACK_RECEIVE (R259, R263). -/
def execAckReceive (c : Fin 4) (s : State) : Host.Outcome State Fault Refusal :=
  if fatalStopped s then .next s else
  match takeInbox s (tpPorts c.val) (fun p => p.op == opAck) with
  | none => .next s
  | some (p, s) => match arriveGood s c.val p with
    | some s => .next s
    | none => .next (tpEnd (onAck s p) c.val)

/-- NAK_RECEIVE (R105, R260). -/
def execNakReceive (c : Fin 4) (s : State) : Host.Outcome State Fault Refusal :=
  if fatalStopped s then .next s else
  match takeInbox s (tpPorts c.val) (fun p => p.op == opNak) with
  | none => .next s
  | some (p, s) => match arriveGood s c.val p with
    | some s => .next s
    | none => .next (tpEnd (onNak s p) c.val)

/-- READ_RSP_RECEIVE (R262): a response whose destination waits for a translation stays where it is. -/
def execReadRspReceive (c : Fin 4) (s : State) : Host.Outcome State Fault Refusal :=
  if fatalStopped s then .next s else
  match takeInbox s (tpPorts c.val) (fun p => p.op == opReadRsp) with
  | none => .next s
  | some (p, t) => match arriveGood t c.val p with
    | some t => .next t
    | none => match onReadRsp t p with
      | (true, t) => .next (tpEnd t c.val)
      | (false, t) => .next { t with switch := { t.switch with inbox := s.switch.inbox } }

/-- WRNOALLOC_CMP (R493, R499): the cluster's oldest Cmp makes one write of a packet visible. -/
def execWrnoallocCmp (c : Fin 4) (s : State) : Host.Outcome State Fault Refusal :=
  match s.mesh.cmps.find? (fun q => match q.asker with | .payload cl _ _ => cl == c.val | _ => false) with
  | none => .next s
  | some q =>
    let s := { s with mesh := { s.mesh with cmps := s.mesh.cmps.erase q } }
    match q.asker with
    | .payload _ ch id =>
      let s := match s.chanAny ch with
        | none => s
        | some x =>
          let vis := (x.vis.map (fun v => if v.1 = id then (v.1, v.2 - 1) else v)).filter (fun v => v.2 != 0)
          let s := s.setChan ch { x with vis := vis }
          releaseAll (finishJobs (tryAck (if vis.any (fun v => v.1 = id) then s else trailMark s (.recv ch id) 3) ch) ch) ch
      .next (tpEnd (resumeCluster s c.val) c.val)
    | _ => .next s

/-! ### Timers (R260, R261, R265) -/

/-- RETX_TIMEOUT (R261, R269). A READ_REQ whose response is still owed goes again although SACK has marked it, for the timer
recovers a lost response (R262, R266; notes/assumptions/29.md). -/
def execRetxTimeout (ch : Fin 1048576) (s : State) : Host.Outcome State Fault Refusal :=
  let ch := ch.val
  match s.chan ch with
  | none => .next s
  | some x =>
    if !x.outstanding then .next s
    else
      let s := s.bump (tb ch) Reg.Tc.RETX_TMO_CNT
      if x.ctx.retryMax ≤ x.ctx.retryCnt then .next (tpEnd (chanError s ch 1 x.ctx.sndUna) (clusterOf ch))
      else
        let k := x.ctx.retryCnt + 1
        let c := { x.ctx with retryCnt := k, sndNxt := if isSr ch then x.ctx.sndNxt else x.ctx.sndUna }
        let again := (x.sent.filter (fun p => !p.marked || p.op == opReadReq)).map (·.psn)
        let y : ChanSt := { x with
          ctx := c
          timer := some (s.now + rtoNs c k)
          sent := x.sent.map (fun p => { p with fast := false })
          resend := if isSr ch then again else []
          backoff := if isSr ch then x.backoff else [] }
        let s := s.setChan ch y
        .next (tpEnd (if k = 4 then raiseEvent s c.owner 0x02 [ch + 2 ^ 24 * c.gen, c.errCode, c.errPsn, 0] else s)
          (clusterOf ch))

/-- MISS_BACKOFF_EXPIRE (R260). -/
def execMissBackoffExpire (ch : Fin 1048576) (s : State) : Host.Outcome State Fault Refusal :=
  let ch := ch.val
  match s.chan ch with
  | none => .next s
  | some x => match x.backoff with
    | [] => .next s
    | n :: l => .next (tpEnd (s.setChan ch { x with
        backoff := l
        resend := if isSr ch then addOnce x.resend n else x.resend }) (clusterOf ch))

/-- The rate at the end of a period (R265). -/
def rateUp (s : State) (ch rate : Nat) (cut : Bool) : Nat :=
  if cut then rate else Nat.min (s.rd (tb ch) Reg.Tc.CC_MAX_MBPS) (rate + s.rd (tb ch) Reg.Tc.CC_AI_MBPS)

/-- CC_INC_PERIOD (R265), on die or kept for an evicted context. -/
def execCcIncPeriod (ch : Fin 1048576) (s : State) : Host.Outcome State Fault Refusal :=
  let ch := ch.val
  match s.chan ch with
  | none => match look s.tp.priv ch with
    | none => .next s
    | some k =>
      let k : EngPriv := { k with rate := if k.ctx.ccEn then rateUp s ch k.rate k.cutNow else k.rate, cutNow := false }
      .next { s with tp := { s.tp with priv := put s.tp.priv ch k } }
  | some x =>
    if !x.ctx.ccEn then .next s
    else
      let c := { x.ctx with rate := rateUp s ch x.ctx.rate x.cutNow }
      .next (tpEnd (s.setChan ch { x with ctx := c, cutNow := false }) (clusterOf ch))

/-- The counters of 0x200 to 0x2B8 that are not arrays (R271, R272). -/
def tpCounters : List Field :=
  [Reg.Tc.ACK_SENT_CNT, Reg.Tc.DUP_CNT, Reg.Tc.RETX_TMO_CNT, Reg.Tc.PARKED_CNT, Reg.Tc.PARK_DROP_CNT,
   Reg.Tc.CTX_FETCH_CNT, Reg.Tc.CTX_FETCH_FAIL_CNT, Reg.Tc.EVICT_CNT, Reg.Tc.NOCTX_DROP_CNT, Reg.Tc.MISMATCH_CNT,
   Reg.Tc.CE_RCVD_CNT, Reg.Tc.STALE_ACK_CNT, Reg.Tc.STOMP_RCVD_CNT, Reg.Tc.MALFORMED_CNT, Reg.Tc.HAMPER_FULL_CNT]

/-- TRANSPORT_CNT_CLR (R271, R272). -/
def execTransportCntClr (r : Route) (c : Fin 4) (s : State) : Host.Outcome State Fault Refusal :=
  let b := clusterBase c.val
  .next (guarded s r (b + 0x90) (fun s =>
    ((s.clearAll b tpCounters).clearArr b Reg.Tc.NAK_SENT_CNT 10).clearArr b Reg.Tc.NAK_RCVD_CNT 10))

end Sys2Proof.Machine
end

