-- ==== Sys2Proof/Machine/TakeOps.lean ====
section
/-!
DEFINITION. Taking a work entry (R281 to R285, R292 to R294, R352, R397): its fields, the ordered checks, what it joins, and
the two-level arbiter.
-/
namespace Sys2Proof.Machine

/-! ### Work entries (R281) -/

/-- OPCODE. -/
def weOp (b : List Byte) : Nat := leAt b 0 1
/-- SIGNAL. -/
def weSignal (b : List Byte) : Bool := bitOf (leAt b 0 4) 8
/-- FENCE. -/
def weFence (b : List Byte) : Bool := bitOf (leAt b 0 4) 9
/-- DKIND. -/
def weKind (b : List Byte) : Nat := bits (leAt b 0 4) 11 10
/-- INLINE_LEN. -/
def weInline (b : List Byte) : Nat := bits (leAt b 0 4) 21 16
/-- CHANNEL. -/
def weChan (b : List Byte) : Nat := bits (leAt b 4 4) 19 0
/-- USER_ID. -/
def weUser (b : List Byte) : Nat := leAt b 8 8
/-- OPA. -/
def weA (b : List Byte) : Nat := leAt b 0x10 8
/-- OPB. -/
def weB (b : List Byte) : Nat := leAt b 0x18 4
/-- LENGTH. -/
def weLen (b : List Byte) : Nat := leAt b 0x1C 4
/-- TBL_COUNT. -/
def weTblCount (b : List Byte) : Nat := bits (leAt b 0x28 4) 12 0

/-- A fragment from its 16 bytes (R283). -/
def fragAt (b : List Byte) (i : Nat) : Frag := { addr := leAt b i 8, len := leAt b (i + 8) 4, lkey := leAt b (i + 12) 4 }

/-- EAGER_BYTES, cut to 4,096 on a selective-repeat channel (R313). -/
def eagerLimit (s : State) (ch : Nat) : Nat :=
  let n := s.rd mtBase Reg.Mt.EAGER_BYTES
  if isSr ch then Nat.min n 4096 else n

/-- LENGTH is in the opcode's range and DKIND is one it allows (R282, R284 check 2). -/
def weShape (s : State) (b : List Byte) : Bool :=
  let op := weOp b
  let n := weLen b
  if op = 1 then 1 ≤ n && n ≤ 2 ^ 31
  else if op = 2 then 1 ≤ n && n ≤ 2 ^ 31 && weKind b != 0
  else if op = 3 then n ≤ 2 ^ 31 && (n ≤ eagerLimit s (weChan b) || weKind b == 1)
  else if op = 5 then n ≤ 32 && weKind b == 0
  else if op = 6 then 14 ≤ n && n ≤ 4096 && bits (weB b) 1 0 != 3 &&
    (bitOf (weA b) 24 || (weA b % 256 != 64 && weA b % 256 != 65 && weA b % 256 ≤ 66))
  else false

/-- Check 2 of R284 for the opcodes other than COLL_CONTRIB and INVALIDATE. -/
def weFields (s : State) (b : List Byte) : Bool :=
  weShape s b && weKind b != 3 && (weKind b != 0 || (weInline b ≤ 32 && weInline b == weLen b)) &&
  (weKind b != 2 || (1 ≤ weTblCount b && weTblCount b ≤ 4096))

/-- The validity rules of an INVALIDATE (R397, R398). -/
def invFields (b : List Byte) : Bool :=
  let sc := bits (weB b) 3 0
  let ranged := sc == 1 || sc == 3
  weKind b == 0 && weInline b == 0 && 1 ≤ sc && sc ≤ 5 &&
  (if ranged then leAt b 0x10 8 % 4096 == 0 && weLen b % 4096 == 0 && 4096 ≤ weLen b && weLen b ≤ 2 ^ 31 else weLen b == 0)

/-- The fragments of an entry: in it, in its table once that has been read; none when the table has still to come, none
inside when its read failed (R283). -/
def weFrags (x : Fetched) (b : List Byte) : Option (Option (List Frag)) :=
  if weKind b = 0 then some (some [])
  else if weKind b = 1 then some (some [fragAt b 0x20])
  else x.table

/-- Every LKEY grants what the entry needs over its fragment (check 9): passed, failed or waiting. -/
def keysGood (s : State) (f right : Nat) (also : Option Nat) : List Frag → TakeRes × State
  | [] => (.taken, s)
  | g :: l =>
    if g.len = 0 then keysGood s f right also l
    else match keyCheck s f g.lkey g.addr g.len right with
      | (.bad, s) => (.fail stLocalKey, s)
      | (.wait, s) => (.wait, s)
      | (.ok _, s) => match also with
        | none => keysGood s f right also l
        | some r => match keyCheck s f g.lkey g.addr g.len r with
          | (.bad, s) => (.fail stLocalKey, s)
          | (.wait, s) => (.wait, s)
          | (.ok _, s) => keysGood s f right also l

/-- The version that INJ_EPOCH names is valid (check 5). -/
def injReady (s : State) : Bool := mayOriginate s

/-- The function has PRIV (check 3). -/
def fnPriv (s : State) (f : Nat) : Bool := fnRd s f Reg.FnTab.FN_PRIV == 1

/-- Checks 7 to 9 of R284 (the fragment table, its sum, its keys). -/
def fragChecks (s : State) (f : Nat) (x : Fetched) (b : List Byte) : TakeRes × State :=
  match weFrags x b with
  | none => (.wait, s)
  | some none => (.fail stFragFault, s)
  | some (some l) =>
    if weKind b ≠ 0 ∧ l.foldl (fun m g => m + g.len) 0 ≠ weLen b then (.fail stBadEntry, s)
    else
      let rndv := weOp b = 3 ∧ eagerLimit s (weChan b) < weLen b
      keysGood s f (if weOp b = 2 then rLWrite else rLRead) (if rndv then some rRRead else none) l

/-- The data of an entry. -/
def weData (x : Fetched) (b : List Byte) : Payload :=
  match weFrags x b with
  | some (some (g :: l)) => .frags (g :: l)
  | _ => .bytes ((b.drop 0x20).take (weInline b))

/-- The job of an entry that joins its channel (R240, R282, R313, R314). -/
def weJob (s : State) (g : Nat) (q : WqSt) (x : Fetched) (b : List Byte) : Job :=
  let src : JobFrom := .wq g x.index (weUser b) (weSignal b) (weOp b)
  let data := weData x b
  let n := weLen b
  let head := [bits (weB b) 27 16 * 2 ^ 20 + bits (weB b) 15 0, weA b / 2 ^ 32, weA b % 2 ^ 32, n]
  if weOp b = 1 then mkJob src q.fn opWrite (weA b) (weB b) n data [] (weFence b)
  else if weOp b = 2 then mkJob src q.fn opReadReq (weA b) (weB b) n data [] (weFence b)
  else if weOp b = 5 then mkJob src q.fn opNotify 0 0 n data [weA b % 2 ^ 32] (weFence b)
  else if n ≤ eagerLimit s (weChan b) then mkJob src q.fn opSendEager 0 0 n data head (weFence b)
  else
    let f := fragAt b 0x20
    mkJob src q.fn opSendRts 0 0 n (.bytes []) (head ++ [f.lkey, f.addr / 2 ^ 32, f.addr % 2 ^ 32]) (weFence b)

/-- The channel can accept an entry (R292): window open, its next READ_REQ not waiting for trackers, a rendezvous tracker
free. -/
def chanAccepts (s : State) (ch : Nat) (x : ChanSt) (b : List Byte) : Bool :=
  psnDist x.ctx.sndUna x.high < windowOf ch &&
  (match x.jobs.find? (fun j => !j.cut) with
   | some j => j.op != opReadReq || (trackers s (clusterOf ch) < 8192 && x.trk.length < x.ctx.readMax)
   | none => true) &&
  (weOp b != 3 || weLen b ≤ eagerLimit s ch || rndvTrackers s (clusterOf ch) < 4096)

/-- An entry for a channel at checks 4 to 9 (R284): joined when they pass and the channel can accept it. -/
def chanTake (s : State) (g : Nat) (q : WqSt) (x : Fetched) (b : List Byte) : TakeRes × State :=
  let ch := weChan b
  if clusterOf ch ≠ q.cluster ∨ !(ctxExists s ch) then (.fail stBadChannel, s)
  else match s.chan ch with
    | none => (.wait, wantCtx s ch)
    | some c =>
      if c.ctx.owner ≠ q.fn then (.fail stBadChannel, s)
      else if !(injReady s) then (.fail stNotReady, s)
      else if c.ctx.state = csError then (.fail stFlushed, s)
      else if c.ctx.state ≠ csOpen then (.fail stChannelClosed, s)
      else match fragChecks s q.fn x b with
        | (.taken, s) =>
          if chanAccepts s ch c b then (.taken, addJob s ch (weJob s g q x b) false) else (.wait, s)
        | r => r

/-- A TUNNEL_FRAME at checks 3 to 9 (R284, R431). -/
def frameTake (s : State) (g : Nat) (q : WqSt) (x : Fetched) (b : List Byte) : TakeRes × State :=
  if bits (weB b) 1 0 = 1 ∧ !(fnPriv s q.fn) then (.fail stPrivDenied, s)
  else if !(injReady s) then (.fail stNotReady, s)
  else match fragChecks s q.fn x b with
    | (.taken, s) =>
      (.taken, tunTake s { g := g, index := x.index, userId := weUser b, signal := weSignal b, fn := q.fn, cluster := q.cluster,
                           dest := weA b % 2 ^ 24, mc := bitOf (weA b) 24, tclass := bits (weB b) 1 0, data := weData x b,
                           len := weLen b, reading := none })
    | r => r

/-- The TLB and walk-cache entries that an INVALIDATE removes leave (R398). -/
def invRemoves (w : InvalWait) (s : State) : State :=
  let last := w.addr + w.len
  let inTlb := fun (e : TlbEnt) =>
    if w.scope = 1 then e.fn == w.target && e.va < last && w.addr < e.va + 2 ^ e.log
    else if w.scope = 2 then e.fn == w.target
    else if w.scope = 3 then e.part == w.part && e.ipa < last && w.addr < e.ipa + 2 ^ e.log
    else if w.scope = 4 then e.part == w.part
    else true
  let inWalk := fun (e : WalkEnt) =>
    let hit := e.start < last && w.addr < e.start + 2 ^ slotLog e.level
    if w.scope = 1 then e.stage == 1 && e.owner == w.target && hit
    else if w.scope = 2 then e.stage == 1 && e.owner == w.target
    else if w.scope = 3 then e.stage == 2 && e.owner == w.part && hit
    else if w.scope = 4 then e.stage == 2 && e.owner == w.part
    else true
  { s with xl := { s.xl with
      tlb := s.xl.tlb.filter (fun e => !(inTlb e)), wcache := s.xl.wcache.filter (fun e => !(inWalk e)) } }

/-- Walks under way in the scope of an INVALIDATE begin again: what they had read is abandoned (R399). A fault not yet seen
by its access goes with it. -/
def invAbandons (w : InvalWait) (s : State) : State :=
  let hit := fun (k : Walk) =>
    if w.scope = 1 then k.fn == w.target && k.va < w.addr + w.len && w.addr < k.va + 4096
    else if w.scope = 2 then k.fn == w.target
    else if w.scope = 3 ∨ w.scope = 4 then k.ctx.part == w.part
    else true
  { s with xl := { s.xl with walks := s.xl.walks.map (fun k => if hit k then { k with ctx := xlCtx s k.fn, got := [], failed := none } else k) } }

/-- An INVALIDATE taken: its entries leave at once, and its queue waits for its completion (R397 to R399). -/
def invTake (s : State) (g : Nat) (q : WqSt) (x : Fetched) (b : List Byte) : TakeRes × State :=
  if !(invFields b) then (.fail stBadEntry, s)
  else if !(fnPriv s q.fn) then (.fail stPrivDenied, s)
  else
    let w : InvalWait := { wq := g, index := x.index, userId := weUser b, signal := weSignal b, scope := bits (weB b) 3 0,
                           target := bits (weB b) 17 8, part := bits (weB b) 31 24, addr := leAt b 0x10 8, len := weLen b }
    let s := invAbandons w (invRemoves w s)
    let s := s.setWq g { q with waiting := true }
    (.taken, { s with xl := { s.xl with inval := s.xl.inval ++ [w] } })

/-- The checks of R284 on a fetched entry, in order, and what follows them. -/
def checkEntry (s : State) (g : Nat) (q : WqSt) (x : Fetched) : TakeRes × State :=
  match x.bytes with
  | none => (.fail stEntryFault, s)
  | some b =>
    if weOp b = 0x10 then invTake s g q x b
    else if weOp b = 4 then collTake s g q.fn x.index (weUser b) (weSignal b) b (injReady s)
    else if !(weFields s b) then (.fail stBadEntry, s)
    else if weOp b = 6 then frameTake s g q x b
    else chanTake s g q x b

/-! ### The engine (R284, R285, R291) -/

/-- Work queues that an engine serves. -/
def engWqs (s : State) (e : Nat) : List (Nat × WqSt) := s.wq.wqs.filter (fun kv => engineOf kv.1 kv.2 == e)

/-- PF_BUF_USED of an engine shown as it is (R308). -/
def pfSync (s : State) (e : Nat) : State :=
  s.wr (engBase e) Reg.Eng.PF_BUF_USED ((engWqs s e).foldl (fun m kv => m + kv.2.fetched.length) 0)

/-- Space for one entry is reserved in the queue's CQ before anything completes into it (R284): tried on a copy of the
queue without its head. -/
def tryTake (s : State) (g : Nat) : Bool × State :=
  match s.wqAt g with
  | none => (false, s)
  | some q => match q.fetched, s.cqAt (cqNo s q.fn q.cq) with
    | x :: rest, some c =>
      if clusterLost s q.cluster || q.waiting || (s.fn q.fn).resetting || !(cqRoom s c 1) || (receiveFirst s && clusterBusy s q.cluster) then (false, s)
      else
        let e := engineOf g q
        let start := cqReserve (s.setWq g { q with fetched := rest }) (cqNo s q.fn q.cq) 1
        let r := checkEntry start g { q with fetched := rest } x
        let fresh := r.2
        match r.1 with
        | .wait => (false, match fresh.wqAt g with
            | some k => cqRelease (fresh.setWq g { k with fetched := x :: k.fetched }) (cqNo s q.fn q.cq) 1
            | none => fresh)
        | res =>
          let s := cntPMA (fresh.bump (engBase e) Reg.Eng.TAKEN_CNT) (.engine (idx 15 e)) 0x100 1 (some (fnPriv s q.fn)) (some q.fn) none
          let s := (s.wr (engBase e) Reg.Eng.ARB_FN q.fn).wr (engBase e) Reg.Eng.ARB_WQ g
          let b := x.bytes.getD []
          let ch := weChan b
          let gen := ((s.chan ch).map (fun k => k.ctx.gen)).getD 0
          let va := match weData x b with | .frags (f :: _) => f.addr | _ => 0
          let s := trailMark (trailUpd s (.send g x.index) (fun y => { y with gen := gen, va := va })) (.send g x.index) 1
          let s := match res with
            | .fail st => completeWq s g x.index (weUser b) (weSignal b) (weOp b) st ch gen 0
            | _ => s
          (true, pfSync s e)
    | _, _ => (false, s)

/-! ### Arbitration (R293, R294) -/

/-- Members in the order the arbiter visits them (R293): the present one while its visit lasts, then round robin. A visit has
lasted `taken` entries; 0 means that it is over. -/
def rrOrder (l : List Nat) (a : Arb) : List Nat :=
  let after := l.filter (fun k => a.cur < k)
  let before := l.filter (fun k => k < a.cur)
  let here := l.filter (· == a.cur)
  if a.taken ≠ 0 then here ++ after ++ before else after ++ before ++ here

/-- The first member that `go` serves. -/
def firstServed (go : State → Nat → Bool × State) : State → List Nat → Option Nat × State
  | s, [] => (none, s)
  | s, k :: l => match go s k with
    | (true, s) => (some k, s)
    | (false, s) => firstServed go s l

/-- A member has taken an entry: burst and credit are charged, and its visit ends when either is spent (R293). -/
def charge (a : Arb) (weight burst k : Nat) : Arb :=
  let n := if a.cur = k ∧ a.taken ≠ 0 then a.taken + 1 else 1
  let c := lookD a.credit k weight - 1
  { cur := k, taken := if burst ≤ n ∨ c = 0 then 0 else n, credit := put a.credit k c }

/-- An arbiter that has served nothing. -/
def Arb.init : Arb := { cur := 0, taken := 0, credit := [] }

/-- A WQ_MODIFY of the function's queues takes effect as a round begins (R293). -/
def applyModify (s : State) (e f : Nat) : State :=
  (engWqs s e).foldl (fun t kv => if kv.2.fn = f then (match t.wqAt kv.1, kv.2.next with
    | some q, some (w, b, p) => t.setWq kv.1 { q with weight := w, burst := b, prefetch := p, next := none }
    | _, _ => t) else t) s

/-- One level of the arbiter (R293): members with credit left first, in the order of their visits; when none of them can be
served, a new round for the others, with what `round` does at its start. A visit whose member has nothing eligible is over. -/
def arbitrated (go : State → Nat → Bool × State) (members : List Nat) (weight burst : State → Nat → Nat)
    (get_ : State → Arb) (set_ : State → Arb → State) (round : State → State) (s : State) : Bool × State :=
  let a := get_ s
  let order := rrOrder members a
  match firstServed go s (order.filter (fun k => lookD a.credit k (weight s k) != 0)) with
  | (some k, s) => (true, set_ s (charge (get_ s) (weight s k) (burst s k) k))
  | (none, s) =>
    match firstServed go s (order.filter (fun k => lookD a.credit k (weight s k) == 0)) with
    | (some k, s) =>
      let s := round (set_ s { get_ s with taken := 0, credit := [] })
      (true, set_ s (charge (get_ s) (weight s k) (burst s k) k))
    | (none, s) => (false, set_ s { get_ s with taken := 0 })

/-- Queue level: one entry of function `f` at engine `e` (R293). -/
def takeOfFn (s : State) (e f : Nat) : Bool × State :=
  let key := 1024 * e + f
  arbitrated tryTake (((engWqs s e).filter (fun kv => kv.2.fn == f)).map (·.1))
    (fun t g => ((t.wqAt g).map (·.weight)).getD 1) (fun t g => ((t.wqAt g).map (·.burst)).getD 1)
    (fun t => lookD t.wq.wqArb key Arb.init) (fun t a => { t with wq := { t.wq with wqArb := put t.wq.wqArb key a } })
    (fun t => applyModify t e f) s

/-- Function level: one entry at engine `e` (R293, R308). -/
def takeAt (s : State) (e : Nat) : Bool × State :=
  let l := ((engWqs s e).map (fun kv => kv.2.fn)).foldl addOnce []
  arbitrated (fun t f => takeOfFn t e f) ((List.range 1024).filter l.contains)
    (fun t f => fnRd t f Reg.FnTab.FN_FN_WEIGHT) (fun t f => fnRd t f Reg.FnTab.FN_FN_BURST)
    (fun t => lookD t.wq.fnArb e Arb.init) (fun t a => { t with wq := { t.wq with fnArb := put t.wq.fnArb e a } })
    (fun t => t.bump (engBase e) Reg.Eng.ROUND_CNT) s

end Sys2Proof.Machine
end

