-- ==== Sys2Proof/Machine/WorkQueues.lean ====
section
/-!
DEFINITION. The commands of work queues, completion queues, event queues and the function table (spec/08_work_queues.md).
-/
namespace Sys2Proof.Machine

/-! ### Functions -/

/-- FN_STATUS.READY: the function-table entry is valid and no reset is in progress (R309). -/
def fnReady (s : State) (f : Nat) : Bool := fnRd s f Reg.FnTab.FN_VALID == 1 && !(s.fn f).resetting

/-- FN_STATUS, WQ_COUNT, CQ_COUNT, CHAN_FIRST and CHAN_COUNT of a queue BAR shown as the table has them (R309). -/
def fnShow (s : State) (f : Nat) : State :=
  let b := bar2 f
  (((((s.wr b Reg.Bar2.FN_STATUS_READY (b2n (fnReady s f))).wr b Reg.Bar2.FN_STATUS_RESETTING (b2n (s.fn f).resetting)).wr b
    Reg.Bar2.WQ_COUNT (fnRd s f Reg.FnTab.FN_WQ_COUNT)).wr b Reg.Bar2.CQ_COUNT (fnRd s f Reg.FnTab.FN_CQ_COUNT)).wr b
    Reg.Bar2.CHAN_FIRST (fnRd s f Reg.FnTab.FN_CHAN_FIRST)).wr b Reg.Bar2.CHAN_COUNT (fnRd s f Reg.FnTab.FN_CHAN_COUNT)

/-- A created queue of the function by local index; an index at or above the count names none (R273). -/
def localWq (s : State) (f i : Nat) : Option WqSt := if i < fnRd s f Reg.FnTab.FN_WQ_COUNT then s.wqAt (wqNo s f i) else none
/-- A created completion queue by local index. -/
def localCq (s : State) (f i : Nat) : Option CqSt := if i < fnRd s f Reg.FnTab.FN_CQ_COUNT then s.cqAt (cqNo s f i) else none

/-! ### Doorbells (R278, R286 to R289) -/

/-- The engine at which index tests of a queue that no engine serves are counted (a CQ, an EQ, an RQ or a TRQ). -/
def countEngine (n : Nat) : Nat := n % 16

/-- A rejected index: counted and reported (R278). `cq` marks a completion queue in the event. -/
def badIndex (s : State) (f e i v : Nat) (cq : Bool) : State :=
  raiseEvent (s.bump (engBase e) Reg.Eng.BAD_PI_CNT) f 0x20 [i + 2 ^ 16 * b2n cq, v, 0, 0]

/-- A new producer index for a work queue (R278): whether it was accepted. Its queue joins those with entries to fetch (R291). -/
def applyPi (s : State) (g : Nat) (q : WqSt) (v : Nat) : Bool × State :=
  if indexGood v (wqCi s q) (wqPi s q) q.logSize then
    let s := if v = wqCi s q then s else { s with wq := { s.wq with order := addOnce s.wq.order g } }
    (true, s.wri (bar2 q.fn) Reg.Bar2.WQ_PI q.idx v)
  else (false, badIndex s q.fn (engineOf g q) q.idx v false)

/-- WQ_DOORBELL (R273, R278, R286). -/
def execWqDoorbell (f : Fin 1024) (i : Fin 4096) (v : BitVec 32) (s : State) : Host.Outcome State Fault Refusal :=
  if fatalStopped s then .next s else
  if !(fnReady s f.val) then .next s
  else match localWq s f.val i.val with
    | none => .next s
    | some q =>
      let g := wqNo s f.val i.val
      let e := engBase (engineOf g q)
      if q.watched then .next (s.bump e Reg.Eng.BAD_PI_CNT)
      else
        let r := applyPi s g q v.toNat
        .next (if r.1 then r.2.bump e Reg.Eng.DB_MMIO_CNT else r.2)

/-- WATCHED_LINE_SNOOP (R288). -/
def execWatchedLineSnoop (f : Fin 1024) (a : BitVec 64) (s : State) : Host.Outcome State Fault Refusal :=
  match s.wq.lines.find? (fun w => w.fn == f.val && w.addr == a.toNat) with
  | none => .next s
  | some w => .next (lineTaken s w)

/-- The words of a watched line applied to every queue on it (R288). -/
def applyLine (s : State) (f a : Nat) (b : List Byte) : State :=
  (watchers s f a).foldl (fun t kv => match t.wqAt kv.1 with
    | some q =>
      let v := leAt b (4 * q.watchWord) 4
      if v = wqPi t q then t else (applyPi t kv.1 q v).2
    | none => t) s

/-- DOORBELL_FAULT for every queue on a line (R289). -/
def lineFault (s : State) (f a : Nat) : State :=
  (watchers s f a).foldl (fun t kv => raiseEvent t f 0x21 [kv.2.idx, 0, a % 2 ^ 32, a / 2 ^ 32]) s

/-- The pool line of a watched line's translation. -/
def watchedLine (l : List Chunk) : Option Nat :=
  match l with
  | c :: _ => (match regionOf c.da with | .pool => some (c.da / 64) | _ => none)
  | [] => none

/-- A watched line's read is over: another follows where a snoop came meanwhile (R288). -/
def lineReadEnds (s : State) (w : WatchSt) : State :=
  let s := mapLine s w.fn w.addr (fun k => { k with reading := k.again, again := false })
  if w.again then watchLoad (lineCount s w.fn w.addr Reg.Eng.DB_WATCH_CNT) w else s

/-- What a read of a watched line gave, applied (R288, R289). -/
def lineGave (s : State) (w : WatchSt) (b : List Byte) (bad : Bool) : State :=
  lineReadEnds (if bad then lineFault s w.fn w.addr else applyLine s w.fn w.addr b) w

/-- A watched pool line read by its cluster's agent: from its copy, taken shared now, or asked of the home (R288, R462). -/
def readPoolLine (s : State) (w : WatchSt) (line : Nat) : State :=
  let w := { w with line := some line }
  let s := mapLine s w.fn w.addr (fun k => { k with line := some line })
  let a := 64 + w.cluster
  match watchHeld s a line with
  | some c => lineGave s w c.data c.bad
  | none => match watchShare s a line with
    | some s => (let c := lineOfAgent s a line; lineGave s w c.data c.bad)
    | none => watchLoad s w

/-- WATCHED_LINE_READ_DONE (R288, R289). -/
def execWatchedLineReadDone (f : Fin 1024) (a : BitVec 64) (data : Option (List Byte)) (s : State) : Host.Outcome State Fault Refusal :=
  let f := f.val
  let a := a.toNat
  match s.wq.lines.find? (fun w => w.fn == f && w.addr == a) with
  | none => .next s
  | some w =>
    if !w.reading || clusterLost s w.cluster then .next s
    else match xlate s f a 64 (accLocal false) with
      | (.wait, s) => .next s
      | (.fault, s) => .next (lineGave s w [] true)
      | (.ok l, s) => match watchedLine l with
        | some line => .next (readPoolLine s w line)
        | none => .next (lineGave s w (gather s l (data.getD [])) (gatherBad s l || (data.isNone && outside l)))

/-- WATCH_POLL_TIMER (R289). -/
def execWatchPollTimer (s : State) : Host.Outcome State Fault Refusal :=
  if s.rd fnTab Reg.FnTab.WATCH_POLL_US = 0 then .next s
  else .next (s.wq.lines.foldl (fun t w =>
    lineCount (mapLine t w.fn w.addr (fun k => { k with reading := true })) w.fn w.addr Reg.Eng.WATCH_POLL_CNT) s)

/-! ### Entries (R279, R283, R284, R291) -/

/-- Entries that a queue may still have fetched ahead (R279, R291). -/
def wantFetch (s : State) (q : WqSt) : Nat := Nat.min (q.prefetch - q.fetched.length) (ringDist (wqPi s q) (wqCi s q))

/-- Room of an engine's fetch buffer that queue `g` may use: what its entries and the queues whose doorbells came before leave
(R291). -/
def fetchRoom (s : State) (e g : Nat) : Bool :=
  let held := (engWqs s e).foldl (fun m kv => m + kv.2.fetched.length) 0
  let before := (s.wq.order.takeWhile (· != g)).foldl (fun m k => match s.wqAt k with
    | some q => if engineOf k q = e then m + wantFetch s q else m
    | none => m) 0
  held + before < 2048

/-- WQ_ENTRY_ARRIVE (R279, R291): the next entry of the queue arrives on die. -/
def execWqEntryArrive (g : Fin 65536) (data : Option (List Byte)) (s : State) : Host.Outcome State Fault Refusal :=
  match s.wqAt g.val with
  | none => .next s
  | some q =>
    let e := engineOf g.val q
    let ci := wqCi s q
    if clusterLost s q.cluster ∨ (s.fn q.fn).resetting ∨ ci = wqPi s q ∨ q.prefetch ≤ q.fetched.length ∨
        !(fetchRoom s e g.val) then .next s
    else match xlate s q.fn (q.ring + 64 * (ci % 2 ^ q.logSize)) 64 (accLocal false) with
      | (.wait, s) => .next s
      | r =>
        let s := r.2
        let b : Option (List Byte) := match r.1 with
          | .ok l => if gatherBad s l || (data.isNone && outside l) then none else some (gather s l (data.getD []))
          | _ => none
        let s := s.setWq g.val { q with fetched := q.fetched ++ [{ index := ci, bytes := b, table := none, asked := false }] }
        let s := trailStart s (sendItem s e g.val ci q.fn (b.getD []))
        let s := if (ci + 1) % 2 ^ 32 = wqPi s q then { s with wq := { s.wq with order := s.wq.order.erase g.val } } else s
        .next (pfSync (s.wri (bar2 q.fn) Reg.Bar2.WQ_CI q.idx (ci + 1)) e)

/-- The fragment table of an entry as its bytes give it (R283). -/
def tableOf (b : List Byte) (n : Nat) : List Frag := (List.range n).map (fun i => fragAt b (16 * i))

/-- FRAG_TABLE_READ_DONE (R283): the table of the queue's oldest entry. -/
def execFragTableReadDone (g : Fin 65536) (data : Option (List Byte)) (s : State) : Host.Outcome State Fault Refusal :=
  match s.wqAt g.val with
  | none => .next s
  | some q => match q.fetched with
    | [] => .next s
    | x :: rest => match x.bytes, x.table with
      | some b, none =>
        if weKind b ≠ 2 then .next s
        else
          let a := leAt b 0x20 8
          let n := weTblCount b
          let key := leAt b 0x2C 4
          let put_ := fun (t : State) (l : Option (List Frag)) => t.setWq g.val { q with fetched := { x with table := some l } :: rest }
          if a % 16 ≠ 0 then .next (put_ s none)
          else match keyCheck s q.fn key a (16 * n) rLRead with
            | (.wait, s) => .next s
            | (.bad, s) => .next (put_ s none)
            | (.ok va, s) => match xlate s q.fn va (16 * n) { accLocal false with key := key / 256 } with
              | (.wait, s) => .next s
              | (.fault, s) => .next (put_ s none)
              | (.ok l, s) =>
                if gatherBad s l || (data.isNone && outside l) then .next (put_ s none)
                else .next (put_ s (some (tableOf (gather s l (data.getD [])) n)))
      | _, _ => .next s

/-- WQ_ENTRY_TAKE (R284, R292 to R294): the engine's arbiter takes one entry. -/
def execWqEntryTake (e : Fin 16) (s : State) : Host.Outcome State Fault Refusal :=
  if fatalStopped s then .next s else
  .next (tpEnd (takeAt s e.val).2 (e.val / 4))

/-! ### Index write-backs, consumer indices, arming (R278, R280, R300) -/

/-- An armed CQ whose producer index differs from its consumer index interrupts and disarms (R300). -/
def cqFire (s : State) (g : Nat) : State :=
  match s.cqAt g with
  | none => s
  | some x =>
    if x.intEn && x.armed && cqPi s x != cqCi s x then sendMsix (s.setCq g { x with armed := false }) x.fn x.vec else s

/-- An index written back to `addr` for function `f`: done, waiting for a translation, or faulted (R280). -/
def writeIndex (s : State) (f addr v : Nat) : XRes × State :=
  if addr = 0 then (.ok [], s)
  else match xlate s f addr 4 (accLocal true) with
    | (.ok l, s) => (.ok l, scatter s l (leBytes v 4) false)
    | r => r

/-- WB_FAULT (R304). -/
def wbFault (s : State) (f i : Nat) (cq : Bool) : State := raiseEvent s f 0x23 [i + 2 ^ 16 * b2n cq, 0, 0, 0]

/-- The RQ_CI of a domain written back (R280, R318). -/
def rqWriteback (s : State) (d : Nat) : State :=
  match domOwner s d with
  | none => s
  | some (f, j) =>
    let x := s.dom d
    let ci := drd s f j Reg.Dom.RQ_CI
    if ci = x.wbCi ∨ within s x.wbAt 256 then s
    else match writeIndex s f (drd64 s f j Reg.Dom.CI_WB_ADDR_LO Reg.Dom.CI_WB_ADDR_HI) ci with
      | (.wait, s) => s
      | (.ok _, s) => s.setDom d { s.dom d with wbCi := ci, wbAt := some s.now }
      | (.fault, s) => wbFault (s.setDom d { s.dom d with wbCi := ci, wbAt := some s.now }) f j false

/-- INDEX_WRITEBACK (R280, R297, R300, R304). -/
def execIndexWriteback (q : IdxOf) (s : State) : Host.Outcome State Fault Refusal :=
  match q with
  | .wq g => match s.wqAt g.val with
    | none => .next s
    | some x =>
      let ci := wqCi s x
      if ci = x.wbCi ∨ within s x.wbAt 256 then .next s
      else match writeIndex s x.fn x.wb ci with
        | (.wait, s) => .next s
        | (.ok _, s) => .next (s.setWq g.val { x with wbCi := ci, wbAt := some s.now })
        | (.fault, s) => .next (wbFault (s.setWq g.val { x with wbCi := ci, wbAt := some s.now }) x.fn x.idx false)
  | .cq g => match s.cqAt g.val with
    | none => .next s
    | some x =>
      let pi := cqPi s x
      if pi = x.wbPi ∨ within s x.wbAt 256 then .next s
      else match writeIndex s x.fn x.wb pi with
        | (.wait, s) => .next s
        | (.ok _, s) => .next (cqFire (s.setCq g.val { x with wbPi := pi, wbAt := some s.now }) g.val)
        | (.fault, s) => .next (wbFault (s.setCq g.val { x with wbPi := pi, wbAt := some s.now }) x.fn x.idx true)
  | .rq d => .next (rqWriteback s d.val)

/-- CQ_CI_WRITE (R273, R278). -/
def execCqCiWrite (f : Fin 1024) (i : Fin 4096) (v : BitVec 32) (s : State) : Host.Outcome State Fault Refusal :=
  if fatalStopped s then .next s else
  if !(fnReady s f.val) then .next s
  else match localCq s f.val i.val with
    | none => .next s
    | some x =>
      if consumerGood v.toNat (cqCi s x) (cqPi s x) x.logSize then .next (s.wri (bar2 f.val) Reg.Bar2.CQ_CI i.val v.toNat)
      else .next (badIndex s f.val (countEngine (cqNo s f.val i.val)) i.val v.toNat true)

/-- CQ_ARM (R273, R300). -/
def execCqArm (f : Fin 1024) (i : Fin 4096) (s : State) : Host.Outcome State Fault Refusal :=
  if fatalStopped s then .next s else
  if !(fnReady s f.val) then .next s
  else match localCq s f.val i.val with
    | none => .next s
    | some x =>
      let g := cqNo s f.val i.val
      .next (cqFire (s.setCq g { x with armed := true }) g)

/-- EQ_ARM (R300). -/
def execEqArm (f : Fin 1024) (s : State) : Host.Outcome State Fault Refusal :=
  if fatalStopped s then .next s else
  if fnReady s f.val && s.on (bar2 f.val) Reg.Bar2.EQ_CFG_EN then
    .next (eqFire (s.setFn f.val { s.fn f.val with eqArmed := true }) f.val)
  else .next s

/-- EQ_CI_WRITE (R278, R309). -/
def execEqCiWrite (f : Fin 1024) (v : BitVec 32) (s : State) : Host.Outcome State Fault Refusal :=
  if fatalStopped s then .next s else
  let b := bar2 f.val
  if !(fnReady s f.val) then .next s
  else if consumerGood v.toNat (s.rd b Reg.Bar2.EQ_CI) (s.rd b Reg.Bar2.EQ_PI) (s.rd b Reg.Bar2.EQ_CFG_LOG_SIZE) then
    .next (s.wr b Reg.Bar2.EQ_CI v.toNat)
  else .next (badIndex s f.val (countEngine f.val) 0 v.toNat false)

/-! ### Queue reset (R305, R337) -/

/-- Channels of `f` that are on die closed without completions (R234, R305). -/
def closeOwned (s : State) (f : Nat) : State :=
  s.tp.chans.foldl (fun t kv => match t.chan kv.1 with
    | some x => if x.ctx.owner = f ∧ x.ctx.state ≠ csClosed then closeNow t kv.1 true else t
    | none => t) s

/-- A pool context of `f` that is not on die written back as CLOSED (R305 step 2). -/
def closeStored (s : State) (f ch : Nat) : State :=
  let a := ctxAddr s ch
  if (s.chan ch).isSome then s
  else if !(isMemory s a) || viewBad s a 256 || 3 < bits (leNat (viewBytes s a 4)) 3 0 then
    raiseEvent ((s.bump (tb ch) Reg.Tc.CTX_FETCH_FAIL_CNT).setEvt (tb ch) Reg.Tc.TP_EVENT 1)
      (s.rd (tb ch) Reg.Tc.CTX_FAULT_FUNC) 0x03 [ch, 0, a % 2 ^ 32, a / 2 ^ 32]
  else
    let b := viewBytes s a 256
    let c := Ctx.ofWords ((List.range 64).map (fun i => leAt b (4 * i) 4))
    if c.owner = f ∧ c.state ≠ csClosed then
      directWrite s a ({ c with state := csClosed, errCode := 0 }.toWords.flatMap (fun w => leBytes w 4)) false
    else s

/-- The backing store of a cluster gone through for contexts of `f` (R305 step 2): in the pool here, in host memory one read
after the other. -/
def scanStore (s : State) (f c : Nat) : State :=
  if !(s.on (clusterBase c) Reg.Tc.CTX_CFG_EN) then s
  else if s.on (clusterBase c) Reg.Tc.CTX_CFG_LOC then scanStep s { fn := f, cluster := c, ch := 0, writing := false }
  else ((List.range (s.rd (clusterBase c) Reg.Tc.CTX_ENTRIES)).filter (fun n => n % 4 == c)).foldl (fun t n => closeStored t f n) s

/-- A domain of `f` returned to the unconfigured state with nothing written (R337). -/
def dropDomain (s : State) (f j d : Nat) : State :=
  let s := loseMsgs s d
  let s := s.setDom d DomSt.init
  { s with regs := dropKeys s.regs (fun k =>
      bar2 f + 0x30000 + 64 * j ≤ k / 32 && k / 32 < bar2 f + 0x30000 + 64 * j + 64) }

/-- Queues, event queue, NOTIFY_CQ, tunnel queue and domains of `f` returned to the unconfigured state, indices 0 (R305 step
5): every field of its queue BAR below the MSI-X area takes its reset value. -/
def dropQueues (s : State) (f : Nat) : State :=
  let n := s.rdi mtBase Reg.Mt.FN_DOM_DOM_COUNT f
  let d0 := s.rdi mtBase Reg.Mt.FN_DOM_DOM_FIRST f
  let s := (List.range n).foldl (fun t j => dropDomain t f j (d0 + j)) s
  let wq := { s.wq with
    wqs := s.wq.wqs.filter (fun kv => kv.2.fn != f)
    cqs := s.wq.cqs.filter (fun kv => kv.2.fn != f)
    lines := s.wq.lines.filter (fun w => w.fn != f)
    order := s.wq.order.filter (fun g => ((s.wqAt g).map (fun q => q.fn != f)).getD false)
    tuns := s.wq.tuns.filter (fun j => j.fn != f) }
  { s with
    wq := wq
    xl := { s.xl with inval := s.xl.inval.filter (fun w => (look wq.wqs w.wq).isSome) }
    regs := dropKeys s.regs (fun k => bar2 f ≤ k / 32 && k / 32 < bar2 f + 0x34000) }

/-- Pool lines that only queues of `f` watch leave their agents (R305 step 4). -/
def releaseLines (s : State) (f : Nat) : State :=
  (s.wq.lines.filter (fun w => w.fn == f)).foldl (fun t w => match w.line with
    | none => t
    | some l =>
      if s.wq.lines.any (fun k => k.fn != f && k.line == some l && k.cluster == w.cluster) then t
      else localOp t (64 + w.cluster) l (lineOfAgent t (64 + w.cluster) l) .replace) s

/-- A queue reset of `f` up to its end (R305 steps 1 to 5; R369). -/
def queueReset (s : State) (f : Nat) : State :=
  let s := trailEndAll (s.setFn f { s.fn f with resetting := true, eqArmed := false, eqWait := [], cmd := none }) (fun x => x.fn == f) 5
  let cqOff := { s.wq with cqs := s.wq.cqs.map (fun kv => (kv.1, if kv.2.fn = f then { kv.2 with wait := [] } else kv.2)) }
  let s := closeOwned { s with wq := cqOff, tp := { s.tp with
    cmds := s.tp.cmds.filter (fun k => k.fn != some f), scans := s.tp.scans.filter (fun k => k.fn != f) } } f
  let s := (List.range 4).foldl (fun t c => scanStore t f c) s
  let s := collFnReset s f
  let s := freeKeys (dropQueues (releaseLines s f) f) f
  let s := { s with xl := { s.xl with walks := s.xl.walks.filter (fun k => k.fn != f), keyCmd := del s.xl.keyCmd f } }
  let s := s.setFn f { s.fn f with eqSeq := 0 }
  tpSyncAll (fnShow ((List.range 16).foldl pfSync s) f)

/-- QUEUE_RESET (R305). -/
def execQueueReset (f : Fin 1024) (s : State) : Host.Outcome State Fault Refusal :=
  if fatalStopped s then .next s else .next (queueReset s f.val)

/-- QUEUE_RESET_DONE (R305 step 6). -/
def execQueueResetDone (f : Fin 1024) (s : State) : Host.Outcome State Fault Refusal :=
  .next (if (s.fn f.val).resetting && !((liveTags s).any (fun t => t.fn == f.val)) && s.tp.scans.all (fun k => k.fn != f.val) then
    fnShow (s.setFn f.val { s.fn f.val with resetting := false }) f.val else s)

/-! ### The function table (R274) -/

/-- Two ranges overlap. -/
def overlaps (a n b m : Nat) : Bool := 0 < n && 0 < m && a < b + m && b < a + n

/-- The ranges of a function-table entry may be set valid (R274). -/
def fnRangesGood (s : State) (f : Nat) : Bool :=
  let wf := fnRd s f Reg.FnTab.FN_WQ_FIRST
  let wc := fnRd s f Reg.FnTab.FN_WQ_COUNT
  let cf := fnRd s f Reg.FnTab.FN_CQ_FIRST
  let cc := fnRd s f Reg.FnTab.FN_CQ_COUNT
  let hf := fnRd s f Reg.FnTab.FN_CHAN_FIRST
  let hc := fnRd s f Reg.FnTab.FN_CHAN_COUNT
  wf + wc ≤ 65536 && cf + cc ≤ 65536 && hf + hc ≤ 0xFF000 &&
  (List.range 1024).all (fun k => k == f || fnRd s k Reg.FnTab.FN_VALID == 0 ||
    !(overlaps wf wc (fnRd s k Reg.FnTab.FN_WQ_FIRST) (fnRd s k Reg.FnTab.FN_WQ_COUNT) ||
      overlaps cf cc (fnRd s k Reg.FnTab.FN_CQ_FIRST) (fnRd s k Reg.FnTab.FN_CQ_COUNT) ||
      overlaps hf hc (fnRd s k Reg.FnTab.FN_CHAN_FIRST) (fnRd s k Reg.FnTab.FN_CHAN_COUNT)))

/-- FN.VALID of a function written (R274). -/
def setFnValid (s : State) (f : Nat) (v : Bool) : State :=
  let was := fnRd s f Reg.FnTab.FN_VALID == 1
  if v && !was then
    if fnRangesGood s f then fnShow (s.wri fnTab Reg.FnTab.FN_VALID f 1) f else configError s (.cluster 0)
  else if !v && was then
    let s := queueReset s f
    fnShow (s.wri fnTab Reg.FnTab.FN_VALID f 0) f
  else s

/-- FN_VALID_WRITE (R274, R305). -/
def execFnValidWrite (r : Route) (f : Fin 1024) (v : Bool) (s : State) : Host.Outcome State Fault Refusal :=
  .next (guarded s r (fnTab + 0x101C + 32 * f.val) (fun s => setFnValid s f.val v))

/-! ### Queue commands (R290, R306, R309, R310) -/

/-- The queue image in CMD_IMAGE (R310). -/
def qImg (s : State) (f i : Nat) : Nat := s.rdi (bar2 f) Reg.Bar2.CMD_IMAGE i
/-- A 64-bit field of the image. -/
def qImg64 (s : State) (f i : Nat) : Nat := qImg s f i + 2 ^ 32 * qImg s f (i + 1)

/-- A queue command ends with RESULT. -/
def qDone (s : State) (f result : Nat) : State :=
  ((s.setFn f { s.fn f with cmd := none }).wr (bar2 f) Reg.Bar2.CMD_STATUS_BUSY 0).wr (bar2 f) Reg.Bar2.CMD_STATUS_RESULT result

/-- A queue command waits for a translation with BUSY at 1. -/
def qWait (s : State) (f op : Nat) : State :=
  (s.setFn f { s.fn f with cmd := some op }).wr (bar2 f) Reg.Bar2.CMD_STATUS_BUSY 1

/-- A work queue from the image, for local index `i` (R310). -/
def wqOfImg (s : State) (f i : Nat) : WqSt :=
  let w0 := qImg s f 0
  let w1 := qImg s f 1
  let p := bits w1 22 16
  { fn := f, idx := i, logSize := bits w0 3 0, watched := bitOf w0 4, cluster := bits w0 7 6, weight := bits w0 15 8,
    burst := bits w0 24 16, cq := bits w1 11 0, prefetch := if p = 0 then 8 else p, ring := qImg64 s f 2, wb := qImg64 s f 4,
    watchAddr := qImg64 s f 6, watchWord := bits (qImg s f 8) 3 0, next := none, fetched := [], waiting := false,
    wbCi := 0, wbAt := none }

/-- WEIGHT, BURST and PREFETCH are in range. -/
def wqTuning (q : WqSt) : Bool := 1 ≤ q.weight && 1 ≤ q.burst && q.burst ≤ 256 && q.prefetch ≤ 64

/-- The image of a WQ is in range (R277, R306, R310). -/
def wqImgGood (s : State) (q : WqSt) : Bool :=
  4 ≤ q.logSize && wqTuning q && (localCq s q.fn q.cq).isSome && q.ring % (64 * 2 ^ q.logSize) == 0 && q.wb % 8 == 0 &&
  (!q.watched || q.watchAddr % 64 == 0)

/-- A watched line may be watched (R287): pool memory, or host memory behind the function's own attachment with CXL.cache
enabled. -/
def lineGood (s : State) (f : Nat) (l : List Chunk) : Bool :=
  l.all (fun c => match regionOf c.da with
    | .pool => true
    | .host a _ => attOfFn s f == some a && (s.att a).cacheEn
    | _ => false)

/-- A created work queue with its watched line, which is read at once (R288). -/
def putWq (s : State) (g : Nat) (q : WqSt) : State :=
  let s := s.setWq g q
  let s := (s.wri (bar2 q.fn) Reg.Bar2.WQ_PI q.idx 0).wri (bar2 q.fn) Reg.Bar2.WQ_CI q.idx 0
  if !q.watched || s.wq.lines.any (fun w => w.fn == q.fn && w.addr == q.watchAddr) then s
  else
    let w : WatchSt := { fn := q.fn, addr := q.watchAddr, cluster := q.cluster, line := none, reading := true, again := false }
    { s with wq := { s.wq with lines := s.wq.lines ++ [w] } }

/-- WQ_CREATE once its index and state are right (R287, R290, R306, R310). -/
def wqCreateRun (s : State) (f i : Nat) : State :=
  let q := wqOfImg s f i
  if !(wqImgGood s q) then qDone s f 3
  else match xlate s f q.ring 64 (accLocal false) with
    | (.wait, s) => qWait s f 1
    | (.fault, s) => qDone s f 3
    | (.ok _, s) =>
      if !q.watched then qDone (putWq s (wqNo s f i) q) f 0
      else match xlate s f q.watchAddr 64 (accLocal false) with
        | (.wait, s) => qWait s f 1
        | (.fault, s) => qDone s f 3
        | (.ok l, s) =>
          let known := s.wq.lines.any (fun w => w.fn == f && w.addr == q.watchAddr)
          if !(lineGood s f l) || 16 ≤ (watchers s f q.watchAddr).length then qDone s f 3
          else if !known && 4096 ≤ (s.wq.lines.filter (fun w => w.cluster == q.cluster)).length then qDone s f 4
          else qDone (putWq s (wqNo s f i) q) f 0

/-- CQ_CREATE once its index and state are right (R306, R310). -/
def cqCreateRun (s : State) (f i : Nat) : State :=
  let w0 := qImg s f 0
  let w1 := qImg s f 1
  let x : CqSt := { fn := f, idx := i, logSize := bits w0 3 0, intEn := bitOf w1 24, vec := bits w1 10 0, ring := qImg64 s f 2,
                    wb := qImg64 s f 4, reserved := 0, armed := false, wbPi := 0, wbAt := none, wait := [] }
  if x.logSize < 4 ∨ x.ring % (32 * 2 ^ x.logSize) ≠ 0 ∨ x.wb % 8 ≠ 0 then qDone s f 3
  else match xlate s f x.ring 32 (accLocal true) with
    | (.wait, s) => qWait s f 3
    | (.fault, s) => qDone s f 3
    | (.ok _, s) =>
      qDone (((s.setCq (cqNo s f i) x).wri (bar2 f) Reg.Bar2.CQ_PI i 0).wri (bar2 f) Reg.Bar2.CQ_CI i 0) f 0

/-- WQ_MODIFY: WEIGHT, BURST and PREFETCH from the start of the next round (R293, R310). -/
def wqModifyRun (s : State) (f i : Nat) (q : WqSt) : State :=
  let n := wqOfImg s f i
  if !(wqTuning n) then qDone s f 3 else qDone (s.setWq (wqNo s f i) { q with next := some (n.weight, n.burst, n.prefetch) }) f 0

/-- The image that WQ_QUERY returns. -/
def wqImage (s : State) (q : WqSt) : List Nat :=
  [q.logSize + 2 ^ 4 * b2n q.watched + 2 ^ 6 * q.cluster + 2 ^ 8 * q.weight + 2 ^ 16 * q.burst,
   q.cq + 2 ^ 16 * q.prefetch, q.ring % 2 ^ 32, q.ring / 2 ^ 32, q.wb % 2 ^ 32, q.wb / 2 ^ 32,
   if q.watched then q.watchAddr % 2 ^ 32 else 0, if q.watched then q.watchAddr / 2 ^ 32 else 0,
   if q.watched then q.watchWord else 0, 0, 0, 0, wqPi s q, wqCi s q]

/-- The image that CQ_QUERY returns. -/
def cqImage (s : State) (x : CqSt) : List Nat :=
  [x.logSize, x.vec + 2 ^ 24 * b2n x.intEn, x.ring % 2 ^ 32, x.ring / 2 ^ 32, x.wb % 2 ^ 32, x.wb / 2 ^ 32, 0, 0, 0, 0, 0, 0,
   cqPi s x, cqCi s x]

/-- A queue command (OP 1 to 5): index, state, then its effect (R310). -/
def qRun (s : State) (f op : Nat) : State :=
  let i := s.rd (bar2 f) Reg.Bar2.CMD_ARG
  if op = 1 ∨ op = 2 ∨ op = 4 then
    if fnRd s f Reg.FnTab.FN_WQ_COUNT ≤ i then qDone s f 1
    else match localWq s f i with
      | none => if op = 1 then wqCreateRun s f i else qDone s f 2
      | some q => if op = 1 then qDone s f 2 else if op = 2 then wqModifyRun s f i q
          else qDone (putImage s (some f) 0 (wqImage s q)) f 0
  else if fnRd s f Reg.FnTab.FN_CQ_COUNT ≤ i then qDone s f 1
  else match localCq s f i with
    | none => if op = 3 then cqCreateRun s f i else qDone s f 2
    | some x => if op = 3 then qDone s f 2 else qDone (putImage s (some f) 0 (cqImage s x)) f 0

/-- A channel command from BAR2 (R232, R309): OP 8 to 12 are OPEN to QUERY. -/
def fnChanRun (s : State) (f op : Nat) : State :=
  let ch := s.rd (bar2 f) Reg.Bar2.CMD_ARG
  let first := fnRd s f Reg.FnTab.FN_CHAN_FIRST
  if isSr ch || ch < first || first + fnRd s f Reg.FnTab.FN_CHAN_COUNT ≤ ch || !(ctxExists s ch) then
    (s.wr (bar2 f) Reg.Bar2.CMD_STATUS_BUSY 0).wr (bar2 f) Reg.Bar2.CMD_STATUS_RESULT 1
  else tpEnd (startCmd s (some f) (op - 7) ch) (clusterOf ch)

/-- GO of CMD in a queue BAR (R309): discarded while the function is not ready or BUSY is 1. -/
def fnCmd (s : State) (f op : Nat) : State :=
  if !(fnReady s f) || s.on (bar2 f) Reg.Bar2.CMD_STATUS_BUSY then s
  else
    let s := (s.wr (bar2 f) Reg.Bar2.CMD_OP op).wr (bar2 f) Reg.Bar2.CMD_STATUS_BUSY 1
    if 8 ≤ op then fnChanRun s f op else qRun s f op

/-- Queue commands that waited for a translation go on. -/
def resumeFns (s : State) : State :=
  s.fns.foldl (fun t kv => match kv.2.cmd with
    | some op => qRun t kv.1 op
    | none => t) s

/-- WQ_CREATE (R310). -/
def execWqCreate (f : Fin 1024) (s : State) : Host.Outcome State Fault Refusal :=
  if fatalStopped s then .next s else .next (fnCmd s f.val 1)
/-- WQ_MODIFY (R293, R310). -/
def execWqModify (f : Fin 1024) (s : State) : Host.Outcome State Fault Refusal :=
  if fatalStopped s then .next s else .next (fnCmd s f.val 2)
/-- CQ_CREATE (R310). -/
def execCqCreate (f : Fin 1024) (s : State) : Host.Outcome State Fault Refusal :=
  if fatalStopped s then .next s else .next (fnCmd s f.val 3)
/-- WQ_QUERY (R310). -/
def execWqQuery (f : Fin 1024) (s : State) : Host.Outcome State Fault Refusal :=
  if fatalStopped s then .next s else .next (fnCmd s f.val 4)
/-- CQ_QUERY (R310). -/
def execCqQuery (f : Fin 1024) (s : State) : Host.Outcome State Fault Refusal :=
  if fatalStopped s then .next s else .next (fnCmd s f.val 5)
/-- CH_OPEN (R233, R309). -/
def execChOpen (f : Fin 1024) (s : State) : Host.Outcome State Fault Refusal :=
  if fatalStopped s then .next s else .next (fnCmd s f.val 8)
/-- CH_MODIFY (R233, R309). -/
def execChModify (f : Fin 1024) (s : State) : Host.Outcome State Fault Refusal :=
  if fatalStopped s then .next s else .next (fnCmd s f.val 9)
/-- CH_CLOSE (R234, R309). -/
def execChClose (f : Fin 1024) (s : State) : Host.Outcome State Fault Refusal :=
  if fatalStopped s then .next s else .next (fnCmd s f.val 10)
/-- CH_CLOSE_FORCE (R234, R309). -/
def execChCloseForce (f : Fin 1024) (s : State) : Host.Outcome State Fault Refusal :=
  if fatalStopped s then .next s else .next (fnCmd s f.val 11)
/-- CH_QUERY (R233, R309). -/
def execChQuery (f : Fin 1024) (s : State) : Host.Outcome State Fault Refusal :=
  if fatalStopped s then .next s else .next (fnCmd s f.val 12)

/-- ENGINE_CNT_CLR (R308). -/
def execEngineCntClr (r : Route) (e : Fin 16) (s : State) : Host.Outcome State Fault Refusal :=
  .next (guarded s r (engBase e.val + 0x50) (fun s => s.clearAll (engBase e.val)
    [Reg.Eng.TAKEN_CNT, Reg.Eng.ERR_COMPL_CNT, Reg.Eng.DB_MMIO_CNT, Reg.Eng.DB_WATCH_CNT, Reg.Eng.WATCH_POLL_CNT,
     Reg.Eng.BAD_PI_CNT, Reg.Eng.CQ_FAULT_CNT]))

end Sys2Proof.Machine
end

