-- ==== Sys2Proof/Machine/Matching.lean ====
section
/-!
DEFINITION. The commands of the matching unit (spec/09_matching.md).
-/
namespace Sys2Proof.Machine

/-! ### Receive queues (R318, R319) -/

/-- A receive entry from its 64 bytes (R318): KIND. -/
def reKind (b : List Byte) : Nat := leAt b 0 1
/-- LENGTH. -/
def reLen (b : List Byte) : Nat := leAt b 0x28 4
/-- CANCEL_INDEX. -/
def reCancel (b : List Byte) : Nat := leAt b 0x30 4

/-- The posted receive of an entry; its key is checked later. -/
def postOf (b : List Byte) (seq index : Nat) : PostEnt :=
  { seq := seq, index := index, srcAny := bitOf (leAt b 0 4) 8, source := bits (leAt b 4 4) 23 0, comm := leAt b 8 2,
    tag := leAt b 0x10 8, ignore := leAt b 0x18 8, addr := leAt b 0x20 8, va := leAt b 0x20 8, len := reLen b,
    lkey := leAt b 0x2C 4, onDie := true }

/-- Completion opcodes and statuses of R338 and R339. -/
def kTaggedRecv : Nat := 0x81
/-- RECV_CANCEL. -/
def kRecvCancel : Nat := 0x82
/-- BAD_RECV_ENTRY. -/
def stBadRecv : Nat := 0x27

/-- An entry taken ends at once with a status, with nothing bound (R319, R335). -/
def endRecv (s : State) (d kind status index msgLen : Nat) : State := completeRecv s d kind status index 0 0 0 0 msgLen

/-- RQ_DOORBELL (R273, R278, R318, R344). -/
def execRqDoorbell (f : Fin 1024) (j : Fin 256) (v : BitVec 32) (s : State) : Host.Outcome State Fault Refusal :=
  if fatalStopped s || unitOff s .matching then .next s else
  let f := f.val
  let j := j.val
  if !(fnReady s f) || s.rdi mtBase Reg.Mt.FN_DOM_DOM_COUNT f ≤ j then .next s
  else if indexGood v.toNat (drd s f j Reg.Dom.RQ_CI) (drd s f j Reg.Dom.RQ_PI) (drd s f j Reg.Dom.DOM_CFG_LOG_SIZE) then
    .next (s.wri (bar2 f) Reg.Dom.RQ_PI j v.toNat)
  else .next (badIndex s f (countEngine (s.rdi mtBase Reg.Mt.FN_DOM_DOM_FIRST f + j)) j v.toNat false)

/-- The ring moves past the entry taken, with one slot of the domain's CQ reserved (R319). -/
def takeSlot (s : State) (f j index : Nat) : State :=
  cqReserve (s.wri (bar2 f) Reg.Dom.RQ_CI j (index + 1)) (cqNo s f (drd s f j Reg.Dom.DOM_CFG_CQ)) 1

/-- A POST with a good key bound to the unexpected message `u` (R321, R330, R332). -/
def bindPost (s : State) (d : Nat) (p : PostEnt) (u : UxEnt) : State :=
  let x := s.dom d
  let b : BoundEnt :=
    { index := p.index, addr := p.addr, va := p.va, len := p.len, lkey := p.lkey, ch := u.ch, gen := u.gen, psn := u.psn,
      src := u.src, tag := u.tag, msgLen := u.msgLen, rts := u.rts, slot := u.slot, arrived := u.done_, fault := false }
  let s := s.setDom d { x with ux := x.ux.erase u, bound := x.bound ++ [b] }
  let s := cntCM (s.bump mtBase Reg.Mt.POST_BOUND_CNT) .matching 0x104 1 none (some d)
  if u.rts then startRndv s d u.ch b u.skey u.saddr else s

/-- The channel on which a POST would start a rendezvous: usable, gone, or to be fetched first. -/
inductive RndvChan | usable | gone | fetch
  deriving DecidableEq, Repr

/-- The channel that carried an unexpected SEND_RTS, as it stands now (R332, R334). -/
def rndvChan (s : State) (u : UxEnt) : RndvChan :=
  match s.chan u.ch with
  | some c => if c.ctx.state = csOpen ∧ c.ctx.gen = u.gen then .usable else .gone
  | none => .fetch

/-- A POST entry at index `i` (R319, R321, R325). -/
def takePost (s : State) (d f j i : Nat) (b : List Byte) : State :=
  let x := s.dom d
  let p := postOf b x.postSeq i
  let found := findUx x p
  let reached := match found with | some u => !u.onDie | none => x.ux.any (fun u => !u.onDie)
  let room := postRoom s d f j
  if found.isNone ∧ room = none then
    if x.fullPost then s
    else (ovfFull s d f j true).bump mtBase Reg.Mt.RQ_STALL_CNT |>.setEvt mtBase Reg.Mt.MT_EVENT 2
  else if 2 ^ 31 < p.len then endRecv (takeSlot s f j i) d kTaggedRecv stBadRecv i 0
  else match (if p.len = 0 then (KeyRes.ok p.addr, s) else keyCheck s f p.lkey p.addr p.len rLWrite) with
    | (.wait, s) => s
    | (.bad, s) => endRecv (takeSlot s f j i) d kTaggedRecv stLocalKey i 0
    | (.ok va, s) =>
      let p := { p with va := va }
      match found with
      | some u =>
        (match (if u.rts then rndvChan s u else .usable) with
         | .fetch => wantCtx s u.ch
         | .usable => bindPost (countSearch (takeSlot s f j i) d reached) d p u
         | .gone =>
           let s := cntCM ((countSearch (takeSlot s f j i) d reached).bump mtBase Reg.Mt.POST_BOUND_CNT) .matching 0x104 1 none (some d)
           let s := s.setDom d { s.dom d with ux := (s.dom d).ux.erase u }
           completeRecv s d kTaggedRecv 0x22 i u.ch u.gen u.tag u.src u.msgLen)
      | none =>
        let onDie := room.getD true
        match (if onDie then (XRes.ok [], s) else ovfWrite s d f j) with
        | (.wait, s) => s
        | (.fault, s) => domLost s d
        | (.ok _, s) =>
          let s := countSearch (takeSlot s f j i) d reached
          let s := s.setDom d { s.dom d with
            fullPost := false
            posted := (s.dom d).posted ++ [{ p with onDie := onDie }]
            postSeq := (x.postSeq + 1) % 2 ^ 32 }
          cntCM (s.bump mtBase Reg.Mt.POST_FILED_CNT) .matching 0x105 1 none (some d)

/-- A CANCEL entry at index `i` (R335). -/
def takeCancel (s : State) (d f j i : Nat) (b : List Byte) : State :=
  let s := takeSlot s f j i
  let x := s.dom d
  match x.posted.find? (fun p => p.index == reCancel b) with
  | some p =>
    let s := completeRecv (s.setDom d { x with posted := x.posted.erase p }) d kTaggedRecv 0x24 p.index 0 0 0 0 0
    endRecv s d kRecvCancel 0 i (reCancel b)
  | none => endRecv s d kRecvCancel 0x26 i (reCancel b)

/-- RECV_ENTRY_TAKE (R279, R319). -/
def execRecvEntryTake (d : Fin 4096) (data : Option (List Byte)) (s : State) : Host.Outcome State Fault Refusal :=
  if unitOff s .matching then .next s else
  match domOwner s d.val with
  | none => .next s
  | some (f, j) =>
    let d := d.val
    let i := drd s f j Reg.Dom.RQ_CI
    let cq := s.cqAt (cqNo s f (drd s f j Reg.Dom.DOM_CFG_CQ))
    if !(fnReady s f) || !(domOn s f j) || i == drd s f j Reg.Dom.RQ_PI || !((cq.map (fun q => cqRoom s q 1)).getD false) then
      .next s
    else match xlate s f (drd64 s f j Reg.Dom.RQ_BASE_LO Reg.Dom.RQ_BASE_HI +
        64 * (i % 2 ^ drd s f j Reg.Dom.DOM_CFG_LOG_SIZE)) 64 (accLocal false) with
      | (.wait, s) => .next s
      | (.fault, s) => .next (endRecv (takeSlot s f j i) d kTaggedRecv stEntryFault i 0)
      | (.ok l, s) =>
        if gatherBad s l || (data.isNone && outside l) then .next (endRecv (takeSlot s f j i) d kTaggedRecv stEntryFault i 0)
        else
          let b := gather s l (data.getD [])
          if reKind b = 1 then .next (tpSyncAll (payFins (takePost s d f j i b)))
          else if reKind b = 2 then
            .next (if 2 ^ 31 < reLen b then endRecv (takeSlot s f j i) d kRecvCancel stBadRecv i (reCancel b)
              else takeCancel s d f j i b)
          else .next (endRecv (takeSlot s f j i) d kTaggedRecv stBadRecv i 0)

/-- OVERFLOW_MOVE (R324). -/
def execOverflowMove (d : Fin 4096) (s : State) : Host.Outcome State Fault Refusal :=
  if unitOff s .matching then .next s else .next (moveOverflow s d.val)

/-! ### Receives that complete (R330, R333, R334) -/

/-- The status of an eager or rendezvous receive whose bytes came (R330, R333). -/
def recvStatus (b : BoundEnt) : Nat := if b.fault then stLocalWrite else if b.len < b.msgLen then 0x23 else 0

/-- A bound receive completed and forgotten, its slot with it. -/
def endBound (s : State) (d : Nat) (b : BoundEnt) (status : Nat) : State :=
  let s := s.setDom d { s.dom d with bound := (s.dom d).bound.erase b }
  completeRecv s d kTaggedRecv status b.index b.ch b.gen b.tag b.src b.msgLen

/-- Writes of the message's packets are still to become visible (R330, R499). -/
def msgHidden (s : State) (b : BoundEnt) : Bool :=
  match s.chanAny b.ch with
  | some x => x.vis.any (fun v => v.1 < 2 ^ 24 && psnDist b.psn v.1 ≤ b.msgLen / 4096)
  | none => false

/-- EAGER_RECV_DONE (R330). -/
def execEagerRecvDone (d : Fin 4096) (index : BitVec 32) (s : State) : Host.Outcome State Fault Refusal :=
  if unitOff s .matching then .next s else
  match (s.dom d.val).bound.find? (fun b => b.index == index.toNat && !b.rts && b.slot.isNone && b.arrived) with
  | some b => if msgHidden s b then .next s else .next (endBound s d.val b (recvStatus b))
  | none => .next s

/-- UX_COPY_DONE (R330): the bytes kept go from the slot to the receive buffer, and the slot is free again. -/
def execUxCopyDone (d : Fin 4096) (index : BitVec 32) (data : Option (List Byte)) (s : State) :
    Host.Outcome State Fault Refusal :=
  if unitOff s .matching then .next s else
  match (s.dom d.val).bound.find? (fun b => b.index == index.toNat && !b.rts && b.arrived), domOwner s d.val with
  | some b, some (f, j) => (match b.slot with
    | none => .next s
    | some i =>
      let n := Nat.min b.msgLen b.len
      if msgHidden s b then .next s
      else if n = 0 then .next (endBound s d.val b (recvStatus b))
      else match xlate s f (drd64 s f j Reg.Dom.UX_BASE_LO Reg.Dom.UX_BASE_HI + 8192 * i) n (accLocal false) with
        | (.wait, s) => .next s
        | (.fault, s) => .next (domLost s d.val)
        | (.ok l, s) =>
          if gatherBad s l || (data.isNone && outside l) then .next (domLost s d.val)
          else match xlate s f b.va n (accLocal true) with
            | (.wait, s) => .next s
            | (.fault, s) => .next (endBound s d.val b stLocalWrite)
            | (.ok w, s) =>
              .next (endBound (scatter s w (gather s l (data.getD [])) false) d.val b (recvStatus b)))
  | _, _ => .next s

/-- RNDV_JOB_DONE (R333, R334, R336): the receive completes, then the RNDV_FIN joins its channel. -/
def execRndvJobDone (ch : Fin 1048576) (s : State) : Host.Outcome State Fault Refusal :=
  match s.chanAny ch.val with
  | none => .next s
  | some x =>
    let done := fun (k : Job) => jobReady x k && (match k.src with | .rndv .. => true | _ => false)
    match x.jobs.find? done with
    | none => .next s
    | some k =>
      let s := s.setChan ch.val { x with jobs := x.jobs.filter (· != k) }
      match k.src with
      | .rndv d i => match (s.dom d).bound.find? (fun b => b.index == i && b.rts && b.ch == ch.val) with
        | none => .next s
        | some b =>
          let st := if k.killed then 0x22 else if k.poison then stPoisoned else if k.writeFault then stLocalWrite else recvStatus b
          let fin := if k.killed then 2 else if k.poison || k.writeFault then 3 else if b.len < b.msgLen then 1 else 0
          let s := endBound s d b st
          .next (tpEnd (addFin s ch.val fin b.psn k.len) (clusterOf ch.val))
      | _ => .next s

/-! ### Enabling and disabling a domain (R336, R344, R345) -/

/-- Fields of the domain area marked "while unconfigured" accept writes (R344). -/
def domOpen (s : State) (f j d : Nat) : Bool := !(domOn s f j) && !(s.dom d).used

/-- LOG_SIZE and CQ as a write of the word gives them (R5, R344). -/
def domCfgWord (s : State) (f j d w : Nat) : State :=
  if !(domOpen s f j d) then s
  else
    let s := s.wri (bar2 f) Reg.Dom.DOM_CFG_CQ j (bits w 27 16)
    if 4 ≤ bits w 3 0 then s.wri (bar2 f) Reg.Dom.DOM_CFG_LOG_SIZE j (bits w 3 0) else configError s .matching

/-- The enable refused (R345). -/
def enableFail (s : State) (f j d : Nat) : State :=
  (s.setDom d { s.dom d with enabling := false }).wri (bar2 f) Reg.Dom.DOM_STATUS_CFG_ERR j 1

/-- Ranges that must translate, with whether they must lie in the pool (R345). -/
def domRanges (s : State) (f j : Nat) : List (Nat × Nat × Bool) :=
  [(drd64 s f j Reg.Dom.RQ_BASE_LO Reg.Dom.RQ_BASE_HI, 64 * 2 ^ drd s f j Reg.Dom.DOM_CFG_LOG_SIZE, false),
   (drd64 s f j Reg.Dom.UX_BASE_LO Reg.Dom.UX_BASE_HI, 8192 * drd s f j Reg.Dom.UX_SLOTS, false),
   (drd64 s f j Reg.Dom.OVF_BASE_LO Reg.Dom.OVF_BASE_HI, 64 * drd s f j Reg.Dom.OVF_ENTRIES, true)]

/-- The ranges translated one after the other: all of them, or not, or a wait (`none`). -/
def rangesGood (s : State) (f : Nat) : List (Nat × Nat × Bool) → Option Bool × State
  | [] => (some true, s)
  | (a, n, pool) :: l =>
    if n = 0 then rangesGood s f l
    else match xlate s f a n (accLocal pool) with
      | (.wait, s) => (none, s)
      | (.fault, s) => (some false, s)
      | (.ok c, s) =>
        if pool && c.any (fun k => match regionOf k.da with | .pool => false | _ => true) then (some false, s)
        else rangesGood s f l

/-- An enable carried on: done, refused, or waiting for its translations (R345). -/
def domEnable (s : State) (f j d : Nat) : State :=
  let ring := 64 * 2 ^ drd s f j Reg.Dom.DOM_CFG_LOG_SIZE
  if (localCq s f (drd s f j Reg.Dom.DOM_CFG_CQ)).isNone ||
      drd64 s f j Reg.Dom.RQ_BASE_LO Reg.Dom.RQ_BASE_HI % ring != 0 then enableFail s f j d
  else match rangesGood s f (domRanges s f j) with
    | (none, s) => s.setDom d { s.dom d with enabling := true }
    | (some false, s) => enableFail s f j d
    | (some true, s) =>
      ((s.setDom d { s.dom d with enabling := false, used := true }).wri (bar2 f) Reg.Dom.DOM_CFG_EN j 1).wri (bar2 f)
        Reg.Dom.DOM_STATUS_CFG_ERR j 0

/-- The domain number of local domain `j`, when the function is ready and has it (R309, R344). -/
def domOfLocal (s : State) (f j : Nat) : Option Nat :=
  if fnReady s f && j < s.rdi mtBase Reg.Mt.FN_DOM_DOM_COUNT f then some (s.rdi mtBase Reg.Mt.FN_DOM_DOM_FIRST f + j) else none

/-- DOMAIN_ENABLE (R344, R345). -/
def execDomainEnable (f : Fin 1024) (j : Fin 256) (w : BitVec 32) (s : State) : Host.Outcome State Fault Refusal :=
  if fatalStopped s || unitOff s .matching then .next s else
  match domOfLocal s f.val j.val with
  | none => .next s
  | some d =>
    if domOn s f.val j.val then .next s
    else .next (domEnable (domCfgWord s f.val j.val d w.toNat) f.val j.val d)

/-- DOMAIN_DISABLE (R336, R344). -/
def execDomainDisable (f : Fin 1024) (j : Fin 256) (w : BitVec 32) (s : State) : Host.Outcome State Fault Refusal :=
  if fatalStopped s || unitOff s .matching then .next s else
  match domOfLocal s f.val j.val with
  | none => .next s
  | some d =>
    if domOn s f.val j.val then .next (tpSyncAll (payFins (domReset s d)))
    else
      let s := s.setDom d { s.dom d with enabling := false }
      .next (domCfgWord s f.val j.val d w.toNat)

/-- Enables that waited for translations go on. -/
def resumeDoms (s : State) : State :=
  s.doms.foldl (fun t kv => if kv.2.enabling then (match domOwner t kv.1 with
    | some (f, j) => domEnable t f j kv.1
    | none => t) else t) s

/-- MATCH_LIST_ECC_ERROR (R326). -/
def execMatchListEccError (d : Fin 4096) (s : State) : Host.Outcome State Fault Refusal :=
  .next (tpSyncAll (payFins (domLost (recordError s (ErrRec.ecc .matching false 0 d.val)) d.val)))

/-- MATCH_CNT_CLR (R342). -/
def execMatchCntClr (r : Route) (s : State) : Host.Outcome State Fault Refusal :=
  .next (guarded s r (mtBase + 0x4C) (fun s => s.clearAll mtBase
    [Reg.Mt.HEAD_BOUND_CNT, Reg.Mt.HEAD_FILED_CNT, Reg.Mt.POST_BOUND_CNT, Reg.Mt.POST_FILED_CNT, Reg.Mt.OVF_SEARCH_CNT,
     Reg.Mt.RNDV_JOB_CNT, Reg.Mt.TRUNC_CNT, Reg.Mt.CANCEL_CNT, Reg.Mt.NOSPACE_NAK_CNT, Reg.Mt.FIN_STALE_CNT,
     Reg.Mt.RQ_STALL_CNT, Reg.Mt.ABORT_CNT]))

/-- The matching unit after its unit reset: every list empty, every domain disabled (R326). -/
def matchUnitReset (s : State) : State :=
  let off := s.doms.foldl (fun t kv => match domOwner t kv.1 with
    | some (f, j) => t.wri (bar2 f) Reg.Dom.DOM_CFG_EN j 0
    | none => t) s
  let s := off.doms.foldl (fun t kv => loseMsgs t kv.1) off
  s.doms.foldl (fun t kv => t.setDom kv.1 { DomSt.init with used := kv.2.used }) s

end Sys2Proof.Machine
end

