-- ==== Sys2Proof/Machine/Compass.lean ====
section
/-!
DEFINITION. The commands of Compass (spec/11_translation.md): key commands, fetches and table reads that return,
INVALIDATEs that complete.
-/
namespace Sys2Proof.Machine

/-- Everything that waits for a translation, a key or visibility tried again. -/
def resumeEverything (s : State) : State := tunPump (collPumpAll (resumeDoms (resumeFns (resumeAll s))))

/-! ### Keys (R376 to R380, R404) -/

/-- The key image in a queue BAR, as bytes (R404). -/
def keyImage (s : State) (f : Nat) : List Byte := (List.range 8).flatMap (fun i => leBytes (s.rdi (bar2 f) Reg.KeyBar.KEY_IMAGE i) 4)

/-- The image is good (R404): LENGTH, the end of the range, reserved bits. -/
def keyImageGood (b : List Byte) : Bool :=
  let k := KeyEnt.ofBytes b
  1 ≤ k.length && k.length ≤ 2 ^ 52 && k.base + k.length ≤ 2 ^ 64 && bits (leAt b 0 4) 7 6 == 0 &&
  bits (leAt b 0 4) 31 26 == 0 && leAt b 4 4 == 0 && leAt b 0x18 8 == 0

/-- A key command ends with RESULT. -/
def keyEnd (s : State) (f result : Nat) : State :=
  ({ s with xl := { s.xl with keyCmd := del s.xl.keyCmd f } }.wr (bar2 f) Reg.KeyBar.KEY_STATUS_BUSY 0).wr (bar2 f)
    Reg.KeyBar.KEY_STATUS_RESULT result

/-- A key command that waits until the old entry is out of use (R379). -/
def keyHold (s : State) (f i : Nat) : State :=
  { s with xl := { s.xl with keyCmd := put s.xl.keyCmd f i } }.wr (bar2 f) Reg.KeyBar.KEY_STATUS_BUSY 1

/-- GO of KEY_CMD with an OP (R379, R404): the tests in order, then the effect. -/
def keyCmd (s : State) (f op : Nat) : State :=
  let b := bar2 f
  if !(fnReady s f) || s.on b Reg.KeyBar.KEY_STATUS_BUSY then s
  else
    let s := s.wr b Reg.KeyBar.KEY_CMD_OP op
    let key := s.rd b Reg.KeyBar.KEY_CMD_KEY
    let i := key / 256
    let img := keyImage s f
    if op = 0 ∨ 3 < op then keyEnd s f 3
    else if !(s.on xlBase Reg.Xl.KEY_CFG_EN) then keyEnd s f 4
    else if !(keyInRange s f i) then keyEnd s f 1
    else if op = 1 ∧ !(keyImageGood img) then keyEnd s f 3
    else match keyStored s i, keyPlace s i with
      | _, false => keyEnd s f 4
      | none, true => if op = 1 then keyHold (keyStore s i { KeyEnt.ofBytes img with tag := key % 256, owner := f }) f i
          else keyEnd s f 4
      | some k, true =>
        if op = 1 then keyHold (keyStore s i { KeyEnt.ofBytes img with tag := key % 256, owner := f }) f i
        else if op = 2 then keyHold (keyStore s i { k with valid := false }) f i
        else
          let old := viewBytes s (keyTable s + 32 * i) 32
          let s := (List.range 8).foldl (fun t j => t.wri b Reg.KeyBar.KEY_IMAGE j (leAt old (4 * j) 4)) s
          keyEnd s f 0

/-- KEY_WRITE (R379, R404). -/
def execKeyWrite (f : Fin 1024) (s : State) : Host.Outcome State Fault Refusal :=
  if fatalStopped s then .next s else .next (keyCmd s f.val 1)
/-- KEY_FREE (R379, R404). -/
def execKeyFree (f : Fin 1024) (s : State) : Host.Outcome State Fault Refusal :=
  if fatalStopped s then .next s else .next (keyCmd s f.val 2)
/-- KEY_QUERY (R404). -/
def execKeyQuery (f : Fin 1024) (s : State) : Host.Outcome State Fault Refusal :=
  if fatalStopped s then .next s else .next (keyCmd s f.val 3)

/-- KEY_CMD_DONE (R379). -/
def execKeyCmdDone (f : Fin 1024) (s : State) : Host.Outcome State Fault Refusal :=
  match look s.xl.keyCmd f.val with
  | none => .next s
  | some i => if (liveTags s).any (fun t => t.key == some i) then .next s else .next (keyEnd s f.val 0)

/-- KEY_CFG.EN written (R380). -/
def setKeyEn (s : State) (en : Bool) : State :=
  if s.on xlBase Reg.Xl.KEY_CFG_EN = en then s
  else { s.wr xlBase Reg.Xl.KEY_CFG_EN (b2n en) with xl := { s.xl with keys := [], keyBad := [] } }

/-- KEY_CFG_EN_WRITE (R380). -/
def execKeyCfgEnWrite (r : Route) (en : Bool) (s : State) : Host.Outcome State Fault Refusal :=
  .next (guarded s r (xlBase + 0x40) (fun s => setKeyEn s en))

/-- KEY_FETCH_DONE (R380). -/
def execKeyFetchDone (i : Fin 1048576) (s : State) : Host.Outcome State Fault Refusal :=
  let i := i.val
  if !(s.xl.keyWant.contains i) then .next s
  else
    let s := { s with xl := { s.xl with keyWant := s.xl.keyWant.erase i } }
    match keyStored s i with
    | some k =>
      let r := if s.xl.keys.length < 8192 then (s.xl.keys, s) else evictOne s s.xl.keys 8192
      .next (resumeEverything { r.2 with xl := { r.2.xl with keys := put r.1 i k } })
    | none =>
      .next (resumeEverything ({ s with xl := { s.xl with keyBad := s.xl.keyBad ++ [i] } }.setEvt xlBase Reg.Xl.XL_EVENT 2))

/-! ### Walks (R389 to R395) -/

/-- An entry that a walk may use is kept in the walk cache (R395). -/
def cacheEntry (s : State) (want : WalkEnt) (e : Nat) : State :=
  if !(bitOf e 0) then s
  else
    let r := evictOne s s.xl.wcache 16384
    { r.2 with xl := { r.2.xl with wcache := r.1 ++ [{ want with entry := e }] } }

/-- A walk ends: WALK_NS (R525). -/
def walkEnds (s : State) (w : Walk) : State := cntCM s .compass 0x103 (s.now - w.since) none (some w.fn)

/-- A walk carried on with what it has read: it stays, or ends in a translation or a fault (R389, R393). -/
def walkOn (s : State) (w : Walk) : State :=
  match walk s w.ctx w.got w.fn w.va w.acc with
  | .need _ _ => s
  | .hit e =>
    let done := fun (k : Walk) => k.fn == w.fn && k.failed.isNone && e.va ≤ k.va && k.va < e.va + 2 ^ e.log
    let s := (s.xl.walks.filter done).foldl walkEnds s
    let s := { s with xl := { s.xl with walks := s.xl.walks.filter (fun k => !(done k)) } }
    if (tlbFind s w.fn w.va).isSome then s
    else if w.spec && (permFault e w.acc w.va (e.ipa + (w.va - e.va))).isSome then specDrop s w.fn
    else tlbAdd s { e with fresh := !w.spec }
  | .fault x =>
    let s := walkEnds s w
    if w.spec then specDrop (walkDropped s w) w.fn else
    let s := { s with xl := { s.xl with walks := s.xl.walks.map (fun k => if k == w then { k with failed := some x } else k) } }
    recordFault s w.fn w.va w.acc x

/-- A cache's number among Compass's structures, for Config.eccCode. -/
def cacheNo : XlCache → Nat
  | .tlb => 0 | .walk => 1 | .key => 2

/-- An upset of an entry of a Compass cache is found (R395, R400): corrected and counted, or the entry discarded, so that the
access it served walks or fetches again. In an empty cache there is none to find. -/
def strikeCache (s : State) (u : CacheUpset) : State :=
  let n := match u.cache with
    | .tlb => s.xl.tlb.length
    | .walk => s.xl.wcache.length
    | .key => s.xl.keys.length
  if n = 0 then s
  else if u.corrects then
    recordError ((s.bump xlBase Reg.Xl.ECC_CORR_CNT).setEvt xlBase Reg.Xl.XL_EVENT 3)
      (ErrRec.ecc .compass true (cacheNo u.cache) (u.at_ % n))
  else
    let x := s.xl
    let x := match u.cache with
      | .tlb => { x with tlb := x.tlb.eraseIdx (u.at_ % n) }
      | .walk => { x with wcache := x.wcache.eraseIdx (u.at_ % n) }
      | .key => { x with keys := x.keys.eraseIdx (u.at_ % n) }
    recordError (({ s with xl := x }.bump xlBase Reg.Xl.ECC_UNCORR_CNT).setEvt xlBase Reg.Xl.XL_EVENT 4)
      (ErrRec.ecc .compass false (cacheNo u.cache) (u.at_ % n))

/-- WALK_ENTRY_READ_DONE (R389 to R391, R395). -/
def execWalkEntryReadDone (f : Fin 1024) (a : BitVec 64) (data : WalkRead) (s : State) :
    Host.Outcome State Fault Refusal :=
  let s := match data.upset with | some u => strikeCache s u | none => s
  let data := data.entry
  match s.xl.walks.find? (fun w => w.fn == f.val && w.va == a.toNat && w.failed.isNone) with
  | none => .next s
  | some w => match walk s w.ctx w.got w.fn w.va w.acc with
    | .need ea want =>
      let v : Option Nat := match regionOf ea with
        | .pool => if viewBad s ea 8 then none else some (leNat (viewBytes s ea 8))
        | _ => data.map (·.toNat)
      let s := cntCM (s.bump xlBase Reg.Xl.WALK_READ_CNT) .compass 0x102 1 none (some f.val)
      let s := match v with | some e => cacheEntry s want e | none => s
      let w' : Walk := { w with got := put w.got ea v }
      let s := { s with xl := { s.xl with walks := s.xl.walks.map (fun k => if k == w then w' else k) } }
      .next (resumeEverything (walkOn s w'))
    | _ => .next (resumeEverything (walkOn s w))

/-! ### INVALIDATE (R397 to R399) -/

/-- An access tag lies in the scope of an INVALIDATE. -/
def invCovers (w : InvalWait) (t : XTag) : Bool :=
  let last := w.addr + w.len
  if w.scope = 1 then t.fn == w.target && t.va < last && w.addr < t.va + 2 ^ t.vaLog
  else if w.scope = 2 then t.fn == w.target
  else if w.scope = 3 then t.part == w.part && t.ipa < last && w.addr < t.ipa + 2 ^ t.vaLog
  else if w.scope = 4 then t.part == w.part
  else true

/-- INVALIDATE_DONE (R399). -/
def execInvalidateDone (g : Fin 65536) (s : State) : Host.Outcome State Fault Refusal :=
  match s.xl.inval.find? (fun w => w.wq == g.val) with
  | none => .next s
  | some w =>
    if (liveTags s).any (invCovers w) then .next s
    else
      let s := { s with xl := { s.xl with inval := s.xl.inval.erase w } }
      match s.wqAt g.val with
      | none => .next s
      | some q =>
        let s := (s.setWq g.val { q with waiting := false }).bump xlBase Reg.Xl.INVAL_CNT
        .next (completeWq s g.val w.index w.userId w.signal 0x10 0 0 0 0)

/-- XLATE_CNT_CLR (R400). -/
def execXlateCntClr (r : Route) (s : State) : Host.Outcome State Fault Refusal :=
  .next (guarded s r (xlBase + 0x54) (fun s => s.clearAll xlBase
    [Reg.Xl.TLB_HIT_CNT, Reg.Xl.TLB_MISS_CNT, Reg.Xl.WALK_READ_CNT, Reg.Xl.FAULT_CNT, Reg.Xl.SPEC_DROP_CNT, Reg.Xl.KEY_MISS_CNT,
     Reg.Xl.KEY_FAIL_CNT, Reg.Xl.INVAL_CNT, Reg.Xl.ECC_CORR_CNT, Reg.Xl.ECC_UNCORR_CNT]))

/-- FLOG_CLR (R400). -/
def execFlogClr (r : Route) (s : State) : Host.Outcome State Fault Refusal :=
  .next (guarded s r (xlBase + 0x54) (fun s => s.wr xlBase Reg.Xl.FLOG_CI (s.rd xlBase Reg.Xl.FLOG_PI)))

/-! ### What resets do (R379, R395) -/

/-- Compass after its unit reset: caches and fault log empty (R395). -/
def compassReset (s : State) : State :=
  { s with xl := { s.xl with tlb := [], wcache := [], keys := [], keyBad := [], walks := s.xl.walks.map (fun k => { k with ctx := xlCtx s k.fn, got := [] }) } }

end Sys2Proof.Machine
end

