-- ==== Sys2Proof/Machine/PoolOps.lean ====
section
/-!
DEFINITION. Extents (spec/13_memory_pool.md): sanitize queues, release, sharing sets, mirror pairs, errors of lines, the
failure of a stack.
-/
namespace Sys2Proof.Machine

/-- FREE_HBM (R458): HBM extents FREE and settled. -/
def showFree (s : State) : State :=
  let used := (s.pool.exts.filter (fun kv => isHbm kv.1 && !(kv.2.owner == .free && kv.2.xstate == .settled))).length
  s.wr poolBase Reg.Pool.FREE_HBM (if s.pool.ready then 1152 - used else 0)

/-- An extent changed, and FREE_HBM with it. -/
def putExt (s : State) (e : Nat) (x : ExtSt) : State := showFree (s.setExt e x)

/-- EXTENT_FAILED, SANITIZE_DONE and their like carry the extent (R461). -/
def extDetail (e : Nat) : List Nat := [e, 0, 0, 0]

/-! ### Sanitize (R449) -/

/-- The extent put in the sanitize queue of its home stack. -/
def queueSanitize (s : State) (e : Nat) : State :=
  match s.ext e with
  | none => s
  | some x =>
    let s := putExt s e { x with owner := .free, xstate := .sanitizing }
    { s with pool := { s.pool with san := upd s.pool.san (homeStack e) [] (fun l => addOnce l e) } }

/-- The bytes, markers and directory bits of an extent's lines gone (R449). -/
def zeroExtent (s : State) (e : Nat) : State :=
  let mine := fun (l : Nat) => extentOf (64 * l) == e
  { s with pool := { s.pool with mem := dropKeys s.pool.mem (fun a => extentOf a == e), poison := dropKeys s.pool.poison mine,
                                 dirSh := dropKeys s.pool.dirSh mine } }

/-- The events of R461 that go only to the physical functions of DEV_EVT_ATTACH. -/
def sanitizeEvent (s : State) (e : Nat) : State := (devEvtFns s).foldl (fun t f => raiseEvent t f 0x52 (extDetail e)) s

/-! ### Pairs (R451) -/

/-- The pair of a primary ends, whether formed or still copying: its mirror is sanitized. -/
def endPair (s : State) (e : Nat) : State :=
  match s.ext e with
  | none => s
  | some x =>
    if x.mirrored ∨ x.xstate = .copying then
      let m := x.mirror
      let s := putExt s e { x with mirrored := false, onMirror := false,
                                   xstate := if x.xstate = XState.copying then XState.settled else x.xstate }
      match s.ext m with
      | some y => if y.isMirror then queueSanitize (s.setExt m { y with isMirror := false }) m else s
      | none => s
    else s

/-! ### Release (R448) -/

/-- Nothing holds a line of the extent and no access to it is in flight. -/
def extentQuiet (s : State) (e : Nat) : Bool :=
  let here := fun (l : Nat) => extentOf (64 * l) == e
  !(stillHeld s e (fun _ => true)) && (touchedLines s e).isEmpty &&
  s.mesh.slices.all (fun kv => kv.2.ing.all (fun q => !(here q.line))) && s.mesh.wbs.all (fun w => !(here w.line))

/-- Release actions 1 and 2 begin. -/
def startRelease (s : State) (e : Nat) : State :=
  match s.ext e with
  | none => s
  | some x =>
    let s := if x.xstate = XState.copying then endPair s e else s
    match s.ext e with
    | none => s
    | some x => purge (putExt s e { x with owner := .free, xstate := .releasing, offers := [] }) e (fun _ => true)

/-! ### Failure (R448, R452) -/

/-- Every cached copy of the extent's lines dropped without writeback. -/
def dropExtent (s : State) (e : Nat) : State :=
  let here := fun (l : Nat) => extentOf (64 * l) == e
  let s := (touchedLines s e).foldl (fun t l =>
    freeSf (((holders t l).filter (· < 64)).foldl (fun u h => sendSnp u (lineSlice l) l h .inv) t) l) s
  zeroExtent { s with mesh := { s.mesh with cache := s.mesh.cache.map (fun kv => (kv.1, dropKeys kv.2 here)) } } e

/-- The extent's data is lost (R448). -/
def failExtent (s : State) (e : Nat) : State :=
  match s.ext e with
  | none => s
  | some x =>
    if x.owner = .failed then s
    else
      let s := putExt (dropExtent s e) e { ExtSt.init with owner := .failed }
      deviceEvent (poolEvent s 1) 0x51 (extDetail e)

/-- What a stack's failure does to one of its extents (R452). -/
def stackLost (s : State) (e : Nat) : State :=
  match s.ext e with
  | none => s
  | some x =>
    if x.mirrored && !x.onMirror then
      putExt s e { x with onMirror := true, xstate := if x.xstate = .sanitizing then .settled else x.xstate }
    else if x.isMirror then
      let p := x.mirror
      let s := match s.ext p with
        | some y =>
          if y.onMirror then failExtent s p
          else putExt s p { y with mirrored := false, xstate := if y.xstate = XState.copying then XState.settled else y.xstate }
        | none => s
      failExtent (s.setExt e { x with isMirror := false }) e
    else failExtent (if x.xstate = XState.copying then endPair s e else s) e

/-- A stack fails (R452, R461); a failed stack stays failed until a cold reset. -/
def failStack (s : State) (i : Nat) : State :=
  if s.rd (stackBase i) Reg.Stk.STACK_STATE = 2 then s
  else
    let s := s.wr (stackBase i) Reg.Stk.STACK_STATE 2
    let s := s.wr poolBase Reg.Pool.STACK_FAILED (setBit (s.rd poolBase Reg.Pool.STACK_FAILED) i)
    let s := elogWrite (poolEvent s 0) 1 3 i 0 0
    let s := { s with pool := { s.pool with san := del s.pool.san i } }
    let s := deviceEvent s 0x50 [i, 0, 0, 0]
    (List.range 192).foldl (fun t k => stackLost t (192 * i + k)) s

/-! ### Errors of lines (R451 to R453) -/

/-- The stack that a read of the line uses: its home's, or its mirror's after a failover (R451, R452). -/
def readStack (s : State) (e : Nat) : Nat :=
  match s.ext e with
  | some x => if x.onMirror then homeStack x.mirror else homeStack e
  | none => homeStack e

/-- The line of a pair that carries the poison marker: a line of the mirror stands for its line in the primary (R451). -/
def pairLine (s : State) (line : Nat) : Nat :=
  match s.ext (extentOf (64 * line)) with
  | some x => if x.isMirror then x.mirror * 2 ^ 22 + line % 2 ^ 22 else line
  | none => line

/-- A line poisoned after an uncorrectable error, with its record where that is new (R453). -/
def poisonLine (s : State) (line source st : Nat) : State :=
  if (look s.pool.poison line).isSome then s
  else elogWrite (setPoison s line true) 0 source st (lineSlice line) (64 * line)

/-- An uncorrectable read of an HBM line: repaired from the other copy where there is a good one, else the line is
poisoned and logged; errors on three channels within 1 ms fail the stack (R451 to R453). -/
def uncorrLine (s : State) (line source : Nat) (otherGood : Bool) : State :=
  let da := 64 * line
  let e := extentOf da
  let st := readStack s e
  let pair := match s.ext e with
    | some x => (x.mirrored && !x.onMirror) || (x.isMirror && x.xstate == .settled)
    | none => false
  let s := s.bump (stackBase st) Reg.Stk.ECC_UNCORR_CNT
  let s := recordError s (ErrRec.ecc (.stack (idx 5 st)) false 0 da)
  let s :=
    if pair && otherGood then s.bump poolBase Reg.Pool.MIRROR_REPAIR_CNT
    else poisonLine s (pairLine s line) source st
  let recent := (hbmChannel da, s.now) :: ((lookD s.pool.errs st []).filter (fun x => s.now < x.2 + 1000000))
  let s := { s with pool := { s.pool with errs := put s.pool.errs st recent } }
  if 3 ≤ ((recent.map Prod.fst).foldl addOnce []).length then failStack s st else s

end Sys2Proof.Machine
end

