-- ==== Sys2Proof/Machine/HostOps.lean ====
section
/-!
DEFINITION. Host attachments (spec/12_host_ports.md): links up and down, containment, binding, dynamic capacity, and the FM
API commands, which their own commands and FMAPI share.
-/
namespace Sys2Proof.Machine

/-! ### Roles and links (R405 to R408) -/

/-- A field of attachment `a`. -/
def attRd (s : State) (a : Nat) (f : Field) : Nat := s.rd (attBase a) f

/-- An event bit of attachment `a`. -/
def attEvent (s : State) (a i : Nat) : State := s.setEvt (attBase a) Reg.Att.ATT_EVENT i

/-- The attachment is downstream, owned, or bound (R407, R411). -/
def isDown (s : State) (a : Nat) : Bool := attRd s a Reg.Att.ATT_CFG_ROLE == 2
/-- Owned by the device. -/
def isOwned (s : State) (a : Nat) : Bool := isDown s a && attRd s a Reg.Att.ATT_CFG_OWNED == 1
/-- Bound to a vPPB. -/
def isBound (s : State) (a : Nat) : Bool := attRd s a Reg.Att.BIND_VALID == 1
/-- Its link is up. -/
def linkUp (s : State) (a : Nat) : Bool := attRd s a Reg.Att.ATT_STATE_LINK == 2

/-- Committed values that waited take effect once every attachment of the macro is DOWN or unused (R406). -/
def applyHostCfg (s : State) (h : Nat) : State :=
  let quiet := (List.range 4).all (fun k =>
    attRd s (4 * h + k) Reg.Att.ATT_STATE_LINK == 0 || attRd s (4 * h + k) Reg.Att.ATT_CFG_ROLE == 0)
  if !quiet then s
  else
    let lo := macBase h * 32
    let hi := (macBase h + 2 ^ 18) * 32
    let mine := s.hostCfg.filter (fun kv => lo ≤ kv.1 && kv.1 < hi)
    { s with regs := mine.foldl (fun m kv => put m kv.1 kv.2) s.regs
             hostCfg := s.hostCfg.filter (fun kv => !(lo ≤ kv.1 && kv.1 < hi)) }

/-- The attachment's link is DOWN or contained: rate, width and CXL are gone. -/
def linkGone (s : State) (a st : Nat) : State :=
  let b := attBase a
  applyHostCfg ((((s.wr b Reg.Att.ATT_STATE_LINK st).wr b Reg.Att.ATT_STATE_RATE 0).wr b Reg.Att.ATT_STATE_WIDTH 0).wr b
    Reg.Att.ATT_STATE_CXL 0) (a / 4)

/-- A downstream link is reset and trains again (R411, R419). -/
def hotReset (s : State) (a : Nat) : State :=
  let x := s.att a
  (linkGone (s.setAtt a { x with unusable := false, dpc := false, wout := [], msgs := [], reads := [] }) a 0).emit (.linkReset a)

/-- Downstream attachments bound to switch `u`. -/
def boundTo (s : State) (u : Nat) : List Nat :=
  (List.range 64).filter (fun a => isBound s a && attRd s a Reg.Att.BIND_VCS == u)

/-- MSI-X of function `f` back at its reset: off, the table and the pending bits at their reset values
(notes/assumptions/72.md). -/
def msixReset (s : State) (f : Nat) : State :=
  { s.setFn f { s.fn f with msixOn := false, msixMask := false } with
    regs := dropKeys s.regs (fun k => bar2 f + 0x34000 ≤ k / 32 && k / 32 < bar2 f + 0x40000) }

/-- An upstream attachment leaves L0 (R419, R434): queues reset, far reads dropped, bound links reset, agent dead. `cause` is
the agent's cause of death. -/
def attachGoesDown (s : State) (a cause : Nat) : State :=
  let x := s.att a
  let fns := a :: (List.range x.numVfs).map (fun i => attRd s a Reg.Att.VF_FIRST + i)
  let s := fns.foldl (fun t f => msixReset (queueReset t f) f) s
  let x := s.att a
  let held := x.far
  let s := s.setAtt a { x with far := [], farQ := [], numVfs := 0, cacheEn := false, cplTmo := 0, bars := [], vfBars := [], barLog := attRd s a Reg.Att.FAR_BAR_LOG }
  let s := held.foldl (fun t q => farKill t a q.ch q.id) s
  let s := (boundTo s a).foldl hotReset s
  let s := linkGone s a 0
  let s := agentDies s a cause
  deviceEvent (attEvent s a 0) 0x16 [a, 0, 0, 0]

/-! ### Containment (R418) -/

/-- Extents that the valid claim entries of an attachment map (R429). -/
def claimedBy (s : State) (a : Nat) : List Nat :=
  (List.range 8).flatMap (fun k =>
    let b := attBase a + 16 * k
    if s.on b Reg.Claim.VALID then (List.range (s.rd b Reg.Claim.EXT_COUNT)).map (s.rd b Reg.Claim.EXT_FIRST + ·) else [])

/-- A bound or owned downstream link lost: the attachment is contained, its claimed memory lost (R418, R448, R456). -/
def contain (s : State) (a : Nat) : State :=
  let lost := if isOwned s a then claimedBy s a else []
  let x := s.att a
  let s := s.setAtt a { x with dpc := isBound s a, wout := [], msgs := [], reads := [] }
  lost.foldl failExtent (attEvent (attEvent (linkGone s a 3) a 0) a 2)

/-- The containment ends: the link may train again. -/
def release (s : State) (a : Nat) : State :=
  let x := s.att a
  let s := s.setAtt a { x with dpc := false }
  if attRd s a Reg.Att.ATT_STATE_LINK = 3 then linkGone s a 0 else s

/-! ### Binding (R410, R411) -/

/-- The attachment bound to vPPB `v` of switch `u`. -/
def boundAt (s : State) (u v : Nat) : Option Nat :=
  (List.range 64).find? (fun a => isBound s a && attRd s a Reg.Att.BIND_VCS == u && attRd s a Reg.Att.BIND_VPPB == v)

/-- The attachment carries a virtual CXL switch (R407). -/
def hasSwitch (s : State) (u : Nat) : Bool := attRd s u Reg.Att.ATT_CFG_ROLE == 1

/-- BIND written. -/
def setBind (s : State) (a vcs valid vppb : Nat) : State :=
  let b := attBase a
  ((s.wr b Reg.Att.BIND_VCS vcs).wr b Reg.Att.BIND_VALID valid).wr b Reg.Att.BIND_VPPB vppb

/-- The attachment becomes UNBOUND and the background operation ends (R411). -/
def unbound (s : State) (a : Nat) : State :=
  let x := s.att a
  let s := setBind (s.setAtt a { x with unbind := none }) a 0x3F 0 0
  { s with fmBg := s.fmBg.map (fun b => if b.att = a then { b with done_ := true } else b) }

/-- CXL return codes (PRESUMED from CXL 3.1). -/
def fmOk : Nat := 0
def fmBackground : Nat := 1
def fmInvalid : Nat := 2
def fmUnsupported : Nat := 3
def fmBusy : Nat := 6

/-- An unbind is still waiting. -/
def bgBusy (s : State) : Bool := (s.fmBg.map (fun b => !b.done_)).getD false

/-- Bind vPPB (R410, R411). -/
def fmBind (s : State) (u v a : Nat) : Nat × State :=
  if !(hasSwitch s u) ∨ v < 2 ∨ !(isDown s a) ∨ isOwned s a ∨ isBound s a ∨ (s.att a).unusable ∨ (boundAt s u v).isSome then
    (fmInvalid, s)
  else if bgBusy s then (fmBusy, s)
  else
    let s := setBind (hotReset s a) a u 1 v
    (fmBackground, { s with fmBg := some { op := 0x5201, att := a, done_ := true } }.emit (.slotChange u v true))

/-- Unbind vPPB (R410, R411). -/
def fmUnbind (s : State) (u v option : Nat) : Nat × State :=
  if v < 2 then (fmInvalid, s)
  else match boundAt s u v with
    | none => (fmInvalid, s)
    | some a =>
      if bgBusy s then (fmBusy, s) else
      let s := { s with fmBg := some { op := 0x5202, att := a, done_ := false } }
      if option = 2 then (fmBackground, (unbound (contain s a) a).emit (.slotChange u v false))
      else
        let x := s.att a
        let s := s.setAtt a { x with unbind := some option }
        (fmBackground, if option = 1 then s.emit (.attention u v) else s)

/-! ### Dynamic capacity (R446 to R448) -/

/-- Initiate Dynamic Capacity Add (R446). -/
def dcAdd (s : State) (u e tag : Nat) : Nat × State :=
  match s.ext e with
  | none => (fmInvalid, s)
  | some x =>
    if !(hasSwitch s u) ∨ x.xstate ≠ .settled ∨ x.isMirror then (fmInvalid, s)
    else if x.owner = .free then
      (fmOk, (putExt s e { x with xstate := .offered, offers := [u], tag := some tag }).emit (.dcOffer u e tag))
    else if (x.owner = .host ∨ x.owner = .shared) ∧ x.tag = some tag ∧ !(bitOf x.hosts u) then
      (fmOk, (putExt s e { x with offers := addOnce x.offers u }).emit (.dcOffer u e tag))
    else (fmInvalid, s)

/-- A host's copies are to go, and then its bit (R417, R448). -/
def dcRemove (s : State) (u e : Nat) : Nat × State :=
  match s.ext e with
  | none => (fmInvalid, s)
  | some x =>
    if (x.owner = .host ∨ x.owner = .shared) ∧ bitOf x.hosts u then
      let s := if x.xstate = XState.copying ∧ clrBit x.hosts u = 0 then endPair s e else s
      match s.ext e with
      | none => (fmInvalid, s)
      | some x => (fmOk, showFree (pumpExtents (putExt s e { x with leaving := addOnce x.leaving u })))
    else (fmInvalid, s)

/-- A host accepts an offer, or it comes to nothing (R447, R448). -/
def dcAnswer (s : State) (u e : Nat) (accept : Bool) : State :=
  match s.ext e with
  | none => s
  | some x =>
    if !(x.offers.contains u) then s
    else
      let x := { x with offers := x.offers.erase u }
      if accept then
        if x.xstate = .offered then putExt s e { x with owner := .host, xstate := .settled, hosts := setBit 0 u }
        else if x.owner = .host ∨ x.owner = .shared then putExt s e { x with owner := .shared, hosts := setBit x.hosts u }
        else putExt s e x
      else if x.xstate = .offered then putExt s e { x with xstate := .settled, tag := none }
      else putExt s e x

/-! ### The FM API (R409, R559) -/

/-- PERST# of a downstream attachment (R409): while it is asserted the device is held in reset and the link is down. -/
def setPerst (s : State) (a : Nat) (on : Bool) : State :=
  let s := if on && linkUp s a then hotReset s a else s
  let x := s.att a
  (s.setAtt a { x with perst := on }).emit (.perst a on)

/-- The 16 bytes that tell the state of one physical port: number, configuration state (0 disabled, 2 unbind in progress,
3 downstream, 4 upstream, 15 no such port), mode, device type, supported modes, widths, speeds, LTSSM state, first lane, flags
(PERST# and presence), LDs. -/
def portInfo (s : State) (a : Nat) : List Byte :=
  let role := attRd s a Reg.Att.ATT_CFG_ROLE
  let up := linkUp s a
  let cxl := attRd s a Reg.Att.ATT_STATE_CXL == 1
  let rate := attRd s a Reg.Att.ATT_STATE_RATE
  let max := s.rd (macBase (a / 4)) Reg.Mac.MAC_CFG_MAX_RATE
  if 64 ≤ a then (a :: 15 :: List.replicate 14 0).map (BitVec.ofNat 8)
  else
    [a, if role = 0 then 0 else if role = 1 then 4 else if (s.att a).unbind.isSome then 2 else 3,
     if up && cxl then (if rate = 5 then 3 else 2) else 0, 0, if up then (Config.fmDeviceType a).toNat else 0, (Config.fmModes a).toNat,
     attLanes s a, attRd s a Reg.Att.ATT_STATE_WIDTH, 2 ^ (max + 1) - 1, max + 1, if up then rate + 1 else 0, if up then 4 else 0,
     0, 2 * b2n (s.att a).perst + 4 * b2n up, 0, 0].map (BitVec.ofNat 8)

/-- A set of attachments as the 32 bytes of a bit mask. -/
def portMask (p : Nat → Bool) : List Byte := leBytes ((List.range 64).foldl (fun m a => if p a then setBit m a else m) 0) 32

/-- One vPPB of a switch: bound to a physical port (2) with its number, an unbind in progress (1), or unbound (0). vPPBs 0 and
1 are always bound, to no physical port (R410). -/
def vppbInfo (s : State) (u v : Nat) : List Byte :=
  if v < 2 then [2, 0xFF, 0xFF, 0]
  else match boundAt s u v with
    | some a => [if (s.att a).unbind.isSome then 1 else 2, BitVec.ofNat 8 a, 0xFF, 0]
    | none => [0, 0xFF, 0xFF, 0]

/-- One virtual CXL switch: number, state, upstream port, and the vPPBs asked for; 0xFF for one there is not. -/
def vcsInfo (s : State) (start limit u : Nat) : List Byte :=
  if u < 64 ∧ hasSwitch s u then
    [BitVec.ofNat 8 u, 1, BitVec.ofNat 8 u, 18] ++ (((List.range 18).drop start).take limit).flatMap (vppbInfo s u)
  else [BitVec.ofNat 8 u, 0xFF, 0, 0]

/-- What the FM API answers, with the state it leaves: CXL return code and response payload. -/
abbrev FmAns : Type := (Nat × List Byte) × State

/-- The extents of a host's sharing set (R446, R447). -/
def dcHeld (s : State) (u : Nat) : List Nat :=
  (s.pool.exts.filter (fun kv => (kv.2.owner == .host || kv.2.owner == .shared) && bitOf kv.2.hosts u)).map Prod.fst

/-- One extent of an extent list: first DPA, length, tag. -/
def dcEntry (s : State) (e : Nat) : List Byte :=
  leBytes (e * 2 ^ 28) 8 ++ leBytes (2 ^ 28) 8 ++ leBytes (((s.ext e).bind ExtSt.tag).getD 0) 16 ++ leBytes 0 8

/-- A dynamic-capacity command on each extent of a list, all of them or none. -/
def dcEach (s : State) (es : List (Fin 131072)) (run : State → Nat → Nat × State) : FmAns :=
  let r := es.foldl (fun (m : Nat × State) e => if m.1 = fmOk then run m.2 e.val else m) (fmOk, s)
  if r.1 = fmOk then ((fmOk, []), r.2) else ((r.1, []), s)

/-- The dynamic-capacity management commands (R409, R416, R446 to R448): the pool's one region per host is 2^45 bytes in
blocks of 256 MiB, and every removal sanitizes. -/
def runDc (s : State) (c : FmCmd) : FmAns :=
  match c with
  | .dcInfo => ((fmOk, [64, 1, 0, 0] ++ leBytes 4 2 ++ leBytes 0 2 ++ leBytes 2 2 ++ [1, 0] ++
      leBytes (2 ^ 28 * s.pool.exts.length) 8 ++ leBytes (2 ^ 28) 8 ++ leBytes 0 56), s)
  | .dcRegion u count start =>
    let n := if count = 0 ∨ start ≠ 0 then 0 else 1
    ((fmOk, leBytes u.val 2 ++ [1, BitVec.ofNat 8 n] ++
      (if n = 0 then [] else leBytes 0 8 ++ leBytes (2 ^ 45) 8 ++ leBytes (2 ^ 45) 8 ++ leBytes (2 ^ 28) 8 ++ leBytes 0x18 4 ++ leBytes 1 4)), s)
  | .dcExtents u count start =>
    let l := dcHeld s u.val
    let part := (l.drop start).take count
    ((fmOk, leBytes u.val 2 ++ leBytes 0 2 ++ leBytes start 4 ++ leBytes part.length 4 ++ leBytes l.length 4 ++ leBytes 0 4 ++
      leBytes 0 4 ++ part.flatMap (dcEntry s)), s)
  | .dcAdd u es t => dcEach s es (fun s e => dcAdd s u.val e t.toNat)
  | .dcRelease u es => dcEach s es (fun s e => if (dcHeld s u.val).contains e then (fmOk, s.emit (.dcAsked u.val e)) else (fmInvalid, s))
  | .dcForcedRemoval u es => dcEach s es (fun s e =>
    let r := dcRemove s u.val e
    (r.1, if r.1 = fmOk then r.2.emit (.dcRemoved u.val e) else r.2))
  | _ => ((fmUnsupported, []), s)

/-- An FM API command: its CXL return code, its response payload in the layout of CXL 3.1 (notes/assumptions/56.md), and its
effect (R409, R411, R446, R448, R559). -/
def runFm (s : State) (c : FmCmd) : FmAns :=
  let switches := ((List.range 64).filter (hasSwitch s)).length
  match c with
  | .identifySwitch =>
    ((fmOk, [0xFF, 0, 64, BitVec.ofNat 8 switches] ++ portMask (fun a => linkUp s a) ++ portMask (hasSwitch s) ++
      leBytes (18 * switches) 2 ++ leBytes (2 * switches + ((List.range 64).filter (isBound s)).length) 2 ++ [Config.fmDecoders]), s)
  | .getPortState ports => ((fmOk, [BitVec.ofNat 8 ports.length, 0, 0, 0] ++ ports.flatMap (portInfo s)), s)
  | .portControl a op =>
    if isDown s a.val then ((fmOk, []), match op with
      | .assertPerst => setPerst s a.val true
      | .deassertPerst => setPerst s a.val false
      | .resetPpb => hotReset s a.val)
    else ((fmInvalid, []), s)
  | .ppbConfig a reg en w =>
    if isDown s a.val then
      let s := s.emit (.ppbConfig a.val reg en w)
      (match w with
       | some _ => ((fmOk, []), s)
       | none => ((fmOk, leBytes (s.drawn 32) 4), s.spend))
    else ((fmInvalid, []), s)
  | .getVcsInfo start limit us =>
    ((fmOk, [BitVec.ofNat 8 us.length, 0, 0, 0] ++ us.flatMap (vcsInfo s start limit)), s)
  | .bind u v a => let r := fmBind s u.val v.val a.val; ((r.1, []), r.2)
  | .unbind u v o => let r := fmUnbind s u.val v.val o.val; ((r.1, []), r.2)
  | .aer u v e => if hasSwitch s u.val then ((fmOk, []), s.emit (.aerError u.val v.val e)) else ((fmInvalid, []), s)
  | .backgroundStatus => match s.fmBg with
    | some b => ((fmOk, [if b.done_ then 200 else 1, 0] ++ leBytes b.op 2 ++ leBytes 0 4), s)
    | none => ((fmOk, List.replicate 8 0), s)
  | .invalid => ((fmInvalid, []), s)
  | .dcInfo | .dcRegion .. | .dcExtents .. | .dcAdd .. | .dcRelease .. | .dcForcedRemoval .. | .other _ => runDc s c

/-- An FM API command run for its own sake: its answer leaves. -/
def answerFm (s : State) (c : FmCmd) : State :=
  let r := runFm s c
  r.2.emit (.fmAnswer c r.1.1 r.1.2)

end Sys2Proof.Machine
end

