-- ==== Sys2Proof/Machine/MgmtBase.lean ====
section
/-!
DEFINITION. The management ring's ports, the bypass and the sessions (R541 to R556): what several families do with them.
-/
namespace Sys2Proof.Machine

/-- Window of the management processor, of a management Ethernet unit. -/
def mpBase : Nat := base .mgmtProc
def meBase (p : Nat) : Nat := base (.mgmtEth (idx 1 p))

/-- The management state changed. -/
def State.setMg (s : State) (x : MgmtSt) : State := { s with mg := x }

/-! ### Ports (R543, R546) -/

/-- The port's link is UP (R570). -/
def meUp (s : State) (p : Nat) : Bool := 2 ≤ s.rd (meBase p) Reg.Me.ME_STATE_LINK
/-- The bypass is closed. -/
def bypassed (s : State) : Bool := s.on (meBase 0) Reg.Me.ME_STATE_BYPASS_CLOSED
/-- The port is ring-broken. -/
def ringBroken (s : State) (p : Nat) : Bool := s.on (meBase p) Reg.Me.ME_STATE_RING_BROKEN
/-- An event bit of a management port. -/
def meEvent (s : State) (p i : Nat) : State := s.setEvt (meBase p) Reg.Me.ME_EVENT i

/-- The port enters or leaves the ring-broken state; a change is reported (R546). -/
def setBroken (s : State) (p : Nat) (b : Bool) : State :=
  if ringBroken s p = b then s
  else deviceEvent (meEvent (s.wr (meBase p) Reg.Me.ME_STATE_RING_BROKEN (b2n b)) p (if b then 1 else 2)) (if b then 0x5C else 0x5D)
    [p, 0, 0, 0]

/-- ME_STATE.LINK changes; a link that is not UP makes its port ring-broken (R546). -/
def setMeLink (s : State) (p st : Nat) : State :=
  if s.rd (meBase p) Reg.Me.ME_STATE_LINK = st then s
  else
    let s := meEvent (s.wr (meBase p) Reg.Me.ME_STATE_LINK st) p 0
    if st < 2 then setBroken s p true else s

/-- A cause that holds the bypass closed (R543, R620). -/
def bypassCause (s : State) : Bool :=
  !s.boot.aux || !s.boot.pwrGood || !s.boot.resetN || s.boot.kind.isSome || s.boot.testEn ||
  (List.range 2).any (fun p => unitOff s (.mgmtEth (idx 1 p))) || s.on (meBase 0) Reg.Me.ME_CFG_BYPASS_FORCE

/-- The bypass closes: the device's own SerDes are cut off, so both links drop (R543, R544). -/
def closeBypass (s : State) : State :=
  if bypassed s then s
  else
    let s := (List.range 2).foldl (fun t p => setMeLink (t.wr (meBase p) Reg.Me.ME_STATE_BYPASS_CLOSED 1) p 0) s
    s.emit (.bypass true)

/-- The port takes frames and sends them. -/
def meLive (s : State) (p : Nat) : Bool := meUp s p && !(bypassed s) && !(unitOff s (.mgmtEth (idx 1 p)))

/-- The port that an answer leaves by: that of arrival, or the other one where that is ring-broken (R555). -/
def respPort (s : State) (p : Nat) : Nat := if ringBroken s p then 1 - p else p

/-- A frame of the device's own leaves by the port rule; with no link it is lost. -/
def sendOut (s : State) (p : Nat) (e : Nat → Emit) : State :=
  let q := respPort s p
  if meLive s q then cnt1 (s.emit (e q)) (.mgmtEth (idx 1 q)) 0x101 else s

/-! ### The management processor (R568) and its sessions (R549 to R556) -/

/-- The management processor runs and serves Drisiul (R568, R609). -/
def mpServes (s : State) : Bool := s.rd mpBase Reg.Mp.MP_STATE == 1 && !(unitOff s .mgmtProc)

/-- An event bit of the management processor. -/
def drsEvent (s : State) (i : Nat) : State := s.setEvt mpBase Reg.Mp.DRS_EVENT i

/-- The session with this ID. -/
def sessOf (s : State) (id : Nat) : Option SessSt := s.mg.sess.find? (fun x => x.id == id)

/-- The session changed. -/
def setSess (s : State) (x : SessSt) : State :=
  s.setMg { s.mg with sess := s.mg.sess.map (fun y => if y.id = x.id then x else y) }

/-- The established session with this ID. -/
def liveSess (s : State) (id : Nat) : Option SessSt := (sessOf s id).filter (fun x => x.phase == .established)

/-- An open store is given up: its bank stays invalid (R560, R576). -/
def abandonStore (s : State) : State :=
  if s.flask.store.isSome then
    let s := { s with flask := { s.flask with store := none } }
    ((s.wr (base .flask) Reg.Flk.STORE_STATE 0).wr (base .flask) Reg.Flk.STORE_BYTES 0).setEvt (base .flask) Reg.Flk.FLK_EVENT 2
  else s

/-- A session ends (R552): its streams stop, its open store is aborted, its requests and its cached response go. -/
def dropSession (s : State) (id : Nat) : State :=
  match sessOf s id with
  | none => s
  | some x =>
    let gone := (s.mg.streams.filter (fun kv => kv.2.session == id)).map (·.1)
    let s := s.setMg { s.mg with
      sess := s.mg.sess.filter (fun y => y.id != id)
      reqs := s.mg.reqs.filter (fun q => q.session != id)
      streams := dropKeys s.mg.streams gone.contains
      recs := dropKeys s.mg.recs gone.contains }
    let s := if (s.flask.store.map (·.session)) = some id then abandonStore s else s
    if x.phase = .established then
      drsEvent (s.wr mpBase Reg.Mp.SESS_ACTIVE (s.rd mpBase Reg.Mp.SESS_ACTIVE - 1)) 1
    else s

/-- Every session ends, and with them the requests and negotiations. -/
def dropSessions (s : State) : State :=
  let s := s.mg.sess.foldl (fun t x => dropSession t x.id) s
  s.setMg { s.mg with reqs := [], spdm := [] }

/-- The next frame of a session leaves with the next SEQ of its direction, which ends the session at 2^40 (R549). -/
def sendSecured (s : State) (id port : Nat) (e : Nat → Nat → Emit) : State :=
  match liveSess s id with
  | none => s
  | some x =>
    let s := sendOut (setSess s { x with tx := x.tx + 1 }) port (fun q => e q x.tx)
    if 2 ^ 40 ≤ x.tx + 1 then dropSession s id else s

end Sys2Proof.Machine
end

