-- ==== Sys2Proof/Machine/LinkOps.lean ====
section
/-!
DEFINITION. Shared operations of the Cicen link (spec/04_cicen_link.md): messages, port states and what entering each of
them does, salvage, the loss of a port for routing, credits at bring-up, replay.
-/
namespace Sys2Proof.Machine

/-! ### Registers and states -/

/-- Register block of port `n`. -/
def prd (s : State) (n : Nat) (f : Field) : Nat := s.rd (portBase n) f

/-- PORT_STATE.STATE. -/
def portState (s : State) (n : Nat) : Nat := prd s n Reg.Port.PORT_STATE_STATE

/-- UP, DEGRADED or RETRAIN. -/
def linkAlive (s : State) (n : Nat) : Bool := portRunning s n || portState s n == stRetrain

/-- A LINK_EVENT bit set. -/
def linkEvent (s : State) (n i : Nat) : State := s.setEvt (portBase n) Reg.Port.LINK_EVENT i

/-- The unit of port `n`. -/
def portUnit (n : Nat) : UnitId := .port (idx 95 n)

/-- A port changes state: STATE, LINK_EVENT.STATE_CHANGE, the state event (R135). -/
def setPortState (s : State) (n st : Nat) : State :=
  let s := s.wr (portBase n) Reg.Port.PORT_STATE_STATE st
  (linkEvent s n 0).emit (.named (.linkState n))

/-- The receivers of port `n` are off: the port is fenced or in unit reset, or its clock has stopped (R53, R602, R637). -/
def rxOff (s : State) (n : Nat) : Bool := unitOff s (portUnit n)

/-- The port may run a bring-up: its unit and ancestors are not fenced or in reset, its clock runs, no fatal stop is in
force, configuration has been applied, and a bank's firmware runs (R50, R53, R176, R582, R585, R609). -/
def portUsable (s : State) (n : Nat) : Bool :=
  !(isFenced s (portUnit n)) && !(inReset s (portUnit n)) && clockRuns s (portUnit n) && !(fatalStopped s) &&
  !(isFenced s (.tileCluster (idx 15 (n / 8)))) && s.boot.cfgApplied &&
  !(s.on (base .flask) Reg.Flk.BANK_STATUS_RECOVERY)

/-! ### Messages (R119, R120) -/

/-- A link control message: type, REASON byte, and the bytes that follow the first word. -/
def lcm (type reason : Nat) (rest : List Nat) : BitVec 512 := flitOf ([type, reason, 0, 0] ++ rest)

/-- Eight bytes, most significant first. -/
def be8 (x : Nat) : List Nat := be4 (x / 2 ^ 32 % 2 ^ 32) ++ be4 (x % 2 ^ 32)

/-- LCM_TYPE codes. -/
def tTrainReq : Nat := 1
def tTrainAck : Nat := 2
def tTrainDone : Nat := 3
def tReplayReq : Nat := 4
def tTimeSync : Nat := 5
def tTimeReply : Nat := 6
def tLinkDown : Nat := 7

/-- The VC_MIN words: VC 2k in [25:16], VC 2k + 1 in [9:0]. -/
def vcMinBytes (l : List Nat) : List Nat :=
  (List.range 8).flatMap (fun k => be4 (nth l (2 * k) * 2 ^ 16 + nth l (2 * k + 1)))

/-- A training message of port `n` (R119). RX_EXPECT is 0 and VC_MIN is sent on bring-up. -/
def trainLcm (s : State) (n type reason reqId ownId width : Nat) : BitVec 512 :=
  let p := s.port n
  let up := portState s n == stDown
  lcm type reason (be8 reqId ++ be8 ownId ++
    be4 (prd s n Reg.Port.PORT_STATE_RX_GOOD + 16 * width + 256 * p.rate) ++ be4 (if up then 0 else p.expect) ++
    (if up then vcMinBytes p.vcMin else List.replicate 32 0))

/-- A timestamp: 64-bit ns, then the fraction in [31:16] of the third word. -/
def timeBytes (t : LinkTime) : List Nat := be8 t.ns.toNat ++ be4 (t.frac.toNat * 2 ^ 16)

/-- A message queued for the next link control block (R117). -/
def pushLcm (s : State) (n : Nat) (m : BitVec 512) : State :=
  let p := s.port n
  s.setPort n { p with lcms := p.lcms ++ [m] }

/-- An identity with a fresh nonce (R120): device ID, port, 40 bits drawn. -/
def drawIdent (s : State) (n : Nat) : BitVec 64 × State :=
  (BitVec.ofNat 64 (deviceId s * 2 ^ 48 + n * 2 ^ 40 + s.drawn 40), s.spend)

/-- The port makes a training request of its own, with a fresh identity (R120, R138). -/
def ownRequest (s : State) (n reason : Nat) : State :=
  let (i, s) := drawIdent s n
  let p := s.port n
  s.setPort n { p with ident := some i, reqOut := true, reqReason := reason, doneSent := false, doneRcvd := false }

/-! ### Bring-up begins (R135, R136, R148) -/

/-- The shared remainder for a set of VC_MIN values (R127). -/
def sharedOf (mins : List Nat) : Nat := 8192 - mins.foldl (· + ·) 0

/-- VC_MIN as configured, VC 0 to 15. -/
def cfgVcMin (s : State) (n : Nat) : List Nat :=
  (List.range 16).map (fun v =>
    s.rdi (portBase n) (if v % 2 = 0 then Reg.Port.VC_MIN_EVEN else Reg.Port.VC_MIN_ODD) (v / 2))

/-- Link-layer state discarded; what bring-up policy, the receive buffer and salvage keep stays (R135). Flits that the receive
buffer holds then belong to no credit of the next link (R128). -/
def freshLink (p : PortSt) : PortSt :=
  { PortSt.init with
    rx := p.rx, old := List.zipWith (· + ·) p.old p.held, autoSusp := p.autoSusp, asked := p.asked, firstEnded := p.firstEnded,
    retrains := p.retrains, salvage := p.salvage, ident := p.ident, peerId := p.peerId, lockAt := p.lockAt,
    txFlits := p.txFlits, rxFlits := p.rxFlits }

/-- A bring-up starts (R135, R136): the "next bring-up" fields take effect, BLK_SEQ, E and audit history are reset, RTT_NS
reads 0 (R124), and phase 1 begins, on an optical module phase 2 (R110). -/
def startBringup (s : State) (n : Nat) : State :=
  let mins := cfgVcMin s n
  let q : PortSt := { freshLink (s.port n) with
    vcMin := mins, g := mins, shareMax := Nat.min (prd s n Reg.Port.VC_SHARE_MAX) (sharedOf mins),
    widthMax := prd s n Reg.Port.PORT_CFG_WIDTH_MAX, rate := prd s n Reg.Port.PORT_CFG_RATE,
    phase := if Config.optical n then 2 else 1, phaseAt := s.now }
  (s.setPort n q).wr (portBase n) Reg.Port.RTT_NS 0

/-- A DOWN port with no attempt in progress starts one when ROLE is not DISABLED and AUTO is 1 and not suspended, or
BRINGUP has been written (R135). -/
def autoStart (s : State) (n : Nat) : State :=
  let p := s.port n
  if portState s n = stDown ∧ p.phase = 0 ∧ roleOf s n ≠ 0 ∧ portUsable s n ∧
      ((prd s n Reg.Port.PORT_CFG_AUTO = 1 ∧ !p.autoSusp) ∨ p.asked) then startBringup s n
  else s

/-- Every port that may start, starts (R135, R585 step 9). -/
def autoStartAll (s : State) : State := (List.range 96).foldl autoStart s

/-! ### The loss of a port for routing (R176, R205, R206) -/

/-- A waiting packet that routing discards: its flits leave as they come, and it leaves the salvage list (R144, R156). One
whose tail has not been checked ends when that has passed. -/
def discardWaiting (s : State) (k : Nat) (c : SwPkt) : State :=
  let s := flow (setCur s k { c with phase := .dropped }) k
  if c.whole && c.checked then dropCur (salvageLeft (mirFinish s k c.flits c.stomp) k c) k else s

/-- How a current packet came: its departure level (R193), arrival port and input. -/
def viaOf (k : Nat) (c : SwPkt) : Via :=
  { lvl := if c.viaFabric then c.inRh.hoplvl.toNat + 1 else 0,
    arr := if c.viaFabric && k / 16 < 96 then some (k / 16) else none, inPort := k / 16 }

/-- Transport header in the head flit of a packet, for FMGT (R100). -/
def headTrans (fs : List (BitVec 512)) : TransHdr := TransHdr.ofBytes ((fs.head?.map flitBytes).getD [])

/-- The packet is a source-routed FMGT packet (R108). -/
def sourceRouted (cls : Nat) (fs : List (BitVec 512)) : Bool :=
  cls == clsFmgt && ((headTrans fs).words[0]?.getD 0).toNat / 2 ^ 28 != 0

/-- Lanes of a width code: 0 four, 1 two, 2 one. -/
def lanesOf (w : Nat) : Nat := if w = 0 then 4 else if w = 1 then 2 else 1

/-- The payload rate of a port by R112, in units of the narrowest and slowest lane. -/
def payloadRate (s : State) (n : Nat) : Nat := 2 * lanesOf (prd s n Reg.Port.PORT_STATE_WIDTH) / (1 + (s.port n).rate)

/-- A packet is stored before its head asks for output `o` (R152). -/
def storeFirst (s : State) (inPort o : Nat) (salvaged : Bool) : Bool :=
  inPort < 96 && o < 96 && !salvaged && payloadRate s inPort < payloadRate s o

/-- A lossless head asks for output `o` with this header: at once, or once its tail has been stored (R151, R152). -/
def askOutput (s : State) (k : Nat) (c : SwPkt) (o : Nat) (h : RouteHdr) : State :=
  setCur s k { c with rh := h, out := o, outVc := outVcOf o h.vclass.toNat h.hoplvl.toNat,
                      phase := if storeFirst s (k / 16) o c.salvaged && !(c.whole && c.checked) then .storing else .waiting }

/-- A discard for want of a valid version, counted (R204). -/
def countNotReady (s : State) : State := (s.bump atBase Reg.Atlas.NOT_READY_CNT).setEvt atBase Reg.Atlas.ATLAS_EVENT 7

/-- A head for a lost output routed again from its target entry (R206), or discarded (R108, R201, R204, R212). -/
def rerouteHead (s : State) (k : Nat) : State :=
  match look s.switch.cur k with
  | none => s
  | some c =>
    let cls := c.rh.vclass.toNat
    let s := cnt1 (s.bump atBase Reg.Atlas.REROUTE_CNT) .atlas 0x102
    if sourceRouted cls c.flits then discardWaiting (s.bump atBase Reg.Atlas.FMGT_DROP_CNT) k c
    else if !(atlasValid s (epochOf c.inRh)) then discardWaiting (countNotReady s) k c
    else
      let r := chooseRoute s c.inRh (viaOf k c)
      match r.1 with
      | .port n h => askOutput r.2 k c n (departure h (viaOf k c).lvl)
      | ch => discardWaiting (countNoRoute r.2 ch cls) k c

/-- PORT_DEAD bit `n` sets: the port is masked, and lossless heads waiting for it are routed again (R205, R206). -/
def deadSet (s : State) (n : Nat) : State :=
  if mask96 s Reg.Atlas.PORT_DEAD n then s
  else
    let s := (setMask96 s Reg.Atlas.PORT_DEAD n true).setEvt atBase Reg.Atlas.ATLAS_EVENT 0
    (headsFor s n).foldl rerouteHead s

/-- PORT_DEAD bit `n` clears as the port enters UP or DEGRADED (R205). -/
def deadClear (s : State) (n : Nat) : State :=
  if mask96 s Reg.Atlas.PORT_DEAD n then
    (setMask96 s Reg.Atlas.PORT_DEAD n false).setEvt atBase Reg.Atlas.ATLAS_EVENT 1
  else s

/-! ### Entering BROKEN or DOWN (R135, R143, R144, R165) -/

/-- The port counts a discarded packet or message. -/
def countDiscard (s : State) (n : Nat) : State := s.bump (portBase n) Reg.Port.DISCARD_CNT

/-- Flits of VC `v` that no input stage has taken leave the receive buffer, from the newest back to `keep` of them. -/
def cutRx (p : PortSt) (v keep : Nat) : PortSt :=
  let q := (p.rx[v]?).getD []
  creditsBack { p with rx := p.rx.set v (q.take keep) } v (q.length - keep)

/-- Packets that were arriving on the port and whose TAIL flit has not come are stomped or discarded (R143). -/
def cutArrivals (s : State) (n : Nat) : State :=
  (List.range 16).foldl (fun t v =>
    let t := match look t.switch.cur (inKey n v) with
      | some c => if c.whole || c.salvaged then t else cutInput t (inKey n v) stompLink true (fun u => countDiscard u n)
      | none => t
    let q := ((t.port n).rx[v]?).getD []
    let whole := (q.reverse.dropWhile (fun x => !x.2)).length
    let t' := t.setPort n (cutRx (t.port n) v whole)
    if whole < q.length then countDiscard t' n else t') s

/-- The port enters BROKEN for this reason (R135, R636): LINK_DOWN in eight blocks, partial packets stomped, salvage,
routing told, lossy queues emptied, event. -/
def portBroken (s : State) (n reason : Nat) : State :=
  let s := setPortState (s.wr (portBase n) Reg.Port.PORT_STATE_DOWN_REASON reason) n stBroken
  let p := s.port n
  let s := s.setPort n { p with ldLeft := 8, ldThen := .stayBroken, phase := 0, reqOut := false, lcms := [],
                                replay := [], resend := [], salvDone := none, upWaits := false }
  let s := salvageReady (cutArrivals s n) n
  deviceEvent (portDrop (deadSet s n) n) 0x10 [n, reason, 0, 0]

/-- Link-layer state discarded (R135). -/
def resetLink (s : State) (n : Nat) : State := s.setPort n (freshLink (s.port n))

/-- The port goes DOWN at once with this reason, link-layer state discarded and nothing salvaged: a fence, a reset, the
end of a fatal stop (R135, R636). Packets that were leaving by it are stomped (R93 reason 0x05). -/
def portDown (s : State) (n reason : Nat) : State :=
  let was := portState s n
  let s := s.wr (portBase n) Reg.Port.PORT_STATE_DOWN_REASON reason
  let s := if was = stDown then s else setPortState s n stDown
  let s := (keysWhere s.switch.cur (fun _ c => c.phase == .granted && c.out == n)).foldl (fun t k =>
    haltInput t k stompFenced id) (cutArrivals s n)
  let p := (List.range 16).foldl (fun p v => cutRx p v 0) (s.port n)
  let s := resetLink (s.setPort n { p with salvage := [] }) n
  let s := portDrop (deadSet s n) n
  if was = stDown ∨ was = stBroken then s else deviceEvent s 0x10 [n, reason, 0, 0]

/-- What follows the last LINK_DOWN block: this, unless a reset already waits for it (R636). -/
def PortSt.after (p : PortSt) (a : AfterDown) : AfterDown := if p.ldThen = .reset then .reset else a

/-- As `portDown`, but LINK_DOWN blocks still to leave go out first (R636). -/
def portDownAfter (s : State) (n reason : Nat) : State :=
  let p := s.port n
  if 0 < p.ldLeft then s.setPort n { p with ldThen := p.after (.toDown reason) } else portDown s n reason

/-- The port starts eight LINK_DOWN blocks and is DOWN with this reason once they have left (R609 step 2). -/
def linkDownThen (s : State) (n reason : Nat) : State :=
  if portState s n = stDown then s
  else
    let p := s.port n
    s.setPort n { p with ldLeft := if 0 < p.ldLeft then p.ldLeft else 8, ldThen := p.after (.toDown reason) }

/-- A protocol violation (R115, R125, R135, R141, R599), recorded under R603. -/
def violation (s : State) (n : Nat) : State :=
  if linkAlive s n then portBroken (recordError s (ErrRec.contained (.port (idx 95 n)) .protocol 0xA n)) n 0xA else s

/-! ### Retrain (R135, R138) -/

/-- Entries to RETRAIN within the last 10 ms. -/
def retrainsRecent (s : State) (n : Nat) : Nat := ((s.port n).retrains.filter (fun t => s.now < t + 10000000)).length

/-- Entry to RETRAIN (R135): BROKEN instead when RETRAIN_LIMIT entries were made within 10 ms. Sequences, credits and the
replay buffer are kept; every lane is framed on its own again (R137), and training begins with phase 2 (R136). -/
def enterRetrain (s : State) (n : Nat) (then_ : State → State) : State :=
  if prd s n Reg.Port.RETRAIN_LIMIT ≤ retrainsRecent s n then portBroken s n 9
  else
    let s := setPortState (s.bump (portBase n) Reg.Port.RETRAIN_CNT) n stRetrain
    let p := s.port n
    let q : PortSt := { p with
      retrains := s.now :: p.retrains.filter (fun t => s.now < t + 10000000)
      phase := 2
      phaseAt := s.now
      txW := none
      rxW := none
      lock := PortSt.init.lock
      reqOut := false
      doneSent := false
      doneRcvd := false
      resend := []
      lcms := p.lcms.filter (fun m => m.toNat / 2 ^ 504 != tReplayReq) }
    then_ (s.setPort n q)

/-- Retrain on this end's own request. -/
def ownRetrain (s : State) (n reason : Nat) : State := enterRetrain s n (fun t => ownRequest t n reason)

/-! ### Replay (R123 to R126) -/

/-- Numbers from `a` to `x`, modulo 4,096 (R122). -/
def seqDist (a x : Nat) : Nat := (x + 4096 - a) % 4096

/-- A replay request from E, or a retrain when one more would exceed REPLAY_LIMIT (R124, R126). -/
def requestReplay (s : State) (n : Nat) : State :=
  let p := s.port n
  if prd s n Reg.Port.REPLAY_LIMIT < p.reqCount + 1 then ownRetrain (linkEvent s n 1) n 2
  else pushLcm (s.setPort n { p with reqCount := p.reqCount + 1, inSeq := false }) n (lcm tReplayReq 0 (be4 p.expect))

/-- The replay buffer after ACK_SEQ `a`: every block before the one numbered `a` + 1 is acknowledged, which is all of them when
that is the next number to assign; a value that names no held block tells nothing new (R121, R123). -/
def ackReplay (p : PortSt) (a : Nat) : List ReplayEnt :=
  let e := (a + 1) % 4096
  let i := match p.replay.findIdx? (fun x => x.seq == e) with
    | some i => i
    | none => if e = p.nextSeq then p.replay.length else 0
  p.replay.mapIdx (fun j x => if j < i then { x with acked := true } else x)

/-- Packet `t` is acknowledged in full: all its flits are in blocks, and those blocks are acknowledged (R123). -/
def ackedFull (l : List ReplayEnt) (t : TxPkt) : Bool :=
  t.whole && t.sent == t.flits.length && !(l.any (fun x => !x.acked && t.seqs.contains x.seq))

/-- An acknowledgement taken (R121 to R123): packets acknowledged in full leave the transmit store, and blocks leave the
replay buffer that are acknowledged and hold no flit of another packet. -/
def takeAck (p : PortSt) (a : Nat) : PortSt :=
  let l := ackReplay p a
  let tx := p.tx.filter (fun t => !(ackedFull l t))
  let l := l.filter (fun x => !x.acked || tx.any (fun t => t.seqs.contains x.seq))
  { p with ackRx := a, tx := tx, replay := l, resend := p.resend.filter (fun y => l.any (fun x => x.seq == y.1)) }

/-! ### Training ends (R138 to R141, R638) -/

/-- A follower or leader keeps what the peer announced. -/
def learnPeer (p : PortSt) (m : TrainMsg) : PortSt :=
  { p with peerId := m.ownId, peerGood := m.rxGood, peerExpect := m.rxExpect.toNat,
           peerVcMin := m.vcMin.map BitVec.toNat }

/-- Set bits of a lane mask. -/
def lanesIn (m : Nat) : Nat := ((List.range 4).filter (bitOf m)).length

/-- The lanes in use: the lowest-numbered good lanes, as many as the width has (R140). -/
def activeLanes (good w : Nat) : List Nat := ((List.range 4).filter (bitOf good)).take (lanesOf w)

/-- The width code of R140: the largest of 4, 2 and 1 lanes within both counts and WIDTH_MAX, if one is usable. -/
def chooseWidth (own peer wmax : Nat) : Option Nat :=
  let m := Nat.min (Nat.min own peer) (lanesOf wmax)
  if 4 ≤ m then some 0 else if 2 ≤ m then some 1 else if 1 ≤ m then some 2 else none

/-- Peer fields of the port registers set from the training (R135, R148). -/
def setPeer (s : State) (n : Nat) : State :=
  let i := (s.port n).peerId.toNat
  ((s.wr (portBase n) Reg.Port.PEER_DEVICE (i / 2 ^ 48)).wr (portBase n) Reg.Port.PEER_PORT (i / 2 ^ 40)).wr (portBase n)
    Reg.Port.PEER_VALID 1

/-- The port enters UP, or DEGRADED at a width below WIDTH_MAX (R135): audit timers restart (R133), PORT_DEAD clears
(R205), and a port that was DOWN is seeded for routing (R197) and reported. -/
def enterUp (s : State) (n : Nat) : State :=
  let p := s.port n
  let was := portState s n
  let s := setPortState (s.wr (portBase n) Reg.Port.PORT_STATE_WIDTH p.newWidth) n
    (if p.newWidth = p.widthMax then stUp else stDegraded)
  let s := if was = stRetrain ∧ p.newWidth ≠ p.widthMax then s.emit (.named (.degraded n)) else s
  let s := s.setPort n { p with phase := 0, upWaits := false, lanes := activeLanes p.ownGood p.newWidth, firstEnded := true,
                                asked := false, trainEnd := s.now, audAt := List.replicate 16 s.now }
  let s := deadClear s n
  if was = stDown then
    let s := { s with route := { s.route with warmAt := put s.route.warmAt n s.now } }
    deviceEvent (s.wri atBase Reg.Atlas.PORT_EST_WARMING n 1) 0x11 [n, p.newWidth, 0, 0]
  else s

end Sys2Proof.Machine
end

