-- ==== Sys2Proof/Machine/Switch.lean ====
section
/-!
DEFINITION. The commands of the switch core (spec/05_switch_core.md, R30, R31, R96, R189, R635): heads that reach an input
stage, grants, tails that pass, buffer errors, the multicast table.
-/
namespace Sys2Proof.Machine

/-! ### Delivery inside the device (R31, R607, R635) -/

/-- The switch core takes no packets: it is fenced, in reset, or has lost its clock. -/
def coreOff (s : State) : Bool := unitOff s .switchCore

/-- The core ports of transport cluster `c` at which a packet may be delivered: any for a lossless one, that of its flow
label for a lossy one (R635). -/
def clusterPorts (c cls hash : Nat) : List Nat := if lossy cls then [112 + 3 * c + hash % 3] else tpPorts c

/-- The core ports at which a unicast packet for this device may be delivered, and the cluster they belong to (R31, R635). -/
def localPorts (h : RouteHdr) (t : TransHdr) : List Nat × Option Nat :=
  let cls := h.vclass.toNat
  let e := h.dst.toNat % 256
  if e = 66 then ([126], none)
  else if e = 65 then (if lossy cls then [124] else [124, 125], none)
  else
    let c := if t.top.toNat = opTunnel then (if e < 64 then e % 4 else 0) else t.channel.toNat % 4
    (clusterPorts c cls h.flowhash.toNat, some c)

/-- One of the core ports a packet may be delivered at, as the switch core chooses (R635). -/
def pickPort (s : State) (l : List Nat) : Option Nat × State :=
  match l with
  | [] => (none, s)
  | [o] => (some o, s)
  | _ => (l[s.drawn 8 % l.length]?, s.spend)

/-! ### Heads (R91, R92, R151, R152, R189, R204) -/

/-- What the input stage does with a head: send it to an output with the header it leaves with; make multicast copies;
discard it, counted by a function; refuse it once its tail has passed. -/
inductive Verdict | out (o : Nat) (h : RouteHdr) | multicast | drop | refuse
  deriving DecidableEq, Repr

/-- A discard counted in a counter of Atlas, with its event bit. -/
def atDrop (s : State) (f : Field) (evt : Option Nat) : Verdict × State :=
  let s := s.bump atBase f
  (.drop, match evt with | some i => s.setEvt atBase Reg.Atlas.ATLAS_EVENT i | none => s)

/-- A packet for this device (R31, R607, R635). -/
def deliverHead (s : State) (h : RouteHdr) (t : TransHdr) (inPort : Nat) : Verdict × State :=
  let l := localPorts h t
  if (l.2.map (clusterLost s)).getD false then atDrop s Reg.Atlas.NOROUTE_CNT (some 3)
  else
    let r := pickPort s (l.1.filter (fun o => !(tileLost s inPort o)))
    match r.1 with
    | some o => (.out o h, r.2)
    | none => atDrop s Reg.Atlas.NOROUTE_CNT (some 3)

/-- A source-routed FMGT packet at hop `n` (R108): out of the port it names, which must be LOCAL or GLOBAL (R182) and UP or
DEGRADED; at its last hop to the device's own endpoint 66, whatever DST holds. DESIGN CHOICE: RT_LEN 15, which R107 does not
allow, is taken as it stands, byte 0x2E being RT_PORT[14] (notes/assumptions/76.md). -/
def sourceRoute (s : State) (h : RouteHdr) (t : TransHdr) (w : Via) : Verdict × State :=
  let p : Packet := { rh := h, th := t, payload := [], tr := { crc := 0, stomp := 0, reason := 0, dev := 0 } }
  let n := h.hopcnt.toNat
  let o := p.rtPort n
  if n = p.rtLen then
    (if tileLost s w.inPort 126 then atDrop s Reg.Atlas.NOROUTE_CNT (some 3) else (.out 126 h, s))
  else if p.rtLen < n ∨ 95 < o ∨ !(portRunning s o) ∨ !(roleGood s o) ∨ tileLost s w.inPort o then
    atDrop s Reg.Atlas.FMGT_DROP_CNT none
  else (.out o (departure h w.lvl), s)

/-- Routing of a head (R189). -/
def routeHead (s : State) (h : RouteHdr) (t : TransHdr) (w : Via) : Verdict × State :=
  let cls := h.vclass.toNat
  let valid := atlasValid s (epochOf h)
  let p : Packet := { rh := h, th := t, payload := [], tr := { crc := 0, stomp := 0, reason := 0, dev := 0 } }
  if h.mc then (.multicast, s)
  else if cls = clsFmgt ∧ p.rtLen ≠ 0 then sourceRoute s h t w
  else if h.dst.toNat / 256 = deviceId s then
    if cls = clsFmgt ∨ valid then deliverHead s h t w.inPort
    else if requestOp t.top.toNat ∧ (cls = clsReq ∨ cls = clsL0) ∧ w.arr.isSome ∧ endpointReal h.src.toNat then (.refuse, s)
    else atDrop s Reg.Atlas.NOT_READY_CNT (some 7)
  else if w.arr.isSome ∧ h.hopcnt = 15 then atDrop s Reg.Atlas.HOPLIMIT_CNT (some 5)
  else if !valid then atDrop s Reg.Atlas.NOT_READY_CNT (some 7)
  else
    let r := chooseRoute s h w
    match r.1 with
    | .port n d => (.out n (departure d w.lvl), r.2)
    | c => (.drop, countNoRoute r.2 c cls)

/-- A multicast entry's word `i` of FPORT_MASK and ATT_MASK. -/
def mcPort (s : State) (g n : Nat) : Bool := bitOf (s.rd (swBase + 32 * g + 4 * (n / 32)) Reg.Mc.FPORT_MASK) (n % 32)
/-- Attachment `a` is a target. -/
def mcAtt (s : State) (g a : Nat) : Bool := bitOf (s.rd (swBase + 32 * g + 4 * (a / 32)) Reg.Mc.ATT_MASK) (a % 32)

/-- One copy of a multicast packet for core port `o`, admitted to its queue (R152, R168). -/
def mcCopy (s : State) (k o : Nat) (h inRh : RouteHdr) (viaFabric : Bool) (att : Option Nat) : State :=
  let s := cnt1 s (.tileCluster (idx 15 (k / 128))) 0x106
  (takeIn s (queueOf o h.vclass.toNat)
    { rh := h, inRh := inRh, flits := [], whole := false, begun := false, n := flitsOfLen h.len.toNat, src := some k,
      inPort := k / 16, viaFabric := viaFabric, mirror := none, att := att, slow := storeFirst s (k / 16) o false }).2

/-- The copies of a multicast packet (R167 to R169, R202): none to a fabric port that is not UP or DEGRADED, whose role carries
no such packet (R182) or that a lost tile cuts off, none to an absent attachment (R83). -/
def multicast (s : State) (k : Nat) (h inRh : RouteHdr) (w : Via) : State :=
  let g := h.dst.toNat % 65536
  if s.rdi swBase Reg.Mc.VALID g = 0 then (s.bump swBase Reg.Sw.MC_MISS_CNT).setEvt swBase Reg.Sw.SW_EVENT 1
  else
    let skip := fun (t : State) => t.bump swBase Reg.Sw.MC_COPY_DROP_CNT
    let s := (List.range 96).foldl (fun t n =>
      if !(mcPort t g n) || w.arr == some n || k / 16 == n then t
      else if !(portRunning t n) || !(roleGood t n) || tileLost t w.inPort n then skip t
      else if w.arr.isSome && h.hopcnt == 15 then (t.bump atBase Reg.Atlas.HOPLIMIT_CNT).setEvt atBase Reg.Atlas.ATLAS_EVENT 5
      else mcCopy t k n (departure h w.lvl) inRh w.arr.isSome none) s
    let s := (List.range 64).foldl (fun t a =>
      let o := 112 + 3 * (a % 4) + h.flowhash.toNat % 3
      if !(mcAtt t g a) then t
      else if attAbsent t a ∨ clusterLost t (a % 4) ∨ tileLost t w.inPort o then skip t
      else mcCopy t k o h inRh w.arr.isSome (some a)) s
    if s.rdi swBase Reg.Mc.MGMT_EP g = 1 then
      (if tileLost s w.inPort 126 then skip s else mcCopy s k 126 h inRh w.arr.isSome none)
    else s

/-- The requester of a packet counts as privileged (R522). -/
def pktPriv (cls : Nat) (t : TransHdr) : Bool :=
  cls == clsFmgt || (channelOp t.top.toNat && isSr t.channel.toNat)

/-- PKTS_RX or PKTS_TX of a fabric port (R525). -/
def pktEvent (s : State) (n code cls : Nat) (t : TransHdr) (master : Option Nat) : State :=
  if n < 96 then countEv s (.port (idx 95 n))
    { code := code, inc := 1, priv := some (pktPriv cls t), master := master, addr := none, cls := some cls }
  else s

/-- The flits of the next packet of a receive buffer's VC that have come, whether its TAIL is among them, and the rest. -/
def firstPacket (l : List (BitVec 512 × Bool)) : List (BitVec 512) × Bool × List (BitVec 512 × Bool) :=
  match l.findIdx? (fun x => x.2) with
  | some i => ((l.take (i + 1)).map (·.1), true, l.drop (i + 1))
  | none => (l.map (·.1), false, [])

/-- The packet that an input VC would take next: its header, flits, TAIL seen, fabric entry, salvaged (R144, R153, R157); and
the state without it. A salvaged packet goes before those that arrived after the link failed; each VC is served on its own. -/
def nextHead (s : State) (p vc : Nat) : Option (RouteHdr × List (BitVec 512) × Bool × Bool × Bool × State) :=
  if p < 96 then
    let x := s.port p
    match x.salvage.find? (fun y => y.vc == vc) with
    | some y => some (y.rh, y.flits, true, y.viaFabric, true, s)
    | none =>
      match (x.rx[vc]?).getD [] with
      | [] => none
      | l =>
        let r := firstPacket l
        some (RouteHdr.ofBytes ((r.1.head?.map flitBytes).getD []), r.1, r.2.1, true, false,
          s.setPort p { x with rx := x.rx.set vc r.2.2 })
  else if isFenced s (.tileCluster (idx 15 (p / 8))) then none
  else
    let l := lookD s.switch.inj p []
    match l.find? (fun q => q.cls == vc) with
    | some q => some (q.rh, q.allFlits, true, false, false,
        { s with switch := { s.switch with inj := put s.switch.inj p (l.erase q) } })
    | none => none

/-- The verdict on a head carried out. -/
def placeHead (s : State) (k : Nat) (c : SwPkt) (v : Verdict) : State :=
  let p := k / 16
  let cls := c.inRh.vclass.toNat
  match v with
  | .drop => setCur s k { c with phase := .dropped }
  | .refuse => setCur s k { c with phase := .refused }
  | .multicast => multicast (setCur s k { c with phase := .pooled }) k c.rh c.inRh (viaOf k c)
  | .out o h =>
    if lossy cls then
      let r := takeIn s (queueOf o cls)
        { rh := h, inRh := c.inRh, flits := [], whole := false, begun := false, n := flitsOfLen h.len.toNat, src := some k,
          inPort := p, viaFabric := c.viaFabric, mirror := none, att := none, slow := storeFirst s p o c.salvaged }
      setCur r.2 k { c with rh := h, out := o, phase := if r.1 then .pooled else .dropped }
    else askOutput s k c o h

/-- An upset strikes the stored word of an Atlas or Waypoint entry (R188). -/
def strikeAtlas (s : State) (u : Option AtlasUpset) : State :=
  match u with
  | none => s
  | some u =>
    let off := match u.at_ with
      | .entry e => entryBase u.v.val e
      | .waypoint i => waypointAt u.v.val i.val
    { s with route := { s.route with damaged := put s.route.damaged off u.corrects } }

/-- PACKET_HEAD_ARRIVE (R91, R92, R151 to R153, R158, R160, R188, R189, R509). -/
def execPacketHeadArrive (p : Fin 128) (vc : HeadAt) (s : State) : Host.Outcome State Fault Refusal :=
  let p := p.val
  let s := strikeAtlas s vc.upset
  let vc := vc.vc
  let k := inKey p vc.val
  if coreOff s || fatalStopped s || (look s.switch.cur k).isSome then .next s
  else match nextHead s p vc.val with
    | none => .next s
    | some (h, fs, whole, viaFabric, salvaged, s) =>
      let pkt : Packet := Packet.ofFlits h fs
      let c : SwPkt :=
        { rh := h, inRh := h, flits := fs, whole := whole, checked := false, left := 0, phase := .dropped, out := 0, outVc := 0,
          viaFabric := viaFabric, salvaged := salvaged, since := s.now }
      let cls := h.vclass.toNat
      match (if p < 96 && !salvaged then pkt.headFail vc.val else none) with
      | some n =>
        let s := recordError (s.bump (portBase p) Reg.Port.HDR_ERR_CNT) (ErrRec.contained (.port (idx 95 p)) .header n p)
        .next (flow (setCur s k { c with checked := true }) k)
      | none =>
        let m : Option Nat × State := match (if p < 96 && !salvaged && lossy cls then ingressMeter s p (lossyK cls) else none) with
          | some i => policeDrop s i h.len.toNat h.colour.toNat
          | none => (some h.colour.toNat, s)
        match m with
        | (none, s) => .next (flow (setCur s k c) k)
        | (some col, s) =>
          let h := { h with colour := BitVec.ofNat 2 col }
          let w := viaOf k c
          let r := routeHead s h pkt.th w
          let o := match r.1 with | .out o _ => some o | _ => none
          let s := pktEvent r.2 p 0x103 cls pkt.th o
          let s := placeHead s k { c with rh := h } r.1
          let e : Nat × State := match o with | some o => (o, s) | none => (s.drawn 7, s.spend)
          let s := mirAll e.2 false p k p e.1 h (pkt.op == opMirror) none
          .next (flow s k)

/-! ### Tails (R91 check 8, R93, R96, R151, R204) -/

/-- The NAK 0x0A of R204, an RSP at level 0 in MODE DIRECT whatever the channel's kind, which leaves directly by fabric port
`n`: it waits as an input of its own for that output. A device whose ID is not in force sends none (R78). -/
def sendNotReady (s : State) (n : Nat) (p : Packet) : State :=
  if !(s.on 0 Reg.Root.DEV_CICEN_ID_VALID) then s else
  let r := nakStray s p 0x0A 0 clsRsp
  let k := (List.range (r.2.switch.cur.length + 1)).find? (fun i => (look r.2.switch.cur (2048 + i)).isNone)
  let h := departure r.1.rh 0
  let s := (r.2.bumpi (tb p.th.channel.toNat) Reg.Tc.NAK_SENT_CNT 9).setEvt atBase Reg.Atlas.ATLAS_EVENT 7
  setCur s (2048 + k.getD 0)
    { rh := h, inRh := r.1.rh, flits := r.1.allFlits, whole := true, checked := true, left := 0, phase := .waiting, out := n,
      outVc := vcOf clsRsp 0, viaFabric := false, salvaged := false, since := s.now }

/-- The whole packet of input VC `k` moves on: its last flits go where its phase says, its output VC is free, and the
input is free for its next packet. Mirror copies are completed, or stomped with `cut` (R174). -/
def finishInput (s : State) (k : Nat) (cut : Option Nat) : State :=
  match look s.switch.cur k with
  | none => s
  | some c =>
    let rest := c.flits.drop c.left
    let s := mirFinish s k c.flits cut
    let s := match c.phase with
      | .granted => outPush s c.out c.outVc rest true
      | .pooled => finishPool s k rest
      | _ => s
    freeInput s k c

/-- Pool packets that input VC `k` writes: those that have not begun to leave are discarded when `drop` says so; the ports of
those that remain count a stomp (R95). -/
def stompPool (s : State) (k reason : Nat) (drop : Bool) : State :=
  (writtenBy s k).foldl (fun t q =>
    let u := if drop then setQueue t q ((queue t q).filter (fun x => !(x.src == some k && !x.begun && x.mirror.isNone))) else t
    if (queue u q).any (fun x => x.src == some k && x.mirror.isNone) then countStomp u (q / 3) (outVcOf (q / 3) (clsL0 + q % 3) 0) reason
    else u) s

/-- The stomp of a whole packet whose head has left, or the discard of one whose head has not: pool copies that have not begun
to leave are discarded. -/
def stompOrDrop (s : State) (k : Nat) (c : SwPkt) (reason : Nat) (count : State → State) : State :=
  let bad := stompFlits c.inRh c.flits reason (deviceId s)
  match c.phase with
  | .granted => finishInput (setCur (countStomp s c.out c.outVc reason) k { c with flits := bad, checked := true }) k (some reason)
  | .pooled =>
    let left := poolLeft s k false
    let s := stompPool s k reason true
    finishInput (setCur (if left then s else count s) k { c with flits := bad, checked := true }) k (some reason)
  | .dropped | .refused => finishInput (setCur s k { c with phase := .dropped }) k (some reason)
  | .waiting | .storing => finishInput (setCur (count s) k { c with phase := .dropped }) k (some reason)

/-- The checks at the tail are over: a packet whose head waits goes on waiting, one that was stored asks for its output now
(R152), and any other moves on whole. `cut` is the reason of the stomp it bears, if it bears one. -/
def tailPassed (s : State) (k : Nat) (c : SwPkt) (cut : Option Nat) : State :=
  if c.phase = .waiting ∨ c.phase = .storing then setCur s k { c with phase := .waiting }
  else finishInput (setCur s k c) k cut

/-- A packet in transit whose E2E_CRC fails is stomped (R95, R96). The egress port counts the stomp now, or as the packet
begins when its head still waits. -/
def stompTransit (s : State) (p k : Nat) (c : SwPkt) : State :=
  let s := recordError s (ErrRec.contained (if p < 96 then .port (idx 95 p) else .switchCore) .e2e 0 (2 ^ 24 * c.inRh.dst.toNat + p))
  let d := { c with flits := stompFlits c.inRh c.flits stompE2e (deviceId s), checked := true }
  match c.phase with
  | .granted => tailPassed (countStomp s c.out c.outVc stompE2e) k d (some stompE2e)
  | .pooled => tailPassed (stompPool s k stompE2e false) k d (some stompE2e)
  | _ => tailPassed s k { d with stomp := some stompE2e } (some stompE2e)

/-- PACKET_TAIL_ARRIVE (R91, R96): the flit count and E2E_CRC over the bytes that came. A packet that this device stomps or
that came stomped leaves its reason to its mirror copies (R174). -/
def execPacketTailArrive (p : Fin 128) (vc : Fin 16) (s : State) : Host.Outcome State Fault Refusal :=
  let p := p.val
  let k := inKey p vc.val
  match look s.switch.cur k with
  | none => .next s
  | some c =>
    if !c.whole then .next s
    else if c.checked && (c.phase == .waiting || c.phase == .storing) then .next s
    else if c.checked then .next (finishInput s k none)
    else if p < 96 && !c.salvaged && c.flits.length != flitsOfLen c.inRh.len.toNat then
      let s := recordError (s.bump (portBase p) Reg.Port.HDR_ERR_CNT) (ErrRec.contained (.port (idx 95 p)) .header 8 p)
      .next (stompOrDrop s k c stompLength id)
    else
      let tr := flitsTrailer c.flits
      let bad := tr.stomp == 0 && !(flitsIntact c.inRh c.flits)
      let cut := if tr.stomp = 0 then c.stomp else some tr.reason.toNat
      let here := c.phase == .dropped || 96 ≤ c.out
      if bad && c.phase == .refused then
        .next (finishInput (recordError s (ErrRec.contained (.port (idx 95 p)) .e2e 1 (2 ^ 24 * c.inRh.dst.toNat + p))) k none)
      else if bad && !here then .next (stompTransit s p k c)
      else
        let t := tailPassed s k { c with checked := true } cut
        .next (if c.phase = .refused ∧ tr.stomp = 0 then sendNotReady t p (Packet.ofFlits c.inRh c.flits) else t)

/-! ### Grants (R151, R154 to R156, R166, R171) -/

/-- What may begin at an output: a waiting input, or the oldest packet of a lossy queue. -/
inductive Begin | input (k : Nat) | pooled (q : Nat)
  deriving DecidableEq, Repr

/-- The unit behind a core port 96–127 (R30); the loopback is the switch core's own. -/
def unitBehind (o : Nat) : UnitId :=
  if o < 112 then .hostMacro (idx 15 (o - 96)) else if o < 124 then .cluster (idx 3 ((o - 112) / 3))
  else if o < 126 then .collective else if o = 126 then .mgmtProc else .switchCore

/-- The unit behind a core port 96–127 accepts a packet's head (R151): it does while it takes input, and discards what it
cannot use. -/
def unitAccepts (s : State) (o : Nat) : Bool := !(unitOff s (unitBehind o))

/-- The output can take a packet of this VC and flit count (R116, R151). -/
def outOpen (s : State) (o vc n : Nat) : Bool :=
  !(outBusy s o vc) && (if o < 96 then portRunning s o && n ≤ nth (s.port o).credits vc else unitAccepts s o)

/-- The egress shaper of a fabric port's lossy queue (R154, R514). -/
def egrShaper (q : Nat) : BucketRef := shaperRef (.egress (idx 95 (q / 3)) (idx 2 (q % 3)))

/-- An output that is free for the packet lacks the credits for it (R116). -/
def shortOfCredits (s : State) (o vc n : Nat) : Bool :=
  o < 96 && !(outBusy s o vc) && portRunning s o && nth (s.port o).credits vc < n

/-- The packets at a fabric port that wait for credits are noted from now on (CREDIT_WAIT_NS, R525). -/
def noteCredits (s : State) (o : Nat) : State :=
  let s := (waitingAt s o).foldl (fun t k => match look t.switch.cur k with
    | some c => if c.credSince.isNone && shortOfCredits t o c.outVc (flitsOfLen c.rh.len.toNat) then
        setCur t k { c with credSince := some t.now } else t
    | none => t) s
  (List.range 3).foldl (fun t i =>
    match (queue t (3 * o + i)).find? (fun x => !x.begun) with
    | some x => if x.credSince.isNone && shortOfCredits t o (outVcOf o (clsL0 + i) 0) x.n then
        setQueue t (3 * o + i) ((queue t (3 * o + i)).map (fun y => if y == x then { y with credSince := some t.now } else y)) else t
    | none => t) s

/-- The heads of a fabric port's lossy queues that only their shaper holds back are counted, each once (R514, R517). -/
def noteShaped (s : State) (o : Nat) : State :=
  (List.range 3).foldl (fun t i =>
    let q := 3 * o + i
    match (queue t q).find? (fun x => !x.begun) with
    | some x =>
      if o < 96 && !x.shaped && (x.whole || !x.slow) && outOpen t o (outVcOf o (clsL0 + i) 0) x.n && !(shaperOpen t (egrShaper q)) then
        shaperWaited (setQueue t q ((queue t q).map (fun y => if y == x then { y with shaped := true } else y)))
          (.egress (idx 95 o) (idx 2 i))
      else t
    | none => t) s

/-- The nanoseconds that a packet waited for credits, counted as it begins (R525). -/
def creditWait (s : State) (o cls : Nat) (since : Option Nat) : State :=
  match since with
  | some t => cntCM s (.port (idx 95 o)) 0x105 (s.now - t) (some cls) none
  | none => s

/-- Waiting inputs that the output could begin now. -/
def openInputs (s : State) (o : Nat) (p : SwPkt → Bool) : List (Nat × SwPkt) :=
  (waitingAt s o).filterMap (fun k => match look s.switch.cur k with
    | some c => if p c && outOpen s o c.outVc (flitsOfLen c.rh.len.toNat) then some (k, c) else none
    | none => none)

/-- The next of several inputs for one output VC, in round robin (R154). -/
def rrInput (s : State) (o vc : Nat) (l : List Nat) : Option Nat :=
  let last := lookD s.switch.rr (inKey o vc) 0
  match l.find? (fun k => last < k) with
  | some k => some k
  | none => l.head?

/-- The highest output VC of a list of inputs: RSP before REQ, the higher level first (R154). -/
def topVc (l : List (Nat × SwPkt)) : Nat := l.foldl (fun m x => Nat.max m x.2.outVc) 0

/-- The input that begins among these. -/
def chooseInput (s : State) (o : Nat) (l : List (Nat × SwPkt)) : Option Begin :=
  let v := topVc l
  (rrInput s o v ((l.filter (fun x => x.2.outVc == v)).map (·.1))).map Begin.input

/-- The packet of lossy class index `i` that could begin at output `o`: the oldest, once it is stored where R152 asks it. -/
def openPool (s : State) (o i : Nat) : Option Begin :=
  let q := 3 * o + i
  match (queue s q).find? (fun x => !x.begun) with
  | some x =>
    if (x.whole || !x.slow) && outOpen s o (outVcOf o (clsL0 + i) 0) x.n && (96 ≤ o || shaperOpen s (egrShaper q)) then some (.pooled q) else none
  | none => none

/-- Group `i` (LL, L0, L1, L2): what it could begin. -/
def openGroup (s : State) (o i : Nat) : Option Begin :=
  if i = 0 then chooseInput s o (openInputs s o (fun c => c.rh.vclass.toNat != clsFmgt)) else openPool s o (i - 1)

/-- Weight of a group (R154). -/
def groupWeight (s : State) (i : Nat) : Nat :=
  s.rd swBase (if i = 0 then Reg.Sw.EGR_WEIGHT_LL else if i = 1 then Reg.Sw.EGR_WEIGHT_L0 else if i = 2 then Reg.Sw.EGR_WEIGHT_L1
    else Reg.Sw.EGR_WEIGHT_L2)

/-- The group whose turn it is at output `o`, and the flits it has sent in it (R154). -/
def turnOf (s : State) (o : Nat) : Nat × Nat := lookD s.switch.round o (0, 0)

/-- The first of the groups from `i` on that can begin a packet; `sent` flits count against the first. A group that has sent
its weight, or with nothing eligible, passes its turn to the next (R154). -/
def nextTurn (s : State) (o : Nat) : Nat → Nat → Nat → Option (Begin × Nat × Nat)
  | 0, _, _ => none
  | k + 1, i, sent =>
    match (if sent < groupWeight s i then openGroup s o i else none) with
    | some b => some (b, i, sent)
    | none => nextTurn s o k ((i + 1) % 4) 0

/-- The choice of the egress arbiter: FMGT first, else by turns of the four groups; with it the turn and the flits sent in
it so far (R154). -/
def arbitrate (s : State) (o : Nat) : Option (Begin × Option (Nat × Nat)) :=
  match chooseInput s o (openInputs s o (fun c => c.rh.vclass.toNat == clsFmgt)) with
  | some b => some (b, none)
  | none => (nextTurn s o 5 (turnOf s o).1 (turnOf s o).2).map (fun x => (x.1, some x.2))

/-- Credits for a whole packet taken as it begins (R116). -/
def takeCredits (s : State) (o vc n : Nat) : State :=
  if o < 96 then s.setPort o { s.port o with credits := modNth (s.port o).credits vc (· - n) } else s

/-- The packet counted as it begins at the output (R154, R525). -/
def countBegin (s : State) (o inPort cls n since : Nat) (g : Option (Nat × Nat)) (fs : List (BitVec 512)) : State :=
  let s := match g with
    | some (i, sent) => { s with switch := { s.switch with round := put s.switch.round o (i, sent + n) } }
    | none => s
  let u : UnitId := .tileCluster (idx 15 (inPort / 8))
  let s := cntCM (cntCM s u 0x100 1 (some cls) (some inPort)) u 0x101 (s.now - since) (some cls) (some inPort)
  let s := cntCM s (.tile (idx 255 (16 * (inPort / 8) + o / 8))) 0x100 n (some cls) none
  pktEvent s o 0x102 cls (headTrans fs) (some inPort)

/-- A waiting input begins at output `o`. -/
def beginInput (s : State) (o k : Nat) (c : SwPkt) (g : Option (Nat × Nat)) : State :=
  let n := flitsOfLen c.rh.len.toNat
  let cls := c.rh.vclass.toNat
  let t := s.rd swBase Reg.Sw.CE_THRESH_FLITS
  let mark := cls ≠ clsFmgt ∧ t ≠ 0 ∧ t ≤ llBacklog s o
  let s := if mark then
      let t := s.bumpi swBase Reg.Sw.CE_MARK_CNT o
      { t with route := { t.route with marks := put t.route.marks o (lookD t.route.marks o 0 + 1) } }
    else s
  let s := if mark ∧ o < 96 then cntCM s (.port (idx 95 o)) 0x106 1 (some cls) none else s
  let h := if mark then { c.rh with ce := true } else c.rh
  let s := { s with switch := { s.switch with rr := put s.switch.rr (inKey o c.outVc) k } }
  let s := creditWait s o cls c.credSince
  let s := countBegin (takeCredits s o c.outVc n) o (Nat.min (k / 16) 127) cls n c.since g c.flits
  let s := match c.stomp with | some r => countStomp s o c.outVc r | none => s
  let s := outBegin (setCur s k { c with rh := h, phase := .granted }) o c.outVc h c.inRh c.viaFabric none
  let s := mirAll s true o k (k / 16) o h ((headTrans c.flits).top.toNat == opMirror) none
  if c.whole && c.checked then finishInput s k c.stomp else flow s k

/-- The oldest packet of lossy queue `q` begins to leave. -/
def beginPool (s : State) (q : Nat) (g : Option (Nat × Nat)) : State :=
  let o := q / 3
  let cls := clsL0 + q % 3
  let vc := outVcOf o cls 0
  match (queue s q).find? (fun x => !x.begun) with
  | none => s
  | some x =>
    let s := if o < 96 then shaperDebit s (egrShaper q) x.rh.len.toNat else s
    let s := creditWait s o cls x.credSince
    let s := countBegin (takeCredits s o vc x.n) o x.inPort cls x.n s.now g x.flits
    let s := outBegin s o vc x.rh x.inRh x.viaFabric x.att
    let isMir := x.mirror.isSome || (headTrans x.flits).top.toNat == opMirror
    let s := mirAll s true o (x.src.getD 0) x.inPort o x.rh isMir (if x.whole then some x.flits else none)
    if x.whole then outPush (setQueue s q ((queue s q).erase x)) o vc x.flits true
    else
      let s := setQueue s q ((queue s q).map (fun y => if y == x then { y with begun := true } else y))
      if x.flits.isEmpty then s else outPush s o vc x.flits false

/-- EGRESS_GRANT (R151, R154 to R156, R166). -/
def execEgressGrant (o : Fin 128) (s : State) : Host.Outcome State Fault Refusal :=
  if coreOff s || fatalStopped s then .next s
  else
    let s := noteShaped (noteCredits s o.val) o.val
    match arbitrate s o.val with
    | none => .next s
    | some (.input k, g) => (match look s.switch.cur k with
      | some c => .next (beginInput s o.val k c g)
      | none => .next s)
    | some (.pooled q, g) => .next (beginPool s q g)

/-! ### Averages, errors, counters (R162, R175, R177) -/

/-- RED_AVG_IDLE_TICK (R162). -/
def execRedAvgIdleTick (s : State) : Host.Outcome State Fault Refusal :=
  let t := (List.range 384).foldl (fun t q => if s.switch.redSeen.contains q then t else redUpdate t q) s
  .next { t with switch := { t.switch with redSeen := [] } }

/-- The packet at input VC `k` is struck: stomped where its head has left, discarded otherwise (R28, R175). `count` is what a
discard counts. -/
def strikeInput (s : State) (k reason : Nat) (count : State → State) : State :=
  match look s.switch.cur k with
  | none => s
  | some c => if c.whole then stompOrDrop s k c reason count else haltInput s k reason count

/-- A packet whose head no input stage has taken is discarded: what has come of it leaves, and so does what still comes. -/
def strikeWaiting (s : State) (p vc : Nat) (count : State → State) : State :=
  match nextHead s p vc with
  | none => s
  | some (h, fs, whole, viaFabric, salvaged, s) =>
    flow (setCur (count s) (inKey p vc)
      { rh := h, inRh := h, flits := fs, whole := whole, checked := true, left := 0, phase := .dropped, out := 0, outVc := 0,
        viaFabric := viaFabric, salvaged := salvaged, since := s.now }) (inKey p vc)

/-- An uncorrectable flit of the packet that input VC `vc` of port `p` reads next (R175). -/
def eccInput (s : State) (p vc : Nat) : State :=
  let count := fun (t : State) => t.bump swBase Reg.Sw.ECC_UNCORR_CNT
  if (look s.switch.cur (inKey p vc)).isSome then strikeInput s (inKey p vc) stompEcc count else strikeWaiting s p vc count

/-- The packet in progress on an output VC is struck on its way out (R28): it is ended with a stomp, and what still comes of it
at its input, or lies in the pool, is discarded. -/
def strikeOutput (s : State) (o vc reason : Nat) : State :=
  let ks := keysWhere s.switch.cur (fun _ c => c.phase == .granted && c.out == o && c.outVc == vc)
  let qs := [3 * o, 3 * o + 1, 3 * o + 2].filter (fun q => outVcOf o (clsL0 + q % 3) 0 == vc)
  qs.foldl (fun t q => setQueue t q ((queue t q).filter (fun x => !x.begun)))
    (if ks.isEmpty then outStomp s o vc reason else ks.foldl (fun t k => strikeInput t k reason id) s)

/-- An uncorrectable flit of the packet at position `i` of lossy queue `q` (R175). -/
def eccPool (s : State) (q i : Nat) : State :=
  match (queue s q)[i]? with
  | none => s
  | some x =>
    if x.begun then
      let s := outStomp s (q / 3) (outVcOf (q / 3) (clsL0 + q % 3) 0) stompEcc
      setQueue s q ((queue s q).erase x)
    else (copiesLost (setQueue s q ((queue s q).erase x)) [x]).bump swBase Reg.Sw.ECC_UNCORR_CNT

/-- The record of an ECC error in a flit buffer (R175, R603). -/
def eccRec (w : EccPlace) (corrects : Bool) : ErrRec :=
  match w with
  | .rxBuffer p vc => ErrRec.ecc .switchCore corrects 0 (Config.eccIndex swBase (16 * p.val + vc.val)).toNat
  | .pool q _ => ErrRec.ecc .switchCore corrects 1 (Config.eccIndex swBase (2048 + q.val)).toNat

/-- BUFFER_ECC_ERROR (R175). -/
def execBufferEccError (w : EccPlace) (corrected : Bool) (s : State) : Host.Outcome State Fault Refusal :=
  if corrected then
    .next (recordError ((s.bump swBase Reg.Sw.ECC_CORR_CNT).setEvt swBase Reg.Sw.SW_EVENT 3) (eccRec w true))
  else
    let s := recordError (s.setEvt swBase Reg.Sw.SW_EVENT 4) (eccRec w false)
    match w with
    | .rxBuffer p vc => .next (eccInput s p.val vc.val)
    | .pool q i => .next (eccPool s q.val i)

/-- POOL_HWM_CLR (R177). -/
def execPoolHwmClr (r : Route) (s : State) : Host.Outcome State Fault Refusal :=
  .next (guarded s r (swBase + 0x50) (fun s => s.wr swBase Reg.Sw.POOL_HWM (s.rd swBase Reg.Sw.POOL_USED)))

/-- SWITCH_CNT_CLR (R177, R181): the counters of R177 to R179. R177 writes "of R180" where R181 names R179, and R180 has no
counter (notes/assumptions/77.md). -/
def execSwitchCntClr (r : Route) (s : State) : Host.Outcome State Fault Refusal :=
  .next (guarded s r (swBase + 0x50) (fun s =>
    let s := s.clearAll swBase [Reg.Sw.MC_MISS_CNT, Reg.Sw.MC_COPY_DROP_CNT, Reg.Sw.ECC_CORR_CNT, Reg.Sw.ECC_UNCORR_CNT]
    let s := s.clearArr swBase Reg.Sw.CE_MARK_CNT 128
    let s := [Reg.Mir.COPIES, Reg.Mir.COPY_DROPS].foldl (fun t f => t.clearArr swBase f 16) s
    [Reg.Q.TAIL_DROP, Reg.Q.RED_DROP, Reg.Q.PUSHED_OUT, Reg.Q.PORT_DROP, Reg.Q.MARKED].foldl (fun t f =>
      t.clearArr swBase f 384) s))

/-! ### The multicast table (R180) -/

/-- MC_ENTRY_WORD_WRITE (R180). -/
def execMcEntryWordWrite (r : Route) (g : Fin 65536) (w : Fin 7) (v : BitVec 32) (s : State) : Host.Outcome State Fault Refusal :=
  .next (guarded s r (swBase + 0x800000 + 32 * g.val + 4 * w.val) (fun s =>
    let old := match look s.switch.mcLatch (routeIdx r) with
      | some (e, m) => if e = g.val then m else []
      | none => []
    { s with switch := { s.switch with mcLatch := put s.switch.mcLatch (routeIdx r) (g.val, put old w.val v.toNat) } }))

/-- MC_ENTRY_APPLY (R180). -/
def execMcEntryApply (r : Route) (g : Fin 65536) (v : BitVec 32) (s : State) : Host.Outcome State Fault Refusal :=
  .next (guarded s r (swBase + 0x80001C + 32 * g.val) (fun s =>
    let held := match look s.switch.mcLatch (routeIdx r) with
      | some (e, m) => if e = g.val then m else []
      | none => []
    let b := swBase + 32 * g.val
    let s := held.foldl (fun (t : State) (kv : Nat × Nat) =>
      if kv.1 < 3 then t.wr (b + 4 * kv.1) Reg.Mc.FPORT_MASK kv.2
      else if kv.1 < 5 then t.wr (b + 4 * (kv.1 - 3)) Reg.Mc.ATT_MASK kv.2
      else if kv.1 = 5 then t.wr b Reg.Mc.MGMT_EP kv.2
      else t) s
    s.wr b Reg.Mc.VALID (bits v.toNat 31 31)))

end Sys2Proof.Machine
end

