-- ==== Sys2Proof/Machine/FenceOps.lean ====
section
/-!
DEFINITION. What a fence or a unit reset does to the work a unit holds and to its neighbours (R50, R607 and the chapters it
names), and the fatal stop (R608, R609).
-/
namespace Sys2Proof.Machine

/-! ### What each kind of unit gives up (R50, R53, R607) -/

/-- A head that waited for an output behind a lost tile is placed again, or discarded (R176, R206). -/
def replaceHead (s : State) (k : Nat) (c : SwPkt) : State :=
  if c.out < 96 then rerouteHead s k
  else
    let r := deliverHead s c.inRh (headTrans c.flits) (k / 16)
    match r.1 with
    | .out o h => askOutput r.2 k c o h
    | _ => discardWaiting r.2 k c

/-- The packet of an input VC is cut here: what has come of it goes, and what is still to come of it is discarded as it comes. -/
def goneInput (s : State) (k : Nat) : State :=
  match look s.switch.cur k with
  | none => s
  | some c => if c.whole then cutInput s k stompFenced false id else haltInput s k stompFenced id

/-- Tile (c, t) is lost (R176): what passes through it is stomped, what was admitted and has not begun to leave is dropped,
and waiting heads are routed again. -/
def tileGone (s : State) (t : Nat) : State :=
  let mine := fun (k : Nat) (o : Nat) => k / 16 / 8 == t / 16 && o / 8 == t % 16
  let s := (keysWhere s.switch.cur (fun k c => c.phase == .granted && mine k c.out)).foldl goneInput s
  let s := ((List.range 24).map (fun i => 24 * (t % 16) + i)).foldl (fun u q =>
    let u := ((queue u q).filter (fun x => x.begun && !x.whole && x.inPort / 8 == t / 16)).foldl (fun v x =>
      outStomp v (q / 3) (outVcOf (q / 3) x.rh.vclass.toNat 0) stompFenced) u
    let u := setQueue u q ((queue u q).filter (fun x => !(x.begun && !x.whole && x.inPort / 8 == t / 16)))
    dropQueued u q (fun x => x.inPort / 8 == t / 16)) s
  (keysWhere s.switch.cur (fun k c => (c.phase == .waiting || c.phase == .storing) && mine k c.out)).foldl (fun u k =>
    match look u.switch.cur k with
    | some c => replaceHead u k c
    | none => u) s

/-- The ports of tile cluster `c` are held DOWN (R176). -/
def tileClusterGone (s : State) (c : Nat) : State :=
  ((List.range 8).map (8 * c + ·)).foldl (fun t n => if n < 96 then portDownAfter t n 0xC else t) s

/-- The switch core discards every packet it holds. -/
def switchGone (s : State) : State :=
  let s := (s.switch.cur.map Prod.fst).foldl goneInput s
  let s := (s.switch.pool.map Prod.fst).foldl (fun t q => setQueue t q []) s
  { s with switch := { s.switch with asm := [], inbox := [], mcTo := [] } }

/-- Packets delivered to these core ports are discarded. -/
def dropInbox (s : State) (ports : List Nat) : State :=
  { s with switch := { s.switch with inbox := dropKeys s.switch.inbox ports.contains, mcTo := dropKeys s.switch.mcTo ports.contains } }

/-- A transport cluster's contexts, work and packets are discarded (R239, R593): no completion is written for its work entries,
whose CQ slots stay reserved; commands end without a result. -/
def clusterGone (s : State) (c : Nat) : State :=
  let chans := (s.tp.chans.map Prod.fst).filter (fun ch => clusterOf ch == c)
  let s := chans.foldl (fun t ch => match t.chanAny ch with
    | some x => dropChan (closeNow (t.setChan ch { x with closers := [] }) ch true) ch
    | none => t) s
  let mine := fun (w : CmdWait) => clusterOf w.ch == c
  let s := (s.tp.cmds.filter mine).foldl (fun t w => match w.fn with
    | some f => t.wr (bar2 f) Reg.Bar2.CMD_STATUS_BUSY 0
    | none => t) s
  let s := s.wr (clusterBase c) Reg.Tc.CMD_STATUS_BUSY 0
  let s := { s with tp := { s.tp with
    cmds := s.tp.cmds.filter (fun w => !(mine w))
    scans := s.tp.scans.filter (fun k => k.cluster != c)
    priv := dropKeys s.tp.priv (fun ch => clusterOf ch == c)
    stalled := del s.tp.stalled c } }
  let served := fun (g : Nat) => ((s.wqAt g).map (·.cluster)) == some c
  let s := { s with
    wq := { s.wq with
      wqs := s.wq.wqs.map (fun (kv : Nat × WqSt) => if kv.2.cluster = c then (kv.1, { kv.2 with fetched := [], waiting := false }) else kv)
      fnArb := dropKeys s.wq.fnArb (fun e => e / 4 == c)
      wqArb := dropKeys s.wq.wqArb (fun k => k / 1024 / 4 == c)
      tuns := s.wq.tuns.filter (fun j => j.cluster != c) }
    xl := { s.xl with inval := s.xl.inval.filter (fun w => !(served w.wq)) } }
  let lost := (s.gz.items.filter (fun (x : TrailItem) => x.engine / 4 == c)).length
  let s := trailLost (s.setGz { s.gz with items := s.gz.items.filter (fun (x : TrailItem) => x.engine / 4 != c) }) lost
  tpSync (dropInbox (s.wr (clusterBase c) Reg.Tc.CTX_CFG_EN 0) (tpPorts c)) c

/-- The matching lists and the messages in progress are lost (R326, R336, R607). -/
def matchGone (s : State) : State :=
  let s := s.doms.foldl (fun t kv => loseMsgs t kv.1) s
  s.doms.foldl (fun t kv => domSync (t.setDom kv.1 { DomSt.init with used := kv.2.used }) kv.1) s

/-- An attachment's link goes down (R418, R419, R607). -/
def attGone (s : State) (a : Nat) : State :=
  if attUp s a then attachGoesDown s a 2
  else if isDown s a && linkUp s a then
    (if isBound s a || isOwned s a then contain s a else attEvent (linkGone s a 0) a 0)
  else s

/-- A home slice discards the transactions it holds. -/
def sliceGone (s : State) (i : Nat) : State :=
  let s := s.setSlice i { s.slice i with ing := [], credit := [0, 0, 0] }
  showBusy { s with mesh := { s.mesh with busy := dropKeys s.mesh.busy (fun l => lineSlice l == i) } } i

/-- Gazetteer's dump in progress and Trail's items and records are lost (R538, R607). -/
def gzGone (s : State) : State :=
  let s := if s.gz.dump.isSome then s.setGz { s.gz with dump := none, stopping := false } else s
  let n := s.gz.items.length + s.gz.recs.length
  trailLost (s.setGz { s.gz with items := [], recs := [], count := [] }) n

/-- The on-die caching agent that a unit is. -/
def agentOf (u : UnitId) : Option Nat := onDie.find? (fun a => agentUnit a == some u)

/-- A unit gives up what it holds, and its neighbours proceed (R50, R53, R607). -/
def giveUp (s : State) (u : UnitId) : State :=
  let s := match u with
    | .port n => portDownAfter s n.val 0xC
    | .tile t => tileGone s t.val
    | .tileCluster c => tileClusterGone s c.val
    | .switchCore => switchGone s
    | .cluster c => clusterGone s c.val
    | .engine e => clusterGone s (e.val / 4)
    | .matching => matchGone s
    | .collective => dropInbox (collReset s) [124, 125]
    | .compass => compassReset s
    | .attachment a => attGone s a.val
    | .slice i => sliceGone s i.val
    | .gazetteer => gzGone s
    | .mgmtEth _ => closeBypass s
    | .mgmtProc => dropSessions s
    | .flask => abandonStore s
    | .root | .secProc | .atlas | .meterBank | .injShaper | .macroGroup _ | .fabricMacro _ | .egressShaper _ | .hostGroup _
    | .hostMacro _ | .stack _ => s
  match agentOf u with
  | some a => agentDies s a 2
  | none => s

/-- What a fence does beyond that: an HBM stack fails (R607). -/
def fenceFalls (s : State) (u : UnitId) : State :=
  match u with
  | .stack i => failStack (giveUp s u) i.val
  | _ => giveUp s u

/-- Fences that have fallen since `before` act, and so do those that their consequences bring (R488). -/
def settleFences : Nat → State → State → State
  | 0, _, s => s
  | n + 1, before, s =>
    let new_ := s.setup.fenced.filter (fun u => !(before.setup.fenced.contains u))
    if new_.isEmpty then s else settleFences n s (new_.foldl fenceFalls s)

/-- `after` with the consequences of every fence that it has and `before` has not. -/
def fencing (before after : State) : State := settleFences 8 before after

/-- The device fences a unit and its subtree (R50, R51, R54). -/
def fenceUnit (s : State) (u : UnitId) : State := fencing s (markFenced s u)

/-! ### Fatal stop (R608, R609) -/

/-- A fatal stop begins (R609): the error recorded, LINK_DOWN on every port, FATAL_STOP on the EVENTS stream. Work entries,
packets and host requests are turned away by `fatalStopped`. A later cause is recorded only. -/
def fatalStop (s : State) (u : UnitId) (kind : ErrKind) (sub info : Nat) : State :=
  let e : ErrRec := { unit := u, kind := kind, sev := 3, sub := sub, info := info, fenced := false, fatal := true }
  if fatalStopped s then recordError s { e with fatal := false }
  else
    let s := (s.wr 0 Reg.Err.ERR_STATUS_FATAL 1).wr 0 Reg.Err.ERR_STATUS_FATAL_KIND kind.code
    let s := recordError s e
    let s := (List.range 96).foldl (fun t n => linkDownThen t n 0xC) s
    streamEvent s 0x61 [kind.code, 0, 0, 0]

/-- A dangerous failure that is not confined to one packet (R607, R608): a fatal stop in the units that serve every flow, a
fence elsewhere. -/
def dangerous (s : State) (u : UnitId) (kind : ErrKind) (sub info : Nat) : State :=
  if fatalUnit u then fatalStop s u kind sub info
  else fenceUnit (recordError s { unit := u, kind := kind, sev := 2, sub := sub, info := info, fenced := true, fatal := false }) u

end Sys2Proof.Machine
end

