-- ==== Sys2Proof/Machine/Routing.lean ====
section
/-!
DEFINITION. Commands of the routing family (spec/06_routing.md): injection epoch, congestion estimates, the management
class, Atlas entries, the fence store. CONTOUR_PERIOD is in Machine/Streams.lean.
-/
namespace Sys2Proof.Machine

/-! ### Injection version (R209) -/

/-- The version that INJ_EPOCH names is valid. -/
def injValid (s : State) : Bool := atlasValid s (s.rd 0 Reg.Root.INJ_EPOCH_EPOCH)

/-- ROUTING_NOT_READY or ROUTING_READY, when the VALID of the version that INJ_EPOCH names is not what it was (R269, R303). -/
def routingEvents (before s : State) : State :=
  if injValid s = injValid before then s
  else deviceEvent s (if injValid s then 0x15 else 0x14) [s.rd 0 Reg.Root.INJ_EPOCH_EPOCH, 0, 0, 0]

/-- INJ_EPOCH_WRITE (R209): packets injected afterwards carry the version. -/
def execInjEpochWrite (r : Route) (e : BitVec 32) (s : State) : Host.Outcome State Fault Refusal :=
  .next (guarded s r Reg.Root.INJ_EPOCH_EPOCH.off (fun t => routingEvents t (t.wr 0 Reg.Root.INJ_EPOCH_EPOCH (bits e.toNat 0 0))))

/-! ### Congestion estimates (R197) -/

/-- A number with common factors of two removed, `k` at most. -/
def Dyadic.shrink : Nat → Dyadic → Dyadic
  | 0, a => a
  | k + 1, a => if a.2 ≠ 0 ∧ a.1 % 2 = 0 then Dyadic.shrink k (a.1 / 2, a.2 - 1) else a

/-- E + (S − E) × 2^−W, exactly (R197). -/
def estStep (e : Dyadic) (sample w : Nat) : Dyadic :=
  Dyadic.shrink (e.2 + w) (e.1 * (2 ^ w - 1) + sample * 2 ^ e.2, e.2 + w)

/-- The sum of two exact numbers. -/
def Dyadic.sum (a b : Dyadic) : Dyadic :=
  let x := Nat.max a.2 b.2
  Dyadic.shrink x (a.1 * 2 ^ (x - a.2) + b.1 * 2 ^ (x - b.2), x)

/-- PORT_EST.E of a port: E(n) in whole flits, saturating (R224). -/
def showEst (s : State) (n : Nat) (e : Dyadic) : State := s.wri atBase Reg.Atlas.PORT_EST_E n (Nat.min (e.1 / 2 ^ e.2) 65535)

/-- What a Contour period gathers at each update (R218). -/
def gatherEst (s : State) (n : Nat) (e : Dyadic) : State :=
  if s.on atBase Reg.Atlas.CONTOUR_CFG_EN then
    let x := lookD s.route.contour n ContourPort.init
    let y := { x with sum := Dyadic.sum x.sum e, cnt := x.cnt + 1, max := if Dyadic.lt x.max e then e else x.max }
    { s with route := { s.route with contour := put s.route.contour n y } }
  else s

/-- The update of one port: a port that is being seeded is held (R197). -/
def estUpdate (s : State) (n : Nat) : State :=
  let e := if (look s.route.warmAt n).isSome then congEst s n
    else estStep (congEst s n) (congSample s n) (s.rd atBase Reg.Atlas.ATLAS_CFG_CONG_W)
  let s := { s with route := { s.route with est := if e.1 = 0 then del s.route.est n else put s.route.est n e } }
  gatherEst (showEst s n e) n e

/-- CONG_EST_TICK (R197). -/
def execCongEstTick (s : State) : Host.Outcome State Fault Refusal := .next ((List.range 96).foldl estUpdate s)

/-- WARMUP_END (R197): averaging goes on from the value held. -/
def execWarmupEnd (n : Fin 96) (s : State) : Host.Outcome State Fault Refusal :=
  if (look s.route.warmAt n.val).isSome then
    let e := congEst s n.val
    let s := showEst s n.val e
    let s := s.wri atBase Reg.Atlas.PORT_EST_WARMING n.val 0
    .next { s with route := { s.route with est := put s.route.est n.val e, warmAt := del s.route.warmAt n.val } }
  else .next s

/-! ### The management class (R203) -/

/-- FMGT_WAIT_TIMEOUT (R203): the waiting head is discarded and counted. -/
def execFmgtWaitTimeout (p : Fin 128) (vc : Fin 16) (s : State) : Host.Outcome State Fault Refusal :=
  let k := inKey p.val vc.val
  match look s.switch.cur k with
  | some c =>
    if c.phase = .waiting ∧ c.rh.vclass.toNat = clsFmgt then .next (discardWaiting (s.bump atBase Reg.Atlas.FMGT_DROP_CNT) k c)
    else .next s
  | none => .next s

/-- R93, R97 and R101 at core port 126: the packet is discarded, a stomped or malformed one counted in FMGT_DROP_CNT
(notes/assumptions/79.md), or goes on. A fenced management processor takes nothing (R50). -/
def mgmtRefused (s : State) (p : Packet) : Option State :=
  if unitOff s .mgmtProc then some s
  else if p.tr.stomp ≠ 0 then some (s.bump atBase Reg.Atlas.FMGT_DROP_CNT)
  else if !p.whole then some (recordError s (ErrRec.contained .mgmtProc .e2e 1 (2 ^ 24 * p.rh.dst.toNat + 126)))
  else if p.malformed then
    some (recordError (s.bump atBase Reg.Atlas.FMGT_DROP_CNT) (ErrRec.contained .mgmtProc .protocol 0 0))
  else none

/-- A copy of one of the last 64 FMGT packets taken from its source (R145; notes/assumptions/79.md). -/
def fmgtDup (s : State) (p : Packet) : Bool := (lookD s.mg.fmgtSeen p.rh.src.toNat []).contains p.th.psn.toNat

/-- An FMGT packet handed to the management processor; a copy is not. -/
def fmgtTake (s : State) (p : Packet) : State :=
  if fmgtDup s p then s
  else ({ s with mg := { s.mg with
    fmgtSeen := upd s.mg.fmgtSeen p.rh.src.toNat [] (fun l => (p.th.psn.toNat :: l).take 64) } }).emit (.fmgt p)

/-- FMGT_RECEIVE (R97, R101, R145, R203): the oldest packet at the management endpoint is checked, and goes to the management
processor or, when it cannot be taken, is discarded. -/
def execFmgtReceive (room : Bool) (s : State) : Host.Outcome State Fault Refusal :=
  if fatalStopped s then .next s else
  match lookD s.switch.inbox 126 [] with
  | [] => .next s
  | p :: rest =>
    if p.op = opTunnel then .next s
    else
      let s := { s with switch := { s.switch with inbox := put s.switch.inbox 126 rest } }
      match mgmtRefused s p with
      | some s => .next s
      | none => .next (if room then fmgtTake s p else s)

/-! ### Atlas tables (R185 to R187, R212) -/

/-- The fields of word `w` of an entry (R185). -/
def entryFields (w : Nat) : List Field := Reg.AtlasEnt.all.filter (fun f => f.off == 4 * w)

/-- A word of the entry at `b` written. -/
def putEntryWord (s : State) (b w x : Nat) : State :=
  (entryFields w).foldl (fun (t : State) (f : Field) => t.wr b f (x / 2 ^ f.lo)) s

/-- Words the route's latch holds of the entry at `b` (R186). -/
def latched (s : State) (r : Route) (b : Nat) : AMap Nat :=
  match look s.route.latch (routeIdx r) with
  | some (e, m) => if e = b then m else []
  | none => []

/-- A word of an entry held (R186). -/
def latchWord (s : State) (r : Route) (b w x : Nat) : State :=
  { s with route := { s.route with latch := put s.route.latch (routeIdx r) (b, put (latched s r b) w x) } }

/-- A stored word is written anew: what an upset did to it is gone (R188). -/
def mendWord (s : State) (off : Nat) : State := { s with route := { s.route with damaged := del s.route.damaged off } }

/-- An entry applied whole: the words held, and VALID of the word written (R186). -/
def applyEntry (s : State) (r : Route) (b x : Nat) : State :=
  mendWord (putEntryWord ((latched s r b).foldl (fun (t : State) (kv : Nat × Nat) => putEntryWord t b kv.1 kv.2) s) b 3 x) b

/-- ATLAS_ENTRY_WORD_WRITE (R186). -/
def execAtlasEntryWordWrite (r : Route) (v : Fin 2) (e : AtlasEntry) (w : Fin 3) (x : BitVec 32) (s : State) :
    Host.Outcome State Fault Refusal :=
  .next (guarded s r (entryBase v.val e + 4 * w.val) (fun t => latchWord t r (entryBase v.val e) w.val x.toNat))

/-- ATLAS_ENTRY_APPLY (R186). -/
def execAtlasEntryApply (r : Route) (v : Fin 2) (e : AtlasEntry) (x : BitVec 32) (s : State) :
    Host.Outcome State Fault Refusal :=
  .next (guarded s r (entryBase v.val e + 12) (fun t => applyEntry t r (entryBase v.val e) x.toNat))

/-- WAYPOINT_ENTRY_WRITE (R187). -/
def execWaypointEntryWrite (r : Route) (v : Fin 2) (i : Fin 256) (x : BitVec 32) (s : State) :
    Host.Outcome State Fault Refusal :=
  let b := atBase + 0x10000 * v.val + 4 * i.val
  .next (guarded s r (b + Reg.Atlas.WAYPOINT_ENTRY.off) (fun t =>
    mendWord (t.wr b Reg.Atlas.WAYPOINT_ENTRY (bits x.toNat 10 0 + 2 ^ 31 * bits x.toNat 31 31)) (waypointAt v.val i.val)))

/-- The Atlas counters cleared (R225). -/
def clearAtlas (s : State) : State :=
  s.clearAll atBase [Reg.Atlas.NOROUTE_CNT, Reg.Atlas.BUDGET_DROP_CNT, Reg.Atlas.HOPLIMIT_CNT, Reg.Atlas.NOT_READY_CNT,
    Reg.Atlas.FMGT_DROP_CNT, Reg.Atlas.FENCE_FULL_CNT, Reg.Atlas.FENCE_TMO_CNT, Reg.Atlas.REROUTE_CNT,
    Reg.Atlas.RAMBLE_CNT, Reg.Atlas.MISMATCH_CNT, Reg.Atlas.ECC_CORR_CNT]

/-- ATLAS_VALID_WRITE (R212): the word written to ATLAS_CTL. -/
def execAtlasValidWrite (r : Route) (x : BitVec 32) (s : State) : Host.Outcome State Fault Refusal :=
  .next (guarded s r (atBase + 0x40) (fun t =>
    let u := routingEvents t ((t.wr atBase Reg.Atlas.ATLAS_CTL_VALID0 (bits x.toNat 0 0)).wr atBase Reg.Atlas.ATLAS_CTL_VALID1
      (bits x.toNat 1 1))
    if bitOf x.toNat 8 then clearAtlas u else u))

/-- ATLAS_CNT_CLR (R225). -/
def execAtlasCntClr (r : Route) (s : State) : Host.Outcome State Fault Refusal :=
  .next (guarded s r (atBase + 0x40) clearAtlas)

/-! ### The fence store (R214, R216) -/

/-- FENCE_RELEASE (R214). -/
def execFenceRelease (ch : BitVec 20) (s : State) : Host.Outcome State Fault Refusal := .next (releaseAll s ch.toNat)

/-- FENCE_TIMEOUT (R216): the held packet is discarded and counted. -/
def execFenceTimeout (ch : BitVec 20) (psn : BitVec 24) (s : State) : Host.Outcome State Fault Refusal :=
  let mine := fun (h : FenceHeld) => h.channel == ch.toNat && h.pkt.th.psn == psn
  if s.route.fence.any mine then
    let s := setFence s (s.route.fence.filter (fun h => !(mine h)))
    .next ((s.bump atBase Reg.Atlas.FENCE_TMO_CNT).setEvt atBase Reg.Atlas.ATLAS_EVENT 6)
  else .next s

end Sys2Proof.Machine
end

