-- ==== Sys2Proof/Machine/HostPorts.lean ====
section
/-!
DEFINITION. Commands of the host-port family (spec/12_host_ports.md): links, configuration requests, the FM API, host memory
requests, far windows, downstream devices, claims, tunnel queues.
-/
namespace Sys2Proof.Machine

/-! ### Links (R408, R413, R418, R419) -/

/-- ATTACH_LINK_UP (R408, R434, R491): to a rate, width and protocol that the configuration permits. Of a link in UP it is the
end of a recovery, which only LINK_RECOVERIES shows (R525; notes/assumptions/81.md). -/
def execAttachLinkUp (a : Fin 64) (rate : BitVec 3) (width : BitVec 5) (cxl isSwitch : Bool) (s : State) :
    Host.Outcome State Fault Refusal :=
  let n := a.val
  let role := attRd s n Reg.Att.ATT_CFG_ROLE
  if linkUp s n then .next (cnt1 s (.hostMacro (idx 15 (n / 4))) 0x100)
  else if !s.boot.cfgApplied ∨ role = 0 ∨ 1 < attRd s n Reg.Att.ATT_STATE_LINK ∨ width.toNat = 0 ∨ attLanes s n < width.toNat ∨
      s.rd (macBase (n / 4)) Reg.Mac.MAC_CFG_MAX_RATE < rate.toNat ∨ 5 < rate.toNat ∨ (cxl ∧ rate.toNat < 2) ∨
      !([1, 2, 4, 8, 16].contains width.toNat) ∨ (s.att n).perst ∨ unitOff s (.attachment a) then .next s
  else
    let b := attBase n
    let s := (((s.wr b Reg.Att.ATT_STATE_LINK 2).wr b Reg.Att.ATT_STATE_RATE rate.toNat).wr b Reg.Att.ATT_STATE_WIDTH
      width.toNat).wr b Reg.Att.ATT_STATE_CXL (b2n cxl)
    let x := s.att n
    let bad := isSwitch && role == 2
    let s := s.setAtt n { x with unusable := bad, barLog := attRd s n Reg.Att.FAR_BAR_LOG }
    let s := attEvent (deviceEvent s 0x17 [n, width.toNat + 2 ^ 8 * rate.toNat, 0, 0]) n 1
    let s := if bad then attEvent s n 7 else s
    .next (if role = 1 ∧ cxl ∧ !(s.mesh.recover.any (fun r => r.1 == n)) then setDead s n false else s)

/-- ATTACH_DOWN (R419). -/
def execAttachDown (a : Fin 64) (s : State) : Host.Outcome State Fault Refusal :=
  .next (if attUp s a.val then fencing s (attachGoesDown s a.val 0) else s)

/-- DOWNSTREAM_LINK_DOWN (R411, R418): unrequested, it is contained; one that an unbind waits for is not. -/
def execDownstreamLinkDown (a : Fin 64) (s : State) : Host.Outcome State Fault Refusal :=
  if !(isDown s a.val) || !(linkUp s a.val) then .next s
  else if (isBound s a.val || isOwned s a.val) && (s.att a.val).unbind.isNone then .next (contain s a.val)
  else .next (attEvent (linkGone s a.val 0) a.val 0)

/-- log2 of the size of a BAR of the NIC's physical function, by its first register (R412): BAR0, BAR2, BAR4. -/
def barLog2 (s : State) (a : Nat) (i : Nat) : Nat :=
  if i = 0 then 28 else if i = 2 then 18 else if i = 4 then (s.att a).barLog else 0

/-- A 64-bit non-prefetchable memory BAR of 2^log bytes: its low or high word, as the host has written it (R37, R412). -/
def barWord (m : AMap Nat) (log i : Nat) : Nat :=
  let v := lookD m (i / 2 * 2) 0 + 2 ^ 32 * lookD m (i / 2 * 2 + 1) 0
  let v := v / 2 ^ log * 2 ^ log
  if log = 0 then 0 else if i % 2 = 0 then v % 2 ^ 32 + 4 else v / 2 ^ 32

/-- What a register of configuration space reads, where the manual says it (R412 to R416); VFs give no IDs and no BARs of their
own, as PCIe 6.0 has it. -/
def cfgReg (s : State) (a : Nat) (d : CfgDev) (r : CfgReg) : Option Nat :=
  let x := s.att a
  let nic := 0x020800 * 256 + Config.nicRevision.toNat
  match d, r with
  | .nic, .ids => some (0x9600 * 2 ^ 16 + Config.pciVendor.toNat)
  | .nic, .classRev => some nic
  | .nic, .bar i => some (barWord x.bars (barLog2 s a (i.val / 2 * 2)) i.val)
  | .nic, .vfBar i => some (barWord x.vfBars (if i.val / 2 = 1 then 18 else 0) i.val)
  | .nic, .totalVfs => some (attRd s a Reg.Att.VF_MAX)
  | .nic, .numVfs => some x.numVfs
  | .nic, .firstVfOffset => some 1
  | .nic, .vfStride => some 1
  | .nic, .cacheEnable => some (b2n x.cacheEn)
  | .nic, .completionTimeout => some x.cplTmo
  | .vf _, .ids => some (2 ^ 32 - 1)
  | .vf _, .classRev => some nic
  | .vf _, .bar _ => some 0
  | .pool, .classRev => some (0x050210 * 256 + s.drawn 8)
  | _, _ => none

/-- A read of configuration space is answered; a register that the manual does not describe reads an open value. -/
def cfgRead (s : State) (a : Nat) (d : CfgDev) (r : CfgReg) : State :=
  s.spend.emit (.cfgData a d r (BitVec.ofNat 32 ((cfgReg s a d r).getD (s.drawn 32))))

/-- The request names a function that there is: a VF that NumVFs enables. -/
def cfgThere (s : State) (a : Nat) (q : CfgReq) : Bool :=
  match q with
  | .read (.vf i) _ => i.val < (s.att a).numVfs
  | _ => true

/-- HOST_CONFIG_REQUEST (R412 to R415). -/
def execHostConfigRequest (a : Fin 64) (q : CfgReq) (s : State) : Host.Outcome State Fault Refusal :=
  let n := a.val
  if !(attUp s n) then .next s
  else
    let s := cnt1 s (.attachment a) 0x100
    if fatalStopped s then .next (s.emit (.cfgUnsupported n q))
    else if s.on (attBase n) Reg.Att.ATT_STATE_HOST_READY && !(cfgThere s n q) then .next (s.emit (.cfgUnsupported n q))
    else if !(s.on (attBase n) Reg.Att.ATT_STATE_HOST_READY) then
      .next (cnt1 (cnt1 (s.emit (.cfgDone n q true)) (.attachment a) 0x107) (.attachment a) 0x101)
    else
      let x := s.att n
      let s := match q with
        | .read d r => cfgRead s n d r
        | .other => s
        | .bar i v => s.setAtt n { x with bars := put x.bars i.val v.toNat }
        | .vfBar i v => s.setAtt n { x with vfBars := put x.vfBars i.val v.toNat }
        | .numVfs k => if k.toNat ≤ attRd s n Reg.Att.VF_MAX then s.setAtt n { x with numVfs := k.toNat } else s
        | .cacheEnable b => s.setAtt n { x with cacheEn := b }
        | .completionTimeout v => s.setAtt n { x with cplTmo := v.toNat }
        | .msix f on mask =>
          if attOfFn s f.val = some n then msixReleaseAll (s.setFn f.val { s.fn f.val with msixOn := on, msixMask := mask }) f.val
          else s
      .next (cnt1 (s.emit (.cfgDone n q false)) (.attachment a) 0x101)

/-- HOST_READY (R413, R585): configuration loaded, every slice in service mode, not held by the recovery image or a failed test;
then fabric ports with AUTO begin bring-up (step 9). -/
def execHostReady (s : State) : Host.Outcome State Fault Refusal :=
  if !s.boot.cfgApplied || fatalStopped s || s.on (base .flask) Reg.Flk.BANK_STATUS_RECOVERY || s.boot.bctFailed ||
      (List.range 48).any (fun i => sliceMode s i != 0) then .next s
  else .next (autoStartAll ((List.range 64).foldl (fun t a =>
    if attRd t a Reg.Att.ATT_CFG_ROLE = 1 then t.wr (attBase a) Reg.Att.ATT_STATE_HOST_READY 1 else t) s))

/-- DPC_TRIGGER_CLEAR (R418). -/
def execDpcTriggerClear (a : Fin 64) (s : State) : Host.Outcome State Fault Refusal :=
  .next (if (s.att a.val).dpc then release s a.val else s)

/-- DPC_RELEASE (R418). -/
def execDpcRelease (r : Route) (a : Fin 64) (s : State) : Host.Outcome State Fault Refusal :=
  .next (guarded s r (attBase a.val + 0x64) (fun t => if isOwned t a.val then release t a.val else t))

/-- ATTACH_CNT_CLR (R436). -/
def execAttachCntClr (r : Route) (a : Fin 64) (s : State) : Host.Outcome State Fault Refusal :=
  .next (guarded s r (attBase a.val + 0x64) (fun t => t.clearAll (attBase a.val) [Reg.Att.FAR_READ_CNT, Reg.Att.FAR_WRITE_CNT,
    Reg.Att.FAR_TMO_CNT, Reg.Att.FAR_LATE_CNT, Reg.Att.FAR_UR_CNT, Reg.Att.FAR_DROP_CNT, Reg.Att.TUN_TX_CNT,
    Reg.Att.TUN_RX_CNT, Reg.Att.TUN_DROP_CNT, Reg.Att.UNALLOC_CNT]))

/-! ### The FM API (R409, R411, R559) -/

/-- IDENTIFY_SWITCH_DEVICE. -/
def execIdentifySwitchDevice (s : State) : Host.Outcome State Fault Refusal := .next (answerFm s .identifySwitch)

/-- GET_PHYSICAL_PORT_STATE. -/
def execGetPhysicalPortState (ports : List (Fin 64)) (s : State) : Host.Outcome State Fault Refusal :=
  .next (answerFm s (.getPortState (ports.map Fin.val)))

/-- PHYSICAL_PORT_CONTROL. -/
def execPhysicalPortControl (a : Fin 64) (op : PortControl) (s : State) : Host.Outcome State Fault Refusal :=
  .next (answerFm s (.portControl a op))

/-- SEND_PPB_CONFIG_REQUEST. -/
def execSendPpbConfigRequest (a : Fin 64) (reg : BitVec 12) (write : Option (BitVec 32)) (s : State) :
    Host.Outcome State Fault Refusal := .next (answerFm s (.ppbConfig a reg 15 write))

/-- GET_VIRTUAL_CXL_SWITCH_INFO. -/
def execGetVirtualCxlSwitchInfo (u : Fin 64) (s : State) : Host.Outcome State Fault Refusal := 
  .next (answerFm s (.getVcsInfo 0 18 [u.val]))

/-- BIND_VPPB (R411). -/
def execBindVppb (u : Fin 64) (v : Fin 18) (a : Fin 64) (s : State) : Host.Outcome State Fault Refusal :=
  .next (answerFm s (.bind u v a))

/-- UNBIND_VPPB (R411). -/
def execUnbindVppb (u : Fin 64) (v : Fin 18) (option : Fin 3) (s : State) : Host.Outcome State Fault Refusal :=
  .next (answerFm s (.unbind u v option))

/-- UNBIND_COMPLETE (R411): the host has taken the link down or turned the slot off. -/
def execUnbindComplete (a : Fin 64) (s : State) : Host.Outcome State Fault Refusal :=
  .next (if (s.att a.val).unbind.isSome then unbound (if linkUp s a.val then linkGone s a.val 0 else s) a.val else s)

/-- GENERATE_AER_EVENT. -/
def execGenerateAerEvent (u : Fin 64) (v : Fin 18) (error : BitVec 32) (s : State) : Host.Outcome State Fault Refusal :=
  .next (answerFm s (.aer u v error))

/-- BACKGROUND_OPERATION_STATUS (R559). -/
def execBackgroundOperationStatus (s : State) : Host.Outcome State Fault Refusal := .next (answerFm s .backgroundStatus)

/-- INITIATE_DYNAMIC_CAPACITY_ADD (R446). -/
def execInitiateDynamicCapacityAdd (u : Fin 64) (e : Fin 131072) (tag : BitVec 128) (s : State) : Host.Outcome State Fault Refusal :=
  .next (answerFm s (.dcAdd u [e] tag))

/-- FORCED_DC_REMOVAL (R448). -/
def execForcedDcRemoval (u : Fin 64) (e : Fin 131072) (s : State) : Host.Outcome State Fault Refusal :=
  .next (answerFm s (.dcForcedRemoval u [e]))

/-- ADD_DC_RESPONSE (R447). -/
def execAddDcResponse (u : Fin 64) (e : Fin 131072) (accept : Bool) (s : State) : Host.Outcome State Fault Refusal :=
  .next (dcAnswer s u.val e.val accept)

/-- DC_RESP_TIMEOUT (R447): as if the host had rejected. -/
def execDcRespTimeout (u : Fin 64) (e : Fin 131072) (s : State) : Host.Outcome State Fault Refusal :=
  .next (dcAnswer s u.val e.val false)

/-- DC_RELEASE_RESPONSE (R417, R448). -/
def execDcReleaseResponse (u : Fin 64) (e : Fin 131072) (s : State) : Host.Outcome State Fault Refusal :=
  .next (dcRemove s u.val e.val).2

/-! ### Host memory requests (R417, R472) -/

/-- Sixty-four bytes that the manual leaves open. -/
def openLine (s : State) : List Byte := leBytes (s.drawn 512) 64

/-- A request for a line that the host does not hold a grant for (R417, R448). -/
def unallocated (s : State) (u line : Nat) (q : HostMem) : State :=
  let failed := lineFailed s line
  let count := fun (t : State) => t.bump (attBase u) Reg.Att.UNALLOC_CNT
  let read := fun (k : HomeKind) => (count s).spend.emit (.hostAnswer u line k (some (openLine s)) true)
  match q with
  | .readS => read .rdShared
  | .readA => read .rdOwn
  | .readNoOp => read .rdNoAlloc
  | .evict => s.emit (.hostCmp u line)
  | .writeBack _ _ => (if failed then s.bump poolBase Reg.Pool.LOST_WB_CNT else count s).emit (.hostCmp u line)
  | .writePart _ _ _ => (count s).emit (.hostCmp u line)

/-- A host's request to an attachment that a fatal stop contains (R609): reads return poison, writes are discarded. -/
def contained (s : State) (u line : Nat) (q : HostMem) : State :=
  let read := fun (k : HomeKind) => s.spend.emit (.hostAnswer u line k (some (openLine s)) true)
  match q with
  | .readS => read .rdShared
  | .readA => read .rdOwn
  | .readNoOp => read .rdNoAlloc
  | .evict | .writeBack _ _ | .writePart _ _ _ => s.emit (.hostCmp u line)

/-- HOST_MEM_REQUEST (R417, R444, R472): a writeback of a line that the snoop filter names the host for is always taken. -/
def execHostMemRequest (u : Fin 64) (line : BitVec 46) (q : HostMem) (s : State) : Host.Outcome State Fault Refusal :=
  let n := u.val
  let l := line.toNat
  let e := extentOf (64 * l)
  if !(attUp s n) || !(s.on (attBase n) Reg.Att.ATT_STATE_CXL) || isDead s n then .next s
  else
    let mine := (holders s l).contains n
    let wr := match q with | .evict => mine | .writeBack _ _ => mine | _ => false
    if fatalStopped s then .next (contained s n l q)
    else if !(hostAdmitted s n e) && !wr then .next (unallocated s n l q)
    else
      let count := fun (t : State) (code : Nat) =>
        countEv t (.attachment u) { code := code, inc := 1, priv := none, master := none, addr := some (64 * l), cls := none }
      let ask := fun (t : State) (k : HomeKind) (off : Nat) (b : List Byte) (bad : Bool) =>
        askHome t { kind := k, asker := .agent n, line := l, off := off, bytes := b, bad := bad, group := 0, seg := 0, tag := none,
                    since := 0, held := false }
      let back := fun (t : State) (k : WbKind) (d : List Byte) (bad : Bool) =>
        { t with mesh := { t.mesh with wbs := t.mesh.wbs ++ [{ kind := k, agent := n, line := l, data := d, bad := bad }] } }
      match q with
      | .readS => .next (ask (count s 0x102) .rdShared 0 [] false)
      | .readA => .next (ask (count s 0x102) .rdOwn 0 [] false)
      | .readNoOp => .next (ask (count s 0x102) .rdNoAlloc 0 (List.replicate 64 0) false)
      | .evict => .next (back s .evict [] false)
      | .writeBack d bad => .next (back (count s 0x103) .wbMod (d.take 64) bad)
      | .writePart off b bad => .next (ask (count s 0x103) .wrNoAlloc off.val (b.take (64 - off.val)) bad)

/-! ### Far windows (R420 to R425) -/

/-- A field of window `w` of attachment `a`. -/
def winRd (s : State) (a w : Nat) (f : Field) : Nat := s.rd (attBase a + 32 * w) f

/-- BASE of a window. -/
def winAt (s : State) (a w : Nat) : Nat := s.rd64 (attBase a + 32 * w) Reg.FarWin.BASE_LO Reg.FarWin.BASE_HI

/-- The VALID window that an access of `n` bytes falls in, with the right it needs (R420). -/
def winOf (s : State) (a off n : Nat) (right : Field) : Option Nat :=
  if (s.att a).barLog = 0 then none
  else (List.range 16).find? (fun w => winRd s a w Reg.FarWin.VALID == 1 && winRd s a w right == 1 && winAt s a w ≤ off &&
    off + n ≤ winAt s a w + 2 ^ winRd s a w Reg.FarWin.LOG_SIZE)

/-- The version that INJ_EPOCH names is valid (R212, R423). -/
def epochReady (s : State) : Bool := mayOriginate s

/-- FAR_WINDOW_READ (R421, R423): held, ended at once, or turned away while FAR_READ_MAX are held. -/
def execFarWindowRead (a : Fin 64) (off : BitVec 44) (n : BitVec 13) (req : BitVec 16) (s : State) :
    Host.Outcome State Fault Refusal :=
  let k := a.val
  let x := s.att k
  if !(attUp s k) || n.toNat == 0 || attRd s k Reg.Att.FAR_READ_MAX ≤ x.far.length then .next s
  else
    let s := cnt1 s (.attachment a) 0x100
    if fatalStopped s then .next (s.emit (.farDone k req.toNat .unsupported))
    else match winOf s k off.toNat n.toNat Reg.FarWin.RD_EN with
    | none => .next ((s.bump (attBase k) Reg.Att.FAR_UR_CNT).emit (.farDone k req.toNat .unsupported))
    | some w =>
      let s := cntCM (s.bump (attBase k) Reg.Att.FAR_READ_CNT) (.attachment a) 0x105 1 none (some w)
      if !(epochReady s) then .next (s.emit (.farDone k req.toNat .completerAbort))
      else
        let ch := winRd s k w Reg.FarWin.CHANNEL
        let id := x.farSeq + 1
        let r : FarRead := { id := id, req := req.toNat, w := w, off := off.toNat, len := n.toNat, ch := ch, got := [], bad := false,
                             since := s.now }
        let q : FarAcc := { id := id, w := w, off := off.toNat, ch := ch, bytes := none, n := n.toNat }
        let s := s.setAtt k { x with far := x.far ++ [r], farSeq := id, farQ := x.farQ ++ [q] }
        .next (tpEnd s (clusterOf ch))

/-- FAR_WINDOW_WRITE (R421 to R423). -/
def execFarWindowWrite (a : Fin 64) (off : BitVec 44) (bytes : List Byte) (s : State) : Host.Outcome State Fault Refusal :=
  let k := a.val
  if !(attUp s k) || bytes.isEmpty then .next s
  else
    let s := cnt1 s (.attachment a) 0x100
    if fatalStopped s then .next s
    else match winOf s k off.toNat bytes.length Reg.FarWin.WR_EN with
    | none => .next (s.bump (attBase k) Reg.Att.FAR_UR_CNT)
    | some w =>
      let s := s.bump (attBase k) Reg.Att.FAR_WRITE_CNT
      if !(epochReady s) then .next (s.bump (attBase k) Reg.Att.FAR_DROP_CNT)
      else
        let ch := winRd s k w Reg.FarWin.CHANNEL
        let x := s.att k
        let q : FarAcc := { id := 0, w := w, off := off.toNat, ch := ch, bytes := some bytes, n := bytes.length }
        .next (tpEnd (s.setAtt k { x with farQ := x.farQ ++ [q] }) (clusterOf ch))

/-- FAR_READ_COMPLETE (R423): every READ_RSP is in. -/
def execFarReadComplete (a : Fin 64) (req : BitVec 16) (s : State) : Host.Outcome State Fault Refusal :=
  let k := a.val
  match (s.att k).far.find? (fun q => q.req == req.toNat) with
  | none => .next s
  | some q =>
    let b := q.got.flatMap (fun kv => kv.2)
    if b.length ≠ q.len then .next s
    else
      let s := cntCM s (.attachment a) 0x106 (s.now - q.since) none (some q.w)
      .next (cnt1 (farEnd s k q.id (.data b q.bad)) (.attachment a) 0x101)

/-- FAR_READ_TIMEOUT (R423 to R425, R434). -/
def execFarReadTimeout (a : Fin 64) (req : BitVec 16) (s : State) : Host.Outcome State Fault Refusal :=
  let k := a.val
  match (s.att k).far.find? (fun q => q.req == req.toNat) with
  | none => .next s
  | some q =>
    let first := ((s.chanAny q.ch).bind (fun x => x.jobs.find? (fun j => match j.src with
      | .far b _ i _ => b == k && i == q.id && j.op == opReadReq
      | _ => false))).map Job.firstPsn
    let s := (s.bump (attBase k) Reg.Att.FAR_TMO_CNT)
    let s := attEvent (farKill (farEnd s k q.id .completerAbort) k q.ch q.id) k 3
    if within s (look (s.att k).tmoAt q.w) 1000000 then .next (tpEnd s (clusterOf q.ch))
    else
      let x := s.att k
      let s := s.setAtt k { x with tmoAt := put x.tmoAt q.w s.now }
      .next (tpEnd (raiseEvent s k 0x48 [q.w, first.getD 0, q.off % 2 ^ 32, q.off / 2 ^ 32]) (clusterOf q.ch))

/-- Setting VALID of window `w` is refused (R420). -/
def winBad (s : State) (a w log : Nat) : Bool :=
  let ch := winRd s a w Reg.FarWin.CHANNEL
  let b := winAt s a w
  isSr ch || ch < fnRd s a Reg.FnTab.FN_CHAN_FIRST || fnRd s a Reg.FnTab.FN_CHAN_FIRST + fnRd s a Reg.FnTab.FN_CHAN_COUNT ≤ ch ||
  log < 12 || attRd s a Reg.Att.FAR_BAR_LOG < log || b % 2 ^ log != 0 ||
  (List.range 16).any (fun v => v != w && winRd s a v Reg.FarWin.VALID == 1 &&
    overlaps b (2 ^ log) (winAt s a v) (2 ^ winRd s a v Reg.FarWin.LOG_SIZE))

/-- FAR_WIN_VALID_WRITE (R420): while VALID is 1, only its clearing is taken. -/
def execFarWinValidWrite (r : Route) (a : Fin 64) (w : Fin 16) (x : BitVec 32) (s : State) : Host.Outcome State Fault Refusal :=
  let b := attBase a.val + 32 * w.val
  .next (guarded s r (b + 0x100) (fun s =>
    let v := x.toNat
    if s.on b Reg.FarWin.VALID then (if bitOf v 0 then s else s.wr b Reg.FarWin.VALID 0)
    else
      let s := (s.wr b Reg.FarWin.RD_EN (v / 2)).wr b Reg.FarWin.WR_EN (v / 4)
      let log := bits v 13 8
      let good := 12 ≤ log && log ≤ 44
      let s := if good then s.wr b Reg.FarWin.LOG_SIZE log else configError s (.attachment a)
      if !(bitOf v 0) then s
      else if winBad s a.val w.val (s.rd b Reg.FarWin.LOG_SIZE) || !good then configError s (.attachment a)
      else s.wr b Reg.FarWin.VALID 1))

/-! ### Downstream devices (R418, R426 to R428) -/

/-- DOWNSTREAM_MESSAGE (R426 to R428): after every earlier write is visible. -/
def execDownstreamMessage (a : Fin 64) (m : DownMsg) (s : State) : Host.Outcome State Fault Refusal :=
  let k := a.val
  let x := s.att k
  if isDown s k && linkUp s k && !x.unusable && (isBound s k || isOwned s k) then
    .next (pumpMsgs (s.setAtt k { x with msgs := x.msgs ++ [(x.wseq, m)] }) k)
  else .next s

/-- Every extent that `n` bytes at `da` touch satisfies `p`. -/
def allExtents (s : State) (da n : Nat) (p : ExtSt → Bool) : Bool :=
  0 < n && (List.range (extentOf (da + n - 1) + 1 - extentOf da)).all (fun i => ((s.ext (extentOf da + i)).map p).getD false)

/-- The bytes of a device's request. -/
def devLen : DevReq → Nat
  | .read _ n => n.toNat
  | .write b _ => b.length

/-- The tag of a device's request, 0 for a posted write. -/
def devTag : DevReq → Nat
  | .read t _ => t.toNat
  | .write _ _ => 0

/-- A device's request at an attachment that a fatal stop contains (R609). -/
def devContained (s : State) (k : Nat) (q : DevReq) : State :=
  match q with
  | .read t _ => s.emit (.deviceDone k t.toNat .unsupported)
  | .write _ _ => s

/-- OWNED_DEVICE_REQUEST (R428): only extents whose owner is DEVICE. -/
def execOwnedDeviceRequest (a : Fin 64) (da : BitVec 52) (q : DevReq) (s : State) : Host.Outcome State Fault Refusal :=
  let k := a.val
  if !(isOwned s k) || !(linkUp s k) || (s.att k).unusable then .next s
  else if fatalStopped s then .next (devContained s k q)
  else if allExtents s da.toNat (devLen q) (fun x => x.owner == .device && x.open_) then .next (devPool s k da.toNat q)
  else .next (s.emit (.deviceDone k (devTag q) .unsupported))

/-- BOUND_DEVICE_REQUEST (R418): forwarded, or as containment says. -/
def execBoundDeviceRequest (a : Fin 64) (q : HostDevReq) (s : State) : Host.Outcome State Fault Refusal :=
  let k := a.val
  if !(isBound s k) then .next s
  else .next (s.emit (.toDevice k q (if linkUp s k && !(fatalStopped s) then .forwarded else match q with
    | .nonPosted => .unsupported
    | .posted => .discarded
    | .memRead => .poisoned
    | .memWrite => .discarded)))

/-- DOWNSTREAM_DEVICE_REQUEST (R427): to host memory, or to the pool as the host itself may reach it. -/
def execDownstreamDeviceRequest (a : Fin 64) (d : DevDest) (q : DevReq) (s : State) : Host.Outcome State Fault Refusal :=
  let k := a.val
  let u := attRd s k Reg.Att.BIND_VCS
  if !(isBound s k) || !(linkUp s k) || (s.att k).unusable then .next s
  else if fatalStopped s then .next (devContained s k q)
  else match d with
    | .host addr => .next (match q with
      | .read _ n => s.emit (.memRead u addr.toNat n.toNat)
      | .write b _ => s.emit (.memWrite u addr.toNat b))
    | .pool da =>
      let l := devLen q
      let good := 0 < l && (List.range (extentOf (da.toNat + l - 1) + 1 - extentOf da.toNat)).all (fun i =>
        hostAdmitted s u (extentOf da.toNat + i))
      if good then .next (devPool s k da.toNat q)
      else
        let s := s.bump (attBase u) Reg.Att.UNALLOC_CNT
        match q with
        | .read t n => .next (s.spend.emit (.deviceDone k t.toNat (.data (leBytes (s.drawn (8 * n.toNat)) n.toNat) true)))
        | .write _ _ => .next s

/-! ### Claims (R429, R456) -/

/-- Extents of entry `k` of attachment `a`: first and count. -/
def claimRange (s : State) (a k : Nat) : Nat × Nat :=
  (s.rd (attBase a + 16 * k) Reg.Claim.EXT_FIRST, s.rd (attBase a + 16 * k) Reg.Claim.EXT_COUNT)

/-- Setting VALID of a claim entry is refused (R429). -/
def claimBad (s : State) (a k count : Nat) (fits : Bool) : Bool :=
  let first := (claimRange s a k).1
  !(isOwned s a) || !(linkUp s a) || !fits || first < 65536 || 131072 < first + count || count == 0 ||
  s.rd64 (attBase a + 16 * k) Reg.Claim.DPA_BASE_LO Reg.Claim.DPA_BASE_HI % 2 ^ 28 != 0 ||
  (List.range 64).any (fun b => (List.range 8).any (fun j => !(b == a && j == k) &&
    s.on (attBase b + 16 * j) Reg.Claim.VALID && overlaps first count (claimRange s b j).1 (claimRange s b j).2))

/-- A claimed extent leaves the pool. -/
def unclaim (s : State) (e : Nat) : State :=
  { s with pool := { s.pool with exts := del s.pool.exts e, san := s.pool.san.map (fun kv => (kv.1, kv.2.erase e)) } }

/-- CLAIM_VALID_WRITE (R429, R456). -/
def execClaimValidWrite (r : Route) (a : Fin 64) (k : Fin 8) (x : BitVec 32) (fits : Bool) (s : State) :
    Host.Outcome State Fault Refusal :=
  let b := attBase a.val + 16 * k.val
  let count := x.toNat % 2 ^ 17
  .next (guarded s r (b + 0x50C) (fun s =>
    if s.on b Reg.Claim.VALID then
      if bitOf x.toNat 31 then s
      else
        let c := claimRange s a.val k.val
        let es := (List.range c.2).map (c.1 + ·)
        if es.all (fun e => ((s.ext e).map (fun y => y.owner == .free && y.xstate != .offered && y.xstate != .releasing)).getD true) then
          es.foldl unclaim (s.wr b Reg.Claim.VALID 0)
        else configError s (.attachment a)
    else
      let good := 1 ≤ count && count ≤ 65536
      let s := if good then s.wr b Reg.Claim.EXT_COUNT count else configError s (.attachment a)
      if !(bitOf x.toNat 31) then s
      else if !good || claimBad s a.val k.val count fits then configError s (.attachment a)
      else
        let c := claimRange s a.val k.val
        let dpa := s.rd64 b Reg.Claim.DPA_BASE_LO Reg.Claim.DPA_BASE_HI
        ((List.range c.2).map (c.1 + ·)).foldl (fun t e => queueSanitize (t.setExt e ExtSt.init) e)
          ((s.wr b Reg.Claim.VALID 1).emit (.claimDecoder a.val k.val dpa c.1 c.2))))

/-! ### Tunnel queues (R432, R433) -/

/-- A frame for attachment `a` is dropped and counted (R432). -/
def tunDrop (s : State) (a : Nat) : State := attEvent (s.bump (attBase a) Reg.Att.TUN_DROP_CNT) a 5

/-- The MAC of entry `k` of attachment `a`, byte 0 first. -/
def tunMac (s : State) (a k : Nat) : List Nat :=
  be4 (s.rdi (attBase a) Reg.Att.TUN_MAC_LO k) ++ (be4 (s.rdi (attBase a) Reg.Att.TUN_MAC_HI k)).drop 2

/-- The function that a frame goes to (R432). -/
def tunFn (s : State) (a : Nat) (frame : List Byte) : Nat :=
  let dst := (frame.take 6).map BitVec.toNat
  let one := (List.range 16).find? (fun k => s.rdi (attBase a) Reg.Att.TUN_MAC_VALID k == 1 && tunMac s a k == dst)
  match one with
  | some k => if dst.headD 0 % 2 = 1 then attRd s a Reg.Att.TUN_FUNC else s.rdi (attBase a) Reg.Att.TUN_MAC_FUNC k
  | none => attRd s a Reg.Att.TUN_FUNC

/-- A frame at attachment `a`: `none` while it waits for a translation or for a slot of its CQ. -/
def tunDeliver (s : State) (a : Nat) (p : Packet) (frag : Option (List Byte)) : Option State :=
  let f := tunFn s a p.payload
  let b := bar2 f
  let g := cqNo s f (s.rd b Reg.Trq.TRQ_CFG_CQ)
  let ci := s.rd b Reg.Trq.TRQ_CI
  if attRd s a Reg.Att.TUN_EN = 0 ∨ !(s.on b Reg.Trq.TRQ_CFG_EN) ∨ !(fnReady s f) ∨ ci = s.rd b Reg.Trq.TRQ_PI then some (tunDrop s a)
  else match s.cqAt g with
    | none => some (tunDrop s a)
    | some q =>
      if !(cqRoom s q 1) then none
      else match xlate s f (s.rd64 b Reg.Trq.TRQ_BASE_LO Reg.Trq.TRQ_BASE_HI + 16 * (ci % 2 ^ s.rd b Reg.Trq.TRQ_CFG_LOG_SIZE)) 16
          (accLocal false) with
        | (.wait, _) => none
        | (.fault, s) => some (tunDrop s a)
        | (.ok l, s) =>
          if gatherBad s l || (frag.isNone && outside l) then some (tunDrop s a)
          else
            let d := fragAt (gather s l (frag.getD [])) 0
            let n := p.frameLen
            if d.len < n then some (tunDrop s a)
            else match fragChunks s f rLWrite (fun k => accKey true false true k) [{ d with len := n }] [] with
              | (.wait, _) => none
              | (.ok c, s) =>
                let s := scatterPayload s c (p.payload.take n)
                let s := cqReserve ((s.wr b Reg.Trq.TRQ_CI (ci + 1)).bump (attBase a) Reg.Att.TUN_RX_CNT) g 1
                some (cqPut s g 0 (cqe [cqeWord0 0 0x06 true false, 0, ci, 0, p.rh.src.toNat + 2 ^ 24 * b2n p.rh.mc, 0, n, 0]))
              | (_, s) => some (tunDrop s a)

/-- A translation that a waiting frame needs is asked for, and the frame stays. -/
def tunWait (s : State) (a : Nat) (p : Packet) : State :=
  let f := tunFn s a p.payload
  let b := bar2 f
  match xlate s f (s.rd64 b Reg.Trq.TRQ_BASE_LO Reg.Trq.TRQ_BASE_HI + 16 * (s.rd b Reg.Trq.TRQ_CI % 2 ^ s.rd b Reg.Trq.TRQ_CFG_LOG_SIZE)) 16
      (accLocal false) with
  | (.ok l, s) => (fragChunks s f rLWrite (fun k => accKey true false true k) [{ fragAt (gather s l []) 0 with len := p.frameLen }] []).2
  | (_, s) => s

/-- TUNNEL_RECEIVE (R31, R97, R432, R433). -/
def execTunnelReceive (p : Fin 128) (frag : Option (List Byte)) (s : State) : Host.Outcome State Fault Refusal :=
  if fatalStopped s then .next s else
  let o := p.val
  let toAtt := (lookD s.switch.mcTo o []).head?
  if o = 126 then
    match takeInbox s [126] (fun x => x.op == opTunnel) with
    | none => .next s
    | some (x, s) =>
      match mgmtRefused s x with
      | some s => .next s
      | none => .next (s.emit (.toMgmt x))
  else if o < 112 ∨ 124 ≤ o then .next s
  else
    let c := (o - 112) / 3
    match takeInbox s [o] (fun x => x.op == opTunnel) with
    | none => .next s
    | some (x, t) => match arriveGood t c x with
      | some t => .next t
      | none =>
        let dest := if x.rh.mc then toAtt else if x.endpoint < 64 then some x.endpoint else none
        match dest with
        | none => .next (recordError (t.bump (clusterBase c) Reg.Tc.MALFORMED_CNT) (ErrRec.contained (.cluster (idx 3 c)) .protocol 0 0))
        | some a => match tunDeliver t a x frag with
          | some t => .next (tpSyncAll t)
          | none => .next (tunWait s a x)

/-- TRQ_DOORBELL (R278, R433). -/
def execTrqDoorbell (f : Fin 1024) (v : BitVec 32) (s : State) : Host.Outcome State Fault Refusal :=
  if fatalStopped s then .next s else
  let b := bar2 f.val
  if !(fnReady s f.val) || !(s.on b Reg.Trq.TRQ_CFG_EN) then .next s
  else if indexGood v.toNat (s.rd b Reg.Trq.TRQ_CI) (s.rd b Reg.Trq.TRQ_PI) (s.rd b Reg.Trq.TRQ_CFG_LOG_SIZE) then
    .next (s.wr b Reg.Trq.TRQ_PI v.toNat)
  else .next (badIndex s f.val (countEngine f.val) 0 v.toNat false)

end Sys2Proof.Machine
end

