-- ==== Sys2Proof/Machine/Link.lean ====
section
/-!
DEFINITION. The commands of the Cicen link (spec/04_cicen_link.md): blocks sent and received, replay, credits and audit,
lane faults, bring-up and training, LINK_DOWN, timebase exchanges, port control writes.
-/
namespace Sys2Proof.Machine

/-! ### Blocks (R113 to R117) -/

/-- Bytes 0x000 to 0x40B of a block, in wire order (R113, R114). -/
def blockBytes (b : LinkBlock) : List Nat :=
  b.slots.flatMap flitBytes ++
  be4 (b.seq.toNat * 2 ^ 20 + b.ack.toNat * 2 ^ 8 + b2n b.ctl * 2 ^ 7 + b.ndata.toNat * 4 + b.rsv.toNat) ++
  be4 (b.tail.toNat * 2 ^ 16 + b.split.toNat * 2 ^ 12 + b.vcA.toNat * 2 ^ 8 + b.vcB.toNat * 2 ^ 4 + b.audVc.toNat) ++
  be4 (b.cr0Vc.toNat * 2 ^ 28 + b.cr0Cnt.toNat * 2 ^ 22 + b.cr1Vc.toNat * 2 ^ 18 + b.cr1Cnt.toNat * 2 ^ 12 + b.audCa.toNat)

/-- LINK_CRC of a block (R114). -/
def linkCrc (b : LinkBlock) : Nat := crc32 (blockBytes b)

/-- The rules of R115 on a block's control fields. DESIGN CHOICE: a data block without a flit passes when it returns a credit,
since R117 and R129 leave such a return no other block (notes/assumptions/24.md). -/
def blockGood (b : LinkBlock) : Bool :=
  if b.ctl then b.tail == 0 && b.split == 0 && b.vcA == 0 && b.vcB == 0 && b.cr0Cnt == 0 && b.cr1Cnt == 0 && b.ndata.toNat ≤ 16
  else (1 ≤ b.ndata.toNat || b.cr0Cnt != 0 || b.cr1Cnt != 0) && b.ndata.toNat ≤ 16 && b.tail.toNat / 2 ^ b.ndata.toNat == 0

/-- Flits that the transmit store can put into blocks on VC `v` now, each with its TAIL mark, in order (R116). -/
def sendable (tx : List TxPkt) (v : Nat) : List (BitVec 512 × Bool) :=
  match tx.filter (fun t => t.vc == v && !(t.whole && t.sent == t.flits.length)) with
  | [] => []
  | t :: ts =>
    let one := fun (t : TxPkt) =>
      (t.flits.drop t.sent).mapIdx (fun i f => (f, t.whole && i + 1 == t.flits.length - t.sent))
    (ts.foldl (fun (r : List (BitVec 512 × Bool) × Bool) u =>
      if r.2 then (r.1 ++ one u, u.whole) else r) (one t, t.whole)).1

/-- The VCs that have flits to send, the packet begun first coming first. -/
def readyVcs (p : PortSt) : List Nat :=
  (p.tx.filter (fun t => t.sent < t.flits.length)).foldl (fun l t => addOnce l t.vc) []

/-- The transmit store after `k` flits of VC `v` have gone into block `q`. -/
def takeSent (q : Nat) (v : Nat) : Nat → List TxPkt → List TxPkt
  | _, [] => []
  | k, t :: ts =>
    if k = 0 ∨ t.vc ≠ v then t :: takeSent q v k ts
    else
      let n := Nat.min k (t.flits.length - t.sent)
      if n = 0 then t :: takeSent q v k ts
      else { t with sent := t.sent + n, seqs := t.seqs ++ [q] } :: takeSent q v (k - n) ts

/-- A bit mask of the positions in a list that hold true. -/
def markBits (l : List Bool) : Nat := (l.mapIdx (fun i b => b2n b * 2 ^ i)).foldl (· + ·) 0

/-- The next VC with pending credit returns after `from_`, in round robin (R129). -/
def nextReturn (l : List Nat) (from_ : Nat) : Option Nat :=
  ((List.range 16).map (fun i => (from_ + i) % 16)).find? (fun v => nth l v != 0)

/-- One credit-return field filled: VC and count of at most 63 (R129). -/
def takeReturn (p : PortSt) : (Nat × Nat) × PortSt :=
  match nextReturn p.toReturn p.retPtr with
  | none => ((0, 0), p)
  | some v =>
    let c := Nat.min 63 (nth p.toReturn v)
    ((v, c), { p with toReturn := modNth p.toReturn v (· - c), retPtr := (v + 1) % 16,
                      returned := modNth p.returned v (· + c) })

/-- The audit fields of the next block (R131): AUD_VC rotates one step per block. -/
def takeAudit (p : PortSt) : (Nat × Nat) × PortSt :=
  ((p.audVc, nth p.applied p.audVc % 4096), { p with audVc := (p.audVc + 1) % 16 })

/-- A link control block carrying these messages (R115, R117). -/
def controlBlock (p : PortSt) (ms : List (BitVec 512)) (aud : Nat × Nat) : LinkBlock :=
  { slots := (ms ++ List.replicate (16 - ms.length) 0).take 16, seq := BitVec.ofNat 12 p.nextSeq,
    ack := BitVec.ofNat 12 (p.expect + 4095), ctl := true, ndata := BitVec.ofNat 5 ms.length, tail := 0, split := 0,
    vcA := 0, vcB := 0, audVc := BitVec.ofNat 4 aud.1, cr0Vc := 0, cr0Cnt := 0, cr1Vc := 0, cr1Cnt := 0,
    audCa := BitVec.ofNat 12 aud.2 }

/-- The block leaves the port: over the lanes in use together, or, while the transmitter has not switched to a width, the
same on every lane, each framed as a one-lane link (R137, R141). -/
def emitBlock (s : State) (n : Nat) (b : LinkBlock) : State :=
  match (s.port n).txW with
  | some _ => s.emit (.block n b (BitVec.ofNat 32 (linkCrc b)))
  | none => s.emit (.laneBlocks n [0, 1, 2, 3] b (BitVec.ofNat 32 (linkCrc b)))

/-- Which of the last eight blocks were link control blocks sent while flits were waiting, with a new one (R117). -/
def noteKind (p : PortSt) (ctl : Bool) : PortSt := { p with recent := ((ctl && !(readyVcs p).isEmpty) :: p.recent).take 8 }

/-- LCM_TYPE of a message. -/
def lcmType (m : BitVec 512) : Nat := m.toNat / 2 ^ 504

/-- What the timebase reads now with an error of `e`, signed, in 1/65,536 ns: within 2 ns of the instant (R146). -/
def stampNow (s : State) (e : BitVec 18) : LinkTime :=
  let t : Int := (s.timebase * 65536 : Nat) + e.toInt
  { ns := BitVec.ofInt 64 (t / 65536), frac := BitVec.ofInt 16 t }

/-- A message as its block leaves: a TIME_SYNC takes its T1, and a TIME_REPLY its T3, whose place has held the reading error
until then (R146). -/
def stampMsg (s : State) (m : BitVec 512) : BitVec 512 :=
  if lcmType m = tTimeSync then lcm tTimeSync 0 (timeBytes (stampNow s (BitVec.ofNat 18 (s.drawn 18))))
  else if lcmType m = tTimeReply then
    let b := flitBytes m
    flitOf (b.take 0x1C ++ timeBytes (stampNow s (BitVec.ofNat 18 (wordAt b 0x1C))) ++ b.drop 0x28)
  else m

/-- The messages of a block as it leaves, and the exchange that a TIME_SYNC among them begins (R146). -/
def stampMsgs (s : State) (n : Nat) (ms : List (BitVec 512)) : List (BitVec 512) × State :=
  (ms.map (stampMsg s),
   if ms.any (fun m => lcmType m == tTimeSync) then
     s.spend.setPort n { s.port n with exch := some (stampNow s (BitVec.ofNat 18 (s.drawn 18))), exchAt := s.now }
   else s)

/-- The transmitter after a block with these messages: its own TRAIN_DONE among them switches it to the new width (R141). -/
def txSwitch (p : PortSt) (ms : List (BitVec 512)) : PortSt :=
  if ms.any (fun m => lcmType m == tTrainDone) then { p with txW := some p.newWidth } else p

/-- A link control block with these messages is sent. -/
def sendControl (s : State) (n : Nat) (ms rest : List (BitVec 512)) : State :=
  let (ms, s) := stampMsgs s n ms
  let (aud, p) := takeAudit (s.port n)
  let s := emitBlock (s.setPort n (noteKind { p with lcms := rest } true)) n (controlBlock p ms aud)
  s.setPort n (txSwitch (s.port n) ms)

/-- VCLASS of the packets on a link VC (R89). -/
def vcClass (v : Nat) : Nat := if v < 6 then clsReq else if v < 12 then clsRsp else v - 10

/-- A new data block from up to two VCs with flits to send, with credit returns and audit (R113, R121, R129). -/
def sendData (s : State) (n : Nat) : State :=
  let p := s.port n
  let vs := readyVcs p
  let a := vs.head?.getD 0
  let b := (vs[1]?).getD a
  let fa := (sendable p.tx a).take 16
  let fb := if b = a then [] else (sendable p.tx b).take (16 - fa.length)
  let fs := fa ++ fb
  let (c0, p) := takeReturn p
  let (c1, p) := takeReturn p
  let (aud, p) := takeAudit p
  let blk : LinkBlock :=
    { slots := fs.map Prod.fst ++ List.replicate (16 - fs.length) 0, seq := BitVec.ofNat 12 p.nextSeq,
      ack := BitVec.ofNat 12 (p.expect + 4095), ctl := false, ndata := BitVec.ofNat 5 fs.length,
      tail := BitVec.ofNat 16 (markBits (fs.map Prod.snd)), split := BitVec.ofNat 4 fa.length, vcA := BitVec.ofNat 4 a,
      vcB := BitVec.ofNat 4 b, audVc := BitVec.ofNat 4 aud.1, cr0Vc := BitVec.ofNat 4 c0.1,
      cr0Cnt := BitVec.ofNat 6 c0.2, cr1Vc := BitVec.ofNat 4 c1.1, cr1Cnt := BitVec.ofNat 6 c1.2,
      audCa := BitVec.ofNat 12 aud.2 }
  -- SPLIT holds at most 15; a block filled by one VC names it in both runs
  let blk := if fa.length = 16 then { blk with split := 0, vcB := blk.vcA } else blk
  let q := p.nextSeq
  let p := { p with
    tx := takeSent q b fb.length (takeSent q a fa.length p.tx), nextSeq := (q + 1) % 4096,
    replay := p.replay ++ [{ seq := q, blk := blk, acked := false }], history := ((q, p.returned) :: p.history).take 512, txFlits := p.txFlits + fs.length }
  let s := emitBlock (s.setPort n (noteKind p false)) n blk
  let s := if fa.isEmpty then s else cntCM s (portUnit n) 0x100 fa.length (some (vcClass a)) none
  if fb.isEmpty then s else cntCM s (portUnit n) 0x100 fb.length (some (vcClass b)) none

/-- A data block can be sent: a flit or a credit to return waits, and the replay buffer has room for the block (R117, R123). -/
def dataReady (p : PortSt) : Bool :=
  (!(readyVcs p).isEmpty || p.toReturn.any (· != 0)) && p.replay.length < 504

/-- A pending message takes the place of a data block: none of the last eight blocks was a link control block sent while
flits were waiting (R117). -/
def controlTurn (p : PortSt) : Bool := !p.lcms.isEmpty && !(p.recent.contains true)

/-- LINK_BLOCK_SEND (R113, R117, R121, R123, R125, R131, R636, R637): what leaves port `n` at a block time. -/
def execLinkBlockSend (n : Fin 96) (s : State) : Host.Outcome State Fault Refusal :=
  let n := n.val
  let p := s.port n
  .next (
    if 0 < p.ldLeft then
      let (aud, q) := takeAudit p
      emitBlock (s.setPort n (noteKind { q with ldLeft := p.ldLeft - 1 } true)) n
        (controlBlock q [lcm tLinkDown (prd s n Reg.Port.PORT_STATE_DOWN_REASON) []] aud)
    else if portState s n = stDown ∧ p.phase = 0 ∧ !p.upWaits then s.emit (.idle n)
    else if portRunning s n then
      if controlTurn p then sendControl s n (p.lcms.take 16) (p.lcms.drop 16)
      else match p.resend with
        | (_, b) :: rest => emitBlock (s.setPort n (noteKind { p with resend := rest } false)) n b
        | [] => if dataReady p then sendData s n else sendControl s n (p.lcms.take 16) (p.lcms.drop 16)
    else if p.reqOut then
      let i := (p.ident.getD 0).toNat
      sendControl s n (trainLcm s n tTrainReq p.reqReason i i 0 :: p.lcms.take 15) (p.lcms.drop 15)
    else sendControl s n (p.lcms.take 16) (p.lcms.drop 16))

/-! ### Receiving blocks (R114, R115, R122, R124, R129, R132, R599) -/

/-- A flit arrives on VC `v` (R128, R156): into the receive buffer, for its packet. -/
def flitArrive (s : State) (n v : Nat) (f : BitVec 512) (tail : Bool) : State :=
  let p := s.port n
  let s := s.setPort n { p with held := modNth p.held v (· + 1), aNow := modNth p.aNow v (· + 1), rxFlits := p.rxFlits + 1 }
  let s := cntCM s (portUnit n) 0x101 1 (some (vcClass v)) none
  let k := inKey n v
  match look s.switch.cur k with
  | some c =>
    if c.whole || c.salvaged then
      let p := s.port n
      s.setPort n { p with rx := modNth p.rx v (· ++ [(f, tail)]) }
    else flow (setCur s k { c with flits := c.flits ++ [f], whole := tail }) k
  | none =>
    let p := s.port n
    s.setPort n { p with rx := modNth p.rx v (· ++ [(f, tail)]) }

/-- The VC of slot `i` of a data block (R113). -/
def slotVc (b : LinkBlock) (i : Nat) : Nat := if i < b.split.toNat then b.vcA.toNat else b.vcB.toNat

/-- Flits on VC `v` in a data block. -/
def flitsOn (b : LinkBlock) (v : Nat) : Nat := ((List.range b.ndata.toNat).filter (fun i => slotVc b i == v)).length

/-- Credits on VC `v` with the transmitter or on their way: what is outstanding but neither held in the buffer nor waiting
to be returned (R128). -/
def creditsOut (p : PortSt) (v : Nat) : Nat := nth p.g v - nth p.held v - nth p.toReturn v

/-- The block offers a flit for which no credit is outstanding (R599). -/
def creditOverrun (p : PortSt) (b : LinkBlock) : Bool := (List.range 16).any (fun v => creditsOut p v < flitsOn b v)

/-- A credit return applied (R129). -/
def applyReturn (p : PortSt) (v c : Nat) : PortSt :=
  { p with credits := modNth p.credits v (· + c), applied := modNth p.applied v (· + c) }

/-- An in-sequence block accepted (R122). -/
def acceptBlock (s : State) (n : Nat) (b : LinkBlock) : State :=
  let p := s.port n
  if creditOverrun p b then violation s n
  else
    let p := applyReturn (applyReturn p b.cr0Vc.toNat b.cr0Cnt.toNat) b.cr1Vc.toNat b.cr1Cnt.toNat
    let s := s.setPort n { p with expect := (p.expect + 1) % 4096, inSeq := true, reqCount := 0 }
    (List.range b.ndata.toNat).foldl (fun t i =>
      flitArrive t n (slotVc b i) ((b.slots[i]?).getD 0) (bitOf b.tail.toNat i)) s

/-- The audit of a block (R132): passes, fails and is counted, or is too old to tell. -/
def auditBlock (s : State) (n : Nat) (b : LinkBlock) : State :=
  let p := s.port n
  match p.history.find? (fun h => h.1 == b.ack.toNat) with
  | none => s
  | some h =>
    if nth h.2 b.audVc.toNat % 4096 = b.audCa.toNat then s.setPort n { p with audAt := p.audAt.set b.audVc.toNat s.now }
    else s.bump (portBase n) Reg.Port.AUDIT_FAIL_CNT

/-- Messages of types a receiver does not know are counted (R119). Known messages act by their own commands. -/
def unknownMessages (b : LinkBlock) : Nat :=
  ((b.slots.take b.ndata.toNat).filter (fun m => m.toNat / 2 ^ 504 = 0 ∨ 7 < m.toNat / 2 ^ 504)).length

/-- A block that passes its checks, at a live link (R122, R124). -/
def goodBlock (s : State) (n : Nat) (b : LinkBlock) : State :=
  let s := auditBlock (s.setPort n (takeAck (s.port n) b.ack.toNat)) n b
  if b.ctl then s.add (portBase n) Reg.Port.DISCARD_CNT (unknownMessages b)
  else
    let p := s.port n
    let d := seqDist p.expect b.seq.toNat
    if d = 0 then acceptBlock s n b
    else if 2048 ≤ d then s
    else if p.inSeq && portRunning s n then requestReplay s n
    else s

/-- Block lock after one more block of its stream (R118): four in a row that fail lose it, four that pass gain it. -/
def lockStep (l : BlkLock) (good : Bool) : BlkLock :=
  if good == l.held then { l with run := 0 }
  else if 4 ≤ l.run + 1 then { held := !l.held, run := 0 }
  else { l with run := l.run + 1 }

/-- The stream a block came on: a lane's own, or the joined one. -/
def streamOf (lane : Option (Fin 4)) : Nat := match lane with | some l => l.val | none => 4

/-- Block lock of a stream of port `n`. -/
def blkLockOf (p : PortSt) (i : Nat) : BlkLock := p.lock[i]?.getD { held := false, run := 0 }

/-- The receiver frames its lanes as the block's stream is framed (R137, R141). -/
def framed (p : PortSt) (lane : Option (Fin 4)) : Bool := p.rxW.isSome == lane.isNone

/-- Block lock is lost: a lane fault in UP and DEGRADED (R118, R135). -/
def lockLost (s : State) (n : Nat) : State := if portRunning s n then ownRetrain (linkEvent s n 4) n 2 else s

/-- A block of a stream that holds block lock (R111, R114, R115, R122, R124). -/
def lockedBlock (s : State) (n : Nat) (b : LinkBlock) (good : Bool) : State :=
  if !good then
    let s := s.bump (portBase n) Reg.Port.CRC_ERR_CNT
    if portRunning s n && (s.port n).inSeq then requestReplay s n else s
  else if !(blockGood b) then violation s n
  else if linkAlive s n then goodBlock s n b
  else if b.ctl then s.add (portBase n) Reg.Port.DISCARD_CNT (unknownMessages b)
  else s

/-- LINK_BLOCK_RECEIVE (R111, R114, R115, R118, R122, R124, R132, R599, R637). A block of a stream without block lock is a
boundary under test: nothing in it is acted on. -/
def execLinkBlockReceive (n : Fin 96) (b : RxBlock) (crc : BitVec 32) (fecBad : Option (Fin 4)) (fecCorr : List (Fin 4))
    (s : State) : Host.Outcome State Fault Refusal :=
  let n := n.val
  if rxOff s n || !(framed (s.port n) b.lane) then .next s else
  let s := fecCorr.foldl (fun t l => cnt1 (t.bumpi (portBase n) Reg.Port.FEC_CORR l.val) (portUnit n) 0x107) s
  let s := match fecBad with
    | some l => cnt1 (s.bumpi (portBase n) Reg.Port.FEC_UNCORR l.val) (.fabricMacro (idx 23 (n / 4))) 0x101
    | none => s
  let good := fecBad.isNone && crc.toNat == linkCrc b.block
  let p := s.port n
  let i := streamOf b.lane
  let was := (blkLockOf p i).held
  let l := lockStep (blkLockOf p i) good
  let s := s.setPort n { p with lock := p.lock.set i l }
  .next (if !was then s
    else
      let s := lockedBlock s n b.block good
      if l.held then s else lockLost s n)

/-- The replay buffer holds block `q`. -/
def holdsSeq (p : PortSt) (q : Nat) : Bool := p.replay.any (fun x => x.seq == q)

/-- A replay is performed: every held block from `q` on is sent again, unchanged and in order (R125, R148). -/
def replayFrom (s : State) (n q : Nat) : State :=
  let p := s.port n
  cnt1 ((s.setPort n { p with resend := (p.replay.dropWhile (fun x => x.seq != q)).map (fun x => (x.seq, x.blk)) }).bump
    (portBase n) Reg.Port.REPLAY_CNT) (portUnit n) 0x104

/-- REPLAY_REQ_RECEIVE (R125). -/
def execReplayReqReceive (n : Fin 96) (ex : BitVec 12) (s : State) : Host.Outcome State Fault Refusal :=
  let n := n.val
  let p := s.port n
  .next (
    if !(linkAlive s n) then s
    else if holdsSeq p ex.toNat then replayFrom s n ex.toNat
    else if ex.toNat = p.nextSeq then s
    else violation s n)

/-- REPLAY_TIMEOUT (R124, R126): the expected block has not come in REPLAY_TMO. -/
def execReplayTimeout (n : Fin 96) (s : State) : Host.Outcome State Fault Refusal :=
  .next (if portRunning s n.val && !(s.port n.val).inSeq then requestReplay s n.val else s)

/-! ### Credits and audit timers (R128, R133, R134) -/

/-- Extra credits granted to one VC (R128). -/
def grantVc (p : PortSt) (v : Nat) : PortSt :=
  let extra := nth p.g v - nth p.vcMin v
  let used := (List.range 16).foldl (fun m u => m + (nth p.g u - nth p.vcMin u)) 0
  let x := Nat.min (Nat.min (nth p.aLast v) (p.shareMax - extra)) (sharedOf p.vcMin - used)
  { p with g := modNth p.g v (· + x), toReturn := modNth p.toReturn v (· + x) }

/-- CREDIT_GRANT_PERIOD (R128): at the end of 256 ns the arrivals are noted and extra credits granted in rotating order. -/
def execCreditGrantPeriod (n : Fin 96) (s : State) : Host.Outcome State Fault Refusal :=
  let n := n.val
  .next (if linkAlive s n then
      let p := s.port n
      let p := { p with aLast := p.aNow, aNow := List.replicate 16 0 }
      let q := ((List.range 16).map (fun i => (p.grantPtr + i) % 16)).foldl grantVc p
      s.setPort n { q with grantPtr := (p.grantPtr + 1) % 16 }
    else s)

/-- AUDIT_TIMEOUT (R133, R135, R603): an audit timer expires in UP or DEGRADED. -/
def execAuditTimeout (n : Fin 96) (vc : Fin 16) (s : State) : Host.Outcome State Fault Refusal :=
  .next (if portRunning s n.val then
    portBroken (recordError (linkEvent s n.val 2) (ErrRec.contained (.port n) .audit vc.val n.val)) n.val 7 else s)

/-- CREDIT_STALL_TIMEOUT (R134): a packet has waited on the VC without enough credits; an event, and nothing else. -/
def execCreditStallTimeout (n : Fin 96) (vc : Fin 16) (s : State) : Host.Outcome State Fault Refusal :=
  let waits := (waitingAt s n.val).any (fun k => match look s.switch.cur k with
      | some c => c.outVc == vc.val && nth (s.port n.val).credits vc.val < flitsOfLen c.rh.len.toNat
      | none => false) ||
    (12 ≤ vc.val && vc.val ≤ 14 &&
      (match (queue s (3 * n.val + (vc.val - 12))).find? (fun x => !x.begun) with
       | some x => nth (s.port n.val).credits vc.val < x.n
       | none => false))
  .next (if waits then (linkEvent s n.val 3).emit (.named (.creditStall n.val vc.val)) else s)

/-! ### Lanes (R118, R135, R140, R142) -/

/-- Codeword lock of a lane is lost, and with it block lock (R118, R142). -/
def laneLost (s : State) (n l : Nat) : State :=
  let p := s.port n
  let good := prd s n Reg.Port.PORT_STATE_RX_GOOD
  cnt1 ((s.wr (portBase n) Reg.Port.PORT_STATE_RX_GOOD (clrBit good l)).setPort n
      { p with lockAt := del p.lockAt l, lock := p.lock.set l { held := false, run := 0 } })
    (.fabricMacro (idx 23 (n / 4))) 0x100

/-- A lane gains codeword lock (R142). -/
def laneGained (s : State) (n l : Nat) : State :=
  let p := s.port n
  (s.wr (portBase n) Reg.Port.PORT_STATE_RX_GOOD (setBit (prd s n Reg.Port.PORT_STATE_RX_GOOD) l)).setPort n
    { p with lockAt := put p.lockAt l s.now }

/-- LANE_FAULT (R118, R135, R142): signal or codeword lock lost on a lane, or block lock of the joined stream lost. -/
def execLaneFault (n : Fin 96) (e : LaneEvent) (s : State) : Host.Outcome State Fault Refusal :=
  let n := n.val
  if rxOff s n then .next s else
  let p := s.port n
  .next (match e with
    | .signal l | .codeword l =>
      let t := laneLost s n l.val
      if p.lanes.contains l.val && portRunning t n then ownRetrain (linkEvent t n 4) n 2 else t
    | .blockLock => lockLost (s.setPort n { p with lock := p.lock.set 4 { held := false, run := 0 } }) n)

/-- LANE_LOCK_GAIN (R142, R637): a receive lane gains codeword lock. -/
def execLaneLockGain (n : Fin 96) (lane : Fin 4) (s : State) : Host.Outcome State Fault Refusal :=
  .next (if rxOff s n.val then s else laneGained s n.val lane.val)

/-- WIDTH_RESTORE_DUE (R142): in DEGRADED with AUTO_RESTORE at 1, when a lane out of use holds codeword lock and a restore
would raise the width, the end with the lower identity of the last training starts it. -/
def execWidthRestoreDue (n : Fin 96) (s : State) : Host.Outcome State Fault Refusal :=
  let n := n.val
  let p := s.port n
  let good := prd s n Reg.Port.PORT_STATE_RX_GOOD
  let spare : Bool := (List.range 4).any (fun l => bitOf good l && !(p.lanes.contains l))
  let raises : Bool := match chooseWidth (lanesIn good) 4 p.widthMax with
    | some w => decide (w < prd s n Reg.Port.PORT_STATE_WIDTH)
    | none => false
  .next (if portState s n = stDegraded ∧ prd s n Reg.Port.PORT_CFG_AUTO_RESTORE = 1 ∧ spare ∧ raises ∧
      (p.ident.getD 0).toNat < p.peerId.toNat then ownRetrain s n 3 else s)

/-! ### Bring-up and training (R135 to R141, R638) -/

/-- The lanes that hold codeword lock at the end of phase 2, and no others (R111, R136). -/
def lanesLocked (s : State) (n m : Nat) : State :=
  (List.range 4).foldl (fun t l =>
    if bitOf m l == bitOf (prd t n Reg.Port.PORT_STATE_RX_GOOD) l then t
    else if bitOf m l then laneGained t n l else laneLost t n l) s

/-- BRINGUP_PHASE_DONE (R110, R111, R136): PMD training, or codeword lock and deskew, is done. -/
def execBringupPhaseDone (n : Fin 96) (ph : TrainPhase) (s : State) : Host.Outcome State Fault Refusal :=
  let n := n.val
  if rxOff s n then .next s else
  let p := s.port n
  match ph with
  | .pmd => .next (if p.phase = 1 then s.setPort n { p with phase := 2, phaseAt := s.now } else s)
  | .codeword lanes => .next (if p.phase = 2 then lanesLocked (s.setPort n { p with phase := 3, phaseAt := s.now }) n lanes.toNat
    else s)

/-- A request answered with TRAIN_ACK: the port follows (R138, R139). -/
def follow (s : State) (n : Nat) (m : TrainMsg) : State :=
  let p := s.port n
  let r := match p.ident with
    | some i => (i, s)
    | none => drawIdent s n
  let s := r.2
  let p := s.port n
  let s := s.setPort n { learnPeer p m with ident := some r.1, reqOut := false, doneSent := false, doneRcvd := false,
                                            ownGood := prd s n Reg.Port.PORT_STATE_RX_GOOD }
  let s := s.wr (portBase n) Reg.Port.PORT_STATE_LEADER 0
  pushLcm s n (trainLcm s n tTrainAck 0 m.reqId.toNat r.1.toNat 0)

/-- A port found looped back (R135, R139). -/
def loopedBack (s : State) (n : Nat) : State :=
  let s := s.setPort n { s.port n with autoSusp := true, asked := false }
  if linkAlive s n then portBroken s n 4
  else
    let p := s.port n
    (s.wr (portBase n) Reg.Port.PORT_STATE_DOWN_REASON 4).setPort n
      { p with phase := 0, reqOut := false, lcms := [], upWaits := false, firstEnded := true }

/-- The message carries the port's own identity: the port is looped back (R139). A BROKEN port and a DISABLED one do nothing
about it (R135). -/
def isLooped (s : State) (n : Nat) (m : TrainMsg) : Bool :=
  (s.port n).ident == some m.ownId && portState s n != stBroken && roleOf s n != 0

/-- Every lane that holds codeword lock holds block lock (R136 phase 3). -/
def allLocked (s : State) (n : Nat) : Bool :=
  (List.range 4).all (fun l => !(bitOf (prd s n Reg.Port.PORT_STATE_RX_GOOD) l) || (blkLockOf (s.port n) l).held)

/-- BLOCK_LOCK_GAIN (R118, R136, R138): lanes hold block lock; once all do, the message exchange begins: the port follows a
bring-up request already carried by the first block it received intact, and otherwise sends its own. A retrain exchanges
messages from its start. -/
def execBlockLockGain (n : Fin 96) (g : LockGain) (s : State) : Host.Outcome State Fault Refusal :=
  let n := n.val
  if rxOff s n then .next s else
  let p := s.port n
  let s := s.setPort n { p with lock := p.lock.mapIdx (fun i l => if i < 4 && bitOf g.lanes.toNat i then { held := true, run := 0 } else l) }
  .next (if p.phase = 3 ∧ allLocked s n then
      let s := s.setPort n { s.port n with phase := 4, phaseAt := s.now }
      if portState s n = stRetrain then s
      else match g.req with
      | some m => if isLooped s n m then loopedBack s n else if m.reason = 1 then follow s n m else ownRequest s n 1
      | none => ownRequest s n 1
    else s)

/-- A request that crosses the port's own (R139): the lower identity leads. -/
def crossing (s : State) (n : Nat) (m : TrainMsg) : State :=
  let s := linkEvent s n 6
  if ((s.port n).ident.getD 0).toNat < m.ownId.toNat then s else follow s n m

/-- The port acts on training messages: its receivers are on, and it is not in phases 1 to 3 of a bring-up (R138, R637). -/
def trainable (s : State) (n : Nat) : Bool :=
  !(rxOff s n) && !(portState s n == stDown && decide (1 ≤ (s.port n).phase) && decide ((s.port n).phase ≤ 3))

/-- TRAIN_REQ_RECEIVE (R135, R138, R139). REASON 1 is bring-up, 2 retrain, 3 width restore. -/
def execTrainReqReceive (n : Fin 96) (m : TrainMsg) (s : State) : Host.Outcome State Fault Refusal :=
  let n := n.val
  let p := s.port n
  .next (
    if !(trainable s n) then s
    else if isLooped s n m then loopedBack s n
    else if portState s n = stDown then
      if m.reason = 1 then
        if p.phase = 0 then (if roleOf s n ≠ 0 ∧ portUsable s n then startBringup s n else s)
        else if p.reqOut then crossing s n m
        else if p.doneSent then s
        else follow s n m
      else pushLcm s n (trainLcm s n tTrainAck 1 m.reqId.toNat (p.ident.getD 0).toNat 0)
    else if linkAlive s n && m.reason == 1 then portBroken s n 5
    else if portRunning s n then enterRetrain s n (fun t => follow t n m)
    else if portState s n = stRetrain then (if p.reqOut then crossing s n m else follow s n m)
    else s)

/-- A bring-up attempt is abandoned and starts again from phase 2 (R135, R140). -/
def restartExchange (s : State) (n : Nat) : State :=
  let p := s.port n
  s.setPort n { p with phase := 2, phaseAt := s.now, reqOut := false, doneSent := false, doneRcvd := false, lcms := [],
                       txW := none, rxW := none, lock := PortSt.init.lock }

/-- A port in training: RETRAIN, or a bring-up in its message exchange (R136). -/
def inTraining (s : State) (n : Nat) : Bool :=
  portState s n == stRetrain || (portState s n == stDown && (s.port n).phase == 4)

/-- TRAIN_ACK_RECEIVE (R135, R138 to R141): the leader chooses the width and sends TRAIN_DONE. -/
def execTrainAckReceive (n : Fin 96) (m : TrainMsg) (s : State) : Host.Outcome State Fault Refusal :=
  let n := n.val
  let p := s.port n
  .next (
    if !(trainable s n) then s
    else if isLooped s n m then loopedBack s n
    else if !(inTraining s n && p.reqOut && p.ident == some m.reqId) then s
    else if m.reason ≠ 0 then (if portState s n = stRetrain then portBroken s n 8 else s)
    else
      let good := prd s n Reg.Port.PORT_STATE_RX_GOOD
      match chooseWidth (lanesIn good) (lanesIn m.rxGood.toNat) p.widthMax with
      | none => if portState s n = stRetrain then portBroken s n 8 else restartExchange s n
      | some w =>
        let s := s.setPort n { learnPeer p m with reqOut := false, newWidth := w, doneSent := true, doneRcvd := false,
                                                  ownGood := good }
        let s := s.wr (portBase n) Reg.Port.PORT_STATE_LEADER 1
        pushLcm s n (trainLcm s n tTrainDone 0 m.reqId.toNat m.reqId.toNat w))

/-- TRAIN_DONE_RECEIVE (R138, R139, R141): the follower takes the width and answers; the leader notes the answer; the receiver
of either switches. A TRAIN_DONE for another request is none of its training. -/
def execTrainDoneReceive (n : Fin 96) (m : TrainMsg) (s : State) : Host.Outcome State Fault Refusal :=
  let n := n.val
  let p := s.port n
  .next (
    if !(trainable s n) then s
    else if isLooped s n m then loopedBack s n
    else if !(inTraining s n) || !(p.ident == some m.reqId || (!p.reqOut && p.peerId == m.reqId)) then s
    else if p.doneSent then s.setPort n { p with doneRcvd := true, rxW := some p.newWidth }
    else
      let w := m.width.toNat
      let s := s.setPort n { p with reqOut := false, newWidth := w, doneSent := true, doneRcvd := true, rxW := some w }
      pushLcm s n (trainLcm s n tTrainDone 0 m.reqId.toNat (p.ident.getD 0).toNat w))

/-- The end of a bring-up before its timebase exchange (R135, R638): PEER, credits from the peer's VC_MIN, and one
exchange started whatever TIME_FOLLOW holds. -/
def bringupEnds (s : State) (n : Nat) : State :=
  let s := setPeer s n
  let p := s.port n
  let s := s.setPort n { p with credits := p.peerVcMin, g := p.vcMin, upWaits := true, lcms := [] }
  pushLcm s n (lcm tTimeSync 0 [])

/-- TRAIN_RESUME (R118, R141): both directions have switched, and the receiver regains block lock. A retrain frees the replay
buffer up to the peer's RX_EXPECT and replays from there; a bring-up ends with its exchange. -/
def execTrainResume (n : Fin 96) (s : State) : Host.Outcome State Fault Refusal :=
  let n := n.val
  let p := s.port n
  .next (
    if rxOff s n || !(inTraining s n) || p.txW.isNone || p.rxW.isNone || p.upWaits then s
    else
      let p := { p with lock := p.lock.set 4 { held := true, run := 0 } }
      if portState s n = stDown then bringupEnds (s.setPort n p) n
      else if holdsSeq p p.peerExpect || p.peerExpect == p.nextSeq then
        let s := s.setPort n { takeAck p ((p.peerExpect + 4095) % 4096) with inSeq := true, resend := [] }
        let s := if holdsSeq p p.peerExpect then replayFrom s n p.peerExpect else s
        enterUp (setPeer s n) n
      else violation s n)

/-- BRINGUP_TIMEOUT (R135): the attempt ends; it starts again when AUTO is 1. -/
def execBringupTimeout (n : Fin 96) (s : State) : Host.Outcome State Fault Refusal :=
  let n := n.val
  let p := s.port n
  .next (if portState s n = stDown ∧ (p.phase ≠ 0 ∨ p.upWaits) then
      let s := linkEvent ((s.wr (portBase n) Reg.Port.PORT_STATE_DOWN_REASON 3).emit (.named (.linkState n))) n 0
      let s := resetLink s n
      autoStart (s.setPort n { s.port n with firstEnded := true, asked := false }) n
    else s)

/-- RETRAIN_TIMEOUT (R135). -/
def execRetrainTimeout (n : Fin 96) (s : State) : Host.Outcome State Fault Refusal :=
  .next (if portState s n.val = stRetrain then portBroken s n.val 8 else s)

/-! ### LINK_DOWN, salvage, hold (R135, R144, R636) -/

/-- LINK_DOWN_RECEIVE (R135): the peer's link is down. -/
def execLinkDownReceive (n : Fin 96) (_reason : BitVec 8) (s : State) : Host.Outcome State Fault Refusal :=
  .next (if !(rxOff s n.val) && linkAlive s n.val then portBroken s n.val 0xB else s)

/-- SALVAGE_COMPLETE (R144): every salvaged packet has left the replay buffer. -/
def execSalvageComplete (n : Fin 96) (s : State) : Host.Outcome State Fault Refusal :=
  let p := s.port n.val
  .next (if portState s n.val = stBroken ∧ p.salvage = [] ∧ p.tx = [] ∧ p.salvDone = none then
      linkEvent (s.setPort n.val { p with salvDone := some s.now }) n.val 5
    else s)

/-- BROKEN_HOLD_EXPIRE (R135): BROKEN_HOLD_US after salvage, link-layer state is reset and the port is DOWN. -/
def execBrokenHoldExpire (n : Fin 96) (s : State) : Host.Outcome State Fault Refusal :=
  let p := s.port n.val
  .next (if portState s n.val = stBroken ∧ p.salvDone.isSome ∧ p.ldLeft = 0 then
      autoStart (resetLink (setPortState s n.val stDown) n.val) n.val
    else s)

/-! ### Port control writes (R135, R149) -/

/-- Offset of PORT_CTL of a port. -/
def portCtl (n : Nat) : Nat := portBase n + 0x44

/-- BRINGUP written (R135). -/
def bringup (s : State) (n : Nat) : State :=
  autoStart (s.setPort n { s.port n with asked := true, autoSusp := false }) n

/-- RETRAIN written. -/
def retrain (s : State) (n : Nat) : State := if portRunning s n then ownRetrain s n 2 else s

/-- TAKEDOWN written, or ROLE committed as DISABLED: AUTO is suspended until BRINGUP is written (R135). -/
def takedown (s : State) (n : Nat) : State :=
  if linkAlive s n then portBroken (s.setPort n { s.port n with autoSusp := true, asked := false }) n 6 else s

/-- The port's counters at 0xB0 to 0xEC cleared (R148, R149). -/
def portCountersClear (s : State) (n : Nat) : State :=
  ((s.clearAll (portBase n) [Reg.Port.HDR_ERR_CNT, Reg.Port.CRC_ERR_CNT, Reg.Port.REPLAY_CNT, Reg.Port.RETRAIN_CNT,
    Reg.Port.STOMP_CNT, Reg.Port.SALVAGE_CNT, Reg.Port.AUDIT_FAIL_CNT, Reg.Port.DISCARD_CNT]).clearArr (portBase n)
    Reg.Port.FEC_CORR 4).clearArr (portBase n) Reg.Port.FEC_UNCORR 4

/-- PORT_BRINGUP (R135). -/
def execPortBringup (r : Route) (n : Fin 96) (s : State) : Host.Outcome State Fault Refusal :=
  .next (guarded s r (portCtl n.val) (fun t => bringup t n.val))

/-- PORT_RETRAIN (R135). -/
def execPortRetrain (r : Route) (n : Fin 96) (s : State) : Host.Outcome State Fault Refusal :=
  .next (guarded s r (portCtl n.val) (fun t => retrain t n.val))

/-- PORT_TAKEDOWN (R135). -/
def execPortTakedown (r : Route) (n : Fin 96) (s : State) : Host.Outcome State Fault Refusal :=
  .next (guarded s r (portCtl n.val) (fun t => takedown t n.val))

/-- PORT_CNT_CLR (R149). -/
def execPortCntClr (r : Route) (n : Fin 96) (s : State) : Host.Outcome State Fault Refusal :=
  .next (guarded s r (portCtl n.val) (fun t => portCountersClear t n.val))

/-! ### Timebase exchanges (R146, R147, R638) -/

/-- The lowest-numbered port with TIME_FOLLOW at 1: the only one that starts exchanges (R146). -/
def timeStarter (s : State) : Option Nat :=
  (List.range 96).find? (fun n => prd s n Reg.Port.PORT_CFG_TIME_FOLLOW == 1)

/-- TIME_SYNC_PERIOD (R146): the exchange interval comes. -/
def execTimeSyncPeriod (n : Fin 96) (s : State) : Host.Outcome State Fault Refusal :=
  .next (if portRunning s n.val && timeStarter s == some n.val && (s.port n.val).exch == none then
      pushLcm s n.val (lcm tTimeSync 0 [])
    else s)

/-- TIME_SYNC_RECEIVE (R146): every port answers with TIME_REPLY, which takes its T3 as its block leaves; until then its place
holds the error of that reading. -/
def execTimeSyncReceive (n : Fin 96) (t1 t2 : LinkTime) (t3 : BitVec 18) (s : State) : Host.Outcome State Fault Refusal :=
  .next (if !(rxOff s n.val) && (linkAlive s n.val || (s.port n.val).phase == 4) then
      pushLcm s n.val (lcm tTimeReply 0 (timeBytes t1 ++ timeBytes t2 ++ be4 t3.toNat))
    else s)

/-- A timestamp in units of 1/65,536 ns. -/
def timeUnits (t : LinkTime) : Int := (t.ns.toNat * 65536 + t.frac.toNat : Nat)

/-- The exchange is over: a port that waited for it enters UP or DEGRADED (R638). -/
def endExchange (s : State) (n : Nat) : State :=
  let p := s.port n
  let s := s.setPort n { p with exch := none }
  if p.upWaits then enterUp s n else s

/-- TIME_REPLY_RECEIVE (R147, R638): round trip and offset, in whole ns and ps; the offset goes to the servo from the port
that starts exchanges. -/
def execTimeReplyReceive (n : Fin 96) (t1 t2 t3 t4 : LinkTime) (s : State) : Host.Outcome State Fault Refusal :=
  let n := n.val
  .next (if !(rxOff s n) && (s.port n).exch == some t1 then
      let u1 := timeUnits t1
      let u2 := timeUnits t2
      let u3 := timeUnits t3
      let u4 := timeUnits t4
      let rtt := ((u4 - u1) - (u3 - u2)).fdiv 65536
      let asym := (BitVec.ofNat 32 (prd s n Reg.Port.TIME_ASYM_PS)).toInt
      let off := (((u2 - u1) - (u4 - u3)) * 1000).fdiv (2 * 65536) - asym
      let s := s.wr (portBase n) Reg.Port.RTT_NS (BitVec.ofInt 32 rtt).toNat
      let s := s.wr (portBase n) Reg.Port.TIME_OFFSET_PS (BitVec.ofInt 32 off).toNat
      let s := if timeStarter s = some n ∧ s.rd (base .mgmtProc) Reg.Mp.TB_CFG_SRC = 1 then { s with tbOffers := s.tbOffers ++ [off] } else s
      endExchange s n
    else s)

/-- TIME_EXCHANGE_TIMEOUT (R147, R638): 100 us without the reply. -/
def execTimeExchangeTimeout (n : Fin 96) (s : State) : Host.Outcome State Fault Refusal :=
  .next (if (s.port n.val).exch.isSome || (s.port n.val).upWaits then endExchange (linkEvent s n.val 7) n.val else s)

end Sys2Proof.Machine
end

