-- ==== Sys2Proof/Machine/Pace.lean ====
section
/-!
DEFINITION. The pace guard, the AVSBus loop and the power limiter (spec/01_architecture.md, R10 to R20).
-/
namespace Sys2Proof.Machine

/-- The lowest of a list of counts, 0 for none. -/
def lowest : List Nat → Nat
  | [] => 0
  | x :: xs => xs.foldl Nat.min x

/-- The sum of a list. -/
def total (l : List Nat) : Nat := l.foldl (· + ·) 0

/-- The mean of the list is above `m` (exact, no rounding); over the values there are (DESIGN CHOICE, notes/assumptions/74.md). -/
def meanAbove (l : List Nat) (m : Nat) : Bool := m * l.length < total l

/-- The mean of the list is below `m` (exact, no rounding). Before ten values exist the mean is over the fewer there are (DESIGN
CHOICE, notes/assumptions/74.md). -/
def meanBelow (l : List Nat) (m : Nat) : Bool := total l < m * l.length

/-- The power average is above `m` W (R16). -/
def powerAbove (s : State) (m : Nat) : Bool := meanAbove s.pace.power m

/-- The condition of R17: the average stays above the cap with VCORE at 0.60 V. -/
def capCondition (s : State) : Bool := powerAbove s 950 && s.pace.vcore == 600

/-- The pace guard enters LOW (R19): PACE_LOW set, pace-low event, receive-first begins. -/
def enterLow (s : State) : State :=
  let s := s.wr 0 Reg.Root.DEV_STATUS_PACE_LOW 1
  deviceEvent { s with pace := { s.pace with atRisk := false, highRun := 0 } } 0x12 [s.rd 0 Reg.Root.PACE_NOW, 0, 0, 0]

/-- A power average above the cap at the lowest VCORE forces the guard into LOW (R17). -/
def capCheck (s : State) : State := if capCondition s && !(receiveFirst s) then enterLow s else s

/-- PACE_INTERVAL_END (R10, R19): PACE_NOW takes the lowest replica count; the guard's interval counts move; the first
interval below 850 MHz since entering LOW raises line-rate-at-risk; a written floor joins from the next interval. -/
def execPaceIntervalEnd (counts : List (BitVec 16)) (s : State) : Host.Outcome State Fault Refusal :=
  if s.pace.running then
    let p := lowest (counts.map BitVec.toNat)
    let s := s.wr 0 Reg.Root.PACE_NOW p
    let risk := receiveFirst s && p < 850 && !s.pace.atRisk
    let s := if risk then s.emit (.named .lineRateAtRisk) else s
    .next { s with pace := { s.pace with
      hist := (p :: s.pace.hist).take 10,
      lowRun := if p < s.pace.floor then s.pace.lowRun + 1 else 0,
      highRun := if s.pace.floor + 50 ≤ p then s.pace.highRun + 1 else 0,
      atRisk := s.pace.atRisk || risk,
      floor := s.rd 0 Reg.Root.PACE_FLOOR } }
  else .next s

/-- PACE_LOW_ENTER (R19): four consecutive intervals below the floor, or the condition of R17, take NORMAL to LOW. -/
def execPaceLowEnter (s : State) : Host.Outcome State Fault Refusal :=
  .next (if !(receiveFirst s) && (4 ≤ s.pace.lowRun || capCondition s) then enterLow s else s)

/-- PACE_RESTORED (R19): sixty-four consecutive intervals at the floor plus 50 MHz or above, with the power average
within the cap, take LOW to NORMAL. -/
def execPaceRestored (s : State) : Host.Outcome State Fault Refusal :=
  if receiveFirst s && 64 ≤ s.pace.highRun && !(powerAbove s 950) then
    let s := s.wr 0 Reg.Root.DEV_STATUS_PACE_LOW 0
    .next (deviceEvent { s with pace := { s.pace with lowRun := 0 } } 0x13 [s.rd 0 Reg.Root.PACE_NOW, 0, 0, 0])
  else .next s

/-- PACE_FLOOR takes the value (R5, R19): in LOW the exit count restarts, and the interval in progress, still judged by the old
floor, is the first that the restarted count may take (DESIGN CHOICE, notes/assumptions/74.md). -/
def setFloor (s : State) (v : Nat) : State :=
  if Reg.Root.PACE_FLOOR.takes (v % 65536) then
    let s := s.wr 0 Reg.Root.PACE_FLOOR v
    if receiveFirst s then { s with pace := { s.pace with highRun := 0 } } else s
  else configError s .root

/-- PACE_FLOOR_WRITE (R19): the new floor holds from the next interval (`PaceSt.floor` takes it as this one ends). -/
def execPaceFloorWrite (r : Route) (v : BitVec 32) (s : State) : Host.Outcome State Fault Refusal :=
  .next (guarded s r 0x74 (fun t => setFloor t v.toNat))

/-- An AVSBus transaction not turned down counts as acknowledged: the run of unacknowledged ones ends (R15). -/
def avsSettle (s : State) : State :=
  if s.pace.avsOut.isSome then { s with pace := { s.pace with avsOut := none, nacks := 0 } } else s

/-- The regulator is commanded to `mv` (R13); it never leaves 0.60 V to 0.85 V (R14). -/
def avsCommand (s : State) (mv : Nat) : State :=
  let s := avsSettle s
  let v := Nat.max 600 (Nat.min 850 mv)
  cnt1 (({ s with pace := { s.pace with vcore := v, avsOut := some s.pace.vcore } }).emit (.avsVoltage v)) .root 0x101

/-- The first matching row of the loop table (R13). The VCORE that the rows compare and step from is the last value commanded
(DESIGN CHOICE, notes/assumptions/74.md). -/
def loopRow (s : State) : State :=
  if s.on 0 Reg.Root.DEV_STATUS_AVS_FAILED then s
  else if powerAbove s 950 && 600 < s.pace.vcore then avsCommand s (s.pace.vcore - 10)
  else if powerAbove s 930 then s
  else if meanBelow s.pace.hist 1485 && s.pace.vcore < 850 then avsCommand s (s.pace.vcore + 5)
  else if meanAbove s.pace.hist 1515 && 600 < s.pace.vcore then avsCommand s (s.pace.vcore - 5)
  else s

/-- AVS_LOOP_PERIOD (R13, R14, R17). The condition of R17 is tested in the same period on the VCORE just commanded, before the
regulator has acknowledged it (DESIGN CHOICE, notes/assumptions/74.md). -/
def execAvsLoopPeriod (s : State) : Host.Outcome State Fault Refusal :=
  .next (if s.pace.running then capCheck (loopRow s) else s)

/-- The last rail reading scaled by the change in pace since it was taken (R18): rounded down, and unscaled while the pace held
with the reading is 0 (DESIGN CHOICE, notes/assumptions/74.md). -/
def scaledRail (s : State) : Nat :=
  if s.pace.railPace = 0 then s.pace.railW else s.pace.railW * s.rd 0 Reg.Root.PACE_NOW / s.pace.railPace

/-- The VCORE-rail power of this estimate, and the state with the reading kept (R16, R18). -/
def railPower (s : State) (rail : Option RailReading) : Nat × State :=
  if s.on 0 Reg.Root.DEV_STATUS_AVS_FAILED then (scaledRail s, s)
  else match rail with
    | some x =>
      let p := { s.pace with railW := x.watts.toNat, railPace := s.rd 0 Reg.Root.PACE_NOW, avsOut := none, nacks := 0 }
      (x.watts.toNat, ({ s with pace := p }).wr 0 Reg.Hk.VCORE_MV x.mv.toNat)
    | none => (scaledRail s, s)

/-- POWER_ESTIMATE (R16 to R18): the estimate joins the ten-sample average, and the cap is tested. -/
def execPowerEstimate (rail : Option RailReading) (islandsW : BitVec 16) (s : State) :
    Host.Outcome State Fault Refusal :=
  if s.pace.running then
    let (w, s) := railPower s rail
    let power := ((w + islandsW.toNat) :: s.pace.power).take 10
    let s := ({ s with pace := { s.pace with power := power } }).wr 0 Reg.Hk.PKG_POWER_W (total power / power.length)
    .next (capCheck s)
  else .next s

/-- AVS_TXN_NACK (R15): the voltage command did not act; the third unacknowledged transaction in a row marks AVSBus
failed and raises the AVS-fault event. -/
def execAvsTxnNack (s : State) : Host.Outcome State Fault Refusal :=
  if s.on 0 Reg.Root.DEV_STATUS_AVS_FAILED then .next s
  else
    let s := { s with pace := { s.pace with vcore := s.pace.avsOut.getD s.pace.vcore, avsOut := none,
                                            nacks := s.pace.nacks + 1 } }
    if 3 ≤ s.pace.nacks then
      .next (((s.wr 0 Reg.Root.DEV_STATUS_AVS_FAILED 1).wr 0 Reg.Hk.VCORE_MV 0).emit (.named .avsFault))
    else .next s

/-- AVS_STATUS_READ (R15): while AVSBus is marked failed, one status read goes out. -/
def execAvsStatusRead (s : State) : Host.Outcome State Fault Refusal :=
  .next (if s.on 0 Reg.Root.DEV_STATUS_AVS_FAILED then s.emit .avsStatusRead else s)

/-- AVS_STATUS_ACK (R15): an acknowledged status read clears the failed mark. -/
def execAvsStatusAck (mv : BitVec 16) (s : State) : Host.Outcome State Fault Refusal :=
  if s.on 0 Reg.Root.DEV_STATUS_AVS_FAILED then
    let s := (s.wr 0 Reg.Root.DEV_STATUS_AVS_FAILED 0).wr 0 Reg.Hk.VCORE_MV mv.toNat
    .next { s with pace := { s.pace with nacks := 0 } }
  else .next s

end Sys2Proof.Machine
end

