-- ==== Sys2Proof/Machine/Pool.lean ====
section
/-!
DEFINITION. Commands of the memory-pool family (spec/13_memory_pool.md): extent commands, sanitizes, pairs, stack failures,
scrub.
-/
namespace Sys2Proof.Machine

/-! ### Extent commands (R448, R451, R458, R459) -/

/-- OWNER codes (R459). -/
def Owner.code : Owner → Nat
  | .free => 0 | .host => 1 | .shared => 2 | .fabric => 3 | .device => 4 | .failed => 5

/-- XSTATE codes (R459). -/
def XState.code : XState → Nat
  | .settled => 0 | .offered => 1 | .releasing => 2 | .sanitizing => 3 | .copying => 4

/-- A GO of EXT_CMD: the command runs on the extent of EXT_CMD_EXTENT, when it is backed, and leaves its RESULT (R458). -/
def extCmd (r : Route) (op : Nat) (run : State → Nat → ExtSt → Nat × State) (s : State) : State :=
  guarded s r (poolBase + 0x40) (fun s =>
    if s.on poolBase Reg.Pool.EXT_STATUS_BUSY then accViol s r .cmdBusy (poolBase + 0x40)
    else
      let s := s.wr poolBase Reg.Pool.EXT_CMD_OP op
      let e := s.rd poolBase Reg.Pool.EXT_CMD_EXTENT
      let x := match s.ext e with
        | none => (1, s)
        | some x => run s e x
      x.2.wr poolBase Reg.Pool.EXT_STATUS_RESULT x.1)

/-- ASSIGN (R448): an owner that the table of R448 does not give ends with RESULT 2, a reserved one with 3. -/
def execAssign (r : Route) (s : State) : Host.Outcome State Fault Refusal :=
  .next (extCmd r 1 (fun s e x =>
    let o := s.rd poolBase Reg.ExtIm.OWNER
    if x.owner ≠ .free ∨ x.xstate ≠ .settled ∨ x.isMirror then (2, s)
    else if o = 3 then (0, putExt s e { x with owner := .fabric, partition := s.rd poolBase Reg.ExtIm.PARTITION })
    else if o = 4 then (0, putExt s e { x with owner := .device, partition := s.rd poolBase Reg.ExtIm.PARTITION })
    else (if o = 6 ∨ o = 7 then 3 else 2, s)) s)

/-- RELEASE (R448). -/
def execRelease (r : Route) (s : State) : Host.Outcome State Fault Refusal :=
  .next (extCmd r 2 (fun s e x =>
    if (x.owner = .fabric ∨ x.owner = .device) ∧ x.open_ then (0, startRelease s e)
    else if x.owner = .failed ∧ !(isHbm e) then (0, putExt s e ExtSt.init)
    else (2, s)) s)

/-- PAIR (R451): MIRROR of the image names the mirror. -/
def execPair (r : Route) (s : State) : Host.Outcome State Fault Refusal :=
  .next (extCmd r 3 (fun s e x =>
    let m := s.rd poolBase Reg.ExtIm.MIRROR
    let alive := fun (k : Nat) => s.rd (stackBase (homeStack k)) Reg.Stk.STACK_STATE ≠ 2
    match s.ext m with
    | none => (3, s)
    | some y =>
      if isHbm e ∧ isHbm m ∧ homeStack e ≠ homeStack m ∧ alive e ∧ alive m ∧ y.owner = .free ∧ y.xstate = .settled ∧ !y.isMirror ∧
          !y.mirrored ∧ !x.mirrored ∧ !x.isMirror ∧ !x.onMirror ∧ x.xstate ≠ .copying then
        let s := s.setExt m { y with isMirror := true, mirror := e }
        if x.owner = .free then (0, putExt s e { x with mirrored := true, mirror := m })
        else (0, putExt s e { x with xstate := .copying, mirror := m })
      else (3, s)) s)

/-- UNPAIR (R451): refused while ON_MIRROR is 1, and where there is no pair. -/
def execUnpair (r : Route) (s : State) : Host.Outcome State Fault Refusal :=
  .next (extCmd r 4 (fun s e x => if x.mirrored && !x.onMirror then (0, endPair s e) else (3, s)) s)

/-- QUERY (R459): the whole entry in the image. -/
def execExtentQuery (r : Route) (s : State) : Host.Outcome State Fault Refusal :=
  .next (extCmd r 5 (fun s _ x =>
    let b := poolBase
    let s := (((s.wr b Reg.ExtIm.OWNER x.owner.code).wr b Reg.ExtIm.XSTATE x.xstate.code).wr b Reg.ExtIm.MIRRORED
      (b2n x.mirrored)).wr b Reg.ExtIm.IS_MIRROR (b2n x.isMirror)
    let s := ((s.wr b Reg.ExtIm.ON_MIRROR (b2n x.onMirror)).wr b Reg.ExtIm.PARTITION x.partition).wr b Reg.ExtIm.MIRROR x.mirror
    (0, s.wr64 b Reg.ExtIm.HOST_MASK_LO Reg.ExtIm.HOST_MASK_HI x.hosts)) s)

/-! ### What runs without a command (R448 to R451) -/

/-- RELEASE_DRAINED (R448, R451): the sanitize starts or queues, and a mirrored extent's pair ends with both copies
sanitized. -/
def execReleaseDrained (e : Fin 131072) (s : State) : Host.Outcome State Fault Refusal :=
  match s.ext e.val with
  | none => .next s
  | some x =>
    if x.xstate ≠ .releasing then .next s
    else
      let s := pumpExtents s
      if !(extentQuiet s e.val) then .next s
      else if x.onMirror then
        let s := endPair s e.val
        .next (match s.ext e.val with
          | some x => putExt (zeroExtent s e.val) e.val { x with owner := .failed, xstate := .settled, hosts := 0, partition := 0 }
          | none => s)
      else .next (queueSanitize (endPair s e.val) e.val)

/-- SANITIZE_DONE (R448, R449): the extent first in its stack's queue. -/
def execSanitizeDone (e : Fin 131072) (s : State) : Host.Outcome State Fault Refusal :=
  let st := homeStack e.val
  match lookD s.pool.san st [] with
  | [] => .next s
  | k :: rest =>
    if k ≠ e.val then .next s
    else
      let s := { s with pool := { s.pool with san := if rest.isEmpty then del s.pool.san st else put s.pool.san st rest } }
      let s := putExt (zeroExtent s e.val) e.val (match s.ext e.val with
        | some x => { ExtSt.init with mirrored := x.mirrored, isMirror := x.isMirror, onMirror := x.onMirror, mirror := x.mirror }
        | none => ExtSt.init)
      let s := s.bump poolBase Reg.Pool.SAN_DONE_CNT
      .next (sanitizeEvent (countEv s (.stack (idx 5 st)) (CntEvent.plain 0x103 4194304)) e.val)

/-- PAIR_COPY_DONE (R451): the pair forms. -/
def execPairCopyDone (e : Fin 1152) (s : State) : Host.Outcome State Fault Refusal :=
  match s.ext e.val with
  | some x => .next (if x.xstate = .copying then putExt s e.val { x with xstate := .settled, mirrored := true } else s)
  | none => .next s

/-- POOL_INIT_DONE (R450): every line written, every HBM extent that has not failed FREE and settled. -/
def execPoolInitDone (s : State) : Host.Outcome State Fault Refusal :=
  if s.pool.ready then .next s
  else .next (showFree { s with pool := { s.pool with ready := true, mem := [], poison := [], dirSh := [] } })

/-! ### Failures, scrub, counters (R452 to R455, R458) -/

/-- HBM_PHY_LOCK_LOSS (R452). -/
def execHbmPhyLockLoss (st : Fin 6) (s : State) : Host.Outcome State Fault Refusal := .next (failStack s st.val)

/-- HBM_CMD_TIMEOUT (R452). -/
def execHbmCmdTimeout (st : Fin 6) (s : State) : Host.Outcome State Fault Refusal := .next (failStack s st.val)

/-- The line lies in HBM, on a stack of its own that has not failed. -/
def scrubbable (s : State) (line : Nat) : Bool :=
  isHbm (extentOf (64 * line)) && s.rd (stackBase (homeStack (extentOf (64 * line)))) Reg.Stk.STACK_STATE != 2

/-- The line lies in HBM, and a copy of it on a stack that has not failed. -/
def hbmLine (s : State) (line : Nat) : Bool :=
  isHbm (extentOf (64 * line)) && s.rd (stackBase (readStack s (extentOf (64 * line)))) Reg.Stk.STACK_STATE != 2

/-- HBM_UNCORR_ERROR (R451 to R453): a demand read. -/
def execHbmUncorrError (line : BitVec 46) (otherGood : Bool) (s : State) : Host.Outcome State Fault Refusal :=
  .next (if hbmLine s line.toNat then uncorrLine s line.toNat 0 otherGood else s)

/-- STACK_OFFLINE (R452). -/
def execStackOffline (r : Route) (st : Fin 6) (s : State) : Host.Outcome State Fault Refusal :=
  .next (guarded s r (stackBase st.val + 0x404) (fun t => failStack t st.val))

/-- SCRUB_READ (R454): the next HBM line in DA order. -/
def execScrubRead (x : ScrubRead) (s : State) : Host.Outcome State Fault Refusal :=
  if s.rd poolBase Reg.Pool.SCRUB_HOURS = 0 then .next s
  else
    let line := s.pool.scrub
    let s := { s with pool := { s.pool with scrub := (line + 1) % (1152 * 2 ^ 22) } }
    if !(scrubbable s line) then .next s
    else
      let st := homeStack (extentOf (64 * line))
      let s := cnt1 s (.stack (idx 5 st)) 0x102
      match x with
      | .good => .next s
      | .corrected =>
        let s := (s.bump poolBase Reg.Pool.SCRUB_CORR_CNT).bump (stackBase st) Reg.Stk.ECC_CORR_CNT
        .next (recordError s (ErrRec.ecc (.stack (idx 5 st)) true 0 (64 * line)))
      | .uncorrectable g => .next (uncorrLine s line 1 g)

/-- POOL_CNT_CLR (R458). -/
def execPoolCntClr (r : Route) (s : State) : Host.Outcome State Fault Refusal :=
  .next (guarded s r (poolBase + 0x6C) (fun t => t.clearAll poolBase [Reg.Pool.SAN_DONE_CNT, Reg.Pool.SCRUB_CORR_CNT,
    Reg.Pool.POISON_NEW_CNT, Reg.Pool.MIRROR_REPAIR_CNT, Reg.Pool.LOST_WB_CNT, Reg.Pool.POISON_READ_CNT]))

/-- ELOG_CLR (R458). -/
def execElogClr (r : Route) (s : State) : Host.Outcome State Fault Refusal :=
  .next (guarded s r (poolBase + 0x6C) (fun t => t.wr poolBase Reg.Pool.ELOG_CI (t.rd poolBase Reg.Pool.ELOG_PI)))

end Sys2Proof.Machine
end

