-- ==== Sys2Proof/Machine/FlaskOps.lean ====
section
/-!
DEFINITION. Flask's banks: headers, image prologues, validity, and the registers that report them (R572 to R577, R594).
-/
namespace Sys2Proof.Machine

/-- Window of the Flask unit. -/
def flaskBase : Nat := base .flask

/-- An event bit of the Flask unit. -/
def flaskEvent (s : State) (i : Nat) : State := s.setEvt flaskBase Reg.Flk.FLK_EVENT i

/-- MAGIC of a firmware bank and of a configuration bank (R573). -/
def magicFw : BitVec 32 := 0x46514657
def magicCfg : BitVec 32 := 0x46514347
/-- IMG_MAGIC of an image prologue (R574). -/
def magicImg : Nat := 0x4651494D

/-- The largest image of an area: its size less the header (R572, R573). -/
def areaMax (cfgArea : Bool) : Nat := (if cfgArea then 4 else 24) * 2 ^ 20 - 4096

/-- LENGTH may stand (R573). -/
def lengthGood (cfgArea : Bool) (n : Nat) : Bool := n % 4 == 0 && 4 ≤ n && n ≤ areaMax cfgArea

/-- The bank of an area: `cfgArea` tells the area, `bankB` the bank. -/
def bankOf (s : State) (cfgArea bankB : Bool) : FlaskBank :=
  match cfgArea, bankB with
  | false, false => s.flask.fwA
  | false, true => s.flask.fwB
  | true, false => s.flask.cfgA
  | true, true => s.flask.cfgB

/-- The bank changed. -/
def setBank (s : State) (cfgArea bankB : Bool) (b : FlaskBank) : State :=
  match cfgArea, bankB with
  | false, false => { s with flask := { s.flask with fwA := b } }
  | false, true => { s with flask := { s.flask with fwB := b } }
  | true, false => { s with flask := { s.flask with cfgA := b } }
  | true, true => { s with flask := { s.flask with cfgB := b } }

/-- The header unit at 0x000 written as zero: MAGIC, HDR_VER and SVN (R573, R576). -/
def zeroUnit (b : FlaskBank) : FlaskBank := { b with magic := 0, hdrVer := 0, svn := 0 }

/-- Header bytes 0x000 to 0x017 (R573). -/
def headerBytes (b : FlaskBank) : List Byte :=
  leBytes b.magic.toNat 4 ++ [b.hdrVer, b.svn, 0, 0] ++ leBytes b.seq.toNat 8 ++ leBytes b.length.toNat 4 ++ [0, 0, 0, 0]

/-- The LENGTH image bytes. -/
def imageBytes (b : FlaskBank) : List Byte := b.image.take b.length.toNat

/-- CHECK as R573 computes it. -/
def bankCheck (b : FlaskBank) : Nat := crc32c ((headerBytes b ++ imageBytes b).map BitVec.toNat)

/-- The image prologue passes its checks (R574): `n` is LENGTH. -/
def prologueGood (img : List Byte) (n : Nat) : Bool :=
  64 ≤ n && leAt img 0 4 == magicImg && leAt img 8 4 == n && leAt img 12 4 == magicFw.toNat && leAt img 5 3 == 0 &&
  ((img.drop 0x30).take 16).all (· == 0)

/-- IMG_SVN of an image (R574). -/
def imageSvn (img : List Byte) : Nat := leAt img 4 1

/-- MIN_SVN (R583). -/
def minSvn (s : State) : Nat := s.rd flaskBase Reg.Flk.SVN_MIN_SVN

/-- The bank is valid (R575); `sig` is what the signature check of a firmware bank finds. -/
def bankValid (s : State) (cfgArea bankB sig : Bool) : Bool :=
  let b := bankOf s cfgArea bankB
  b.magic == (if cfgArea then magicCfg else magicFw) && b.hdrVer == 1 && lengthGood cfgArea b.length.toNat &&
  b.check.toNat == bankCheck b &&
  (cfgArea || (sig && prologueGood (imageBytes b) b.length.toNat && imageSvn (imageBytes b) == b.svn.toNat &&
    minSvn s ≤ b.svn.toNat))

/-- BANK_STATUS of a bank. -/
def validField (cfgArea bankB : Bool) : Field :=
  match cfgArea, bankB with
  | false, false => Reg.Flk.BANK_STATUS_FWA_VALID
  | false, true => Reg.Flk.BANK_STATUS_FWB_VALID
  | true, false => Reg.Flk.BANK_STATUS_CFGA_VALID
  | true, true => Reg.Flk.BANK_STATUS_CFGB_VALID

/-- The SEQ registers of a bank. -/
def seqFields (cfgArea bankB : Bool) : Field × Field :=
  match cfgArea, bankB with
  | false, false => (Reg.Flk.FWA_SEQ_LO, Reg.Flk.FWA_SEQ_HI)
  | false, true => (Reg.Flk.FWB_SEQ_LO, Reg.Flk.FWB_SEQ_HI)
  | true, false => (Reg.Flk.CFGA_SEQ_LO, Reg.Flk.CFGA_SEQ_HI)
  | true, true => (Reg.Flk.CFGB_SEQ_LO, Reg.Flk.CFGB_SEQ_HI)

/-- BANK_STATUS and SEQ of a bank as a test of it leaves them: SEQ 0 when invalid (R575, R594). -/
def showBank (s : State) (cfgArea bankB good : Bool) : State :=
  let f := seqFields cfgArea bankB
  (s.wr flaskBase (validField cfgArea bankB) (b2n good)).wr64 flaskBase f.1 f.2 (if good then (bankOf s cfgArea bankB).seq.toNat else 0)

/-- BANK_STATUS says that the bank is valid. -/
def bankGood (s : State) (cfgArea bankB : Bool) : Bool := s.on flaskBase (validField cfgArea bankB)

/-- SEQ of a bank as the registers show it. -/
def bankSeq (s : State) (cfgArea bankB : Bool) : Nat :=
  s.rd64 flaskBase (seqFields cfgArea bankB).1 (seqFields cfgArea bankB).2

/-- The valid bank of highest SEQ (R577, R580, R581): bank A when both have the same. -/
def bestBank (s : State) (cfgArea : Bool) : Option Bool :=
  match bankGood s cfgArea false, bankGood s cfgArea true with
  | false, false => none
  | true, false => some false
  | false, true => some true
  | true, true => some (bankSeq s cfgArea false < bankSeq s cfgArea true)

/-- The target bank of a store: the one that is not the valid bank of highest SEQ, or A when neither is valid (R576). -/
def targetBank (s : State) (cfgArea : Bool) : Bool :=
  match bestBank s cfgArea with
  | none => false
  | some b => !b

/-- SEQ that a store gives its bank: the highest of the valid banks' plus one, or 1 (R577). -/
def nextSeq (s : State) (cfgArea : Bool) : Nat :=
  match bestBank s cfgArea with
  | none => 1
  | some b => bankSeq s cfgArea b + 1

/-- Every bank tested (R575). -/
def testBanks (s : State) (sigA sigB : Bool) : State :=
  let s := showBank s false false (bankValid s false false sigA)
  let s := showBank s false true (bankValid s false true sigB)
  let s := showBank s true false (bankValid s true false true)
  showBank s true true (bankValid s true true true)

/-- The records of a configuration image: offset and value (R578). -/
def recordsOf (img : List Byte) : List (Nat × Nat) :=
  (List.range (img.length / 8)).map (fun i => (leAt img (8 * i) 4, leAt img (8 * i + 4) 4))

end Sys2Proof.Machine
end

