-- ==== Sys2Proof/Machine/Counters.lean ====
section
/-!
DEFINITION. Counter banks, the Gazetteer and Trail (R519 to R540 of spec/16_performance_counters.md): selections and their
holding, sweep ticks, dumps, samples and their records. Trail's hooks are in Machine/TrailOps.lean.
-/
namespace Sys2Proof.Machine

/-! ### Selections (R520, R523, R525) -/

/-- The number of event codes that the bank defines, of the common ones and of the unit's own (R524, R525). -/
def eventDefined (u : UnitId) (code : Nat) : Bool := code < 7 || (0x100 ≤ code && code < 0x100 + bankEvents u)

/-- A field key belongs to a selection, a master or an address range of the unit's counter bank. -/
def isSelection (u : UnitId) (key : Nat) : Bool :=
  match bankOffset u with
  | none => false
  | some o =>
    let w := key / 32 - base u - o
    base u + o ≤ key / 32 && ((0x10 ≤ w && w < 0x30) || (0x100 ≤ w && w < 0x100 + 16 * bankCounters u && w % 16 < 8))

/-- The selection writes applied to a bank together: SEL_GEN rises once, and an event code that the bank does not define is
a configuration error (R523, R525). -/
def applySel (s : State) (u : UnitId) (kvs : List (Nat × Nat)) : State :=
  match bankOffset u with
  | none => s
  | some o =>
    if kvs.isEmpty then s
    else
      let b := base u + o
      let s := { s with regs := kvs.foldl (fun (m : AMap Nat) (kv : Nat × Nat) => put m kv.1 kv.2) s.regs }
      let s := s.wr b Reg.Cnt.CNT_INFO_SEL_GEN (s.rd b Reg.Cnt.CNT_INFO_SEL_GEN + 1)
      let s := s.setGz { s.gz with chosen := addOnce s.gz.chosen (base u) }
      let bad := kvs.any (fun kv => kv.1 % 32 = 0 && (kv.1 / 32 - b) % 16 = 0 && b + 0x100 ≤ kv.1 / 32 && !(eventDefined u kv.2))
      if bad then configError s u else s

/-- Selection writes that have reached their bank: held while the Gazetteer runs, applied at once otherwise (R523). -/
def bankPut (s : State) (u : UnitId) (kvs : List (Nat × Nat)) : State :=
  if s.on gzBase Reg.Gz.GZ_CFG_EN then
    s.setGz { s.gz with held := kvs.foldl (fun (m : AMap Nat) (kv : Nat × Nat) => put m kv.1 kv.2) s.gz.held }
  else applySel s u kvs

/-- Every unit of the device, in ascending order of window offset below each parent. -/
def allUnits : List UnitId := subtree .root

/-- The held selection writes of every bank whose clock runs are applied (R523). -/
def applyHeld (s : State) : State :=
  ((s.gz.held.map (fun kv => unitAt (kv.1 / 32))).foldl addOnce []).foldl (fun t u =>
    if clockRuns t u then
      let mine := t.gz.held.filter (fun kv => unitAt (kv.1 / 32) == u)
      let t := t.setGz { t.gz with held := t.gz.held.filter (fun kv => unitAt (kv.1 / 32) != u) }
      applySel t u mine
    else t) s

/-! ### Writing fields -/

/-- The fields of a word that a write of `v` touches, each with its key and value: those that `acc` names. -/
def fieldWrites (u : UnitId) (w v : Nat) (acc : Field → Bool) : List (Field × Nat × Nat) :=
  ((fieldsAt u w).filter acc).map (fun f => (f, keyAt u w f, v / 2 ^ f.lo % 2 ^ f.width))

/-- The accepted values of a write, and whether one lies outside its range, which is not applied and a configuration error
(R5). -/
def inRange (l : List (Field × Nat × Nat)) : List (Nat × Nat) × Bool :=
  ((l.filter (fun x => x.1.takes x.2.2)).map (fun x => x.2), l.any (fun x => !(x.1.takes x.2.2)))

/-- A write of the fields with this access code that a word holds, by `act` on the accepted values (R5, R59). -/
def putFields (s : State) (u : UnitId) (w v : Nat) (acc : Field → Bool) (act : State → List (Nat × Nat) → State) : State :=
  let r := inRange (fieldWrites u w v acc)
  let s := if r.2 then configError s u else s
  if r.1.isEmpty then s else act s r.1

/-- A write of a selection word of a bank: far-posted in a clocked island (R520). -/
def selWrite (s : State) (r : Route) (u : UnitId) (off v : Nat) : State :=
  if legIsland u < 60 then postFp s r u off ((fieldWrites u (off - base u) v (fun f => f.acc = .fp)).map (·.2))
  else putFields s u (off - base u) v (fun f => f.acc = .rw) (fun t kvs => bankPut t u kvs)

/-- COUNTER_SEL_WRITE (R523): a word of a bank's selections, masters or address ranges. -/
def execCounterSelWrite (r : Route) (w : BusWrite) (s : State) : Host.Outcome State Fault Refusal :=
  let o := w.off.toNat
  let u := unitAt o
  if s.boot.hardTrip then .next s else
  .next (match writeRefused s r o w.enables.toNat with
    | some v => accViol s r v o
    | none => if isSelection u (32 * o) then selWrite s r u o w.value.toNat else s)

/-! ### Sweep ticks (R526, R530) -/

/-- The counters and slot values of a bank as they are. -/
def bankValues (s : State) (u : UnitId) (o : Nat) : List Nat :=
  let b := base u + o
  (List.range (bankCounters u)).map (fun i => s.rd64 (b + 16 * i) Reg.Cnt.VALUE_LO Reg.Cnt.VALUE_HI) ++
  (match u with
   | .engine _ => (List.range 4).map (fun j => s.rd64 (b + 8 * j) Reg.Cnt.SLOT_CNT_LO Reg.Cnt.SLOT_CNT_HI)
   | _ => [])

/-- The snapshot of a bank at a tick: none in a clocked island whose clock does not run (R526). -/
def snapOf (s : State) (u : UnitId) (o : Nat) : BankSnap :=
  let fresh := s.gz.fresh.contains (base u)
  if clockRuns s u then
    { vals := bankValues s u o, gen := s.rd (base u + o) Reg.Cnt.CNT_INFO_SEL_GEN, noSnap := false, reset := fresh }
  else
    let old := lookD s.gz.snaps (base u)
      { vals := (bankValues s u o).map (fun _ => 0), gen := 0, noSnap := true, reset := false }
    { old with noSnap := true, reset := fresh }

/-- SWEEP_TICK (R523, R526, R528). -/
def execSweepTick (s : State) : Host.Outcome State Fault Refusal :=
  if unitOff s .gazetteer || !(s.on gzBase Reg.Gz.GZ_CFG_EN) || s.gz.stopping then .next s
  else
    let n := (s.gz.ticks + 1) % 2 ^ 32
    let s := s.setGz { s.gz with ticks := n }
    if s.gz.dump.isSome then
      let s := (s.bump gzBase Reg.Gz.GZ_SKIP).setEvt gzBase Reg.Gz.GZ_EVENT 1
      .next (applyHeld (s.setGz { s.gz with skipped := s.gz.skipped + 1 }))
    else
      let snaps := allUnits.foldl (fun m u => match bankOffset u with
        | some o => put m (base u) (snapOf s u o)
        | none => m) s.gz.snaps
      let d : DumpSt := {
        tick := s.timebase, seq := n, period := s.rd gzBase Reg.Gz.GZ_PERIOD_US, pace := s.rd 0 Reg.Root.PACE_NOW,
        low := s.on 0 Reg.Root.DEV_STATUS_PACE_LOW, mask := s.rd gzBase Reg.Gz.GZ_TYPE_MASK }
      .next (applyHeld (s.setGz { s.gz with snaps := snaps, fresh := [], dump := some d }))

/-! ### Dumps (R527 to R531) -/

/-- The unit block of a bank (R530). -/
def unitBlock (s : State) (u : UnitId) : List Byte :=
  let x := lookD s.gz.snaps (base u) { vals := [], gen := 0, noSnap := true, reset := false }
  let slot := match u with | .engine _ => true | _ => false
  leBytes (base u) 4 ++ leBytes (legType u + 2 ^ 16 * legInstance u) 4 ++
  leBytes (bankCounters u + 2 ^ 8 * b2n slot + 2 ^ 9 * b2n x.noSnap + 2 ^ 10 * b2n x.reset + 2 ^ 16 * x.gen) 4 ++
  leBytes 0 4 ++ x.vals.flatMap (fun v => leBytes v 8)

/-- The units that a dump with this type mask holds, in ascending order of window offset (R527). -/
def dumpUnits (mask : Nat) : List UnitId :=
  ((allUnits.filter (fun u => (bankOffset u).isSome && bitOf mask (bankMaskBit u))).map (fun u => (base u, u))).foldl
    (fun (m : AMap UnitId) x => put m x.1 x.2) [] |>.map Prod.snd

/-- A length raised to whole 64-byte lines. -/
def wholeLines (n : Nat) : Nat := (n + 63) / 64 * 64

/-- The dump of a tick: header, unit blocks, zeros to a whole line (R527, R529). -/
def dumpBytes (s : State) (d : DumpSt) : List Byte :=
  let us := dumpUnits d.mask
  let body := us.flatMap (unitBlock s)
  let n := wholeLines (64 + body.length)
  leBytes 0x475A4431 4 ++ leBytes n 4 ++ leBytes d.tick 8 ++ leBytes d.seq 4 ++ leBytes (deviceId s + 2 ^ 16 * us.length) 4 ++
  leBytes d.period 4 ++ leBytes (d.pace + 2 ^ 16 * b2n d.low) 4 ++ leBytes s.gz.skipped 4 ++ leBytes s.gz.lost 4 ++
  leBytes 0 24 ++ body ++ List.replicate (n - 64 - body.length) 0

/-- A range of device addresses that the Gazetteer may write: each byte lies in backed memory (R445). -/
def gzReaches (s : State) (da n : Nat) : Bool := n == 0 || (isMemory s da && isMemory s (da + n - 1))

/-- Bytes written by the Gazetteer at a device address. -/
def gzWrite (s : State) (da : Nat) (b : List Byte) : State :=
  match regionOf da with
  | .pool => directWrite s da b false
  | .host a h => s.emit (.memWrite a h b)
  | _ => s

/-- A dump is lost (R528): counted, and device event 0x58 at most once per 1 ms. -/
def dumpLost (s : State) : State :=
  let s := (s.bump gzBase Reg.Gz.GZ_LOST).setEvt gzBase Reg.Gz.GZ_EVENT 0
  let quiet := within s s.gz.lostAt 1000000
  let s := s.setGz { s.gz with lost := s.gz.lost + 1, lostAt := if quiet then s.gz.lostAt else some s.now }
  if quiet then s else deviceEvent s 0x58 [s.rd gzBase Reg.Gz.GZ_LOST, 0, 0, 0]

/-- Every DECIM-th written dump also goes to stream 2 while a session holds it (R562). -/
def dumpToStream (s : State) (b : List Byte) : State :=
  match look s.mg.streams 2 with
  | none => s
  | some x =>
    let n := x.count + 1
    let hit := n % Nat.max x.decim 1 = 0
    let s := { s with mg := { s.mg with streams := put s.mg.streams 2 { x with count := n } } }
    if hit then streamPut s 2 (.bytes b) else s

/-- A write of EN = 0 takes effect, and selections held until now are applied (R523, R540). -/
def gzStop (s : State) : State :=
  applyHeld ((s.setGz { s.gz with stopping := false }).wr gzBase Reg.Gz.GZ_CFG_EN 0)

/-- The dump in progress has been written or lost. -/
def dumpOver (s : State) : State :=
  let s := s.setGz { s.gz with dump := none }
  if s.gz.stopping then gzStop s else s

/-- DUMP_WRITTEN (R528, R531): the dump, after a pad where it does not fit before the ring's end, becomes visible; or it is
lost, for want of space or because the write failed. -/
def execDumpWritten (fault : Bool) (s : State) : Host.Outcome State Fault Refusal :=
  match s.gz.dump with
  | none => .next s
  | some d =>
    let b := dumpBytes s d
    let size := 2 ^ s.rd gzBase Reg.Gz.GZ_LOG_SIZE
    let ring := s.rd64 gzBase Reg.Gz.GZ_BASE_LO Reg.Gz.GZ_BASE_HI
    let pi := s.rd gzBase Reg.Gz.GZ_PI
    let toEnd := size - pi % size
    let pad := if toEnd < b.length then toEnd else 0
    if size < ringDist pi (s.rd gzBase Reg.Gz.GZ_CI) + pad + b.length then .next (dumpOver (dumpLost s))
    else if fault || !(gzReaches s (ring + (pi + pad) % size) b.length) then .next (dumpOver (dumpLost (s.setEvt gzBase Reg.Gz.GZ_EVENT 2)))
    else
      let s := if pad = 0 then s
        else
          let rest := (List.range 56).map (fun i => Config.freeBits 8 (s.free + i))
          gzWrite { s with free := s.free + 56 } (ring + pi % size) (leBytes 0x475A5030 4 ++ leBytes pad 4 ++ rest)
      let s := gzWrite s (ring + (pi + pad) % size) b
      let pi := (pi + pad + b.length) % 2 ^ 32
      let s := (s.wr gzBase Reg.Gz.GZ_PI pi).wr gzBase Reg.Gz.GZ_LAST_LEN b.length
      let wb := s.rd64 gzBase Reg.Gz.GZ_WB_ADDR_LO Reg.Gz.GZ_WB_ADDR_HI
      let s := if wb = 0 then s else gzWrite s wb (leBytes pi 4)
      let s := countEv (cnt1 s .gazetteer 0x100) .gazetteer (CntEvent.plain 0x101 b.length)
      .next (dumpOver (dumpToStream (s.setGz { s.gz with skipped := 0, lost := 0 }) b))

/-- GZ_CI_WRITE (R528). -/
def execGzCiWrite (r : Route) (x : BitVec 32) (s : State) : Host.Outcome State Fault Refusal :=
  .next (guarded s r (gzBase + 0x5C) (fun s =>
    if ringDist (s.rd gzBase Reg.Gz.GZ_PI) x.toNat ≤ 2 ^ s.rd gzBase Reg.Gz.GZ_LOG_SIZE then s.wr gzBase Reg.Gz.GZ_CI x.toNat
    else configError s .gazetteer))

/-- GZ_EN_WRITE (R526, R540). -/
def execGzEnWrite (r : Route) (x : BitVec 32) (s : State) : Host.Outcome State Fault Refusal :=
  .next (guarded s r (gzBase + 0x40) (fun s =>
    if bitOf x.toNat 0 then
      if s.on gzBase Reg.Gz.GZ_CFG_EN then s.setGz { s.gz with stopping := false }
      else (s.setGz { s.gz with ticks := 0, stopping := false }).wr gzBase Reg.Gz.GZ_CFG_EN 1
    else if !(s.on gzBase Reg.Gz.GZ_CFG_EN) then s
    else if s.gz.dump.isSome then s.setGz { s.gz with stopping := true }
    else gzStop s))

/-- GZ_CNT_CLR (R539). -/
def execGzCntClr (r : Route) (s : State) : Host.Outcome State Fault Refusal :=
  .next (guarded s r (gzBase + 0x74) (fun s => s.clearAll gzBase
    [Reg.Gz.GZ_LOST, Reg.Gz.GZ_SKIP, Reg.Gz.TR_LOST, Reg.Gz.TR_SKIP]))

/-! ### Trail (R535 to R538) -/

/-- TRAIL_EN_WRITE (R535): the word of TR_CFG; EN written as 1 reloads every countdown. -/
def execTrailEnWrite (r : Route) (x : BitVec 32) (s : State) : Host.Outcome State Fault Refusal :=
  .next (guarded s r (gzBase + 0x80) (fun s =>
    let v := x.toNat
    let was := s.on gzBase Reg.Gz.TR_CFG_EN
    let s := ((((s.wr gzBase Reg.Gz.TR_CFG_EN (bits v 0 0)).wr gzBase Reg.Gz.TR_CFG_SEND (bits v 1 1)).wr gzBase
      Reg.Gz.TR_CFG_RECV (bits v 2 2)).wr gzBase Reg.Gz.TR_CFG_FUNC_EN (bits v 3 3)).wr gzBase Reg.Gz.TR_CFG_FUNC (bits v 25 16)
    if bitOf v 0 then
      (List.range 16).foldl trailReload (if was then s else s.setGz { s.gz with trSeq := 0 })
    else s))

/-- TRAIL_ITEM_END (R536, R538): the oldest ended item yields its record, held on die or lost. -/
def execTrailItemEnd (s : State) : Host.Outcome State Fault Refusal :=
  match s.gz.items.find? (fun x => x.ended) with
  | none => .next s
  | some x =>
    let n := (s.gz.trSeq + 1) % 2 ^ 32
    let s := s.setGz { s.gz with items := s.gz.items.erase x, trSeq := n }
    if s.gz.recs.length < 1024 then
      let s := s.setGz { s.gz with recs := s.gz.recs ++ [x.record n] }
      .next (cnt1 (s.wr gzBase Reg.Gz.TR_HELD s.gz.recs.length) .gazetteer 0x102)
    else .next (trailLost s 1)

/-- TRAIL_RECORD_MOVE (R538): the oldest held record goes to the ring, when it has room; a failed write loses it. -/
def execTrailRecordMove (fault : Bool) (s : State) : Host.Outcome State Fault Refusal :=
  match s.gz.recs with
  | [] => .next s
  | b :: rest =>
    let size := 2 ^ s.rd gzBase Reg.Gz.TR_LOG_SIZE
    let pi := s.rd gzBase Reg.Gz.TR_PI
    let da := s.rd64 gzBase Reg.Gz.TR_BASE_LO Reg.Gz.TR_BASE_HI + 64 * (pi % size)
    if size ≤ ringDist pi (s.rd gzBase Reg.Gz.TR_CI) then .next s
    else
      let s := (s.setGz { s.gz with recs := rest }).wr gzBase Reg.Gz.TR_HELD rest.length
      if fault || !(gzReaches s da 64) then .next (trailLost (s.setEvt gzBase Reg.Gz.GZ_EVENT 2) 1)
      else .next ((gzWrite s da b).wr gzBase Reg.Gz.TR_PI (pi + 1))

end Sys2Proof.Machine
end

