-- ==== Sys2Proof/Machine/CfgRules.lean ====
section
/-!
DEFINITION. Rules that a written or committed value must meet beyond its field's own range, and the states in which a unit
locks a field (R5 and the rules of the chapters).
-/
namespace Sys2Proof.Machine

/-! ### Values that may not stand together -/

/-- Values of the thermal pair that may stand together (R633). -/
def thermGood (warn trip : Nat) : Bool := warn + 5 ≤ trip

/-- Values of DRS_ETYPE that are applied (R571). -/
def etypeGood (n : Nat) : Bool := 0x600 ≤ n && n != 0x88F7

/-- The word at offset `w` of the switch core holds the MIN_KIB and MAX_KIB of one RED profile (R161, R178). -/
def profileWord (w : Nat) : Bool :=
  0x10000 ≤ w && w < 0x10000 + 32 * 384 && (w % 32 == 8 || w % 32 == 0x10 || w % 32 == 0x18)

/-- Two domain ranges may stand (R343): within domain 4,095, and no other function's range overlaps. -/
def fnDomGood (s : State) (f first count : Nat) : Bool :=
  first + count ≤ 4096 &&
  (List.range 1024).all (fun k => k == f ||
    !(overlaps first count (s.rdi mtBase Reg.Mt.FN_DOM_DOM_FIRST k) (s.rdi mtBase Reg.Mt.FN_DOM_DOM_COUNT k)))

/-- The whole value of a word may not be applied, whatever its fields' own ranges say; an address that a register table wants
aligned is out of range when it is not, a ring's base by the smallest size its register gives a ring (R271, R400, R501, R539;
notes/assumptions/82.md). -/
def wordBad (s : State) (u : UnitId) (w v : Nat) : Bool :=
  match u with
  | .root => w == 0x188 && !(thermGood (v % 256) (v / 256 % 256))
  | .mgmtProc => w == 0x50 && !(etypeGood (v % 65536))
  | .cluster _ => w == 0x44 && v % 4096 != 0
  | .compass => w == 0x44 && v % 4096 != 0
  | .stack i => i.val == 0 && w == 0x208 && v % 4096 != 0
  | .gazetteer => (w == 0x4C && v % 2 ^ 17 != 0) || (w == 0x60 && v % 8 != 0) || (w == 0x8C && v % 2 ^ 12 != 0)
  | .switchCore => profileWord w && v / 65536 ≤ v % 65536
  | .matching => 0x1000 ≤ w && w < 0x2000 && !(fnDomGood s ((w - 0x1000) / 4) (v % 4096) (v / 65536 % 512))
  | _ => false

/-! ### Fields that a state locks -/

/-- What a write of a locked field does: nothing; nothing but a configuration error (R5); an access violation. -/
inductive Lock | open_ | silent | error | violation
  deriving DecidableEq, Repr

/-- The lock on a field of the word at offset `w` of a unit (R271, R274, R343, R347, R400, R420, R429, R539); BYPASS_FORCE is
reserved in unit B (R570). -/
def lockOf (s : State) (u : UnitId) (w : Nat) (f : Field) : Lock :=
  let when_ := fun (b : Bool) (l : Lock) => if b then l else .open_
  match u with
  | .cluster c =>
    if (w == 0x40 && f.lo != 0) || (0x44 ≤ w && w ≤ 0x4C) then when_ (s.on (clusterBase c.val) Reg.Tc.CTX_CFG_EN) .error
    else if c.val = 0 ∧ 0x1000 ≤ w ∧ w < 0x9000 ∧ w % 32 ≤ 0xC then when_ (fnRd s ((w - 0x1000) / 32) Reg.FnTab.FN_VALID == 1) .silent
    else .open_
  | .matching => when_ (0x1000 ≤ w && w < 0x2000 && fnRd s ((w - 0x1000) / 4) Reg.FnTab.FN_VALID == 1) .silent
  | .compass => when_ (0x44 ≤ w && w ≤ 0x4C && s.on (base .compass) Reg.Xl.KEY_CFG_EN) .error
  | .collective =>
    when_ (0x10000 ≤ w && w < 0x30000 && (let st := s.rdi (base .collective) Reg.Out.STATE ((w - 0x10000) / 512); st != 0 && st != 2)) .violation
  | .gazetteer =>
    if 0x4C ≤ w ∧ w ≤ 0x54 then when_ (s.on gzBase Reg.Gz.GZ_CFG_EN) .error
    else if 0x8C ≤ w ∧ w ≤ 0x94 then when_ (s.on gzBase Reg.Gz.TR_CFG_EN) .error
    else .open_
  | .attachment a =>
    when_ ((0x100 ≤ w && w < 0x300 && s.rdi (attBase a.val) Reg.FarWin.VALID ((w - 0x100) / 32) == 1) ||
      (0x500 ≤ w && w < 0x580 && s.rdi (attBase a.val) Reg.Claim.VALID ((w - 0x500) / 16) == 1)) .silent
  | .mgmtEth k => when_ (k.val = 1 && w == 0x40 && f.lo == 8) .silent
  | _ => .open_

/-! ### Commits (R401, R411, R412) -/

/-- The key range of an FN_XLATE entry may stand (R401). -/
def keyRangeGood (s : State) (f : Nat) : Bool :=
  let b := base .compass
  let first := s.rdi b Reg.FnXl.KEY_FIRST f
  let count := s.rdi b Reg.FnXl.KEY_COUNT f
  count == 0 ||
  (first + count ≤ s.rd b Reg.Xl.KEY_ENTRIES &&
   (List.range 1024).all (fun k => k == f || s.rdi b Reg.FnXl.VALID k == 0 ||
     !(overlaps first count (s.rdi b Reg.FnXl.KEY_FIRST k) (s.rdi b Reg.FnXl.KEY_COUNT k))))

/-- The VF range of attachment `a` may stand (R412). -/
def vfGood (s : State) (a : Nat) : Bool :=
  let n := attRd s a Reg.Att.VF_MAX
  let f := attRd s a Reg.Att.VF_FIRST
  n == 0 || (64 ≤ f && f + n ≤ 1024 &&
    (List.range 64).all (fun k => k == a || !(overlaps f n (attRd s k Reg.Att.VF_FIRST) (attRd s k Reg.Att.VF_MAX))))

/-- OWNED may change as committed (R411): `t` is the state with the commit. -/
def ownedGood (s t : State) (a : Nat) : Bool :=
  let was := attRd s a Reg.Att.ATT_CFG_OWNED == 1
  let is_ := attRd t a Reg.Att.ATT_CFG_OWNED == 1
  if is_ && !was then !(isBound s a)
  else if was && !is_ then
    attRd t a Reg.Att.ATT_CFG_APT_EN == 0 && (List.range 8).all (fun k => s.rdi (attBase a) Reg.Claim.VALID k == 0)
  else true

/-- Of the keys that a commit of unit `u` would set, those that are not applied: `s` before, `t` with all of them. -/
def badKeys (s t : State) (u : UnitId) (keys : List Nat) : List Nat :=
  match u with
  | .compass =>
    let word := fun (k : Nat) => k / 32 - base u - 0x1000
    keys.filter (fun k => 0x1000 ≤ k / 32 - base u && k / 32 - base u < 0x9000 &&
      (let f := word k / 32
       let range := fun (x : Nat) => word x / 32 == f && (word x % 32 == 0x10 || word x % 32 == 0x14)
       (range k || (word k % 32 == 0 && k % 32 == 0 && !(keys.any range))) && !(keyRangeGood t f)))
  | .attachment a =>
    (if vfGood t a.val then [] else keys.filter (fun k => k / 32 - base u == 0x44)) ++
    (if ownedGood s t a.val then [] else keys.filter (fun k => k == Reg.Att.ATT_CFG_OWNED.key (base u)))
  | _ => []

end Sys2Proof.Machine
end

