-- ==== Sys2Proof/Machine/Coherence.lean ====
section
/-!
DEFINITION. Commands of the coherence family (spec/14_coherence.md): requests and writebacks at the home slices, snoop
responses, what agents do, careful mode, dead agents, the built-in test.
-/
namespace Sys2Proof.Machine

/-! ### Ingress (R474, R475, R482, R487) -/

/-- Two requests come from one source (R475): an agent, a transport cluster, the collective engine. -/
def sameSource (a b : HomeReq) : Bool :=
  match a.asker, b.asker with
  | .agent x, .agent y => x == y
  | .payload x _ _, .payload y _ _ => x == y
  | .coll _, .coll _ => true
  | .att x _, .att y _ => x == y
  | .none, .none => true
  | _, _ => false

/-- The slice can take the request now (R468, R475, R482). While it drains, it takes those that an agent had sent before its SnpDrain
reached it, so that the agent's transients can settle (R487). -/
def canTake (s : State) (i : Nat) (q : HomeReq) : Bool :=
  !(wayStuck s q) &&
  (if sliceMode s i = 0 then
    (match busyOf s q.line with | some b => b.queue.length < 64 | none => busyUsed s i < 1024)
  else if sliceMode s i = 1 then !q.holds
  else sliceMode s i == 3 && !q.holds && (q.agent.map (fun a => draining s a q.line)).getD false)

/-- The requests that may be served, in order of arrival: those that no earlier request of their source holds up. -/
def takeable (s : State) (i : Nat) (l : List HomeReq) : List HomeReq :=
  (l.foldl (fun (m : List HomeReq × List HomeReq) q =>
    if m.2.any (sameSource q) then m
    else if canTake s i q then (m.1 ++ [q], m.2) else (m.1, m.2 ++ [q])) ([], [])).1

/-- ING_W of a group (R474). -/
def ingWeight (s : State) (i g : Nat) : Nat :=
  s.rd (sliceBase i) (if g = 0 then Reg.Slc.ING_W_HOST else if g = 1 then Reg.Slc.ING_W_REMOTE else Reg.Slc.ING_W_ENGINE)

/-- The request the slice serves next, with the credits of the round afterwards: requests that careful mode held first,
hosts before the others (R487); then weighted round robin among host, remote and engine requests (R474). -/
def nextReq (s : State) (i : Nat) : Option (HomeReq × List Nat) :=
  let x := s.slice i
  let l := takeable s i x.ing
  let held := if sliceMode s i = 0 then l.filter HomeReq.held else []
  match held.find? (fun q => q.group == 0), held with
  | some q, _ => some (q, x.credit)
  | none, q :: _ => some (q, x.credit)
  | none, [] =>
    let pick := fun (credit : List Nat) => [0, 1, 2].findSome? (fun g =>
      if 0 < (credit[g]?.getD 0) then
        (l.find? (fun q => q.group == g)).map (fun q => (q, credit.set g ((credit[g]?.getD 0) - 1)))
      else none)
    match pick x.credit with
    | some r => some r
    | none => pick ([0, 1, 2].map (ingWeight s i))

/-- The master that REQUESTS filters on (R525). -/
def reqMaster (q : HomeReq) : Nat :=
  match q.asker with
  | .agent a => a
  | .none => 0x82
  | _ => if q.group = 1 then 0x80 else 0x81

/-- A request leaves the ingress and is counted. -/
def takeReq (s : State) (i : Nat) (q : HomeReq) (credit : List Nat) : State :=
  let x := s.slice i
  let s := showHeld (s.setSlice i { x with ing := x.ing.erase q, credit := credit }) i
  let s := slEvent s i 0x100 1 (some (reqMaster q)) (some (64 * q.line))
  if q.held then slEvent s i 0x106 (s.now - q.since) none none else s

/-- A request in service mode: queued behind its line's transaction, or served; one that needs a way first has it made
(R468, R475). -/
def serveBlocking (s : State) (i : Nat) (q : HomeReq) (credit : List Nat) : State :=
  match busyOf s q.line with
  | some b =>
    let s := takeReq s i q credit
    slBump (setBusy s q.line { b with queue := b.queue ++ [q] }) i Reg.Slc.WAITQ_CNT
  | none =>
    if needsWay s q && 16 ≤ (waysUsed s q.line).length then makeWay s q.line
    else
      let s := takeReq s i q credit
      let w := snoopsFor s q
      settleAll (startBusy s q.line (some q) w.1 w.2.1 w.2.2 []) q.line

/-- A request of an on-die agent in careful mode (R484). -/
def serveCareful (s : State) (i : Nat) (q : HomeReq) (credit : List Nat) : State :=
  match q.agent with
  | none => s
  | some r =>
    if needsWay s q && 16 ≤ (waysUsed s q.line).length then makeWay s q.line
    else
      let s := takeReq s i q credit
      let e := sfTouch s q.line
      -- a spilled line may be shared by hosts that no entry names (R467, R469)
      let wide := q.kind == .rdOwn && dirShared s q.line
      let spilled := if wide then (maskHosts s q.line).filter (fun a => !(isDead s a)) else []
      let s := if wide then slBump (setDirSh s q.line false) i Reg.Slc.DIR_BCAST_CNT else s
      let others := (spilled.foldl addOnce e.sharers).filter (fun a => a != r && e.owner != some a)
      let n := others.length
      let m := memLine s q.line
      let data := fun (s : State) (k : Nat) => tell (stackEvent s q.line 0x100) r q.line (.data k m.1 m.2)
      let inv := fun (s : State) => others.foldl (fun t x => sendSnp t i q.line x (.invTo r)) s
      if q.kind = .rdShared then
        match e.owner with
        | none => data (setSf s q.line { e with sharers := addOnce e.sharers r, mask := 0 }) 0
        | some o => sendSnp (setSf s q.line { e with sharers := addOnce e.sharers r, mask := 0 }) i q.line o (.fwdS r)
      else
        let own := fun (s : State) => setSf s q.line { e with owner := some r, sharers := [], mask := 0 }
        match e.owner with
        | none => inv (data (own s) n)
        | some o =>
          if o = r then inv (tell (own s) r q.line (.gntM n))
          else inv (sendSnp (own s) i q.line o (.fwdM r n))

/-- The slice's next request, when it is of this kind and no writeback waits before it (R474). -/
def serveKind (s : State) (i : Nat) (k : HomeKind) : State :=
  if sliceOff s i || s.mesh.wbs.any (fun w => lineSlice w.line == i) then s
  else
    match nextReq s i with
    | none => s
    | some (q, credit) =>
      if q.kind ≠ k then s
      else if sliceMode s i = 0 then serveBlocking s i q credit
      else serveCareful s i q credit

/-- RDSHARED (R476, R484). -/
def execRdShared (i : Fin 48) (s : State) : Host.Outcome State Fault Refusal := .next (serveKind s i.val .rdShared)

/-- RDOWN (R476, R484). -/
def execRdOwn (i : Fin 48) (s : State) : Host.Outcome State Fault Refusal := .next (serveKind s i.val .rdOwn)

/-- RDNOALLOC (R476, R493). -/
def execRdNoAlloc (i : Fin 48) (s : State) : Host.Outcome State Fault Refusal := .next (serveKind s i.val .rdNoAlloc)

/-- WRNOALLOC (R476, R493). -/
def execWrNoAlloc (i : Fin 48) (s : State) : Host.Outcome State Fault Refusal := .next (serveKind s i.val .wrNoAlloc)

/-! ### Writebacks (R474, R478, R484) -/

/-- The oldest writeback at a slice, when it is of this kind: a dead agent's is discarded and counted (R491). -/
def serveWb (s : State) (i : Nat) (k : WbKind) : State :=
  if sliceOff s i then s
  else
    match s.mesh.wbs.find? (fun w => lineSlice w.line == i) with
    | none => s
    | some w =>
      if w.kind ≠ k then s
      else
        let s := { s with mesh := { s.mesh with wbs := s.mesh.wbs.erase w } }
        if isDead s w.agent then slBump s i Reg.Slc.DEAD_MSG_CNT else doWriteback s w

/-- WBMOD (R478, R484). -/
def execWbMod (i : Fin 48) (s : State) : Host.Outcome State Fault Refusal := .next (serveWb s i.val .wbMod)

/-- WBCLEAN (R478, R484). -/
def execWbClean (i : Fin 48) (s : State) : Host.Outcome State Fault Refusal := .next (serveWb s i.val .wbClean)

/-- EVICT (R478, R484). -/
def execEvict (i : Fin 48) (s : State) : Host.Outcome State Fault Refusal := .next (serveWb s i.val .evict)

/-! ### Responses and Ack (R473, R476 to R480) -/

/-- A snoop response at the home (R476): the snoop filter follows it at once, dirty data goes to memory before the answer. -/
def takeResponse (s : State) (a line : Nat) (r : SnpAns) (data : List Byte) (bad : Bool) : State :=
  let i := lineSlice line
  match busyOf s line with
  | none => s
  | some b =>
    if !(b.waits.contains a) then s
    else
      let wb := r == .iWb && !(b.wbGot.contains a)
      let b := { b with waits := b.waits.erase a, got := if r = .curData then some (data, bad) else b.got,
                        wbFrom := if wb then addOnce b.wbFrom a else b.wbFrom }
      let s := setBusy s line b
      let s := match r with
        | .iData | .sData => stackEvent (writeLine s line 0 data bad) line 0x101
        | .iWb => cnt1 (slBump s i Reg.Slc.RSPIWB_CNT) (.slice (idx 47 i)) 0x104
        | _ => s
      let s := match r with
        | .i | .iData | .iWb => sfRemove s line a
        | .s | .sData => sfDemote s line a
        | .cur | .curData => s
      settleAll s line

/-- A host's answer taken as R473 says. -/
def hostAns : HostAns → SnpAns
  | .i => .i | .s => .s | .e => .cur

/-- A host has answered a snoop of careful mode: its dirty data is in memory (R473), and the home sends the requester what the host
owes it (R484; notes/assumptions/48.md). -/
def carefulHost (s : State) (x : Snp) : State :=
  let s := { s with mesh := { s.mesh with snps := s.mesh.snps.erase x } }
  let m := memLine s x.line
  match x.kind with
  | .invTo r => tell s r x.line .invAck
  | .fwdS r => tell (stackEvent s x.line 0x100) r x.line (.data 0 m.1 m.2)
  | .fwdM r n => tell (stackEvent s x.line 0x100) r x.line (.data n m.1 m.2)
  | _ => s

/-- HOME_SNOOP_RESPONSE (R473, R476): a host's answer, or the oldest response that the on-die agent sent for the line. -/
def execHomeSnoopResponse (a : Fin 80) (line : BitVec 46) (h : HostAns) (s : State) : Host.Outcome State Fault Refusal :=
  let l := line.toNat
  if a.val < 64 then
    .next (if isDead s a.val then slBump s (lineSlice l) Reg.Slc.DEAD_MSG_CNT
      else match s.mesh.snps.find? (fun x => x.agent == a.val && x.line == l) with
        | some x => carefulHost s x
        | none => takeResponse s a.val l (hostAns h) [] false)
  else
    match s.mesh.toHome.find? (fun m => match m with | .rsp x y _ _ _ => x == a.val && y == l | _ => false) with
    | some (.rsp x y r d b) =>
      let s := { s with mesh := { s.mesh with toHome := s.mesh.toHome.erase (.rsp x y r d b) } }
      .next (if isDead s a.val then slBump s (lineSlice l) Reg.Slc.DEAD_MSG_CNT else takeResponse s a.val l r d b)
    | _ => .next s

/-- HOME_ACK (R479): the busy entry is freed and the next queued request served. -/
def execHomeAck (a : Fin 80) (line : BitVec 46) (s : State) : Host.Outcome State Fault Refusal :=
  let l := line.toNat
  let m : HomeMsg := .ack a.val l
  if 64 ≤ a.val && !(s.mesh.toHome.contains m) then .next s
  else
    let s := { s with mesh := { s.mesh with toHome := s.mesh.toHome.erase m } }
    match busyOf s l with
    | none => .next s
    | some b =>
      if b.acking ∧ b.req.bind HomeReq.agent = some a.val then
        .next (settleAll (setBusy s l { b with acking := false, req := none, dir := false }) l)
      else .next s

/-- The slice and the device address for which a snoop response of the agent is missing: a transaction, a snoop of careful mode to a
host, or a SnpDrain, which names no line (an open address). -/
def lateSnoop (s : State) (a : Nat) : Option (Nat × Nat) :=
  match keysWhere s.mesh.busy (fun _ b => b.waits.contains a || b.wbFrom.contains a) with
  | l :: _ => some (lineSlice l, 64 * l)
  | [] => match s.mesh.snps.find? (fun x => x.agent == a && a < 64) with
    | some x => some (lineSlice x.line, 64 * x.line)
    | none => ((List.range 48).find? (fun i => (s.slice i).drains.contains a)).map (fun i => (i, s.drawn 52))

/-- SNOOP_TIMEOUT (R480): an agent whose response is missing is declared dead. -/
def execSnoopTimeout (a : Fin 80) (s : State) : Host.Outcome State Fault Refusal :=
  match lateSnoop s a.val with
  | none => .next s
  | some (i, da) =>
    let s := s.spend.setEvt (sliceBase i) Reg.Slc.SLICE_EVENT 1
    let s := match agentUnit a.val with
      | some u => recordError s (ErrRec.contained u .coherence a.val da)
      | none => s
    .next (fencing s (agentDies s a.val 3))

/-! ### Agents (R477, R485) -/

/-- The agent is an on-die one that acts: not dead, its unit neither fenced nor in reset. -/
def agentActs (s : State) (a : Nat) : Bool :=
  onDie.contains a && !(isDead s a) &&
  (match agentUnit a with | some u => !(isFenced s u) && !(inReset s u) | none => true)

/-- AGENT_SNOOP (R288, R477, R485): the oldest snoop of the line. -/
def execAgentSnoop (a : Fin 80) (line : BitVec 46) (s : State) : Host.Outcome State Fault Refusal :=
  let mine := fun (x : Snp) => x.agent == a.val && x.line == line.toNat && (match x.kind with | .drain _ => false | _ => true)
  match s.mesh.snps.find? mine with
  | none => .next s
  | some x =>
    if agentActs s a.val then
      let t := takeSnoop { s with mesh := { s.mesh with snps := s.mesh.snps.erase x } } a.val line.toNat x.kind
      .next (fencing s (if x.kind.takes && 64 ≤ a.val then watchSnooped t a.val line.toNat else t))
    else .next s

/-- The oldest message to the agent for the line, when `f` takes it. -/
def withMessage (s : State) (a line : Nat) (f : State → AgentMsg → Option State) : State :=
  match s.mesh.toAgent.find? (fun x => x.1 == a && x.2.1 == line) with
  | none => s
  | some x =>
    if agentActs s a then (f { s with mesh := { s.mesh with toAgent := s.mesh.toAgent.erase x } } x.2.2).getD s else s

/-- AGENT_GRANT (R479). -/
def execAgentGrant (a : Fin 80) (line : BitVec 46) (s : State) : Host.Outcome State Fault Refusal :=
  .next (fencing s <| withMessage s a.val line.toNat (fun t m => match m with
    | .gntS d b => some (takeGrant t a.val line.toNat false (some d) b)
    | .gntE d b => some (takeGrant t a.val line.toNat true d b)
    | _ => none))

/-- AGENT_CMP (R485). -/
def execAgentCmp (a : Fin 80) (line : BitVec 46) (s : State) : Host.Outcome State Fault Refusal :=
  .next (fencing s <| withMessage s a.val line.toNat (fun t m => match m with
    | .cmp => some (takeCmp t a.val line.toNat)
    | _ => none))

/-- AGENT_LOAD (R485). -/
def execAgentLoad (a : Fin 80) (line : BitVec 46) (s : State) : Host.Outcome State Fault Refusal :=
  .next (if agentActs s a.val then localOp s a.val line.toNat (lineOfAgent s a.val line.toNat) .load else s)

/-- AGENT_STORE (R485). -/
def execAgentStore (a : Fin 80) (line : BitVec 46) (off : Fin 64) (bytes : List Byte) (s : State) :
    Host.Outcome State Fault Refusal :=
  .next (if agentActs s a.val then localOp s a.val line.toNat (lineOfAgent s a.val line.toNat) (.store off.val bytes) else s)

/-- AGENT_REPLACE (R485). -/
def execAgentReplace (a : Fin 80) (line : BitVec 46) (s : State) : Host.Outcome State Fault Refusal :=
  .next (if agentActs s a.val then localOp s a.val line.toNat (lineOfAgent s a.val line.toNat) .replace else s)

/-- AGENT_DATA (R485). -/
def execAgentData (a : Fin 80) (line : BitVec 46) (s : State) : Host.Outcome State Fault Refusal :=
  .next (fencing s <| withMessage s a.val line.toNat (fun t m => match m with
    | .data n d b => some (takeData t a.val line.toNat n d b)
    | _ => none))

/-- AGENT_INVACK (R485). -/
def execAgentInvack (a : Fin 80) (line : BitVec 46) (s : State) : Host.Outcome State Fault Refusal :=
  .next (fencing s <| withMessage s a.val line.toNat (fun t m => match m with
    | .invAck => some (takeInvAck t a.val line.toNat)
    | _ => none))

/-- AGENT_GNTM (R485). -/
def execAgentGntm (a : Fin 80) (line : BitVec 46) (s : State) : Host.Outcome State Fault Refusal :=
  .next (fencing s <| withMessage s a.val line.toNat (fun t m => match m with
    | .gntM n => some (takeGntM t a.val line.toNat n)
    | _ => none))

/-! ### The return to service mode (R487) -/

/-- The entry of a line is rebuilt: every live agent that can reach the extent is snooped (R471). -/
def rebuildSf (s : State) (line : Nat) : State :=
  if (busyOf s line).isSome ∨ (sfEnt s line).isNone then s else settle (startBusy s line none (liveReach s line) .inv false []) line

/-- A slice enters service mode; entries that an error struck in careful mode are rebuilt. -/
def enterService (s : State) (i : Nat) : State :=
  let mine := s.mesh.damaged.filter (fun l => lineSlice l == i)
  let t := { s with mesh := { s.mesh with damaged := s.mesh.damaged.filter (fun l => lineSlice l != i) } }
  pumpExtents (mine.foldl rebuildSf (setMode t i 0 0))

/-- SnpDrain to every live on-die agent; with none, the slice is in service at once. -/
def startDrain (s : State) (i : Nat) : State :=
  let live := onDie.filter (fun a => !(isDead s a))
  let s := setMode s i 3 (s.rd (sliceBase i) Reg.Slc.MODE_REASON)
  let x := s.slice i
  let s := s.setSlice i { x with drains := live }
  if live.isEmpty then enterService s i else live.foldl (fun t a => sendSnp t i 0 a (.drain i)) s

/-- Lines of slice `i` that the agent keeps. -/
def agentLines (s : State) (a i : Nat) : List (Nat × CLine) :=
  (lookD s.mesh.cache a []).filter (fun kv => lineSlice kv.1 == i)

/-- AGENT_SNPDRAIN (R487): transients settle first; then every line in O is written back; then RspDrain answers and held
operations go on. -/
def execAgentSnpdrain (a : Fin 80) (i : Fin 48) (s : State) : Host.Outcome State Fault Refusal :=
  match s.mesh.snps.find? (fun x => x.agent == a.val && x.kind == .drain i.val) with
  | none => .next s
  | some x =>
    let l := agentLines s a.val i.val
    if !(agentActs s a.val) || l.any (fun kv => kv.2.st.transient) then .next s
    else
      let o := l.filter (fun kv => kv.2.st == .o)
      if !o.isEmpty then
        .next (o.foldl (fun t kv => agentWb (setLine t a.val kv.1 { kv.2 with st := .oiA, wb := true }) a.val kv.1 .wbMod kv.2) s)
      else
        let s := { s with mesh := { s.mesh with snps := s.mesh.snps.erase x, toHome := s.mesh.toHome ++ [.drained a.val i.val] } }
        .next (l.foldl (fun t kv => retryAll t a.val kv.1) s)

/-- RSPDRAIN (R487): with the last one the slice is in service mode. -/
def execRspdrain (a : Fin 80) (i : Fin 48) (s : State) : Host.Outcome State Fault Refusal :=
  let m : HomeMsg := .drained a.val i.val
  if !(s.mesh.toHome.contains m) then .next s
  else
    let s := { s with mesh := { s.mesh with toHome := s.mesh.toHome.erase m } }
    if isDead s a.val then .next (slBump s i.val Reg.Slc.DEAD_MSG_CNT)
    else
      let x := s.slice i.val
      let s := s.setSlice i.val { x with drains := x.drains.erase a.val }
      .next (if sliceMode s i.val = 3 ∧ (x.drains.erase a.val).isEmpty then enterService s i.val else s)

/-! ### Careful mode (R481, R483, R487) -/

/-- ENTER_CAREFUL (R483). -/
def execEnterCareful (r : Route) (i : Fin 48) (s : State) : Host.Outcome State Fault Refusal :=
  .next (guarded s r (sliceBase i.val + 0x44) (fun t => if sliceMode t i.val = 0 then setMode t i.val 2 4 else t))

/-- CAREFUL_ENTERED (R483): no transaction is left. -/
def execCarefulEntered (i : Fin 48) (s : State) : Host.Outcome State Fault Refusal :=
  .next (if sliceMode s i.val = 2 ∧ busyUsed s i.val = 0 then
    setMode s i.val 1 (s.rd (sliceBase i.val) Reg.Slc.MODE_REASON) else s)

/-- LEAVE_CAREFUL (R487): ignored while a recovery or the test runs. -/
def execLeaveCareful (r : Route) (i : Fin 48) (s : State) : Host.Outcome State Fault Refusal :=
  .next (guarded s r (sliceBase i.val + 0x44) (fun t =>
    if sliceMode t i.val = 1 ∧ t.mesh.recover.isEmpty ∧ t.rd poolBase Reg.Coh.BCT_STATUS_STATE ≠ 1 then startDrain t i.val else t))

/-! ### Dead agents (R489, R490) -/

/-- AGENT_KILL (R489). -/
def execAgentKill (r : Route) (s : State) : Host.Outcome State Fault Refusal :=
  .next (guarded s r (poolBase + 0x230) (fun t => fencing t (agentDies t (t.rd poolBase Reg.Coh.AGENT_KILL_AGENT) 4)))

/-- The scan of one slice for a dead agent (R490 step 3). -/
def scanSlice (s : State) (i d : Nat) : State :=
  (keysWhere s.mesh.sf (fun l _ => lineSlice l == i)).foldl (fun t l =>
    match sfEnt t l with
    | none => t
    | some e => if e.owner = some d then loseLine t d l (!e.sharers.isEmpty) else sfRemove t l d) s

/-- The slice is done with the first recovery that still waits for it; a recovery that no slice waits for any more ends
with LINES_LOST (R492). -/
def recoveryStep (s : State) (i d : Nat) : State :=
  let l := s.mesh.recover.map (fun (r : Nat × List Nat × Nat) => if r.1 = d then (r.1, r.2.1.erase i, r.2.2) else r)
  let done := l.filter (fun r => r.2.1.isEmpty)
  let s := { s with mesh := { s.mesh with recover := l.filter (fun r => !r.2.1.isEmpty) } }
  showRecovery (done.foldl (fun t r => deviceEvent t 0x55 [r.1, r.2.2, 0, 0]) s)

/-- RECLAIM_SCAN_DONE (R490 steps 3 and 4). -/
def execReclaimScanDone (i : Fin 48) (s : State) : Host.Outcome State Fault Refusal :=
  match s.mesh.recover.find? (fun r => r.2.1.contains i.val) with
  | none => .next s
  | some r =>
    if sliceMode s i.val ≠ 1 then .next s
    else
      let s := recoveryStep (scanSlice s i.val r.1) i.val r.1
      .next (if s.mesh.recover.any (fun r => r.2.1.contains i.val) ∨ s.rd poolBase Reg.Coh.BCT_STATUS_STATE = 1 ∨ s.boot.bctFailed ∨ !s.boot.started
        then s else startDrain s i.val)

/-! ### The built-in coherence test (R481, R488, R587) -/

/-- The test starts on every slice. -/
def startBct (s : State) : State :=
  let s := s.wr poolBase Reg.Coh.BCT_STATUS_STATE 1
  (List.range 48).foldl (fun t i => setMode t i (if sliceMode t i = 0 ∨ sliceMode t i = 2 then 2 else 1) 2) s

/-- BCT_RUN (R488). -/
def execBctRun (r : Route) (s : State) : Host.Outcome State Fault Refusal :=
  .next (guarded s r (poolBase + 0x238) (fun t => if t.rd poolBase Reg.Coh.BCT_STATUS_STATE = 1 then t else startBct t))

/-- BCT_DONE (R481, R488, R587): a start-up test that fails leaves every slice in careful mode and is a fatal error. -/
def execBctDone (ok : Bool) (i : Fin 48) (s : State) : Host.Outcome State Fault Refusal :=
  if s.rd poolBase Reg.Coh.BCT_STATUS_STATE ≠ 1 ∨ (List.range 48).any (fun j => sliceMode s j != 1) then .next s
  else
    let s := s.setEvt poolBase Reg.Coh.COH_EVENT 4
    let s := if ok then s.wr poolBase Reg.Coh.BCT_STATUS_STATE 2
      else (s.wr poolBase Reg.Coh.BCT_STATUS_STATE 3).wr poolBase Reg.Coh.BCT_STATUS_FAIL_SLICE i.val
    if !ok && !s.boot.started then
      let s := { s with boot := { s.boot with bctFailed := true } }
      .next (fatalStop s (.slice i) .coherence 0 i.val)
    else
      let s := { s with boot := { s.boot with started := true } }
      .next ((List.range 48).foldl (fun t j => if t.mesh.recover.any (fun r => r.2.1.contains j) then t else startDrain t j) s)

/-! ### Snoop-filter errors and counters (R471, R501) -/

/-- SF_ECC_ERROR (R471): an error in an entry that is corrected is counted; after any other, every live agent that can reach the
extent is snooped, and the entry is rebuilt from the answers, once the slice is in service mode (notes/assumptions/48.md). A free
entry, or one whose line a transaction holds, is not read. -/
def execSfEccError (line : SfUpset) (s : State) : Host.Outcome State Fault Refusal :=
  let l := line.line.toNat
  let i := lineSlice l
  if (busyOf s l).isSome ∨ (sfEnt s l).isNone then .next s
  else
    let s := s.setEvt (sliceBase i) Reg.Slc.SLICE_EVENT (if line.corrects then 2 else 3)
    let s := recordError s (ErrRec.ecc (.slice (idx 47 i)) line.corrects 0 (64 * l))
    .next (if line.corrects then s
      else if sliceMode s i = 1 ∨ sliceMode s i = 3 then { s with mesh := { s.mesh with damaged := addOnce s.mesh.damaged l } }
      else pumpExtents (rebuildSf s l))

/-- SLICE_CNT_CLR (R501). -/
def execSliceCntClr (r : Route) (i : Fin 48) (s : State) : Host.Outcome State Fault Refusal :=
  let b := sliceBase i.val
  .next (guarded s r (b + 0x44) (fun t =>
    let t := t.clearAll b [Reg.Slc.SNOOP_CNT, Reg.Slc.BISNP_CNT, Reg.Slc.RSPIWB_CNT, Reg.Slc.WB_BYPASS_CNT, Reg.Slc.WAITQ_CNT,
      Reg.Slc.SF_VICTIM_CNT, Reg.Slc.SPILL_CNT, Reg.Slc.DIR_BCAST_CNT, Reg.Slc.LOST_LINE_CNT, Reg.Slc.DEAD_MSG_CNT]
    t.wr b Reg.Slc.BUSY_HWM (busyUsed t i.val)))

end Sys2Proof.Machine
end

