-- ==== Sys2Proof/Machine/DrsWire.lean ====
section
/-!
DEFINITION. The bytes of Drisiul frames and messages (R547, R548, R554, R557, R562 of spec/17_management.md), most significant
byte first (R2), and the request payloads of the FM API commands that FMAPI carries (R409, R559; notes/assumptions/56.md).
-/
namespace Sys2Proof.Machine

/-- The big-endian number in `n` bytes at byte `i` of a list. -/
def beAt (b : List Byte) (i n : Nat) : Nat := beNat ((b.drop i).take n)

/-! ### Frames (R547, R548) -/

/-- The Drisiul header (R547). -/
structure DrsHdr where
  ver : Nat
  kind : Nat
  ttl : Nat
  bodyLen : Nat
  session : Nat
  seq : Nat
  deriving DecidableEq, Repr

/-- The header in the bytes after the EtherType. -/
def DrsHdr.ofBytes (b : List Byte) : DrsHdr :=
  let w := beAt b 0 4
  { ver := w / 2 ^ 28, kind := w / 2 ^ 24 % 16, ttl := w / 2 ^ 16 % 256, bodyLen := w % 2 ^ 16, session := beAt b 4 4,
    seq := beAt b 8 8 }

/-- The 16 bytes of a header. -/
def DrsHdr.toBytes (h : DrsHdr) : List Byte :=
  beBytes (h.ver * 2 ^ 28 + h.kind * 2 ^ 24 + h.ttl * 2 ^ 16 + h.bodyLen) 4 ++ beBytes h.session 4 ++ beBytes h.seq 8

/-- A Drisiul frame that R547 lets stand: its version, its kind, and a body within the frame. -/
def drsGood (b : List Byte) : Bool :=
  let h := DrsHdr.ofBytes b
  16 ≤ b.length && h.ver == 1 && h.kind ≤ 4 && 16 + h.bodyLen ≤ b.length && (h.kind != 4 || 16 ≤ h.bodyLen)

/-- The frame is one the port accepts (R541): untagged Ethernet II, at most 9,216 bytes with its FCS. -/
def etherGood (f : MgmtFrame) : Bool :=
  14 + f.body.length + 4 ≤ 9216 && 0x600 ≤ f.etype.toNat && f.etype != 0x8100 && f.etype != 0x88A8

/-- The same frame with one forward fewer allowed (R545). -/
def lessTtl (f : MgmtFrame) : MgmtFrame :=
  let h := DrsHdr.ofBytes f.body
  { f with body := { h with ttl := h.ttl - 1 }.toBytes ++ f.body.drop 16 }

/-- DRS_MAC (R571). -/
def drsMac (s : State) : Nat := s.rd mpBase Reg.Mp.DRS_MAC_HI * 2 ^ 16 + s.rd mpBase Reg.Mp.DRS_MAC_LO

/-- A frame of the device's own, padded to the 46 bytes that Ethernet asks for. -/
def ownFrame (s : State) (dst : BitVec 48) (b : List Byte) : MgmtFrame :=
  { fcsGood := true, dst := dst, src := BitVec.ofNat 48 (drsMac s), etype := BitVec.ofNat 16 (s.rd mpBase Reg.Mp.DRS_ETYPE),
    body := b ++ List.replicate (46 - b.length) 0 }

/-- The HELLO of a port (R546, R548). -/
def helloFrame (s : State) (p : Nat) : MgmtFrame :=
  ownFrame s Config.helloMac
    (DrsHdr.toBytes { ver := 1, kind := 4, ttl := 0, bodyLen := 16, session := 0, seq := 0 } ++
     beBytes (deviceId s * 2 ^ 16 + b2n (s.on 0 Reg.Root.DEV_CICEN_ID_VALID)) 4 ++ beBytes p 4 ++ beBytes Config.devSerial.toNat 8)

/-- A secured frame of a session (R547, R548): header and message. What leaves is the message's SM4-GCM ciphertext with its
16-byte tag, which BODY_LEN counts (notes/assumptions/20.md). -/
def securedFrame (s : State) (mac : BitVec 48) (session seq kind : Nat) (msg : List Byte) : MgmtFrame :=
  ownFrame s mac (DrsHdr.toBytes { ver := 1, kind := kind, ttl := s.rd mpBase Reg.Mp.RESP_TTL, bodyLen := msg.length + 16,
                                   session := session, seq := seq } ++ msg)

/-! ### Responses (R554, R561) -/

/-- One operation of a response: its header with STATUS, and its result data. -/
def opBytes (arg : Nat) (r : OpRes) : List Byte :=
  beBytes (r.op * 2 ^ 24 + r.status * 2 ^ 16 + 4 * r.data.length) 4 ++ beBytes arg 4 ++ r.data.flatMap (fun w => beBytes w.toNat 4)

/-- A response message (R554). -/
def responseBytes (q : ReqRun) : List Byte :=
  beBytes q.reqId 4 ++ beBytes q.count 4 ++
  ((q.heads.zip q.done_).flatMap (fun x => opBytes x.1.2 x.2))

/-! ### Streams (R562) -/

/-- The bytes of a record: an event in the layout of R302, most significant byte first. -/
def StreamRec.toBytes : StreamRec → List Byte
  | .bytes b => b
  | .event e => beBytes (e.code % 256) 4 ++ beBytes e.seq 4 ++ beBytes e.time 8 ++
      (List.range 4).flatMap (fun i => beBytes (e.detail[i]?.getD 0) 4)

/-- A stream message with `n` records, or a fragment of one. -/
def streamMsg (st n off total : Nat) (b : List Byte) : List Byte :=
  beBytes (n * 2 ^ 16 + st) 4 ++ beBytes off 4 ++ beBytes total 4 ++ beBytes 0 4 ++ b

/-- A record's fragments of 8,192 bytes (notes/assumptions/60.md). -/
def fragments (st : Nat) (b : List Byte) : List (List Byte) :=
  (List.range ((b.length + 8191) / 8192)).map (fun i => streamMsg st 1 (8192 * i) b.length ((b.drop (8192 * i)).take 8192))

/-- The messages that carry these records: dumps in fragments, other records whole, as many to a message as its 9,134 bytes
hold. -/
def streamMsgs (st : Nat) (l : List StreamRec) : List (List Byte) :=
  match l.map StreamRec.toBytes with
  | [] => []
  | b :: bs =>
    let l := b :: bs
    if st = 2 then l.flatMap (fragments st)
    else
      let k := Nat.max 1 (9134 / Nat.max 1 b.length)
      (List.range ((l.length + k - 1) / k)).map (fun i =>
        let part := (l.drop (k * i)).take k
        streamMsg st part.length 0 b.length part.flatten)

/-! ### FM API payloads (R409, R559) -/

/-- The number of an attachment, if it is one. -/
def fmAtt (n : Nat) : Option (Fin 64) := if h : n < 64 then some ⟨n, h⟩ else none

/-- The number of a vPPB, if it is one. -/
def fmVppb (n : Nat) : Option (Fin 18) := if h : n < 18 then some ⟨n, h⟩ else none

/-- The extents of one entry of an extent list, 40 bytes: first DPA and length, both whole extents. -/
def fmExtent (b : List Byte) : Option (List (Fin 131072)) :=
  let da := leAt b 0 8
  let n := leAt b 8 8
  if da % 2 ^ 28 = 0 ∧ n % 2 ^ 28 = 0 ∧ 0 < n ∧ da + n ≤ 131072 * 2 ^ 28 then
    some ((List.range (n / 2 ^ 28)).map (fun i => idx 131071 (da / 2 ^ 28 + i)))
  else none

/-- The extents of an extent list of `n` entries. -/
def fmExtents (b : List Byte) (n : Nat) : Option (List (Fin 131072)) :=
  (List.range n).foldl (fun m i => match m, fmExtent ((b.drop (40 * i)).take 40) with
    | some l, some e => some (l ++ e)
    | _, _ => none) (some [])

/-- An operation on the vPPB that the first two bytes of a payload name. -/
def fmAtVppb (b : List Byte) (k : Fin 64 → Fin 18 → Option FmCmd) : Option FmCmd :=
  match fmAtt (leAt b 0 1), fmVppb (leAt b 1 1) with
  | some u, some v => k u v
  | _, _ => none

/-- An operation on the extents that a dynamic-capacity payload names, a whole list of them (selection policy 2). -/
def fmAtExtents (b : List Byte) (k : Fin 64 → List (Fin 131072) → FmCmd) : Option FmCmd :=
  match fmAtt (leAt b 0 2), fmExtents (b.drop 32) (leAt b 28 4) with
  | some u, some (e :: es) => if 32 + 40 * leAt b 28 4 ≤ b.length then some (k u (e :: es)) else none
  | _, _ => none

/-- A listed command in the opcode and request payload of FMAPI (`none`: the payload names nothing there is). -/
def fmListed (op : Nat) (b : List Byte) : Option FmCmd :=
  if op = 0x5100 then some .identifySwitch
  else if op = 0x5101 then some (.getPortState (((b.drop 1).take (leAt b 0 1)).map BitVec.toNat))
  else if op = 0x5102 then
    (fmAtt (leAt b 0 1)).bind (fun a => match leAt b 1 1 with
      | 0 => some (.portControl a .assertPerst)
      | 1 => some (.portControl a .deassertPerst)
      | 2 => some (.portControl a .resetPpb)
      | _ => none)
  else if op = 0x5103 then
    (fmAtt (leAt b 0 1)).map (fun a =>
      let w := leAt b 1 3
      .ppbConfig a (BitVec.ofNat 12 w) (BitVec.ofNat 4 (w / 2 ^ 12))
        (if w / 2 ^ 23 = 1 then some (BitVec.ofNat 32 (leAt b 4 4)) else none))
  else if op = 0x5200 then some (.getVcsInfo (leAt b 0 1) (leAt b 1 1) (((b.drop 3).take (leAt b 2 1)).map BitVec.toNat))
  else if op = 0x5201 then
    fmAtVppb b (fun u v => if leAt b 4 2 = 0xFFFF then (fmAtt (leAt b 2 1)).map (fun a => .bind u v a) else none)
  else if op = 0x5202 then
    fmAtVppb b (fun u v => if h : leAt b 2 1 % 16 < 3 then some (.unbind u v ⟨leAt b 2 1 % 16, h⟩) else none)
  else if op = 0x5203 then fmAtVppb b (fun u v => some (.aer u v (BitVec.ofNat 32 (leAt b 4 4))))
  else if op = 0x0002 then some .backgroundStatus
  else if op = 0x5600 then some .dcInfo
  else if op = 0x5601 then (fmAtt (leAt b 0 2)).map (fun u => .dcRegion u (leAt b 2 1) (leAt b 3 1))
  else if op = 0x5603 then (fmAtt (leAt b 0 2)).map (fun u => .dcExtents u (leAt b 4 4) (leAt b 8 4))
  else if op = 0x5604 then
    if leAt b 2 1 % 16 = 2 then fmAtExtents b (fun u es => .dcAdd u es (BitVec.ofNat 128 (leAt b 12 16))) else none
  else if leAt b 2 1 % 16 = 1 then
    fmAtExtents b (fun u es => if bitOf (leAt b 2 1) 4 then .dcForcedRemoval u es else .dcRelease u es)
  else none

/-- The command that FMAPI carries: an opcode outside R409 is answered as Unsupported. -/
def fmOf (op : Nat) (b : List Byte) : FmCmd :=
  if [0x5100, 0x5101, 0x5102, 0x5103, 0x5200, 0x5201, 0x5202, 0x5203, 0x0002, 0x5600, 0x5601, 0x5603, 0x5604, 0x5605].contains op then
    (fmListed op b).getD .invalid
  else .other (BitVec.ofNat 16 op)

/-! ### Requests (R554, R557) -/

/-- The words of operation data. -/
def dataWords (b : List Byte) : List (BitVec 32) :=
  (List.range ((b.length + 3) / 4)).map (fun i => BitVec.ofNat 32 (beNat ((b ++ [0, 0, 0]).drop (4 * i) |>.take 4)))

/-- An operation from its OP, its ARG and its data (R557). -/
def opOf (op arg : Nat) (b : List Byte) : DrsOp :=
  let a := BitVec.ofNat 32 arg
  let w := dataWords b
  let word := fun (i : Nat) => w.getD i 0
  let table := BitVec.ofNat 2 (arg / 2 ^ 30)
  let v := idx 1 (arg / 2 ^ 28 % 2)
  let first := BitVec.ofNat 11 arg
  let is := fun (n : Nat) (o : DrsOp) => if b.length = n then o else .malformed (BitVec.ofNat 8 op)
  if op = 0x01 then is 4 (.regRead a (word 0))
  else if op = 0x02 then (if b.length % 4 = 0 then .regWrite a w else .malformed 0x02)
  else if op = 0x03 then is 8 (.regRmw a (word 0) (word 1))
  else if op = 0x04 then is 12 (.poll a (word 0) (word 1) (word 2))
  else if op = 0x05 then is 4 (.commit a (word 0))
  else if op = 0x10 then (if b.length % 4 = 0 then .atlasLoad table v (bitOf arg 27) first w else .malformed 0x10)
  else if op = 0x11 then is 4 (.atlasRead table v first (word 0))
  else if op = 0x20 then is 8 (.stream (BitVec.ofNat 4 arg) (bitOf arg 8) (word 0) (word 1))
  else if op = 0x30 then .fmapi (fmOf (arg % 2 ^ 16) b)
  else if op = 0x40 then is 4 (.storeOpen (bitOf arg 0) (word 0))
  else if op = 0x41 then .storeData a b
  else if op = 0x42 then .storeClose
  else if op = 0x43 then .cfgSave
  else if op = 0x44 then .storeAbort
  else .unknown (BitVec.ofNat 8 op)

/-- The operations in the bytes of a request after its first 8, at most `n`: OP and ARG of each with what it asks. One that
the message does not hold whole is malformed, and the last. -/
def opsOf : Nat → List Byte → List ((Nat × Nat) × DrsOp)
  | 0, _ => []
  | n + 1, b =>
    if b.length < 8 then []
    else
      let w := beAt b 0 4
      let op := w / 2 ^ 24
      let len := w % 2 ^ 16
      let arg := beAt b 4 4
      if b.length < 8 + len then [((op, arg), .malformed (BitVec.ofNat 8 op))]
      else ((op, arg), opOf op arg ((b.drop 8).take len)) :: opsOf n (b.drop (8 + (len + 3) / 4 * 4))

end Sys2Proof.Machine
end

