-- ==== Sys2Proof/Machine/Mgmt.lean ====
section
/-!
DEFINITION. The management ring, SPDM sessions, streams, the timebase servo and the management processor
(spec/17_management.md). The operations of Drisiul requests are in Machine/Drisiul.lean.
-/
namespace Sys2Proof.Machine

/-! ### The ring (R541 to R548) -/

/-- A frame goes on out of the other port, where that is UP (R545). -/
def forwardFrame (s : State) (p : Nat) (e : Nat → Emit) : State :=
  let q := 1 - p
  if meLive s q then
    cnt1 (cnt1 ((s.emit (e q)).bump (meBase p) Reg.Me.FWD_FRAMES) (.mgmtEth (idx 1 p)) 0x102) (.mgmtEth (idx 1 q)) 0x101
  else s.bump (meBase p) Reg.Me.FWD_DROP

/-- A HELLO with these bytes after its EtherType is consumed: NEIGH, and the end of a ring break (R546, R548). -/
def takeHello (s : State) (p : Nat) (x : List Byte) : State :=
  let b := meBase p
  let s := (((s.wr b Reg.Me.NEIGH_DEVICE_ID (beAt x 16 2)).wr b Reg.Me.NEIGH_PORT (beAt x 20 4 % 2)).wr b Reg.Me.NEIGH_VALID 1).wr64
    b Reg.Me.NEIGH_SERIAL_LO Reg.Me.NEIGH_SERIAL_HI (beAt x 24 8)
  let s := s.setMg { s.mg with heard := addOnce s.mg.heard p }
  if meUp s p then setBroken s p false else s

/-- MGMT_FRAME_RECEIVE (R541, R545, R547). What a consumed Drisiul frame does is a command of its own. -/
def execMgmtFrameReceive (p : Fin 2) (f : MgmtFrame) (s : State) : Host.Outcome State Fault Refusal :=
  let n := p.val
  if !(meLive s n) then .next s
  else if !f.fcsGood then .next (s.bump (meBase n) Reg.Me.FCS_ERR)
  else if !(etherGood f) then .next s
  else
    let s := cnt1 s (.mgmtEth p) 0x100
    let mac := drsMac s
    if f.src.toNat = mac then .next (meEvent (s.bump (meBase n) Reg.Me.LOOP_DROP) n 4)
    else if f.etype.toNat ≠ s.rd mpBase Reg.Mp.DRS_ETYPE ∨ f.etype = 0x88F7 then .next (forwardFrame s n (fun q => .mgmtFrame q f))
    else if !(drsGood f.body) then .next (s.bump (meBase n) Reg.Me.BAD_FRAME)
    else if (DrsHdr.ofBytes f.body).kind = 4 then .next (takeHello s n f.body)
    else if f.dst.toNat = mac then .next s
    else if (DrsHdr.ofBytes f.body).ttl = 0 then .next (meEvent (s.bump (meBase n) Reg.Me.TTL_DROP) n 3)
    else .next (forwardFrame s n (fun q => .mgmtFrame q (lessTtl f)))

/-- HELLO_TIMER (R546): a missed interval is counted, and a HELLO leaves by each port that can send. -/
def execHelloTimer (s : State) : Host.Outcome State Fault Refusal :=
  let s := (List.range 2).foldl (fun t p =>
    if t.mg.heard.contains p then t else t.bump (meBase p) Reg.Me.HELLO_MISS) s
  let s := s.setMg { s.mg with heard := [] }
  .next ((List.range 2).foldl (fun t p =>
    if meLive t p then
      cnt1 (t.emit (.mgmtFrame p (helloFrame t p))) (.mgmtEth (idx 1 p)) 0x101
    else t) s)

/-- HELLO_TIMEOUT (R546). -/
def execHelloTimeout (p : Fin 2) (s : State) : Host.Outcome State Fault Refusal := .next (setBroken s p.val true)

/-- MGMT_LINK_CHANGE (R541, R546, R570): training and UP need an open bypass and a speed that ME_CFG allows. -/
def execMgmtLinkChange (p : Fin 2) (st : BitVec 2) (s : State) : Host.Outcome State Fault Refusal :=
  let n := p.val
  let speed := s.rd (meBase n) Reg.Me.ME_CFG_SPEED
  if st ≠ 0 ∧ (bypassed s ∨ unitOff s (.mgmtEth p)) then .next s
  else if (st = 2 ∧ speed = 1) ∨ (st = 3 ∧ speed = 2) then .next s
  else .next (setMeLink s n st.toNat)

/-- BYPASS_CLOSE (R543). -/
def execBypassClose (s : State) : Host.Outcome State Fault Refusal := .next (if bypassCause s then closeBypass s else s)

/-- BYPASS_OPEN (R543). -/
def execBypassOpen (s : State) : Host.Outcome State Fault Refusal :=
  if bypassCause s || !(bypassed s) then .next s
  else .next (((List.range 2).foldl (fun t p => t.wr (meBase p) Reg.Me.ME_STATE_BYPASS_CLOSED 0) s).emit (.bypass false))

/-! ### SPDM (R550 to R553) -/

/-- An answer to a requester that has reached step `need` of the negotiation; an earlier one gets ERROR. -/
def spdmAt (s : State) (p : Nat) (mac : BitVec 48) (need : Nat) (go : State → SpdmAns × State) : State :=
  if !(mpServes s) || !(meLive s p) then s
  else
    let r := if lookD s.mg.spdm mac.toNat 0 < need then (.error, s) else go s
    sendOut r.2 p (fun q => .spdm q mac r.1)

/-- The requester has reached this step. -/
def spdmStep (s : State) (mac : BitVec 48) (n : Nat) : State := s.setMg { s.mg with spdm := put s.mg.spdm mac.toNat n }

/-- GET_VERSION (R550). -/
def execGetVersion (p : Fin 2) (mac : BitVec 48) (s : State) : Host.Outcome State Fault Refusal :=
  .next (spdmAt s p.val mac 0 (fun t => (.version, spdmStep t mac 1)))

/-- GET_CAPABILITIES (R550, R552). -/
def execGetCapabilities (p : Fin 2) (mac : BitVec 48) (s : State) : Host.Outcome State Fault Refusal :=
  .next (spdmAt s p.val mac 1 (fun t => (.capabilities (t.rd mpBase Reg.Mp.HB_S), spdmStep t mac 2)))

/-- NEGOTIATE_ALGORITHMS (R550). -/
def execNegotiateAlgorithms (p : Fin 2) (mac : BitVec 48) (offers : Bool) (s : State) : Host.Outcome State Fault Refusal :=
  .next (spdmAt s p.val mac 2 (fun t => if offers then (.algorithms, spdmStep t mac 3) else (.error, t)))

/-- GET_DIGESTS (R550). -/
def execGetDigests (p : Fin 2) (mac : BitVec 48) (s : State) : Host.Outcome State Fault Refusal :=
  .next (spdmAt s p.val mac 3 (fun t => (.digests, t)))

/-- GET_CERTIFICATE (R550): slot 0 only. -/
def execGetCertificate (p : Fin 2) (mac : BitVec 48) (slot : BitVec 4) (off n : BitVec 16) (s : State) :
    Host.Outcome State Fault Refusal :=
  .next (spdmAt s p.val mac 3 (fun t => (if slot = 0 then .certificate 0 off.toNat n.toNat else .error, t)))

/-- CHALLENGE (R550): slot 0 only. -/
def execChallenge (p : Fin 2) (mac : BitVec 48) (slot : BitVec 4) (s : State) : Host.Outcome State Fault Refusal :=
  .next (spdmAt s p.val mac 3 (fun t => (if slot = 0 then .challengeAuth 0 else .error, t)))

/-- FM_ROOT_DIGEST in force, byte 0 the most significant (R571). -/
def fmRoot (s : State) : BitVec 256 :=
  BitVec.ofNat 256 ((List.range 8).foldl (fun m i => m * 2 ^ 32 + s.rdi mpBase Reg.Mp.FM_ROOT_DIGEST i) 0)

/-- A measurement block of R553; block 0x10 is raw. -/
def measBlock (s : State) (i : Nat) : Option (BitVec 256) :=
  if i = 5 then some (fmRoot s) else if 1 ≤ i ∧ i ≤ 4 then some (lookD s.flask.meas i 0) else none

/-- The raw block 0x10. -/
def measRaw (s : State) : List (BitVec 32) :=
  [s.rd 0 Reg.Root.DEV_IDENT_PART + 2 ^ 16 * s.rd 0 Reg.Root.DEV_IDENT_STEPPING + 2 ^ 20 * s.rd 0 Reg.Root.DEV_IDENT_MINOR,
   s.rd 0 Reg.Root.DEV_SERIAL_LO, s.rd 0 Reg.Root.DEV_SERIAL_HI].map (BitVec.ofNat 32)

/-- GET_MEASUREMENTS (R553): one block, all of them (0xFF), or their number (0). -/
def execGetMeasurements (p : Fin 2) (mac : BitVec 48) (index : BitVec 8) (s : State) : Host.Outcome State Fault Refusal :=
  .next (spdmAt s p.val mac 3 (fun t =>
    let i := index.toNat
    let all := [1, 2, 3, 4, 5].filterMap (fun k => (measBlock t k).map (fun d => (k, d)))
    (if i = 0 then .measurementCount 6
     else if i = 0xFF then .measurements all (measRaw t)
     else if i = 0x10 then .measurements [] (measRaw t)
     else match measBlock t i with
       | some d => .measurements [(i, d)] []
       | none => .error, t)))

/-- KEY_EXCHANGE (R551): mutual authentication is asked for at once; at most eight sessions. -/
def execKeyExchange (p : Fin 2) (mac : BitVec 48) (session : BitVec 32) (s : State) : Host.Outcome State Fault Refusal :=
  let id := session.toNat
  if !(mpServes s) || !(meLive s p.val) then .next s
  else if lookD s.mg.spdm mac.toNat 0 < 3 ∨ id = 0 ∨ (sessOf s id).isSome then .next (sendOut s p.val (fun q => .spdm q mac .error))
  else if 8 ≤ s.mg.sess.length then .next (sendOut s p.val (fun q => .spdm q mac .sessionLimit))
  else
    let x : SessSt := { id := id, mac := mac, port := p.val, phase := .exchange, full := false, digests := false, tx := 0,
                        high := none, seen := [], last := none, heard := s.now }
    let s := s.setMg { s.mg with sess := s.mg.sess ++ [x] }
    .next (sendOut (sendOut s p.val (fun q => .spdm q mac (.keyExchangeRsp id))) p.val (fun q => .spdm q mac (.getDigests id)))

/-- DELIVER_ENCAPSULATED_RESPONSE (R551): the requester's digests, then its chain. A chain that fails ends the exchange. -/
def execDeliverEncapsulatedResponse (session : BitVec 32) (x : EncapResp) (s : State) : Host.Outcome State Fault Refusal :=
  match sessOf s session.toNat with
  | none => .next s
  | some k =>
    if !(mpServes s) || k.phase ≠ .exchange then .next s
    else match x with
      | .digests => .next (sendOut (setSess s { k with digests := true }) k.port (fun q => .spdm q k.mac (.getCertificate k.id)))
      | .chain good root =>
        if !k.digests then .next (sendOut s k.port (fun q => .spdm q k.mac .error))
        else if good && (fmRoot s == 0 || root == fmRoot s) then
          .next (setSess s { k with phase := .verified, full := fmRoot s != 0 })
        else
          let s := drsEvent ((dropSession s k.id).bump mpBase Reg.Mp.AUTH_FAIL_CNT) 2
          .next (sendOut s k.port (fun q => .spdm q k.mac .error))

/-- FINISH (R551): a verified exchange becomes a session. -/
def execFinish (session : BitVec 32) (good : Bool) (s : State) : Host.Outcome State Fault Refusal :=
  match sessOf s session.toNat with
  | none => .next s
  | some k =>
    if !(mpServes s) || k.phase = .established then .next s
    else if good && k.phase == .verified then
      let s := setSess s { k with phase := .established, tx := 0, high := none, seen := [], heard := s.now }
      let s := drsEvent (s.wr mpBase Reg.Mp.SESS_ACTIVE (s.rd mpBase Reg.Mp.SESS_ACTIVE + 1)) 0
      .next (sendOut s k.port (fun q => .spdm q k.mac (.finishRsp k.id)))
    else .next (sendOut (dropSession s k.id) k.port (fun q => .spdm q k.mac .error))

/-- A secured SPDM message of an established session is answered. -/
def onSession (s : State) (id : Nat) (go : State → SessSt → State) : State :=
  match liveSess s id with
  | none => s
  | some k => if mpServes s then go s k else s

/-- HEARTBEAT (R550, R552). -/
def execHeartbeat (session : BitVec 32) (s : State) : Host.Outcome State Fault Refusal :=
  .next (onSession s session.toNat (fun t k =>
    sendOut (setSess t { k with heard := t.now }) k.port (fun q => .spdm q k.mac (.heartbeatAck k.id))))

/-- KEY_UPDATE (R549): each direction's SEQ starts at 0 again. -/
def execKeyUpdate (session : BitVec 32) (s : State) : Host.Outcome State Fault Refusal :=
  .next (onSession s session.toNat (fun t k =>
    sendOut (setSess t { k with tx := 0, high := none, seen := [], heard := t.now }) k.port (fun q => .spdm q k.mac (.keyUpdateAck k.id))))

/-- END_SESSION (R552). -/
def execEndSession (session : BitVec 32) (s : State) : Host.Outcome State Fault Refusal :=
  .next (onSession s session.toNat (fun t k => dropSession (sendOut t k.port (fun q => .spdm q k.mac (.endSessionAck k.id))) k.id))

/-- SESSION_TIMEOUT (R552). -/
def execSessionTimeout (session : BitVec 32) (s : State) : Host.Outcome State Fault Refusal :=
  .next (dropSession s session.toNat)

/-! ### Streams (R562, R563) -/

/-- STREAM_RECORD_SEND (R562, R563): the stream's oldest records leave; those after them that do not fit the
rate are dropped. -/
def execStreamRecordSend (st : Fin 4) (fit drop_ : Nat) (s : State) : Host.Outcome State Fault Refusal :=
  match look s.mg.streams st.val with
  | none => .next s
  | some h => match liveSess s h.session with
    | none => .next s
    | some k =>
      if !(mpServes s) then .next s
      else
        let l := if st = 0 then s.events.kept.map StreamRec.event else lookD s.mg.recs st.val []
        let n := Nat.min drop_ (l.length - fit)
        let s := if st = 0 then
            ({ s with events := { s.events with kept := s.events.kept.drop (fit + n) } }).add mpBase Reg.Mp.EVT_LOST n
          else s.setMg { s.mg with recs := put s.mg.recs st.val (l.drop (fit + n)) }
        .next ((streamMsgs st.val (l.take fit)).foldl (fun t m =>
          sendSecured t k.id k.port (fun q seq => .secured q (securedFrame t k.mac k.id seq 2 m))) s)

/-! ### The timebase (R564 to R567) -/

/-- A register word as a signed number. -/
def signed32 (n : Nat) : Int := (BitVec.ofNat 32 n).toInt
/-- A signed number as a register word. -/
def word32 (i : Int) : Nat := (BitVec.ofInt 32 i).toNat

/-- An offset sample goes to the servo. -/
def offerOffset (s : State) (o : Int) : State := { s with tbOffers := s.tbOffers ++ [o] }

/-- The bucket pair of a key of `PoliceSt.buckets`. -/
def bucketAt (k : Nat) : BucketRef :=
  if k < 16384 then meterRef k
  else if k < 20480 then shaperRef (.inj (idx 4095 (k - 16384)))
  else shaperRef (.egress (idx 95 ((k - 20480) / 3)) (idx 2 ((k - 20480) % 3)))

/-- Refills whose instants a step of `n` ns passes over, at once (R565). -/
def refillsPassed (s : State) (n : Nat) : State :=
  s.police.buckets.foldl (fun t (kv : Nat × Buckets) =>
    let x := bucketAt kv.1
    let i := refillNs t x
    let k : Nat := if i = 0 then 0 else (t.timebase + n) / i - t.timebase / i
    setBuckets (if k = 0 then t else heldAgain t kv.1) x {
      tc := min (kv.2.tc + (k * (t.rd x.entry x.cir * i) : Nat)) ((t.rd x.entry x.cbs : Int) * 8000)
      tp := min (kv.2.tp + (k * (t.rd x.entry x.pir * i) : Nat)) ((t.rd x.entry x.pbs : Int) * 8000) }) s

/-- Gazetteer ticks that a step of `n` ns passes over make no snapshot and are counted (R530, R565). -/
def ticksPassed (s : State) (n : Nat) : State :=
  let i := 1000 * s.rd gzBase Reg.Gz.GZ_PERIOD_US
  let k : Nat := if i = 0 then 0 else (s.timebase + n) / i - s.timebase / i
  if k = 0 ∨ unitOff s .gazetteer ∨ !(s.on gzBase Reg.Gz.GZ_CFG_EN) then s
  else
    let s := (s.add gzBase Reg.Gz.GZ_SKIP k).setEvt gzBase Reg.Gz.GZ_EVENT 1
    applyHeld (s.setGz { s.gz with ticks := (s.gz.ticks + k) % 2 ^ 32, skipped := s.gz.skipped + k })

/-- TIMEBASE_NS advances by `n`. -/
def advanceBase (s : State) (n : Nat) : State :=
  s.wr64 0 Reg.Root.TIMEBASE_NS_LO Reg.Root.TIMEBASE_NS_HI ((s.timebase + n) % 2 ^ 64)

/-- A forward step of `o` ps (R565). -/
def stepBase (s : State) (o : Nat) : State :=
  let c := s.mg.carry + (o % 1000 * 1000000 : Nat)
  let n := o / 1000 + (c / 1000000000).toNat
  let s := ticksPassed (refillsPassed s n) n
  let s := (advanceBase s n).bump mpBase Reg.Mp.TB_STEP_CNT
  s.setMg { s.mg with carry := c % 1000000000 }

/-- A slew of the offset `o` in ps over an interval of `t` ns (R565); the rate is held within TB_MAX_PPB and what is beyond
is carried on. -/
def slewBase (s : State) (o : Int) (t : Nat) : State :=
  let ppb := fun (ps : Int) => ps * 1000000 / (t : Int)
  let freq := s.mg.freq + ppb (o / (2 ^ s.rd mpBase Reg.Mp.TB_CFG_KI_SHIFT : Nat))
  let want := freq + ppb (o / (2 ^ s.rd mpBase Reg.Mp.TB_CFG_KP_SHIFT : Nat) + s.mg.slew)
  let top : Int := s.rd mpBase Reg.Mp.TB_MAX_PPB
  let rate := max (-top) (min top want)
  let s := s.setMg { s.mg with freq := freq, rate := rate, slewEnd := s.now + t, slew := (want - rate) * t / 1000000 }
  s.wr mpBase Reg.Mp.TB_FREQ_PPB (word32 freq)

/-- TB_OFFSET_SAMPLE (R565): the oldest offset that a source has passed on. When the servo is locked the manual does not
say; the interval of a first sample is taken as TB_HOLDOVER_MS. -/
def execTbOffsetSample (s : State) : Host.Outcome State Fault Refusal :=
  match s.tbOffers with
  | [] => .next s
  | o :: rest =>
    let s := { s with tbOffers := rest }
    if s.rd mpBase Reg.Mp.TB_CFG_SRC = 0 then .next s
    else
      let t := match s.mg.sampleAt with
        | some a => Nat.max 1 (s.now - a)
        | none => 1000000 * s.rd mpBase Reg.Mp.TB_HOLDOVER_MS
      let s := (s.wr mpBase Reg.Mp.TB_OFFSET_PS (word32 o)).wr mpBase Reg.Mp.TB_STATUS_STATE (1 + s.drawn 1)
      let s := s.spend
      let s := s.setMg { s.mg with sampleAt := some s.now }
      if (1000 * s.rd mpBase Reg.Mp.TB_STEP_NS : Nat) < o ∧ s.on mpBase Reg.Mp.TB_CFG_STEP_OK then .next (stepBase s o.toNat)
      else .next (slewBase s o t)

/-- TB_HOLDOVER (R565). -/
def execTbHoldover (s : State) : Host.Outcome State Fault Refusal :=
  let st := s.rd mpBase Reg.Mp.TB_STATUS_STATE
  if s.rd mpBase Reg.Mp.TB_CFG_SRC = 0 ∨ (st ≠ 1 ∧ st ≠ 2) then .next s
  else .next (deviceEvent ((s.wr mpBase Reg.Mp.TB_STATUS_STATE 3).setMg { s.mg with sampleAt := none }) 0x5E [0, 0, 0, 0])

/-- TIME_PPS_IN_EDGE (R564): the phase against the nearest multiple of 10^9 ns. -/
def execTimePpsInEdge (s : State) : Host.Outcome State Fault Refusal :=
  let n := s.timebase
  let nearest := (n + 500000000) / 1000000000 * 1000000000
  .next (if s.rd mpBase Reg.Mp.TB_CFG_SRC = 3 then offerOffset s (((nearest : Int) - n) * 1000) else s)

/-- TIME_PPS_OUT_EDGE (R567): high from a multiple of 10^9 ns, for 1 ms. -/
def execTimePpsOutEdge (rise : Bool) (s : State) : Host.Outcome State Fault Refusal :=
  .next (if s.mg.pps = rise then s else (s.setMg { s.mg with pps := rise }).emit (.ppsOut rise))

/-- PTP_EVENT_MESSAGE (R566): forwarded with the residence time added; the slave takes an offset from it in its own domain. -/
def execPtpEventMessage (p : Fin 2) (domain : BitVec 8) (residence : BitVec 32) (offset : Option (BitVec 64)) (s : State) :
    Host.Outcome State Fault Refusal :=
  if !(meLive s p.val) then .next s
  else
    let s := forwardFrame (cnt1 s (.mgmtEth p) 0x100) p.val (fun q => .ptp q residence.toNat)
    match offset with
    | some o =>
      if s.rd mpBase Reg.Mp.TB_CFG_SRC = 2 ∧ domain.toNat = s.rd mpBase Reg.Mp.PTP_DOMAIN then
        .next (offerOffset (s.wr mpBase Reg.Mp.TB_STATUS_PTP_PORT p.val) o.toInt)
      else .next s
    | none => .next s

/-! ### Restarts of the management processor (R568, R569, R584, R593) -/

/-- The firmware bank that runs is a bank, not the recovery image. -/
def bankRuns (s : State) : Bool := s.boot.fwBooted && !(s.on (base .flask) Reg.Flk.BANK_STATUS_RECOVERY)

/-- The header unit of the running firmware bank is written as zero while it is unconfirmed (R584). -/
def dropUnconfirmed (s : State) : State :=
  let b := base .flask
  if s.on b Reg.Flk.BANK_STATUS_FW_UNCONFIRMED then
    let gone := fun (x : FlaskBank) => { x with magic := 0, hdrVer := 0, svn := 0 }
    if s.on 0 Reg.Root.DEV_STATUS_FW_BANK then
      let s := { s with flask := { s.flask with fwB := gone s.flask.fwB } }
      (s.wr b Reg.Flk.BANK_STATUS_FWB_VALID 0).wr64 b Reg.Flk.FWB_SEQ_LO Reg.Flk.FWB_SEQ_HI 0
    else
      let s := { s with flask := { s.flask with fwA := gone s.flask.fwA } }
      (s.wr b Reg.Flk.BANK_STATUS_FWA_VALID 0).wr64 b Reg.Flk.FWA_SEQ_LO Reg.Flk.FWA_SEQ_HI 0
  else s

/-- MP_STATE becomes FAILED (R569): with a firmware bank running, an unconfirmed bank is invalidated (R584) and a fatal stop
begins (R608). -/
def mpFails (s : State) : State :=
  let s := s.wr mpBase Reg.Mp.MP_STATE 3
  if bankRuns s then fatalStop (dropUnconfirmed s) .mgmtProc .lockstep (s.rd mpBase Reg.Mp.MP_LAST_CAUSE) 0 else s

/-- A restart begins (R568, R569): the unit is fenced, sessions end and a store is cut short; too many within 60 s leave the
processor FAILED. -/
def mpRestart (s : State) (cause : Nat) : State :=
  if s.rd mpBase Reg.Mp.MP_STATE ≠ 1 then s
  else
    let s := ((s.wr mpBase Reg.Mp.MP_STATE 2).bump mpBase Reg.Mp.MP_RESTARTS).wr mpBase Reg.Mp.MP_LAST_CAUSE cause
    let s := drsEvent s 4
    let s := if cause = 4 then s
      else recordError s { unit := .mgmtProc, kind := .lockstep, sev := 2, sub := cause, info := 0, fenced := true, fatal := false }
    let l := s.now :: s.mg.restarts.filter (fun t => s.now < t + 60000000000)
    let own := !(isFenced s .mgmtProc)
    let s := fenceUnit (abandonStore (dropSessions (s.setMg { s.mg with restarts := l }))) .mgmtProc
    let s := s.setMg { s.mg with ownFence := own }
    if s.rd mpBase Reg.Mp.MP_RESTART_MAX < l.length then mpFails s else s

/-- LOCKSTEP_MISMATCH (R568). -/
def execLockstepMismatch (s : State) : Host.Outcome State Fault Refusal := .next (mpRestart s 1)
/-- MP_WATCHDOG_EXPIRE (R568). -/
def execMpWatchdogExpire (s : State) : Host.Outcome State Fault Refusal := .next (mpRestart s 2)
/-- MP_MEMORY_ERROR (R568). -/
def execMpMemoryError (s : State) : Host.Outcome State Fault Refusal := .next (mpRestart s 3)
/-- MP_RESTART (R568). -/
def execMpRestart (r : Route) (s : State) : Host.Outcome State Fault Refusal :=
  .next (guarded s r (mpBase + 0x4C) (fun t => mpRestart t 4))

/-- MP_RESTART_DONE (R568): the processor runs again, its fence ends; a bank that no longer verifies leaves it FAILED. -/
def execMpRestartDone (good : Bool) (s : State) : Host.Outcome State Fault Refusal :=
  if s.rd mpBase Reg.Mp.MP_STATE ≠ 2 then .next s
  else if good then
    let s := s.wr mpBase Reg.Mp.MP_STATE 1
    let s := if s.mg.ownFence then
        { s with setup := { s.setup with fenced := s.setup.fenced.filter (· != .mgmtProc) }, mg := { s.mg with ownFence := false } }
      else s
    let s := if isFenced s .mgmtProc || s.mesh.recover.any (fun r => r.1 == 71) then s else setDead s 71 false
    .next (deviceEvent s 0x5F [s.rd mpBase Reg.Mp.MP_LAST_CAUSE, 0, 0, 0])
  else .next (mpFails s)

/-- MGMT_ETH_CNT_CLR (R570). -/
def execMgmtEthCntClr (r : Route) (k : Fin 2) (s : State) : Host.Outcome State Fault Refusal :=
  .next (guarded s r (meBase k.val + 0x54) (fun t => t.clearAll (meBase k.val)
    [Reg.Me.FWD_FRAMES, Reg.Me.FWD_DROP, Reg.Me.TTL_DROP, Reg.Me.LOOP_DROP, Reg.Me.FCS_ERR, Reg.Me.BAD_FRAME, Reg.Me.HELLO_MISS]))

/-- MP_CNT_CLR (R571). -/
def execMpCntClr (r : Route) (s : State) : Host.Outcome State Fault Refusal :=
  .next (guarded s r (mpBase + 0x4C) (fun t => t.clearAll mpBase
    [Reg.Mp.AUTH_FAIL_CNT, Reg.Mp.BAD_TAG_CNT, Reg.Mp.REQ_DUP_CNT, Reg.Mp.TB_STEP_CNT]))

end Sys2Proof.Machine
end

