-- ==== Sys2Proof/Machine/Streams.lean ====
section
/-!
DEFINITION. Contour map records (R218).
-/
namespace Sys2Proof.Machine

/-- Payload rate of a port's present width and rate, in 0.1 Gb/s (R112). -/
def payloadTenths (s : State) (n : Nat) : Nat :=
  let lanes := lanesOf (s.rd (portBase n) Reg.Port.PORT_STATE_WIDTH)
  if (s.port n).rate = 0 then (if lanes = 4 then 7908 else if lanes = 2 then 3954 else 1977)
  else (if lanes = 4 then 3954 else if lanes = 2 then 1977 else 988)

/-- Flits of 512 bits in a period, in 1/1,000 of the payload rate, saturating in 16 bits. -/
def utilOf (s : State) (n flits period : Nat) : Nat := Nat.min (flits * 5120 / (payloadTenths s n * period)) 65535

/-- Packets marked under R166 at core port `n`, and drops and push-outs of its queues, since reset (R218): counts of their own,
which CNT_CLR leaves. -/
def portMarks (s : State) (n : Nat) : Nat := lookD s.route.marks n 0
/-- Drops and push-outs of a port's lossy queues. -/
def portDrops (s : State) (n : Nat) : Nat := [3 * n, 3 * n + 1, 3 * n + 2].foldl (fun m q => m + lookD s.route.drops q 0) 0

/-- What has been counted since; a count that has been cleared starts again. -/
def since (now_ start : Nat) : Nat := if now_ < start then now_ else now_ - start

/-- A period begins at the counts as they are. -/
def contourStart (s : State) : State :=
  let fresh := fun (n : Nat) => { ContourPort.init with
    tx := (s.port n).txFlits, rx := (s.port n).rxFlits, marks := portMarks s n, drops := portDrops s n }
  let l := (List.range 96).foldl (fun (m : AMap ContourPort) n => put m n (fresh n)) s.route.contour
  { s with route := { s.route with contour := l } }

/-- The four words of port `n` (R218). -/
def contourPort (s : State) (n period : Nat) : List Nat :=
  let x := lookD s.route.contour n ContourPort.init
  let b := portBase n
  let mean : Nat := if x.cnt = 0 then 0 else x.sum.1 / 2 ^ x.sum.2 / x.cnt
  [s.rd b Reg.Port.PORT_STATE_STATE + 16 * s.rd b Reg.Port.PORT_STATE_WIDTH + 256 * roleOf s n + 65536 * b2n (look s.route.warmAt n).isSome,
   Nat.min mean 65535 + 65536 * Nat.min (x.max.1 / 2 ^ x.max.2) 65535,
   utilOf s n (since (s.port n).rxFlits x.rx) period + 65536 * utilOf s n (since (s.port n).txFlits x.tx) period,
   Nat.min (since (portDrops s n) x.drops) 65535 + 65536 * Nat.min (since (portMarks s n) x.marks) 65535]

/-- A Contour record, most significant byte first (R2, R218). -/
def contourRecord (s : State) (seq : Nat) : List Byte :=
  let period := s.rd atBase Reg.Atlas.CONTOUR_PERIOD_US
  let t := s.timebase
  let head := [1568 + 65536 * deviceId s, seq, t / 2 ^ 32, t % 2 ^ 32, period,
    s.rd 0 Reg.Root.INJ_EPOCH_EPOCH + 2 * b2n (atlasValid s 0) + 4 * b2n (atlasValid s 1), 0, 0]
  (head ++ (List.range 96).flatMap (fun n => contourPort s n period)).flatMap (fun w => (be4 w).map (BitVec.ofNat 8))

/-- CONTOUR_PERIOD (R218): a record closes and goes to the CONTOUR stream, or is dropped. -/
def execContourPeriod (room : Bool) (s : State) : Host.Outcome State Fault Refusal :=
  if !(s.on atBase Reg.Atlas.CONTOUR_CFG_EN) then .next s
  else
    let b := contourRecord s s.route.contourSeq
    let s := { s with route := { s.route with contourSeq := (s.route.contourSeq + 1) % 2 ^ 32 } }
    .next (contourStart (if room then streamPut s 1 (.bytes b) else s))

end Sys2Proof.Machine
end

