-- ==== Sys2Proof/Machine/Resets.lean ====
section
/-!
DEFINITION. Unit, warm and cold resets and what each keeps (R53, R54, R589 to R593), and the loading of a configuration image
(R579).
-/
namespace Sys2Proof.Machine

/-! ### Configuration records (R579, R580) -/

/-- One record: the "cfg" fields of its word take their values where these are in range; no such field, and the record is
skipped (`false`). A misaligned offset holds none. FN.VALID is set by the rule of R274; a function's range fields must come
before it. -/
def loadRecord (s : State) (off v : Nat) : Bool × State :=
  let u := unitAt off
  let w := off - base u
  let fs := if off % 4 = 0 then (fieldsAt u w).filter (·.cfg) else []
  let good := inRange (fs.map (fun f => (f, keyAt u w f, v / 2 ^ f.lo % 2 ^ f.width)))
  if fs.isEmpty then (false, s)
  else if good.2 || wordBad s u w v then
    (true, if wordBad s u w v then configError s u else configError { s with regs := good.1.foldl (fun m kv => put m kv.1 kv.2) s.regs } u)
  else if u = .cluster 0 ∧ 0x1000 ≤ w ∧ w % 32 = 0x1C then (true, setFnValid s ((w - 0x1000) / 32) (bitOf v 31))
  else (true, { s with regs := good.1.foldl (fun m kv => put m kv.1 kv.2) s.regs })

/-- The meter or shaper whose CIR word stands at this offset. -/
def rateAt (off : Nat) : Option BucketRef :=
  let u := unitAt off
  let w := off - base u
  match u with
  | .meterBank => if 0x80000 ≤ w ∧ w % 32 = 0 then some (meterRef ((w - 0x80000) / 32)) else none
  | .injShaper => if 0x10000 ≤ w ∧ w < 0x10000 + 32 * 4096 ∧ w % 32 = 0 then some (shaperRef (.inj (idx 4095 ((w - 0x10000) / 32)))) else none
  | .egressShaper n => if 0x100 ≤ w ∧ w < 0x160 ∧ w % 32 = 0 then some (shaperRef (.egress n (idx 2 ((w - 0x100) / 32)))) else none
  | _ => none

/-- A loaded pair of rates with PIR below CIR is not applied (R507). -/
def settleRates (s : State) (off : Nat) : State :=
  match rateAt off with
  | none => s
  | some x =>
    if s.rd x.entry x.pir < s.rd x.entry x.cir then
      configError ((s.wr x.entry x.cir x.cir.reset).wr x.entry x.pir x.pir.reset) x.unit
    else s

/-- Records applied in their order (R579): how many were skipped, and the state after them. -/
def loadImage (s : State) (recs : List (Nat × Nat)) : Nat × State :=
  let r := recs.foldl (fun (p : Nat × State) (kv : Nat × Nat) =>
    let q := loadRecord p.2 kv.1 kv.2
    (p.1 + b2n (!q.1), q.2)) (0, s)
  (r.1, recs.foldl (fun t kv => settleRates t kv.1) r.2)

/-- The field key lies in the window of `u`. -/
def keyIn (u : UnitId) (k : Nat) : Bool := base u * 32 ≤ k && k < (base u + 2 ^ sizeLog u) * 32

/-- LINK_DOWN blocks are still to leave by this port, so a reset that falls on it waits for the last of them (R636). -/
def lingers (s : State) (n : Nat) : Bool := 0 < (s.port n).ldLeft

/-- The field key lies in the window of a port that lingers. -/
def keyLingers (s : State) (k : Nat) : Bool := (List.range 96).any (fun n => lingers s n && keyIn (portUnit n) k)

/-- The kept image applied to the words of a subtree (R590). -/
def reloadCfg (s : State) (u : UnitId) : State :=
  (loadImage s (s.flask.image.filter (fun kv =>
    base u ≤ kv.1 && kv.1 < base u + 2 ^ sizeLog u && !(keyLingers s (32 * kv.1))))).2

/-! ### Unit reset (R53, R54, R590, R593) -/

/-- Registers that a unit reset leaves as they are: Flask's boot results (R594), the servo's, MP_RESTARTS and the indices of the
lost-line log (R590), the state of a failed stack (R452) and of a management processor that has FAILED (R569). -/
def survives (s : State) (k : Nat) : Bool :=
  let o := k / 32
  let flk := base .flask
  (k == Reg.Mp.MP_STATE.key mpBase && s.rd mpBase Reg.Mp.MP_STATE == 3) || k == Reg.Mp.MP_RESTARTS.key mpBase ||
  k == Reg.Coh.LLOG_PI.key poolBase || k == Reg.Coh.LLOG_CI.key poolBase || k == Reg.Coh.LLOG_LOST.key poolBase ||
  (flk + 0x40 ≤ o && o < flk + 0x6C) || o == flk + 0x80 || o == mpBase + 0x98 || o == mpBase + 0x9C || o == mpBase + 0xA0 ||
  (List.range 6).any (fun i => k == Reg.Stk.STACK_STATE.key (stackBase i) && s.rd (stackBase i) Reg.Stk.STACK_STATE == 2)

/-- Staged values, held writes and far-posted writes of a subtree are discarded; groups and islands show it at once (R53). -/
def dropWrites (s : State) (u : UnitId) : State :=
  let s := (List.range 60).foldl (fun t i =>
    match look t.setup.fpAt i with
    | some o => if base u ≤ o && o < base u + 2 ^ sizeLog u then dropFp t i else t
    | none => t) s
  let gone := s.setup.toApply.filter (fun v => inSubtree v u)
  let s := { s with setup := { s.setup with
    staged := dropKeys s.setup.staged (keyIn u)
    held := s.setup.held.filter (fun kv => !(keyIn u kv.1))
    toApply := s.setup.toApply.filter (fun v => !(inSubtree v u))
    applied := s.setup.applied.filter (fun v => !(inSubtree v u)) } }
  refreshPending ((gone.map (groupOf s)).foldl finishGroup s)

/-- An image of the boot ended for a stack's extents: a copying pair ends, a sanitize starts again (R593). -/
def stackCut (s : State) (i : Nat) : State :=
  (keysWhere s.pool.exts (fun e x => x.xstate == .copying && (homeStack e == i || homeStack x.mirror == i))).foldl endPair s

/-- Functions whose table stands in cluster 0 lose their queues as its reset clears FN.VALID. -/
def fnTableGone (s : State) : State :=
  ((List.range 1024).filter (fun f => fnRd s f Reg.FnTab.FN_VALID == 1)).foldl queueReset s

/-- A port's link-layer state is gone, and with it the seeding of its congestion estimate (R197). -/
def clearPort (s : State) (n : Nat) : State :=
  { s with ports := del s.ports n, route := { s.route with warmAt := del s.route.warmAt n } }.wri atBase Reg.Atlas.PORT_EST_WARMING n 0

/-- What a unit's reset clears beside its registers. Of the packets in the switch core only the note stays that the rest of
one already given up is still to arrive. -/
def clearUnit (s : State) (u : UnitId) : State :=
  match u with
  | .port n => if lingers s n.val then s.setPort n.val { s.port n.val with ldThen := .reset } else clearPort s n.val
  | .switchCore => { s with switch := { State.reset.switch with
      inj := s.switch.inj, cur := s.switch.cur.filter (fun kv => kv.2.phase == .dropped && !kv.2.whole) } }
  | .atlas => setFence { s with route := State.reset.route } []
  | .cluster c => if c = 0 then fnTableGone s else s
  | .matching => matchUnitReset s
  | .compass => { s with xl := { s.xl with keyWant := [] } }
  | .meterBank => { s with police := { buckets := dropKeys s.police.buckets (· < 16384) } }
  | .injShaper => { s with police := { buckets := dropKeys s.police.buckets (fun k => 16384 ≤ k && k < 20480) } }
  | .egressShaper n => { s with police := { buckets := dropKeys s.police.buckets (fun k => 20480 ≤ k && (k - 20480) / 3 == n.val) } }
  | .gazetteer => s.setGz { s.gz with ticks := 0, skipped := 0, lost := 0, lostAt := none, trSeq := 0, stopping := false }
  | .attachment a => { s.setAtt a.val AttSt.init with hostCfg := dropKeys s.hostCfg (keyIn u) }
  | .hostMacro _ => { s with hostCfg := dropKeys s.hostCfg (keyIn u) }
  | .slice i =>
    { s with mesh := { s.mesh with slices := del s.mesh.slices i.val, sf := dropKeys s.mesh.sf (fun l => lineSlice l == i.val) } }
  | .stack i => stackCut s i.val
  | .mgmtProc => s.setMg { s.mg with restarts := [], dseq := 0, ownFence := false }
  | .root | .secProc | .flask | .mgmtEth _ | .collective | .engine _ | .tileCluster _ | .tile _ | .macroGroup _ | .fabricMacro _
  | .hostGroup _ => s

/-- A port in reset is DOWN at once (R135), unless LINK_DOWN blocks are still to leave (R636). -/
def portsDown (s : State) (u : UnitId) : State :=
  (List.range 96).foldl (fun t n =>
    if inSubtree (portUnit n) u && portState t n != stDown && !(lingers t n) then portDown t n 0xC else t) s

/-- The banks of a subtree have been reset: their selections are the defaults, and the next dump says so (R521, R530). -/
def banksReset (s : State) (us : List UnitId) : State :=
  let bs := (us.filter (fun v => (bankOffset v).isSome)).map base
  s.setGz { s.gz with
    fresh := bs.foldl addOnce s.gz.fresh, chosen := s.gz.chosen.filter (fun b => !(bs.contains b)),
    held := s.gz.held.filter (fun kv => !(us.any (fun v => keyIn v kv.1))) }

/-- A unit reset of `u` and its subtree begins (R53): what it holds is given up, registers are back at their reset values and
FENCED is clear. -/
def beginReset (s : State) (u : UnitId) : State :=
  let us := subtree u
  let was := s
  let s := portsDown (us.foldl giveUp s) u
  let s := us.foldl clearUnit (dropWrites s u)
  let s := { s with regs := dropKeys s.regs (fun k => keyIn u k && !(survives s k) && !(keyLingers s k)) }
  let s := banksReset (reloadCfg s u) us
  let s := if us.contains .atlas then
      routingEvents was ((List.range 96).foldl (fun t n =>
        if portRunning t n then setMask96 t Reg.Atlas.PORT_DEAD n false else t) s) else s
  let s := if us.contains (.stack 0) then showRecovery (showFree s) else s
  { s with
    setup := { s.setup with
      fenced := s.setup.fenced.filter (fun v => !(us.contains v)), inReset := us.foldl addOnce s.setup.inReset,
      groups := dropKeys s.setup.groups (fun b => base u ≤ b && b < base u + 2 ^ sizeLog u),
      resetAt := put s.setup.resetAt (base u) s.now }
    err := { s.err with
      sev := dropKeys s.err.sev (fun b => base u ≤ b && b < base u + 2 ^ sizeLog u),
      first := dropKeys s.err.first (fun b => base u ≤ b && b < base u + 2 ^ sizeLog u),
      bridge := dropKeys s.err.bridge (fun b => base u ≤ b && b < base u + 2 ^ sizeLog u) } }

/-- The reset that waited for a port's last LINK_DOWN block takes effect (R636): DOWN, link-layer state and registers gone, the
"cfg" fields of the kept image back (R590). -/
def portReset (s : State) (n : Nat) : State :=
  let u := portUnit n
  let s := clearPort (portDown (s.setPort n { s.port n with ldThen := .stayBroken }) n 0xC) n
  let s := reloadCfg { s with regs := dropKeys s.regs (keyIn u) } u
  if s.boot.started then autoStart s n else s

/-- LINK_DOWN_SENT (R636): the last of the eight blocks has left, and what waited for it takes effect. -/
def execLinkDownSent (n : Fin 96) (s : State) : Host.Outcome State Fault Refusal :=
  let p := s.port n.val
  .next (if p.ldLeft = 0 then
      match p.ldThen with
      | .stayBroken => s
      | .toDown r => portDown (s.setPort n.val { p with ldThen := .stayBroken }) n.val r
      | .reset => portReset s n.val
    else s)

/-- UNIT_RESET_DONE (R53, R54): IN_RESET clears, fences written meanwhile fall, on-die agents live again (R489), ports may
start. -/
def execUnitResetDone (u : UnitId) (s : State) : Host.Outcome State Fault Refusal :=
  if (look s.setup.resetAt (base u)).isNone then .next s
  else
    let at_ := del s.setup.resetAt (base u)
    let still := fun (v : UnitId) => (v :: ancestors v).any (fun x => (look at_ (base x)).isSome)
    let late := s.setup.fencePend.filter (fun v => inSubtree v u && !(still v))
    let s := { s with setup := { s.setup with
      resetAt := at_, inReset := s.setup.inReset.filter (fun v => !(inSubtree v u) || still v),
      fencePend := s.setup.fencePend.filter (fun v => !(late.contains v)) } }
    let s := (subtree u).foldl (fun t v => match agentOf v with
      | some a => if t.mesh.recover.any (fun r => r.1 == a) then t else setDead t a false
      | none => t) s
    let s := if inSubtree .mgmtProc u && s.boot.fwBooted && s.rd mpBase Reg.Mp.MP_STATE != 3 then s.wr mpBase Reg.Mp.MP_STATE 1 else s
    let s := late.foldl fenceUnit s
    .next (if s.boot.started then autoStartAll s else s)

/-! ### Cold and warm resets (R589 to R592, R620, R633, R634) -/

/-- A register that keeps its value through a reset of this kind: fuses, the "aux" registers, and what R590 keeps over a warm
reset. -/
def regKept (k : ResetKind) (s : State) (key : Nat) : Bool :=
  let o := key / 32
  o == 0x184 || o == 0x19C || key == Reg.Flk.SVN_MIN_SVN.key (base .flask) ||
  (k == .warm &&
    (o == 0x78 || o == 0x7C || key == Reg.Root.DEV_STATUS_POOL_STALE.key 0 || key == Reg.Mp.MP_RESTARTS.key mpBase ||
     o == mpBase + 0x98 || o == mpBase + 0x9C || o == mpBase + 0xA0 || o == poolBase + 0x78 ||
     key == Reg.Coh.LLOG_PI.key poolBase || key == Reg.Coh.LLOG_CI.key poolBase || key == Reg.Coh.LLOG_LOST.key poolBase ||
     (List.range 6).any (fun i => key == Reg.Stk.STACK_STATE.key (stackBase i) && s.rd (stackBase i) Reg.Stk.STACK_STATE == 2)))

/-- LAST_RESET (R633, R634): of causes that arise at one instant the lower-numbered other than 0 stands, and one reset is
counted. -/
def recordCause (s : State) (cause group : Nat) : State :=
  if s.boot.resetAt = some s.now then
    let old := s.rd 0 Reg.Hk.LAST_RESET_CAUSE
    if old = 0 ∨ cause < old then (s.wr 0 Reg.Hk.LAST_RESET_CAUSE cause).wr 0 Reg.Hk.LAST_RESET_GROUP group
    else if old = 4 ∧ cause = 4 then s.wr 0 Reg.Hk.LAST_RESET_GROUP (s.rd 0 Reg.Hk.LAST_RESET_GROUP ||| group)
    else s
  else
    let s := ((s.wr 0 Reg.Hk.LAST_RESET_CAUSE cause).wr 0 Reg.Hk.LAST_RESET_GROUP group).bump 0 Reg.Hk.LAST_RESET_COUNT
    { s with boot := { s.boot with resetAt := some s.now } }

/-- The rail enables that are up are lowered in the reverse order (R620), and their rails are good no longer. -/
def lowerRails (s : State) : State :=
  let s := [3, 2, 1, 0].foldl (fun t g => if t.boot.pwrEn.getD g false then t.emit (.pwrEn g false) else t) s
  { s with boot := { s.boot with pwrEn := [false, false, false, false], railPg := [false, false, false, false] } }

/-- A rail group's enable rises. -/
def raiseRail (s : State) (g : Nat) : State :=
  if s.boot.pwrEn.getD g false then s
  else ({ s with boot := { s.boot with pwrEn := s.boot.pwrEn.set g true } }).emit (.pwrEn g true)

/-- The power-up sequence starts once PWR_GOOD is high, RESET_N and TEST_EN are released and no trip locks the enables out
(R585, R616, R620, R621). -/
def startPower (s : State) : State :=
  if s.boot.aux && s.boot.pwrGood && s.boot.resetN && !s.boot.testEn && !s.boot.lockedOut && s.boot.kind == some .cold then
    raiseRail s 0
  else s

/-- THERM_N is released as the state that asserted it goes (R631). -/
def releaseTherm (s : State) : State :=
  let s := if s.boot.thermAsserted then s.emit (.thermN false) else s
  { s with boot := { s.boot with thermAsserted := false, thermTripped := false } }

/-- The state that a cold reset leaves, before its power-up sequence: everything at reset but Flask, fuses, "aux" registers,
pins, and the model's own fields (R590). -/
def coldState (s : State) : State :=
  { State.reset with
    now := s.now, out := s.out, free := s.free, pending := s.pending
    regs := s.regs.filter (fun kv => regKept .cold s kv.1)
    flask := { s.flask with store := none, meas := [], image := [] }
    boot := { State.reset.boot with
      aux := s.boot.aux, pwrGood := s.boot.pwrGood, resetN := s.boot.resetN, testEn := s.boot.testEn, pwrEn := s.boot.pwrEn,
      railPg := s.boot.railPg, lockedOut := s.boot.lockedOut, pwrLowAt := s.boot.pwrLowAt, resetAt := s.boot.resetAt,
      hardTrip := s.boot.hardTrip } }

/-- A cold reset begins (R589, R590): the bypass closes, the enables fall, the cause is recorded. -/
def coldStart (s : State) (cause group : Nat) : State :=
  startPower (coldState (lowerRails (recordCause (releaseTherm (closeBypass s)) cause group)))

/-- Extents as a warm reset leaves them (R593): offers end, releases go on to their sanitize, copying pairs end. -/
def warmExtents (s : State) : State :=
  s.pool.exts.foldl (fun t (kv : Nat × ExtSt) =>
    let e := kv.1
    match t.ext e with
    | none => t
    | some x =>
      if !(isHbm e) then
        let t := if x.owner = .free then t else deviceEvent (poolEvent t 1) 0x51 (extDetail e)
        { t with pool := { t.pool with exts := del t.pool.exts e } }
      else match x.xstate with
        | .offered => putExt t e { ExtSt.init with isMirror := x.isMirror, mirror := x.mirror }
        | .releasing => queueSanitize (t.setExt e { ExtSt.init with mirror := x.mirror }) e
        | .copying => endPair t e
        | .settled | .sanitizing => if x.leaving.isEmpty && x.offers.isEmpty then t
            else putExt t e { x with hosts := x.leaving.foldl clrBit x.hosts, leaving := [], offers := [] }) s

/-- On-die agents write back their modified lines and give up the others (R591 step 2). -/
def agentsWriteBack (s : State) : State :=
  let s := onDie.foldl (fun t a =>
    ((lookD t.mesh.cache a []).filter (fun kv => kv.2.dirty)).foldl (fun t kv => writeLine t kv.1 0 kv.2.data kv.2.bad) t) s
  let s := s.mesh.wbs.foldl (fun t w => if onDie.contains w.agent && w.kind == .wbMod then wbData t w else t) s
  let s := { s with mesh := { s.mesh with wbs := s.mesh.wbs.filter (fun w => !(onDie.contains w.agent)), cache := [] } }
  (s.mesh.sf.map Prod.fst).foldl (fun t l => onDie.foldl (fun t a => sfRemove t l a) t) s

/-- Every agent is declared dead and every slice reclaims (R591 step 3): POOL_STALE where a host's line has been lost since the reset began, when `before` were
(R592). -/
def reclaimAll (before : Nat) (s : State) : State :=
  let s := (List.range 72).foldl (fun t a => agentDies t a 1) s
  let s := s.mesh.recover.foldl (fun t r => r.2.1.foldl (fun t i => recoveryStep (scanSlice t i r.1) i r.1) t) s
  if s.mesh.hostLost = before then s else s.wr 0 Reg.Root.DEV_STATUS_POOL_STALE 1

/-- The state that a warm reset boots from (R590, R591 step 4). -/
def warmState (s : State) : State :=
  { State.reset with
    now := s.now, out := s.out, free := s.free, pending := s.pending
    regs := s.regs.filter (fun kv => regKept .warm s kv.1 || keyLingers s kv.1)
    ports := (s.ports.filter (fun kv => 0 < kv.2.ldLeft)).map (fun kv => (kv.1, { kv.2 with ldThen := .reset }))
    pace := { State.reset.pace with vcore := s.pace.vcore, running := s.pace.running, railW := s.pace.railW, railPace := s.pace.railPace }
    flask := { s.flask with store := none, meas := [], image := [] }
    pool := { s.pool with ready := true, scrub := 0, errs := [] }
    mesh := { State.reset.mesh with lostSeq := s.mesh.lostSeq, hostLost := s.mesh.hostLost }
    events := s.events
    mg := { State.reset.mg with
      freq := s.mg.freq, rate := s.mg.rate, slewEnd := s.mg.slewEnd, slew := s.mg.slew, carry := s.mg.carry,
      sampleAt := s.mg.sampleAt, pps := s.mg.pps }
    err := { State.reset.err with seq := s.err.seq }
    boot := { State.reset.boot with
      kind := some .warm, aux := s.boot.aux, pwrGood := s.boot.pwrGood, resetN := s.boot.resetN, testEn := s.boot.testEn,
      pwrEn := s.boot.pwrEn, railPg := s.boot.railPg, lockedOut := s.boot.lockedOut, pwrLowAt := s.boot.pwrLowAt,
      resetAt := s.boot.resetAt, stopped := s.boot.stopped, locked := s.boot.locked, warmBoot := true } }

/-- A warm reset (R591): discarded while a cold or warm reset is in progress (R589) and during a hard trip (R632). -/
def warmStart (s : State) : State :=
  if s.boot.kind.isSome || s.boot.hardTrip then s
  else
    let before := s.mesh.hostLost
    let s := closeBypass (recordCause (releaseTherm s) 6 0)
    let s := (List.range 64).foldl (fun t a =>
      if attUp t a then attachGoesDown t a 1 else if isDown t a && linkUp t a then linkGone t a 0 else t) s
    let s := dropSessions s
    let s := warmExtents (reclaimAll before (agentsWriteBack s))
    showFree (warmState s)

end Sys2Proof.Machine
end

