-- ==== Sys2Proof/Machine/Startup.lean ====
section
/-!
DEFINITION. Power pins, rails, the boot steps, watchdogs, scrubbing, clocks, the clearing of errors, and temperature
(spec/18_startup_reset.md, spec/19_reliability.md, spec/20_electrical.md).
-/
namespace Sys2Proof.Machine

/-! ### Pins and rails (R585, R616, R620, R621) -/

/-- The boot state changed. -/
def setBoot (s : State) (b : BootSt) : State := { s with boot := b }

/-- The lock-out of a failed rail or a hard trip ends (R621, R632). -/
def unlock (s : State) : State := setBoot s { s.boot with lockedOut := false, hardTrip := false }

/-- V3P3_AUX_RISE (R24, R585, R633): the auxiliary islands start with the "aux" registers at their reset values. -/
def execV3p3AuxRise (s : State) : Host.Outcome State Fault Refusal :=
  if s.boot.aux then .next s
  else .next (startPower (setBoot s { s.boot with aux := true }))

/-- V3P3_AUX_LOSS (R589, R616, R627): everything but Flask and the fuses is lost, and the bypass closes passively. -/
def execV3p3AuxLoss (s : State) : Host.Outcome State Fault Refusal :=
  if !s.boot.aux then .next s
  else
    let s := coldState (lowerRails (releaseTherm (closeBypass s)))
    let s := { s with regs := s.regs.filter (fun kv => kv.1 == Reg.Flk.SVN_MIN_SVN.key flaskBase) }
    .next (setBoot s { s.boot with aux := false, lockedOut := false, hardTrip := false, resetAt := none })

/-- PWR_GOOD_RISE (R585, R621): a lock-out ends when PWR_GOOD was low for at least 1 ms. -/
def execPwrGoodRise (s : State) : Host.Outcome State Fault Refusal :=
  if s.boot.pwrGood then .next s
  else
    let long : Bool := match s.boot.pwrLowAt with
      | some t => t + 1000000 ≤ s.now
      | none => true
    let s := setBoot s { s.boot with pwrGood := true, pwrLowAt := none }
    .next (startPower (if long then unlock s else s))

/-- PWR_GOOD_FALL (R589, R620). -/
def execPwrGoodFall (s : State) : Host.Outcome State Fault Refusal :=
  if !s.boot.pwrGood then .next s
  else
    let s := setBoot s { s.boot with pwrGood := false, pwrLowAt := some s.now }
    .next (if s.boot.aux then coldStart s 1 0 else s)

/-- RESET_N_ASSERT (R589): low for at least 1 us. -/
def execResetNAssert (s : State) : Host.Outcome State Fault Refusal :=
  if !s.boot.resetN then .next s
  else
    let s := setBoot s { s.boot with resetN := false }
    .next (if s.boot.aux then coldStart s 2 0 else s)

/-- RESET_N_RELEASE (R585, R621). -/
def execResetNRelease (s : State) : Host.Outcome State Fault Refusal :=
  if s.boot.resetN then .next s else .next (startPower (unlock (setBoot s { s.boot with resetN := true })))

/-- TEST_EN_ASSERT (R616, R633). -/
def execTestEnAssert (s : State) : Host.Outcome State Fault Refusal :=
  if s.boot.testEn then .next s
  else
    let s := setBoot s { s.boot with testEn := true }
    .next (if s.boot.aux then coldStart s 7 0 else s)

/-- TEST_EN_RELEASE (R616). -/
def execTestEnRelease (s : State) : Host.Outcome State Fault Refusal :=
  if !s.boot.testEn then .next s else .next (startPower (setBoot s { s.boot with testEn := false }))

/-- RAIL_PG and the enable of a group. -/
def railGood (s : State) (g : Nat) : Bool := s.boot.railPg.getD g false
/-- PWR_EN of a group is up. -/
def railOn (s : State) (g : Nat) : Bool := s.boot.pwrEn.getD g false

/-- RAIL_PG_RISE (R620): 100 us later the next group's enable rises. -/
def execRailPgRise (g : Fin 4) (s : State) : Host.Outcome State Fault Refusal :=
  let s := setBoot s { s.boot with railPg := s.boot.railPg.set g.val true }
  .next (if railOn s g.val && g.val < 3 then raiseRail s (g.val + 1) else s)

/-- A rail group fails: as if PWR_GOOD had fallen, with cause 4 and the enables locked out (R621). -/
def railFails (s : State) (g : Nat) : State := coldStart (setBoot s { s.boot with lockedOut := true }) 4 (2 ^ g)

/-- RAIL_PG_TIMEOUT (R621). -/
def execRailPgTimeout (g : Fin 4) (s : State) : Host.Outcome State Fault Refusal :=
  .next (if railOn s g.val && !(railGood s g.val) then railFails s g.val else s)

/-- RAIL_PG_FALL (R621). -/
def execRailPgFall (g : Fin 4) (s : State) : Host.Outcome State Fault Refusal :=
  if !(railGood s g.val) then .next s
  else
    let s := setBoot s { s.boot with railPg := s.boot.railPg.set g.val false }
    .next (if railOn s g.val then railFails s g.val else s)

/-! ### The boot (R564, R575, R579 to R587) -/

/-- ISLAND_LOCK (R564, R585 step 2): with every rail up, the core die leaves power-on reset and the islands that its clocks
drive run; pace measurement and the AVSBus loop start. TCK's island stays without a clock. -/
def execIslandLock (s : State) : Host.Outcome State Fault Refusal :=
  if s.boot.kind ≠ some .cold ∨ s.boot.locked ∨ !((List.range 4).all (fun g => railOn s g && railGood s g)) then .next s
  else .next { setBoot s { s.boot with locked := true, stopped := [57] } with pace := { s.pace with running := true } }

/-- The boot firmware has started the management processor (R585 step 4). -/
def mpStarts (s : State) : State := (setBoot s { s.boot with kind := none, fwBooted := true }).wr mpBase Reg.Mp.MP_STATE 1

/-- A measurement block of R553. -/
def measure (s : State) (i : Nat) (d : BitVec 256) : State := { s with flask := { s.flask with meas := put s.flask.meas i d } }

/-- The configuration image chosen and measured (R580, R581). -/
def chooseConfig (s : State) : State :=
  match bestBank s true with
  | some b =>
    measure ((s.wr 0 Reg.Root.DEV_STATUS_CFG_BANK (b2n b)).wr 0 Reg.Root.DEV_STATUS_CFG_DEFAULTED 0) 3
      (Config.sm3 (imageBytes (bankOf s true b)))
  | none => measure (s.wr 0 Reg.Root.DEV_STATUS_CFG_DEFAULTED 1) 3 0

/-- A firmware bank boots (R581, R584). -/
def bootBank (s : State) (b : Bool) : State :=
  let x := bankOf s false b
  let s := measure (s.wr 0 Reg.Root.DEV_STATUS_FW_BANK (b2n b)) 2 (Config.sm3 (imageBytes x))
  let s := (s.wr flaskBase Reg.Flk.SVN_FW_SVN x.svn.toNat).wr flaskBase Reg.Flk.BANK_STATUS_RECOVERY 0
  let s := s.wr flaskBase Reg.Flk.BANK_STATUS_FW_UNCONFIRMED (b2n (s.flask.confirmed < x.seq.toNat))
  mpStarts (setBoot s { s.boot with runSeq := x.seq.toNat })

/-- The recovery image boots (R582). The manual does not say what SVN it bears: that is an open value. -/
def bootRecovery (s : State) : State :=
  let s := measure (s.wr flaskBase Reg.Flk.BANK_STATUS_RECOVERY 1) 2 Config.recoveryDigest
  let s := (s.wr flaskBase Reg.Flk.SVN_FW_SVN (s.drawn 8)).wr flaskBase Reg.Flk.BANK_STATUS_FW_UNCONFIRMED 0
  mpStarts s.spend

/-- BOOT_FIRMWARE_SELECT (R575, R580 to R582, R585 steps 3 and 4). -/
def execBootFirmwareSelect (c : BootChecks) (s : State) : Host.Outcome State Fault Refusal :=
  if s.boot.kind.isNone || !s.boot.locked || s.boot.fwBooted || s.rd mpBase Reg.Mp.MP_STATE == 3 then .next s
  else
    let s := testBanks s c.sigA c.sigB
    let s := if [false, true].all (fun a => [false, true].all (bankGood s a)) then s else flaskEvent s 3
    let s := chooseConfig (measure (measure s 1 Config.bootRomDigest) 4 Config.factoryDigest)
    .next (match bestBank s false with
      | some b => bootBank s b
      | none => if c.sigRecovery then bootRecovery s else s.wr mpBase Reg.Mp.MP_STATE 3)

/-- Engines that a loaded configuration sets going (R218, R535, R564). -/
def startConfigured (s : State) : State :=
  let s := if s.on atBase Reg.Atlas.CONTOUR_CFG_EN then contourStart s else s
  let s := if s.on gzBase Reg.Gz.TR_CFG_EN then (List.range 16).foldl trailReload s else s
  if s.rd mpBase Reg.Mp.TB_CFG_SRC = 0 then s else s.wr mpBase Reg.Mp.TB_STATUS_STATE 1

/-- CONFIG_IMAGE_APPLY (R578 to R580, R585 step 5). -/
def execConfigImageApply (s : State) : Host.Outcome State Fault Refusal :=
  if !s.boot.fwBooted || s.boot.cfgApplied then .next s
  else
    let recs := if s.on 0 Reg.Root.DEV_STATUS_CFG_DEFAULTED then []
      else recordsOf (imageBytes (bankOf s true (s.on 0 Reg.Root.DEV_STATUS_CFG_BANK)))
    let r := loadImage { s with flask := { s.flask with image := recs } } recs
    let s := r.2.add flaskBase Reg.Flk.CFG_SKIP_CNT r.1
    .next (startConfigured (setBoot s { s.boot with cfgApplied := true }))

/-- Every stack that has not failed is in service. -/
def stacksReady (s : State) : Bool := (List.range 6).all (fun i => s.rd (stackBase i) Reg.Stk.STACK_STATE != 0)

/-- STACK_IN_SERVICE (R585 steps 5 to 7): with the last stack, the start-up coherence test runs or the slices drain. -/
def execStackInService (st : Fin 6) (s : State) : Host.Outcome State Fault Refusal :=
  if !s.boot.cfgApplied || s.rd (stackBase st.val) Reg.Stk.STACK_STATE != 0 then .next s
  else
    let s := s.wr (stackBase st.val) Reg.Stk.STACK_STATE 1
    if !(stacksReady s) || s.boot.started || s.boot.bctFailed || s.rd poolBase Reg.Coh.BCT_STATUS_STATE == 1 then .next s
    else if s.on flaskBase Reg.Flk.BOOT_CFG_BCT_EN then .next (startBct s)
    else .next (fencing s ((List.range 48).foldl startDrain (setBoot s { s.boot with started := true })))

/-- A port that the device brings up by itself has settled (R586). -/
def portSettled (s : State) (n : Nat) : Bool :=
  let r := roleOf s n
  prd s n Reg.Port.PORT_CFG_AUTO == 0 || !(r == 1 || r == 2 || r == 4) || portRunning s n ||
  ((s.port n).firstEnded && prd s n Reg.Port.PORT_STATE_DOWN_REASON == 3)

/-- The conditions of R586. -/
def fabricSettled (s : State) : Bool :=
  bankRuns s && s.boot.cfgApplied && stacksReady s && (List.range 48).all (fun i => sliceMode s i == 0) &&
  (List.range 64).all (fun a => attRd s a Reg.Att.ATT_CFG_ROLE != 1 || attRd s a Reg.Att.ATT_STATE_HOST_READY == 1) &&
  (List.range 96).all (portSettled s)

/-- FABRIC_READY (R586). -/
def execFabricReady (s : State) : Host.Outcome State Fault Refusal :=
  .next (if fabricSettled s then s.wr 0 Reg.Root.DEV_STATUS_FABRIC_READY 1 else s)

/-- FW_CTL.CONFIRM acts (R575, R583, R584). -/
def confirmFw (s : State) (c : BootChecks) : State :=
  if !(bankRuns s) then s
  else
    let v := Nat.min (s.rd flaskBase Reg.Flk.SVN_FW_SVN) 64
    let s := s.wr flaskBase Reg.Flk.SVN_MIN_SVN (Nat.max (minSvn s) v)
    let s := { s with flask := { s.flask with confirmed := s.boot.runSeq } }
    (testBanks s c.sigA c.sigB).wr flaskBase Reg.Flk.BANK_STATUS_FW_UNCONFIRMED 0

/-- FW_CONFIRM (R583). -/
def execFwConfirm (r : Route) (c : BootChecks) (s : State) : Host.Outcome State Fault Refusal :=
  .next (guarded s r (flaskBase + 0x6C) (fun t => confirmFw t c))

/-! ### Detection (R597, R598, R600 to R602) -/

/-- STALL_WATCHDOG_FIRE (R597, R607, R608): only a self-timed unit has stages. -/
def execStallWatchdogFire (u : UnitId) (stage held : BitVec 16) (s : State) : Host.Outcome State Fault Refusal :=
  if legIsland u ≠ 0xFF ∨ unitOff s u then .next s else .next (dangerous s u .stall stage.toNat held.toNat)

/-- WATCHDOG_TEST (R598): a watchdog that does not fire is reported, and its unit is not fenced. -/
def execWatchdogTest (u : UnitId) (stage : BitVec 16) (fired : Bool) (s : State) : Host.Outcome State Fault Refusal :=
  if legIsland u ≠ 0xFF ∨ unitOff s u then .next s
  else
    let s := s.bump 0 Reg.Err.WD_TEST_CNT
    .next (if fired then s else recordError s (ErrRec.contained u .wdLatent stage.toNat 0))

/-- The offset lies in an entry of an Atlas table, or of the multicast table (R180, R225). -/
def entryPlace (off : Nat) : Bool :=
  let u := unitAt off
  let w := off - base u
  let o := (w - 0x10000) % 0x10000
  (u == .atlas && 0x10000 ≤ w && w < 0x30000 && (o < 0x8200 || (0x9000 ≤ o && o < 0x9400))) ||
  (u == .switchCore && 0x800000 ≤ w && w < 0xA00000)

/-- A mismatch confined to one Atlas or multicast entry (R601): its VALID clears and it is reported. -/
def clearEntry (s : State) (off : Nat) : State :=
  let u := unitAt off
  let w := off - base u
  match u with
  | .atlas =>
    let isEntry : Bool := (w - 0x10000) % 0x10000 < 0x8200
    let e := if isEntry then off / 16 * 16 else off / 4 * 4
    let k := e * 32 + Reg.Atlas.WAYPOINT_ENTRY.lo
    let s := if isEntry then s.wr e Reg.AtlasEnt.VALID 0
      else { s with regs := put s.regs k (clrBit ((look s.regs k).getD 0) 31) }
    let s := mendWord s e
    recordError (s.setEvt atBase Reg.Atlas.ATLAS_EVENT 8) (ErrRec.contained .atlas .cfgSignature
      (Config.tableCode atBase (2 * (atlasPlace e).1 + (w - 0x10000) / 0x10000)).toNat (atlasPlace e).2)
  | .switchCore =>
    let g := (w - 0x800000) / 32
    recordError (s.wri swBase Reg.Mc.VALID g 0) (ErrRec.contained .switchCore .cfgSignature (Config.tableCode swBase 0).toNat g)
  | _ => s

/-- CONFIG_SCRUB_TICK (R600, R601, R608). -/
def execConfigScrubTick (u : UnitId) (res : ScrubResult) (s : State) : Host.Outcome State Fault Refusal :=
  if unitOff s u then .next s
  else match res with
    | .good => .next s
    | .entry off =>
      if unitAt off.toNat = u ∧ entryPlace off.toNat then
        .next (clearEntry s off.toNat)
      else .next s
    | .elsewhere table index => .next (dangerous s u .cfgSignature table.toNat index.toNat)

/-- The islands that a clock drives (R23). -/
def islandsOf : ClockId → List Nat
  | .island i => [i.val]
  | .refFab d => (List.range 6).map (6 * d.val + ·)
  | .refCore => (List.range 16).map (40 + ·)
  | .refHost h => [24 + h.val]

/-- The unit that a lost island clock is recorded at. -/
def islandUnit (i : Nat) : UnitId :=
  if i < 24 then .fabricMacro (idx 23 i)
  else if i < 40 then .hostMacro (idx 15 (i - 24))
  else if i < 52 then .stack (idx 5 ((i - 40) % 6))
  else if i < 54 then .mgmtEth (idx 1 (i - 52))
  else if i = 55 then .mgmtProc
  else if i = 56 then .secProc
  else if i = 58 then .flask
  else .root

/-- An island's clock is lost (R602, R608). The manual gives MP_LAST_CAUSE no code for a lost clock: an open value. -/
def islandLost (s : State) (i : Nat) : State :=
  if s.boot.stopped.contains i then s
  else
    let s := setBoot s { s.boot with stopped := addOnce s.boot.stopped i }
    let u := islandUnit i
    if i = 54 ∨ i = 56 then fatalStop s u .clockLoss i 0
    else if i = 57 ∨ i = 59 then s
    else
      let s := recordError s { unit := u, kind := .clockLoss, sev := 2, sub := i, info := 0, fenced := i == 58, fatal := false }
      if i < 24 then (List.range 4).foldl (fun t k => if portState t (4 * i + k) = stDown ∧ (t.port (4 * i + k)).phase = 0 then t else portDown t (4 * i + k) 2) s
      else if i < 40 then (List.range 4).foldl (fun t k => attGone t (4 * (i - 24) + k)) s
      else if i < 52 then failStack s ((i - 40) % 6)
      else if i < 54 then closeBypass s
      else if i = 55 then mpRestart s.spend (s.drawn 3)
      else fenceUnit s .flask

/-- CLOCK_LOSS (R602). -/
def execClockLoss (c : ClockId) (s : State) : Host.Outcome State Fault Refusal :=
  .next (fencing s ((islandsOf c).foldl islandLost s))

/-- CLOCK_RESTORED (R602): the islands serve registers and links again. -/
def execClockRestored (c : ClockId) (s : State) : Host.Outcome State Fault Refusal :=
  let back := (islandsOf c).filter (fun i => s.boot.locked || 56 ≤ i)
  let s := setBoot s { s.boot with stopped := s.boot.stopped.filter (fun i => !(back.contains i)) }
  .next (if s.boot.started then autoStartAll s else s)

/-! ### Clearing errors (R606, R612) -/

/-- The summaries of these units cleared, but for fenced ones. -/
def clearErrors (s : State) (us : List UnitId) : State :=
  let gone := fun (b : Nat) => us.any (fun u => base u == b && !(isFenced s u))
  let free := fun (b : Nat) => us.any (fun u => base u == b && !(fencedView s u))
  { s with err := { s.err with sev := dropKeys s.err.sev gone, first := dropKeys s.err.first free } }

/-- Offset of ERR_CTL. -/
def errCtl : Nat := 0x104

/-- CLR_ALL (R606). -/
def execClrAll (r : Route) (s : State) : Host.Outcome State Fault Refusal :=
  .next (guarded s r errCtl (fun t => clearErrors t allUnits))

/-- ERR_CTL.CLR_UNIT acts (R606). -/
def clearUnitErrors (s : State) : State :=
  match allUnits.find? (fun u => base u == s.rd 0 Reg.Err.ERR_CLR_WIN) with
  | some u => clearErrors s (subtree u)
  | none => configError s .root

/-- CLR_UNIT (R606). -/
def execClrUnit (r : Route) (s : State) : Host.Outcome State Fault Refusal := .next (guarded s r errCtl clearUnitErrors)

/-- LOG_CLR (R612). -/
def execLogClr (r : Route) (s : State) : Host.Outcome State Fault Refusal :=
  .next (guarded s r errCtl (fun t => t.wr 0 Reg.Err.ERRLOG_CI (t.rd 0 Reg.Err.ERRLOG_PI)))

/-- ERR_CNT_CLR (R612). -/
def execErrCntClr (r : Route) (s : State) : Host.Outcome State Fault Refusal :=
  .next (guarded s r errCtl (fun t => t.clearAll 0 [Reg.Err.CORR_CNT, Reg.Err.UNCORR_CNT, Reg.Err.WD_TEST_CNT]))

/-! ### Temperature (R631 to R634) -/

/-- The highest reading and the lowest-numbered sensor that has it. -/
def hottest (t : List (BitVec 16)) : Nat × Nat :=
  (t.zipIdx).foldl (fun (m : Nat × Nat) (x : BitVec 16 × Nat) => if m.1 < x.1.toNat then (x.1.toNat, x.2) else m) (0, 0)

/-- An event bit of the housekeeping registers. -/
def hkEvent (s : State) (i : Nat) : State := s.setEvt 0 Reg.Hk.HK_EVENT i

/-- THERM_N asserted or released. -/
def setTherm (s : State) (b : Bool) : State := (setBoot s { s.boot with thermAsserted := b }).emit (.thermN b)

/-- A hard trip (R632, R634): the enables fall, and a cold state follows that nothing ends but PWR_GOOD or RESET_N. -/
def hardTrips (s : State) : State :=
  let s := setBoot s { s.boot with hardTrip := true, lockedOut := true }
  if s.boot.kind.isSome then
    coldState (lowerRails (releaseTherm ((s.wr 0 Reg.Hk.LAST_RESET_CAUSE 5).wr 0 Reg.Hk.LAST_RESET_GROUP 0)))
  else
    let s := recordCause (releaseTherm (closeBypass s)) 5 0
    coldState (lowerRails ((s.wr 0 Reg.Hk.LAST_RESET_CAUSE 5).wr 0 Reg.Hk.LAST_RESET_GROUP 0))

/-- The thermal fatal stop (R608, R609, R631). -/
def thermalStop (s : State) (tj : Nat) : State :=
  if s.boot.thermTripped then s
  else
    let s := if s.boot.thermAsserted then s else setTherm s true
    hkEvent (fatalStop (setBoot s { s.boot with thermTripped := true }) .root .thermal 0 tj) 2

/-- THERM_N and its events follow a reading (R631). -/
def thermFollow (s : State) (tj : Nat) : State :=
  let warn := 10 * s.rd 0 Reg.Hk.THERM_WARN_C
  let s := if warn ≤ tj ∧ !s.boot.thermAsserted then hkEvent (deviceEvent (setTherm s true) 0x62 [tj, 0, 0, 0]) 0
    else if tj + 30 < warn ∧ s.boot.thermAsserted ∧ !s.boot.thermTripped then
      hkEvent (deviceEvent (setTherm s false) 0x63 [tj, 0, 0, 0]) 1
    else s
  if 10 * s.rd 0 Reg.Hk.THERM_TRIP_C ≤ tj then thermalStop s tj else s

/-- THERMAL_SENSOR_READ (R631, R632). -/
def execThermalSensorRead (t : SensorReadings) (s : State) : Host.Outcome State Fault Refusal :=
  if !s.boot.aux then .next s
  else
    let h := hottest t
    let show_ := fun (u : State) => (u.wr 0 Reg.Hk.TJ_NOW h.1).wr 0 Reg.Hk.TJ_SENSOR h.2
    let s := (show_ s).wr 0 Reg.Hk.TJ_PEAK (Nat.max (s.rd 0 Reg.Hk.TJ_PEAK) h.1)
    .next (if 1200 ≤ h.1 then (if s.boot.hardTrip then s else show_ (hardTrips s))
      else if s.boot.hardTrip then s else thermFollow s h.1)

/-- TJ_PEAK_CLR (R633). -/
def execTjPeakClr (r : Route) (s : State) : Host.Outcome State Fault Refusal :=
  .next (guarded s r 0x18C (fun t => t.wr 0 Reg.Hk.TJ_PEAK (t.rd 0 Reg.Hk.TJ_NOW)))

end Sys2Proof.Machine
end

