-- ==== Sys2Proof/Machine/Bus.lean ====
section
/-!
DEFINITION. Writes to the setup space and to the queue BARs, and what they start (R35 to R81 of spec/02_setup_space.md, R309):
field writes by access code, staged and far-posted values taken over, fences, resets, commit groups.
-/
namespace Sys2Proof.Machine

/-- The state that an outcome goes on with. -/
def goOn (s : State) : Host.Outcome State Fault Refusal → State
  | .next t => t
  | _ => s

/-! ### Die bridges (R28, R29) -/

/-- The unit that a bridge place belongs to, its I/O die and its core port (R29). -/
def bridgeOwner : BridgePlace → UnitId × Nat × Nat
  | .pipeline p _ _ => if p.val < 96 then (.port (idx 95 p.val), p.val / 24, p.val) else (.hostMacro (idx 15 (p.val - 96)), (p.val - 96) / 4, p.val)
  | .mesh h => (.hostMacro h, h.val / 4, 96 + h.val)

/-- BRIDGE_CODE_ERROR (R28, R29): the packet whose transfer it is, on its way in or out, is stomped and the error recorded; the 16th of a unit within 1 ms fences it. -/
def execBridgeCodeError (w : BridgePlace) (s : State) : Host.Outcome State Fault Refusal :=
  let o := bridgeOwner w
  let u := o.1
  if isFenced s u then .next s
  else
    let s := match w with
      | .pipeline p vc outward =>
        if outward then strikeOutput s p.val vc.val stompBridge else strikeInput s (inKey p.val vc.val) stompBridge id
      | .mesh _ => s
    let ts := s.now :: (lookD s.err.bridge (base u) []).filter (fun t => s.now < t + 1000000)
    let full := 16 ≤ ts.length
    let s := recordError { s with err := { s.err with bridge := put s.err.bridge (base u) ts } }
      { unit := u, kind := .bridgeCode, sev := 2, sub := o.2.1, info := o.2.2, fenced := full, fatal := false }
    .next (if full then fenceUnit s u else s)

/-! ### LEG_CONTROL (R50 to R56) -/

/-- CMT_GROUP written (R56). -/
def setGroup (s : State) (u : UnitId) (g : Nat) : State :=
  let us := subtree u
  if us.all (fun v => groupOf s v == g) then s
  else if commitPending s u || us.any (fun v => bitOf (s.rd 0 Reg.Root.CMT_STATUS) (groupOf s v)) then configError s u
  else { s with setup := { s.setup with groups := us.foldl (fun (m : AMap Nat) v => put m (base v) g) s.setup.groups } }

/-- FENCE and UNIT_RESET written: the reset has precedence (R54), the root has neither (R55). -/
def fenceOrReset (s : State) (r : Route) (u : UnitId) (fence reset : Bool) : State :=
  if !fence && !reset then s
  else if u == .root then accViol s r .rootFence 0x1C
  else if reset then beginReset s u
  else fenceUnit s u

/-- The word of LEG_CONTROL written. A fence or reset that repeats the unit's group changes none (R56). -/
def writeControl (s : State) (r : Route) (u : UnitId) (v : Nat) : State :=
  let g := bits v 12 8
  let s := if v % 4 ≠ 0 ∧ g = groupOf s u then s else setGroup s u g
  fenceOrReset s r u (bitOf v 0) (bitOf v 1)

/-- FENCE (R50 to R55). -/
def execFence (r : Route) (u : UnitId) (s : State) : Host.Outcome State Fault Refusal :=
  .next (guarded s r (base u + 0x1C) (fun t => fenceOrReset t r u true false))

/-- UNIT_RESET (R53 to R55); a FENCE in the same write does not act. -/
def execUnitReset (r : Route) (u : UnitId) (alsoFence : Bool) (s : State) : Host.Outcome State Fault Refusal :=
  .next (guarded s r (base u + 0x1C) (fun t => fenceOrReset t r u alsoFence true))

/-- CMT_GROUP_WRITE (R56). -/
def execCmtGroupWrite (r : Route) (u : UnitId) (g : Fin 32) (s : State) : Host.Outcome State Fault Refusal :=
  .next (guarded s r (base u + 0x1C) (fun t => setGroup t u g.val))

/-! ### Field writes by access code (R5, R59, R61, R62, R69) -/

/-- Fields of one or two words (offset in the window, value) of a unit that a write touches. -/
def wordsFields (u : UnitId) (ws : List (Nat × Nat)) (acc : Access) : List (Field × Nat × Nat) :=
  ws.flatMap (fun x => fieldWrites u x.1 x.2 (fun f => f.acc == acc))

/-- Offset in the window of the word that a field key stands in. -/
def keyWord (u : UnitId) (k : Nat) : Nat := k / 32 - base u

/-- RW fields written at once: those that their unit's state does not lock, in their range (R5, R59). A counter bank's
selections go to the bank (R523). -/
def rwPut (s : State) (r : Route) (u : UnitId) (ws : List (Nat × Nat)) : State :=
  let l := wordsFields u ws .rw
  let lk := fun (x : Field × Nat × Nat) => lockOf s u (keyWord u x.2.1) x.1
  let free := l.filter (fun x => lk x == .open_)
  let good := inRange free
  let whole := !free.isEmpty && ws.any (fun x => wordBad s u x.1 x.2)
  let s' := if l.any (fun x => lk x == .violation) then accViol s r .locked (base u + (ws.getLast?.map Prod.fst).getD 0) else s
  let s' := if good.2 || whole || l.any (fun x => lk x == .error && activeAt s u (keyWord u x.2.1) x.1 != x.2.2) then configError s' u else s'
  if whole then s'
  else
    let sel := good.1.filter (fun kv => isSelection u kv.1)
    let plain := good.1.filter (fun kv => !(isSelection u kv.1))
    let s' := { s' with regs := plain.foldl (fun (m : AMap Nat) (kv : Nat × Nat) => put m kv.1 kv.2) s'.regs }
    if sel.isEmpty then s' else bankPut s' u sel

/-- ST fields staged (R62, R67). -/
def stPut (s : State) (u : UnitId) (ws : List (Nat × Nat)) : State :=
  let l := wordsFields u ws .st
  if l.isEmpty then s
  else if ws.any (fun x => wordBad s u x.1 x.2) then configError s u
  else
    let good := inRange l
    let s := if good.2 then configError s u else s
    good.1.foldl (fun t kv => stageValue t u kv.1 kv.2) s

/-- FP fields forwarded to their island (R69, R70). -/
def fpPut (s : State) (r : Route) (u : UnitId) (ws : List (Nat × Nat)) : State :=
  let l := wordsFields u ws .fp
  if l.isEmpty then s else postFp s r u (base u + (ws.getLast?.map Prod.fst).getD 0) (l.map (·.2))

/-- What follows a change of RW fields: the servo's state with its source (R564), a Contour period (R218), the bypass
(R543). -/
def rwFollow (before s : State) (u : UnitId) (w : Nat) : State :=
  match u with
  | .mgmtProc =>
    let src := s.rd mpBase Reg.Mp.TB_CFG_SRC
    if w = 0x84 ∧ before.rd mpBase Reg.Mp.TB_CFG_SRC ≠ src then s.wr mpBase Reg.Mp.TB_STATUS_STATE (if src = 0 then 0 else 1) else s
  | .atlas => if w = 0x5C ∧ !(before.on atBase Reg.Atlas.CONTOUR_CFG_EN) ∧ s.on atBase Reg.Atlas.CONTOUR_CFG_EN then contourStart s else s
  | .mgmtEth _ => if w = 0x40 ∧ s.on (meBase 0) Reg.Me.ME_CFG_BYPASS_FORCE then closeBypass s else s
  | _ => s

/-- The fields of the words written, each as its access code has it; RO and RC fields are left alone (R59, R60). -/
def putWords (s : State) (r : Route) (u : UnitId) (ws : List (Nat × Nat)) : State :=
  let t := ws.foldl (fun t x => rwFollow s t u x.1) (rwPut s r u ws)
  fpPut (stPut t u ws) r u ws

/-! ### Words with a meaning of their own -/

/-- Words whose writes are commands of their own (R19, R186, R187, R203, R212, R274, R380, R420, R429, R526, R528, R535). Whether
the extents of a claim fit the device behind it, and what a validity test finds, are open values here. -/
def ownWord (s : State) (r : Route) (u : UnitId) (w : Nat) (v : BitVec 32) : Option State :=
  let ok := fun (o : Host.Outcome State Fault Refusal) => some (goOn s o)
  match u with
  | .root =>
    if w = 0x60 then ok (execCmtStrobe r v s)
    else if w = 0x6C then ok (execCmtDiscard r v s)
    else if w = 0x74 then ok (execPaceFloorWrite r v s)
    else if w = 0x80 then ok (execInjEpochWrite r v s)
    else none
  | .atlas =>
    if w = 0x40 then ok (execAtlasValidWrite r v s)
    else if 0x10000 ≤ w ∧ w < 0x30000 then
      let ver : Fin 2 := idx 1 ((w - 0x10000) / 0x10000)
      let o := (w - 0x10000) % 0x10000
      let k := o % 16 / 4
      let entry := fun (e : AtlasEntry) =>
        if k = 3 then ok (execAtlasEntryApply r ver e v s) else ok (execAtlasEntryWordWrite r ver e (idx 2 k) v s)
      if o < 0x8000 then entry (.group (idx 2047 (o / 16)))
      else if o < 0x8200 then entry (.device (idx 31 ((o - 0x8000) / 16)))
      else if 0x9000 ≤ o ∧ o < 0x9400 then ok (execWaypointEntryWrite r ver (idx 255 ((o - 0x9000) / 4)) v s)
      else none
    else none
  | .switchCore =>
    if 0x800000 ≤ w ∧ w < 0xA00000 then
      let g : Fin 65536 := idx 65535 ((w - 0x800000) / 32)
      let k := w % 32 / 4
      if k = 7 then ok (execMcEntryApply r g v s) else ok (execMcEntryWordWrite r g (idx 6 k) v s)
    else none
  | .cluster c =>
    if c.val = 0 ∧ 0x1000 ≤ w ∧ w < 0x9000 ∧ w % 32 = 0x1C then
      ok (execFnValidWrite r (idx 1023 ((w - 0x1000) / 32)) (bitOf v.toNat 31) s)
    else none
  | .compass => if w = 0x40 then ok (execKeyCfgEnWrite r (bitOf v.toNat 0) s) else none
  | .gazetteer =>
    if w = 0x40 then ok (execGzEnWrite r v s)
    else if w = 0x5C then ok (execGzCiWrite r v s)
    else if w = 0x80 then ok (execTrailEnWrite r v s)
    else none
  | .attachment a =>
    if 0x100 ≤ w ∧ w < 0x300 ∧ w % 32 = 0 then ok (execFarWinValidWrite r a (idx 15 ((w - 0x100) / 32)) v s)
    else if 0x500 ≤ w ∧ w < 0x580 ∧ w % 16 = 0xC then
      ok (execClaimValidWrite r a (idx 7 ((w - 0x500) / 16)) v (s.drawn 1 == 1) s.spend)
    else none
  | _ => none

/-! ### Actions of W1 fields (R61) -/

/-- DEV_CONTROL (R78): the cold reset has precedence. -/
def devControl (s : State) (v : Nat) : State :=
  let s := if bitOf v 2 then s.wr 0 Reg.Root.DEV_STATUS_POOL_STALE 0 else s
  if bitOf v 1 then coldStart s 3 0 else if bitOf v 0 then warmStart s else s

/-- PORT_CTL (R135, R148): TAKEDOWN has precedence over BRINGUP and RETRAIN. -/
def portControl (s : State) (n v : Nat) : State :=
  let s := if bitOf v 3 then portCountersClear s n else s
  if bitOf v 2 then takedown s n
  else
    let s := if bitOf v 0 then bringup s n else s
    if bitOf v 1 then retrain s n else s

/-- A GO while the command register is busy is recorded; otherwise it runs (R232, R373, R458). -/
def unlessBusy (s : State) (r : Route) (busy off : Nat) (run : State → State) : State :=
  if busy ≠ 0 then accViol s r .cmdBusy off else run s

/-- GO of CHAN_CMD (R232, R271). -/
def chanGo (s : State) (r : Route) (c : Fin 4) : State :=
  let b := clusterBase c.val
  let op := s.rd b Reg.Tc.CHAN_CMD_OP
  if 1 ≤ op ∧ op ≤ 5 then clusterCmd r c op s
  else if clusterLost s c.val then s
  else unlessBusy s r (s.rd b Reg.Tc.CMD_STATUS_BUSY) (b + 0x84) (fun t => t.wr b Reg.Tc.CMD_STATUS_RESULT 3)

/-- GO of OUT_CMD (R350, R373). -/
def outGo (s : State) (r : Route) : State :=
  match s.rd clBase Reg.Cl.OUT_CMD_OP with
  | 1 => goOn s (execOutingCreate r s)
  | 2 => goOn s (execOutingAbort r s)
  | 3 => goOn s (execOutingRebuild r s)
  | 4 => goOn s (execOutingDestroy r s)
  | _ => if unitOff s .collective then s
      else unlessBusy s r (s.rd clBase Reg.Cl.OUT_STATUS_BUSY) (clBase + 0x40) (fun t => t.wr clBase Reg.Cl.OUT_STATUS_RESULT 3)

/-- GO of EXT_CMD (R448, R458). -/
def extGo (s : State) (r : Route) : State :=
  match s.rd poolBase Reg.Pool.EXT_CMD_OP with
  | 1 => goOn s (execAssign r s)
  | 2 => goOn s (execRelease r s)
  | 3 => goOn s (execPair r s)
  | 4 => goOn s (execUnpair r s)
  | 5 => goOn s (execExtentQuery r s)
  | _ => unlessBusy s r (s.rd poolBase Reg.Pool.EXT_STATUS_BUSY) (poolBase + 0x40) (fun t => t.wr poolBase Reg.Pool.EXT_STATUS_RESULT 3)

/-- One action of a W1 field, when its bit is written with 1. -/
def actIf (v i : Nat) (act : State → Host.Outcome State Fault Refusal) (s : State) : State := if bitOf v i then goOn s (act s) else s

/-- The actions that a write of this word starts (R61). -/
def w1Acts (s : State) (r : Route) (u : UnitId) (w v : Nat) : State :=
  match u with
  | .root =>
    if w = 0x54 then devControl s v
    else if w = 0x104 then actIf v 3 (execErrCntClr r) (actIf v 2 (execLogClr r) (actIf v 1 (execClrUnit r) (actIf v 0 (execClrAll r) s)))
    else if w = 0x18C then actIf v 0 (execTjPeakClr r) s
    else s
  | .port n => if w = 0x44 then portControl s n.val v else s
  | .switchCore => if w = 0x50 then actIf v 1 (execSwitchCntClr r) (actIf v 0 (execPoolHwmClr r) s) else s
  | .cluster c =>
    if w = 0x84 then (if bitOf v 4 then chanGo s r c else s)
    else if w = 0x90 then actIf v 0 (execTransportCntClr r c) s
    else s
  | .engine e => if w = 0x50 then actIf v 0 (execEngineCntClr r e) s else s
  | .matching => if w = 0x4C then actIf v 0 (execMatchCntClr r) s else s
  | .collective =>
    if w = 0x40 then (if bitOf v 8 then outGo s r else s)
    else if w = 0x58 then actIf v 0 (execCollCntClr r) s
    else s
  | .compass => if w = 0x54 then actIf v 1 (execFlogClr r) (actIf v 0 (execXlateCntClr r) s) else s
  | .attachment a => if w = 0x64 then actIf v 1 (execAttachCntClr r a) (actIf v 0 (execDpcRelease r a) s) else s
  | .stack i =>
    let s := if w = 0x404 then actIf v 0 (execStackOffline r i) s else s
    if i.val ≠ 0 then s
    else if w = 0x40 then (if bitOf v 8 then extGo s r else s)
    else if w = 0x6C then actIf v 1 (execElogClr r) (actIf v 0 (execPoolCntClr r) s)
    else if w = 0x230 then actIf v 8 (execAgentKill r) s
    else if w = 0x238 then actIf v 0 (execBctRun r) s
    else s
  | .slice i =>
    if w = 0x44 then actIf v 2 (execSliceCntClr r i) (actIf v 1 (execLeaveCareful r i) (actIf v 0 (execEnterCareful r i) s)) else s
  | .meterBank => if w = 0x40 then actIf v 0 (execMeterCntClr r .meters) s else s
  | .injShaper => if w = 0x40 then actIf v 0 (execMeterCntClr r .injShapers) s else s
  | .egressShaper n => if w = 0x40 then actIf v 0 (execMeterCntClr r (.egress n)) s else s
  | .gazetteer => if w = 0x74 then actIf v 0 (execGzCntClr r) s else s
  | .mgmtEth k => if w = 0x54 then actIf v 0 (execMgmtEthCntClr r k) s else s
  | .mgmtProc => if w = 0x4C then actIf v 0 (execMpRestart r) (actIf v 1 (execMpCntClr r) s) else s
  | .flask =>
    if w = 0x6C ∧ bitOf v 0 then
      goOn s (execFwConfirm r { sigA := s.drawn 1 == 1, sigB := s.spend.drawn 1 == 1, sigRecovery := false } s.spend.spend)
    else s
  | .atlas | .secProc | .tileCluster _ | .tile _ | .macroGroup _ | .fabricMacro _ | .hostGroup _ | .hostMacro _ => s

/-! ### The write itself -/

/-- What a read of the fields of a word gives, bit for bit (R75: the current low half). -/
def lowHalf (s : State) (u : UnitId) (w : Nat) : Nat :=
  (fieldsAt u w).foldl (fun m f => m ||| (fieldView s u w f * 2 ^ f.lo)) 0

/-- A 4-byte write that the device takes, below or in the Legend. A 64-bit register's low half fills the route's latch, its
high half applies both (R75). In an island whose clock does not run, only a far-posted write goes on (R71). -/
def takeWrite (s : State) (r : Route) (off : Nat) (v : BitVec 32) : State :=
  let u := unitAt off
  let w := off - base u
  if w < 0x40 then (if w = 0x1C then writeControl s r u v.toNat else s)
  else if !(wordClock s u w) then fpPut s r u [(w, v.toNat)]
  else if isReg64 u w then { s with setup := { s.setup with wlatch := put s.setup.wlatch (routeIdx r) ((off + 4) * 2 ^ 32 + v.toNat) } }
  else if isReg64 u (w - 4) && 4 ≤ w then
    let low := match look s.setup.wlatch (routeIdx r) with
      | some x => if x / 2 ^ 32 = off then x % 2 ^ 32 else lowHalf s u (w - 4)
      | none => lowHalf s u (w - 4)
    putWords { s with setup := { s.setup with wlatch := del s.setup.wlatch (routeIdx r) } } r u [(w - 4, low), (w, v.toNat)]
  else match ownWord s r u w v with
    | some t => t
    | none => w1Acts (putWords s r u [(w, v.toNat)]) r u w v.toNat

/-- A 4-byte write by a route (R36, R38, R53, R632). -/
def busWrite (s : State) (r : Route) (w : BusWrite) : State :=
  if s.boot.hardTrip then s
  else match writeRefused s r w.off.toNat w.enables.toNat with
    | some x => accViol s r x w.off.toNat
    | none => takeWrite s r w.off.toNat w.value

/-- An 8-byte write: two 4-byte writes, the lower offset first; one with a byte enable clear, or not at an 8-byte aligned offset,
is discarded whole and recorded once (R37, R38). -/
def wideWrite (s : State) (r : Route) (off : BitVec 28) (v : BitVec 64) (en : BitVec 8) : State :=
  if s.boot.hardTrip then s
  else if !(routeServed s r) then accViol s r .denied off.toNat
  else if off.toNat % 8 ≠ 0 ∨ en.toNat ≠ 255 then accViol s r .misaligned off.toNat
  else busWrite (busWrite s r { off := off, value := v.setWidth 32, enables := 15 }) r
    { off := off + 4, value := (v >>> 32).setWidth 32, enables := 15 }

/-- The write, when its word is of the kind that the command names, or when the device turns it away. -/
def busWriteIf (s : State) (r : Route) (w : BusWrite) (kind : UnitId → Nat → Bool) : State :=
  let o := w.off.toNat
  if kind (unitAt o) (o - base (unitAt o)) || (writeRefused s r o w.enables.toNat).isSome then busWrite s r w else s

/-! ### Queue BARs (R273, R309, R344, R404) -/

/-- A write of a function's queue registers outside the domain areas. -/
def queueReg (s : State) (f : Fin 1024) (o : Nat) (v : BitVec 32) : State :=
  let b := bar2 f.val
  let n := v.toNat
  if o = 0x04 then actIf n 0 (execQueueReset f) s
  else if o = 0x18 then
    let s := s.wr b Reg.Bar2.NOTIFY_CQ_CQ n
    let made := (localCq s f.val (n % 2 ^ 12)).isSome
    s.wr b Reg.Bar2.NOTIFY_CQ_VALID (b2n (bitOf n 31 && made))
  else if o = 0x20 then
    let s := s.wr b Reg.Bar2.CMD_OP n
    if !(bitOf n 8) || s.on b Reg.Bar2.CMD_STATUS_BUSY then s
    else if [1, 2, 3, 4, 5, 8, 9, 10, 11, 12].contains (n % 16) then fnCmd s f.val (n % 16)
    else s.wr b Reg.Bar2.CMD_STATUS_RESULT 3
  else if o = 0x24 then s.wr b Reg.Bar2.CMD_ARG n
  else if 0x40 ≤ o ∧ o < 0x140 then s.wri b Reg.Bar2.CMD_IMAGE ((o - 0x40) / 4) n
  else if o = 0x200 then (if s.on b Reg.Bar2.EQ_CFG_EN then s else s.wr b Reg.Bar2.EQ_BASE_LO n)
  else if o = 0x204 then (if s.on b Reg.Bar2.EQ_CFG_EN then s else s.wr b Reg.Bar2.EQ_BASE_HI n)
  else if o = 0x208 then
    let was := s.on b Reg.Bar2.EQ_CFG_EN
    let s := s.wr b Reg.Bar2.EQ_CFG_VEC (bits n 26 16)
    let s := if was then s else if 4 ≤ n % 16 then s.wr b Reg.Bar2.EQ_CFG_LOG_SIZE n else configError s (.cluster 0)
    let ring := s.rd64 b Reg.Bar2.EQ_BASE_LO Reg.Bar2.EQ_BASE_HI
    if !(bitOf n 8) then s
    else if ring % (32 * 2 ^ s.rd b Reg.Bar2.EQ_CFG_LOG_SIZE) ≠ 0 then configError s (.cluster 0)
    else s.wr b Reg.Bar2.EQ_CFG_EN 1
  else if o = 0x210 then goOn s (execEqCiWrite f v s)
  else if o = 0x214 then actIf n 0 (execEqArm f) s
  else if o = 0x300 then
    let s := s.wr b Reg.KeyBar.KEY_CMD_OP n
    if bitOf n 8 then keyCmd s f.val (n % 16) else s
  else if o = 0x304 then s.wr b Reg.KeyBar.KEY_CMD_KEY n
  else if 0x320 ≤ o ∧ o < 0x340 then s.wri b Reg.KeyBar.KEY_IMAGE ((o - 0x320) / 4) n
  else if o = 0x400 then (if s.on b Reg.Trq.TRQ_CFG_EN then s else s.wr b Reg.Trq.TRQ_BASE_LO n)
  else if o = 0x404 then (if s.on b Reg.Trq.TRQ_CFG_EN then s else s.wr b Reg.Trq.TRQ_BASE_HI n)
  else if o = 0x408 then
    if s.on b Reg.Trq.TRQ_CFG_EN then s
    else
      let s := s.wr b Reg.Trq.TRQ_CFG_CQ (bits n 27 16)
      let s := if 4 ≤ n % 16 then s.wr b Reg.Trq.TRQ_CFG_LOG_SIZE n else configError s (.cluster 0)
      if bitOf n 8 then s.wr b Reg.Trq.TRQ_CFG_EN 1 else s
  else if o = 0x40C then goOn s (execTrqDoorbell f v s)
  else if 0x10000 ≤ o ∧ o < 0x30000 then
    let i : Fin 4096 := idx 4095 ((o - 0x10000) / 32)
    if o % 32 = 0 then goOn s (execWqDoorbell f i v s)
    else if o % 32 = 8 then goOn s (execCqCiWrite f i v s)
    else if o % 32 = 0x10 then actIf n 0 (execCqArm f i) s
    else s
  else s

/-- A write in a domain area (R277, R344): fields marked "while unconfigured" only before the domain's first enable. -/
def domainReg (s : State) (f : Fin 1024) (o : Nat) (v : BitVec 32) : State :=
  let j : Fin 256 := idx 255 ((o - 0x30000) / 64)
  let k := o % 64
  let n := v.toNat
  let put_ := fun (g : Field) => s.wri (bar2 f.val) g j.val n
  match domOfLocal s f.val j.val with
  | none => s
  | some d =>
    if k = 0x00 then goOn s (execRqDoorbell f j v s)
    else if k = 0x10 then goOn s (if bitOf n 8 then execDomainEnable f j v s else execDomainDisable f j v s)
    else if k = 0x18 then (if n % 8 = 0 then put_ Reg.Dom.CI_WB_ADDR_LO else configError s .matching)
    else if k = 0x1C then put_ Reg.Dom.CI_WB_ADDR_HI
    else if !(domOpen s f.val j.val d) then s
    else if k = 0x08 then put_ Reg.Dom.RQ_BASE_LO
    else if k = 0x0C then put_ Reg.Dom.RQ_BASE_HI
    else if k = 0x20 then (if n % 8192 = 0 then put_ Reg.Dom.UX_BASE_LO else configError s .matching)
    else if k = 0x24 then put_ Reg.Dom.UX_BASE_HI
    else if k = 0x28 then (if n % 2 ^ 13 ≤ 4096 then put_ Reg.Dom.UX_SLOTS else configError s .matching)
    else if k = 0x2C then put_ Reg.Dom.OVF_ENTRIES
    else if k = 0x30 then (if n % 64 = 0 then put_ Reg.Dom.OVF_BASE_LO else configError s .matching)
    else if k = 0x34 then put_ Reg.Dom.OVF_BASE_HI
    else s

/-- A write in the MSI-X area of a queue BAR (R412; notes/assumptions/72.md): table words take it, pending bits do not; clearing
a vector's mask lets a pending message leave. -/
def msixReg (s : State) (f o n : Nat) : State :=
  let v := (o - 0x38000) / 16
  if o < 0x38000 then s
  else if o % 16 = 0 then s.wri (bar2 f) Reg.Msix.ADDR_LO v (n / 4)
  else if o % 16 = 4 then s.wri (bar2 f) Reg.Msix.ADDR_HI v n
  else if o % 16 = 8 then s.wri (bar2 f) Reg.Msix.DATA v n
  else msixRelease (s.wri (bar2 f) Reg.Msix.MASK v n) f v

/-- A misaligned or partial write to a queue BAR recorded (R38, R309). The table of ACC_VIOL gives such a write no route,
attachment or offset: open values. -/
def queueViol (s : State) : State :=
  let a : Fin 64 := idx 63 (s.drawn 6)
  let r : Route := if s.spend.drawn 1 = 1 then .bar0 a else if s.spend.spend.drawn 1 = 1 then .drisiul else .mp
  let t := s.spend.spend.spend
  accViol t.spend r .misaligned (t.drawn 28)

/-- A 4-byte write to the queue BAR of a function (R309, R412); but for the MSI-X area nothing while the function is not ready, or in a fatal stop
(R609). -/
def queueWrite (s : State) (f : Fin 1024) (o : Nat) (v : BitVec 32) (enables : Nat) : State :=
  if fatalStopped s || s.boot.hardTrip then s
  else if o % 4 ≠ 0 ∨ enables ≠ 15 then queueViol s
  else if 0x34000 ≤ o then msixReg s f.val o v.toNat
  else if o = 0x04 then queueReg s f o v
  else if !(fnReady s f.val) then s
  else if 0x30000 ≤ o ∧ o < 0x34000 then domainReg s f o v
  else queueReg s f o v

/-- The fields with a word at offset `o` of a queue BAR (R309, R344, R404, R412, R439). -/
def queueFields (o : Nat) : List Field :=
  (Reg.Bar2.all ++ Reg.KeyBar.all ++ Reg.Trq.all ++ Reg.Dom.all ++ Reg.Msix.all).filter (fun f => f.hits o)

/-- Offset `o` of the queue BAR of function `f` is not of a queue or domain at or above the function's count (R273, R344). -/
def queueHas (s : State) (f o : Nat) : Bool :=
  if 0x10000 ≤ o ∧ o < 0x30000 then
    (o - 0x10000) / 32 < fnRd s f (if o % 32 < 8 then Reg.FnTab.FN_WQ_COUNT else Reg.FnTab.FN_CQ_COUNT)
  else if 0x30000 ≤ o ∧ o < 0x34000 then (o - 0x30000) / 64 < s.rdi mtBase Reg.Mt.FN_DOM_DOM_COUNT f
  else true

/-- The word at offset `o` of the queue BAR of function `f`: W1 fields read 0, reserved bits an open value (R4, R61, R309); an
offset without a register, or of a queue or domain that the function has not, reads 0 (R273; notes/assumptions/12.md). -/
def queueWord (s : State) (f o : Nat) : Nat :=
  let fs := queueFields o
  let at_ := fun (g : Field) => (bar2 f + o) * 32 + g.lo
  if fs.isEmpty || !(queueHas s f o) then 0
  else fs.foldl (fun m g => m ||| ((if g.acc = .w1 then 0 else (look s.regs (at_ g)).getD g.reset) * 2 ^ g.lo)) 0 |||
    ((Config.reservedRead (bar2 f + o)).toNat &&& (2 ^ 32 - 1 - usedBits fs))

/-- A read of a function's queue BAR: every word that it touches leaves (R38, R309). -/
def queueRead (s : State) (f off n : Nat) : State :=
  ((wordsOf off n).filter (· < 2 ^ 18)).foldl (fun t o => t.emit (.queueData f o (BitVec.ofNat 32 (queueWord t f o)))) s

/-! ### The commands -/

/-- RC_FIELD_READ (R38, R60, R309): a read access. -/
def execRcFieldRead (x : RegRead) (n : Fin 8) (s : State) : Host.Outcome State Fault Refusal :=
  .next (match x with
    | .setup r off => readSetup s r off.toNat n.val
    | .queue f off => queueRead s f.val off.toNat n.val)

/-- REGISTER_WRITE (R38, R59, R309). -/
def execRegisterWrite (w : RegWrite) (s : State) : Host.Outcome State Fault Refusal :=
  .next (match w with
    | .setup r w => busWrite s r w
    | .wide r off v e => wideWrite s r off v e
    | .queue f o v e => queueWrite s f o.toNat v e.toNat)

/-- REG64_LOW_WRITE (R75). -/
def execReg64LowWrite (r : Route) (w : BusWrite) (s : State) : Host.Outcome State Fault Refusal :=
  .next (busWriteIf s r w isReg64)

/-- REG64_HIGH_WRITE (R75). -/
def execReg64HighWrite (r : Route) (w : BusWrite) (s : State) : Host.Outcome State Fault Refusal :=
  .next (busWriteIf s r w (fun u o => 4 ≤ o && isReg64 u (o - 4)))

/-- ST_FIELD_WRITE (R62, R67). -/
def execStFieldWrite (r : Route) (w : BusWrite) (s : State) : Host.Outcome State Fault Refusal :=
  .next (busWriteIf s r w (fun u o => (fieldsAt u o).any (fun f => f.acc == .st)))

/-- FP_FIELD_WRITE (R69, R70). -/
def execFpFieldWrite (r : Route) (w : BusWrite) (s : State) : Host.Outcome State Fault Refusal :=
  .next (busWriteIf s r w (fun u o => (fieldsAt u o).any (fun f => f.acc == .fp)))

/-- The island takes over its pending write (R5, R69): what lies out of range is not applied. -/
def fpTake (s : State) (i : Nat) : State :=
  let off := lookD s.setup.fpAt i 0
  let kvs := lookD s.setup.fp i []
  let u := unitAt off
  let w := off - base u
  let s := dropFp s i
  let fs := fieldsAt u w
  let takes := fun (kv : Nat × Nat) => fs.any (fun f => keyAt u w f == kv.1 && f.takes kv.2)
  let whole := wordBad s u w (kvs.foldl (fun m kv => m + kv.2 * 2 ^ (kv.1 % 32)) 0)
  let good := if whole then [] else kvs.filter takes
  let s := if good.length < kvs.length then configError s u else s
  let sel := good.filter (fun kv => isSelection u kv.1)
  let s := { s with regs := (good.filter (fun kv => !(isSelection u kv.1))).foldl (fun (m : AMap Nat) kv => put m kv.1 kv.2) s.regs }
  if sel.isEmpty then s else bankPut s u sel

/-- FP_WRITE_APPLIED (R69): on the island's own clock. -/
def execFpWriteApplied (island : Fin 60) (s : State) : Host.Outcome State Fault Refusal :=
  .next (if winBusy s island.val && !(s.boot.stopped.contains island.val) then fpTake s island.val else s)

/-! ### Commits (R63, R64, R406, R505) -/

/-- The staged values that a unit applies at its operation boundary: those of meters and shapers wait for their refills
(R64, R505). -/
def commitDue (s : State) (u : UnitId) : List (Nat × Nat) :=
  match u with
  | .meterBank => (stagedOf s u).filter (fun kv => keyWord u kv.1 < 0x80000)
  | .injShaper | .egressShaper _ => []
  | _ => stagedOf s u

/-- Values of host ports that take effect only while their macro is quiet (R406). -/
def waitsQuiet (u : UnitId) (k : Nat) : Option Nat :=
  match u with
  | .hostMacro h => some h.val
  | .attachment a => if k = Reg.Att.ATT_CFG_ROLE.key (attBase a.val) then some (a.val / 4) else none
  | _ => none

/-- A port after a commit: taken down when ROLE is DISABLED, started where it may now start (R135). -/
def portCommitted (s : State) (n : Nat) : State :=
  if roleOf s n = 0 then
    (if linkAlive s n then takedown s n
     else if (s.port n).phase ≠ 0 then resetLink s n else s)
  else autoStart s n

/-- A unit copies its staged values to the active copy (R63): what the rules of its chapter forbid is not applied (R401, R411,
R412). -/
def applyCommit (s : State) (u : UnitId) : State :=
  let due := commitDue s u
  let keys := due.map Prod.fst
  let all := { s with regs := due.foldl (fun (m : AMap Nat) kv => put m kv.1 kv.2) s.regs }
  let bad := badKeys s all u keys
  let good := due.filter (fun kv => !(bad.contains kv.1))
  let now_ := good.filter (fun kv => (waitsQuiet u kv.1).isNone)
  let later := good.filter (fun kv => (waitsQuiet u kv.1).isSome)
  let s := if bad.isEmpty then s else configError s u
  let s := { s with
    regs := now_.foldl (fun (m : AMap Nat) kv => put m kv.1 kv.2) s.regs
    hostCfg := later.foldl (fun (m : AMap Nat) kv => put m kv.1 kv.2) s.hostCfg
    setup := { s.setup with staged := dropKeys s.setup.staged keys.contains } }
  let s := match u with
    | .hostMacro h => applyHostCfg s h.val
    | .attachment a => applyHostCfg s (a.val / 4)
    | .port n => portCommitted s n.val
    | _ => s
  if (stagedOf s u).isEmpty then
    commitDone s u
  else s

/-- COMMIT_APPLY (R63, R64): the unit reaches its operation boundary. -/
def execCommitApply (u : UnitId) (s : State) : Host.Outcome State Fault Refusal :=
  .next (if s.setup.toApply.contains u && clockRuns s u then applyCommit s u else s)

/-! ### DEV_CONTROL (R78, R80, R589, R591) -/

/-- WARM_RESET (R591). -/
def execWarmReset (r : Route) (s : State) : Host.Outcome State Fault Refusal := .next (guarded s r 0x54 (fun t => devControl t 1))

/-- COLD_RESET (R589). -/
def execColdReset (r : Route) (s : State) : Host.Outcome State Fault Refusal := .next (guarded s r 0x54 (fun t => devControl t 2))

/-- POOL_STALE_CLR (R80). -/
def execPoolStaleClr (r : Route) (s : State) : Host.Outcome State Fault Refusal := .next (guarded s r 0x54 (fun t => devControl t 4))

/-- OPEN (R229, R232, R233). -/
def execOpenCmd (r : Route) (c : Fin 4) (s : State) : Host.Outcome State Fault Refusal := execOpen r c s

end Sys2Proof.Machine
end

