-- ==== Sys2Proof/Machine/Clock.lean ====
section
/-!
DEFINITION. The passage of one nanosecond, which is what an idle step is (notes/assumptions/4.md): the model's clock, TIMEBASE_NS
(R564, R565), and the counters that time alone drives (R524, R525, R533, R534).
-/
namespace Sys2Proof.Machine

/-- The total rate correction in force, in ppb (R565). -/
def rateNow (s : State) : Int :=
  let top : Int := s.rd mpBase Reg.Mp.TB_MAX_PPB
  max (-top) (min top (if s.now < s.mg.slewEnd then s.mg.rate else s.mg.freq))

/-- TIMEBASE_NS advances while the clocked islands are locked and island 54 runs (R564): the nanoseconds added, and the state
with the fraction kept. -/
def timeTick (s : State) : Nat × State :=
  if !s.boot.locked || s.boot.stopped.contains 54 then (0, s)
  else
    let c := s.mg.carry + 1000000000 + rateNow s
    let n := (c / 1000000000).toNat
    (n, (advanceBase s n).setMg { s.mg with carry := c % 1000000000 })

/-- Handshakes of a unit's reference stage in one nanosecond: an open number (R524). -/
def drawShakes (s : State) : Nat × State := (s.drawn 3, s.spend)

/-- The island clock of R23 in kHz, of the islands whose clock is derived from a reference; the internal oscillators of
islands 56, 58 and 59 run within 5 % of a nominal rate, and TCK is driven from outside. -/
def islandKhz (i : Nat) : Option Nat :=
  if i < 24 then some 1328125
  else if i < 46 then some 1000000
  else if i < 52 then some 4000000
  else if i < 54 then some 390625
  else if i = 54 then some 1000000
  else if i = 55 then some 1200000
  else none

/-- Periods of a clock of `f` kHz that end in the nanosecond before `now`: every rate of R23, with the first period at power-on
(DESIGN CHOICE, notes/assumptions/75.md). -/
def periodsIn (f now : Nat) : Nat := now * f / 1000000 - (now - 1) * f / 1000000

/-- What one nanosecond adds to HANDSHAKES of the unit (R23, R524): its island's clock periods; of an oscillator within 5 % an open
number, at most one; of a self-timed unit an open number. -/
def unitShakes (s : State) (u : UnitId) : Nat × State :=
  if legIsland u < 60 then
    match islandKhz (legIsland u) with
    | some f => (periodsIn f s.now, s)
    | none => (s.drawn 1, s.spend)
  else drawShakes s

/-- NS, HANDSHAKES and FENCED_NS in the banks whose selections have been written: the default ones name none of them (R520,
R524). -/
def bankTick (n : Nat) (s : State) (u : UnitId) : State :=
  if inReset s u || !(clockRuns s u) then s
  else
    let s := countEv s u (CntEvent.plain 0x001 n)
    let s := if fencedView s u then countEv s u (CntEvent.plain 0x006 1) else s
    match u with
    | .engine _ => s
    | _ =>
      let r := unitShakes s u
      countEv r.2 u (CntEvent.plain 0x002 r.1)

/-- A slot counter raised, modulo 2^48 (R520, R521). -/
def addSlots (s : State) (e j n : Nat) : State :=
  let b := engBase e + 0x4000 + 8 * j
  s.wr64 b Reg.Cnt.SLOT_CNT_LO Reg.Cnt.SLOT_CNT_HI ((s.rd64 b Reg.Cnt.SLOT_CNT_LO Reg.Cnt.SLOT_CNT_HI + n) % 2 ^ 48)

/-- Work of engine `e` is ready and waits for a window, a read tracker, its shaper or its meter (R533). -/
def engineWaits (s : State) (e : Nat) : Bool :=
  s.tp.chans.any (fun kv => chanEngine kv.1 == .engine (idx 15 e) && (kv.2.winSince.isSome || kv.2.shSince.isSome || kv.2.mtHeld))

/-- The issue slots of an engine in one nanosecond: an open number of each class, together the engine's HANDSHAKES; while work
waits for a resource, none is FRONT_STARVED (R533, R534). -/
def slotTick (s : State) (e : Nat) : State :=
  if inReset s (.engine (idx 15 e)) then s
  else
    let r := drawShakes s
    let a := r.2.drawn 8 % (r.1 + 1)
    let s := r.2.spend
    let b := s.drawn 8 % (r.1 - a + 1)
    let s := s.spend
    let c := if engineWaits s e then 0 else s.drawn 8 % (r.1 - a - b + 1)
    let s := s.spend
    let s := addSlots (addSlots (addSlots (addSlots s e 0 a) e 1 b) e 2 c) e 3 (r.1 - a - b - c)
    if s.gz.chosen.contains (engBase e) then countEv s (.engine (idx 15 e)) (CntEvent.plain 0x002 r.1) else s

/-- What a nanosecond does to the counters of a core that runs. -/
def countTick (s : State) (n : Nat) : State :=
  if !s.boot.locked then s
  else
    let s := (s.gz.chosen.map unitAt).foldl (bankTick n) s
    let s := if s.on 0 Reg.Root.DEV_STATUS_PACE_LOW then countEv s .root (CntEvent.plain 0x100 n) else s
    (List.range 16).foldl slotTick s

/-- One nanosecond passes: the clock, the counters, and the event entries that wait to be written (notes/assumptions/78.md). -/
def tick (s : State) : State :=
  let r := timeTick { s with now := s.now + 1 }
  let t := countTick r.2 r.1
  if fatalStopped t then t else eqDrainAll t

end Sys2Proof.Machine
end

