-- ==== Sys2Proof/Machine/Drisiul.lean ====
section
/-!
DEFINITION. Drisiul requests and their operations (R549, R554 to R563 of spec/17_management.md), store operations and CFG_SAVE
(R560, R576 to R578).
-/
namespace Sys2Proof.Machine

/-! ### Requests and responses (R554 to R556) -/

/-- STATUS codes (R561). -/
def drsOk : Nat := 0
def drsBadOp : Nat := 1
def drsDenied : Nat := 2
def drsBadArg : Nat := 3
def drsTimeout : Nat := 4
def drsBusy : Nat := 5
def drsStoreFault : Nat := 6
def drsSigFail : Nat := 7
def drsSkipped : Nat := 8
def drsTooLong : Nat := 9

/-- OP codes (R557). -/
def opCode : DrsOp → Nat
  | .regRead .. => 0x01 | .regWrite .. => 0x02 | .regRmw .. => 0x03 | .poll .. => 0x04 | .commit .. => 0x05
  | .atlasLoad .. => 0x10 | .atlasRead .. => 0x11 | .stream .. => 0x20 | .fmapi .. => 0x30
  | .storeOpen .. => 0x40 | .storeData .. => 0x41 | .storeClose => 0x42 | .cfgSave => 0x43 | .storeAbort => 0x44
  | .malformed op | .unknown op => op.toNat

/-- The response leaves, and is kept as the session's last (R555, R556). -/
def answerReq (s : State) (q : ReqRun) : State :=
  let s := s.setMg { s.mg with reqs := s.mg.reqs.drop 1 }
  match liveSess s q.session with
  | none => s
  | some k =>
    let s := setSess s { k with last := some (q.reqId, responseBytes q) }
    sendSecured s k.id q.port (fun p seq => .secured p (securedFrame s q.mac k.id seq 1 (responseBytes q)))

/-- The front request changed. -/
def setFront (s : State) (q : ReqRun) : State := s.setMg { s.mg with reqs := q :: s.mg.reqs.drop 1 }

/-- The front request's next operation ends: after a STATUS other than OK the rest is skipped (R555). -/
def endOp (s : State) (status : Nat) (data : List (BitVec 32)) : State :=
  match s.mg.reqs with
  | [] => s
  | q :: _ => match q.left with
    | [] => s
    | o :: rest =>
      let done_ := q.done_ ++ [{ op := opCode o, status := status, data := data }]
      if status = drsOk then setFront s { q with left := rest, done_ := done_, since := none }
      else setFront s { q with left := [], since := none,
                               done_ := done_ ++ rest.map (fun x => { op := opCode x, status := drsSkipped, data := [] }) }

/-- Requests whose operations are all done are answered; unknown operations end with BAD_OP, malformed ones with BAD_ARG. -/
def settleReqs : Nat → State → State
  | 0, s => s
  | n + 1, s => match s.mg.reqs with
    | [] => s
    | q :: _ => match q.left with
      | [] => settleReqs n (answerReq s q)
      | .unknown _ :: _ => settleReqs n (endOp s drsBadOp [])
      | .malformed _ :: _ => settleReqs n (endOp s drsBadArg [])
      | _ => s

/-- Requests and operations waiting, as fuel for `settleReqs`. -/
def reqFuel (s : State) : Nat := s.mg.reqs.foldl (fun m q => m + 2 + q.left.length) 0

/-- An operation ends and what can be answered is answered. -/
def finishOp (s : State) (status : Nat) (data : List (BitVec 32)) : State := settleReqs (reqFuel s) (endOp s status data)

/-- The SEQ of a secured frame is acceptable in the session (R549). -/
def seqFresh (k : SessSt) (n : Nat) : Bool :=
  match k.high with
  | none => true
  | some h => h < n || (n < h && h ≤ n + 64 && !(k.seen.contains n))

/-- The session after a frame with this SEQ. -/
def seqTaken (k : SessSt) (n : Nat) : SessSt :=
  let h := match k.high with
    | none => n
    | some h => Nat.max h n
  { k with high := some h, seen := (n :: k.seen).filter (fun x => h ≤ x + 64) }

/-- A frame discarded for its session, tag or SEQ (R549). -/
def badTag (s : State) : State := drsEvent (s.bump mpBase Reg.Mp.BAD_TAG_CNT) 3

/-- DRISIUL_REQUEST (R549, R552, R555, R556). -/
def execDrisiulRequest (q : DrsReq) (s : State) : Host.Outcome State Fault Refusal :=
  if !(mpServes s) || !(meLive s q.port.val) then .next s
  else match liveSess s q.session.toNat with
    | none => .next (badTag s)
    | some k =>
      let n := q.seq.toNat
      if !q.tagGood || !(seqFresh k n) then .next (badTag s)
      else if 2 ^ 40 ≤ n then .next (dropSession s k.id)
      else
        let k := { seqTaken k n with port := q.port.val, heard := s.now }
        let s := setSess s k
        let dup := s.bump mpBase Reg.Mp.REQ_DUP_CNT
        let id := beAt q.msg 0 4
        let n := beAt q.msg 4 4 % 2 ^ 16
        let l := opsOf n (q.msg.drop 8)
        let run : ReqRun := { session := k.id, mac := q.mac, port := q.port.val, reqId := id, count := n, heads := l.map Prod.fst,
                              left := l.map Prod.snd, done_ := [], since := none }
        let start := s.setMg { s.mg with reqs := s.mg.reqs ++ [run] }
        if s.mg.reqs.any (fun x => x.session == k.id) then .next dup
        else match k.last with
          | none => .next (settleReqs (reqFuel start) start)
          | some (l, msg) =>
            if id = l then
              .next (sendSecured dup k.id q.port.val (fun p seq => .secured p (securedFrame dup q.mac k.id seq 1 msg)))
            else if ringDist id l < 2 ^ 31 then .next (settleReqs (reqFuel start) start)
            else .next dup

/-! ### Which operations a session may run (R36, R551, R582) -/

/-- The words at these offsets lie in FM_ROOT_DIGEST. -/
def inDigest (off n : Nat) : Bool := mpBase + 0x100 ≤ off && off + 4 * n ≤ mpBase + 0x120

/-- The operation is open to a provisioning session (R551). -/
def provisioning : DrsOp → Bool
  | .regRead .. | .poll .. | .atlasRead .. | .cfgSave => true
  | .regWrite off words => inDigest off.toNat words.length
  | .regRmw off _ _ => inDigest off.toNat 1
  | .commit .. | .atlasLoad .. | .stream .. | .fmapi .. | .storeOpen .. | .storeData .. | .storeClose | .storeAbort
  | .malformed _ | .unknown _ => false

/-- The operation is one that the recovery image serves (R582). -/
def recoveryServes : DrsOp → Bool
  | .regRead .. | .regWrite .. | .regRmw .. | .poll .. | .commit .. | .storeOpen .. | .storeData .. | .storeClose | .cfgSave
  | .storeAbort => true
  | .atlasLoad .. | .atlasRead .. | .stream .. | .fmapi .. | .malformed _ | .unknown _ => false

/-- The operation is turned away with DENIED. -/
def opDenied (s : State) (q : ReqRun) (o : DrsOp) : Bool :=
  !((((liveSess s q.session).map (·.full)).getD false) || provisioning o) ||
  (s.on flaskBase Reg.Flk.BANK_STATUS_RECOVERY && !(recoveryServes o))

/-- The front operation, when the management processor serves and the command is for it. -/
def onFront (s : State) (pick : ReqRun → DrsOp → Option State) : Host.Outcome State Fault Refusal :=
  if !(mpServes s) then .next s
  else match s.mg.reqs with
    | [] => .next s
    | q :: _ => match q.left with
      | [] => .next s
      | o :: _ => match pick q o with
        | none => .next s
        | some t => .next (if opDenied s q o then finishOp s drsDenied [] else t)

/-- Bytes of a response message with these results before the present one, `n` words in it and the rest skipped: within
9,216 bytes of frame (R541, R547, R554, R561). -/
def fitsResponse (q : ReqRun) (n : Nat) : Bool :=
  8 + q.done_.foldl (fun m r => m + 8 + 4 * r.data.length) 0 + 8 + 4 * n + 8 * (q.left.length - 1) ≤ 9166

/-! ### Register operations (R557) -/

/-- `n` consecutive words read on the Drisiul route. -/
def readWords : Nat → State → Nat → List (BitVec 32) → List (BitVec 32) × State
  | 0, s, _, acc => (acc, s)
  | n + 1, s, off, acc =>
    let r := busRead s .drisiul off
    readWords n r.2 (off + 4) (acc ++ [BitVec.ofNat 32 r.1])

/-- An offset outside the setup space. -/
def badOffset (off n : Nat) : Bool := 2 ^ 28 < off + 4 * n

/-- REG_READ (R557). -/
def execRegRead (s : State) : Host.Outcome State Fault Refusal :=
  onFront s (fun q o => match o with
    | .regRead off n =>
      let k := n.toNat
      if k = 0 ∨ 2048 < k ∨ badOffset off.toNat k then some (finishOp s drsBadArg [])
      else if !(fitsResponse q k) then some (finishOp s drsTooLong [])
      else
        let r := readWords k s off.toNat []
        some (finishOp r.2 drsOk r.1)
    | _ => none)

/-- One word written on the Drisiul route. -/
def drsWrite (s : State) (off : Nat) (v : BitVec 32) : State :=
  busWrite s .drisiul { off := BitVec.ofNat 28 off, value := v, enables := 15 }

/-- Words written in turn, up to the first that R36 refuses. -/
def writeWords : List (BitVec 32) → State → Nat → Bool × State
  | [], s, _ => (true, s)
  | v :: rest, s, off =>
    let t := drsWrite s off v
    if writeRefused s .drisiul off 15 = some .denied then (false, t) else writeWords rest t (off + 4)

/-- REG_WRITE (R36, R557). A misaligned offset is recorded by each write and is a bad argument. -/
def execRegWrite (s : State) : Host.Outcome State Fault Refusal :=
  onFront s (fun _ o => match o with
    | .regWrite off words =>
      if words.isEmpty ∨ badOffset off.toNat words.length then some (finishOp s drsBadArg [])
      else
        let r := writeWords words s off.toNat
        some (finishOp r.2 (if !r.1 then drsDenied else if off.toNat % 4 ≠ 0 then drsBadArg else drsOk) [])
    | _ => none)

/-- REG_RMW (R557): the old value is returned. -/
def execRegRmw (s : State) : Host.Outcome State Fault Refusal :=
  onFront s (fun q o => match o with
    | .regRmw off mask value =>
      if badOffset off.toNat 1 then some (finishOp s drsBadArg [])
      else if !(fitsResponse q 1) then some (finishOp s drsTooLong [])
      else
        let r := busRead s .drisiul off.toNat
        let old := BitVec.ofNat 32 r.1
        let t := drsWrite r.2 off.toNat ((old &&& ~~~mask) ||| (value &&& mask))
        if writeRefused s .drisiul off.toNat 15 = some .denied then some (finishOp t drsDenied [])
        else if off.toNat % 4 ≠ 0 then some (finishOp t drsBadArg [])
        else some (finishOp t drsOk [old])
    | _ => none)

/-- POLL begins (R557). -/
def execPoll (s : State) : Host.Outcome State Fault Refusal :=
  onFront s (fun q o => match o with
    | .poll off _ _ tmo =>
      if q.since.isSome then some s
      else if tmo.toNat = 0 ∨ 1000000 < tmo.toNat ∨ badOffset off.toNat 1 then some (finishOp s drsBadArg [])
      else if !(fitsResponse q 1) then some (finishOp s drsTooLong [])
      else some (setFront s { q with since := some s.now })
    | _ => none)

/-- POLL_END (R557): one reading of the word; a match ends the operation, and so does TMO_US. -/
def execPollEnd (timeout : Bool) (s : State) : Host.Outcome State Fault Refusal :=
  onFront s (fun q o => match o with
    | .poll off mask value _ =>
      if q.since.isNone then some s
      else
        let r := busRead s .drisiul off.toNat
        let v := BitVec.ofNat 32 r.1
        if v &&& mask = value then some (finishOp r.2 drsOk [v])
        else if timeout then some (finishOp r.2 drsTimeout [v])
        else some r.2
    | _ => none)

/-- COMMIT (R557): CMT_STROBE is written, and the operation waits. -/
def execCommit (s : State) : Host.Outcome State Fault Refusal :=
  onFront s (fun q o => match o with
    | .commit groups _ =>
      if q.since.isSome then some s
      else if !(fitsResponse q 1) then some (finishOp s drsTooLong [])
      else some (setFront (drsWrite s 0x60 groups) { q with since := some s.now })
    | _ => none)

/-- COMMIT_WAIT_END (R557). -/
def execCommitWaitEnd (timeout : Bool) (s : State) : Host.Outcome State Fault Refusal :=
  onFront s (fun q o => match o with
    | .commit groups _ =>
      let v := BitVec.ofNat 32 (s.rd 0 Reg.Root.CMT_STATUS)
      if q.since.isNone then some s
      else if v &&& groups = 0 then some (finishOp s drsOk [v])
      else if timeout then some (finishOp s drsTimeout [v])
      else some s
    | _ => none)

/-! ### Atlas operations (R557, R558) -/

/-- A table of ATLAS_LOAD: entries, words of an entry, and the address of entry `i` of version `v`. -/
def atlasTable (table v : Nat) : Option (Nat × Nat × (Nat → Nat)) :=
  if table = 0 then some (2048, 4, fun i => atBase + 0x10000 + 0x10000 * v + 16 * i)
  else if table = 1 then some (32, 4, fun i => atBase + 0x18000 + 0x10000 * v + 16 * i)
  else if table = 2 then some (256, 1, fun i => atBase + 0x19000 + 0x10000 * v + 4 * i)
  else none

/-- Entries loaded one after another, each whole (R186, R187). -/
def loadEntries (s : State) (per : Nat) (at_ : Nat → Nat) (ws : List (BitVec 32)) : State :=
  (List.range (ws.length / per)).foldl (fun t i =>
    guarded t .drisiul (at_ i) (fun t =>
      if per = 1 then
        let x := (ws.getD i 0).toNat
        t.wr (at_ i - Reg.Atlas.WAYPOINT_ENTRY.off) Reg.Atlas.WAYPOINT_ENTRY (bits x 10 0 + 2 ^ 31 * bits x 31 31)
      else (List.range 4).foldl (fun t k => putEntryWord t (at_ i) k (ws.getD (4 * i + k) 0).toNat) t)) s

/-- ATLAS_LOAD (R558). -/
def execAtlasLoad (s : State) : Host.Outcome State Fault Refusal :=
  onFront s (fun _ o => match o with
    | .atlasLoad table v force first ws =>
      some (match atlasTable table.toNat v.val with
        | none => finishOp s drsBadArg []
        | some (size, per, at_) =>
          if ws.isEmpty ∨ ws.length % per ≠ 0 ∨ size < first.toNat + ws.length / per then finishOp s drsBadArg []
          else if s.rd 0 Reg.Root.INJ_EPOCH_EPOCH = v.val ∧ !force then finishOp s drsBusy []
          else finishOp (loadEntries s per (fun i => at_ (first.toNat + i)) ws) drsOk [])
    | _ => none)

/-- ATLAS_READ (R557). -/
def execAtlasRead (s : State) : Host.Outcome State Fault Refusal :=
  onFront s (fun q o => match o with
    | .atlasRead table v first n =>
      some (match atlasTable table.toNat v.val with
        | none => finishOp s drsBadArg []
        | some (size, per, at_) =>
          if n = 0 ∨ size < first.toNat + n.toNat then finishOp s drsBadArg []
          else if !(fitsResponse q (per * n.toNat)) then finishOp s drsTooLong []
          else finishOp s drsOk ((List.range (per * n.toNat)).map (fun k => BitVec.ofNat 32 (readWord s (at_ first.toNat + 4 * k)))))
    | _ => none)

/-! ### Streams and FM API (R559, R562) -/

/-- STREAM (R562): the session that last enabled a stream holds it. -/
def execStream (s : State) : Host.Outcome State Fault Refusal :=
  onFront s (fun q o => match o with
    | .stream st enable rate decim =>
      let n := st.toNat
      let mine := ((look s.mg.streams n).map (·.session)) == some q.session
      if 3 < n then some (finishOp s drsBadArg [])
      else if enable then
        if rate.toNat = 0 ∨ 10000 < rate.toNat ∨ decim.toNat = 0 ∨ 65535 < decim.toNat then some (finishOp s drsBadArg [])
        else some (finishOp (s.setMg { s.mg with
          streams := put s.mg.streams n { session := q.session, rate := rate.toNat, decim := decim.toNat, count := 0 }
          recs := if mine then s.mg.recs else del s.mg.recs n }) drsOk [])
      else if mine then some (finishOp (s.setMg { s.mg with streams := del s.mg.streams n, recs := del s.mg.recs n }) drsOk [])
      else some (finishOp s drsOk [])
    | _ => none)

/-- FMAPI (R559): the return code, then the response payload, in whole words. -/
def execFmapi (s : State) : Host.Outcome State Fault Refusal :=
  onFront s (fun q o => match o with
    | .fmapi c =>
      let r := runFm s c
      let w := dataWords r.1.2
      if fitsResponse q (1 + w.length) then some (finishOp r.2 drsOk (BitVec.ofNat 32 r.1.1 :: w))
      else some (finishOp s drsTooLong [])
    | _ => none)

/-! ### Stores (R560, R573 to R578) -/

/-- Flask takes no write: the write itself fails, or the unit is fenced, in reset or without its clock. -/
def flaskFails (s : State) (fault : Bool) : Bool := fault || unitOff s .flask

/-- A failed write to Flask (R561, R594). -/
def storeFault (s : State) : State := finishOp (flaskEvent s 4) drsStoreFault []

/-- The store changed, with the registers that show it. -/
def setStore (s : State) (x : Option StoreOpen) : State :=
  let s := { s with flask := { s.flask with store := x } }
  match x with
  | none => (s.wr flaskBase Reg.Flk.STORE_STATE 0).wr flaskBase Reg.Flk.STORE_BYTES 0
  | some x => (s.wr flaskBase Reg.Flk.STORE_STATE (if x.cfgArea then 2 else 1)).wr flaskBase Reg.Flk.STORE_BYTES x.written

/-- STORE_OPEN (R560, R576): the target's unit 0x000 is zero from then on. -/
def execStoreOpen (fault : Bool) (s : State) : Host.Outcome State Fault Refusal :=
  onFront s (fun q o => match o with
    | .storeOpen cfg length =>
      if s.flask.store.isSome then some (finishOp s drsBusy [])
      else if !(lengthGood cfg length.toNat) then some (finishOp s drsBadArg [])
      else if flaskFails s fault then some (storeFault s)
      else
        let b := targetBank s cfg
        let s := showBank (setBank s cfg b (zeroUnit (bankOf s cfg b))) cfg b false
        let s := setStore s (some { cfgArea := cfg, bankB := b, session := q.session, total := length.toNat, written := 0 })
        some (finishOp (flaskEvent s 0) drsOk [])
    | _ => none)

/-- Image bytes with `b` in place at `off`. -/
def overwrite (img : List Byte) (off : Nat) (b : List Byte) : List Byte :=
  img.take off ++ List.replicate (off - img.length) 0 ++ b ++ img.drop (off + b.length)

/-- STORE_DATA (R560). -/
def execStoreData (fault : Bool) (s : State) : Host.Outcome State Fault Refusal :=
  onFront s (fun q o => match o with
    | .storeData off bytes => match s.flask.store with
      | none => some (finishOp s drsBadArg [])
      | some x =>
        if x.session ≠ q.session then some (finishOp s drsBusy [])
        else if bytes.length % 4 ≠ 0 ∨ off.toNat % 4 ≠ 0 ∨ x.total < off.toNat + bytes.length then some (finishOp s drsBadArg [])
        else if flaskFails s fault then some (storeFault s)
        else
          let k := bankOf s x.cfgArea x.bankB
          let s := setBank s x.cfgArea x.bankB { k with image := overwrite k.image off.toNat bytes }
          some (finishOp (setStore s (some { x with written := Nat.max x.written (off.toNat + bytes.length) })) drsOk [])
    | _ => none)

/-- A bank closed over an image of `n` bytes: the header written, unit 0x000 last (R573, R576, R577). -/
def closeBank (s : State) (cfg bankB : Bool) (n svn : Nat) : State :=
  let k := bankOf s cfg bankB
  let k := { k with
    magic := if cfg then magicCfg else magicFw, hdrVer := 1, svn := BitVec.ofNat 8 svn
    seq := BitVec.ofNat 64 (nextSeq s cfg), length := BitVec.ofNat 32 n }
  let s := setBank s cfg bankB { k with check := BitVec.ofNat 32 (bankCheck k) }
  showBank s cfg bankB (bankValid s cfg bankB true)

/-- STORE_CLOSE (R560, R574 to R577, R583): signature, prologue and SVN of a firmware image before the header. -/
def execStoreClose (sig fault : Bool) (s : State) : Host.Outcome State Fault Refusal :=
  onFront s (fun q o => match o with
    | .storeClose => match s.flask.store with
      | none => some (finishOp s drsBadArg [])
      | some x =>
        if x.session ≠ q.session then some (finishOp s drsBusy [])
        else if flaskFails s fault then some (storeFault s)
        else
          let img := (bankOf s x.cfgArea x.bankB).image.take x.total
          let good := x.cfgArea || (sig && prologueGood img x.total && minSvn s ≤ imageSvn img)
          let s := flaskEvent (setStore s none) 1
          if good then some (finishOp (closeBank s x.cfgArea x.bankB x.total (if x.cfgArea then 0 else imageSvn img)) drsOk [])
          else some (finishOp s drsSigFail [])
    | _ => none)

/-- STORE_ABORT: the session's own store. -/
def execStoreAbort (s : State) : Host.Outcome State Fault Refusal :=
  onFront s (fun q o => match o with
    | .storeAbort => match s.flask.store with
      | none => some (finishOp s drsOk [])
      | some x => if x.session ≠ q.session then some (finishOp s drsBusy []) else some (finishOp (abandonStore s) drsOk [])
    | _ => none)

/-- The words of a "cfg" field with its active value in each, in ascending order of offset. -/
def cfgWordsOf (s : State) (u : UnitId) (f : Field) : List (Nat × Nat) :=
  let offs := if f.count2 = 1 then (List.range f.count).map (fun i => f.off + f.stride * i)
    else
      let big := Nat.max f.stride f.stride2
      let small := Nat.min f.stride f.stride2
      let nb := if f.stride < f.stride2 then f.count2 else f.count
      let ns := if f.stride < f.stride2 then f.count else f.count2
      (List.range nb).flatMap (fun i => (List.range ns).map (fun j => f.off + big * i + small * j))
  offs.map (fun w => (base u + w, activeAt s u w f * 2 ^ f.lo))

/-- Two ascending lists of words joined; words of one offset are added. -/
def joinWords : Nat → List (Nat × Nat) → List (Nat × Nat) → List (Nat × Nat)
  | 0, a, b => a ++ b
  | _ + 1, [], b => b
  | _ + 1, a, [] => a
  | n + 1, x :: a, y :: b =>
    if x.1 = y.1 then (x.1, x.2 + y.2) :: joinWords n a b
    else if x.1 < y.1 then x :: joinWords n a (y :: b)
    else y :: joinWords n (x :: a) b

/-- The records of CFG_SAVE: one for each word that holds a "cfg" field, in ascending order of offset (R578). -/
def cfgRecords (s : State) : List (Nat × Nat) :=
  allUnits.flatMap (fun u => ((ownFields u).filter (·.cfg)).foldl (fun m f =>
    let w := cfgWordsOf s u f
    joinWords (m.length + w.length) m w) [])

/-- CFG_SAVE (R560, R576 to R578). -/
def execCfgSave (fault : Bool) (s : State) : Host.Outcome State Fault Refusal :=
  onFront s (fun _ o => match o with
    | .cfgSave =>
      if s.flask.store.isSome then some (finishOp s drsBusy [])
      else if flaskFails s fault then some (storeFault s)
      else
        let b := targetBank s true
        let img := (cfgRecords s).flatMap (fun r => leBytes r.1 4 ++ leBytes r.2 4)
        let s := showBank (setBank s true b { zeroUnit (bankOf s true b) with image := img }) true b false
        some (finishOp (closeBank s true b img.length 0) drsOk [])
    | _ => none)

end Sys2Proof.Machine
end

