-- ==== Sys2Proof/Machine/Dispatch.lean ====
section
/-!
DEFINITION. Every command's meaning, one arm per constructor of `Instr`, in the order of spec/opcode_table.json.
-/
namespace Sys2Proof.Machine

def exec (i : Instr) (s : State) : Host.Outcome State Fault Refusal :=
  match i with
  | .paceIntervalEnd counts => Sys2Proof.Machine.execPaceIntervalEnd counts s
  | .paceLowEnter => Sys2Proof.Machine.execPaceLowEnter s
  | .paceRestored => Sys2Proof.Machine.execPaceRestored s
  | .paceFloorWrite r v => Sys2Proof.Machine.execPaceFloorWrite r v s
  | .avsLoopPeriod => Sys2Proof.Machine.execAvsLoopPeriod s
  | .powerEstimate rail islandsW => Sys2Proof.Machine.execPowerEstimate rail islandsW s
  | .avsTxnNack => Sys2Proof.Machine.execAvsTxnNack s
  | .avsStatusRead => Sys2Proof.Machine.execAvsStatusRead s
  | .avsStatusAck mv => Sys2Proof.Machine.execAvsStatusAck mv s
  | .bridgeCodeError w => Sys2Proof.Machine.execBridgeCodeError w s
  | .registerWrite w => Sys2Proof.Machine.execRegisterWrite w s
  | .rcFieldRead x n => Sys2Proof.Machine.execRcFieldRead x n s
  | .reg64LowWrite r w => Sys2Proof.Machine.execReg64LowWrite r w s
  | .reg64HighWrite r w => Sys2Proof.Machine.execReg64HighWrite r w s
  | .reg64LowRead r off => Sys2Proof.Machine.execReg64LowRead r off s
  | .reg64HighRead r off => Sys2Proof.Machine.execReg64HighRead r off s
  | .stFieldWrite r w => Sys2Proof.Machine.execStFieldWrite r w s
  | .fpFieldWrite r w => Sys2Proof.Machine.execFpFieldWrite r w s
  | .fpWriteApplied island => Sys2Proof.Machine.execFpWriteApplied island s
  | .fpWriteAbandon island => Sys2Proof.Machine.execFpWriteAbandon island s
  | .fence r u => Sys2Proof.Machine.execFence r u s
  | .unitReset r u alsoFence => Sys2Proof.Machine.execUnitReset r u alsoFence s
  | .unitResetDone u => Sys2Proof.Machine.execUnitResetDone u s
  | .cmtGroupWrite r u g => Sys2Proof.Machine.execCmtGroupWrite r u g s
  | .cmtStrobe r groups => Sys2Proof.Machine.execCmtStrobe r groups s
  | .commitApply u => Sys2Proof.Machine.execCommitApply u s
  | .cmtDiscard r groups => Sys2Proof.Machine.execCmtDiscard r groups s
  | .warmReset r => Sys2Proof.Machine.execWarmReset r s
  | .coldReset r => Sys2Proof.Machine.execColdReset r s
  | .poolStaleClr r => Sys2Proof.Machine.execPoolStaleClr r s
  | .injEpochWrite r e => Sys2Proof.Machine.execInjEpochWrite r e s
  | .packetHeadArrive p vc => Sys2Proof.Machine.execPacketHeadArrive p vc s
  | .egressGrant o => Sys2Proof.Machine.execEgressGrant o s
  | .packetTailArrive p vc => Sys2Proof.Machine.execPacketTailArrive p vc s
  | .redAvgIdleTick => Sys2Proof.Machine.execRedAvgIdleTick s
  | .bufferEccError w corrected => Sys2Proof.Machine.execBufferEccError w corrected s
  | .poolHwmClr r => Sys2Proof.Machine.execPoolHwmClr r s
  | .switchCntClr r => Sys2Proof.Machine.execSwitchCntClr r s
  | .mcEntryWordWrite r g w v => Sys2Proof.Machine.execMcEntryWordWrite r g w v s
  | .mcEntryApply r g v => Sys2Proof.Machine.execMcEntryApply r g v s
  | .linkBlockSend n => Sys2Proof.Machine.execLinkBlockSend n s
  | .linkBlockReceive n b crc fecBad fecCorr => Sys2Proof.Machine.execLinkBlockReceive n b crc fecBad fecCorr s
  | .replayReqReceive n ex => Sys2Proof.Machine.execReplayReqReceive n ex s
  | .replayTimeout n => Sys2Proof.Machine.execReplayTimeout n s
  | .creditGrantPeriod n => Sys2Proof.Machine.execCreditGrantPeriod n s
  | .auditTimeout n vc => Sys2Proof.Machine.execAuditTimeout n vc s
  | .creditStallTimeout n vc => Sys2Proof.Machine.execCreditStallTimeout n vc s
  | .laneFault n e => Sys2Proof.Machine.execLaneFault n e s
  | .laneLockGain n lane => Sys2Proof.Machine.execLaneLockGain n lane s
  | .widthRestoreDue n => Sys2Proof.Machine.execWidthRestoreDue n s
  | .blockLockGain n g => Sys2Proof.Machine.execBlockLockGain n g s
  | .bringupPhaseDone n p => Sys2Proof.Machine.execBringupPhaseDone n p s
  | .trainReqReceive n m => Sys2Proof.Machine.execTrainReqReceive n m s
  | .trainAckReceive n m => Sys2Proof.Machine.execTrainAckReceive n m s
  | .trainDoneReceive n m => Sys2Proof.Machine.execTrainDoneReceive n m s
  | .trainResume n => Sys2Proof.Machine.execTrainResume n s
  | .bringupTimeout n => Sys2Proof.Machine.execBringupTimeout n s
  | .retrainTimeout n => Sys2Proof.Machine.execRetrainTimeout n s
  | .linkDownSent n => Sys2Proof.Machine.execLinkDownSent n s
  | .linkDownReceive n reason => Sys2Proof.Machine.execLinkDownReceive n reason s
  | .salvageComplete n => Sys2Proof.Machine.execSalvageComplete n s
  | .brokenHoldExpire n => Sys2Proof.Machine.execBrokenHoldExpire n s
  | .portBringup r n => Sys2Proof.Machine.execPortBringup r n s
  | .portRetrain r n => Sys2Proof.Machine.execPortRetrain r n s
  | .portTakedown r n => Sys2Proof.Machine.execPortTakedown r n s
  | .portCntClr r n => Sys2Proof.Machine.execPortCntClr r n s
  | .timeSyncPeriod n => Sys2Proof.Machine.execTimeSyncPeriod n s
  | .timeSyncReceive n t1 t2 t3 => Sys2Proof.Machine.execTimeSyncReceive n t1 t2 t3 s
  | .timeReplyReceive n t1 t2 t3 t4 => Sys2Proof.Machine.execTimeReplyReceive n t1 t2 t3 t4 s
  | .timeExchangeTimeout n => Sys2Proof.Machine.execTimeExchangeTimeout n s
  | .congEstTick => Sys2Proof.Machine.execCongEstTick s
  | .warmupEnd n => Sys2Proof.Machine.execWarmupEnd n s
  | .fmgtWaitTimeout p vc => Sys2Proof.Machine.execFmgtWaitTimeout p vc s
  | .fmgtReceive room => Sys2Proof.Machine.execFmgtReceive room s
  | .atlasEntryWordWrite r v e w x => Sys2Proof.Machine.execAtlasEntryWordWrite r v e w x s
  | .atlasEntryApply r v e x => Sys2Proof.Machine.execAtlasEntryApply r v e x s
  | .waypointEntryWrite r v i1 x => Sys2Proof.Machine.execWaypointEntryWrite r v i1 x s
  | .atlasValidWrite r x => Sys2Proof.Machine.execAtlasValidWrite r x s
  | .atlasCntClr r => Sys2Proof.Machine.execAtlasCntClr r s
  | .fenceRelease ch => Sys2Proof.Machine.execFenceRelease ch s
  | .fenceTimeout ch psn => Sys2Proof.Machine.execFenceTimeout ch psn s
  | .contourPeriod room => Sys2Proof.Machine.execContourPeriod room s
  | .openCmd r c => Sys2Proof.Machine.execOpenCmd r c s
  | .modify r c => Sys2Proof.Machine.execModify r c s
  | .close r c => Sys2Proof.Machine.execClose r c s
  | .closeForce r c => Sys2Proof.Machine.execCloseForce r c s
  | .query r c => Sys2Proof.Machine.execQuery r c s
  | .channelCloseComplete ch => Sys2Proof.Machine.execChannelCloseComplete ch s
  | .ctxFetchDone ch words => Sys2Proof.Machine.execCtxFetchDone ch words s
  | .ctxWritebackFail ch => Sys2Proof.Machine.execCtxWritebackFail ch s
  | .channelPacketSend ch space => Sys2Proof.Machine.execChannelPacketSend ch space s
  | .payloadReadDone w data => Sys2Proof.Machine.execPayloadReadDone w data s
  | .channelPacketReceive c space => Sys2Proof.Machine.execChannelPacketReceive c space s
  | .ackDelayTimeout ch => Sys2Proof.Machine.execAckDelayTimeout ch s
  | .ackReceive c => Sys2Proof.Machine.execAckReceive c s
  | .nakReceive c => Sys2Proof.Machine.execNakReceive c s
  | .readRspReceive c => Sys2Proof.Machine.execReadRspReceive c s
  | .retxTimeout ch => Sys2Proof.Machine.execRetxTimeout ch s
  | .missBackoffExpire ch => Sys2Proof.Machine.execMissBackoffExpire ch s
  | .ccIncPeriod ch => Sys2Proof.Machine.execCcIncPeriod ch s
  | .transportCntClr r c => Sys2Proof.Machine.execTransportCntClr r c s
  | .wqDoorbell f i1 v => Sys2Proof.Machine.execWqDoorbell f i1 v s
  | .watchedLineSnoop f a => Sys2Proof.Machine.execWatchedLineSnoop f a s
  | .watchedLineReadDone f a data => Sys2Proof.Machine.execWatchedLineReadDone f a data s
  | .watchPollTimer => Sys2Proof.Machine.execWatchPollTimer s
  | .wqEntryArrive g data => Sys2Proof.Machine.execWqEntryArrive g data s
  | .fragTableReadDone g data => Sys2Proof.Machine.execFragTableReadDone g data s
  | .wqEntryTake e => Sys2Proof.Machine.execWqEntryTake e s
  | .indexWriteback q => Sys2Proof.Machine.execIndexWriteback q s
  | .cqCiWrite f i1 v => Sys2Proof.Machine.execCqCiWrite f i1 v s
  | .cqArm f i1 => Sys2Proof.Machine.execCqArm f i1 s
  | .eqArm f => Sys2Proof.Machine.execEqArm f s
  | .eqCiWrite f v => Sys2Proof.Machine.execEqCiWrite f v s
  | .queueReset f => Sys2Proof.Machine.execQueueReset f s
  | .queueResetDone f => Sys2Proof.Machine.execQueueResetDone f s
  | .fnValidWrite r f v => Sys2Proof.Machine.execFnValidWrite r f v s
  | .wqCreate f => Sys2Proof.Machine.execWqCreate f s
  | .wqModify f => Sys2Proof.Machine.execWqModify f s
  | .cqCreate f => Sys2Proof.Machine.execCqCreate f s
  | .wqQuery f => Sys2Proof.Machine.execWqQuery f s
  | .cqQuery f => Sys2Proof.Machine.execCqQuery f s
  | .chOpen f => Sys2Proof.Machine.execChOpen f s
  | .chModify f => Sys2Proof.Machine.execChModify f s
  | .chClose f => Sys2Proof.Machine.execChClose f s
  | .chCloseForce f => Sys2Proof.Machine.execChCloseForce f s
  | .chQuery f => Sys2Proof.Machine.execChQuery f s
  | .engineCntClr r e => Sys2Proof.Machine.execEngineCntClr r e s
  | .rqDoorbell f j v => Sys2Proof.Machine.execRqDoorbell f j v s
  | .recvEntryTake d data => Sys2Proof.Machine.execRecvEntryTake d data s
  | .overflowMove d => Sys2Proof.Machine.execOverflowMove d s
  | .eagerRecvDone d index => Sys2Proof.Machine.execEagerRecvDone d index s
  | .uxCopyDone d index data => Sys2Proof.Machine.execUxCopyDone d index data s
  | .rndvJobDone ch => Sys2Proof.Machine.execRndvJobDone ch s
  | .domainEnable f j w => Sys2Proof.Machine.execDomainEnable f j w s
  | .domainDisable f j w => Sys2Proof.Machine.execDomainDisable f j w s
  | .matchListEccError d => Sys2Proof.Machine.execMatchListEccError d s
  | .matchCntClr r => Sys2Proof.Machine.execMatchCntClr r s
  | .outingCreate r => Sys2Proof.Machine.execOutingCreate r s
  | .outingAbort r => Sys2Proof.Machine.execOutingAbort r s
  | .outingRebuild r => Sys2Proof.Machine.execOutingRebuild r s
  | .outingDestroy r => Sys2Proof.Machine.execOutingDestroy r s
  | .collSourceReadDone o k data => Sys2Proof.Machine.execCollSourceReadDone o k data s
  | .collUpReceive => Sys2Proof.Machine.execCollUpReceive s
  | .collDownReceive => Sys2Proof.Machine.execCollDownReceive s
  | .segmentCombine o => Sys2Proof.Machine.execSegmentCombine o s
  | .collResultDelivered => Sys2Proof.Machine.execCollResultDelivered s
  | .collRtoExpire o => Sys2Proof.Machine.execCollRtoExpire o s
  | .basketEccError o corrected => Sys2Proof.Machine.execBasketEccError o corrected s
  | .collCntClr r => Sys2Proof.Machine.execCollCntClr r s
  | .keyWrite f => Sys2Proof.Machine.execKeyWrite f s
  | .keyFree f => Sys2Proof.Machine.execKeyFree f s
  | .keyQuery f => Sys2Proof.Machine.execKeyQuery f s
  | .keyCmdDone f => Sys2Proof.Machine.execKeyCmdDone f s
  | .keyCfgEnWrite r en => Sys2Proof.Machine.execKeyCfgEnWrite r en s
  | .keyFetchDone i1 => Sys2Proof.Machine.execKeyFetchDone i1 s
  | .walkEntryReadDone f a data => Sys2Proof.Machine.execWalkEntryReadDone f a data s
  | .invalidateDone g => Sys2Proof.Machine.execInvalidateDone g s
  | .xlateCntClr r => Sys2Proof.Machine.execXlateCntClr r s
  | .flogClr r => Sys2Proof.Machine.execFlogClr r s
  | .attachLinkUp a rate width cxl isSwitch => Sys2Proof.Machine.execAttachLinkUp a rate width cxl isSwitch s
  | .attachDown a => Sys2Proof.Machine.execAttachDown a s
  | .downstreamLinkDown a => Sys2Proof.Machine.execDownstreamLinkDown a s
  | .hostConfigRequest a q => Sys2Proof.Machine.execHostConfigRequest a q s
  | .hostReady => Sys2Proof.Machine.execHostReady s
  | .dpcTriggerClear a => Sys2Proof.Machine.execDpcTriggerClear a s
  | .dpcRelease r a => Sys2Proof.Machine.execDpcRelease r a s
  | .attachCntClr r a => Sys2Proof.Machine.execAttachCntClr r a s
  | .identifySwitchDevice => Sys2Proof.Machine.execIdentifySwitchDevice s
  | .getPhysicalPortState ports => Sys2Proof.Machine.execGetPhysicalPortState ports s
  | .physicalPortControl a op => Sys2Proof.Machine.execPhysicalPortControl a op s
  | .sendPpbConfigRequest a reg write => Sys2Proof.Machine.execSendPpbConfigRequest a reg write s
  | .getVirtualCxlSwitchInfo u => Sys2Proof.Machine.execGetVirtualCxlSwitchInfo u s
  | .bindVppb u v a => Sys2Proof.Machine.execBindVppb u v a s
  | .unbindVppb u v option => Sys2Proof.Machine.execUnbindVppb u v option s
  | .unbindComplete a => Sys2Proof.Machine.execUnbindComplete a s
  | .generateAerEvent u v error => Sys2Proof.Machine.execGenerateAerEvent u v error s
  | .backgroundOperationStatus => Sys2Proof.Machine.execBackgroundOperationStatus s
  | .initiateDynamicCapacityAdd u e tag => Sys2Proof.Machine.execInitiateDynamicCapacityAdd u e tag s
  | .forcedDcRemoval u e => Sys2Proof.Machine.execForcedDcRemoval u e s
  | .addDcResponse u e accept => Sys2Proof.Machine.execAddDcResponse u e accept s
  | .dcRespTimeout u e => Sys2Proof.Machine.execDcRespTimeout u e s
  | .dcReleaseResponse u e => Sys2Proof.Machine.execDcReleaseResponse u e s
  | .hostMemRequest u line q => Sys2Proof.Machine.execHostMemRequest u line q s
  | .farWindowRead a off n req => Sys2Proof.Machine.execFarWindowRead a off n req s
  | .farWindowWrite a off bytes => Sys2Proof.Machine.execFarWindowWrite a off bytes s
  | .farReadComplete a req => Sys2Proof.Machine.execFarReadComplete a req s
  | .farReadTimeout a req => Sys2Proof.Machine.execFarReadTimeout a req s
  | .farWinValidWrite r a w x => Sys2Proof.Machine.execFarWinValidWrite r a w x s
  | .downstreamMessage a m => Sys2Proof.Machine.execDownstreamMessage a m s
  | .ownedDeviceRequest a da q => Sys2Proof.Machine.execOwnedDeviceRequest a da q s
  | .claimValidWrite r a k x fits => Sys2Proof.Machine.execClaimValidWrite r a k x fits s
  | .tunnelReceive p frag => Sys2Proof.Machine.execTunnelReceive p frag s
  | .trqDoorbell f v => Sys2Proof.Machine.execTrqDoorbell f v s
  | .assign r => Sys2Proof.Machine.execAssign r s
  | .release r => Sys2Proof.Machine.execRelease r s
  | .pair r => Sys2Proof.Machine.execPair r s
  | .unpair r => Sys2Proof.Machine.execUnpair r s
  | .extentQuery r => Sys2Proof.Machine.execExtentQuery r s
  | .releaseDrained e => Sys2Proof.Machine.execReleaseDrained e s
  | .sanitizeDone e => Sys2Proof.Machine.execSanitizeDone e s
  | .pairCopyDone e => Sys2Proof.Machine.execPairCopyDone e s
  | .poolInitDone => Sys2Proof.Machine.execPoolInitDone s
  | .hbmPhyLockLoss st => Sys2Proof.Machine.execHbmPhyLockLoss st s
  | .hbmCmdTimeout st => Sys2Proof.Machine.execHbmCmdTimeout st s
  | .hbmUncorrError line otherGood => Sys2Proof.Machine.execHbmUncorrError line otherGood s
  | .stackOffline r st => Sys2Proof.Machine.execStackOffline r st s
  | .scrubRead x => Sys2Proof.Machine.execScrubRead x s
  | .poolCntClr r => Sys2Proof.Machine.execPoolCntClr r s
  | .elogClr r => Sys2Proof.Machine.execElogClr r s
  | .rdShared i1 => Sys2Proof.Machine.execRdShared i1 s
  | .rdOwn i1 => Sys2Proof.Machine.execRdOwn i1 s
  | .rdNoAlloc i1 => Sys2Proof.Machine.execRdNoAlloc i1 s
  | .wrNoAlloc i1 => Sys2Proof.Machine.execWrNoAlloc i1 s
  | .wbMod i1 => Sys2Proof.Machine.execWbMod i1 s
  | .wbClean i1 => Sys2Proof.Machine.execWbClean i1 s
  | .evict i1 => Sys2Proof.Machine.execEvict i1 s
  | .homeSnoopResponse a line h => Sys2Proof.Machine.execHomeSnoopResponse a line h s
  | .homeAck a line => Sys2Proof.Machine.execHomeAck a line s
  | .snoopTimeout a => Sys2Proof.Machine.execSnoopTimeout a s
  | .agentSnoop a line => Sys2Proof.Machine.execAgentSnoop a line s
  | .agentGrant a line => Sys2Proof.Machine.execAgentGrant a line s
  | .agentCmp a line => Sys2Proof.Machine.execAgentCmp a line s
  | .agentLoad a line => Sys2Proof.Machine.execAgentLoad a line s
  | .agentStore a line off bytes => Sys2Proof.Machine.execAgentStore a line off bytes s
  | .agentReplace a line => Sys2Proof.Machine.execAgentReplace a line s
  | .agentData a line => Sys2Proof.Machine.execAgentData a line s
  | .agentInvack a line => Sys2Proof.Machine.execAgentInvack a line s
  | .agentGntm a line => Sys2Proof.Machine.execAgentGntm a line s
  | .agentSnpdrain a i1 => Sys2Proof.Machine.execAgentSnpdrain a i1 s
  | .rspdrain a i1 => Sys2Proof.Machine.execRspdrain a i1 s
  | .enterCareful r i1 => Sys2Proof.Machine.execEnterCareful r i1 s
  | .carefulEntered i1 => Sys2Proof.Machine.execCarefulEntered i1 s
  | .leaveCareful r i1 => Sys2Proof.Machine.execLeaveCareful r i1 s
  | .agentKill r => Sys2Proof.Machine.execAgentKill r s
  | .reclaimScanDone i1 => Sys2Proof.Machine.execReclaimScanDone i1 s
  | .bctRun r => Sys2Proof.Machine.execBctRun r s
  | .bctDone ok i1 => Sys2Proof.Machine.execBctDone ok i1 s
  | .sfEccError line => Sys2Proof.Machine.execSfEccError line s
  | .sliceCntClr r i1 => Sys2Proof.Machine.execSliceCntClr r i1 s
  | .meterRefill m => Sys2Proof.Machine.execMeterRefill m s
  | .shaperRefill x => Sys2Proof.Machine.execShaperRefill x s
  | .meterCntClr r b => Sys2Proof.Machine.execMeterCntClr r b s
  | .sweepTick => Sys2Proof.Machine.execSweepTick s
  | .dumpWritten fault => Sys2Proof.Machine.execDumpWritten fault s
  | .counterSelWrite r w => Sys2Proof.Machine.execCounterSelWrite r w s
  | .gzCiWrite r x => Sys2Proof.Machine.execGzCiWrite r x s
  | .gzEnWrite r x => Sys2Proof.Machine.execGzEnWrite r x s
  | .gzCntClr r => Sys2Proof.Machine.execGzCntClr r s
  | .trailEnWrite r x => Sys2Proof.Machine.execTrailEnWrite r x s
  | .trailItemEnd => Sys2Proof.Machine.execTrailItemEnd s
  | .trailRecordMove fault => Sys2Proof.Machine.execTrailRecordMove fault s
  | .mgmtFrameReceive p f => Sys2Proof.Machine.execMgmtFrameReceive p f s
  | .helloTimer => Sys2Proof.Machine.execHelloTimer s
  | .helloTimeout p => Sys2Proof.Machine.execHelloTimeout p s
  | .mgmtLinkChange p st => Sys2Proof.Machine.execMgmtLinkChange p st s
  | .bypassClose => Sys2Proof.Machine.execBypassClose s
  | .bypassOpen => Sys2Proof.Machine.execBypassOpen s
  | .getVersion p mac => Sys2Proof.Machine.execGetVersion p mac s
  | .getCapabilities p mac => Sys2Proof.Machine.execGetCapabilities p mac s
  | .negotiateAlgorithms p mac offers => Sys2Proof.Machine.execNegotiateAlgorithms p mac offers s
  | .getDigests p mac => Sys2Proof.Machine.execGetDigests p mac s
  | .getCertificate p mac slot off n => Sys2Proof.Machine.execGetCertificate p mac slot off n s
  | .challenge p mac slot => Sys2Proof.Machine.execChallenge p mac slot s
  | .getMeasurements p mac index => Sys2Proof.Machine.execGetMeasurements p mac index s
  | .keyExchange p mac session => Sys2Proof.Machine.execKeyExchange p mac session s
  | .finish session good => Sys2Proof.Machine.execFinish session good s
  | .heartbeat session => Sys2Proof.Machine.execHeartbeat session s
  | .keyUpdate session => Sys2Proof.Machine.execKeyUpdate session s
  | .endSession session => Sys2Proof.Machine.execEndSession session s
  | .sessionTimeout session => Sys2Proof.Machine.execSessionTimeout session s
  | .drisiulRequest q => Sys2Proof.Machine.execDrisiulRequest q s
  | .regRead => Sys2Proof.Machine.execRegRead s
  | .regWrite => Sys2Proof.Machine.execRegWrite s
  | .regRmw => Sys2Proof.Machine.execRegRmw s
  | .poll => Sys2Proof.Machine.execPoll s
  | .pollEnd timeout => Sys2Proof.Machine.execPollEnd timeout s
  | .commit => Sys2Proof.Machine.execCommit s
  | .commitWaitEnd timeout => Sys2Proof.Machine.execCommitWaitEnd timeout s
  | .atlasLoad => Sys2Proof.Machine.execAtlasLoad s
  | .atlasRead => Sys2Proof.Machine.execAtlasRead s
  | .stream => Sys2Proof.Machine.execStream s
  | .fmapi => Sys2Proof.Machine.execFmapi s
  | .storeOpen fault => Sys2Proof.Machine.execStoreOpen fault s
  | .storeData fault => Sys2Proof.Machine.execStoreData fault s
  | .storeClose sig fault => Sys2Proof.Machine.execStoreClose sig fault s
  | .cfgSave fault => Sys2Proof.Machine.execCfgSave fault s
  | .storeAbort => Sys2Proof.Machine.execStoreAbort s
  | .streamRecordSend st fit drop => Sys2Proof.Machine.execStreamRecordSend st fit drop s
  | .ptpEventMessage p domain residence offset => Sys2Proof.Machine.execPtpEventMessage p domain residence offset s
  | .tbOffsetSample => Sys2Proof.Machine.execTbOffsetSample s
  | .tbHoldover => Sys2Proof.Machine.execTbHoldover s
  | .timePpsInEdge => Sys2Proof.Machine.execTimePpsInEdge s
  | .timePpsOutEdge rise => Sys2Proof.Machine.execTimePpsOutEdge rise s
  | .lockstepMismatch => Sys2Proof.Machine.execLockstepMismatch s
  | .mpWatchdogExpire => Sys2Proof.Machine.execMpWatchdogExpire s
  | .mpMemoryError => Sys2Proof.Machine.execMpMemoryError s
  | .mpRestart r => Sys2Proof.Machine.execMpRestart r s
  | .mpRestartDone good => Sys2Proof.Machine.execMpRestartDone good s
  | .mgmtEthCntClr r k => Sys2Proof.Machine.execMgmtEthCntClr r k s
  | .mpCntClr r => Sys2Proof.Machine.execMpCntClr r s
  | .v3p3AuxRise => Sys2Proof.Machine.execV3p3AuxRise s
  | .v3p3AuxLoss => Sys2Proof.Machine.execV3p3AuxLoss s
  | .pwrGoodRise => Sys2Proof.Machine.execPwrGoodRise s
  | .pwrGoodFall => Sys2Proof.Machine.execPwrGoodFall s
  | .resetNAssert => Sys2Proof.Machine.execResetNAssert s
  | .resetNRelease => Sys2Proof.Machine.execResetNRelease s
  | .testEnAssert => Sys2Proof.Machine.execTestEnAssert s
  | .railPgRise g => Sys2Proof.Machine.execRailPgRise g s
  | .railPgTimeout g => Sys2Proof.Machine.execRailPgTimeout g s
  | .railPgFall g => Sys2Proof.Machine.execRailPgFall g s
  | .bootFirmwareSelect c => Sys2Proof.Machine.execBootFirmwareSelect c s
  | .configImageApply => Sys2Proof.Machine.execConfigImageApply s
  | .stackInService st => Sys2Proof.Machine.execStackInService st s
  | .fabricReady => Sys2Proof.Machine.execFabricReady s
  | .fwConfirm r c => Sys2Proof.Machine.execFwConfirm r c s
  | .stallWatchdogFire u stage held => Sys2Proof.Machine.execStallWatchdogFire u stage held s
  | .watchdogTest u stage fired => Sys2Proof.Machine.execWatchdogTest u stage fired s
  | .configScrubTick u res => Sys2Proof.Machine.execConfigScrubTick u res s
  | .clockLoss c => Sys2Proof.Machine.execClockLoss c s
  | .clrAll r => Sys2Proof.Machine.execClrAll r s
  | .clrUnit r => Sys2Proof.Machine.execClrUnit r s
  | .logClr r => Sys2Proof.Machine.execLogClr r s
  | .errCntClr r => Sys2Proof.Machine.execErrCntClr r s
  | .thermalSensorRead t => Sys2Proof.Machine.execThermalSensorRead t s
  | .tjPeakClr r => Sys2Proof.Machine.execTjPeakClr r s
  | .ctxWritebackDone ch => Sys2Proof.Machine.execCtxWritebackDone ch s
  | .wrnoallocCmp c => Sys2Proof.Machine.execWrnoallocCmp c s
  | .islandLock => Sys2Proof.Machine.execIslandLock s
  | .clockRestored c => Sys2Proof.Machine.execClockRestored c s
  | .testEnRelease => Sys2Proof.Machine.execTestEnRelease s
  | .deliverEncapsulatedResponse session x => Sys2Proof.Machine.execDeliverEncapsulatedResponse session x s
  | .boundDeviceRequest a q => Sys2Proof.Machine.execBoundDeviceRequest a q s
  | .downstreamDeviceRequest a d q => Sys2Proof.Machine.execDownstreamDeviceRequest a d q s

end Sys2Proof.Machine
end

