-- ==== Sys2Proof/Safety.lean ====
section
/-!
DEFINITION. What the claims mean: where a command ends, what it leaves alone, and the invariants they speak of. The queue is
first in, first out; what the block has emitted stays emitted; the clock only advances; the pool's memory has its canonical form
(R449, R450).
-/
namespace Sys2Proof.Machine

/-- The outcome is a next state with the property. -/
def Ends (o : Host.Outcome State Fault Refusal) (P : State → Prop) : Prop := ∃ t, o = .next t ∧ P t

/-- `t` is `s` but for register fields. -/
def RegsOnly (s t : State) : Prop := { t with regs := s.regs } = s

/-- Every register field but those with these keys is as it was. -/
def OtherFields (ks : List Nat) (s t : State) : Prop := ∀ k, k ∉ ks → look t.regs k = look s.regs k

/-- `t` is `s` but for the register fields with these keys. -/
def OnlyFields (ks : List Nat) (s t : State) : Prop := RegsOnly s t ∧ OtherFields ks s t

/-- The keys of the value registers of a unit's counter bank (R524). -/
def bankKeys (u : UnitId) : List Nat :=
  match bankOffset u with
  | none => []
  | some o => (List.range (bankCounters u)).flatMap (fun i =>
    [Reg.Cnt.VALUE_LO.key (base u + o + 16 * i), Reg.Cnt.VALUE_HI.key (base u + o + 16 * i)])

/-- `t` is `s` after the voltage loop has commanded `v` mV: the command is sent and in flight, an earlier one in flight counts as
acknowledged, and besides only the root's counters may have moved (R13, R525). -/
def Commanded (s : State) (v : Nat) (t : State) : Prop :=
  t.pace = { s.pace with vcore := v, avsOut := some s.pace.vcore, nacks := if s.pace.avsOut.isSome then 0 else s.pace.nacks } ∧
  t.out = .avsVoltage v :: s.out ∧ OtherFields (bankKeys .root) s t ∧
  { t with regs := s.regs, pace := s.pace, out := s.out } = s

/-- Port `n` has sent this block with its LINK_CRC: over the lanes in use together, or the same on every lane (R114, R137). -/
def Sent (s t : State) (n : Nat) (b : LinkBlock) : Prop :=
  t.out = (match (s.port n).txW with
    | some _ => .block n b (BitVec.ofNat 32 (linkCrc b))
    | none => .laneBlocks n [0, 1, 2, 3] b (BitVec.ofNat 32 (linkCrc b))) :: s.out

/-- The receiver of port `n` takes blocks of this stream: it is not off, frames its lanes so, and holds block lock (R118, R137, R637). -/
def Locked (s : State) (n : Nat) (lane : Option (Fin 4)) : Prop :=
  rxOff s n = false ∧ framed (s.port n) lane = true ∧ (blkLockOf (s.port n) (streamOf lane)).held = true

/-- The registers in which port `n` counts what it sees of received blocks: FEC corrections and failures, LINK_CRC failures, audit
failures, and the banks of the port and its macro (R111, R114, R132, R525). -/
def blockCountKeys (n : Nat) : List Nat :=
  [Reg.Port.CRC_ERR_CNT.key (portBase n), Reg.Port.AUDIT_FAIL_CNT.key (portBase n)] ++
  (List.range 4).flatMap (fun l => [Reg.Port.FEC_CORR.key (portBase n + Reg.Port.FEC_CORR.stride * l),
    Reg.Port.FEC_UNCORR.key (portBase n + Reg.Port.FEC_UNCORR.stride * l)]) ++
  bankKeys (portUnit n) ++ bankKeys (.fabricMacro (idx 23 (n / 4)))

/-- Port `n` is BROKEN for this reason: eight LINK_DOWN blocks are still to leave, nothing is held for replay, and routing no longer
uses it (R135, R205, R636). -/
def Broken (n reason : Nat) (t : State) : Prop :=
  portState t n = stBroken ∧ prd t n Reg.Port.PORT_STATE_DOWN_REASON = reason ∧ (t.port n).ldLeft = 8 ∧ (t.port n).replay = [] ∧
  (t.port n).resend = [] ∧ (t.port n).lcms = [] ∧ (t.port n).phase = 0 ∧ mask96 t Reg.Atlas.PORT_DEAD n = true

/-- With the lanes gained, every lane of port `n` that holds codeword lock holds block lock (R136 phase 3). -/
def AllLock (s : State) (n : Nat) (g : LockGain) : Prop :=
  rxOff s n = false ∧ 4 ≤ (s.port n).lock.length ∧ (List.range 4).all (fun i =>
    !(bitOf (prd s n Reg.Port.PORT_STATE_RX_GOOD) i) || bitOf g.lanes.toNat i || (blkLockOf (s.port n) i).held) = true

/-- `t` can follow `s`: time has not gone back, and nothing emitted has been taken back (newest stands first). -/
def Follows (s t : State) : Prop := s.now ≤ t.now ∧ s.out <:+ t.out

/-- The pool's memory in its canonical form (Machine/Memory.lean). -/
def PoolForm (s : State) : Prop := Memory.wf s.pool.mem = true

/-- The device takes a write to this word by the route: no hard trip, the route's rights, no unit reset (R36, R53, R632). -/
def Takes (s : State) (r : Route) (off : Nat) : Prop := s.boot.hardTrip = false ∧ writeRefused s r off 15 = none

/-- The operation is one of R557's table, whole. -/
def opNamed : DrsOp → Bool
  | .malformed _ | .unknown _ => false
  | .regRead .. | .regWrite .. | .regRmw .. | .poll .. | .commit .. | .atlasLoad .. | .atlasRead .. | .stream .. | .fmapi ..
  | .storeOpen .. | .storeData .. | .storeClose | .cfgSave | .storeAbort => true

/-- A whole-word write of `v` at a setup-space offset (R38). -/
def wordWrite (off : Nat) (v : BitVec 32) : BusWrite := { off := BitVec.ofNat 28 off, value := v, enables := 15 }

/-- No mirror session is enabled (R171). -/
def MirrorsOff (s : State) : Prop := ∀ m, m < 16 → mrd s Reg.Mir.EN m = 0

/-- The switch core carries packets: it is not fenced, not in reset, and no fatal stop is in force (R50, R53, R609). -/
def CoreRuns (s : State) : Prop := coreOff s = false ∧ fatalStopped s = false

end Sys2Proof.Machine
end

