-- ==== Sys2Proof/Certificates/Slice0/Obligations.lean ====
section
/-!
DEFINITION. The statements about the model, grouped by the chapters of the specification. A statement about a command gives the
conditions on the state and the operands under which it has its own effect, that effect, and what it leaves alone.
-/
open Sys2Proof Sys2Proof.Machine

/-! ### Pace guard, AVSBus loop, power limiter (spec/01_architecture.md) -/

/-- Whatever the counts, the end of an interval writes the lowest of them to PACE_NOW, moves the guard's interval counts by the floor
in force and puts the written PACE_FLOOR in force for the next interval; in LOW, the first interval below 850 MHz emits
line-rate-at-risk. Without a running core nothing happens (R10, R19). -/
def Obligations.PaceIntervalTakesLowestCount : Prop :=
  (∀ (counts : List (BitVec 16)) (s : State), s.pace.running = true →
    Ends (exec (.paceIntervalEnd counts) s) (fun t =>
      t.rd 0 Reg.Root.PACE_NOW = lowest (counts.map BitVec.toNat) ∧ OtherFields [Reg.Root.PACE_NOW.key 0] s t ∧
      t.pace = { s.pace with
        hist := (lowest (counts.map BitVec.toNat) :: s.pace.hist).take 10
        lowRun := if lowest (counts.map BitVec.toNat) < s.pace.floor then s.pace.lowRun + 1 else 0
        highRun := if s.pace.floor + 50 ≤ lowest (counts.map BitVec.toNat) then s.pace.highRun + 1 else 0
        atRisk := s.pace.atRisk ||
          (s.rd 0 Reg.Root.DEV_STATUS_PACE_LOW != 0 && decide (lowest (counts.map BitVec.toNat) < 850))
        floor := s.rd 0 Reg.Root.PACE_FLOOR } ∧
      t.out = (if s.rd 0 Reg.Root.DEV_STATUS_PACE_LOW ≠ 0 ∧ lowest (counts.map BitVec.toNat) < 850 ∧ s.pace.atRisk = false
        then .named .lineRateAtRisk :: s.out else s.out) ∧
      { t with regs := s.regs, pace := s.pace, out := s.out } = s)) ∧
  (∀ (counts : List (BitVec 16)) (s : State), s.pace.running = false → exec (.paceIntervalEnd counts) s = .next s) ∧
  (∀ l : List Nat, l ≠ [] → lowest l ∈ l ∧ ∀ x ∈ l, lowest l ≤ x)

/-- The guard enters LOW after four intervals below the floor, or with VCORE at 600 mV and the power average above 950 W, raising event
0x12; it leaves LOW after sixty-four intervals at the floor plus 50 MHz with the power average within the cap, raising event 0x13; in
every other state the two commands do nothing. PACE_FLOOR takes a value within its range, which in LOW restarts the exit count, and
keeps its value otherwise (R17, R19). -/
def Obligations.PaceGuardMovesBetweenNormalAndLow : Prop :=
  (∀ s : State, s.rd 0 Reg.Root.DEV_STATUS_PACE_LOW = 0 →
    4 ≤ s.pace.lowRun ∨ (950 * s.pace.power.length < total s.pace.power ∧ s.pace.vcore = 600) →
    exec .paceLowEnter s = .next (deviceEvent
      { s.wr 0 Reg.Root.DEV_STATUS_PACE_LOW 1 with pace := { s.pace with atRisk := false, highRun := 0 } } 0x12
      [s.rd 0 Reg.Root.PACE_NOW, 0, 0, 0])) ∧
  (∀ s : State, s.rd 0 Reg.Root.DEV_STATUS_PACE_LOW ≠ 0 ∨ (s.pace.lowRun < 4 ∧
      (s.pace.vcore ≠ 600 ∨ total s.pace.power ≤ 950 * s.pace.power.length)) → exec .paceLowEnter s = .next s) ∧
  (∀ s : State, s.rd 0 Reg.Root.DEV_STATUS_PACE_LOW ≠ 0 → 64 ≤ s.pace.highRun →
    total s.pace.power ≤ 950 * s.pace.power.length →
    exec .paceRestored s = .next (deviceEvent
      { s.wr 0 Reg.Root.DEV_STATUS_PACE_LOW 0 with pace := { s.pace with lowRun := 0 } } 0x13
      [s.rd 0 Reg.Root.PACE_NOW, 0, 0, 0])) ∧
  (∀ s : State, s.rd 0 Reg.Root.DEV_STATUS_PACE_LOW = 0 ∨ s.pace.highRun < 64 ∨
      950 * s.pace.power.length < total s.pace.power → exec .paceRestored s = .next s) ∧
  (∀ (r : Route) (v : BitVec 32) (s : State), Takes s r 0x74 → 850 ≤ v.toNat % 65536 → v.toNat % 65536 ≤ 1400 →
    Ends (exec (.paceFloorWrite r v) s) (fun t =>
      t.rd 0 Reg.Root.PACE_FLOOR = v.toNat % 65536 ∧ OtherFields [Reg.Root.PACE_FLOOR.key 0] s t ∧
      t.pace = { s.pace with highRun := if s.rd 0 Reg.Root.DEV_STATUS_PACE_LOW = 0 then s.pace.highRun else 0 } ∧
      { t with regs := s.regs, pace := s.pace } = s)) ∧
  (∀ (r : Route) (v : BitVec 32) (s : State), Takes s r 0x74 → v.toNat % 65536 < 850 ∨ 1400 < v.toNat % 65536 →
    Ends (exec (.paceFloorWrite r v) s) (fun t =>
      t.rd 0 Reg.Root.PACE_FLOOR = s.rd 0 Reg.Root.PACE_FLOOR ∧ RegsOnly s t))

/-- The rows of the loop table: above 950 W the loop lowers VCORE by 10 mV, above 930 W it holds, below a mean pace of 1,485 MHz it
raises by 5 mV, above 1,515 MHz it lowers by 5 mV, else it holds, and it holds while AVSBus is failed. What it commands it sends, and
no command lies outside 0.60 V to 0.85 V. Where the row leaves VCORE at 0.60 V above 950 W, the pace guard enters LOW (R13, R14, R17). -/
def Obligations.VoltageLoopStaysInItsRange : Prop :=
  (∀ s : State, s.pace.running = true → s.rd 0 Reg.Root.DEV_STATUS_AVS_FAILED = 0 →
    950 * s.pace.power.length < total s.pace.power → 600 < s.pace.vcore →
    610 < s.pace.vcore ∨ s.rd 0 Reg.Root.DEV_STATUS_PACE_LOW ≠ 0 →
    Ends (exec .avsLoopPeriod s) (Commanded s (Nat.max 600 (Nat.min 850 (s.pace.vcore - 10))))) ∧
  (∀ s : State, s.pace.running = true → s.rd 0 Reg.Root.DEV_STATUS_AVS_FAILED = 0 →
    950 * s.pace.power.length < total s.pace.power → 600 ≤ s.pace.vcore → s.pace.vcore ≤ 610 →
    s.rd 0 Reg.Root.DEV_STATUS_PACE_LOW = 0 →
    Ends (exec .avsLoopPeriod s) (fun t => t.pace.vcore = 600 ∧ t.rd 0 Reg.Root.DEV_STATUS_PACE_LOW = 1 ∧
      (600 < s.pace.vcore → .avsVoltage 600 ∈ t.out))) ∧
  (∀ s : State, s.pace.running = true → s.rd 0 Reg.Root.DEV_STATUS_AVS_FAILED = 0 →
    930 * s.pace.power.length < total s.pace.power → total s.pace.power ≤ 950 * s.pace.power.length →
    exec .avsLoopPeriod s = .next s) ∧
  (∀ s : State, s.pace.running = true → s.rd 0 Reg.Root.DEV_STATUS_AVS_FAILED = 0 →
    total s.pace.power ≤ 930 * s.pace.power.length → total s.pace.hist < 1485 * s.pace.hist.length → s.pace.vcore < 850 →
    Ends (exec .avsLoopPeriod s) (Commanded s (Nat.max 600 (Nat.min 850 (s.pace.vcore + 5))))) ∧
  (∀ s : State, s.pace.running = true → s.rd 0 Reg.Root.DEV_STATUS_AVS_FAILED = 0 →
    total s.pace.power ≤ 930 * s.pace.power.length → 1515 * s.pace.hist.length < total s.pace.hist → 600 < s.pace.vcore →
    Ends (exec .avsLoopPeriod s) (Commanded s (Nat.max 600 (Nat.min 850 (s.pace.vcore - 5))))) ∧
  (∀ s : State, s.pace.running = true → s.rd 0 Reg.Root.DEV_STATUS_AVS_FAILED = 0 →
    total s.pace.power ≤ 930 * s.pace.power.length → 1485 * s.pace.hist.length ≤ total s.pace.hist ∨ 850 ≤ s.pace.vcore →
    total s.pace.hist ≤ 1515 * s.pace.hist.length ∨ s.pace.vcore ≤ 600 → exec .avsLoopPeriod s = .next s) ∧
  (∀ s : State, s.rd 0 Reg.Root.DEV_STATUS_AVS_FAILED ≠ 0 → total s.pace.power ≤ 950 * s.pace.power.length →
    exec .avsLoopPeriod s = .next s) ∧
  (∀ (s t : State) (v : Nat), exec .avsLoopPeriod s = .next t → .avsVoltage v ∈ t.out →
    .avsVoltage v ∈ s.out ∨ (600 ≤ v ∧ v ≤ 850))

/-- The power average, with the regulator's reading or, while AVSBus is failed or no reading came, the last one scaled by the pace;
AVSBus transactions that fail: the third in a row marks AVSBus failed and raises the AVS-fault event, one status read goes out while it
is failed, and its acknowledgement clears the mark (R15, R16, R18; that the scaled reading is rounded down, and stands unscaled where
the pace of the last reading was 0, is the model's choice: notes/assumptions/74.md). -/
def Obligations.PowerEstimateAndAvsBusFailure : Prop :=
  (∀ (x : RailReading) (w : BitVec 16) (s : State), s.pace.running = true → s.rd 0 Reg.Root.DEV_STATUS_AVS_FAILED = 0 →
    s.pace.vcore ≠ 600 ∨ s.rd 0 Reg.Root.DEV_STATUS_PACE_LOW ≠ 0 →
    Ends (exec (.powerEstimate (some x) w) s) (fun t =>
      t.pace = { s.pace with
        power := ((x.watts.toNat + w.toNat) :: s.pace.power).take 10, railW := x.watts.toNat, railPace := s.rd 0 Reg.Root.PACE_NOW
        avsOut := none, nacks := 0 } ∧
      t.rd 0 Reg.Hk.VCORE_MV = x.mv.toNat ∧
      t.rd 0 Reg.Hk.PKG_POWER_W = total t.pace.power / t.pace.power.length % 65536 ∧
      OtherFields [Reg.Hk.VCORE_MV.key 0, Reg.Hk.PKG_POWER_W.key 0] s t ∧
      { t with regs := s.regs, pace := s.pace } = s)) ∧
  (∀ (x : Option RailReading) (w : BitVec 16) (s : State), s.pace.running = true →
    s.rd 0 Reg.Root.DEV_STATUS_AVS_FAILED ≠ 0 ∨ x = none → s.pace.vcore ≠ 600 ∨ s.rd 0 Reg.Root.DEV_STATUS_PACE_LOW ≠ 0 →
    Ends (exec (.powerEstimate x w) s) (fun t =>
      t.pace = { s.pace with power := (((if s.pace.railPace = 0 then s.pace.railW
          else s.pace.railW * s.rd 0 Reg.Root.PACE_NOW / s.pace.railPace) + w.toNat) :: s.pace.power).take 10 } ∧
      t.rd 0 Reg.Hk.PKG_POWER_W = total t.pace.power / t.pace.power.length % 65536 ∧
      OtherFields [Reg.Hk.PKG_POWER_W.key 0] s t ∧ { t with regs := s.regs, pace := s.pace } = s)) ∧
  (∀ (x : RailReading) (w : BitVec 16) (s : State), s.pace.running = true → s.rd 0 Reg.Root.DEV_STATUS_AVS_FAILED = 0 →
    s.pace.vcore = 600 → s.rd 0 Reg.Root.DEV_STATUS_PACE_LOW = 0 →
    950 * (((x.watts.toNat + w.toNat) :: s.pace.power).take 10).length <
      total (((x.watts.toNat + w.toNat) :: s.pace.power).take 10) →
    Ends (exec (.powerEstimate (some x) w) s) (fun t =>
      t.pace.power = ((x.watts.toNat + w.toNat) :: s.pace.power).take 10 ∧ t.rd 0 Reg.Root.DEV_STATUS_PACE_LOW = 1)) ∧
  (∀ s : State, s.rd 0 Reg.Root.DEV_STATUS_AVS_FAILED = 0 → s.pace.nacks < 2 →
    exec .avsTxnNack s = .next { s with pace := { s.pace with
      vcore := s.pace.avsOut.getD s.pace.vcore, avsOut := none, nacks := s.pace.nacks + 1 } }) ∧
  (∀ s : State, s.rd 0 Reg.Root.DEV_STATUS_AVS_FAILED = 0 → 2 ≤ s.pace.nacks →
    Ends (exec .avsTxnNack s) (fun t =>
      t.rd 0 Reg.Root.DEV_STATUS_AVS_FAILED = 1 ∧ t.rd 0 Reg.Hk.VCORE_MV = 0 ∧ t.out = .named .avsFault :: s.out ∧
      t.pace = { s.pace with vcore := s.pace.avsOut.getD s.pace.vcore, avsOut := none, nacks := s.pace.nacks + 1 } ∧
      OtherFields [Reg.Root.DEV_STATUS_AVS_FAILED.key 0, Reg.Hk.VCORE_MV.key 0] s t ∧
      { t with regs := s.regs, pace := s.pace, out := s.out } = s)) ∧
  (∀ s : State, s.rd 0 Reg.Root.DEV_STATUS_AVS_FAILED ≠ 0 → exec .avsStatusRead s = .next (s.emit .avsStatusRead)) ∧
  (∀ (mv : BitVec 16) (s : State), s.rd 0 Reg.Root.DEV_STATUS_AVS_FAILED ≠ 0 →
    Ends (exec (.avsStatusAck mv) s) (fun t =>
      t.rd 0 Reg.Root.DEV_STATUS_AVS_FAILED = 0 ∧ t.rd 0 Reg.Hk.VCORE_MV = mv.toNat ∧ t.pace = { s.pace with nacks := 0 } ∧
      OtherFields [Reg.Root.DEV_STATUS_AVS_FAILED.key 0, Reg.Hk.VCORE_MV.key 0] s t ∧
      { t with regs := s.regs, pace := s.pace } = s)) ∧
  (∀ (mv : BitVec 16) (s : State), s.rd 0 Reg.Root.DEV_STATUS_AVS_FAILED = 0 →
    exec .avsStatusRead s = .next s ∧ exec (.avsStatusAck mv) s = .next s)

/-! ### Setup space (spec/02_setup_space.md) -/

/-- A register write takes effect at once in an RW field within its range, is a configuration error outside it, and stores a queue
register when the function is ready; an 8-byte write is served as two, or recorded once (R5, R38, R59, R309). -/
def Obligations.RegisterWritesReachTheirFields : Prop :=
  (∀ (r : Route) (v : BitVec 32) (s : State), Takes s r 0x110 → clockRuns s .root = true → v.toNat % 4 ≠ 0 →
    Ends (exec (.registerWrite (.setup r (wordWrite 0x110 v))) s) (fun t =>
      t.rd 0 Reg.Err.ERR_EVT_MIN_SEV = v.toNat % 4 ∧ OnlyFields [Reg.Err.ERR_EVT_MIN_SEV.key 0] s t)) ∧
  (∀ (r : Route) (v : BitVec 32) (s : State), Takes s r 0x110 → clockRuns s .root = true → v.toNat % 4 = 0 →
    exec (.registerWrite (.setup r (wordWrite 0x110 v))) s = .next (configError s .root)) ∧
  (∀ (f : Fin 1024) (v : BitVec 32) (s : State), fatalStopped s = false → s.boot.hardTrip = false → fnReady s f.val = true →
    exec (.registerWrite (.queue f 0x24 v 15)) s = .next (s.wr (bar2 f.val) Reg.Bar2.CMD_ARG v.toNat)) ∧
  (∀ (r : Route) (off : BitVec 28) (v : BitVec 64) (s : State), s.boot.hardTrip = false → routeServed s r = true → off.toNat % 8 = 0 →
    exec (.registerWrite (.wide r off v 255)) s = .next (busWrite (busWrite s r (wordWrite off.toNat (v.setWidth 32))) r
      (wordWrite (off.toNat + 4) ((v >>> 32).setWidth 32)))) ∧
  (∀ (r : Route) (off : BitVec 28) (v : BitVec 64) (e : BitVec 8) (s : State), s.boot.hardTrip = false → routeServed s r = true →
    off.toNat % 8 ≠ 0 ∨ e ≠ 255 →
    exec (.registerWrite (.wide r off v e)) s = .next (accViol s r .misaligned off.toNat)) ∧
  (∀ (r : Route) (off : BitVec 28) (v : BitVec 64) (e : BitVec 8) (s : State), s.boot.hardTrip = false → routeServed s r = false →
    exec (.registerWrite (.wide r off v e)) s = .next (accViol s r .denied off.toNat))

/-- A write that the device turns away changes nothing but the violation record and the counter of violations; the record keeps the
first violation, a later one sets only OVERFLOW, and reading ACC_VIOL clears it for the next (R36, R53, R79). -/
def Obligations.DeniedWritesOnlyRecordAViolation : Prop :=
  (∀ (r : Route) (w : BusWrite) (x : Viol) (s : State), s.boot.hardTrip = false →
    writeRefused s r w.off.toNat w.enables.toNat = some x →
    exec (.registerWrite (.setup r w)) s = .next (accViol s r x w.off.toNat) ∧ RegsOnly s (accViol s r x w.off.toNat)) ∧
  (∀ (r : Route) (x : Viol) (off : Nat) (s : State), off < 2 ^ 28 → s.rd 0 Reg.Root.ACC_VIOL_VALID = 0 →
    (accViol s r x off).rd 0 Reg.Root.ACC_VIOL_VALID = 1 ∧ (accViol s r x off).rd 0 Reg.Root.ACC_VIOL_ROUTE = routeCode r ∧
    (accViol s r x off).rd 0 Reg.Root.ACC_VIOL_REASON = x.code ∧ (accViol s r x off).rd 0 Reg.Root.ACC_VIOL_ATTACH = routeAttach r ∧
    (accViol s r x off).rd 0 Reg.Root.ACC_VIOL_ADDR = off ∧
    (accViol s r x off).rd 0 Reg.Root.ACC_VIOL_OVERFLOW = s.rd 0 Reg.Root.ACC_VIOL_OVERFLOW) ∧
  (∀ (r : Route) (x : Viol) (off : Nat) (s : State), s.rd 0 Reg.Root.ACC_VIOL_VALID ≠ 0 →
    (accViol s r x off).rd 0 Reg.Root.ACC_VIOL_OVERFLOW = 1 ∧
    (∀ f ∈ [Reg.Root.ACC_VIOL_VALID, Reg.Root.ACC_VIOL_ROUTE, Reg.Root.ACC_VIOL_REASON, Reg.Root.ACC_VIOL_ATTACH,
      Reg.Root.ACC_VIOL_ADDR], (accViol s r x off).rd 0 f = s.rd 0 f)) ∧
  (∀ (r : Route) (s : State), readReaches s r .root 0x90 = true →
    Ends (exec (.rcFieldRead (.setup r 0x90) 3) s) (fun t =>
      t.rd 0 Reg.Root.ACC_VIOL_VALID = 0 ∧ t.rd 0 Reg.Root.ACC_VIOL_OVERFLOW = 0))

/-- Reading a word with RC fields returns it and clears those fields in the same access; a read of 8 bytes is two reads; a BAR0 read
without the grant returns 0 and touches nothing; a read of a queue BAR returns the word as it reads. A 64-bit register is written and
read in two halves through latches of the route (R38, R60, R75, R76, R309; that the read latch is bound to its register's address and is
used up by one high read is the model's choice: notes/assumptions/13.md). -/
def Obligations.RcFieldsAndLongRegistersReadInTheirWay : Prop :=
  (∀ (r : Route) (off : BitVec 28) (s : State), off.toNat % 4 = 0 →
    readReaches s r (unitAt off.toNat) (off.toNat - base (unitAt off.toNat)) = true →
    isReg64 (unitAt off.toNat) (off.toNat - base (unitAt off.toNat)) = false →
    (4 ≤ off.toNat - base (unitAt off.toNat) → isReg64 (unitAt off.toNat) (off.toNat - base (unitAt off.toNat) - 4) = false) →
    Ends (exec (.rcFieldRead (.setup r off) 3) s) (fun t =>
      t.out = .readData r off.toNat (BitVec.ofNat 32 (readWord s off.toNat)) :: s.out ∧
      (∀ f ∈ fieldsAt (unitAt off.toNat) (off.toNat - base (unitAt off.toNat)), f.acc = .rc →
        look t.regs (keyAt (unitAt off.toNat) (off.toNat - base (unitAt off.toNat)) f) = some 0) ∧
      OtherFields (((fieldsAt (unitAt off.toNat) (off.toNat - base (unitAt off.toNat))).filter (fun f => f.acc == .rc)).map
        (keyAt (unitAt off.toNat) (off.toNat - base (unitAt off.toNat)))) s t ∧
      { t with regs := s.regs, out := s.out } = s)) ∧
  (∀ (r : Route) (off : BitVec 28) (s : State), off.toNat % 8 = 0 →
    exec (.rcFieldRead (.setup r off) 7) s = .next (readOne (readOne s r off.toNat) r (off.toNat + 4))) ∧
  (∀ (r : Route) (off : BitVec 28) (s : State), off.toNat % 4 = 0 → routeServed s r = false →
    exec (.rcFieldRead (.setup r off) 3) s = .next (answerRead s r off.toNat 0) ∧
    exec (.reg64LowRead r off) s = .next (answerRead s r off.toNat 0) ∧
    exec (.reg64HighRead r off) s = .next (answerRead s r off.toNat 0)) ∧
  (∀ (f : Fin 1024) (off : BitVec 18) (s : State), off.toNat % 4 = 0 →
    exec (.rcFieldRead (.queue f off) 3) s =
      .next (s.emit (.queueData f.val off.toNat (BitVec.ofNat 32 (queueWord s f.val off.toNat))))) ∧
  (∀ (r : Route) (v : BitVec 32) (s : State), Takes s r 0x58 → clockRuns s .root = true →
    exec (.reg64LowWrite r (wordWrite 0x58 v)) s = .next
      { s with setup := { s.setup with wlatch := put s.setup.wlatch (routeIdx r) (0x5C * 2 ^ 32 + v.toNat) } }) ∧
  (∀ (r : Route) (v low : BitVec 32) (s : State), Takes s r 0x5C → clockRuns s .root = true →
    look s.setup.wlatch (routeIdx r) = some (0x5C * 2 ^ 32 + low.toNat) →
    Ends (exec (.reg64HighWrite r (wordWrite 0x5C v)) s) (fun t =>
      t.rd64 0 Reg.Root.PRIV_ATTACH_LO Reg.Root.PRIV_ATTACH_HI = low.toNat + 2 ^ 32 * v.toNat ∧
      OtherFields [Reg.Root.PRIV_ATTACH_LO.key 0, Reg.Root.PRIV_ATTACH_HI.key 0] s t ∧
      t.setup = { s.setup with wlatch := del s.setup.wlatch (routeIdx r) } ∧ { t with regs := s.regs, setup := s.setup } = s)) ∧
  (∀ (r : Route) (off : BitVec 28) (s : State), off.toNat % 4 = 0 → routeServed s r = true →
    isReg64 (unitAt off.toNat) (off.toNat - base (unitAt off.toNat)) = true →
    Ends (exec (.reg64LowRead r off) s) (fun t =>
      t.out = .readData r off.toNat (BitVec.ofNat 32 (readWord s off.toNat)) :: s.out ∧
      look t.setup.rlatch (routeIdx r) = some ((off.toNat + 4) * 2 ^ 32 + readWord s (off.toNat + 4)) ∧
      t.setup = { s.setup with rlatch := t.setup.rlatch } ∧ { t with setup := s.setup, out := s.out } = s)) ∧
  (∀ (r : Route) (off : BitVec 28) (high : Nat) (s : State), off.toNat % 4 = 0 → routeServed s r = true →
    4 ≤ off.toNat - base (unitAt off.toNat) → isReg64 (unitAt off.toNat) (off.toNat - base (unitAt off.toNat) - 4) = true →
    high < 2 ^ 32 → look s.setup.rlatch (routeIdx r) = some (off.toNat * 2 ^ 32 + high) →
    Ends (exec (.reg64HighRead r off) s) (fun t =>
      t.out = .readData r off.toNat (BitVec.ofNat 32 high) :: s.out ∧
      t.setup = { s.setup with rlatch := del s.setup.rlatch (routeIdx r) } ∧ { t with setup := s.setup, out := s.out } = s)) ∧
  (∀ (r : Route) (off : BitVec 28) (s : State), off.toNat % 4 = 0 → routeServed s r = true →
    4 ≤ off.toNat - base (unitAt off.toNat) → isReg64 (unitAt off.toNat) (off.toNat - base (unitAt off.toNat) - 4) = true →
    (look s.setup.rlatch (routeIdx r)).map (· / 2 ^ 32) ≠ some off.toNat →
    exec (.reg64HighRead r off) s = .next (answerRead s r off.toNat (readWord s off.toNat)))

/-- ST fields are staged and leave the active copy alone; an FP write waits in its island, sets WIN_BUSY there, and is applied or
given up (R62, R69, R70, R71). -/
def Obligations.StagedAndFarPostedWritesWait : Prop :=
  (∀ (r : Route) (v : BitVec 32) (h : Fin 16) (s : State), Takes s r (base (.hostMacro h) + 0x40) → clockRuns s (.hostMacro h) = true →
    bitOf (s.rd 0 Reg.Root.CMT_STATUS) (groupOf s (.hostMacro h)) = false → v.toNat % 4 ≤ 2 →
    Ends (exec (.stFieldWrite r (wordWrite (base (.hostMacro h) + 0x40) v)) s) (fun t =>
      look t.setup.staged (Reg.Mac.MAC_CFG_BIFURC.key (base (.hostMacro h))) = some (v.toNat % 4) ∧
      t.rd (base (.hostMacro h)) Reg.Mac.MAC_CFG_BIFURC = s.rd (base (.hostMacro h)) Reg.Mac.MAC_CFG_BIFURC ∧
      OtherFields [Reg.Root.CMT_PENDING.key 0] s t ∧ { t with regs := s.regs, setup := s.setup } = s)) ∧
  (∀ (r : Route) (v : BitVec 32) (s : State), Takes s r 0x188 → clockRuns s .root = true → winBusy s 59 = false →
    exec (.fpFieldWrite r (wordWrite 0x188 v)) s = .next
      { setWinBusy s 59 true with setup := { s.setup with
          fp := put s.setup.fp 59 [(Reg.Hk.THERM_WARN_C.key 0, v.toNat % 256), (Reg.Hk.THERM_TRIP_C.key 0, v.toNat / 256 % 256)]
          fpAt := put s.setup.fpAt 59 0x188, fpBy := put s.setup.fpBy 59 r } }) ∧
  (∀ (warn trip : Nat) (s : State), winBusy s 59 = true → 59 ∉ s.boot.stopped → look s.setup.fpAt 59 = some 0x188 →
    look s.setup.fp 59 = some [(Reg.Hk.THERM_WARN_C.key 0, warn), (Reg.Hk.THERM_TRIP_C.key 0, trip)] →
    85 ≤ warn → warn ≤ 110 → 100 ≤ trip → trip ≤ 115 → warn + 5 ≤ trip →
    exec (.fpWriteApplied 59) s = .next { dropFp s 59 with
      regs := put (put (dropFp s 59).regs (Reg.Hk.THERM_WARN_C.key 0) warn) (Reg.Hk.THERM_TRIP_C.key 0) trip }) ∧
  (∀ (i : Fin 60) (s : State), winBusy s i.val = true →
    exec (.fpWriteAbandon i) s = .next (accViol (dropFp s i.val) (lookD s.setup.fpBy i.val .mp) .fpAbandoned
      (lookD s.setup.fpAt i.val 0)))

/-- Commit groups: a strobe marks the units that hold staged values, each unit applies them at its own boundary, a discard drops
them, and a unit's group may change while nothing is staged (R56, R63, R64, R68). -/
def Obligations.CommitGroupsApplyOrDiscardStagedValues : Prop :=
  (∀ (r : Route) (g : Fin 32) (s : State), Takes s r 0x60 → bitOf (s.rd 0 Reg.Root.CMT_STATUS) g.val = false →
    unitsStaged s g.val ≠ [] →
    Ends (exec (.cmtStrobe r (BitVec.ofNat 32 (2 ^ g.val))) s) (fun t =>
      t.rd 0 Reg.Root.CMT_STATUS = setBit (s.rd 0 Reg.Root.CMT_STATUS) g.val % 2 ^ 32 ∧
      t.rd 0 Reg.Root.CMT_PENDING = clrBit (s.rd 0 Reg.Root.CMT_PENDING) g.val % 2 ^ 32 ∧
      (∀ u ∈ unitsStaged s g.val, u ∈ t.setup.toApply) ∧ t.setup.staged = s.setup.staged ∧
      OtherFields [Reg.Root.CMT_STATUS.key 0, Reg.Root.CMT_PENDING.key 0] s t ∧
      { t with regs := s.regs, setup := s.setup } = s)) ∧
  (∀ (r : Route) (g : Fin 32) (s : State), Takes s r 0x6C → bitOf (s.rd 0 Reg.Root.CMT_STATUS) g.val = false →
    Ends (exec (.cmtDiscard r (BitVec.ofNat 32 (2 ^ g.val))) s) (fun t =>
      t.setup.staged = dropKeys s.setup.staged (fun k => groupOf s (unitAt (k / 32)) == g.val) ∧
      t.rd 0 Reg.Root.CMT_PENDING = clrBit (s.rd 0 Reg.Root.CMT_PENDING) g.val % 2 ^ 32 ∧
      OtherFields [Reg.Root.CMT_PENDING.key 0] s t ∧ { t with regs := s.regs, setup := s.setup } = s)) ∧
  (∀ (s : State), .switchCore ∈ s.setup.toApply → clockRuns s .switchCore = true →
    exec (.commitApply .switchCore) s = .next (finishGroup { s with
      regs := (stagedOf s .switchCore).foldl (fun (m : AMap Nat) kv => put m kv.1 kv.2) s.regs
      setup := { s.setup with
        staged := dropKeys s.setup.staged ((stagedOf s .switchCore).map Prod.fst).contains
        toApply := s.setup.toApply.filter (· != .switchCore)
        applied := addOnce s.setup.applied .switchCore } } (groupOf s .switchCore))) ∧
  (∀ s : State, .switchCore ∈ s.setup.toApply → clockRuns s .switchCore = true →
    (∀ u ∈ s.setup.toApply, u ≠ .switchCore → groupOf s u ≠ groupOf s .switchCore) →
    Ends (exec (.commitApply .switchCore) s) (fun t => bitOf (t.rd 0 Reg.Root.CMT_STATUS) (groupOf s .switchCore) = false)) ∧
  (∀ (r : Route) (u : UnitId) (g : Fin 32) (s : State), Takes s r (base u + 0x1C) → commitPending s u = false →
    (∀ v ∈ subtree u, bitOf (s.rd 0 Reg.Root.CMT_STATUS) (groupOf s v) = false) → groupOf s u ≠ g.val →
    Ends (exec (.cmtGroupWrite r u g) s) (fun t =>
      (∀ v ∈ subtree u, groupOf t v = g.val) ∧ { t with setup := s.setup } = s ∧
      { t.setup with groups := s.setup.groups } = s.setup))

/-- A fence of a unit, whatever it is and holds, marks it and every unit of its subtree fenced and lifts no other mark; while the unit is in
reset it only waits for the reset's end. A unit reset clears FENCED and sets IN_RESET over the subtree; its end clears IN_RESET where no
other reset covers the unit, and begins the fences that waited. The root takes neither (R50 to R55; that a fence of a compound unit acts
at once while only a unit below it is in reset is the model's choice: notes/assumptions/83.md). -/
def Obligations.FencesAndUnitResetsCoverTheSubtree : Prop :=
  (∀ (r : Route) (u : UnitId) (s : State), Takes s r (base u + 0x1C) → u ≠ .root → inReset s u = false →
    Ends (exec (.fence r u) s) (fun t =>
      (∀ v ∈ subtree u, isFenced t v = true) ∧ (∀ v, isFenced s v = true → isFenced t v = true) ∧
      t.setup.inReset = s.setup.inReset ∧ t.setup.resetAt = s.setup.resetAt ∧ t.pending = s.pending ∧ t.now = s.now)) ∧
  (∀ (r : Route) (u : UnitId) (s : State), Takes s r (base u + 0x1C) → inReset s u = false →
    u ∈ [UnitId.atlas, UnitId.meterBank, UnitId.injShaper] →
    exec (.fence r u) s = .next { s with setup := { s.setup with fenced := addOnce s.setup.fenced u } }) ∧
  (∀ (r : Route) (u : UnitId) (s : State), Takes s r (base u + 0x1C) → u ≠ .root → inReset s u = true →
    exec (.fence r u) s = .next { s with setup := { s.setup with fencePend := addOnce s.setup.fencePend u } }) ∧
  (∀ (r : Route) (s : State), Takes s r 0x1C → exec (.fence r .root) s = .next (accViol s r .rootFence 0x1C)) ∧
  (∀ (r : Route) (also : Bool) (s : State), Takes s r 0x1C →
    exec (.unitReset r .root also) s = .next (accViol s r .rootFence 0x1C)) ∧
  (∀ (r : Route) (u : UnitId) (also : Bool) (s : State), Takes s r (base u + 0x1C) → u ≠ .root →
    Ends (exec (.unitReset r u also) s) (fun t =>
      (∀ v ∈ subtree u, inReset t v = true ∧ isFenced t v = false) ∧ look t.setup.resetAt (base u) = some s.now ∧
      (∀ v, inReset s v = true → inReset t v = true) ∧ (∀ v, isFenced s v = true → v ∉ subtree u → isFenced t v = true) ∧
      t.pending = s.pending ∧ t.now = s.now)) ∧
  (∀ (u : UnitId) (s : State), look s.setup.resetAt (base u) ≠ none →
    Ends (exec (.unitResetDone u) s) (fun t =>
      look t.setup.resetAt (base u) = none ∧ (∀ v, inReset t v = true → inReset s v = true) ∧
      (∀ v, inSubtree v u = true → (∀ x ∈ v :: ancestors v, x ≠ u → look s.setup.resetAt (base x) = none) →
        inReset t v = false ∧ (v ∈ s.setup.fencePend → isFenced t v = true)) ∧
      (∀ v, isFenced s v = true → isFenced t v = true) ∧ t.pending = s.pending ∧ t.now = s.now)) ∧
  (∀ (u : UnitId) (s : State), look s.setup.resetAt (base u) = none → exec (.unitResetDone u) s = .next s) ∧
  (∀ (u : UnitId) (s : State), look s.setup.resetAt (base u) ≠ none → s.setup.fencePend = [] → s.boot.started = false →
    Ends (exec (.unitResetDone u) s) (fun t =>
      OtherFields [Reg.Mp.MP_STATE.key mpBase, Reg.Coh.AGENT_DEAD_0.key poolBase, Reg.Coh.AGENT_DEAD_1.key poolBase,
        Reg.Coh.AGENT_DEAD_2.key poolBase] s t ∧ { t with regs := s.regs, setup := s.setup } = s))

/-- Cold and warm resets put back what R590 says, keep the commands that wait and, at a warm reset, the ports that still send their
LINK_DOWN blocks (R636); a warm reset asked for while the device starts up does nothing; and DEV_CONTROL.POOL_STALE_CLR clears its bit (R80,
R589 to R591). -/
def Obligations.DeviceResetsLeaveResetState : Prop :=
  (∀ (r : Route) (s : State), Takes s r 0x54 →
    Ends (exec (.coldReset r) s) (fun t =>
      t.boot.kind = some .cold ∧ t.setup = State.reset.setup ∧ t.pool = State.reset.pool ∧ t.ports = [] ∧
      t.mesh = State.reset.mesh ∧ t.xl = State.reset.xl ∧ t.tp = State.reset.tp ∧
      (∀ k, k / 32 ≠ 0x184 → k / 32 ≠ 0x19C → k ≠ Reg.Flk.SVN_MIN_SVN.key (base .flask) → look t.regs k = none) ∧
      t.pending = s.pending ∧ t.now = s.now ∧ { t.flask with store := none, meas := [], image := [] } =
        { s.flask with store := none, meas := [], image := [] })) ∧
  (∀ (r : Route) (s : State), Takes s r 0x54 → s.boot.kind = none →
    Ends (exec (.warmReset r) s) (fun t =>
      t.boot.kind = some .warm ∧ t.setup = State.reset.setup ∧
      (∀ x ∈ t.ports, 0 < x.2.ldLeft ∧ x.2.ldThen = .reset) ∧ t.xl = State.reset.xl ∧
      t.tp = State.reset.tp ∧ t.fns = [] ∧ t.doms = [] ∧ t.pending = s.pending ∧ t.now = s.now ∧
      { t.flask with store := none, meas := [], image := [] } = { s.flask with store := none, meas := [], image := [] })) ∧
  (∀ (r : Route) (s : State), Takes s r 0x54 → s.boot.kind ≠ none → exec (.warmReset r) s = .next s) ∧
  (∀ (r : Route) (s : State), Takes s r 0x54 →
    exec (.poolStaleClr r) s = .next (s.wr 0 Reg.Root.DEV_STATUS_POOL_STALE 0))

/-! ### Switch core (spec/05_switch_core.md) -/

/-- A packet that the management side injects for this device's endpoint 66 waits for core port 126; the grant there begins it; its
tail delivers it whole to the unit behind the port (R31, R151, R154, R157). -/
def Obligations.InjectedPacketIsDelivered : Prop :=
  (∀ (p : Fin 128) (vc : Fin 16) (u : Option AtlasUpset) (q : Packet) (s : State), CoreRuns s → MirrorsOff s → 96 ≤ p.val →
    look s.switch.cur (inKey p.val vc.val) = none → isFenced s (.tileCluster (idx 15 (p.val / 8))) = false →
    look s.switch.inj p.val = some [q] → q.cls = vc.val → q.cls = clsFmgt → q.rtLen = 0 → q.rh.mc = false →
    q.rh.dst.toNat = deviceId s * 256 + 66 → tileLost s p.val 126 = false →
    (Packet.ofFlits q.rh q.allFlits).rtLen = 0 →
    Ends (exec (.packetHeadArrive p { vc := vc, upset := u }) s) (fun t =>
      (∃ c, look t.switch.cur (inKey p.val vc.val) = some c ∧ c.phase = .waiting ∧ c.out = 126 ∧ c.flits = q.allFlits) ∧
      lookD t.switch.inj p.val [] = [] ∧ { t with switch := s.switch } = strikeAtlas s u)) ∧
  (∀ (k : Nat) (c : SwPkt) (s : State), CoreRuns s → MirrorsOff s → look s.switch.cur k = some c → c.phase = .waiting → c.out = 126 →
    c.outVc = clsFmgt → c.rh.vclass.toNat = clsFmgt → waitingAt s 126 = [k] → outBusy s 126 clsFmgt = false →
    unitAccepts s 126 = true → c.whole = true → c.checked = false → 16 * 96 ≤ k → k < 2048 →
    Ends (exec (.egressGrant 126) s) (fun t =>
      (∃ d, look t.switch.cur k = some d ∧ d.phase = .granted) ∧ (look t.switch.asm (inKey 126 clsFmgt)).isSome ∧
      { t with regs := s.regs, switch := s.switch } = s)) ∧
  (∀ (p : Fin 128) (vc : Fin 16) (c : SwPkt) (a : AsmPkt) (s : State), 96 ≤ p.val →
    look s.switch.cur (inKey p.val vc.val) = some c → c.whole = true → c.checked = true → c.phase = .granted → c.salvaged = false →
    96 ≤ c.out → writtenBy s (inKey p.val vc.val) = [] → look s.switch.asm (inKey c.out c.outVc) = some a → a.att = none →
    exec (.packetTailArrive p vc) s = .next { s with switch := { s.switch with
      cur := del s.switch.cur (inKey p.val vc.val)
      asm := del s.switch.asm (inKey c.out c.outVc)
      inbox := put s.switch.inbox c.out
        (lookD s.switch.inbox c.out [] ++ [Packet.ofFlits a.rh (addFlits a.rh a.flits (c.flits.drop c.left))]) } })

/-- The idle tick moves the average of every queue that saw no arrival by its weight and leaves the others; buffer errors are counted,
shown and recorded by their severity, and a pool packet that has not begun to leave, or a packet waiting in an input buffer, is
discarded (R162, R175). -/
def Obligations.RedAveragesAndBufferErrors : Prop :=
  (∀ s : State, Ends (exec .redAvgIdleTick s) (fun t =>
    (∀ q, q < 384 → q ∉ s.switch.redSeen →
      lookD t.switch.avg q 0 = redStep (lookD s.switch.avg q 0) (64 * depthOf s q) (qrd s Reg.Q.RED_W q)) ∧
    (∀ q, q ∈ s.switch.redSeen → look t.switch.avg q = look s.switch.avg q) ∧ t.switch.redSeen = [] ∧
    t.switch.pool = s.switch.pool ∧ { t with regs := s.regs, switch := s.switch } = s)) ∧
  (∀ (w : EccPlace) (s : State),
    exec (.bufferEccError w true) s =
      .next (recordError ((s.bump swBase Reg.Sw.ECC_CORR_CNT).setEvt swBase Reg.Sw.SW_EVENT 3) (eccRec w true))) ∧
  (∀ (q : Fin 384) (i : Nat) (x : PoolPkt) (s : State), (queue s q.val)[i]? = some x → x.begun = false →
    Ends (exec (.bufferEccError (.pool q i) false) s) (fun t =>
      queue t q.val = (queue s q.val).erase x ∧
      { t with regs := s.regs, switch := s.switch, err := s.err, events := s.events, out := s.out, fns := s.fns, free := s.free } = s)) ∧
  (∀ (p : Fin 96) (vc : Fin 16) (c : SwPkt) (s : State), look s.switch.cur (inKey p.val vc.val) = some c → c.whole = true →
    c.phase = .waiting → writtenBy s (inKey p.val vc.val) = [] →
    Ends (exec (.bufferEccError (.rxBuffer p vc) false) s) (fun t =>
      look t.switch.cur (inKey p.val vc.val) = none ∧ t.switch.pool = s.switch.pool ∧ t.switch.asm = s.switch.asm ∧
      t.switch.inbox = s.switch.inbox))

/-- The switch core's registers: clear actions set the high-water mark to the occupancy and the counters to 0; multicast entries are
written through a latch of the route, whose word 7 applies them with VALID; INJ_EPOCH sets the injection version, and raises
ROUTING_READY or ROUTING_NOT_READY when that changes whether the device may originate (R177, R180, R181, R209, R303). -/
def Obligations.SwitchRegistersTakeTheirWrites : Prop :=
  (∀ (r : Route) (s : State), Takes s r (swBase + 0x50) →
    exec (.poolHwmClr r) s = .next (s.wr swBase Reg.Sw.POOL_HWM (s.rd swBase Reg.Sw.POOL_USED))) ∧
  (∀ (r : Route) (s : State), Takes s r (swBase + 0x50) →
    Ends (exec (.switchCntClr r) s) (fun t =>
      t.rd swBase Reg.Sw.MC_MISS_CNT = 0 ∧ t.rd swBase Reg.Sw.MC_COPY_DROP_CNT = 0 ∧ t.rd swBase Reg.Sw.ECC_CORR_CNT = 0 ∧
      t.rd swBase Reg.Sw.ECC_UNCORR_CNT = 0 ∧ (∀ m, m < 16 → mrd t Reg.Mir.COPIES m = 0 ∧ mrd t Reg.Mir.COPY_DROPS m = 0) ∧
      (∀ o, o < 128 → t.rdi swBase Reg.Sw.CE_MARK_CNT o = 0) ∧
      (∀ q, q < 384 → qrd t Reg.Q.TAIL_DROP q = 0 ∧ qrd t Reg.Q.RED_DROP q = 0 ∧ qrd t Reg.Q.PUSHED_OUT q = 0 ∧
        qrd t Reg.Q.PORT_DROP q = 0 ∧ qrd t Reg.Q.MARKED q = 0) ∧
      t.rd swBase Reg.Sw.POOL_USED = s.rd swBase Reg.Sw.POOL_USED ∧ RegsOnly s t)) ∧
  (∀ (r : Route) (g : Fin 65536) (w : Fin 7) (v : BitVec 32) (s : State), Takes s r (swBase + 0x800000 + 32 * g.val + 4 * w.val) →
    Ends (exec (.mcEntryWordWrite r g w v) s) (fun t =>
      (∃ m, look t.switch.mcLatch (routeIdx r) = some (g.val, m) ∧ look m w.val = some v.toNat) ∧ t.regs = s.regs ∧
      { t with switch := s.switch } = s)) ∧
  (∀ (r : Route) (g : Fin 65536) (x : Nat) (v : BitVec 32) (s : State), Takes s r (swBase + 0x80001C + 32 * g.val) →
    look s.switch.mcLatch (routeIdx r) = some (g.val, [(0, x)]) →
    exec (.mcEntryApply r g v) s = .next ((s.wr (swBase + 32 * g.val) Reg.Mc.FPORT_MASK x).wr (swBase + 32 * g.val) Reg.Mc.VALID
      (v.toNat / 2 ^ 31 % 2))) ∧
  (∀ (r : Route) (e : BitVec 32) (s : State), Takes s r Reg.Root.INJ_EPOCH_EPOCH.off →
    injValid (s.wr 0 Reg.Root.INJ_EPOCH_EPOCH (e.toNat % 2)) = injValid s →
    exec (.injEpochWrite r e) s = .next (s.wr 0 Reg.Root.INJ_EPOCH_EPOCH (e.toNat % 2))) ∧
  (∀ (r : Route) (e : BitVec 32) (s : State), Takes s r Reg.Root.INJ_EPOCH_EPOCH.off →
    injValid (s.wr 0 Reg.Root.INJ_EPOCH_EPOCH (e.toNat % 2)) ≠ injValid s →
    exec (.injEpochWrite r e) s = .next (deviceEvent (s.wr 0 Reg.Root.INJ_EPOCH_EPOCH (e.toNat % 2))
      (if injValid s = true then 0x14 else 0x15) [e.toNat % 2, 0, 0, 0]))

/-! ### The Cicen link (spec/04_cicen_link.md) -/

/-- What leaves a port at a block time: LINK_DOWN blocks first, idle when DOWN, messages in their turn, a replayed block when one waits,
otherwise a new data block that takes the next BLK_SEQ and stays in the replay buffer. A good data block of the expected number advances
E and its flit is received; one received before is not taken again; one with a wrong LINK_CRC is counted, and the fourth in a row loses
block lock (R114, R115, R117, R118, R121 to R123, R125, R156, R636, R637). -/
def Obligations.BlocksAreSentAndAcceptedInSequence : Prop :=
  (∀ (n : Fin 96) (s : State), 0 < (s.port n.val).ldLeft →
    Ends (exec (.linkBlockSend n) s) (fun t =>
      (t.port n.val).ldLeft = (s.port n.val).ldLeft - 1 ∧ (t.port n.val).nextSeq = (s.port n.val).nextSeq ∧
      (∃ b, Sent s t n.val b ∧ b.ctl = true ∧
        b.slots.head? = some (lcm tLinkDown (prd s n.val Reg.Port.PORT_STATE_DOWN_REASON) [])) ∧
      { t with ports := s.ports, out := s.out } = s)) ∧
  (∀ (n : Fin 96) (s : State), (s.port n.val).ldLeft = 0 → portState s n.val = stDown → (s.port n.val).phase = 0 →
    (s.port n.val).upWaits = false → exec (.linkBlockSend n) s = .next (s.emit (.idle n.val))) ∧
  (∀ (n : Fin 96) (s : State), (s.port n.val).ldLeft = 0 → portRunning s n.val = true → controlTurn (s.port n.val) = true →
    Ends (exec (.linkBlockSend n) s) (fun t =>
      (t.port n.val).lcms = (s.port n.val).lcms.drop 16 ∧ (t.port n.val).nextSeq = (s.port n.val).nextSeq ∧
      (t.port n.val).replay = (s.port n.val).replay ∧
      (∃ b, Sent s t n.val b ∧ b.ctl = true ∧ b.ndata.toNat = ((s.port n.val).lcms.take 16).length) ∧
      { t with ports := s.ports, out := s.out, free := s.free } = s)) ∧
  (∀ (n : Fin 96) (q : Nat) (b : LinkBlock) (rest : List (Nat × LinkBlock)) (s : State), (s.port n.val).ldLeft = 0 →
    portRunning s n.val = true → controlTurn (s.port n.val) = false → (s.port n.val).resend = (q, b) :: rest →
    Ends (exec (.linkBlockSend n) s) (fun t =>
      Sent s t n.val b ∧ (t.port n.val).resend = rest ∧ (t.port n.val).nextSeq = (s.port n.val).nextSeq ∧
      (t.port n.val).replay = (s.port n.val).replay ∧ { t with ports := s.ports, out := s.out } = s)) ∧
  (∀ (n : Fin 96) (s : State), (s.port n.val).ldLeft = 0 → portRunning s n.val = true → controlTurn (s.port n.val) = false →
    (s.port n.val).resend = [] → dataReady (s.port n.val) = true →
    Ends (exec (.linkBlockSend n) s) (fun t =>
      (t.port n.val).nextSeq = ((s.port n.val).nextSeq + 1) % 4096 ∧
      (∃ b, Sent s t n.val b ∧ b.ctl = false ∧ b.seq.toNat = (s.port n.val).nextSeq % 4096 ∧
        (t.port n.val).replay = (s.port n.val).replay ++ [{ seq := (s.port n.val).nextSeq, blk := b, acked := false }]) ∧
      OtherFields (bankKeys (portUnit n.val)) s t ∧ { t with regs := s.regs, ports := s.ports, out := s.out } = s)) ∧
  (∀ (n : Fin 96) (b : RxBlock) (crc : BitVec 32) (e : Option (Fin 4)) (c : List (Fin 4)) (s : State), Locked s n.val b.lane →
    (blkLockOf (s.port n.val) (streamOf b.lane)).run < 3 → crc.toNat ≠ linkCrc b.block ∨ e ≠ none → (s.port n.val).inSeq = false →
    Ends (exec (.linkBlockReceive n b crc e c) s) (fun t =>
      t.port n.val = { s.port n.val with
        lock := (s.port n.val).lock.set (streamOf b.lane) ⟨true, (blkLockOf (s.port n.val) (streamOf b.lane)).run + 1⟩ } ∧
      prd t n.val Reg.Port.CRC_ERR_CNT = (s.bump (portBase n.val) Reg.Port.CRC_ERR_CNT).rd (portBase n.val) Reg.Port.CRC_ERR_CNT ∧
      OtherFields (blockCountKeys n.val) s t ∧ { t with regs := s.regs, ports := s.ports } = s)) ∧
  (∀ (n : Fin 96) (b : RxBlock) (crc : BitVec 32) (e : Option (Fin 4)) (c : List (Fin 4)) (s : State), Locked s n.val b.lane →
    (s.port n.val).lock.length = 5 → 3 ≤ (blkLockOf (s.port n.val) (streamOf b.lane)).run →
    crc.toNat ≠ linkCrc b.block ∨ e ≠ none → portRunning s n.val = false →
    Ends (exec (.linkBlockReceive n b crc e c) s) (fun t => (blkLockOf (t.port n.val) (streamOf b.lane)).held = false)) ∧
  (∀ (n : Fin 96) (b : RxBlock) (crc : BitVec 32) (c : List (Fin 4)) (s : State), Locked s n.val b.lane →
    crc.toNat = linkCrc b.block → blockGood b.block = true → linkAlive s n.val = true → b.block.ctl = false → b.block.ndata = 1 →
    (s.port n.val).expect = b.block.seq.toNat → creditOverrun (s.port n.val) b.block = false → (s.port n.val).rx.length = 16 →
    look s.switch.cur (inKey n.val (slotVc b.block 0)) = none →
    Ends (exec (.linkBlockReceive n b crc none c) s) (fun t =>
      (t.port n.val).expect = ((s.port n.val).expect + 1) % 4096 ∧ (t.port n.val).inSeq = true ∧
      (t.port n.val).rx[slotVc b.block 0]? = some (((s.port n.val).rx[slotVc b.block 0]?).getD [] ++
        [((b.block.slots[0]?).getD 0, bitOf b.block.tail.toNat 0)]) ∧
      OtherFields (blockCountKeys n.val) s t ∧ { t with regs := s.regs, ports := s.ports } = s)) ∧
  (∀ (n : Fin 96) (b : RxBlock) (crc : BitVec 32) (c : List (Fin 4)) (s : State), Locked s n.val b.lane →
    crc.toNat = linkCrc b.block → blockGood b.block = true → linkAlive s n.val = true → b.block.ctl = false →
    2048 ≤ seqDist (s.port n.val).expect b.block.seq.toNat →
    Ends (exec (.linkBlockReceive n b crc none c) s) (fun t =>
      (t.port n.val).expect = (s.port n.val).expect ∧ (t.port n.val).rx = (s.port n.val).rx ∧
      OtherFields (blockCountKeys n.val) s t ∧ { t with regs := s.regs, ports := s.ports } = s)) ∧
  (∀ (n : Fin 96) (b : RxBlock) (crc : BitVec 32) (e : Option (Fin 4)) (c : List (Fin 4)) (s : State), rxOff s n.val = true →
    exec (.linkBlockReceive n b crc e c) s = .next s)

/-- A replay request sends the buffer again from the number asked for, does nothing when that is the next number to assign, and is a
violation otherwise; a receiver out of sequence asks again within REPLAY_LIMIT; credit grants roll the arrival counts over, an audit
timer that runs out breaks the link with reason 7, and a packet short of credits raises the stall event only (R124 to R126, R128,
R133, R134). -/
def Obligations.ReplayAndCreditsKeepTheLinkGoing : Prop :=
  (∀ (n : Fin 96) (ex : BitVec 12) (s : State), linkAlive s n.val = true → holdsSeq (s.port n.val) ex.toNat = true →
    Ends (exec (.replayReqReceive n ex) s) (fun t =>
      t.port n.val = { s.port n.val with resend :=
        ((s.port n.val).replay.dropWhile (fun x => x.seq != ex.toNat)).map (fun x => (x.seq, x.blk)) } ∧
      OtherFields (Reg.Port.REPLAY_CNT.key (portBase n.val) :: bankKeys (portUnit n.val)) s t ∧
      { t with regs := s.regs, ports := s.ports } = s)) ∧
  (∀ (n : Fin 96) (ex : BitVec 12) (s : State), linkAlive s n.val = true → holdsSeq (s.port n.val) ex.toNat = false →
    ex.toNat = (s.port n.val).nextSeq → exec (.replayReqReceive n ex) s = .next s) ∧
  (∀ (n : Fin 96) (ex : BitVec 12) (s : State), linkAlive s n.val = true → holdsSeq (s.port n.val) ex.toNat = false →
    ex.toNat ≠ (s.port n.val).nextSeq → exec (.replayReqReceive n ex) s = .next (violation s n.val)) ∧
  (∀ (n : Fin 96) (s : State), portRunning s n.val = true → (s.port n.val).inSeq = false →
    (s.port n.val).reqCount < prd s n.val Reg.Port.REPLAY_LIMIT →
    Ends (exec (.replayTimeout n) s) (fun t =>
      (t.port n.val).lcms = (s.port n.val).lcms ++ [lcm tReplayReq 0 (be4 (s.port n.val).expect)] ∧
      (t.port n.val).reqCount = (s.port n.val).reqCount + 1 ∧ (t.port n.val).inSeq = false ∧ { t with ports := s.ports } = s)) ∧
  (∀ (n : Fin 96) (s : State), linkAlive s n.val = true →
    Ends (exec (.creditGrantPeriod n) s) (fun t =>
      (t.port n.val).aLast = (s.port n.val).aNow ∧ (t.port n.val).aNow = List.replicate 16 0 ∧
      (t.port n.val).grantPtr = ((s.port n.val).grantPtr + 1) % 16 ∧ (t.port n.val).held = (s.port n.val).held ∧
      (t.port n.val).credits = (s.port n.val).credits ∧ { t with ports := s.ports } = s)) ∧
  (∀ (n : Fin 96) (vc : Fin 16) (s : State), portRunning s n.val = true →
    exec (.auditTimeout n vc) s = .next (portBroken (recordError (linkEvent s n.val 2)
      { unit := .port n, kind := .audit, sev := 2, sub := vc.val, info := n.val, fenced := false, fatal := false }) n.val 7)) ∧
  (∀ (n : Fin 96) (vc : Fin 16) (k : Nat) (c : SwPkt) (s : State), k ∈ waitingAt s n.val → look s.switch.cur k = some c →
    c.outVc = vc.val → nth (s.port n.val).credits vc.val < flitsOfLen c.rh.len.toNat →
    exec (.creditStallTimeout n vc) s = .next ((linkEvent s n.val 3).emit (.named (.creditStall n.val vc.val))))

/-- A lane fault of the joined stream, or of a lane in use, sends a running port into RETRAIN within RETRAIN_LIMIT; of another lane it
only shows in RX_GOOD; a due width restore retrains with reason 3; the leader chooses the width from both ends' good lanes, the follower
takes it, each receiver switches with the TRAIN_DONE, and the exchange ends in a timebase exchange or, after a retrain, in UP or DEGRADED
(R118, R135, R138 to R142, R638). -/
def Obligations.RetrainingAgreesOnAWidth : Prop :=
  (∀ (n : Fin 96) (s : State), rxOff s n.val = false → portRunning s n.val = true →
    retrainsRecent s n.val < prd s n.val Reg.Port.RETRAIN_LIMIT →
    Ends (exec (.laneFault n .blockLock) s) (fun t =>
      portState t n.val = stRetrain ∧ (t.port n.val).reqOut = true ∧ (t.port n.val).reqReason = 2 ∧ (t.port n.val).phase = 2 ∧
      (t.port n.val).replay = (s.port n.val).replay ∧ (t.port n.val).credits = (s.port n.val).credits ∧
      t.out = .named (.linkState n.val) :: s.out ∧
      { t with regs := s.regs, ports := s.ports, out := s.out, free := s.free } = s)) ∧
  (∀ (n : Fin 96) (l : Fin 4) (e : LaneEvent) (s : State), rxOff s n.val = false → portRunning s n.val = true →
    e = .signal l ∨ e = .codeword l → l.val ∈ (s.port n.val).lanes →
    retrainsRecent s n.val < prd s n.val Reg.Port.RETRAIN_LIMIT →
    Ends (exec (.laneFault n e) s) (fun t =>
      portState t n.val = stRetrain ∧ (t.port n.val).reqOut = true ∧ (t.port n.val).reqReason = 2 ∧
      prd t n.val Reg.Port.PORT_STATE_RX_GOOD = clrBit (prd s n.val Reg.Port.PORT_STATE_RX_GOOD) l.val % 16 ∧
      t.out = .named (.linkState n.val) :: s.out ∧
      { t with regs := s.regs, ports := s.ports, out := s.out, free := s.free } = s)) ∧
  (∀ (n : Fin 96) (l : Fin 4) (e : LaneEvent) (s : State), rxOff s n.val = false → e = .signal l ∨ e = .codeword l →
    l.val ∉ (s.port n.val).lanes ∨ portRunning s n.val = false →
    Ends (exec (.laneFault n e) s) (fun t =>
      prd t n.val Reg.Port.PORT_STATE_RX_GOOD = clrBit (prd s n.val Reg.Port.PORT_STATE_RX_GOOD) l.val % 16 ∧
      portState t n.val = portState s n.val ∧ { t with regs := s.regs, ports := s.ports } = s)) ∧
  (∀ (n : Fin 96) (l : Fin 4) (s : State), rxOff s n.val = false →
    exec (.laneLockGain n l) s = .next ((s.wr (portBase n.val) Reg.Port.PORT_STATE_RX_GOOD
      (setBit (prd s n.val Reg.Port.PORT_STATE_RX_GOOD) l.val)).setPort n.val
        { s.port n.val with lockAt := put (s.port n.val).lockAt l.val s.now })) ∧
  (∀ (n : Fin 96) (l : Fin 4) (e : LaneEvent) (s : State), rxOff s n.val = true →
    exec (.laneLockGain n l) s = .next s ∧ exec (.laneFault n e) s = .next s) ∧
  (∀ (n : Fin 96) (w l : Nat) (s : State), portState s n.val = stDegraded → prd s n.val Reg.Port.PORT_CFG_AUTO_RESTORE = 1 →
    l < 4 → bitOf (prd s n.val Reg.Port.PORT_STATE_RX_GOOD) l = true → l ∉ (s.port n.val).lanes →
    chooseWidth (lanesIn (prd s n.val Reg.Port.PORT_STATE_RX_GOOD)) 4 (s.port n.val).widthMax = some w →
    w < prd s n.val Reg.Port.PORT_STATE_WIDTH → ((s.port n.val).ident.getD 0).toNat < (s.port n.val).peerId.toNat →
    retrainsRecent s n.val < prd s n.val Reg.Port.RETRAIN_LIMIT →
    Ends (exec (.widthRestoreDue n) s) (fun t =>
      portState t n.val = stRetrain ∧ (t.port n.val).reqOut = true ∧ (t.port n.val).reqReason = 3 ∧
      { t with regs := s.regs, ports := s.ports, out := s.out, free := s.free } = s)) ∧
  (∀ (n : Fin 96) (m : TrainMsg) (i : BitVec 64) (s : State), trainable s n.val = true → isLooped s n.val m = false →
    portState s n.val = stDown → m.reason = 1 → (s.port n.val).phase ≠ 0 → (s.port n.val).reqOut = false →
    (s.port n.val).doneSent = false → (s.port n.val).ident = some i →
    Ends (exec (.trainReqReceive n m) s) (fun t =>
      (t.port n.val).lcms = (s.port n.val).lcms ++ [trainLcm s n.val tTrainAck 0 m.reqId.toNat i.toNat 0] ∧
      (t.port n.val).peerId = m.ownId ∧ prd t n.val Reg.Port.PORT_STATE_LEADER = 0 ∧
      OtherFields [Reg.Port.PORT_STATE_LEADER.key (portBase n.val)] s t ∧ { t with regs := s.regs, ports := s.ports } = s)) ∧
  (∀ (n : Fin 96) (m : TrainMsg) (s : State), trainable s n.val = true → isLooped s n.val m = false →
    portState s n.val = stDown → m.reason ≠ 1 →
    exec (.trainReqReceive n m) s =
      .next (pushLcm s n.val (trainLcm s n.val tTrainAck 1 m.reqId.toNat ((s.port n.val).ident.getD 0).toNat 0))) ∧
  (∀ (n : Fin 96) (m : TrainMsg) (w : Nat) (s : State), trainable s n.val = true → isLooped s n.val m = false →
    inTraining s n.val = true → (s.port n.val).reqOut = true → (s.port n.val).ident = some m.reqId → m.reason = 0 →
    chooseWidth (lanesIn (prd s n.val Reg.Port.PORT_STATE_RX_GOOD)) (lanesIn m.rxGood.toNat) (s.port n.val).widthMax = some w →
    Ends (exec (.trainAckReceive n m) s) (fun t =>
      (t.port n.val).newWidth = w ∧ (t.port n.val).doneSent = true ∧ (t.port n.val).reqOut = false ∧
      prd t n.val Reg.Port.PORT_STATE_LEADER = 1 ∧
      (t.port n.val).lcms = (s.port n.val).lcms ++ [trainLcm s n.val tTrainDone 0 m.reqId.toNat m.reqId.toNat w] ∧
      OtherFields [Reg.Port.PORT_STATE_LEADER.key (portBase n.val)] s t ∧ { t with regs := s.regs, ports := s.ports } = s)) ∧
  (∀ (n : Fin 96) (m : TrainMsg) (s : State), trainable s n.val = true → isLooped s n.val m = false →
    inTraining s n.val = true → (s.port n.val).doneSent = false →
    (s.port n.val).ident = some m.reqId ∨ ((s.port n.val).reqOut = false ∧ (s.port n.val).peerId = m.reqId) →
    Ends (exec (.trainDoneReceive n m) s) (fun t =>
      (t.port n.val).newWidth = m.width.toNat ∧ (t.port n.val).doneSent = true ∧ (t.port n.val).doneRcvd = true ∧
      (t.port n.val).rxW = some m.width.toNat ∧ { t with ports := s.ports } = s)) ∧
  (∀ (n : Fin 96) (m : TrainMsg) (s : State), trainable s n.val = true → isLooped s n.val m = false →
    inTraining s n.val = true → (s.port n.val).doneSent = true →
    (s.port n.val).ident = some m.reqId ∨ ((s.port n.val).reqOut = false ∧ (s.port n.val).peerId = m.reqId) →
    exec (.trainDoneReceive n m) s =
      .next (s.setPort n.val { s.port n.val with doneRcvd := true, rxW := some (s.port n.val).newWidth })) ∧
  (∀ (n : Fin 96) (s : State), rxOff s n.val = false → (s.port n.val).phase = 4 → (s.port n.val).txW ≠ none →
    (s.port n.val).rxW ≠ none → (s.port n.val).upWaits = false → portState s n.val = stDown →
    Ends (exec (.trainResume n) s) (fun t =>
      (t.port n.val).upWaits = true ∧ (t.port n.val).credits = (s.port n.val).peerVcMin ∧
      (t.port n.val).lcms = [lcm tTimeSync 0 []] ∧ prd t n.val Reg.Port.PEER_VALID = 1 ∧
      OtherFields [Reg.Port.PEER_DEVICE.key (portBase n.val), Reg.Port.PEER_PORT.key (portBase n.val),
        Reg.Port.PEER_VALID.key (portBase n.val)] s t ∧ { t with regs := s.regs, ports := s.ports } = s)) ∧
  (∀ (n : Fin 96) (s : State), rxOff s n.val = false → portState s n.val = stRetrain → (s.port n.val).txW ≠ none →
    (s.port n.val).rxW ≠ none → (s.port n.val).upWaits = false → holdsSeq (s.port n.val) (s.port n.val).peerExpect = false →
    (s.port n.val).peerExpect = (s.port n.val).nextSeq →
    Ends (exec (.trainResume n) s) (fun t =>
      portState t n.val = (if (s.port n.val).newWidth = (s.port n.val).widthMax then stUp else stDegraded) ∧
      (t.port n.val).phase = 0 ∧ (t.port n.val).inSeq = true ∧ (t.port n.val).resend = [] ∧
      { t with regs := s.regs, ports := s.ports, out := s.out } = s))

/-- Bring-up runs through its phases: BRINGUP starts it (on an optical module with phase 2), PMD training and codeword lock end phases 1
and 2, block lock of every good lane begins the exchange, in which the port follows a bring-up request that its first block carried and
otherwise sends its own, and an attempt that takes too long ends with reason 3 and starts again when AUTO says so (R110, R118, R135,
R136, R138, R139). -/
def Obligations.BringupRunsThroughItsPhases : Prop :=
  (∀ (r : Route) (n : Fin 96) (s : State), Takes s r (portCtl n.val) → portState s n.val = stDown → (s.port n.val).phase = 0 →
    roleOf s n.val ≠ 0 → portUsable s n.val = true →
    Ends (exec (.portBringup r n) s) (fun t =>
      (t.port n.val).phase = (if Config.optical n.val = true then 2 else 1) ∧ (t.port n.val).phaseAt = s.now ∧
      (t.port n.val).autoSusp = false ∧ (t.port n.val).vcMin = cfgVcMin s n.val ∧ (t.port n.val).nextSeq = 0 ∧
      (t.port n.val).expect = PortSt.init.expect ∧ (t.port n.val).replay = [] ∧
      OtherFields [Reg.Port.RTT_NS.key (portBase n.val)] s t ∧ { t with regs := s.regs, ports := s.ports } = s)) ∧
  (∀ (r : Route) (n : Fin 96) (s : State), Takes s r (portCtl n.val) → portState s n.val ≠ stDown ∨ (s.port n.val).phase ≠ 0 ∨
    roleOf s n.val = 0 ∨ portUsable s n.val = false →
    exec (.portBringup r n) s = .next (s.setPort n.val { s.port n.val with asked := true, autoSusp := false })) ∧
  (∀ (n : Fin 96) (s : State), rxOff s n.val = false → (s.port n.val).phase = 1 →
    exec (.bringupPhaseDone n .pmd) s = .next (s.setPort n.val { s.port n.val with phase := 2, phaseAt := s.now })) ∧
  (∀ (n : Fin 96) (l : BitVec 4) (s : State), rxOff s n.val = false → (s.port n.val).phase = 2 →
    Ends (exec (.bringupPhaseDone n (.codeword l)) s) (fun t =>
      (t.port n.val).phase = 3 ∧ (t.port n.val).phaseAt = s.now ∧
      (∀ i, i < 4 → bitOf (prd t n.val Reg.Port.PORT_STATE_RX_GOOD) i = bitOf l.toNat i) ∧
      OtherFields (Reg.Port.PORT_STATE_RX_GOOD.key (portBase n.val) :: bankKeys (.fabricMacro (idx 23 (n.val / 4)))) s t ∧
      { t with regs := s.regs, ports := s.ports } = s)) ∧
  (∀ (n : Fin 96) (ph : TrainPhase) (s : State), rxOff s n.val = true ∨ ((s.port n.val).phase ≠ 1 ∧ (s.port n.val).phase ≠ 2) →
    exec (.bringupPhaseDone n ph) s = .next s) ∧
  (∀ (n : Fin 96) (g : LockGain) (s : State), AllLock s n.val g → portState s n.val ≠ stRetrain → (s.port n.val).phase = 3 →
    (∀ m ∈ g.req, isLooped s n.val m = false ∧ m.reason ≠ 1) →
    Ends (exec (.blockLockGain n g) s) (fun t =>
      (t.port n.val).phase = 4 ∧ (t.port n.val).phaseAt = s.now ∧ (t.port n.val).reqOut = true ∧ (t.port n.val).reqReason = 1 ∧
      t.regs = s.regs ∧ { t with ports := s.ports, free := s.free } = s)) ∧
  (∀ (n : Fin 96) (g : LockGain) (m : TrainMsg) (s : State), AllLock s n.val g → portState s n.val ≠ stRetrain →
    (s.port n.val).phase = 3 → g.req = some m → isLooped s n.val m = false → m.reason = 1 →
    Ends (exec (.blockLockGain n g) s) (fun t =>
      (t.port n.val).phase = 4 ∧ (t.port n.val).reqOut = false ∧ (t.port n.val).peerId = m.ownId ∧
      prd t n.val Reg.Port.PORT_STATE_LEADER = 0 ∧ OtherFields [Reg.Port.PORT_STATE_LEADER.key (portBase n.val)] s t ∧
      { t with regs := s.regs, ports := s.ports, free := s.free } = s)) ∧
  (∀ (n : Fin 96) (g : LockGain) (m : TrainMsg) (s : State), AllLock s n.val g → portState s n.val = stDown →
    (s.port n.val).phase = 3 → g.req = some m → isLooped s n.val m = true →
    Ends (exec (.blockLockGain n g) s) (fun t =>
      (t.port n.val).phase = 0 ∧ (t.port n.val).autoSusp = true ∧ prd t n.val Reg.Port.PORT_STATE_DOWN_REASON = 4 ∧
      OtherFields [Reg.Port.PORT_STATE_DOWN_REASON.key (portBase n.val)] s t ∧ { t with regs := s.regs, ports := s.ports } = s)) ∧
  (∀ (n : Fin 96) (g : LockGain) (s : State), AllLock s n.val g → portState s n.val = stRetrain → (s.port n.val).phase = 3 →
    Ends (exec (.blockLockGain n g) s) (fun t =>
      (t.port n.val).phase = 4 ∧ (t.port n.val).phaseAt = s.now ∧ (t.port n.val).lcms = (s.port n.val).lcms ∧
      { t with ports := s.ports } = s)) ∧
  (∀ (n : Fin 96) (g : LockGain) (s : State), rxOff s n.val = false → (s.port n.val).phase ≠ 3 →
    Ends (exec (.blockLockGain n g) s) (fun t =>
      (∀ i, i < 4 → i < (s.port n.val).lock.length → bitOf g.lanes.toNat i = true → (blkLockOf (t.port n.val) i).held = true) ∧
      (t.port n.val).phase = (s.port n.val).phase ∧ { t with ports := s.ports } = s)) ∧
  (∀ (n : Fin 96) (g : LockGain) (s : State), rxOff s n.val = true → exec (.blockLockGain n g) s = .next s) ∧
  (∀ (n : Fin 96) (s : State), portState s n.val = stDown → (s.port n.val).phase ≠ 0 ∨ (s.port n.val).upWaits = true →
    Ends (exec (.bringupTimeout n) s) (fun t =>
      prd t n.val Reg.Port.PORT_STATE_DOWN_REASON = 3 ∧ (t.port n.val).firstEnded = true ∧ (t.port n.val).upWaits = false ∧
      (t.port n.val).phase = (if roleOf s n.val ≠ 0 ∧ portUsable s n.val = true ∧ prd s n.val Reg.Port.PORT_CFG_AUTO = 1 ∧
        (s.port n.val).autoSusp = false then (if Config.optical n.val = true then 2 else 1) else 0) ∧
      portState t n.val = stDown ∧ t.out = .named (.linkState n.val) :: s.out ∧
      { t with regs := s.regs, ports := s.ports, out := s.out } = s)) ∧
  (∀ (n : Fin 96) (s : State), portState s n.val ≠ stDown ∨ ((s.port n.val).phase = 0 ∧ (s.port n.val).upWaits = false) →
    exec (.bringupTimeout n) s = .next s)

/-- Links go down: a retrain that takes too long, a LINK_DOWN from the peer and TAKEDOWN each break the link with their reason, which with
no packet in the switch core leaves it BROKEN with eight LINK_DOWN blocks to send; the last of these takes the port to what waited for
it; salvage ends in its event, and a BROKEN port is DOWN, its link state fresh, when its hold has passed; RETRAIN retrains (R135, R144,
R636). -/
def Obligations.LinksGoDownForTheirReasons : Prop :=
  (∀ (n : Fin 96) (s : State), portState s n.val = stRetrain → exec (.retrainTimeout n) s = .next (portBroken s n.val 8)) ∧
  (∀ (n : Fin 96) (x : BitVec 8) (s : State), rxOff s n.val = false → linkAlive s n.val = true →
    exec (.linkDownReceive n x) s = .next (portBroken s n.val 0xB)) ∧
  (∀ (r : Route) (n : Fin 96) (s : State), Takes s r (portCtl n.val) → linkAlive s n.val = true →
    exec (.portTakedown r n) s = .next
      (portBroken (s.setPort n.val { s.port n.val with autoSusp := true, asked := false }) n.val 6)) ∧
  (∀ (n : Fin 96) (s : State), portState s n.val = stRetrain → s.switch.cur = [] → s.switch.pool = [] →
    Ends (exec (.retrainTimeout n) s) (Broken n.val 8)) ∧
  (∀ (n : Fin 96) (x : BitVec 8) (s : State), rxOff s n.val = false → linkAlive s n.val = true → s.switch.cur = [] →
    s.switch.pool = [] → Ends (exec (.linkDownReceive n x) s) (Broken n.val 0xB)) ∧
  (∀ (r : Route) (n : Fin 96) (s : State), Takes s r (portCtl n.val) → linkAlive s n.val = true → s.switch.cur = [] →
    s.switch.pool = [] → Ends (exec (.portTakedown r n) s) (Broken n.val 6)) ∧
  (∀ (r : Route) (n : Fin 96) (s : State), Takes s r (portCtl n.val) → portRunning s n.val = true →
    retrainsRecent s n.val < prd s n.val Reg.Port.RETRAIN_LIMIT →
    Ends (exec (.portRetrain r n) s) (fun t =>
      portState t n.val = stRetrain ∧ (t.port n.val).reqOut = true ∧ (t.port n.val).reqReason = 2 ∧ (t.port n.val).phase = 2 ∧
      { t with regs := s.regs, ports := s.ports, out := s.out, free := s.free } = s)) ∧
  (∀ (n : Fin 96) (r : Nat) (s : State), (s.port n.val).ldLeft = 0 → (s.port n.val).ldThen = .toDown r →
    exec (.linkDownSent n) s = .next (portDown (s.setPort n.val { s.port n.val with ldThen := .stayBroken }) n.val r)) ∧
  (∀ (n : Fin 96) (s : State), (s.port n.val).ldLeft = 0 → (s.port n.val).ldThen = .reset →
    exec (.linkDownSent n) s = .next (portReset s n.val)) ∧
  (∀ (n : Fin 96) (s : State), 0 < (s.port n.val).ldLeft ∨ (s.port n.val).ldThen = .stayBroken →
    exec (.linkDownSent n) s = .next s) ∧
  (∀ (n : Fin 96) (s : State), portState s n.val = stBroken → (s.port n.val).salvage = [] → (s.port n.val).tx = [] →
    (s.port n.val).salvDone = none →
    exec (.salvageComplete n) s = .next (linkEvent (s.setPort n.val { s.port n.val with salvDone := some s.now }) n.val 5)) ∧
  (∀ (n : Fin 96) (s : State), portState s n.val = stBroken → (s.port n.val).salvDone ≠ none → (s.port n.val).ldLeft = 0 →
    Ends (exec (.brokenHoldExpire n) s) (fun t =>
      portState t n.val = stDown ∧ (t.port n.val).nextSeq = 0 ∧ (t.port n.val).replay = [] ∧ (t.port n.val).tx = [] ∧
      (t.port n.val).salvDone = none ∧ t.out = .named (.linkState n.val) :: s.out ∧
      { t with regs := s.regs, ports := s.ports, out := s.out } = s)) ∧
  (∀ (n : Fin 96) (s : State), portState s n.val ≠ stBroken → exec (.salvageComplete n) s = .next s ∧
    exec (.brokenHoldExpire n) s = .next s)

/-- Timebase exchanges: the port that starts them sends TIME_SYNC, every port answers one, the reply gives the round trip and the offset,
which the port that starts exchanges passes to the servo, and a missing reply ends the exchange with its event; PORT_CTL.CNT_CLR clears
the port's error counters (R146, R147, R149, R638). -/
def Obligations.TimebaseExchangesRunAndPortCountersClear : Prop :=
  (∀ (n : Fin 96) (s : State), portRunning s n.val = true → timeStarter s = some n.val → (s.port n.val).exch = none →
    exec (.timeSyncPeriod n) s = .next (pushLcm s n.val (lcm tTimeSync 0 []))) ∧
  (∀ (n : Fin 96) (s : State), timeStarter s ≠ some n.val → exec (.timeSyncPeriod n) s = .next s) ∧
  (∀ (n : Fin 96) (t1 t2 : LinkTime) (t3 : BitVec 18) (s : State), rxOff s n.val = false →
    linkAlive s n.val = true ∨ (s.port n.val).phase = 4 →
    exec (.timeSyncReceive n t1 t2 t3) s = .next
      (pushLcm s n.val (lcm tTimeReply 0 (timeBytes t1 ++ timeBytes t2 ++ be4 t3.toNat)))) ∧
  (∀ (n : Fin 96) (t1 t2 t3 t4 : LinkTime) (s : State), rxOff s n.val = false → (s.port n.val).exch = some t1 →
    (s.port n.val).upWaits = false →
    Ends (exec (.timeReplyReceive n t1 t2 t3 t4) s) (fun t =>
      t.rd (portBase n.val) Reg.Port.RTT_NS =
        (BitVec.ofInt 32 (((timeUnits t4 - timeUnits t1) - (timeUnits t3 - timeUnits t2)).fdiv 65536)).toNat ∧
      t.rd (portBase n.val) Reg.Port.TIME_OFFSET_PS =
        (BitVec.ofInt 32 ((((timeUnits t2 - timeUnits t1) - (timeUnits t4 - timeUnits t3)) * 1000).fdiv 131072 -
          (BitVec.ofNat 32 (prd s n.val Reg.Port.TIME_ASYM_PS)).toInt)).toNat ∧
      t.tbOffers = (if timeStarter s = some n.val ∧ s.rd (base .mgmtProc) Reg.Mp.TB_CFG_SRC = 1 then
        s.tbOffers ++ [(((timeUnits t2 - timeUnits t1) - (timeUnits t4 - timeUnits t3)) * 1000).fdiv 131072 -
          (BitVec.ofNat 32 (prd s n.val Reg.Port.TIME_ASYM_PS)).toInt] else s.tbOffers) ∧
      (t.port n.val).exch = none ∧
      OtherFields [Reg.Port.RTT_NS.key (portBase n.val), Reg.Port.TIME_OFFSET_PS.key (portBase n.val)] s t ∧
      { t with regs := s.regs, ports := s.ports, tbOffers := s.tbOffers } = s)) ∧
  (∀ (n : Fin 96) (t1 : LinkTime) (s : State), (s.port n.val).exch = some t1 → (s.port n.val).upWaits = false →
    exec (.timeExchangeTimeout n) s = .next ((linkEvent s n.val 7).setPort n.val { s.port n.val with exch := none })) ∧
  (∀ (n : Fin 96) (s : State), (s.port n.val).upWaits = true →
    Ends (exec (.timeExchangeTimeout n) s) (fun t =>
      portState t n.val = (if (s.port n.val).newWidth = (s.port n.val).widthMax then stUp else stDegraded) ∧
      (t.port n.val).upWaits = false ∧ (t.port n.val).exch = none)) ∧
  (∀ (r : Route) (n : Fin 96) (s : State), Takes s r (portCtl n.val) →
    Ends (exec (.portCntClr r n) s) (fun t =>
      (∀ f ∈ [Reg.Port.HDR_ERR_CNT, Reg.Port.CRC_ERR_CNT, Reg.Port.REPLAY_CNT, Reg.Port.RETRAIN_CNT, Reg.Port.STOMP_CNT,
        Reg.Port.SALVAGE_CNT, Reg.Port.AUDIT_FAIL_CNT, Reg.Port.DISCARD_CNT], prd t n.val f = 0) ∧
      (∀ l, l < 4 → t.rdi (portBase n.val) Reg.Port.FEC_CORR l = 0 ∧ t.rdi (portBase n.val) Reg.Port.FEC_UNCORR l = 0) ∧
      portState t n.val = portState s n.val ∧ RegsOnly s t))

/-! ### Routing (spec/06_routing.md) -/

/-- A congestion tick moves every port's estimate by its weight and shows it; the end of a warm-up keeps the value held and clears
WARMING (R197, R224). -/
def Obligations.CongestionEstimatesFollowTheirSamples : Prop :=
  (∀ s : State, s.rd atBase Reg.Atlas.CONTOUR_CFG_EN = 0 →
    Ends (exec .congEstTick s) (fun t =>
      (∀ n, n < 96 → look s.route.warmAt n = none →
        t.rdi atBase Reg.Atlas.PORT_EST_E n =
          Nat.min ((estStep (congEst s n) (congSample s n) (s.rd atBase Reg.Atlas.ATLAS_CFG_CONG_W)).1 /
            2 ^ (estStep (congEst s n) (congSample s n) (s.rd atBase Reg.Atlas.ATLAS_CFG_CONG_W)).2) 65535) ∧
      t.route.contour = s.route.contour ∧ t.route.fence = s.route.fence ∧ { t with regs := s.regs, route := s.route } = s)) ∧
  (∀ (n : Fin 96) (s : State), look s.route.warmAt n.val ≠ none →
    Ends (exec (.warmupEnd n) s) (fun t =>
      t.rdi atBase Reg.Atlas.PORT_EST_WARMING n.val = 0 ∧ look t.route.warmAt n.val = none ∧ congEst t n.val = congEst s n.val ∧
      { t with regs := s.regs, route := s.route } = s))

/-- The management class: a head that waits too long is discarded and counted; of the packets at the management endpoint a good new one
goes to the management processor, a duplicate, or one it has no room for, is only taken, a stomped one is counted, and a management
processor that is off takes none (R50, R97, R145, R203). -/
def Obligations.ManagementPacketsAreTakenOrDiscarded : Prop :=
  (∀ (p : Fin 128) (vc : Fin 16) (c : SwPkt) (s : State), look s.switch.cur (inKey p.val vc.val) = some c → c.phase = .waiting →
    c.rh.vclass.toNat = clsFmgt →
    exec (.fmgtWaitTimeout p vc) s = .next
      (discardWaiting (s.bump atBase Reg.Atlas.FMGT_DROP_CNT) (inKey p.val vc.val) c)) ∧
  (∀ (p : Fin 128) (vc : Fin 16) (c : SwPkt) (s : State), look s.switch.cur (inKey p.val vc.val) = some c → c.phase = .waiting →
    c.rh.vclass.toNat = clsFmgt → c.whole = true → c.checked = true → writtenBy s (inKey p.val vc.val) = [] →
    Ends (exec (.fmgtWaitTimeout p vc) s) (fun t =>
      look t.switch.cur (inKey p.val vc.val) = none ∧ t.switch.inbox = s.switch.inbox ∧ t.switch.pool = s.switch.pool ∧
      t.regs = (s.bump atBase Reg.Atlas.FMGT_DROP_CNT).regs ∧
      { t with regs := s.regs, ports := s.ports, switch := s.switch } = s)) ∧
  (∀ (p : Packet) (rest : List Packet) (s : State), fatalStopped s = false → unitOff s .mgmtProc = false →
    lookD s.switch.inbox 126 [] = p :: rest → p.op ≠ opTunnel → p.tr.stomp = 0 → p.whole = true → p.malformed = false →
    fmgtDup s p = false →
    Ends (exec (.fmgtReceive true) s) (fun t =>
      t.switch = { s.switch with inbox := put s.switch.inbox 126 rest } ∧ t.out = .fmgt p :: s.out ∧
      t.mg = { s.mg with fmgtSeen := upd s.mg.fmgtSeen p.rh.src.toNat [] (fun l => (p.th.psn.toNat :: l).take 64) } ∧
      { t with switch := s.switch, out := s.out, mg := s.mg } = s)) ∧
  (∀ (p : Packet) (rest : List Packet) (room : Bool) (s : State), fatalStopped s = false →
    lookD s.switch.inbox 126 [] = p :: rest → p.op ≠ opTunnel →
    unitOff s .mgmtProc = true ∨
      (p.tr.stomp = 0 ∧ p.whole = true ∧ p.malformed = false ∧ (fmgtDup s p = true ∨ room = false)) →
    exec (.fmgtReceive room) s = .next { s with switch := { s.switch with inbox := put s.switch.inbox 126 rest } }) ∧
  (∀ (p : Packet) (rest : List Packet) (room : Bool) (s : State), fatalStopped s = false → unitOff s .mgmtProc = false →
    lookD s.switch.inbox 126 [] = p :: rest → p.op ≠ opTunnel → p.tr.stomp ≠ 0 →
    exec (.fmgtReceive room) s = .next
      (({ s with switch := { s.switch with inbox := put s.switch.inbox 126 rest } }).bump atBase Reg.Atlas.FMGT_DROP_CNT))

/-- Atlas tables: words 0 to 2 of an entry wait in the route's latch, word 3 applies the entry; waypoints, the VALID bits and the
counters are written directly (R185 to R187, R212, R225). -/
def Obligations.AtlasTablesTakeTheirWrites : Prop :=
  (∀ (r : Route) (v : Fin 2) (e : AtlasEntry) (w : Fin 3) (x : BitVec 32) (s : State), Takes s r (entryBase v.val e + 4 * w.val) →
    Ends (exec (.atlasEntryWordWrite r v e w x) s) (fun t =>
      (∃ m, look t.route.latch (routeIdx r) = some (entryBase v.val e, m) ∧ look m w.val = some x.toNat) ∧ t.regs = s.regs ∧
      { t with route := s.route } = s)) ∧
  (∀ (r : Route) (v : Fin 2) (e : AtlasEntry) (x : BitVec 32) (y : Nat) (w : Fin 3) (s : State), Takes s r (entryBase v.val e + 12) →
    look s.route.latch (routeIdx r) = some (entryBase v.val e, [(w.val, y)]) →
    exec (.atlasEntryApply r v e x) s = .next
      (mendWord (putEntryWord (putEntryWord s (entryBase v.val e) w.val y) (entryBase v.val e) 3 x.toNat) (entryBase v.val e))) ∧
  (∀ (r : Route) (v : Fin 2) (i : Fin 256) (x : BitVec 32) (s : State),
    Takes s r (atBase + 0x10000 * v.val + 4 * i.val + Reg.Atlas.WAYPOINT_ENTRY.off) →
    exec (.waypointEntryWrite r v i x) s = .next (mendWord (s.wr (atBase + 0x10000 * v.val + 4 * i.val) Reg.Atlas.WAYPOINT_ENTRY
      (x.toNat % 2 ^ 11 + 2 ^ 31 * (x.toNat / 2 ^ 31 % 2))) (waypointAt v.val i.val))) ∧
  (∀ (r : Route) (x : BitVec 32) (s : State), Takes s r (atBase + 0x40) → bitOf x.toNat 8 = false →
    injValid ((s.wr atBase Reg.Atlas.ATLAS_CTL_VALID0 (x.toNat % 2)).wr atBase Reg.Atlas.ATLAS_CTL_VALID1 (x.toNat / 2 % 2)) =
      injValid s →
    exec (.atlasValidWrite r x) s = .next ((s.wr atBase Reg.Atlas.ATLAS_CTL_VALID0 (x.toNat % 2)).wr atBase
      Reg.Atlas.ATLAS_CTL_VALID1 (x.toNat / 2 % 2))) ∧
  (∀ (r : Route) (x : BitVec 32) (s : State), Takes s r (atBase + 0x40) → bitOf x.toNat 8 = false →
    injValid ((s.wr atBase Reg.Atlas.ATLAS_CTL_VALID0 (x.toNat % 2)).wr atBase Reg.Atlas.ATLAS_CTL_VALID1 (x.toNat / 2 % 2)) ≠
      injValid s →
    exec (.atlasValidWrite r x) s = .next (deviceEvent ((s.wr atBase Reg.Atlas.ATLAS_CTL_VALID0 (x.toNat % 2)).wr atBase
      Reg.Atlas.ATLAS_CTL_VALID1 (x.toNat / 2 % 2)) (if injValid s = true then 0x14 else 0x15)
      [s.rd 0 Reg.Root.INJ_EPOCH_EPOCH, 0, 0, 0])) ∧
  (∀ (r : Route) (x : BitVec 32) (s : State), Takes s r (atBase + 0x40) → bitOf x.toNat 8 = true →
    Ends (exec (.atlasValidWrite r x) s) (fun t =>
      t.rd atBase Reg.Atlas.ATLAS_CTL_VALID0 = x.toNat % 2 ∧ t.rd atBase Reg.Atlas.ATLAS_CTL_VALID1 = x.toNat / 2 % 2 ∧
      t.rd atBase Reg.Atlas.NOROUTE_CNT = 0 ∧ t.rd atBase Reg.Atlas.MISMATCH_CNT = 0)) ∧
  (∀ (r : Route) (s : State), Takes s r (atBase + 0x40) →
    Ends (exec (.atlasCntClr r) s) (fun t =>
      (∀ f ∈ [Reg.Atlas.NOROUTE_CNT, Reg.Atlas.BUDGET_DROP_CNT, Reg.Atlas.HOPLIMIT_CNT, Reg.Atlas.NOT_READY_CNT,
        Reg.Atlas.FMGT_DROP_CNT, Reg.Atlas.FENCE_FULL_CNT, Reg.Atlas.FENCE_TMO_CNT, Reg.Atlas.REROUTE_CNT,
        Reg.Atlas.RAMBLE_CNT, Reg.Atlas.MISMATCH_CNT, Reg.Atlas.ECC_CORR_CNT], t.rd atBase f = 0) ∧
      t.rd atBase Reg.Atlas.ATLAS_CTL_VALID0 = s.rd atBase Reg.Atlas.ATLAS_CTL_VALID0 ∧ RegsOnly s t))

/-- The fence store executes a held packet whose fence is open, in one release, and keeps the packets whose fence is not; a packet held
too long is discarded and counted; a Contour period closes one record and numbers it (R214, R216, R218). -/
def Obligations.FenceStoreAndContourPeriods : Prop :=
  (∀ (ch : BitVec 20) (x : ChanSt) (h : FenceHeld) (s : State), s.chan ch.toNat = some x → s.route.fence = [h] →
    h.channel = ch.toNat → fenceOpen x h.pkt = true →
    (step67 (setFence (drawSpace s h.pkt).2 []) ch.toNat h.pkt false (drawSpace s h.pkt).1).1 = false →
    (step67 (setFence (drawSpace s h.pkt).2 []) ch.toNat h.pkt false (drawSpace s h.pkt).1).2.route.fence = [] →
    exec (.fenceRelease ch) s =
      .next (step67 (setFence (drawSpace s h.pkt).2 []) ch.toNat h.pkt false (drawSpace s h.pkt).1).2) ∧
  (∀ (ch : BitVec 20) (x : ChanSt) (s : State), s.chan ch.toNat = some x →
    (∀ h ∈ s.route.fence, h.channel = ch.toNat → fenceOpen x h.pkt = false) → exec (.fenceRelease ch) s = .next s) ∧
  (∀ (ch : BitVec 20) (psn : BitVec 24) (h : FenceHeld) (s : State), h ∈ s.route.fence → h.channel = ch.toNat →
    h.pkt.th.psn = psn →
    exec (.fenceTimeout ch psn) s = .next (((setFence s (s.route.fence.filter
      (fun g => !(g.channel == ch.toNat && g.pkt.th.psn == psn)))).bump atBase Reg.Atlas.FENCE_TMO_CNT).setEvt atBase
        Reg.Atlas.ATLAS_EVENT 6)) ∧
  (∀ (room : Bool) (s : State), s.rd atBase Reg.Atlas.CONTOUR_CFG_EN ≠ 0 → look s.mg.streams 1 ≠ none →
    Ends (exec (.contourPeriod room) s) (fun t =>
      t.route.contourSeq = (s.route.contourSeq + 1) % 2 ^ 32 ∧
      lookD t.mg.recs 1 [] =
        lookD s.mg.recs 1 [] ++ (if room = true then [.bytes (contourRecord s s.route.contourSeq)] else []) ∧ t.regs = s.regs ∧
      { t with route := s.route, mg := s.mg } = s)) ∧
  (∀ (room : Bool) (s : State), s.rd atBase Reg.Atlas.CONTOUR_CFG_EN = 0 → exec (.contourPeriod room) s = .next s)

/-! ### Cicen transport (spec/07_transport.md) -/

/-- A channel command through a cluster's registers: on a context that is on die each OP runs by its own rule, and BUSY reads 0 with its
RESULT once it is done; on one that is not it waits while its fetch runs; a channel that the cluster has no context for answers RESULT 1;
while BUSY is 1 the command is only recorded as an access violation (R232 to R234). -/
def Obligations.ChannelCommandsRunOnResidentContexts : Prop :=
  (∀ (r : Route) (c : Fin 4) (ch : Nat) (x : ChanSt) (s : State), Takes s r (clusterBase c.val + 0x84) → clusterLost s c.val = false →
    s.rd (clusterBase c.val) Reg.Tc.CMD_STATUS_BUSY = 0 → s.rd (clusterBase c.val) Reg.Tc.CHAN_CMD_CHANNEL = ch →
    clusterOf ch = c.val → ctxExists s ch = true → s.chan ch = some x →
    let go := fun op => (s.wr (clusterBase c.val) Reg.Tc.CHAN_CMD_OP op).wr (clusterBase c.val) Reg.Tc.CMD_STATUS_BUSY 1
    exec (.openCmd r c) s = .next (tpEnd (runOpen (go 1) none ch x) c.val) ∧
    exec (.modify r c) s = .next (tpEnd (runModify (go 2) none ch x) c.val) ∧
    exec (.close r c) s = .next (tpEnd (runClose (go 3) none ch x) c.val) ∧
    exec (.closeForce r c) s = .next (tpEnd (runCloseForce (go 4) none ch x) c.val) ∧
    exec (.query r c) s = .next (tpEnd (cmdDone (putImage (go 5) none ch x.ctx.toWords) none ch 0 (some x.ctx.gen)) c.val)) ∧
  (∀ (r : Route) (c : Fin 4) (ch : Nat) (x : ChanSt) (s : State), Takes s r (clusterBase c.val + 0x84) → clusterLost s c.val = false →
    s.rd (clusterBase c.val) Reg.Tc.CMD_STATUS_BUSY = 0 → s.rd (clusterBase c.val) Reg.Tc.CHAN_CMD_CHANNEL = ch →
    clusterOf ch = c.val → ctxExists s ch = true → look s.tp.chans ch = some x → x.resident = false → x.fetching = true →
    let waits := fun op => Host.Outcome.next (tpEnd { (s.wr (clusterBase c.val) Reg.Tc.CHAN_CMD_OP op).wr (clusterBase c.val)
      Reg.Tc.CMD_STATUS_BUSY 1 with tp := { s.tp with cmds := s.tp.cmds ++ [{ fn := none, op := op, ch := ch }] } } c.val)
    exec (.openCmd r c) s = waits 1 ∧ exec (.modify r c) s = waits 2 ∧ exec (.close r c) s = waits 3 ∧
    exec (.closeForce r c) s = waits 4 ∧ exec (.query r c) s = waits 5) ∧
  (∀ (r : Route) (c : Fin 4) (i : Instr) (s : State), Takes s r (clusterBase c.val + 0x84) → clusterLost s c.val = false →
    s.rd (clusterBase c.val) Reg.Tc.CMD_STATUS_BUSY = 0 → ctxExists s (s.rd (clusterBase c.val) Reg.Tc.CHAN_CMD_CHANNEL) = false →
    i ∈ [Instr.openCmd r c, .modify r c, .close r c, .closeForce r c, .query r c] →
    Ends (exec i s) (fun t => t.rd (clusterBase c.val) Reg.Tc.CMD_STATUS_BUSY = 0 ∧
      t.rd (clusterBase c.val) Reg.Tc.CMD_STATUS_RESULT = 1 ∧
      OnlyFields ([Reg.Tc.CHAN_CMD_OP, Reg.Tc.CMD_STATUS_BUSY, Reg.Tc.CMD_STATUS_RESULT].map (Field.key · (clusterBase c.val))) s t)) ∧
  (∀ (r : Route) (c : Fin 4) (i : Instr) (s : State), Takes s r (clusterBase c.val + 0x84) → clusterLost s c.val = false →
    s.rd (clusterBase c.val) Reg.Tc.CMD_STATUS_BUSY ≠ 0 →
    i ∈ [Instr.openCmd r c, .modify r c, .close r c, .closeForce r c, .query r c] →
    exec i s = .next (accViol s r .cmdBusy (clusterBase c.val + 0x84))) ∧
  (∀ (ch k : Nat) (g : Option Nat) (s : State), k < 16 →
    (cmdDone s none ch k g).rd (tb ch) Reg.Tc.CMD_STATUS_BUSY = 0 ∧
    (cmdDone s none ch k g).rd (tb ch) Reg.Tc.CMD_STATUS_RESULT = k ∧ RegsOnly s (cmdDone s none ch k g)) ∧
  (∀ (old img : Ctx), (opened old img).state = csOpen ∧ (opened old img).errCode = 0 ∧ (opened old img).sndUna = img.sndNxt ∧
    (opened old img).gen = (if old.gen = 255 then 1 else old.gen + 1)) ∧
  (∀ (ch : Nat) (x : ChanSt) (s : State), x.ctx.state ≠ csClosed →
    Ends (.next (runOpen s none ch x)) (fun t => t.rd (tb ch) Reg.Tc.CMD_STATUS_RESULT = 2 ∧ RegsOnly s t)) ∧
  (∀ (fn : Option Nat) (ch : Nat) (x : ChanSt) (s : State), x.ctx.state = csOpen → s.chanAny ch = some x →
    Ends (.next (runClose s fn ch x)) (fun t =>
      (∃ y, t.chanAny ch = some y ∧ y.ctx = { x.ctx with state := csClosing } ∧ y.closers = [fn]) ∧ t.regs = s.regs)) ∧
  (∀ (fn : Option Nat) (ch : Nat) (x : ChanSt) (s : State), x.ctx.state = csClosed →
    runCloseForce s fn ch x = cmdDone s fn ch 0 none)

/-- A CLOSING channel with nothing outstanding closes; a fetch that returns a context makes the channel resident, and one that fails is
counted and ends the commands that wait with RESULT 4; a writeback that ends frees the slot, and one that fails is tried again (R232,
R234, R237, R256 to R258). -/
def Obligations.ContextsComeAndGo : Prop :=
  (∀ (ch : Fin 1048576) (x : ChanSt) (s : State), s.chan ch.val = some x → closable x = true →
    exec (.channelCloseComplete ch) s = .next (tpEnd (toClosed s ch.val) (clusterOf ch.val))) ∧
  (∀ (ch : Fin 1048576) (s : State), (∀ x ∈ s.chan ch.val, closable x = false) → exec (.channelCloseComplete ch) s = .next s) ∧
  (∀ (ch : Nat) (x : ChanSt) (s : State), s.chanAny ch = some x → x.closers = [] →
    ∃ y, (toClosed s ch).chanAny ch = some y ∧ y.ctx = { x.ctx with state := csClosed, errCode := 0 } ∧ y.closers = []) ∧
  (∀ (ch : Fin 1048576) (words : Option (List (BitVec 32))) (x : ChanSt) (c : Ctx) (s : State), look s.tp.chans ch.val = some x →
    x.fetching = true → x.slotWait = false → x.parked = [] → x.parkDrop = none → (∀ k ∈ s.tp.cmds, k.ch ≠ ch.val) →
    (∀ k ∈ s.tp.scans, k.ch ≠ ch.val) → (∀ kv ∈ s.doms, kv.2.owed = []) → (s.fn c.owner).resetting = false →
    let u := countEv s (tpUnit ch.val) (CntEvent.plain 0x101 (s.now - x.fetchAt))
    fetchedCtx u ch.val words = some c →
    exec (.ctxFetchDone ch words) s = .next (tpEnd { u with tp := { s.tp with
      chans := put s.tp.chans ch.val (restored s ch.val c), priv := del s.tp.priv ch.val } } (clusterOf ch.val))) ∧
  (∀ (ch : Fin 1048576) (words : Option (List (BitVec 32))) (x : ChanSt) (s : State), look s.tp.chans ch.val = some x →
    x.fetching = true → x.slotWait = false →
    let u := countEv s (tpUnit ch.val) (CntEvent.plain 0x101 (s.now - x.fetchAt))
    fetchedCtx u ch.val words = none →
    exec (.ctxFetchDone ch words) s = .next (tpEnd (scansPass (finsFail (farFail
      (runWaiting (fetchFailed (dropChan u ch.val) ch.val) ch.val (fun t k => cmdDone t k.fn ch.val 4 none)) ch.val) ch.val) ch.val)
      (clusterOf ch.val))) ∧
  (∀ (ch : Fin 1048576) (words : Option (List (BitVec 32))) (s : State),
    (∀ x ∈ look s.tp.chans ch.val, x.fetching = false ∨ x.slotWait = true) → (∀ k ∈ s.tp.scans, k.ch ≠ ch.val) →
    exec (.ctxFetchDone ch words) s = .next s) ∧
  (∀ (ch : Fin 1048576) (x : ChanSt) (s : State), look s.tp.chans ch.val = some x → x.writing = true → (∀ kv ∈ s.doms, kv.2.owed = []) →
    exec (.ctxWritebackDone ch) s = .next (tpEnd
      (if x.dirty = true ∨ chanPinned s ch.val { x with writing := false } = true then
        { s with tp := { s.tp with chans := put s.tp.chans ch.val { x with writing := false } } }
      else evictChan s ch.val { x with writing := false }) (clusterOf ch.val))) ∧
  (∀ (ch : Nat) (x : ChanSt) (s : State), (evictChan s ch x).tp.chans = del s.tp.chans ch ∧
    (∃ k, look (evictChan s ch x).tp.priv ch = some k ∧ k.ctx = x.ctx ∧ k.rate = x.ctx.rate ∧ k.nextStart = x.nextStart)) ∧
  (∀ (ch : Fin 1048576) (x : ChanSt) (s : State), look s.tp.chans ch.val = some x → x.writing = true →
    (x.ctx.state = csClosed ∨ x.ctx.state = csError) →
    exec (.ctxWritebackFail ch) s = .next (tpEnd (failSlotCmds (raiseEvent
      (({ s with tp := { s.tp with chans := put s.tp.chans ch.val { x with writing := false, dirty := true } } }).setEvt (tb ch.val)
        Reg.Tc.TP_EVENT 2)
      (s.rd (tb ch.val) Reg.Tc.CTX_FAULT_FUNC) 0x04
      [ch.val, 0, ctxAddr s ch.val % 2 ^ 32, ctxAddr s ch.val / 2 ^ 32]) ch.val) (clusterOf ch.val))) ∧
  (∀ (ch : Fin 1048576) (x : ChanSt) (s : State), look s.tp.chans ch.val = some x → x.writing = true →
    (x.ctx.state = csOpen ∨ x.ctx.state = csClosing) →
    exec (.ctxWritebackFail ch) s = .next (tpEnd (failSlotCmds (writebackFailed (chanError
      { s with tp := { s.tp with chans := put s.tp.chans ch.val { x with writing := false, dirty := true } } } ch.val 9 0) ch.val)
      ch.val) (clusterOf ch.val)))

/-- Sending: a sending opportunity sends the channel's next packet, which takes its place in the window, and sends nothing while the
channel or the device may not; the payload read of the packet being built returns to its channel, and one that fails ends the channel in
ERROR code 8 (R78, R234, R240, R241, R242, R254). -/
def Obligations.ChannelsSendAndReadPayloads : Prop :=
  (∀ (ch : Fin 1048576) (space : Bool) (s : State),
    exec (.channelPacketSend ch space) s = .next (tpEnd (sendNext s ch.val space) (clusterOf ch.val))) ∧
  (∀ (ch : Fin 1048576) (space : Bool) (s : State), mayOriginate s = false ∨
    (∀ x ∈ s.chan ch.val, (x.ctx.state ≠ csOpen ∧ x.ctx.state ≠ csClosing) ∨ nextPkt ch.val x = none) →
    exec (.channelPacketSend ch space) s = .next (tpEnd s (clusterOf ch.val))) ∧
  (∀ (ch : Fin 1048576) (space : Bool) (x : ChanSt) (j : Job) (p : SentPkt) (s : State), mayOriginate s = true →
    s.chan ch.val = some x → x.ctx.state = csOpen → nextPkt ch.val x = some (.fresh j p) →
    windowOf ch.val ≤ psnDist x.ctx.sndUna x.high →
    exec (.channelPacketSend ch space) s = .next (tpEnd (s.setChan ch.val { x with winSince := some (x.winSince.getD s.now) })
      (clusterOf ch.val))) ∧
  (∀ (ch colour : Nat) (b : List Byte) (x : ChanSt) (j : Job) (p : SentPkt) (s : State), s.chan ch = some x →
    ∃ y, (injectPkt s ch (.fresh j p) b colour).chan ch = some y ∧ y.high = psnAdd p.psn 1 ∧ y.ctx.sndNxt = psnAdd p.psn 1 ∧
      y.ctx.sndUna = x.ctx.sndUna ∧ y.sent = x.sent ++ [p] ∧ y.payload = none ∧ y.timer ≠ none) ∧
  (∀ (ch : Fin 1048576) (data : Option (List Byte)) (x : ChanSt) (psn id : Nat) (l : List Chunk) (s : State),
    s.chan ch.val = some x → x.reading = some (psn, id, l) → readDone s id = true →
    exec (.payloadReadDone (.send ch) data) s = .next (tpEnd
      (if (readData s id l (data.getD [])).2 = true ∨ (data = none ∧ outside l = true) then
        chanError ((endRead s id).setChan ch.val { x with reading := none }) ch.val 8 psn
      else (endRead s id).setChan ch.val
        { x with reading := none, payload := some (psn, (readData s id l (data.getD [])).1) }) (clusterOf ch.val))) ∧
  (∀ (ch : Fin 1048576) (data : Option (List Byte)) (s : State),
    (∀ x ∈ s.chan ch.val, ∀ y ∈ x.reading, readDone s y.2.1 = false) →
    exec (.payloadReadDone (.send ch) data) s = .next (tpEnd s (clusterOf ch.val))) ∧
  (∀ (ch : Fin 1048576) (psn : Fin 16777216) (data : Option (List Byte)) (s : State),
    (∀ x ∈ s.chan ch.val, ∀ r ∈ x.rsps, r.psn ≠ psn.val) →
    exec (.payloadReadDone (.rsp ch psn) data) s = .next (tpEnd s (clusterOf ch.val)))

/-- Packets delivered to a cluster go, after the checks at arrival, to the receiver, to the acknowledgement, NAK and read-response rules
of their channel, the oldest first; none is taken while a fatal stop is in force or none has come; a stomped one is only counted; an answer that
the channel as it stands does not expect is counted as stale; an acknowledgement retires what it covers but READ_REQs (R31, R97, R246,
R259, R260, R262, R609). -/
def Obligations.DeliveredPacketsReachTheirRules : Prop :=
  (∀ (c : Fin 4) (space : Bool) (p : Packet) (s t : State), fatalStopped s = false →
    takeInbox s (tpPorts c.val) (fun p => !(answerOp p.op) && p.op != opTunnel) = some (p, t) → arriveGood t c.val p = none →
    requestOp p.op = true →
    exec (.channelPacketReceive c space) s = .next (tpEnd (receiveReq t p space) c.val)) ∧
  (∀ (c : Fin 4) (p : Packet) (s t : State), fatalStopped s = false →
    takeInbox s (tpPorts c.val) (fun p => p.op == opAck) = some (p, t) → arriveGood t c.val p = none →
    exec (.ackReceive c) s = .next (tpEnd (onAck t p) c.val)) ∧
  (∀ (c : Fin 4) (p : Packet) (s t : State), fatalStopped s = false →
    takeInbox s (tpPorts c.val) (fun p => p.op == opNak) = some (p, t) → arriveGood t c.val p = none →
    exec (.nakReceive c) s = .next (tpEnd (onNak t p) c.val)) ∧
  (∀ (c : Fin 4) (p : Packet) (s t : State), fatalStopped s = false →
    takeInbox s (tpPorts c.val) (fun p => p.op == opReadRsp) = some (p, t) → arriveGood t c.val p = none →
    exec (.readRspReceive c) s = .next (if (onReadRsp t p).1 = true then tpEnd (onReadRsp t p).2 c.val
      else { (onReadRsp t p).2 with switch := { (onReadRsp t p).2.switch with inbox := s.switch.inbox } })) ∧
  (∀ (c : Fin 4) (space : Bool) (i : Instr) (s : State),
    fatalStopped s = true ∨ (∀ p ∈ tpPorts c.val, lookD s.switch.inbox p [] = []) →
    i ∈ [Instr.channelPacketReceive c space, .ackReceive c, .nakReceive c, .readRspReceive c] → exec i s = .next s) ∧
  (∀ (c : Fin 4) (space : Bool) (i : Instr) (p : Packet) (rest : List Packet) (s : State), fatalStopped s = false → clusterLost s c.val = false →
    lookD s.switch.inbox (112 + 3 * c.val) [] = p :: rest → p.rh.mc = false → p.tr.stomp.toNat = 0xA5 →
    (requestOp p.op = true ∧ i = .channelPacketReceive c space ∨ p.op = opAck ∧ i = .ackReceive c ∨ p.op = opNak ∧ i = .nakReceive c ∨
      p.op = opReadRsp ∧ i = .readRspReceive c) →
    exec i s = .next (({ s with switch := { s.switch with inbox := put s.switch.inbox (112 + 3 * c.val) rest } }).bump
      (clusterBase c.val) Reg.Tc.STOMP_RCVD_CNT)) ∧
  (∀ (p : Packet) (s : State), answerOn s p = none →
    onAck s p = staleAnswer s p ∧ onNak s p = staleAnswer s p ∧ onReadRsp s p = (true, staleAnswer s p)) ∧
  (∀ (p : Nat) (x : ChanSt) (s : State), ∀ q ∈ x.sent,
    q ∈ (retireTo s x p).sent ↔ (q.op = opReadReq ∨ psnDist x.ctx.sndUna p < psnDist x.ctx.sndUna q.psn)) ∧
  (∀ (p : Packet) (space : Bool) (s : State), s.on gzBase Reg.Gz.TR_CFG_EN = false → ctxExists s p.th.channel.toNat = false →
    (receiveReq s p space).tp = s.tp ∧ (receiveReq s p space).switch = s.switch ∧
    (receiveReq s p space).rd (tb p.th.channel.toNat) Reg.Tc.NOCTX_DROP_CNT =
      (s.bump (tb p.th.channel.toNat) Reg.Tc.NOCTX_DROP_CNT).rd (tb p.th.channel.toNat) Reg.Tc.NOCTX_DROP_CNT)

/-- The transport's timers: a delayed acknowledgement falls due, a retransmit timer sends again from SND_UNA (on a selective-repeat
channel what SACK has not reported and every READ_REQ), reports RETRY_CNT 4, or ends the channel in ERROR code 1 after RETRY_MAX, a miss
backoff ends, the rate rises by CC_AI_MBPS up to CC_MAX_MBPS unless the period held a cut; CNT_CLR clears the transport counters; a Cmp
takes one write off its packet (R251, R260, R261, R262, R265, R269, R271, R493). -/
def Obligations.TransportTimersAndCompletionsAct : Prop :=
  (∀ (ch : Fin 1048576) (x : ChanSt) (s : State), s.chan ch.val = some x → x.ackAt ≠ none →
    exec (.ackDelayTimeout ch) s = .next (tpEnd (ackDue s ch.val) (clusterOf ch.val))) ∧
  (∀ (ch : Fin 1048576) (s : State), (∀ x ∈ s.chan ch.val, x.ackAt = none) → exec (.ackDelayTimeout ch) s = .next s) ∧
  (∀ (ch : Fin 1048576) (x : ChanSt) (s : State), s.chan ch.val = some x → x.outstanding = true →
    x.ctx.retryCnt < x.ctx.retryMax →
    let k := x.ctx.retryCnt + 1
    let c : Ctx := { x.ctx with retryCnt := k, sndNxt := if isSr ch.val = true then x.ctx.sndNxt else x.ctx.sndUna }
    let t := (s.bump (tb ch.val) Reg.Tc.RETX_TMO_CNT).setChan ch.val { x with
      ctx := c
      timer := some (s.now + rtoNs c k)
      sent := x.sent.map (fun p => { p with fast := false })
      resend := if isSr ch.val = true then (x.sent.filter (fun p => !p.marked || p.op == opReadReq)).map (·.psn) else []
      backoff := if isSr ch.val = true then x.backoff else [] }
    exec (.retxTimeout ch) s = .next (tpEnd
      (if k = 4 then raiseEvent t x.ctx.owner 0x02 [ch.val + 2 ^ 24 * x.ctx.gen, x.ctx.errCode, x.ctx.errPsn, 0] else t)
      (clusterOf ch.val))) ∧
  (∀ (ch : Fin 1048576) (x : ChanSt) (s : State), s.chan ch.val = some x → x.outstanding = true → x.ctx.retryMax ≤ x.ctx.retryCnt →
    exec (.retxTimeout ch) s = .next (tpEnd (chanError (s.bump (tb ch.val) Reg.Tc.RETX_TMO_CNT) ch.val 1 x.ctx.sndUna)
      (clusterOf ch.val))) ∧
  (∀ (ch : Fin 1048576) (s : State), (∀ x ∈ s.chan ch.val, x.outstanding = false) → exec (.retxTimeout ch) s = .next s) ∧
  (∀ (ch : Fin 1048576) (x : ChanSt) (n : Nat) (l : List Nat) (s : State), s.chan ch.val = some x → x.backoff = n :: l →
    exec (.missBackoffExpire ch) s = .next (tpEnd (s.setChan ch.val { x with
      backoff := l, resend := if isSr ch.val = true then addOnce x.resend n else x.resend }) (clusterOf ch.val))) ∧
  (∀ (ch : Fin 1048576) (s : State), (∀ x ∈ s.chan ch.val, x.backoff = []) → exec (.missBackoffExpire ch) s = .next s) ∧
  (∀ (ch : Fin 1048576) (x : ChanSt) (s : State), s.chan ch.val = some x → x.ctx.ccEn = true →
    let n := if x.cutNow = true then x.ctx.rate
      else Nat.min (s.rd (tb ch.val) Reg.Tc.CC_MAX_MBPS) (x.ctx.rate + s.rd (tb ch.val) Reg.Tc.CC_AI_MBPS)
    exec (.ccIncPeriod ch) s = .next (tpEnd (s.setChan ch.val { x with ctx := { x.ctx with rate := n }, cutNow := false })
      (clusterOf ch.val))) ∧
  (∀ (ch : Fin 1048576) (s : State), (∀ x ∈ s.chan ch.val, x.ctx.ccEn = false) → (s.chan ch.val = none → look s.tp.priv ch.val = none) →
    exec (.ccIncPeriod ch) s = .next s) ∧
  (∀ (ch : Fin 1048576) (k : EngPriv) (s : State), s.chan ch.val = none → look s.tp.priv ch.val = some k → k.ctx.ccEn = true →
    Ends (exec (.ccIncPeriod ch) s) (fun t =>
      (∃ y, look t.tp.priv ch.val = some y ∧ y.ctx = k.ctx ∧ y.cutNow = false ∧ y.rate = if k.cutNow = true then k.rate else
        Nat.min (s.rd (tb ch.val) Reg.Tc.CC_MAX_MBPS) (k.rate + s.rd (tb ch.val) Reg.Tc.CC_AI_MBPS)) ∧
      t.tp.chans = s.tp.chans ∧ { t with tp := s.tp } = s)) ∧
  (∀ (r : Route) (c : Fin 4) (s : State), Takes s r (clusterBase c.val + 0x90) →
    Ends (exec (.transportCntClr r c) s) (fun t =>
      (∀ f ∈ tpCounters, t.rd (clusterBase c.val) f = 0) ∧
      (∀ i, i < 10 → t.rdi (clusterBase c.val) Reg.Tc.NAK_SENT_CNT i = 0 ∧ t.rdi (clusterBase c.val) Reg.Tc.NAK_RCVD_CNT i = 0) ∧
      OnlyFields (tpCounters.map (Field.key · (clusterBase c.val)) ++ (List.range 10).flatMap (fun i =>
        [Reg.Tc.NAK_SENT_CNT.key (clusterBase c.val + Reg.Tc.NAK_SENT_CNT.stride * i),
         Reg.Tc.NAK_RCVD_CNT.key (clusterBase c.val + Reg.Tc.NAK_RCVD_CNT.stride * i)])) s t)) ∧
  (∀ (c : Fin 4) (q : HomeReq) (ch id n : Nat) (x : ChanSt) (s : State),
    s.mesh.cmps.find? (fun q => match q.asker with | .payload cl _ _ => cl == c.val | _ => false) = some q →
    q.asker = .payload c.val ch id → ({ s with mesh := { s.mesh with cmps := s.mesh.cmps.erase q } } : State).chanAny ch = some x →
    x.vis = [(id, n + 2)] →
    exec (.wrnoallocCmp c) s = .next (tpEnd (resumeCluster (releaseAll (finishJobs (tryAck
      (({ s with mesh := { s.mesh with cmps := s.mesh.cmps.erase q } } : State).setChan ch { x with vis := [(id, n + 1)] }) ch) ch) ch)
      c.val) c.val)) ∧
  (∀ (c : Fin 4) (s : State), s.mesh.cmps = [] → exec (.wrnoallocCmp c) s = .next s)

/-! ### Work queues (spec/08_work_queues.md) -/

/-- Doorbells, consumer indices and arming, on a ready function: an index within its ring of both its partners is taken, any other is
counted and reported with no effect; an armed queue with an entry to show interrupts and disarms; on a function that is not ready, for a
queue it does not have, and during a fatal stop nothing happens (R273, R278, R286, R300, R609). How an MSI-X message is masked is the
model's presumption (notes/assumptions/72.md). -/
def Obligations.IndexWritesAreTestedBeforeTheyAreTaken : Prop :=
  (∀ (f : Fin 1024) (i : Fin 4096) (v : BitVec 32) (q : WqSt) (s : State), fatalStopped s = false → fnReady s f.val = true →
    localWq s f.val i.val = some q → q.watched = false →
    let n := 2 ^ q.logSize
    let e := engBase (engineOf (wqNo s f.val i.val) q)
    (ringDist v.toNat (wqCi s q) ≤ n → ringDist v.toNat (wqPi s q) ≤ n →
      exec (.wqDoorbell f i v) s = .next ((({ s with wq := { s.wq with
        order := if v.toNat = wqCi s q then s.wq.order else addOnce s.wq.order (wqNo s f.val i.val) } }).wri
        (bar2 q.fn) Reg.Bar2.WQ_PI q.idx v.toNat).bump e Reg.Eng.DB_MMIO_CNT)) ∧
    (n < ringDist v.toNat (wqCi s q) ∨ n < ringDist v.toNat (wqPi s q) →
      exec (.wqDoorbell f i v) s =
        .next (raiseEvent (s.bump e Reg.Eng.BAD_PI_CNT) q.fn 0x20 [q.idx, v.toNat, 0, 0]))) ∧
  (∀ (f : Fin 1024) (i : Fin 4096) (v : BitVec 32) (q : WqSt) (s : State), fatalStopped s = false → fnReady s f.val = true →
    localWq s f.val i.val = some q → q.watched = true →
    exec (.wqDoorbell f i v) s = .next (s.bump (engBase (engineOf (wqNo s f.val i.val) q)) Reg.Eng.BAD_PI_CNT)) ∧
  (∀ (f : Fin 1024) (i : Fin 4096) (v : BitVec 32) (x : CqSt) (s : State), fatalStopped s = false → fnReady s f.val = true →
    localCq s f.val i.val = some x →
    exec (.cqCiWrite f i v) s = .next
      (if ringDist (cqPi s x) v.toNat ≤ 2 ^ x.logSize ∧ ringDist v.toNat (cqCi s x) ≤ 2 ^ x.logSize then
        s.wri (bar2 f.val) Reg.Bar2.CQ_CI i.val v.toNat
      else raiseEvent (s.bump (engBase (cqNo s f.val i.val % 16)) Reg.Eng.BAD_PI_CNT) f.val 0x20 [i.val + 2 ^ 16, v.toNat, 0, 0])) ∧
  (∀ (f : Fin 1024) (v : BitVec 32) (s : State), fatalStopped s = false → fnReady s f.val = true →
    exec (.eqCiWrite f v) s = .next
      (if ringDist (s.rd (bar2 f.val) Reg.Bar2.EQ_PI) v.toNat ≤ 2 ^ s.rd (bar2 f.val) Reg.Bar2.EQ_CFG_LOG_SIZE ∧
          ringDist v.toNat (s.rd (bar2 f.val) Reg.Bar2.EQ_CI) ≤ 2 ^ s.rd (bar2 f.val) Reg.Bar2.EQ_CFG_LOG_SIZE then
        s.wr (bar2 f.val) Reg.Bar2.EQ_CI v.toNat
      else raiseEvent (s.bump (engBase (f.val % 16)) Reg.Eng.BAD_PI_CNT) f.val 0x20 [0, v.toNat, 0, 0])) ∧
  (∀ (f : Fin 1024) (i : Fin 4096) (x : CqSt) (s : State), fatalStopped s = false → fnReady s f.val = true →
    localCq s f.val i.val = some x → x.intEn = true →
    let u := s.setCq (cqNo s f.val i.val) { x with armed := false }
    (cqPi s x ≠ cqCi s x → msixOpen s x.fn x.vec = true → exec (.cqArm f i) s = .next (msixWrite u x.fn x.vec)) ∧
    (cqPi s x ≠ cqCi s x → (s.fn x.fn).msixOn = true → msixOpen s x.fn x.vec = false →
      exec (.cqArm f i) s = .next (u.wri (bar2 x.fn) Reg.Msix.PBA (x.vec / 32)
        (setBit (s.rdi (bar2 x.fn) Reg.Msix.PBA (x.vec / 32)) (x.vec % 32)))) ∧
    (cqPi s x ≠ cqCi s x → (s.fn x.fn).msixOn = false → exec (.cqArm f i) s = .next u) ∧
    (cqPi s x = cqCi s x → exec (.cqArm f i) s = .next (s.setCq (cqNo s f.val i.val) { x with armed := true }))) ∧
  (∀ (f : Fin 1024) (i : Fin 4096) (x : CqSt) (s : State), fatalStopped s = false → fnReady s f.val = true →
    localCq s f.val i.val = some x → x.intEn = false →
    exec (.cqArm f i) s = .next (s.setCq (cqNo s f.val i.val) { x with armed := true })) ∧
  (∀ (f : Fin 1024) (s : State), fatalStopped s = false → fnReady s f.val = true → s.on (bar2 f.val) Reg.Bar2.EQ_CFG_EN = true →
    let u := s.setFn f.val { s.fn f.val with eqArmed := true }
    exec (.eqArm f) s = .next (if s.rd (bar2 f.val) Reg.Bar2.EQ_PI ≠ s.rd (bar2 f.val) Reg.Bar2.EQ_CI then
      sendMsix (u.setFn f.val { u.fn f.val with eqArmed := false }) f.val (s.rd (bar2 f.val) Reg.Bar2.EQ_CFG_VEC) else u)) ∧
  (∀ (f : Fin 1024) (i : Fin 4096) (v : BitVec 32) (c : Instr) (s : State),
    fatalStopped s = true ∨ fnReady s f.val = false ∨ localWq s f.val i.val = none ∧ localCq s f.val i.val = none →
    c ∈ [Instr.wqDoorbell f i v, .cqCiWrite f i v, .cqArm f i] → exec c s = .next s) ∧
  (∀ (f : Fin 1024) (v : BitVec 32) (s : State), fatalStopped s = true ∨ fnReady s f.val = false →
    exec (.eqCiWrite f v) s = .next s ∧ exec (.eqArm f) s = .next s) ∧
  (∀ (f : Fin 1024) (i : Fin 2048) (v : BitVec 32) (s : State), fatalStopped s = false → s.boot.hardTrip = false →
    (s.fn f.val).msixOn = true → (s.fn f.val).msixMask = false → msixPending s f.val i.val = true → v.toNat % 2 = 0 →
    exec (.registerWrite (.queue f (BitVec.ofNat 18 (0x3800C + 16 * i.val)) v 15)) s =
      .next (msixWrite ((s.wri (bar2 f.val) Reg.Msix.MASK i.val v.toNat).wri (bar2 f.val) Reg.Msix.PBA (i.val / 32)
        (s.rdi (bar2 f.val) Reg.Msix.PBA (i.val / 32) - 2 ^ (i.val % 32))) f.val i.val))

/-- Watched lines are read again after each snoop and at each poll; entries come on die in ring order, while the engine's buffer has room
behind the doorbells that came before, and move WQ_CI; fragment tables are read; an engine takes entries as its two-level arbiter has it,
each through the ordered checks; indices are written back (R279, R280, R283, R284, R288, R289, R291 to R293, R304). -/
def Obligations.WatchedLinesAndEntriesMove : Prop :=
  (∀ (f : Fin 1024) (a : BitVec 64) (w : WatchSt) (s : State),
    s.wq.lines.find? (fun w => w.fn == f.val && w.addr == a.toNat) = some w →
    exec (.watchedLineSnoop f a) s = .next
      (if w.reading = true then mapLine s f.val a.toNat (fun k => { k with again := true })
      else lineCount (mapLine s f.val a.toNat (fun k => { k with reading := true })) f.val a.toNat Reg.Eng.DB_WATCH_CNT)) ∧
  (∀ (f : Fin 1024) (a : BitVec 64) (data : Option (List Byte)) (w : WatchSt) (l : List Chunk) (s t : State),
    s.wq.lines.find? (fun w => w.fn == f.val && w.addr == a.toNat) = some w → w.reading = true → clusterLost s w.cluster = false →
    xlate s f.val a.toNat 64 (accLocal false) = (.ok l, t) → watchedLine l = none →
    exec (.watchedLineReadDone f a data) s = .next (lineReadEnds
      (if gatherBad t l = true ∨ (data = none ∧ outside l = true) then lineFault t f.val a.toNat
      else applyLine t f.val a.toNat (gather t l (data.getD []))) w)) ∧
  (∀ (f : Fin 1024) (a : BitVec 64) (data : Option (List Byte)) (w : WatchSt) (l : List Chunk) (n : Nat) (s t : State),
    s.wq.lines.find? (fun w => w.fn == f.val && w.addr == a.toNat) = some w → w.reading = true → clusterLost s w.cluster = false →
    xlate s f.val a.toNat 64 (accLocal false) = (.ok l, t) → watchedLine l = some n →
    exec (.watchedLineReadDone f a data) s = .next (readPoolLine t w n)) ∧
  (∀ (w : WatchSt) (s : State), w.again = false →
    lineReadEnds s w = mapLine s w.fn w.addr (fun k => { k with reading := k.again, again := false })) ∧
  (∀ (f : Fin 1024) (a : BitVec 64) (data : Option (List Byte)) (s : State),
    (∀ w ∈ s.wq.lines.find? (fun w => w.fn == f.val && w.addr == a.toNat), w.reading = false ∨ clusterLost s w.cluster = true) →
    exec (.watchedLineReadDone f a data) s = .next s) ∧
  (∀ (w : WatchSt) (s : State), s.rd fnTab Reg.FnTab.WATCH_POLL_US ≠ 0 → s.wq.lines = [w] →
    exec .watchPollTimer s = .next (lineCount (mapLine s w.fn w.addr (fun k => { k with reading := true })) w.fn w.addr
      Reg.Eng.WATCH_POLL_CNT)) ∧
  (∀ s : State, s.rd fnTab Reg.FnTab.WATCH_POLL_US = 0 → exec .watchPollTimer s = .next s) ∧
  (∀ (g : Fin 65536) (data : Option (List Byte)) (q : WqSt) (l : List Chunk) (s t : State), s.wqAt g.val = some q →
    clusterLost s q.cluster = false → (s.fn q.fn).resetting = false → wqCi s q ≠ wqPi s q → q.fetched.length < q.prefetch →
    fetchRoom s (engineOf g.val q) g.val = true →
    xlate s q.fn (q.ring + 64 * (wqCi s q % 2 ^ q.logSize)) 64 (accLocal false) = (.ok l, t) →
    let b := if gatherBad t l = true ∨ (data = none ∧ outside l = true) then none else some (gather t l (data.getD []))
    let v := t.setWq g.val { q with fetched := q.fetched ++ [{ index := wqCi s q, bytes := b, table := none, asked := false }] }
    let u := trailStart v (sendItem v (engineOf g.val q) g.val (wqCi s q) q.fn (b.getD []))
    exec (.wqEntryArrive g data) s = .next (pfSync ((if (wqCi s q + 1) % 2 ^ 32 = wqPi u q then
        { u with wq := { u.wq with order := u.wq.order.erase g.val } } else u).wri (bar2 q.fn) Reg.Bar2.WQ_CI q.idx (wqCi s q + 1))
      (engineOf g.val q))) ∧
  (∀ (g : Fin 65536) (data : Option (List Byte)) (s : State), (∀ q ∈ s.wqAt g.val, clusterLost s q.cluster = true ∨
      (s.fn q.fn).resetting = true ∨ wqCi s q = wqPi s q ∨ q.prefetch ≤ q.fetched.length ∨ fetchRoom s (engineOf g.val q) g.val = false) →
    exec (.wqEntryArrive g data) s = .next s) ∧
  (∀ (g : Fin 65536) (data : Option (List Byte)) (q : WqSt) (x : Fetched) (rest : List Fetched) (b : List Byte) (s : State),
    s.wqAt g.val = some q → q.fetched = x :: rest → x.bytes = some b → x.table = none → weKind b = 2 → leAt b 0x20 8 % 16 ≠ 0 →
    exec (.fragTableReadDone g data) s = .next (s.setWq g.val { q with fetched := { x with table := some none } :: rest })) ∧
  (∀ (g : Fin 65536) (d : List Byte) (q : WqSt) (x : Fetched) (rest : List Fetched) (b : List Byte) (va : Nat) (l : List Chunk)
      (s t u : State), s.wqAt g.val = some q → q.fetched = x :: rest → x.bytes = some b → x.table = none → weKind b = 2 →
    leAt b 0x20 8 % 16 = 0 → keyCheck s q.fn (leAt b 0x2C 4) (leAt b 0x20 8) (16 * weTblCount b) rLRead = (.ok va, t) →
    xlate t q.fn va (16 * weTblCount b) { accLocal false with key := leAt b 0x2C 4 / 256 } = (.ok l, u) → gatherBad u l = false →
    exec (.fragTableReadDone g (some d)) s = .next (u.setWq g.val { q with
      fetched := { x with table := some (some (tableOf (gather u l d) (weTblCount b))) } :: rest })) ∧
  (∀ (g : Fin 65536) (data : Option (List Byte)) (s : State),
    (∀ q ∈ s.wqAt g.val, ∀ x ∈ q.fetched.head?, x.bytes = none ∨ x.table ≠ none ∨ ∀ b ∈ x.bytes, weKind b ≠ 2) →
    exec (.fragTableReadDone g data) s = .next s) ∧
  (∀ (e : Fin 16) (s : State), fatalStopped s = false →
    exec (.wqEntryTake e) s = .next (tpEnd (takeAt s e.val).2 (e.val / 4))) ∧
  (∀ (e : Fin 16) (s : State), fatalStopped s = true → exec (.wqEntryTake e) s = .next s) ∧
  (∀ (g : Nat) (q : WqSt) (s : State), s.wqAt g = some q →
    (q.fetched = [] ∨ q.waiting = true ∨ (s.fn q.fn).resetting = true ∨ ∀ c ∈ s.cqAt (cqNo s q.fn q.cq), cqRoom s c 1 = false) →
    tryTake s g = (false, s)) ∧
  (∀ (s : State) (g : Nat) (q : WqSt) (x : Fetched) (b : List Byte),
    (x.bytes = none → checkEntry s g q x = (.fail stEntryFault, s)) ∧
    (x.bytes = some b → weOp b ≠ 4 → weOp b ≠ 0x10 → weFields s b = false → checkEntry s g q x = (.fail stBadEntry, s)) ∧
    (x.bytes = some b → weOp b ∈ [1, 2, 3, 5] → weFields s b = true → (clusterOf (weChan b) ≠ q.cluster ∨ ctxExists s (weChan b) = false) →
      checkEntry s g q x = (.fail stBadChannel, s))) ∧
  (∀ (g : Fin 65536) (q : WqSt) (l : List Chunk) (s t : State), s.wqAt g.val = some q → wqCi s q ≠ q.wbCi → within s q.wbAt 256 = false →
    q.wb ≠ 0 → xlate s q.fn q.wb 4 (accLocal true) = (.ok l, t) →
    exec (.indexWriteback (.wq g)) s = .next ((scatter t l (leBytes (wqCi s q) 4) false).setWq g.val
      { q with wbCi := wqCi s q, wbAt := some (scatter t l (leBytes (wqCi s q) 4) false).now })) ∧
  (∀ (g : Fin 65536) (q : WqSt) (s t : State), s.wqAt g.val = some q → wqCi s q ≠ q.wbCi → within s q.wbAt 256 = false →
    q.wb ≠ 0 → xlate s q.fn q.wb 4 (accLocal true) = (.fault, t) →
    exec (.indexWriteback (.wq g)) s = .next (raiseEvent (t.setWq g.val { q with wbCi := wqCi s q, wbAt := some t.now })
      q.fn 0x23 [q.idx, 0, 0, 0])) ∧
  (∀ (g : Fin 65536) (x : CqSt) (l : List Chunk) (s t : State), s.cqAt g.val = some x → cqPi s x ≠ x.wbPi → within s x.wbAt 256 = false →
    x.wb ≠ 0 → xlate s x.fn x.wb 4 (accLocal true) = (.ok l, t) →
    exec (.indexWriteback (.cq g)) s = .next (cqFire ((scatter t l (leBytes (cqPi s x) 4) false).setCq g.val
      { x with wbPi := cqPi s x, wbAt := some (scatter t l (leBytes (cqPi s x) 4) false).now }) g.val)) ∧
  (∀ (g : Fin 65536) (s : State),
    ((∀ q ∈ s.wqAt g.val, wqCi s q = q.wbCi ∨ within s q.wbAt 256 = true) → exec (.indexWriteback (.wq g)) s = .next s) ∧
    ((∀ x ∈ s.cqAt g.val, cqPi s x = x.wbPi ∨ within s x.wbAt 256 = true) → exec (.indexWriteback (.cq g)) s = .next s))

/-- The function table and the commands of a queue BAR: VALID takes good ranges, clearing it resets the queues; a queue reset leaves
none of the function's queues and ends at QUEUE_RESET_DONE; each OP of CMD starts its own command, whose RESULT shows with BUSY 0, and a
function that is not ready or busy discards it; CNT_CLR of an engine clears its counters (R274, R305, R306, R308 to R310). -/
def Obligations.QueueCommandsRunOnReadyFunctions : Prop :=
  (∀ (r : Route) (f : Fin 1024) (s : State), Takes s r (fnTab + 0x101C + 32 * f.val) → fnRd s f.val Reg.FnTab.FN_VALID = 0 →
    (fnRangesGood s f.val = true → exec (.fnValidWrite r f true) s = .next (fnShow (s.wri fnTab Reg.FnTab.FN_VALID f.val 1) f.val)) ∧
    (fnRangesGood s f.val = false → exec (.fnValidWrite r f true) s = .next (configError s (.cluster 0))) ∧
    exec (.fnValidWrite r f false) s = .next s) ∧
  (∀ (r : Route) (f : Fin 1024) (s : State), Takes s r (fnTab + 0x101C + 32 * f.val) → fnRd s f.val Reg.FnTab.FN_VALID = 1 →
    exec (.fnValidWrite r f true) s = .next s ∧
    exec (.fnValidWrite r f false) s = .next (fnShow ((queueReset s f.val).wri fnTab Reg.FnTab.FN_VALID f.val 0) f.val)) ∧
  (∀ (f : Fin 1024) (s : State), fatalStopped s = false → exec (.queueReset f) s = .next (queueReset s f.val)) ∧
  (∀ (f : Fin 1024) (s : State), fatalStopped s = true → exec (.queueReset f) s = .next s) ∧
  (∀ (f : Nat) (s : State), (∀ kv ∈ (dropQueues s f).wq.wqs, kv.2.fn ≠ f) ∧ (∀ kv ∈ (dropQueues s f).wq.cqs, kv.2.fn ≠ f) ∧
    (∀ w ∈ (dropQueues s f).wq.lines, w.fn ≠ f) ∧
    (∀ k, bar2 f ≤ k / 32 → k / 32 < bar2 f + 0x34000 → look (dropQueues s f).regs k = none)) ∧
  (∀ (f : Fin 1024) (s : State), (s.fn f.val).resetting = true → (∀ t ∈ liveTags s, t.fn ≠ f.val) → (∀ k ∈ s.tp.scans, k.fn ≠ f.val) →
    Ends (exec (.queueResetDone f) s) (fun t => (t.fn f.val).resetting = false ∧ { t with regs := s.regs, fns := s.fns } = s)) ∧
  (∀ (f : Fin 1024) (s : State), (s.fn f.val).resetting = false ∨ (∃ t ∈ liveTags s, t.fn = f.val) ∨ (∃ k ∈ s.tp.scans, k.fn = f.val) →
    exec (.queueResetDone f) s = .next s) ∧
  (∀ (f : Fin 1024) (s : State), fatalStopped s = false → fnReady s f.val = true →
    s.on (bar2 f.val) Reg.Bar2.CMD_STATUS_BUSY = false →
    let go := fun op => (s.wr (bar2 f.val) Reg.Bar2.CMD_OP op).wr (bar2 f.val) Reg.Bar2.CMD_STATUS_BUSY 1
    exec (.wqCreate f) s = .next (qRun (go 1) f.val 1) ∧ exec (.wqModify f) s = .next (qRun (go 2) f.val 2) ∧
    exec (.cqCreate f) s = .next (qRun (go 3) f.val 3) ∧ exec (.wqQuery f) s = .next (qRun (go 4) f.val 4) ∧
    exec (.cqQuery f) s = .next (qRun (go 5) f.val 5) ∧ exec (.chOpen f) s = .next (fnChanRun (go 8) f.val 8) ∧
    exec (.chModify f) s = .next (fnChanRun (go 9) f.val 9) ∧ exec (.chClose f) s = .next (fnChanRun (go 10) f.val 10) ∧
    exec (.chCloseForce f) s = .next (fnChanRun (go 11) f.val 11) ∧ exec (.chQuery f) s = .next (fnChanRun (go 12) f.val 12)) ∧
  (∀ (f : Fin 1024) (i : Instr) (s : State),
    fatalStopped s = true ∨ fnReady s f.val = false ∨ s.on (bar2 f.val) Reg.Bar2.CMD_STATUS_BUSY = true →
    i ∈ [Instr.wqCreate f, .wqModify f, .cqCreate f, .wqQuery f, .cqQuery f, .chOpen f, .chModify f, .chClose f, .chCloseForce f,
      .chQuery f] → exec i s = .next s) ∧
  (∀ (f op : Nat) (s : State),
    op ∈ [1, 2, 4] ∧ fnRd s f Reg.FnTab.FN_WQ_COUNT ≤ s.rd (bar2 f) Reg.Bar2.CMD_ARG ∨
      op ∈ [3, 5] ∧ fnRd s f Reg.FnTab.FN_CQ_COUNT ≤ s.rd (bar2 f) Reg.Bar2.CMD_ARG →
    (qRun s f op).rd (bar2 f) Reg.Bar2.CMD_STATUS_RESULT = 1 ∧ (qRun s f op).rd (bar2 f) Reg.Bar2.CMD_STATUS_BUSY = 0 ∧
    (qRun s f op).wq = s.wq) ∧
  (∀ (f : Nat) (q : WqSt) (s : State), s.rd (bar2 f) Reg.Bar2.CMD_ARG < fnRd s f Reg.FnTab.FN_WQ_COUNT →
    localWq s f (s.rd (bar2 f) Reg.Bar2.CMD_ARG) = some q →
    qRun s f 1 = qDone s f 2 ∧ qRun s f 4 = qDone (putImage s (some f) 0 (wqImage s q)) f 0) ∧
  (∀ (f : Nat) (s : State), s.rd (bar2 f) Reg.Bar2.CMD_ARG < fnRd s f Reg.FnTab.FN_WQ_COUNT →
    localWq s f (s.rd (bar2 f) Reg.Bar2.CMD_ARG) = none →
    qRun s f 1 = wqCreateRun s f (s.rd (bar2 f) Reg.Bar2.CMD_ARG) ∧ qRun s f 2 = qDone s f 2 ∧ qRun s f 4 = qDone s f 2) ∧
  (∀ (r : Route) (e : Fin 16) (s : State), Takes s r (engBase e.val + 0x50) →
    Ends (exec (.engineCntClr r e) s) (fun t =>
      let cs := [Reg.Eng.TAKEN_CNT, Reg.Eng.ERR_COMPL_CNT, Reg.Eng.DB_MMIO_CNT, Reg.Eng.DB_WATCH_CNT, Reg.Eng.WATCH_POLL_CNT,
        Reg.Eng.BAD_PI_CNT, Reg.Eng.CQ_FAULT_CNT]
      (∀ c ∈ cs, t.rd (engBase e.val) c = 0) ∧ OnlyFields (cs.map (Field.key · (engBase e.val))) s t))

/-! ### Matching (spec/09_matching.md) -/

/-- The matching unit: doorbells are tested, receive entries are filed, bound, cancelled or refused, overflow entries move on die in
order, receives complete, domains are enabled, disabled and aborted, counters clear; a unit that is off does nothing (R53, R273, R278,
R319, R321, R324 to R326, R330, R333, R335, R336, R342, R344, R345). -/
def Obligations.ReceiveEntriesAreFiledBoundOrRefused : Prop :=
  (∀ (f : Fin 1024) (j : Fin 256) (v : BitVec 32) (s : State), fatalStopped s = false → unitOff s .matching = false →
    fnReady s f.val = true → j.val < s.rdi mtBase Reg.Mt.FN_DOM_DOM_COUNT f.val →
    exec (.rqDoorbell f j v) s = .next
      (if ringDist v.toNat (drd s f.val j.val Reg.Dom.RQ_CI) ≤ 2 ^ drd s f.val j.val Reg.Dom.DOM_CFG_LOG_SIZE ∧
          ringDist v.toNat (drd s f.val j.val Reg.Dom.RQ_PI) ≤ 2 ^ drd s f.val j.val Reg.Dom.DOM_CFG_LOG_SIZE then
        s.wri (bar2 f.val) Reg.Dom.RQ_PI j.val v.toNat
      else raiseEvent (s.bump (engBase ((s.rdi mtBase Reg.Mt.FN_DOM_DOM_FIRST f.val + j.val) % 16)) Reg.Eng.BAD_PI_CNT) f.val 0x20
        [j.val, v.toNat, 0, 0])) ∧
  (∀ (f : Fin 1024) (j : Fin 256) (v w : BitVec 32) (i : Instr) (s : State),
    fatalStopped s = true ∨ unitOff s .matching = true ∨ fnReady s f.val = false ∨ s.rdi mtBase Reg.Mt.FN_DOM_DOM_COUNT f.val ≤ j.val →
    i ∈ [Instr.rqDoorbell f j v, .domainEnable f j w, .domainDisable f j w] → exec i s = .next s) ∧
  (∀ (d : Fin 4096) (data : Option (List Byte)) (f j : Nat) (q : CqSt) (l : List Chunk) (s t : State), unitOff s .matching = false →
    domOwner s d.val = some (f, j) → fnReady s f = true → domOn s f j = true →
    drd s f j Reg.Dom.RQ_CI ≠ drd s f j Reg.Dom.RQ_PI → s.cqAt (cqNo s f (drd s f j Reg.Dom.DOM_CFG_CQ)) = some q →
    cqRoom s q 1 = true →
    xlate s f (drd64 s f j Reg.Dom.RQ_BASE_LO Reg.Dom.RQ_BASE_HI +
      64 * (drd s f j Reg.Dom.RQ_CI % 2 ^ drd s f j Reg.Dom.DOM_CFG_LOG_SIZE)) 64 (accLocal false) = (.ok l, t) →
    let i := drd s f j Reg.Dom.RQ_CI
    let b := gather t l (data.getD [])
    (gatherBad t l = true ∨ (data = none ∧ outside l = true) →
      exec (.recvEntryTake d data) s = .next (endRecv (takeSlot t f j i) d.val kTaggedRecv stEntryFault i 0)) ∧
    (gatherBad t l = false → data.isSome = true → reKind b = 1 →
      exec (.recvEntryTake d data) s = .next (tpSyncAll (payFins (takePost t d.val f j i b)))) ∧
    (gatherBad t l = false → data.isSome = true → reKind b = 2 → reLen b ≤ 2 ^ 31 →
      exec (.recvEntryTake d data) s = .next (takeCancel t d.val f j i b)) ∧
    (gatherBad t l = false → data.isSome = true → reKind b ≠ 1 → reKind b ≠ 2 →
      exec (.recvEntryTake d data) s = .next (endRecv (takeSlot t f j i) d.val kTaggedRecv stBadRecv i 0))) ∧
  (∀ (d : Fin 4096) (data : Option (List Byte)) (s : State), unitOff s .matching = true ∨
      (∀ fj ∈ domOwner s d.val, fnReady s fj.1 = false ∨ domOn s fj.1 fj.2 = false ∨
        drd s fj.1 fj.2 Reg.Dom.RQ_CI = drd s fj.1 fj.2 Reg.Dom.RQ_PI) →
    exec (.recvEntryTake d data) s = .next s) ∧
  (∀ (s : State) (d f j i : Nat) (b : List Byte), findUx (s.dom d) (postOf b (s.dom d).postSeq i) = none →
    postRoom s d f j = some true → reLen b = 0 → (∀ u ∈ (s.dom d).ux, u.onDie = true) →
    let u := countSearch (takeSlot s f j i) d false
    takePost s d f j i b = cntCM ((u.setDom d { u.dom d with
        fullPost := false
        posted := (s.dom d).posted ++
          [{ postOf b (s.dom d).postSeq i with va := (postOf b (s.dom d).postSeq i).addr, onDie := true }]
        postSeq := ((s.dom d).postSeq + 1) % 2 ^ 32 }).bump mtBase Reg.Mt.POST_FILED_CNT) .matching 0x105 1 none (some d)) ∧
  (∀ (s : State) (d f j i : Nat) (b : List Byte) (p : PostEnt),
    (s.dom d).posted.find? (fun p => p.index == reCancel b) = some p →
    takeCancel s d f j i b = endRecv (completeRecv ((takeSlot s f j i).setDom d { s.dom d with posted := (s.dom d).posted.erase p })
      d kTaggedRecv 0x24 p.index 0 0 0 0 0) d kRecvCancel 0 i (reCancel b)) ∧
  (∀ (s : State) (d f j i : Nat) (b : List Byte), (∀ p ∈ (s.dom d).posted, p.index ≠ reCancel b) →
    takeCancel s d f j i b = endRecv (takeSlot s f j i) d kRecvCancel 0x26 i (reCancel b)) ∧
  (∀ (d : Fin 4096) (s : State), unitOff s .matching = false → Ends (exec (.overflowMove d) s) (fun t =>
    ((t.dom d.val).posted.map (fun p => { p with onDie := true })) = ((s.dom d.val).posted.map (fun p => { p with onDie := true })) ∧
    ((t.dom d.val).ux.map (fun u => { u with onDie := true })) = ((s.dom d.val).ux.map (fun u => { u with onDie := true })) ∧
    (∀ (i : Nat), (((s.dom d.val).posted[i]?).any (fun (p : PostEnt) => p.onDie)) = true →
      (((t.dom d.val).posted[i]?).any (fun (p : PostEnt) => p.onDie)) = true) ∧
    (∀ e, e ≠ d.val → t.dom e = s.dom e) ∧
    (∀ k, k / 32 < bar2 0 → k ≠ Reg.Mt.PR_ON_DIE.key mtBase → k ≠ Reg.Mt.UX_ON_DIE.key mtBase → look t.regs k = look s.regs k) ∧
    { t with doms := s.doms, regs := s.regs } = s)) ∧
  (∀ (d : Fin 4096) (s : State), unitOff s .matching = true → exec (.overflowMove d) s = .next s) ∧
  (∀ (d : Fin 4096) (index : BitVec 32) (b : BoundEnt) (s : State), unitOff s .matching = false →
    (s.dom d.val).bound.find? (fun b => b.index == index.toNat && !b.rts && b.slot.isNone && b.arrived) = some b →
    exec (.eagerRecvDone d index) s = .next (if msgHidden s b = true then s
      else endBound s d.val b (if b.fault then 0x12 else if b.len < b.msgLen then 0x23 else 0))) ∧
  (∀ (d : Fin 4096) (index : BitVec 32) (data : Option (List Byte)) (s : State),
    unitOff s .matching = true ∨ (∀ b ∈ (s.dom d.val).bound, b.index ≠ index.toNat) →
    exec (.eagerRecvDone d index) s = .next s ∧ exec (.uxCopyDone d index data) s = .next s) ∧
  (∀ (d : Fin 4096) (index : BitVec 32) (data : Option (List Byte)) (b : BoundEnt) (f j slot : Nat) (l w : List Chunk) (s t u : State),
    unitOff s .matching = false →
    (s.dom d.val).bound.find? (fun b => b.index == index.toNat && !b.rts && b.arrived) = some b → domOwner s d.val = some (f, j) →
    b.slot = some slot → msgHidden s b = false → 0 < Nat.min b.msgLen b.len →
    xlate s f (drd64 s f j Reg.Dom.UX_BASE_LO Reg.Dom.UX_BASE_HI + 8192 * slot) (Nat.min b.msgLen b.len) (accLocal false) = (.ok l, t) →
    gatherBad t l = false → data.isSome = true → xlate t f b.va (Nat.min b.msgLen b.len) (accLocal true) = (.ok w, u) →
    exec (.uxCopyDone d index data) s =
      .next (endBound (scatter u w (gather u l (data.getD [])) false) d.val b (recvStatus b))) ∧
  (∀ (ch : Fin 1048576) (x : ChanSt) (k : Job) (d i : Nat) (b : BoundEnt) (s : State), s.chanAny ch.val = some x →
    x.jobs.find? (fun k => jobReady x k && (match k.src with | .rndv .. => true | _ => false)) = some k → k.src = .rndv d i →
    (s.dom d).bound.find? (fun b => b.index == i && b.rts && b.ch == ch.val) = some b →
    let status := if k.killed = true then 0x22 else if k.poison = true then 0x11 else if k.writeFault = true ∨ b.fault = true then 0x12
      else if b.len < b.msgLen then 0x23 else 0
    let fin := if k.killed = true then 2 else if k.poison = true ∨ k.writeFault = true then 3 else if b.len < b.msgLen then 1 else 0
    exec (.rndvJobDone ch) s = .next (tpEnd (addFin (endBound (s.setChan ch.val { x with jobs := x.jobs.filter (· != k) }) d b status)
      ch.val fin b.psn k.len) (clusterOf ch.val))) ∧
  (∀ (ch : Fin 1048576) (s : State), (∀ x ∈ s.chanAny ch.val, x.jobs = []) → exec (.rndvJobDone ch) s = .next s) ∧
  (∀ (f : Fin 1024) (j : Fin 256) (w : BitVec 32) (d : Nat) (s : State), fatalStopped s = false → unitOff s .matching = false →
    domOfLocal s f.val j.val = some d →
    (domOn s f.val j.val = false →
      exec (.domainEnable f j w) s = .next (domEnable (domCfgWord s f.val j.val d w.toNat) f.val j.val d) ∧
      exec (.domainDisable f j w) s = .next (domCfgWord (s.setDom d { s.dom d with enabling := false }) f.val j.val d w.toNat)) ∧
    (domOn s f.val j.val = true →
      exec (.domainEnable f j w) s = .next s ∧ exec (.domainDisable f j w) s = .next (tpSyncAll (payFins (domReset s d))))) ∧
  (∀ (s t : State) (f j d : Nat) (q : CqSt), localCq s f (drd s f j Reg.Dom.DOM_CFG_CQ) = some q →
    drd64 s f j Reg.Dom.RQ_BASE_LO Reg.Dom.RQ_BASE_HI % (64 * 2 ^ drd s f j Reg.Dom.DOM_CFG_LOG_SIZE) = 0 →
    rangesGood s f (domRanges s f j) = (some true, t) →
    drd (domEnable s f j d) f j Reg.Dom.DOM_CFG_EN = 1 ∧ drd (domEnable s f j d) f j Reg.Dom.DOM_STATUS_CFG_ERR = 0 ∧
    ((domEnable s f j d).dom d).used = true) ∧
  (∀ (s : State) (f j d : Nat), localCq s f (drd s f j Reg.Dom.DOM_CFG_CQ) = none ∨
    drd64 s f j Reg.Dom.RQ_BASE_LO Reg.Dom.RQ_BASE_HI % (64 * 2 ^ drd s f j Reg.Dom.DOM_CFG_LOG_SIZE) ≠ 0 →
    drd (domEnable s f j d) f j Reg.Dom.DOM_STATUS_CFG_ERR = 1) ∧
  (∀ (d : Fin 4096) (s : State), exec (.matchListEccError d) s =
    .next (tpSyncAll (payFins (domLost (recordError s (ErrRec.ecc .matching false 0 d.val)) d.val)))) ∧
  (∀ (r : Route) (s : State), Takes s r (mtBase + 0x4C) → Ends (exec (.matchCntClr r) s) (fun t =>
    let cs := [Reg.Mt.HEAD_BOUND_CNT, Reg.Mt.HEAD_FILED_CNT, Reg.Mt.POST_BOUND_CNT, Reg.Mt.POST_FILED_CNT, Reg.Mt.OVF_SEARCH_CNT,
      Reg.Mt.RNDV_JOB_CNT, Reg.Mt.TRUNC_CNT, Reg.Mt.CANCEL_CNT, Reg.Mt.NOSPACE_NAK_CNT, Reg.Mt.FIN_STALE_CNT, Reg.Mt.RQ_STALL_CNT,
      Reg.Mt.ABORT_CNT]
    (∀ c ∈ cs, t.rd mtBase c = 0) ∧ OnlyFields (cs.map (Field.key · mtBase)) s t))
/-! ### Collectives (spec/10_collectives.md) -/

/-- Outing commands: CREATE of a FREE slot whose entry passes takes its Basket units and makes it ACTIVE, and answers 2, 3 or 4
otherwise; ABORT makes an ACTIVE slot ABORTED; REBUILD needs an ABORTED slot and a new GEN; DESTROY frees the slot and its units; a
unit that is off discards them (R53, R348, R350, R369, R370, R373). -/
def Obligations.OutingCommandsAnswerTheirResult : Prop :=
  (∀ (r : Route) (s : State), Takes s r (clBase + 0x40) → unitOff s .collective = false → s.rd clBase Reg.Cl.OUT_STATUS_BUSY = 0 →
    let o := s.rd clBase Reg.Cl.OUT_CMD_SLOT
    let done := fun (x : Nat × State) => Host.Outcome.next (x.2.wr clBase Reg.Cl.OUT_STATUS_RESULT x.1)
    exec (.outingCreate r) s = done (runCreate (s.wr clBase Reg.Cl.OUT_CMD_OP 1) o) ∧
    exec (.outingAbort r) s = done (runAbort (s.wr clBase Reg.Cl.OUT_CMD_OP 2) o) ∧
    exec (.outingRebuild r) s = done (runRebuild (s.wr clBase Reg.Cl.OUT_CMD_OP 3) o) ∧
    exec (.outingDestroy r) s = done (runDestroy (s.wr clBase Reg.Cl.OUT_CMD_OP 4) o)) ∧
  (∀ (r : Route) (i : Instr) (s : State), Takes s r (clBase + 0x40) → unitOff s .collective = true →
    i ∈ [Instr.outingCreate r, .outingAbort r, .outingRebuild r, .outingDestroy r] → exec i s = .next s) ∧
  (∀ (s : State) (o : Nat), o < 256 →
    (oState s o ≠ oFree → runCreate s o = (2, s)) ∧
    (oState s o = oFree → entryGood s o = false → runCreate s o = (3, s)) ∧
    (oState s o = oFree → entryGood s o = true → s.rd clBase Reg.Cl.BASKET_FREE < basketUnits s o → runCreate s o = (4, s)) ∧
    (oState s o = oFree → entryGood s o = true → basketUnits s o ≤ s.rd clBase Reg.Cl.BASKET_FREE →
      runCreate s o = (0, activate s o (basketUnits s o))) ∧
    (oState s o = oFree → entryGood s o = true → basketUnits s o ≤ s.rd clBase Reg.Cl.BASKET_FREE → memberFns s o = [] →
      (runCreate s o).1 = 0 ∧ oState (runCreate s o).2 o = oActive ∧
      ((runCreate s o).2.outing o).gen = ord s o Reg.Out.GEN ∧ ord (runCreate s o).2 o Reg.Out.NEXT_CALL = 0 ∧
      (runCreate s o).2.rd clBase Reg.Cl.BASKET_FREE = (s.rd clBase Reg.Cl.BASKET_FREE - basketUnits s o) % 2 ^ 13) ∧
    (oState s o = oFree → runAbort s o = (2, s) ∧ runDestroy s o = (2, s) ∧ runRebuild s o = (2, s)) ∧
    (oState s o = oActive → runRebuild s o = (2, s)) ∧
    (oState s o = oActive → (s.outing o).contribs = [] → memberFns s o = [] →
      (runAbort s o).1 = 0 ∧ oState (runAbort s o).2 o = oAborted ∧ ord (runAbort s o).2 o Reg.Out.ABORT_CAUSE = 1 ∧
      (runAbort s o).2.outing o = { OutingSt.init with gen := (s.outing o).gen }) ∧
    (oState s o = oAborted → runAbort s o = (0, s)) ∧
    (oState s o = oAborted → (entryGood s o = false ∨ (s.outing o).gen = ord s o Reg.Out.GEN) → runRebuild s o = (3, s))) ∧
  (∀ (s : State) (o : Nat), o < 256 → oState s o ≠ oFree →
    (runDestroy s o).1 = 0 ∧ oState (runDestroy s o).2 o = oFree ∧ (runDestroy s o).2.outing o = OutingSt.init)

/-- The engine's work: reads that return supply their segment or abort the Outing, the oldest complete segment is combined and turns or
goes up, accepted packets reach their rules, HOLD and ABORT theirs, and others are counted, a result write's Cmp, the retransmit timer,
Basket errors, CNT_CLR (R20, R31, R356 to R361, R368, R369, R374). -/
def Obligations.CollectiveSegmentsMoveUpAndDown : Prop :=
  (∀ (o : Fin 256) (k : Fin 64) (data : Option (List Byte)) (c : Contrib) (id seg b : Nat) (l : List Chunk) (s : State),
    (s.outing o.val).contribs.find? (fun c => c.slot == k.val && c.reading.isSome) = some c → c.reading = some (id, l, seg) →
    callStart s o.val c.call = some b → readDone s id = true →
    let r := refOf s o.val c.call
    let d := readData s id l (data.getD [])
    exec (.collSourceReadDone o k data) s = .next
      (if d.2 = true ∨ (data = none ∧ outside l = true) then abortOuting (endRead s id) o.val 5 none
      else collPump (mapContrib (supply (endRead s id) o.val (psnAdd b seg) c.call seg c.slot
        (r.segs == some (seg + 1)) (toWire r (ord s o.val Reg.Out.HEADROOM) d.1
          (segElems r.rmode r.dtype (contribElems c r) seg))) o.val c.id (fun q => { q with reading := none, next := seg + 1 })) o.val)) ∧
  (∀ (o : Fin 256) (k : Fin 64) (data : Option (List Byte)) (s : State),
    (∀ c ∈ (s.outing o.val).contribs, c.slot = k.val → c.reading = none) →
    exec (.collSourceReadDone o k data) s = .next (if oState s o.val = oActive then collPump s o.val else s)) ∧
  (∀ (o : Fin 256) (psn : Nat) (g : SegSt) (s : State), oState s o.val = oActive → readySeg s o.val = some (psn, g) →
    basketBusy s o.val psn = false →
    let r := refOf s o.val g.call
    let l := (childSlots s o.val).filterMap (fun k => look g.inputs k)
    let c := segResult r l
    let u := clEvent (clEvent s o.val 0x100 1) o.val 0x101 (l.foldl (fun m q => m + q.bytes.length) 0)
    let v := if bitOf c.flags 0 = true ∧ (∀ q ∈ (deviceChildren s o.val).filterMap (fun k => look g.inputs k), bitOf q.flags 0 = false)
      then clEvent (u.bump clBase Reg.Cl.CLIP_CNT) o.val 0x102 1 else u
    (r.op = opBroadcast → ord s o.val Reg.Out.ROOT = 1 → r.n ≠ some 0 → (∀ q ∈ l, q.count = 0) →
      exec (.segmentCombine o) s = .next (abortOuting s o.val 4 none)) ∧
    (ord s o.val Reg.Out.ROOT = 1 → r.op ≠ opBroadcast ∨ r.n = some 0 ∨ (∃ q ∈ l, q.count ≠ 0) →
      exec (.segmentCombine o) s = .next (turnSeg v o.val psn { g with out := some c } g.last (rootFlags r c))) ∧
    (ord s o.val Reg.Out.ROOT ≠ 1 →
      let w := mapSeg v o.val psn (fun q => { q with out := some c, sent := true })
      exec (.segmentCombine o) s = .next (collPump (collSend w (collPacket w o.val true (ord w o.val Reg.Out.PARENT)
        (ord w o.val Reg.Out.UP_SLOT) psn r g.seg g.last (if r.op = opBroadcast then .empty else c))) o.val))) ∧
  (∀ (o : Fin 256) (s : State), oState s o.val ≠ oActive ∨ readySeg s o.val = none → exec (.segmentCombine o) s = .next s) ∧
  (∀ (p : Packet) (s t : State), fatalStopped s = false → takeInbox s [124, 125] (fun p => p.op != opCollDown) = some (p, t) →
    exec .collUpReceive s = .next (if receiveFirst (collUp t p) = true then collPumpAll (collUp t p) else collUp t p)) ∧
  (∀ (s : State), fatalStopped s = true ∨ lookD s.switch.inbox 124 [] = [] ∧ lookD s.switch.inbox 125 [] = [] →
    exec .collUpReceive s = .next s ∧ exec .collDownReceive s = .next s) ∧
  (∀ (p : Packet) (o : Nat) (t : State), collGood t p = none → slotOfOid t p.th.channel.toNat = some o →
    ord t o Reg.Out.GEN = p.th.gen.toNat → childKind t o (cChild p) = 1 → p.rh.src.toNat = 256 * childId t o (cChild p) + 65 →
    (cSeg p = 0xFFFF → collUp t p = abortOuting t o 2 (some (some (cChild p)))) ∧
    (cSeg p ≠ 0xFFFF → oState t o ≠ oActive → collUp t p = collDiscard t) ∧
    (cSeg p ≠ 0xFFFF → oState t o = oActive → psnDist (dueOf t o (cChild p)) p.th.psn.toNat < depth t o →
      look (t.outing o).segs p.th.psn.toNat = none → collUp t p = acceptUp t o (cChild p) p) ∧
    (cSeg p ≠ 0xFFFF → oState t o = oActive → depth t o ≤ 2 ^ 23 → 2 ^ 23 ≤ psnDist (dueOf t o (cChild p)) p.th.psn.toNat →
      collUp t p = dupUp t o (cChild p) p)) ∧
  (∀ (p : Packet) (t : State), collGood t p = none → slotOfOid t p.th.channel.toNat = none → collUp t p = recordError
    ((t.bump clBase Reg.Cl.COLL_DISCARD_CNT).setEvt clBase Reg.Cl.CL_EVENT 1)
    (ErrRec.contained .collective .misdelivery 3 p.th.channel.toNat)) ∧
  (∀ (p : Packet) (t : State), unitOff t .collective = false →
    (p.tr.stomp ≠ 0 ∨ p.whole = true ∧ p.malformed = false ∧ p.op ≠ opCollUp ∧ p.op ≠ opCollDown) →
    collUp t p = (t.bump clBase Reg.Cl.COLL_DISCARD_CNT).setEvt clBase Reg.Cl.CL_EVENT 1) ∧
  (∀ (p : Packet) (t : State), unitOff t .collective = true → collUp t p = t) ∧
  (∀ (p : Packet) (o : Nat) (s t : State), fatalStopped s = false → takeInbox s [124, 125] (fun p => p.op == opCollDown) = some (p, t) →
    collGood t p = none → slotOfOid t p.th.channel.toNat = some o → ord t o Reg.Out.GEN = p.th.gen.toNat → ord t o Reg.Out.ROOT ≠ 1 →
    p.rh.src.toNat = 256 * ord t o Reg.Out.PARENT + 65 →
    let u := t.setOuting o { t.outing o with retry := 0 }
    (cSeg p = 0xFFFF → exec .collDownReceive s = .next (abortOuting t o 2 (some none))) ∧
    (cSeg p ≠ 0xFFFF → oState t o ≠ oActive → exec .collDownReceive s = .next (collDiscard t)) ∧
    (cSeg p = 0xFFFE → oState t o = oActive → exec .collDownReceive s = .next u) ∧
    (cSeg p < 0xFFFE → oState t o = oActive → exec .collDownReceive s = .next (acceptDown u o p))) ∧
  (∀ (o : Nat) (q : HomeReq) (id : Nat) (x : OutingSt) (s : State),
    s.mesh.cmps.find? (fun q => match q.asker with | .coll _ => true | _ => false) = some q → q.asker = .coll id →
    s.coll.slots.find? (fun kv => kv.2.contribs.any (fun k => k.id == id / 65536)) = some (o, x) →
    exec .collResultDelivered s = .next (collPump (mapContrib { s with mesh := { s.mesh with cmps := s.mesh.cmps.erase q } } o
      (id / 65536) (fun k => { k with
        vis := (k.vis.map (fun v => if v.1 = id % 65536 then (v.1, v.2 - 1) else v)).filter (fun v => v.2 != 0) })) o)) ∧
  (∀ (s : State), s.mesh.cmps = [] → exec .collResultDelivered s = .next s) ∧
  (∀ (o : Fin 256) (psn : Nat) (g : SegSt) (s : State),
    let v := s.bump clBase Reg.Cl.COLL_RETX_CNT
    let u := v.setOuting o.val { s.outing o.val with retry := (s.outing o.val).retry + 1 }
    let r := refOf v o.val g.call
    (s.outing o.val).segs = [(psn, g)] → g.sent = true → g.turned = false →
    oState s o.val = oActive →
    (s.rd clBase Reg.Cl.COLL_RETRY_MAX ≤ (s.outing o.val).retry →
      exec (.collRtoExpire o) s = .next (abortOuting v o.val 3 none)) ∧
    ((s.outing o.val).retry < s.rd clBase Reg.Cl.COLL_RETRY_MAX →
      exec (.collRtoExpire o) s = .next (collSend (clEvent u o.val 0x103 1) (collPacket u o.val true (ord u o.val Reg.Out.PARENT)
        (ord u o.val Reg.Out.UP_SLOT) psn r g.seg g.last (if r.op = opBroadcast then .empty else g.out.getD .empty))))) ∧
  (∀ (o : Fin 256) (s : State), (∀ kv ∈ (s.outing o.val).segs, kv.2.sent = false ∨ kv.2.turned = true) →
    exec (.collRtoExpire o) s = .next s) ∧
  (∀ (o : Fin 256) (s : State),
    let e := fun (corrected : Bool) => ErrRec.ecc .collective corrected 0 (Config.eccIndex clBase o.val).toNat
    exec (.basketEccError o true) s = .next (recordError (s.setEvt clBase Reg.Cl.CL_EVENT 2) (e true)) ∧
    exec (.basketEccError o false) s = .next (recordError (abortOuting s o.val 6 none) (e false))) ∧
  (∀ (r : Route) (s : State), Takes s r (clBase + 0x58) → Ends (exec (.collCntClr r) s) (fun t =>
    let cs := [Reg.Cl.SEG_UP_CNT, Reg.Cl.SEG_DOWN_CNT, Reg.Cl.COLL_RETX_CNT, Reg.Cl.COLL_DUP_CNT, Reg.Cl.COLL_DISCARD_CNT,
      Reg.Cl.ABORT_CNT, Reg.Cl.CLIP_CNT]
    (∀ c ∈ cs, t.rd clBase c = 0) ∧ OnlyFields (cs.map (Field.key · clBase)) s t))

/-! ### Translation (spec/11_translation.md) -/

/-- Compass: a key command is tested in order and stores, frees or shows its entry; fetches and table reads that return go on with
what waits for them; an INVALIDATE completes once no covered access is live; the clear actions clear (R379, R380, R389 to R391, R395,
R397 to R400, R404). -/
def Obligations.KeysWalksAndInvalidatesRun : Prop :=
  (∀ (f : Fin 1024) (i : Instr) (s : State), i ∈ [Instr.keyWrite f, .keyFree f, .keyQuery f] →
    fatalStopped s = true ∨ fnReady s f.val = false ∨ s.on (bar2 f.val) Reg.KeyBar.KEY_STATUS_BUSY = true → exec i s = .next s) ∧
  (∀ (f : Fin 1024) (s : State), fatalStopped s = false → fnReady s f.val = true →
    s.on (bar2 f.val) Reg.KeyBar.KEY_STATUS_BUSY = false →
    let b := bar2 f.val
    let i := s.rd b Reg.KeyBar.KEY_CMD_KEY / 256
    let tag := s.rd b Reg.KeyBar.KEY_CMD_KEY % 256
    let go := fun (op : Nat) => s.wr b Reg.KeyBar.KEY_CMD_OP op
    let put := fun (k : KeyEnt) => Host.Outcome.next (keyHold (keyStore (go 1) i { k with tag := tag, owner := f.val }) f.val i)
    (s.on xlBase Reg.Xl.KEY_CFG_EN = false →
      exec (.keyWrite f) s = .next (keyEnd (go 1) f.val 4) ∧ exec (.keyFree f) s = .next (keyEnd (go 2) f.val 4) ∧
      exec (.keyQuery f) s = .next (keyEnd (go 3) f.val 4)) ∧
    (s.on xlBase Reg.Xl.KEY_CFG_EN = true → keyInRange s f.val i = false →
      exec (.keyWrite f) s = .next (keyEnd (go 1) f.val 1) ∧ exec (.keyFree f) s = .next (keyEnd (go 2) f.val 1) ∧
      exec (.keyQuery f) s = .next (keyEnd (go 3) f.val 1)) ∧
    (s.on xlBase Reg.Xl.KEY_CFG_EN = true → keyInRange s f.val i = true → keyImageGood (keyImage s f.val) = false →
      exec (.keyWrite f) s = .next (keyEnd (go 1) f.val 3)) ∧
    (s.on xlBase Reg.Xl.KEY_CFG_EN = true → keyInRange s f.val i = true → keyImageGood (keyImage s f.val) = true →
      (keyPlace s i = false → exec (.keyWrite f) s = .next (keyEnd (go 1) f.val 4)) ∧
      (keyPlace s i = true → exec (.keyWrite f) s = put (KeyEnt.ofBytes (keyImage s f.val)))) ∧
    (s.on xlBase Reg.Xl.KEY_CFG_EN = true → keyInRange s f.val i = true →
      (keyStored s i = none → exec (.keyFree f) s = .next (keyEnd (go 2) f.val 4) ∧
        exec (.keyQuery f) s = .next (keyEnd (go 3) f.val 4)) ∧
      (∀ (k : KeyEnt), keyStored s i = some k →
        exec (.keyFree f) s = .next (keyHold (keyStore (go 2) i { k with valid := false }) f.val i) ∧
        exec (.keyQuery f) s = .next (keyEnd ((List.range 8).foldl (fun t j => t.wri b Reg.KeyBar.KEY_IMAGE j
          (leAt (viewBytes s (keyTable s + 32 * i) 32) (4 * j) 4)) (go 3)) f.val 0)))) ∧
  (∀ (f : Fin 1024) (i : Nat) (s : State), look s.xl.keyCmd f.val = some i → (∀ t ∈ liveTags s, t.key ≠ some i) →
    Ends (exec (.keyCmdDone f) s) (fun t => t.rd (bar2 f.val) Reg.KeyBar.KEY_STATUS_BUSY = 0 ∧
      t.rd (bar2 f.val) Reg.KeyBar.KEY_STATUS_RESULT = 0 ∧ look t.xl.keyCmd f.val = none ∧ { t with regs := s.regs, xl := s.xl } = s)) ∧
  (∀ (f : Fin 1024) (s : State), (∀ i ∈ look s.xl.keyCmd f.val, (liveTags s).any (fun t => t.key == some i) = true) →
    exec (.keyCmdDone f) s = .next s) ∧
  (∀ (r : Route) (en : Bool) (s : State), Takes s r (xlBase + 0x40) →
    (s.on xlBase Reg.Xl.KEY_CFG_EN = en → exec (.keyCfgEnWrite r en) s = .next s) ∧
    (s.on xlBase Reg.Xl.KEY_CFG_EN ≠ en →
      Ends (exec (.keyCfgEnWrite r en) s) (fun t => t.on xlBase Reg.Xl.KEY_CFG_EN = en ∧ t.xl = { s.xl with keys := [], keyBad := [] } ∧
        OtherFields [Reg.Xl.KEY_CFG_EN.key xlBase] s t ∧ { t with regs := s.regs, xl := s.xl } = s))) ∧
  (∀ (i : Fin 1048576) (s : State),
    let u : State := { s with xl := { s.xl with keyWant := s.xl.keyWant.erase i.val } }
    (i.val ∉ s.xl.keyWant → exec (.keyFetchDone i) s = .next s) ∧
    (∀ (k : KeyEnt), i.val ∈ s.xl.keyWant → keyStored u i.val = some k → exec (.keyFetchDone i) s = .next (resumeEverything
      (if s.xl.keys.length < 8192 then { u with xl := { u.xl with keys := put s.xl.keys i.val k } }
        else { u.spend with xl := { u.xl with keys := put (s.xl.keys.eraseIdx (u.drawn 16 % s.xl.keys.length)) i.val k } }))) ∧
    (i.val ∈ s.xl.keyWant → keyStored u i.val = none → exec (.keyFetchDone i) s = .next
      (resumeEverything ({ u with xl := { u.xl with keyBad := s.xl.keyBad ++ [i.val] } }.setEvt xlBase Reg.Xl.XL_EVENT 2)))) ∧
  (∀ (f : Fin 1024) (a : BitVec 64) (d : WalkRead) (x : CacheUpset) (s : State),
    exec (.walkEntryReadDone f a { d with upset := some x }) s = exec (.walkEntryReadDone f a { d with upset := none }) (strikeCache s x)) ∧
  (∀ (f : Fin 1024) (a : BitVec 64) (x : Option (BitVec 64)) (s : State),
    (∀ w ∈ s.xl.walks, w.fn = f.val → w.va = a.toNat → w.failed.isSome = true) →
    exec (.walkEntryReadDone f a { entry := x, upset := none }) s = .next s) ∧
  (∀ (f : Fin 1024) (a : BitVec 64) (w : Walk) (x : Option (BitVec 64)) (ea : Nat) (want : WalkEnt) (s : State),
    s.xl.walks.find? (fun w => w.fn == f.val && w.va == a.toNat && w.failed.isNone) = some w →
    walk s w.ctx w.got w.fn w.va w.acc = .need ea want →
    let v : Option Nat := if regionOf ea = .pool then (if viewBad s ea 8 = true then none else some (leNat (viewBytes s ea 8)))
      else x.map BitVec.toNat
    let t := cntCM (s.bump xlBase Reg.Xl.WALK_READ_CNT) .compass 0x102 1 none (some f.val)
    let u := (v.map (cacheEntry t want)).getD t
    let k : Walk := { w with got := put w.got ea v }
    exec (.walkEntryReadDone f a { entry := x, upset := none }) s =
      .next (resumeEverything (walkOn { u with xl := { u.xl with walks := u.xl.walks.map (fun m => if m == w then k else m) } } k))) ∧
  (∀ (f : Fin 1024) (a : BitVec 64) (w : Walk) (x : Option (BitVec 64)) (e : TlbEnt) (y : WalkFault) (s : State),
    s.xl.walks.find? (fun w => w.fn == f.val && w.va == a.toNat && w.failed.isNone) = some w →
    walk s w.ctx w.got w.fn w.va w.acc = .hit e ∨ walk s w.ctx w.got w.fn w.va w.acc = .fault y →
    exec (.walkEntryReadDone f a { entry := x, upset := none }) s = .next (resumeEverything (walkOn s w))) ∧
  (∀ (g : Fin 65536) (w : InvalWait) (q : WqSt) (s : State), s.xl.inval.find? (fun w => w.wq == g.val) = some w →
    (∀ t ∈ liveTags s, invCovers w t = false) → s.wqAt g.val = some q →
    exec (.invalidateDone g) s = .next (completeWq ((({ s with xl := { s.xl with inval := s.xl.inval.erase w } } : State).setWq g.val
      { q with waiting := false }).bump xlBase Reg.Xl.INVAL_CNT) g.val w.index w.userId w.signal 0x10 0 0 0 0)) ∧
  (∀ (g : Fin 65536) (s : State), (∀ w ∈ s.xl.inval, w.wq = g.val → (liveTags s).any (invCovers w) = true) →
    exec (.invalidateDone g) s = .next s) ∧
  (∀ (w : InvalWait) (s : State), w.scope ≤ 5 → 1 ≤ w.scope →
    (∀ e : TlbEnt, e ∈ (invRemoves w s).xl.tlb ↔ e ∈ s.xl.tlb ∧
      (w.scope = 1 → ¬(e.fn = w.target ∧ e.va < w.addr + w.len ∧ w.addr < e.va + 2 ^ e.log)) ∧ (w.scope = 2 → e.fn ≠ w.target) ∧
      (w.scope = 3 → ¬(e.part = w.part ∧ e.ipa < w.addr + w.len ∧ w.addr < e.ipa + 2 ^ e.log)) ∧ (w.scope = 4 → e.part ≠ w.part) ∧
      w.scope ≠ 5) ∧
    (w.scope = 5 → (invRemoves w s).xl.wcache = []) ∧
    (∀ e ∈ (invRemoves w s).xl.wcache, e ∈ s.xl.wcache ∧ (w.scope = 2 → ¬(e.stage = 1 ∧ e.owner = w.target)) ∧
      (w.scope = 4 → ¬(e.stage = 2 ∧ e.owner = w.part))) ∧
    { invRemoves w s with xl := s.xl } = s) ∧
  (∀ (r : Route) (s : State), Takes s r (xlBase + 0x54) →
    Ends (exec (.xlateCntClr r) s) (fun t =>
      let cs := [Reg.Xl.TLB_HIT_CNT, Reg.Xl.TLB_MISS_CNT, Reg.Xl.WALK_READ_CNT, Reg.Xl.FAULT_CNT, Reg.Xl.SPEC_DROP_CNT,
        Reg.Xl.KEY_MISS_CNT, Reg.Xl.KEY_FAIL_CNT, Reg.Xl.INVAL_CNT, Reg.Xl.ECC_CORR_CNT, Reg.Xl.ECC_UNCORR_CNT]
      (∀ c ∈ cs, t.rd xlBase c = 0) ∧ OnlyFields (cs.map (Field.key · xlBase)) s t) ∧
    exec (.flogClr r) s = .next (s.wr xlBase Reg.Xl.FLOG_CI (s.rd xlBase Reg.Xl.FLOG_PI)))
/-! ### Host ports (spec/12_host_ports.md) -/

/-- Host links: a link comes up within its configuration and goes down with its queues; a lost bound or owned downstream link is
contained and released; configuration requests end or are retried until HOST_READY; the counters clear (R408, R411 to R415, R418,
R419, R436, R585). -/
def Obligations.HostLinksComeAndGo : Prop :=
  (∀ (a : Fin 64) (rate : BitVec 3) (width : BitVec 5) (cxl isSwitch : Bool) (s : State), s.boot.cfgApplied = true →
    attRd s a.val Reg.Att.ATT_CFG_ROLE ≠ 0 → attRd s a.val Reg.Att.ATT_STATE_LINK ≤ 1 → width.toNat ∈ [1, 2, 4, 8, 16] →
    width.toNat ≤ attLanes s a.val → rate.toNat ≤ s.rd (macBase (a.val / 4)) Reg.Mac.MAC_CFG_MAX_RATE → rate.toNat ≤ 5 →
    (cxl = true → 2 ≤ rate.toNat) → (s.att a.val).perst = false → unitOff s (.attachment a) = false →
    Ends (exec (.attachLinkUp a rate width cxl isSwitch) s) (fun t => attRd t a.val Reg.Att.ATT_STATE_LINK = 2 ∧
      attRd t a.val Reg.Att.ATT_STATE_RATE = rate.toNat ∧ attRd t a.val Reg.Att.ATT_STATE_WIDTH = width.toNat ∧
      attRd t a.val Reg.Att.ATT_STATE_CXL = (if cxl then 1 else 0) ∧
      (t.att a.val).unusable = (isSwitch && decide (attRd s a.val Reg.Att.ATT_CFG_ROLE = 2)) ∧
      (t.att a.val).barLog = attRd s a.val Reg.Att.FAR_BAR_LOG ∧ t.tp = s.tp ∧ t.wq = s.wq ∧ t.pool = s.pool ∧ t.ports = s.ports ∧
      t.mesh = s.mesh ∧ t.xl = s.xl)) ∧
  (∀ (a : Fin 64) (rate : BitVec 3) (width : BitVec 5) (cxl isSwitch : Bool) (s : State),
    (linkUp s a.val = true → exec (.attachLinkUp a rate width cxl isSwitch) s =
      .next (cnt1 s (.hostMacro ⟨a.val / 4, by omega⟩) 0x100)) ∧
    (linkUp s a.val = false → s.boot.cfgApplied = false ∨ attRd s a.val Reg.Att.ATT_CFG_ROLE = 0 ∨
      1 < attRd s a.val Reg.Att.ATT_STATE_LINK ∨ width.toNat ∉ [1, 2, 4, 8, 16] ∨ attLanes s a.val < width.toNat ∨
      s.rd (macBase (a.val / 4)) Reg.Mac.MAC_CFG_MAX_RATE < rate.toNat ∨ 5 < rate.toNat ∨ (cxl = true ∧ rate.toNat < 2) ∨
      (s.att a.val).perst = true ∨ unitOff s (.attachment a) = true → exec (.attachLinkUp a rate width cxl isSwitch) s = .next s)) ∧
  (∀ (a : Fin 64) (s : State),
    (attUp s a.val = true → exec (.attachDown a) s = .next (fencing s (attachGoesDown s a.val 0))) ∧
    (attUp s a.val = false → exec (.attachDown a) s = .next s)) ∧
  (∀ (a : Fin 64) (s : State),
    (isDown s a.val = true → linkUp s a.val = true → (isBound s a.val || isOwned s a.val) = true → (s.att a.val).unbind = none →
      exec (.downstreamLinkDown a) s = .next (contain s a.val)) ∧
    (isDown s a.val = true → linkUp s a.val = true →
      (isBound s a.val || isOwned s a.val) = false ∨ (s.att a.val).unbind ≠ none →
      exec (.downstreamLinkDown a) s = .next (attEvent (linkGone s a.val 0) a.val 0)) ∧
    (isDown s a.val = false ∨ linkUp s a.val = false → exec (.downstreamLinkDown a) s = .next s)) ∧
  (∀ (s : State) (a : Nat), a < 64 → isDown s a = true → isOwned s a = false →
    attRd (contain s a) a Reg.Att.ATT_STATE_LINK = 3 ∧ attRd (contain s a) a Reg.Att.ATT_STATE_WIDTH = 0 ∧
    (contain s a).att a = { s.att a with dpc := isBound s a, wout := [], msgs := [], reads := [] }) ∧
  (∀ (a : Fin 64) (q : CfgReq) (s : State), attUp s a.val = false → exec (.hostConfigRequest a q) s = .next s) ∧
  (∀ (a : Fin 64) (q : CfgReq) (s : State), attUp s a.val = true →
    let t := cnt1 s (.attachment a) 0x100
    let ready := s.on (attBase a.val) Reg.Att.ATT_STATE_HOST_READY
    let done := fun (u : State) => exec (.hostConfigRequest a q) s = .next (cnt1 (u.emit (.cfgDone a.val q false)) (.attachment a) 0x101)
    (fatalStopped s = true ∨ (ready = true ∧ cfgThere s a.val q = false) →
      exec (.hostConfigRequest a q) s = .next (t.emit (.cfgUnsupported a.val q))) ∧
    (fatalStopped s = false → ready = false →
      exec (.hostConfigRequest a q) s = .next (cnt1 (cnt1 (t.emit (.cfgDone a.val q true)) (.attachment a) 0x107) (.attachment a) 0x101)) ∧
    (fatalStopped s = false → ready = true → cfgThere s a.val q = true →
      (∀ (d : CfgDev) (r : CfgReg), q = .read d r → done (cfgRead t a.val d r)) ∧
      (q = .other → done t) ∧
      (∀ (i : Fin 6) (v : BitVec 32), q = .bar i v → done (t.setAtt a.val { s.att a.val with bars := put (s.att a.val).bars i.val v.toNat })) ∧
      (∀ (i : Fin 6) (v : BitVec 32), q = .vfBar i v → done (t.setAtt a.val { s.att a.val with vfBars := put (s.att a.val).vfBars i.val v.toNat })) ∧
      (∀ (n : BitVec 16), q = .numVfs n → n.toNat ≤ attRd s a.val Reg.Att.VF_MAX → done (t.setAtt a.val { s.att a.val with numVfs := n.toNat })) ∧
      (∀ (n : BitVec 16), q = .numVfs n → attRd s a.val Reg.Att.VF_MAX < n.toNat → done t) ∧
      (∀ (b : Bool), q = .cacheEnable b → done (t.setAtt a.val { s.att a.val with cacheEn := b })) ∧
      (∀ (v : BitVec 4), q = .completionTimeout v → done (t.setAtt a.val { s.att a.val with cplTmo := v.toNat })) ∧
      (∀ (f : Fin 1024) (on mask : Bool), q = .msix f on mask → attOfFn s f.val = some a.val →
        done (msixReleaseAll (t.setFn f.val { s.fn f.val with msixOn := on, msixMask := mask }) f.val)) ∧
      (∀ (f : Fin 1024) (on mask : Bool), q = .msix f on mask → attOfFn s f.val ≠ some a.val → done t))) ∧
  (∀ (a : Fin 64) (f : Fin 1024) (mask : Bool) (s : State), attUp s a.val = true → fatalStopped s = false →
    s.on (attBase a.val) Reg.Att.ATT_STATE_HOST_READY = true → attOfFn s f.val = some a.val →
    Ends (exec (.hostConfigRequest a (.msix f true mask)) s) (fun t =>
      (t.fn f.val).msixOn = true ∧ (t.fn f.val).msixMask = mask ∧ (mask = true → t.out = .cfgDone a.val (.msix f true mask) false :: s.out) ∧
      t.pool = s.pool ∧ t.tp = s.tp ∧ t.wq = s.wq ∧ t.switch = s.switch)) ∧
  (∀ s : State, s.boot.cfgApplied = true → fatalStopped s = false → s.on (base .flask) Reg.Flk.BANK_STATUS_RECOVERY = false →
    s.boot.bctFailed = false → (∀ i, i < 48 → sliceMode s i = 0) →
    exec .hostReady s = .next (autoStartAll ((List.range 64).foldl (fun t a =>
      if attRd t a Reg.Att.ATT_CFG_ROLE = 1 then t.wr (attBase a) Reg.Att.ATT_STATE_HOST_READY 1 else t) s))) ∧
  (∀ s : State, s.boot.cfgApplied = false ∨ fatalStopped s = true ∨ s.on (base .flask) Reg.Flk.BANK_STATUS_RECOVERY = true ∨
    s.boot.bctFailed = true ∨ (List.range 48).any (fun i => sliceMode s i != 0) = true → exec .hostReady s = .next s) ∧
  (∀ (a : Fin 64) (s : State),
    ((s.att a.val).dpc = true → exec (.dpcTriggerClear a) s = .next (release s a.val)) ∧
    ((s.att a.val).dpc = false → exec (.dpcTriggerClear a) s = .next s) ∧ ((release s a.val).att a.val).dpc = false) ∧
  (∀ (r : Route) (a : Fin 64) (s : State), Takes s r (attBase a.val + 0x64) →
    (isOwned s a.val = true → exec (.dpcRelease r a) s = .next (release s a.val)) ∧
    (isOwned s a.val = false → exec (.dpcRelease r a) s = .next s) ∧
    Ends (exec (.attachCntClr r a) s) (fun t =>
      let cs := [Reg.Att.FAR_READ_CNT, Reg.Att.FAR_WRITE_CNT, Reg.Att.FAR_TMO_CNT, Reg.Att.FAR_LATE_CNT, Reg.Att.FAR_UR_CNT,
        Reg.Att.FAR_DROP_CNT, Reg.Att.TUN_TX_CNT, Reg.Att.TUN_RX_CNT, Reg.Att.TUN_DROP_CNT, Reg.Att.UNALLOC_CNT]
      (∀ c ∈ cs, t.rd (attBase a.val) c = 0) ∧ OnlyFields (cs.map (Field.key · (attBase a.val))) s t))

/-- The FM API: every command is answered once with its return code; binding joins a free downstream attachment to a free vPPB, an
unbind frees it; dynamic capacity is offered, accepted, refused, released (R409 to R411, R446 to R448, R559). -/
def Obligations.FmApiCommandsAnswer : Prop :=
  (∀ (ports : List (Fin 64)) (a u : Fin 64) (op : PortControl) (reg : BitVec 12) (w : Option (BitVec 32)) (v : Fin 18) (o : Fin 3)
      (x : BitVec 32) (e : Fin 131072) (tag : BitVec 128) (s : State),
    let go := fun (c : FmCmd) => Host.Outcome.next ((runFm s c).2.emit (.fmAnswer c (runFm s c).1.1 (runFm s c).1.2))
    exec .identifySwitchDevice s = go .identifySwitch ∧ exec (.getPhysicalPortState ports) s = go (.getPortState (ports.map Fin.val)) ∧
    exec (.physicalPortControl a op) s = go (.portControl a op) ∧ exec (.sendPpbConfigRequest a reg w) s = go (.ppbConfig a reg 15 w) ∧
    exec (.getVirtualCxlSwitchInfo u) s = go (.getVcsInfo 0 18 [u.val]) ∧ exec (.bindVppb u v a) s = go (.bind u v a) ∧
    exec (.unbindVppb u v o) s = go (.unbind u v o) ∧ exec (.generateAerEvent u v x) s = go (.aer u v x) ∧
    exec .backgroundOperationStatus s = go .backgroundStatus ∧ exec (.initiateDynamicCapacityAdd u e tag) s = go (.dcAdd u [e] tag) ∧
    exec (.forcedDcRemoval u e) s = go (.dcForcedRemoval u [e])) ∧
  (∀ (s : State) (ports us : List Nat) (start limit : Nat), (runFm s .identifySwitch).2 = s ∧ (runFm s .identifySwitch).1.1 = fmOk ∧
    (runFm s .identifySwitch).1.2[2]? = some 64 ∧ (runFm s (.getPortState ports)).2 = s ∧ (runFm s (.getPortState ports)).1.1 = fmOk ∧
    (runFm s (.getVcsInfo start limit us)).2 = s ∧ (runFm s (.getVcsInfo start limit us)).1.1 = fmOk ∧
    (runFm s .backgroundStatus).2 = s ∧ (runFm s .backgroundStatus).1.1 = fmOk ∧ (runFm s .backgroundStatus).1.2.length = 8) ∧
  (∀ (s : State) (a : Fin 64) (op : PortControl) (reg : BitVec 12) (en : BitVec 4) (w : Option (BitVec 32)),
    (isDown s a.val = false → runFm s (.portControl a op) = ((fmInvalid, []), s) ∧ runFm s (.ppbConfig a reg en w) = ((fmInvalid, []), s)) ∧
    (isDown s a.val = true → (runFm s (.portControl a op)).1 = (fmOk, []) ∧ (runFm s (.ppbConfig a reg en w)).1.1 = fmOk ∧
      (op = .assertPerst → ((runFm s (.portControl a op)).2.att a.val).perst = true) ∧
      (op = .deassertPerst → ((runFm s (.portControl a op)).2.att a.val).perst = false) ∧
      (runFm s (.ppbConfig a reg en w)).2.out = .ppbConfig a.val reg en w :: s.out)) ∧
  (∀ (s : State) (u : Fin 64) (v : Fin 18) (x : BitVec 32),
    (hasSwitch s u.val = true → runFm s (.aer u v x) = ((fmOk, []), s.emit (.aerError u.val v.val x))) ∧
    (hasSwitch s u.val = false → runFm s (.aer u v x) = ((fmInvalid, []), s))) ∧
  (∀ (s : State) (u v a : Nat), u < 64 → v < 18 →
    (v < 2 ∨ hasSwitch s u = false ∨ isDown s a = false ∨ isOwned s a = true ∨ isBound s a = true ∨ (s.att a).unusable = true ∨
      boundAt s u v ≠ none → fmBind s u v a = (fmInvalid, s)) ∧
    (2 ≤ v → hasSwitch s u = true → isDown s a = true → isOwned s a = false → isBound s a = false → (s.att a).unusable = false →
      boundAt s u v = none → (bgBusy s = true → fmBind s u v a = (fmBusy, s)) ∧
      (bgBusy s = false → (fmBind s u v a).1 = fmBackground ∧ isBound (fmBind s u v a).2 a = true ∧
        attRd (fmBind s u v a).2 a Reg.Att.BIND_VCS = u ∧ attRd (fmBind s u v a).2 a Reg.Att.BIND_VPPB = v))) ∧
  (∀ (s : State) (u v o : Nat), (v < 2 ∨ boundAt s u v = none → fmUnbind s u v o = (fmInvalid, s)) ∧
    (∀ (a : Nat), 2 ≤ v → boundAt s u v = some a → (bgBusy s = true → fmUnbind s u v o = (fmBusy, s)) ∧
      (bgBusy s = false → (fmUnbind s u v o).1 = fmBackground ∧ (o < 2 → ((fmUnbind s u v o).2.att a).unbind = some o) ∧
        (o = 2 → isBound (fmUnbind s u v o).2 a = false)))) ∧
  (∀ (a : Fin 64) (s : State),
    ((s.att a.val).unbind ≠ none → exec (.unbindComplete a) s =
      .next (unbound (if linkUp s a.val = true then linkGone s a.val 0 else s) a.val)) ∧
    ((s.att a.val).unbind = none → exec (.unbindComplete a) s = .next s) ∧
    isBound (unbound s a.val) a.val = false ∧ ((unbound s a.val).att a.val).unbind = none) ∧
  (∀ (s : State) (u e tag : Nat) (x : ExtSt), s.ext e = some x →
    (hasSwitch s u = false ∨ x.xstate ≠ .settled ∨ x.isMirror = true → dcAdd s u e tag = (fmInvalid, s)) ∧
    (hasSwitch s u = true → x.xstate = .settled → x.isMirror = false → x.owner = .free → dcAdd s u e tag = (fmOk,
      (putExt s e { x with xstate := .offered, offers := [u], tag := some tag }).emit (.dcOffer u e tag))) ∧
    (hasSwitch s u = true → x.xstate = .settled → x.isMirror = false → x.owner = .host ∨ x.owner = .shared → x.tag = some tag →
      bitOf x.hosts u = false → u ∉ x.offers →
      dcAdd s u e tag = (fmOk, (putExt s e { x with offers := x.offers ++ [u] }).emit (.dcOffer u e tag)))) ∧
  (∀ (s : State) (u : Fin 64) (e : Fin 131072) (tag : BitVec 128), (runFm s (.dcAdd u [e] tag)).1.1 = (dcAdd s u.val e.val tag.toNat).1 ∧
    ((dcAdd s u.val e.val tag.toNat).1 = fmOk → (runFm s (.dcAdd u [e] tag)).2 = (dcAdd s u.val e.val tag.toNat).2) ∧
    ((dcAdd s u.val e.val tag.toNat).1 ≠ fmOk → (runFm s (.dcAdd u [e] tag)).2 = s) ∧
    ((dcRemove s u.val e.val).1 = fmOk → runFm s (.dcForcedRemoval u [e]) = ((fmOk, []), (dcRemove s u.val e.val).2.emit (.dcRemoved u.val e.val))) ∧
    ((dcRemove s u.val e.val).1 ≠ fmOk → (runFm s (.dcForcedRemoval u [e])).1.1 ≠ fmOk ∧ (runFm s (.dcForcedRemoval u [e])).2 = s)) ∧
  (∀ (u : Fin 64) (e : Fin 131072) (x : ExtSt) (s : State), s.ext e.val = some x → u.val ∈ x.offers →
    let y : ExtSt := { x with offers := x.offers.erase u.val }
    (x.xstate = .offered → exec (.addDcResponse u e true) s =
      .next (putExt s e.val { y with owner := .host, xstate := .settled, hosts := setBit 0 u.val })) ∧
    (x.xstate ≠ .offered → x.owner = .host ∨ x.owner = .shared → exec (.addDcResponse u e true) s =
      .next (putExt s e.val { y with owner := .shared, hosts := setBit x.hosts u.val })) ∧
    (x.xstate ≠ .offered → x.owner ≠ .host → x.owner ≠ .shared → exec (.addDcResponse u e true) s = .next (putExt s e.val y)) ∧
    (x.xstate = .offered → exec (.addDcResponse u e false) s = .next (putExt s e.val { y with xstate := .settled, tag := none })) ∧
    (x.xstate ≠ .offered → exec (.addDcResponse u e false) s = .next (putExt s e.val y)) ∧
    exec (.dcRespTimeout u e) s = exec (.addDcResponse u e false) s) ∧
  (∀ (u : Fin 64) (e : Fin 131072) (b : Bool) (s : State), (∀ x ∈ s.ext e.val, u.val ∉ x.offers) →
    exec (.addDcResponse u e b) s = .next s ∧ exec (.dcRespTimeout u e) s = .next s) ∧
  (∀ (u : Fin 64) (e : Fin 131072) (x : ExtSt) (s : State), s.ext e.val = some x → x.owner = .host ∨ x.owner = .shared →
    bitOf x.hosts u.val = true → x.xstate ≠ .copying ∨ clrBit x.hosts u.val ≠ 0 →
    exec (.dcReleaseResponse u e) s =
      .next (showFree (pumpExtents (putExt s e.val { x with leaving := addOnce x.leaving u.val })))) ∧
  (∀ (u : Fin 64) (e : Fin 131072) (s : State),
    (∀ x ∈ s.ext e.val, (x.owner ≠ .host ∧ x.owner ≠ .shared) ∨ bitOf x.hosts u.val = false) →
    exec (.dcReleaseResponse u e) s = .next s)

/-- Host memory requests go to their home as R472 has them and count as R436 says; far accesses become channel jobs or end as R421 to
R425 say; downstream devices and their messages pass; windows and claims are set valid only when good; tunnel frames are delivered or
dropped (R417, R420 to R433, R444, R456, R472). -/
def Obligations.HostAndFarAccessesGoTheirWay : Prop :=
  (∀ (u : Fin 64) (line : BitVec 46) (off : Fin 64) (b d : List Byte) (bad : Bool) (s : State), attUp s u.val = true →
    s.on (attBase u.val) Reg.Att.ATT_STATE_CXL = true → isDead s u.val = false → fatalStopped s = false →
    let count := fun (code : Nat) => countEv s (.attachment u)
      { code := code, inc := 1, priv := none, master := none, addr := some (64 * line.toNat), cls := none }
    let ask := fun (t : State) (k : HomeKind) (off : Nat) (b : List Byte) (bad : Bool) => Host.Outcome.next (askHome t
      { kind := k, asker := .agent u.val, line := line.toNat, off := off, bytes := b, bad := bad, group := 0, seg := 0, tag := none,
        since := 0, held := false })
    let back := fun (t : State) (k : WbKind) (d : List Byte) (bad : Bool) => Host.Outcome.next { t with mesh := { t.mesh with
      wbs := t.mesh.wbs ++ [{ kind := k, agent := u.val, line := line.toNat, data := d, bad := bad }] } }
    (hostAdmitted s u.val (extentOf (64 * line.toNat)) = true →
      exec (.hostMemRequest u line .readS) s = ask (count 0x102) .rdShared 0 [] false ∧
      exec (.hostMemRequest u line .readA) s = ask (count 0x102) .rdOwn 0 [] false ∧
      exec (.hostMemRequest u line .readNoOp) s = ask (count 0x102) .rdNoAlloc 0 (List.replicate 64 0) false ∧
      exec (.hostMemRequest u line (.writePart off b bad)) s = ask (count 0x103) .wrNoAlloc off.val (b.take (64 - off.val)) bad) ∧
    (hostAdmitted s u.val (extentOf (64 * line.toNat)) = true ∨ u.val ∈ holders s line.toNat →
      exec (.hostMemRequest u line .evict) s = back s .evict [] false ∧
      exec (.hostMemRequest u line (.writeBack d bad)) s = back (count 0x103) .wbMod (d.take 64) bad)) ∧
  (∀ (u : Fin 64) (line : BitVec 46) (off : Fin 64) (b d : List Byte) (bad : Bool) (s : State), attUp s u.val = true →
    s.on (attBase u.val) Reg.Att.ATT_STATE_CXL = true → isDead s u.val = false → fatalStopped s = false →
    hostAdmitted s u.val (extentOf (64 * line.toNat)) = false →
    let t := s.bump (attBase u.val) Reg.Att.UNALLOC_CNT
    exec (.hostMemRequest u line .readS) s = .next (t.spend.emit (.hostAnswer u.val line.toNat .rdShared (some (openLine s)) true)) ∧
    exec (.hostMemRequest u line .readA) s = .next (t.spend.emit (.hostAnswer u.val line.toNat .rdOwn (some (openLine s)) true)) ∧
    exec (.hostMemRequest u line .readNoOp) s = .next (t.spend.emit (.hostAnswer u.val line.toNat .rdNoAlloc (some (openLine s)) true)) ∧
    exec (.hostMemRequest u line (.writePart off b bad)) s = .next (t.emit (.hostCmp u.val line.toNat)) ∧
    (u.val ∉ holders s line.toNat →
      exec (.hostMemRequest u line .evict) s = .next (s.emit (.hostCmp u.val line.toNat)) ∧
      (lineFailed s line.toNat = true → exec (.hostMemRequest u line (.writeBack d bad)) s =
        .next ((s.bump poolBase Reg.Pool.LOST_WB_CNT).emit (.hostCmp u.val line.toNat))) ∧
      (lineFailed s line.toNat = false → exec (.hostMemRequest u line (.writeBack d bad)) s =
        .next (t.emit (.hostCmp u.val line.toNat))))) ∧
  (∀ (u : Fin 64) (line : BitVec 46) (q : HostMem) (s : State),
    (attUp s u.val = false ∨ s.on (attBase u.val) Reg.Att.ATT_STATE_CXL = false ∨ isDead s u.val = true →
      exec (.hostMemRequest u line q) s = .next s) ∧
    (attUp s u.val = true → s.on (attBase u.val) Reg.Att.ATT_STATE_CXL = true → isDead s u.val = false → fatalStopped s = true →
      exec (.hostMemRequest u line q) s = .next (contained s u.val line.toNat q))) ∧
  (∀ (a : Fin 64) (off : BitVec 44) (n : BitVec 13) (req : BitVec 16) (bytes : List Byte) (s : State),
    (attUp s a.val = false ∨ n.toNat = 0 ∨ attRd s a.val Reg.Att.FAR_READ_MAX ≤ (s.att a.val).far.length →
      exec (.farWindowRead a off n req) s = .next s) ∧
    (attUp s a.val = false ∨ bytes = [] → exec (.farWindowWrite a off bytes) s = .next s)) ∧
  (∀ (a : Fin 64) (off : BitVec 44) (n : BitVec 13) (req : BitVec 16) (s : State), attUp s a.val = true → 0 < n.toNat →
    (s.att a.val).far.length < attRd s a.val Reg.Att.FAR_READ_MAX →
    let c := cnt1 s (.attachment a) 0x100
    (fatalStopped s = true → exec (.farWindowRead a off n req) s = .next (c.emit (.farDone a.val req.toNat .unsupported))) ∧
    (fatalStopped s = false → winOf s a.val off.toNat n.toNat Reg.FarWin.RD_EN = none →
      exec (.farWindowRead a off n req) s = .next ((c.bump (attBase a.val) Reg.Att.FAR_UR_CNT).emit
        (.farDone a.val req.toNat .unsupported))) ∧
    (∀ (w : Nat), fatalStopped s = false → winOf s a.val off.toNat n.toNat Reg.FarWin.RD_EN = some w →
      let t := cntCM (c.bump (attBase a.val) Reg.Att.FAR_READ_CNT) (.attachment a) 0x105 1 none (some w)
      let ch := winRd s a.val w Reg.FarWin.CHANNEL
      let id := (s.att a.val).farSeq + 1
      (epochReady s = false → exec (.farWindowRead a off n req) s = .next (t.emit (.farDone a.val req.toNat .completerAbort))) ∧
      (epochReady s = true → exec (.farWindowRead a off n req) s = .next (tpEnd (t.setAtt a.val { s.att a.val with
        far := (s.att a.val).far ++ [{ id := id, req := req.toNat, w := w, off := off.toNat, len := n.toNat, ch := ch, got := [],
                                       bad := false, since := s.now }]
        farSeq := id
        farQ := (s.att a.val).farQ ++ [{ id := id, w := w, off := off.toNat, ch := ch, bytes := none, n := n.toNat }] })
        (clusterOf ch))))) ∧
  (∀ (a : Fin 64) (off : BitVec 44) (bytes : List Byte) (s : State), attUp s a.val = true → bytes ≠ [] →
    let c := cnt1 s (.attachment a) 0x100
    (fatalStopped s = true → exec (.farWindowWrite a off bytes) s = .next c) ∧
    (fatalStopped s = false → winOf s a.val off.toNat bytes.length Reg.FarWin.WR_EN = none →
      exec (.farWindowWrite a off bytes) s = .next (c.bump (attBase a.val) Reg.Att.FAR_UR_CNT)) ∧
    (∀ (w : Nat), fatalStopped s = false → winOf s a.val off.toNat bytes.length Reg.FarWin.WR_EN = some w →
      let t := c.bump (attBase a.val) Reg.Att.FAR_WRITE_CNT
      let ch := winRd s a.val w Reg.FarWin.CHANNEL
      (epochReady s = false → exec (.farWindowWrite a off bytes) s = .next (t.bump (attBase a.val) Reg.Att.FAR_DROP_CNT)) ∧
      (epochReady s = true → exec (.farWindowWrite a off bytes) s = .next (tpEnd (t.setAtt a.val { s.att a.val with
        farQ := (s.att a.val).farQ ++ [{ id := 0, w := w, off := off.toNat, ch := ch, bytes := some bytes, n := bytes.length }] })
        (clusterOf ch))))) ∧
  (∀ (a : Fin 64) (req : BitVec 16) (q : FarRead) (s : State),
    (s.att a.val).far.find? (fun q => q.req == req.toNat) = some q →
    ((q.got.flatMap (fun kv => kv.2)).length = q.len →
      exec (.farReadComplete a req) s = .next (cnt1 (farEnd (cntCM s (.attachment a) 0x106 (s.now - q.since) none (some q.w)) a.val q.id
        (.data (q.got.flatMap (fun kv => kv.2)) q.bad)) (.attachment a) 0x101)) ∧
    ((q.got.flatMap (fun kv => kv.2)).length ≠ q.len → exec (.farReadComplete a req) s = .next s)) ∧
  (∀ (a : Fin 64) (req : BitVec 16) (s : State), (∀ q ∈ (s.att a.val).far, q.req ≠ req.toNat) →
    exec (.farReadComplete a req) s = .next s ∧ exec (.farReadTimeout a req) s = .next s) ∧
  (∀ (a : Fin 64) (req : BitVec 16) (q : FarRead) (s : State),
    (s.att a.val).far.find? (fun q => q.req == req.toNat) = some q →
    let first := ((s.chanAny q.ch).bind (fun x => x.jobs.find? (fun j => match j.src with
      | .far b _ i _ => b == a.val && i == q.id && j.op == opReadReq
      | _ => false))).map Job.firstPsn
    let t := attEvent (farKill (farEnd (s.bump (attBase a.val) Reg.Att.FAR_TMO_CNT) a.val q.id .completerAbort) a.val q.ch q.id) a.val 3
    (within t (look (t.att a.val).tmoAt q.w) 1000000 = true → exec (.farReadTimeout a req) s = .next (tpEnd t (clusterOf q.ch))) ∧
    (within t (look (t.att a.val).tmoAt q.w) 1000000 = false → exec (.farReadTimeout a req) s = .next (tpEnd (raiseEvent
      (t.setAtt a.val { t.att a.val with tmoAt := put (t.att a.val).tmoAt q.w t.now }) a.val 0x48
      [q.w, first.getD 0, q.off % 2 ^ 32, q.off / 2 ^ 32]) (clusterOf q.ch)))) ∧
  (∀ (r : Route) (a : Fin 64) (w : Fin 16) (x : BitVec 32) (s : State), Takes s r (attBase a.val + 32 * w.val + 0x100) →
    let b := attBase a.val + 32 * w.val
    let log := bits x.toNat 13 8
    let t := (s.wr b Reg.FarWin.RD_EN (x.toNat / 2)).wr b Reg.FarWin.WR_EN (x.toNat / 4)
    let u := t.wr b Reg.FarWin.LOG_SIZE log
    (s.on b Reg.FarWin.VALID = true → (x.getLsbD 0 = true → exec (.farWinValidWrite r a w x) s = .next s) ∧
      (x.getLsbD 0 = false → exec (.farWinValidWrite r a w x) s = .next (s.wr b Reg.FarWin.VALID 0))) ∧
    (s.on b Reg.FarWin.VALID = false → log < 12 ∨ 44 < log →
      exec (.farWinValidWrite r a w x) s = .next (if x.getLsbD 0 = true then configError (configError t (.attachment a)) (.attachment a)
        else configError t (.attachment a))) ∧
    (s.on b Reg.FarWin.VALID = false → 12 ≤ log → log ≤ 44 →
      (x.getLsbD 0 = false → exec (.farWinValidWrite r a w x) s = .next u) ∧
      (x.getLsbD 0 = true → winBad u a.val w.val log = true →
        exec (.farWinValidWrite r a w x) s = .next (configError u (.attachment a))) ∧
      (x.getLsbD 0 = true → winBad u a.val w.val log = false →
        exec (.farWinValidWrite r a w x) s = .next (u.wr b Reg.FarWin.VALID 1)))) ∧
  (∀ (a : Fin 64) (m : DownMsg) (s : State),
    (isDown s a.val = true → linkUp s a.val = true → (s.att a.val).unusable = false → (isBound s a.val || isOwned s a.val) = true →
      exec (.downstreamMessage a m) s = .next (pumpMsgs (s.setAtt a.val { s.att a.val with
        msgs := (s.att a.val).msgs ++ [((s.att a.val).wseq, m)] }) a.val)) ∧
    (isDown s a.val = false ∨ linkUp s a.val = false ∨ (s.att a.val).unusable = true ∨ (isBound s a.val || isOwned s a.val) = false →
      exec (.downstreamMessage a m) s = .next s)) ∧
  (∀ (a : Fin 64) (da : BitVec 52) (q : DevReq) (s : State),
    (isOwned s a.val = false ∨ linkUp s a.val = false ∨ (s.att a.val).unusable = true →
      exec (.ownedDeviceRequest a da q) s = .next s) ∧
    (isOwned s a.val = true → linkUp s a.val = true → (s.att a.val).unusable = false →
      (fatalStopped s = true → exec (.ownedDeviceRequest a da q) s = .next (devContained s a.val q)) ∧
      (fatalStopped s = false → allExtents s da.toNat (devLen q) (fun x => x.owner == .device && x.open_) = true →
        exec (.ownedDeviceRequest a da q) s = .next (devPool s a.val da.toNat q)) ∧
      (fatalStopped s = false → allExtents s da.toNat (devLen q) (fun x => x.owner == .device && x.open_) = false →
        exec (.ownedDeviceRequest a da q) s = .next (s.emit (.deviceDone a.val (devTag q) .unsupported))))) ∧
  (∀ (a : Fin 64) (q : HostDevReq) (s : State),
    (isBound s a.val = false → exec (.boundDeviceRequest a q) s = .next s) ∧
    (isBound s a.val = true → linkUp s a.val = true → fatalStopped s = false →
      exec (.boundDeviceRequest a q) s = .next (s.emit (.toDevice a.val q .forwarded))) ∧
    (isBound s a.val = true → linkUp s a.val = false ∨ fatalStopped s = true →
      exec (.boundDeviceRequest a .nonPosted) s = .next (s.emit (.toDevice a.val .nonPosted .unsupported)) ∧
      exec (.boundDeviceRequest a .posted) s = .next (s.emit (.toDevice a.val .posted .discarded)) ∧
      exec (.boundDeviceRequest a .memRead) s = .next (s.emit (.toDevice a.val .memRead .poisoned)) ∧
      exec (.boundDeviceRequest a .memWrite) s = .next (s.emit (.toDevice a.val .memWrite .discarded)))) ∧
  (∀ (a : Fin 64) (addr : BitVec 64) (da : BitVec 52) (d : DevDest) (bytes : List Byte) (poison : Bool) (tag : BitVec 16) (n : BitVec 13)
      (q : DevReq) (s : State),
    (isBound s a.val = false ∨ linkUp s a.val = false ∨ (s.att a.val).unusable = true →
      exec (.downstreamDeviceRequest a d q) s = .next s) ∧
    (isBound s a.val = true → linkUp s a.val = true → (s.att a.val).unusable = false →
      let u := attRd s a.val Reg.Att.BIND_VCS
      let l := devLen q
      let m := extentOf (da.toNat + l - 1) + 1 - extentOf da.toNat
      let good := 0 < l ∧ ∀ i, i < m → hostAdmitted s u (extentOf da.toNat + i) = true
      (fatalStopped s = true → exec (.downstreamDeviceRequest a d q) s = .next (devContained s a.val q)) ∧
      (fatalStopped s = false →
        exec (.downstreamDeviceRequest a (.host addr) (.read tag n)) s = .next (s.emit (.memRead u addr.toNat n.toNat)) ∧
        exec (.downstreamDeviceRequest a (.host addr) (.write bytes poison)) s = .next (s.emit (.memWrite u addr.toNat bytes)) ∧
        (good → exec (.downstreamDeviceRequest a (.pool da) q) s = .next (devPool s a.val da.toNat q)) ∧
        (¬good → q = .read tag n → exec (.downstreamDeviceRequest a (.pool da) q) s =
          .next ((s.bump (attBase u) Reg.Att.UNALLOC_CNT).spend.emit (.deviceDone a.val tag.toNat
            (.data (leBytes (s.drawn (8 * n.toNat)) n.toNat) true)))) ∧
        (¬good → q = .write bytes poison → exec (.downstreamDeviceRequest a (.pool da) q) s =
          .next (s.bump (attBase u) Reg.Att.UNALLOC_CNT))))) ∧
  (∀ (r : Route) (a : Fin 64) (k : Fin 8) (x : BitVec 32) (fits : Bool) (s : State), Takes s r (attBase a.val + 16 * k.val + 0x50C) →
    let b := attBase a.val + 16 * k.val
    let n := x.toNat % 2 ^ 17
    let t := s.wr b Reg.Claim.EXT_COUNT n
    let err := fun (u : State) => configError u (.attachment a)
    let mine := (List.range (claimRange s a.val k.val).2).map ((claimRange s a.val k.val).1 + ·)
    let freed := mine.all (fun e => ((s.ext e).map (fun y => y.owner == .free && y.xstate != .offered && y.xstate != .releasing)).getD true)
    (s.on b Reg.Claim.VALID = true → (x.getLsbD 31 = true → exec (.claimValidWrite r a k x fits) s = .next s) ∧
      (x.getLsbD 31 = false → freed = true → exec (.claimValidWrite r a k x fits) s = .next (mine.foldl unclaim (s.wr b Reg.Claim.VALID 0))) ∧
      (x.getLsbD 31 = false → freed = false → exec (.claimValidWrite r a k x fits) s = .next (err s))) ∧
    (s.on b Reg.Claim.VALID = false → n < 1 ∨ 65536 < n →
      exec (.claimValidWrite r a k x fits) s = .next (if x.getLsbD 31 = true then err (err s) else err s)) ∧
    (s.on b Reg.Claim.VALID = false → 1 ≤ n → n ≤ 65536 →
      (x.getLsbD 31 = false → exec (.claimValidWrite r a k x fits) s = .next t) ∧
      (x.getLsbD 31 = true → claimBad t a.val k.val n fits = true → exec (.claimValidWrite r a k x fits) s = .next (err t)) ∧
      (x.getLsbD 31 = true → claimBad t a.val k.val n fits = false →
        exec (.claimValidWrite r a k x fits) s = .next (((List.range (claimRange t a.val k.val).2).map ((claimRange t a.val k.val).1 + ·)).foldl
          (fun t e => queueSanitize (t.setExt e ExtSt.init) e) ((t.wr b Reg.Claim.VALID 1).emit (.claimDecoder a.val k.val
            (s.rd64 b Reg.Claim.DPA_BASE_LO Reg.Claim.DPA_BASE_HI) (claimRange t a.val k.val).1 (claimRange t a.val k.val).2)))))) ∧
  (∀ (p : Fin 128) (frag : Option (List Byte)) (x : Packet) (s t : State), fatalStopped s = false → 112 ≤ p.val → p.val < 124 →
    takeInbox s [p.val] (fun x => x.op == opTunnel) = some (x, t) →
    let c := (p.val - 112) / 3
    let dest := if x.rh.mc = true then (lookD s.switch.mcTo p.val []).head? else if x.endpoint < 64 then some x.endpoint else none
    (∀ (u : State), arriveGood t c x = some u → exec (.tunnelReceive p frag) s = .next u) ∧
    (arriveGood t c x = none → dest = none → exec (.tunnelReceive p frag) s = .next (recordError
      (t.bump (clusterBase c) Reg.Tc.MALFORMED_CNT) (ErrRec.contained (.cluster (idx 3 c)) .protocol 0 0))) ∧
    (∀ (a : Nat), arriveGood t c x = none → dest = some a →
      (∀ (u : State), tunDeliver t a x frag = some u → exec (.tunnelReceive p frag) s = .next (tpSyncAll u)) ∧
      (tunDeliver t a x frag = none → exec (.tunnelReceive p frag) s = .next (tunWait s a x)))) ∧
  (∀ (frag : Option (List Byte)) (x : Packet) (s t : State), fatalStopped s = false →
    takeInbox s [126] (fun x => x.op == opTunnel) = some (x, t) →
    (∀ (u : State), mgmtRefused t x = some u → exec (.tunnelReceive 126 frag) s = .next u) ∧
    (mgmtRefused t x = none → exec (.tunnelReceive 126 frag) s = .next (t.emit (.toMgmt x)))) ∧
  (∀ (p : Fin 128) (frag : Option (List Byte)) (s : State),
    fatalStopped s = true ∨ p.val < 112 ∨ p.val = 124 ∨ p.val = 125 ∨ p.val = 127 ∨ lookD s.switch.inbox p.val [] = [] →
    exec (.tunnelReceive p frag) s = .next s) ∧
  (∀ (s : State) (a : Nat) (p : Packet) (frag : Option (List Byte)),
    let f := tunFn s a p.payload
    attRd s a Reg.Att.TUN_EN = 0 ∨ s.on (bar2 f) Reg.Trq.TRQ_CFG_EN = false ∨ fnReady s f = false ∨
      s.rd (bar2 f) Reg.Trq.TRQ_CI = s.rd (bar2 f) Reg.Trq.TRQ_PI →
    tunDeliver s a p frag = some (attEvent (s.bump (attBase a) Reg.Att.TUN_DROP_CNT) a 5)) ∧
  (∀ (f : Fin 1024) (v : BitVec 32) (s : State),
    let b := bar2 f.val
    (fatalStopped s = true ∨ fnReady s f.val = false ∨ s.on b Reg.Trq.TRQ_CFG_EN = false → exec (.trqDoorbell f v) s = .next s) ∧
    (fatalStopped s = false → fnReady s f.val = true → s.on b Reg.Trq.TRQ_CFG_EN = true →
      ringDist v.toNat (s.rd b Reg.Trq.TRQ_CI) ≤ 2 ^ s.rd b Reg.Trq.TRQ_CFG_LOG_SIZE →
      ringDist v.toNat (s.rd b Reg.Trq.TRQ_PI) ≤ 2 ^ s.rd b Reg.Trq.TRQ_CFG_LOG_SIZE →
      exec (.trqDoorbell f v) s = .next (s.wr b Reg.Trq.TRQ_PI v.toNat)) ∧
    (fatalStopped s = false → fnReady s f.val = true → s.on b Reg.Trq.TRQ_CFG_EN = true →
      2 ^ s.rd b Reg.Trq.TRQ_CFG_LOG_SIZE < ringDist v.toNat (s.rd b Reg.Trq.TRQ_CI) ∨
        2 ^ s.rd b Reg.Trq.TRQ_CFG_LOG_SIZE < ringDist v.toNat (s.rd b Reg.Trq.TRQ_PI) →
      exec (.trqDoorbell f v) s = .next (raiseEvent (s.bump (engBase (countEngine f.val)) Reg.Eng.BAD_PI_CNT) f.val 0x20
        [0, v.toNat, 0, 0])))

/-! ### Memory pool (spec/13_memory_pool.md) -/

/-- Extent commands act on the extent of EXT_CMD_EXTENT and leave their RESULT: ASSIGN takes a FREE, settled extent to FABRIC or DEVICE,
RELEASE starts the release actions, PAIR and UNPAIR make and end pairs, QUERY shows the entry (R448, R451, R458, R459). -/
def Obligations.ExtentCommandsAnswerTheirResult : Prop :=
  ∀ (r : Route) (s : State), Takes s r (poolBase + 0x40) →
    let e := s.rd poolBase Reg.Pool.EXT_CMD_EXTENT
    let o := s.rd poolBase Reg.ExtIm.OWNER
    let p := s.rd poolBase Reg.ExtIm.PARTITION
    let m := s.rd poolBase Reg.ExtIm.MIRROR
    let go := fun (op : Nat) => s.wr poolBase Reg.Pool.EXT_CMD_OP op
    let done := fun (t : State) (n : Nat) => Host.Outcome.next (t.wr poolBase Reg.Pool.EXT_STATUS_RESULT n)
    (∀ i : Instr, s.on poolBase Reg.Pool.EXT_STATUS_BUSY = true → i ∈ [Instr.assign r, .release r, .pair r, .unpair r, .extentQuery r] →
      exec i s = .next (accViol s r .cmdBusy (poolBase + 0x40))) ∧
    (s.on poolBase Reg.Pool.EXT_STATUS_BUSY = false → s.ext e = none →
      exec (.assign r) s = done (go 1) 1 ∧ exec (.release r) s = done (go 2) 1 ∧ exec (.pair r) s = done (go 3) 1 ∧
      exec (.unpair r) s = done (go 4) 1 ∧ exec (.extentQuery r) s = done (go 5) 1) ∧
    (∀ x : ExtSt, s.on poolBase Reg.Pool.EXT_STATUS_BUSY = false → s.ext e = some x →
      (x.owner = .free → x.xstate = .settled → x.isMirror = false →
        (o = 3 → exec (.assign r) s = done (putExt (go 1) e { x with owner := .fabric, partition := p }) 0) ∧
        (o = 4 → exec (.assign r) s = done (putExt (go 1) e { x with owner := .device, partition := p }) 0) ∧
        (o = 6 ∨ o = 7 → exec (.assign r) s = done (go 1) 3) ∧
        (o < 3 ∨ o = 5 → exec (.assign r) s = done (go 1) 2)) ∧
      (x.owner ≠ .free ∨ x.xstate ≠ .settled ∨ x.isMirror = true → exec (.assign r) s = done (go 1) 2) ∧
      (x.owner = .fabric ∨ x.owner = .device → x.open_ = true → exec (.release r) s = done (startRelease (go 2) e) 0) ∧
      (x.owner = .failed → isHbm e = false → exec (.release r) s = done (putExt (go 2) e ExtSt.init) 0) ∧
      (x.open_ = false ∨ (x.owner ≠ .fabric ∧ x.owner ≠ .device) → x.owner ≠ .failed ∨ isHbm e = true →
        exec (.release r) s = done (go 2) 2) ∧
      (s.ext m = none → exec (.pair r) s = done (go 3) 3) ∧
      (∀ y : ExtSt, s.ext m = some y →
        let alive := fun (k : Nat) => s.rd (stackBase (homeStack k)) Reg.Stk.STACK_STATE != 2
        let apart := isHbm e && isHbm m && homeStack e != homeStack m && alive e && alive m
        let unused := y.owner == .free && y.xstate == .settled && !y.isMirror && !y.mirrored
        let good := apart && unused && !x.mirrored && !x.isMirror && !x.onMirror && x.xstate != .copying
        (good = true → x.owner = .free → exec (.pair r) s =
          done (putExt ((go 3).setExt m { y with isMirror := true, mirror := e }) e { x with mirrored := true, mirror := m }) 0) ∧
        (good = true → x.owner ≠ .free → exec (.pair r) s =
          done (putExt ((go 3).setExt m { y with isMirror := true, mirror := e }) e { x with xstate := .copying, mirror := m }) 0) ∧
        (good = false → exec (.pair r) s = done (go 3) 3)) ∧
      (x.mirrored = true → x.onMirror = false → exec (.unpair r) s = done (endPair (go 4) e) 0) ∧
      (x.mirrored = false ∨ x.onMirror = true → exec (.unpair r) s = done (go 4) 3) ∧
      Ends (exec (.extentQuery r) s) (fun t => t.rd poolBase Reg.Pool.EXT_STATUS_RESULT = 0 ∧
        t.rd poolBase Reg.ExtIm.OWNER = x.owner.code ∧ t.rd poolBase Reg.ExtIm.XSTATE = x.xstate.code ∧
        t.rd poolBase Reg.ExtIm.MIRRORED = b2n x.mirrored ∧ t.rd poolBase Reg.ExtIm.IS_MIRROR = b2n x.isMirror ∧
        t.rd poolBase Reg.ExtIm.ON_MIRROR = b2n x.onMirror ∧
        t.rd poolBase Reg.ExtIm.PARTITION = x.partition % 2 ^ Reg.ExtIm.PARTITION.width ∧
        t.rd poolBase Reg.ExtIm.MIRROR = x.mirror % 2 ^ Reg.ExtIm.MIRROR.width ∧
        OnlyFields ([Reg.Pool.EXT_CMD_OP, Reg.Pool.EXT_STATUS_RESULT, Reg.ExtIm.OWNER, Reg.ExtIm.XSTATE, Reg.ExtIm.MIRRORED,
          Reg.ExtIm.IS_MIRROR, Reg.ExtIm.ON_MIRROR, Reg.ExtIm.PARTITION, Reg.ExtIm.MIRROR, Reg.ExtIm.HOST_MASK_LO,
          Reg.ExtIm.HOST_MASK_HI].map (Field.key · poolBase)) s t))

/-- What the pool does by itself: a drained extent is sanitized, a sanitized one reads as zeros and is FREE again, a copied pair forms,
initialisation ends with every line written, stacks fail, scrub reads go in DA order, clear actions clear (R448 to R454, R458). -/
def Obligations.ExtentsAreSanitizedPairedAndScrubbed : Prop :=
  (∀ (e : Fin 131072) (x : ExtSt) (s : State), s.ext e.val = some x → x.xstate = .releasing →
    let t := pumpExtents s
    let u := endPair t e.val
    (extentQuiet t e.val = false → exec (.releaseDrained e) s = .next t) ∧
    (extentQuiet t e.val = true → x.onMirror = false → exec (.releaseDrained e) s = .next (queueSanitize u e.val)) ∧
    (∀ y : ExtSt, extentQuiet t e.val = true → x.onMirror = true → u.ext e.val = some y → exec (.releaseDrained e) s =
      .next (putExt (zeroExtent u e.val) e.val { y with owner := .failed, xstate := .settled, hosts := 0, partition := 0 }))) ∧
  (∀ (e : Fin 131072) (s : State), (∀ x ∈ s.ext e.val, x.xstate ≠ .releasing) → exec (.releaseDrained e) s = .next s) ∧
  (∀ (e : Fin 131072) (rest : List Nat) (s : State), lookD s.pool.san (homeStack e.val) [] = e.val :: rest →
    Ends (exec (.sanitizeDone e) s) (fun t => ∃ y, t.ext e.val = some y ∧ y.owner = .free ∧ y.xstate = .settled ∧ y.hosts = 0 ∧
      y.tag = none ∧ y.offers = [] ∧ (∀ x ∈ s.ext e.val, y.mirrored = x.mirrored ∧ y.isMirror = x.isMirror ∧ y.mirror = x.mirror) ∧
      lookD t.pool.san (homeStack e.val) [] = rest ∧ t.pool.mem = (zeroExtent s e.val).pool.mem ∧
      t.pool.poison = (zeroExtent s e.val).pool.poison ∧ t.mesh = s.mesh ∧ t.tp = s.tp)) ∧
  (∀ (e : Fin 131072) (s : State), lookD s.pool.san (homeStack e.val) [] = [] ∨
    (lookD s.pool.san (homeStack e.val) []).head? ≠ some e.val → exec (.sanitizeDone e) s = .next s) ∧
  (∀ (e a : Nat) (s : State), PoolForm s → extentOf a = e → memByte (zeroExtent s e).pool.mem a = 0) ∧
  (∀ (e a : Nat) (s : State), PoolForm s → extentOf a ≠ e → memByte (zeroExtent s e).pool.mem a = memByte s.pool.mem a) ∧
  (∀ (e : Fin 1152) (x : ExtSt) (s : State), s.ext e.val = some x →
    (x.xstate = .copying → exec (.pairCopyDone e) s = .next (putExt s e.val { x with xstate := .settled, mirrored := true })) ∧
    (x.xstate ≠ .copying → exec (.pairCopyDone e) s = .next s)) ∧
  (∀ s : State, s.pool.ready = false → Ends (exec .poolInitDone s) (fun t => t.pool.ready = true ∧ (∀ a, memByte t.pool.mem a = 0) ∧
    t.pool.poison = [] ∧ t.pool.exts = s.pool.exts ∧ OtherFields [Reg.Pool.FREE_HBM.key poolBase] s t ∧
    { t with regs := s.regs, pool := s.pool } = s)) ∧
  (∀ s : State, s.pool.ready = true → exec .poolInitDone s = .next s) ∧
  (∀ (st : Fin 6) (s : State), exec (.hbmPhyLockLoss st) s = .next (failStack s st.val) ∧
    exec (.hbmCmdTimeout st) s = .next (failStack s st.val) ∧
    (s.rd (stackBase st.val) Reg.Stk.STACK_STATE = 2 → failStack s st.val = s)) ∧
  (∀ (r : Route) (st : Fin 6) (s : State), Takes s r (stackBase st.val + 0x404) →
    exec (.stackOffline r st) s = .next (failStack s st.val)) ∧
  (∀ (line : BitVec 46) (good : Bool) (s : State),
    (hbmLine s line.toNat = true → exec (.hbmUncorrError line good) s = .next (uncorrLine s line.toNat 0 good)) ∧
    (hbmLine s line.toNat = false → exec (.hbmUncorrError line good) s = .next s)) ∧
  (∀ (x : ScrubRead) (s : State), s.rd poolBase Reg.Pool.SCRUB_HOURS = 0 → exec (.scrubRead x) s = .next s) ∧
  (∀ (s : State), s.rd poolBase Reg.Pool.SCRUB_HOURS ≠ 0 →
    let t := { s with pool := { s.pool with scrub := (s.pool.scrub + 1) % (1152 * 2 ^ 22) } }
    let st := homeStack (extentOf (64 * s.pool.scrub))
    let u := cnt1 t (.stack (idx 5 st)) 0x102
    (∀ x : ScrubRead, scrubbable s s.pool.scrub = false → exec (.scrubRead x) s = .next t) ∧
    (∀ g : Bool, scrubbable s s.pool.scrub = true → exec (.scrubRead .good) s = .next u ∧
      exec (.scrubRead (.uncorrectable g)) s = .next (uncorrLine u s.pool.scrub 1 g) ∧
      exec (.scrubRead .corrected) s = .next (recordError
        ((u.bump poolBase Reg.Pool.SCRUB_CORR_CNT).bump (stackBase st) Reg.Stk.ECC_CORR_CNT)
        (ErrRec.ecc (.stack (idx 5 st)) true 0 (64 * s.pool.scrub))))) ∧
  (∀ (r : Route) (s : State), Takes s r (poolBase + 0x6C) →
    Ends (exec (.poolCntClr r) s) (fun t =>
      let cs := [Reg.Pool.SAN_DONE_CNT, Reg.Pool.SCRUB_CORR_CNT, Reg.Pool.POISON_NEW_CNT, Reg.Pool.MIRROR_REPAIR_CNT,
        Reg.Pool.LOST_WB_CNT, Reg.Pool.POISON_READ_CNT]
      (∀ c ∈ cs, t.rd poolBase c = 0) ∧ OnlyFields (cs.map (Field.key · poolBase)) s t) ∧
    exec (.elogClr r) s = .next (s.wr poolBase Reg.Pool.ELOG_CI (s.rd poolBase Reg.Pool.ELOG_PI)))

/-! ### Coherence (spec/14_coherence.md) -/

/-- The home of a line: the request chosen by weighted round robin is served under the blocking protocol or the careful table;
writebacks and evictions of the line's slice come first, oldest first; a dead agent's are discarded and counted (R468, R474 to R476,
R478, R484, R491). -/
def Obligations.HomeServesRequestsAndWritebacks : Prop :=
  (∀ (i : Fin 48) (q : HomeReq) (credit : List Nat) (s : State), sliceOff s i.val = false →
    (∀ w ∈ s.mesh.wbs, lineSlice w.line ≠ i.val) → nextReq s i.val = some (q, credit) →
    let served := Host.Outcome.next (if sliceMode s i.val = 0 then serveBlocking s i.val q credit else serveCareful s i.val q credit)
    (q.kind = .rdShared → exec (.rdShared i) s = served) ∧ (q.kind = .rdOwn → exec (.rdOwn i) s = served) ∧
    (q.kind = .rdNoAlloc → exec (.rdNoAlloc i) s = served) ∧ (q.kind = .wrNoAlloc → exec (.wrNoAlloc i) s = served)) ∧
  (∀ (i : Fin 48) (c : Instr) (k : HomeKind) (s : State),
    (c, k) ∈ [(Instr.rdShared i, HomeKind.rdShared), (.rdOwn i, .rdOwn), (.rdNoAlloc i, .rdNoAlloc), (.wrNoAlloc i, .wrNoAlloc)] →
    sliceOff s i.val = true ∨ s.mesh.wbs.any (fun w => lineSlice w.line == i.val) = true ∨
      (∀ x ∈ nextReq s i.val, x.1.kind ≠ k) → exec c s = .next s) ∧
  (∀ (i : Nat) (q : HomeReq) (credit : List Nat) (s : State), nextReq s i = some (q, credit) → q ∈ (s.slice i).ing) ∧
  (∀ (i : Nat) (q : HomeReq) (credit : List Nat) (s : State),
    let t := takeReq s i q credit
    let w := snoopsFor t q
    (∀ b : BusyEnt, busyOf s q.line = some b →
      serveBlocking s i q credit = slBump (setBusy t q.line { b with queue := b.queue ++ [q] }) i Reg.Slc.WAITQ_CNT) ∧
    (busyOf s q.line = none → serveBlocking s i q credit =
      if needsWay s q = true ∧ 16 ≤ (waysUsed s q.line).length then makeWay s q.line
      else settleAll (startBusy t q.line (some q) w.1 w.2.1 w.2.2 []) q.line)) ∧
  (∀ (i r o : Nat) (q : HomeReq) (credit : List Nat) (s : State), q.asker = .agent r → q.kind = .rdShared →
    needsWay s q = false ∨ (waysUsed s q.line).length < 16 →
    let t := takeReq s i q credit
    let e := sfTouch t q.line
    let u := setSf t q.line { e with sharers := addOnce e.sharers r, mask := 0 }
    (e.owner = none → serveCareful s i q credit =
      tell (stackEvent u q.line 0x100) r q.line (.data 0 (memLine t q.line).1 (memLine t q.line).2)) ∧
    (e.owner = some o → serveCareful s i q credit = sendSnp u i q.line o (.fwdS r))) ∧
  (∀ (i : Fin 48) (w : WbReq) (s : State), sliceOff s i.val = false →
    s.mesh.wbs.find? (fun w => lineSlice w.line == i.val) = some w →
    let t := { s with mesh := { s.mesh with wbs := s.mesh.wbs.erase w } }
    let served := Host.Outcome.next (if isDead s w.agent then slBump t i.val Reg.Slc.DEAD_MSG_CNT else doWriteback t w)
    (w.kind = .wbMod → exec (.wbMod i) s = served) ∧ (w.kind = .wbClean → exec (.wbClean i) s = served) ∧
    (w.kind = .evict → exec (.evict i) s = served)) ∧
  (∀ (i : Fin 48) (c : Instr) (k : WbKind) (s : State),
    (c, k) ∈ [(Instr.wbMod i, WbKind.wbMod), (.wbClean i, .wbClean), (.evict i, .evict)] →
    sliceOff s i.val = true ∨ (∀ w ∈ s.mesh.wbs.find? (fun w => lineSlice w.line == i.val), w.kind ≠ k) → exec c s = .next s) ∧
  (∀ (a : Fin 80) (line : BitVec 46) (h : HostAns) (s : State), a.val < 64 →
    (isDead s a.val = true →
      exec (.homeSnoopResponse a line h) s = .next (slBump s (lineSlice line.toNat) Reg.Slc.DEAD_MSG_CNT)) ∧
    (∀ x : Snp, isDead s a.val = false → s.mesh.snps.find? (fun x => x.agent == a.val && x.line == line.toNat) = some x →
      exec (.homeSnoopResponse a line h) s = .next (carefulHost s x)) ∧
    (isDead s a.val = false → (∀ x ∈ s.mesh.snps, x.agent = a.val → x.line ≠ line.toNat) →
      exec (.homeSnoopResponse a line h) s = .next (takeResponse s a.val line.toNat (hostAns h) [] false))) ∧
  (∀ (a : Fin 80) (line : BitVec 46) (h : HostAns) (r : SnpAns) (d : List Byte) (bad : Bool) (s : State), 64 ≤ a.val →
    let mine := fun (m : HomeMsg) => match m with | .rsp x y _ _ _ => x == a.val && y == line.toNat | _ => false
    let t := { s with mesh := { s.mesh with toHome := s.mesh.toHome.erase (.rsp a.val line.toNat r d bad) } }
    (s.mesh.toHome.any mine = false → exec (.homeSnoopResponse a line h) s = .next s) ∧
    (s.mesh.toHome.find? mine = some (.rsp a.val line.toNat r d bad) →
      (isDead s a.val = false → exec (.homeSnoopResponse a line h) s = .next (takeResponse t a.val line.toNat r d bad)) ∧
      (isDead s a.val = true →
        exec (.homeSnoopResponse a line h) s = .next (slBump t (lineSlice line.toNat) Reg.Slc.DEAD_MSG_CNT)))) ∧
  (∀ (s : State) (a line : Nat) (r : SnpAns) (d : List Byte) (bad : Bool),
    (busyOf s line = none → takeResponse s a line r d bad = s) ∧
    (∀ b : BusyEnt, busyOf s line = some b → a ∉ b.waits → takeResponse s a line r d bad = s)) ∧
  (∀ (a : Fin 80) (line : BitVec 46) (s : State), 64 ≤ a.val → s.mesh.toHome.contains (.ack a.val line.toNat) = false →
    exec (.homeAck a line) s = .next s) ∧
  (∀ (a : Fin 80) (line : BitVec 46) (s : State), a.val < 64 ∨ s.mesh.toHome.contains (.ack a.val line.toNat) = true →
    let t := { s with mesh := { s.mesh with toHome := s.mesh.toHome.erase (.ack a.val line.toNat) } }
    (busyOf s line.toNat = none → exec (.homeAck a line) s = .next t) ∧
    (∀ b : BusyEnt, busyOf s line.toNat = some b → b.acking = true → b.req.bind HomeReq.agent = some a.val →
      exec (.homeAck a line) s =
        .next (settleAll (setBusy t line.toNat { b with acking := false, req := none, dir := false }) line.toNat)) ∧
    (∀ b : BusyEnt, busyOf s line.toNat = some b → b.acking = false ∨ b.req.bind HomeReq.agent ≠ some a.val →
      exec (.homeAck a line) s = .next t)) ∧
  (∀ (x : SfUpset) (s : State), (busyOf s x.line.toNat).isSome = true ∨ (sfEnt s x.line.toNat).isNone = true →
    exec (.sfEccError x) s = .next s) ∧
  (∀ (line : BitVec 46) (s : State), busyOf s line.toNat = none → (sfEnt s line.toNat).isSome = true →
    let i := lineSlice line.toNat
    let t := fun (corrected : Bool) => recordError (s.setEvt (sliceBase i) Reg.Slc.SLICE_EVENT (if corrected then 2 else 3))
      (ErrRec.ecc (.slice (idx 47 i)) corrected 0 (64 * line.toNat))
    exec (.sfEccError { line := line, corrects := true }) s = .next (t true) ∧
    (sliceMode s i = 0 ∨ sliceMode s i = 2 →
      exec (.sfEccError { line := line, corrects := false }) s = .next (pumpExtents (rebuildSf (t false) line.toNat))) ∧
    (sliceMode s i = 1 ∨ sliceMode s i = 3 → exec (.sfEccError { line := line, corrects := false }) s =
      .next { t false with mesh := { s.mesh with damaged := addOnce s.mesh.damaged line.toNat } })) ∧
  (∀ (r : Route) (i : Fin 48) (s : State), Takes s r (sliceBase i.val + 0x44) → Ends (exec (.sliceCntClr r i) s) (fun t =>
    let cs := [Reg.Slc.SNOOP_CNT, Reg.Slc.BISNP_CNT, Reg.Slc.RSPIWB_CNT, Reg.Slc.WB_BYPASS_CNT, Reg.Slc.WAITQ_CNT,
      Reg.Slc.SF_VICTIM_CNT, Reg.Slc.SPILL_CNT, Reg.Slc.DIR_BCAST_CNT, Reg.Slc.LOST_LINE_CNT, Reg.Slc.DEAD_MSG_CNT]
    (∀ c ∈ cs, t.rd (sliceBase i.val) c = 0) ∧
    t.rd (sliceBase i.val) Reg.Slc.BUSY_HWM = busyUsed s i.val % 2 ^ Reg.Slc.BUSY_HWM.width ∧
    OnlyFields ((Reg.Slc.BUSY_HWM :: cs).map (Field.key · (sliceBase i.val))) s t))

/-- An on-die agent follows R477 and R485: it answers service-mode snoops and keeps what the answer says, loads and stores hit or ask,
victims are written back, grants, data, acknowledgements and completions move the line; an unlisted pair fences the agent. -/
def Obligations.AgentsFollowTheirTable : Prop :=
  (∀ c : CLine,
    (c.st = .sh → serviceAnswer c .inv = (.i, { c with st := .i }) ∧ serviceAnswer c .shr = (.s, c) ∧ serviceAnswer c .cur = (.s, c)) ∧
    (c.st = .smAD → serviceAnswer c .inv = (.i, { c with st := .imAD }) ∧ serviceAnswer c .shr = (.s, c) ∧ serviceAnswer c .cur = (.s, c)) ∧
    (c.st = .e → serviceAnswer c .inv = (.i, { c with st := .i }) ∧ serviceAnswer c .shr = (.s, { c with st := .sh }) ∧
      serviceAnswer c .cur = (.cur, c)) ∧
    (c.st = .m → serviceAnswer c .inv = (.iData, { c with st := .i }) ∧ serviceAnswer c .shr = (.sData, { c with st := .sh }) ∧
      serviceAnswer c .cur = (.curData, c)) ∧
    (∀ k : SnpKind, c.st = .miA → serviceAnswer c k = (if c.wb = true then .iWb else .i, c)) ∧
    (∀ k : SnpKind, c.st ∈ [LineState.i, .isD, .isDI, .imAD, .siA, .iiA] → serviceAnswer c k = (.i, c))) ∧
  (∀ (a : Fin 80) (line : BitVec 46) (x : Snp) (s : State),
    s.mesh.snps.find? (fun x => x.agent == a.val && x.line == line.toNat && (match x.kind with | .drain _ => false | _ => true)) = some x →
    let t := takeSnoop { s with mesh := { s.mesh with snps := s.mesh.snps.erase x } } a.val line.toNat x.kind
    (agentActs s a.val = true → exec (.agentSnoop a line) s =
      .next (fencing s (if x.kind.takes = true ∧ 64 ≤ a.val then watchSnooped t a.val line.toNat else t))) ∧
    (agentActs s a.val = false → exec (.agentSnoop a line) s = .next s)) ∧
  (∀ (a : Fin 80) (line : BitVec 46) (s : State),
    (∀ x ∈ s.mesh.snps, x.agent = a.val → x.line = line.toNat → (match x.kind with | .drain _ => false | _ => true) = false) →
    exec (.agentSnoop a line) s = .next s) ∧
  (∀ (a : Fin 80) (line : BitVec 46) (m : AgentMsg) (s : State), agentActs s a.val = true →
    s.mesh.toAgent.find? (fun x => x.1 == a.val && x.2.1 == line.toNat) = some (a.val, line.toNat, m) →
    let t := { s with mesh := { s.mesh with toAgent := s.mesh.toAgent.erase (a.val, line.toNat, m) } }
    let l := line.toNat
    (∀ (d : List Byte) (b : Bool), m = .gntS d b →
      exec (.agentGrant a line) s = .next (fencing s (takeGrant t a.val l false (some d) b))) ∧
    (∀ (d : Option (List Byte)) (b : Bool), m = .gntE d b →
      exec (.agentGrant a line) s = .next (fencing s (takeGrant t a.val l true d b))) ∧
    (m = .cmp → exec (.agentCmp a line) s = .next (fencing s (takeCmp t a.val l)) ∧ exec (.agentGrant a line) s = .next s) ∧
    (∀ (n : Nat) (d : List Byte) (b : Bool), m = .data n d b →
      exec (.agentData a line) s = .next (fencing s (takeData t a.val l n d b)) ∧ exec (.agentCmp a line) s = .next s) ∧
    (m = .invAck → exec (.agentInvack a line) s = .next (fencing s (takeInvAck t a.val l)) ∧ exec (.agentData a line) s = .next s) ∧
    (∀ n : Nat, m = .gntM n → exec (.agentGntm a line) s = .next (fencing s (takeGntM t a.val l n)) ∧
      exec (.agentInvack a line) s = .next s)) ∧
  (∀ (a : Fin 80) (line : BitVec 46) (i : Instr) (s : State),
    i ∈ [Instr.agentGrant a line, .agentCmp a line, .agentData a line, .agentInvack a line, .agentGntm a line] →
    agentActs s a.val = false ∨ s.mesh.toAgent.any (fun x => x.1 == a.val && x.2.1 == line.toNat) = false → exec i s = .next s) ∧
  (∀ (a : Fin 80) (line : BitVec 46) (off : Fin 64) (b : List Byte) (s : State), agentActs s a.val = false →
    exec (.agentLoad a line) s = .next s ∧ exec (.agentStore a line off b) s = .next s ∧ exec (.agentReplace a line) s = .next s) ∧
  (∀ (a : Fin 80) (line : BitVec 46) (off : Fin 64) (b : List Byte) (s : State), agentActs s a.val = true →
    let c := lineOfAgent s a.val line.toNat
    let set := fun (x : CLine) => setLine s a.val line.toNat x
    let hold := fun (op : LineOp) => Host.Outcome.next (set { c with held := c.held ++ [op] })
    let req := fun (k : HomeKind) (st : LineState) (op : LineOp) => agentAsk (set { c with st := st, a := 0, op := some op }) a.val line.toNat k
    let ask := fun (k : HomeKind) (st : LineState) (op : LineOp) => if draining s a.val line.toNat = true then hold op else .next (req k st op)
    let back := fun (k : WbKind) (st : LineState) (data : Bool) => agentWb (set { c with st := st, wb := data }) a.val line.toNat k c
    let wb := fun (k : WbKind) (st : LineState) (data : Bool) => Host.Outcome.next (back k st data)
    (c.st ∈ [LineState.sh, .e, .m, .o, .smAD, .smA, .omAC, .omA] → exec (.agentLoad a line) s =
      .next (countPoison (s.emit (.loaded a.val line.toNat c.data c.bad)) c.bad)) ∧
    (c.st = .i → exec (.agentLoad a line) s = ask .rdShared .isD .load) ∧
    (c.st ∈ [LineState.isD, .isDI, .imAD, .imA, .miA, .oiA, .siA, .iiA] → exec (.agentLoad a line) s = hold .load) ∧
    (c.st = .e ∨ c.st = .m → exec (.agentStore a line off b) s = .next (set { c.store off.val b with st := .m })) ∧
    (c.st = .i → exec (.agentStore a line off b) s = ask .rdOwn .imAD (.store off.val b)) ∧
    (c.st = .sh → exec (.agentStore a line off b) s = ask .rdOwn .smAD (.store off.val b)) ∧
    (c.st = .o → exec (.agentStore a line off b) s = ask .rdOwn .omAC (.store off.val b)) ∧
    (c.st ∉ [LineState.i, .sh, .e, .m, .o] → exec (.agentStore a line off b) s = hold (.store off.val b) ∧
      exec (.agentReplace a line) s = hold .replace) ∧
    (c.st = .i → exec (.agentReplace a line) s = .next s) ∧
    (c.st = .sh → exec (.agentReplace a line) s = wb .evict .siA false) ∧
    (c.st = .e → exec (.agentReplace a line) s = wb .wbClean .miA false) ∧
    (c.st = .m → exec (.agentReplace a line) s = wb .wbMod .miA true) ∧
    (c.st = .o → exec (.agentReplace a line) s = wb .wbMod .oiA true)) ∧
  (∀ (s : State) (a line n : Nat) (d : List Byte) (bad : Bool), (lineOfAgent s a line).st ∈ [LineState.i, .sh, .e, .m, .o] →
    takeData s a line n d bad = agentFault s a line ∧ takeInvAck s a line = agentFault s a line ∧
    takeGntM s a line n = agentFault s a line ∧ takeCmp s a line = agentFault s a line ∧
    (∀ x : Bool, takeGrant s a line x (some d) bad = agentFault s a line))

/-- Careful mode: software or a death enters it once no transaction is left; the return drains every live agent; a killed or silent
agent is declared dead and recovered slice by slice; the built-in test ends with its result (R480, R481, R483, R487 to R490, R492). -/
def Obligations.CarefulModeAndRecoveryRun : Prop :=
  (∀ (r : Route) (i : Fin 48) (s : State), Takes s r (sliceBase i.val + 0x44) →
    (sliceMode s i.val = 0 → exec (.enterCareful r i) s = .next (setMode s i.val 2 4)) ∧
    (sliceMode s i.val ≠ 0 → exec (.enterCareful r i) s = .next s) ∧
    (sliceMode s i.val = 1 → s.mesh.recover = [] → s.rd poolBase Reg.Coh.BCT_STATUS_STATE ≠ 1 →
      exec (.leaveCareful r i) s = .next (startDrain s i.val)) ∧
    (sliceMode s i.val ≠ 1 ∨ s.mesh.recover ≠ [] ∨ s.rd poolBase Reg.Coh.BCT_STATUS_STATE = 1 →
      exec (.leaveCareful r i) s = .next s)) ∧
  (∀ (i m n : Nat) (s : State), i < 48 → m < 4 → sliceMode (setMode s i m n) i = m ∧
    (∀ q ∈ (s.slice i).ing, { q with held := q.held || (m != 0 && q.holds) } ∈ ((setMode s i m n).slice i).ing) ∧
    { setMode s i m n with regs := s.regs, mesh := s.mesh } = s) ∧
  (∀ (i : Fin 48) (s : State),
    (sliceMode s i.val = 2 → (∀ kv ∈ s.mesh.busy, lineSlice kv.1 ≠ i.val) →
      exec (.carefulEntered i) s = .next (setMode s i.val 1 (s.rd (sliceBase i.val) Reg.Slc.MODE_REASON))) ∧
    (sliceMode s i.val ≠ 2 ∨ busyUsed s i.val ≠ 0 → exec (.carefulEntered i) s = .next s)) ∧
  (∀ (a : Fin 80) (i : Fin 48) (x : Snp) (s : State),
    s.mesh.snps.find? (fun x => x.agent == a.val && x.kind == .drain i.val) = some x →
    let l := agentLines s a.val i.val
    let o := l.filter (fun kv => kv.2.st == .o)
    (agentActs s a.val = false ∨ l.any (fun kv => kv.2.st.transient) = true → exec (.agentSnpdrain a i) s = .next s) ∧
    (agentActs s a.val = true → l.any (fun kv => kv.2.st.transient) = false → o ≠ [] → exec (.agentSnpdrain a i) s =
      .next (o.foldl (fun t kv => agentWb (setLine t a.val kv.1 { kv.2 with st := .oiA, wb := true }) a.val kv.1 .wbMod kv.2) s)) ∧
    (agentActs s a.val = true → l.any (fun kv => kv.2.st.transient) = false → o = [] → exec (.agentSnpdrain a i) s =
      .next (l.foldl (fun t kv => retryAll t a.val kv.1) { s with mesh := { s.mesh with
        snps := s.mesh.snps.erase x, toHome := s.mesh.toHome ++ [.drained a.val i.val] } }))) ∧
  (∀ (a : Fin 80) (i : Fin 48) (s : State), (∀ x ∈ s.mesh.snps, x.agent = a.val → x.kind ≠ .drain i.val) →
    exec (.agentSnpdrain a i) s = .next s) ∧
  (∀ (a : Fin 80) (i : Fin 48) (s : State), s.mesh.toHome.contains (.drained a.val i.val) = true →
    let t : State := { s with mesh := { s.mesh with toHome := s.mesh.toHome.erase (.drained a.val i.val) } }
    let d := (s.slice i.val).drains.erase a.val
    let u := t.setSlice i.val { s.slice i.val with drains := d }
    (isDead s a.val = true → exec (.rspdrain a i) s = .next (slBump t i.val Reg.Slc.DEAD_MSG_CNT)) ∧
    (isDead s a.val = false → sliceMode s i.val = 3 → d = [] → exec (.rspdrain a i) s = .next (enterService u i.val)) ∧
    (isDead s a.val = false → sliceMode s i.val ≠ 3 ∨ d ≠ [] → exec (.rspdrain a i) s = .next u)) ∧
  (∀ (a : Fin 80) (i : Fin 48) (s : State), s.mesh.toHome.contains (.drained a.val i.val) = false → exec (.rspdrain a i) s = .next s) ∧
  (∀ (r : Route) (s : State), Takes s r (poolBase + 0x230) →
    exec (.agentKill r) s = .next (fencing s (agentDies s (s.rd poolBase Reg.Coh.AGENT_KILL_AGENT) 4))) ∧
  (∀ (s : State) (d cause : Nat), isDead s d = true → agentDies s d cause = s) ∧
  (∀ (a : Fin 80) (s : State), lateSnoop s a.val = none → exec (.snoopTimeout a) s = .next s) ∧
  (∀ (a : Fin 80) (i da : Nat) (s : State), lateSnoop s a.val = some (i, da) →
    let t := s.spend.setEvt (sliceBase i) Reg.Slc.SLICE_EVENT 1
    (∀ u : UnitId, agentUnit a.val = some u → exec (.snoopTimeout a) s =
      .next (fencing s (agentDies (recordError t (ErrRec.contained u .coherence a.val da)) a.val 3))) ∧
    (agentUnit a.val = none → exec (.snoopTimeout a) s = .next (fencing s (agentDies t a.val 3)))) ∧
  (∀ (a l : Nat) (rest : List Nat) (s : State),
    keysWhere s.mesh.busy (fun _ b => b.waits.contains a || b.wbFrom.contains a) = l :: rest →
    lateSnoop s a = some (lineSlice l, 64 * l)) ∧
  (∀ (i : Fin 48) (s : State), sliceMode s i.val ≠ 1 ∨ (∀ r ∈ s.mesh.recover, i.val ∉ r.2.1) →
    exec (.reclaimScanDone i) s = .next s) ∧
  (∀ (i : Fin 48) (d : Nat × List Nat × Nat) (s : State), s.mesh.recover.find? (fun r => r.2.1.contains i.val) = some d →
    sliceMode s i.val = 1 →
    let t := recoveryStep (scanSlice s i.val d.1) i.val d.1
    (t.mesh.recover.any (fun r => r.2.1.contains i.val) = true ∨ t.rd poolBase Reg.Coh.BCT_STATUS_STATE = 1 ∨
      t.boot.bctFailed = true ∨ t.boot.started = false → exec (.reclaimScanDone i) s = .next t) ∧
    (t.mesh.recover.any (fun r => r.2.1.contains i.val) = false → t.rd poolBase Reg.Coh.BCT_STATUS_STATE ≠ 1 →
      t.boot.bctFailed = false → t.boot.started = true → exec (.reclaimScanDone i) s = .next (startDrain t i.val))) ∧
  (∀ (r : Route) (s : State), Takes s r (poolBase + 0x238) →
    (s.rd poolBase Reg.Coh.BCT_STATUS_STATE ≠ 1 → exec (.bctRun r) s = .next (startBct s)) ∧
    (s.rd poolBase Reg.Coh.BCT_STATUS_STATE = 1 → exec (.bctRun r) s = .next s)) ∧
  (∀ (ok : Bool) (i : Fin 48) (s : State),
    s.rd poolBase Reg.Coh.BCT_STATUS_STATE ≠ 1 ∨ (List.range 48).any (fun j => sliceMode s j != 1) = true →
    exec (.bctDone ok i) s = .next s) ∧
  (∀ (i : Fin 48) (s : State), s.rd poolBase Reg.Coh.BCT_STATUS_STATE = 1 → (∀ j, j < 48 → sliceMode s j = 1) →
    let t := s.setEvt poolBase Reg.Coh.COH_EVENT 4
    let bad := (t.wr poolBase Reg.Coh.BCT_STATUS_STATE 3).wr poolBase Reg.Coh.BCT_STATUS_FAIL_SLICE i.val
    let drain := fun (v : State) => (List.range 48).foldl (fun u j =>
      if u.mesh.recover.any (fun r => r.2.1.contains j) then u else startDrain u j) { v with boot := { s.boot with started := true } }
    exec (.bctDone true i) s = .next (drain (t.wr poolBase Reg.Coh.BCT_STATUS_STATE 2)) ∧
    (s.boot.started = true → exec (.bctDone false i) s = .next (drain bad)) ∧
    (s.boot.started = false → exec (.bctDone false i) s =
      .next (fatalStop { bad with boot := { s.boot with bctFailed := true } } (.slice i) .coherence 0 i.val)))

/-! ### Meters and shapers (spec/15_metering.md) -/

/-- A refill adds CIR and PIR tokens up to the bucket sizes and, when a commit is due, installs the staged values and clips the buckets;
a bank's CNT_CLR clears its counters (R504, R505, R507, R515, R517, R518). -/
def Obligations.RefillsAddTokensUpToTheBucketSize : Prop :=
  (∀ (m : Fin 16384) (s : State),
    (unitOff s .meterBank = true → exec (.meterRefill m) s = .next s) ∧
    (unitOff s .meterBank = false → exec (.meterRefill m) s = .next (heldAgain (refillBucket s (meterRef m.val)) m.val))) ∧
  (∀ (x : ShaperId) (s : State),
    (unitOff s (shaperRef x).unit = true → exec (.shaperRefill x) s = .next s) ∧
    (unitOff s (shaperRef x).unit = false → exec (.shaperRefill x) s = .next (refillBucket s (shaperRef x)))) ∧
  (∀ (x : BucketRef) (s : State), let t := setBuckets s x (refilled s x)
    (applyDue t x = false → refillBucket s x = t) ∧ (applyDue t x = true → refillBucket s x = applyBucket t x)) ∧
  (∀ (x : BucketRef) (s : State),
    (refilled s x).tc ≤ (s.rd x.entry x.cbs : Int) * 8000 ∧ (refilled s x).tp ≤ (s.rd x.entry x.pbs : Int) * 8000 ∧
    ((bucketsOf s x).tc + (s.rd x.entry x.cir * (s.rd x.entry x.refill * 64) : Nat) ≤ (s.rd x.entry x.cbs : Int) * 8000 →
      (refilled s x).tc = (bucketsOf s x).tc + (s.rd x.entry x.cir * (s.rd x.entry x.refill * 64) : Nat)) ∧
    ((bucketsOf s x).tp + (s.rd x.entry x.pir * (s.rd x.entry x.refill * 64) : Nat) ≤ (s.rd x.entry x.pbs : Int) * 8000 →
      (refilled s x).tp = (bucketsOf s x).tp + (s.rd x.entry x.pir * (s.rd x.entry x.refill * 64) : Nat)) ∧
    ((bucketsOf s x).tc ≤ (s.rd x.entry x.cbs : Int) * 8000 → (bucketsOf s x).tc ≤ (refilled s x).tc) ∧
    ((bucketsOf s x).tp ≤ (s.rd x.entry x.pbs : Int) * 8000 → (bucketsOf s x).tp ≤ (refilled s x).tp)) ∧
  (∀ (m : Fin 16384) (i : ShaperId) (x : BucketRef) (s : State), x ∈ [meterRef m.val, shaperRef i] →
    (bucketConfigGood s x = false → applyBucket s x = dropStagedEntry (configError s x.unit) x) ∧
    (bucketConfigGood s x = true → ∃ t, applyBucket s x = dropStagedEntry t x ∧
      (bucketsOf t x).tc ≤ (t.rd x.entry x.cbs : Int) * 8000 ∧ (bucketsOf t x).tp ≤ (t.rd x.entry x.pbs : Int) * 8000 ∧
      (s.on x.entry x.en = false → t.on x.entry x.en = true → bucketsOf t x =
        { tc := (t.rd x.entry x.cbs : Int) * 8000, tp := (t.rd x.entry x.pbs : Int) * 8000 }) ∧
      { t with regs := s.regs, police := s.police } = s)) ∧
  (∀ (m : Nat) (s : State), (∀ kv ∈ (heldAgain s m).tp.chans, kv.2.mtWait ≠ some m) ∧
    ∃ l, heldAgain s m = { s with tp := { s.tp with chans := l } } ∧ l.map Prod.fst = s.tp.chans.map Prod.fst) ∧
  (∀ (r : Route) (s : State), Takes s r (base .meterBank + 0x40) → Ends (exec (.meterCntClr r .meters) s) (fun t =>
    t.rd (base .meterBank) Reg.Mb.INJ_HOLD_CNT = 0 ∧
    (∀ m, m < 16384 → t.rd (meterRef m).entry Reg.Mtr.GREEN_CNT = 0 ∧ t.rd (meterRef m).entry Reg.Mtr.YELLOW_CNT = 0 ∧
      t.rd (meterRef m).entry Reg.Mtr.RED_CNT = 0) ∧
    (∀ k, k ≠ Reg.Mb.INJ_HOLD_CNT.key (base .meterBank) → k / 32 < base .meterBank + 0x80000 ∨ base .meterBank + 0x100000 ≤ k / 32 ∨
      (k / 32 - base .meterBank) % 32 < 0x14 ∨ 0x1C < (k / 32 - base .meterBank) % 32 → look t.regs k = look s.regs k) ∧
    RegsOnly s t)) ∧
  (∀ (r : Route) (s : State), Takes s r (base .injShaper + 0x40) → Ends (exec (.meterCntClr r .injShapers) s) (fun t =>
    (∀ i : Fin 4096, t.rd (shaperRef (.inj i)).entry Reg.Shp.SHAPED_CNT = 0) ∧
    (∀ k, k / 32 < base .injShaper + 0x10000 ∨ base .injShaper + 0x30000 ≤ k / 32 ∨ (k / 32 - base .injShaper) % 32 ≠ 0x14 →
      look t.regs k = look s.regs k) ∧ RegsOnly s t)) ∧
  (∀ (r : Route) (n : Fin 96) (s : State), Takes s r (base (.egressShaper n) + 0x40) → Ends (exec (.meterCntClr r (.egress n)) s) (fun t =>
    (∀ k : Fin 3, t.rd (shaperRef (.egress n k)).entry Reg.Shp.SHAPED_CNT = 0) ∧
    OnlyFields ([0, 1, 2].map (fun k => Reg.Shp.SHAPED_CNT.key (shaperRef (.egress n k)).entry)) s t))

/-! ### Counters, the Gazetteer and Trail (spec/16_counters_telemetry.md) -/

/-- Sweep ticks snapshot or are skipped, dumps reach the ring or are lost, the ring's registers follow R528, ended items become records
and records move to their ring (R523, R526 to R528, R531, R535, R536, R538 to R540). -/
def Obligations.DumpsAndTrailRecordsReachTheirRings : Prop :=
  (∀ s : State, unitOff s .gazetteer = true ∨ s.on gzBase Reg.Gz.GZ_CFG_EN = false ∨ s.gz.stopping = true →
    exec .sweepTick s = .next s) ∧
  (∀ s : State, unitOff s .gazetteer = false → s.on gzBase Reg.Gz.GZ_CFG_EN = true → s.gz.stopping = false →
    let n := (s.gz.ticks + 1) % 2 ^ 32
    let t := (s.setGz { s.gz with ticks := n }).bump gzBase Reg.Gz.GZ_SKIP
    (s.gz.dump ≠ none → exec .sweepTick s = .next (applyHeld ((t.setEvt gzBase Reg.Gz.GZ_EVENT 1).setGz
      { s.gz with ticks := n, skipped := s.gz.skipped + 1 }))) ∧
    let d : DumpSt := ⟨s.timebase, n, s.rd gzBase Reg.Gz.GZ_PERIOD_US, s.rd 0 Reg.Root.PACE_NOW,
      s.on 0 Reg.Root.DEV_STATUS_PACE_LOW, s.rd gzBase Reg.Gz.GZ_TYPE_MASK⟩
    (s.gz.dump = none → ∃ snaps,
      exec .sweepTick s = .next (applyHeld (s.setGz { s.gz with ticks := n, snaps := snaps, fresh := [], dump := some d })) ∧
      (∀ u ∈ allUnits, ∀ o, bankOffset u = some o → look snaps (base u) = some (snapOf s u o)))) ∧
  (∀ (s : State) (u : UnitId) (o : Nat),
    (clockRuns s u = true →
      snapOf s u o = ⟨bankValues s u o, s.rd (base u + o) Reg.Cnt.CNT_INFO_SEL_GEN, false, s.gz.fresh.contains (base u)⟩) ∧
    (clockRuns s u = false → (snapOf s u o).noSnap = true ∧
      ∀ x : BankSnap, look s.gz.snaps (base u) = some x → (snapOf s u o).vals = x.vals)) ∧
  (∀ (fault : Bool) (s : State), s.gz.dump = none → exec (.dumpWritten fault) s = .next s) ∧
  (∀ (d : DumpSt) (s : State), s.gz.dump = some d →
    let b := dumpBytes s d
    let size := 2 ^ s.rd gzBase Reg.Gz.GZ_LOG_SIZE
    let pi := s.rd gzBase Reg.Gz.GZ_PI
    let ring := s.rd64 gzBase Reg.Gz.GZ_BASE_LO Reg.Gz.GZ_BASE_HI
    let pad := if size - pi % size < b.length then size - pi % size else 0
    let used := ringDist pi (s.rd gzBase Reg.Gz.GZ_CI) + pad + b.length
    let reach := gzReaches s (ring + (pi + pad) % size) b.length
    let lead := leBytes 0x475A5030 4 ++ leBytes pad 4 ++ (List.range 56).map (fun i => Config.freeBits 8 (s.free + i))
    let s1 := if pad = 0 then s else gzWrite { s with free := s.free + 56 } (ring + pi % size) lead
    let next := (pi + pad + b.length) % 2 ^ 32
    let s2 := ((gzWrite s1 (ring + (pi + pad) % size) b).wr gzBase Reg.Gz.GZ_PI next).wr gzBase Reg.Gz.GZ_LAST_LEN b.length
    let wb := s2.rd64 gzBase Reg.Gz.GZ_WB_ADDR_LO Reg.Gz.GZ_WB_ADDR_HI
    let s3 := if wb = 0 then s2 else gzWrite s2 wb (leBytes next 4)
    let s4 := countEv (cnt1 s3 .gazetteer 0x100) .gazetteer (CntEvent.plain 0x101 b.length)
    (∀ fault : Bool, size < used → exec (.dumpWritten fault) s = .next (dumpOver (dumpLost s))) ∧
    (used ≤ size → exec (.dumpWritten true) s = .next (dumpOver (dumpLost (s.setEvt gzBase Reg.Gz.GZ_EVENT 2)))) ∧
    (used ≤ size → reach = false → exec (.dumpWritten false) s = .next (dumpOver (dumpLost (s.setEvt gzBase Reg.Gz.GZ_EVENT 2)))) ∧
    (used ≤ size → reach = true →
      exec (.dumpWritten false) s = .next (dumpOver (dumpToStream (s4.setGz { s4.gz with skipped := 0, lost := 0 }) b)))) ∧
  (∀ (s : State) (d : DumpSt), (dumpBytes s d).length % 64 = 0 ∧ (dumpBytes s d).take 16 =
    leBytes 0x475A4431 4 ++ leBytes (dumpBytes s d).length 4 ++ leBytes d.tick 8) ∧
  (∀ (r : Route) (x : BitVec 32) (s : State), Takes s r (gzBase + 0x5C) →
    (ringDist (s.rd gzBase Reg.Gz.GZ_PI) x.toNat ≤ 2 ^ s.rd gzBase Reg.Gz.GZ_LOG_SIZE →
      exec (.gzCiWrite r x) s = .next (s.wr gzBase Reg.Gz.GZ_CI x.toNat)) ∧
    (2 ^ s.rd gzBase Reg.Gz.GZ_LOG_SIZE < ringDist (s.rd gzBase Reg.Gz.GZ_PI) x.toNat →
      exec (.gzCiWrite r x) s = .next (configError s .gazetteer))) ∧
  (∀ (r : Route) (x : BitVec 32) (s : State), Takes s r (gzBase + 0x40) →
    let on := s.on gzBase Reg.Gz.GZ_CFG_EN
    (x.getLsbD 0 = true → on = true → exec (.gzEnWrite r x) s = .next (s.setGz { s.gz with stopping := false })) ∧
    (x.getLsbD 0 = true → on = false →
      exec (.gzEnWrite r x) s = .next ((s.setGz { s.gz with ticks := 0, stopping := false }).wr gzBase Reg.Gz.GZ_CFG_EN 1)) ∧
    (x.getLsbD 0 = false → on = false → exec (.gzEnWrite r x) s = .next s) ∧
    (x.getLsbD 0 = false → on = true → s.gz.dump = none → exec (.gzEnWrite r x) s = .next (gzStop s)) ∧
    (x.getLsbD 0 = false → on = true → s.gz.dump ≠ none →
      exec (.gzEnWrite r x) s = .next (s.setGz { s.gz with stopping := true }))) ∧
  (∀ (r : Route) (s : State), Takes s r (gzBase + 0x74) → let cs := [Reg.Gz.GZ_LOST, Reg.Gz.GZ_SKIP, Reg.Gz.TR_LOST, Reg.Gz.TR_SKIP]
    Ends (exec (.gzCntClr r) s) (fun t => (∀ c ∈ cs, t.rd gzBase c = 0) ∧ OnlyFields (cs.map (Field.key · gzBase)) s t)) ∧
  (∀ (r : Route) (x : BitVec 32) (s : State), Takes s r (gzBase + 0x80) →
    let fs := [Reg.Gz.TR_CFG_EN, Reg.Gz.TR_CFG_SEND, Reg.Gz.TR_CFG_RECV, Reg.Gz.TR_CFG_FUNC_EN, Reg.Gz.TR_CFG_FUNC]
    let now_ := fun (t : State) => fs.map (t.rd gzBase ·) = [x.toNat % 2, x.toNat / 2 % 2, x.toNat / 4 % 2, x.toNat / 8 % 2,
      x.toNat / 2 ^ 16 % 2 ^ 10] ∧ OtherFields (fs.map (Field.key · gzBase)) s t
    (x.getLsbD 0 = false → Ends (exec (.trailEnWrite r x) s) (fun t => now_ t ∧ RegsOnly s t)) ∧
    (x.getLsbD 0 = true → Ends (exec (.trailEnWrite r x) s) (fun t => now_ t ∧
      (∀ e, e < 16 → ∃ j, j ≤ s.rd gzBase Reg.Gz.TR_JITTER ∧ look t.gz.count e = some (s.rd gzBase Reg.Gz.TR_PERIOD - 1 + j)) ∧
      t.gz.trSeq = (if s.on gzBase Reg.Gz.TR_CFG_EN then s.gz.trSeq else 0) ∧
      { t with regs := s.regs, free := s.free, gz := { t.gz with count := s.gz.count, trSeq := s.gz.trSeq } } = s))) ∧
  (∀ s : State, s.gz.items.find? (fun x => x.ended) = none → exec .trailItemEnd s = .next s) ∧
  (∀ (x : TrailItem) (s : State), s.gz.items.find? (fun x => x.ended) = some x →
    let n := (s.gz.trSeq + 1) % 2 ^ 32
    let gone := { s.gz with items := s.gz.items.erase x, trSeq := n }
    (s.gz.recs.length < 1024 → exec .trailItemEnd s = .next (cnt1 ((s.setGz { gone with recs := s.gz.recs ++ [x.record n] }).wr gzBase
      Reg.Gz.TR_HELD (s.gz.recs.length + 1)) .gazetteer 0x102)) ∧
    (1024 ≤ s.gz.recs.length → exec .trailItemEnd s = .next (trailLost (s.setGz gone) 1))) ∧
  (∀ (x : TrailItem) (n : Nat), (x.record n).length = 64) ∧
  (∀ (fault : Bool) (s : State),
    s.gz.recs = [] ∨ 2 ^ s.rd gzBase Reg.Gz.TR_LOG_SIZE ≤ ringDist (s.rd gzBase Reg.Gz.TR_PI) (s.rd gzBase Reg.Gz.TR_CI) →
    exec (.trailRecordMove fault) s = .next s) ∧
  (∀ (b : List Byte) (rest : List (List Byte)) (s : State), s.gz.recs = b :: rest →
    ringDist (s.rd gzBase Reg.Gz.TR_PI) (s.rd gzBase Reg.Gz.TR_CI) < 2 ^ s.rd gzBase Reg.Gz.TR_LOG_SIZE →
    let pi := s.rd gzBase Reg.Gz.TR_PI
    let t := (s.setGz { s.gz with recs := rest }).wr gzBase Reg.Gz.TR_HELD rest.length
    let da := s.rd64 gzBase Reg.Gz.TR_BASE_LO Reg.Gz.TR_BASE_HI + 64 * (pi % 2 ^ s.rd gzBase Reg.Gz.TR_LOG_SIZE)
    let lost := trailLost (t.setEvt gzBase Reg.Gz.GZ_EVENT 2) 1
    exec (.trailRecordMove true) s = .next lost ∧
    (gzReaches s da 64 = true → exec (.trailRecordMove false) s = .next ((gzWrite t da b).wr gzBase Reg.Gz.TR_PI (pi + 1))) ∧
    (gzReaches s da 64 = false → exec (.trailRecordMove false) s = .next lost)) ∧
  (∀ (r : Route) (w : BusWrite) (s : State), let u := unitAt w.off.toNat
    let refused := writeRefused s r w.off.toNat w.enables.toNat
    (s.boot.hardTrip = true → exec (.counterSelWrite r w) s = .next s) ∧
    (∀ v : Viol, s.boot.hardTrip = false → refused = some v → exec (.counterSelWrite r w) s = .next (accViol s r v w.off.toNat)) ∧
    (s.boot.hardTrip = false → refused = none → isSelection u (32 * w.off.toNat) = false → exec (.counterSelWrite r w) s = .next s) ∧
    (s.boot.hardTrip = false → refused = none → isSelection u (32 * w.off.toNat) = true →
      exec (.counterSelWrite r w) s = .next (selWrite s r u w.off.toNat w.value.toNat))) ∧
  (∀ (u : UnitId) (kvs : List (Nat × Nat)) (s : State),
    (s.on gzBase Reg.Gz.GZ_CFG_EN = true → ∃ h, bankPut s u kvs = s.setGz { s.gz with held := h } ∧
      (∀ k, k ∉ kvs.map Prod.fst → look h k = look s.gz.held k)) ∧
    (s.on gzBase Reg.Gz.GZ_CFG_EN = false → bankPut s u kvs = applySel s u kvs))

/-! ### Management (spec/17_management.md) -/

/-- The ring: a frame is dropped, consumed or passed on out of the other port with one hop fewer; HELLOs, link changes and ring breaks;
the bypass closes for its causes and opens without one (R541, R543, R545 to R547, R570). -/
def Obligations.RingFramesAndBypassMove : Prop :=
  (∀ (p : Fin 2) (f : MgmtFrame) (s : State), meLive s p.val = false → exec (.mgmtFrameReceive p f) s = .next s) ∧
  (∀ (p : Fin 2) (f : MgmtFrame) (s : State), meLive s p.val = true →
    let b := meBase p.val
    let t := cnt1 s (.mgmtEth p) 0x100
    let h := DrsHdr.ofBytes f.body
    (f.fcsGood = false → exec (.mgmtFrameReceive p f) s = .next (s.bump b Reg.Me.FCS_ERR)) ∧
    (f.fcsGood = true → etherGood f = false → exec (.mgmtFrameReceive p f) s = .next s) ∧
    (f.fcsGood = true → etherGood f = true →
      (f.src.toNat = drsMac t → exec (.mgmtFrameReceive p f) s = .next (meEvent (t.bump b Reg.Me.LOOP_DROP) p.val 4)) ∧
      (f.src.toNat ≠ drsMac t → f.etype.toNat ≠ t.rd mpBase Reg.Mp.DRS_ETYPE ∨ f.etype = 0x88F7 →
        exec (.mgmtFrameReceive p f) s = .next (forwardFrame t p.val (fun q => .mgmtFrame q f))) ∧
      (f.src.toNat ≠ drsMac t → f.etype.toNat = t.rd mpBase Reg.Mp.DRS_ETYPE → f.etype ≠ 0x88F7 →
        (drsGood f.body = false → exec (.mgmtFrameReceive p f) s = .next (t.bump b Reg.Me.BAD_FRAME)) ∧
        (drsGood f.body = true → h.kind = 4 → exec (.mgmtFrameReceive p f) s = .next (takeHello t p.val f.body)) ∧
        (drsGood f.body = true → h.kind ≠ 4 → f.dst.toNat = drsMac t → exec (.mgmtFrameReceive p f) s = .next t) ∧
        (drsGood f.body = true → h.kind ≠ 4 → f.dst.toNat ≠ drsMac t → h.ttl = 0 →
          exec (.mgmtFrameReceive p f) s = .next (meEvent (t.bump b Reg.Me.TTL_DROP) p.val 3)) ∧
        (drsGood f.body = true → h.kind ≠ 4 → f.dst.toNat ≠ drsMac t → h.ttl ≠ 0 →
          exec (.mgmtFrameReceive p f) s = .next (forwardFrame t p.val (fun q => .mgmtFrame q (lessTtl f))))))) ∧
  (∀ f : MgmtFrame, drsGood f.body = true → let h := DrsHdr.ofBytes f.body
    DrsHdr.ofBytes (lessTtl f).body = { h with ttl := h.ttl - 1 } ∧ (lessTtl f).body.drop 16 = f.body.drop 16 ∧
    { lessTtl f with body := f.body } = f) ∧
  (∀ (s : State) (p : Nat) (e : Nat → Emit),
    (meLive s (1 - p) = false → forwardFrame s p e = s.bump (meBase p) Reg.Me.FWD_DROP) ∧
    (meLive s (1 - p) = true → (forwardFrame s p e).out = e (1 - p) :: s.out)) ∧
  (∀ (s : State) (p : Fin 2) (x : List Byte), meUp s p.val = true → ringBroken s p.val = false →
    (takeHello s p.val x).mg = { s.mg with heard := addOnce s.mg.heard p.val } ∧
    (takeHello s p.val x).rd (meBase p.val) Reg.Me.NEIGH_DEVICE_ID = beAt x 16 2 % 2 ^ 16 ∧
    (takeHello s p.val x).rd (meBase p.val) Reg.Me.NEIGH_PORT = beAt x 20 4 % 2 ∧
    (takeHello s p.val x).rd (meBase p.val) Reg.Me.NEIGH_VALID = 1) ∧
  (∀ s : State,
    let miss := fun (t : State) (p : Nat) => if s.mg.heard.contains p then t else t.bump (meBase p) Reg.Me.HELLO_MISS
    let u := (miss (miss s 0) 1).setMg { s.mg with heard := [] }
    let say := fun (t : State) (p : Fin 2) => if meLive t p.val then cnt1 (t.emit (.mgmtFrame p.val (helloFrame t p.val))) (.mgmtEth p) 0x101 else t
    exec .helloTimer s = .next (say (say u 0) 1)) ∧
  (∀ (s : State) (p : Fin 2), let f := helloFrame s p.val
    f.fcsGood = true ∧ f.dst = Config.helloMac ∧ drsGood f.body = true ∧ (DrsHdr.ofBytes f.body).kind = 4 ∧
    (DrsHdr.ofBytes f.body).ttl = 0 ∧ beAt f.body 20 4 = p.val ∧ f.body.length = 46) ∧
  (∀ (p : Fin 2) (s : State), exec (.helloTimeout p) s = .next (setBroken s p.val true)) ∧
  (∀ (p : Fin 2) (b : Bool) (s : State),
    (ringBroken s p.val = b → setBroken s p.val b = s) ∧
    (ringBroken s p.val ≠ b → setBroken s p.val b =
      deviceEvent (meEvent (s.wr (meBase p.val) Reg.Me.ME_STATE_RING_BROKEN (b2n b)) p.val (if b then 1 else 2))
        (if b then 0x5C else 0x5D) [p.val, 0, 0, 0])) ∧
  (∀ (p : Fin 2) (st : BitVec 2) (s : State), let speed := s.rd (meBase p.val) Reg.Me.ME_CFG_SPEED
    (st ≠ 0 → bypassed s = true ∨ unitOff s (.mgmtEth p) = true → exec (.mgmtLinkChange p st) s = .next s) ∧
    ((st = 2 ∧ speed = 1) ∨ (st = 3 ∧ speed = 2) → exec (.mgmtLinkChange p st) s = .next s) ∧
    (st = 0 ∨ (bypassed s = false ∧ unitOff s (.mgmtEth p) = false) → ¬(st = 2 ∧ speed = 1) → ¬(st = 3 ∧ speed = 2) →
      exec (.mgmtLinkChange p st) s = .next (setMeLink s p.val st.toNat))) ∧
  (∀ (p : Fin 2) (st : Nat) (s : State), let t := meEvent (s.wr (meBase p.val) Reg.Me.ME_STATE_LINK st) p.val 0
    (s.rd (meBase p.val) Reg.Me.ME_STATE_LINK = st → setMeLink s p.val st = s) ∧
    (s.rd (meBase p.val) Reg.Me.ME_STATE_LINK ≠ st → 2 ≤ st → setMeLink s p.val st = t) ∧
    (s.rd (meBase p.val) Reg.Me.ME_STATE_LINK ≠ st → st < 2 → setMeLink s p.val st = setBroken t p.val true)) ∧
  (∀ s : State,
    (bypassCause s = true → exec .bypassClose s = .next (closeBypass s)) ∧
    (bypassCause s = false → exec .bypassClose s = .next s) ∧
    (bypassCause s = true ∨ bypassed s = false → exec .bypassOpen s = .next s) ∧
    (bypassCause s = false → bypassed s = true → exec .bypassOpen s = .next ((((s.wr (meBase 0) Reg.Me.ME_STATE_BYPASS_CLOSED 0).wr
      (meBase 1) Reg.Me.ME_STATE_BYPASS_CLOSED 0)).emit (.bypass false))) ∧
    (bypassed s = true → closeBypass s = s) ∧
    (bypassed s = false → bypassed (closeBypass s) = true ∧ meUp (closeBypass s) 0 = false ∧ meUp (closeBypass s) 1 = false ∧
      (closeBypass s).out.head? = some (.bypass true)))

/-- SPDM: each step is answered once the one before it is done, key exchange opens at most eight sessions with mutual authentication, a
good FINISH establishes one, and an established session beats, updates its keys and ends (R549 to R553). -/
def Obligations.SpdmSessionsFollowTheirOrder : Prop :=
  (∀ (p : Fin 2) (mac : BitVec 48) (offers : Bool) (slot : BitVec 4) (off n : BitVec 16) (index : BitVec 8) (id : BitVec 32)
      (i : Instr) (s : State), mpServes s = false ∨ meLive s p.val = false →
    i ∈ [Instr.getVersion p mac, .getCapabilities p mac, .negotiateAlgorithms p mac offers, .getDigests p mac,
      .getCertificate p mac slot off n, .challenge p mac slot, .getMeasurements p mac index, .keyExchange p mac id] →
    exec i s = .next s) ∧
  (∀ (p : Fin 2) (mac : BitVec 48) (offers : Bool) (slot : BitVec 4) (off n : BitVec 16) (index : BitVec 8) (s : State),
    mpServes s = true → meLive s p.val = true →
    let step := lookD s.mg.spdm mac.toNat 0
    let say := fun (t : State) (a : SpdmAns) => Host.Outcome.next (sendOut t p.val (fun q => .spdm q mac a))
    exec (.getVersion p mac) s = say (spdmStep s mac 1) .version ∧
    (step < 1 → exec (.getCapabilities p mac) s = say s .error) ∧
    (1 ≤ step → exec (.getCapabilities p mac) s = say (spdmStep s mac 2) (.capabilities (s.rd mpBase Reg.Mp.HB_S))) ∧
    (step < 2 → exec (.negotiateAlgorithms p mac offers) s = say s .error) ∧
    (2 ≤ step → exec (.negotiateAlgorithms p mac offers) s = if offers then say (spdmStep s mac 3) .algorithms else say s .error) ∧
    (∀ i : Instr, step < 3 → i ∈ [Instr.getDigests p mac, .getCertificate p mac slot off n, .challenge p mac slot,
      .getMeasurements p mac index] → exec i s = say s .error) ∧
    (3 ≤ step →
      exec (.getDigests p mac) s = say s .digests ∧
      exec (.getCertificate p mac slot off n) s = say s (if slot = 0 then .certificate 0 off.toNat n.toNat else .error) ∧
      exec (.challenge p mac slot) s = say s (if slot = 0 then .challengeAuth 0 else .error) ∧
      (index = 0 → exec (.getMeasurements p mac index) s = say s (.measurementCount 6)) ∧
      (1 ≤ index.toNat → index.toNat ≤ 4 → exec (.getMeasurements p mac index) s =
        say s (.measurements [(index.toNat, lookD s.flask.meas index.toNat 0)] [])) ∧
      (index = 5 → exec (.getMeasurements p mac index) s = say s (.measurements [(5, fmRoot s)] [])) ∧
      (index = 0x10 → exec (.getMeasurements p mac index) s = say s (.measurements [] (measRaw s))) ∧
      (index = 0xFF → exec (.getMeasurements p mac index) s = say s (.measurements
        ([1, 2, 3, 4].map (fun k => (k, lookD s.flask.meas k 0)) ++ [(5, fmRoot s)]) (measRaw s))) ∧
      (5 < index.toNat → index ≠ 0x10 → index ≠ 0xFF → exec (.getMeasurements p mac index) s = say s .error))) ∧
  (∀ (p : Fin 2) (mac : BitVec 48) (id : BitVec 32) (s : State), mpServes s = true → meLive s p.val = true →
    let say := fun (t : State) (a : SpdmAns) => sendOut t p.val (fun q => .spdm q mac a)
    let k : SessSt := { id := id.toNat, mac := mac, port := p.val, phase := .exchange, full := false, digests := false, tx := 0, high := none, seen := [], last := none, heard := s.now }
    let opened := s.setMg { s.mg with sess := s.mg.sess ++ [k] }
    (lookD s.mg.spdm mac.toNat 0 < 3 ∨ id = 0 ∨ sessOf s id.toNat ≠ none → exec (.keyExchange p mac id) s = .next (say s .error)) ∧
    (3 ≤ lookD s.mg.spdm mac.toNat 0 → id ≠ 0 → sessOf s id.toNat = none → 8 ≤ s.mg.sess.length →
      exec (.keyExchange p mac id) s = .next (say s .sessionLimit)) ∧
    (3 ≤ lookD s.mg.spdm mac.toNat 0 → id ≠ 0 → sessOf s id.toNat = none → s.mg.sess.length < 8 →
      exec (.keyExchange p mac id) s = .next (say (say opened (.keyExchangeRsp id.toNat)) (.getDigests id.toNat)))) ∧
  (∀ (id : BitVec 32) (x : EncapResp) (good : Bool) (s : State), mpServes s = false ∨ sessOf s id.toNat = none →
    exec (.deliverEncapsulatedResponse id x) s = .next s ∧ exec (.finish id good) s = .next s) ∧
  (∀ (id : BitVec 32) (k : SessSt) (good : Bool) (root : BitVec 256) (x : EncapResp) (s : State), sessOf s id.toNat = some k →
    mpServes s = true →
    let say := fun (t : State) (a : SpdmAns) => sendOut t k.port (fun q => .spdm q k.mac a)
    let fresh := setSess s { k with phase := .established, tx := 0, high := none, seen := [], heard := s.now }
    (k.phase ≠ .exchange → exec (.deliverEncapsulatedResponse id x) s = .next s) ∧
    (k.phase = .exchange → exec (.deliverEncapsulatedResponse id .digests) s =
      .next (say (setSess s { k with digests := true }) (.getCertificate k.id))) ∧
    (k.phase = .exchange → k.digests = false → exec (.deliverEncapsulatedResponse id (.chain good root)) s = .next (say s .error)) ∧
    (k.phase = .exchange → k.digests = true → (good && (fmRoot s == 0 || root == fmRoot s)) = true →
      exec (.deliverEncapsulatedResponse id (.chain good root)) s =
        .next (setSess s { k with phase := .verified, full := fmRoot s != 0 })) ∧
    (k.phase = .exchange → k.digests = true → (good && (fmRoot s == 0 || root == fmRoot s)) = false →
      exec (.deliverEncapsulatedResponse id (.chain good root)) s =
        .next (say (drsEvent ((dropSession s k.id).bump mpBase Reg.Mp.AUTH_FAIL_CNT) 2) .error)) ∧
    (k.phase = .established → exec (.finish id good) s = .next s) ∧
    (k.phase = .verified → exec (.finish id true) s = .next (say (drsEvent
      (fresh.wr mpBase Reg.Mp.SESS_ACTIVE (fresh.rd mpBase Reg.Mp.SESS_ACTIVE + 1)) 0) (.finishRsp k.id))) ∧
    (k.phase = .exchange ∨ (k.phase = .verified ∧ good = false) →
      exec (.finish id good) s = .next (say (dropSession s k.id) .error))) ∧
  (∀ (id : BitVec 32) (s : State), mpServes s = false ∨ liveSess s id.toNat = none →
    exec (.heartbeat id) s = .next s ∧ exec (.keyUpdate id) s = .next s ∧ exec (.endSession id) s = .next s) ∧
  (∀ (id : BitVec 32) (k : SessSt) (s : State), liveSess s id.toNat = some k → mpServes s = true →
    let say := fun (t : State) (a : SpdmAns) => sendOut t k.port (fun q => .spdm q k.mac a)
    exec (.heartbeat id) s = .next (say (setSess s { k with heard := s.now }) (.heartbeatAck k.id)) ∧
    exec (.keyUpdate id) s =
      .next (say (setSess s { k with tx := 0, high := none, seen := [], heard := s.now }) (.keyUpdateAck k.id)) ∧
    exec (.endSession id) s = .next (dropSession (say s (.endSessionAck k.id)) k.id)) ∧
  (∀ (id : BitVec 32) (s : State), exec (.sessionTimeout id) s = .next (dropSession s id.toNat)) ∧
  (∀ (id : Nat) (s : State), sessOf (dropSession s id) id = none ∧ (sessOf s id = none → dropSession s id = s)) ∧
  (∀ (id : Nat) (k : SessSt) (s : State), sessOf s id = some k →
    (dropSession s id).mg.streams.all (·.2.session != id) = true ∧ (dropSession s id).mg.reqs.all (·.session != id) = true ∧
    (dropSession s id).flask.store.map (·.session) ≠ some id ∧
    (k.phase = .established → (dropSession s id).rd mpBase Reg.Mp.SESS_ACTIVE = (s.rd mpBase Reg.Mp.SESS_ACTIVE - 1) % 2 ^ 4)) ∧
  (∀ (s : State) (p : Nat) (e : Nat → Emit), let q := if ringBroken s p then 1 - p else p
    (meLive s q = true → sendOut s p e = cnt1 (s.emit (e q)) (.mgmtEth (idx 1 q)) 0x101) ∧
    (meLive s q = false → sendOut s p e = s)) ∧
  (∀ (id port : Nat) (k : SessSt) (e : Nat → Nat → Emit) (s : State), liveSess s id = some k →
    let t := sendOut (setSess s { k with tx := k.tx + 1 }) port (fun q => e q k.tx)
    (k.tx + 1 < 2 ^ 40 → sendSecured s id port e = t) ∧ (2 ^ 40 ≤ k.tx + 1 → sendSecured s id port e = dropSession t id))

/-- Streams send their oldest records; the timebase takes samples, steps forward or slews within TB_MAX_PPB, and holds over; the
management processor restarts for its causes and fails after too many; the clear actions clear (R562 to R569, R584, R608). -/
def Obligations.StreamsTimebaseAndRestartsRun : Prop :=
  (∀ (st : Fin 4) (fit drop_ : Nat) (s : State), look s.mg.streams st.val = none ∨ mpServes s = false →
    exec (.streamRecordSend st fit drop_) s = .next s) ∧
  (∀ (st : Fin 4) (fit drop_ : Nat) (h : StreamSt) (s : State), look s.mg.streams st.val = some h → liveSess s h.session = none →
    exec (.streamRecordSend st fit drop_) s = .next s) ∧
  (∀ (st : Fin 4) (fit drop_ : Nat) (h : StreamSt) (k : SessSt) (s : State), look s.mg.streams st.val = some h →
    liveSess s h.session = some k → mpServes s = true →
    let l := if st = 0 then s.events.kept.map StreamRec.event else lookD s.mg.recs st.val []
    let n := Nat.min drop_ (l.length - fit)
    let send := fun (t : State) => (streamMsgs st.val (l.take fit)).foldl (fun u m =>
      sendSecured u k.id k.port (fun q seq => .secured q (securedFrame u k.mac k.id seq 2 m))) t
    (st = 0 → exec (.streamRecordSend st fit drop_) s = .next (send
      (State.add { s with events := { s.events with kept := s.events.kept.drop (fit + n) } } mpBase Reg.Mp.EVT_LOST n))) ∧
    (st ≠ 0 → exec (.streamRecordSend st fit drop_) s =
      .next (send (s.setMg { s.mg with recs := put s.mg.recs st.val (l.drop (fit + n)) })))) ∧
  (∀ (p : Fin 2) (dom : BitVec 8) (res : BitVec 32) (o : Option (BitVec 64)) (s : State), meLive s p.val = false →
    exec (.ptpEventMessage p dom res o) s = .next s) ∧
  (∀ (p : Fin 2) (dom : BitVec 8) (res : BitVec 32) (o : BitVec 64) (s : State), meLive s p.val = true →
    let t := forwardFrame (cnt1 s (.mgmtEth p) 0x100) p.val (fun q => .ptp q res.toNat)
    exec (.ptpEventMessage p dom res none) s = .next t ∧
    (t.rd mpBase Reg.Mp.TB_CFG_SRC ≠ 2 ∨ dom.toNat ≠ t.rd mpBase Reg.Mp.PTP_DOMAIN → exec (.ptpEventMessage p dom res (some o)) s = .next t) ∧
    (t.rd mpBase Reg.Mp.TB_CFG_SRC = 2 → dom.toNat = t.rd mpBase Reg.Mp.PTP_DOMAIN →
      exec (.ptpEventMessage p dom res (some o)) s = .next (offerOffset (t.wr mpBase Reg.Mp.TB_STATUS_PTP_PORT p.val) o.toInt))) ∧
  (∀ s : State, s.tbOffers = [] → exec .tbOffsetSample s = .next s) ∧
  (∀ (o : Int) (rest : List Int) (s : State), s.tbOffers = o :: rest →
    let big := (1000 * s.rd mpBase Reg.Mp.TB_STEP_NS : Nat) < o ∧ s.on mpBase Reg.Mp.TB_CFG_STEP_OK = true
    let u := ((({ s with tbOffers := rest }.wr mpBase Reg.Mp.TB_OFFSET_PS (word32 o)).wr mpBase Reg.Mp.TB_STATUS_STATE (1 + s.drawn 1)).spend).setMg { s.mg with sampleAt := some s.now }
    (s.rd mpBase Reg.Mp.TB_CFG_SRC = 0 → exec .tbOffsetSample s = .next { s with tbOffers := rest }) ∧
    (s.rd mpBase Reg.Mp.TB_CFG_SRC ≠ 0 → big → exec .tbOffsetSample s = .next (stepBase u o.toNat)) ∧
    (s.rd mpBase Reg.Mp.TB_CFG_SRC ≠ 0 → ¬big → Ends (exec .tbOffsetSample s) (fun t =>
      t.tbOffers = rest ∧ t.timebase = s.timebase ∧ -(s.rd mpBase Reg.Mp.TB_MAX_PPB : Int) ≤ t.mg.rate ∧
      t.mg.rate ≤ (s.rd mpBase Reg.Mp.TB_MAX_PPB : Int) ∧ t.mg.sampleAt = some s.now ∧
      t.rd mpBase Reg.Mp.TB_OFFSET_PS = word32 o ∧ t.rd mpBase Reg.Mp.TB_FREQ_PPB = word32 t.mg.freq ∧
      (t.rd mpBase Reg.Mp.TB_STATUS_STATE = 1 ∨ t.rd mpBase Reg.Mp.TB_STATUS_STATE = 2) ∧
      OtherFields ([Reg.Mp.TB_OFFSET_PS, Reg.Mp.TB_FREQ_PPB, Reg.Mp.TB_STATUS_STATE].map (Field.key · mpBase)) s t ∧
      { t with regs := s.regs, mg := s.mg, tbOffers := s.tbOffers, free := s.free } = s))) ∧
  (∀ (s : State) (o : Nat), s.gz.held = [] →
    let c := s.mg.carry + (o % 1000 * 1000000 : Nat)
    let n := o / 1000 + (c / 1000000000).toNat
    (stepBase s o).timebase = (s.timebase + n) % 2 ^ 64 ∧ (stepBase s o).mg = { s.mg with carry := c % 1000000000 } ∧
    (stepBase s o).rd mpBase Reg.Mp.TB_STEP_CNT = Nat.min (s.rd mpBase Reg.Mp.TB_STEP_CNT + 1) (2 ^ 32 - 1) % 2 ^ 32) ∧
  (∀ s : State, let st := s.rd mpBase Reg.Mp.TB_STATUS_STATE
    (s.rd mpBase Reg.Mp.TB_CFG_SRC = 0 ∨ (st ≠ 1 ∧ st ≠ 2) → exec .tbHoldover s = .next s) ∧
    (s.rd mpBase Reg.Mp.TB_CFG_SRC ≠ 0 → st = 1 ∨ st = 2 → exec .tbHoldover s =
      .next (deviceEvent ((s.wr mpBase Reg.Mp.TB_STATUS_STATE 3).setMg { s.mg with sampleAt := none }) 0x5E [0, 0, 0, 0]))) ∧
  (∀ s : State,
    (s.rd mpBase Reg.Mp.TB_CFG_SRC ≠ 3 → exec .timePpsInEdge s = .next s) ∧
    (s.rd mpBase Reg.Mp.TB_CFG_SRC = 3 → exec .timePpsInEdge s = .next { s with tbOffers := s.tbOffers ++
      [((((s.timebase + 500000000) / 1000000000 * 1000000000 : Nat) : Int) - s.timebase) * 1000] })) ∧
  (∀ (rise : Bool) (s : State),
    (s.mg.pps = rise → exec (.timePpsOutEdge rise) s = .next s) ∧
    (s.mg.pps ≠ rise → exec (.timePpsOutEdge rise) s = .next ((s.setMg { s.mg with pps := rise }).emit (.ppsOut rise)))) ∧
  (∀ (r : Route) (s : State), exec .lockstepMismatch s = .next (mpRestart s 1) ∧ exec .mpWatchdogExpire s = .next (mpRestart s 2) ∧
    exec .mpMemoryError s = .next (mpRestart s 3) ∧
    (Takes s r (mpBase + 0x4C) → exec (.mpRestart r) s = .next (mpRestart s 4))) ∧
  (∀ (s : State) (n : Nat), s.rd mpBase Reg.Mp.MP_STATE ≠ 1 → mpRestart s n = s) ∧
  (∀ s : State, (dropSessions s).mg.sess = [] ∧ (dropSessions s).mg.reqs = [] ∧ (dropSessions s).mg.spdm = [] ∧
    (abandonStore s).flask.store = none) ∧
  (∀ (ok : Bool) (s : State), s.rd mpBase Reg.Mp.MP_STATE ≠ 2 → exec (.mpRestartDone ok) s = .next s) ∧
  (∀ s : State, s.rd mpBase Reg.Mp.MP_STATE = 2 →
    let u := s.wr mpBase Reg.Mp.MP_STATE 1
    let v := if s.mg.ownFence then { u with setup := { s.setup with fenced := s.setup.fenced.filter (· != .mgmtProc) }, mg := { s.mg with ownFence := false } } else u
    let w := if isFenced v .mgmtProc || s.mesh.recover.any (fun r => r.1 == 71) then v else setDead v 71 false
    exec (.mpRestartDone true) s = .next (deviceEvent w 0x5F [w.rd mpBase Reg.Mp.MP_LAST_CAUSE, 0, 0, 0]) ∧
    exec (.mpRestartDone false) s = .next (mpFails s)) ∧
  (∀ s : State, let u := s.wr mpBase Reg.Mp.MP_STATE 3
    (bankRuns s = false → mpFails s = u) ∧
    (bankRuns s = true → mpFails s = fatalStop (dropUnconfirmed u) .mgmtProc .lockstep (u.rd mpBase Reg.Mp.MP_LAST_CAUSE) 0)) ∧
  (∀ (r : Route) (k : Fin 2) (s : State), Takes s r (meBase k.val + 0x54) →
    let cs := [Reg.Me.FWD_FRAMES, Reg.Me.FWD_DROP, Reg.Me.TTL_DROP, Reg.Me.LOOP_DROP, Reg.Me.FCS_ERR, Reg.Me.BAD_FRAME, Reg.Me.HELLO_MISS]
    Ends (exec (.mgmtEthCntClr r k) s) (fun t =>
      (∀ c ∈ cs, t.rd (meBase k.val) c = 0) ∧ OnlyFields (cs.map (Field.key · (meBase k.val))) s t)) ∧
  (∀ (r : Route) (s : State), Takes s r (mpBase + 0x4C) →
    let cs := [Reg.Mp.AUTH_FAIL_CNT, Reg.Mp.BAD_TAG_CNT, Reg.Mp.REQ_DUP_CNT, Reg.Mp.TB_STEP_CNT]
    Ends (exec (.mpCntClr r) s) (fun t => (∀ c ∈ cs, t.rd mpBase c = 0) ∧ OnlyFields (cs.map (Field.key · mpBase)) s t))

/-- Drisiul requests and their operations: the front operation of the front request runs by its own rule, a session that may not run it
gets DENIED, and the first failure skips the rest (R549, R551, R554 to R562,
R573 to R578). -/
def Obligations.DrisiulOperationsRunInTurn : Prop :=
  (∀ (q : DrsReq) (s : State), mpServes s = false ∨ meLive s q.port.val = false → exec (.drisiulRequest q) s = .next s) ∧
  (∀ (q : DrsReq) (s : State), mpServes s = true → meLive s q.port.val = true → liveSess s q.session.toNat = none →
    exec (.drisiulRequest q) s = .next (drsEvent (s.bump mpBase Reg.Mp.BAD_TAG_CNT) 3)) ∧
  (∀ (q : DrsReq) (k : SessSt) (s : State), mpServes s = true → meLive s q.port.val = true → liveSess s q.session.toNat = some k →
    let t := setSess s { seqTaken k q.seq.toNat with port := q.port.val, heard := s.now }
    let dup := t.bump mpBase Reg.Mp.REQ_DUP_CNT
    let id := beAt q.msg 0 4
    let l := opsOf (beAt q.msg 4 4 % 2 ^ 16) (q.msg.drop 8)
    let run : ReqRun := ⟨k.id, q.mac, q.port.val, id, beAt q.msg 4 4 % 2 ^ 16, l.map Prod.fst, l.map Prod.snd, [], none⟩
    let u := t.setMg { t.mg with reqs := s.mg.reqs ++ [run] }
    let go := Host.Outcome.next (settleReqs (reqFuel u) u)
    let free_ := s.mg.reqs.any (fun x => x.session == k.id) = false
    let good := q.tagGood = true ∧ seqFresh k q.seq.toNat = true ∧ q.seq.toNat < 2 ^ 40
    (q.tagGood = false ∨ seqFresh k q.seq.toNat = false →
      exec (.drisiulRequest q) s = .next (drsEvent (s.bump mpBase Reg.Mp.BAD_TAG_CNT) 3)) ∧
    (q.tagGood = true → seqFresh k q.seq.toNat = true → 2 ^ 40 ≤ q.seq.toNat →
      exec (.drisiulRequest q) s = .next (dropSession s k.id)) ∧
    (good → ¬free_ → exec (.drisiulRequest q) s = .next dup) ∧
    (good → free_ → k.last = none → exec (.drisiulRequest q) s = go) ∧
    (∀ (n : Nat) (msg : List Byte), good → free_ → k.last = some (n, msg) →
      (id = n → exec (.drisiulRequest q) s =
        .next (sendSecured dup k.id q.port.val (fun p seq => .secured p (securedFrame dup q.mac k.id seq 1 msg)))) ∧
      (id ≠ n → ringDist id n < 2 ^ 31 → exec (.drisiulRequest q) s = go) ∧
      (id ≠ n → 2 ^ 31 ≤ ringDist id n → exec (.drisiulRequest q) s = .next dup))) ∧
  (∀ (k : SessSt) (n : Nat), seqFresh k n = true ↔
    k.high = none ∨ ∃ h, k.high = some h ∧ (h < n ∨ (n < h ∧ h ≤ n + 64 ∧ n ∉ k.seen))) ∧
  (∀ (q : ReqRun) (o : DrsOp) (rest : List DrsOp) (l : List ReqRun) (status : Nat) (data : List (BitVec 32)) (s : State),
    s.mg.reqs = q :: l → q.left = o :: rest →
    let res := q.done_ ++ [{ op := opCode o, status := status, data := data }]
    let skipped : List OpRes := rest.map (fun x => { op := opCode x, status := 8, data := [] })
    let q' := if status = 0 then { q with left := rest, since := none, done_ := res } else { q with left := [], since := none, done_ := res ++ skipped }
    let t := s.setMg { s.mg with reqs := q' :: l }
    endOp s status data = t ∧
    (status = 0 → rest.head?.any opNamed = true → finishOp s status data = t) ∧
    (rest = [] ∨ status ≠ 0 → l = [] → finishOp s status data = answerReq t q')) ∧
  (∀ (q : ReqRun) (s : State), let t := s.setMg { s.mg with reqs := s.mg.reqs.drop 1 }
    (liveSess t q.session = none → answerReq s q = t) ∧
    (∀ k : SessSt, liveSess t q.session = some k → let u := setSess t { k with last := some (q.reqId, responseBytes q) }
      answerReq s q = sendSecured u k.id q.port (fun p seq => .secured p (securedFrame u q.mac k.id seq 1 (responseBytes q))))) ∧
  (∀ (c : Instr) (code : Nat) (s : State), (c, code) ∈ [(Instr.regRead, 1), (.regWrite, 2), (.regRmw, 3), (.poll, 4), (.pollEnd true, 4), (.pollEnd false, 4), (.commit, 5), (.commitWaitEnd true, 5), (.commitWaitEnd false, 5), (.atlasLoad, 16), (.atlasRead, 17), (.stream, 32), (.fmapi, 48), (.storeOpen true, 64), (.storeOpen false, 64), (.storeData true, 65), (.storeData false, 65), (.storeClose true true, 66), (.storeClose true false, 66), (.storeClose false true, 66), (.storeClose false false, 66), (.cfgSave true, 67), (.cfgSave false, 67), (.storeAbort, 68)] →
    (mpServes s = false ∨ s.mg.reqs = [] → exec c s = .next s) ∧
    (∀ (q : ReqRun) (l : List ReqRun), s.mg.reqs = q :: l → q.left = [] → exec c s = .next s) ∧
    (∀ (q : ReqRun) (o : DrsOp) (rest : List DrsOp) (l : List ReqRun), s.mg.reqs = q :: l → q.left = o :: rest →
      (opCode o ≠ code ∨ opNamed o = false → exec c s = .next s) ∧
      (mpServes s = true → opCode o = code → opNamed o = true → opDenied s q o = true → exec c s = .next (finishOp s 2 [])))) ∧
  (∀ (q : ReqRun) (o : DrsOp) (s : State), opDenied s q o = false ↔
    ((∃ k, liveSess s q.session = some k ∧ k.full = true) ∨ provisioning o = true) ∧
    (s.on flaskBase Reg.Flk.BANK_STATUS_RECOVERY = false ∨ recoveryServes o = true)) ∧
  (∀ (q : ReqRun) (o : DrsOp) (rest : List DrsOp) (l : List ReqRun) (s : State), mpServes s = true → s.mg.reqs = q :: l →
    q.left = o :: rest → opDenied s q o = false →
    let end_ := fun (t : State) (st : Nat) (d : List (BitVec 32)) => Host.Outcome.next (finishOp t st d)
    let broken := Host.Outcome.next (finishOp (flaskEvent s 4) 6 [])
    (∀ (off n : BitVec 32), o = .regRead off n → let bad := n.toNat = 0 ∨ 2048 < n.toNat ∨ 2 ^ 28 < off.toNat + 4 * n.toNat
      (bad → exec .regRead s = end_ s 3 []) ∧
      (¬bad → fitsResponse q n.toNat = false → exec .regRead s = end_ s 9 []) ∧
      (¬bad → fitsResponse q n.toNat = true →
        exec .regRead s = end_ (readWords n.toNat s off.toNat []).2 0 (readWords n.toNat s off.toNat []).1)) ∧
    (∀ (off : BitVec 32) (ws : List (BitVec 32)), o = .regWrite off ws → let r := writeWords ws s off.toNat
      let bad := ws = [] ∨ 2 ^ 28 < off.toNat + 4 * ws.length
      (bad → exec .regWrite s = end_ s 3 []) ∧
      (¬bad → r.1 = false → exec .regWrite s = end_ r.2 2 []) ∧
      (¬bad → r.1 = true → off.toNat % 4 ≠ 0 → exec .regWrite s = end_ r.2 3 []) ∧
      (¬bad → r.1 = true → off.toNat % 4 = 0 → exec .regWrite s = end_ r.2 0 [])) ∧
    (∀ (off mask value : BitVec 32), o = .regRmw off mask value → let r := busRead s .drisiul off.toNat
      let old := BitVec.ofNat 32 r.1
      let t := drsWrite r.2 off.toNat ((old &&& ~~~mask) ||| (value &&& mask))
      let no := writeRefused s .drisiul off.toNat 15 = some .denied
      (2 ^ 28 < off.toNat + 4 → exec .regRmw s = end_ s 3 []) ∧
      (off.toNat + 4 ≤ 2 ^ 28 → fitsResponse q 1 = false → exec .regRmw s = end_ s 9 []) ∧
      (off.toNat + 4 ≤ 2 ^ 28 → fitsResponse q 1 = true → no → exec .regRmw s = end_ t 2 []) ∧
      (off.toNat + 4 ≤ 2 ^ 28 → fitsResponse q 1 = true → ¬no → off.toNat % 4 ≠ 0 → exec .regRmw s = end_ t 3 []) ∧
      (off.toNat + 4 ≤ 2 ^ 28 → fitsResponse q 1 = true → ¬no → off.toNat % 4 = 0 → exec .regRmw s = end_ t 0 [old])) ∧
    (∀ (off mask value tmo : BitVec 32), o = .poll off mask value tmo → let r := busRead s .drisiul off.toNat
      let v := BitVec.ofNat 32 r.1
      let bad := tmo.toNat = 0 ∨ 1000000 < tmo.toNat ∨ 2 ^ 28 < off.toNat + 4
      (q.since ≠ none → exec .poll s = .next s) ∧
      (q.since = none → bad → exec .poll s = end_ s 3 []) ∧
      (q.since = none → ¬bad → fitsResponse q 1 = false → exec .poll s = end_ s 9 []) ∧
      (q.since = none → ¬bad → fitsResponse q 1 = true → exec .poll s = .next (setFront s { q with since := some s.now })) ∧
      (∀ late : Bool, q.since = none → exec (.pollEnd late) s = .next s) ∧
      (∀ late : Bool, q.since ≠ none → v &&& mask = value → exec (.pollEnd late) s = end_ r.2 0 [v]) ∧
      (q.since ≠ none → v &&& mask ≠ value → exec (.pollEnd true) s = end_ r.2 4 [v] ∧ exec (.pollEnd false) s = .next r.2)) ∧
    (∀ (g tmo : BitVec 32), o = .commit g tmo → let v := BitVec.ofNat 32 (s.rd 0 Reg.Root.CMT_STATUS)
      (q.since ≠ none → exec .commit s = .next s) ∧
      (q.since = none → fitsResponse q 1 = false → exec .commit s = end_ s 9 []) ∧
      (q.since = none → fitsResponse q 1 = true → exec .commit s = .next (setFront (drsWrite s 0x60 g) { q with since := some s.now })) ∧
      (∀ late : Bool, q.since = none → exec (.commitWaitEnd late) s = .next s) ∧
      (∀ late : Bool, q.since ≠ none → v &&& g = 0 → exec (.commitWaitEnd late) s = end_ s 0 [v]) ∧
      (q.since ≠ none → v &&& g ≠ 0 → exec (.commitWaitEnd true) s = end_ s 4 [v] ∧ exec (.commitWaitEnd false) s = .next s)) ∧
    (∀ (v : Fin 2) (force : Bool) (first : BitVec 11) (ws : List (BitVec 32)) (n : BitVec 32),
      (o = .atlasLoad 3 v force first ws → exec .atlasLoad s = end_ s 3 []) ∧ (o = .atlasRead 3 v first n → exec .atlasRead s = end_ s 3 [])) ∧
    (∀ (x : BitVec 2 × Nat × Nat × Nat) (v : Fin 2) (force : Bool) (first : BitVec 11) (ws : List (BitVec 32)),
      x ∈ [(0, 2048, 4, 0x10000), (1, 32, 4, 0x18000), (2, 256, 1, 0x19000)] → o = .atlasLoad x.1 v force first ws →
      let per := x.2.2.1
      let bad := ws = [] ∨ ws.length % per ≠ 0 ∨ x.2.1 < first.toNat + ws.length / per
      let used := s.rd 0 Reg.Root.INJ_EPOCH_EPOCH = v.val ∧ force = false
      (bad → exec .atlasLoad s = end_ s 3 []) ∧
      (¬bad → used → exec .atlasLoad s = end_ s 5 []) ∧
      (¬bad → ¬used → exec .atlasLoad s =
        end_ (loadEntries s per (fun i => atBase + x.2.2.2 + 0x10000 * v.val + 4 * per * (first.toNat + i)) ws) 0 [])) ∧
    (∀ (x : BitVec 2 × Nat × Nat × Nat) (v : Fin 2) (first : BitVec 11) (n : BitVec 32),
      x ∈ [(0, 2048, 4, 0x10000), (1, 32, 4, 0x18000), (2, 256, 1, 0x19000)] → o = .atlasRead x.1 v first n →
      let per := x.2.2.1
      let bad := n = 0 ∨ x.2.1 < first.toNat + n.toNat
      (bad → exec .atlasRead s = end_ s 3 []) ∧
      (¬bad → fitsResponse q (per * n.toNat) = false → exec .atlasRead s = end_ s 9 []) ∧
      (¬bad → fitsResponse q (per * n.toNat) = true → exec .atlasRead s = end_ s 0 ((List.range (per * n.toNat)).map
        (fun k => BitVec.ofNat 32 (readWord s (atBase + x.2.2.2 + 0x10000 * v.val + 4 * per * first.toNat + 4 * k)))))) ∧
    (∀ (st : BitVec 4) (on : Bool) (rate decim : BitVec 32), o = .stream st on rate decim →
      let held := (look s.mg.streams st.toNat).map (·.session) = some q.session
      let good := 0 < rate.toNat ∧ rate.toNat ≤ 10000 ∧ 0 < decim.toNat ∧ decim.toNat ≤ 65535
      let x : StreamSt := { session := q.session, rate := rate.toNat, decim := decim.toNat, count := 0 }
      let kept := if held then s.mg.recs else del s.mg.recs st.toNat
      (3 < st.toNat → exec .stream s = end_ s 3 []) ∧
      (st.toNat ≤ 3 → on = true → ¬good → exec .stream s = end_ s 3 []) ∧
      (st.toNat ≤ 3 → on = true → good →
        exec .stream s = end_ (s.setMg { s.mg with streams := put s.mg.streams st.toNat x, recs := kept }) 0 []) ∧
      (st.toNat ≤ 3 → on = false → held → exec .stream s =
        end_ (s.setMg { s.mg with streams := del s.mg.streams st.toNat, recs := del s.mg.recs st.toNat }) 0 []) ∧
      (st.toNat ≤ 3 → on = false → ¬held → exec .stream s = end_ s 0 [])) ∧
    (∀ c : FmCmd, o = .fmapi c → let w := dataWords (runFm s c).1.2
      (fitsResponse q (1 + w.length) = false → exec .fmapi s = end_ s 9 []) ∧
      (fitsResponse q (1 + w.length) = true → exec .fmapi s = end_ (runFm s c).2 0 (BitVec.ofNat 32 (runFm s c).1.1 :: w))) ∧
    (∀ (cfg : Bool) (n : BitVec 32) (fault : Bool), o = .storeOpen cfg n → let b := targetBank s cfg
      let fails := fault = true ∨ unitOff s .flask = true
      (s.flask.store ≠ none → exec (.storeOpen fault) s = end_ s 5 []) ∧
      (s.flask.store = none → lengthGood cfg n.toNat = false → exec (.storeOpen fault) s = end_ s 3 []) ∧
      (s.flask.store = none → lengthGood cfg n.toNat = true → fails → exec (.storeOpen fault) s = broken) ∧
      (s.flask.store = none → lengthGood cfg n.toNat = true → ¬fails →
        exec (.storeOpen fault) s = end_ (flaskEvent (setStore (showBank (setBank s cfg b (zeroUnit (bankOf s cfg b))) cfg b false)
          (some ⟨cfg, b, q.session, n.toNat, 0⟩)) 0) 0 [])) ∧
    (∀ (off : BitVec 32) (bytes : List Byte) (fault : Bool), o = .storeData off bytes →
      let fails := fault = true ∨ unitOff s .flask = true
      (s.flask.store = none → exec (.storeData fault) s = end_ s 3 []) ∧
      (∀ x : StoreOpen, s.flask.store = some x →
        let bad := bytes.length % 4 ≠ 0 ∨ off.toNat % 4 ≠ 0 ∨ x.total < off.toNat + bytes.length
        let k := bankOf s x.cfgArea x.bankB
        (x.session ≠ q.session → exec (.storeData fault) s = end_ s 5 []) ∧
        (x.session = q.session → bad → exec (.storeData fault) s = end_ s 3 []) ∧
        (x.session = q.session → ¬bad → fails → exec (.storeData fault) s = broken) ∧
        (x.session = q.session → ¬bad → ¬fails → exec (.storeData fault) s =
          end_ (setStore (setBank s x.cfgArea x.bankB { k with image := overwrite k.image off.toNat bytes })
            (some { x with written := Nat.max x.written (off.toNat + bytes.length) })) 0 []))) ∧
    (∀ (sig fault : Bool), o = .storeClose → let fails := fault = true ∨ unitOff s .flask = true
      (s.flask.store = none → exec (.storeClose sig fault) s = end_ s 3 []) ∧
      (∀ x : StoreOpen, s.flask.store = some x → let img := (bankOf s x.cfgArea x.bankB).image.take x.total
        let good := x.cfgArea = true ∨ (sig = true ∧ prologueGood img x.total = true ∧ minSvn s ≤ imageSvn img)
        (x.session ≠ q.session → exec (.storeClose sig fault) s = end_ s 5 []) ∧
        (x.session = q.session → fails → exec (.storeClose sig fault) s = broken) ∧
        (x.session = q.session → ¬fails → ¬good → exec (.storeClose sig fault) s = end_ (flaskEvent (setStore s none) 1) 7 []) ∧
        (x.session = q.session → ¬fails → good → exec (.storeClose sig fault) s = end_ (closeBank (flaskEvent (setStore s none) 1)
          x.cfgArea x.bankB x.total (if x.cfgArea then 0 else imageSvn img)) 0 []))) ∧
    (o = .storeAbort → (s.flask.store = none → exec .storeAbort s = end_ s 0 []) ∧
      (∀ x : StoreOpen, s.flask.store = some x →
        (x.session ≠ q.session → exec .storeAbort s = end_ s 5 []) ∧
        (x.session = q.session → exec .storeAbort s = end_ (abandonStore s) 0 []))) ∧
    (∀ fault : Bool, o = .cfgSave → let fails := fault = true ∨ unitOff s .flask = true
      let img := (cfgRecords s).flatMap (fun r => leBytes r.1 4 ++ leBytes r.2 4)
      let b := targetBank s true
      (s.flask.store ≠ none → exec (.cfgSave fault) s = end_ s 5 []) ∧
      (s.flask.store = none → fails → exec (.cfgSave fault) s = broken) ∧
      (s.flask.store = none → ¬fails → exec (.cfgSave fault) s = end_ (closeBank (showBank (setBank s true b
        { zeroUnit (bankOf s true b) with image := img }) true b false) true b img.length 0) 0 []))) ∧
  (∀ (ws : List (BitVec 32)) (v : BitVec 32) (s : State) (off n : Nat),
    writeWords (v :: ws) s off = (if writeRefused s .drisiul off 15 = some .denied then (false, drsWrite s off v)
      else writeWords ws (drsWrite s off v) (off + 4)) ∧ (readWords n s off []).1.length = n)

/-! ### Start-up and reset (spec/18_startup_reset.md) -/

/-- Pins and rails: power comes up group by group once the pins allow it; each pin or rail failure records its cause and leaves the cold
state with the enables down; losing V3P3_AUX loses everything but Flask and the fuses (R585, R589, R590, R616, R620, R621, R627). -/
def Obligations.PinsAndRailsStartAndResetTheDevice : Prop :=
  (∀ s : State,
    (s.boot.aux = false → exec .v3p3AuxRise s = .next (startPower (setBoot s { s.boot with aux := true }))) ∧
    (s.boot.aux = true → exec .v3p3AuxRise s = .next s) ∧
    (s.boot.aux = false → exec .v3p3AuxLoss s = .next s) ∧
    (s.boot.aux = true → Ends (exec .v3p3AuxLoss s) (fun t => t.boot.aux = false ∧
      (∀ k, k ≠ Reg.Flk.SVN_MIN_SVN.key flaskBase → look t.regs k = none) ∧ t.flask.fwA = s.flask.fwA ∧ t.flask.fwB = s.flask.fwB ∧
      t.flask.cfgA = s.flask.cfgA ∧ t.flask.cfgB = s.flask.cfgB ∧ t.flask.confirmed = s.flask.confirmed ∧
      t.boot.pwrEn = [false, false, false, false] ∧ t.pool = State.reset.pool ∧ t.pending = s.pending ∧ t.now = s.now))) ∧
  (∀ s : State,
    let u := setBoot s { s.boot with pwrGood := true, pwrLowAt := none }
    (s.boot.pwrGood = true → exec .pwrGoodRise s = .next s) ∧
    (s.boot.pwrGood = false → s.boot.pwrLowAt = none → exec .pwrGoodRise s = .next (startPower (unlock u))) ∧
    (∀ low : Nat, s.boot.pwrGood = false → s.boot.pwrLowAt = some low →
      exec .pwrGoodRise s = .next (startPower (if low + 1000000 ≤ s.now then unlock u else u)))) ∧
  (∀ s : State,
    let u := setBoot s { s.boot with pwrGood := false, pwrLowAt := some s.now }
    let v := setBoot s { s.boot with resetN := false }
    let w := setBoot s { s.boot with testEn := true }
    (s.boot.pwrGood = false → exec .pwrGoodFall s = .next s) ∧
    (s.boot.pwrGood = true → exec .pwrGoodFall s = .next (if s.boot.aux then coldStart u 1 0 else u)) ∧
    (s.boot.resetN = false → exec .resetNAssert s = .next s) ∧
    (s.boot.resetN = true → exec .resetNAssert s = .next (if s.boot.aux then coldStart v 2 0 else v)) ∧
    (s.boot.testEn = true → exec .testEnAssert s = .next s) ∧
    (s.boot.testEn = false → exec .testEnAssert s = .next (if s.boot.aux then coldStart w 7 0 else w))) ∧
  (∀ s : State,
    (s.boot.resetN = true → exec .resetNRelease s = .next s) ∧
    (s.boot.resetN = false → exec .resetNRelease s = .next (startPower (unlock (setBoot s { s.boot with resetN := true })))) ∧
    (s.boot.testEn = false → exec .testEnRelease s = .next s) ∧
    (s.boot.testEn = true → exec .testEnRelease s = .next (startPower (setBoot s { s.boot with testEn := false })))) ∧
  (∀ s : State, let b := s.boot
    let all := b.aux = true ∧ b.pwrGood = true ∧ b.resetN = true ∧ b.testEn = false ∧ b.lockedOut = false ∧ b.kind = some .cold
    (all → startPower s = raiseRail s 0) ∧ (¬all → startPower s = s)) ∧
  (∀ (s : State) (g : Nat),
    (railOn s g = true → raiseRail s g = s) ∧
    (railOn s g = false → (raiseRail s g).boot.pwrEn = s.boot.pwrEn.set g true ∧ (raiseRail s g).out = .pwrEn g true :: s.out)) ∧
  (∀ (s : State) (cause group : Nat), let t := coldStart s cause group
    t.boot.kind = some .cold ∧ t.boot.cfgApplied = false ∧ t.boot.locked = false ∧ t.pool = State.reset.pool ∧
    t.setup = State.reset.setup ∧ t.ports = [] ∧ t.flask.fwA = s.flask.fwA ∧ t.flask.fwB = s.flask.fwB ∧
    t.flask.cfgA = s.flask.cfgA ∧ t.flask.cfgB = s.flask.cfgB ∧ t.flask.confirmed = s.flask.confirmed ∧
    (s.boot.resetAt ≠ some s.now → t.rd 0 Reg.Hk.LAST_RESET_CAUSE = cause % 8 ∧ t.rd 0 Reg.Hk.LAST_RESET_GROUP = group % 16)) ∧
  (∀ (g : Fin 4) (s : State),
    let u := setBoot s { s.boot with railPg := s.boot.railPg.set g.val true }
    let d := setBoot s { s.boot with railPg := s.boot.railPg.set g.val false }
    (railOn s g.val = true → g.val < 3 → exec (.railPgRise g) s = .next (raiseRail u (g.val + 1))) ∧
    (railOn s g.val = false ∨ g.val = 3 → exec (.railPgRise g) s = .next u) ∧
    (railOn s g.val = true → railGood s g.val = false → exec (.railPgTimeout g) s = .next (railFails s g.val)) ∧
    (railOn s g.val = false ∨ railGood s g.val = true → exec (.railPgTimeout g) s = .next s) ∧
    (railGood s g.val = false → exec (.railPgFall g) s = .next s) ∧
    (railGood s g.val = true → railOn s g.val = true → exec (.railPgFall g) s = .next (railFails d g.val)) ∧
    (railGood s g.val = true → railOn s g.val = false → exec (.railPgFall g) s = .next d)) ∧
  (∀ (s : State) (g : Nat), railFails s g = coldStart (setBoot s { s.boot with lockedOut := true }) 4 (2 ^ g))

/-- The boot: islands lock, firmware is chosen and started or the recovery image runs, the configuration image is applied, stacks enter
service, the device reports itself ready, a confirmation raises MIN_SVN (R564, R575, R579 to R587). -/
def Obligations.TheBootTakesItsSteps : Prop :=
  (∀ s : State, let up_ := (List.range 4).all (fun g => railOn s g && railGood s g)
    (s.boot.kind = some .cold → s.boot.locked = false → up_ = true → exec .islandLock s =
      .next { s with boot := { s.boot with locked := true, stopped := [57] }, pace := { s.pace with running := true } }) ∧
    (s.boot.kind ≠ some .cold ∨ s.boot.locked = true ∨ up_ = false → exec .islandLock s = .next s)) ∧
  (∀ (c : BootChecks) (s : State),
    s.boot.kind = none ∨ s.boot.locked = false ∨ s.boot.fwBooted = true ∨ s.rd mpBase Reg.Mp.MP_STATE = 3 →
    exec (.bootFirmwareSelect c) s = .next s) ∧
  (∀ (c : BootChecks) (b : Bool) (s : State), s.boot.kind ≠ none → s.boot.locked = true → s.boot.fwBooted = false →
    s.rd mpBase Reg.Mp.MP_STATE ≠ 3 →
    let tested := testBanks s c.sigA c.sigB
    let told := if [false, true].all (fun a => [false, true].all (bankGood tested a)) then tested else flaskEvent tested 3
    let t := chooseConfig (measure (measure told 1 Config.bootRomDigest) 4 Config.factoryDigest)
    (bestBank t false = some b → exec (.bootFirmwareSelect c) s = .next (bootBank t b)) ∧
    (bestBank t false = none → c.sigRecovery = true → exec (.bootFirmwareSelect c) s = .next (bootRecovery t)) ∧
    (bestBank t false = none → c.sigRecovery = false → exec (.bootFirmwareSelect c) s = .next (t.wr mpBase Reg.Mp.MP_STATE 3))) ∧
  (∀ (s : State) (b : Bool), let x := bankOf s false b
    (bootBank s b).boot.kind = none ∧ (bootBank s b).boot.fwBooted = true ∧ (bootBank s b).boot.runSeq = x.seq.toNat ∧
    (bootBank s b).rd mpBase Reg.Mp.MP_STATE = 1 ∧ (bootBank s b).rd flaskBase Reg.Flk.BANK_STATUS_RECOVERY = 0 ∧
    (bootBank s b).rd 0 Reg.Root.DEV_STATUS_FW_BANK = b2n b ∧
    (bootBank s b).rd flaskBase Reg.Flk.BANK_STATUS_FW_UNCONFIRMED = b2n (s.flask.confirmed < x.seq.toNat) ∧
    look (bootBank s b).flask.meas 2 = some (Config.sm3 (imageBytes x))) ∧
  (∀ s : State, (bootRecovery s).boot.kind = none ∧ (bootRecovery s).boot.fwBooted = true ∧
    (bootRecovery s).rd mpBase Reg.Mp.MP_STATE = 1 ∧ (bootRecovery s).rd flaskBase Reg.Flk.BANK_STATUS_RECOVERY = 1 ∧
    look (bootRecovery s).flask.meas 2 = some Config.recoveryDigest) ∧
  (∀ s : State,
    (bestBank s true = none → (chooseConfig s).rd 0 Reg.Root.DEV_STATUS_CFG_DEFAULTED = 1 ∧ look (chooseConfig s).flask.meas 3 = some 0) ∧
    (∀ b : Bool, bestBank s true = some b → (chooseConfig s).rd 0 Reg.Root.DEV_STATUS_CFG_DEFAULTED = 0 ∧
      (chooseConfig s).rd 0 Reg.Root.DEV_STATUS_CFG_BANK = b2n b ∧
      look (chooseConfig s).flask.meas 3 = some (Config.sm3 (imageBytes (bankOf s true b))))) ∧
  (∀ s : State,
    let recs := if s.on 0 Reg.Root.DEV_STATUS_CFG_DEFAULTED then [] else recordsOf (imageBytes (bankOf s true (s.on 0 Reg.Root.DEV_STATUS_CFG_BANK)))
    let r := loadImage { s with flask := { s.flask with image := recs } } recs
    let u := r.2.add flaskBase Reg.Flk.CFG_SKIP_CNT r.1
    (s.boot.fwBooted = false ∨ s.boot.cfgApplied = true → exec .configImageApply s = .next s) ∧
    (s.boot.fwBooted = true → s.boot.cfgApplied = false →
      exec .configImageApply s = .next (startConfigured (setBoot u { u.boot with cfgApplied := true })))) ∧
  (∀ (off v : Nat) (s : State), off % 4 ≠ 0 → loadRecord s off v = (false, s)) ∧
  (∀ (st : Fin 6) (s : State), let u := s.wr (stackBase st.val) Reg.Stk.STACK_STATE 1
    let last := stacksReady u = true ∧ s.boot.started = false ∧ s.boot.bctFailed = false ∧ u.rd poolBase Reg.Coh.BCT_STATUS_STATE ≠ 1
    let first := s.boot.cfgApplied = true ∧ s.rd (stackBase st.val) Reg.Stk.STACK_STATE = 0
    (¬first → exec (.stackInService st) s = .next s) ∧
    (first → ¬last → exec (.stackInService st) s = .next u) ∧
    (first → last → u.on flaskBase Reg.Flk.BOOT_CFG_BCT_EN = true → exec (.stackInService st) s = .next (startBct u)) ∧
    (first → last → u.on flaskBase Reg.Flk.BOOT_CFG_BCT_EN = false → exec (.stackInService st) s =
      .next (fencing u ((List.range 48).foldl startDrain (setBoot u { u.boot with started := true }))))) ∧
  (∀ s : State,
    (fabricSettled s = true → exec .fabricReady s = .next (s.wr 0 Reg.Root.DEV_STATUS_FABRIC_READY 1)) ∧
    (fabricSettled s = false → exec .fabricReady s = .next s)) ∧
  (∀ (r : Route) (c : BootChecks) (s : State), Takes s r (flaskBase + 0x6C) →
    (bankRuns s = false → exec (.fwConfirm r c) s = .next s) ∧
    (bankRuns s = true → Ends (exec (.fwConfirm r c) s) (fun t => t.flask.confirmed = s.boot.runSeq ∧
      t.rd flaskBase Reg.Flk.BANK_STATUS_FW_UNCONFIRMED = 0 ∧
      t.rd flaskBase Reg.Flk.SVN_MIN_SVN = Nat.max (minSvn s) (Nat.min (s.rd flaskBase Reg.Flk.SVN_FW_SVN) 64) ∧
      { t with regs := s.regs, flask := s.flask } = s)))

/-! ### Reliability and temperature (spec/19_reliability.md, spec/20_electrical.md) -/

/-- Detected failures act as R607 and R608 say: a bridge word's error is recorded and the sixteenth fences; stalls, configuration
mismatches and lost clocks stop the device or fence their unit; a watchdog that stays silent is reported; a fatal stop sets its status
once (R28, R597, R598, R600 to R602, R607 to R609). -/
def Obligations.FailuresFenceOrStop : Prop :=
  (∀ (w : BridgePlace) (s : State), isFenced s (bridgeOwner w).1 = true → exec (.bridgeCodeError w) s = .next s) ∧
  (∀ (w : BridgePlace) (s : State), isFenced s (bridgeOwner w).1 = false →
    let o := bridgeOwner w
    let v := match w with | .mesh _ => s | .pipeline p vc outward => if outward then strikeOutput s p.val vc.val stompBridge else strikeInput s (inKey p.val vc.val) stompBridge id
    let ts := v.now :: (lookD v.err.bridge (base o.1) []).filter (fun t => v.now < t + 1000000)
    let t := fun (full : Bool) => recordError { v with err := { v.err with bridge := put v.err.bridge (base o.1) ts } } ⟨o.1, .bridgeCode, 2, o.2.1, o.2.2, full, false⟩
    (ts.length < 16 → exec (.bridgeCodeError w) s = .next (t false)) ∧
    (16 ≤ ts.length → exec (.bridgeCodeError w) s = .next (fenceUnit (t true) o.1))) ∧
  (∀ (h : Fin 16) (n : Fin 96) (vc : Fin 16) (out_ : Bool), bridgeOwner (.mesh h) = (.hostMacro h, h.val / 4, 96 + h.val) ∧
    bridgeOwner (.pipeline (n.castLE (by decide)) vc out_) = (.port n, n.val / 24, n.val)) ∧
  (∀ (u : UnitId) (stage held : BitVec 16) (fired : Bool) (s : State), legIsland u ≠ 0xFF ∨ unitOff s u = true →
    exec (.stallWatchdogFire u stage held) s = .next s ∧ exec (.watchdogTest u stage fired) s = .next s) ∧
  (∀ (u : UnitId) (stage held : BitVec 16) (s : State), legIsland u = 0xFF → unitOff s u = false →
    exec (.stallWatchdogFire u stage held) s = .next (dangerous s u .stall stage.toNat held.toNat) ∧
    exec (.watchdogTest u stage true) s = .next (s.bump 0 Reg.Err.WD_TEST_CNT) ∧
    exec (.watchdogTest u stage false) s =
      .next (recordError (s.bump 0 Reg.Err.WD_TEST_CNT) (ErrRec.contained u .wdLatent stage.toNat 0))) ∧
  (∀ (u : UnitId) (res : ScrubResult) (s : State), unitOff s u = true → exec (.configScrubTick u res) s = .next s) ∧
  (∀ (u : UnitId) (table : BitVec 16) (index : BitVec 32) (off : BitVec 28) (s : State), unitOff s u = false →
    let place := unitAt off.toNat = u ∧ entryPlace off.toNat = true
    exec (.configScrubTick u .good) s = .next s ∧
    exec (.configScrubTick u (.elsewhere table index)) s = .next (dangerous s u .cfgSignature table.toNat index.toNat) ∧
    (place → exec (.configScrubTick u (.entry off)) s = .next (clearEntry s off.toNat)) ∧
    (¬place → exec (.configScrubTick u (.entry off)) s = .next s)) ∧
  (∀ (s : State) (u : UnitId) (k : ErrKind) (sub info : Nat),
    (fatalUnit u = true → dangerous s u k sub info = fatalStop s u k sub info) ∧
    (fatalUnit u = false → dangerous s u k sub info = fenceUnit (recordError s ⟨u, k, 2, sub, info, true, false⟩) u) ∧
    (fatalStopped s = true → fatalStop s u k sub info = recordError s ⟨u, k, 3, sub, info, false, false⟩)) ∧
  (∀ (c : ClockId) (s : State), exec (.clockLoss c) s = .next (fencing s ((islandsOf c).foldl islandLost s))) ∧
  (∀ (i : Nat) (s : State), let u := setBoot s { s.boot with stopped := addOnce s.boot.stopped i }
    (i ∈ s.boot.stopped → islandLost s i = s) ∧
    (i ∉ s.boot.stopped → i = 54 ∨ i = 56 → islandLost s i = fatalStop u (islandUnit i) .clockLoss i 0) ∧
    (i ∉ s.boot.stopped → i = 57 ∨ i = 59 → islandLost s i = u) ∧
    (i ∉ s.boot.stopped → i = 58 →
      islandLost s i = fenceUnit (recordError u ⟨.flask, .clockLoss, 2, 58, 0, true, false⟩) .flask)) ∧
  (∀ (c : ClockId) (s : State), let back := (islandsOf c).filter (fun i => s.boot.locked || 56 ≤ i)
    let u := setBoot s { s.boot with stopped := s.boot.stopped.filter (fun i => !(back.contains i)) }
    (s.boot.started = true → exec (.clockRestored c) s = .next (autoStartAll u)) ∧
    (s.boot.started = false → exec (.clockRestored c) s = .next u))

/-- Clearing errors and following the temperature: CLR_ALL and CLR_UNIT clear what is not fenced, LOG_CLR and the counters clear; a
reading shows, keeps its peak, asserts THERM_N at the warning, stops the device at the trip and cuts its power at 120 °C (R606, R612,
R631 to R634). -/
def Obligations.ErrorsClearAndTemperatureActs : Prop :=
  (∀ (r : Route) (s : State), Takes s r 0x104 →
    let hit := allUnits.find? (fun u => base u == s.rd 0 Reg.Err.ERR_CLR_WIN)
    let cs := [Reg.Err.CORR_CNT, Reg.Err.UNCORR_CNT, Reg.Err.WD_TEST_CNT]
    exec (.clrAll r) s = .next (clearErrors s allUnits) ∧
    exec (.logClr r) s = .next (s.wr 0 Reg.Err.ERRLOG_CI (s.rd 0 Reg.Err.ERRLOG_PI)) ∧
    (∀ u : UnitId, hit = some u → exec (.clrUnit r) s = .next (clearErrors s (subtree u))) ∧
    (hit = none → exec (.clrUnit r) s = .next (configError s .root)) ∧
    Ends (exec (.errCntClr r) s) (fun t => (∀ c ∈ cs, t.rd 0 c = 0) ∧ OnlyFields (cs.map (Field.key · 0)) s t)) ∧
  (∀ (us : List UnitId) (u : UnitId) (s : State), u ∈ us → isFenced s u = false →
    look (clearErrors s us).err.sev (base u) = none) ∧
  (∀ (us : List UnitId) (b : Nat) (s : State), us.all (fun v => base v != b || isFenced s v) = true →
    look (clearErrors s us).err.sev b = look s.err.sev b) ∧
  (∀ (us : List UnitId) (s : State), { clearErrors s us with err := s.err } = s) ∧
  (∀ (t : SensorReadings) (s : State), s.boot.aux = false → exec (.thermalSensorRead t) s = .next s) ∧
  (∀ (t : SensorReadings) (s : State), s.boot.aux = true →
    let shown := ((s.wr 0 Reg.Hk.TJ_NOW (hottest t).1).wr 0 Reg.Hk.TJ_SENSOR (hottest t).2).wr 0 Reg.Hk.TJ_PEAK (Nat.max (s.rd 0 Reg.Hk.TJ_PEAK) (hottest t).1)
    (s.boot.hardTrip = true → exec (.thermalSensorRead t) s = .next shown) ∧
    (s.boot.hardTrip = false → (hottest t).1 < 1200 → exec (.thermalSensorRead t) s = .next (thermFollow shown (hottest t).1)) ∧
    (s.boot.hardTrip = false → 1200 ≤ (hottest t).1 →
      Ends (exec (.thermalSensorRead t) s) (fun u => u.boot.hardTrip = true ∧ u.boot.lockedOut = true ∧
        u.boot.pwrEn = [false, false, false, false] ∧ u.rd 0 Reg.Hk.LAST_RESET_CAUSE = 5 ∧ u.pending = s.pending ∧ u.now = s.now ∧
        { u.flask with store := none, meas := [], image := [] } = { s.flask with store := none, meas := [], image := [] }))) ∧
  (∀ (t : SensorReadings) (x : BitVec 16), x ∈ t → x.toNat ≤ (hottest t).1) ∧
  (∀ (tj : Nat) (s : State), let warn := 10 * s.rd 0 Reg.Hk.THERM_WARN_C
    tj < 10 * s.rd 0 Reg.Hk.THERM_TRIP_C →
    (warn ≤ tj → s.boot.thermAsserted = false → thermFollow s tj = hkEvent (deviceEvent (setTherm s true) 0x62 [tj, 0, 0, 0]) 0) ∧
    (warn ≤ tj → s.boot.thermAsserted = true → thermFollow s tj = s) ∧
    (tj + 30 < warn → s.boot.thermAsserted = true → s.boot.thermTripped = false →
      thermFollow s tj = hkEvent (deviceEvent (setTherm s false) 0x63 [tj, 0, 0, 0]) 1) ∧
    (tj < warn → warn ≤ tj + 30 ∨ s.boot.thermAsserted = false ∨ s.boot.thermTripped = true → thermFollow s tj = s)) ∧
  (∀ (tj : Nat) (s : State), 10 * s.rd 0 Reg.Hk.THERM_TRIP_C ≤ tj → s.boot.thermAsserted = true →
    (s.boot.thermTripped = true → thermFollow s tj = s) ∧
    (s.boot.thermTripped = false → 10 * s.rd 0 Reg.Hk.THERM_WARN_C ≤ tj →
      thermFollow s tj = hkEvent (fatalStop (setBoot s { s.boot with thermTripped := true }) .root .thermal 0 tj) 2)) ∧
  (∀ (tj : Nat) (s : State), 10 * s.rd 0 Reg.Hk.THERM_TRIP_C ≤ tj → 10 * s.rd 0 Reg.Hk.THERM_WARN_C ≤ tj → s.boot.thermAsserted = false →
    thermFollow s tj = thermalStop (hkEvent (deviceEvent (setTherm s true) 0x62 [tj, 0, 0, 0]) 0) tj) ∧
  (∀ (b : Bool) (s : State), (setTherm s b).out = .thermN b :: s.out ∧ (setTherm s b).boot.thermAsserted = b) ∧
  (∀ (r : Route) (s : State), Takes s r 0x18C → exec (.tjPeakClr r) s = .next (s.wr 0 Reg.Hk.TJ_PEAK (s.rd 0 Reg.Hk.TJ_NOW)))

/-! ### The machine -/

/-- A step runs the command at the front of the queue with the rest still waiting; on an empty queue one nanosecond passes
(notes/assumptions/4.md). -/
def Obligations.StepRunsTheFrontCommand : Prop :=
  (∀ (c : Instr) (rest : List Instr) (s : State), s.pending = c :: rest → step s = exec c { s with pending := rest }) ∧
  (∀ s : State, s.pending = [] → Ends (step s) (fun t => t.now = s.now + 1 ∧ t.pending = [] ∧ s.out <:+ t.out ∧
    (s.fns.all (fun kv => kv.2.eqWait.isEmpty) = true → t.out = s.out)))

/-- Every command ends in a next state, in every state: no fault and no refusal. -/
def Obligations.EveryCommandAnswersANextState : Prop :=
  ∀ (c : Instr) (s : State), ∃ t, exec c s = .next t

/-- First in, first out: a step leaves a tail of the queue, time does not go back, and what has been emitted stays emitted. -/
def Obligations.EveryStepKeepsTimeOrderAndWhatWasEmitted : Prop :=
  ∀ s t : State, step s = .next t → t.pending <:+ s.pending ∧ s.now ≤ t.now ∧ s.out <:+ t.out

/-- Every step keeps the pool's memory in its canonical form, so equal memories are equal data (R449, R450). -/
def Obligations.EveryStepKeepsThePoolMemorysForm : Prop :=
  ∀ s t : State, PoolForm s → step s = .next t → PoolForm t

/-- The state after reset: no command waits, nothing has been emitted, the pool's memory has its form, every register reads its reset
value, the enables are down, and the registers that the spec gives a reset value read it (R589, R590). -/
def Obligations.ResetStateIsTheColdState : Prop :=
  PoolForm State.reset ∧ State.reset.pending = [] ∧ State.reset.out = [] ∧ State.reset.boot.kind = some .cold ∧
  (∀ (b : Nat) (f : Field), State.reset.rd b f = f.reset) ∧
  State.reset.rd 0 Reg.Hk.THERM_WARN_C = 100 ∧ State.reset.rd 0 Reg.Hk.THERM_TRIP_C = 110 ∧
  (∀ i, i < 48 → sliceMode State.reset i = 1) ∧ (∀ a, memByte State.reset.pool.mem a = 0)

/-- Writing a register field changes what that field reads and no other field; the pool's memory gives back what was written and nothing
else changes (R38, R57, R449, R450). -/
def Obligations.FieldsAndPoolMemoryHoldWhatWasWritten : Prop :=
  (∀ (s : State) (b : Nat) (f : Field) (v : Nat), (s.wr b f v).rd b f = v % 2 ^ f.width) ∧
  (∀ (s : State) (b c : Nat) (f g : Field) (v : Nat), f.key b ≠ g.key c → (s.wr b f v).rd c g = s.rd c g) ∧
  (∀ (s : State) (b : Nat) (f : Field) (v : Nat), OnlyFields [f.key b] s (s.wr b f v)) ∧
  (∀ (m : List Host.Cell) (a : Nat) (b : Byte), memByte (memPut m a b) a = b) ∧
  (∀ (m : List Host.Cell) (a c : Nat) (b : Byte), c ≠ a → memByte (memPut m a b) c = memByte m c) ∧
  (∀ (m : List Host.Cell) (a : Nat) (b : Byte), Memory.wf m = true → Memory.wf (memPut m a b) = true)
end

