-- ==== Sys2Proof/Laws/Maps.lean ====
section
/-!
SUPPORT. Laws of the finite maps: what a look-up finds after `put` and `del`, that both keep the keys strictly rising, and that
writes to the pool's memory keep its canonical form.
-/
namespace Sys2Proof.Machine

variable {α : Type}

@[simp] theorem look_nil (k : Nat) : look ([] : AMap α) k = none := rfl

@[simp] theorem look_put_same (m : AMap α) (k : Nat) (v : α) : look (put m k v) k = some v := by
  induction m with
  | nil => simp [put, look]
  | cons h m ih =>
    obtain ⟨k', v'⟩ := h
    simp only [put]
    split
    · simp [look]
    · split
      · simp [look]
      · simp [look, *]

theorem look_put_other (m : AMap α) (k k₂ : Nat) (v : α) (h : k₂ ≠ k) : look (put m k v) k₂ = look m k₂ := by
  induction m with
  | nil => simp [put, look, h]
  | cons h' m ih =>
    obtain ⟨k', v'⟩ := h'
    simp only [put]
    split
    · simp [look, h]
    · split
      · subst_vars; simp [look, h]
      · simp only [look, ih]

@[simp] theorem look_del_same (m : AMap α) (k : Nat) : look (del m k) k = none := by
  induction m with
  | nil => rfl
  | cons h m ih =>
    obtain ⟨k', v'⟩ := h
    simp only [del]
    split
    · exact ih
    · simp [look, *]

theorem look_del_other (m : AMap α) (k k₂ : Nat) (h : k₂ ≠ k) : look (del m k) k₂ = look m k₂ := by
  induction m with
  | nil => rfl
  | cons h' m ih =>
    obtain ⟨k', v'⟩ := h'
    simp only [del]
    split
    · subst_vars; simp [look, h, ih]
    · simp only [look, ih]

@[simp] theorem lookD_put_same (m : AMap α) (k : Nat) (v d : α) : lookD (put m k v) k d = v := by simp [lookD]

theorem lookD_put_other (m : AMap α) (k k₂ : Nat) (v d : α) (h : k₂ ≠ k) : lookD (put m k v) k₂ d = lookD m k₂ d := by
  simp [lookD, look_put_other m k k₂ v h]

/-! ### The pool's memory -/

/-- Every address listed lies above `a`. -/
def above (a : Nat) (m : List Host.Cell) : Prop := ∀ c ∈ m, a < c.1

/-- The canonical form said of the whole tail. -/
theorem wf_cons (a : Nat) (b : Byte) (m : List Host.Cell) :
    Memory.wf ((a, b) :: m) = true ↔ b ≠ 0 ∧ above a m ∧ Memory.wf m = true := by
  induction m generalizing a b with
  | nil => simp [Memory.wf, above]
  | cons h m ih =>
    obtain ⟨a', b'⟩ := h
    have e := ih a' b'
    simp only [Memory.wf, Bool.and_eq_true, bne_iff_ne, ne_eq, decide_eq_true_eq] at e ⊢
    constructor
    · rintro ⟨⟨h1, h2⟩, h3⟩
      refine ⟨h1, ?_, h3⟩
      intro c hc
      rcases List.mem_cons.mp hc with rfl | hc
      · exact h2
      · exact Nat.lt_trans h2 ((e.mp h3).2.1 c hc)
    · rintro ⟨h1, h2, h3⟩
      exact ⟨⟨h1, h2 _ (List.mem_cons_self ..)⟩, h3⟩

theorem mem_put (m : List Host.Cell) (a : Nat) (b : Byte) (c : Host.Cell) (h : c ∈ put m a b) : c = (a, b) ∨ c ∈ m := by
  induction m with
  | nil => exact .inl (by simpa [put] using h)
  | cons h' m ih =>
    obtain ⟨a', b'⟩ := h'
    simp only [put] at h
    split at h
    · simpa using h
    · split at h
      · rcases List.mem_cons.mp h with h | h
        · exact .inl h
        · exact .inr (List.mem_cons_of_mem _ h)
      · rcases List.mem_cons.mp h with h | h
        · exact .inr (h ▸ List.mem_cons_self ..)
        · exact (ih h).imp id (List.mem_cons_of_mem _)

theorem mem_del (m : List Host.Cell) (a : Nat) (c : Host.Cell) (h : c ∈ del m a) : c ∈ m := by
  induction m with
  | nil => simp [del] at h
  | cons h' m ih =>
    obtain ⟨a', b'⟩ := h'
    simp only [del] at h
    split at h
    · exact List.mem_cons_of_mem _ (ih h)
    · rcases List.mem_cons.mp h with h | h
      · exact h ▸ List.mem_cons_self ..
      · exact List.mem_cons_of_mem _ (ih h)

theorem put_wf (m : List Host.Cell) (a : Nat) (b : Byte) (hb : b ≠ 0) (h : Memory.wf m = true) :
    Memory.wf (put m a b) = true := by
  induction m with
  | nil => exact (wf_cons a b []).mpr ⟨hb, by simp [above], rfl⟩
  | cons h' m ih =>
    obtain ⟨a', b'⟩ := h'
    have e := (wf_cons a' b' m).mp h
    simp only [put]
    split
    · rename_i hl
      refine (wf_cons a b _).mpr ⟨hb, ?_, h⟩
      intro c hc
      rcases List.mem_cons.mp hc with rfl | hc
      · exact hl
      · exact Nat.lt_trans hl (e.2.1 c hc)
    · split
      · subst_vars; exact (wf_cons _ _ _).mpr ⟨hb, e.2.1, e.2.2⟩
      · refine (wf_cons a' b' _).mpr ⟨e.1, ?_, ih e.2.2⟩
        intro c hc
        rcases mem_put m a b c hc with rfl | hc
        · show a' < a; omega
        · exact e.2.1 c hc

theorem del_wf (m : List Host.Cell) (a : Nat) (h : Memory.wf m = true) : Memory.wf (del m a) = true := by
  induction m with
  | nil => exact h
  | cons h' m ih =>
    obtain ⟨a', b'⟩ := h'
    have e := (wf_cons a' b' m).mp h
    simp only [del]
    split
    · exact ih e.2.2
    · exact (wf_cons a' b' _).mpr ⟨e.1, fun c hc => e.2.1 c (mem_del m a c hc), ih e.2.2⟩

/-- Writing one byte keeps the canonical form. -/
theorem memPut_wf (m : List Host.Cell) (a : Nat) (b : Byte) (h : Memory.wf m = true) : Memory.wf (memPut m a b) = true := by
  unfold memPut
  split
  · exact del_wf m a h
  · exact put_wf m a b ‹_› h

/-- Writing bytes keeps the canonical form. -/
theorem memWrite_wf (m : List Host.Cell) (a : Nat) (bs : List Byte) (h : Memory.wf m = true) :
    Memory.wf (memWrite m a bs) = true := by
  induction bs generalizing m a with
  | nil => exact h
  | cons b bs ih => exact ih _ _ (memPut_wf m a b h)

/-- A byte written reads as written. -/
theorem memByte_memPut_same (m : List Host.Cell) (a : Nat) (b : Byte) : memByte (memPut m a b) a = b := by
  unfold memByte memPut
  split <;> simp [*]

/-- Every other byte reads as before. -/
theorem memByte_memPut_other (m : List Host.Cell) (a a₂ : Nat) (b : Byte) (h : a₂ ≠ a) :
    memByte (memPut m a b) a₂ = memByte m a₂ := by
  unfold memByte memPut
  split <;> simp [look_del_other, look_put_other, h]

/-- Bytes below the first one written read as before. -/
theorem memByte_memWrite_below (m : List Host.Cell) (a c : Nat) (bs : List Byte) (h : c < a) :
    memByte (memWrite m a bs) c = memByte m c := by
  induction bs generalizing m a with
  | nil => rfl
  | cons b bs ih => rw [memWrite, ih _ _ (by omega), memByte_memPut_other _ _ _ _ (by omega)]

/-- Bytes above the last one written read as before. -/
theorem memByte_memWrite_above (m : List Host.Cell) (a c : Nat) (bs : List Byte) (h : a + bs.length ≤ c) :
    memByte (memWrite m a bs) c = memByte m c := by
  induction bs generalizing m a with
  | nil => rfl
  | cons b bs ih =>
    simp only [List.length_cons] at h
    rw [memWrite, ih _ _ (by omega), memByte_memPut_other _ _ _ _ (by omega)]

/-- The bytes written read as written. -/
theorem memByte_memWrite_in (m : List Host.Cell) (a i : Nat) (bs : List Byte) (h : i < bs.length) :
    memByte (memWrite m a bs) (a + i) = bs[i] := by
  induction bs generalizing m a i with
  | nil => simp at h
  | cons b bs ih =>
    rw [memWrite]
    cases i with
    | zero => rw [memByte_memWrite_below _ _ _ _ (by omega)]; simpa using memByte_memPut_same m a b
    | succ i =>
      have e : a + (i + 1) = (a + 1) + i := by omega
      rw [e, ih _ _ _ (by simpa using h)]
      simp

end Sys2Proof.Machine
end

