-- ==== Sys2Proof/Laws/State.lean ====
section
/-!
SUPPORT. What each named update of the state leaves alone, field by field, and what a register field reads after a write.
-/
namespace Sys2Proof.Machine

/-! ### `State.wr` -/

@[simp] theorem State.wr_now (s : State) (b : Nat) (f : Field) (v : Nat) : (s.wr b f v).now = s.now := rfl
@[simp] theorem State.wr_pace (s : State) (b : Nat) (f : Field) (v : Nat) : (s.wr b f v).pace = s.pace := rfl
@[simp] theorem State.wr_regs (s : State) (b : Nat) (f : Field) (v : Nat) : (s.wr b f v).regs = put s.regs (f.key b) (v % 2 ^ f.width) := rfl
@[simp] theorem State.wr_setup (s : State) (b : Nat) (f : Field) (v : Nat) : (s.wr b f v).setup = s.setup := rfl
@[simp] theorem State.wr_ports (s : State) (b : Nat) (f : Field) (v : Nat) : (s.wr b f v).ports = s.ports := rfl
@[simp] theorem State.wr_tbOffers (s : State) (b : Nat) (f : Field) (v : Nat) : (s.wr b f v).tbOffers = s.tbOffers := rfl
@[simp] theorem State.wr_switch (s : State) (b : Nat) (f : Field) (v : Nat) : (s.wr b f v).switch = s.switch := rfl
@[simp] theorem State.wr_route (s : State) (b : Nat) (f : Field) (v : Nat) : (s.wr b f v).route = s.route := rfl
@[simp] theorem State.wr_tp (s : State) (b : Nat) (f : Field) (v : Nat) : (s.wr b f v).tp = s.tp := rfl
@[simp] theorem State.wr_fns (s : State) (b : Nat) (f : Field) (v : Nat) : (s.wr b f v).fns = s.fns := rfl
@[simp] theorem State.wr_wq (s : State) (b : Nat) (f : Field) (v : Nat) : (s.wr b f v).wq = s.wq := rfl
@[simp] theorem State.wr_doms (s : State) (b : Nat) (f : Field) (v : Nat) : (s.wr b f v).doms = s.doms := rfl
@[simp] theorem State.wr_coll (s : State) (b : Nat) (f : Field) (v : Nat) : (s.wr b f v).coll = s.coll := rfl
@[simp] theorem State.wr_xl (s : State) (b : Nat) (f : Field) (v : Nat) : (s.wr b f v).xl = s.xl := rfl
@[simp] theorem State.wr_atts (s : State) (b : Nat) (f : Field) (v : Nat) : (s.wr b f v).atts = s.atts := rfl
@[simp] theorem State.wr_hostCfg (s : State) (b : Nat) (f : Field) (v : Nat) : (s.wr b f v).hostCfg = s.hostCfg := rfl
@[simp] theorem State.wr_fmBg (s : State) (b : Nat) (f : Field) (v : Nat) : (s.wr b f v).fmBg = s.fmBg := rfl
@[simp] theorem State.wr_pool (s : State) (b : Nat) (f : Field) (v : Nat) : (s.wr b f v).pool = s.pool := rfl
@[simp] theorem State.wr_mesh (s : State) (b : Nat) (f : Field) (v : Nat) : (s.wr b f v).mesh = s.mesh := rfl
@[simp] theorem State.wr_police (s : State) (b : Nat) (f : Field) (v : Nat) : (s.wr b f v).police = s.police := rfl
@[simp] theorem State.wr_gz (s : State) (b : Nat) (f : Field) (v : Nat) : (s.wr b f v).gz = s.gz := rfl
@[simp] theorem State.wr_events (s : State) (b : Nat) (f : Field) (v : Nat) : (s.wr b f v).events = s.events := rfl
@[simp] theorem State.wr_mg (s : State) (b : Nat) (f : Field) (v : Nat) : (s.wr b f v).mg = s.mg := rfl
@[simp] theorem State.wr_flask (s : State) (b : Nat) (f : Field) (v : Nat) : (s.wr b f v).flask = s.flask := rfl
@[simp] theorem State.wr_boot (s : State) (b : Nat) (f : Field) (v : Nat) : (s.wr b f v).boot = s.boot := rfl
@[simp] theorem State.wr_err (s : State) (b : Nat) (f : Field) (v : Nat) : (s.wr b f v).err = s.err := rfl
@[simp] theorem State.wr_out (s : State) (b : Nat) (f : Field) (v : Nat) : (s.wr b f v).out = s.out := rfl
@[simp] theorem State.wr_free (s : State) (b : Nat) (f : Field) (v : Nat) : (s.wr b f v).free = s.free := rfl
@[simp] theorem State.wr_pending (s : State) (b : Nat) (f : Field) (v : Nat) : (s.wr b f v).pending = s.pending := rfl

/-! ### `State.emit` -/

@[simp] theorem State.emit_now (s : State) (e : Emit) : (s.emit e).now = s.now := rfl
@[simp] theorem State.emit_pace (s : State) (e : Emit) : (s.emit e).pace = s.pace := rfl
@[simp] theorem State.emit_regs (s : State) (e : Emit) : (s.emit e).regs = s.regs := rfl
@[simp] theorem State.emit_setup (s : State) (e : Emit) : (s.emit e).setup = s.setup := rfl
@[simp] theorem State.emit_ports (s : State) (e : Emit) : (s.emit e).ports = s.ports := rfl
@[simp] theorem State.emit_tbOffers (s : State) (e : Emit) : (s.emit e).tbOffers = s.tbOffers := rfl
@[simp] theorem State.emit_switch (s : State) (e : Emit) : (s.emit e).switch = s.switch := rfl
@[simp] theorem State.emit_route (s : State) (e : Emit) : (s.emit e).route = s.route := rfl
@[simp] theorem State.emit_tp (s : State) (e : Emit) : (s.emit e).tp = s.tp := rfl
@[simp] theorem State.emit_fns (s : State) (e : Emit) : (s.emit e).fns = s.fns := rfl
@[simp] theorem State.emit_wq (s : State) (e : Emit) : (s.emit e).wq = s.wq := rfl
@[simp] theorem State.emit_doms (s : State) (e : Emit) : (s.emit e).doms = s.doms := rfl
@[simp] theorem State.emit_coll (s : State) (e : Emit) : (s.emit e).coll = s.coll := rfl
@[simp] theorem State.emit_xl (s : State) (e : Emit) : (s.emit e).xl = s.xl := rfl
@[simp] theorem State.emit_atts (s : State) (e : Emit) : (s.emit e).atts = s.atts := rfl
@[simp] theorem State.emit_hostCfg (s : State) (e : Emit) : (s.emit e).hostCfg = s.hostCfg := rfl
@[simp] theorem State.emit_fmBg (s : State) (e : Emit) : (s.emit e).fmBg = s.fmBg := rfl
@[simp] theorem State.emit_pool (s : State) (e : Emit) : (s.emit e).pool = s.pool := rfl
@[simp] theorem State.emit_mesh (s : State) (e : Emit) : (s.emit e).mesh = s.mesh := rfl
@[simp] theorem State.emit_police (s : State) (e : Emit) : (s.emit e).police = s.police := rfl
@[simp] theorem State.emit_gz (s : State) (e : Emit) : (s.emit e).gz = s.gz := rfl
@[simp] theorem State.emit_events (s : State) (e : Emit) : (s.emit e).events = s.events := rfl
@[simp] theorem State.emit_mg (s : State) (e : Emit) : (s.emit e).mg = s.mg := rfl
@[simp] theorem State.emit_flask (s : State) (e : Emit) : (s.emit e).flask = s.flask := rfl
@[simp] theorem State.emit_boot (s : State) (e : Emit) : (s.emit e).boot = s.boot := rfl
@[simp] theorem State.emit_err (s : State) (e : Emit) : (s.emit e).err = s.err := rfl
@[simp] theorem State.emit_out (s : State) (e : Emit) : (s.emit e).out = e :: s.out := rfl
@[simp] theorem State.emit_free (s : State) (e : Emit) : (s.emit e).free = s.free := rfl
@[simp] theorem State.emit_pending (s : State) (e : Emit) : (s.emit e).pending = s.pending := rfl

/-! ### `State.spend` -/

@[simp] theorem State.spend_now (s : State) : (s.spend).now = s.now := rfl
@[simp] theorem State.spend_pace (s : State) : (s.spend).pace = s.pace := rfl
@[simp] theorem State.spend_regs (s : State) : (s.spend).regs = s.regs := rfl
@[simp] theorem State.spend_setup (s : State) : (s.spend).setup = s.setup := rfl
@[simp] theorem State.spend_ports (s : State) : (s.spend).ports = s.ports := rfl
@[simp] theorem State.spend_tbOffers (s : State) : (s.spend).tbOffers = s.tbOffers := rfl
@[simp] theorem State.spend_switch (s : State) : (s.spend).switch = s.switch := rfl
@[simp] theorem State.spend_route (s : State) : (s.spend).route = s.route := rfl
@[simp] theorem State.spend_tp (s : State) : (s.spend).tp = s.tp := rfl
@[simp] theorem State.spend_fns (s : State) : (s.spend).fns = s.fns := rfl
@[simp] theorem State.spend_wq (s : State) : (s.spend).wq = s.wq := rfl
@[simp] theorem State.spend_doms (s : State) : (s.spend).doms = s.doms := rfl
@[simp] theorem State.spend_coll (s : State) : (s.spend).coll = s.coll := rfl
@[simp] theorem State.spend_xl (s : State) : (s.spend).xl = s.xl := rfl
@[simp] theorem State.spend_atts (s : State) : (s.spend).atts = s.atts := rfl
@[simp] theorem State.spend_hostCfg (s : State) : (s.spend).hostCfg = s.hostCfg := rfl
@[simp] theorem State.spend_fmBg (s : State) : (s.spend).fmBg = s.fmBg := rfl
@[simp] theorem State.spend_pool (s : State) : (s.spend).pool = s.pool := rfl
@[simp] theorem State.spend_mesh (s : State) : (s.spend).mesh = s.mesh := rfl
@[simp] theorem State.spend_police (s : State) : (s.spend).police = s.police := rfl
@[simp] theorem State.spend_gz (s : State) : (s.spend).gz = s.gz := rfl
@[simp] theorem State.spend_events (s : State) : (s.spend).events = s.events := rfl
@[simp] theorem State.spend_mg (s : State) : (s.spend).mg = s.mg := rfl
@[simp] theorem State.spend_flask (s : State) : (s.spend).flask = s.flask := rfl
@[simp] theorem State.spend_boot (s : State) : (s.spend).boot = s.boot := rfl
@[simp] theorem State.spend_err (s : State) : (s.spend).err = s.err := rfl
@[simp] theorem State.spend_out (s : State) : (s.spend).out = s.out := rfl
@[simp] theorem State.spend_free (s : State) : (s.spend).free = s.free + 1 := rfl
@[simp] theorem State.spend_pending (s : State) : (s.spend).pending = s.pending := rfl

/-! ### `State.setFn` -/

@[simp] theorem State.setFn_now (s : State) (f : Nat) (x : FnSt) : (s.setFn f x).now = s.now := rfl
@[simp] theorem State.setFn_pace (s : State) (f : Nat) (x : FnSt) : (s.setFn f x).pace = s.pace := rfl
@[simp] theorem State.setFn_regs (s : State) (f : Nat) (x : FnSt) : (s.setFn f x).regs = s.regs := rfl
@[simp] theorem State.setFn_setup (s : State) (f : Nat) (x : FnSt) : (s.setFn f x).setup = s.setup := rfl
@[simp] theorem State.setFn_ports (s : State) (f : Nat) (x : FnSt) : (s.setFn f x).ports = s.ports := rfl
@[simp] theorem State.setFn_tbOffers (s : State) (f : Nat) (x : FnSt) : (s.setFn f x).tbOffers = s.tbOffers := rfl
@[simp] theorem State.setFn_switch (s : State) (f : Nat) (x : FnSt) : (s.setFn f x).switch = s.switch := rfl
@[simp] theorem State.setFn_route (s : State) (f : Nat) (x : FnSt) : (s.setFn f x).route = s.route := rfl
@[simp] theorem State.setFn_tp (s : State) (f : Nat) (x : FnSt) : (s.setFn f x).tp = s.tp := rfl
@[simp] theorem State.setFn_fns (s : State) (f : Nat) (x : FnSt) : (s.setFn f x).fns = put s.fns f x := rfl
@[simp] theorem State.setFn_wq (s : State) (f : Nat) (x : FnSt) : (s.setFn f x).wq = s.wq := rfl
@[simp] theorem State.setFn_doms (s : State) (f : Nat) (x : FnSt) : (s.setFn f x).doms = s.doms := rfl
@[simp] theorem State.setFn_coll (s : State) (f : Nat) (x : FnSt) : (s.setFn f x).coll = s.coll := rfl
@[simp] theorem State.setFn_xl (s : State) (f : Nat) (x : FnSt) : (s.setFn f x).xl = s.xl := rfl
@[simp] theorem State.setFn_atts (s : State) (f : Nat) (x : FnSt) : (s.setFn f x).atts = s.atts := rfl
@[simp] theorem State.setFn_hostCfg (s : State) (f : Nat) (x : FnSt) : (s.setFn f x).hostCfg = s.hostCfg := rfl
@[simp] theorem State.setFn_fmBg (s : State) (f : Nat) (x : FnSt) : (s.setFn f x).fmBg = s.fmBg := rfl
@[simp] theorem State.setFn_pool (s : State) (f : Nat) (x : FnSt) : (s.setFn f x).pool = s.pool := rfl
@[simp] theorem State.setFn_mesh (s : State) (f : Nat) (x : FnSt) : (s.setFn f x).mesh = s.mesh := rfl
@[simp] theorem State.setFn_police (s : State) (f : Nat) (x : FnSt) : (s.setFn f x).police = s.police := rfl
@[simp] theorem State.setFn_gz (s : State) (f : Nat) (x : FnSt) : (s.setFn f x).gz = s.gz := rfl
@[simp] theorem State.setFn_events (s : State) (f : Nat) (x : FnSt) : (s.setFn f x).events = s.events := rfl
@[simp] theorem State.setFn_mg (s : State) (f : Nat) (x : FnSt) : (s.setFn f x).mg = s.mg := rfl
@[simp] theorem State.setFn_flask (s : State) (f : Nat) (x : FnSt) : (s.setFn f x).flask = s.flask := rfl
@[simp] theorem State.setFn_boot (s : State) (f : Nat) (x : FnSt) : (s.setFn f x).boot = s.boot := rfl
@[simp] theorem State.setFn_err (s : State) (f : Nat) (x : FnSt) : (s.setFn f x).err = s.err := rfl
@[simp] theorem State.setFn_out (s : State) (f : Nat) (x : FnSt) : (s.setFn f x).out = s.out := rfl
@[simp] theorem State.setFn_free (s : State) (f : Nat) (x : FnSt) : (s.setFn f x).free = s.free := rfl
@[simp] theorem State.setFn_pending (s : State) (f : Nat) (x : FnSt) : (s.setFn f x).pending = s.pending := rfl

/-! ### `State.setPort` -/

@[simp] theorem State.setPort_now (s : State) (n : Nat) (p : PortSt) : (s.setPort n p).now = s.now := rfl
@[simp] theorem State.setPort_pace (s : State) (n : Nat) (p : PortSt) : (s.setPort n p).pace = s.pace := rfl
@[simp] theorem State.setPort_regs (s : State) (n : Nat) (p : PortSt) : (s.setPort n p).regs = s.regs := rfl
@[simp] theorem State.setPort_setup (s : State) (n : Nat) (p : PortSt) : (s.setPort n p).setup = s.setup := rfl
@[simp] theorem State.setPort_ports (s : State) (n : Nat) (p : PortSt) : (s.setPort n p).ports = put s.ports n p := rfl
@[simp] theorem State.setPort_tbOffers (s : State) (n : Nat) (p : PortSt) : (s.setPort n p).tbOffers = s.tbOffers := rfl
@[simp] theorem State.setPort_switch (s : State) (n : Nat) (p : PortSt) : (s.setPort n p).switch = s.switch := rfl
@[simp] theorem State.setPort_route (s : State) (n : Nat) (p : PortSt) : (s.setPort n p).route = s.route := rfl
@[simp] theorem State.setPort_tp (s : State) (n : Nat) (p : PortSt) : (s.setPort n p).tp = s.tp := rfl
@[simp] theorem State.setPort_fns (s : State) (n : Nat) (p : PortSt) : (s.setPort n p).fns = s.fns := rfl
@[simp] theorem State.setPort_wq (s : State) (n : Nat) (p : PortSt) : (s.setPort n p).wq = s.wq := rfl
@[simp] theorem State.setPort_doms (s : State) (n : Nat) (p : PortSt) : (s.setPort n p).doms = s.doms := rfl
@[simp] theorem State.setPort_coll (s : State) (n : Nat) (p : PortSt) : (s.setPort n p).coll = s.coll := rfl
@[simp] theorem State.setPort_xl (s : State) (n : Nat) (p : PortSt) : (s.setPort n p).xl = s.xl := rfl
@[simp] theorem State.setPort_atts (s : State) (n : Nat) (p : PortSt) : (s.setPort n p).atts = s.atts := rfl
@[simp] theorem State.setPort_hostCfg (s : State) (n : Nat) (p : PortSt) : (s.setPort n p).hostCfg = s.hostCfg := rfl
@[simp] theorem State.setPort_fmBg (s : State) (n : Nat) (p : PortSt) : (s.setPort n p).fmBg = s.fmBg := rfl
@[simp] theorem State.setPort_pool (s : State) (n : Nat) (p : PortSt) : (s.setPort n p).pool = s.pool := rfl
@[simp] theorem State.setPort_mesh (s : State) (n : Nat) (p : PortSt) : (s.setPort n p).mesh = s.mesh := rfl
@[simp] theorem State.setPort_police (s : State) (n : Nat) (p : PortSt) : (s.setPort n p).police = s.police := rfl
@[simp] theorem State.setPort_gz (s : State) (n : Nat) (p : PortSt) : (s.setPort n p).gz = s.gz := rfl
@[simp] theorem State.setPort_events (s : State) (n : Nat) (p : PortSt) : (s.setPort n p).events = s.events := rfl
@[simp] theorem State.setPort_mg (s : State) (n : Nat) (p : PortSt) : (s.setPort n p).mg = s.mg := rfl
@[simp] theorem State.setPort_flask (s : State) (n : Nat) (p : PortSt) : (s.setPort n p).flask = s.flask := rfl
@[simp] theorem State.setPort_boot (s : State) (n : Nat) (p : PortSt) : (s.setPort n p).boot = s.boot := rfl
@[simp] theorem State.setPort_err (s : State) (n : Nat) (p : PortSt) : (s.setPort n p).err = s.err := rfl
@[simp] theorem State.setPort_out (s : State) (n : Nat) (p : PortSt) : (s.setPort n p).out = s.out := rfl
@[simp] theorem State.setPort_free (s : State) (n : Nat) (p : PortSt) : (s.setPort n p).free = s.free := rfl
@[simp] theorem State.setPort_pending (s : State) (n : Nat) (p : PortSt) : (s.setPort n p).pending = s.pending := rfl

/-! ### `State.setAtt` -/

@[simp] theorem State.setAtt_now (s : State) (a : Nat) (x : AttSt) : (s.setAtt a x).now = s.now := rfl
@[simp] theorem State.setAtt_pace (s : State) (a : Nat) (x : AttSt) : (s.setAtt a x).pace = s.pace := rfl
@[simp] theorem State.setAtt_regs (s : State) (a : Nat) (x : AttSt) : (s.setAtt a x).regs = s.regs := rfl
@[simp] theorem State.setAtt_setup (s : State) (a : Nat) (x : AttSt) : (s.setAtt a x).setup = s.setup := rfl
@[simp] theorem State.setAtt_ports (s : State) (a : Nat) (x : AttSt) : (s.setAtt a x).ports = s.ports := rfl
@[simp] theorem State.setAtt_tbOffers (s : State) (a : Nat) (x : AttSt) : (s.setAtt a x).tbOffers = s.tbOffers := rfl
@[simp] theorem State.setAtt_switch (s : State) (a : Nat) (x : AttSt) : (s.setAtt a x).switch = s.switch := rfl
@[simp] theorem State.setAtt_route (s : State) (a : Nat) (x : AttSt) : (s.setAtt a x).route = s.route := rfl
@[simp] theorem State.setAtt_tp (s : State) (a : Nat) (x : AttSt) : (s.setAtt a x).tp = s.tp := rfl
@[simp] theorem State.setAtt_fns (s : State) (a : Nat) (x : AttSt) : (s.setAtt a x).fns = s.fns := rfl
@[simp] theorem State.setAtt_wq (s : State) (a : Nat) (x : AttSt) : (s.setAtt a x).wq = s.wq := rfl
@[simp] theorem State.setAtt_doms (s : State) (a : Nat) (x : AttSt) : (s.setAtt a x).doms = s.doms := rfl
@[simp] theorem State.setAtt_coll (s : State) (a : Nat) (x : AttSt) : (s.setAtt a x).coll = s.coll := rfl
@[simp] theorem State.setAtt_xl (s : State) (a : Nat) (x : AttSt) : (s.setAtt a x).xl = s.xl := rfl
@[simp] theorem State.setAtt_atts (s : State) (a : Nat) (x : AttSt) : (s.setAtt a x).atts = put s.atts a x := rfl
@[simp] theorem State.setAtt_hostCfg (s : State) (a : Nat) (x : AttSt) : (s.setAtt a x).hostCfg = s.hostCfg := rfl
@[simp] theorem State.setAtt_fmBg (s : State) (a : Nat) (x : AttSt) : (s.setAtt a x).fmBg = s.fmBg := rfl
@[simp] theorem State.setAtt_pool (s : State) (a : Nat) (x : AttSt) : (s.setAtt a x).pool = s.pool := rfl
@[simp] theorem State.setAtt_mesh (s : State) (a : Nat) (x : AttSt) : (s.setAtt a x).mesh = s.mesh := rfl
@[simp] theorem State.setAtt_police (s : State) (a : Nat) (x : AttSt) : (s.setAtt a x).police = s.police := rfl
@[simp] theorem State.setAtt_gz (s : State) (a : Nat) (x : AttSt) : (s.setAtt a x).gz = s.gz := rfl
@[simp] theorem State.setAtt_events (s : State) (a : Nat) (x : AttSt) : (s.setAtt a x).events = s.events := rfl
@[simp] theorem State.setAtt_mg (s : State) (a : Nat) (x : AttSt) : (s.setAtt a x).mg = s.mg := rfl
@[simp] theorem State.setAtt_flask (s : State) (a : Nat) (x : AttSt) : (s.setAtt a x).flask = s.flask := rfl
@[simp] theorem State.setAtt_boot (s : State) (a : Nat) (x : AttSt) : (s.setAtt a x).boot = s.boot := rfl
@[simp] theorem State.setAtt_err (s : State) (a : Nat) (x : AttSt) : (s.setAtt a x).err = s.err := rfl
@[simp] theorem State.setAtt_out (s : State) (a : Nat) (x : AttSt) : (s.setAtt a x).out = s.out := rfl
@[simp] theorem State.setAtt_free (s : State) (a : Nat) (x : AttSt) : (s.setAtt a x).free = s.free := rfl
@[simp] theorem State.setAtt_pending (s : State) (a : Nat) (x : AttSt) : (s.setAtt a x).pending = s.pending := rfl

/-! ### `State.setMg` -/

@[simp] theorem State.setMg_now (s : State) (x : MgmtSt) : (s.setMg x).now = s.now := rfl
@[simp] theorem State.setMg_pace (s : State) (x : MgmtSt) : (s.setMg x).pace = s.pace := rfl
@[simp] theorem State.setMg_regs (s : State) (x : MgmtSt) : (s.setMg x).regs = s.regs := rfl
@[simp] theorem State.setMg_setup (s : State) (x : MgmtSt) : (s.setMg x).setup = s.setup := rfl
@[simp] theorem State.setMg_ports (s : State) (x : MgmtSt) : (s.setMg x).ports = s.ports := rfl
@[simp] theorem State.setMg_tbOffers (s : State) (x : MgmtSt) : (s.setMg x).tbOffers = s.tbOffers := rfl
@[simp] theorem State.setMg_switch (s : State) (x : MgmtSt) : (s.setMg x).switch = s.switch := rfl
@[simp] theorem State.setMg_route (s : State) (x : MgmtSt) : (s.setMg x).route = s.route := rfl
@[simp] theorem State.setMg_tp (s : State) (x : MgmtSt) : (s.setMg x).tp = s.tp := rfl
@[simp] theorem State.setMg_fns (s : State) (x : MgmtSt) : (s.setMg x).fns = s.fns := rfl
@[simp] theorem State.setMg_wq (s : State) (x : MgmtSt) : (s.setMg x).wq = s.wq := rfl
@[simp] theorem State.setMg_doms (s : State) (x : MgmtSt) : (s.setMg x).doms = s.doms := rfl
@[simp] theorem State.setMg_coll (s : State) (x : MgmtSt) : (s.setMg x).coll = s.coll := rfl
@[simp] theorem State.setMg_xl (s : State) (x : MgmtSt) : (s.setMg x).xl = s.xl := rfl
@[simp] theorem State.setMg_atts (s : State) (x : MgmtSt) : (s.setMg x).atts = s.atts := rfl
@[simp] theorem State.setMg_hostCfg (s : State) (x : MgmtSt) : (s.setMg x).hostCfg = s.hostCfg := rfl
@[simp] theorem State.setMg_fmBg (s : State) (x : MgmtSt) : (s.setMg x).fmBg = s.fmBg := rfl
@[simp] theorem State.setMg_pool (s : State) (x : MgmtSt) : (s.setMg x).pool = s.pool := rfl
@[simp] theorem State.setMg_mesh (s : State) (x : MgmtSt) : (s.setMg x).mesh = s.mesh := rfl
@[simp] theorem State.setMg_police (s : State) (x : MgmtSt) : (s.setMg x).police = s.police := rfl
@[simp] theorem State.setMg_gz (s : State) (x : MgmtSt) : (s.setMg x).gz = s.gz := rfl
@[simp] theorem State.setMg_events (s : State) (x : MgmtSt) : (s.setMg x).events = s.events := rfl
@[simp] theorem State.setMg_mg (s : State) (x : MgmtSt) : (s.setMg x).mg = x := rfl
@[simp] theorem State.setMg_flask (s : State) (x : MgmtSt) : (s.setMg x).flask = s.flask := rfl
@[simp] theorem State.setMg_boot (s : State) (x : MgmtSt) : (s.setMg x).boot = s.boot := rfl
@[simp] theorem State.setMg_err (s : State) (x : MgmtSt) : (s.setMg x).err = s.err := rfl
@[simp] theorem State.setMg_out (s : State) (x : MgmtSt) : (s.setMg x).out = s.out := rfl
@[simp] theorem State.setMg_free (s : State) (x : MgmtSt) : (s.setMg x).free = s.free := rfl
@[simp] theorem State.setMg_pending (s : State) (x : MgmtSt) : (s.setMg x).pending = s.pending := rfl

/-! ### `State.setGz` -/

@[simp] theorem State.setGz_now (s : State) (x : GzSt) : (s.setGz x).now = s.now := rfl
@[simp] theorem State.setGz_pace (s : State) (x : GzSt) : (s.setGz x).pace = s.pace := rfl
@[simp] theorem State.setGz_regs (s : State) (x : GzSt) : (s.setGz x).regs = s.regs := rfl
@[simp] theorem State.setGz_setup (s : State) (x : GzSt) : (s.setGz x).setup = s.setup := rfl
@[simp] theorem State.setGz_ports (s : State) (x : GzSt) : (s.setGz x).ports = s.ports := rfl
@[simp] theorem State.setGz_tbOffers (s : State) (x : GzSt) : (s.setGz x).tbOffers = s.tbOffers := rfl
@[simp] theorem State.setGz_switch (s : State) (x : GzSt) : (s.setGz x).switch = s.switch := rfl
@[simp] theorem State.setGz_route (s : State) (x : GzSt) : (s.setGz x).route = s.route := rfl
@[simp] theorem State.setGz_tp (s : State) (x : GzSt) : (s.setGz x).tp = s.tp := rfl
@[simp] theorem State.setGz_fns (s : State) (x : GzSt) : (s.setGz x).fns = s.fns := rfl
@[simp] theorem State.setGz_wq (s : State) (x : GzSt) : (s.setGz x).wq = s.wq := rfl
@[simp] theorem State.setGz_doms (s : State) (x : GzSt) : (s.setGz x).doms = s.doms := rfl
@[simp] theorem State.setGz_coll (s : State) (x : GzSt) : (s.setGz x).coll = s.coll := rfl
@[simp] theorem State.setGz_xl (s : State) (x : GzSt) : (s.setGz x).xl = s.xl := rfl
@[simp] theorem State.setGz_atts (s : State) (x : GzSt) : (s.setGz x).atts = s.atts := rfl
@[simp] theorem State.setGz_hostCfg (s : State) (x : GzSt) : (s.setGz x).hostCfg = s.hostCfg := rfl
@[simp] theorem State.setGz_fmBg (s : State) (x : GzSt) : (s.setGz x).fmBg = s.fmBg := rfl
@[simp] theorem State.setGz_pool (s : State) (x : GzSt) : (s.setGz x).pool = s.pool := rfl
@[simp] theorem State.setGz_mesh (s : State) (x : GzSt) : (s.setGz x).mesh = s.mesh := rfl
@[simp] theorem State.setGz_police (s : State) (x : GzSt) : (s.setGz x).police = s.police := rfl
@[simp] theorem State.setGz_gz (s : State) (x : GzSt) : (s.setGz x).gz = x := rfl
@[simp] theorem State.setGz_events (s : State) (x : GzSt) : (s.setGz x).events = s.events := rfl
@[simp] theorem State.setGz_mg (s : State) (x : GzSt) : (s.setGz x).mg = s.mg := rfl
@[simp] theorem State.setGz_flask (s : State) (x : GzSt) : (s.setGz x).flask = s.flask := rfl
@[simp] theorem State.setGz_boot (s : State) (x : GzSt) : (s.setGz x).boot = s.boot := rfl
@[simp] theorem State.setGz_err (s : State) (x : GzSt) : (s.setGz x).err = s.err := rfl
@[simp] theorem State.setGz_out (s : State) (x : GzSt) : (s.setGz x).out = s.out := rfl
@[simp] theorem State.setGz_free (s : State) (x : GzSt) : (s.setGz x).free = s.free := rfl
@[simp] theorem State.setGz_pending (s : State) (x : GzSt) : (s.setGz x).pending = s.pending := rfl

/-! ### `State.setSlice` -/

@[simp] theorem State.setSlice_now (s : State) (i : Nat) (x : SliceSt) : (s.setSlice i x).now = s.now := rfl
@[simp] theorem State.setSlice_pace (s : State) (i : Nat) (x : SliceSt) : (s.setSlice i x).pace = s.pace := rfl
@[simp] theorem State.setSlice_regs (s : State) (i : Nat) (x : SliceSt) : (s.setSlice i x).regs = s.regs := rfl
@[simp] theorem State.setSlice_setup (s : State) (i : Nat) (x : SliceSt) : (s.setSlice i x).setup = s.setup := rfl
@[simp] theorem State.setSlice_ports (s : State) (i : Nat) (x : SliceSt) : (s.setSlice i x).ports = s.ports := rfl
@[simp] theorem State.setSlice_tbOffers (s : State) (i : Nat) (x : SliceSt) : (s.setSlice i x).tbOffers = s.tbOffers := rfl
@[simp] theorem State.setSlice_switch (s : State) (i : Nat) (x : SliceSt) : (s.setSlice i x).switch = s.switch := rfl
@[simp] theorem State.setSlice_route (s : State) (i : Nat) (x : SliceSt) : (s.setSlice i x).route = s.route := rfl
@[simp] theorem State.setSlice_tp (s : State) (i : Nat) (x : SliceSt) : (s.setSlice i x).tp = s.tp := rfl
@[simp] theorem State.setSlice_fns (s : State) (i : Nat) (x : SliceSt) : (s.setSlice i x).fns = s.fns := rfl
@[simp] theorem State.setSlice_wq (s : State) (i : Nat) (x : SliceSt) : (s.setSlice i x).wq = s.wq := rfl
@[simp] theorem State.setSlice_doms (s : State) (i : Nat) (x : SliceSt) : (s.setSlice i x).doms = s.doms := rfl
@[simp] theorem State.setSlice_coll (s : State) (i : Nat) (x : SliceSt) : (s.setSlice i x).coll = s.coll := rfl
@[simp] theorem State.setSlice_xl (s : State) (i : Nat) (x : SliceSt) : (s.setSlice i x).xl = s.xl := rfl
@[simp] theorem State.setSlice_atts (s : State) (i : Nat) (x : SliceSt) : (s.setSlice i x).atts = s.atts := rfl
@[simp] theorem State.setSlice_hostCfg (s : State) (i : Nat) (x : SliceSt) : (s.setSlice i x).hostCfg = s.hostCfg := rfl
@[simp] theorem State.setSlice_fmBg (s : State) (i : Nat) (x : SliceSt) : (s.setSlice i x).fmBg = s.fmBg := rfl
@[simp] theorem State.setSlice_pool (s : State) (i : Nat) (x : SliceSt) : (s.setSlice i x).pool = s.pool := rfl
@[simp] theorem State.setSlice_police (s : State) (i : Nat) (x : SliceSt) : (s.setSlice i x).police = s.police := rfl
@[simp] theorem State.setSlice_gz (s : State) (i : Nat) (x : SliceSt) : (s.setSlice i x).gz = s.gz := rfl
@[simp] theorem State.setSlice_events (s : State) (i : Nat) (x : SliceSt) : (s.setSlice i x).events = s.events := rfl
@[simp] theorem State.setSlice_mg (s : State) (i : Nat) (x : SliceSt) : (s.setSlice i x).mg = s.mg := rfl
@[simp] theorem State.setSlice_flask (s : State) (i : Nat) (x : SliceSt) : (s.setSlice i x).flask = s.flask := rfl
@[simp] theorem State.setSlice_boot (s : State) (i : Nat) (x : SliceSt) : (s.setSlice i x).boot = s.boot := rfl
@[simp] theorem State.setSlice_err (s : State) (i : Nat) (x : SliceSt) : (s.setSlice i x).err = s.err := rfl
@[simp] theorem State.setSlice_out (s : State) (i : Nat) (x : SliceSt) : (s.setSlice i x).out = s.out := rfl
@[simp] theorem State.setSlice_free (s : State) (i : Nat) (x : SliceSt) : (s.setSlice i x).free = s.free := rfl
@[simp] theorem State.setSlice_pending (s : State) (i : Nat) (x : SliceSt) : (s.setSlice i x).pending = s.pending := rfl

/-! ### `State.setOuting` -/

@[simp] theorem State.setOuting_now (s : State) (o : Nat) (x : OutingSt) : (s.setOuting o x).now = s.now := rfl
@[simp] theorem State.setOuting_pace (s : State) (o : Nat) (x : OutingSt) : (s.setOuting o x).pace = s.pace := rfl
@[simp] theorem State.setOuting_regs (s : State) (o : Nat) (x : OutingSt) : (s.setOuting o x).regs = s.regs := rfl
@[simp] theorem State.setOuting_setup (s : State) (o : Nat) (x : OutingSt) : (s.setOuting o x).setup = s.setup := rfl
@[simp] theorem State.setOuting_ports (s : State) (o : Nat) (x : OutingSt) : (s.setOuting o x).ports = s.ports := rfl
@[simp] theorem State.setOuting_tbOffers (s : State) (o : Nat) (x : OutingSt) : (s.setOuting o x).tbOffers = s.tbOffers := rfl
@[simp] theorem State.setOuting_switch (s : State) (o : Nat) (x : OutingSt) : (s.setOuting o x).switch = s.switch := rfl
@[simp] theorem State.setOuting_route (s : State) (o : Nat) (x : OutingSt) : (s.setOuting o x).route = s.route := rfl
@[simp] theorem State.setOuting_tp (s : State) (o : Nat) (x : OutingSt) : (s.setOuting o x).tp = s.tp := rfl
@[simp] theorem State.setOuting_fns (s : State) (o : Nat) (x : OutingSt) : (s.setOuting o x).fns = s.fns := rfl
@[simp] theorem State.setOuting_wq (s : State) (o : Nat) (x : OutingSt) : (s.setOuting o x).wq = s.wq := rfl
@[simp] theorem State.setOuting_doms (s : State) (o : Nat) (x : OutingSt) : (s.setOuting o x).doms = s.doms := rfl
@[simp] theorem State.setOuting_xl (s : State) (o : Nat) (x : OutingSt) : (s.setOuting o x).xl = s.xl := rfl
@[simp] theorem State.setOuting_atts (s : State) (o : Nat) (x : OutingSt) : (s.setOuting o x).atts = s.atts := rfl
@[simp] theorem State.setOuting_hostCfg (s : State) (o : Nat) (x : OutingSt) : (s.setOuting o x).hostCfg = s.hostCfg := rfl
@[simp] theorem State.setOuting_fmBg (s : State) (o : Nat) (x : OutingSt) : (s.setOuting o x).fmBg = s.fmBg := rfl
@[simp] theorem State.setOuting_pool (s : State) (o : Nat) (x : OutingSt) : (s.setOuting o x).pool = s.pool := rfl
@[simp] theorem State.setOuting_mesh (s : State) (o : Nat) (x : OutingSt) : (s.setOuting o x).mesh = s.mesh := rfl
@[simp] theorem State.setOuting_police (s : State) (o : Nat) (x : OutingSt) : (s.setOuting o x).police = s.police := rfl
@[simp] theorem State.setOuting_gz (s : State) (o : Nat) (x : OutingSt) : (s.setOuting o x).gz = s.gz := rfl
@[simp] theorem State.setOuting_events (s : State) (o : Nat) (x : OutingSt) : (s.setOuting o x).events = s.events := rfl
@[simp] theorem State.setOuting_mg (s : State) (o : Nat) (x : OutingSt) : (s.setOuting o x).mg = s.mg := rfl
@[simp] theorem State.setOuting_flask (s : State) (o : Nat) (x : OutingSt) : (s.setOuting o x).flask = s.flask := rfl
@[simp] theorem State.setOuting_boot (s : State) (o : Nat) (x : OutingSt) : (s.setOuting o x).boot = s.boot := rfl
@[simp] theorem State.setOuting_err (s : State) (o : Nat) (x : OutingSt) : (s.setOuting o x).err = s.err := rfl
@[simp] theorem State.setOuting_out (s : State) (o : Nat) (x : OutingSt) : (s.setOuting o x).out = s.out := rfl
@[simp] theorem State.setOuting_free (s : State) (o : Nat) (x : OutingSt) : (s.setOuting o x).free = s.free := rfl
@[simp] theorem State.setOuting_pending (s : State) (o : Nat) (x : OutingSt) : (s.setOuting o x).pending = s.pending := rfl

/-! ### `State.setExt` -/

@[simp] theorem State.setExt_now (s : State) (e : Nat) (x : ExtSt) : (s.setExt e x).now = s.now := rfl
@[simp] theorem State.setExt_pace (s : State) (e : Nat) (x : ExtSt) : (s.setExt e x).pace = s.pace := rfl
@[simp] theorem State.setExt_regs (s : State) (e : Nat) (x : ExtSt) : (s.setExt e x).regs = s.regs := rfl
@[simp] theorem State.setExt_setup (s : State) (e : Nat) (x : ExtSt) : (s.setExt e x).setup = s.setup := rfl
@[simp] theorem State.setExt_ports (s : State) (e : Nat) (x : ExtSt) : (s.setExt e x).ports = s.ports := rfl
@[simp] theorem State.setExt_tbOffers (s : State) (e : Nat) (x : ExtSt) : (s.setExt e x).tbOffers = s.tbOffers := rfl
@[simp] theorem State.setExt_switch (s : State) (e : Nat) (x : ExtSt) : (s.setExt e x).switch = s.switch := rfl
@[simp] theorem State.setExt_route (s : State) (e : Nat) (x : ExtSt) : (s.setExt e x).route = s.route := rfl
@[simp] theorem State.setExt_tp (s : State) (e : Nat) (x : ExtSt) : (s.setExt e x).tp = s.tp := rfl
@[simp] theorem State.setExt_fns (s : State) (e : Nat) (x : ExtSt) : (s.setExt e x).fns = s.fns := rfl
@[simp] theorem State.setExt_wq (s : State) (e : Nat) (x : ExtSt) : (s.setExt e x).wq = s.wq := rfl
@[simp] theorem State.setExt_doms (s : State) (e : Nat) (x : ExtSt) : (s.setExt e x).doms = s.doms := rfl
@[simp] theorem State.setExt_coll (s : State) (e : Nat) (x : ExtSt) : (s.setExt e x).coll = s.coll := rfl
@[simp] theorem State.setExt_xl (s : State) (e : Nat) (x : ExtSt) : (s.setExt e x).xl = s.xl := rfl
@[simp] theorem State.setExt_atts (s : State) (e : Nat) (x : ExtSt) : (s.setExt e x).atts = s.atts := rfl
@[simp] theorem State.setExt_hostCfg (s : State) (e : Nat) (x : ExtSt) : (s.setExt e x).hostCfg = s.hostCfg := rfl
@[simp] theorem State.setExt_fmBg (s : State) (e : Nat) (x : ExtSt) : (s.setExt e x).fmBg = s.fmBg := rfl
@[simp] theorem State.setExt_mesh (s : State) (e : Nat) (x : ExtSt) : (s.setExt e x).mesh = s.mesh := rfl
@[simp] theorem State.setExt_police (s : State) (e : Nat) (x : ExtSt) : (s.setExt e x).police = s.police := rfl
@[simp] theorem State.setExt_gz (s : State) (e : Nat) (x : ExtSt) : (s.setExt e x).gz = s.gz := rfl
@[simp] theorem State.setExt_events (s : State) (e : Nat) (x : ExtSt) : (s.setExt e x).events = s.events := rfl
@[simp] theorem State.setExt_mg (s : State) (e : Nat) (x : ExtSt) : (s.setExt e x).mg = s.mg := rfl
@[simp] theorem State.setExt_flask (s : State) (e : Nat) (x : ExtSt) : (s.setExt e x).flask = s.flask := rfl
@[simp] theorem State.setExt_boot (s : State) (e : Nat) (x : ExtSt) : (s.setExt e x).boot = s.boot := rfl
@[simp] theorem State.setExt_err (s : State) (e : Nat) (x : ExtSt) : (s.setExt e x).err = s.err := rfl
@[simp] theorem State.setExt_out (s : State) (e : Nat) (x : ExtSt) : (s.setExt e x).out = s.out := rfl
@[simp] theorem State.setExt_free (s : State) (e : Nat) (x : ExtSt) : (s.setExt e x).free = s.free := rfl
@[simp] theorem State.setExt_pending (s : State) (e : Nat) (x : ExtSt) : (s.setExt e x).pending = s.pending := rfl

/-! ### `State.setWq` -/

@[simp] theorem State.setWq_now (s : State) (g : Nat) (x : WqSt) : (s.setWq g x).now = s.now := rfl
@[simp] theorem State.setWq_pace (s : State) (g : Nat) (x : WqSt) : (s.setWq g x).pace = s.pace := rfl
@[simp] theorem State.setWq_regs (s : State) (g : Nat) (x : WqSt) : (s.setWq g x).regs = s.regs := rfl
@[simp] theorem State.setWq_setup (s : State) (g : Nat) (x : WqSt) : (s.setWq g x).setup = s.setup := rfl
@[simp] theorem State.setWq_ports (s : State) (g : Nat) (x : WqSt) : (s.setWq g x).ports = s.ports := rfl
@[simp] theorem State.setWq_tbOffers (s : State) (g : Nat) (x : WqSt) : (s.setWq g x).tbOffers = s.tbOffers := rfl
@[simp] theorem State.setWq_switch (s : State) (g : Nat) (x : WqSt) : (s.setWq g x).switch = s.switch := rfl
@[simp] theorem State.setWq_route (s : State) (g : Nat) (x : WqSt) : (s.setWq g x).route = s.route := rfl
@[simp] theorem State.setWq_tp (s : State) (g : Nat) (x : WqSt) : (s.setWq g x).tp = s.tp := rfl
@[simp] theorem State.setWq_fns (s : State) (g : Nat) (x : WqSt) : (s.setWq g x).fns = s.fns := rfl
@[simp] theorem State.setWq_doms (s : State) (g : Nat) (x : WqSt) : (s.setWq g x).doms = s.doms := rfl
@[simp] theorem State.setWq_coll (s : State) (g : Nat) (x : WqSt) : (s.setWq g x).coll = s.coll := rfl
@[simp] theorem State.setWq_xl (s : State) (g : Nat) (x : WqSt) : (s.setWq g x).xl = s.xl := rfl
@[simp] theorem State.setWq_atts (s : State) (g : Nat) (x : WqSt) : (s.setWq g x).atts = s.atts := rfl
@[simp] theorem State.setWq_hostCfg (s : State) (g : Nat) (x : WqSt) : (s.setWq g x).hostCfg = s.hostCfg := rfl
@[simp] theorem State.setWq_fmBg (s : State) (g : Nat) (x : WqSt) : (s.setWq g x).fmBg = s.fmBg := rfl
@[simp] theorem State.setWq_pool (s : State) (g : Nat) (x : WqSt) : (s.setWq g x).pool = s.pool := rfl
@[simp] theorem State.setWq_mesh (s : State) (g : Nat) (x : WqSt) : (s.setWq g x).mesh = s.mesh := rfl
@[simp] theorem State.setWq_police (s : State) (g : Nat) (x : WqSt) : (s.setWq g x).police = s.police := rfl
@[simp] theorem State.setWq_gz (s : State) (g : Nat) (x : WqSt) : (s.setWq g x).gz = s.gz := rfl
@[simp] theorem State.setWq_events (s : State) (g : Nat) (x : WqSt) : (s.setWq g x).events = s.events := rfl
@[simp] theorem State.setWq_mg (s : State) (g : Nat) (x : WqSt) : (s.setWq g x).mg = s.mg := rfl
@[simp] theorem State.setWq_flask (s : State) (g : Nat) (x : WqSt) : (s.setWq g x).flask = s.flask := rfl
@[simp] theorem State.setWq_boot (s : State) (g : Nat) (x : WqSt) : (s.setWq g x).boot = s.boot := rfl
@[simp] theorem State.setWq_err (s : State) (g : Nat) (x : WqSt) : (s.setWq g x).err = s.err := rfl
@[simp] theorem State.setWq_out (s : State) (g : Nat) (x : WqSt) : (s.setWq g x).out = s.out := rfl
@[simp] theorem State.setWq_free (s : State) (g : Nat) (x : WqSt) : (s.setWq g x).free = s.free := rfl
@[simp] theorem State.setWq_pending (s : State) (g : Nat) (x : WqSt) : (s.setWq g x).pending = s.pending := rfl

/-! ### `State.setCq` -/

@[simp] theorem State.setCq_now (s : State) (g : Nat) (x : CqSt) : (s.setCq g x).now = s.now := rfl
@[simp] theorem State.setCq_pace (s : State) (g : Nat) (x : CqSt) : (s.setCq g x).pace = s.pace := rfl
@[simp] theorem State.setCq_regs (s : State) (g : Nat) (x : CqSt) : (s.setCq g x).regs = s.regs := rfl
@[simp] theorem State.setCq_setup (s : State) (g : Nat) (x : CqSt) : (s.setCq g x).setup = s.setup := rfl
@[simp] theorem State.setCq_ports (s : State) (g : Nat) (x : CqSt) : (s.setCq g x).ports = s.ports := rfl
@[simp] theorem State.setCq_tbOffers (s : State) (g : Nat) (x : CqSt) : (s.setCq g x).tbOffers = s.tbOffers := rfl
@[simp] theorem State.setCq_switch (s : State) (g : Nat) (x : CqSt) : (s.setCq g x).switch = s.switch := rfl
@[simp] theorem State.setCq_route (s : State) (g : Nat) (x : CqSt) : (s.setCq g x).route = s.route := rfl
@[simp] theorem State.setCq_tp (s : State) (g : Nat) (x : CqSt) : (s.setCq g x).tp = s.tp := rfl
@[simp] theorem State.setCq_fns (s : State) (g : Nat) (x : CqSt) : (s.setCq g x).fns = s.fns := rfl
@[simp] theorem State.setCq_doms (s : State) (g : Nat) (x : CqSt) : (s.setCq g x).doms = s.doms := rfl
@[simp] theorem State.setCq_coll (s : State) (g : Nat) (x : CqSt) : (s.setCq g x).coll = s.coll := rfl
@[simp] theorem State.setCq_xl (s : State) (g : Nat) (x : CqSt) : (s.setCq g x).xl = s.xl := rfl
@[simp] theorem State.setCq_atts (s : State) (g : Nat) (x : CqSt) : (s.setCq g x).atts = s.atts := rfl
@[simp] theorem State.setCq_hostCfg (s : State) (g : Nat) (x : CqSt) : (s.setCq g x).hostCfg = s.hostCfg := rfl
@[simp] theorem State.setCq_fmBg (s : State) (g : Nat) (x : CqSt) : (s.setCq g x).fmBg = s.fmBg := rfl
@[simp] theorem State.setCq_pool (s : State) (g : Nat) (x : CqSt) : (s.setCq g x).pool = s.pool := rfl
@[simp] theorem State.setCq_mesh (s : State) (g : Nat) (x : CqSt) : (s.setCq g x).mesh = s.mesh := rfl
@[simp] theorem State.setCq_police (s : State) (g : Nat) (x : CqSt) : (s.setCq g x).police = s.police := rfl
@[simp] theorem State.setCq_gz (s : State) (g : Nat) (x : CqSt) : (s.setCq g x).gz = s.gz := rfl
@[simp] theorem State.setCq_events (s : State) (g : Nat) (x : CqSt) : (s.setCq g x).events = s.events := rfl
@[simp] theorem State.setCq_mg (s : State) (g : Nat) (x : CqSt) : (s.setCq g x).mg = s.mg := rfl
@[simp] theorem State.setCq_flask (s : State) (g : Nat) (x : CqSt) : (s.setCq g x).flask = s.flask := rfl
@[simp] theorem State.setCq_boot (s : State) (g : Nat) (x : CqSt) : (s.setCq g x).boot = s.boot := rfl
@[simp] theorem State.setCq_err (s : State) (g : Nat) (x : CqSt) : (s.setCq g x).err = s.err := rfl
@[simp] theorem State.setCq_out (s : State) (g : Nat) (x : CqSt) : (s.setCq g x).out = s.out := rfl
@[simp] theorem State.setCq_free (s : State) (g : Nat) (x : CqSt) : (s.setCq g x).free = s.free := rfl
@[simp] theorem State.setCq_pending (s : State) (g : Nat) (x : CqSt) : (s.setCq g x).pending = s.pending := rfl

/-! ### `State.setChan` -/

@[simp] theorem State.setChan_now (s : State) (c : Nat) (x : ChanSt) : (s.setChan c x).now = s.now := rfl
@[simp] theorem State.setChan_pace (s : State) (c : Nat) (x : ChanSt) : (s.setChan c x).pace = s.pace := rfl
@[simp] theorem State.setChan_regs (s : State) (c : Nat) (x : ChanSt) : (s.setChan c x).regs = s.regs := rfl
@[simp] theorem State.setChan_setup (s : State) (c : Nat) (x : ChanSt) : (s.setChan c x).setup = s.setup := rfl
@[simp] theorem State.setChan_ports (s : State) (c : Nat) (x : ChanSt) : (s.setChan c x).ports = s.ports := rfl
@[simp] theorem State.setChan_tbOffers (s : State) (c : Nat) (x : ChanSt) : (s.setChan c x).tbOffers = s.tbOffers := rfl
@[simp] theorem State.setChan_switch (s : State) (c : Nat) (x : ChanSt) : (s.setChan c x).switch = s.switch := rfl
@[simp] theorem State.setChan_route (s : State) (c : Nat) (x : ChanSt) : (s.setChan c x).route = s.route := rfl
@[simp] theorem State.setChan_fns (s : State) (c : Nat) (x : ChanSt) : (s.setChan c x).fns = s.fns := rfl
@[simp] theorem State.setChan_wq (s : State) (c : Nat) (x : ChanSt) : (s.setChan c x).wq = s.wq := rfl
@[simp] theorem State.setChan_doms (s : State) (c : Nat) (x : ChanSt) : (s.setChan c x).doms = s.doms := rfl
@[simp] theorem State.setChan_coll (s : State) (c : Nat) (x : ChanSt) : (s.setChan c x).coll = s.coll := rfl
@[simp] theorem State.setChan_xl (s : State) (c : Nat) (x : ChanSt) : (s.setChan c x).xl = s.xl := rfl
@[simp] theorem State.setChan_atts (s : State) (c : Nat) (x : ChanSt) : (s.setChan c x).atts = s.atts := rfl
@[simp] theorem State.setChan_hostCfg (s : State) (c : Nat) (x : ChanSt) : (s.setChan c x).hostCfg = s.hostCfg := rfl
@[simp] theorem State.setChan_fmBg (s : State) (c : Nat) (x : ChanSt) : (s.setChan c x).fmBg = s.fmBg := rfl
@[simp] theorem State.setChan_pool (s : State) (c : Nat) (x : ChanSt) : (s.setChan c x).pool = s.pool := rfl
@[simp] theorem State.setChan_mesh (s : State) (c : Nat) (x : ChanSt) : (s.setChan c x).mesh = s.mesh := rfl
@[simp] theorem State.setChan_police (s : State) (c : Nat) (x : ChanSt) : (s.setChan c x).police = s.police := rfl
@[simp] theorem State.setChan_gz (s : State) (c : Nat) (x : ChanSt) : (s.setChan c x).gz = s.gz := rfl
@[simp] theorem State.setChan_events (s : State) (c : Nat) (x : ChanSt) : (s.setChan c x).events = s.events := rfl
@[simp] theorem State.setChan_mg (s : State) (c : Nat) (x : ChanSt) : (s.setChan c x).mg = s.mg := rfl
@[simp] theorem State.setChan_flask (s : State) (c : Nat) (x : ChanSt) : (s.setChan c x).flask = s.flask := rfl
@[simp] theorem State.setChan_boot (s : State) (c : Nat) (x : ChanSt) : (s.setChan c x).boot = s.boot := rfl
@[simp] theorem State.setChan_err (s : State) (c : Nat) (x : ChanSt) : (s.setChan c x).err = s.err := rfl
@[simp] theorem State.setChan_out (s : State) (c : Nat) (x : ChanSt) : (s.setChan c x).out = s.out := rfl
@[simp] theorem State.setChan_free (s : State) (c : Nat) (x : ChanSt) : (s.setChan c x).free = s.free := rfl
@[simp] theorem State.setChan_pending (s : State) (c : Nat) (x : ChanSt) : (s.setChan c x).pending = s.pending := rfl

/-! ### Reading a field after a write -/

@[simp] theorem State.rd_wr_same (s : State) (b : Nat) (f : Field) (v : Nat) : (s.wr b f v).rd b f = v % 2 ^ f.width := by
  simp [State.rd]

theorem State.rd_wr_other (s : State) (b c : Nat) (f g : Field) (v : Nat) (h : g.key c ≠ f.key b) :
    (s.wr b f v).rd c g = s.rd c g := by
  simp [State.rd, look_put_other _ _ _ _ h]

theorem State.look_wr_other (s : State) (b : Nat) (f : Field) (v k : Nat) (h : k ≠ f.key b) :
    look (s.wr b f v).regs k = look s.regs k := by
  simp [look_put_other _ _ _ _ h]

/-- Two fields at different words or bits of one window have different keys. -/
theorem Field.key_ne (b : Nat) (f g : Field) (h : (g.off, g.lo) ≠ (f.off, f.lo)) (hf : f.lo < 32) (hg : g.lo < 32) :
    g.key b ≠ f.key b := by
  intro e
  apply h
  simp only [Field.key] at e
  have : g.lo = f.lo := by omega
  have : g.off = f.off := by omega
  simp [*]

@[simp] theorem State.rd_emit (s : State) (e : Emit) (b : Nat) (f : Field) : (s.emit e).rd b f = s.rd b f := rfl
@[simp] theorem State.rd_spend (s : State) (b : Nat) (f : Field) : s.spend.rd b f = s.rd b f := rfl
@[simp] theorem State.rd_setFn (s : State) (n : Nat) (x : FnSt) (b : Nat) (f : Field) : (s.setFn n x).rd b f = s.rd b f := rfl
@[simp] theorem State.rd_setPort (s : State) (n : Nat) (x : PortSt) (b : Nat) (f : Field) : (s.setPort n x).rd b f = s.rd b f := rfl
@[simp] theorem State.rd_setAtt (s : State) (n : Nat) (x : AttSt) (b : Nat) (f : Field) : (s.setAtt n x).rd b f = s.rd b f := rfl
@[simp] theorem State.rd_setMg (s : State) (x : MgmtSt) (b : Nat) (f : Field) : (s.setMg x).rd b f = s.rd b f := rfl
@[simp] theorem State.rd_setGz (s : State) (x : GzSt) (b : Nat) (f : Field) : (s.setGz x).rd b f = s.rd b f := rfl

/-- Clearing a list of fields: each field named is 0 afterwards, every other field is as it was. -/
theorem State.look_clearAll (s : State) (b : Nat) (fs : List Field) (k : Nat) :
    look (s.clearAll b fs).regs k = if k ∈ fs.map (fun f => f.key b) then some 0 else look s.regs k := by
  induction fs generalizing s with
  | nil => simp [State.clearAll]
  | cons f fs ih =>
    have e : s.clearAll b (f :: fs) = (s.wr b f 0).clearAll b fs := rfl
    rw [e, ih]
    by_cases h : k ∈ fs.map (fun f => f.key b)
    · simp [h]
    · by_cases h' : k = f.key b
      · subst h'; simp [h]
      · simp [h, h', look_put_other _ _ _ _ h']

/-- Clearing fields touches nothing but registers. -/
theorem State.clearAll_regs_only (s : State) (b : Nat) (fs : List Field) :
    { s.clearAll b fs with regs := s.regs } = s := by
  induction fs generalizing s with
  | nil => rfl
  | cons f fs ih =>
    have e := ih (s.wr b f 0)
    have e' : s.clearAll b (f :: fs) = (s.wr b f 0).clearAll b fs := rfl
    rw [e']
    generalize (s.wr b f 0).clearAll b fs = t at e ⊢
    cases t
    cases s
    simp only [State.wr, State.mk.injEq] at e ⊢
    simp [e]

end Sys2Proof.Machine
end

