-- ==== Sys2Proof/Laws/Ops.lean ====
section
/-!
SUPPORT. What the shared operations of Machine/Ops.lean can do: counters and violations touch registers only; a fold over a
list keeps what each of its steps keeps.
-/
namespace Sys2Proof.Machine

/-- What every step of a fold keeps, the fold keeps. -/
theorem foldl_keeps {σ β γ : Type} (g : σ → γ) (f : σ → β → σ) (h : ∀ t x, g (f t x) = g t) (l : List β) (s : σ) :
    g (l.foldl f s) = g s := by
  induction l generalizing s with
  | nil => rfl
  | cons x l ih => rw [List.foldl_cons, ih, h]

/-- A relation that is reflexive and transitive and that every step of a fold respects holds over the fold. -/
theorem foldl_rel {σ β : Type} (r : σ → σ → Prop) (hr : ∀ s, r s s) (ht : ∀ a b c, r a b → r b c → r a c)
    (f : σ → β → σ) (h : ∀ t x, r t (f t x)) (l : List β) (s : σ) : r s (l.foldl f s) := by
  induction l generalizing s with
  | nil => exact hr s
  | cons x l ih => exact ht _ _ _ (h s x) (ih _)

theorem RegsOnly.refl (s : State) : RegsOnly s s := rfl

theorem RegsOnly.trans {a b c : State} (h : RegsOnly a b) (k : RegsOnly b c) : RegsOnly a c := by
  cases a; cases b; cases c
  simp only [RegsOnly, State.mk.injEq] at h k ⊢
  simp [h, k]

@[simp] theorem RegsOnly.self (s : State) : RegsOnly s s = True := eq_true rfl

@[simp] theorem RegsOnly.wr (s t : State) (b : Nat) (f : Field) (v : Nat) : RegsOnly s (t.wr b f v) = RegsOnly s t := rfl

@[simp] theorem RegsOnly.wr64 (s t : State) (b : Nat) (lo hi : Field) (v : Nat) :
    RegsOnly s (t.wr64 b lo hi v) = RegsOnly s t := rfl

theorem RegsOnly.ite {s a b : State} {c : Prop} [Decidable c] (ha : RegsOnly s a) (hb : RegsOnly s b) :
    RegsOnly s (if c then a else b) := by
  split <;> assumption

/-- Counting an event touches registers only. -/
theorem countEv_regsOnly (s : State) (u : UnitId) (e : CntEvent) : RegsOnly s (countEv s u e) := by
  unfold countEv
  split
  · rfl
  · refine foldl_rel RegsOnly RegsOnly.refl (fun _ _ _ => RegsOnly.trans) _ ?_ _ _
    intro t i
    split <;> simp

/-- Recording a violation touches registers only. -/
theorem accViol_regsOnly (s : State) (r : Route) (v : Viol) (off : Nat) : RegsOnly s (accViol s r v off) := by
  refine RegsOnly.trans (countEv_regsOnly s .root (CntEvent.plain 0x102 1)) ?_
  simp only [accViol, cnt1]
  exact RegsOnly.ite (by simp) (by simp)

/-- A configuration error touches registers only. -/
theorem configError_regsOnly (s : State) (u : UnitId) : RegsOnly s (configError s u) := by
  refine RegsOnly.trans (countEv_regsOnly s u (CntEvent.plain 0x005 1)) ?_
  simp only [configError, cnt1]
  split <;> simp [State.setEvt]

/-- A guarded write that the device takes acts. -/
theorem guarded_of_takes {s : State} {r : Route} {off : Nat} (act : State → State) (h : Takes s r off) :
    guarded s r off act = act s := by
  simp [guarded, h.1, h.2]

end Sys2Proof.Machine
end

