-- ==== Sys2Proof/Laws/Keeps.lean ====
section
/-!
SUPPORT. What every operation keeps: the queue, the clock, what has been emitted, and the form of the pool's memory. This file has
the relation and its general lemmas; Laws/Keeps1.lean to Laws/Keeps6.lean have one lemma for each operation and each command.
-/
namespace Sys2Proof.Machine

/-- Dropping cells keeps the canonical form. -/
theorem dropKeys_wf (m : List Host.Cell) (p : Nat → Bool) (h : Memory.wf m = true) : Memory.wf (dropKeys m p) = true := by
  induction m with
  | nil => rfl
  | cons c m ih =>
    obtain ⟨a, b⟩ := c
    obtain ⟨h1, h2, h3⟩ := (wf_cons a b m).mp h
    simp only [dropKeys, List.filter_cons]
    split
    · exact (wf_cons _ _ _).mpr ⟨h1, fun x hx => h2 x (List.mem_filter.mp hx).1, ih h3⟩
    · exact ih h3

/-- `t` comes from `s` with the queue and the clock untouched, nothing emitted taken back, and the pool's memory in form if it was. -/
def Keeps (s t : State) : Prop :=
  t.pending = s.pending ∧ t.now = s.now ∧ s.out <:+ t.out ∧ (PoolForm s → PoolForm t)

theorem Keeps.refl (s : State) : Keeps s s := ⟨rfl, rfl, List.suffix_refl _, id⟩

theorem Keeps.trans {a b c : State} (h : Keeps a b) (k : Keeps b c) : Keeps a c :=
  ⟨k.1.trans h.1, k.2.1.trans h.2.1, h.2.2.1.trans k.2.2.1, fun x => k.2.2.2 (h.2.2.2 x)⟩

/-- A state that agrees with one that keeps. -/
theorem Keeps.same {s₀ s t : State} (h : Keeps s₀ s) (a : t.pending = s.pending) (b : t.now = s.now) (c : t.out = s.out)
    (d : t.pool.mem = s.pool.mem) : Keeps s₀ t :=
  ⟨a.trans h.1, b.trans h.2.1, c ▸ h.2.2.1, fun x => by unfold PoolForm; rw [d]; exact h.2.2.2 x⟩

theorem Keeps.emit {s₀ s : State} (h : Keeps s₀ s) (e : Emit) : Keeps s₀ (s.emit e) :=
  ⟨h.1, h.2.1, h.2.2.1.trans (List.suffix_cons _ _), h.2.2.2⟩

/-- A record update that touches neither the queue, the clock, what was emitted nor the pool's memory. -/
theorem Keeps.upd {s₀ s : State} {pace : PaceSt} {regs : AMap Nat} {setup : SetupSt} {ports : AMap PortSt} {tbOffers : List Int}
    {switch : SwitchSt} {route : RouteSt} {tp : TransSt} {fns : AMap FnSt} {wq : QueueSt} {doms : AMap DomSt} {coll : CollSt} {xl :
    CompassSt} {atts : AMap AttSt} {hostCfg : AMap Nat} {fmBg : Option FmBg} {pool : PoolSt} {mesh : MeshSt} {police : PoliceSt} {gz
    : GzSt} {events : EvStream} {mg : MgmtSt} {flask : FlaskSt} {boot : BootSt} {err : ErrSt} {free : Nat}
    (h : Keeps s₀ s) (hm : pool.mem = s.pool.mem) :
    Keeps s₀ ⟨s.now, pace, regs, setup, ports, tbOffers, switch, route, tp, fns, wq, doms, coll, xl, atts, hostCfg, fmBg, pool,
    mesh, police, gz, events, mg, flask, boot, err, s.out, free, s.pending⟩ :=
  Keeps.same h rfl rfl rfl hm

/-- Every state that the option may hold keeps. -/
def KeepsO (s₀ : State) (o : Option State) : Prop := ∀ t, o = some t → Keeps s₀ t

theorem KeepsO.ofNone (s₀ : State) : KeepsO s₀ none := fun _ h => nomatch h

theorem KeepsO.ofSome {s₀ s : State} (h : Keeps s₀ s) : KeepsO s₀ (some s) := fun _ e => Option.some.inj e ▸ h

theorem Keeps.getD {s₀ s : State} {o : Option State} (ho : KeepsO s₀ o) (h : Keeps s₀ s) : Keeps s₀ (o.getD s) := by
  cases o with
  | none => exact h
  | some t => exact ho t rfl

theorem KeepsO.map {α : Type} {s₀ : State} {f : α → State} (o : Option α) (h : ∀ x, Keeps s₀ (f x)) : KeepsO s₀ (o.map f) := by
  intro t e
  cases o with
  | none => nomatch e
  | some x => exact Option.some.inj e ▸ h x

/-- What holds of both branches holds of the choice. -/
theorem ite_of {α : Sort _} (P : α → Prop) {c : Prop} [Decidable c] {a b : α} (ha : P a) (hb : P b) : P (if c then a else b) := by
  split <;> assumption

theorem dite_of {α : Sort _} (P : α → Prop) {c : Prop} [Decidable c] {a : c → α} {b : ¬c → α} (ha : ∀ h, P (a h))
    (hb : ∀ h, P (b h)) : P (dite c a b) := by
  split
  · exact ha _
  · exact hb _

theorem Keeps.foldl {α : Type} {s₀ s : State} {f : State → α → State} {l : List α} (h : Keeps s₀ s)
    (k : ∀ t x, Keeps s₀ t → Keeps s₀ (f t x)) : Keeps s₀ (l.foldl f s) := by
  induction l generalizing s with
  | nil => exact h
  | cons x l ih => exact ih (k s x h)

theorem Keeps.foldlSnd {α β : Type} {s₀ : State} {p : β × State} {f : β × State → α → β × State} {l : List α} (h : Keeps s₀ p.2)
    (k : ∀ t x, Keeps s₀ t.2 → Keeps s₀ (f t x).2) : Keeps s₀ (l.foldl f p).2 := by
  induction l generalizing p with
  | nil => exact h
  | cons x l ih => exact ih (k p x h)

theorem Keeps.ofPair {α : Type} {s₀ s : State} {p : α × State} {a : α} (h : Keeps s₀ p.2) (e : p = (a, s)) : Keeps s₀ s := by
  rw [e] at h; exact h

theorem Keeps.ofNext {s₀ s : State} {o : Host.Outcome State Fault Refusal} (h : Ends o (Keeps s₀)) (e : o = .next s) : Keeps s₀ s := by
  obtain ⟨t, ht, k⟩ := h
  rw [e] at ht
  exact (Host.Outcome.next.inj ht) ▸ k

theorem Ends.next {s₀ s : State} (h : Keeps s₀ s) : Ends (.next s) (Keeps s₀) := ⟨s, rfl, h⟩

theorem Keeps.mkPair {α : Type} {s₀ s : State} {a : α} (h : Keeps s₀ s) : Keeps s₀ (a, s).2 := h

theorem KeepsO.at {s₀ s : State} {o : Option State} (h : KeepsO s₀ o) (e : o = some s) : Keeps s₀ s := h s e

/-- A component of a pair that is known by an equation. -/
theorem Keeps.ofEq {α : Type} {s₀ : State} {p q : α} (π : α → State) (h : Keeps s₀ (π p)) (e : p = q) : Keeps s₀ (π q) := e ▸ h

theorem Keeps.foldlAt {α β : Type} {s₀ : State} {p : β} {f : β → α → β} {l : List α} (π : β → State) (h : Keeps s₀ (π p))
    (k : ∀ t x, Keeps s₀ (π t) → Keeps s₀ (π (f t x))) : Keeps s₀ (π (l.foldl f p)) := by
  induction l generalizing p with
  | nil => exact h
  | cons x l ih => exact ih (k p x h)

/-- Only the sanitised slices of the pool differ. -/
theorem poolSan_keeps {s₀ s : State} (h : Keeps s₀ s) (x : AMap (List Nat)) : Keeps s₀ { s with pool := { s.pool with san := x } } :=
  Keeps.same h rfl rfl rfl rfl

end Sys2Proof.Machine
end

