-- ==== Sys2Proof/Laws/Keeps1.lean ====
section
/-!
SUPPORT. What each operation and each command of these files of Machine/ keeps: Ops.lean, Memory.lean, CompassOps.lean, MeshOps.lean, TrailOps.lean, QueueOps.lean, Setup.lean, Police.lean, SwitchOps.lean, RoutingOps.lean, ChanOps.lean, MatchOps.lean, TransportOps.lean.
One lemma for each: an operation on a state that keeps what a state s₀ had (Keeps of Laws/Keeps.lean: the queue, the clock, what was
emitted, the form of the pool's memory) gives one that keeps it, and a command on such a state answers a next state that keeps it.
-/
namespace Sys2Proof.Machine

/-! ### Machine/Ops.lean -/

theorem State.wr_keeps {s₀ : State} (s : State) (b : Nat) (f : Field) (v : Nat) (h_s : Keeps s₀ s) : Keeps s₀ (s.wr b f v) := by
  unfold State.wr
  refine Keeps.upd ?_ rfl
  exact h_s

theorem State.wri_keeps {s₀ : State} (s : State) (b : Nat) (f : Field) (i : Nat) (v : Nat) (h_s : Keeps s₀ s) : Keeps s₀ (s.wri b f i v) := by
  unfold State.wri
  apply State.wr_keeps
  exact h_s

theorem State.add_keeps {s₀ : State} (s : State) (b : Nat) (f : Field) (d : Nat) (h_s : Keeps s₀ s) : Keeps s₀ (s.add b f d) := by
  unfold State.add
  apply State.wr_keeps
  exact h_s

theorem State.bump_keeps {s₀ : State} (s : State) (b : Nat) (f : Field) (h_s : Keeps s₀ s) : Keeps s₀ (s.bump b f) := by
  unfold State.bump
  apply State.add_keeps
  exact h_s

theorem State.bumpi_keeps {s₀ : State} (s : State) (b : Nat) (f : Field) (i : Nat) (h_s : Keeps s₀ s) : Keeps s₀ (s.bumpi b f i) := by
  unfold State.bumpi
  apply State.bump_keeps
  exact h_s

theorem State.setEvt_keeps {s₀ : State} (s : State) (b : Nat) (f : Field) (i : Nat) (h_s : Keeps s₀ s) : Keeps s₀ (s.setEvt b f i) := by
  unfold State.setEvt
  apply State.wr_keeps
  exact h_s

theorem State.clearAll_keeps {s₀ : State} (s : State) (b : Nat) (fs : List Field) (h_s : Keeps s₀ s) : Keeps s₀ (s.clearAll b fs) := by
  unfold State.clearAll
  refine Keeps.foldl ?_ ?_
  · exact h_s
  · intro y1 y2 y3
    apply State.wr_keeps
    exact y3

theorem State.clearArr_keeps {s₀ : State} (s : State) (b : Nat) (f : Field) (n : Nat) (h_s : Keeps s₀ s) : Keeps s₀ (s.clearArr b f n) := by
  unfold State.clearArr
  refine Keeps.foldl ?_ ?_
  · exact h_s
  · intro y1 y2 y3
    apply State.wri_keeps
    exact y3

theorem State.wr64_keeps {s₀ : State} (s : State) (b : Nat) (lo : Field) (hi : Field) (v : Nat) (h_s : Keeps s₀ s) : Keeps s₀ (s.wr64 b lo hi v) := by
  unfold State.wr64
  apply State.wr_keeps
  apply State.wr_keeps
  exact h_s

theorem State.emit_keeps {s₀ : State} (s : State) (e : Emit) (h : Keeps s₀ s) : Keeps s₀ (s.emit e) := h.emit e

theorem State.spend_keeps {s₀ : State} (s : State) (h_s : Keeps s₀ s) : Keeps s₀ s.spend := by
  unfold State.spend
  refine Keeps.upd ?_ rfl
  exact h_s

theorem State.setFn_keeps {s₀ : State} (s : State) (f : Nat) (x : FnSt) (h_s : Keeps s₀ s) : Keeps s₀ (s.setFn f x) := by
  unfold State.setFn
  refine Keeps.upd ?_ rfl
  exact h_s

theorem msixWrite_keeps {s₀ : State} (s : State) (f : Nat) (v : Nat) (h_s : Keeps s₀ s) : Keeps s₀ (msixWrite s f v) := by
  unfold msixWrite
  apply State.emit_keeps
  exact h_s

theorem sendMsix_keeps {s₀ : State} (s : State) (f : Nat) (v : Nat) (h_s : Keeps s₀ s) : Keeps s₀ (sendMsix s f v) := by
  unfold sendMsix
  refine ite_of (Keeps s₀) ?_ ?_
  · apply msixWrite_keeps
    exact h_s
  · refine ite_of (Keeps s₀) ?_ ?_
    · apply State.wri_keeps
      exact h_s
    · exact h_s

theorem msixRelease_keeps {s₀ : State} (s : State) (f : Nat) (v : Nat) (h_s : Keeps s₀ s) : Keeps s₀ (msixRelease s f v) := by
  unfold msixRelease
  refine ite_of (Keeps s₀) ?_ ?_
  · apply msixWrite_keeps
    apply State.wri_keeps
    exact h_s
  · exact h_s

theorem msixReleaseAll_keeps {s₀ : State} (s : State) (f : Nat) (h_s : Keeps s₀ s) : Keeps s₀ (msixReleaseAll s f) := by
  unfold msixReleaseAll
  refine Keeps.foldl ?_ ?_
  · exact h_s
  · intro y1 y2 y3
    apply msixRelease_keeps
    exact y3

theorem eqFire_keeps {s₀ : State} (s : State) (f : Nat) (h_s : Keeps s₀ s) : Keeps s₀ (eqFire s f) := by
  unfold eqFire
  refine ite_of (Keeps s₀) ?_ ?_
  · apply sendMsix_keeps
    apply State.setFn_keeps
    exact h_s
  · exact h_s

theorem raiseEvent_keeps {s₀ : State} (s : State) (f : Nat) (code : Nat) (detail : List Nat) (h_s : Keeps s₀ s) : Keeps s₀ (raiseEvent s f code detail) := by
  unfold raiseEvent
  extract_lets +onlyGivenNames v1
  clear_value v1
  extract_lets +onlyGivenNames v2
  clear_value v2
  refine ite_of (Keeps s₀) ?_ ?_
  · extract_lets +onlyGivenNames v3
    clear_value v3
    refine ite_of (Keeps s₀) ?_ ?_
    · apply State.setFn_keeps
      exact h_s
    · apply State.bump_keeps
      apply State.setFn_keeps
      exact h_s
  · exact h_s

theorem streamEvent_keeps {s₀ : State} (s : State) (code : Nat) (detail : List Nat) (h_s : Keeps s₀ s) : Keeps s₀ (streamEvent s code detail) := by
  unfold streamEvent
  extract_lets +onlyGivenNames v1
  clear_value v1
  refine ite_of (Keeps s₀) ?_ ?_
  · refine Keeps.upd ?_ rfl
    exact h_s
  · apply State.bump_keeps
    refine Keeps.upd ?_ rfl
    exact h_s

theorem deviceEvent_keeps {s₀ : State} (s : State) (code : Nat) (detail : List Nat) (h_s : Keeps s₀ s) : Keeps s₀ (deviceEvent s code detail) := by
  unfold deviceEvent
  refine Keeps.foldl ?_ ?_
  · apply streamEvent_keeps
    exact h_s
  · intro y1 y2 y3
    apply raiseEvent_keeps
    exact y3

theorem countEv_keeps {s₀ : State} (s : State) (u : UnitId) (e : CntEvent) (h_s : Keeps s₀ s) : Keeps s₀ (countEv s u e) := by
  unfold countEv
  split
  · rename_i x1 x2
    exact h_s
  · rename_i x3 x4 x5
    extract_lets +onlyGivenNames v6
    clear_value v6
    refine Keeps.foldl ?_ ?_
    · exact h_s
    · intro y7 y8 y9
      refine ite_of (Keeps s₀) ?_ ?_
      · apply State.wr64_keeps
        exact y9
      · exact y9

theorem cnt1_keeps {s₀ : State} (s : State) (u : UnitId) (code : Nat) (h_s : Keeps s₀ s) : Keeps s₀ (cnt1 s u code) := by
  unfold cnt1
  apply countEv_keeps
  exact h_s

theorem cntCM_keeps {s₀ : State} (s : State) (u : UnitId) (code : Nat) (n : Nat) (cls : Option Nat) (master : Option Nat) (h_s : Keeps s₀ s) : Keeps s₀ (cntCM s u code n cls master) := by
  unfold cntCM
  apply countEv_keeps
  exact h_s

theorem cntPMA_keeps {s₀ : State} (s : State) (u : UnitId) (code : Nat) (n : Nat) (priv : Option Bool) (master : Option Nat) (addr : Option Nat) (h_s : Keeps s₀ s) : Keeps s₀ (cntPMA s u code n priv master addr) := by
  unfold cntPMA
  apply countEv_keeps
  exact h_s

theorem accViol_keeps {s₀ : State} (s : State) (r : Route) (v : Viol) (off : Nat) (h_s : Keeps s₀ s) : Keeps s₀ (accViol s r v off) := by
  unfold accViol
  extract_lets +onlyGivenNames v1
  have h2 : Keeps s₀ v1 := by
    subst v1
    apply cnt1_keeps
    exact h_s
  clear_value v1
  refine ite_of (Keeps s₀) ?_ ?_
  · apply State.wr_keeps
    exact h2
  · apply State.wr_keeps
    apply State.wr_keeps
    apply State.wr_keeps
    apply State.wr_keeps
    apply State.wr_keeps
    exact h2

theorem configError_keeps {s₀ : State} (s : State) (u : UnitId) (h_s : Keeps s₀ s) : Keeps s₀ (configError s u) := by
  unfold configError
  extract_lets +onlyGivenNames v1
  have h2 : Keeps s₀ v1 := by
    subst v1
    apply cnt1_keeps
    exact h_s
  clear_value v1
  split
  · rename_i x3 x4 x5 x6
    apply State.setEvt_keeps
    exact h2
  · rename_i x7 x8
    exact h2

theorem markFenced_keeps {s₀ : State} (s : State) (u : UnitId) (h_s : Keeps s₀ s) : Keeps s₀ (markFenced s u) := by
  unfold markFenced
  refine ite_of (Keeps s₀) ?_ ?_
  · refine Keeps.upd ?_ rfl
    exact h_s
  · refine Keeps.upd ?_ rfl
    exact h_s

theorem errSummary_keeps {s₀ : State} (s : State) (e : ErrRec) (h_s : Keeps s₀ s) : Keeps s₀ (errSummary s e) := by
  unfold errSummary
  extract_lets +onlyGivenNames v1
  clear_value v1
  refine Keeps.upd ?_ rfl
  exact h_s

theorem errLogWrite_keeps {s₀ : State} (s : State) (e : ErrRec) (h_s : Keeps s₀ s) : Keeps s₀ (errLogWrite s e) := by
  unfold errLogWrite
  extract_lets +onlyGivenNames v1
  clear_value v1
  refine ite_of (Keeps s₀) ?_ ?_
  · extract_lets +onlyGivenNames v2
    clear_value v2
    extract_lets +onlyGivenNames v3
    clear_value v3
    extract_lets +onlyGivenNames v4
    have h5 : Keeps s₀ v4 := by
      subst v4
      apply State.wr_keeps
      apply State.wr_keeps
      apply State.wr_keeps
      apply State.wr_keeps
      apply State.wr_keeps
      exact h_s
    clear_value v4
    extract_lets +onlyGivenNames v6
    have h7 : Keeps s₀ v6 := by
      subst v6
      apply State.wr64_keeps
      apply State.wr64_keeps
      apply State.wr_keeps
      exact h5
    clear_value v6
    apply State.wr_keeps
    apply State.wr_keeps
    apply State.wr_keeps
    exact h7
  · apply State.bump_keeps
    exact h_s

theorem errReport_keeps {s₀ : State} (s : State) (e : ErrRec) (h_s : Keeps s₀ s) : Keeps s₀ (errReport s e) := by
  unfold errReport
  extract_lets +onlyGivenNames v1
  clear_value v1
  extract_lets +onlyGivenNames v2
  have h3 : Keeps s₀ v2 := by
    subst v2
    apply streamEvent_keeps
    exact h_s
  clear_value v2
  refine ite_of (Keeps s₀) ?_ ?_
  · refine Keeps.foldl ?_ ?_
    · refine Keeps.upd ?_ rfl
      exact h3
    · intro y4 y5 y6
      apply raiseEvent_keeps
      exact y6
  · exact h3

theorem recordError_keeps {s₀ : State} (s : State) (e : ErrRec) (h_s : Keeps s₀ s) : Keeps s₀ (recordError s e) := by
  unfold recordError
  extract_lets +onlyGivenNames v1
  have h2 : Keeps s₀ v1 := by
    subst v1
    apply errSummary_keeps
    exact h_s
  clear_value v1
  extract_lets +onlyGivenNames v3
  have h4 : Keeps s₀ v3 := by
    subst v3
    refine ite_of (Keeps s₀) ?_ ?_
    · apply cnt1_keeps
      exact h2
    · refine ite_of (Keeps s₀) ?_ ?_
      · apply cnt1_keeps
        exact h2
      · exact h2
  clear_value v3
  extract_lets +onlyGivenNames v5
  have h6 : Keeps s₀ v5 := by
    subst v5
    refine ite_of (Keeps s₀) ?_ ?_
    · apply State.bump_keeps
      exact h4
    · refine ite_of (Keeps s₀) ?_ ?_
      · apply State.bump_keeps
        exact h4
      · exact h4
  clear_value v5
  refine ite_of (Keeps s₀) ?_ ?_
  · exact h6
  · extract_lets +onlyGivenNames v7
    clear_value v7
    extract_lets +onlyGivenNames v8
    have h9 : Keeps s₀ v8 := by
      subst v8
      refine ite_of (Keeps s₀) ?_ ?_
      · refine Keeps.upd ?_ rfl
        exact h6
      · exact h6
    clear_value v8
    apply errReport_keeps
    apply errLogWrite_keeps
    exact h9


/-! ### Machine/Memory.lean -/

theorem State.setExt_keeps {s₀ : State} (s : State) (e : Nat) (x : ExtSt) (h_s : Keeps s₀ s) : Keeps s₀ (s.setExt e x) := by
  unfold State.setExt
  refine Keeps.upd ?_ rfl
  exact h_s

theorem setPoison_keeps {s₀ : State} (s : State) (line : Nat) (b : Bool) (h_s : Keeps s₀ s) : Keeps s₀ (setPoison s line b) := by
  unfold setPoison
  extract_lets +onlyGivenNames v1
  have h2 : Keeps s₀ v1 := by
    subst v1
    refine ite_of (Keeps s₀) ?_ ?_
    · apply State.bump_keeps
      exact h_s
    · exact h_s
  clear_value v1
  refine Keeps.upd ?_ rfl
  exact h2

theorem writeLine_keeps {s₀ : State} (s : State) (line off : Nat) (b : List Byte) (bad : Bool) (h : Keeps s₀ s) :
    Keeps s₀ (writeLine s line off b bad) := by
  unfold writeLine
  have k : Keeps s₀ { s with pool := { s.pool with mem := memWrite s.pool.mem (64 * line + off) b } } :=
    ⟨h.1, h.2.1, h.2.2.1, fun x => memWrite_wf _ _ _ (h.2.2.2 x)⟩
  exact ite_of (Keeps s₀) (setPoison_keeps _ _ _ k) (ite_of (Keeps s₀) (setPoison_keeps _ _ _ k) k)

theorem dropCopies_keeps {s₀ : State} (s : State) (line : Nat) (h_s : Keeps s₀ s) : Keeps s₀ (dropCopies s line) := by
  unfold dropCopies
  refine Keeps.upd ?_ rfl
  exact h_s

theorem mapLine_keeps {s₀ : State} (s : State) (f : Nat) (a : Nat) (k : WatchSt → WatchSt) (h_s : Keeps s₀ s) : Keeps s₀ (mapLine s f a k) := by
  unfold mapLine
  refine Keeps.upd ?_ rfl
  exact h_s

theorem lineCount_keeps {s₀ : State} (s : State) (f : Nat) (a : Nat) (c : Field) (h_s : Keeps s₀ s) : Keeps s₀ (lineCount s f a c) := by
  unfold lineCount
  split
  · rename_i x1 x2 x3 x4 x5
    apply State.bump_keeps
    exact h_s
  · rename_i x6 x7
    exact h_s

theorem lineTaken_keeps {s₀ : State} (s : State) (w : WatchSt) (h_s : Keeps s₀ s) : Keeps s₀ (lineTaken s w) := by
  unfold lineTaken
  refine ite_of (Keeps s₀) ?_ ?_
  · apply mapLine_keeps
    exact h_s
  · apply lineCount_keeps
    apply mapLine_keeps
    exact h_s

theorem poolLineTaken_keeps {s₀ : State} (s : State) (line : Nat) (c : Option Nat) (h_s : Keeps s₀ s) : Keeps s₀ (poolLineTaken s line c) := by
  unfold poolLineTaken
  refine Keeps.foldl ?_ ?_
  · exact h_s
  · intro y1 y2 y3
    apply lineTaken_keeps
    exact y3

theorem directWrite_keeps {s₀ : State} (s : State) (da : Nat) (b : List Byte) (bad : Bool) (h_s : Keeps s₀ s) : Keeps s₀ (directWrite s da b bad) := by
  unfold directWrite
  refine Keeps.foldl ?_ ?_
  · exact h_s
  · intro y1 y2 y3
    dsimp -zeta only
    extract_lets +onlyGivenNames v4
    clear_value v4
    extract_lets +onlyGivenNames v5
    clear_value v5
    extract_lets +onlyGivenNames v6
    have h7 : Keeps s₀ v6 := by
      subst v6
      refine Keeps.foldl ?_ ?_
      · apply writeLine_keeps
        apply dropCopies_keeps
        apply poolLineTaken_keeps
        exact y3
      · intro y8 y9 y10
        apply State.emit_keeps
        exact y10
    clear_value v6
    apply writeLine_keeps
    exact h7

theorem poolEvent_keeps {s₀ : State} (s : State) (i : Nat) (h_s : Keeps s₀ s) : Keeps s₀ (poolEvent s i) := by
  unfold poolEvent
  apply State.setEvt_keeps
  exact h_s

theorem elogWrite_keeps {s₀ : State} (s : State) (kind : Nat) (source : Nat) (stack : Nat) (slice : Nat) (da : Nat) (h_s : Keeps s₀ s) : Keeps s₀ (elogWrite s kind source stack slice da) := by
  unfold elogWrite
  extract_lets +onlyGivenNames v1
  clear_value v1
  refine ite_of (Keeps s₀) ?_ ?_
  · extract_lets +onlyGivenNames v2
    clear_value v2
    extract_lets +onlyGivenNames v3
    have h4 : Keeps s₀ v3 := by
      subst v3
      apply State.wr64_keeps
      apply State.wr_keeps
      apply State.wr_keeps
      apply State.wr_keeps
      apply State.wr_keeps
      exact h_s
    clear_value v3
    apply poolEvent_keeps
    apply State.wr_keeps
    apply State.wr_keeps
    exact h4
  · apply poolEvent_keeps
    apply State.bump_keeps
    exact h_s


/-! ### Machine/CompassOps.lean -/

theorem evictOne_keeps {s₀ : State} {α : Type} (s : State) (l : List α) (cap : Nat) (h : Keeps s₀ s) :
    Keeps s₀ (evictOne s l cap).2 := by
  unfold evictOne
  exact ite_of (fun (p : _ × State) => Keeps s₀ p.2) h (State.spend_keeps _ h)

theorem keyFail_keeps {s₀ : State} (s : State) (h_s : Keeps s₀ s) : Keeps s₀ (keyFail s).snd := by
  unfold keyFail
  refine Keeps.mkPair ?_
  apply State.bump_keeps
  exact h_s

theorem keyCheck_keeps {s₀ : State} (s : State) (f : Nat) (key : Nat) (a : Nat) (n : Nat) (right : Nat) (h_s : Keeps s₀ s) : Keeps s₀ (keyCheck s f key a n right).snd := by
  unfold keyCheck
  extract_lets +onlyGivenNames v1
  clear_value v1
  refine ite_of (fun (p : _ × State) => Keeps s₀ p.2) ?_ ?_
  · exact h_s
  · refine ite_of (fun (p : _ × State) => Keeps s₀ p.2) ?_ ?_
    · apply keyFail_keeps
      exact h_s
    · split
      · rename_i x2 x3 x4
        refine ite_of (fun (p : _ × State) => Keeps s₀ p.2) ?_ ?_
        · refine ite_of (fun (p : _ × State) => Keeps s₀ p.2) ?_ ?_
          · refine ite_of (fun (p : _ × State) => Keeps s₀ p.2) ?_ ?_
            · exact h_s
            · apply keyFail_keeps
              exact h_s
          · refine ite_of (fun (p : _ × State) => Keeps s₀ p.2) ?_ ?_
            · exact h_s
            · apply keyFail_keeps
              exact h_s
        · apply keyFail_keeps
          exact h_s
      · rename_i x5 x6
        refine ite_of (fun (p : _ × State) => Keeps s₀ p.2) ?_ ?_
        · apply keyFail_keeps
          refine Keeps.upd ?_ rfl
          exact h_s
        · refine ite_of (fun (p : _ × State) => Keeps s₀ p.2) ?_ ?_
          · exact h_s
          · extract_lets +onlyGivenNames v7
            have h8 : Keeps s₀ v7 := by
              subst v7
              apply cntCM_keeps
              apply State.bump_keeps
              exact h_s
            clear_value v7
            refine Keeps.mkPair ?_
            refine Keeps.upd ?_ rfl
            exact h8

theorem recordFault_keeps {s₀ : State} (s : State) (f : Nat) (va : Nat) (x : XAccess) (w : WalkFault) (h_s : Keeps s₀ s) : Keeps s₀ (recordFault s f va x w) := by
  unfold recordFault
  extract_lets +onlyGivenNames v1
  have h2 : Keeps s₀ v1 := by
    subst v1
    apply cntCM_keeps
    apply State.bump_keeps
    exact h_s
  clear_value v1
  extract_lets +onlyGivenNames v3
  clear_value v3
  extract_lets +onlyGivenNames v4
  extract_lets +onlyGivenNames v5
  clear_value v5
  extract_lets +onlyGivenNames v6
  clear_value v6
  extract_lets +onlyGivenNames v7
  have h8 : Keeps s₀ v7 := by
    subst v7
    apply State.wr_keeps
    apply State.wr_keeps
    apply State.wr_keeps
    apply State.wr_keeps
    apply State.wr_keeps
    apply State.wr_keeps
    apply State.wr_keeps
    apply State.wr_keeps
    apply State.wr_keeps
    exact h2
  clear_value v7
  extract_lets +onlyGivenNames v9
  have h10 : Keeps s₀ v9 := by
    subst v9
    apply State.wr64_keeps
    apply State.wr64_keeps
    apply State.wr_keeps
    apply State.wr_keeps
    exact h8
  clear_value v9
  extract_lets +onlyGivenNames v11
  have h12 : Keeps s₀ v11 := by
    subst v11
    refine ite_of (Keeps s₀) ?_ ?_
    · apply State.setEvt_keeps
      apply State.wr_keeps
      apply State.wr64_keeps
      exact h10
    · apply State.setEvt_keeps
      apply State.bump_keeps
      exact h2
  clear_value v11
  apply raiseEvent_keeps
  exact h12

theorem tlbAdd_keeps {s₀ : State} (s : State) (e : TlbEnt) (h_s : Keeps s₀ s) : Keeps s₀ (tlbAdd s e) := by
  unfold tlbAdd
  extract_lets +onlyGivenNames v1
  have h2 : Keeps s₀ v1.snd := by
    subst v1
    apply evictOne_keeps
    exact h_s
  clear_value v1
  extract_lets +onlyGivenNames v3
  have h4 : Keeps s₀ v3 := by
    subst v3
    exact h2
  clear_value v3
  refine Keeps.upd ?_ rfl
  exact h4

theorem tlbServed_keeps {s₀ : State} (s : State) (f : Nat) (a : Nat) (e : TlbEnt) (h_s : Keeps s₀ s) : Keeps s₀ (tlbServed s f a e) := by
  unfold tlbServed
  refine ite_of (Keeps s₀) ?_ ?_
  · refine Keeps.upd ?_ rfl
    exact h_s
  · apply cntPMA_keeps
    apply State.bump_keeps
    exact h_s

theorem tlbMissed_keeps {s₀ : State} (s : State) (f : Nat) (a : Nat) (h_s : Keeps s₀ s) : Keeps s₀ (tlbMissed s f a) := by
  unfold tlbMissed
  apply cntPMA_keeps
  apply State.bump_keeps
  exact h_s

theorem walkBegun_keeps {s₀ : State} (s : State) (f : Nat) (a : Nat) (x : XAccess) (h_s : Keeps s₀ s) : Keeps s₀ (walkBegun s f a x) := by
  unfold walkBegun
  refine Keeps.upd ?_ rfl
  exact h_s

theorem walkDropped_keeps {s₀ : State} (s : State) (w : Walk) (h_s : Keeps s₀ s) : Keeps s₀ (walkDropped s w) := by
  unfold walkDropped
  refine Keeps.upd ?_ rfl
  exact h_s

theorem walkJoined_keeps {s₀ : State} (s : State) (w : Walk) (h_s : Keeps s₀ s) : Keeps s₀ (walkJoined s w) := by
  unfold walkJoined
  refine Keeps.upd ?_ rfl
  exact h_s

theorem xlateFind_keeps {s₀ : State} (s : State) (f : Nat) (x : XAccess) (a : Nat) (h_s : Keeps s₀ s) : Keeps s₀ (xlateFind s f x a).snd := by
  unfold xlateFind
  split
  · rename_i x1 x2 x3
    refine Keeps.mkPair ?_
    apply tlbServed_keeps
    exact h_s
  · rename_i x4 x5
    split
    · rename_i x6 x7 x8
      split
      · rename_i x9 x10 x11
        refine Keeps.mkPair ?_
        apply walkDropped_keeps
        exact h_s
      · rename_i x12 x13
        refine Keeps.mkPair ?_
        refine ite_of (Keeps s₀) ?_ ?_
        · apply walkJoined_keeps
          apply tlbMissed_keeps
          exact h_s
        · exact h_s
    · rename_i x14 x15
      split
      · rename_i x16 x17 x18
        refine Keeps.mkPair ?_
        apply recordFault_keeps
        apply tlbMissed_keeps
        exact h_s
      · rename_i x19 x20 x21
        refine Keeps.mkPair ?_
        apply tlbAdd_keeps
        apply tlbMissed_keeps
        exact h_s
      · rename_i x22 x23 x24 x25
        refine Keeps.mkPair ?_
        apply walkBegun_keeps
        apply tlbMissed_keeps
        exact h_s

theorem xlateGo_keeps {s₀ : State} (s : State) (f : Nat) (x : XAccess) (k a n : Nat) (l : List Chunk) (h_s : Keeps s₀ s) :
    Keeps s₀ (xlateGo s f x k a n l).2 := by
  induction k generalizing s a n l with
  | zero => exact h_s
  | succ k ih =>
    rw [xlateGo]
    refine ite_of (fun p : XRes × State => Keeps s₀ p.2) h_s ?_
    have h := xlateFind_keeps s f x a h_s
    split
    · rename_i e
      rw [e] at h
      exact h
    · rename_i e
      rw [e] at h
      extract_lets m
      split
      · exact ih _ _ _ _ h
      · refine Keeps.mkPair ?_
        apply recordFault_keeps
        exact h

theorem xlate_keeps {s₀ : State} (s : State) (f : Nat) (a : Nat) (n : Nat) (x : XAccess) (h_s : Keeps s₀ s) : Keeps s₀ (xlate s f a n x).snd := by
  unfold xlate
  refine ite_of (fun (p : _ × State) => Keeps s₀ p.2) ?_ ?_
  · exact h_s
  · apply xlateGo_keeps
    exact h_s

theorem scatterBy_keeps {s₀ : State} (out : Nat → Nat → List Byte → Emit) (s : State) (l : List Chunk) (b : List Byte) (bad : Bool) (h_s : Keeps s₀ s) : Keeps s₀ (scatterBy out s l b bad) := by
  unfold scatterBy
  refine Keeps.foldlAt (fun (p : (State) × _) => p.1) ?_ ?_
  · exact h_s
  · intro y1 y2 y3
    split
    · rename_i x4 x5
      dsimp -zeta only
      apply directWrite_keeps
      exact y3
    · rename_i x6 x7 x8 x9
      dsimp -zeta only
      apply State.emit_keeps
      exact y3
    · rename_i x10 x11 x12 x13
      dsimp -zeta only
      apply State.emit_keeps
      exact y3
    · rename_i x14 x15
      exact y3

theorem scatter_keeps {s₀ : State} (s : State) (l : List Chunk) (b : List Byte) (bad : Bool) (h_s : Keeps s₀ s) : Keeps s₀ (scatter s l b bad) := by
  unfold scatter
  apply scatterBy_keeps
  exact h_s

theorem scatterPayload_keeps {s₀ : State} (s : State) (l : List Chunk) (b : List Byte) (h_s : Keeps s₀ s) : Keeps s₀ (scatterPayload s l b) := by
  unfold scatterPayload
  apply scatterBy_keeps
  exact h_s

theorem askOutside_keeps {s₀ : State} (s : State) (l : List Chunk) (h_s : Keeps s₀ s) : Keeps s₀ (askOutside s l) := by
  unfold askOutside
  refine Keeps.foldl ?_ ?_
  · exact h_s
  · intro y1 y2 y3
    split
    · rename_i x4 x5 x6 x7
      apply State.emit_keeps
      exact y3
    · rename_i x8 x9 x10 x11
      apply State.emit_keeps
      exact y3
    · rename_i x12 x13 x14
      exact y3

theorem fragChunks_keeps {s₀ : State} (s : State) (f right : Nat) (x : Nat → XAccess) (k : List Frag) (acc : List Chunk) (h_s : Keeps s₀ s) : Keeps s₀ (fragChunks s f right x k acc).2 := by
  induction k generalizing s acc with
  | nil =>
    unfold fragChunks
    exact h_s
  | cons g l ih =>
    unfold fragChunks
    refine ite_of (fun (p : _ × State) => Keeps s₀ p.2) ?_ ?_
    · apply ih
      exact h_s
    · split
      · rename_i x1 x2 x3
        have h4 : Keeps s₀ x2 := by
          refine Keeps.ofPair ?_ x3
          apply keyCheck_keeps
          exact h_s
        exact h4
      · rename_i x5 x6 x7
        have h8 : Keeps s₀ x6 := by
          refine Keeps.ofPair ?_ x7
          apply keyCheck_keeps
          exact h_s
        exact h8
      · rename_i x9 x10 x11 x12
        have h13 : Keeps s₀ x11 := by
          refine Keeps.ofPair ?_ x12
          apply keyCheck_keeps
          exact h_s
        split
        · rename_i x14 x15 x16 x17
          have h18 : Keeps s₀ x16 := by
            refine Keeps.ofPair ?_ x17
            apply xlate_keeps
            exact h13
          apply ih
          exact h18
        · rename_i x19 x20 x21
          have h22 : Keeps s₀ x20 := by
            refine Keeps.ofPair ?_ x21
            apply xlate_keeps
            exact h13
          exact h22
        · rename_i x23 x24 x25
          have h26 : Keeps s₀ x24 := by
            refine Keeps.ofPair ?_ x25
            apply xlate_keeps
            exact h13
          exact h26

theorem specDrop_keeps {s₀ : State} (s : State) (f : Nat) (h_s : Keeps s₀ s) : Keeps s₀ (specDrop s f) := by
  unfold specDrop
  apply cntCM_keeps
  apply State.bump_keeps
  exact h_s

theorem specXlate_keeps {s₀ : State} (s : State) (f : Nat) (x : XAccess) (a : Nat) (h_s : Keeps s₀ s) : Keeps s₀ (specXlate s f x a) := by
  unfold specXlate
  refine ite_of (Keeps s₀) ?_ ?_
  · exact h_s
  · split
    · rename_i x1 x2 x3
      apply specDrop_keeps
      exact h_s
    · rename_i x4 x5 x6
      refine ite_of (Keeps s₀) ?_ ?_
      · apply specDrop_keeps
        exact h_s
      · apply tlbAdd_keeps
        exact h_s
    · rename_i x7 x8 x9 x10
      refine Keeps.upd ?_ rfl
      exact h_s

theorem specAhead_keeps {s₀ : State} (s : State) (f : Nat) (right : Nat) (x : Nat → XAccess) (l : List Frag) (off : Nat) (h_s : Keeps s₀ s) : Keeps s₀ (specAhead s f right x l off) := by
  unfold specAhead
  split
  · rename_i x1 x2
    exact h_s
  · rename_i x3 x4 x5
    split
    · rename_i x6 x7
      exact h_s
    · rename_i x8 x9 x10
      extract_lets +onlyGivenNames v11
      have h12 : Keeps s₀ v11 := by
        subst v11
        apply specXlate_keeps
        exact h_s
      clear_value v11
      split
      · rename_i x13 x14 x15
        extract_lets +onlyGivenNames v16
        clear_value v16
        refine ite_of (Keeps s₀) ?_ ?_
        · apply specXlate_keeps
          exact h12
        · exact h12
      · rename_i x17 x18
        exact h12

theorem keyStore_keeps {s₀ : State} (s : State) (i : Nat) (k : KeyEnt) (h_s : Keeps s₀ s) : Keeps s₀ (keyStore s i k) := by
  unfold keyStore
  extract_lets +onlyGivenNames v1
  have h2 : Keeps s₀ v1 := by
    subst v1
    apply directWrite_keeps
    exact h_s
  clear_value v1
  refine Keeps.upd ?_ rfl
  exact h2

theorem freeKeys_keeps {s₀ : State} (s : State) (f : Nat) (h_s : Keeps s₀ s) : Keeps s₀ (freeKeys s f) := by
  unfold freeKeys
  refine Keeps.foldl ?_ ?_
  · exact h_s
  · intro y1 y2 y3
    extract_lets +onlyGivenNames v4
    clear_value v4
    split
    · rename_i x5 x6 x7
      refine ite_of (Keeps s₀) ?_ ?_
      · apply keyStore_keeps
        exact y3
      · exact y3
    · rename_i x8 x9
      exact y3


/-! ### Machine/MeshOps.lean -/

theorem State.setSlice_keeps {s₀ : State} (s : State) (i : Nat) (x : SliceSt) (h_s : Keeps s₀ s) : Keeps s₀ (s.setSlice i x) := by
  unfold State.setSlice
  refine Keeps.upd ?_ rfl
  exact h_s

theorem showHeld_keeps {s₀ : State} (s : State) (i : Nat) (h_s : Keeps s₀ s) : Keeps s₀ (showHeld s i) := by
  unfold showHeld
  apply State.wr_keeps
  exact h_s

theorem askHome_keeps {s₀ : State} (s : State) (q : HomeReq) (h_s : Keeps s₀ s) : Keeps s₀ (askHome s q) := by
  unfold askHome
  extract_lets +onlyGivenNames v1
  clear_value v1
  extract_lets +onlyGivenNames v2
  clear_value v2
  extract_lets +onlyGivenNames v3
  clear_value v3
  apply showHeld_keeps
  apply State.setSlice_keeps
  exact h_s

theorem meshWrite_keeps {s₀ : State} (s : State) (who : Asker) (group : Nat) (l : List Chunk) (b : List Byte) (bad : Bool) (h_s : Keeps s₀ s) : Keeps s₀ (meshWrite s who group l b bad).snd := by
  unfold meshWrite
  extract_lets +onlyGivenNames v1
  clear_value v1
  extract_lets +onlyGivenNames v2
  have h3 : Keeps s₀ v2 := by
    subst v2
    refine Keeps.foldl ?_ ?_
    · exact h_s
    · intro y4 y5 y6
      dsimp -zeta only
      apply askHome_keeps
      exact y6
  clear_value v2
  extract_lets +onlyGivenNames v7
  have h8 : Keeps s₀ v7 := by
    subst v7
    refine Keeps.foldlAt (fun (p : (State) × _) => p.1) ?_ ?_
    · exact h3
    · intro y9 y10 y11
      split
      · rename_i x12 x13 x14 x15
        dsimp -zeta only
        apply State.emit_keeps
        exact y11
      · rename_i x16 x17 x18 x19
        dsimp -zeta only
        apply State.emit_keeps
        exact y11
      · rename_i x20 x21 x22
        exact y11
  clear_value v7
  exact h8

theorem meshRead_keeps {s₀ : State} (s : State) (who : Nat → Asker) (group : Nat) (l : List Chunk) (h_s : Keeps s₀ s) : Keeps s₀ (meshRead s who group l).snd := by
  unfold meshRead
  extract_lets +onlyGivenNames v1
  clear_value v1
  extract_lets +onlyGivenNames v2
  clear_value v2
  extract_lets +onlyGivenNames v3
  clear_value v3
  extract_lets +onlyGivenNames v4
  have h5 : Keeps s₀ v4 := by
    subst v4
    refine Keeps.upd ?_ rfl
    exact h_s
  clear_value v4
  extract_lets +onlyGivenNames v6
  have h7 : Keeps s₀ v6 := by
    subst v6
    refine Keeps.foldl ?_ ?_
    · exact h5
    · intro y8 y9 y10
      dsimp -zeta only
      apply askHome_keeps
      exact y10
  clear_value v6
  refine Keeps.mkPair ?_
  apply askOutside_keeps
  exact h7

theorem readAnswered_keeps {s₀ : State} (s : State) (id : Nat) (q : HomeReq) (line : List Byte) (bad : Bool) (h_s : Keeps s₀ s) : Keeps s₀ (readAnswered s id q line bad) := by
  unfold readAnswered
  split
  · rename_i x1 x2
    exact h_s
  · rename_i x3 x4 x5
    extract_lets +onlyGivenNames v6
    clear_value v6
    refine Keeps.upd ?_ rfl
    exact h_s

theorem endRead_keeps {s₀ : State} (s : State) (id : Nat) (h_s : Keeps s₀ s) : Keeps s₀ (endRead s id) := by
  unfold endRead
  refine Keeps.upd ?_ rfl
  exact h_s

theorem State.setAtt_keeps {s₀ : State} (s : State) (a : Nat) (x : AttSt) (h_s : Keeps s₀ s) : Keeps s₀ (s.setAtt a x) := by
  unfold State.setAtt
  refine Keeps.upd ?_ rfl
  exact h_s

theorem streamPut_keeps {s₀ : State} (s : State) (st : Nat) (r : StreamRec) (h_s : Keeps s₀ s) : Keeps s₀ (streamPut s st r) := by
  unfold streamPut
  refine ite_of (Keeps s₀) ?_ ?_
  · refine Keeps.upd ?_ rfl
    exact h_s
  · exact h_s

theorem passMessage_keeps {s₀ : State} (s : State) (a : Nat) (m : DownMsg) (h_s : Keeps s₀ s) : Keeps s₀ (passMessage s a m) := by
  unfold passMessage
  refine ite_of (Keeps s₀) ?_ ?_
  · extract_lets +onlyGivenNames v1
    clear_value v1
    apply streamPut_keeps
    refine Keeps.upd ?_ rfl
    exact h_s
  · apply State.emit_keeps
    exact h_s

theorem pumpMsgs_keeps {s₀ : State} (s : State) (a : Nat) (h_s : Keeps s₀ s) : Keeps s₀ (pumpMsgs s a) := by
  unfold pumpMsgs
  extract_lets +onlyGivenNames v1
  clear_value v1
  extract_lets +onlyGivenNames v2
  clear_value v2
  refine Keeps.foldl ?_ ?_
  · apply State.setAtt_keeps
    exact h_s
  · intro y3 y4 y5
    apply passMessage_keeps
    exact y5

theorem devWritten_keeps {s₀ : State} (s : State) (a : Nat) (id : Nat) (h_s : Keeps s₀ s) : Keeps s₀ (devWritten s a id) := by
  unfold devWritten
  extract_lets +onlyGivenNames v1
  clear_value v1
  apply pumpMsgs_keeps
  apply State.setAtt_keeps
  exact h_s

theorem devReadDone_keeps {s₀ : State} (s : State) (a : Nat) (id : Nat) (h_s : Keeps s₀ s) : Keeps s₀ (devReadDone s a id) := by
  unfold devReadDone
  extract_lets +onlyGivenNames v1
  clear_value v1
  split
  · rename_i x2 x3 x4 x5 x6 x7
    refine ite_of (Keeps s₀) ?_ ?_
    · apply State.emit_keeps
      apply endRead_keeps
      apply State.setAtt_keeps
      exact h_s
    · exact h_s
  · rename_i x8 x9 x10
    exact h_s

theorem devPool_keeps {s₀ : State} (s : State) (a : Nat) (da : Nat) (q : DevReq) (h_s : Keeps s₀ s) : Keeps s₀ (devPool s a da q) := by
  unfold devPool
  extract_lets +onlyGivenNames v1
  clear_value v1
  extract_lets +onlyGivenNames v2
  have h3 : ∀ (t : State) (k : HomeKind) (id : Nat) (bytes : List Byte) (bad : Bool) (n : Nat), Keeps s₀ t → Keeps s₀ (v2 t k id bytes bad n) := by
    subst v2
    intro y4 y5 y6 y7 y8 y9 y10
    dsimp -zeta only
    refine Keeps.foldl ?_ ?_
    · exact y10
    · intro y11 y12 y13
      apply askHome_keeps
      exact y13
  clear_value v2
  split
  · rename_i x14 x15 x16
    extract_lets +onlyGivenNames v17
    clear_value v17
    apply h3
    apply State.setAtt_keeps
    exact h_s
  · rename_i x18 x19 x20
    extract_lets +onlyGivenNames v21
    clear_value v21
    extract_lets +onlyGivenNames v22
    clear_value v22
    extract_lets +onlyGivenNames v23
    have h24 : Keeps s₀ v23 := by
      subst v23
      refine Keeps.upd ?_ rfl
      exact h_s
    clear_value v23
    apply h3
    apply State.setAtt_keeps
    exact h24


/-! ### Machine/TrailOps.lean -/

theorem State.setGz_keeps {s₀ : State} (s : State) (x : GzSt) (h_s : Keeps s₀ s) : Keeps s₀ (s.setGz x) := by
  unfold State.setGz
  refine Keeps.upd ?_ rfl
  exact h_s

theorem trailReload_keeps {s₀ : State} (s : State) (e : Nat) (h_s : Keeps s₀ s) : Keeps s₀ (trailReload s e) := by
  unfold trailReload
  extract_lets +onlyGivenNames v1
  clear_value v1
  apply State.setGz_keeps
  apply State.spend_keeps
  exact h_s

theorem trailStart_keeps {s₀ : State} (s : State) (x : TrailItem) (h_s : Keeps s₀ s) : Keeps s₀ (trailStart s x) := by
  unfold trailStart
  extract_lets +onlyGivenNames v1
  clear_value v1
  refine ite_of (Keeps s₀) ?_ ?_
  · exact h_s
  · extract_lets +onlyGivenNames v2
    clear_value v2
    refine ite_of (Keeps s₀) ?_ ?_
    · apply State.setGz_keeps
      exact h_s
    · extract_lets +onlyGivenNames v3
      have h4 : Keeps s₀ v3 := by
        subst v3
        apply trailReload_keeps
        exact h_s
      clear_value v3
      refine ite_of (Keeps s₀) ?_ ?_
      · apply State.bump_keeps
        exact h4
      · apply State.setGz_keeps
        exact h4

theorem trailUpd_keeps {s₀ : State} (s : State) (k : TrailKey) (g : TrailItem → TrailItem) (h_s : Keeps s₀ s) : Keeps s₀ (trailUpd s k g) := by
  unfold trailUpd
  apply State.setGz_keeps
  exact h_s

theorem trailMark_keeps {s₀ : State} (s : State) (k : TrailKey) (i : Nat) (h_s : Keeps s₀ s) : Keeps s₀ (trailMark s k i) := by
  unfold trailMark
  apply trailUpd_keeps
  exact h_s

theorem trailDa_keeps {s₀ : State} (s : State) (k : TrailKey) (h_s : Keeps s₀ s) : Keeps s₀ (trailDa s k) := by
  unfold trailDa
  apply trailUpd_keeps
  exact h_s

theorem trailEnd_keeps {s₀ : State} (s : State) (k : TrailKey) (status : Nat) (h_s : Keeps s₀ s) : Keeps s₀ (trailEnd s k status) := by
  unfold trailEnd
  apply trailUpd_keeps
  exact h_s

theorem trailEndAll_keeps {s₀ : State} (s : State) (p : TrailItem → Bool) (status : Nat) (h_s : Keeps s₀ s) : Keeps s₀ (trailEndAll s p status) := by
  unfold trailEndAll
  refine Keeps.foldl ?_ ?_
  · exact h_s
  · intro y1 y2 y3
    apply trailEnd_keeps
    exact y3

theorem trailAcked_keeps {s₀ : State} (s : State) (ch : Nat) (rcvNxt : Nat) (score : List Nat) (h_s : Keeps s₀ s) : Keeps s₀ (trailAcked s ch rcvNxt score) := by
  unfold trailAcked
  apply trailEndAll_keeps
  exact h_s

theorem trailChanEnds_keeps {s₀ : State} (s : State) (ch : Nat) (h_s : Keeps s₀ s) : Keeps s₀ (trailChanEnds s ch) := by
  unfold trailChanEnds
  apply trailEndAll_keeps
  exact h_s

theorem trailLost_keeps {s₀ : State} (s : State) (n : Nat) (h_s : Keeps s₀ s) : Keeps s₀ (trailLost s n) := by
  unfold trailLost
  refine ite_of (Keeps s₀) ?_ ?_
  · exact h_s
  · apply State.setEvt_keeps
    apply State.add_keeps
    exact h_s


/-! ### Machine/QueueOps.lean -/

theorem State.setWq_keeps {s₀ : State} (s : State) (g : Nat) (x : WqSt) (h_s : Keeps s₀ s) : Keeps s₀ (s.setWq g x) := by
  unfold State.setWq
  refine Keeps.upd ?_ rfl
  exact h_s

theorem State.setCq_keeps {s₀ : State} (s : State) (g : Nat) (x : CqSt) (h_s : Keeps s₀ s) : Keeps s₀ (s.setCq g x) := by
  unfold State.setCq
  refine Keeps.upd ?_ rfl
  exact h_s

theorem cqReserve_keeps {s₀ : State} (s : State) (g : Nat) (n : Nat) (h_s : Keeps s₀ s) : Keeps s₀ (cqReserve s g n) := by
  unfold cqReserve
  split
  · rename_i x1 x2 x3
    apply State.setCq_keeps
    exact h_s
  · rename_i x4 x5
    exact h_s

theorem cqRelease_keeps {s₀ : State} (s : State) (g : Nat) (n : Nat) (h_s : Keeps s₀ s) : Keeps s₀ (cqRelease s g n) := by
  unfold cqRelease
  split
  · rename_i x1 x2 x3
    apply State.setCq_keeps
    exact h_s
  · rename_i x4 x5
    exact h_s

theorem cqDrain_keeps {s₀ : State} (s : State) (g k : Nat) (h_s : Keeps s₀ s) : Keeps s₀ (cqDrain s g k) := by
  induction k generalizing s with
  | zero =>
    unfold cqDrain
    exact h_s
  | succ n ih =>
    unfold cqDrain
    split
    · rename_i x1 x2
      exact h_s
    · rename_i x3 x4 x5
      split
      · rename_i x6 x7
        exact h_s
      · rename_i x8 x9 x10 x11 x12
        extract_lets +onlyGivenNames v13
        clear_value v13
        split
        · rename_i x14 x15 x16
          have h17 : Keeps s₀ x15 := by
            refine Keeps.ofPair ?_ x16
            apply xlate_keeps
            exact h_s
          exact h17
        · rename_i x18 x19 x20 x21
          have h22 : Keeps s₀ x20 := by
            refine Keeps.ofPair ?_ x21
            apply xlate_keeps
            exact h_s
          extract_lets +onlyGivenNames v23
          have h24 : Keeps s₀ v23 := by
            subst v23
            apply scatter_keeps
            exact h22
          clear_value v23
          apply ih
          apply State.wri_keeps
          apply State.setCq_keeps
          exact h24
        · rename_i x25 x26 x27
          have h28 : Keeps s₀ x26 := by
            refine Keeps.ofPair ?_ x27
            apply xlate_keeps
            exact h_s
          extract_lets +onlyGivenNames v29
          have h30 : Keeps s₀ v29 := by
            subst v29
            apply State.wri_keeps
            apply State.setCq_keeps
            exact h28
          clear_value v29
          extract_lets +onlyGivenNames v31
          have h32 : Keeps s₀ v31 := by
            subst v31
            apply raiseEvent_keeps
            apply State.bump_keeps
            exact h30
          clear_value v31
          apply ih
          exact h32

theorem cqPut_keeps {s₀ : State} (s : State) (g : Nat) (e : Nat) (b : List Byte) (h_s : Keeps s₀ s) : Keeps s₀ (cqPut s g e b) := by
  unfold cqPut
  split
  · rename_i x1 x2
    exact h_s
  · rename_i x3 x4 x5
    apply cqDrain_keeps
    apply State.setCq_keeps
    exact h_s

theorem drainAll_keeps {s₀ : State} (s : State) (h_s : Keeps s₀ s) : Keeps s₀ (drainAll s) := by
  unfold drainAll
  refine Keeps.foldl ?_ ?_
  · exact h_s
  · intro y1 y2 y3
    refine ite_of (Keeps s₀) ?_ ?_
    · exact y3
    · apply cqDrain_keeps
      exact y3

theorem eqDrain_keeps {s₀ : State} (s : State) (f k : Nat) (h_s : Keeps s₀ s) : Keeps s₀ (eqDrain s f k) := by
  induction k generalizing s with
  | zero =>
    unfold eqDrain
    exact h_s
  | succ n ih =>
    unfold eqDrain
    split
    · rename_i x1 x2
      exact h_s
    · rename_i x3 x4 x5 x6
      extract_lets +onlyGivenNames v7
      clear_value v7
      extract_lets +onlyGivenNames v8
      clear_value v8
      extract_lets +onlyGivenNames v9
      clear_value v9
      extract_lets +onlyGivenNames v10
      have h11 : ∀ (t : State), Keeps s₀ t → Keeps s₀ (v10 t) := by
        subst v10
        intro y12 y13
        dsimp -zeta only
        apply State.setFn_keeps
        exact y13
      clear_value v10
      split
      · rename_i x14 x15 x16
        have h17 : Keeps s₀ x15 := by
          refine Keeps.ofPair ?_ x16
          apply xlate_keeps
          exact h_s
        exact h17
      · rename_i x18 x19 x20 x21
        have h22 : Keeps s₀ x20 := by
          refine Keeps.ofPair ?_ x21
          apply xlate_keeps
          exact h_s
        apply ih
        apply eqFire_keeps
        apply State.wr_keeps
        apply h11
        apply scatter_keeps
        exact h22
      · rename_i x23 x24 x25
        have h26 : Keeps s₀ x24 := by
          refine Keeps.ofPair ?_ x25
          apply xlate_keeps
          exact h_s
        apply ih
        apply State.bump_keeps
        apply h11
        exact h26

theorem eqDrainAll_keeps {s₀ : State} (s : State) (h_s : Keeps s₀ s) : Keeps s₀ (eqDrainAll s) := by
  unfold eqDrainAll
  refine Keeps.foldl ?_ ?_
  · exact h_s
  · intro y1 y2 y3
    refine ite_of (Keeps s₀) ?_ ?_
    · exact y3
    · apply eqDrain_keeps
      exact y3

theorem completeWq_keeps {s₀ : State} (s : State) (g : Nat) (index : Nat) (userId : Nat) (signal : Bool) (opcode : Nat) (status : Nat) (channel : Nat) (gen : Nat) (w6 : Nat) (h_s : Keeps s₀ s) : Keeps s₀ (completeWq s g index userId signal opcode status channel gen w6) := by
  unfold completeWq
  split
  · rename_i x1 x2
    exact h_s
  · rename_i x3 x4 x5
    extract_lets +onlyGivenNames v6
    clear_value v6
    extract_lets +onlyGivenNames v7
    clear_value v7
    extract_lets +onlyGivenNames v8
    have h9 : Keeps s₀ v8 := by
      subst v8
      apply trailUpd_keeps
      exact h_s
    clear_value v8
    extract_lets +onlyGivenNames v10
    have h11 : Keeps s₀ v10 := by
      subst v10
      refine ite_of (Keeps s₀) ?_ ?_
      · apply trailUpd_keeps
        exact h9
      · apply trailEnd_keeps
        exact h9
    clear_value v10
    extract_lets +onlyGivenNames v12
    have h13 : Keeps s₀ v12 := by
      subst v12
      refine ite_of (Keeps s₀) ?_ ?_
      · exact h11
      · apply State.bump_keeps
        exact h11
    clear_value v12
    refine ite_of (Keeps s₀) ?_ ?_
    · apply cqRelease_keeps
      exact h13
    · apply cqPut_keeps
      exact h13


/-! ### Machine/Setup.lean -/

theorem answerRead_keeps {s₀ : State} (s : State) (r : Route) (off : Nat) (v : Nat) (h_s : Keeps s₀ s) : Keeps s₀ (answerRead s r off v) := by
  unfold answerRead
  apply State.emit_keeps
  exact h_s

theorem clearRc_keeps {s₀ : State} (s : State) (u : UnitId) (w : Nat) (h_s : Keeps s₀ s) : Keeps s₀ (clearRc s u w) := by
  unfold clearRc
  refine Keeps.upd ?_ rfl
  exact h_s

theorem busRead_keeps {s₀ : State} (s : State) (r : Route) (off : Nat) (h_s : Keeps s₀ s) : Keeps s₀ (busRead s r off).snd := by
  unfold busRead
  extract_lets +onlyGivenNames v1
  clear_value v1
  extract_lets +onlyGivenNames v2
  clear_value v2
  extract_lets +onlyGivenNames v3
  clear_value v3
  extract_lets +onlyGivenNames v4
  clear_value v4
  refine ite_of (fun (p : _ × State) => Keeps s₀ p.2) ?_ ?_
  · exact h_s
  · refine ite_of (fun (p : _ × State) => Keeps s₀ p.2) ?_ ?_
    · refine Keeps.mkPair ?_
      refine Keeps.upd ?_ rfl
      exact h_s
    · refine ite_of (fun (p : _ × State) => Keeps s₀ p.2) ?_ ?_
      · split
        · rename_i x5 x6 x7
          refine ite_of (fun (p : _ × State) => Keeps s₀ p.2) ?_ ?_
          · refine Keeps.mkPair ?_
            refine Keeps.upd ?_ rfl
            exact h_s
          · exact h_s
        · rename_i x8 x9
          exact h_s
      · refine Keeps.mkPair ?_
        refine ite_of (Keeps s₀) ?_ ?_
        · apply clearRc_keeps
          exact h_s
        · exact h_s

theorem readOne_keeps {s₀ : State} (s : State) (r : Route) (o : Nat) (h_s : Keeps s₀ s) : Keeps s₀ (readOne s r o) := by
  unfold readOne
  extract_lets +onlyGivenNames v1
  have h2 : Keeps s₀ v1.snd := by
    subst v1
    apply busRead_keeps
    exact h_s
  clear_value v1
  apply answerRead_keeps
  exact h2

theorem readSetup_keeps {s₀ : State} (s : State) (r : Route) (off : Nat) (n : Nat) (h_s : Keeps s₀ s) : Keeps s₀ (readSetup s r off n) := by
  unfold readSetup
  refine Keeps.foldl ?_ ?_
  · exact h_s
  · intro y1 y2 y3
    apply readOne_keeps
    exact y3

theorem execReg64LowRead_keeps {s₀ : State} (r : Route) (off : BitVec 28) (s : State) (h_s : Keeps s₀ s) : Ends (execReg64LowRead r off s) (Keeps s₀) := by
  unfold execReg64LowRead
  refine Ends.next ?_
  apply readOne_keeps
  exact h_s

theorem execReg64HighRead_keeps {s₀ : State} (r : Route) (off : BitVec 28) (s : State) (h_s : Keeps s₀ s) : Ends (execReg64HighRead r off s) (Keeps s₀) := by
  unfold execReg64HighRead
  refine Ends.next ?_
  apply readOne_keeps
  exact h_s

theorem refreshPending_keeps {s₀ : State} (s : State) (h_s : Keeps s₀ s) : Keeps s₀ (refreshPending s) := by
  unfold refreshPending
  apply State.wr_keeps
  exact h_s

theorem stageValue_keeps {s₀ : State} (s : State) (u : UnitId) (key : Nat) (v : Nat) (h_s : Keeps s₀ s) : Keeps s₀ (stageValue s u key v) := by
  unfold stageValue
  refine ite_of (Keeps s₀) ?_ ?_
  · refine Keeps.upd ?_ rfl
    exact h_s
  · extract_lets +onlyGivenNames v1
    clear_value v1
    extract_lets +onlyGivenNames v2
    have h3 : Keeps s₀ v2 := by
      subst v2
      refine Keeps.upd ?_ rfl
      exact h_s
    clear_value v2
    apply State.wr_keeps
    exact h3

theorem strobeGroup_keeps {s₀ : State} (s : State) (g : Nat) (h_s : Keeps s₀ s) : Keeps s₀ (strobeGroup s g) := by
  unfold strobeGroup
  extract_lets +onlyGivenNames v1
  clear_value v1
  extract_lets +onlyGivenNames v2
  have h3 : Keeps s₀ v2 := by
    subst v2
    apply State.wr_keeps
    exact h_s
  clear_value v2
  refine ite_of (Keeps s₀) ?_ ?_
  · exact h3
  · extract_lets +onlyGivenNames v4
    clear_value v4
    extract_lets +onlyGivenNames v5
    have h6 : Keeps s₀ v5 := by
      subst v5
      refine Keeps.upd ?_ rfl
      exact h3
    clear_value v5
    apply State.wr_keeps
    exact h6

theorem eachGroup_keeps {s₀ : State} (s : State) (r : Route) (addr : Nat) (groups : Nat) (act : State → Nat → State) (h_s : Keeps s₀ s) (h_act : ∀ (a : State) (a_1 : Nat), Keeps s₀ a → Keeps s₀ (act a a_1)) : Keeps s₀ (eachGroup s r addr groups act) := by
  unfold eachGroup
  refine Keeps.foldl ?_ ?_
  · exact h_s
  · intro y1 y2 y3
    refine ite_of (Keeps s₀) ?_ ?_
    · refine ite_of (Keeps s₀) ?_ ?_
      · apply accViol_keeps
        exact y3
      · apply h_act
        exact y3
    · exact y3

theorem discardGroup_keeps {s₀ : State} (s : State) (g : Nat) (h_s : Keeps s₀ s) : Keeps s₀ (discardGroup s g) := by
  unfold discardGroup
  extract_lets +onlyGivenNames v1
  clear_value v1
  extract_lets +onlyGivenNames v2
  have h3 : Keeps s₀ v2 := by
    subst v2
    refine Keeps.upd ?_ rfl
    exact h_s
  clear_value v2
  apply State.wr_keeps
  exact h3

theorem guarded_keeps {s₀ : State} (s : State) (r : Route) (off : Nat) (act : State → State) (h_s : Keeps s₀ s) (h_act : ∀ (a : State), Keeps s₀ a → Keeps s₀ (act a)) : Keeps s₀ (guarded s r off act) := by
  unfold guarded
  refine ite_of (Keeps s₀) ?_ ?_
  · exact h_s
  · split
    · rename_i x1 x2 x3
      apply accViol_keeps
      exact h_s
    · rename_i x4 x5
      apply h_act
      exact h_s

theorem execCmtStrobe_keeps {s₀ : State} (r : Route) (groups : BitVec 32) (s : State) (h_s : Keeps s₀ s) : Ends (execCmtStrobe r groups s) (Keeps s₀) := by
  unfold execCmtStrobe
  refine Ends.next ?_
  apply guarded_keeps
  · exact h_s
  · intro y1 y2
    apply eachGroup_keeps
    · exact y2
    · intro y3 y4 y5
      apply strobeGroup_keeps
      exact y5

theorem execCmtDiscard_keeps {s₀ : State} (r : Route) (groups : BitVec 32) (s : State) (h_s : Keeps s₀ s) : Ends (execCmtDiscard r groups s) (Keeps s₀) := by
  unfold execCmtDiscard
  refine Ends.next ?_
  apply guarded_keeps
  · exact h_s
  · intro y1 y2
    apply eachGroup_keeps
    · exact y2
    · intro y3 y4 y5
      apply discardGroup_keeps
      exact y5

theorem finishGroup_keeps {s₀ : State} (s : State) (g : Nat) (h_s : Keeps s₀ s) : Keeps s₀ (finishGroup s g) := by
  unfold finishGroup
  refine ite_of (Keeps s₀) ?_ ?_
  · exact h_s
  · extract_lets +onlyGivenNames v1
    clear_value v1
    extract_lets +onlyGivenNames v2
    have h3 : Keeps s₀ v2 := by
      subst v2
      refine Keeps.upd ?_ rfl
      exact h_s
    clear_value v2
    extract_lets +onlyGivenNames v4
    have h5 : Keeps s₀ v4 := by
      subst v4
      apply State.wr_keeps
      exact h3
    clear_value v4
    extract_lets +onlyGivenNames v6
    clear_value v6
    extract_lets +onlyGivenNames v7
    clear_value v7
    refine Keeps.foldl ?_ ?_
    · refine Keeps.upd ?_ rfl
      exact h5
    · intro y8 y9 y10
      apply stageValue_keeps
      exact y10

theorem commitDone_keeps {s₀ : State} (s : State) (u : UnitId) (h_s : Keeps s₀ s) : Keeps s₀ (commitDone s u) := by
  unfold commitDone
  apply finishGroup_keeps
  refine Keeps.upd ?_ rfl
  exact h_s

theorem setWinBusy_keeps {s₀ : State} (s : State) (i : Nat) (b : Bool) (h_s : Keeps s₀ s) : Keeps s₀ (setWinBusy s i b) := by
  unfold setWinBusy
  extract_lets +onlyGivenNames v1
  clear_value v1
  apply State.wr64_keeps
  exact h_s

theorem postFp_keeps {s₀ : State} (s : State) (r : Route) (u : UnitId) (off : Nat) (kvs : List (Nat × Nat)) (h_s : Keeps s₀ s) : Keeps s₀ (postFp s r u off kvs) := by
  unfold postFp
  refine ite_of (Keeps s₀) ?_ ?_
  · apply accViol_keeps
    exact h_s
  · extract_lets +onlyGivenNames v1
    have h2 : Keeps s₀ v1 := by
      subst v1
      apply setWinBusy_keeps
      exact h_s
    clear_value v1
    refine Keeps.upd ?_ rfl
    exact h2

theorem dropFp_keeps {s₀ : State} (s : State) (i : Nat) (h_s : Keeps s₀ s) : Keeps s₀ (dropFp s i) := by
  unfold dropFp
  apply setWinBusy_keeps
  refine Keeps.upd ?_ rfl
  exact h_s

theorem execFpWriteAbandon_keeps {s₀ : State} (island : Fin 60) (s : State) (h_s : Keeps s₀ s) : Ends (execFpWriteAbandon island s) (Keeps s₀) := by
  unfold execFpWriteAbandon
  refine ite_of (fun o => Ends o (Keeps s₀)) ?_ ?_
  · refine Ends.next ?_
    apply accViol_keeps
    apply dropFp_keeps
    exact h_s
  · refine Ends.next ?_
    exact h_s


/-! ### Machine/Police.lean -/

theorem setBuckets_keeps {s₀ : State} (s : State) (x : BucketRef) (b : Buckets) (h_s : Keeps s₀ s) : Keeps s₀ (setBuckets s x b) := by
  unfold setBuckets
  extract_lets +onlyGivenNames v1
  clear_value v1
  extract_lets +onlyGivenNames v2
  have h3 : Keeps s₀ v2 := by
    subst v2
    refine Keeps.upd ?_ rfl
    exact h_s
  clear_value v2
  refine ite_of (Keeps s₀) ?_ ?_
  · exact h3
  · apply State.wr_keeps
    apply State.wr_keeps
    exact h3

theorem meterTest_keeps {s₀ : State} (s : State) (m : Nat) (len : Nat) (pre : Nat) (h_s : Keeps s₀ s) : Keeps s₀ (meterTest s m len pre).snd := by
  unfold meterTest
  extract_lets +onlyGivenNames v1
  clear_value v1
  refine ite_of (fun (p : _ × State) => Keeps s₀ p.2) ?_ ?_
  · exact h_s
  · refine ite_of (fun (p : _ × State) => Keeps s₀ p.2) ?_ ?_
    · extract_lets +onlyGivenNames v2
      clear_value v2
      extract_lets +onlyGivenNames v3
      have h4 : Keeps s₀ v3 := by
        subst v3
        apply cntCM_keeps
        apply setBuckets_keeps
        exact h_s
      clear_value v3
      refine Keeps.mkPair ?_
      refine ite_of (Keeps s₀) ?_ ?_
      · apply cntCM_keeps
        exact h4
      · exact h4
    · exact h_s

theorem countColour_keeps {s₀ : State} (s : State) (m : Nat) (colour : Nat) (h_s : Keeps s₀ s) : Keeps s₀ (countColour s m colour) := by
  unfold countColour
  apply State.bump_keeps
  exact h_s

theorem policeDrop_keeps {s₀ : State} (s : State) (m : Nat) (len : Nat) (pre : Nat) (h_s : Keeps s₀ s) : Keeps s₀ (policeDrop s m len pre).snd := by
  unfold policeDrop
  extract_lets +onlyGivenNames v1
  have h2 : Keeps s₀ v1.snd := by
    subst v1
    apply meterTest_keeps
    exact h_s
  clear_value v1
  extract_lets +onlyGivenNames v3
  clear_value v3
  refine ite_of (fun (p : _ × State) => Keeps s₀ p.2) ?_ ?_
  · exact h_s
  · refine ite_of (fun (p : _ × State) => Keeps s₀ p.2) ?_ ?_
    · refine Keeps.mkPair ?_
      apply State.setEvt_keeps
      apply State.bump_keeps
      exact h2
    · refine Keeps.mkPair ?_
      apply countColour_keeps
      exact h2

theorem shaperDebit_keeps {s₀ : State} (s : State) (x : BucketRef) (len : Nat) (h_s : Keeps s₀ s) : Keeps s₀ (shaperDebit s x len) := by
  unfold shaperDebit
  refine ite_of (Keeps s₀) ?_ ?_
  · extract_lets +onlyGivenNames v1
    clear_value v1
    extract_lets +onlyGivenNames v2
    clear_value v2
    apply setBuckets_keeps
    exact h_s
  · exact h_s

theorem shaperWaited_keeps {s₀ : State} (s : State) (i : ShaperId) (h_s : Keeps s₀ s) : Keeps s₀ (shaperWaited s i) := by
  unfold shaperWaited
  extract_lets +onlyGivenNames v1
  clear_value v1
  extract_lets +onlyGivenNames v2
  clear_value v2
  apply cntCM_keeps
  apply State.bump_keeps
  exact h_s

theorem dropStagedEntry_keeps {s₀ : State} (s : State) (x : BucketRef) (h_s : Keeps s₀ s) : Keeps s₀ (dropStagedEntry s x) := by
  unfold dropStagedEntry
  extract_lets +onlyGivenNames v1
  clear_value v1
  extract_lets +onlyGivenNames v2
  clear_value v2
  extract_lets +onlyGivenNames v3
  have h4 : Keeps s₀ v3 := by
    subst v3
    refine Keeps.upd ?_ rfl
    exact h_s
  clear_value v3
  refine ite_of (Keeps s₀) ?_ ?_
  · apply commitDone_keeps
    exact h4
  · exact h4

theorem applyBucket_keeps {s₀ : State} (s : State) (x : BucketRef) (h_s : Keeps s₀ s) : Keeps s₀ (applyBucket s x) := by
  unfold applyBucket
  refine ite_of (Keeps s₀) ?_ ?_
  · extract_lets +onlyGivenNames v1
    clear_value v1
    extract_lets +onlyGivenNames v2
    clear_value v2
    extract_lets +onlyGivenNames v3
    have h4 : Keeps s₀ v3 := by
      subst v3
      refine Keeps.upd ?_ rfl
      exact h_s
    clear_value v3
    extract_lets +onlyGivenNames v5
    clear_value v5
    extract_lets +onlyGivenNames v6
    clear_value v6
    extract_lets +onlyGivenNames v7
    clear_value v7
    apply dropStagedEntry_keeps
    apply setBuckets_keeps
    exact h4
  · apply dropStagedEntry_keeps
    apply configError_keeps
    exact h_s

theorem refillBucket_keeps {s₀ : State} (s : State) (x : BucketRef) (h_s : Keeps s₀ s) : Keeps s₀ (refillBucket s x) := by
  unfold refillBucket
  extract_lets +onlyGivenNames v1
  have h2 : Keeps s₀ v1 := by
    subst v1
    apply setBuckets_keeps
    exact h_s
  clear_value v1
  refine ite_of (Keeps s₀) ?_ ?_
  · apply applyBucket_keeps
    exact h2
  · exact h2

theorem heldAgain_keeps {s₀ : State} (s : State) (m : Nat) (h_s : Keeps s₀ s) : Keeps s₀ (heldAgain s m) := by
  unfold heldAgain
  refine Keeps.upd ?_ rfl
  exact h_s

theorem execMeterRefill_keeps {s₀ : State} (m : Fin 16384) (s : State) (h_s : Keeps s₀ s) : Ends (execMeterRefill m s) (Keeps s₀) := by
  unfold execMeterRefill
  refine Ends.next ?_
  refine ite_of (Keeps s₀) ?_ ?_
  · exact h_s
  · apply heldAgain_keeps
    apply refillBucket_keeps
    exact h_s

theorem execShaperRefill_keeps {s₀ : State} (x : ShaperId) (s : State) (h_s : Keeps s₀ s) : Ends (execShaperRefill x s) (Keeps s₀) := by
  unfold execShaperRefill
  refine Ends.next ?_
  refine ite_of (Keeps s₀) ?_ ?_
  · exact h_s
  · apply refillBucket_keeps
    exact h_s

theorem execMeterCntClr_keeps {s₀ : State} (r : Route) (b : BankId) (s : State) (h_s : Keeps s₀ s) : Ends (execMeterCntClr r b s) (Keeps s₀) := by
  unfold execMeterCntClr
  split
  · rename_i x1
    refine Ends.next ?_
    apply guarded_keeps
    · exact h_s
    · intro y2 y3
      extract_lets +onlyGivenNames v4
      have h5 : Keeps s₀ v4 := by
        subst v4
        apply State.clearAll_keeps
        exact y3
      clear_value v4
      refine Keeps.upd ?_ rfl
      exact h5
  · rename_i x6
    refine Ends.next ?_
    apply guarded_keeps
    · exact h_s
    · intro y7 y8
      refine Keeps.upd ?_ rfl
      exact y8
  · rename_i x9 x10
    refine Ends.next ?_
    apply guarded_keeps
    · exact h_s
    · intro y11 y12
      refine Keeps.foldl ?_ ?_
      · exact y12
      · intro y13 y14 y15
        apply State.wr_keeps
        exact y15


/-! ### Machine/SwitchOps.lean -/

theorem State.setPort_keeps {s₀ : State} (s : State) (n : Nat) (p : PortSt) (h_s : Keeps s₀ s) : Keeps s₀ (s.setPort n p) := by
  unfold State.setPort
  refine Keeps.upd ?_ rfl
  exact h_s

theorem flitsLeave_keeps {s₀ : State} (s : State) (p : Nat) (v : Nat) (k : Nat) (h_s : Keeps s₀ s) : Keeps s₀ (flitsLeave s p v k) := by
  unfold flitsLeave
  refine ite_of (Keeps s₀) ?_ ?_
  · apply State.setPort_keeps
    exact h_s
  · exact h_s

theorem setCur_keeps {s₀ : State} (s : State) (k : Nat) (c : SwPkt) (h_s : Keeps s₀ s) : Keeps s₀ (setCur s k c) := by
  unfold setCur
  refine Keeps.upd ?_ rfl
  exact h_s

theorem dropCur_keeps {s₀ : State} (s : State) (k : Nat) (h_s : Keeps s₀ s) : Keeps s₀ (dropCur s k) := by
  unfold dropCur
  refine Keeps.upd ?_ rfl
  exact h_s

theorem inject_keeps {s₀ : State} (s : State) (p : Nat) (pkt : Packet) (h_s : Keeps s₀ s) : Keeps s₀ (inject s p pkt) := by
  unfold inject
  extract_lets +onlyGivenNames v1
  clear_value v1
  refine Keeps.upd ?_ rfl
  exact h_s

theorem outBegin_keeps {s₀ : State} (s : State) (o : Nat) (vc : Nat) (rh : RouteHdr) (kept : RouteHdr) (viaFabric : Bool) (att : Option Nat) (h_s : Keeps s₀ s) : Keeps s₀ (outBegin s o vc rh kept viaFabric att) := by
  unfold outBegin
  refine ite_of (Keeps s₀) ?_ ?_
  · extract_lets +onlyGivenNames v1
    clear_value v1
    apply State.setPort_keeps
    exact h_s
  · refine Keeps.upd ?_ rfl
    exact h_s

theorem salvageReady_keeps {s₀ : State} (s : State) (n : Nat) (h_s : Keeps s₀ s) : Keeps s₀ (salvageReady s n) := by
  unfold salvageReady
  extract_lets +onlyGivenNames v1
  clear_value v1
  extract_lets +onlyGivenNames v2
  clear_value v2
  extract_lets +onlyGivenNames v3
  clear_value v3
  extract_lets +onlyGivenNames v4
  have h5 : Keeps s₀ v4 := by
    subst v4
    apply State.setPort_keeps
    exact h_s
  clear_value v4
  apply State.add_keeps
  apply State.add_keeps
  exact h5

theorem outPush_keeps {s₀ : State} (s : State) (o : Nat) (vc : Nat) (fs : List (BitVec 512)) (tail : Bool) (h_s : Keeps s₀ s) : Keeps s₀ (outPush s o vc fs tail) := by
  unfold outPush
  refine ite_of (Keeps s₀) ?_ ?_
  · extract_lets +onlyGivenNames v1
    have h2 : Keeps s₀ v1 := by
      subst v1
      apply State.setPort_keeps
      exact h_s
    clear_value v1
    refine ite_of (Keeps s₀) ?_ ?_
    · apply salvageReady_keeps
      exact h2
    · exact h2
  · split
    · rename_i x3 x4
      exact h_s
    · rename_i x5 x6 x7
      extract_lets +onlyGivenNames v8
      clear_value v8
      refine ite_of (Keeps s₀) ?_ ?_
      · refine Keeps.upd ?_ rfl
        exact h_s
      · refine Keeps.upd ?_ rfl
        exact h_s

theorem countStomp_keeps {s₀ : State} (s : State) (o : Nat) (vc : Nat) (reason : Nat) (h_s : Keeps s₀ s) : Keeps s₀ (countStomp s o vc reason) := by
  unfold countStomp
  refine ite_of (Keeps s₀) ?_ ?_
  · apply State.emit_keeps
    apply State.bump_keeps
    exact h_s
  · exact h_s

theorem outStomp_keeps {s₀ : State} (s : State) (o : Nat) (vc : Nat) (reason : Nat) (h_s : Keeps s₀ s) : Keeps s₀ (outStomp s o vc reason) := by
  unfold outStomp
  split
  · rename_i x1 x2
    exact h_s
  · rename_i x3 x4 x5 x6
    apply outPush_keeps
    apply countStomp_keeps
    exact h_s

theorem outRemove_keeps {s₀ : State} (s : State) (o : Nat) (vc : Nat) (h_s : Keeps s₀ s) : Keeps s₀ (outRemove s o vc) := by
  unfold outRemove
  refine ite_of (Keeps s₀) ?_ ?_
  · extract_lets +onlyGivenNames v1
    clear_value v1
    split
    · rename_i x2 x3
      exact h_s
    · rename_i x4 x5 x6
      apply State.setPort_keeps
      exact h_s
  · refine Keeps.upd ?_ rfl
    exact h_s

theorem qbump_keeps {s₀ : State} (s : State) (f : Field) (q : Nat) (h_s : Keeps s₀ s) : Keeps s₀ (qbump s f q) := by
  unfold qbump
  apply State.bumpi_keeps
  exact h_s

theorem noteDrops_keeps {s₀ : State} (s : State) (q : Nat) (n : Nat) (h_s : Keeps s₀ s) : Keeps s₀ (noteDrops s q n) := by
  unfold noteDrops
  refine Keeps.upd ?_ rfl
  exact h_s

theorem qdrop_keeps {s₀ : State} (s : State) (f : Field) (q : Nat) (h_s : Keeps s₀ s) : Keeps s₀ (qdrop s f q) := by
  unfold qdrop
  apply noteDrops_keeps
  apply qbump_keeps
  exact h_s

theorem poolRegs_keeps {s₀ : State} (s : State) (q : Nat) (h_s : Keeps s₀ s) : Keeps s₀ (poolRegs s q) := by
  unfold poolRegs
  extract_lets +onlyGivenNames v1
  have h2 : Keeps s₀ v1 := by
    subst v1
    apply State.wri_keeps
    exact h_s
  clear_value v1
  extract_lets +onlyGivenNames v3
  clear_value v3
  extract_lets +onlyGivenNames v4
  have h5 : Keeps s₀ v4 := by
    subst v4
    apply State.wr_keeps
    exact h2
  clear_value v4
  refine ite_of (Keeps s₀) ?_ ?_
  · apply State.wr_keeps
    exact h5
  · exact h5

theorem setQueue_keeps {s₀ : State} (s : State) (q : Nat) (l : List PoolPkt) (h_s : Keeps s₀ s) : Keeps s₀ (setQueue s q l) := by
  unfold setQueue
  apply poolRegs_keeps
  refine Keeps.upd ?_ rfl
  exact h_s

theorem swEvent_keeps {s₀ : State} (s : State) (p : Nat) (code : Nat) (cls : Nat) (h_s : Keeps s₀ s) : Keeps s₀ (swEvent s p code cls) := by
  unfold swEvent
  apply cntCM_keeps
  exact h_s

theorem redUpdate_keeps {s₀ : State} (s : State) (q : Nat) (h_s : Keeps s₀ s) : Keeps s₀ (redUpdate s q) := by
  unfold redUpdate
  extract_lets +onlyGivenNames v1
  clear_value v1
  apply State.wri_keeps
  refine Keeps.upd ?_ rfl
  exact h_s

theorem redTest_keeps {s₀ : State} (s : State) (q : Nat) (colour : Nat) (h_s : Keeps s₀ s) : Keeps s₀ (redTest s q colour).snd := by
  unfold redTest
  extract_lets +onlyGivenNames v1
  clear_value v1
  extract_lets +onlyGivenNames v2
  have h3 : Keeps s₀ v2 := by
    subst v2
    refine Keeps.upd ?_ rfl
    exact h_s
  clear_value v2
  refine ite_of (fun (p : _ × State) => Keeps s₀ p.2) ?_ ?_
  · exact h3
  · extract_lets +onlyGivenNames v4
    have h5 : Keeps s₀ v4 := by
      subst v4
      apply redUpdate_keeps
      exact h3
    clear_value v4
    refine Keeps.mkPair ?_
    apply State.spend_keeps
    exact h5

theorem pushOut_keeps {s₀ : State} (s : State) (k need fuel : Nat) (h_s : Keeps s₀ s) : Keeps s₀ (pushOut s k need fuel) := by
  induction fuel generalizing s with
  | zero =>
    unfold pushOut
    exact h_s
  | succ n ih =>
    unfold pushOut
    refine ite_of (Keeps s₀) ?_ ?_
    · exact h_s
    · split
      · rename_i x1 x2
        exact h_s
      · rename_i x3 x4 x5
        apply ih
        apply swEvent_keeps
        apply qdrop_keeps
        apply setQueue_keeps
        exact h_s

theorem makeRoom_keeps {s₀ : State} (s : State) (k : Nat) (n : Nat) (h_s : Keeps s₀ s) : KeepsO s₀ (makeRoom s k n) := by
  unfold makeRoom
  refine ite_of (KeepsO s₀) ?_ ?_
  · refine KeepsO.ofSome ?_
    exact h_s
  · refine ite_of (KeepsO s₀) ?_ ?_
    · refine KeepsO.ofSome ?_
      apply pushOut_keeps
      exact h_s
    · exact KeepsO.ofNone _

theorem takeIn_keeps {s₀ : State} (s : State) (q : Nat) (x : PoolPkt) (h_s : Keeps s₀ s) : Keeps s₀ (takeIn s q x).snd := by
  unfold takeIn
  refine ite_of (fun (p : _ × State) => Keeps s₀ p.2) ?_ ?_
  · refine Keeps.mkPair ?_
    apply qdrop_keeps
    exact h_s
  · extract_lets +onlyGivenNames v1
    have h2 : Keeps s₀ v1.snd := by
      subst v1
      apply redTest_keeps
      exact h_s
    clear_value v1
    extract_lets +onlyGivenNames v3
    have h4 : Keeps s₀ v3 := by
      subst v3
      exact h2
    clear_value v3
    refine ite_of (fun (p : _ × State) => Keeps s₀ p.2) ?_ ?_
    · refine Keeps.mkPair ?_
      apply swEvent_keeps
      apply qdrop_keeps
      exact h4
    · refine ite_of (fun (p : _ × State) => Keeps s₀ p.2) ?_ ?_
      · refine Keeps.mkPair ?_
        apply swEvent_keeps
        apply qdrop_keeps
        exact h4
      · split
        · rename_i x5 x6
          refine Keeps.mkPair ?_
          apply swEvent_keeps
          apply State.setEvt_keeps
          apply qdrop_keeps
          exact h4
        · rename_i x7 x8 x9
          have h10 : Keeps s₀ x8 := by
            refine KeepsO.at ?_ x9
            apply makeRoom_keeps
            exact h4
          extract_lets +onlyGivenNames v11
          extract_lets +onlyGivenNames v12
          clear_value v12
          extract_lets +onlyGivenNames v13
          clear_value v13
          extract_lets +onlyGivenNames v14
          have h15 : Keeps s₀ v14 := by
            subst v14
            refine ite_of (Keeps s₀) ?_ ?_
            · apply qbump_keeps
              exact h10
            · exact h10
          clear_value v14
          refine Keeps.mkPair ?_
          apply swEvent_keeps
          apply setQueue_keeps
          exact h15

theorem copyDropped_keeps {s₀ : State} (s : State) (m : Nat) (h_s : Keeps s₀ s) : Keeps s₀ (copyDropped s m) := by
  unfold copyDropped
  apply State.setEvt_keeps
  apply State.bumpi_keeps
  exact h_s

theorem copiesLost_keeps {s₀ : State} (s : State) (l : List PoolPkt) (h_s : Keeps s₀ s) : Keeps s₀ (copiesLost s l) := by
  unfold copiesLost
  refine Keeps.foldl ?_ ?_
  · exact h_s
  · intro y1 y2 y3
    apply copyDropped_keeps
    exact y3

theorem dropQueued_keeps {s₀ : State} (s : State) (q : Nat) (p : PoolPkt → Bool) (h_s : Keeps s₀ s) : Keeps s₀ (dropQueued s q p) := by
  unfold dropQueued
  extract_lets +onlyGivenNames v1
  clear_value v1
  refine ite_of (Keeps s₀) ?_ ?_
  · exact h_s
  · extract_lets +onlyGivenNames v2
    have h3 : Keeps s₀ v2 := by
      subst v2
      apply setQueue_keeps
      exact h_s
    clear_value v2
    apply copiesLost_keeps
    apply noteDrops_keeps
    apply State.add_keeps
    exact h3

theorem stompBegun_keeps {s₀ : State} (s : State) (q : Nat) (h_s : Keeps s₀ s) : Keeps s₀ (stompBegun s q) := by
  unfold stompBegun
  extract_lets +onlyGivenNames v1
  clear_value v1
  refine ite_of (Keeps s₀) ?_ ?_
  · exact h_s
  · refine Keeps.foldl ?_ ?_
    · apply setQueue_keeps
      exact h_s
    · intro y2 y3 y4
      apply countStomp_keeps
      exact y4

theorem portDrop_keeps {s₀ : State} (s : State) (n : Nat) (h_s : Keeps s₀ s) : Keeps s₀ (portDrop s n) := by
  unfold portDrop
  refine Keeps.foldl ?_ ?_
  · exact h_s
  · intro y1 y2 y3
    apply dropQueued_keeps
    apply stompBegun_keeps
    exact y3

theorem feedPool_keeps {s₀ : State} (s : State) (k : Nat) (fs : List (BitVec 512)) (h_s : Keeps s₀ s) : Keeps s₀ (feedPool s k fs) := by
  unfold feedPool
  refine Keeps.foldl ?_ ?_
  · exact h_s
  · intro y1 y2 y3
    extract_lets +onlyGivenNames v4
    clear_value v4
    extract_lets +onlyGivenNames v5
    have h6 : Keeps s₀ v5 := by
      subst v5
      split
      · rename_i x7 x8
        apply outPush_keeps
        exact y3
      · rename_i x9
        exact y3
    clear_value v5
    apply setQueue_keeps
    exact h6

theorem flow_keeps {s₀ : State} (s : State) (k : Nat) (h_s : Keeps s₀ s) : Keeps s₀ (flow s k) := by
  unfold flow
  split
  · rename_i x1 x2
    exact h_s
  · rename_i x3 x4 x5
    extract_lets +onlyGivenNames v6
    clear_value v6
    extract_lets +onlyGivenNames v7
    clear_value v7
    refine ite_of (Keeps s₀) ?_ ?_
    · exact h_s
    · split
      · rename_i x8 x9
        exact h_s
      · rename_i x10 x11
        exact h_s
      · rename_i x12 x13
        apply setCur_keeps
        apply flitsLeave_keeps
        apply outPush_keeps
        exact h_s
      · rename_i x14 x15
        apply setCur_keeps
        apply flitsLeave_keeps
        apply feedPool_keeps
        exact h_s
      · rename_i x16 x17
        apply setCur_keeps
        apply flitsLeave_keeps
        exact h_s
      · rename_i x18 x19
        apply setCur_keeps
        apply flitsLeave_keeps
        exact h_s

theorem salvageLeft_keeps {s₀ : State} (s : State) (k : Nat) (c : SwPkt) (h_s : Keeps s₀ s) : Keeps s₀ (salvageLeft s k c) := by
  unfold salvageLeft
  refine ite_of (Keeps s₀) ?_ ?_
  · extract_lets +onlyGivenNames v1
    clear_value v1
    apply State.setPort_keeps
    exact h_s
  · exact h_s

theorem freeInput_keeps {s₀ : State} (s : State) (k : Nat) (c : SwPkt) (h_s : Keeps s₀ s) : Keeps s₀ (freeInput s k c) := by
  unfold freeInput
  extract_lets +onlyGivenNames v1
  have h2 : Keeps s₀ v1 := by
    subst v1
    refine ite_of (Keeps s₀) ?_ ?_
    · exact h_s
    · apply flitsLeave_keeps
      exact h_s
  clear_value v1
  apply dropCur_keeps
  apply salvageLeft_keeps
  exact h2

theorem mirCopy_keeps {s₀ : State} (s : State) (m : Nat) (k : Nat) (inP : Nat) (outP : Nat) (h : RouteHdr) (whole_ : Option (List (BitVec 512))) (h_s : Keeps s₀ s) : Keeps s₀ (mirCopy s m k inP outP h whole_) := by
  unfold mirCopy
  extract_lets +onlyGivenNames v1
  clear_value v1
  extract_lets +onlyGivenNames v2
  clear_value v2
  extract_lets +onlyGivenNames v3
  have h4 : Keeps s₀ v3 := by
    subst v3
    refine Keeps.upd ?_ rfl
    exact h_s
  clear_value v3
  refine ite_of (Keeps s₀) ?_ ?_
  · exact h4
  · extract_lets +onlyGivenNames v5
    clear_value v5
    extract_lets +onlyGivenNames v6
    have h7 : Keeps s₀ v6 := by
      subst v6
      apply swEvent_keeps
      apply State.bumpi_keeps
      exact h4
    clear_value v6
    extract_lets +onlyGivenNames v8
    clear_value v8
    refine ite_of (Keeps s₀) ?_ ?_
    · apply copyDropped_keeps
      exact h7
    · extract_lets +onlyGivenNames v9
      clear_value v9
      extract_lets +onlyGivenNames v10
      clear_value v10
      extract_lets +onlyGivenNames v11
      have h12 : Keeps s₀ v11.snd := by
        subst v11
        apply takeIn_keeps
        exact h7
      clear_value v11
      refine ite_of (Keeps s₀) ?_ ?_
      · exact h12
      · apply copyDropped_keeps
        exact h12

theorem mirAll_keeps {s₀ : State} (s : State) (egress : Bool) (p : Nat) (k : Nat) (inP : Nat) (outP : Nat) (h : RouteHdr) (isMirror : Bool) (whole_ : Option (List (BitVec 512))) (h_s : Keeps s₀ s) : Keeps s₀ (mirAll s egress p k inP outP h isMirror whole_) := by
  unfold mirAll
  refine Keeps.foldl ?_ ?_
  · exact h_s
  · intro y1 y2 y3
    refine ite_of (Keeps s₀) ?_ ?_
    · apply mirCopy_keeps
      exact y3
    · exact y3

theorem mirFinish_keeps {s₀ : State} (s : State) (k : Nat) (orig : List (BitVec 512)) (cutReason : Option Nat) (h_s : Keeps s₀ s) : Keeps s₀ (mirFinish s k orig cutReason) := by
  unfold mirFinish
  refine Keeps.foldl ?_ ?_
  · exact h_s
  · intro y1 y2 y3
    extract_lets +onlyGivenNames v4
    clear_value v4
    extract_lets +onlyGivenNames v5
    clear_value v5
    extract_lets +onlyGivenNames v6
    clear_value v6
    extract_lets +onlyGivenNames v7
    have h8 : Keeps s₀ v7 := by
      subst v7
      apply setQueue_keeps
      exact y3
    clear_value v7
    split
    · rename_i x9 x10 x11 x12
      apply outPush_keeps
      exact h8
    · rename_i x13 x14 x15
      exact h8

theorem finishPool_keeps {s₀ : State} (s : State) (k : Nat) (fs : List (BitVec 512)) (h_s : Keeps s₀ s) : Keeps s₀ (finishPool s k fs) := by
  unfold finishPool
  refine Keeps.foldl ?_ ?_
  · exact h_s
  · intro y1 y2 y3
    extract_lets +onlyGivenNames v4
    clear_value v4
    extract_lets +onlyGivenNames v5
    clear_value v5
    split
    · rename_i x6 x7
      apply outPush_keeps
      apply setQueue_keeps
      exact y3
    · rename_i x8
      apply setQueue_keeps
      exact y3

theorem outEnd_keeps {s₀ : State} (s : State) (o : Nat) (vc : Nat) (reason : Nat) (byLink : Bool) (h_s : Keeps s₀ s) : Keeps s₀ (outEnd s o vc reason byLink) := by
  unfold outEnd
  refine ite_of (Keeps s₀) ?_ ?_
  · apply outRemove_keeps
    exact h_s
  · apply outStomp_keeps
    exact h_s

theorem cutPool_keeps {s₀ : State} (s : State) (k : Nat) (reason : Nat) (byLink : Bool) (h_s : Keeps s₀ s) : Keeps s₀ (cutPool s k reason byLink) := by
  unfold cutPool
  refine Keeps.foldl ?_ ?_
  · exact h_s
  · intro y1 y2 y3
    extract_lets +onlyGivenNames v4
    have h5 : Keeps s₀ v4 := by
      subst v4
      split
      · rename_i x6 x7 x8
        apply outEnd_keeps
        exact y3
      · rename_i x9 x10
        exact y3
    clear_value v4
    apply setQueue_keeps
    exact h5

theorem endOutputs_keeps {s₀ : State} (s : State) (k : Nat) (c : SwPkt) (reason : Nat) (byLink : Bool) (count : State → State) (h_s : Keeps s₀ s) (h_count : ∀ (a : State), Keeps s₀ a → Keeps s₀ (count a)) : Keeps s₀ (endOutputs s k c reason byLink count) := by
  unfold endOutputs
  split
  · rename_i x1 x2
    extract_lets +onlyGivenNames v3
    have h4 : Keeps s₀ v3 := by
      subst v3
      apply outEnd_keeps
      exact h_s
    clear_value v3
    refine ite_of (Keeps s₀) ?_ ?_
    · apply h_count
      exact h4
    · exact h4
  · rename_i x5 x6
    refine ite_of (Keeps s₀) ?_ ?_
    · apply cutPool_keeps
      exact h_s
    · apply h_count
      apply cutPool_keeps
      exact h_s
  · rename_i x7 x8
    exact h_s
  · rename_i x9 x10
    exact h_s
  · rename_i x11 x12
    apply h_count
    exact h_s
  · rename_i x13 x14
    apply h_count
    exact h_s

theorem cutInput_keeps {s₀ : State} (s : State) (k : Nat) (reason : Nat) (byLink : Bool) (count : State → State) (h_s : Keeps s₀ s) (h_count : ∀ (a : State), Keeps s₀ a → Keeps s₀ (count a)) : Keeps s₀ (cutInput s k reason byLink count) := by
  unfold cutInput
  split
  · rename_i x1 x2
    exact h_s
  · rename_i x3 x4 x5
    apply freeInput_keeps
    apply endOutputs_keeps
    · apply mirFinish_keeps
      exact h_s
    · exact h_count

theorem haltInput_keeps {s₀ : State} (s : State) (k : Nat) (reason : Nat) (count : State → State) (h_s : Keeps s₀ s) (h_count : ∀ (a : State), Keeps s₀ a → Keeps s₀ (count a)) : Keeps s₀ (haltInput s k reason count) := by
  unfold haltInput
  split
  · rename_i x1 x2
    exact h_s
  · rename_i x3 x4 x5
    extract_lets +onlyGivenNames v6
    have h7 : Keeps s₀ v6 := by
      subst v6
      apply endOutputs_keeps
      · apply mirFinish_keeps
        exact h_s
      · exact h_count
    clear_value v6
    apply flow_keeps
    apply setCur_keeps
    exact h7


/-! ### Machine/RoutingOps.lean -/

theorem setMask96_keeps {s₀ : State} (s : State) (f : Field) (n : Nat) (b : Bool) (h_s : Keeps s₀ s) : Keeps s₀ (setMask96 s f n b) := by
  unfold setMask96
  extract_lets +onlyGivenNames v1
  clear_value v1
  apply State.wri_keeps
  exact h_s

theorem countMismatch_keeps {s₀ : State} (s : State) (t : Target) (h_s : Keeps s₀ s) : Keeps s₀ (countMismatch s t) := by
  unfold countMismatch
  refine Keeps.foldl ?_ ?_
  · exact h_s
  · intro y1 y2 y3
    apply recordError_keeps
    apply State.setEvt_keeps
    apply State.bump_keeps
    exact y3

theorem eccLookup_keeps {s₀ : State} (s : State) (off : Nat) (h_s : Keeps s₀ s) : Keeps s₀ (eccLookup s off) := by
  unfold eccLookup
  split
  · rename_i x1 x2
    exact h_s
  · rename_i x3 x4
    apply recordError_keeps
    apply State.bump_keeps
    exact h_s
  · rename_i x5 x6
    apply recordError_keeps
    apply State.setEvt_keeps
    exact h_s

theorem noteLookup_keeps {s₀ : State} (s : State) (t : Target) (h_s : Keeps s₀ s) : Keeps s₀ (noteLookup s t) := by
  unfold noteLookup
  apply countMismatch_keeps
  apply eccLookup_keeps
  exact h_s

theorem pickCheapest_keeps {s₀ : State} (s : State) (l : List Cand) (h_s : Keeps s₀ s) : Keeps s₀ (pickCheapest s l).snd := by
  unfold pickCheapest
  split
  · rename_i x1 x2
    exact h_s
  · rename_i x3 x4 x5
    exact h_s
  · rename_i x6 x7 x8
    refine Keeps.mkPair ?_
    apply State.spend_keeps
    exact h_s

theorem pathOf_keeps {s₀ : State} (s : State) (t : Target) (cls : Nat) (w : Via) (h_s : Keeps s₀ s) : Keeps s₀ (pathOf s t cls w).snd := by
  unfold pathOf
  extract_lets +onlyGivenNames v1
  have h2 : Keeps s₀ v1.snd := by
    subst v1
    apply pickCheapest_keeps
    apply noteLookup_keeps
    exact h_s
  clear_value v1
  exact h2

theorem rambleDecision_keeps {s₀ : State} (s : State) (h : RouteHdr) (cls : Nat) (w : Via) (h_s : Keeps s₀ s) : Keeps s₀ (rambleDecision s h cls w).snd := by
  unfold rambleDecision
  extract_lets +onlyGivenNames v1
  clear_value v1
  refine ite_of (fun (p : _ × State) => Keeps s₀ p.2) ?_ ?_
  · exact h_s
  · extract_lets +onlyGivenNames v2
    clear_value v2
    extract_lets +onlyGivenNames v3
    have h4 : Keeps s₀ v3 := by
      subst v3
      apply State.spend_keeps
      exact h_s
    clear_value v3
    extract_lets +onlyGivenNames v5
    clear_value v5
    extract_lets +onlyGivenNames v6
    have h7 : Keeps s₀ v6 := by
      subst v6
      apply State.spend_keeps
      exact h4
    clear_value v6
    extract_lets +onlyGivenNames v8
    have h9 : ∀ (s : State) (i : Nat), Keeps s₀ s → Keeps s₀ (v8 s i).snd := by
      subst v8
      intro y10 y11 y12
      dsimp -zeta only
      split
      · rename_i x13 x14
        refine Keeps.mkPair ?_
        apply eccLookup_keeps
        exact y12
      · rename_i x15 x16 x17
        extract_lets +onlyGivenNames v18
        have h19 : Keeps s₀ v18.snd := by
          subst v18
          apply pathOf_keeps
          apply eccLookup_keeps
          exact y12
        clear_value v18
        exact h19
    clear_value v8
    extract_lets +onlyGivenNames v20
    have h21 : Keeps s₀ v20.snd := by
      subst v20
      apply h9
      exact h7
    clear_value v20
    extract_lets +onlyGivenNames v22
    have h23 : Keeps s₀ v22.snd := by
      subst v22
      apply h9
      exact h21
    clear_value v22
    extract_lets +onlyGivenNames v24
    clear_value v24
    extract_lets +onlyGivenNames v25
    have h26 : Keeps s₀ v25.snd := by
      subst v25
      apply pathOf_keeps
      exact h23
    clear_value v25
    split
    · rename_i x27 x28 x29 x30 x31
      refine ite_of (fun (p : _ × State) => Keeps s₀ p.2) ?_ ?_
      · refine Keeps.mkPair ?_
        apply cnt1_keeps
        apply State.bump_keeps
        exact h26
      · exact h26
    · rename_i x32 x33 x34 x35
      refine Keeps.mkPair ?_
      apply cnt1_keeps
      apply State.bump_keeps
      exact h26
    · rename_i x36 x37
      exact h26

theorem selectCand_keeps {s₀ : State} (s : State) (h : RouteHdr) (l : List Cand) (h_s : Keeps s₀ s) : Keeps s₀ (selectCand s h l).snd := by
  unfold selectCand
  extract_lets +onlyGivenNames v1
  clear_value v1
  refine ite_of (fun (p : _ × State) => Keeps s₀ p.2) ?_ ?_
  · exact h_s
  · refine ite_of (fun (p : _ × State) => Keeps s₀ p.2) ?_ ?_
    · apply pickCheapest_keeps
      exact h_s
    · exact h_s

theorem withoutRoute_keeps {s₀ : State} (s : State) (h : RouteHdr) (t : Target) (w : Via) (h_s : Keeps s₀ s) : Keeps s₀ (withoutRoute s h t w).snd := by
  unfold withoutRoute
  extract_lets +onlyGivenNames v1
  clear_value v1
  extract_lets +onlyGivenNames v2
  clear_value v2
  extract_lets +onlyGivenNames v3
  clear_value v3
  refine ite_of (fun (p : _ × State) => Keeps s₀ p.2) ?_ ?_
  · extract_lets +onlyGivenNames v4
    have h5 : Keeps s₀ v4.snd := by
      subst v4
      apply rambleDecision_keeps
      exact h_s
    clear_value v4
    split
    · rename_i x6 x7 x8 x9
      exact h5
    · rename_i x10 x11
      exact h5
  · exact h_s

theorem injectWaypt_keeps {s₀ : State} (s : State) (h : RouteHdr) (w : Via) (h_s : Keeps s₀ s) : Keeps s₀ (injectWaypt s h w).snd := by
  unfold injectWaypt
  extract_lets +onlyGivenNames v1
  clear_value v1
  extract_lets +onlyGivenNames v2
  clear_value v2
  refine ite_of (fun (p : _ × State) => Keeps s₀ p.2) ?_ ?_
  · exact h_s
  · refine ite_of (fun (p : _ × State) => Keeps s₀ p.2) ?_ ?_
    · exact h_s
    · refine ite_of (fun (p : _ × State) => Keeps s₀ p.2) ?_ ?_
      · refine ite_of (fun (p : _ × State) => Keeps s₀ p.2) ?_ ?_
        · split
          · rename_i x3 x4 x5 x6 x7
            have h8 : Keeps s₀ x6 := by
              refine Keeps.ofPair ?_ x7
              apply rambleDecision_keeps
              exact h_s
            exact h8
          · rename_i x9 x10 x11
            have h12 : Keeps s₀ x10 := by
              refine Keeps.ofPair ?_ x11
              apply rambleDecision_keeps
              exact h_s
            exact h12
        · exact h_s
      · exact h_s

theorem chooseRoute_keeps {s₀ : State} (s : State) (h : RouteHdr) (w : Via) (h_s : Keeps s₀ s) : Keeps s₀ (chooseRoute s h w).snd := by
  unfold chooseRoute
  extract_lets +onlyGivenNames v1
  clear_value v1
  extract_lets +onlyGivenNames v2
  have h3 : Keeps s₀ v2.snd := by
    subst v2
    refine ite_of (fun (p : _ × State) => Keeps s₀ p.2) ?_ ?_
    · apply injectWaypt_keeps
      exact h_s
    · exact h_s
  clear_value v2
  extract_lets +onlyGivenNames v4
  clear_value v4
  extract_lets +onlyGivenNames v5
  have h6 : Keeps s₀ v5 := by
    subst v5
    apply cntCM_keeps
    apply noteLookup_keeps
    exact h3
  clear_value v5
  extract_lets +onlyGivenNames v7
  clear_value v7
  extract_lets +onlyGivenNames v8
  have h9 : Keeps s₀ v8.snd := by
    subst v8
    apply selectCand_keeps
    exact h6
  clear_value v8
  split
  · rename_i x10 x11 x12
    exact h9
  · rename_i x13 x14
    apply withoutRoute_keeps
    exact h9

theorem countNoRoute_keeps {s₀ : State} (s : State) (c : Choice) (cls : Nat) (h_s : Keeps s₀ s) : Keeps s₀ (countNoRoute s c cls) := by
  unfold countNoRoute
  split
  · rename_i x1 x2 x3
    exact h_s
  · rename_i x4
    apply cntCM_keeps
    apply State.setEvt_keeps
    apply State.bump_keeps
    exact h_s
  · rename_i x5
    apply State.setEvt_keeps
    apply State.bump_keeps
    exact h_s

theorem flowletDecision_keeps {s₀ : State} (s : State) (h : RouteHdr) (w : Via) (h_s : Keeps s₀ s) : Keeps s₀ (flowletDecision s h w).snd := by
  unfold flowletDecision
  extract_lets +onlyGivenNames v1
  clear_value v1
  extract_lets +onlyGivenNames v2
  clear_value v2
  extract_lets +onlyGivenNames v3
  clear_value v3
  extract_lets +onlyGivenNames v4
  have h5 : Keeps s₀ v4.snd := by
    subst v4
    refine ite_of (fun (p : _ × State) => Keeps s₀ p.2) ?_ ?_
    · split
      · rename_i x6 x7 x8 x9 x10
        have h11 : Keeps s₀ x9 := by
          refine Keeps.ofPair ?_ x10
          apply rambleDecision_keeps
          exact h_s
        exact h11
      · rename_i x12 x13 x14
        have h15 : Keeps s₀ x13 := by
          refine Keeps.ofPair ?_ x14
          apply rambleDecision_keeps
          exact h_s
        exact h15
    · refine ite_of (fun (p : _ × State) => Keeps s₀ p.2) ?_ ?_
      · exact h_s
      · exact h_s
  clear_value v4
  refine ite_of (fun (p : _ × State) => Keeps s₀ p.2) ?_ ?_
  · exact h_s
  · extract_lets +onlyGivenNames v16
    clear_value v16
    extract_lets +onlyGivenNames v17
    clear_value v17
    extract_lets +onlyGivenNames v18
    have h19 : Keeps s₀ v18.snd := by
      subst v18
      apply pickCheapest_keeps
      apply noteLookup_keeps
      exact h5
    clear_value v18
    split
    · rename_i x20 x21
      exact h19
    · rename_i x22 x23 x24
      split
      · rename_i x25 x26
        exact h19
      · rename_i x27 x28 x29
        refine Keeps.mkPair ?_
        apply State.spend_keeps
        exact h19


/-! ### Machine/ChanOps.lean -/

theorem State.setChan_keeps {s₀ : State} (s : State) (ch : Nat) (x : ChanSt) (h_s : Keeps s₀ s) : Keeps s₀ (s.setChan ch x) := by
  unfold State.setChan
  extract_lets +onlyGivenNames v1
  clear_value v1
  extract_lets +onlyGivenNames v2
  clear_value v2
  refine Keeps.upd ?_ rfl
  exact h_s

theorem tpSync_keeps {s₀ : State} (s : State) (c : Nat) (h_s : Keeps s₀ s) : Keeps s₀ (tpSync s c) := by
  unfold tpSync
  extract_lets +onlyGivenNames v1
  clear_value v1
  extract_lets +onlyGivenNames v2
  clear_value v2
  apply State.wr_keeps
  apply State.wr_keeps
  apply State.wr_keeps
  exact h_s

theorem tpSyncAll_keeps {s₀ : State} (s : State) (h_s : Keeps s₀ s) : Keeps s₀ (tpSyncAll s) := by
  unfold tpSyncAll
  refine Keeps.foldl ?_ ?_
  · exact h_s
  · intro y1 y2 y3
    apply tpSync_keeps
    exact y3

theorem chanEv_keeps {s₀ : State} (s : State) (ch : Nat) (code : Nat) (n : Nat) (cls : Option Nat) (addr : Option Nat) (h_s : Keeps s₀ s) : Keeps s₀ (chanEv s ch code n cls addr) := by
  unfold chanEv
  split
  · rename_i x1 x2
    exact h_s
  · rename_i x3 x4 x5
    apply countEv_keeps
    exact h_s

theorem sendVia_keeps {s₀ : State} (s : State) (ch : Nat) (port : Nat) (p : Packet) (h_s : Keeps s₀ s) : Keeps s₀ (sendVia s ch port p) := by
  unfold sendVia
  refine ite_of (Keeps s₀) ?_ ?_
  · apply chanEv_keeps
    apply inject_keeps
    exact h_s
  · exact h_s

theorem sendNak_keeps {s₀ : State} (s : State) (ch : Nat) (code : Nat) (psn : Nat) (h_s : Keeps s₀ s) : Keeps s₀ (sendNak s ch code psn) := by
  unfold sendNak
  split
  · rename_i x1 x2
    exact h_s
  · rename_i x3 x4 x5
    extract_lets +onlyGivenNames v6
    clear_value v6
    extract_lets +onlyGivenNames v7
    clear_value v7
    extract_lets +onlyGivenNames v8
    clear_value v8
    extract_lets +onlyGivenNames v9
    clear_value v9
    extract_lets +onlyGivenNames v10
    have h11 : Keeps s₀ v10 := by
      subst v10
      apply State.setChan_keeps
      exact h_s
    clear_value v10
    extract_lets +onlyGivenNames v12
    have h13 : Keeps s₀ v12 := by
      subst v12
      apply trailEnd_keeps
      exact h11
    clear_value v12
    apply sendVia_keeps
    apply State.bumpi_keeps
    exact h13

theorem tryAck_keeps {s₀ : State} (s : State) (ch : Nat) (h_s : Keeps s₀ s) : Keeps s₀ (tryAck s ch) := by
  unfold tryAck
  split
  · rename_i x1 x2
    exact h_s
  · rename_i x3 x4 x5
    refine ite_of (Keeps s₀) ?_ ?_
    · exact h_s
    · extract_lets +onlyGivenNames v6
      clear_value v6
      extract_lets +onlyGivenNames v7
      clear_value v7
      extract_lets +onlyGivenNames v8
      clear_value v8
      extract_lets +onlyGivenNames v9
      clear_value v9
      extract_lets +onlyGivenNames v10
      have h11 : Keeps s₀ v10 := by
        subst v10
        apply State.setChan_keeps
        exact h_s
      clear_value v10
      extract_lets +onlyGivenNames v12
      have h13 : Keeps s₀ v12 := by
        subst v12
        apply trailAcked_keeps
        exact h11
      clear_value v12
      apply sendVia_keeps
      apply State.bump_keeps
      exact h13

theorem ackDue_keeps {s₀ : State} (s : State) (ch : Nat) (h_s : Keeps s₀ s) : Keeps s₀ (ackDue s ch) := by
  unfold ackDue
  split
  · rename_i x1 x2
    exact h_s
  · rename_i x3 x4 x5
    apply tryAck_keeps
    apply State.setChan_keeps
    exact h_s

theorem addJob_keeps {s₀ : State} (s : State) (ch : Nat) (j : Job) (ahead : Bool) (h_s : Keeps s₀ s) : Keeps s₀ (addJob s ch j ahead) := by
  unfold addJob
  split
  · rename_i x1 x2
    exact h_s
  · rename_i x3 x4 x5
    extract_lets +onlyGivenNames v6
    clear_value v6
    extract_lets +onlyGivenNames v7
    clear_value v7
    extract_lets +onlyGivenNames v8
    clear_value v8
    extract_lets +onlyGivenNames v9
    clear_value v9
    extract_lets +onlyGivenNames v10
    have h11 : Keeps s₀ v10 := by
      subst v10
      refine Keeps.upd ?_ rfl
      exact h_s
    clear_value v10
    apply State.setChan_keeps
    exact h11

theorem addFin_keeps {s₀ : State} (s : State) (ch : Nat) (status : Nat) (rtsPsn : Nat) (n : Nat) (h_s : Keeps s₀ s) : Keeps s₀ (addFin s ch status rtsPsn n) := by
  unfold addFin
  apply addJob_keeps
  exact h_s


/-! ### Machine/MatchOps.lean -/

theorem domSync_keeps {s₀ : State} (s : State) (d : Nat) (h_s : Keeps s₀ s) : Keeps s₀ (domSync s d) := by
  unfold domSync
  extract_lets +onlyGivenNames v1
  clear_value v1
  extract_lets +onlyGivenNames v2
  clear_value v2
  extract_lets +onlyGivenNames v3
  have h4 : Keeps s₀ v3 := by
    subst v3
    apply State.wr_keeps
    apply State.wr_keeps
    exact h_s
  clear_value v3
  split
  · rename_i x5 x6
    exact h4
  · rename_i x7 x8 x9 x10
    extract_lets +onlyGivenNames v11
    clear_value v11
    extract_lets +onlyGivenNames v12
    have h13 : ∀ (t : State) (g : Field) (v : Nat), Keeps s₀ t → Keeps s₀ (v12 t g v) := by
      subst v12
      intro y14 y15 y16 y17
      dsimp -zeta only
      apply State.wri_keeps
      exact y17
    clear_value v12
    apply h13
    apply h13
    apply h13
    apply h13
    apply h13
    exact h4

theorem State.setDom_keeps {s₀ : State} (s : State) (d : Nat) (x : DomSt) (h_s : Keeps s₀ s) : Keeps s₀ (s.setDom d x) := by
  unfold State.setDom
  extract_lets +onlyGivenNames v1
  have h2 : Keeps s₀ v1 := by
    subst v1
    refine Keeps.upd ?_ rfl
    exact h_s
  clear_value v1
  split
  · rename_i x3 x4
    apply domSync_keeps
    exact h2
  · rename_i x5 x6 x7 x8
    extract_lets +onlyGivenNames v9
    clear_value v9
    apply domSync_keeps
    refine Keeps.upd ?_ rfl
    exact h2

theorem moveOverflow_keeps {s₀ : State} (s : State) (d : Nat) (h_s : Keeps s₀ s) : Keeps s₀ (moveOverflow s d) := by
  unfold moveOverflow
  extract_lets +onlyGivenNames v1
  clear_value v1
  extract_lets +onlyGivenNames v2
  clear_value v2
  extract_lets +onlyGivenNames v3
  clear_value v3
  extract_lets +onlyGivenNames v4
  clear_value v4
  extract_lets +onlyGivenNames v5
  clear_value v5
  extract_lets +onlyGivenNames v6
  clear_value v6
  extract_lets +onlyGivenNames v7
  clear_value v7
  extract_lets +onlyGivenNames v8
  clear_value v8
  extract_lets +onlyGivenNames v9
  clear_value v9
  apply State.setDom_keeps
  exact h_s

theorem completeRecv_keeps {s₀ : State} (s : State) (d : Nat) (kind : Nat) (status : Nat) (index : Nat) (ch : Nat) (gen : Nat) (tag : Nat) (src : Nat) (msgLen : Nat) (h_s : Keeps s₀ s) : Keeps s₀ (completeRecv s d kind status index ch gen tag src msgLen) := by
  unfold completeRecv
  split
  · rename_i x1 x2
    exact h_s
  · rename_i x3 x4 x5 x6
    extract_lets +onlyGivenNames v7
    have h8 : Keeps s₀ v7 := by
      subst v7
      refine ite_of (Keeps s₀) ?_ ?_
      · apply State.bump_keeps
        exact h_s
      · refine ite_of (Keeps s₀) ?_ ?_
        · apply State.bump_keeps
          exact h_s
        · refine ite_of (Keeps s₀) ?_ ?_
          · apply State.bump_keeps
            exact h_s
          · exact h_s
    clear_value v7
    apply cqPut_keeps
    exact h8

theorem ovfWrite_keeps {s₀ : State} (s : State) (d : Nat) (f : Nat) (j : Nat) (h_s : Keeps s₀ s) : Keeps s₀ (ovfWrite s d f j).snd := by
  unfold ovfWrite
  split
  · rename_i x1 x2 x3 x4
    have h5 : Keeps s₀ x3 := by
      refine Keeps.ofPair ?_ x4
      apply xlate_keeps
      exact h_s
    refine Keeps.mkPair ?_
    apply scatter_keeps
    apply State.spend_keeps
    exact h5
  · rename_i x6 x7
    apply xlate_keeps
    exact h_s

theorem ovfFull_keeps {s₀ : State} (s : State) (d : Nat) (f : Nat) (j : Nat) (post : Bool) (h_s : Keeps s₀ s) : Keeps s₀ (ovfFull s d f j post) := by
  unfold ovfFull
  extract_lets +onlyGivenNames v1
  clear_value v1
  extract_lets +onlyGivenNames v2
  clear_value v2
  extract_lets +onlyGivenNames v3
  have h4 : Keeps s₀ v3 := by
    subst v3
    apply State.setDom_keeps
    exact h_s
  clear_value v3
  refine ite_of (Keeps s₀) ?_ ?_
  · exact h4
  · apply State.setEvt_keeps
    apply raiseEvent_keeps
    exact h4

theorem countSearch_keeps {s₀ : State} (s : State) (d : Nat) (reached : Bool) (h_s : Keeps s₀ s) : Keeps s₀ (countSearch s d reached) := by
  unfold countSearch
  extract_lets +onlyGivenNames v1
  have h2 : Keeps s₀ v1 := by
    subst v1
    apply cntCM_keeps
    exact h_s
  clear_value v1
  refine ite_of (Keeps s₀) ?_ ?_
  · apply cntCM_keeps
    apply State.bump_keeps
    exact h2
  · exact h2

theorem startRndv_keeps {s₀ : State} (s : State) (d : Nat) (ch : Nat) (b : BoundEnt) (skey : Nat) (saddr : Nat) (h_s : Keeps s₀ s) : Keeps s₀ (startRndv s d ch b skey saddr) := by
  unfold startRndv
  extract_lets +onlyGivenNames v1
  clear_value v1
  extract_lets +onlyGivenNames v2
  have h3 : Keeps s₀ v2 := by
    subst v2
    apply State.bump_keeps
    exact h_s
  clear_value v2
  extract_lets +onlyGivenNames v4
  clear_value v4
  extract_lets +onlyGivenNames v5
  clear_value v5
  apply addJob_keeps
  exact h3

theorem bindHead_keeps {s₀ : State} (s : State) (d : Nat) (ch : Nat) (gen : Nat) (h : Head) (p : PostEnt) (h_s : Keeps s₀ s) : Keeps s₀ (bindHead s d ch gen h p) := by
  unfold bindHead
  extract_lets +onlyGivenNames v1
  clear_value v1
  extract_lets +onlyGivenNames v2
  clear_value v2
  extract_lets +onlyGivenNames v3
  have h4 : Keeps s₀ v3 := by
    subst v3
    apply State.setDom_keeps
    exact h_s
  clear_value v3
  extract_lets +onlyGivenNames v5
  have h6 : Keeps s₀ v5 := by
    subst v5
    apply cntCM_keeps
    apply State.bump_keeps
    exact h4
  clear_value v5
  refine ite_of (Keeps s₀) ?_ ?_
  · apply startRndv_keeps
    exact h6
  · exact h6

theorem fileHead_keeps {s₀ : State} (s : State) (d : Nat) (ch : Nat) (gen : Nat) (h : Head) (slot : Option Nat) (onDie : Bool) (h_s : Keeps s₀ s) : Keeps s₀ (fileHead s d ch gen h slot onDie) := by
  unfold fileHead
  extract_lets +onlyGivenNames v1
  clear_value v1
  extract_lets +onlyGivenNames v2
  clear_value v2
  extract_lets +onlyGivenNames v3
  have h4 : Keeps s₀ v3 := by
    subst v3
    apply State.setDom_keeps
    exact h_s
  clear_value v3
  apply cntCM_keeps
  apply State.bump_keeps
  exact h4

theorem loseMsgs_keeps {s₀ : State} (s : State) (d : Nat) (h_s : Keeps s₀ s) : Keeps s₀ (loseMsgs s d) := by
  unfold loseMsgs
  extract_lets +onlyGivenNames v1
  clear_value v1
  extract_lets +onlyGivenNames v2
  clear_value v2
  refine Keeps.upd ?_ rfl
  exact h_s

theorem domReset_keeps {s₀ : State} (s : State) (d : Nat) (h_s : Keeps s₀ s) : Keeps s₀ (domReset s d) := by
  unfold domReset
  split
  · rename_i x1 x2
    exact h_s
  · rename_i x3 x4 x5 x6
    extract_lets +onlyGivenNames v7
    clear_value v7
    extract_lets +onlyGivenNames v8
    have h9 : Keeps s₀ v8 := by
      subst v8
      refine Keeps.foldl ?_ ?_
      · exact h_s
      · intro y10 y11 y12
        apply completeRecv_keeps
        exact y12
    clear_value v8
    extract_lets +onlyGivenNames v13
    clear_value v13
    extract_lets +onlyGivenNames v14
    have h15 : Keeps s₀ v14 := by
      subst v14
      refine Keeps.foldl ?_ ?_
      · exact h9
      · intro y16 y17 y18
        apply completeRecv_keeps
        exact y18
    clear_value v14
    extract_lets +onlyGivenNames v19
    have h20 : Keeps s₀ v19 := by
      subst v19
      refine Keeps.foldl ?_ ?_
      · exact h15
      · intro y21 y22 y23
        refine ite_of (Keeps s₀) ?_ ?_
        · split
          · rename_i x24 x25 x26
            extract_lets +onlyGivenNames v27
            clear_value v27
            apply State.setChan_keeps
            exact y23
          · rename_i x28 x29
            exact y23
        · exact y23
    clear_value v19
    extract_lets +onlyGivenNames v30
    have h31 : Keeps s₀ v30 := by
      subst v30
      refine Keeps.foldl ?_ ?_
      · exact h20
      · intro y32 y33 y34
        refine ite_of (Keeps s₀) ?_ ?_
        · split
          · rename_i x35 x36 x37
            refine ite_of (Keeps s₀) ?_ ?_
            · apply addFin_keeps
              exact y34
            · exact y34
          · rename_i x38 x39
            exact y34
        · exact y34
    clear_value v30
    extract_lets +onlyGivenNames v40
    clear_value v40
    extract_lets +onlyGivenNames v41
    have h42 : Keeps s₀ v41 := by
      subst v41
      apply loseMsgs_keeps
      exact h31
    clear_value v41
    extract_lets +onlyGivenNames v43
    have h44 : Keeps s₀ v43 := by
      subst v43
      apply State.wri_keeps
      exact h42
    clear_value v43
    extract_lets +onlyGivenNames v45
    clear_value v45
    extract_lets +onlyGivenNames v46
    clear_value v46
    apply State.setDom_keeps
    exact h44

theorem domLost_keeps {s₀ : State} (s : State) (d : Nat) (h_s : Keeps s₀ s) : Keeps s₀ (domLost s d) := by
  unfold domLost
  split
  · rename_i x1 x2
    exact h_s
  · rename_i x3 x4 x5 x6
    apply State.setEvt_keeps
    apply raiseEvent_keeps
    apply domReset_keeps
    exact h_s

theorem msgArrived_keeps {s₀ : State} (s : State) (ch : Nat) (m : InMsg) (n : Nat) (fault : Bool) (h_s : Keeps s₀ s) : Keeps s₀ (msgArrived s ch m n fault) := by
  unfold msgArrived
  extract_lets +onlyGivenNames v1
  clear_value v1
  extract_lets +onlyGivenNames v2
  extract_lets +onlyGivenNames v3
  clear_value v3
  extract_lets +onlyGivenNames v4
  clear_value v4
  extract_lets +onlyGivenNames v5
  have h6 : Keeps s₀ v5 := by
    subst v5
    split
    · rename_i x7 x8 x9
      apply State.setChan_keeps
      exact h_s
    · rename_i x10 x11
      exact h_s
  clear_value v5
  extract_lets +onlyGivenNames v12
  clear_value v12
  extract_lets +onlyGivenNames v13
  clear_value v13
  extract_lets +onlyGivenNames v14
  clear_value v14
  apply State.setDom_keeps
  exact h6

theorem deliver_keeps {s₀ : State} (s : State) (ch : Nat) (f : Nat) (j : Nat) (m : InMsg) (p : Packet) (space : Bool) (h_s : Keeps s₀ s) : Keeps s₀ (deliver s ch f j m p space).snd := by
  unfold deliver
  split
  · rename_i x1 x2
    refine Keeps.mkPair ?_
    apply msgArrived_keeps
    exact h_s
  · rename_i x3 x4 x5 x6
    refine ite_of (fun (p : _ × State) => Keeps s₀ p.2) ?_ ?_
    · refine Keeps.mkPair ?_
      apply msgArrived_keeps
      exact h_s
    · refine ite_of (fun (p : _ × State) => Keeps s₀ p.2) ?_ ?_
      · exact h_s
      · split
        · rename_i x7 x8 x9
          have h10 : Keeps s₀ x8 := by
            refine Keeps.ofPair ?_ x9
            apply xlate_keeps
            exact h_s
          exact h10
        · rename_i x11 x12 x13
          have h14 : Keeps s₀ x12 := by
            refine Keeps.ofPair ?_ x13
            apply xlate_keeps
            exact h_s
          split
          · rename_i x15 x16 x17 x18
            refine Keeps.mkPair ?_
            apply domLost_keeps
            exact h14
          · rename_i x19 x20
            refine Keeps.mkPair ?_
            apply msgArrived_keeps
            exact h14
        · rename_i x21 x22 x23 x24
          have h25 : Keeps s₀ x23 := by
            refine Keeps.ofPair ?_ x24
            apply xlate_keeps
            exact h_s
          extract_lets +onlyGivenNames v26
          have h27 : Keeps s₀ v26.snd := by
            subst v26
            apply meshWrite_keeps
            exact h25
          clear_value v26
          refine Keeps.mkPair ?_
          apply msgArrived_keeps
          exact h27

theorem beginMsg_keeps {s₀ : State} (s : State) (ch : Nat) (m : InMsg) (h_s : Keeps s₀ s) : Keeps s₀ (beginMsg s ch m) := by
  unfold beginMsg
  split
  · rename_i x1 x2 x3
    refine ite_of (Keeps s₀) ?_ ?_
    · exact h_s
    · apply State.setChan_keeps
      exact h_s
  · rename_i x4 x5
    exact h_s

theorem deliverReady_keeps {s₀ : State} (s : State) (f : Nat) (j : Nat) (m : InMsg) (p : Packet) (h_s : Keeps s₀ s) : Keeps s₀ (deliverReady s f j m p).snd := by
  unfold deliverReady
  split
  · rename_i x1 x2
    exact h_s
  · rename_i x3 x4 x5 x6
    refine ite_of (fun (p : _ × State) => Keeps s₀ p.2) ?_ ?_
    · exact h_s
    · split
      · rename_i x7 x8 x9 x10 x11 x12
        exact h_s
      · rename_i x13 x14 x15
        split
        · rename_i x16 x17 x18
          have h19 : Keeps s₀ x17 := by
            refine Keeps.ofPair ?_ x18
            apply xlate_keeps
            exact h_s
          exact h19
        · rename_i x20 x21 x22 x23 x24
          have h25 : Keeps s₀ x22 := by
            refine Keeps.ofPair ?_ x24
            apply xlate_keeps
            exact h_s
          exact h25

theorem receiveSend_keeps {s₀ : State} (s : State) (ch : Nat) (owner : Nat) (gen : Nat) (p : Packet) (space : Bool) (h_s : Keeps s₀ s) : Keeps s₀ (receiveSend s ch owner gen p space).snd := by
  unfold receiveSend
  refine ite_of (fun (p : _ × State) => Keeps s₀ p.2) ?_ ?_
  · exact h_s
  · extract_lets +onlyGivenNames v1
    clear_value v1
    extract_lets +onlyGivenNames v2
    clear_value v2
    extract_lets +onlyGivenNames v3
    clear_value v3
    extract_lets +onlyGivenNames v4
    clear_value v4
    extract_lets +onlyGivenNames v5
    clear_value v5
    split
    · rename_i x6 x7 x8
      split
      · rename_i x9 x10 x11
        refine Keeps.mkPair ?_
        apply msgArrived_keeps
        exact h_s
      · rename_i x12 x13 x14 x15 x16 x17
        apply deliver_keeps
        exact h_s
      · rename_i x18 x19 x20 x21
        exact h_s
    · rename_i x22 x23
      split
      · rename_i x24 x25
        exact h_s
      · rename_i x26 x27 x28 x29
        refine ite_of (fun (p : _ × State) => Keeps s₀ p.2) ?_ ?_
        · exact h_s
        · refine ite_of (fun (p : _ × State) => Keeps s₀ p.2) ?_ ?_
          · exact h_s
          · extract_lets +onlyGivenNames v30
            clear_value v30
            extract_lets +onlyGivenNames v31
            clear_value v31
            extract_lets +onlyGivenNames v32
            clear_value v32
            extract_lets +onlyGivenNames v33
            have h34 : ∀ (t : State), Keeps s₀ t → Keeps s₀ (v33 t).snd := by
              subst v33
              intro y35 y36
              dsimp -zeta only
              apply State.bump_keeps
              exact y36
            clear_value v33
            split
            · rename_i x37 x38
              extract_lets +onlyGivenNames v39
              clear_value v39
              refine ite_of (fun (p : _ × State) => Keeps s₀ p.2) ?_ ?_
              · refine Keeps.mkPair ?_
                apply bindHead_keeps
                apply countSearch_keeps
                exact h_s
              · refine ite_of (fun (p : _ × State) => Keeps s₀ p.2) ?_ ?_
                · apply h34
                  exact h_s
                · split
                  · rename_i x40 x41 x42
                    have h43 : Keeps s₀ x41 := by
                      refine Keeps.ofPair ?_ x42
                      apply deliverReady_keeps
                      exact h_s
                    exact h43
                  · rename_i x44 x45 x46
                    have h47 : Keeps s₀ x45 := by
                      refine Keeps.ofPair ?_ x46
                      apply deliverReady_keeps
                      exact h_s
                    apply deliver_keeps
                    apply beginMsg_keeps
                    apply bindHead_keeps
                    apply countSearch_keeps
                    exact h47
            · rename_i x48
              split
              · rename_i x49 x50
                apply h34
                apply ovfFull_keeps
                exact h_s
              · rename_i x51 x52 x53
                extract_lets +onlyGivenNames v54
                clear_value v54
                split
                · rename_i x55 x56
                  apply h34
                  exact h_s
                · rename_i x57 x58 x59
                  split
                  · rename_i x60 x61 x62
                    have h63 : Keeps s₀ x61 := by
                      refine Keeps.ofPair ?_ x62
                      refine ite_of (fun (p : _ × State) => Keeps s₀ p.2) ?_ ?_
                      · exact h_s
                      · apply ovfWrite_keeps
                        exact h_s
                    exact h63
                  · rename_i x64 x65 x66
                    have h67 : Keeps s₀ x65 := by
                      refine Keeps.ofPair ?_ x66
                      refine ite_of (fun (p : _ × State) => Keeps s₀ p.2) ?_ ?_
                      · exact h_s
                      · apply ovfWrite_keeps
                        exact h_s
                    refine Keeps.mkPair ?_
                    apply domLost_keeps
                    exact h67
                  · rename_i x68 x69 x70 x71
                    have h72 : Keeps s₀ x70 := by
                      refine Keeps.ofPair ?_ x71
                      refine ite_of (fun (p : _ × State) => Keeps s₀ p.2) ?_ ?_
                      · exact h_s
                      · apply ovfWrite_keeps
                        exact h_s
                    refine ite_of (fun (p : _ × State) => Keeps s₀ p.2) ?_ ?_
                    · refine Keeps.mkPair ?_
                      apply fileHead_keeps
                      apply countSearch_keeps
                      exact h72
                    · extract_lets +onlyGivenNames v73
                      clear_value v73
                      split
                      · rename_i x74 x75 x76
                        have h77 : Keeps s₀ x75 := by
                          refine Keeps.ofPair ?_ x76
                          apply deliverReady_keeps
                          exact h72
                        exact h77
                      · rename_i x78 x79 x80
                        have h81 : Keeps s₀ x79 := by
                          refine Keeps.ofPair ?_ x80
                          apply deliverReady_keeps
                          exact h72
                        apply deliver_keeps
                        apply beginMsg_keeps
                        apply fileHead_keeps
                        apply countSearch_keeps
                        exact h81

theorem abortMsgs_keeps {s₀ : State} (s : State) (ch : Nat) (h_s : Keeps s₀ s) : Keeps s₀ (abortMsgs s ch) := by
  unfold abortMsgs
  extract_lets +onlyGivenNames v1
  clear_value v1
  extract_lets +onlyGivenNames v2
  clear_value v2
  extract_lets +onlyGivenNames v3
  have h4 : Keeps s₀ v3 := by
    subst v3
    refine Keeps.upd ?_ rfl
    exact h_s
  clear_value v3
  refine Keeps.foldl ?_ ?_
  · exact h4
  · intro y5 y6 y7
    extract_lets +onlyGivenNames v8
    clear_value v8
    extract_lets +onlyGivenNames v9
    clear_value v9
    extract_lets +onlyGivenNames v10
    clear_value v10
    refine ite_of (Keeps s₀) ?_ ?_
    · exact y7
    · extract_lets +onlyGivenNames v11
      have h12 : Keeps s₀ v11 := by
        subst v11
        refine Keeps.foldl ?_ ?_
        · exact y7
        · intro y13 y14 y15
          apply completeRecv_keeps
          exact y15
      clear_value v11
      extract_lets +onlyGivenNames v16
      have h17 : Keeps s₀ v16 := by
        subst v16
        refine Keeps.foldl ?_ ?_
        · exact h12
        · intro y18 y19 y20
          apply completeRecv_keeps
          exact y20
      clear_value v16
      extract_lets +onlyGivenNames v21
      clear_value v21
      extract_lets +onlyGivenNames v22
      clear_value v22
      apply State.setDom_keeps
      exact h17


/-! ### Machine/TransportOps.lean -/

theorem farEnd_keeps {s₀ : State} (s : State) (a : Nat) (id : Nat) (r : FarEnd) (h_s : Keeps s₀ s) : Keeps s₀ (farEnd s a id r) := by
  unfold farEnd
  extract_lets +onlyGivenNames v1
  clear_value v1
  split
  · rename_i x2 x3
    exact h_s
  · rename_i x4 x5 x6
    apply State.emit_keeps
    apply State.setAtt_keeps
    exact h_s

theorem farDropEvent_keeps {s₀ : State} (s : State) (a : Nat) (w : Nat) (off : Nat) (h_s : Keeps s₀ s) : Keeps s₀ (farDropEvent s a w off) := by
  unfold farDropEvent
  extract_lets +onlyGivenNames v1
  have h2 : Keeps s₀ v1 := by
    subst v1
    apply State.setEvt_keeps
    apply State.bump_keeps
    exact h_s
  clear_value v1
  refine ite_of (Keeps s₀) ?_ ?_
  · exact h2
  · extract_lets +onlyGivenNames v3
    clear_value v3
    apply raiseEvent_keeps
    apply State.setAtt_keeps
    exact h2

theorem completeJobs_keeps {s₀ : State} (s : State) (ch k : Nat) (h_s : Keeps s₀ s) : Keeps s₀ (completeJobs s ch k) := by
  induction k generalizing s with
  | zero =>
    unfold completeJobs
    exact h_s
  | succ n ih =>
    unfold completeJobs
    split
    · rename_i x1 x2
      exact h_s
    · rename_i x3 x4 x5
      split
      · rename_i x6 x7
        exact h_s
      · rename_i x8 x9 x10
        extract_lets +onlyGivenNames v11
        have h12 : Keeps s₀ v11 := by
          subst v11
          apply State.setChan_keeps
          exact h_s
        clear_value v11
        extract_lets +onlyGivenNames v13
        have h14 : Keeps s₀ v13 := by
          subst v13
          split
          · rename_i x15 x16 x17 x18 x19 x20 x21
            apply completeWq_keeps
            exact h12
          · rename_i x22 x23
            exact h12
        clear_value v13
        apply ih
        exact h14

theorem finishJobs_keeps {s₀ : State} (s : State) (ch : Nat) (h_s : Keeps s₀ s) : Keeps s₀ (finishJobs s ch) := by
  unfold finishJobs
  extract_lets +onlyGivenNames v1
  clear_value v1
  apply completeJobs_keeps
  refine Keeps.foldl ?_ ?_
  · exact h_s
  · intro y2 y3 y4
    split
    · rename_i x5 x6 x7 x8 x9 x10 x11
      refine ite_of (Keeps s₀) ?_ ?_
      · apply trailMark_keeps
        exact y4
      · exact y4
    · rename_i x12 x13
      exact y4

theorem setFence_keeps {s₀ : State} (s : State) (l : List FenceHeld) (h_s : Keeps s₀ s) : Keeps s₀ (setFence s l) := by
  unfold setFence
  apply State.wr_keeps
  refine Keeps.upd ?_ rfl
  exact h_s

theorem freeFence_keeps {s₀ : State} (s : State) (ch : Nat) (h_s : Keeps s₀ s) : Keeps s₀ (freeFence s ch) := by
  unfold freeFence
  apply setFence_keeps
  exact h_s

theorem flush_keeps {s₀ : State} (s : State) (ch : Nat) (status : Nat) (psn : Nat) (w6 : Nat) (quiet : Bool) (h_s : Keeps s₀ s) : Keeps s₀ (flush s ch status psn w6 quiet) := by
  unfold flush
  split
  · rename_i x1 x2
    exact h_s
  · rename_i x3 x4 x5
    extract_lets +onlyGivenNames v6
    clear_value v6
    extract_lets +onlyGivenNames v7
    have h8 : Keeps s₀ v7 := by
      subst v7
      refine Keeps.foldl ?_ ?_
      · exact h_s
      · intro y9 y10 y11
        apply endRead_keeps
        exact y11
    clear_value v7
    extract_lets +onlyGivenNames v12
    have h13 : Keeps s₀ v12 := by
      subst v12
      split
      · rename_i x14 x15 x16 x17 x18
        apply endRead_keeps
        exact h8
      · rename_i x19 x20
        exact h8
    clear_value v12
    extract_lets +onlyGivenNames v21
    clear_value v21
    extract_lets +onlyGivenNames v22
    clear_value v22
    extract_lets +onlyGivenNames v23
    have h24 : Keeps s₀ v23 := by
      subst v23
      apply trailChanEnds_keeps
      apply State.setChan_keeps
      exact h13
    clear_value v23
    refine Keeps.foldl ?_ ?_
    · exact h24
    · intro y25 y26 y27
      split
      · rename_i x28 x29 x30 x31 x32 x33 x34
        refine ite_of (Keeps s₀) ?_ ?_
        · exact y27
        · apply completeWq_keeps
          exact y27
      · rename_i x35 x36 x37 x38 x39 x40
        refine ite_of (Keeps s₀) ?_ ?_
        · apply farEnd_keeps
          exact y27
        · apply farDropEvent_keeps
          exact y27
      · rename_i x41 x42 x43
        exact y27

theorem cmdDone_keeps {s₀ : State} (s : State) (fn : Option Nat) (ch : Nat) (result : Nat) (gen : Option Nat) (h_s : Keeps s₀ s) : Keeps s₀ (cmdDone s fn ch result gen) := by
  unfold cmdDone
  split
  · rename_i x1 x2
    extract_lets +onlyGivenNames v3
    have h4 : Keeps s₀ v3 := by
      subst v3
      apply State.wr_keeps
      apply State.wr_keeps
      exact h_s
    clear_value v3
    split
    · rename_i x5 x6
      apply State.wr_keeps
      exact h4
    · rename_i x7
      exact h4
  · rename_i x8
    extract_lets +onlyGivenNames v9
    have h10 : Keeps s₀ v9 := by
      subst v9
      apply State.wr_keeps
      apply State.wr_keeps
      exact h_s
    clear_value v9
    split
    · rename_i x11 x12
      apply State.wr_keeps
      exact h10
    · rename_i x13
      exact h10

theorem toClosed_keeps {s₀ : State} (s : State) (ch : Nat) (h_s : Keeps s₀ s) : Keeps s₀ (toClosed s ch) := by
  unfold toClosed
  split
  · rename_i x1 x2
    exact h_s
  · rename_i x3 x4 x5
    extract_lets +onlyGivenNames v6
    clear_value v6
    extract_lets +onlyGivenNames v7
    clear_value v7
    extract_lets +onlyGivenNames v8
    have h9 : Keeps s₀ v8 := by
      subst v8
      apply freeFence_keeps
      apply State.setChan_keeps
      exact h_s
    clear_value v8
    refine Keeps.foldl ?_ ?_
    · exact h9
    · intro y10 y11 y12
      apply cmdDone_keeps
      exact y12

theorem closeNow_keeps {s₀ : State} (s : State) (ch : Nat) (quiet : Bool) (h_s : Keeps s₀ s) : Keeps s₀ (closeNow s ch quiet) := by
  unfold closeNow
  apply toClosed_keeps
  apply abortMsgs_keeps
  apply flush_keeps
  exact h_s

theorem chanError_keeps {s₀ : State} (s : State) (ch : Nat) (code : Nat) (psn : Nat) (h_s : Keeps s₀ s) : Keeps s₀ (chanError s ch code psn) := by
  unfold chanError
  split
  · rename_i x1 x2
    exact h_s
  · rename_i x3 x4 x5
    extract_lets +onlyGivenNames v6
    clear_value v6
    extract_lets +onlyGivenNames v7
    clear_value v7
    extract_lets +onlyGivenNames v8
    have h9 : Keeps s₀ v8 := by
      subst v8
      apply State.setChan_keeps
      exact h_s
    clear_value v8
    extract_lets +onlyGivenNames v10
    have h11 : Keeps s₀ v10 := by
      subst v10
      apply freeFence_keeps
      apply abortMsgs_keeps
      apply flush_keeps
      exact h9
    clear_value v10
    extract_lets +onlyGivenNames v12
    have h13 : Keeps s₀ v12 := by
      subst v12
      apply raiseEvent_keeps
      apply State.setEvt_keeps
      exact h11
    clear_value v12
    refine ite_of (Keeps s₀) ?_ ?_
    · exact h13
    · apply closeNow_keeps
      exact h13

theorem writeCtx_keeps {s₀ : State} (s : State) (ch : Nat) (c : Ctx) (h_s : Keeps s₀ s) : Keeps s₀ (writeCtx s ch c) := by
  unfold writeCtx
  extract_lets +onlyGivenNames v1
  clear_value v1
  refine ite_of (Keeps s₀) ?_ ?_
  · apply State.emit_keeps
    exact h_s
  · apply directWrite_keeps
    exact h_s

theorem dropChan_keeps {s₀ : State} (s : State) (ch : Nat) (h_s : Keeps s₀ s) : Keeps s₀ (dropChan s ch) := by
  unfold dropChan
  apply trailChanEnds_keeps
  refine Keeps.upd ?_ rfl
  exact h_s

theorem evictChan_keeps {s₀ : State} (s : State) (ch : Nat) (x : ChanSt) (h_s : Keeps s₀ s) : Keeps s₀ (evictChan s ch x) := by
  unfold evictChan
  extract_lets +onlyGivenNames v1
  clear_value v1
  apply dropChan_keeps
  refine Keeps.upd ?_ rfl
  exact h_s

theorem askSlot_keeps {s₀ : State} (s : State) (c : Nat) (h_s : Keeps s₀ s) : Keeps s₀ (askSlot s c).snd := by
  unfold askSlot
  refine ite_of (fun (p : _ × State) => Keeps s₀ p.2) ?_ ?_
  · exact h_s
  · split
    · rename_i x1 x2
      exact h_s
    · rename_i x3 x4 x5 x6
      extract_lets +onlyGivenNames v7
      have h8 : Keeps s₀ v7 := by
        subst v7
        apply cnt1_keeps
        apply State.bump_keeps
        exact h_s
      clear_value v7
      refine ite_of (fun (p : _ × State) => Keeps s₀ p.2) ?_ ?_
      · refine Keeps.mkPair ?_
        apply writeCtx_keeps
        apply State.setChan_keeps
        exact h8
      · refine Keeps.mkPair ?_
        apply evictChan_keeps
        exact h8

theorem startFetch_keeps {s₀ : State} (s : State) (ch : Nat) (waits : Bool) (src : Option Nat) (h_s : Keeps s₀ s) : Keeps s₀ (startFetch s ch waits src) := by
  unfold startFetch
  extract_lets +onlyGivenNames v1
  clear_value v1
  extract_lets +onlyGivenNames v2
  clear_value v2
  refine ite_of (Keeps s₀) ?_ ?_
  · exact h_s
  · extract_lets +onlyGivenNames v3
    have h4 : Keeps s₀ v3 := by
      subst v3
      apply State.setChan_keeps
      exact h_s
    clear_value v3
    refine ite_of (Keeps s₀) ?_ ?_
    · exact h4
    · extract_lets +onlyGivenNames v5
      have h6 : Keeps s₀ v5 := by
        subst v5
        apply cnt1_keeps
        apply State.bump_keeps
        exact h4
      clear_value v5
      refine ite_of (Keeps s₀) ?_ ?_
      · apply State.emit_keeps
        exact h6
      · exact h6

theorem hamperFull_keeps {s₀ : State} (s : State) (c : Nat) (h_s : Keeps s₀ s) : Keeps s₀ (hamperFull s c) := by
  unfold hamperFull
  extract_lets +onlyGivenNames v1
  have h2 : Keeps s₀ v1 := by
    subst v1
    apply State.setEvt_keeps
    apply State.bump_keeps
    exact h_s
  clear_value v1
  refine ite_of (Keeps s₀) ?_ ?_
  · exact h2
  · apply raiseEvent_keeps
    refine Keeps.upd ?_ rfl
    exact h2

theorem park_keeps {s₀ : State} (s : State) (ch : Nat) (p : Packet) (h_s : Keeps s₀ s) : Keeps s₀ (park s ch p) := by
  unfold park
  extract_lets +onlyGivenNames v1
  clear_value v1
  extract_lets +onlyGivenNames v2
  clear_value v2
  extract_lets +onlyGivenNames v3
  have h4 : Keeps s₀ v3.snd := by
    subst v3
    refine ite_of (fun (p : _ × State) => Keeps s₀ p.2) ?_ ?_
    · exact h_s
    · refine ite_of (fun (p : _ × State) => Keeps s₀ p.2) ?_ ?_
      · refine Keeps.mkPair ?_
        apply hamperFull_keeps
        exact h_s
      · split
        · rename_i x5 x6 x7
          have h8 : Keeps s₀ x6 := by
            refine Keeps.ofPair ?_ x7
            apply askSlot_keeps
            exact h_s
          refine Keeps.mkPair ?_
          apply startFetch_keeps
          exact h8
        · rename_i x9 x10 x11 x12
          have h13 : Keeps s₀ x11 := by
            refine Keeps.ofPair ?_ x12
            apply askSlot_keeps
            exact h_s
          refine Keeps.mkPair ?_
          apply startFetch_keeps
          exact h13
        · rename_i x14 x15 x16
          have h17 : Keeps s₀ x15 := by
            refine Keeps.ofPair ?_ x16
            apply askSlot_keeps
            exact h_s
          refine Keeps.mkPair ?_
          apply hamperFull_keeps
          exact h17
  clear_value v3
  extract_lets +onlyGivenNames v18
  have h19 : Keeps s₀ v18 := by
    subst v18
    exact h4
  clear_value v18
  refine ite_of (Keeps s₀) ?_ ?_
  · exact h19
  · split
    · rename_i x20 x21
      exact h19
    · rename_i x22 x23 x24
      extract_lets +onlyGivenNames v25
      clear_value v25
      refine ite_of (Keeps s₀) ?_ ?_
      · extract_lets +onlyGivenNames v26
        have h27 : Keeps s₀ v26 := by
          subst v26
          apply State.setChan_keeps
          exact h19
        clear_value v26
        extract_lets +onlyGivenNames v28
        have h29 : Keeps s₀ v28 := by
          subst v28
          refine ite_of (Keeps s₀) ?_ ?_
          · apply trailEnd_keeps
            exact h27
          · exact h27
        clear_value v28
        apply State.setEvt_keeps
        apply State.bump_keeps
        exact h29
      · apply cnt1_keeps
        apply State.bump_keeps
        apply State.setChan_keeps
        exact h19

theorem targetChunks_keeps {s₀ : State} (s : State) (f : Nat) (rkey : Nat) (a : Nat) (n : Nat) (right : Nat) (write : Bool) (h_s : Keeps s₀ s) : Keeps s₀ (targetChunks s f rkey a n right write).snd := by
  unfold targetChunks
  split
  · rename_i x1 x2 x3
    have h4 : Keeps s₀ x2 := by
      refine Keeps.ofPair ?_ x3
      apply keyCheck_keeps
      exact h_s
    exact h4
  · rename_i x5 x6 x7
    have h8 : Keeps s₀ x6 := by
      refine Keeps.ofPair ?_ x7
      apply keyCheck_keeps
      exact h_s
    exact h8
  · rename_i x9 x10 x11 x12
    have h13 : Keeps s₀ x11 := by
      refine Keeps.ofPair ?_ x12
      apply keyCheck_keeps
      exact h_s
    split
    · rename_i x14 x15 x16
      have h17 : Keeps s₀ x15 := by
        refine Keeps.ofPair ?_ x16
        apply xlate_keeps
        exact h13
      exact h17
    · rename_i x18 x19 x20
      have h21 : Keeps s₀ x19 := by
        refine Keeps.ofPair ?_ x20
        apply xlate_keeps
        exact h13
      exact h21
    · rename_i x22 x23 x24 x25
      have h26 : Keeps s₀ x24 := by
        refine Keeps.ofPair ?_ x25
        apply xlate_keeps
        exact h13
      exact h26

theorem notifyExec_keeps {s₀ : State} (s : State) (ch : Nat) (c : Ctx) (p : Packet) (h_s : Keeps s₀ s) : Keeps s₀ (notifyExec s ch c p).snd := by
  unfold notifyExec
  extract_lets +onlyGivenNames v1
  clear_value v1
  extract_lets +onlyGivenNames v2
  clear_value v2
  extract_lets +onlyGivenNames v3
  clear_value v3
  split
  · rename_i x4 x5 x6 x7 x8
    refine ite_of (fun (p : _ × State) => Keeps s₀ p.2) ?_ ?_
    · exact h_s
    · extract_lets +onlyGivenNames v9
      clear_value v9
      extract_lets +onlyGivenNames v10
      clear_value v10
      extract_lets +onlyGivenNames v11
      have h12 : Keeps s₀ v11 := by
        subst v11
        apply cqPut_keeps
        apply cqReserve_keeps
        exact h_s
      clear_value v11
      refine Keeps.mkPair ?_
      refine ite_of (Keeps s₀) ?_ ?_
      · apply cqPut_keeps
        exact h12
      · exact h12
  · rename_i x13 x14 x15
    exact h_s

theorem finExec_keeps {s₀ : State} (s : State) (ch : Nat) (p : Packet) (h_s : Keeps s₀ s) : Keeps s₀ (finExec s ch p).snd := by
  unfold finExec
  split
  · rename_i x1 x2
    exact h_s
  · rename_i x3 x4 x5
    split
    · rename_i x6 x7 x8
      refine Keeps.mkPair ?_
      apply State.setChan_keeps
      exact h_s
    · rename_i x9 x10
      refine Keeps.mkPair ?_
      apply State.setEvt_keeps
      apply State.bump_keeps
      exact h_s

theorem execReq_keeps {s₀ : State} (s : State) (ch : Nat) (p : Packet) (space : Bool) (h_s : Keeps s₀ s) : Keeps s₀ (execReq s ch p space).snd := by
  unfold execReq
  split
  · rename_i x1 x2
    exact h_s
  · rename_i x3 x4 x5
    extract_lets +onlyGivenNames v6
    clear_value v6
    extract_lets +onlyGivenNames v7
    clear_value v7
    extract_lets +onlyGivenNames v8
    clear_value v8
    refine ite_of (fun (p : _ × State) => Keeps s₀ p.2) ?_ ?_
    · exact h_s
    · refine ite_of (fun (p : _ × State) => Keeps s₀ p.2) ?_ ?_
      · split
        · rename_i x9 x10 x11 x12
          have h13 : Keeps s₀ x11 := by
            refine Keeps.ofPair ?_ x12
            apply targetChunks_keeps
            exact h_s
          exact h13
        · rename_i x14 x15 x16 x17
          have h18 : Keeps s₀ x16 := by
            refine Keeps.ofPair ?_ x17
            apply targetChunks_keeps
            exact h_s
          refine ite_of (fun (p : _ × State) => Keeps s₀ p.2) ?_ ?_
          · exact h18
          · extract_lets +onlyGivenNames v19
            have h20 : Keeps s₀ v19 := by
              subst v19
              apply chanEv_keeps
              exact h18
            clear_value v19
            extract_lets +onlyGivenNames v21
            have h22 : Keeps s₀ v21.snd := by
              subst v21
              apply meshWrite_keeps
              exact h20
            clear_value v21
            exact h22
      · refine ite_of (fun (p : _ × State) => Keeps s₀ p.2) ?_ ?_
        · split
          · rename_i x23 x24 x25 x26
            have h27 : Keeps s₀ x25 := by
              refine Keeps.ofPair ?_ x26
              apply targetChunks_keeps
              exact h_s
            exact h27
          · rename_i x28 x29 x30 x31
            have h32 : Keeps s₀ x30 := by
              refine Keeps.ofPair ?_ x31
              apply targetChunks_keeps
              exact h_s
            refine ite_of (fun (p : _ × State) => Keeps s₀ p.2) ?_ ?_
            · exact h32
            · extract_lets +onlyGivenNames v33
              have h34 : Keeps s₀ v33.snd := by
                subst v33
                apply meshRead_keeps
                exact h32
              clear_value v33
              split
              · rename_i x35 x36
                exact h34
              · rename_i x37 x38 x39
                refine Keeps.mkPair ?_
                apply State.setChan_keeps
                exact h34
        · refine ite_of (fun (p : _ × State) => Keeps s₀ p.2) ?_ ?_
          · split
            · rename_i x40 x41 x42
              have h43 : Keeps s₀ x41 := by
                refine Keeps.ofPair ?_ x42
                apply receiveSend_keeps
                exact h_s
              exact h43
            · rename_i x44 x45 x46
              have h47 : Keeps s₀ x45 := by
                refine Keeps.ofPair ?_ x46
                apply receiveSend_keeps
                exact h_s
              exact h47
            · rename_i x48 x49 x50
              have h51 : Keeps s₀ x49 := by
                refine Keeps.ofPair ?_ x50
                apply receiveSend_keeps
                exact h_s
              exact h51
            · rename_i x52 x53 x54 x55
              have h56 : Keeps s₀ x54 := by
                refine Keeps.ofPair ?_ x55
                apply receiveSend_keeps
                exact h_s
              exact h56
          · refine ite_of (fun (p : _ × State) => Keeps s₀ p.2) ?_ ?_
            · apply notifyExec_keeps
              exact h_s
            · apply finExec_keeps
              exact h_s

theorem advance_keeps {s₀ : State} (s : State) (ch : Nat) (p : Packet) (cmps : Nat) (h_s : Keeps s₀ s) : Keeps s₀ (advance s ch p cmps) := by
  unfold advance
  split
  · rename_i x1 x2
    exact h_s
  · rename_i x3 x4 x5
    extract_lets +onlyGivenNames v6
    clear_value v6
    extract_lets +onlyGivenNames v7
    clear_value v7
    extract_lets +onlyGivenNames v8
    clear_value v8
    extract_lets +onlyGivenNames v9
    clear_value v9
    extract_lets +onlyGivenNames v10
    clear_value v10
    extract_lets +onlyGivenNames v11
    clear_value v11
    extract_lets +onlyGivenNames v12
    have h13 : Keeps s₀ v12 := by
      subst v12
      apply State.setChan_keeps
      exact h_s
    clear_value v12
    apply finishJobs_keeps
    apply tryAck_keeps
    refine ite_of (Keeps s₀) ?_ ?_
    · apply trailMark_keeps
      exact h13
    · exact h13

theorem refuse_keeps {s₀ : State} (s : State) (ch : Nat) (code : Nat) (err : Nat) (psn : Nat) (h_s : Keeps s₀ s) : Keeps s₀ (refuse s ch code err psn) := by
  unfold refuse
  apply chanError_keeps
  apply sendNak_keeps
  exact h_s

theorem step67_keeps {s₀ : State} (s : State) (ch : Nat) (p : Packet) (dup : Bool) (space : Bool) (h_s : Keeps s₀ s) : Keeps s₀ (step67 s ch p dup space).snd := by
  unfold step67
  split
  · rename_i x1 x2 x3
    have h4 : Keeps s₀ x2 := by
      refine Keeps.ofPair ?_ x3
      apply execReq_keeps
      exact h_s
    exact h4
  · rename_i x5 x6 x7 x8 x9
    have h10 : Keeps s₀ x8 := by
      refine Keeps.ofPair ?_ x9
      apply execReq_keeps
      exact h_s
    refine Keeps.mkPair ?_
    apply refuse_keeps
    exact h10
  · rename_i x11 x12 x13
    have h14 : Keeps s₀ x12 := by
      refine Keeps.ofPair ?_ x13
      apply execReq_keeps
      exact h_s
    refine Keeps.mkPair ?_
    apply sendNak_keeps
    exact h14
  · rename_i x15 x16 x17 x18
    have h19 : Keeps s₀ x17 := by
      refine Keeps.ofPair ?_ x18
      apply execReq_keeps
      exact h_s
    extract_lets +onlyGivenNames v20
    clear_value v20
    extract_lets +onlyGivenNames v21
    have h22 : Keeps s₀ v21 := by
      subst v21
      apply trailDa_keeps
      apply trailMark_keeps
      exact h19
    clear_value v21
    refine Keeps.mkPair ?_
    refine ite_of (Keeps s₀) ?_ ?_
    · exact h22
    · apply advance_keeps
      exact h22

theorem duplicate_keeps {s₀ : State} (s : State) (ch : Nat) (p : Packet) (space : Bool) (h_s : Keeps s₀ s) : Keeps s₀ (duplicate s ch p space).snd := by
  unfold duplicate
  extract_lets +onlyGivenNames v1
  have h2 : Keeps s₀ v1.snd := by
    subst v1
    refine ite_of (fun (p : _ × State) => Keeps s₀ p.2) ?_ ?_
    · apply step67_keeps
      exact h_s
    · exact h_s
  clear_value v1
  extract_lets +onlyGivenNames v3
  clear_value v3
  refine ite_of (fun (p : _ × State) => Keeps s₀ p.2) ?_ ?_
  · exact h2
  · refine Keeps.mkPair ?_
    apply ackDue_keeps
    apply chanEv_keeps
    apply State.bump_keeps
    exact h2

theorem fenceHold_keeps {s₀ : State} (s : State) (ch : Nat) (p : Packet) (h_s : Keeps s₀ s) : Keeps s₀ (fenceHold s ch p) := by
  unfold fenceHold
  extract_lets +onlyGivenNames v1
  clear_value v1
  refine ite_of (Keeps s₀) ?_ ?_
  · apply sendNak_keeps
    apply State.bump_keeps
    exact h_s
  · extract_lets +onlyGivenNames v2
    clear_value v2
    apply setFence_keeps
    exact h_s

theorem sequence_keeps {s₀ : State} (s : State) (ch : Nat) (x : ChanSt) (p : Packet) (space : Bool) (h_s : Keeps s₀ s) : Keeps s₀ (sequence s ch x p space).snd := by
  unfold sequence
  extract_lets +onlyGivenNames v1
  clear_value v1
  extract_lets +onlyGivenNames v2
  clear_value v2
  refine ite_of (fun (p : _ × State) => Keeps s₀ p.2) ?_ ?_
  · refine ite_of (fun (p : _ × State) => Keeps s₀ p.2) ?_ ?_
    · apply duplicate_keeps
      exact h_s
    · refine ite_of (fun (p : _ × State) => Keeps s₀ p.2) ?_ ?_
      · refine Keeps.mkPair ?_
        apply State.bump_keeps
        exact h_s
      · refine ite_of (fun (p : _ × State) => Keeps s₀ p.2) ?_ ?_
        · refine ite_of (fun (p : _ × State) => Keeps s₀ p.2) ?_ ?_
          · exact h_s
          · refine ite_of (fun (p : _ × State) => Keeps s₀ p.2) ?_ ?_
            · apply step67_keeps
              exact h_s
            · refine Keeps.mkPair ?_
              apply fenceHold_keeps
              exact h_s
        · apply step67_keeps
          exact h_s
  · refine ite_of (fun (p : _ × State) => Keeps s₀ p.2) ?_ ?_
    · apply step67_keeps
      exact h_s
    · refine ite_of (fun (p : _ × State) => Keeps s₀ p.2) ?_ ?_
      · apply duplicate_keeps
        exact h_s
      · refine ite_of (fun (p : _ × State) => Keeps s₀ p.2) ?_ ?_
        · exact h_s
        · refine Keeps.mkPair ?_
          apply trailEnd_keeps
          apply sendNak_keeps
          exact h_s

theorem drawSpace_keeps {s₀ : State} (s : State) (p : Packet) (h_s : Keeps s₀ s) : Keeps s₀ (drawSpace s p).snd := by
  unfold drawSpace
  refine ite_of (fun (p : _ × State) => Keeps s₀ p.2) ?_ ?_
  · refine Keeps.mkPair ?_
    apply State.spend_keeps
    exact h_s
  · exact h_s

theorem releaseFence_keeps {s₀ : State} (s : State) (ch k : Nat) (h_s : Keeps s₀ s) : Keeps s₀ (releaseFence s ch k) := by
  induction k generalizing s with
  | zero =>
    unfold releaseFence
    exact h_s
  | succ n ih =>
    unfold releaseFence
    split
    · rename_i x1 x2
      exact h_s
    · rename_i x3 x4 x5
      extract_lets +onlyGivenNames v6
      clear_value v6
      split
      · rename_i x7
        exact h_s
      · rename_i x8 x9
        extract_lets +onlyGivenNames v10
        have h11 : Keeps s₀ v10.snd := by
          subst v10
          apply drawSpace_keeps
          exact h_s
        clear_value v10
        extract_lets +onlyGivenNames v12
        have h13 : Keeps s₀ v12.snd := by
          subst v12
          apply step67_keeps
          apply setFence_keeps
          exact h11
        clear_value v12
        refine ite_of (Keeps s₀) ?_ ?_
        · apply setFence_keeps
          exact h13
        · apply ih
          exact h13

theorem releaseAll_keeps {s₀ : State} (s : State) (ch : Nat) (h_s : Keeps s₀ s) : Keeps s₀ (releaseAll s ch) := by
  unfold releaseAll
  apply releaseFence_keeps
  exact h_s

theorem countCe_keeps {s₀ : State} (s : State) (ch : Nat) (p : Packet) (h_s : Keeps s₀ s) : Keeps s₀ (countCe s ch p) := by
  unfold countCe
  refine ite_of (Keeps s₀) ?_ ?_
  · exact h_s
  · split
    · rename_i x1 x2
      exact h_s
    · rename_i x3 x4 x5
      extract_lets +onlyGivenNames v6
      extract_lets +onlyGivenNames v7
      clear_value v7
      extract_lets +onlyGivenNames v8
      clear_value v8
      extract_lets +onlyGivenNames v9
      have h10 : Keeps s₀ v9 := by
        subst v9
        apply State.bump_keeps
        apply State.setChan_keeps
        exact h_s
      clear_value v9
      apply chanEv_keeps
      exact h10

theorem onContext_keeps {s₀ : State} (s : State) (ch : Nat) (p : Packet) (space : Bool) (h_s : Keeps s₀ s) : Keeps s₀ (onContext s ch p space).snd := by
  unfold onContext
  split
  · rename_i x1 x2
    exact h_s
  · rename_i x3 x4 x5
    extract_lets +onlyGivenNames v6
    clear_value v6
    extract_lets +onlyGivenNames v7
    clear_value v7
    extract_lets +onlyGivenNames v8
    have h9 : Keeps s₀ v8 := by
      subst v8
      apply trailMark_keeps
      exact h_s
    clear_value v8
    refine ite_of (fun (p : _ × State) => Keeps s₀ p.2) ?_ ?_
    · refine Keeps.mkPair ?_
      apply recordError_keeps
      apply State.setEvt_keeps
      apply State.bump_keeps
      exact h9
    · refine ite_of (fun (p : _ × State) => Keeps s₀ p.2) ?_ ?_
      · refine Keeps.mkPair ?_
        apply sendNak_keeps
        exact h9
      · refine ite_of (fun (p : _ × State) => Keeps s₀ p.2) ?_ ?_
        · extract_lets +onlyGivenNames v10
          clear_value v10
          refine Keeps.mkPair ?_
          apply trailEnd_keeps
          apply sendNak_keeps
          exact h9
        · refine ite_of (fun (p : _ × State) => Keeps s₀ p.2) ?_ ?_
          · refine Keeps.mkPair ?_
            apply sendNak_keeps
            exact h9
          · extract_lets +onlyGivenNames v11
            have h12 : Keeps s₀ v11 := by
              subst v11
              apply countCe_keeps
              exact h9
            clear_value v11
            extract_lets +onlyGivenNames v13
            have h14 : Keeps s₀ v13.snd := by
              subst v13
              apply sequence_keeps
              exact h12
            clear_value v13
            refine Keeps.mkPair ?_
            refine ite_of (Keeps s₀) ?_ ?_
            · exact h14
            · apply releaseAll_keeps
              apply tryAck_keeps
              exact h14

theorem trailSettle_keeps {s₀ : State} (s : State) (ch : Nat) (p : Packet) (h_s : Keeps s₀ s) : Keeps s₀ (trailSettle s ch p) := by
  unfold trailSettle
  extract_lets +onlyGivenNames v1
  clear_value v1
  refine ite_of (Keeps s₀) ?_ ?_
  · apply trailEnd_keeps
    exact h_s
  · exact h_s

theorem stall_keeps {s₀ : State} (s : State) (ch : Nat) (p : Packet) (h_s : Keeps s₀ s) : Keeps s₀ (stall s ch p) := by
  unfold stall
  refine Keeps.upd ?_ rfl
  exact h_s

theorem receiveReq_keeps {s₀ : State} (s : State) (p : Packet) (space : Bool) (h_s : Keeps s₀ s) : Keeps s₀ (receiveReq s p space) := by
  unfold receiveReq
  extract_lets +onlyGivenNames v1
  clear_value v1
  extract_lets +onlyGivenNames v2
  have h3 : Keeps s₀ v2 := by
    subst v2
    apply chanEv_keeps
    exact h_s
  clear_value v2
  extract_lets +onlyGivenNames v4
  have h5 : Keeps s₀ v4 := by
    subst v4
    refine ite_of (Keeps s₀) ?_ ?_
    · apply trailStart_keeps
      exact h3
    · exact h3
  clear_value v4
  refine ite_of (Keeps s₀) ?_ ?_
  · apply trailEnd_keeps
    apply State.bump_keeps
    exact h5
  · refine ite_of (Keeps s₀) ?_ ?_
    · apply stall_keeps
      exact h5
    · refine ite_of (Keeps s₀) ?_ ?_
      · apply park_keeps
        exact h5
      · extract_lets +onlyGivenNames v6
        have h7 : Keeps s₀ v6.snd := by
          subst v6
          apply onContext_keeps
          exact h5
        clear_value v6
        refine ite_of (Keeps s₀) ?_ ?_
        · apply stall_keeps
          exact h7
        · apply trailSettle_keeps
          exact h7

theorem missNak_keeps {s₀ : State} (s : State) (ch : Nat) (h_s : Keeps s₀ s) : Keeps s₀ (missNak s ch) := by
  unfold missNak
  split
  · rename_i x1 x2
    exact h_s
  · rename_i x3 x4 x5
    split
    · rename_i x6 x7
      exact h_s
    · rename_i x8 x9 x10
      refine ite_of (Keeps s₀) ?_ ?_
      · exact h_s
      · extract_lets +onlyGivenNames v11
        clear_value v11
        extract_lets +onlyGivenNames v12
        have h13 : Keeps s₀ v12 := by
          subst v12
          apply State.setChan_keeps
          exact h_s
        clear_value v12
        refine ite_of (Keeps s₀) ?_ ?_
        · apply sendNak_keeps
          exact h13
        · exact h13

theorem parkedDone_keeps {s₀ : State} (s : State) (ch : Nat) (h_s : Keeps s₀ s) : Keeps s₀ (parkedDone s ch) := by
  unfold parkedDone
  split
  · rename_i x1 x2
    exact h_s
  · rename_i x3 x4 x5
    refine ite_of (Keeps s₀) ?_ ?_
    · exact h_s
    · apply missNak_keeps
      apply State.setChan_keeps
      exact h_s

theorem resumeGo_keeps {s₀ : State} (s : State) (c : Nat) (k : List Packet) (b : List Nat) (h_s : Keeps s₀ s) : Keeps s₀ (resumeGo s c k b) := by
  induction k generalizing s b with
  | nil =>
    unfold resumeGo
    exact h_s
  | cons g l ih =>
    unfold resumeGo
    extract_lets +onlyGivenNames v1
    clear_value v1
    refine ite_of (Keeps s₀) ?_ ?_
    · apply ih
      apply stall_keeps
      exact h_s
    · extract_lets +onlyGivenNames v2
      have h3 : Keeps s₀ v2.snd := by
        subst v2
        apply drawSpace_keeps
        exact h_s
      clear_value v2
      extract_lets +onlyGivenNames v4
      have h5 : Keeps s₀ v4.snd := by
        subst v4
        apply onContext_keeps
        exact h3
      clear_value v4
      refine ite_of (Keeps s₀) ?_ ?_
      · apply ih
        apply stall_keeps
        exact h5
      · apply ih
        apply parkedDone_keeps
        apply trailSettle_keeps
        exact h5

theorem resumeCluster_keeps {s₀ : State} (s : State) (c : Nat) (h_s : Keeps s₀ s) : Keeps s₀ (resumeCluster s c) := by
  unfold resumeCluster
  extract_lets +onlyGivenNames v1
  clear_value v1
  refine ite_of (Keeps s₀) ?_ ?_
  · exact h_s
  · apply resumeGo_keeps
    refine Keeps.upd ?_ rfl
    exact h_s

theorem resumeAll_keeps {s₀ : State} (s : State) (h_s : Keeps s₀ s) : Keeps s₀ (resumeAll s) := by
  unfold resumeAll
  apply tpSyncAll_keeps
  refine Keeps.foldl ?_ ?_
  · apply drainAll_keeps
    exact h_s
  · intro y1 y2 y3
    apply resumeCluster_keeps
    exact y3

theorem nakStray_keeps {s₀ : State} (s : State) (p : Packet) (code : Nat) (mode : Nat) (cls : Nat) (h_s : Keeps s₀ s) : Keeps s₀ (nakStray s p code mode cls).snd := by
  unfold nakStray
  extract_lets +onlyGivenNames v1
  clear_value v1
  extract_lets +onlyGivenNames v2
  have h3 : Keeps s₀ v2.snd := by
    subst v2
    split
    · rename_i x4 x5
      exact h_s
    · rename_i x6
      refine Keeps.mkPair ?_
      apply State.spend_keeps
      apply State.spend_keeps
      exact h_s
  clear_value v2
  extract_lets +onlyGivenNames v7
  have h8 : Keeps s₀ v7.snd := by
    subst v7
    refine ite_of (fun (p : _ × State) => Keeps s₀ p.2) ?_ ?_
    · refine Keeps.mkPair ?_
      apply State.spend_keeps
      exact h3
    · exact h3
  clear_value v7
  exact h8

theorem arriveGood_keeps {s₀ : State} (s : State) (c : Nat) (p : Packet) (h_s : Keeps s₀ s) : KeepsO s₀ (arriveGood s c p) := by
  unfold arriveGood
  refine ite_of (KeepsO s₀) ?_ ?_
  · refine KeepsO.ofSome ?_
    apply State.bump_keeps
    exact h_s
  · refine ite_of (KeepsO s₀) ?_ ?_
    · extract_lets +onlyGivenNames v1
      have h2 : Keeps s₀ v1 := by
        subst v1
        apply State.bump_keeps
        exact h_s
      clear_value v1
      refine KeepsO.ofSome ?_
      refine ite_of (Keeps s₀) ?_ ?_
      · apply State.bump_keeps
        exact h2
      · exact h2
    · refine ite_of (KeepsO s₀) ?_ ?_
      · refine KeepsO.ofSome ?_
        apply recordError_keeps
        exact h_s
      · refine ite_of (KeepsO s₀) ?_ ?_
        · refine KeepsO.ofSome ?_
          apply recordError_keeps
          apply State.bump_keeps
          exact h_s
        · refine ite_of (KeepsO s₀) ?_ ?_
          · refine ite_of (KeepsO s₀) ?_ ?_
            · extract_lets +onlyGivenNames v3
              have h4 : Keeps s₀ v3.snd := by
                subst v3
                apply nakStray_keeps
                exact h_s
              clear_value v3
              refine KeepsO.ofSome ?_
              apply inject_keeps
              apply State.bumpi_keeps
              exact h4
            · refine KeepsO.ofSome ?_
              apply State.bump_keeps
              exact h_s
          · exact KeepsO.ofNone _

theorem takeInbox_keeps {s₀ s t : State} {ports : List Nat} {f : Packet → Bool} {q : Packet} (h : Keeps s₀ s)
    (e : takeInbox s ports f = some (q, t)) : Keeps s₀ t := by
  obtain ⟨p, -, e⟩ := List.exists_of_findSome?_eq_some e
  split at e
  · split at e
    · cases e
      exact h.same rfl rfl rfl rfl
    · cases e
  · cases e

end Sys2Proof.Machine
end

