-- ==== Sys2Proof/Laws/Keeps2.lean ====
section
/-!
SUPPORT. What each operation and each command of these files of Machine/ keeps: SendOps.lean, CollOps.lean, MgmtBase.lean, CohOps.lean, AgentOps.lean, LinkOps.lean, Switch.lean.
One lemma for each: an operation on a state that keeps what a state s₀ had (Keeps of Laws/Keeps.lean: the queue, the clock, what was
emitted, the form of the pool's memory) gives one that keeps it, and a command on such a state answers a next state that keeps it.
-/
namespace Sys2Proof.Machine

/-! ### Machine/SendOps.lean -/

theorem rateCut_keeps {s₀ : State} (s : State) (ch : Nat) (ece : Nat) (h_s : Keeps s₀ s) : Keeps s₀ (rateCut s ch ece) := by
  unfold rateCut
  split
  · rename_i x1 x2
    exact h_s
  · rename_i x3 x4 x5
    refine ite_of (Keeps s₀) ?_ ?_
    · exact h_s
    · extract_lets +onlyGivenNames v6
      clear_value v6
      extract_lets +onlyGivenNames v7
      clear_value v7
      extract_lets +onlyGivenNames v8
      clear_value v8
      extract_lets +onlyGivenNames v9
      clear_value v9
      apply State.setChan_keeps
      exact h_s

theorem payloadOf_keeps {s₀ : State} (s : State) (x : ChanSt) (p : SentPkt) (h_s : Keeps s₀ s) : Keeps s₀ (payloadOf s x p).snd := by
  unfold payloadOf
  refine ite_of (fun (p : _ × State) => Keeps s₀ p.2) ?_ ?_
  · exact h_s
  · split
    · rename_i x1 x2 x3
      exact h_s
    · rename_i x4 x5
      refine ite_of (fun (p : _ × State) => Keeps s₀ p.2) ?_ ?_
      · exact h_s
      · split
        · rename_i x6 x7
          exact h_s
        · rename_i x8 x9 x10
          split
          · rename_i x11 x12 x13
            exact h_s
          · rename_i x14 x15 x16
            split
            · rename_i x17 x18 x19 x20
              have h21 : Keeps s₀ x19 := by
                refine Keeps.ofPair ?_ x20
                apply fragChunks_keeps
                exact h_s
              refine Keeps.mkPair ?_
              apply specAhead_keeps
              exact h21
            · rename_i x22 x23 x24
              have h25 : Keeps s₀ x23 := by
                refine Keeps.ofPair ?_ x24
                apply fragChunks_keeps
                exact h_s
              exact h25
            · rename_i x26 x27 x28 x29 x30 x31
              have h32 : Keeps s₀ x28 := by
                refine Keeps.ofPair ?_ x31
                apply fragChunks_keeps
                exact h_s
              exact h32

theorem newFlowlet_keeps {s₀ : State} (s : State) (ch : Nat) (x : ChanSt) (op : Nat) (n : Nat) (port : Nat) (h_s : Keeps s₀ s) : Keeps s₀ (newFlowlet s ch x op n port).snd := by
  unfold newFlowlet
  refine ite_of (fun (p : _ × State) => Keeps s₀ p.2) ?_ ?_
  · exact h_s
  · extract_lets +onlyGivenNames v1
    clear_value v1
    extract_lets +onlyGivenNames v2
    have h3 : Keeps s₀ v2.snd := by
      subst v2
      apply flowletDecision_keeps
      exact h_s
    clear_value v2
    exact h3

theorem holdShaper_keeps {s₀ : State} (s : State) (ch : Nat) (x : ChanSt) (h_s : Keeps s₀ s) : Keeps s₀ (holdShaper s ch x) := by
  unfold holdShaper
  refine ite_of (Keeps s₀) ?_ ?_
  · exact h_s
  · apply shaperWaited_keeps
    apply State.setChan_keeps
    exact h_s

theorem holdMeter_keeps {s₀ : State} (s : State) (ch : Nat) (x : ChanSt) (h_s : Keeps s₀ s) : Keeps s₀ (holdMeter s ch x) := by
  unfold holdMeter
  extract_lets +onlyGivenNames v1
  have h2 : Keeps s₀ v1 := by
    subst v1
    apply State.setChan_keeps
    exact h_s
  clear_value v1
  refine ite_of (Keeps s₀) ?_ ?_
  · exact h2
  · apply chanEv_keeps
    apply State.bump_keeps
    exact h2

theorem injectPkt_keeps {s₀ : State} (s : State) (ch : Nat) (n : NextPkt) (b : List Byte) (colour : Nat) (h_s : Keeps s₀ s) : Keeps s₀ (injectPkt s ch n b colour) := by
  unfold injectPkt
  split
  · rename_i x1 x2
    exact h_s
  · rename_i x3 x4 x5
    extract_lets +onlyGivenNames v6
    clear_value v6
    extract_lets +onlyGivenNames v7
    clear_value v7
    extract_lets +onlyGivenNames v8
    have h9 : Keeps s₀ v8.snd := by
      subst v8
      split
      · rename_i x10 x11
        exact h_s
      · rename_i x12 x13 x14
        apply newFlowlet_keeps
        exact h_s
    clear_value v8
    extract_lets +onlyGivenNames v15
    have h16 : Keeps s₀ v15 := by
      subst v15
      exact h9
    clear_value v15
    extract_lets +onlyGivenNames v17
    clear_value v17
    extract_lets +onlyGivenNames v18
    clear_value v18
    extract_lets +onlyGivenNames v19
    clear_value v19
    extract_lets +onlyGivenNames v20
    clear_value v20
    extract_lets +onlyGivenNames v21
    have h22 : Keeps s₀ v21 := by
      subst v21
      split
      · rename_i x23 x24 x25
        split
        · rename_i x26 x27 x28 x29 x30 x31 x32
          refine ite_of (Keeps s₀) ?_ ?_
          · apply trailDa_keeps
            apply trailMark_keeps
            apply trailUpd_keeps
            exact h16
          · exact h16
        · rename_i x33 x34
          exact h16
      · rename_i x35 x36
        exact h16
    clear_value v21
    extract_lets +onlyGivenNames v37
    clear_value v37
    extract_lets +onlyGivenNames v38
    clear_value v38
    extract_lets +onlyGivenNames v39
    have h40 : Keeps s₀ v39 := by
      subst v39
      apply State.setChan_keeps
      exact h22
    clear_value v39
    extract_lets +onlyGivenNames v41
    have h42 : Keeps s₀ v41 := by
      subst v41
      refine ite_of (Keeps s₀) ?_ ?_
      · apply shaperDebit_keeps
        exact h40
      · exact h40
    clear_value v41
    extract_lets +onlyGivenNames v43
    have h44 : Keeps s₀ v43 := by
      subst v43
      refine ite_of (Keeps s₀) ?_ ?_
      · exact h42
      · apply chanEv_keeps
        exact h42
    clear_value v43
    extract_lets +onlyGivenNames v45
    have h46 : Keeps s₀ v45 := by
      subst v45
      split
      · rename_i x47 x48
        apply chanEv_keeps
        exact h44
      · rename_i x49 x50 x51
        exact h44
    clear_value v45
    extract_lets +onlyGivenNames v52
    have h53 : Keeps s₀ v52 := by
      subst v52
      refine ite_of (Keeps s₀) ?_ ?_
      · exact h46
      · apply chanEv_keeps
        exact h46
    clear_value v52
    extract_lets +onlyGivenNames v54
    have h55 : Keeps s₀ v54 := by
      subst v54
      refine ite_of (Keeps s₀) ?_ ?_
      · exact h53
      · apply chanEv_keeps
        exact h53
    clear_value v54
    apply sendVia_keeps
    exact h55

theorem gate_keeps {s₀ : State} (s : State) (ch : Nat) (x : ChanSt) (n : NextPkt) (b : List Byte) (h_s : Keeps s₀ s) : Keeps s₀ (gate s ch x n b) := by
  unfold gate
  extract_lets +onlyGivenNames v1
  clear_value v1
  extract_lets +onlyGivenNames v2
  clear_value v2
  refine ite_of (Keeps s₀) ?_ ?_
  · exact h_s
  · refine ite_of (Keeps s₀) ?_ ?_
    · apply holdShaper_keeps
      exact h_s
    · refine ite_of (Keeps s₀) ?_ ?_
      · exact h_s
      · refine ite_of (Keeps s₀) ?_ ?_
        · extract_lets +onlyGivenNames v3
          have h4 : Keeps s₀ v3.snd := by
            subst v3
            apply meterTest_keeps
            exact h_s
          clear_value v3
          refine ite_of (Keeps s₀) ?_ ?_
          · apply holdMeter_keeps
            exact h_s
          · apply injectPkt_keeps
            refine ite_of (Keeps s₀) ?_ ?_
            · apply countColour_keeps
              exact h4
            · exact h4
        · apply injectPkt_keeps
          exact h_s

theorem sendNext_keeps {s₀ : State} (s : State) (ch : Nat) (space : Bool) (h_s : Keeps s₀ s) : Keeps s₀ (sendNext s ch space) := by
  unfold sendNext
  split
  · rename_i x1 x2
    exact h_s
  · rename_i x3 x4 x5
    refine ite_of (Keeps s₀) ?_ ?_
    · exact h_s
    · split
      · rename_i x6 x7
        exact h_s
      · rename_i x8 x9 x10
        extract_lets +onlyGivenNames v11
        clear_value v11
        extract_lets +onlyGivenNames v12
        clear_value v12
        extract_lets +onlyGivenNames v13
        clear_value v13
        refine ite_of (Keeps s₀) ?_ ?_
        · exact h_s
        · refine ite_of (Keeps s₀) ?_ ?_
          · apply State.setChan_keeps
            exact h_s
          · split
            · rename_i x14 x15 x16
              have h17 : Keeps s₀ x15 := by
                refine Keeps.ofPair ?_ x16
                apply payloadOf_keeps
                exact h_s
              exact h17
            · rename_i x18 x19 x20
              have h21 : Keeps s₀ x19 := by
                refine Keeps.ofPair ?_ x20
                apply payloadOf_keeps
                exact h_s
              apply chanError_keeps
              exact h21
            · rename_i x22 x23 x24 x25
              have h26 : Keeps s₀ x24 := by
                refine Keeps.ofPair ?_ x25
                apply payloadOf_keeps
                exact h_s
              extract_lets +onlyGivenNames v27
              have h28 : Keeps s₀ v27.snd := by
                subst v27
                apply meshRead_keeps
                exact h26
              clear_value v27
              split
              · rename_i x29 x30
                exact h28
              · rename_i x31 x32 x33
                apply State.setChan_keeps
                exact h28
            · rename_i x34 x35 x36 x37
              have h38 : Keeps s₀ x36 := by
                refine Keeps.ofPair ?_ x37
                apply payloadOf_keeps
                exact h_s
              split
              · rename_i x39 x40
                exact h38
              · rename_i x41 x42 x43
                apply gate_keeps
                exact h38

theorem staleAnswer_keeps {s₀ : State} (s : State) (p : Packet) (h_s : Keeps s₀ s) : Keeps s₀ (staleAnswer s p) := by
  unfold staleAnswer
  apply State.bump_keeps
  exact h_s

theorem answerCe_keeps {s₀ : State} (s : State) (p : Packet) (h_s : Keeps s₀ s) : Keeps s₀ (answerCe s p) := by
  unfold answerCe
  apply tryAck_keeps
  apply countCe_keeps
  exact h_s

theorem onAck_keeps {s₀ : State} (s : State) (p : Packet) (h_s : Keeps s₀ s) : Keeps s₀ (onAck s p) := by
  unfold onAck
  extract_lets +onlyGivenNames v1
  clear_value v1
  split
  · rename_i x2 x3
    apply staleAnswer_keeps
    exact h_s
  · rename_i x4 x5 x6
    extract_lets +onlyGivenNames v7
    have h8 : Keeps s₀ v7 := by
      subst v7
      apply rateCut_keeps
      apply answerCe_keeps
      exact h_s
    clear_value v7
    split
    · rename_i x9 x10
      exact h8
    · rename_i x11 x12 x13
      extract_lets +onlyGivenNames v14
      clear_value v14
      refine ite_of (Keeps s₀) ?_ ?_
      · apply staleAnswer_keeps
        exact h8
      · extract_lets +onlyGivenNames v15
        clear_value v15
        apply finishJobs_keeps
        apply State.setChan_keeps
        exact h8

theorem backOff_keeps {s₀ : State} (s : State) (ch : Nat) (x : ChanSt) (n : Nat) (h_s : Keeps s₀ s) : Keeps s₀ (backOff s ch x n) := by
  unfold backOff
  refine ite_of (Keeps s₀) ?_ ?_
  · apply chanError_keeps
    exact h_s
  · extract_lets +onlyGivenNames v1
    clear_value v1
    extract_lets +onlyGivenNames v2
    clear_value v2
    apply State.setChan_keeps
    exact h_s

theorem onNak_keeps {s₀ : State} (s : State) (p : Packet) (h_s : Keeps s₀ s) : Keeps s₀ (onNak s p) := by
  unfold onNak
  extract_lets +onlyGivenNames v1
  clear_value v1
  split
  · rename_i x2 x3
    apply staleAnswer_keeps
    exact h_s
  · rename_i x4 x5 x6
    extract_lets +onlyGivenNames v7
    clear_value v7
    extract_lets +onlyGivenNames v8
    have h9 : Keeps s₀ v8 := by
      subst v8
      apply chanEv_keeps
      apply State.bumpi_keeps
      exact h_s
    clear_value v8
    extract_lets +onlyGivenNames v10
    have h11 : Keeps s₀ v10 := by
      subst v10
      apply rateCut_keeps
      apply answerCe_keeps
      exact h9
    clear_value v10
    split
    · rename_i x12 x13
      exact h11
    · rename_i x14 x15 x16
      extract_lets +onlyGivenNames v17
      clear_value v17
      refine ite_of (Keeps s₀) ?_ ?_
      · apply staleAnswer_keeps
        exact h11
      · refine ite_of (Keeps s₀) ?_ ?_
        · refine ite_of (Keeps s₀) ?_ ?_
          · exact h11
          · refine ite_of (Keeps s₀) ?_ ?_
            · exact h11
            · extract_lets +onlyGivenNames v18
              clear_value v18
              extract_lets +onlyGivenNames v19
              clear_value v19
              extract_lets +onlyGivenNames v20
              clear_value v20
              apply finishJobs_keeps
              apply State.setChan_keeps
              exact h11
        · refine ite_of (Keeps s₀) ?_ ?_
          · apply backOff_keeps
            exact h11
          · refine ite_of (Keeps s₀) ?_ ?_
            · refine ite_of (Keeps s₀) ?_ ?_
              · apply backOff_keeps
                exact h11
              · exact h11
            · refine ite_of (Keeps s₀) ?_ ?_
              · apply chanError_keeps
                exact h11
              · exact h11

theorem retireTracker_keeps {s₀ : State} (s : State) (ch : Nat) (t : Tracker) (h_s : Keeps s₀ s) : Keeps s₀ (retireTracker s ch t) := by
  unfold retireTracker
  split
  · rename_i x1 x2
    exact h_s
  · rename_i x3 x4 x5
    extract_lets +onlyGivenNames v6
    clear_value v6
    apply finishJobs_keeps
    apply State.setChan_keeps
    exact h_s

theorem deliverRead_keeps {s₀ : State} (s : State) (ch : Nat) (t : Tracker) (j : Job) (p : Packet) (h_s : Keeps s₀ s) : Keeps s₀ (deliverRead s ch t j p).snd := by
  unfold deliverRead
  extract_lets +onlyGivenNames v1
  clear_value v1
  extract_lets +onlyGivenNames v2
  have h3 : ∀ (s : State) (g : Job → Job), Keeps s₀ s → Keeps s₀ (v2 s g) := by
    subst v2
    intro y4 y5 y6
    dsimp -zeta only
    split
    · rename_i x7 x8 x9
      apply State.setChan_keeps
      exact y6
    · rename_i x10 x11
      exact y6
  clear_value v2
  extract_lets +onlyGivenNames v12
  have h13 : ∀ (s : State), Keeps s₀ s → Keeps s₀ (v12 s) := by
    subst v12
    intro y14 y15
    dsimp -zeta only
    refine ite_of (Keeps s₀) ?_ ?_
    · apply h3
      exact y15
    · exact y15
  clear_value v12
  split
  · rename_i x16 x17 x18 x19 x20 x21
    extract_lets +onlyGivenNames v22
    clear_value v22
    refine ite_of (fun (p : _ × State) => Keeps s₀ p.2) ?_ ?_
    · refine Keeps.mkPair ?_
      apply State.bump_keeps
      exact h_s
    · extract_lets +onlyGivenNames v23
      clear_value v23
      refine Keeps.mkPair ?_
      apply h13
      apply State.setAtt_keeps
      exact h_s
  · rename_i x24 x25
    split
    · rename_i x26 x27 x28
      exact h_s
    · rename_i x29 x30 x31
      split
      · rename_i x32 x33 x34
        have h35 : Keeps s₀ x33 := by
          refine Keeps.ofPair ?_ x34
          apply fragChunks_keeps
          exact h_s
        exact h35
      · rename_i x36 x37 x38 x39
        have h40 : Keeps s₀ x38 := by
          refine Keeps.ofPair ?_ x39
          apply fragChunks_keeps
          exact h_s
        extract_lets +onlyGivenNames v41
        have h42 : Keeps s₀ v41 := by
          subst v41
          apply specAhead_keeps
          exact h40
        clear_value v41
        extract_lets +onlyGivenNames v43
        have h44 : Keeps s₀ v43 := by
          subst v43
          apply chanEv_keeps
          exact h42
        clear_value v43
        extract_lets +onlyGivenNames v45
        have h46 : Keeps s₀ v45.snd := by
          subst v45
          apply meshWrite_keeps
          exact h44
        clear_value v45
        extract_lets +onlyGivenNames v47
        have h48 : Keeps s₀ v47 := by
          subst v47
          split
          · rename_i x49 x50 x51
            refine ite_of (Keeps s₀) ?_ ?_
            · exact h46
            · apply State.setChan_keeps
              exact h46
          · rename_i x52 x53
            exact h46
        clear_value v47
        refine Keeps.mkPair ?_
        apply h13
        exact h48
      · rename_i x54 x55 x56 x57 x58 x59
        have h60 : Keeps s₀ x56 := by
          refine Keeps.ofPair ?_ x59
          apply fragChunks_keeps
          exact h_s
        refine Keeps.mkPair ?_
        apply h3
        exact h60

theorem onReadRsp_keeps {s₀ : State} (s : State) (p : Packet) (h_s : Keeps s₀ s) : Keeps s₀ (onReadRsp s p).snd := by
  unfold onReadRsp
  extract_lets +onlyGivenNames v1
  clear_value v1
  split
  · rename_i x2 x3
    refine Keeps.mkPair ?_
    apply staleAnswer_keeps
    exact h_s
  · rename_i x4 x5 x6
    split
    · rename_i x7 x8
      refine Keeps.mkPair ?_
      apply State.bump_keeps
      apply answerCe_keeps
      exact h_s
    · rename_i x9 x10 x11
      refine ite_of (fun (p : _ × State) => Keeps s₀ p.2) ?_ ?_
      · refine Keeps.mkPair ?_
        apply recordError_keeps
        apply State.bump_keeps
        apply answerCe_keeps
        exact h_s
      · split
        · rename_i x12 x13
          refine Keeps.mkPair ?_
          apply answerCe_keeps
          apply retireTracker_keeps
          exact h_s
        · rename_i x14 x15 x16
          split
          · rename_i x17 x18 x19
            have h20 : Keeps s₀ x18 := by
              refine Keeps.ofPair ?_ x19
              apply deliverRead_keeps
              exact h_s
            exact h20
          · rename_i x21 x22 x23
            have h24 : Keeps s₀ x22 := by
              refine Keeps.ofPair ?_ x23
              apply deliverRead_keeps
              exact h_s
            refine Keeps.mkPair ?_
            apply answerCe_keeps
            apply retireTracker_keeps
            exact h24

theorem wantCtx_keeps {s₀ : State} (s : State) (ch : Nat) (h_s : Keeps s₀ s) : Keeps s₀ (wantCtx s ch) := by
  unfold wantCtx
  refine ite_of (Keeps s₀) ?_ ?_
  · exact h_s
  · split
    · rename_i x1 x2 x3
      have h4 : Keeps s₀ x2 := by
        refine Keeps.ofPair ?_ x3
        apply askSlot_keeps
        exact h_s
      apply startFetch_keeps
      exact h4
    · rename_i x5 x6 x7 x8
      have h9 : Keeps s₀ x7 := by
        refine Keeps.ofPair ?_ x8
        apply askSlot_keeps
        exact h_s
      apply startFetch_keeps
      exact h9
    · rename_i x10 x11 x12
      have h13 : Keeps s₀ x11 := by
        refine Keeps.ofPair ?_ x12
        apply askSlot_keeps
        exact h_s
      exact h13

theorem payFin_keeps {s₀ : State} (d : Nat) (s : State) (q : Nat × Nat × Nat) (h_s : Keeps s₀ s) : Keeps s₀ (payFin d s q) := by
  unfold payFin
  extract_lets +onlyGivenNames v1
  clear_value v1
  extract_lets +onlyGivenNames v2
  have h3 : Keeps s₀ v2 := by
    subst v2
    apply State.setDom_keeps
    exact h_s
  clear_value v2
  split
  · rename_i x4 x5 x6
    refine ite_of (Keeps s₀) ?_ ?_
    · apply addFin_keeps
      exact h3
    · exact h3
  · rename_i x7 x8
    refine ite_of (Keeps s₀) ?_ ?_
    · apply wantCtx_keeps
      exact h_s
    · exact h3

theorem payFins_keeps {s₀ : State} (s : State) (h_s : Keeps s₀ s) : Keeps s₀ (payFins s) := by
  unfold payFins
  refine Keeps.foldl ?_ ?_
  · exact h_s
  · intro y1 y2 y3
    refine Keeps.foldl ?_ ?_
    · exact y3
    · intro y4 y5 y6
      apply payFin_keeps
      exact y6

theorem finsFail_keeps {s₀ : State} (s : State) (ch : Nat) (h_s : Keeps s₀ s) : Keeps s₀ (finsFail s ch) := by
  unfold finsFail
  refine Keeps.upd ?_ rfl
  exact h_s

theorem farRefuse_keeps {s₀ : State} (s : State) (a : Nat) (q : FarAcc) (h_s : Keeps s₀ s) : Keeps s₀ (farRefuse s a q) := by
  unfold farRefuse
  split
  · rename_i x1 x2
    apply farEnd_keeps
    exact h_s
  · rename_i x3 x4 x5
    apply farDropEvent_keeps
    exact h_s

theorem farPump_keeps {s₀ : State} (s : State) (a k : Nat) (h_s : Keeps s₀ s) : Keeps s₀ (farPump s a k) := by
  induction k generalizing s with
  | zero =>
    unfold farPump
    exact h_s
  | succ n ih =>
    unfold farPump
    split
    · rename_i x1 x2
      exact h_s
    · rename_i x3 x4 x5 x6
      extract_lets +onlyGivenNames v7
      clear_value v7
      extract_lets +onlyGivenNames v8
      have h9 : Keeps s₀ v8 := by
        subst v8
        apply State.setAtt_keeps
        exact h_s
      clear_value v8
      split
      · rename_i x10 x11 x12
        apply ih
        refine ite_of (Keeps s₀) ?_ ?_
        · apply addJob_keeps
          exact h9
        · apply farRefuse_keeps
          exact h9
      · rename_i x13 x14
        refine ite_of (Keeps s₀) ?_ ?_
        · apply wantCtx_keeps
          exact h_s
        · apply ih
          apply farRefuse_keeps
          exact h9

theorem farPumpAll_keeps {s₀ : State} (s : State) (h_s : Keeps s₀ s) : Keeps s₀ (farPumpAll s) := by
  unfold farPumpAll
  refine Keeps.foldl ?_ ?_
  · exact h_s
  · intro y1 y2 y3
    refine ite_of (Keeps s₀) ?_ ?_
    · exact y3
    · apply farPump_keeps
      exact y3

theorem farFail_keeps {s₀ : State} (s : State) (ch : Nat) (h_s : Keeps s₀ s) : Keeps s₀ (farFail s ch) := by
  unfold farFail
  refine Keeps.foldl ?_ ?_
  · exact h_s
  · intro y1 y2 y3
    refine Keeps.foldl ?_ ?_
    · exact y3
    · intro y4 y5 y6
      apply farRefuse_keeps
      apply State.setAtt_keeps
      exact y6

theorem farKill_keeps {s₀ : State} (s : State) (a : Nat) (ch : Nat) (id : Nat) (h_s : Keeps s₀ s) : Keeps s₀ (farKill s a ch id) := by
  unfold farKill
  extract_lets +onlyGivenNames v1
  clear_value v1
  extract_lets +onlyGivenNames v2
  have h3 : Keeps s₀ v2 := by
    subst v2
    apply State.setAtt_keeps
    exact h_s
  clear_value v2
  extract_lets +onlyGivenNames v4
  clear_value v4
  split
  · rename_i x5 x6
    exact h3
  · rename_i x7 x8 x9
    extract_lets +onlyGivenNames v10
    clear_value v10
    extract_lets +onlyGivenNames v11
    clear_value v11
    apply finishJobs_keeps
    apply State.setChan_keeps
    exact h3


/-! ### Machine/CollOps.lean -/

theorem owr_keeps {s₀ : State} (s : State) (o : Nat) (f : Field) (v : Nat) (h_s : Keeps s₀ s) : Keeps s₀ (owr s o f v) := by
  unfold owr
  apply State.wri_keeps
  exact h_s

theorem State.setOuting_keeps {s₀ : State} (s : State) (o : Nat) (x : OutingSt) (h_s : Keeps s₀ s) : Keeps s₀ (s.setOuting o x) := by
  unfold State.setOuting
  refine Keeps.upd ?_ rfl
  exact h_s

theorem clEvent_keeps {s₀ : State} (s : State) (o : Nat) (code : Nat) (n : Nat) (h_s : Keeps s₀ s) : Keeps s₀ (clEvent s o code n) := by
  unfold clEvent
  apply cntCM_keeps
  exact h_s

theorem touchSeg_keeps {s₀ : State} (s : State) (o : Nat) (psn : Nat) (call : Nat) (seg : Nat) (h_s : Keeps s₀ s) : Keeps s₀ (touchSeg s o psn call seg) := by
  unfold touchSeg
  extract_lets +onlyGivenNames v1
  clear_value v1
  refine ite_of (Keeps s₀) ?_ ?_
  · exact h_s
  · extract_lets +onlyGivenNames v2
    clear_value v2
    extract_lets +onlyGivenNames v3
    have h4 : Keeps s₀ v3 := by
      subst v3
      apply State.setOuting_keeps
      exact h_s
    clear_value v3
    refine ite_of (Keeps s₀) ?_ ?_
    · apply owr_keeps
      exact h4
    · exact h4

theorem mapSeg_keeps {s₀ : State} (s : State) (o : Nat) (psn : Nat) (g : SegSt → SegSt) (h_s : Keeps s₀ s) : Keeps s₀ (mapSeg s o psn g) := by
  unfold mapSeg
  extract_lets +onlyGivenNames v1
  clear_value v1
  split
  · rename_i x2 x3 x4
    apply State.setOuting_keeps
    exact h_s
  · rename_i x5 x6
    exact h_s

theorem collSend_keeps {s₀ : State} (s : State) (p : Packet) (h_s : Keeps s₀ s) : Keeps s₀ (collSend s p) := by
  unfold collSend
  apply inject_keeps
  exact h_s

theorem contribDone_keeps {s₀ : State} (s : State) (o : Nat) (k : Contrib) (status : Nat) (h_s : Keeps s₀ s) : Keeps s₀ (contribDone s o k status) := by
  unfold contribDone
  apply completeWq_keeps
  exact h_s

theorem endReads_keeps {s₀ : State} (s : State) (x : OutingSt) (h_s : Keeps s₀ s) : Keeps s₀ (endReads s x) := by
  unfold endReads
  refine Keeps.foldl ?_ ?_
  · exact h_s
  · intro y1 y2 y3
    split
    · rename_i x4 x5 x6 x7 x8
      apply endRead_keeps
      exact y3
    · rename_i x9 x10
      exact y3

theorem abortOuting_keeps {s₀ : State} (s : State) (o : Nat) (cause : Nat) (from_ : Option (Option Nat)) (h_s : Keeps s₀ s) : Keeps s₀ (abortOuting s o cause from_) := by
  unfold abortOuting
  refine ite_of (Keeps s₀) ?_ ?_
  · exact h_s
  · extract_lets +onlyGivenNames v1
    clear_value v1
    extract_lets +onlyGivenNames v2
    have h3 : Keeps s₀ v2 := by
      subst v2
      apply owr_keeps
      exact h_s
    clear_value v2
    extract_lets +onlyGivenNames v4
    have h5 : Keeps s₀ v4 := by
      subst v4
      apply owr_keeps
      exact h3
    clear_value v4
    extract_lets +onlyGivenNames v6
    have h7 : Keeps s₀ v6 := by
      subst v6
      apply State.setEvt_keeps
      apply State.bump_keeps
      exact h5
    clear_value v6
    extract_lets +onlyGivenNames v8
    have h9 : Keeps s₀ v8 := by
      subst v8
      refine ite_of (Keeps s₀) ?_ ?_
      · exact h7
      · apply collSend_keeps
        exact h7
    clear_value v8
    extract_lets +onlyGivenNames v10
    have h11 : Keeps s₀ v10 := by
      subst v10
      refine Keeps.foldl ?_ ?_
      · exact h9
      · intro y12 y13 y14
        refine ite_of (Keeps s₀) ?_ ?_
        · exact y14
        · apply collSend_keeps
          exact y14
    clear_value v10
    extract_lets +onlyGivenNames v15
    have h16 : Keeps s₀ v15 := by
      subst v15
      apply endReads_keeps
      exact h11
    clear_value v15
    extract_lets +onlyGivenNames v17
    clear_value v17
    extract_lets +onlyGivenNames v18
    have h19 : Keeps s₀ v18 := by
      subst v18
      apply State.setOuting_keeps
      exact h16
    clear_value v18
    extract_lets +onlyGivenNames v20
    have h21 : Keeps s₀ v20 := by
      subst v20
      refine Keeps.foldl ?_ ?_
      · exact h19
      · intro y22 y23 y24
        apply contribDone_keeps
        exact y24
    clear_value v20
    refine Keeps.foldl ?_ ?_
    · exact h21
    · intro y25 y26 y27
      apply raiseEvent_keeps
      exact y27

theorem putRef_keeps {s₀ : State} (s : State) (o : Nat) (r : CollRef) (h_s : Keeps s₀ s) : Keeps s₀ (putRef s o r) := by
  unfold putRef
  extract_lets +onlyGivenNames v1
  clear_value v1
  apply State.setOuting_keeps
  exact h_s

theorem contribKeys_keeps {s₀ : State} (s : State) (k : Contrib) (r : CollRef) (h_s : Keeps s₀ s) : Keeps s₀ (contribKeys s k r).snd := by
  unfold contribKeys
  refine ite_of (fun (p : _ × State) => Keeps s₀ p.2) ?_ ?_
  · exact h_s
  · extract_lets +onlyGivenNames v1
    have h2 : Keeps s₀ v1.snd := by
      subst v1
      refine ite_of (fun (p : _ × State) => Keeps s₀ p.2) ?_ ?_
      · exact h_s
      · apply keyCheck_keeps
        exact h_s
    clear_value v1
    split
    · rename_i x3 x4
      exact h2
    · rename_i x5 x6
      exact h2
    · rename_i x7 x8 x9
      extract_lets +onlyGivenNames v10
      have h11 : Keeps s₀ v10.snd := by
        subst v10
        refine ite_of (fun (p : _ × State) => Keeps s₀ p.2) ?_ ?_
        · exact h2
        · apply keyCheck_keeps
          exact h2
      clear_value v10
      split
      · rename_i x12 x13
        exact h11
      · rename_i x14 x15
        exact h11
      · rename_i x16 x17 x18
        exact h11

theorem contribJoin_keeps {s₀ : State} (s : State) (o : Nat) (k : Contrib) (r : CollRef) (h_s : Keeps s₀ s) : Keeps s₀ (contribJoin s o k r).snd := by
  unfold contribJoin
  extract_lets +onlyGivenNames v1
  clear_value v1
  extract_lets +onlyGivenNames v2
  clear_value v2
  split
  · rename_i x3 x4
    refine Keeps.mkPair ?_
    apply abortOuting_keeps
    exact h_s
  · rename_i x5 x6 x7
    extract_lets +onlyGivenNames v8
    have h9 : Keeps s₀ v8 := by
      subst v8
      apply putRef_keeps
      exact h_s
    clear_value v8
    extract_lets +onlyGivenNames v10
    clear_value v10
    extract_lets +onlyGivenNames v11
    clear_value v11
    extract_lets +onlyGivenNames v12
    clear_value v12
    extract_lets +onlyGivenNames v13
    have h14 : Keeps s₀ v13 := by
      subst v13
      refine Keeps.upd ?_ rfl
      exact h9
    clear_value v13
    refine Keeps.mkPair ?_
    apply State.setOuting_keeps
    exact h14

theorem collTake_keeps {s₀ : State} (s : State) (g : Nat) (fn : Nat) (index : Nat) (userId : Nat) (signal : Bool) (b : List Byte) (ready : Bool) (h_s : Keeps s₀ s) : Keeps s₀ (collTake s g fn index userId signal b ready).snd := by
  unfold collTake
  extract_lets +onlyGivenNames v1
  clear_value v1
  extract_lets +onlyGivenNames v2
  clear_value v2
  extract_lets +onlyGivenNames v3
  clear_value v3
  extract_lets +onlyGivenNames v4
  clear_value v4
  refine ite_of (fun (p : _ × State) => Keeps s₀ p.2) ?_ ?_
  · exact h_s
  · split
    · rename_i x5
      exact h_s
    · rename_i x6 x7
      refine ite_of (fun (p : _ × State) => Keeps s₀ p.2) ?_ ?_
      · exact h_s
      · refine ite_of (fun (p : _ × State) => Keeps s₀ p.2) ?_ ?_
        · exact h_s
        · refine ite_of (fun (p : _ × State) => Keeps s₀ p.2) ?_ ?_
          · exact h_s
          · extract_lets +onlyGivenNames v8
            clear_value v8
            extract_lets +onlyGivenNames v9
            clear_value v9
            extract_lets +onlyGivenNames v10
            clear_value v10
            refine ite_of (fun (p : _ × State) => Keeps s₀ p.2) ?_ ?_
            · exact h_s
            · refine ite_of (fun (p : _ × State) => Keeps s₀ p.2) ?_ ?_
              · exact h_s
              · split
                · rename_i x11 x12 x13
                  have h14 : Keeps s₀ x12 := by
                    refine Keeps.ofPair ?_ x13
                    apply contribKeys_keeps
                    exact h_s
                  apply contribJoin_keeps
                  exact h14
                · rename_i x15 x16
                  apply contribKeys_keeps
                  exact h_s

theorem mapContrib_keeps {s₀ : State} (s : State) (o : Nat) (id : Nat) (g : Contrib → Contrib) (h_s : Keeps s₀ s) : Keeps s₀ (mapContrib s o id g) := by
  unfold mapContrib
  extract_lets +onlyGivenNames v1
  clear_value v1
  apply State.setOuting_keeps
  exact h_s

theorem supply_keeps {s₀ : State} (s : State) (o : Nat) (psn : Nat) (call : Nat) (seg : Nat) (child : Nat) (last : Bool) (c : CollIn) (h_s : Keeps s₀ s) : Keeps s₀ (supply s o psn call seg child last c) := by
  unfold supply
  apply mapSeg_keeps
  apply touchSeg_keeps
  exact h_s

theorem startRead_keeps {s₀ : State} (s : State) (o : Nat) (k : Contrib) (h_s : Keeps s₀ s) : Keeps s₀ (startRead s o k) := by
  unfold startRead
  refine ite_of (Keeps s₀) ?_ ?_
  · exact h_s
  · extract_lets +onlyGivenNames v1
    clear_value v1
    split
    · rename_i x2 x3 x4 x5 x6 x7
      extract_lets +onlyGivenNames v8
      clear_value v8
      refine ite_of (Keeps s₀) ?_ ?_
      · exact h_s
      · extract_lets +onlyGivenNames v9
        clear_value v9
        refine ite_of (Keeps s₀) ?_ ?_
        · apply mapContrib_keeps
          apply supply_keeps
          exact h_s
        · extract_lets +onlyGivenNames v10
          clear_value v10
          split
          · rename_i x11 x12 x13 x14
            have h15 : Keeps s₀ x13 := by
              refine Keeps.ofPair ?_ x14
              apply fragChunks_keeps
              exact h_s
            extract_lets +onlyGivenNames v16
            have h17 : Keeps s₀ v16 := by
              subst v16
              apply specAhead_keeps
              exact h15
            clear_value v16
            extract_lets +onlyGivenNames v18
            have h19 : Keeps s₀ v18.snd := by
              subst v18
              apply meshRead_keeps
              exact h17
            clear_value v18
            apply mapContrib_keeps
            exact h19
          · rename_i x20 x21 x22
            have h23 : Keeps s₀ x21 := by
              refine Keeps.ofPair ?_ x22
              apply fragChunks_keeps
              exact h_s
            exact h23
          · rename_i x24 x25 x26 x27 x28 x29
            have h30 : Keeps s₀ x26 := by
              refine Keeps.ofPair ?_ x29
              apply fragChunks_keeps
              exact h_s
            apply abortOuting_keeps
            exact h30
    · rename_i x31 x32 x33
      exact h_s

theorem writeResult_keeps {s₀ : State} (s : State) (o : Nat) (k : Contrib) (seg : Nat) (b : List Byte) (h_s : Keeps s₀ s) : Keeps s₀ (writeResult s o k seg b) := by
  unfold writeResult
  extract_lets +onlyGivenNames v1
  clear_value v1
  extract_lets +onlyGivenNames v2
  clear_value v2
  split
  · rename_i x3 x4 x5 x6
    have h7 : Keeps s₀ x5 := by
      refine Keeps.ofPair ?_ x6
      apply fragChunks_keeps
      exact h_s
    extract_lets +onlyGivenNames v8
    have h9 : Keeps s₀ v8.snd := by
      subst v8
      apply meshWrite_keeps
      exact h7
    clear_value v8
    apply mapContrib_keeps
    exact h9
  · rename_i x10 x11 x12
    have h13 : Keeps s₀ x11 := by
      refine Keeps.ofPair ?_ x12
      apply fragChunks_keeps
      exact h_s
    exact h13
  · rename_i x14 x15 x16 x17 x18 x19
    have h20 : Keeps s₀ x16 := by
      refine Keeps.ofPair ?_ x19
      apply fragChunks_keeps
      exact h_s
    apply abortOuting_keeps
    exact h20

theorem dropSegs_keeps {s₀ : State} (s : State) (o : Nat) (h_s : Keeps s₀ s) : Keeps s₀ (dropSegs s o) := by
  unfold dropSegs
  extract_lets +onlyGivenNames v1
  clear_value v1
  apply State.setOuting_keeps
  exact h_s

theorem finishContribs_keeps {s₀ : State} (s : State) (o : Nat) (h_s : Keeps s₀ s) : Keeps s₀ (finishContribs s o) := by
  unfold finishContribs
  extract_lets +onlyGivenNames v1
  clear_value v1
  extract_lets +onlyGivenNames v2
  clear_value v2
  extract_lets +onlyGivenNames v3
  have h4 : Keeps s₀ v3 := by
    subst v3
    apply State.setOuting_keeps
    exact h_s
  clear_value v3
  refine Keeps.foldl ?_ ?_
  · exact h4
  · intro y5 y6 y7
    apply contribDone_keeps
    exact y7

theorem dropResults_keeps {s₀ : State} (s : State) (o : Nat) (h_s : Keeps s₀ s) : Keeps s₀ (dropResults s o) := by
  unfold dropResults
  extract_lets +onlyGivenNames v1
  clear_value v1
  extract_lets +onlyGivenNames v2
  clear_value v2
  extract_lets +onlyGivenNames v3
  clear_value v3
  extract_lets +onlyGivenNames v4
  clear_value v4
  extract_lets +onlyGivenNames v5
  clear_value v5
  apply State.setOuting_keeps
  exact h_s

theorem endCall_keeps {s₀ : State} (s : State) (o : Nat) (h_s : Keeps s₀ s) : Keeps s₀ (endCall s o) := by
  unfold endCall
  extract_lets +onlyGivenNames v1
  clear_value v1
  extract_lets +onlyGivenNames v2
  clear_value v2
  split
  · rename_i x3 x4 x5
    split
    · rename_i x6 x7 x8
      refine ite_of (Keeps s₀) ?_ ?_
      · exact h_s
      · apply owr_keeps
        apply State.setOuting_keeps
        exact h_s
    · rename_i x9 x10
      exact h_s
  · rename_i x11 x12
    exact h_s

theorem dropRefs_keeps {s₀ : State} (s : State) (o : Nat) (h_s : Keeps s₀ s) : Keeps s₀ (dropRefs s o) := by
  unfold dropRefs
  extract_lets +onlyGivenNames v1
  clear_value v1
  extract_lets +onlyGivenNames v2
  clear_value v2
  apply State.setOuting_keeps
  exact h_s

theorem collPump_keeps {s₀ : State} (s : State) (o : Nat) (h_s : Keeps s₀ s) : Keeps s₀ (collPump s o) := by
  unfold collPump
  extract_lets +onlyGivenNames v1
  have h2 : Keeps s₀ v1 := by
    subst v1
    refine Keeps.foldl ?_ ?_
    · exact h_s
    · intro y3 y4 y5
      refine Keeps.foldl ?_ ?_
      · exact y5
      · intro y6 y7 y8
        refine ite_of (Keeps s₀) ?_ ?_
        · apply writeResult_keeps
          exact y8
        · exact y8
  clear_value v1
  extract_lets +onlyGivenNames v9
  have h10 : Keeps s₀ v9 := by
    subst v9
    apply dropRefs_keeps
    apply finishContribs_keeps
    apply dropResults_keeps
    apply dropSegs_keeps
    exact h2
  clear_value v9
  refine Keeps.foldl ?_ ?_
  · exact h10
  · intro y11 y12 y13
    refine ite_of (Keeps s₀) ?_ ?_
    · apply startRead_keeps
      exact y13
    · exact y13

theorem collPumpAll_keeps {s₀ : State} (s : State) (h_s : Keeps s₀ s) : Keeps s₀ (collPumpAll s) := by
  unfold collPumpAll
  refine Keeps.foldl ?_ ?_
  · exact h_s
  · intro y1 y2 y3
    refine ite_of (Keeps s₀) ?_ ?_
    · apply collPump_keeps
      exact y3
    · exact y3

theorem turnSeg_keeps {s₀ : State} (s : State) (o : Nat) (psn : Nat) (g : SegSt) (last : Bool) (c : CollIn) (h_s : Keeps s₀ s) : Keeps s₀ (turnSeg s o psn g last c) := by
  unfold turnSeg
  extract_lets +onlyGivenNames v1
  clear_value v1
  extract_lets +onlyGivenNames v2
  clear_value v2
  extract_lets +onlyGivenNames v3
  clear_value v3
  extract_lets +onlyGivenNames v4
  clear_value v4
  extract_lets +onlyGivenNames v5
  clear_value v5
  extract_lets +onlyGivenNames v6
  clear_value v6
  extract_lets +onlyGivenNames v7
  clear_value v7
  extract_lets +onlyGivenNames v8
  clear_value v8
  extract_lets +onlyGivenNames v9
  have h10 : Keeps s₀ v9 := by
    subst v9
    apply State.setOuting_keeps
    exact h_s
  clear_value v9
  extract_lets +onlyGivenNames v11
  have h12 : Keeps s₀ v11 := by
    subst v11
    refine Keeps.foldl ?_ ?_
    · exact h10
    · intro y13 y14 y15
      apply State.bump_keeps
      apply collSend_keeps
      exact y15
  clear_value v11
  apply collPump_keeps
  apply endCall_keeps
  apply endCall_keeps
  exact h12


/-! ### Machine/MgmtBase.lean -/

theorem State.setMg_keeps {s₀ : State} (s : State) (x : MgmtSt) (h_s : Keeps s₀ s) : Keeps s₀ (s.setMg x) := by
  unfold State.setMg
  refine Keeps.upd ?_ rfl
  exact h_s

theorem meEvent_keeps {s₀ : State} (s : State) (p : Nat) (i : Nat) (h_s : Keeps s₀ s) : Keeps s₀ (meEvent s p i) := by
  unfold meEvent
  apply State.setEvt_keeps
  exact h_s

theorem setBroken_keeps {s₀ : State} (s : State) (p : Nat) (b : Bool) (h_s : Keeps s₀ s) : Keeps s₀ (setBroken s p b) := by
  unfold setBroken
  refine ite_of (Keeps s₀) ?_ ?_
  · exact h_s
  · apply deviceEvent_keeps
    apply meEvent_keeps
    apply State.wr_keeps
    exact h_s

theorem setMeLink_keeps {s₀ : State} (s : State) (p : Nat) (st : Nat) (h_s : Keeps s₀ s) : Keeps s₀ (setMeLink s p st) := by
  unfold setMeLink
  refine ite_of (Keeps s₀) ?_ ?_
  · exact h_s
  · extract_lets +onlyGivenNames v1
    have h2 : Keeps s₀ v1 := by
      subst v1
      apply meEvent_keeps
      apply State.wr_keeps
      exact h_s
    clear_value v1
    refine ite_of (Keeps s₀) ?_ ?_
    · apply setBroken_keeps
      exact h2
    · exact h2

theorem closeBypass_keeps {s₀ : State} (s : State) (h_s : Keeps s₀ s) : Keeps s₀ (closeBypass s) := by
  unfold closeBypass
  refine ite_of (Keeps s₀) ?_ ?_
  · exact h_s
  · extract_lets +onlyGivenNames v1
    have h2 : Keeps s₀ v1 := by
      subst v1
      refine Keeps.foldl ?_ ?_
      · exact h_s
      · intro y3 y4 y5
        apply setMeLink_keeps
        apply State.wr_keeps
        exact y5
    clear_value v1
    apply State.emit_keeps
    exact h2

theorem sendOut_keeps {s₀ : State} (s : State) (p : Nat) (e : Nat → Emit) (h_s : Keeps s₀ s) : Keeps s₀ (sendOut s p e) := by
  unfold sendOut
  extract_lets +onlyGivenNames v1
  clear_value v1
  refine ite_of (Keeps s₀) ?_ ?_
  · apply cnt1_keeps
    apply State.emit_keeps
    exact h_s
  · exact h_s

theorem drsEvent_keeps {s₀ : State} (s : State) (i : Nat) (h_s : Keeps s₀ s) : Keeps s₀ (drsEvent s i) := by
  unfold drsEvent
  apply State.setEvt_keeps
  exact h_s

theorem setSess_keeps {s₀ : State} (s : State) (x : SessSt) (h_s : Keeps s₀ s) : Keeps s₀ (setSess s x) := by
  unfold setSess
  apply State.setMg_keeps
  exact h_s

theorem abandonStore_keeps {s₀ : State} (s : State) (h_s : Keeps s₀ s) : Keeps s₀ (abandonStore s) := by
  unfold abandonStore
  refine ite_of (Keeps s₀) ?_ ?_
  · extract_lets +onlyGivenNames v1
    clear_value v1
    extract_lets +onlyGivenNames v2
    have h3 : Keeps s₀ v2 := by
      subst v2
      refine Keeps.upd ?_ rfl
      exact h_s
    clear_value v2
    apply State.setEvt_keeps
    apply State.wr_keeps
    apply State.wr_keeps
    exact h3
  · exact h_s

theorem dropSession_keeps {s₀ : State} (s : State) (id : Nat) (h_s : Keeps s₀ s) : Keeps s₀ (dropSession s id) := by
  unfold dropSession
  split
  · rename_i x1 x2
    exact h_s
  · rename_i x3 x4 x5
    extract_lets +onlyGivenNames v6
    clear_value v6
    extract_lets +onlyGivenNames v7
    clear_value v7
    extract_lets +onlyGivenNames v8
    have h9 : Keeps s₀ v8 := by
      subst v8
      apply State.setMg_keeps
      exact h_s
    clear_value v8
    extract_lets +onlyGivenNames v10
    have h11 : Keeps s₀ v10 := by
      subst v10
      refine ite_of (Keeps s₀) ?_ ?_
      · apply abandonStore_keeps
        exact h9
      · exact h9
    clear_value v10
    refine ite_of (Keeps s₀) ?_ ?_
    · apply drsEvent_keeps
      apply State.wr_keeps
      exact h11
    · exact h11

theorem dropSessions_keeps {s₀ : State} (s : State) (h_s : Keeps s₀ s) : Keeps s₀ (dropSessions s) := by
  unfold dropSessions
  extract_lets +onlyGivenNames v1
  have h2 : Keeps s₀ v1 := by
    subst v1
    refine Keeps.foldl ?_ ?_
    · exact h_s
    · intro y3 y4 y5
      apply dropSession_keeps
      exact y5
  clear_value v1
  apply State.setMg_keeps
  exact h2

theorem sendSecured_keeps {s₀ : State} (s : State) (id : Nat) (port : Nat) (e : Nat → Nat → Emit) (h_s : Keeps s₀ s) : Keeps s₀ (sendSecured s id port e) := by
  unfold sendSecured
  split
  · rename_i x1 x2
    exact h_s
  · rename_i x3 x4 x5
    extract_lets +onlyGivenNames v6
    have h7 : Keeps s₀ v6 := by
      subst v6
      apply sendOut_keeps
      apply setSess_keeps
      exact h_s
    clear_value v6
    refine ite_of (Keeps s₀) ?_ ?_
    · apply dropSession_keeps
      exact h7
    · exact h7


/-! ### Machine/CohOps.lean -/

theorem setDead_keeps {s₀ : State} (s : State) (a : Nat) (b : Bool) (h_s : Keeps s₀ s) : Keeps s₀ (setDead s a b) := by
  unfold setDead
  extract_lets +onlyGivenNames v1
  clear_value v1
  apply State.wr_keeps
  exact h_s

theorem showSf_keeps {s₀ : State} (s : State) (i : Nat) (h_s : Keeps s₀ s) : Keeps s₀ (showSf s i) := by
  unfold showSf
  apply State.wr_keeps
  exact h_s

theorem setSf_keeps {s₀ : State} (s : State) (line : Nat) (e : SfEnt) (h_s : Keeps s₀ s) : Keeps s₀ (setSf s line e) := by
  unfold setSf
  extract_lets +onlyGivenNames v1
  clear_value v1
  extract_lets +onlyGivenNames v2
  have h3 : Keeps s₀ v2 := by
    subst v2
    refine Keeps.upd ?_ rfl
    exact h_s
  clear_value v2
  apply showSf_keeps
  exact h3

theorem freeSf_keeps {s₀ : State} (s : State) (line : Nat) (h_s : Keeps s₀ s) : Keeps s₀ (freeSf s line) := by
  unfold freeSf
  apply showSf_keeps
  refine Keeps.upd ?_ rfl
  exact h_s

theorem sfRemove_keeps {s₀ : State} (s : State) (line : Nat) (a : Nat) (h_s : Keeps s₀ s) : Keeps s₀ (sfRemove s line a) := by
  unfold sfRemove
  split
  · rename_i x1 x2
    exact h_s
  · rename_i x3 x4 x5
    extract_lets +onlyGivenNames v6
    clear_value v6
    apply setSf_keeps
    exact h_s

theorem sfDemote_keeps {s₀ : State} (s : State) (line : Nat) (a : Nat) (h_s : Keeps s₀ s) : Keeps s₀ (sfDemote s line a) := by
  unfold sfDemote
  split
  · rename_i x1 x2
    exact h_s
  · rename_i x3 x4 x5
    refine ite_of (Keeps s₀) ?_ ?_
    · apply setSf_keeps
      exact h_s
    · exact h_s

theorem sfShare_keeps {s₀ : State} (s : State) (line : Nat) (a : Nat) (h_s : Keeps s₀ s) : Keeps s₀ (sfShare s line a) := by
  unfold sfShare
  extract_lets +onlyGivenNames v1
  clear_value v1
  apply setSf_keeps
  exact h_s

theorem sfOwn_keeps {s₀ : State} (s : State) (line : Nat) (a : Nat) (h_s : Keeps s₀ s) : Keeps s₀ (sfOwn s line a) := by
  unfold sfOwn
  apply setSf_keeps
  exact h_s

theorem setDirSh_keeps {s₀ : State} (s : State) (line : Nat) (b : Bool) (h_s : Keeps s₀ s) : Keeps s₀ (setDirSh s line b) := by
  unfold setDirSh
  refine Keeps.upd ?_ rfl
  exact h_s

theorem slBump_keeps {s₀ : State} (s : State) (i : Nat) (f : Field) (h_s : Keeps s₀ s) : Keeps s₀ (slBump s i f) := by
  unfold slBump
  apply State.bump_keeps
  exact h_s

theorem slEvent_keeps {s₀ : State} (s : State) (i : Nat) (code : Nat) (n : Nat) (master : Option Nat) (addr : Option Nat) (h_s : Keeps s₀ s) : Keeps s₀ (slEvent s i code n master addr) := by
  unfold slEvent
  apply cntPMA_keeps
  exact h_s

theorem showBusy_keeps {s₀ : State} (s : State) (i : Nat) (h_s : Keeps s₀ s) : Keeps s₀ (showBusy s i) := by
  unfold showBusy
  extract_lets +onlyGivenNames v1
  clear_value v1
  extract_lets +onlyGivenNames v2
  have h3 : Keeps s₀ v2 := by
    subst v2
    apply State.wr_keeps
    exact h_s
  clear_value v2
  apply State.wr_keeps
  exact h3

theorem setBusy_keeps {s₀ : State} (s : State) (line : Nat) (b : BusyEnt) (h_s : Keeps s₀ s) : Keeps s₀ (setBusy s line b) := by
  unfold setBusy
  refine Keeps.upd ?_ rfl
  exact h_s

theorem loseLine_keeps {s₀ : State} (s : State) (d : Nat) (line : Nat) (o : Bool) (h_s : Keeps s₀ s) : Keeps s₀ (loseLine s d line o) := by
  unfold loseLine
  extract_lets +onlyGivenNames v1
  clear_value v1
  extract_lets +onlyGivenNames v2
  have h3 : Keeps s₀ v2 := by
    subst v2
    apply State.setEvt_keeps
    exact h_s
  clear_value v2
  extract_lets +onlyGivenNames v4
  have h5 : Keeps s₀ v4 := by
    subst v4
    apply slBump_keeps
    apply setPoison_keeps
    exact h3
  clear_value v4
  extract_lets +onlyGivenNames v6
  have h7 : Keeps s₀ v6 := by
    subst v6
    apply sfRemove_keeps
    exact h5
  clear_value v6
  extract_lets +onlyGivenNames v8
  clear_value v8
  extract_lets +onlyGivenNames v9
  clear_value v9
  extract_lets +onlyGivenNames v10
  have h11 : Keeps s₀ v10 := by
    subst v10
    refine Keeps.upd ?_ rfl
    exact h7
  clear_value v10
  extract_lets +onlyGivenNames v12
  clear_value v12
  extract_lets +onlyGivenNames v13
  clear_value v13
  refine ite_of (Keeps s₀) ?_ ?_
  · extract_lets +onlyGivenNames v14
    clear_value v14
    extract_lets +onlyGivenNames v15
    clear_value v15
    apply State.wr_keeps
    apply directWrite_keeps
    exact h11
  · extract_lets +onlyGivenNames v16
    have h17 : Keeps s₀ v16 := by
      subst v16
      apply State.bump_keeps
      exact h11
    clear_value v16
    refine ite_of (Keeps s₀) ?_ ?_
    · apply State.setEvt_keeps
      exact h17
    · exact h17

theorem sendSnp_keeps {s₀ : State} (s : State) (i : Nat) (line : Nat) (a : Nat) (k : SnpKind) (h_s : Keeps s₀ s) : Keeps s₀ (sendSnp s i line a k) := by
  unfold sendSnp
  refine ite_of (Keeps s₀) ?_ ?_
  · extract_lets +onlyGivenNames v1
    clear_value v1
    extract_lets +onlyGivenNames v2
    have h3 : Keeps s₀ v2 := by
      subst v2
      refine ite_of (Keeps s₀) ?_ ?_
      · exact h_s
      · refine Keeps.upd ?_ rfl
        exact h_s
    clear_value v2
    apply cnt1_keeps
    apply slBump_keeps
    apply State.emit_keeps
    exact h3
  · extract_lets +onlyGivenNames v4
    clear_value v4
    extract_lets +onlyGivenNames v5
    have h6 : Keeps s₀ v5 := by
      subst v5
      apply slBump_keeps
      refine Keeps.upd ?_ rfl
      exact h_s
    clear_value v5
    apply slEvent_keeps
    exact h6

theorem tell_keeps {s₀ : State} (s : State) (a : Nat) (line : Nat) (m : AgentMsg) (h_s : Keeps s₀ s) : Keeps s₀ (tell s a line m) := by
  unfold tell
  refine Keeps.upd ?_ rfl
  exact h_s

theorem countPoison_keeps {s₀ : State} (s : State) (bad : Bool) (h_s : Keeps s₀ s) : Keeps s₀ (countPoison s bad) := by
  unfold countPoison
  refine ite_of (Keeps s₀) ?_ ?_
  · apply State.bump_keeps
    exact h_s
  · exact h_s

theorem stackEvent_keeps {s₀ : State} (s : State) (line : Nat) (code : Nat) (h_s : Keeps s₀ s) : Keeps s₀ (stackEvent s line code) := by
  unfold stackEvent
  refine ite_of (Keeps s₀) ?_ ?_
  · apply countEv_keeps
    exact h_s
  · exact h_s

theorem grant_keeps {s₀ : State} (s : State) (q : HomeReq) (a : Nat) (excl : Bool) (data : Option (List Byte)) (bad : Bool) (h_s : Keeps s₀ s) : Keeps s₀ (grant s q a excl data bad) := by
  unfold grant
  extract_lets +onlyGivenNames v1
  have h2 : Keeps s₀ v1 := by
    subst v1
    apply countPoison_keeps
    exact h_s
  clear_value v1
  refine ite_of (Keeps s₀) ?_ ?_
  · apply State.emit_keeps
    exact h2
  · apply tell_keeps
    exact h2

theorem answerPlain_keeps {s₀ : State} (s : State) (q : HomeReq) (data : List Byte) (bad : Bool) (h_s : Keeps s₀ s) : Keeps s₀ (answerPlain s q data bad) := by
  unfold answerPlain
  refine ite_of (Keeps s₀) ?_ ?_
  · extract_lets +onlyGivenNames v1
    have h2 : Keeps s₀ v1 := by
      subst v1
      apply countPoison_keeps
      exact h_s
    clear_value v1
    split
    · rename_i x3 x4 x5
      refine ite_of (Keeps s₀) ?_ ?_
      · apply State.emit_keeps
        exact h2
      · apply State.emit_keeps
        exact h2
    · rename_i x6 x7 x8 x9 x10
      apply readAnswered_keeps
      exact h2
    · rename_i x11 x12 x13
      apply readAnswered_keeps
      exact h2
    · rename_i x14 x15 x16 x17
      apply devReadDone_keeps
      apply readAnswered_keeps
      exact h2
    · rename_i x18 x19
      exact h2
  · split
    · rename_i x20 x21 x22
      refine ite_of (Keeps s₀) ?_ ?_
      · apply State.emit_keeps
        exact h_s
      · apply tell_keeps
        exact h_s
    · rename_i x23 x24 x25 x26
      apply devWritten_keeps
      exact h_s
    · rename_i x27 x28 x29 x30 x31
      refine Keeps.upd ?_ rfl
      exact h_s
    · rename_i x32 x33 x34
      refine Keeps.upd ?_ rfl
      exact h_s
    · rename_i x35 x36
      exact h_s

theorem answer_keeps {s₀ : State} (s : State) (line : Nat) (b : BusyEnt) (h_s : Keeps s₀ s) : Keeps s₀ (answer s line b) := by
  unfold answer
  extract_lets +onlyGivenNames v1
  have h2 : Keeps s₀ v1 := by
    subst v1
    refine ite_of (Keeps s₀) ?_ ?_
    · apply setDirSh_keeps
      exact h_s
    · exact h_s
  clear_value v1
  extract_lets +onlyGivenNames v3
  have h4 : ∀ (s : State), Keeps s₀ s → Keeps s₀ (v3 s) := by
    subst v3
    intro y5 y6
    dsimp -zeta only
    refine Keeps.upd ?_ rfl
    exact y6
  clear_value v3
  split
  · rename_i x7 x8
    apply h4
    exact h2
  · rename_i x9 x10 x11
    extract_lets +onlyGivenNames v12
    clear_value v12
    split
    · rename_i x13 x14 x15 x16 x17
      extract_lets +onlyGivenNames v18
      have h19 : Keeps s₀ v18 := by
        subst v18
        apply stackEvent_keeps
        exact h2
      clear_value v18
      extract_lets +onlyGivenNames v20
      clear_value v20
      refine ite_of (Keeps s₀) ?_ ?_
      · apply setBusy_keeps
        apply grant_keeps
        apply sfOwn_keeps
        exact h19
      · apply setBusy_keeps
        apply grant_keeps
        apply sfShare_keeps
        exact h19
    · rename_i x21 x22 x23 x24 x25
      extract_lets +onlyGivenNames v26
      clear_value v26
      extract_lets +onlyGivenNames v27
      have h28 : Keeps s₀ v27 := by
        subst v27
        refine ite_of (Keeps s₀) ?_ ?_
        · exact h2
        · apply stackEvent_keeps
          exact h2
      clear_value v27
      apply setBusy_keeps
      apply grant_keeps
      apply sfOwn_keeps
      exact h28
    · rename_i x29 x30 x31
      extract_lets +onlyGivenNames v32
      have h33 : Keeps s₀ v32 := by
        subst v32
        apply stackEvent_keeps
        exact h2
      clear_value v32
      extract_lets +onlyGivenNames v34
      clear_value v34
      apply h4
      apply answerPlain_keeps
      exact h33
    · rename_i x35 x36 x37
      extract_lets +onlyGivenNames v38
      have h39 : Keeps s₀ v38 := by
        subst v38
        apply stackEvent_keeps
        apply writeLine_keeps
        exact h2
      clear_value v38
      apply h4
      apply answerPlain_keeps
      apply freeSf_keeps
      exact h39
    · rename_i x40 x41 x42 x43 x44
      apply h4
      exact h2

theorem answerForDead_keeps {s₀ : State} (s : State) (line : Nat) (d : Nat) (h_s : Keeps s₀ s) : Keeps s₀ (answerForDead s line d) := by
  unfold answerForDead
  split
  · rename_i x1 x2 x3
    refine ite_of (Keeps s₀) ?_ ?_
    · apply loseLine_keeps
      exact h_s
    · apply sfRemove_keeps
      exact h_s
  · rename_i x4 x5
    exact h_s

theorem startBusy_keeps {s₀ : State} (s : State) (line : Nat) (req : Option HomeReq) (targets : List Nat) (k : SnpKind) (dir : Bool) (queue : List HomeReq) (h_s : Keeps s₀ s) : Keeps s₀ (startBusy s line req targets k dir queue) := by
  unfold startBusy
  extract_lets +onlyGivenNames v1
  clear_value v1
  extract_lets +onlyGivenNames v2
  clear_value v2
  extract_lets +onlyGivenNames v3
  clear_value v3
  extract_lets +onlyGivenNames v4
  clear_value v4
  extract_lets +onlyGivenNames v5
  have h6 : Keeps s₀ v5 := by
    subst v5
    refine Keeps.foldl ?_ ?_
    · apply showBusy_keeps
      apply setBusy_keeps
      exact h_s
    · intro y7 y8 y9
      apply answerForDead_keeps
      exact y9
  clear_value v5
  extract_lets +onlyGivenNames v10
  have h11 : Keeps s₀ v10 := by
    subst v10
    refine ite_of (Keeps s₀) ?_ ?_
    · apply slBump_keeps
      exact h6
    · exact h6
  clear_value v10
  refine Keeps.foldl ?_ ?_
  · exact h11
  · intro y12 y13 y14
    apply sendSnp_keeps
    exact y14

theorem makeWay_keeps {s₀ : State} (s : State) (line : Nat) (h_s : Keeps s₀ s) : Keeps s₀ (makeWay s line) := by
  unfold makeWay
  extract_lets +onlyGivenNames v1
  clear_value v1
  split
  · rename_i x2 x3 x4
    apply slBump_keeps
    apply setDirSh_keeps
    apply freeSf_keeps
    exact h_s
  · rename_i x5 x6
    split
    · rename_i x7 x8 x9
      apply cnt1_keeps
      apply slBump_keeps
      apply startBusy_keeps
      exact h_s
    · rename_i x10 x11
      exact h_s

theorem runLine_keeps {s₀ : State} (s : State) (line fuel : Nat) (h_s : Keeps s₀ s) : Keeps s₀ (runLine s line fuel) := by
  induction fuel generalizing s with
  | zero =>
    unfold runLine
    exact h_s
  | succ n ih =>
    unfold runLine
    split
    · rename_i x1 x2
      exact h_s
    · rename_i x3 x4 x5
      refine ite_of (Keeps s₀) ?_ ?_
      · exact h_s
      · extract_lets +onlyGivenNames v6
        have h7 : Keeps s₀ v6 := by
          subst v6
          apply answer_keeps
          exact h_s
        clear_value v6
        split
        · rename_i x8 x9 x10
          exact h7
        · rename_i x11 x12
          split
          · rename_i x13 x14
            apply showBusy_keeps
            exact h7
          · rename_i x15 x16 x17 x18
            extract_lets +onlyGivenNames v19
            clear_value v19
            refine ite_of (Keeps s₀) ?_ ?_
            · extract_lets +onlyGivenNames v20
              clear_value v20
              apply showBusy_keeps
              apply makeWay_keeps
              apply State.setSlice_keeps
              exact h7
            · extract_lets +onlyGivenNames v21
              clear_value v21
              extract_lets +onlyGivenNames v22
              have h23 : Keeps s₀ v22 := by
                subst v22
                apply slEvent_keeps
                exact h7
              clear_value v22
              apply ih
              apply startBusy_keeps
              exact h23

theorem settle_keeps {s₀ : State} (s : State) (line : Nat) (h_s : Keeps s₀ s) : Keeps s₀ (settle s line) := by
  unfold settle
  apply runLine_keeps
  exact h_s

theorem purgeLine_keeps {s₀ : State} (s : State) (line : Nat) (whom : Nat → Bool) (h_s : Keeps s₀ s) : Keeps s₀ (purgeLine s line whom) := by
  unfold purgeLine
  extract_lets +onlyGivenNames v1
  clear_value v1
  refine ite_of (Keeps s₀) ?_ ?_
  · exact h_s
  · extract_lets +onlyGivenNames v2
    clear_value v2
    extract_lets +onlyGivenNames v3
    clear_value v3
    refine ite_of (Keeps s₀) ?_ ?_
    · refine ite_of (Keeps s₀) ?_ ?_
      · apply setDirSh_keeps
        exact h_s
      · exact h_s
    · apply settle_keeps
      apply startBusy_keeps
      exact h_s

theorem purge_keeps {s₀ : State} (s : State) (e : Nat) (whom : Nat → Bool) (h_s : Keeps s₀ s) : Keeps s₀ (purge s e whom) := by
  unfold purge
  refine Keeps.foldl ?_ ?_
  · exact h_s
  · intro y1 y2 y3
    apply purgeLine_keeps
    exact y3

theorem hostLeaves_keeps {s₀ : State} (s : State) (e : Nat) (u : Nat) (h_s : Keeps s₀ s) : Keeps s₀ (hostLeaves s e u) := by
  unfold hostLeaves
  split
  · rename_i x1 x2
    exact h_s
  · rename_i x3 x4 x5
    extract_lets +onlyGivenNames v6
    clear_value v6
    extract_lets +onlyGivenNames v7
    clear_value v7
    extract_lets +onlyGivenNames v8
    clear_value v8
    refine ite_of (Keeps s₀) ?_ ?_
    · apply State.setExt_keeps
      exact h_s
    · apply State.setExt_keeps
      exact h_s

theorem pumpExtents_keeps {s₀ : State} (s : State) (h_s : Keeps s₀ s) : Keeps s₀ (pumpExtents s) := by
  unfold pumpExtents
  refine Keeps.foldl ?_ ?_
  · exact h_s
  · intro y1 y2 y3
    extract_lets +onlyGivenNames v4
    clear_value v4
    refine ite_of (Keeps s₀) ?_ ?_
    · apply purge_keeps
      exact y3
    · refine Keeps.foldl ?_ ?_
      · exact y3
      · intro y5 y6 y7
        extract_lets +onlyGivenNames v8
        have h9 : Keeps s₀ v8 := by
          subst v8
          apply purge_keeps
          exact y7
        clear_value v8
        refine ite_of (Keeps s₀) ?_ ?_
        · exact h9
        · extract_lets +onlyGivenNames v10
          have h11 : Keeps s₀ v10 := by
            subst v10
            apply hostLeaves_keeps
            exact h9
          clear_value v10
          refine ite_of (Keeps s₀) ?_ ?_
          · apply purge_keeps
            exact h11
          · exact h11

theorem settleAll_keeps {s₀ : State} (s : State) (line : Nat) (h_s : Keeps s₀ s) : Keeps s₀ (settleAll s line) := by
  unfold settleAll
  apply pumpExtents_keeps
  apply settle_keeps
  exact h_s

theorem setMode_keeps {s₀ : State} (s : State) (i : Nat) (mode : Nat) (reason : Nat) (h_s : Keeps s₀ s) : Keeps s₀ (setMode s i mode reason) := by
  unfold setMode
  extract_lets +onlyGivenNames v1
  clear_value v1
  extract_lets +onlyGivenNames v2
  have h3 : Keeps s₀ v2 := by
    subst v2
    apply State.setEvt_keeps
    apply State.wr_keeps
    apply State.wr_keeps
    exact h_s
  clear_value v2
  extract_lets +onlyGivenNames v4
  clear_value v4
  apply showHeld_keeps
  apply State.setSlice_keeps
  exact h3

theorem withoutAgent_keeps {s₀ : State} (s : State) (d : Nat) (h_s : Keeps s₀ s) : Keeps s₀ (withoutAgent s d) := by
  unfold withoutAgent
  refine Keeps.foldl ?_ ?_
  · exact h_s
  · intro y1 y2 y3
    split
    · rename_i x4 x5
      exact y3
    · rename_i x6 x7 x8
      extract_lets +onlyGivenNames v9
      clear_value v9
      extract_lets +onlyGivenNames v10
      have h11 : Keeps s₀ v10 := by
        subst v10
        refine ite_of (Keeps s₀) ?_ ?_
        · apply loseLine_keeps
          exact y3
        · refine ite_of (Keeps s₀) ?_ ?_
          · apply answerForDead_keeps
            exact y3
          · exact y3
      clear_value v10
      extract_lets +onlyGivenNames v12
      clear_value v12
      extract_lets +onlyGivenNames v13
      clear_value v13
      extract_lets +onlyGivenNames v14
      have h15 : Keeps s₀ v14 := by
        subst v14
        apply setBusy_keeps
        exact h11
      clear_value v14
      apply settle_keeps
      exact h15

theorem showRecovery_keeps {s₀ : State} (s : State) (h_s : Keeps s₀ s) : Keeps s₀ (showRecovery s) := by
  unfold showRecovery
  split
  · rename_i x1 x2
    apply State.wr_keeps
    exact h_s
  · rename_i x3 x4 x5 x6
    apply State.wr_keeps
    apply State.wr_keeps
    exact h_s

theorem declareDead_keeps {s₀ : State} (s : State) (d : Nat) (cause : Nat) (h_s : Keeps s₀ s) : Keeps s₀ (declareDead s d cause) := by
  unfold declareDead
  refine ite_of (Keeps s₀) ?_ ?_
  · exact h_s
  · extract_lets +onlyGivenNames v1
    have h2 : Keeps s₀ v1 := by
      subst v1
      apply State.setEvt_keeps
      apply setDead_keeps
      exact h_s
    clear_value v1
    extract_lets +onlyGivenNames v3
    have h4 : Keeps s₀ v3 := by
      subst v3
      apply deviceEvent_keeps
      exact h2
    clear_value v3
    extract_lets +onlyGivenNames v5
    clear_value v5
    extract_lets +onlyGivenNames v6
    have h7 : Keeps s₀ v6 := by
      subst v6
      refine Keeps.upd ?_ rfl
      exact h4
    clear_value v6
    extract_lets +onlyGivenNames v8
    clear_value v8
    extract_lets +onlyGivenNames v9
    have h10 : Keeps s₀ v9 := by
      subst v9
      refine Keeps.upd ?_ rfl
      exact h7
    clear_value v9
    extract_lets +onlyGivenNames v11
    have h12 : Keeps s₀ v11 := by
      subst v11
      apply showRecovery_keeps
      apply withoutAgent_keeps
      exact h10
    clear_value v11
    refine Keeps.foldl ?_ ?_
    · exact h12
    · intro y13 y14 y15
      refine ite_of (Keeps s₀) ?_ ?_
      · apply setMode_keeps
        exact y15
      · refine ite_of (Keeps s₀) ?_ ?_
        · apply setMode_keeps
          exact y15
        · apply State.wr_keeps
          exact y15

theorem cmpTo_keeps {s₀ : State} (s : State) (a : Nat) (line : Nat) (h_s : Keeps s₀ s) : Keeps s₀ (cmpTo s a line) := by
  unfold cmpTo
  refine ite_of (Keeps s₀) ?_ ?_
  · apply State.emit_keeps
    exact h_s
  · apply tell_keeps
    exact h_s

theorem wbData_keeps {s₀ : State} (s : State) (w : WbReq) (h_s : Keeps s₀ s) : Keeps s₀ (wbData s w) := by
  unfold wbData
  refine ite_of (Keeps s₀) ?_ ?_
  · refine ite_of (Keeps s₀) ?_ ?_
    · apply State.bump_keeps
      exact h_s
    · exact h_s
  · apply stackEvent_keeps
    apply writeLine_keeps
    exact h_s

theorem doWriteback_keeps {s₀ : State} (s : State) (w : WbReq) (h_s : Keeps s₀ s) : Keeps s₀ (doWriteback s w) := by
  unfold doWriteback
  extract_lets +onlyGivenNames v1
  clear_value v1
  refine ite_of (Keeps s₀) ?_ ?_
  · extract_lets +onlyGivenNames v2
    have h3 : Keeps s₀ v2 := by
      subst v2
      refine ite_of (Keeps s₀) ?_ ?_
      · apply wbData_keeps
        exact h_s
      · exact h_s
    clear_value v2
    extract_lets +onlyGivenNames v4
    have h5 : Keeps s₀ v4 := by
      subst v4
      split
      · rename_i x6 x7
        exact h3
      · rename_i x8 x9 x10
        apply cnt1_keeps
        apply slBump_keeps
        apply setBusy_keeps
        exact h3
    clear_value v4
    apply settleAll_keeps
    apply cmpTo_keeps
    apply sfRemove_keeps
    exact h5
  · extract_lets +onlyGivenNames v11
    clear_value v11
    extract_lets +onlyGivenNames v12
    have h13 : Keeps s₀ v12 := by
      subst v12
      apply wbData_keeps
      exact h_s
    clear_value v12
    extract_lets +onlyGivenNames v14
    have h15 : Keeps s₀ v14 := by
      subst v14
      split
      · rename_i x16 x17
        split
        · rename_i x18 x19 x20
          refine ite_of (Keeps s₀) ?_ ?_
          · apply setSf_keeps
            exact h_s
          · exact h_s
        · rename_i x21 x22
          exact h_s
      · rename_i x23 x24
        refine ite_of (Keeps s₀) ?_ ?_
        · split
          · rename_i x25 x26 x27
            apply setSf_keeps
            exact h13
          · rename_i x28 x29
            exact h13
        · exact h_s
      · rename_i x30 x31
        refine ite_of (Keeps s₀) ?_ ?_
        · split
          · rename_i x32 x33 x34
            apply setSf_keeps
            exact h_s
          · rename_i x35 x36
            exact h_s
        · exact h_s
    clear_value v14
    apply cmpTo_keeps
    exact h15

theorem flushHost_keeps {s₀ : State} (s : State) (d : Nat) (h_s : Keeps s₀ s) : Keeps s₀ (flushHost s d) := by
  unfold flushHost
  extract_lets +onlyGivenNames v1
  clear_value v1
  refine Keeps.foldl ?_ ?_
  · refine Keeps.upd ?_ rfl
    exact h_s
  · intro y2 y3 y4
    apply doWriteback_keeps
    exact y4

theorem agentDies_keeps {s₀ : State} (s : State) (d : Nat) (cause : Nat) (h_s : Keeps s₀ s) : Keeps s₀ (agentDies s d cause) := by
  unfold agentDies
  refine ite_of (Keeps s₀) ?_ ?_
  · exact h_s
  · extract_lets +onlyGivenNames v1
    clear_value v1
    extract_lets +onlyGivenNames v2
    have h3 : Keeps s₀ v2 := by
      subst v2
      refine ite_of (Keeps s₀) ?_ ?_
      · apply flushHost_keeps
        exact h_s
      · exact h_s
    clear_value v2
    extract_lets +onlyGivenNames v4
    have h5 : Keeps s₀ v4 := by
      subst v4
      apply declareDead_keeps
      exact h3
    clear_value v4
    refine Keeps.foldl ?_ ?_
    · exact h5
    · intro y6 y7 y8
      extract_lets +onlyGivenNames v9
      have h10 : Keeps s₀ v9 := by
        subst v9
        apply State.setEvt_keeps
        exact y8
      clear_value v9
      extract_lets +onlyGivenNames v11
      have h12 : Keeps s₀ v11 := by
        subst v11
        split
        · rename_i x13 x14 x15
          apply markFenced_keeps
          exact h10
        · rename_i x16 x17
          exact h10
      clear_value v11
      apply declareDead_keeps
      exact h12


/-! ### Machine/AgentOps.lean -/

theorem setLine_keeps {s₀ : State} (s : State) (a : Nat) (line : Nat) (c : CLine) (h_s : Keeps s₀ s) : Keeps s₀ (setLine s a line c) := by
  unfold setLine
  extract_lets +onlyGivenNames v1
  clear_value v1
  extract_lets +onlyGivenNames v2
  clear_value v2
  refine Keeps.upd ?_ rfl
  exact h_s

theorem agentAsk_keeps {s₀ : State} (s : State) (a : Nat) (line : Nat) (k : HomeKind) (h_s : Keeps s₀ s) : Keeps s₀ (agentAsk s a line k) := by
  unfold agentAsk
  apply askHome_keeps
  exact h_s

theorem agentWb_keeps {s₀ : State} (s : State) (a : Nat) (line : Nat) (k : WbKind) (c : CLine) (h_s : Keeps s₀ s) : Keeps s₀ (agentWb s a line k c) := by
  unfold agentWb
  refine Keeps.upd ?_ rfl
  exact h_s

theorem agentFault_keeps {s₀ : State} (s : State) (a : Nat) (line : Nat) (h_s : Keeps s₀ s) : Keeps s₀ (agentFault s a line) := by
  unfold agentFault
  split
  · rename_i x1 x2
    apply agentDies_keeps
    exact h_s
  · rename_i x3 x4 x5
    extract_lets +onlyGivenNames v6
    have h7 : Keeps s₀ v6 := by
      subst v6
      apply recordError_keeps
      exact h_s
    clear_value v6
    apply agentDies_keeps
    apply markFenced_keeps
    exact h7

theorem hit_keeps {s₀ : State} (s : State) (a : Nat) (line : Nat) (c : CLine) (h_s : Keeps s₀ s) : Keeps s₀ (hit s a line c) := by
  unfold hit
  apply countPoison_keeps
  apply State.emit_keeps
  exact h_s

theorem localOp_keeps {s₀ : State} (s : State) (a : Nat) (line : Nat) (c : CLine) (op : LineOp) (h_s : Keeps s₀ s) : Keeps s₀ (localOp s a line c op) := by
  unfold localOp
  extract_lets +onlyGivenNames v1
  have h2 : Keeps s₀ v1 := by
    subst v1
    apply setLine_keeps
    exact h_s
  clear_value v1
  extract_lets +onlyGivenNames v3
  have h4 : ∀ (k : HomeKind) (st : LineState), Keeps s₀ (v3 k st) := by
    subst v3
    intro y5 y6
    dsimp -zeta only
    refine ite_of (Keeps s₀) ?_ ?_
    · exact h2
    · apply agentAsk_keeps
      apply setLine_keeps
      exact h_s
  clear_value v3
  extract_lets +onlyGivenNames v7
  have h8 : ∀ (k : WbKind) (st : LineState), Keeps s₀ (v7 k st) := by
    subst v7
    intro y9 y10
    dsimp -zeta only
    apply agentWb_keeps
    apply setLine_keeps
    exact h_s
  clear_value v7
  split
  · rename_i x11 x12 x13
    apply h4
  · rename_i x14 x15 x16 x17 x18
    apply h4
  · rename_i x19 x20 x21
    exact h_s
  · rename_i x22 x23 x24
    apply hit_keeps
    exact h_s
  · rename_i x25 x26 x27
    apply hit_keeps
    exact h_s
  · rename_i x28 x29 x30
    apply hit_keeps
    exact h_s
  · rename_i x31 x32 x33
    apply hit_keeps
    exact h_s
  · rename_i x34 x35 x36
    apply hit_keeps
    exact h_s
  · rename_i x37 x38 x39
    apply hit_keeps
    exact h_s
  · rename_i x40 x41 x42
    apply hit_keeps
    exact h_s
  · rename_i x43 x44 x45
    apply hit_keeps
    exact h_s
  · rename_i x46 x47 x48 x49 x50
    apply h4
  · rename_i x51 x52 x53
    apply h8
  · rename_i x54 x55 x56 x57 x58
    apply setLine_keeps
    exact h_s
  · rename_i x59 x60 x61 x62 x63
    apply setLine_keeps
    exact h_s
  · rename_i x64 x65 x66
    apply h8
  · rename_i x67 x68 x69
    apply h8
  · rename_i x70 x71 x72 x73 x74
    apply h4
  · rename_i x75 x76 x77
    apply h8
  · rename_i x78 x79 x80 x81 x82 x83 x84 x85 x86 x87 x88 x89 x90 x91 x92 x93 x94 x95 x96 x97 x98 x99
    exact h2

theorem retry_keeps {s₀ : State} (s : State) (a line k : Nat) (h_s : Keeps s₀ s) : Keeps s₀ (retry s a line k) := by
  induction k generalizing s with
  | zero =>
    unfold retry
    exact h_s
  | succ n ih =>
    unfold retry
    extract_lets +onlyGivenNames v1
    clear_value v1
    split
    · rename_i x2 x3
      exact h_s
    · rename_i x4 x5 x6 x7
      refine ite_of (Keeps s₀) ?_ ?_
      · exact h_s
      · extract_lets +onlyGivenNames v8
        clear_value v8
        apply ih
        apply localOp_keeps
        apply setLine_keeps
        exact h_s

theorem retryAll_keeps {s₀ : State} (s : State) (a : Nat) (line : Nat) (h_s : Keeps s₀ s) : Keeps s₀ (retryAll s a line) := by
  unfold retryAll
  apply retry_keeps
  exact h_s

theorem forward_keeps {s₀ : State} (s : State) (r : Nat) (line : Nat) (n : Nat) (c : CLine) (h_s : Keeps s₀ s) : Keeps s₀ (forward s r line n c) := by
  unfold forward
  apply tell_keeps
  exact h_s

theorem answerD_keeps {s₀ : State} (s : State) (a : Nat) (line : Nat) (c : CLine) (h_s : Keeps s₀ s) : Keeps s₀ (answerD s a line c) := by
  unfold answerD
  extract_lets +onlyGivenNames v1
  have h2 : Keeps s₀ v1.fst := by
    subst v1
    refine Keeps.foldlAt (fun (p : (State) × _) => p.1) ?_ ?_
    · exact h_s
    · intro y3 y4 y5
      split
      · rename_i x6 x7
        dsimp -zeta only
        apply forward_keeps
        exact y5
      · rename_i x8 x9 x10
        dsimp -zeta only
        apply forward_keeps
        exact y5
  clear_value v1
  apply retryAll_keeps
  apply setLine_keeps
  exact h2

theorem complete_keeps {s₀ : State} (s : State) (a : Nat) (line : Nat) (c : CLine) (h_s : Keeps s₀ s) : Keeps s₀ (complete s a line c) := by
  unfold complete
  split
  · rename_i x1 x2 x3 x4
    apply answerD_keeps
    exact h_s
  · rename_i x5 x6
    apply answerD_keeps
    apply hit_keeps
    exact h_s
  · rename_i x7 x8 x9
    apply answerD_keeps
    exact h_s

theorem watchLoad_keeps {s₀ : State} (s : State) (w : WatchSt) (h_s : Keeps s₀ s) : Keeps s₀ (watchLoad s w) := by
  unfold watchLoad
  split
  · rename_i x1 x2
    exact h_s
  · rename_i x3 x4 x5
    extract_lets +onlyGivenNames v6
    clear_value v6
    refine ite_of (Keeps s₀) ?_ ?_
    · apply localOp_keeps
      exact h_s
    · exact h_s

theorem watchShare_keeps {s₀ : State} (s : State) (a : Nat) (line : Nat) (h_s : Keeps s₀ s) : KeepsO s₀ (watchShare s a line) := by
  unfold watchShare
  extract_lets +onlyGivenNames v1
  refine ite_of (KeepsO s₀) ?_ ?_
  · extract_lets +onlyGivenNames v2
    clear_value v2
    refine KeepsO.ofSome ?_
    apply setLine_keeps
    apply sfShare_keeps
    exact h_s
  · exact KeepsO.ofNone _

theorem watchSnooped_keeps {s₀ : State} (s : State) (a : Nat) (line : Nat) (h_s : Keeps s₀ s) : Keeps s₀ (watchSnooped s a line) := by
  unfold watchSnooped
  extract_lets +onlyGivenNames v1
  have h2 : Keeps s₀ v1 := by
    subst v1
    apply poolLineTaken_keeps
    exact h_s
  clear_value v1
  split
  · rename_i x3 x4 x5
    apply watchLoad_keeps
    exact h2
  · rename_i x6 x7
    exact h2

theorem takeSnoop_keeps {s₀ : State} (s : State) (a : Nat) (line : Nat) (k : SnpKind) (h_s : Keeps s₀ s) : Keeps s₀ (takeSnoop s a line k) := by
  unfold takeSnoop
  extract_lets +onlyGivenNames v1
  clear_value v1
  extract_lets +onlyGivenNames v2
  have h3 : ∀ (s : State) (m : HomeMsg), Keeps s₀ s → Keeps s₀ (v2 s m) := by
    subst v2
    intro y4 y5 y6
    dsimp -zeta only
    refine Keeps.upd ?_ rfl
    exact y6
  clear_value v2
  split
  · rename_i x7
    extract_lets +onlyGivenNames v8
    clear_value v8
    extract_lets +onlyGivenNames v9
    clear_value v9
    extract_lets +onlyGivenNames v10
    have h11 : Keeps s₀ v10 := by
      subst v10
      apply h3
      exact h_s
    clear_value v10
    apply retryAll_keeps
    apply setLine_keeps
    exact h11
  · rename_i x12
    extract_lets +onlyGivenNames v13
    clear_value v13
    extract_lets +onlyGivenNames v14
    clear_value v14
    extract_lets +onlyGivenNames v15
    have h16 : Keeps s₀ v15 := by
      subst v15
      apply h3
      exact h_s
    clear_value v15
    apply retryAll_keeps
    apply setLine_keeps
    exact h16
  · rename_i x17
    extract_lets +onlyGivenNames v18
    clear_value v18
    extract_lets +onlyGivenNames v19
    clear_value v19
    extract_lets +onlyGivenNames v20
    have h21 : Keeps s₀ v20 := by
      subst v20
      apply h3
      exact h_s
    clear_value v20
    apply retryAll_keeps
    apply setLine_keeps
    exact h21
  · rename_i x22 x23
    extract_lets +onlyGivenNames v24
    have h25 : Keeps s₀ v24 := by
      subst v24
      apply tell_keeps
      exact h_s
    clear_value v24
    split
    · rename_i x26 x27
      apply retryAll_keeps
      apply setLine_keeps
      exact h25
    · rename_i x28 x29
      apply setLine_keeps
      exact h25
    · rename_i x30 x31
      apply setLine_keeps
      exact h25
    · rename_i x32 x33
      apply setLine_keeps
      exact h25
    · rename_i x34 x35 x36 x37 x38
      apply agentFault_keeps
      exact h_s
  · rename_i x39 x40
    split
    · rename_i x41 x42
      apply retryAll_keeps
      apply setLine_keeps
      apply forward_keeps
      exact h_s
    · rename_i x43 x44
      apply retryAll_keeps
      apply setLine_keeps
      apply forward_keeps
      exact h_s
    · rename_i x45 x46
      apply retryAll_keeps
      apply setLine_keeps
      apply forward_keeps
      exact h_s
    · rename_i x47 x48
      apply setLine_keeps
      exact h_s
    · rename_i x49 x50
      apply setLine_keeps
      exact h_s
    · rename_i x51 x52
      apply setLine_keeps
      exact h_s
    · rename_i x53 x54
      apply setLine_keeps
      exact h_s
    · rename_i x55 x56
      apply setLine_keeps
      exact h_s
    · rename_i x57 x58
      apply forward_keeps
      exact h_s
    · rename_i x59 x60
      apply setLine_keeps
      apply forward_keeps
      exact h_s
    · rename_i x61 x62
      apply setLine_keeps
      apply forward_keeps
      exact h_s
    · rename_i x63 x64 x65 x66 x67 x68 x69 x70 x71 x72 x73 x74
      apply agentFault_keeps
      exact h_s
  · rename_i x75 x76 x77
    split
    · rename_i x78 x79
      apply retryAll_keeps
      apply setLine_keeps
      apply forward_keeps
      exact h_s
    · rename_i x80 x81
      apply retryAll_keeps
      apply setLine_keeps
      apply forward_keeps
      exact h_s
    · rename_i x82 x83
      apply retryAll_keeps
      apply setLine_keeps
      apply forward_keeps
      exact h_s
    · rename_i x84 x85
      apply setLine_keeps
      exact h_s
    · rename_i x86 x87
      apply setLine_keeps
      exact h_s
    · rename_i x88 x89
      apply setLine_keeps
      exact h_s
    · rename_i x90 x91
      apply setLine_keeps
      exact h_s
    · rename_i x92 x93
      apply setLine_keeps
      exact h_s
    · rename_i x94 x95
      apply setLine_keeps
      apply forward_keeps
      exact h_s
    · rename_i x96 x97
      apply setLine_keeps
      apply forward_keeps
      exact h_s
    · rename_i x98 x99
      apply setLine_keeps
      apply forward_keeps
      exact h_s
    · rename_i x100 x101 x102 x103 x104 x105 x106 x107 x108 x109 x110 x111
      apply agentFault_keeps
      exact h_s
  · rename_i x112 x113
    exact h_s

theorem takeGrant_keeps {s₀ : State} (s : State) (a : Nat) (line : Nat) (excl : Bool) (data : Option (List Byte)) (bad : Bool) (h_s : Keeps s₀ s) : Keeps s₀ (takeGrant s a line excl data bad) := by
  unfold takeGrant
  extract_lets +onlyGivenNames v1
  clear_value v1
  extract_lets +onlyGivenNames v2
  clear_value v2
  extract_lets +onlyGivenNames v3
  clear_value v3
  extract_lets +onlyGivenNames v4
  have h5 : Keeps s₀ v4 := by
    subst v4
    refine Keeps.upd ?_ rfl
    exact h_s
  clear_value v4
  split
  · rename_i x6 x7
    apply retryAll_keeps
    apply setLine_keeps
    apply hit_keeps
    exact h5
  · rename_i x8 x9
    apply retryAll_keeps
    apply setLine_keeps
    apply hit_keeps
    exact h5
  · rename_i x10 x11
    refine ite_of (Keeps s₀) ?_ ?_
    · apply complete_keeps
      exact h5
    · apply agentFault_keeps
      exact h_s
  · rename_i x12 x13
    refine ite_of (Keeps s₀) ?_ ?_
    · apply complete_keeps
      exact h5
    · apply agentFault_keeps
      exact h_s
  · rename_i x14 x15 x16 x17 x18
    apply agentFault_keeps
    exact h_s

theorem takeData_keeps {s₀ : State} (s : State) (a : Nat) (line : Nat) (n : Nat) (b : List Byte) (bad : Bool) (h_s : Keeps s₀ s) : Keeps s₀ (takeData s a line n b bad) := by
  unfold takeData
  extract_lets +onlyGivenNames v1
  clear_value v1
  extract_lets +onlyGivenNames v2
  clear_value v2
  split
  · rename_i x3 x4
    refine ite_of (Keeps s₀) ?_ ?_
    · apply retryAll_keeps
      apply setLine_keeps
      apply hit_keeps
      exact h_s
    · apply agentFault_keeps
      exact h_s
  · rename_i x5 x6
    refine ite_of (Keeps s₀) ?_ ?_
    · apply retryAll_keeps
      apply setLine_keeps
      apply hit_keeps
      exact h_s
    · apply agentFault_keeps
      exact h_s
  · rename_i x7 x8
    refine ite_of (Keeps s₀) ?_ ?_
    · apply complete_keeps
      exact h_s
    · apply setLine_keeps
      exact h_s
  · rename_i x9 x10
    refine ite_of (Keeps s₀) ?_ ?_
    · apply complete_keeps
      exact h_s
    · apply setLine_keeps
      exact h_s
  · rename_i x11 x12 x13 x14 x15
    apply agentFault_keeps
    exact h_s

theorem takeInvAck_keeps {s₀ : State} (s : State) (a : Nat) (line : Nat) (h_s : Keeps s₀ s) : Keeps s₀ (takeInvAck s a line) := by
  unfold takeInvAck
  extract_lets +onlyGivenNames v1
  clear_value v1
  extract_lets +onlyGivenNames v2
  clear_value v2
  split
  · rename_i x3 x4
    apply setLine_keeps
    exact h_s
  · rename_i x5 x6
    apply setLine_keeps
    exact h_s
  · rename_i x7 x8
    apply setLine_keeps
    exact h_s
  · rename_i x9 x10
    refine ite_of (Keeps s₀) ?_ ?_
    · apply complete_keeps
      exact h_s
    · apply setLine_keeps
      exact h_s
  · rename_i x11 x12
    refine ite_of (Keeps s₀) ?_ ?_
    · apply complete_keeps
      exact h_s
    · apply setLine_keeps
      exact h_s
  · rename_i x13 x14
    refine ite_of (Keeps s₀) ?_ ?_
    · apply complete_keeps
      exact h_s
    · apply setLine_keeps
      exact h_s
  · rename_i x15 x16 x17 x18 x19 x20 x21
    apply agentFault_keeps
    exact h_s

theorem takeGntM_keeps {s₀ : State} (s : State) (a : Nat) (line : Nat) (n : Nat) (h_s : Keeps s₀ s) : Keeps s₀ (takeGntM s a line n) := by
  unfold takeGntM
  extract_lets +onlyGivenNames v1
  clear_value v1
  extract_lets +onlyGivenNames v2
  clear_value v2
  split
  · rename_i x3 x4
    refine ite_of (Keeps s₀) ?_ ?_
    · apply complete_keeps
      exact h_s
    · apply setLine_keeps
      exact h_s
  · rename_i x5 x6
    apply agentFault_keeps
    exact h_s

theorem takeCmp_keeps {s₀ : State} (s : State) (a : Nat) (line : Nat) (h_s : Keeps s₀ s) : Keeps s₀ (takeCmp s a line) := by
  unfold takeCmp
  extract_lets +onlyGivenNames v1
  clear_value v1
  split
  · rename_i x2 x3
    apply retryAll_keeps
    apply setLine_keeps
    exact h_s
  · rename_i x4 x5
    apply retryAll_keeps
    apply setLine_keeps
    exact h_s
  · rename_i x6 x7
    apply retryAll_keeps
    apply setLine_keeps
    exact h_s
  · rename_i x8 x9
    apply retryAll_keeps
    apply setLine_keeps
    exact h_s
  · rename_i x10 x11 x12 x13 x14
    apply agentFault_keeps
    exact h_s


/-! ### Machine/LinkOps.lean -/

theorem linkEvent_keeps {s₀ : State} (s : State) (n : Nat) (i : Nat) (h_s : Keeps s₀ s) : Keeps s₀ (linkEvent s n i) := by
  unfold linkEvent
  apply State.setEvt_keeps
  exact h_s

theorem setPortState_keeps {s₀ : State} (s : State) (n : Nat) (st : Nat) (h_s : Keeps s₀ s) : Keeps s₀ (setPortState s n st) := by
  unfold setPortState
  extract_lets +onlyGivenNames v1
  have h2 : Keeps s₀ v1 := by
    subst v1
    apply State.wr_keeps
    exact h_s
  clear_value v1
  apply State.emit_keeps
  apply linkEvent_keeps
  exact h2

theorem pushLcm_keeps {s₀ : State} (s : State) (n : Nat) (m : BitVec 512) (h_s : Keeps s₀ s) : Keeps s₀ (pushLcm s n m) := by
  unfold pushLcm
  extract_lets +onlyGivenNames v1
  clear_value v1
  apply State.setPort_keeps
  exact h_s

theorem drawIdent_keeps {s₀ : State} (s : State) (n : Nat) (h_s : Keeps s₀ s) : Keeps s₀ (drawIdent s n).snd := by
  unfold drawIdent
  refine Keeps.mkPair ?_
  apply State.spend_keeps
  exact h_s

theorem ownRequest_keeps {s₀ : State} (s : State) (n : Nat) (reason : Nat) (h_s : Keeps s₀ s) : Keeps s₀ (ownRequest s n reason) := by
  unfold ownRequest
  split
  · rename_i x1 x2 x3 x4
    have h5 : Keeps s₀ x3 := by
      refine Keeps.ofPair ?_ x4
      apply drawIdent_keeps
      exact h_s
    extract_lets +onlyGivenNames v6
    clear_value v6
    apply State.setPort_keeps
    exact h5

theorem startBringup_keeps {s₀ : State} (s : State) (n : Nat) (h_s : Keeps s₀ s) : Keeps s₀ (startBringup s n) := by
  unfold startBringup
  extract_lets +onlyGivenNames v1
  clear_value v1
  extract_lets +onlyGivenNames v2
  clear_value v2
  extract_lets +onlyGivenNames v3
  clear_value v3
  apply State.wr_keeps
  apply State.setPort_keeps
  exact h_s

theorem autoStart_keeps {s₀ : State} (s : State) (n : Nat) (h_s : Keeps s₀ s) : Keeps s₀ (autoStart s n) := by
  unfold autoStart
  extract_lets +onlyGivenNames v1
  clear_value v1
  refine ite_of (Keeps s₀) ?_ ?_
  · apply startBringup_keeps
    exact h_s
  · exact h_s

theorem autoStartAll_keeps {s₀ : State} (s : State) (h_s : Keeps s₀ s) : Keeps s₀ (autoStartAll s) := by
  unfold autoStartAll
  refine Keeps.foldl ?_ ?_
  · exact h_s
  · intro y1 y2 y3
    apply autoStart_keeps
    exact y3

theorem discardWaiting_keeps {s₀ : State} (s : State) (k : Nat) (c : SwPkt) (h_s : Keeps s₀ s) : Keeps s₀ (discardWaiting s k c) := by
  unfold discardWaiting
  extract_lets +onlyGivenNames v1
  have h2 : Keeps s₀ v1 := by
    subst v1
    apply flow_keeps
    apply setCur_keeps
    exact h_s
  clear_value v1
  refine ite_of (Keeps s₀) ?_ ?_
  · apply dropCur_keeps
    apply salvageLeft_keeps
    apply mirFinish_keeps
    exact h2
  · exact h2

theorem askOutput_keeps {s₀ : State} (s : State) (k : Nat) (c : SwPkt) (o : Nat) (h : RouteHdr) (h_s : Keeps s₀ s) : Keeps s₀ (askOutput s k c o h) := by
  unfold askOutput
  apply setCur_keeps
  exact h_s

theorem countNotReady_keeps {s₀ : State} (s : State) (h_s : Keeps s₀ s) : Keeps s₀ (countNotReady s) := by
  unfold countNotReady
  apply State.setEvt_keeps
  apply State.bump_keeps
  exact h_s

theorem rerouteHead_keeps {s₀ : State} (s : State) (k : Nat) (h_s : Keeps s₀ s) : Keeps s₀ (rerouteHead s k) := by
  unfold rerouteHead
  split
  · rename_i x1 x2
    exact h_s
  · rename_i x3 x4 x5
    extract_lets +onlyGivenNames v6
    clear_value v6
    extract_lets +onlyGivenNames v7
    have h8 : Keeps s₀ v7 := by
      subst v7
      apply cnt1_keeps
      apply State.bump_keeps
      exact h_s
    clear_value v7
    refine ite_of (Keeps s₀) ?_ ?_
    · apply discardWaiting_keeps
      apply State.bump_keeps
      exact h8
    · refine ite_of (Keeps s₀) ?_ ?_
      · apply discardWaiting_keeps
        apply countNotReady_keeps
        exact h8
      · extract_lets +onlyGivenNames v9
        have h10 : Keeps s₀ v9.snd := by
          subst v9
          apply chooseRoute_keeps
          exact h8
        clear_value v9
        split
        · rename_i x11 x12 x13 x14
          apply askOutput_keeps
          exact h10
        · rename_i x15 x16
          apply discardWaiting_keeps
          apply countNoRoute_keeps
          exact h10

theorem deadSet_keeps {s₀ : State} (s : State) (n : Nat) (h_s : Keeps s₀ s) : Keeps s₀ (deadSet s n) := by
  unfold deadSet
  refine ite_of (Keeps s₀) ?_ ?_
  · exact h_s
  · extract_lets +onlyGivenNames v1
    have h2 : Keeps s₀ v1 := by
      subst v1
      apply State.setEvt_keeps
      apply setMask96_keeps
      exact h_s
    clear_value v1
    refine Keeps.foldl ?_ ?_
    · exact h2
    · intro y3 y4 y5
      apply rerouteHead_keeps
      exact y5

theorem deadClear_keeps {s₀ : State} (s : State) (n : Nat) (h_s : Keeps s₀ s) : Keeps s₀ (deadClear s n) := by
  unfold deadClear
  refine ite_of (Keeps s₀) ?_ ?_
  · apply State.setEvt_keeps
    apply setMask96_keeps
    exact h_s
  · exact h_s

theorem countDiscard_keeps {s₀ : State} (s : State) (n : Nat) (h_s : Keeps s₀ s) : Keeps s₀ (countDiscard s n) := by
  unfold countDiscard
  apply State.bump_keeps
  exact h_s

theorem cutArrivals_keeps {s₀ : State} (s : State) (n : Nat) (h_s : Keeps s₀ s) : Keeps s₀ (cutArrivals s n) := by
  unfold cutArrivals
  refine Keeps.foldl ?_ ?_
  · exact h_s
  · intro y1 y2 y3
    extract_lets +onlyGivenNames v4
    have h5 : Keeps s₀ v4 := by
      subst v4
      split
      · rename_i x6 x7 x8
        refine ite_of (Keeps s₀) ?_ ?_
        · exact y3
        · apply cutInput_keeps
          · exact y3
          · intro y9 y10
            apply countDiscard_keeps
            exact y10
      · rename_i x11 x12
        exact y3
    clear_value v4
    extract_lets +onlyGivenNames v13
    clear_value v13
    extract_lets +onlyGivenNames v14
    clear_value v14
    extract_lets +onlyGivenNames v15
    have h16 : Keeps s₀ v15 := by
      subst v15
      apply State.setPort_keeps
      exact h5
    clear_value v15
    refine ite_of (Keeps s₀) ?_ ?_
    · apply countDiscard_keeps
      exact h16
    · exact h16

theorem portBroken_keeps {s₀ : State} (s : State) (n : Nat) (reason : Nat) (h_s : Keeps s₀ s) : Keeps s₀ (portBroken s n reason) := by
  unfold portBroken
  extract_lets +onlyGivenNames v1
  have h2 : Keeps s₀ v1 := by
    subst v1
    apply setPortState_keeps
    apply State.wr_keeps
    exact h_s
  clear_value v1
  extract_lets +onlyGivenNames v3
  clear_value v3
  extract_lets +onlyGivenNames v4
  have h5 : Keeps s₀ v4 := by
    subst v4
    apply State.setPort_keeps
    exact h2
  clear_value v4
  extract_lets +onlyGivenNames v6
  have h7 : Keeps s₀ v6 := by
    subst v6
    apply salvageReady_keeps
    apply cutArrivals_keeps
    exact h5
  clear_value v6
  apply deviceEvent_keeps
  apply portDrop_keeps
  apply deadSet_keeps
  exact h7

theorem resetLink_keeps {s₀ : State} (s : State) (n : Nat) (h_s : Keeps s₀ s) : Keeps s₀ (resetLink s n) := by
  unfold resetLink
  apply State.setPort_keeps
  exact h_s

theorem portDown_keeps {s₀ : State} (s : State) (n : Nat) (reason : Nat) (h_s : Keeps s₀ s) : Keeps s₀ (portDown s n reason) := by
  unfold portDown
  extract_lets +onlyGivenNames v1
  clear_value v1
  extract_lets +onlyGivenNames v2
  have h3 : Keeps s₀ v2 := by
    subst v2
    apply State.wr_keeps
    exact h_s
  clear_value v2
  extract_lets +onlyGivenNames v4
  have h5 : Keeps s₀ v4 := by
    subst v4
    refine ite_of (Keeps s₀) ?_ ?_
    · exact h3
    · apply setPortState_keeps
      exact h3
  clear_value v4
  extract_lets +onlyGivenNames v6
  have h7 : Keeps s₀ v6 := by
    subst v6
    refine Keeps.foldl ?_ ?_
    · apply cutArrivals_keeps
      exact h5
    · intro y8 y9 y10
      apply haltInput_keeps
      · exact y10
      · intro y11 y12
        unfold id
        exact y12
  clear_value v6
  extract_lets +onlyGivenNames v13
  clear_value v13
  extract_lets +onlyGivenNames v14
  have h15 : Keeps s₀ v14 := by
    subst v14
    apply resetLink_keeps
    apply State.setPort_keeps
    exact h7
  clear_value v14
  extract_lets +onlyGivenNames v16
  have h17 : Keeps s₀ v16 := by
    subst v16
    apply portDrop_keeps
    apply deadSet_keeps
    exact h15
  clear_value v16
  refine ite_of (Keeps s₀) ?_ ?_
  · exact h17
  · apply deviceEvent_keeps
    exact h17

theorem portDownAfter_keeps {s₀ : State} (s : State) (n : Nat) (reason : Nat) (h_s : Keeps s₀ s) : Keeps s₀ (portDownAfter s n reason) := by
  unfold portDownAfter
  extract_lets +onlyGivenNames v1
  clear_value v1
  refine ite_of (Keeps s₀) ?_ ?_
  · apply State.setPort_keeps
    exact h_s
  · apply portDown_keeps
    exact h_s

theorem linkDownThen_keeps {s₀ : State} (s : State) (n : Nat) (reason : Nat) (h_s : Keeps s₀ s) : Keeps s₀ (linkDownThen s n reason) := by
  unfold linkDownThen
  refine ite_of (Keeps s₀) ?_ ?_
  · exact h_s
  · extract_lets +onlyGivenNames v1
    clear_value v1
    apply State.setPort_keeps
    exact h_s

theorem violation_keeps {s₀ : State} (s : State) (n : Nat) (h_s : Keeps s₀ s) : Keeps s₀ (violation s n) := by
  unfold violation
  refine ite_of (Keeps s₀) ?_ ?_
  · apply portBroken_keeps
    apply recordError_keeps
    exact h_s
  · exact h_s

theorem enterRetrain_keeps {s₀ : State} (s : State) (n : Nat) (then_ : State → State) (h_s : Keeps s₀ s) (h_then_ : ∀ (a : State), Keeps s₀ a → Keeps s₀ (then_ a)) : Keeps s₀ (enterRetrain s n then_) := by
  unfold enterRetrain
  refine ite_of (Keeps s₀) ?_ ?_
  · apply portBroken_keeps
    exact h_s
  · extract_lets +onlyGivenNames v1
    have h2 : Keeps s₀ v1 := by
      subst v1
      apply setPortState_keeps
      apply State.bump_keeps
      exact h_s
    clear_value v1
    extract_lets +onlyGivenNames v3
    clear_value v3
    extract_lets +onlyGivenNames v4
    clear_value v4
    apply h_then_
    apply State.setPort_keeps
    exact h2

theorem ownRetrain_keeps {s₀ : State} (s : State) (n : Nat) (reason : Nat) (h_s : Keeps s₀ s) : Keeps s₀ (ownRetrain s n reason) := by
  unfold ownRetrain
  apply enterRetrain_keeps
  · exact h_s
  · intro y1 y2
    apply ownRequest_keeps
    exact y2

theorem requestReplay_keeps {s₀ : State} (s : State) (n : Nat) (h_s : Keeps s₀ s) : Keeps s₀ (requestReplay s n) := by
  unfold requestReplay
  extract_lets +onlyGivenNames v1
  clear_value v1
  refine ite_of (Keeps s₀) ?_ ?_
  · apply ownRetrain_keeps
    apply linkEvent_keeps
    exact h_s
  · apply pushLcm_keeps
    apply State.setPort_keeps
    exact h_s

theorem setPeer_keeps {s₀ : State} (s : State) (n : Nat) (h_s : Keeps s₀ s) : Keeps s₀ (setPeer s n) := by
  unfold setPeer
  extract_lets +onlyGivenNames v1
  clear_value v1
  apply State.wr_keeps
  apply State.wr_keeps
  apply State.wr_keeps
  exact h_s

theorem enterUp_keeps {s₀ : State} (s : State) (n : Nat) (h_s : Keeps s₀ s) : Keeps s₀ (enterUp s n) := by
  unfold enterUp
  extract_lets +onlyGivenNames v1
  clear_value v1
  extract_lets +onlyGivenNames v2
  clear_value v2
  extract_lets +onlyGivenNames v3
  have h4 : Keeps s₀ v3 := by
    subst v3
    apply setPortState_keeps
    apply State.wr_keeps
    exact h_s
  clear_value v3
  extract_lets +onlyGivenNames v5
  have h6 : Keeps s₀ v5 := by
    subst v5
    refine ite_of (Keeps s₀) ?_ ?_
    · apply State.emit_keeps
      exact h4
    · exact h4
  clear_value v5
  extract_lets +onlyGivenNames v7
  have h8 : Keeps s₀ v7 := by
    subst v7
    apply State.setPort_keeps
    exact h6
  clear_value v7
  extract_lets +onlyGivenNames v9
  have h10 : Keeps s₀ v9 := by
    subst v9
    apply deadClear_keeps
    exact h8
  clear_value v9
  refine ite_of (Keeps s₀) ?_ ?_
  · extract_lets +onlyGivenNames v11
    clear_value v11
    extract_lets +onlyGivenNames v12
    have h13 : Keeps s₀ v12 := by
      subst v12
      refine Keeps.upd ?_ rfl
      exact h10
    clear_value v12
    apply deviceEvent_keeps
    apply State.wri_keeps
    exact h13
  · exact h10


/-! ### Machine/Switch.lean -/

theorem pickPort_keeps {s₀ : State} (s : State) (l : List Nat) (h_s : Keeps s₀ s) : Keeps s₀ (pickPort s l).snd := by
  unfold pickPort
  split
  · rename_i x1
    exact h_s
  · rename_i x2 x3
    exact h_s
  · rename_i x4 x5 x6
    refine Keeps.mkPair ?_
    apply State.spend_keeps
    exact h_s

theorem atDrop_keeps {s₀ : State} (s : State) (f : Field) (evt : Option Nat) (h_s : Keeps s₀ s) : Keeps s₀ (atDrop s f evt).snd := by
  unfold atDrop
  extract_lets +onlyGivenNames v1
  have h2 : Keeps s₀ v1 := by
    subst v1
    apply State.bump_keeps
    exact h_s
  clear_value v1
  refine Keeps.mkPair ?_
  split
  · rename_i x3 x4
    apply State.setEvt_keeps
    exact h2
  · rename_i x5
    exact h2

theorem deliverHead_keeps {s₀ : State} (s : State) (h : RouteHdr) (t : TransHdr) (inPort : Nat) (h_s : Keeps s₀ s) : Keeps s₀ (deliverHead s h t inPort).snd := by
  unfold deliverHead
  extract_lets +onlyGivenNames v1
  clear_value v1
  refine ite_of (fun (p : _ × State) => Keeps s₀ p.2) ?_ ?_
  · apply atDrop_keeps
    exact h_s
  · extract_lets +onlyGivenNames v2
    have h3 : Keeps s₀ v2.snd := by
      subst v2
      apply pickPort_keeps
      exact h_s
    clear_value v2
    split
    · rename_i x4 x5 x6
      exact h3
    · rename_i x7 x8
      apply atDrop_keeps
      exact h_s

theorem sourceRoute_keeps {s₀ : State} (s : State) (h : RouteHdr) (t : TransHdr) (w : Via) (h_s : Keeps s₀ s) : Keeps s₀ (sourceRoute s h t w).snd := by
  unfold sourceRoute
  extract_lets +onlyGivenNames v1
  clear_value v1
  extract_lets +onlyGivenNames v2
  clear_value v2
  extract_lets +onlyGivenNames v3
  clear_value v3
  refine ite_of (fun (p : _ × State) => Keeps s₀ p.2) ?_ ?_
  · refine ite_of (fun (p : _ × State) => Keeps s₀ p.2) ?_ ?_
    · apply atDrop_keeps
      exact h_s
    · exact h_s
  · refine ite_of (fun (p : _ × State) => Keeps s₀ p.2) ?_ ?_
    · apply atDrop_keeps
      exact h_s
    · exact h_s

theorem routeHead_keeps {s₀ : State} (s : State) (h : RouteHdr) (t : TransHdr) (w : Via) (h_s : Keeps s₀ s) : Keeps s₀ (routeHead s h t w).snd := by
  unfold routeHead
  extract_lets +onlyGivenNames v1
  clear_value v1
  extract_lets +onlyGivenNames v2
  clear_value v2
  extract_lets +onlyGivenNames v3
  clear_value v3
  refine ite_of (fun (p : _ × State) => Keeps s₀ p.2) ?_ ?_
  · exact h_s
  · refine ite_of (fun (p : _ × State) => Keeps s₀ p.2) ?_ ?_
    · apply sourceRoute_keeps
      exact h_s
    · refine ite_of (fun (p : _ × State) => Keeps s₀ p.2) ?_ ?_
      · refine ite_of (fun (p : _ × State) => Keeps s₀ p.2) ?_ ?_
        · apply deliverHead_keeps
          exact h_s
        · refine ite_of (fun (p : _ × State) => Keeps s₀ p.2) ?_ ?_
          · exact h_s
          · apply atDrop_keeps
            exact h_s
      · refine ite_of (fun (p : _ × State) => Keeps s₀ p.2) ?_ ?_
        · apply atDrop_keeps
          exact h_s
        · refine ite_of (fun (p : _ × State) => Keeps s₀ p.2) ?_ ?_
          · apply atDrop_keeps
            exact h_s
          · extract_lets +onlyGivenNames v4
            have h5 : Keeps s₀ v4.snd := by
              subst v4
              apply chooseRoute_keeps
              exact h_s
            clear_value v4
            split
            · rename_i x6 x7 x8 x9
              exact h5
            · rename_i x10 x11
              refine Keeps.mkPair ?_
              apply countNoRoute_keeps
              exact h5

theorem mcCopy_keeps {s₀ : State} (s : State) (k : Nat) (o : Nat) (h : RouteHdr) (inRh : RouteHdr) (viaFabric : Bool) (att : Option Nat) (h_s : Keeps s₀ s) : Keeps s₀ (mcCopy s k o h inRh viaFabric att) := by
  unfold mcCopy
  extract_lets +onlyGivenNames v1
  have h2 : Keeps s₀ v1 := by
    subst v1
    apply cnt1_keeps
    exact h_s
  clear_value v1
  apply takeIn_keeps
  exact h2

theorem multicast_keeps {s₀ : State} (s : State) (k : Nat) (h : RouteHdr) (inRh : RouteHdr) (w : Via) (h_s : Keeps s₀ s) : Keeps s₀ (multicast s k h inRh w) := by
  unfold multicast
  extract_lets +onlyGivenNames v1
  clear_value v1
  refine ite_of (Keeps s₀) ?_ ?_
  · apply State.setEvt_keeps
    apply State.bump_keeps
    exact h_s
  · extract_lets +onlyGivenNames v2
    have h3 : ∀ (t : State), Keeps s₀ t → Keeps s₀ (v2 t) := by
      subst v2
      intro y4 y5
      dsimp -zeta only
      apply State.bump_keeps
      exact y5
    clear_value v2
    extract_lets +onlyGivenNames v6
    have h7 : Keeps s₀ v6 := by
      subst v6
      refine Keeps.foldl ?_ ?_
      · exact h_s
      · intro y8 y9 y10
        refine ite_of (Keeps s₀) ?_ ?_
        · exact y10
        · refine ite_of (Keeps s₀) ?_ ?_
          · apply h3
            exact y10
          · refine ite_of (Keeps s₀) ?_ ?_
            · apply State.setEvt_keeps
              apply State.bump_keeps
              exact y10
            · apply mcCopy_keeps
              exact y10
    clear_value v6
    extract_lets +onlyGivenNames v11
    have h12 : Keeps s₀ v11 := by
      subst v11
      refine Keeps.foldl ?_ ?_
      · exact h7
      · intro y13 y14 y15
        extract_lets +onlyGivenNames v16
        clear_value v16
        refine ite_of (Keeps s₀) ?_ ?_
        · exact y15
        · refine ite_of (Keeps s₀) ?_ ?_
          · apply h3
            exact y15
          · apply mcCopy_keeps
            exact y15
    clear_value v11
    refine ite_of (Keeps s₀) ?_ ?_
    · refine ite_of (Keeps s₀) ?_ ?_
      · apply h3
        exact h12
      · apply mcCopy_keeps
        exact h12
    · exact h12

theorem pktEvent_keeps {s₀ : State} (s : State) (n : Nat) (code : Nat) (cls : Nat) (t : TransHdr) (master : Option Nat) (h_s : Keeps s₀ s) : Keeps s₀ (pktEvent s n code cls t master) := by
  unfold pktEvent
  refine ite_of (Keeps s₀) ?_ ?_
  · apply countEv_keeps
    exact h_s
  · exact h_s

theorem nextHead_keeps {s₀ s t : State} {p vc : Nat} {a : RouteHdr} {b : List (BitVec 512)} {c d g : Bool} (h : Keeps s₀ s)
    (e : nextHead s p vc = some (a, b, c, d, g, t)) : Keeps s₀ t := by
  unfold nextHead at e
  dsimp only at e
  split at e
  · split at e
    · cases e
      exact h
    · split at e
      · cases e
      · cases e
        exact State.setPort_keeps _ _ _ h
  · split at e
    · cases e
    · split at e
      · cases e
        exact h.same rfl rfl rfl rfl
      · cases e

theorem placeHead_keeps {s₀ : State} (s : State) (k : Nat) (c : SwPkt) (v : Verdict) (h_s : Keeps s₀ s) : Keeps s₀ (placeHead s k c v) := by
  unfold placeHead
  extract_lets +onlyGivenNames v1
  clear_value v1
  extract_lets +onlyGivenNames v2
  clear_value v2
  split
  · rename_i x3
    apply setCur_keeps
    exact h_s
  · rename_i x4
    apply setCur_keeps
    exact h_s
  · rename_i x5
    apply multicast_keeps
    apply setCur_keeps
    exact h_s
  · rename_i x6 x7 x8
    refine ite_of (Keeps s₀) ?_ ?_
    · extract_lets +onlyGivenNames v9
      have h10 : Keeps s₀ v9.snd := by
        subst v9
        apply takeIn_keeps
        exact h_s
      clear_value v9
      apply setCur_keeps
      exact h10
    · apply askOutput_keeps
      exact h_s

theorem strikeAtlas_keeps {s₀ : State} (s : State) (u : Option AtlasUpset) (h_s : Keeps s₀ s) : Keeps s₀ (strikeAtlas s u) := by
  unfold strikeAtlas
  split
  · rename_i x1
    exact h_s
  · rename_i x2 x3
    extract_lets +onlyGivenNames v4
    clear_value v4
    refine Keeps.upd ?_ rfl
    exact h_s

theorem execPacketHeadArrive_keeps {s₀ : State} (p : Fin 128) (vc : HeadAt) (s : State) (h_s : Keeps s₀ s) : Ends (execPacketHeadArrive p vc s) (Keeps s₀) := by
  unfold execPacketHeadArrive
  extract_lets +onlyGivenNames v1
  clear_value v1
  extract_lets +onlyGivenNames v2
  have h3 : Keeps s₀ v2 := by
    subst v2
    apply strikeAtlas_keeps
    exact h_s
  clear_value v2
  extract_lets +onlyGivenNames v4
  clear_value v4
  extract_lets +onlyGivenNames v5
  clear_value v5
  refine ite_of (fun o => Ends o (Keeps s₀)) ?_ ?_
  · refine Ends.next ?_
    exact h3
  · split
    · rename_i x6 x7
      refine Ends.next ?_
      exact h3
    · rename_i x8 x9 x10 x11 x12 x13 x14 x15
      have h16 : Keeps s₀ x14 := by
        refine nextHead_keeps ?_ x15
        exact h3
      extract_lets +onlyGivenNames v17
      clear_value v17
      extract_lets +onlyGivenNames v18
      clear_value v18
      extract_lets +onlyGivenNames v19
      clear_value v19
      split
      · rename_i x20 x21 x22
        extract_lets +onlyGivenNames v23
        have h24 : Keeps s₀ v23 := by
          subst v23
          apply recordError_keeps
          apply State.bump_keeps
          exact h16
        clear_value v23
        refine Ends.next ?_
        apply flow_keeps
        apply setCur_keeps
        exact h24
      · rename_i x25 x26
        extract_lets +onlyGivenNames v27
        have h28 : Keeps s₀ v27.snd := by
          subst v27
          split
          · rename_i x29 x30 x31
            apply policeDrop_keeps
            exact h16
          · rename_i x32 x33
            exact h16
        clear_value v27
        split
        · rename_i x34 x35
          refine Ends.next ?_
          apply flow_keeps
          apply setCur_keeps
          exact h28
        · rename_i x36 x37 x38
          extract_lets +onlyGivenNames v39
          clear_value v39
          extract_lets +onlyGivenNames v40
          clear_value v40
          extract_lets +onlyGivenNames v41
          have h42 : Keeps s₀ v41.snd := by
            subst v41
            apply routeHead_keeps
            exact h28
          clear_value v41
          extract_lets +onlyGivenNames v43
          clear_value v43
          extract_lets +onlyGivenNames v44
          have h45 : Keeps s₀ v44 := by
            subst v44
            apply pktEvent_keeps
            exact h42
          clear_value v44
          extract_lets +onlyGivenNames v46
          have h47 : Keeps s₀ v46 := by
            subst v46
            apply placeHead_keeps
            exact h45
          clear_value v46
          extract_lets +onlyGivenNames v48
          have h49 : Keeps s₀ v48.snd := by
            subst v48
            split
            · rename_i x50 x51
              exact h47
            · rename_i x52
              refine Keeps.mkPair ?_
              apply State.spend_keeps
              exact h47
          clear_value v48
          extract_lets +onlyGivenNames v53
          have h54 : Keeps s₀ v53 := by
            subst v53
            apply mirAll_keeps
            exact h49
          clear_value v53
          refine Ends.next ?_
          apply flow_keeps
          exact h54

theorem sendNotReady_keeps {s₀ : State} (s : State) (n : Nat) (p : Packet) (h_s : Keeps s₀ s) : Keeps s₀ (sendNotReady s n p) := by
  unfold sendNotReady
  refine ite_of (Keeps s₀) ?_ ?_
  · exact h_s
  · extract_lets +onlyGivenNames v1
    have h2 : Keeps s₀ v1.snd := by
      subst v1
      apply nakStray_keeps
      exact h_s
    clear_value v1
    extract_lets +onlyGivenNames v3
    clear_value v3
    extract_lets +onlyGivenNames v4
    clear_value v4
    extract_lets +onlyGivenNames v5
    have h6 : Keeps s₀ v5 := by
      subst v5
      apply State.setEvt_keeps
      apply State.bumpi_keeps
      exact h2
    clear_value v5
    apply setCur_keeps
    exact h6

theorem finishInput_keeps {s₀ : State} (s : State) (k : Nat) (cut : Option Nat) (h_s : Keeps s₀ s) : Keeps s₀ (finishInput s k cut) := by
  unfold finishInput
  split
  · rename_i x1 x2
    exact h_s
  · rename_i x3 x4 x5
    extract_lets +onlyGivenNames v6
    clear_value v6
    extract_lets +onlyGivenNames v7
    have h8 : Keeps s₀ v7 := by
      subst v7
      apply mirFinish_keeps
      exact h_s
    clear_value v7
    extract_lets +onlyGivenNames v9
    have h10 : Keeps s₀ v9 := by
      subst v9
      split
      · rename_i x11 x12
        apply outPush_keeps
        exact h8
      · rename_i x13 x14
        apply finishPool_keeps
        exact h8
      · rename_i x15 x16 x17
        exact h8
    clear_value v9
    apply freeInput_keeps
    exact h10

theorem stompPool_keeps {s₀ : State} (s : State) (k : Nat) (reason : Nat) (drop : Bool) (h_s : Keeps s₀ s) : Keeps s₀ (stompPool s k reason drop) := by
  unfold stompPool
  refine Keeps.foldl ?_ ?_
  · exact h_s
  · intro y1 y2 y3
    extract_lets +onlyGivenNames v4
    have h5 : Keeps s₀ v4 := by
      subst v4
      refine ite_of (Keeps s₀) ?_ ?_
      · apply setQueue_keeps
        exact y3
      · exact y3
    clear_value v4
    refine ite_of (Keeps s₀) ?_ ?_
    · apply countStomp_keeps
      exact h5
    · exact h5

theorem stompOrDrop_keeps {s₀ : State} (s : State) (k : Nat) (c : SwPkt) (reason : Nat) (count : State → State) (h_s : Keeps s₀ s) (h_count : ∀ (a : State), Keeps s₀ a → Keeps s₀ (count a)) : Keeps s₀ (stompOrDrop s k c reason count) := by
  unfold stompOrDrop
  extract_lets +onlyGivenNames v1
  clear_value v1
  split
  · rename_i x2 x3
    apply finishInput_keeps
    apply setCur_keeps
    apply countStomp_keeps
    exact h_s
  · rename_i x4 x5
    extract_lets +onlyGivenNames v6
    clear_value v6
    extract_lets +onlyGivenNames v7
    have h8 : Keeps s₀ v7 := by
      subst v7
      apply stompPool_keeps
      exact h_s
    clear_value v7
    apply finishInput_keeps
    apply setCur_keeps
    refine ite_of (Keeps s₀) ?_ ?_
    · exact h8
    · apply h_count
      exact h8
  · rename_i x9 x10
    apply finishInput_keeps
    apply setCur_keeps
    exact h_s
  · rename_i x11 x12
    apply finishInput_keeps
    apply setCur_keeps
    exact h_s
  · rename_i x13 x14
    apply finishInput_keeps
    apply setCur_keeps
    apply h_count
    exact h_s
  · rename_i x15 x16
    apply finishInput_keeps
    apply setCur_keeps
    apply h_count
    exact h_s

theorem tailPassed_keeps {s₀ : State} (s : State) (k : Nat) (c : SwPkt) (cut : Option Nat) (h_s : Keeps s₀ s) : Keeps s₀ (tailPassed s k c cut) := by
  unfold tailPassed
  refine ite_of (Keeps s₀) ?_ ?_
  · apply setCur_keeps
    exact h_s
  · apply finishInput_keeps
    apply setCur_keeps
    exact h_s

theorem stompTransit_keeps {s₀ : State} (s : State) (p : Nat) (k : Nat) (c : SwPkt) (h_s : Keeps s₀ s) : Keeps s₀ (stompTransit s p k c) := by
  unfold stompTransit
  extract_lets +onlyGivenNames v1
  have h2 : Keeps s₀ v1 := by
    subst v1
    apply recordError_keeps
    exact h_s
  clear_value v1
  extract_lets +onlyGivenNames v3
  clear_value v3
  split
  · rename_i x4 x5
    apply tailPassed_keeps
    apply countStomp_keeps
    exact h2
  · rename_i x6 x7
    apply tailPassed_keeps
    apply stompPool_keeps
    exact h2
  · rename_i x8 x9 x10
    apply tailPassed_keeps
    exact h2

theorem execPacketTailArrive_keeps {s₀ : State} (p : Fin 128) (vc : Fin 16) (s : State) (h_s : Keeps s₀ s) : Ends (execPacketTailArrive p vc s) (Keeps s₀) := by
  unfold execPacketTailArrive
  extract_lets +onlyGivenNames v1
  clear_value v1
  extract_lets +onlyGivenNames v2
  clear_value v2
  split
  · rename_i x3 x4
    refine Ends.next ?_
    exact h_s
  · rename_i x5 x6 x7
    refine ite_of (fun o => Ends o (Keeps s₀)) ?_ ?_
    · refine Ends.next ?_
      exact h_s
    · refine ite_of (fun o => Ends o (Keeps s₀)) ?_ ?_
      · refine Ends.next ?_
        exact h_s
      · refine ite_of (fun o => Ends o (Keeps s₀)) ?_ ?_
        · refine Ends.next ?_
          apply finishInput_keeps
          exact h_s
        · refine ite_of (fun o => Ends o (Keeps s₀)) ?_ ?_
          · extract_lets +onlyGivenNames v8
            have h9 : Keeps s₀ v8 := by
              subst v8
              apply recordError_keeps
              apply State.bump_keeps
              exact h_s
            clear_value v8
            refine Ends.next ?_
            apply stompOrDrop_keeps
            · exact h9
            · intro y10 y11
              unfold id
              exact y11
          · extract_lets +onlyGivenNames v12
            clear_value v12
            extract_lets +onlyGivenNames v13
            clear_value v13
            extract_lets +onlyGivenNames v14
            clear_value v14
            extract_lets +onlyGivenNames v15
            clear_value v15
            refine ite_of (fun o => Ends o (Keeps s₀)) ?_ ?_
            · refine Ends.next ?_
              apply finishInput_keeps
              apply recordError_keeps
              exact h_s
            · refine ite_of (fun o => Ends o (Keeps s₀)) ?_ ?_
              · refine Ends.next ?_
                apply stompTransit_keeps
                exact h_s
              · extract_lets +onlyGivenNames v16
                have h17 : Keeps s₀ v16 := by
                  subst v16
                  apply tailPassed_keeps
                  exact h_s
                clear_value v16
                refine Ends.next ?_
                refine ite_of (Keeps s₀) ?_ ?_
                · apply sendNotReady_keeps
                  exact h17
                · exact h17

theorem noteCredits_keeps {s₀ : State} (s : State) (o : Nat) (h_s : Keeps s₀ s) : Keeps s₀ (noteCredits s o) := by
  unfold noteCredits
  extract_lets +onlyGivenNames v1
  have h2 : Keeps s₀ v1 := by
    subst v1
    refine Keeps.foldl ?_ ?_
    · exact h_s
    · intro y3 y4 y5
      split
      · rename_i x6 x7 x8
        refine ite_of (Keeps s₀) ?_ ?_
        · apply setCur_keeps
          exact y5
        · exact y5
      · rename_i x9 x10
        exact y5
  clear_value v1
  refine Keeps.foldl ?_ ?_
  · exact h2
  · intro y11 y12 y13
    split
    · rename_i x14 x15 x16
      refine ite_of (Keeps s₀) ?_ ?_
      · apply setQueue_keeps
        exact y13
      · exact y13
    · rename_i x17 x18
      exact y13

theorem noteShaped_keeps {s₀ : State} (s : State) (o : Nat) (h_s : Keeps s₀ s) : Keeps s₀ (noteShaped s o) := by
  unfold noteShaped
  refine Keeps.foldl ?_ ?_
  · exact h_s
  · intro y1 y2 y3
    extract_lets +onlyGivenNames v4
    clear_value v4
    split
    · rename_i x5 x6 x7
      refine ite_of (Keeps s₀) ?_ ?_
      · apply shaperWaited_keeps
        apply setQueue_keeps
        exact y3
      · exact y3
    · rename_i x8 x9
      exact y3

theorem creditWait_keeps {s₀ : State} (s : State) (o : Nat) (cls : Nat) (since : Option Nat) (h_s : Keeps s₀ s) : Keeps s₀ (creditWait s o cls since) := by
  unfold creditWait
  split
  · rename_i x1 x2
    apply cntCM_keeps
    exact h_s
  · rename_i x3
    exact h_s

theorem takeCredits_keeps {s₀ : State} (s : State) (o : Nat) (vc : Nat) (n : Nat) (h_s : Keeps s₀ s) : Keeps s₀ (takeCredits s o vc n) := by
  unfold takeCredits
  refine ite_of (Keeps s₀) ?_ ?_
  · apply State.setPort_keeps
    exact h_s
  · exact h_s

theorem countBegin_keeps {s₀ : State} (s : State) (o : Nat) (inPort : Nat) (cls : Nat) (n : Nat) (since : Nat) (g : Option (Nat × Nat)) (fs : List (BitVec 512)) (h_s : Keeps s₀ s) : Keeps s₀ (countBegin s o inPort cls n since g fs) := by
  unfold countBegin
  extract_lets +onlyGivenNames v1
  clear_value v1
  extract_lets +onlyGivenNames v2
  have h3 : Keeps s₀ v2 := by
    subst v2
    split
    · rename_i x4 x5 x6
      refine Keeps.upd ?_ rfl
      exact h_s
    · rename_i x7
      exact h_s
  clear_value v2
  extract_lets +onlyGivenNames v8
  clear_value v8
  extract_lets +onlyGivenNames v9
  have h10 : Keeps s₀ v9 := by
    subst v9
    apply cntCM_keeps
    apply cntCM_keeps
    exact h3
  clear_value v9
  extract_lets +onlyGivenNames v11
  have h12 : Keeps s₀ v11 := by
    subst v11
    apply cntCM_keeps
    exact h10
  clear_value v11
  apply pktEvent_keeps
  exact h12

theorem beginInput_keeps {s₀ : State} (s : State) (o : Nat) (k : Nat) (c : SwPkt) (g : Option (Nat × Nat)) (h_s : Keeps s₀ s) : Keeps s₀ (beginInput s o k c g) := by
  unfold beginInput
  extract_lets +onlyGivenNames v1
  clear_value v1
  extract_lets +onlyGivenNames v2
  clear_value v2
  extract_lets +onlyGivenNames v3
  clear_value v3
  extract_lets +onlyGivenNames v4
  extract_lets +onlyGivenNames v5
  have h6 : Keeps s₀ v5 := by
    subst v5
    apply State.bumpi_keeps
    exact h_s
  clear_value v5
  extract_lets +onlyGivenNames v7
  clear_value v7
  extract_lets +onlyGivenNames v8
  have h9 : Keeps s₀ v8 := by
    subst v8
    refine ite_of (Keeps s₀) ?_ ?_
    · refine Keeps.upd ?_ rfl
      exact h6
    · exact h_s
  clear_value v8
  extract_lets +onlyGivenNames v10
  have h11 : Keeps s₀ v10 := by
    subst v10
    refine ite_of (Keeps s₀) ?_ ?_
    · apply cntCM_keeps
      exact h9
    · exact h9
  clear_value v10
  extract_lets +onlyGivenNames v12
  clear_value v12
  extract_lets +onlyGivenNames v13
  clear_value v13
  extract_lets +onlyGivenNames v14
  clear_value v14
  extract_lets +onlyGivenNames v15
  have h16 : Keeps s₀ v15 := by
    subst v15
    refine Keeps.upd ?_ rfl
    exact h11
  clear_value v15
  extract_lets +onlyGivenNames v17
  have h18 : Keeps s₀ v17 := by
    subst v17
    apply creditWait_keeps
    exact h16
  clear_value v17
  extract_lets +onlyGivenNames v19
  have h20 : Keeps s₀ v19 := by
    subst v19
    apply countBegin_keeps
    apply takeCredits_keeps
    exact h18
  clear_value v19
  extract_lets +onlyGivenNames v21
  have h22 : Keeps s₀ v21 := by
    subst v21
    split
    · rename_i x23 x24 x25
      apply countStomp_keeps
      exact h20
    · rename_i x26 x27
      exact h20
  clear_value v21
  extract_lets +onlyGivenNames v28
  have h29 : Keeps s₀ v28 := by
    subst v28
    apply outBegin_keeps
    apply setCur_keeps
    exact h22
  clear_value v28
  extract_lets +onlyGivenNames v30
  have h31 : Keeps s₀ v30 := by
    subst v30
    apply mirAll_keeps
    exact h29
  clear_value v30
  refine ite_of (Keeps s₀) ?_ ?_
  · apply finishInput_keeps
    exact h31
  · apply flow_keeps
    exact h31

theorem beginPool_keeps {s₀ : State} (s : State) (q : Nat) (g : Option (Nat × Nat)) (h_s : Keeps s₀ s) : Keeps s₀ (beginPool s q g) := by
  unfold beginPool
  extract_lets +onlyGivenNames v1
  clear_value v1
  extract_lets +onlyGivenNames v2
  clear_value v2
  extract_lets +onlyGivenNames v3
  clear_value v3
  split
  · rename_i x4 x5
    exact h_s
  · rename_i x6 x7 x8
    extract_lets +onlyGivenNames v9
    have h10 : Keeps s₀ v9 := by
      subst v9
      refine ite_of (Keeps s₀) ?_ ?_
      · apply shaperDebit_keeps
        exact h_s
      · exact h_s
    clear_value v9
    extract_lets +onlyGivenNames v11
    have h12 : Keeps s₀ v11 := by
      subst v11
      apply creditWait_keeps
      exact h10
    clear_value v11
    extract_lets +onlyGivenNames v13
    have h14 : Keeps s₀ v13 := by
      subst v13
      apply countBegin_keeps
      apply takeCredits_keeps
      exact h12
    clear_value v13
    extract_lets +onlyGivenNames v15
    have h16 : Keeps s₀ v15 := by
      subst v15
      apply outBegin_keeps
      exact h14
    clear_value v15
    extract_lets +onlyGivenNames v17
    clear_value v17
    extract_lets +onlyGivenNames v18
    have h19 : Keeps s₀ v18 := by
      subst v18
      apply mirAll_keeps
      exact h16
    clear_value v18
    refine ite_of (Keeps s₀) ?_ ?_
    · apply outPush_keeps
      apply setQueue_keeps
      exact h19
    · extract_lets +onlyGivenNames v20
      have h21 : Keeps s₀ v20 := by
        subst v20
        apply setQueue_keeps
        exact h19
      clear_value v20
      refine ite_of (Keeps s₀) ?_ ?_
      · exact h21
      · apply outPush_keeps
        exact h21

theorem execEgressGrant_keeps {s₀ : State} (o : Fin 128) (s : State) (h_s : Keeps s₀ s) : Ends (execEgressGrant o s) (Keeps s₀) := by
  unfold execEgressGrant
  refine ite_of (fun o => Ends o (Keeps s₀)) ?_ ?_
  · refine Ends.next ?_
    exact h_s
  · extract_lets +onlyGivenNames v1
    have h2 : Keeps s₀ v1 := by
      subst v1
      apply noteShaped_keeps
      apply noteCredits_keeps
      exact h_s
    clear_value v1
    split
    · rename_i x3 x4
      refine Ends.next ?_
      exact h2
    · rename_i x5 x6 x7 x8
      split
      · rename_i x9 x10 x11
        refine Ends.next ?_
        apply beginInput_keeps
        exact h2
      · rename_i x12 x13
        refine Ends.next ?_
        exact h2
    · rename_i x14 x15 x16 x17
      refine Ends.next ?_
      apply beginPool_keeps
      exact h2

theorem execRedAvgIdleTick_keeps {s₀ : State} (s : State) (h_s : Keeps s₀ s) : Ends (execRedAvgIdleTick s) (Keeps s₀) := by
  unfold execRedAvgIdleTick
  extract_lets +onlyGivenNames v1
  have h2 : Keeps s₀ v1 := by
    subst v1
    refine Keeps.foldl ?_ ?_
    · exact h_s
    · intro y3 y4 y5
      refine ite_of (Keeps s₀) ?_ ?_
      · exact y5
      · apply redUpdate_keeps
        exact y5
  clear_value v1
  refine Ends.next ?_
  refine Keeps.upd ?_ rfl
  exact h2

theorem strikeInput_keeps {s₀ : State} (s : State) (k : Nat) (reason : Nat) (count : State → State) (h_s : Keeps s₀ s) (h_count : ∀ (a : State), Keeps s₀ a → Keeps s₀ (count a)) : Keeps s₀ (strikeInput s k reason count) := by
  unfold strikeInput
  split
  · rename_i x1 x2
    exact h_s
  · rename_i x3 x4 x5
    refine ite_of (Keeps s₀) ?_ ?_
    · apply stompOrDrop_keeps
      · exact h_s
      · exact h_count
    · apply haltInput_keeps
      · exact h_s
      · exact h_count

theorem strikeWaiting_keeps {s₀ : State} (s : State) (p : Nat) (vc : Nat) (count : State → State) (h_s : Keeps s₀ s) (h_count : ∀ (a : State), Keeps s₀ a → Keeps s₀ (count a)) : Keeps s₀ (strikeWaiting s p vc count) := by
  unfold strikeWaiting
  split
  · rename_i x1 x2
    exact h_s
  · rename_i x3 x4 x5 x6 x7 x8 x9 x10
    have h11 : Keeps s₀ x9 := by
      refine nextHead_keeps ?_ x10
      exact h_s
    apply flow_keeps
    apply setCur_keeps
    apply h_count
    exact h11

theorem eccInput_keeps {s₀ : State} (s : State) (p : Nat) (vc : Nat) (h_s : Keeps s₀ s) : Keeps s₀ (eccInput s p vc) := by
  unfold eccInput
  extract_lets +onlyGivenNames v1
  have h2 : ∀ (t : State), Keeps s₀ t → Keeps s₀ (v1 t) := by
    subst v1
    intro y3 y4
    dsimp -zeta only
    apply State.bump_keeps
    exact y4
  clear_value v1
  refine ite_of (Keeps s₀) ?_ ?_
  · apply strikeInput_keeps
    · exact h_s
    · exact h2
  · apply strikeWaiting_keeps
    · exact h_s
    · exact h2

theorem strikeOutput_keeps {s₀ : State} (s : State) (o : Nat) (vc : Nat) (reason : Nat) (h_s : Keeps s₀ s) : Keeps s₀ (strikeOutput s o vc reason) := by
  unfold strikeOutput
  extract_lets +onlyGivenNames v1
  clear_value v1
  extract_lets +onlyGivenNames v2
  clear_value v2
  refine Keeps.foldl ?_ ?_
  · refine ite_of (Keeps s₀) ?_ ?_
    · apply outStomp_keeps
      exact h_s
    · refine Keeps.foldl ?_ ?_
      · exact h_s
      · intro y3 y4 y5
        apply strikeInput_keeps
        · exact y5
        · intro y6 y7
          unfold id
          exact y7
  · intro y8 y9 y10
    apply setQueue_keeps
    exact y10

theorem eccPool_keeps {s₀ : State} (s : State) (q : Nat) (i : Nat) (h_s : Keeps s₀ s) : Keeps s₀ (eccPool s q i) := by
  unfold eccPool
  split
  · rename_i x1 x2
    exact h_s
  · rename_i x3 x4 x5
    refine ite_of (Keeps s₀) ?_ ?_
    · extract_lets +onlyGivenNames v6
      have h7 : Keeps s₀ v6 := by
        subst v6
        apply outStomp_keeps
        exact h_s
      clear_value v6
      apply setQueue_keeps
      exact h7
    · apply State.bump_keeps
      apply copiesLost_keeps
      apply setQueue_keeps
      exact h_s

theorem execBufferEccError_keeps {s₀ : State} (w : EccPlace) (corrected : Bool) (s : State) (h_s : Keeps s₀ s) : Ends (execBufferEccError w corrected s) (Keeps s₀) := by
  unfold execBufferEccError
  refine ite_of (fun o => Ends o (Keeps s₀)) ?_ ?_
  · refine Ends.next ?_
    apply recordError_keeps
    apply State.setEvt_keeps
    apply State.bump_keeps
    exact h_s
  · extract_lets +onlyGivenNames v1
    have h2 : Keeps s₀ v1 := by
      subst v1
      apply recordError_keeps
      apply State.setEvt_keeps
      exact h_s
    clear_value v1
    split
    · rename_i x3 x4 x5
      refine Ends.next ?_
      apply eccInput_keeps
      exact h2
    · rename_i x6 x7 x8
      refine Ends.next ?_
      apply eccPool_keeps
      exact h2

theorem execPoolHwmClr_keeps {s₀ : State} (r : Route) (s : State) (h_s : Keeps s₀ s) : Ends (execPoolHwmClr r s) (Keeps s₀) := by
  unfold execPoolHwmClr
  refine Ends.next ?_
  apply guarded_keeps
  · exact h_s
  · intro y1 y2
    apply State.wr_keeps
    exact y2

theorem execSwitchCntClr_keeps {s₀ : State} (r : Route) (s : State) (h_s : Keeps s₀ s) : Ends (execSwitchCntClr r s) (Keeps s₀) := by
  unfold execSwitchCntClr
  refine Ends.next ?_
  apply guarded_keeps
  · exact h_s
  · intro y1 y2
    extract_lets +onlyGivenNames v3
    have h4 : Keeps s₀ v3 := by
      subst v3
      apply State.clearAll_keeps
      exact y2
    clear_value v3
    extract_lets +onlyGivenNames v5
    have h6 : Keeps s₀ v5 := by
      subst v5
      apply State.clearArr_keeps
      exact h4
    clear_value v5
    extract_lets +onlyGivenNames v7
    have h8 : Keeps s₀ v7 := by
      subst v7
      refine Keeps.foldl ?_ ?_
      · exact h6
      · intro y9 y10 y11
        apply State.clearArr_keeps
        exact y11
    clear_value v7
    refine Keeps.foldl ?_ ?_
    · exact h8
    · intro y12 y13 y14
      apply State.clearArr_keeps
      exact y14

theorem execMcEntryWordWrite_keeps {s₀ : State} (r : Route) (g : Fin 65536) (w : Fin 7) (v : BitVec 32) (s : State) (h_s : Keeps s₀ s) : Ends (execMcEntryWordWrite r g w v s) (Keeps s₀) := by
  unfold execMcEntryWordWrite
  refine Ends.next ?_
  apply guarded_keeps
  · exact h_s
  · intro y1 y2
    extract_lets +onlyGivenNames v3
    clear_value v3
    refine Keeps.upd ?_ rfl
    exact y2

theorem execMcEntryApply_keeps {s₀ : State} (r : Route) (g : Fin 65536) (v : BitVec 32) (s : State) (h_s : Keeps s₀ s) : Ends (execMcEntryApply r g v s) (Keeps s₀) := by
  unfold execMcEntryApply
  refine Ends.next ?_
  apply guarded_keeps
  · exact h_s
  · intro y1 y2
    extract_lets +onlyGivenNames v3
    clear_value v3
    extract_lets +onlyGivenNames v4
    clear_value v4
    extract_lets +onlyGivenNames v5
    have h6 : Keeps s₀ v5 := by
      subst v5
      refine Keeps.foldl ?_ ?_
      · exact y2
      · intro y7 y8 y9
        refine ite_of (Keeps s₀) ?_ ?_
        · apply State.wr_keeps
          exact y9
        · refine ite_of (Keeps s₀) ?_ ?_
          · apply State.wr_keeps
            exact y9
          · refine ite_of (Keeps s₀) ?_ ?_
            · apply State.wr_keeps
              exact y9
            · exact y9
    clear_value v5
    apply State.wr_keeps
    exact h6

end Sys2Proof.Machine
end

