-- ==== Sys2Proof/Laws/Keeps3.lean ====
section
/-!
SUPPORT. What each operation and each command of these files of Machine/ keeps: Collective.lean, TunnelOps.lean, Transport.lean, TakeOps.lean, WorkQueues.lean, Matching.lean.
One lemma for each: an operation on a state that keeps what a state s₀ had (Keeps of Laws/Keeps.lean: the queue, the clock, what was
emitted, the form of the pool's memory) gives one that keeps it, and a command on such a state answers a next state that keeps it.
-/
namespace Sys2Proof.Machine

/-! ### Machine/Collective.lean -/

theorem activate_keeps {s₀ : State} (s : State) (o : Nat) (units : Nat) (h_s : Keeps s₀ s) : Keeps s₀ (activate s o units) := by
  unfold activate
  extract_lets +onlyGivenNames v1
  have h2 : Keeps s₀ v1 := by
    subst v1
    apply State.wr_keeps
    exact h_s
  clear_value v1
  extract_lets +onlyGivenNames v3
  have h4 : Keeps s₀ v3 := by
    subst v3
    apply owr_keeps
    apply owr_keeps
    apply owr_keeps
    apply owr_keeps
    apply owr_keeps
    exact h2
  clear_value v3
  extract_lets +onlyGivenNames v5
  clear_value v5
  extract_lets +onlyGivenNames v6
  have h7 : Keeps s₀ v6 := by
    subst v6
    apply State.setOuting_keeps
    exact h4
  clear_value v6
  refine Keeps.foldl ?_ ?_
  · exact h7
  · intro y8 y9 y10
    apply raiseEvent_keeps
    exact y10

theorem freeBasket_keeps {s₀ : State} (s : State) (o : Nat) (h_s : Keeps s₀ s) : Keeps s₀ (freeBasket s o) := by
  unfold freeBasket
  apply owr_keeps
  apply State.wr_keeps
  exact h_s

theorem runCreate_keeps {s₀ : State} (s : State) (o : Nat) (h_s : Keeps s₀ s) : Keeps s₀ (runCreate s o).snd := by
  unfold runCreate
  refine ite_of (fun (p : _ × State) => Keeps s₀ p.2) ?_ ?_
  · exact h_s
  · refine ite_of (fun (p : _ × State) => Keeps s₀ p.2) ?_ ?_
    · exact h_s
    · refine ite_of (fun (p : _ × State) => Keeps s₀ p.2) ?_ ?_
      · exact h_s
      · refine Keeps.mkPair ?_
        apply activate_keeps
        exact h_s

theorem runAbort_keeps {s₀ : State} (s : State) (o : Nat) (h_s : Keeps s₀ s) : Keeps s₀ (runAbort s o).snd := by
  unfold runAbort
  refine ite_of (fun (p : _ × State) => Keeps s₀ p.2) ?_ ?_
  · exact h_s
  · refine Keeps.mkPair ?_
    apply abortOuting_keeps
    exact h_s

theorem runRebuild_keeps {s₀ : State} (s : State) (o : Nat) (h_s : Keeps s₀ s) : Keeps s₀ (runRebuild s o).snd := by
  unfold runRebuild
  refine ite_of (fun (p : _ × State) => Keeps s₀ p.2) ?_ ?_
  · exact h_s
  · refine ite_of (fun (p : _ × State) => Keeps s₀ p.2) ?_ ?_
    · exact h_s
    · refine ite_of (fun (p : _ × State) => Keeps s₀ p.2) ?_ ?_
      · exact h_s
      · extract_lets +onlyGivenNames v1
        have h2 : Keeps s₀ v1 := by
          subst v1
          apply freeBasket_keeps
          exact h_s
        clear_value v1
        refine Keeps.mkPair ?_
        apply activate_keeps
        exact h2

theorem runDestroy_keeps {s₀ : State} (s : State) (o : Nat) (h_s : Keeps s₀ s) : Keeps s₀ (runDestroy s o).snd := by
  unfold runDestroy
  refine ite_of (fun (p : _ × State) => Keeps s₀ p.2) ?_ ?_
  · exact h_s
  · extract_lets +onlyGivenNames v1
    have h2 : Keeps s₀ v1 := by
      subst v1
      apply freeBasket_keeps
      apply abortOuting_keeps
      exact h_s
    clear_value v1
    refine Keeps.mkPair ?_
    apply State.setOuting_keeps
    apply owr_keeps
    apply owr_keeps
    exact h2

theorem outCmd_keeps {s₀ : State} (r : Route) (op : Nat) (run : State → Nat → Nat × State) (s : State) (h_run : ∀ (a : State) (a_1 : Nat), Keeps s₀ a → Keeps s₀ (run a a_1).snd) (h_s : Keeps s₀ s) : Keeps s₀ (outCmd r op run s) := by
  unfold outCmd
  apply guarded_keeps
  · exact h_s
  · intro y1 y2
    refine ite_of (Keeps s₀) ?_ ?_
    · exact y2
    · refine ite_of (Keeps s₀) ?_ ?_
      · apply accViol_keeps
        exact y2
      · extract_lets +onlyGivenNames v3
        have h4 : Keeps s₀ v3.snd := by
          subst v3
          apply h_run
          apply State.wr_keeps
          exact y2
        clear_value v3
        apply State.wr_keeps
        exact h4

theorem execOutingCreate_keeps {s₀ : State} (r : Route) (s : State) (h_s : Keeps s₀ s) : Ends (execOutingCreate r s) (Keeps s₀) := by
  unfold execOutingCreate
  refine Ends.next ?_
  apply outCmd_keeps
  · intro y1 y2 y3
    apply runCreate_keeps
    exact y3
  · exact h_s

theorem execOutingAbort_keeps {s₀ : State} (r : Route) (s : State) (h_s : Keeps s₀ s) : Ends (execOutingAbort r s) (Keeps s₀) := by
  unfold execOutingAbort
  refine Ends.next ?_
  apply outCmd_keeps
  · intro y1 y2 y3
    apply runAbort_keeps
    exact y3
  · exact h_s

theorem execOutingRebuild_keeps {s₀ : State} (r : Route) (s : State) (h_s : Keeps s₀ s) : Ends (execOutingRebuild r s) (Keeps s₀) := by
  unfold execOutingRebuild
  refine Ends.next ?_
  apply outCmd_keeps
  · intro y1 y2 y3
    apply runRebuild_keeps
    exact y3
  · exact h_s

theorem execOutingDestroy_keeps {s₀ : State} (r : Route) (s : State) (h_s : Keeps s₀ s) : Ends (execOutingDestroy r s) (Keeps s₀) := by
  unfold execOutingDestroy
  refine Ends.next ?_
  apply outCmd_keeps
  · intro y1 y2 y3
    apply runDestroy_keeps
    exact y3
  · exact h_s

theorem execCollSourceReadDone_keeps {s₀ : State} (o : Fin 256) (k : Fin 64) (data : Option (List Byte)) (s : State) (h_s : Keeps s₀ s) : Ends (execCollSourceReadDone o k data s) (Keeps s₀) := by
  unfold execCollSourceReadDone
  extract_lets +onlyGivenNames v1
  clear_value v1
  split
  · rename_i x2 x3
    refine Ends.next ?_
    refine ite_of (Keeps s₀) ?_ ?_
    · apply collPump_keeps
      exact h_s
    · exact h_s
  · rename_i x4 x5 x6
    split
    · rename_i x7 x8 x9 x10 x11 x12 x13 x14
      refine ite_of (fun o => Ends o (Keeps s₀)) ?_ ?_
      · refine Ends.next ?_
        exact h_s
      · extract_lets +onlyGivenNames v15
        clear_value v15
        extract_lets +onlyGivenNames v16
        clear_value v16
        extract_lets +onlyGivenNames v17
        have h18 : Keeps s₀ v17 := by
          subst v17
          apply endRead_keeps
          exact h_s
        clear_value v17
        refine ite_of (fun o => Ends o (Keeps s₀)) ?_ ?_
        · refine Ends.next ?_
          apply abortOuting_keeps
          exact h18
        · extract_lets +onlyGivenNames v19
          clear_value v19
          extract_lets +onlyGivenNames v20
          clear_value v20
          extract_lets +onlyGivenNames v21
          have h22 : Keeps s₀ v21 := by
            subst v21
            apply supply_keeps
            exact h18
          clear_value v21
          refine Ends.next ?_
          apply collPump_keeps
          apply mapContrib_keeps
          exact h22
    · rename_i x23 x24 x25
      refine Ends.next ?_
      exact h_s

theorem execSegmentCombine_keeps {s₀ : State} (o : Fin 256) (s : State) (h_s : Keeps s₀ s) : Ends (execSegmentCombine o s) (Keeps s₀) := by
  unfold execSegmentCombine
  extract_lets +onlyGivenNames v1
  clear_value v1
  refine ite_of (fun o => Ends o (Keeps s₀)) ?_ ?_
  · refine Ends.next ?_
    exact h_s
  · split
    · rename_i x2 x3
      refine Ends.next ?_
      exact h_s
    · rename_i x4 x5 x6 x7
      refine ite_of (fun o => Ends o (Keeps s₀)) ?_ ?_
      · refine Ends.next ?_
        exact h_s
      · extract_lets +onlyGivenNames v8
        clear_value v8
        extract_lets +onlyGivenNames v9
        clear_value v9
        extract_lets +onlyGivenNames v10
        clear_value v10
        refine ite_of (fun o => Ends o (Keeps s₀)) ?_ ?_
        · refine Ends.next ?_
          apply abortOuting_keeps
          exact h_s
        · extract_lets +onlyGivenNames v11
          clear_value v11
          extract_lets +onlyGivenNames v12
          clear_value v12
          extract_lets +onlyGivenNames v13
          clear_value v13
          extract_lets +onlyGivenNames v14
          have h15 : Keeps s₀ v14 := by
            subst v14
            apply clEvent_keeps
            apply clEvent_keeps
            exact h_s
          clear_value v14
          extract_lets +onlyGivenNames v16
          have h17 : Keeps s₀ v16 := by
            subst v16
            refine ite_of (Keeps s₀) ?_ ?_
            · apply clEvent_keeps
              apply State.bump_keeps
              exact h15
            · exact h15
          clear_value v16
          refine ite_of (fun o => Ends o (Keeps s₀)) ?_ ?_
          · refine Ends.next ?_
            apply turnSeg_keeps
            exact h17
          · extract_lets +onlyGivenNames v18
            have h19 : Keeps s₀ v18 := by
              subst v18
              apply mapSeg_keeps
              exact h17
            clear_value v18
            refine Ends.next ?_
            apply collPump_keeps
            apply collSend_keeps
            exact h19

theorem collDiscard_keeps {s₀ : State} (s : State) (h_s : Keeps s₀ s) : Keeps s₀ (collDiscard s) := by
  unfold collDiscard
  apply State.setEvt_keeps
  apply State.bump_keeps
  exact h_s

theorem collStray_keeps {s₀ : State} (s : State) (p : Packet) (h_s : Keeps s₀ s) : Keeps s₀ (collStray s p) := by
  unfold collStray
  apply recordError_keeps
  apply collDiscard_keeps
  exact h_s

theorem collGood_keeps {s₀ : State} (s : State) (p : Packet) (h_s : Keeps s₀ s) : KeepsO s₀ (collGood s p) := by
  unfold collGood
  refine ite_of (KeepsO s₀) ?_ ?_
  · refine KeepsO.ofSome ?_
    exact h_s
  · refine ite_of (KeepsO s₀) ?_ ?_
    · refine KeepsO.ofSome ?_
      apply collDiscard_keeps
      exact h_s
    · refine ite_of (KeepsO s₀) ?_ ?_
      · refine KeepsO.ofSome ?_
        apply recordError_keeps
        exact h_s
      · refine ite_of (KeepsO s₀) ?_ ?_
        · refine KeepsO.ofSome ?_
          apply recordError_keeps
          apply collDiscard_keeps
          exact h_s
        · refine ite_of (KeepsO s₀) ?_ ?_
          · refine KeepsO.ofSome ?_
            apply collDiscard_keeps
            exact h_s
          · exact KeepsO.ofNone _

theorem acceptUp_keeps {s₀ : State} (s : State) (o : Nat) (k : Nat) (p : Packet) (h_s : Keeps s₀ s) : Keeps s₀ (acceptUp s o k p) := by
  unfold acceptUp
  extract_lets +onlyGivenNames v1
  clear_value v1
  extract_lets +onlyGivenNames v2
  clear_value v2
  extract_lets +onlyGivenNames v3
  clear_value v3
  split
  · rename_i x4 x5
    apply abortOuting_keeps
    exact h_s
  · rename_i x6 x7 x8
    extract_lets +onlyGivenNames v9
    have h10 : Keeps s₀ v9 := by
      subst v9
      apply State.bump_keeps
      apply putRef_keeps
      exact h_s
    clear_value v9
    extract_lets +onlyGivenNames v11
    have h12 : Keeps s₀ v11 := by
      subst v11
      apply supply_keeps
      exact h10
    clear_value v11
    extract_lets +onlyGivenNames v13
    clear_value v13
    apply collPump_keeps
    apply State.setOuting_keeps
    exact h12

theorem dupUp_keeps {s₀ : State} (s : State) (o : Nat) (k : Nat) (p : Packet) (h_s : Keeps s₀ s) : Keeps s₀ (dupUp s o k p) := by
  unfold dupUp
  extract_lets +onlyGivenNames v1
  clear_value v1
  extract_lets +onlyGivenNames v2
  have h3 : Keeps s₀ v2 := by
    subst v2
    apply State.bump_keeps
    exact h_s
  clear_value v2
  extract_lets +onlyGivenNames v4
  clear_value v4
  split
  · rename_i x5 x6 x7
    apply State.bump_keeps
    apply collSend_keeps
    exact h3
  · rename_i x8 x9
    refine ite_of (Keeps s₀) ?_ ?_
    · apply collSend_keeps
      exact h3
    · exact h3

theorem collUp_keeps {s₀ : State} (s : State) (p : Packet) (h_s : Keeps s₀ s) : Keeps s₀ (collUp s p) := by
  unfold collUp
  split
  · rename_i x1 x2 x3
    have h4 : Keeps s₀ x2 := by
      refine KeepsO.at ?_ x3
      apply collGood_keeps
      exact h_s
    exact h4
  · rename_i x5 x6
    extract_lets +onlyGivenNames v7
    clear_value v7
    split
    · rename_i x8 x9
      apply collStray_keeps
      exact h_s
    · rename_i x10 x11 x12
      refine ite_of (Keeps s₀) ?_ ?_
      · apply collStray_keeps
        exact h_s
      · refine ite_of (Keeps s₀) ?_ ?_
        · apply abortOuting_keeps
          exact h_s
        · refine ite_of (Keeps s₀) ?_ ?_
          · apply collDiscard_keeps
            exact h_s
          · extract_lets +onlyGivenNames v13
            clear_value v13
            extract_lets +onlyGivenNames v14
            clear_value v14
            refine ite_of (Keeps s₀) ?_ ?_
            · refine ite_of (Keeps s₀) ?_ ?_
              · apply dupUp_keeps
                exact h_s
              · apply acceptUp_keeps
                exact h_s
            · refine ite_of (Keeps s₀) ?_ ?_
              · apply dupUp_keeps
                exact h_s
              · apply collDiscard_keeps
                exact h_s

theorem execCollUpReceive_keeps {s₀ : State} (s : State) (h_s : Keeps s₀ s) : Ends (execCollUpReceive s) (Keeps s₀) := by
  unfold execCollUpReceive
  refine ite_of (fun o => Ends o (Keeps s₀)) ?_ ?_
  · refine Ends.next ?_
    exact h_s
  · split
    · rename_i x1 x2
      refine Ends.next ?_
      exact h_s
    · rename_i x3 x4 x5 x6
      have h7 : Keeps s₀ x5 := by
        refine takeInbox_keeps ?_ x6
        exact h_s
      extract_lets +onlyGivenNames v8
      have h9 : Keeps s₀ v8 := by
        subst v8
        apply collUp_keeps
        exact h7
      clear_value v8
      refine Ends.next ?_
      refine ite_of (Keeps s₀) ?_ ?_
      · apply collPumpAll_keeps
        exact h9
      · exact h9

theorem acceptDown_keeps {s₀ : State} (s : State) (o : Nat) (p : Packet) (h_s : Keeps s₀ s) : Keeps s₀ (acceptDown s o p) := by
  unfold acceptDown
  extract_lets +onlyGivenNames v1
  clear_value v1
  extract_lets +onlyGivenNames v2
  clear_value v2
  split
  · rename_i x3 x4 x5
    refine ite_of (Keeps s₀) ?_ ?_
    · apply State.bump_keeps
      exact h_s
    · extract_lets +onlyGivenNames v6
      clear_value v6
      extract_lets +onlyGivenNames v7
      clear_value v7
      extract_lets +onlyGivenNames v8
      clear_value v8
      refine ite_of (Keeps s₀) ?_ ?_
      · apply abortOuting_keeps
        exact h_s
      · apply turnSeg_keeps
        apply State.bump_keeps
        exact h_s
  · rename_i x9 x10
    refine ite_of (Keeps s₀) ?_ ?_
    · apply State.bump_keeps
      exact h_s
    · apply collDiscard_keeps
      exact h_s

theorem execCollDownReceive_keeps {s₀ : State} (s : State) (h_s : Keeps s₀ s) : Ends (execCollDownReceive s) (Keeps s₀) := by
  unfold execCollDownReceive
  refine ite_of (fun o => Ends o (Keeps s₀)) ?_ ?_
  · refine Ends.next ?_
    exact h_s
  · split
    · rename_i x1 x2
      refine Ends.next ?_
      exact h_s
    · rename_i x3 x4 x5 x6
      have h7 : Keeps s₀ x5 := by
        refine takeInbox_keeps ?_ x6
        exact h_s
      split
      · rename_i x8 x9 x10
        have h11 : Keeps s₀ x9 := by
          refine KeepsO.at ?_ x10
          apply collGood_keeps
          exact h7
        refine Ends.next ?_
        exact h11
      · rename_i x12 x13
        split
        · rename_i x14 x15
          refine Ends.next ?_
          apply collStray_keeps
          exact h7
        · rename_i x16 x17 x18
          refine ite_of (fun o => Ends o (Keeps s₀)) ?_ ?_
          · refine Ends.next ?_
            apply collStray_keeps
            exact h7
          · refine ite_of (fun o => Ends o (Keeps s₀)) ?_ ?_
            · refine Ends.next ?_
              apply abortOuting_keeps
              exact h7
            · refine ite_of (fun o => Ends o (Keeps s₀)) ?_ ?_
              · refine Ends.next ?_
                apply collDiscard_keeps
                exact h7
              · extract_lets +onlyGivenNames v19
                clear_value v19
                extract_lets +onlyGivenNames v20
                have h21 : Keeps s₀ v20 := by
                  subst v20
                  apply State.setOuting_keeps
                  exact h7
                clear_value v20
                refine Ends.next ?_
                refine ite_of (Keeps s₀) ?_ ?_
                · exact h21
                · apply acceptDown_keeps
                  exact h21

theorem execCollResultDelivered_keeps {s₀ : State} (s : State) (h_s : Keeps s₀ s) : Ends (execCollResultDelivered s) (Keeps s₀) := by
  unfold execCollResultDelivered
  split
  · rename_i x1 x2
    refine Ends.next ?_
    exact h_s
  · rename_i x3 x4 x5
    extract_lets +onlyGivenNames v6
    clear_value v6
    extract_lets +onlyGivenNames v7
    have h8 : Keeps s₀ v7 := by
      subst v7
      refine Keeps.upd ?_ rfl
      exact h_s
    clear_value v7
    extract_lets +onlyGivenNames v9
    clear_value v9
    split
    · rename_i x10 x11
      refine Ends.next ?_
      exact h8
    · rename_i x12 x13 x14 x15
      extract_lets +onlyGivenNames v16
      clear_value v16
      refine Ends.next ?_
      apply collPump_keeps
      apply mapContrib_keeps
      exact h8

theorem execCollRtoExpire_keeps {s₀ : State} (o : Fin 256) (s : State) (h_s : Keeps s₀ s) : Ends (execCollRtoExpire o s) (Keeps s₀) := by
  unfold execCollRtoExpire
  extract_lets +onlyGivenNames v1
  clear_value v1
  extract_lets +onlyGivenNames v2
  clear_value v2
  extract_lets +onlyGivenNames v3
  clear_value v3
  extract_lets +onlyGivenNames v4
  clear_value v4
  split
  · rename_i x5
    refine Ends.next ?_
    exact h_s
  · rename_i x6 x7 x8
    refine ite_of (fun o => Ends o (Keeps s₀)) ?_ ?_
    · refine Ends.next ?_
      exact h_s
    · extract_lets +onlyGivenNames v9
      have h10 : Keeps s₀ v9 := by
        subst v9
        apply State.bump_keeps
        exact h_s
      clear_value v9
      refine ite_of (fun o => Ends o (Keeps s₀)) ?_ ?_
      · refine Ends.next ?_
        apply abortOuting_keeps
        exact h10
      · extract_lets +onlyGivenNames v11
        clear_value v11
        extract_lets +onlyGivenNames v12
        clear_value v12
        extract_lets +onlyGivenNames v13
        have h14 : Keeps s₀ v13 := by
          subst v13
          apply State.setOuting_keeps
          exact h10
        clear_value v13
        refine Ends.next ?_
        apply collSend_keeps
        apply clEvent_keeps
        exact h14

theorem execBasketEccError_keeps {s₀ : State} (o : Fin 256) (corrected : Bool) (s : State) (h_s : Keeps s₀ s) : Ends (execBasketEccError o corrected s) (Keeps s₀) := by
  unfold execBasketEccError
  refine ite_of (fun o => Ends o (Keeps s₀)) ?_ ?_
  · refine Ends.next ?_
    apply recordError_keeps
    apply State.setEvt_keeps
    exact h_s
  · refine Ends.next ?_
    apply recordError_keeps
    apply abortOuting_keeps
    exact h_s

theorem execCollCntClr_keeps {s₀ : State} (r : Route) (s : State) (h_s : Keeps s₀ s) : Ends (execCollCntClr r s) (Keeps s₀) := by
  unfold execCollCntClr
  refine Ends.next ?_
  apply guarded_keeps
  · exact h_s
  · intro y1 y2
    apply State.clearAll_keeps
    exact y2

theorem collFnReset_keeps {s₀ : State} (s : State) (f : Nat) (h_s : Keeps s₀ s) : Keeps s₀ (collFnReset s f) := by
  unfold collFnReset
  refine Keeps.foldl ?_ ?_
  · exact h_s
  · intro y1 y2 y3
    refine ite_of (Keeps s₀) ?_ ?_
    · extract_lets +onlyGivenNames v4
      clear_value v4
      extract_lets +onlyGivenNames v5
      have h6 : Keeps s₀ v5 := by
        subst v5
        apply endReads_keeps
        exact y3
      clear_value v5
      apply abortOuting_keeps
      apply State.setOuting_keeps
      exact h6
    · exact y3

theorem collReset_keeps {s₀ : State} (s : State) (h_s : Keeps s₀ s) : Keeps s₀ (collReset s) := by
  unfold collReset
  extract_lets +onlyGivenNames v1
  have h2 : Keeps s₀ v1 := by
    subst v1
    refine Keeps.foldl ?_ ?_
    · exact h_s
    · intro y3 y4 y5
      refine Keeps.foldl ?_ ?_
      · apply endReads_keeps
        exact y5
      · intro y6 y7 y8
        apply contribDone_keeps
        exact y8
  clear_value v1
  extract_lets +onlyGivenNames v9
  have h10 : Keeps s₀ v9 := by
    subst v9
    refine Keeps.foldl ?_ ?_
    · exact h2
    · intro y11 y12 y13
      refine ite_of (Keeps s₀) ?_ ?_
      · exact y13
      · apply owr_keeps
        apply owr_keeps
        apply owr_keeps
        exact y13
  clear_value v9
  extract_lets +onlyGivenNames v14
  have h15 : Keeps s₀ v14 := by
    subst v14
    apply State.wr_keeps
    exact h10
  clear_value v14
  refine Keeps.upd ?_ rfl
  exact h15


/-! ### Machine/TunnelOps.lean -/

theorem tunDone_keeps {s₀ : State} (s : State) (j : TunJob) (status : Nat) (h_s : Keeps s₀ s) : Keeps s₀ (tunDone s j status) := by
  unfold tunDone
  apply completeWq_keeps
  exact h_s

theorem tunInject_keeps {s₀ : State} (s : State) (j : TunJob) (b : List Byte) (l : List Chunk) (h_s : Keeps s₀ s) : Keeps s₀ (tunInject s j b l) := by
  unfold tunInject
  split
  · rename_i x1 x2
    apply tunDone_keeps
    exact h_s
  · rename_i x3 x4 x5
    extract_lets +onlyGivenNames v6
    have h7 : Keeps s₀ v6.snd := by
      subst v6
      refine ite_of (fun (p : _ × State) => Keeps s₀ p.2) ?_ ?_
      · apply policeDrop_keeps
        exact h_s
      · exact h_s
    clear_value v6
    split
    · rename_i x8 x9
      apply tunDone_keeps
      exact h7
    · rename_i x10 x11 x12
      apply tunDone_keeps
      apply inject_keeps
      apply State.bump_keeps
      exact h7

theorem tunPump_keeps {s₀ : State} (s : State) (h_s : Keeps s₀ s) : Keeps s₀ (tunPump s) := by
  unfold tunPump
  refine Keeps.foldl ?_ ?_
  · exact h_s
  · intro y1 y2 y3
    split
    · rename_i x4 x5 x6 x7 x8
      split
      · rename_i x9 x10 x11 x12
        have h13 : Keeps s₀ x11 := by
          refine Keeps.ofPair ?_ x12
          apply fragChunks_keeps
          exact y3
        extract_lets +onlyGivenNames v14
        have h15 : Keeps s₀ v14.snd := by
          subst v14
          apply meshRead_keeps
          exact h13
        clear_value v14
        extract_lets +onlyGivenNames v16
        have h17 : Keeps s₀ v16 := by
          subst v16
          exact h15
        clear_value v16
        refine Keeps.upd ?_ rfl
        exact h17
      · rename_i x18 x19 x20
        have h21 : Keeps s₀ x19 := by
          refine Keeps.ofPair ?_ x20
          apply fragChunks_keeps
          exact y3
        exact h21
      · rename_i x22 x23 x24 x25 x26 x27
        have h28 : Keeps s₀ x24 := by
          refine Keeps.ofPair ?_ x27
          apply fragChunks_keeps
          exact y3
        apply tunDone_keeps
        refine Keeps.upd ?_ rfl
        exact h28
    · rename_i x29 x30 x31
      exact y3

theorem tunTake_keeps {s₀ : State} (s : State) (j : TunJob) (h_s : Keeps s₀ s) : Keeps s₀ (tunTake s j) := by
  unfold tunTake
  split
  · rename_i x1 x2 x3
    apply tunInject_keeps
    exact h_s
  · rename_i x4 x5 x6
    apply tunPump_keeps
    refine Keeps.upd ?_ rfl
    exact h_s

theorem tunReadDone_keeps {s₀ : State} (s : State) (c : Nat) (data : Option (List Byte)) (h_s : Keeps s₀ s) : Keeps s₀ (tunReadDone s c data) := by
  unfold tunReadDone
  split
  · rename_i x1 x2
    apply tunPump_keeps
    exact h_s
  · rename_i x3 x4 x5
    split
    · rename_i x6 x7
      exact h_s
    · rename_i x8 x9 x10 x11
      refine ite_of (Keeps s₀) ?_ ?_
      · exact h_s
      · extract_lets +onlyGivenNames v12
        clear_value v12
        extract_lets +onlyGivenNames v13
        clear_value v13
        extract_lets +onlyGivenNames v14
        have h15 : Keeps s₀ v14 := by
          subst v14
          apply endRead_keeps
          refine Keeps.upd ?_ rfl
          exact h_s
        clear_value v14
        refine ite_of (Keeps s₀) ?_ ?_
        · apply tunDone_keeps
          exact h15
        · apply tunInject_keeps
          exact h15


/-! ### Machine/Transport.lean -/

theorem putImage_keeps {s₀ : State} (s : State) (fn : Option Nat) (ch : Nat) (w : List Nat) (h_s : Keeps s₀ s) : Keeps s₀ (putImage s fn ch w) := by
  unfold putImage
  refine Keeps.foldl ?_ ?_
  · exact h_s
  · intro y1 y2 y3
    split
    · rename_i x4 x5 x6
      apply State.wri_keeps
      exact y3
    · rename_i x7 x8
      apply State.wri_keeps
      exact y3

theorem runOpen_keeps {s₀ : State} (s : State) (fn : Option Nat) (ch : Nat) (x : ChanSt) (h_s : Keeps s₀ s) : Keeps s₀ (runOpen s fn ch x) := by
  unfold runOpen
  extract_lets +onlyGivenNames v1
  clear_value v1
  extract_lets +onlyGivenNames v2
  clear_value v2
  refine ite_of (Keeps s₀) ?_ ?_
  · apply cmdDone_keeps
    exact h_s
  · refine ite_of (Keeps s₀) ?_ ?_
    · apply cmdDone_keeps
      exact h_s
    · extract_lets +onlyGivenNames v3
      clear_value v3
      apply cmdDone_keeps
      apply State.setChan_keeps
      exact h_s

theorem runModify_keeps {s₀ : State} (s : State) (fn : Option Nat) (ch : Nat) (x : ChanSt) (h_s : Keeps s₀ s) : Keeps s₀ (runModify s fn ch x) := by
  unfold runModify
  extract_lets +onlyGivenNames v1
  clear_value v1
  refine ite_of (Keeps s₀) ?_ ?_
  · apply cmdDone_keeps
    exact h_s
  · refine ite_of (Keeps s₀) ?_ ?_
    · apply cmdDone_keeps
      exact h_s
    · extract_lets +onlyGivenNames v2
      clear_value v2
      extract_lets +onlyGivenNames v3
      clear_value v3
      apply cmdDone_keeps
      apply State.setChan_keeps
      exact h_s

theorem runClose_keeps {s₀ : State} (s : State) (fn : Option Nat) (ch : Nat) (x : ChanSt) (h_s : Keeps s₀ s) : Keeps s₀ (runClose s fn ch x) := by
  unfold runClose
  refine ite_of (Keeps s₀) ?_ ?_
  · extract_lets +onlyGivenNames v1
    clear_value v1
    extract_lets +onlyGivenNames v2
    clear_value v2
    apply State.setChan_keeps
    exact h_s
  · refine ite_of (Keeps s₀) ?_ ?_
    · apply cmdDone_keeps
      apply closeNow_keeps
      exact h_s
    · apply cmdDone_keeps
      exact h_s

theorem runCloseForce_keeps {s₀ : State} (s : State) (fn : Option Nat) (ch : Nat) (x : ChanSt) (h_s : Keeps s₀ s) : Keeps s₀ (runCloseForce s fn ch x) := by
  unfold runCloseForce
  apply cmdDone_keeps
  refine ite_of (Keeps s₀) ?_ ?_
  · exact h_s
  · apply closeNow_keeps
    exact h_s

theorem runCmd_keeps {s₀ : State} (s : State) (fn : Option Nat) (op : Nat) (ch : Nat) (h_s : Keeps s₀ s) : Keeps s₀ (runCmd s fn op ch) := by
  unfold runCmd
  split
  · rename_i x1 x2
    apply cmdDone_keeps
    exact h_s
  · rename_i x3 x4 x5
    refine ite_of (Keeps s₀) ?_ ?_
    · apply runOpen_keeps
      exact h_s
    · refine ite_of (Keeps s₀) ?_ ?_
      · apply runModify_keeps
        exact h_s
      · refine ite_of (Keeps s₀) ?_ ?_
        · apply runClose_keeps
          exact h_s
        · refine ite_of (Keeps s₀) ?_ ?_
          · apply runCloseForce_keeps
            exact h_s
          · apply cmdDone_keeps
            apply putImage_keeps
            exact h_s

theorem pumpSlots_keeps {s₀ : State} (s : State) (c : Nat) (h_s : Keeps s₀ s) : Keeps s₀ (pumpSlots s c) := by
  unfold pumpSlots
  refine Keeps.foldl ?_ ?_
  · exact h_s
  · intro y1 y2 y3
    extract_lets +onlyGivenNames v4
    clear_value v4
    refine ite_of (Keeps s₀) ?_ ?_
    · exact y3
    · split
      · rename_i x5 x6 x7
        have h8 : Keeps s₀ x6 := by
          refine Keeps.ofPair ?_ x7
          apply askSlot_keeps
          exact y3
        apply startFetch_keeps
        exact h8
      · rename_i x9 x10 x11 x12
        have h13 : Keeps s₀ x11 := by
          refine Keeps.ofPair ?_ x12
          apply askSlot_keeps
          exact y3
        apply startFetch_keeps
        exact h13
      · rename_i x14 x15 x16
        have h17 : Keeps s₀ x15 := by
          refine Keeps.ofPair ?_ x16
          apply askSlot_keeps
          exact y3
        apply startFetch_keeps
        exact h17

theorem tpEnd_keeps {s₀ : State} (s : State) (c : Nat) (h_s : Keeps s₀ s) : Keeps s₀ (tpEnd s c) := by
  unfold tpEnd
  apply tpSync_keeps
  apply farPumpAll_keeps
  apply pumpSlots_keeps
  exact h_s

theorem startCmd_keeps {s₀ : State} (s : State) (fn : Option Nat) (op : Nat) (ch : Nat) (h_s : Keeps s₀ s) : Keeps s₀ (startCmd s fn op ch) := by
  unfold startCmd
  refine ite_of (Keeps s₀) ?_ ?_
  · apply runCmd_keeps
    exact h_s
  · extract_lets +onlyGivenNames v1
    clear_value v1
    extract_lets +onlyGivenNames v2
    have h3 : Keeps s₀ v2 := by
      subst v2
      refine Keeps.upd ?_ rfl
      exact h_s
    clear_value v2
    refine ite_of (Keeps s₀) ?_ ?_
    · exact h3
    · refine ite_of (Keeps s₀) ?_ ?_
      · apply startFetch_keeps
        exact h3
      · split
        · rename_i x4 x5 x6
          have h7 : Keeps s₀ x5 := by
            refine Keeps.ofPair ?_ x6
            apply askSlot_keeps
            exact h3
          apply startFetch_keeps
          exact h7
        · rename_i x8 x9 x10 x11
          have h12 : Keeps s₀ x10 := by
            refine Keeps.ofPair ?_ x11
            apply askSlot_keeps
            exact h3
          apply startFetch_keeps
          exact h12
        · rename_i x13 x14 x15
          have h16 : Keeps s₀ x14 := by
            refine Keeps.ofPair ?_ x15
            apply askSlot_keeps
            exact h3
          apply startFetch_keeps
          exact h16

theorem clusterCmd_keeps {s₀ : State} (r : Route) (c : Fin 4) (op : Nat) (s : State) (h_s : Keeps s₀ s) : Keeps s₀ (clusterCmd r c op s) := by
  unfold clusterCmd
  extract_lets +onlyGivenNames v1
  clear_value v1
  apply guarded_keeps
  · exact h_s
  · intro y2 y3
    refine ite_of (Keeps s₀) ?_ ?_
    · exact y3
    · refine ite_of (Keeps s₀) ?_ ?_
      · apply accViol_keeps
        exact y3
      · extract_lets +onlyGivenNames v4
        clear_value v4
        extract_lets +onlyGivenNames v5
        have h6 : Keeps s₀ v5 := by
          subst v5
          apply State.wr_keeps
          apply State.wr_keeps
          exact y3
        clear_value v5
        refine ite_of (Keeps s₀) ?_ ?_
        · apply State.wr_keeps
          apply State.wr_keeps
          exact h6
        · apply tpEnd_keeps
          apply startCmd_keeps
          exact h6

theorem execOpen_keeps {s₀ : State} (r : Route) (c : Fin 4) (s : State) (h_s : Keeps s₀ s) : Ends (execOpen r c s) (Keeps s₀) := by
  unfold execOpen
  refine Ends.next ?_
  apply clusterCmd_keeps
  exact h_s

theorem execModify_keeps {s₀ : State} (r : Route) (c : Fin 4) (s : State) (h_s : Keeps s₀ s) : Ends (execModify r c s) (Keeps s₀) := by
  unfold execModify
  refine Ends.next ?_
  apply clusterCmd_keeps
  exact h_s

theorem execClose_keeps {s₀ : State} (r : Route) (c : Fin 4) (s : State) (h_s : Keeps s₀ s) : Ends (execClose r c s) (Keeps s₀) := by
  unfold execClose
  refine Ends.next ?_
  apply clusterCmd_keeps
  exact h_s

theorem execCloseForce_keeps {s₀ : State} (r : Route) (c : Fin 4) (s : State) (h_s : Keeps s₀ s) : Ends (execCloseForce r c s) (Keeps s₀) := by
  unfold execCloseForce
  refine Ends.next ?_
  apply clusterCmd_keeps
  exact h_s

theorem execQuery_keeps {s₀ : State} (r : Route) (c : Fin 4) (s : State) (h_s : Keeps s₀ s) : Ends (execQuery r c s) (Keeps s₀) := by
  unfold execQuery
  refine Ends.next ?_
  apply clusterCmd_keeps
  exact h_s

theorem execChannelCloseComplete_keeps {s₀ : State} (ch : Fin 1048576) (s : State) (h_s : Keeps s₀ s) : Ends (execChannelCloseComplete ch s) (Keeps s₀) := by
  unfold execChannelCloseComplete
  split
  · rename_i x1 x2 x3
    refine Ends.next ?_
    refine ite_of (Keeps s₀) ?_ ?_
    · apply tpEnd_keeps
      apply toClosed_keeps
      exact h_s
    · exact h_s
  · rename_i x4 x5
    refine Ends.next ?_
    exact h_s

theorem handleReq_keeps {s₀ : State} (s : State) (p : Packet) (h_s : Keeps s₀ s) : Keeps s₀ (handleReq s p) := by
  unfold handleReq
  extract_lets +onlyGivenNames v1
  clear_value v1
  refine ite_of (Keeps s₀) ?_ ?_
  · apply stall_keeps
    exact h_s
  · extract_lets +onlyGivenNames v2
    have h3 : Keeps s₀ v2.snd := by
      subst v2
      apply drawSpace_keeps
      exact h_s
    clear_value v2
    extract_lets +onlyGivenNames v4
    have h5 : Keeps s₀ v4.snd := by
      subst v4
      apply onContext_keeps
      exact h3
    clear_value v4
    refine ite_of (Keeps s₀) ?_ ?_
    · apply stall_keeps
      exact h5
    · apply parkedDone_keeps
      apply trailSettle_keeps
      exact h5

theorem runWaiting_keeps {s₀ : State} (s : State) (ch : Nat) (run : State → CmdWait → State) (h_s : Keeps s₀ s) (h_run : ∀ (a : State) (a_1 : CmdWait), Keeps s₀ a → Keeps s₀ (run a a_1)) : Keeps s₀ (runWaiting s ch run) := by
  unfold runWaiting
  extract_lets +onlyGivenNames v1
  clear_value v1
  refine Keeps.foldl ?_ ?_
  · refine Keeps.upd ?_ rfl
    exact h_s
  · exact h_run

theorem fetchFailed_keeps {s₀ : State} (s : State) (ch : Nat) (h_s : Keeps s₀ s) : Keeps s₀ (fetchFailed s ch) := by
  unfold fetchFailed
  extract_lets +onlyGivenNames v1
  clear_value v1
  apply raiseEvent_keeps
  apply State.setEvt_keeps
  apply State.bump_keeps
  exact h_s

theorem writebackFailed_keeps {s₀ : State} (s : State) (ch : Nat) (h_s : Keeps s₀ s) : Keeps s₀ (writebackFailed s ch) := by
  unfold writebackFailed
  extract_lets +onlyGivenNames v1
  clear_value v1
  apply raiseEvent_keeps
  apply State.setEvt_keeps
  exact h_s

theorem scanStep_keeps {s₀ : State} (s : State) (k : ScanSt) (h_s : Keeps s₀ s) : Keeps s₀ (scanStep s k) := by
  unfold scanStep
  split
  · rename_i x1 x2
    exact h_s
  · rename_i x3 x4 x5
    extract_lets +onlyGivenNames v6
    clear_value v6
    extract_lets +onlyGivenNames v7
    have h8 : Keeps s₀ v7 := by
      subst v7
      refine Keeps.upd ?_ rfl
      exact h_s
    clear_value v7
    refine ite_of (Keeps s₀) ?_ ?_
    · exact h8
    · apply State.emit_keeps
      exact h8

theorem scanNext_keeps {s₀ : State} (s : State) (k : ScanSt) (h_s : Keeps s₀ s) : Keeps s₀ (scanNext s k) := by
  unfold scanNext
  apply scanStep_keeps
  refine Keeps.upd ?_ rfl
  exact h_s

theorem scansPass_keeps {s₀ : State} (s : State) (ch : Nat) (h_s : Keeps s₀ s) : Keeps s₀ (scansPass s ch) := by
  unfold scansPass
  refine Keeps.foldl ?_ ?_
  · exact h_s
  · intro y1 y2 y3
    apply scanNext_keeps
    exact y3

theorem scanRead_keeps {s₀ : State} (s : State) (k : ScanSt) (words : Option (List (BitVec 32))) (h_s : Keeps s₀ s) : Keeps s₀ (scanRead s k words) := by
  unfold scanRead
  split
  · rename_i x1 x2
    apply scanNext_keeps
    apply fetchFailed_keeps
    exact h_s
  · rename_i x3 x4 x5
    refine ite_of (Keeps s₀) ?_ ?_
    · apply writeCtx_keeps
      refine Keeps.upd ?_ rfl
      exact h_s
    · apply scanNext_keeps
      exact h_s

theorem closeIfResetting_keeps {s₀ : State} (s : State) (ch : Nat) (h_s : Keeps s₀ s) : Keeps s₀ (closeIfResetting s ch) := by
  unfold closeIfResetting
  split
  · rename_i x1 x2 x3
    refine ite_of (Keeps s₀) ?_ ?_
    · apply closeNow_keeps
      exact h_s
    · exact h_s
  · rename_i x4 x5
    exact h_s

theorem execCtxFetchDone_keeps {s₀ : State} (ch : Fin 1048576) (words : Option (List (BitVec 32))) (s : State) (h_s : Keeps s₀ s) : Ends (execCtxFetchDone ch words s) (Keeps s₀) := by
  unfold execCtxFetchDone
  extract_lets +onlyGivenNames v1
  clear_value v1
  split
  · rename_i x2 x3
    split
    · rename_i x4 x5 x6
      refine Ends.next ?_
      apply scanRead_keeps
      exact h_s
    · rename_i x7 x8
      refine Ends.next ?_
      exact h_s
  · rename_i x9 x10 x11
    extract_lets +onlyGivenNames v12
    have h13 : Keeps s₀ v12 := by
      subst v12
      apply countEv_keeps
      exact h_s
    clear_value v12
    split
    · rename_i x14 x15
      extract_lets +onlyGivenNames v16
      have h17 : Keeps s₀ v16 := by
        subst v16
        apply runWaiting_keeps
        · apply fetchFailed_keeps
          apply dropChan_keeps
          exact h13
        · intro y18 y19 y20
          apply cmdDone_keeps
          exact y20
      clear_value v16
      refine Ends.next ?_
      apply tpEnd_keeps
      apply scansPass_keeps
      apply finsFail_keeps
      apply farFail_keeps
      exact h17
    · rename_i x21 x22 x23
      extract_lets +onlyGivenNames v24
      clear_value v24
      extract_lets +onlyGivenNames v25
      clear_value v25
      extract_lets +onlyGivenNames v26
      clear_value v26
      extract_lets +onlyGivenNames v27
      have h28 : Keeps s₀ v27 := by
        subst v27
        refine Keeps.upd ?_ rfl
        exact h13
      clear_value v27
      extract_lets +onlyGivenNames v29
      have h30 : Keeps s₀ v29 := by
        subst v29
        apply runWaiting_keeps
        · apply closeIfResetting_keeps
          exact h28
        · intro y31 y32 y33
          apply runCmd_keeps
          exact y33
      clear_value v29
      refine Ends.next ?_
      apply tpEnd_keeps
      apply payFins_keeps
      apply scansPass_keeps
      apply missNak_keeps
      refine Keeps.foldl ?_ ?_
      · exact h30
      · intro y34 y35 y36
        apply handleReq_keeps
        exact y36

theorem execCtxWritebackDone_keeps {s₀ : State} (ch : Fin 1048576) (s : State) (h_s : Keeps s₀ s) : Ends (execCtxWritebackDone ch s) (Keeps s₀) := by
  unfold execCtxWritebackDone
  extract_lets +onlyGivenNames v1
  clear_value v1
  split
  · rename_i x2 x3
    split
    · rename_i x4 x5 x6
      refine Ends.next ?_
      apply scanNext_keeps
      exact h_s
    · rename_i x7 x8
      refine Ends.next ?_
      exact h_s
  · rename_i x9 x10 x11
    extract_lets +onlyGivenNames v12
    clear_value v12
    extract_lets +onlyGivenNames v13
    clear_value v13
    extract_lets +onlyGivenNames v14
    have h15 : Keeps s₀ v14 := by
      subst v14
      refine ite_of (Keeps s₀) ?_ ?_
      · refine Keeps.upd ?_ rfl
        exact h_s
      · apply evictChan_keeps
        exact h_s
    clear_value v14
    refine Ends.next ?_
    apply tpEnd_keeps
    apply payFins_keeps
    exact h15

theorem failSlotCmds_keeps {s₀ : State} (s : State) (v : Nat) (h_s : Keeps s₀ s) : Keeps s₀ (failSlotCmds s v) := by
  unfold failSlotCmds
  refine Keeps.foldl ?_ ?_
  · exact h_s
  · intro y1 y2 y3
    extract_lets +onlyGivenNames v4
    have h5 : Keeps s₀ v4 := by
      subst v4
      apply runWaiting_keeps
      · exact y3
      · intro y6 y7 y8
        apply cmdDone_keeps
        exact y8
    clear_value v4
    refine ite_of (Keeps s₀) ?_ ?_
    · apply dropChan_keeps
      exact h5
    · exact h5

theorem execCtxWritebackFail_keeps {s₀ : State} (ch : Fin 1048576) (s : State) (h_s : Keeps s₀ s) : Ends (execCtxWritebackFail ch s) (Keeps s₀) := by
  unfold execCtxWritebackFail
  extract_lets +onlyGivenNames v1
  clear_value v1
  split
  · rename_i x2 x3
    split
    · rename_i x4 x5 x6
      refine Ends.next ?_
      apply scanNext_keeps
      apply writebackFailed_keeps
      exact h_s
    · rename_i x7 x8
      refine Ends.next ?_
      exact h_s
  · rename_i x9 x10 x11
    extract_lets +onlyGivenNames v12
    clear_value v12
    extract_lets +onlyGivenNames v13
    clear_value v13
    extract_lets +onlyGivenNames v14
    have h15 : Keeps s₀ v14 := by
      subst v14
      refine Keeps.upd ?_ rfl
      exact h_s
    clear_value v14
    extract_lets +onlyGivenNames v16
    have h17 : Keeps s₀ v16 := by
      subst v16
      refine ite_of (Keeps s₀) ?_ ?_
      · apply chanError_keeps
        exact h15
      · exact h15
    clear_value v16
    refine Ends.next ?_
    apply tpEnd_keeps
    apply failSlotCmds_keeps
    apply writebackFailed_keeps
    exact h17

theorem execChannelPacketSend_keeps {s₀ : State} (ch : Fin 1048576) (space : Bool) (s : State) (h_s : Keeps s₀ s) : Ends (execChannelPacketSend ch space s) (Keeps s₀) := by
  unfold execChannelPacketSend
  refine Ends.next ?_
  apply tpEnd_keeps
  apply sendNext_keeps
  exact h_s

theorem sendReadDone_keeps {s₀ : State} (s : State) (ch : Nat) (data : Option (List Byte)) (h_s : Keeps s₀ s) : Keeps s₀ (sendReadDone s ch data) := by
  unfold sendReadDone
  split
  · rename_i x1 x2
    exact h_s
  · rename_i x3 x4 x5
    split
    · rename_i x6 x7
      exact h_s
    · rename_i x8 x9 x10 x11 x12
      refine ite_of (Keeps s₀) ?_ ?_
      · exact h_s
      · extract_lets +onlyGivenNames v13
        clear_value v13
        extract_lets +onlyGivenNames v14
        clear_value v14
        extract_lets +onlyGivenNames v15
        have h16 : Keeps s₀ v15 := by
          subst v15
          apply endRead_keeps
          exact h_s
        clear_value v15
        refine ite_of (Keeps s₀) ?_ ?_
        · apply chanError_keeps
          apply State.setChan_keeps
          exact h16
        · apply State.setChan_keeps
          exact h16

theorem respond_keeps {s₀ : State} (s : State) (ch : Nat) (psn : Nat) (data : Option (List Byte)) (h_s : Keeps s₀ s) : Keeps s₀ (respond s ch psn data) := by
  unfold respond
  split
  · rename_i x1 x2
    exact h_s
  · rename_i x3 x4 x5
    split
    · rename_i x6 x7
      exact h_s
    · rename_i x8 x9 x10
      refine ite_of (Keeps s₀) ?_ ?_
      · exact h_s
      · extract_lets +onlyGivenNames v11
        clear_value v11
        extract_lets +onlyGivenNames v12
        clear_value v12
        extract_lets +onlyGivenNames v13
        have h14 : Keeps s₀ v13 := by
          subst v13
          refine ite_of (Keeps s₀) ?_ ?_
          · refine Keeps.upd ?_ rfl
            exact h_s
          · exact h_s
        clear_value v13
        extract_lets +onlyGivenNames v15
        have h16 : Keeps s₀ v15 := by
          subst v15
          apply State.setChan_keeps
          apply endRead_keeps
          exact h14
        clear_value v15
        extract_lets +onlyGivenNames v17
        clear_value v17
        extract_lets +onlyGivenNames v18
        clear_value v18
        apply resumeCluster_keeps
        apply trailEnd_keeps
        apply sendVia_keeps
        exact h16

theorem execPayloadReadDone_keeps {s₀ : State} (w : ReadFor) (data : Option (List Byte)) (s : State) (h_s : Keeps s₀ s) : Ends (execPayloadReadDone w data s) (Keeps s₀) := by
  unfold execPayloadReadDone
  split
  · rename_i x1 x2
    refine Ends.next ?_
    apply tpEnd_keeps
    apply sendReadDone_keeps
    exact h_s
  · rename_i x3 x4 x5
    refine Ends.next ?_
    apply tpEnd_keeps
    apply respond_keeps
    exact h_s
  · rename_i x6 x7
    refine Ends.next ?_
    apply tunReadDone_keeps
    exact h_s

theorem execChannelPacketReceive_keeps {s₀ : State} (c : Fin 4) (space : Bool) (s : State) (h_s : Keeps s₀ s) : Ends (execChannelPacketReceive c space s) (Keeps s₀) := by
  unfold execChannelPacketReceive
  refine ite_of (fun o => Ends o (Keeps s₀)) ?_ ?_
  · refine Ends.next ?_
    exact h_s
  · split
    · rename_i x1 x2
      refine Ends.next ?_
      exact h_s
    · rename_i x3 x4 x5 x6
      have h7 : Keeps s₀ x5 := by
        refine takeInbox_keeps ?_ x6
        exact h_s
      split
      · rename_i x8 x9 x10
        have h11 : Keeps s₀ x9 := by
          refine KeepsO.at ?_ x10
          apply arriveGood_keeps
          exact h7
        refine Ends.next ?_
        exact h11
      · rename_i x12 x13
        refine ite_of (fun o => Ends o (Keeps s₀)) ?_ ?_
        · refine Ends.next ?_
          apply tpEnd_keeps
          apply receiveReq_keeps
          exact h7
        · refine Ends.next ?_
          apply recordError_keeps
          apply State.bump_keeps
          exact h7

theorem execAckDelayTimeout_keeps {s₀ : State} (ch : Fin 1048576) (s : State) (h_s : Keeps s₀ s) : Ends (execAckDelayTimeout ch s) (Keeps s₀) := by
  unfold execAckDelayTimeout
  split
  · rename_i x1 x2 x3
    refine Ends.next ?_
    refine ite_of (Keeps s₀) ?_ ?_
    · apply tpEnd_keeps
      apply ackDue_keeps
      exact h_s
    · exact h_s
  · rename_i x4 x5
    refine Ends.next ?_
    exact h_s

theorem execAckReceive_keeps {s₀ : State} (c : Fin 4) (s : State) (h_s : Keeps s₀ s) : Ends (execAckReceive c s) (Keeps s₀) := by
  unfold execAckReceive
  refine ite_of (fun o => Ends o (Keeps s₀)) ?_ ?_
  · refine Ends.next ?_
    exact h_s
  · split
    · rename_i x1 x2
      refine Ends.next ?_
      exact h_s
    · rename_i x3 x4 x5 x6
      have h7 : Keeps s₀ x5 := by
        refine takeInbox_keeps ?_ x6
        exact h_s
      split
      · rename_i x8 x9 x10
        have h11 : Keeps s₀ x9 := by
          refine KeepsO.at ?_ x10
          apply arriveGood_keeps
          exact h7
        refine Ends.next ?_
        exact h11
      · rename_i x12 x13
        refine Ends.next ?_
        apply tpEnd_keeps
        apply onAck_keeps
        exact h7

theorem execNakReceive_keeps {s₀ : State} (c : Fin 4) (s : State) (h_s : Keeps s₀ s) : Ends (execNakReceive c s) (Keeps s₀) := by
  unfold execNakReceive
  refine ite_of (fun o => Ends o (Keeps s₀)) ?_ ?_
  · refine Ends.next ?_
    exact h_s
  · split
    · rename_i x1 x2
      refine Ends.next ?_
      exact h_s
    · rename_i x3 x4 x5 x6
      have h7 : Keeps s₀ x5 := by
        refine takeInbox_keeps ?_ x6
        exact h_s
      split
      · rename_i x8 x9 x10
        have h11 : Keeps s₀ x9 := by
          refine KeepsO.at ?_ x10
          apply arriveGood_keeps
          exact h7
        refine Ends.next ?_
        exact h11
      · rename_i x12 x13
        refine Ends.next ?_
        apply tpEnd_keeps
        apply onNak_keeps
        exact h7

theorem execReadRspReceive_keeps {s₀ : State} (c : Fin 4) (s : State) (h_s : Keeps s₀ s) : Ends (execReadRspReceive c s) (Keeps s₀) := by
  unfold execReadRspReceive
  refine ite_of (fun o => Ends o (Keeps s₀)) ?_ ?_
  · refine Ends.next ?_
    exact h_s
  · split
    · rename_i x1 x2
      refine Ends.next ?_
      exact h_s
    · rename_i x3 x4 x5 x6
      have h7 : Keeps s₀ x5 := by
        refine takeInbox_keeps ?_ x6
        exact h_s
      split
      · rename_i x8 x9 x10
        have h11 : Keeps s₀ x9 := by
          refine KeepsO.at ?_ x10
          apply arriveGood_keeps
          exact h7
        refine Ends.next ?_
        exact h11
      · rename_i x12 x13
        split
        · rename_i x14 x15 x16
          have h17 : Keeps s₀ x15 := by
            refine Keeps.ofPair ?_ x16
            apply onReadRsp_keeps
            exact h7
          refine Ends.next ?_
          apply tpEnd_keeps
          exact h17
        · rename_i x18 x19 x20
          have h21 : Keeps s₀ x19 := by
            refine Keeps.ofPair ?_ x20
            apply onReadRsp_keeps
            exact h7
          refine Ends.next ?_
          refine Keeps.upd ?_ rfl
          exact h21

theorem execWrnoallocCmp_keeps {s₀ : State} (c : Fin 4) (s : State) (h_s : Keeps s₀ s) : Ends (execWrnoallocCmp c s) (Keeps s₀) := by
  unfold execWrnoallocCmp
  split
  · rename_i x1 x2
    refine Ends.next ?_
    exact h_s
  · rename_i x3 x4 x5
    extract_lets +onlyGivenNames v6
    clear_value v6
    extract_lets +onlyGivenNames v7
    have h8 : Keeps s₀ v7 := by
      subst v7
      refine Keeps.upd ?_ rfl
      exact h_s
    clear_value v7
    split
    · rename_i x9 x10 x11 x12 x13
      extract_lets +onlyGivenNames v14
      have h15 : Keeps s₀ v14 := by
        subst v14
        split
        · rename_i x16 x17
          exact h8
        · rename_i x18 x19 x20
          extract_lets +onlyGivenNames v21
          clear_value v21
          extract_lets +onlyGivenNames v22
          have h23 : Keeps s₀ v22 := by
            subst v22
            apply State.setChan_keeps
            exact h8
          clear_value v22
          apply releaseAll_keeps
          apply finishJobs_keeps
          apply tryAck_keeps
          refine ite_of (Keeps s₀) ?_ ?_
          · exact h23
          · apply trailMark_keeps
            exact h23
      clear_value v14
      refine Ends.next ?_
      apply tpEnd_keeps
      apply resumeCluster_keeps
      exact h15
    · rename_i x24 x25
      refine Ends.next ?_
      exact h8

theorem execRetxTimeout_keeps {s₀ : State} (ch : Fin 1048576) (s : State) (h_s : Keeps s₀ s) : Ends (execRetxTimeout ch s) (Keeps s₀) := by
  unfold execRetxTimeout
  extract_lets +onlyGivenNames v1
  clear_value v1
  split
  · rename_i x2 x3
    refine Ends.next ?_
    exact h_s
  · rename_i x4 x5 x6
    refine ite_of (fun o => Ends o (Keeps s₀)) ?_ ?_
    · refine Ends.next ?_
      exact h_s
    · extract_lets +onlyGivenNames v7
      have h8 : Keeps s₀ v7 := by
        subst v7
        apply State.bump_keeps
        exact h_s
      clear_value v7
      refine ite_of (fun o => Ends o (Keeps s₀)) ?_ ?_
      · refine Ends.next ?_
        apply tpEnd_keeps
        apply chanError_keeps
        exact h8
      · extract_lets +onlyGivenNames v9
        clear_value v9
        extract_lets +onlyGivenNames v10
        clear_value v10
        extract_lets +onlyGivenNames v11
        clear_value v11
        extract_lets +onlyGivenNames v12
        clear_value v12
        extract_lets +onlyGivenNames v13
        clear_value v13
        extract_lets +onlyGivenNames v14
        have h15 : Keeps s₀ v14 := by
          subst v14
          apply State.setChan_keeps
          exact h8
        clear_value v14
        refine Ends.next ?_
        apply tpEnd_keeps
        refine ite_of (Keeps s₀) ?_ ?_
        · apply raiseEvent_keeps
          exact h15
        · exact h15

theorem execMissBackoffExpire_keeps {s₀ : State} (ch : Fin 1048576) (s : State) (h_s : Keeps s₀ s) : Ends (execMissBackoffExpire ch s) (Keeps s₀) := by
  unfold execMissBackoffExpire
  extract_lets +onlyGivenNames v1
  clear_value v1
  split
  · rename_i x2 x3
    refine Ends.next ?_
    exact h_s
  · rename_i x4 x5 x6
    split
    · rename_i x7 x8
      refine Ends.next ?_
      exact h_s
    · rename_i x9 x10 x11 x12
      refine Ends.next ?_
      apply tpEnd_keeps
      apply State.setChan_keeps
      exact h_s

theorem execCcIncPeriod_keeps {s₀ : State} (ch : Fin 1048576) (s : State) (h_s : Keeps s₀ s) : Ends (execCcIncPeriod ch s) (Keeps s₀) := by
  unfold execCcIncPeriod
  extract_lets +onlyGivenNames v1
  clear_value v1
  split
  · rename_i x2 x3
    split
    · rename_i x4 x5
      refine Ends.next ?_
      exact h_s
    · rename_i x6 x7 x8
      extract_lets +onlyGivenNames v9
      clear_value v9
      refine Ends.next ?_
      refine Keeps.upd ?_ rfl
      exact h_s
  · rename_i x10 x11 x12
    refine ite_of (fun o => Ends o (Keeps s₀)) ?_ ?_
    · refine Ends.next ?_
      exact h_s
    · extract_lets +onlyGivenNames v13
      clear_value v13
      extract_lets +onlyGivenNames v14
      clear_value v14
      refine Ends.next ?_
      apply tpEnd_keeps
      apply State.setChan_keeps
      exact h_s

theorem execTransportCntClr_keeps {s₀ : State} (r : Route) (c : Fin 4) (s : State) (h_s : Keeps s₀ s) : Ends (execTransportCntClr r c s) (Keeps s₀) := by
  unfold execTransportCntClr
  extract_lets +onlyGivenNames v1
  clear_value v1
  refine Ends.next ?_
  apply guarded_keeps
  · exact h_s
  · intro y2 y3
    apply State.clearArr_keeps
    apply State.clearArr_keeps
    apply State.clearAll_keeps
    exact y3


/-! ### Machine/TakeOps.lean -/

theorem keysGood_keeps {s₀ : State} (s : State) (f right : Nat) (also : Option Nat) (k : List Frag) (h_s : Keeps s₀ s) : Keeps s₀ (keysGood s f right also k).2 := by
  induction k generalizing s with
  | nil =>
    unfold keysGood
    exact h_s
  | cons g l ih =>
    unfold keysGood
    refine ite_of (fun (p : _ × State) => Keeps s₀ p.2) ?_ ?_
    · apply ih
      exact h_s
    · split
      · rename_i x1 x2 x3
        have h4 : Keeps s₀ x2 := by
          refine Keeps.ofPair ?_ x3
          apply keyCheck_keeps
          exact h_s
        exact h4
      · rename_i x5 x6 x7
        have h8 : Keeps s₀ x6 := by
          refine Keeps.ofPair ?_ x7
          apply keyCheck_keeps
          exact h_s
        exact h8
      · rename_i x9 x10 x11 x12
        have h13 : Keeps s₀ x11 := by
          refine Keeps.ofPair ?_ x12
          apply keyCheck_keeps
          exact h_s
        split
        · rename_i x14
          apply ih
          exact h13
        · rename_i x15 x16
          split
          · rename_i x17 x18 x19
            have h20 : Keeps s₀ x18 := by
              refine Keeps.ofPair ?_ x19
              apply keyCheck_keeps
              exact h13
            exact h20
          · rename_i x21 x22 x23
            have h24 : Keeps s₀ x22 := by
              refine Keeps.ofPair ?_ x23
              apply keyCheck_keeps
              exact h13
            exact h24
          · rename_i x25 x26 x27 x28
            have h29 : Keeps s₀ x27 := by
              refine Keeps.ofPair ?_ x28
              apply keyCheck_keeps
              exact h13
            apply ih
            exact h29

theorem fragChecks_keeps {s₀ : State} (s : State) (f : Nat) (x : Fetched) (b : List Byte) (h_s : Keeps s₀ s) : Keeps s₀ (fragChecks s f x b).snd := by
  unfold fragChecks
  split
  · rename_i x1 x2
    exact h_s
  · rename_i x3 x4
    exact h_s
  · rename_i x5 x6 x7
    refine ite_of (fun (p : _ × State) => Keeps s₀ p.2) ?_ ?_
    · exact h_s
    · extract_lets +onlyGivenNames v8
      apply keysGood_keeps
      exact h_s

theorem chanTake_keeps {s₀ : State} (s : State) (g : Nat) (q : WqSt) (x : Fetched) (b : List Byte) (h_s : Keeps s₀ s) : Keeps s₀ (chanTake s g q x b).snd := by
  unfold chanTake
  extract_lets +onlyGivenNames v1
  clear_value v1
  refine ite_of (fun (p : _ × State) => Keeps s₀ p.2) ?_ ?_
  · exact h_s
  · split
    · rename_i x2 x3
      refine Keeps.mkPair ?_
      apply wantCtx_keeps
      exact h_s
    · rename_i x4 x5 x6
      refine ite_of (fun (p : _ × State) => Keeps s₀ p.2) ?_ ?_
      · exact h_s
      · refine ite_of (fun (p : _ × State) => Keeps s₀ p.2) ?_ ?_
        · exact h_s
        · refine ite_of (fun (p : _ × State) => Keeps s₀ p.2) ?_ ?_
          · exact h_s
          · refine ite_of (fun (p : _ × State) => Keeps s₀ p.2) ?_ ?_
            · exact h_s
            · split
              · rename_i x7 x8 x9
                have h10 : Keeps s₀ x8 := by
                  refine Keeps.ofPair ?_ x9
                  apply fragChecks_keeps
                  exact h_s
                refine ite_of (fun (p : _ × State) => Keeps s₀ p.2) ?_ ?_
                · refine Keeps.mkPair ?_
                  apply addJob_keeps
                  exact h10
                · exact h10
              · rename_i x11 x12
                apply fragChecks_keeps
                exact h_s

theorem frameTake_keeps {s₀ : State} (s : State) (g : Nat) (q : WqSt) (x : Fetched) (b : List Byte) (h_s : Keeps s₀ s) : Keeps s₀ (frameTake s g q x b).snd := by
  unfold frameTake
  refine ite_of (fun (p : _ × State) => Keeps s₀ p.2) ?_ ?_
  · exact h_s
  · refine ite_of (fun (p : _ × State) => Keeps s₀ p.2) ?_ ?_
    · exact h_s
    · split
      · rename_i x1 x2 x3
        have h4 : Keeps s₀ x2 := by
          refine Keeps.ofPair ?_ x3
          apply fragChecks_keeps
          exact h_s
        refine Keeps.mkPair ?_
        apply tunTake_keeps
        exact h4
      · rename_i x5 x6
        apply fragChecks_keeps
        exact h_s

theorem invRemoves_keeps {s₀ : State} (w : InvalWait) (s : State) (h_s : Keeps s₀ s) : Keeps s₀ (invRemoves w s) := by
  unfold invRemoves
  extract_lets +onlyGivenNames v1
  clear_value v1
  extract_lets +onlyGivenNames v2
  clear_value v2
  extract_lets +onlyGivenNames v3
  clear_value v3
  refine Keeps.upd ?_ rfl
  exact h_s

theorem invAbandons_keeps {s₀ : State} (w : InvalWait) (s : State) (h_s : Keeps s₀ s) : Keeps s₀ (invAbandons w s) := by
  unfold invAbandons
  extract_lets +onlyGivenNames v1
  clear_value v1
  refine Keeps.upd ?_ rfl
  exact h_s

theorem invTake_keeps {s₀ : State} (s : State) (g : Nat) (q : WqSt) (x : Fetched) (b : List Byte) (h_s : Keeps s₀ s) : Keeps s₀ (invTake s g q x b).snd := by
  unfold invTake
  refine ite_of (fun (p : _ × State) => Keeps s₀ p.2) ?_ ?_
  · exact h_s
  · refine ite_of (fun (p : _ × State) => Keeps s₀ p.2) ?_ ?_
    · exact h_s
    · extract_lets +onlyGivenNames v1
      clear_value v1
      extract_lets +onlyGivenNames v2
      have h3 : Keeps s₀ v2 := by
        subst v2
        apply invAbandons_keeps
        apply invRemoves_keeps
        exact h_s
      clear_value v2
      extract_lets +onlyGivenNames v4
      have h5 : Keeps s₀ v4 := by
        subst v4
        apply State.setWq_keeps
        exact h3
      clear_value v4
      refine Keeps.mkPair ?_
      refine Keeps.upd ?_ rfl
      exact h5

theorem checkEntry_keeps {s₀ : State} (s : State) (g : Nat) (q : WqSt) (x : Fetched) (h_s : Keeps s₀ s) : Keeps s₀ (checkEntry s g q x).snd := by
  unfold checkEntry
  split
  · rename_i x1 x2
    exact h_s
  · rename_i x3 x4 x5
    refine ite_of (fun (p : _ × State) => Keeps s₀ p.2) ?_ ?_
    · apply invTake_keeps
      exact h_s
    · refine ite_of (fun (p : _ × State) => Keeps s₀ p.2) ?_ ?_
      · apply collTake_keeps
        exact h_s
      · refine ite_of (fun (p : _ × State) => Keeps s₀ p.2) ?_ ?_
        · exact h_s
        · refine ite_of (fun (p : _ × State) => Keeps s₀ p.2) ?_ ?_
          · apply frameTake_keeps
            exact h_s
          · apply chanTake_keeps
            exact h_s

theorem pfSync_keeps {s₀ : State} (s : State) (e : Nat) (h_s : Keeps s₀ s) : Keeps s₀ (pfSync s e) := by
  unfold pfSync
  apply State.wr_keeps
  exact h_s

theorem tryTake_keeps {s₀ : State} (s : State) (g : Nat) (h_s : Keeps s₀ s) : Keeps s₀ (tryTake s g).snd := by
  unfold tryTake
  split
  · rename_i x1 x2
    exact h_s
  · rename_i x3 x4 x5
    split
    · rename_i x6 x7 x8 x9 x10 x11 x12
      refine ite_of (fun (p : _ × State) => Keeps s₀ p.2) ?_ ?_
      · exact h_s
      · extract_lets +onlyGivenNames v13
        clear_value v13
        extract_lets +onlyGivenNames v14
        have h15 : Keeps s₀ v14 := by
          subst v14
          apply cqReserve_keeps
          apply State.setWq_keeps
          exact h_s
        clear_value v14
        extract_lets +onlyGivenNames v16
        have h17 : Keeps s₀ v16.snd := by
          subst v16
          apply checkEntry_keeps
          exact h15
        clear_value v16
        extract_lets +onlyGivenNames v18
        have h19 : Keeps s₀ v18 := by
          subst v18
          exact h17
        clear_value v18
        split
        · rename_i x20 x21
          refine Keeps.mkPair ?_
          split
          · rename_i x22 x23 x24
            apply cqRelease_keeps
            apply State.setWq_keeps
            exact h19
          · rename_i x25 x26
            exact h19
        · rename_i x27 x28
          extract_lets +onlyGivenNames v29
          have h30 : Keeps s₀ v29 := by
            subst v29
            apply cntPMA_keeps
            apply State.bump_keeps
            exact h19
          clear_value v29
          extract_lets +onlyGivenNames v31
          have h32 : Keeps s₀ v31 := by
            subst v31
            apply State.wr_keeps
            apply State.wr_keeps
            exact h30
          clear_value v31
          extract_lets +onlyGivenNames v33
          clear_value v33
          extract_lets +onlyGivenNames v34
          clear_value v34
          extract_lets +onlyGivenNames v35
          clear_value v35
          extract_lets +onlyGivenNames v36
          clear_value v36
          extract_lets +onlyGivenNames v37
          have h38 : Keeps s₀ v37 := by
            subst v37
            apply trailMark_keeps
            apply trailUpd_keeps
            exact h32
          clear_value v37
          extract_lets +onlyGivenNames v39
          have h40 : Keeps s₀ v39 := by
            subst v39
            split
            · rename_i x41 x42 x43
              apply completeWq_keeps
              exact h38
            · rename_i x44 x45
              exact h38
          clear_value v39
          refine Keeps.mkPair ?_
          apply pfSync_keeps
          exact h40
    · rename_i x46 x47 x48
      exact h_s

theorem firstServed_keeps {s₀ : State} (go : State → Nat → Bool × State) (s : State) (k : List Nat) (h_go : ∀ t a, Keeps s₀ t → Keeps s₀ (go t a).2) (h_s : Keeps s₀ s) : Keeps s₀ (firstServed go s k).2 := by
  induction k generalizing s with
  | nil =>
    unfold firstServed
    exact h_s
  | cons g l ih =>
    unfold firstServed
    split
    · rename_i x1 x2 x3
      have h4 : Keeps s₀ x2 := by
        refine Keeps.ofPair ?_ x3
        apply h_go
        exact h_s
      exact h4
    · rename_i x5 x6 x7
      have h8 : Keeps s₀ x6 := by
        refine Keeps.ofPair ?_ x7
        apply h_go
        exact h_s
      apply ih
      exact h8

theorem applyModify_keeps {s₀ : State} (s : State) (e : Nat) (f : Nat) (h_s : Keeps s₀ s) : Keeps s₀ (applyModify s e f) := by
  unfold applyModify
  refine Keeps.foldl ?_ ?_
  · exact h_s
  · intro y1 y2 y3
    refine ite_of (Keeps s₀) ?_ ?_
    · split
      · rename_i x4 x5 x6 x7 x8 x9 x10 x11
        apply State.setWq_keeps
        exact y3
      · rename_i x12 x13 x14
        exact y3
    · exact y3

theorem arbitrated_keeps {s₀ : State} (go : State → Nat → Bool × State) (members : List Nat) (weight : State → Nat → Nat) (burst : State → Nat → Nat) (get_ : State → Arb) (set_ : State → Arb → State) (round : State → State) (s : State) (h_go : ∀ (a : State) (a_1 : Nat), Keeps s₀ a → Keeps s₀ (go a a_1).snd) (h_set_ : ∀ (a : State) (a_1 : Arb), Keeps s₀ a → Keeps s₀ (set_ a a_1)) (h_round : ∀ (a : State), Keeps s₀ a → Keeps s₀ (round a)) (h_s : Keeps s₀ s) : Keeps s₀ (arbitrated go members weight burst get_ set_ round s).snd := by
  unfold arbitrated
  extract_lets +onlyGivenNames v1
  clear_value v1
  extract_lets +onlyGivenNames v2
  clear_value v2
  split
  · rename_i x3 x4 x5 x6
    have h7 : Keeps s₀ x5 := by
      refine Keeps.ofPair ?_ x6
      apply firstServed_keeps
      · exact h_go
      · exact h_s
    refine Keeps.mkPair ?_
    apply h_set_
    exact h7
  · rename_i x8 x9 x10
    have h11 : Keeps s₀ x9 := by
      refine Keeps.ofPair ?_ x10
      apply firstServed_keeps
      · exact h_go
      · exact h_s
    split
    · rename_i x12 x13 x14 x15
      have h16 : Keeps s₀ x14 := by
        refine Keeps.ofPair ?_ x15
        apply firstServed_keeps
        · exact h_go
        · exact h11
      extract_lets +onlyGivenNames v17
      clear_value v17
      extract_lets +onlyGivenNames v18
      have h19 : Keeps s₀ v18 := by
        subst v18
        apply h_round
        apply h_set_
        exact h16
      clear_value v18
      refine Keeps.mkPair ?_
      apply h_set_
      exact h19
    · rename_i x20 x21 x22
      have h23 : Keeps s₀ x21 := by
        refine Keeps.ofPair ?_ x22
        apply firstServed_keeps
        · exact h_go
        · exact h11
      refine Keeps.mkPair ?_
      apply h_set_
      exact h23

theorem takeOfFn_keeps {s₀ : State} (s : State) (e : Nat) (f : Nat) (h_s : Keeps s₀ s) : Keeps s₀ (takeOfFn s e f).snd := by
  unfold takeOfFn
  extract_lets +onlyGivenNames v1
  clear_value v1
  apply arbitrated_keeps
  · intro y2 y3 y4
    apply tryTake_keeps
    exact y4
  · intro y5 y6 y7
    refine Keeps.upd ?_ rfl
    exact y7
  · intro y8 y9
    apply applyModify_keeps
    exact y9
  · exact h_s

theorem takeAt_keeps {s₀ : State} (s : State) (e : Nat) (h_s : Keeps s₀ s) : Keeps s₀ (takeAt s e).snd := by
  unfold takeAt
  extract_lets +onlyGivenNames v1
  clear_value v1
  apply arbitrated_keeps
  · intro y2 y3 y4
    apply takeOfFn_keeps
    exact y4
  · intro y5 y6 y7
    refine Keeps.upd ?_ rfl
    exact y7
  · intro y8 y9
    apply State.bump_keeps
    exact y9
  · exact h_s


/-! ### Machine/WorkQueues.lean -/

theorem fnShow_keeps {s₀ : State} (s : State) (f : Nat) (h_s : Keeps s₀ s) : Keeps s₀ (fnShow s f) := by
  unfold fnShow
  extract_lets +onlyGivenNames v1
  clear_value v1
  apply State.wr_keeps
  apply State.wr_keeps
  apply State.wr_keeps
  apply State.wr_keeps
  apply State.wr_keeps
  apply State.wr_keeps
  exact h_s

theorem badIndex_keeps {s₀ : State} (s : State) (f : Nat) (e : Nat) (i : Nat) (v : Nat) (cq : Bool) (h_s : Keeps s₀ s) : Keeps s₀ (badIndex s f e i v cq) := by
  unfold badIndex
  apply raiseEvent_keeps
  apply State.bump_keeps
  exact h_s

theorem applyPi_keeps {s₀ : State} (s : State) (g : Nat) (q : WqSt) (v : Nat) (h_s : Keeps s₀ s) : Keeps s₀ (applyPi s g q v).snd := by
  unfold applyPi
  refine ite_of (fun (p : _ × State) => Keeps s₀ p.2) ?_ ?_
  · extract_lets +onlyGivenNames v1
    clear_value v1
    extract_lets +onlyGivenNames v2
    have h3 : Keeps s₀ v2 := by
      subst v2
      refine ite_of (Keeps s₀) ?_ ?_
      · exact h_s
      · refine Keeps.upd ?_ rfl
        exact h_s
    clear_value v2
    refine Keeps.mkPair ?_
    apply State.wri_keeps
    exact h3
  · refine Keeps.mkPair ?_
    apply badIndex_keeps
    exact h_s

theorem execWqDoorbell_keeps {s₀ : State} (f : Fin 1024) (i : Fin 4096) (v : BitVec 32) (s : State) (h_s : Keeps s₀ s) :
    Ends (execWqDoorbell f i v s) (Keeps s₀) := by
  unfold execWqDoorbell
  refine ite_of (fun o => Ends o (Keeps s₀)) (Ends.next h_s) (ite_of (fun o => Ends o (Keeps s₀)) (Ends.next h_s) ?_)
  cases localWq s f.val i.val with
  | none => exact Ends.next h_s
  | some q =>
    have ha := applyPi_keeps s (wqNo s f.val i.val) q v.toNat h_s
    refine ite_of (fun o => Ends o (Keeps s₀)) (Ends.next (State.bump_keeps _ _ _ h_s)) (Ends.next ?_)
    split
    · apply State.bump_keeps
      exact ha
    · exact ha

theorem execWatchedLineSnoop_keeps {s₀ : State} (f : Fin 1024) (a : BitVec 64) (s : State) (h_s : Keeps s₀ s) : Ends (execWatchedLineSnoop f a s) (Keeps s₀) := by
  unfold execWatchedLineSnoop
  split
  · rename_i x1 x2
    refine Ends.next ?_
    exact h_s
  · rename_i x3 x4 x5
    refine Ends.next ?_
    apply lineTaken_keeps
    exact h_s

theorem applyLine_keeps {s₀ : State} (s : State) (f : Nat) (a : Nat) (b : List Byte) (h_s : Keeps s₀ s) : Keeps s₀ (applyLine s f a b) := by
  unfold applyLine
  refine Keeps.foldl ?_ ?_
  · exact h_s
  · intro y1 y2 y3
    split
    · rename_i x4 x5 x6
      extract_lets +onlyGivenNames v7
      clear_value v7
      refine ite_of (Keeps s₀) ?_ ?_
      · exact y3
      · apply applyPi_keeps
        exact y3
    · rename_i x8 x9
      exact y3

theorem lineFault_keeps {s₀ : State} (s : State) (f : Nat) (a : Nat) (h_s : Keeps s₀ s) : Keeps s₀ (lineFault s f a) := by
  unfold lineFault
  refine Keeps.foldl ?_ ?_
  · exact h_s
  · intro y1 y2 y3
    apply raiseEvent_keeps
    exact y3

theorem lineReadEnds_keeps {s₀ : State} (s : State) (w : WatchSt) (h_s : Keeps s₀ s) : Keeps s₀ (lineReadEnds s w) := by
  unfold lineReadEnds
  extract_lets +onlyGivenNames v1
  have h2 : Keeps s₀ v1 := by
    subst v1
    apply mapLine_keeps
    exact h_s
  clear_value v1
  refine ite_of (Keeps s₀) ?_ ?_
  · apply watchLoad_keeps
    apply lineCount_keeps
    exact h2
  · exact h2

theorem lineGave_keeps {s₀ : State} (s : State) (w : WatchSt) (b : List Byte) (bad : Bool) (h_s : Keeps s₀ s) : Keeps s₀ (lineGave s w b bad) := by
  unfold lineGave
  apply lineReadEnds_keeps
  refine ite_of (Keeps s₀) ?_ ?_
  · apply lineFault_keeps
    exact h_s
  · apply applyLine_keeps
    exact h_s

theorem readPoolLine_keeps {s₀ : State} (s : State) (w : WatchSt) (line : Nat) (h_s : Keeps s₀ s) : Keeps s₀ (readPoolLine s w line) := by
  unfold readPoolLine
  extract_lets +onlyGivenNames v1
  clear_value v1
  extract_lets +onlyGivenNames v2
  have h3 : Keeps s₀ v2 := by
    subst v2
    apply mapLine_keeps
    exact h_s
  clear_value v2
  extract_lets +onlyGivenNames v4
  clear_value v4
  split
  · rename_i x5 x6 x7
    apply lineGave_keeps
    exact h3
  · rename_i x8 x9
    split
    · rename_i x10 x11 x12
      have h13 : Keeps s₀ x11 := by
        refine KeepsO.at ?_ x12
        apply watchShare_keeps
        exact h3
      extract_lets +onlyGivenNames v14
      clear_value v14
      apply lineGave_keeps
      exact h13
    · rename_i x15 x16
      apply watchLoad_keeps
      exact h3

theorem execWatchedLineReadDone_keeps {s₀ : State} (f : Fin 1024) (a : BitVec 64) (data : Option (List Byte)) (s : State) (h_s : Keeps s₀ s) : Ends (execWatchedLineReadDone f a data s) (Keeps s₀) := by
  unfold execWatchedLineReadDone
  extract_lets +onlyGivenNames v1
  clear_value v1
  extract_lets +onlyGivenNames v2
  clear_value v2
  split
  · rename_i x3 x4
    refine Ends.next ?_
    exact h_s
  · rename_i x5 x6 x7
    refine ite_of (fun o => Ends o (Keeps s₀)) ?_ ?_
    · refine Ends.next ?_
      exact h_s
    · split
      · rename_i x8 x9 x10
        have h11 : Keeps s₀ x9 := by
          refine Keeps.ofPair ?_ x10
          apply xlate_keeps
          exact h_s
        refine Ends.next ?_
        exact h11
      · rename_i x12 x13 x14
        have h15 : Keeps s₀ x13 := by
          refine Keeps.ofPair ?_ x14
          apply xlate_keeps
          exact h_s
        refine Ends.next ?_
        apply lineGave_keeps
        exact h15
      · rename_i x16 x17 x18 x19
        have h20 : Keeps s₀ x18 := by
          refine Keeps.ofPair ?_ x19
          apply xlate_keeps
          exact h_s
        split
        · rename_i x21 x22 x23
          refine Ends.next ?_
          apply readPoolLine_keeps
          exact h20
        · rename_i x24 x25
          refine Ends.next ?_
          apply lineGave_keeps
          exact h20

theorem execWatchPollTimer_keeps {s₀ : State} (s : State) (h_s : Keeps s₀ s) : Ends (execWatchPollTimer s) (Keeps s₀) := by
  unfold execWatchPollTimer
  refine ite_of (fun o => Ends o (Keeps s₀)) ?_ ?_
  · refine Ends.next ?_
    exact h_s
  · refine Ends.next ?_
    refine Keeps.foldl ?_ ?_
    · exact h_s
    · intro y1 y2 y3
      apply lineCount_keeps
      apply mapLine_keeps
      exact y3

theorem execWqEntryArrive_keeps {s₀ : State} (g : Fin 65536) (data : Option (List Byte)) (s : State) (h_s : Keeps s₀ s) : Ends (execWqEntryArrive g data s) (Keeps s₀) := by
  unfold execWqEntryArrive
  split
  · rename_i x1 x2
    refine Ends.next ?_
    exact h_s
  · rename_i x3 x4 x5
    extract_lets +onlyGivenNames v6
    clear_value v6
    extract_lets +onlyGivenNames v7
    clear_value v7
    refine ite_of (fun o => Ends o (Keeps s₀)) ?_ ?_
    · refine Ends.next ?_
      exact h_s
    · split
      · rename_i x8 x9 x10
        have h11 : Keeps s₀ x9 := by
          refine Keeps.ofPair ?_ x10
          apply xlate_keeps
          exact h_s
        refine Ends.next ?_
        exact h11
      · rename_i x12 x13
        extract_lets +onlyGivenNames v14
        have h15 : Keeps s₀ v14 := by
          subst v14
          apply xlate_keeps
          exact h_s
        clear_value v14
        extract_lets +onlyGivenNames v16
        clear_value v16
        extract_lets +onlyGivenNames v17
        have h18 : Keeps s₀ v17 := by
          subst v17
          apply State.setWq_keeps
          exact h15
        clear_value v17
        extract_lets +onlyGivenNames v19
        have h20 : Keeps s₀ v19 := by
          subst v19
          apply trailStart_keeps
          exact h18
        clear_value v19
        extract_lets +onlyGivenNames v21
        clear_value v21
        extract_lets +onlyGivenNames v22
        have h23 : Keeps s₀ v22 := by
          subst v22
          refine ite_of (Keeps s₀) ?_ ?_
          · refine Keeps.upd ?_ rfl
            exact h20
          · exact h20
        clear_value v22
        refine Ends.next ?_
        apply pfSync_keeps
        apply State.wri_keeps
        exact h23

theorem execFragTableReadDone_keeps {s₀ : State} (g : Fin 65536) (data : Option (List Byte)) (s : State) (h_s : Keeps s₀ s) : Ends (execFragTableReadDone g data s) (Keeps s₀) := by
  unfold execFragTableReadDone
  split
  · rename_i x1 x2
    refine Ends.next ?_
    exact h_s
  · rename_i x3 x4 x5
    split
    · rename_i x6 x7
      refine Ends.next ?_
      exact h_s
    · rename_i x8 x9 x10 x11
      split
      · rename_i x12 x13 x14 x15 x16
        refine ite_of (fun o => Ends o (Keeps s₀)) ?_ ?_
        · refine Ends.next ?_
          exact h_s
        · extract_lets +onlyGivenNames v17
          clear_value v17
          extract_lets +onlyGivenNames v18
          clear_value v18
          extract_lets +onlyGivenNames v19
          clear_value v19
          extract_lets +onlyGivenNames v20
          have h21 : ∀ (t : State) (l : Option (List Frag)), Keeps s₀ t → Keeps s₀ (v20 t l) := by
            subst v20
            intro y22 y23 y24
            dsimp -zeta only
            apply State.setWq_keeps
            exact y24
          clear_value v20
          refine ite_of (fun o => Ends o (Keeps s₀)) ?_ ?_
          · refine Ends.next ?_
            apply h21
            exact h_s
          · split
            · rename_i x25 x26 x27
              have h28 : Keeps s₀ x26 := by
                refine Keeps.ofPair ?_ x27
                apply keyCheck_keeps
                exact h_s
              refine Ends.next ?_
              exact h28
            · rename_i x29 x30 x31
              have h32 : Keeps s₀ x30 := by
                refine Keeps.ofPair ?_ x31
                apply keyCheck_keeps
                exact h_s
              refine Ends.next ?_
              apply h21
              exact h32
            · rename_i x33 x34 x35 x36
              have h37 : Keeps s₀ x35 := by
                refine Keeps.ofPair ?_ x36
                apply keyCheck_keeps
                exact h_s
              split
              · rename_i x38 x39 x40
                have h41 : Keeps s₀ x39 := by
                  refine Keeps.ofPair ?_ x40
                  apply xlate_keeps
                  exact h37
                refine Ends.next ?_
                exact h41
              · rename_i x42 x43 x44
                have h45 : Keeps s₀ x43 := by
                  refine Keeps.ofPair ?_ x44
                  apply xlate_keeps
                  exact h37
                refine Ends.next ?_
                apply h21
                exact h45
              · rename_i x46 x47 x48 x49
                have h50 : Keeps s₀ x48 := by
                  refine Keeps.ofPair ?_ x49
                  apply xlate_keeps
                  exact h37
                refine ite_of (fun o => Ends o (Keeps s₀)) ?_ ?_
                · refine Ends.next ?_
                  apply h21
                  exact h50
                · refine Ends.next ?_
                  apply h21
                  exact h50
      · rename_i x51 x52 x53
        refine Ends.next ?_
        exact h_s

theorem execWqEntryTake_keeps {s₀ : State} (e : Fin 16) (s : State) (h_s : Keeps s₀ s) : Ends (execWqEntryTake e s) (Keeps s₀) := by
  unfold execWqEntryTake
  refine ite_of (fun o => Ends o (Keeps s₀)) ?_ ?_
  · refine Ends.next ?_
    exact h_s
  · refine Ends.next ?_
    apply tpEnd_keeps
    apply takeAt_keeps
    exact h_s

theorem cqFire_keeps {s₀ : State} (s : State) (g : Nat) (h_s : Keeps s₀ s) : Keeps s₀ (cqFire s g) := by
  unfold cqFire
  split
  · rename_i x1 x2
    exact h_s
  · rename_i x3 x4 x5
    refine ite_of (Keeps s₀) ?_ ?_
    · apply sendMsix_keeps
      apply State.setCq_keeps
      exact h_s
    · exact h_s

theorem writeIndex_keeps {s₀ : State} (s : State) (f : Nat) (addr : Nat) (v : Nat) (h_s : Keeps s₀ s) : Keeps s₀ (writeIndex s f addr v).snd := by
  unfold writeIndex
  refine ite_of (fun (p : _ × State) => Keeps s₀ p.2) ?_ ?_
  · exact h_s
  · split
    · rename_i x1 x2 x3 x4
      have h5 : Keeps s₀ x3 := by
        refine Keeps.ofPair ?_ x4
        apply xlate_keeps
        exact h_s
      refine Keeps.mkPair ?_
      apply scatter_keeps
      exact h5
    · rename_i x6 x7
      apply xlate_keeps
      exact h_s

theorem wbFault_keeps {s₀ : State} (s : State) (f : Nat) (i : Nat) (cq : Bool) (h_s : Keeps s₀ s) : Keeps s₀ (wbFault s f i cq) := by
  unfold wbFault
  apply raiseEvent_keeps
  exact h_s

theorem rqWriteback_keeps {s₀ : State} (s : State) (d : Nat) (h_s : Keeps s₀ s) : Keeps s₀ (rqWriteback s d) := by
  unfold rqWriteback
  split
  · rename_i x1 x2
    exact h_s
  · rename_i x3 x4 x5 x6
    extract_lets +onlyGivenNames v7
    clear_value v7
    extract_lets +onlyGivenNames v8
    clear_value v8
    refine ite_of (Keeps s₀) ?_ ?_
    · exact h_s
    · split
      · rename_i x9 x10 x11
        have h12 : Keeps s₀ x10 := by
          refine Keeps.ofPair ?_ x11
          apply writeIndex_keeps
          exact h_s
        exact h12
      · rename_i x13 x14 x15 x16
        have h17 : Keeps s₀ x15 := by
          refine Keeps.ofPair ?_ x16
          apply writeIndex_keeps
          exact h_s
        apply State.setDom_keeps
        exact h17
      · rename_i x18 x19 x20
        have h21 : Keeps s₀ x19 := by
          refine Keeps.ofPair ?_ x20
          apply writeIndex_keeps
          exact h_s
        apply wbFault_keeps
        apply State.setDom_keeps
        exact h21

theorem execIndexWriteback_keeps {s₀ : State} (q : IdxOf) (s : State) (h_s : Keeps s₀ s) : Ends (execIndexWriteback q s) (Keeps s₀) := by
  unfold execIndexWriteback
  split
  · rename_i x1 x2
    split
    · rename_i x3 x4
      refine Ends.next ?_
      exact h_s
    · rename_i x5 x6 x7
      extract_lets +onlyGivenNames v8
      clear_value v8
      refine ite_of (fun o => Ends o (Keeps s₀)) ?_ ?_
      · refine Ends.next ?_
        exact h_s
      · split
        · rename_i x9 x10 x11
          have h12 : Keeps s₀ x10 := by
            refine Keeps.ofPair ?_ x11
            apply writeIndex_keeps
            exact h_s
          refine Ends.next ?_
          exact h12
        · rename_i x13 x14 x15 x16
          have h17 : Keeps s₀ x15 := by
            refine Keeps.ofPair ?_ x16
            apply writeIndex_keeps
            exact h_s
          refine Ends.next ?_
          apply State.setWq_keeps
          exact h17
        · rename_i x18 x19 x20
          have h21 : Keeps s₀ x19 := by
            refine Keeps.ofPair ?_ x20
            apply writeIndex_keeps
            exact h_s
          refine Ends.next ?_
          apply wbFault_keeps
          apply State.setWq_keeps
          exact h21
  · rename_i x22 x23
    split
    · rename_i x24 x25
      refine Ends.next ?_
      exact h_s
    · rename_i x26 x27 x28
      extract_lets +onlyGivenNames v29
      clear_value v29
      refine ite_of (fun o => Ends o (Keeps s₀)) ?_ ?_
      · refine Ends.next ?_
        exact h_s
      · split
        · rename_i x30 x31 x32
          have h33 : Keeps s₀ x31 := by
            refine Keeps.ofPair ?_ x32
            apply writeIndex_keeps
            exact h_s
          refine Ends.next ?_
          exact h33
        · rename_i x34 x35 x36 x37
          have h38 : Keeps s₀ x36 := by
            refine Keeps.ofPair ?_ x37
            apply writeIndex_keeps
            exact h_s
          refine Ends.next ?_
          apply cqFire_keeps
          apply State.setCq_keeps
          exact h38
        · rename_i x39 x40 x41
          have h42 : Keeps s₀ x40 := by
            refine Keeps.ofPair ?_ x41
            apply writeIndex_keeps
            exact h_s
          refine Ends.next ?_
          apply wbFault_keeps
          apply State.setCq_keeps
          exact h42
  · rename_i x43 x44
    refine Ends.next ?_
    apply rqWriteback_keeps
    exact h_s

theorem execCqCiWrite_keeps {s₀ : State} (f : Fin 1024) (i : Fin 4096) (v : BitVec 32) (s : State) (h_s : Keeps s₀ s) : Ends (execCqCiWrite f i v s) (Keeps s₀) := by
  unfold execCqCiWrite
  refine ite_of (fun o => Ends o (Keeps s₀)) ?_ ?_
  · refine Ends.next ?_
    exact h_s
  · refine ite_of (fun o => Ends o (Keeps s₀)) ?_ ?_
    · refine Ends.next ?_
      exact h_s
    · split
      · rename_i x1 x2
        refine Ends.next ?_
        exact h_s
      · rename_i x3 x4 x5
        refine ite_of (fun o => Ends o (Keeps s₀)) ?_ ?_
        · refine Ends.next ?_
          apply State.wri_keeps
          exact h_s
        · refine Ends.next ?_
          apply badIndex_keeps
          exact h_s

theorem execCqArm_keeps {s₀ : State} (f : Fin 1024) (i : Fin 4096) (s : State) (h_s : Keeps s₀ s) : Ends (execCqArm f i s) (Keeps s₀) := by
  unfold execCqArm
  refine ite_of (fun o => Ends o (Keeps s₀)) ?_ ?_
  · refine Ends.next ?_
    exact h_s
  · refine ite_of (fun o => Ends o (Keeps s₀)) ?_ ?_
    · refine Ends.next ?_
      exact h_s
    · split
      · rename_i x1 x2
        refine Ends.next ?_
        exact h_s
      · rename_i x3 x4 x5
        extract_lets +onlyGivenNames v6
        clear_value v6
        refine Ends.next ?_
        apply cqFire_keeps
        apply State.setCq_keeps
        exact h_s

theorem execEqArm_keeps {s₀ : State} (f : Fin 1024) (s : State) (h_s : Keeps s₀ s) : Ends (execEqArm f s) (Keeps s₀) := by
  unfold execEqArm
  refine ite_of (fun o => Ends o (Keeps s₀)) ?_ ?_
  · refine Ends.next ?_
    exact h_s
  · refine ite_of (fun o => Ends o (Keeps s₀)) ?_ ?_
    · refine Ends.next ?_
      apply eqFire_keeps
      apply State.setFn_keeps
      exact h_s
    · refine Ends.next ?_
      exact h_s

theorem execEqCiWrite_keeps {s₀ : State} (f : Fin 1024) (v : BitVec 32) (s : State) (h_s : Keeps s₀ s) : Ends (execEqCiWrite f v s) (Keeps s₀) := by
  unfold execEqCiWrite
  refine ite_of (fun o => Ends o (Keeps s₀)) ?_ ?_
  · refine Ends.next ?_
    exact h_s
  · extract_lets +onlyGivenNames v1
    clear_value v1
    refine ite_of (fun o => Ends o (Keeps s₀)) ?_ ?_
    · refine Ends.next ?_
      exact h_s
    · refine ite_of (fun o => Ends o (Keeps s₀)) ?_ ?_
      · refine Ends.next ?_
        apply State.wr_keeps
        exact h_s
      · refine Ends.next ?_
        apply badIndex_keeps
        exact h_s

theorem closeOwned_keeps {s₀ : State} (s : State) (f : Nat) (h_s : Keeps s₀ s) : Keeps s₀ (closeOwned s f) := by
  unfold closeOwned
  refine Keeps.foldl ?_ ?_
  · exact h_s
  · intro y1 y2 y3
    split
    · rename_i x4 x5 x6
      refine ite_of (Keeps s₀) ?_ ?_
      · apply closeNow_keeps
        exact y3
      · exact y3
    · rename_i x7 x8
      exact y3

theorem closeStored_keeps {s₀ : State} (s : State) (f : Nat) (ch : Nat) (h_s : Keeps s₀ s) : Keeps s₀ (closeStored s f ch) := by
  unfold closeStored
  extract_lets +onlyGivenNames v1
  clear_value v1
  refine ite_of (Keeps s₀) ?_ ?_
  · exact h_s
  · refine ite_of (Keeps s₀) ?_ ?_
    · apply raiseEvent_keeps
      apply State.setEvt_keeps
      apply State.bump_keeps
      exact h_s
    · extract_lets +onlyGivenNames v2
      clear_value v2
      extract_lets +onlyGivenNames v3
      clear_value v3
      refine ite_of (Keeps s₀) ?_ ?_
      · apply directWrite_keeps
        exact h_s
      · exact h_s

theorem scanStore_keeps {s₀ : State} (s : State) (f : Nat) (c : Nat) (h_s : Keeps s₀ s) : Keeps s₀ (scanStore s f c) := by
  unfold scanStore
  refine ite_of (Keeps s₀) ?_ ?_
  · exact h_s
  · refine ite_of (Keeps s₀) ?_ ?_
    · apply scanStep_keeps
      exact h_s
    · refine Keeps.foldl ?_ ?_
      · exact h_s
      · intro y1 y2 y3
        apply closeStored_keeps
        exact y3

theorem dropDomain_keeps {s₀ : State} (s : State) (f : Nat) (j : Nat) (d : Nat) (h_s : Keeps s₀ s) : Keeps s₀ (dropDomain s f j d) := by
  unfold dropDomain
  extract_lets +onlyGivenNames v1
  have h2 : Keeps s₀ v1 := by
    subst v1
    apply loseMsgs_keeps
    exact h_s
  clear_value v1
  extract_lets +onlyGivenNames v3
  have h4 : Keeps s₀ v3 := by
    subst v3
    apply State.setDom_keeps
    exact h2
  clear_value v3
  refine Keeps.upd ?_ rfl
  exact h4

theorem dropQueues_keeps {s₀ : State} (s : State) (f : Nat) (h_s : Keeps s₀ s) : Keeps s₀ (dropQueues s f) := by
  unfold dropQueues
  extract_lets +onlyGivenNames v1
  clear_value v1
  extract_lets +onlyGivenNames v2
  clear_value v2
  extract_lets +onlyGivenNames v3
  have h4 : Keeps s₀ v3 := by
    subst v3
    refine Keeps.foldl ?_ ?_
    · exact h_s
    · intro y5 y6 y7
      apply dropDomain_keeps
      exact y7
  clear_value v3
  extract_lets +onlyGivenNames v8
  clear_value v8
  extract_lets +onlyGivenNames v9
  clear_value v9
  refine Keeps.upd ?_ rfl
  exact h4

theorem releaseLines_keeps {s₀ : State} (s : State) (f : Nat) (h_s : Keeps s₀ s) : Keeps s₀ (releaseLines s f) := by
  unfold releaseLines
  refine Keeps.foldl ?_ ?_
  · exact h_s
  · intro y1 y2 y3
    split
    · rename_i x4 x5
      exact y3
    · rename_i x6 x7 x8
      refine ite_of (Keeps s₀) ?_ ?_
      · exact y3
      · apply localOp_keeps
        exact y3

theorem queueReset_keeps {s₀ : State} (s : State) (f : Nat) (h_s : Keeps s₀ s) : Keeps s₀ (queueReset s f) := by
  unfold queueReset
  extract_lets +onlyGivenNames v1
  clear_value v1
  extract_lets +onlyGivenNames v2
  have h3 : Keeps s₀ v2 := by
    subst v2
    apply trailEndAll_keeps
    apply State.setFn_keeps
    exact h_s
  clear_value v2
  extract_lets +onlyGivenNames v4
  clear_value v4
  extract_lets +onlyGivenNames v5
  clear_value v5
  extract_lets +onlyGivenNames v6
  clear_value v6
  extract_lets +onlyGivenNames v7
  have h8 : Keeps s₀ v7 := by
    subst v7
    apply closeOwned_keeps
    refine Keeps.upd ?_ rfl
    exact h3
  clear_value v7
  extract_lets +onlyGivenNames v9
  have h10 : Keeps s₀ v9 := by
    subst v9
    refine Keeps.foldl ?_ ?_
    · exact h8
    · intro y11 y12 y13
      apply scanStore_keeps
      exact y13
  clear_value v9
  extract_lets +onlyGivenNames v14
  have h15 : Keeps s₀ v14 := by
    subst v14
    apply collFnReset_keeps
    exact h10
  clear_value v14
  extract_lets +onlyGivenNames v16
  have h17 : Keeps s₀ v16 := by
    subst v16
    apply freeKeys_keeps
    apply dropQueues_keeps
    apply releaseLines_keeps
    exact h15
  clear_value v16
  extract_lets +onlyGivenNames v18
  clear_value v18
  extract_lets +onlyGivenNames v19
  have h20 : Keeps s₀ v19 := by
    subst v19
    refine Keeps.upd ?_ rfl
    exact h17
  clear_value v19
  extract_lets +onlyGivenNames v21
  clear_value v21
  extract_lets +onlyGivenNames v22
  have h23 : Keeps s₀ v22 := by
    subst v22
    apply State.setFn_keeps
    exact h20
  clear_value v22
  apply tpSyncAll_keeps
  apply fnShow_keeps
  refine Keeps.foldl ?_ ?_
  · exact h23
  · intro y24 y25 y26
    apply pfSync_keeps
    exact y26

theorem execQueueReset_keeps {s₀ : State} (f : Fin 1024) (s : State) (h_s : Keeps s₀ s) : Ends (execQueueReset f s) (Keeps s₀) := by
  unfold execQueueReset
  refine ite_of (fun o => Ends o (Keeps s₀)) ?_ ?_
  · refine Ends.next ?_
    exact h_s
  · refine Ends.next ?_
    apply queueReset_keeps
    exact h_s

theorem execQueueResetDone_keeps {s₀ : State} (f : Fin 1024) (s : State) (h_s : Keeps s₀ s) : Ends (execQueueResetDone f s) (Keeps s₀) := by
  unfold execQueueResetDone
  refine Ends.next ?_
  refine ite_of (Keeps s₀) ?_ ?_
  · apply fnShow_keeps
    apply State.setFn_keeps
    exact h_s
  · exact h_s

theorem setFnValid_keeps {s₀ : State} (s : State) (f : Nat) (v : Bool) (h_s : Keeps s₀ s) : Keeps s₀ (setFnValid s f v) := by
  unfold setFnValid
  extract_lets +onlyGivenNames v1
  clear_value v1
  refine ite_of (Keeps s₀) ?_ ?_
  · refine ite_of (Keeps s₀) ?_ ?_
    · apply fnShow_keeps
      apply State.wri_keeps
      exact h_s
    · apply configError_keeps
      exact h_s
  · refine ite_of (Keeps s₀) ?_ ?_
    · extract_lets +onlyGivenNames v2
      have h3 : Keeps s₀ v2 := by
        subst v2
        apply queueReset_keeps
        exact h_s
      clear_value v2
      apply fnShow_keeps
      apply State.wri_keeps
      exact h3
    · exact h_s

theorem execFnValidWrite_keeps {s₀ : State} (r : Route) (f : Fin 1024) (v : Bool) (s : State) (h_s : Keeps s₀ s) : Ends (execFnValidWrite r f v s) (Keeps s₀) := by
  unfold execFnValidWrite
  refine Ends.next ?_
  apply guarded_keeps
  · exact h_s
  · intro y1 y2
    apply setFnValid_keeps
    exact y2

theorem qDone_keeps {s₀ : State} (s : State) (f : Nat) (result : Nat) (h_s : Keeps s₀ s) : Keeps s₀ (qDone s f result) := by
  unfold qDone
  apply State.wr_keeps
  apply State.wr_keeps
  apply State.setFn_keeps
  exact h_s

theorem qWait_keeps {s₀ : State} (s : State) (f : Nat) (op : Nat) (h_s : Keeps s₀ s) : Keeps s₀ (qWait s f op) := by
  unfold qWait
  apply State.wr_keeps
  apply State.setFn_keeps
  exact h_s

theorem putWq_keeps {s₀ : State} (s : State) (g : Nat) (q : WqSt) (h_s : Keeps s₀ s) : Keeps s₀ (putWq s g q) := by
  unfold putWq
  extract_lets +onlyGivenNames v1
  have h2 : Keeps s₀ v1 := by
    subst v1
    apply State.setWq_keeps
    exact h_s
  clear_value v1
  extract_lets +onlyGivenNames v3
  have h4 : Keeps s₀ v3 := by
    subst v3
    apply State.wri_keeps
    apply State.wri_keeps
    exact h2
  clear_value v3
  refine ite_of (Keeps s₀) ?_ ?_
  · exact h4
  · extract_lets +onlyGivenNames v5
    clear_value v5
    refine Keeps.upd ?_ rfl
    exact h4

theorem wqCreateRun_keeps {s₀ : State} (s : State) (f : Nat) (i : Nat) (h_s : Keeps s₀ s) : Keeps s₀ (wqCreateRun s f i) := by
  unfold wqCreateRun
  extract_lets +onlyGivenNames v1
  clear_value v1
  refine ite_of (Keeps s₀) ?_ ?_
  · apply qDone_keeps
    exact h_s
  · split
    · rename_i x2 x3 x4
      have h5 : Keeps s₀ x3 := by
        refine Keeps.ofPair ?_ x4
        apply xlate_keeps
        exact h_s
      apply qWait_keeps
      exact h5
    · rename_i x6 x7 x8
      have h9 : Keeps s₀ x7 := by
        refine Keeps.ofPair ?_ x8
        apply xlate_keeps
        exact h_s
      apply qDone_keeps
      exact h9
    · rename_i x10 x11 x12 x13
      have h14 : Keeps s₀ x12 := by
        refine Keeps.ofPair ?_ x13
        apply xlate_keeps
        exact h_s
      refine ite_of (Keeps s₀) ?_ ?_
      · apply qDone_keeps
        apply putWq_keeps
        exact h14
      · split
        · rename_i x15 x16 x17
          have h18 : Keeps s₀ x16 := by
            refine Keeps.ofPair ?_ x17
            apply xlate_keeps
            exact h14
          apply qWait_keeps
          exact h18
        · rename_i x19 x20 x21
          have h22 : Keeps s₀ x20 := by
            refine Keeps.ofPair ?_ x21
            apply xlate_keeps
            exact h14
          apply qDone_keeps
          exact h22
        · rename_i x23 x24 x25 x26
          have h27 : Keeps s₀ x25 := by
            refine Keeps.ofPair ?_ x26
            apply xlate_keeps
            exact h14
          extract_lets +onlyGivenNames v28
          clear_value v28
          refine ite_of (Keeps s₀) ?_ ?_
          · apply qDone_keeps
            exact h27
          · refine ite_of (Keeps s₀) ?_ ?_
            · apply qDone_keeps
              exact h27
            · apply qDone_keeps
              apply putWq_keeps
              exact h27

theorem cqCreateRun_keeps {s₀ : State} (s : State) (f : Nat) (i : Nat) (h_s : Keeps s₀ s) : Keeps s₀ (cqCreateRun s f i) := by
  unfold cqCreateRun
  extract_lets +onlyGivenNames v1
  clear_value v1
  extract_lets +onlyGivenNames v2
  clear_value v2
  extract_lets +onlyGivenNames v3
  clear_value v3
  refine ite_of (Keeps s₀) ?_ ?_
  · apply qDone_keeps
    exact h_s
  · split
    · rename_i x4 x5 x6
      have h7 : Keeps s₀ x5 := by
        refine Keeps.ofPair ?_ x6
        apply xlate_keeps
        exact h_s
      apply qWait_keeps
      exact h7
    · rename_i x8 x9 x10
      have h11 : Keeps s₀ x9 := by
        refine Keeps.ofPair ?_ x10
        apply xlate_keeps
        exact h_s
      apply qDone_keeps
      exact h11
    · rename_i x12 x13 x14 x15
      have h16 : Keeps s₀ x14 := by
        refine Keeps.ofPair ?_ x15
        apply xlate_keeps
        exact h_s
      apply qDone_keeps
      apply State.wri_keeps
      apply State.wri_keeps
      apply State.setCq_keeps
      exact h16

theorem wqModifyRun_keeps {s₀ : State} (s : State) (f : Nat) (i : Nat) (q : WqSt) (h_s : Keeps s₀ s) : Keeps s₀ (wqModifyRun s f i q) := by
  unfold wqModifyRun
  extract_lets +onlyGivenNames v1
  clear_value v1
  refine ite_of (Keeps s₀) ?_ ?_
  · apply qDone_keeps
    exact h_s
  · apply qDone_keeps
    apply State.setWq_keeps
    exact h_s

theorem qRun_keeps {s₀ : State} (s : State) (f : Nat) (op : Nat) (h_s : Keeps s₀ s) : Keeps s₀ (qRun s f op) := by
  unfold qRun
  extract_lets +onlyGivenNames v1
  clear_value v1
  refine ite_of (Keeps s₀) ?_ ?_
  · refine ite_of (Keeps s₀) ?_ ?_
    · apply qDone_keeps
      exact h_s
    · split
      · rename_i x2 x3
        refine ite_of (Keeps s₀) ?_ ?_
        · apply wqCreateRun_keeps
          exact h_s
        · apply qDone_keeps
          exact h_s
      · rename_i x4 x5 x6
        refine ite_of (Keeps s₀) ?_ ?_
        · apply qDone_keeps
          exact h_s
        · refine ite_of (Keeps s₀) ?_ ?_
          · apply wqModifyRun_keeps
            exact h_s
          · apply qDone_keeps
            apply putImage_keeps
            exact h_s
  · refine ite_of (Keeps s₀) ?_ ?_
    · apply qDone_keeps
      exact h_s
    · split
      · rename_i x7 x8
        refine ite_of (Keeps s₀) ?_ ?_
        · apply cqCreateRun_keeps
          exact h_s
        · apply qDone_keeps
          exact h_s
      · rename_i x9 x10 x11
        refine ite_of (Keeps s₀) ?_ ?_
        · apply qDone_keeps
          exact h_s
        · apply qDone_keeps
          apply putImage_keeps
          exact h_s

theorem fnChanRun_keeps {s₀ : State} (s : State) (f : Nat) (op : Nat) (h_s : Keeps s₀ s) : Keeps s₀ (fnChanRun s f op) := by
  unfold fnChanRun
  extract_lets +onlyGivenNames v1
  clear_value v1
  extract_lets +onlyGivenNames v2
  clear_value v2
  refine ite_of (Keeps s₀) ?_ ?_
  · apply State.wr_keeps
    apply State.wr_keeps
    exact h_s
  · apply tpEnd_keeps
    apply startCmd_keeps
    exact h_s

theorem fnCmd_keeps {s₀ : State} (s : State) (f : Nat) (op : Nat) (h_s : Keeps s₀ s) : Keeps s₀ (fnCmd s f op) := by
  unfold fnCmd
  refine ite_of (Keeps s₀) ?_ ?_
  · exact h_s
  · extract_lets +onlyGivenNames v1
    have h2 : Keeps s₀ v1 := by
      subst v1
      apply State.wr_keeps
      apply State.wr_keeps
      exact h_s
    clear_value v1
    refine ite_of (Keeps s₀) ?_ ?_
    · apply fnChanRun_keeps
      exact h2
    · apply qRun_keeps
      exact h2

theorem resumeFns_keeps {s₀ : State} (s : State) (h_s : Keeps s₀ s) : Keeps s₀ (resumeFns s) := by
  unfold resumeFns
  refine Keeps.foldl ?_ ?_
  · exact h_s
  · intro y1 y2 y3
    split
    · rename_i x4 x5 x6
      apply qRun_keeps
      exact y3
    · rename_i x7 x8
      exact y3

theorem execWqCreate_keeps {s₀ : State} (f : Fin 1024) (s : State) (h_s : Keeps s₀ s) : Ends (execWqCreate f s) (Keeps s₀) := by
  unfold execWqCreate
  refine ite_of (fun o => Ends o (Keeps s₀)) ?_ ?_
  · refine Ends.next ?_
    exact h_s
  · refine Ends.next ?_
    apply fnCmd_keeps
    exact h_s

theorem execWqModify_keeps {s₀ : State} (f : Fin 1024) (s : State) (h_s : Keeps s₀ s) : Ends (execWqModify f s) (Keeps s₀) := by
  unfold execWqModify
  refine ite_of (fun o => Ends o (Keeps s₀)) ?_ ?_
  · refine Ends.next ?_
    exact h_s
  · refine Ends.next ?_
    apply fnCmd_keeps
    exact h_s

theorem execCqCreate_keeps {s₀ : State} (f : Fin 1024) (s : State) (h_s : Keeps s₀ s) : Ends (execCqCreate f s) (Keeps s₀) := by
  unfold execCqCreate
  refine ite_of (fun o => Ends o (Keeps s₀)) ?_ ?_
  · refine Ends.next ?_
    exact h_s
  · refine Ends.next ?_
    apply fnCmd_keeps
    exact h_s

theorem execWqQuery_keeps {s₀ : State} (f : Fin 1024) (s : State) (h_s : Keeps s₀ s) : Ends (execWqQuery f s) (Keeps s₀) := by
  unfold execWqQuery
  refine ite_of (fun o => Ends o (Keeps s₀)) ?_ ?_
  · refine Ends.next ?_
    exact h_s
  · refine Ends.next ?_
    apply fnCmd_keeps
    exact h_s

theorem execCqQuery_keeps {s₀ : State} (f : Fin 1024) (s : State) (h_s : Keeps s₀ s) : Ends (execCqQuery f s) (Keeps s₀) := by
  unfold execCqQuery
  refine ite_of (fun o => Ends o (Keeps s₀)) ?_ ?_
  · refine Ends.next ?_
    exact h_s
  · refine Ends.next ?_
    apply fnCmd_keeps
    exact h_s

theorem execChOpen_keeps {s₀ : State} (f : Fin 1024) (s : State) (h_s : Keeps s₀ s) : Ends (execChOpen f s) (Keeps s₀) := by
  unfold execChOpen
  refine ite_of (fun o => Ends o (Keeps s₀)) ?_ ?_
  · refine Ends.next ?_
    exact h_s
  · refine Ends.next ?_
    apply fnCmd_keeps
    exact h_s

theorem execChModify_keeps {s₀ : State} (f : Fin 1024) (s : State) (h_s : Keeps s₀ s) : Ends (execChModify f s) (Keeps s₀) := by
  unfold execChModify
  refine ite_of (fun o => Ends o (Keeps s₀)) ?_ ?_
  · refine Ends.next ?_
    exact h_s
  · refine Ends.next ?_
    apply fnCmd_keeps
    exact h_s

theorem execChClose_keeps {s₀ : State} (f : Fin 1024) (s : State) (h_s : Keeps s₀ s) : Ends (execChClose f s) (Keeps s₀) := by
  unfold execChClose
  refine ite_of (fun o => Ends o (Keeps s₀)) ?_ ?_
  · refine Ends.next ?_
    exact h_s
  · refine Ends.next ?_
    apply fnCmd_keeps
    exact h_s

theorem execChCloseForce_keeps {s₀ : State} (f : Fin 1024) (s : State) (h_s : Keeps s₀ s) : Ends (execChCloseForce f s) (Keeps s₀) := by
  unfold execChCloseForce
  refine ite_of (fun o => Ends o (Keeps s₀)) ?_ ?_
  · refine Ends.next ?_
    exact h_s
  · refine Ends.next ?_
    apply fnCmd_keeps
    exact h_s

theorem execChQuery_keeps {s₀ : State} (f : Fin 1024) (s : State) (h_s : Keeps s₀ s) : Ends (execChQuery f s) (Keeps s₀) := by
  unfold execChQuery
  refine ite_of (fun o => Ends o (Keeps s₀)) ?_ ?_
  · refine Ends.next ?_
    exact h_s
  · refine Ends.next ?_
    apply fnCmd_keeps
    exact h_s

theorem execEngineCntClr_keeps {s₀ : State} (r : Route) (e : Fin 16) (s : State) (h_s : Keeps s₀ s) : Ends (execEngineCntClr r e s) (Keeps s₀) := by
  unfold execEngineCntClr
  refine Ends.next ?_
  apply guarded_keeps
  · exact h_s
  · intro y1 y2
    apply State.clearAll_keeps
    exact y2


/-! ### Machine/Matching.lean -/

theorem endRecv_keeps {s₀ : State} (s : State) (d : Nat) (kind : Nat) (status : Nat) (index : Nat) (msgLen : Nat) (h_s : Keeps s₀ s) : Keeps s₀ (endRecv s d kind status index msgLen) := by
  unfold endRecv
  apply completeRecv_keeps
  exact h_s

theorem execRqDoorbell_keeps {s₀ : State} (f : Fin 1024) (j : Fin 256) (v : BitVec 32) (s : State) (h_s : Keeps s₀ s) : Ends (execRqDoorbell f j v s) (Keeps s₀) := by
  unfold execRqDoorbell
  refine ite_of (fun o => Ends o (Keeps s₀)) ?_ ?_
  · refine Ends.next ?_
    exact h_s
  · extract_lets +onlyGivenNames v1
    clear_value v1
    extract_lets +onlyGivenNames v2
    clear_value v2
    refine ite_of (fun o => Ends o (Keeps s₀)) ?_ ?_
    · refine Ends.next ?_
      exact h_s
    · refine ite_of (fun o => Ends o (Keeps s₀)) ?_ ?_
      · refine Ends.next ?_
        apply State.wri_keeps
        exact h_s
      · refine Ends.next ?_
        apply badIndex_keeps
        exact h_s

theorem takeSlot_keeps {s₀ : State} (s : State) (f : Nat) (j : Nat) (index : Nat) (h_s : Keeps s₀ s) : Keeps s₀ (takeSlot s f j index) := by
  unfold takeSlot
  apply cqReserve_keeps
  apply State.wri_keeps
  exact h_s

theorem bindPost_keeps {s₀ : State} (s : State) (d : Nat) (p : PostEnt) (u : UxEnt) (h_s : Keeps s₀ s) : Keeps s₀ (bindPost s d p u) := by
  unfold bindPost
  extract_lets +onlyGivenNames v1
  clear_value v1
  extract_lets +onlyGivenNames v2
  clear_value v2
  extract_lets +onlyGivenNames v3
  have h4 : Keeps s₀ v3 := by
    subst v3
    apply State.setDom_keeps
    exact h_s
  clear_value v3
  extract_lets +onlyGivenNames v5
  have h6 : Keeps s₀ v5 := by
    subst v5
    apply cntCM_keeps
    apply State.bump_keeps
    exact h4
  clear_value v5
  refine ite_of (Keeps s₀) ?_ ?_
  · apply startRndv_keeps
    exact h6
  · exact h6

theorem takePost_keeps {s₀ : State} (s : State) (d : Nat) (f : Nat) (j : Nat) (i : Nat) (b : List Byte) (h_s : Keeps s₀ s) : Keeps s₀ (takePost s d f j i b) := by
  unfold takePost
  extract_lets +onlyGivenNames v1
  clear_value v1
  extract_lets +onlyGivenNames v2
  clear_value v2
  extract_lets +onlyGivenNames v3
  clear_value v3
  extract_lets +onlyGivenNames v4
  clear_value v4
  extract_lets +onlyGivenNames v5
  clear_value v5
  refine ite_of (Keeps s₀) ?_ ?_
  · refine ite_of (Keeps s₀) ?_ ?_
    · exact h_s
    · apply State.setEvt_keeps
      apply State.bump_keeps
      apply ovfFull_keeps
      exact h_s
  · refine ite_of (Keeps s₀) ?_ ?_
    · apply endRecv_keeps
      apply takeSlot_keeps
      exact h_s
    · split
      · rename_i x6 x7 x8
        have h9 : Keeps s₀ x7 := by
          refine Keeps.ofPair ?_ x8
          refine ite_of (fun (p : _ × State) => Keeps s₀ p.2) ?_ ?_
          · exact h_s
          · apply keyCheck_keeps
            exact h_s
        exact h9
      · rename_i x10 x11 x12
        have h13 : Keeps s₀ x11 := by
          refine Keeps.ofPair ?_ x12
          refine ite_of (fun (p : _ × State) => Keeps s₀ p.2) ?_ ?_
          · exact h_s
          · apply keyCheck_keeps
            exact h_s
        apply endRecv_keeps
        apply takeSlot_keeps
        exact h13
      · rename_i x14 x15 x16 x17
        have h18 : Keeps s₀ x16 := by
          refine Keeps.ofPair ?_ x17
          refine ite_of (fun (p : _ × State) => Keeps s₀ p.2) ?_ ?_
          · exact h_s
          · apply keyCheck_keeps
            exact h_s
        extract_lets +onlyGivenNames v19
        clear_value v19
        split
        · rename_i x20 x21
          split
          · rename_i x22 x23
            apply wantCtx_keeps
            exact h18
          · rename_i x24 x25
            apply bindPost_keeps
            apply countSearch_keeps
            apply takeSlot_keeps
            exact h18
          · rename_i x26 x27
            extract_lets +onlyGivenNames v28
            have h29 : Keeps s₀ v28 := by
              subst v28
              apply cntCM_keeps
              apply State.bump_keeps
              apply countSearch_keeps
              apply takeSlot_keeps
              exact h18
            clear_value v28
            extract_lets +onlyGivenNames v30
            clear_value v30
            extract_lets +onlyGivenNames v31
            have h32 : Keeps s₀ v31 := by
              subst v31
              apply State.setDom_keeps
              exact h29
            clear_value v31
            apply completeRecv_keeps
            exact h32
        · rename_i x33
          extract_lets +onlyGivenNames v34
          clear_value v34
          split
          · rename_i x35 x36 x37
            have h38 : Keeps s₀ x36 := by
              refine Keeps.ofPair ?_ x37
              refine ite_of (fun (p : _ × State) => Keeps s₀ p.2) ?_ ?_
              · exact h18
              · apply ovfWrite_keeps
                exact h18
            exact h38
          · rename_i x39 x40 x41
            have h42 : Keeps s₀ x40 := by
              refine Keeps.ofPair ?_ x41
              refine ite_of (fun (p : _ × State) => Keeps s₀ p.2) ?_ ?_
              · exact h18
              · apply ovfWrite_keeps
                exact h18
            apply domLost_keeps
            exact h42
          · rename_i x43 x44 x45 x46
            have h47 : Keeps s₀ x45 := by
              refine Keeps.ofPair ?_ x46
              refine ite_of (fun (p : _ × State) => Keeps s₀ p.2) ?_ ?_
              · exact h18
              · apply ovfWrite_keeps
                exact h18
            extract_lets +onlyGivenNames v48
            have h49 : Keeps s₀ v48 := by
              subst v48
              apply countSearch_keeps
              apply takeSlot_keeps
              exact h47
            clear_value v48
            extract_lets +onlyGivenNames v50
            clear_value v50
            extract_lets +onlyGivenNames v51
            have h52 : Keeps s₀ v51 := by
              subst v51
              apply State.setDom_keeps
              exact h49
            clear_value v51
            apply cntCM_keeps
            apply State.bump_keeps
            exact h52

theorem takeCancel_keeps {s₀ : State} (s : State) (d : Nat) (f : Nat) (j : Nat) (i : Nat) (b : List Byte) (h_s : Keeps s₀ s) : Keeps s₀ (takeCancel s d f j i b) := by
  unfold takeCancel
  extract_lets +onlyGivenNames v1
  have h2 : Keeps s₀ v1 := by
    subst v1
    apply takeSlot_keeps
    exact h_s
  clear_value v1
  extract_lets +onlyGivenNames v3
  clear_value v3
  split
  · rename_i x4 x5 x6
    extract_lets +onlyGivenNames v7
    have h8 : Keeps s₀ v7 := by
      subst v7
      apply completeRecv_keeps
      apply State.setDom_keeps
      exact h2
    clear_value v7
    apply endRecv_keeps
    exact h8
  · rename_i x9 x10
    apply endRecv_keeps
    exact h2

theorem execRecvEntryTake_keeps {s₀ : State} (d : Fin 4096) (data : Option (List Byte)) (s : State) (h_s : Keeps s₀ s) : Ends (execRecvEntryTake d data s) (Keeps s₀) := by
  unfold execRecvEntryTake
  refine ite_of (fun o => Ends o (Keeps s₀)) ?_ ?_
  · refine Ends.next ?_
    exact h_s
  · split
    · rename_i x1 x2
      refine Ends.next ?_
      exact h_s
    · rename_i x3 x4 x5 x6
      extract_lets +onlyGivenNames v7
      clear_value v7
      extract_lets +onlyGivenNames v8
      clear_value v8
      extract_lets +onlyGivenNames v9
      clear_value v9
      refine ite_of (fun o => Ends o (Keeps s₀)) ?_ ?_
      · refine Ends.next ?_
        exact h_s
      · split
        · rename_i x10 x11 x12
          have h13 : Keeps s₀ x11 := by
            refine Keeps.ofPair ?_ x12
            apply xlate_keeps
            exact h_s
          refine Ends.next ?_
          exact h13
        · rename_i x14 x15 x16
          have h17 : Keeps s₀ x15 := by
            refine Keeps.ofPair ?_ x16
            apply xlate_keeps
            exact h_s
          refine Ends.next ?_
          apply endRecv_keeps
          apply takeSlot_keeps
          exact h17
        · rename_i x18 x19 x20 x21
          have h22 : Keeps s₀ x20 := by
            refine Keeps.ofPair ?_ x21
            apply xlate_keeps
            exact h_s
          refine ite_of (fun o => Ends o (Keeps s₀)) ?_ ?_
          · refine Ends.next ?_
            apply endRecv_keeps
            apply takeSlot_keeps
            exact h22
          · extract_lets +onlyGivenNames v23
            clear_value v23
            refine ite_of (fun o => Ends o (Keeps s₀)) ?_ ?_
            · refine Ends.next ?_
              apply tpSyncAll_keeps
              apply payFins_keeps
              apply takePost_keeps
              exact h22
            · refine ite_of (fun o => Ends o (Keeps s₀)) ?_ ?_
              · refine Ends.next ?_
                refine ite_of (Keeps s₀) ?_ ?_
                · apply endRecv_keeps
                  apply takeSlot_keeps
                  exact h22
                · apply takeCancel_keeps
                  exact h22
              · refine Ends.next ?_
                apply endRecv_keeps
                apply takeSlot_keeps
                exact h22

theorem execOverflowMove_keeps {s₀ : State} (d : Fin 4096) (s : State) (h_s : Keeps s₀ s) : Ends (execOverflowMove d s) (Keeps s₀) := by
  unfold execOverflowMove
  refine ite_of (fun o => Ends o (Keeps s₀)) ?_ ?_
  · refine Ends.next ?_
    exact h_s
  · refine Ends.next ?_
    apply moveOverflow_keeps
    exact h_s

theorem endBound_keeps {s₀ : State} (s : State) (d : Nat) (b : BoundEnt) (status : Nat) (h_s : Keeps s₀ s) : Keeps s₀ (endBound s d b status) := by
  unfold endBound
  extract_lets +onlyGivenNames v1
  clear_value v1
  extract_lets +onlyGivenNames v2
  have h3 : Keeps s₀ v2 := by
    subst v2
    apply State.setDom_keeps
    exact h_s
  clear_value v2
  apply completeRecv_keeps
  exact h3

theorem execEagerRecvDone_keeps {s₀ : State} (d : Fin 4096) (index : BitVec 32) (s : State) (h_s : Keeps s₀ s) : Ends (execEagerRecvDone d index s) (Keeps s₀) := by
  unfold execEagerRecvDone
  refine ite_of (fun o => Ends o (Keeps s₀)) ?_ ?_
  · refine Ends.next ?_
    exact h_s
  · split
    · rename_i x1 x2 x3
      refine ite_of (fun o => Ends o (Keeps s₀)) ?_ ?_
      · refine Ends.next ?_
        exact h_s
      · refine Ends.next ?_
        apply endBound_keeps
        exact h_s
    · rename_i x4 x5
      refine Ends.next ?_
      exact h_s

theorem execUxCopyDone_keeps {s₀ : State} (d : Fin 4096) (index : BitVec 32) (data : Option (List Byte)) (s : State) (h_s : Keeps s₀ s) : Ends (execUxCopyDone d index data s) (Keeps s₀) := by
  unfold execUxCopyDone
  refine ite_of (fun o => Ends o (Keeps s₀)) ?_ ?_
  · refine Ends.next ?_
    exact h_s
  · split
    · rename_i x1 x2 x3 x4 x5 x6 x7
      split
      · rename_i x8 x9
        refine Ends.next ?_
        exact h_s
      · rename_i x10 x11 x12
        extract_lets +onlyGivenNames v13
        clear_value v13
        refine ite_of (fun o => Ends o (Keeps s₀)) ?_ ?_
        · refine Ends.next ?_
          exact h_s
        · refine ite_of (fun o => Ends o (Keeps s₀)) ?_ ?_
          · refine Ends.next ?_
            apply endBound_keeps
            exact h_s
          · split
            · rename_i x14 x15 x16
              have h17 : Keeps s₀ x15 := by
                refine Keeps.ofPair ?_ x16
                apply xlate_keeps
                exact h_s
              refine Ends.next ?_
              exact h17
            · rename_i x18 x19 x20
              have h21 : Keeps s₀ x19 := by
                refine Keeps.ofPair ?_ x20
                apply xlate_keeps
                exact h_s
              refine Ends.next ?_
              apply domLost_keeps
              exact h21
            · rename_i x22 x23 x24 x25
              have h26 : Keeps s₀ x24 := by
                refine Keeps.ofPair ?_ x25
                apply xlate_keeps
                exact h_s
              refine ite_of (fun o => Ends o (Keeps s₀)) ?_ ?_
              · refine Ends.next ?_
                apply domLost_keeps
                exact h26
              · split
                · rename_i x27 x28 x29
                  have h30 : Keeps s₀ x28 := by
                    refine Keeps.ofPair ?_ x29
                    apply xlate_keeps
                    exact h26
                  refine Ends.next ?_
                  exact h30
                · rename_i x31 x32 x33
                  have h34 : Keeps s₀ x32 := by
                    refine Keeps.ofPair ?_ x33
                    apply xlate_keeps
                    exact h26
                  refine Ends.next ?_
                  apply endBound_keeps
                  exact h34
                · rename_i x35 x36 x37 x38
                  have h39 : Keeps s₀ x37 := by
                    refine Keeps.ofPair ?_ x38
                    apply xlate_keeps
                    exact h26
                  refine Ends.next ?_
                  apply endBound_keeps
                  apply scatter_keeps
                  exact h39
    · rename_i x40 x41 x42
      refine Ends.next ?_
      exact h_s

theorem execRndvJobDone_keeps {s₀ : State} (ch : Fin 1048576) (s : State) (h_s : Keeps s₀ s) : Ends (execRndvJobDone ch s) (Keeps s₀) := by
  unfold execRndvJobDone
  split
  · rename_i x1 x2
    refine Ends.next ?_
    exact h_s
  · rename_i x3 x4 x5
    extract_lets +onlyGivenNames v6
    clear_value v6
    split
    · rename_i x7 x8
      refine Ends.next ?_
      exact h_s
    · rename_i x9 x10 x11
      extract_lets +onlyGivenNames v12
      have h13 : Keeps s₀ v12 := by
        subst v12
        apply State.setChan_keeps
        exact h_s
      clear_value v12
      split
      · rename_i x14 x15 x16 x17
        split
        · rename_i x18 x19
          refine Ends.next ?_
          exact h13
        · rename_i x20 x21 x22
          extract_lets +onlyGivenNames v23
          clear_value v23
          extract_lets +onlyGivenNames v24
          clear_value v24
          extract_lets +onlyGivenNames v25
          have h26 : Keeps s₀ v25 := by
            subst v25
            apply endBound_keeps
            exact h13
          clear_value v25
          refine Ends.next ?_
          apply tpEnd_keeps
          apply addFin_keeps
          exact h26
      · rename_i x27 x28
        refine Ends.next ?_
        exact h13

theorem domCfgWord_keeps {s₀ : State} (s : State) (f : Nat) (j : Nat) (d : Nat) (w : Nat) (h_s : Keeps s₀ s) : Keeps s₀ (domCfgWord s f j d w) := by
  unfold domCfgWord
  refine ite_of (Keeps s₀) ?_ ?_
  · exact h_s
  · extract_lets +onlyGivenNames v1
    have h2 : Keeps s₀ v1 := by
      subst v1
      apply State.wri_keeps
      exact h_s
    clear_value v1
    refine ite_of (Keeps s₀) ?_ ?_
    · apply State.wri_keeps
      exact h2
    · apply configError_keeps
      exact h2

theorem enableFail_keeps {s₀ : State} (s : State) (f : Nat) (j : Nat) (d : Nat) (h_s : Keeps s₀ s) : Keeps s₀ (enableFail s f j d) := by
  unfold enableFail
  apply State.wri_keeps
  apply State.setDom_keeps
  exact h_s

theorem rangesGood_keeps {s₀ : State} (s : State) (f : Nat) (k : List (Nat × Nat × Bool)) (h_s : Keeps s₀ s) : Keeps s₀ (rangesGood s f k).2 := by
  induction k generalizing s with
  | nil =>
    unfold rangesGood
    exact h_s
  | cons g l ih =>
    unfold rangesGood
    refine ite_of (fun (p : _ × State) => Keeps s₀ p.2) ?_ ?_
    · apply ih
      exact h_s
    · split
      · rename_i x1 x2 x3
        have h4 : Keeps s₀ x2 := by
          refine Keeps.ofPair ?_ x3
          apply xlate_keeps
          exact h_s
        exact h4
      · rename_i x5 x6 x7
        have h8 : Keeps s₀ x6 := by
          refine Keeps.ofPair ?_ x7
          apply xlate_keeps
          exact h_s
        exact h8
      · rename_i x9 x10 x11 x12
        have h13 : Keeps s₀ x11 := by
          refine Keeps.ofPair ?_ x12
          apply xlate_keeps
          exact h_s
        refine ite_of (fun (p : _ × State) => Keeps s₀ p.2) ?_ ?_
        · exact h13
        · apply ih
          exact h13

theorem domEnable_keeps {s₀ : State} (s : State) (f : Nat) (j : Nat) (d : Nat) (h_s : Keeps s₀ s) : Keeps s₀ (domEnable s f j d) := by
  unfold domEnable
  extract_lets +onlyGivenNames v1
  clear_value v1
  refine ite_of (Keeps s₀) ?_ ?_
  · apply enableFail_keeps
    exact h_s
  · split
    · rename_i x2 x3 x4
      have h5 : Keeps s₀ x3 := by
        refine Keeps.ofPair ?_ x4
        apply rangesGood_keeps
        exact h_s
      apply State.setDom_keeps
      exact h5
    · rename_i x6 x7 x8
      have h9 : Keeps s₀ x7 := by
        refine Keeps.ofPair ?_ x8
        apply rangesGood_keeps
        exact h_s
      apply enableFail_keeps
      exact h9
    · rename_i x10 x11 x12
      have h13 : Keeps s₀ x11 := by
        refine Keeps.ofPair ?_ x12
        apply rangesGood_keeps
        exact h_s
      apply State.wri_keeps
      apply State.wri_keeps
      apply State.setDom_keeps
      exact h13

theorem execDomainEnable_keeps {s₀ : State} (f : Fin 1024) (j : Fin 256) (w : BitVec 32) (s : State) (h_s : Keeps s₀ s) : Ends (execDomainEnable f j w s) (Keeps s₀) := by
  unfold execDomainEnable
  refine ite_of (fun o => Ends o (Keeps s₀)) ?_ ?_
  · refine Ends.next ?_
    exact h_s
  · split
    · rename_i x1 x2
      refine Ends.next ?_
      exact h_s
    · rename_i x3 x4 x5
      refine ite_of (fun o => Ends o (Keeps s₀)) ?_ ?_
      · refine Ends.next ?_
        exact h_s
      · refine Ends.next ?_
        apply domEnable_keeps
        apply domCfgWord_keeps
        exact h_s

theorem execDomainDisable_keeps {s₀ : State} (f : Fin 1024) (j : Fin 256) (w : BitVec 32) (s : State) (h_s : Keeps s₀ s) : Ends (execDomainDisable f j w s) (Keeps s₀) := by
  unfold execDomainDisable
  refine ite_of (fun o => Ends o (Keeps s₀)) ?_ ?_
  · refine Ends.next ?_
    exact h_s
  · split
    · rename_i x1 x2
      refine Ends.next ?_
      exact h_s
    · rename_i x3 x4 x5
      refine ite_of (fun o => Ends o (Keeps s₀)) ?_ ?_
      · refine Ends.next ?_
        apply tpSyncAll_keeps
        apply payFins_keeps
        apply domReset_keeps
        exact h_s
      · extract_lets +onlyGivenNames v6
        clear_value v6
        extract_lets +onlyGivenNames v7
        have h8 : Keeps s₀ v7 := by
          subst v7
          apply State.setDom_keeps
          exact h_s
        clear_value v7
        refine Ends.next ?_
        apply domCfgWord_keeps
        exact h8

theorem resumeDoms_keeps {s₀ : State} (s : State) (h_s : Keeps s₀ s) : Keeps s₀ (resumeDoms s) := by
  unfold resumeDoms
  refine Keeps.foldl ?_ ?_
  · exact h_s
  · intro y1 y2 y3
    refine ite_of (Keeps s₀) ?_ ?_
    · split
      · rename_i x4 x5 x6 x7
        apply domEnable_keeps
        exact y3
      · rename_i x8 x9
        exact y3
    · exact y3

theorem execMatchListEccError_keeps {s₀ : State} (d : Fin 4096) (s : State) (h_s : Keeps s₀ s) : Ends (execMatchListEccError d s) (Keeps s₀) := by
  unfold execMatchListEccError
  refine Ends.next ?_
  apply tpSyncAll_keeps
  apply payFins_keeps
  apply domLost_keeps
  apply recordError_keeps
  exact h_s

theorem execMatchCntClr_keeps {s₀ : State} (r : Route) (s : State) (h_s : Keeps s₀ s) : Ends (execMatchCntClr r s) (Keeps s₀) := by
  unfold execMatchCntClr
  refine Ends.next ?_
  apply guarded_keeps
  · exact h_s
  · intro y1 y2
    apply State.clearAll_keeps
    exact y2

theorem matchUnitReset_keeps {s₀ : State} (s : State) (h_s : Keeps s₀ s) : Keeps s₀ (matchUnitReset s) := by
  unfold matchUnitReset
  extract_lets +onlyGivenNames v1
  have h2 : Keeps s₀ v1 := by
    subst v1
    refine Keeps.foldl ?_ ?_
    · exact h_s
    · intro y3 y4 y5
      split
      · rename_i x6 x7 x8 x9
        apply State.wri_keeps
        exact y5
      · rename_i x10 x11
        exact y5
  clear_value v1
  extract_lets +onlyGivenNames v12
  have h13 : Keeps s₀ v12 := by
    subst v12
    refine Keeps.foldl ?_ ?_
    · exact h2
    · intro y14 y15 y16
      apply loseMsgs_keeps
      exact y16
  clear_value v12
  refine Keeps.foldl ?_ ?_
  · exact h13
  · intro y17 y18 y19
    apply State.setDom_keeps
    exact y19

end Sys2Proof.Machine
end

