-- ==== Sys2Proof/Laws/Keeps4.lean ====
section
/-!
SUPPORT. What each operation and each command of these files of Machine/ keeps: Compass.lean, PoolOps.lean, HostOps.lean, FenceOps.lean, Coherence.lean, Counters.lean, Mgmt.lean, Routing.lean.
One lemma for each: an operation on a state that keeps what a state s₀ had (Keeps of Laws/Keeps.lean: the queue, the clock, what was
emitted, the form of the pool's memory) gives one that keeps it, and a command on such a state answers a next state that keeps it.
-/
namespace Sys2Proof.Machine

/-! ### Machine/Compass.lean -/

theorem resumeEverything_keeps {s₀ : State} (s : State) (h_s : Keeps s₀ s) : Keeps s₀ (resumeEverything s) := by
  unfold resumeEverything
  apply tunPump_keeps
  apply collPumpAll_keeps
  apply resumeDoms_keeps
  apply resumeFns_keeps
  apply resumeAll_keeps
  exact h_s

theorem keyEnd_keeps {s₀ : State} (s : State) (f : Nat) (result : Nat) (h_s : Keeps s₀ s) : Keeps s₀ (keyEnd s f result) := by
  unfold keyEnd
  apply State.wr_keeps
  apply State.wr_keeps
  refine Keeps.upd ?_ rfl
  exact h_s

theorem keyHold_keeps {s₀ : State} (s : State) (f : Nat) (i : Nat) (h_s : Keeps s₀ s) : Keeps s₀ (keyHold s f i) := by
  unfold keyHold
  apply State.wr_keeps
  refine Keeps.upd ?_ rfl
  exact h_s

theorem keyCmd_keeps {s₀ : State} (s : State) (f : Nat) (op : Nat) (h_s : Keeps s₀ s) : Keeps s₀ (keyCmd s f op) := by
  unfold keyCmd
  extract_lets +onlyGivenNames v1
  clear_value v1
  refine ite_of (Keeps s₀) ?_ ?_
  · exact h_s
  · extract_lets +onlyGivenNames v2
    have h3 : Keeps s₀ v2 := by
      subst v2
      apply State.wr_keeps
      exact h_s
    clear_value v2
    extract_lets +onlyGivenNames v4
    clear_value v4
    extract_lets +onlyGivenNames v5
    clear_value v5
    extract_lets +onlyGivenNames v6
    clear_value v6
    refine ite_of (Keeps s₀) ?_ ?_
    · apply keyEnd_keeps
      exact h3
    · refine ite_of (Keeps s₀) ?_ ?_
      · apply keyEnd_keeps
        exact h3
      · refine ite_of (Keeps s₀) ?_ ?_
        · apply keyEnd_keeps
          exact h3
        · refine ite_of (Keeps s₀) ?_ ?_
          · apply keyEnd_keeps
            exact h3
          · split
            · rename_i x7 x8 x9
              apply keyEnd_keeps
              exact h3
            · rename_i x10 x11 x12 x13
              refine ite_of (Keeps s₀) ?_ ?_
              · apply keyHold_keeps
                apply keyStore_keeps
                exact h3
              · apply keyEnd_keeps
                exact h3
            · rename_i x14 x15 x16 x17 x18
              refine ite_of (Keeps s₀) ?_ ?_
              · apply keyHold_keeps
                apply keyStore_keeps
                exact h3
              · refine ite_of (Keeps s₀) ?_ ?_
                · apply keyHold_keeps
                  apply keyStore_keeps
                  exact h3
                · extract_lets +onlyGivenNames v19
                  clear_value v19
                  extract_lets +onlyGivenNames v20
                  have h21 : Keeps s₀ v20 := by
                    subst v20
                    refine Keeps.foldl ?_ ?_
                    · exact h3
                    · intro y22 y23 y24
                      apply State.wri_keeps
                      exact y24
                  clear_value v20
                  apply keyEnd_keeps
                  exact h21

theorem execKeyWrite_keeps {s₀ : State} (f : Fin 1024) (s : State) (h_s : Keeps s₀ s) : Ends (execKeyWrite f s) (Keeps s₀) := by
  unfold execKeyWrite
  refine ite_of (fun o => Ends o (Keeps s₀)) ?_ ?_
  · refine Ends.next ?_
    exact h_s
  · refine Ends.next ?_
    apply keyCmd_keeps
    exact h_s

theorem execKeyFree_keeps {s₀ : State} (f : Fin 1024) (s : State) (h_s : Keeps s₀ s) : Ends (execKeyFree f s) (Keeps s₀) := by
  unfold execKeyFree
  refine ite_of (fun o => Ends o (Keeps s₀)) ?_ ?_
  · refine Ends.next ?_
    exact h_s
  · refine Ends.next ?_
    apply keyCmd_keeps
    exact h_s

theorem execKeyQuery_keeps {s₀ : State} (f : Fin 1024) (s : State) (h_s : Keeps s₀ s) : Ends (execKeyQuery f s) (Keeps s₀) := by
  unfold execKeyQuery
  refine ite_of (fun o => Ends o (Keeps s₀)) ?_ ?_
  · refine Ends.next ?_
    exact h_s
  · refine Ends.next ?_
    apply keyCmd_keeps
    exact h_s

theorem execKeyCmdDone_keeps {s₀ : State} (f : Fin 1024) (s : State) (h_s : Keeps s₀ s) : Ends (execKeyCmdDone f s) (Keeps s₀) := by
  unfold execKeyCmdDone
  split
  · rename_i x1 x2
    refine Ends.next ?_
    exact h_s
  · rename_i x3 x4 x5
    refine ite_of (fun o => Ends o (Keeps s₀)) ?_ ?_
    · refine Ends.next ?_
      exact h_s
    · refine Ends.next ?_
      apply keyEnd_keeps
      exact h_s

theorem setKeyEn_keeps {s₀ : State} (s : State) (en : Bool) (h_s : Keeps s₀ s) : Keeps s₀ (setKeyEn s en) := by
  unfold setKeyEn
  refine ite_of (Keeps s₀) ?_ ?_
  · exact h_s
  · extract_lets +onlyGivenNames v1
    have h2 : Keeps s₀ v1 := by
      subst v1
      apply State.wr_keeps
      exact h_s
    clear_value v1
    refine Keeps.upd ?_ rfl
    exact h2

theorem execKeyCfgEnWrite_keeps {s₀ : State} (r : Route) (en : Bool) (s : State) (h_s : Keeps s₀ s) : Ends (execKeyCfgEnWrite r en s) (Keeps s₀) := by
  unfold execKeyCfgEnWrite
  refine Ends.next ?_
  apply guarded_keeps
  · exact h_s
  · intro y1 y2
    apply setKeyEn_keeps
    exact y2

theorem execKeyFetchDone_keeps {s₀ : State} (i : Fin 1048576) (s : State) (h_s : Keeps s₀ s) : Ends (execKeyFetchDone i s) (Keeps s₀) := by
  unfold execKeyFetchDone
  extract_lets +onlyGivenNames v1
  clear_value v1
  refine ite_of (fun o => Ends o (Keeps s₀)) ?_ ?_
  · refine Ends.next ?_
    exact h_s
  · extract_lets +onlyGivenNames v2
    clear_value v2
    extract_lets +onlyGivenNames v3
    have h4 : Keeps s₀ v3 := by
      subst v3
      refine Keeps.upd ?_ rfl
      exact h_s
    clear_value v3
    split
    · rename_i x5 x6 x7
      extract_lets +onlyGivenNames v8
      have h9 : Keeps s₀ v8.snd := by
        subst v8
        refine ite_of (fun (p : _ × State) => Keeps s₀ p.2) ?_ ?_
        · exact h4
        · apply evictOne_keeps
          exact h4
      clear_value v8
      refine Ends.next ?_
      apply resumeEverything_keeps
      extract_lets +onlyGivenNames v10
      have h11 : Keeps s₀ v10 := by
        subst v10
        exact h9
      clear_value v10
      refine Keeps.upd ?_ rfl
      exact h11
    · rename_i x12 x13
      refine Ends.next ?_
      apply resumeEverything_keeps
      apply State.setEvt_keeps
      refine Keeps.upd ?_ rfl
      exact h4

theorem cacheEntry_keeps {s₀ : State} (s : State) (want : WalkEnt) (e : Nat) (h_s : Keeps s₀ s) : Keeps s₀ (cacheEntry s want e) := by
  unfold cacheEntry
  refine ite_of (Keeps s₀) ?_ ?_
  · exact h_s
  · extract_lets +onlyGivenNames v1
    have h2 : Keeps s₀ v1.snd := by
      subst v1
      apply evictOne_keeps
      exact h_s
    clear_value v1
    extract_lets +onlyGivenNames v3
    have h4 : Keeps s₀ v3 := by
      subst v3
      exact h2
    clear_value v3
    refine Keeps.upd ?_ rfl
    exact h4

theorem walkEnds_keeps {s₀ : State} (s : State) (w : Walk) (h_s : Keeps s₀ s) : Keeps s₀ (walkEnds s w) := by
  unfold walkEnds
  apply cntCM_keeps
  exact h_s

theorem walkOn_keeps {s₀ : State} (s : State) (w : Walk) (h_s : Keeps s₀ s) : Keeps s₀ (walkOn s w) := by
  unfold walkOn
  split
  · rename_i x1 x2 x3 x4
    exact h_s
  · rename_i x5 x6 x7
    extract_lets +onlyGivenNames v8
    clear_value v8
    extract_lets +onlyGivenNames v9
    have h10 : Keeps s₀ v9 := by
      subst v9
      refine Keeps.foldl ?_ ?_
      · exact h_s
      · intro y11 y12 y13
        apply walkEnds_keeps
        exact y13
    clear_value v9
    extract_lets +onlyGivenNames v14
    clear_value v14
    extract_lets +onlyGivenNames v15
    have h16 : Keeps s₀ v15 := by
      subst v15
      refine Keeps.upd ?_ rfl
      exact h10
    clear_value v15
    refine ite_of (Keeps s₀) ?_ ?_
    · exact h16
    · refine ite_of (Keeps s₀) ?_ ?_
      · apply specDrop_keeps
        exact h16
      · apply tlbAdd_keeps
        exact h16
  · rename_i x17 x18 x19
    extract_lets +onlyGivenNames v20
    have h21 : Keeps s₀ v20 := by
      subst v20
      apply walkEnds_keeps
      exact h_s
    clear_value v20
    refine ite_of (Keeps s₀) ?_ ?_
    · apply specDrop_keeps
      apply walkDropped_keeps
      exact h21
    · extract_lets +onlyGivenNames v22
      clear_value v22
      extract_lets +onlyGivenNames v23
      have h24 : Keeps s₀ v23 := by
        subst v23
        refine Keeps.upd ?_ rfl
        exact h21
      clear_value v23
      apply recordFault_keeps
      exact h24

theorem strikeCache_keeps {s₀ : State} (s : State) (u : CacheUpset) (h_s : Keeps s₀ s) : Keeps s₀ (strikeCache s u) := by
  unfold strikeCache
  extract_lets +onlyGivenNames v1
  clear_value v1
  refine ite_of (Keeps s₀) ?_ ?_
  · exact h_s
  · refine ite_of (Keeps s₀) ?_ ?_
    · apply recordError_keeps
      apply State.setEvt_keeps
      apply State.bump_keeps
      exact h_s
    · extract_lets +onlyGivenNames v2
      clear_value v2
      extract_lets +onlyGivenNames v3
      clear_value v3
      apply recordError_keeps
      apply State.setEvt_keeps
      apply State.bump_keeps
      refine Keeps.upd ?_ rfl
      exact h_s

theorem execWalkEntryReadDone_keeps {s₀ : State} (f : Fin 1024) (a : BitVec 64) (data : WalkRead) (s : State) (h_s : Keeps s₀ s) : Ends (execWalkEntryReadDone f a data s) (Keeps s₀) := by
  unfold execWalkEntryReadDone
  extract_lets +onlyGivenNames v1
  have h2 : Keeps s₀ v1 := by
    subst v1
    split
    · rename_i x3 x4 x5
      apply strikeCache_keeps
      exact h_s
    · rename_i x6 x7
      exact h_s
  clear_value v1
  extract_lets +onlyGivenNames v8
  clear_value v8
  split
  · rename_i x9 x10
    refine Ends.next ?_
    exact h2
  · rename_i x11 x12 x13
    split
    · rename_i x14 x15 x16 x17
      extract_lets +onlyGivenNames v18
      clear_value v18
      extract_lets +onlyGivenNames v19
      have h20 : Keeps s₀ v19 := by
        subst v19
        apply cntCM_keeps
        apply State.bump_keeps
        exact h2
      clear_value v19
      extract_lets +onlyGivenNames v21
      have h22 : Keeps s₀ v21 := by
        subst v21
        split
        · rename_i x23 x24
          apply cacheEntry_keeps
          exact h20
        · rename_i x25
          exact h20
      clear_value v21
      extract_lets +onlyGivenNames v26
      clear_value v26
      extract_lets +onlyGivenNames v27
      clear_value v27
      extract_lets +onlyGivenNames v28
      have h29 : Keeps s₀ v28 := by
        subst v28
        refine Keeps.upd ?_ rfl
        exact h22
      clear_value v28
      refine Ends.next ?_
      apply resumeEverything_keeps
      apply walkOn_keeps
      exact h29
    · rename_i x30 x31
      refine Ends.next ?_
      apply resumeEverything_keeps
      apply walkOn_keeps
      exact h2

theorem execInvalidateDone_keeps {s₀ : State} (g : Fin 65536) (s : State) (h_s : Keeps s₀ s) : Ends (execInvalidateDone g s) (Keeps s₀) := by
  unfold execInvalidateDone
  split
  · rename_i x1 x2
    refine Ends.next ?_
    exact h_s
  · rename_i x3 x4 x5
    refine ite_of (fun o => Ends o (Keeps s₀)) ?_ ?_
    · refine Ends.next ?_
      exact h_s
    · extract_lets +onlyGivenNames v6
      clear_value v6
      extract_lets +onlyGivenNames v7
      have h8 : Keeps s₀ v7 := by
        subst v7
        refine Keeps.upd ?_ rfl
        exact h_s
      clear_value v7
      split
      · rename_i x9 x10
        refine Ends.next ?_
        exact h8
      · rename_i x11 x12 x13
        extract_lets +onlyGivenNames v14
        have h15 : Keeps s₀ v14 := by
          subst v14
          apply State.bump_keeps
          apply State.setWq_keeps
          exact h8
        clear_value v14
        refine Ends.next ?_
        apply completeWq_keeps
        exact h15

theorem execXlateCntClr_keeps {s₀ : State} (r : Route) (s : State) (h_s : Keeps s₀ s) : Ends (execXlateCntClr r s) (Keeps s₀) := by
  unfold execXlateCntClr
  refine Ends.next ?_
  apply guarded_keeps
  · exact h_s
  · intro y1 y2
    apply State.clearAll_keeps
    exact y2

theorem execFlogClr_keeps {s₀ : State} (r : Route) (s : State) (h_s : Keeps s₀ s) : Ends (execFlogClr r s) (Keeps s₀) := by
  unfold execFlogClr
  refine Ends.next ?_
  apply guarded_keeps
  · exact h_s
  · intro y1 y2
    apply State.wr_keeps
    exact y2

theorem compassReset_keeps {s₀ : State} (s : State) (h_s : Keeps s₀ s) : Keeps s₀ (compassReset s) := by
  unfold compassReset
  refine Keeps.upd ?_ rfl
  exact h_s


/-! ### Machine/PoolOps.lean -/

theorem showFree_keeps {s₀ : State} (s : State) (h_s : Keeps s₀ s) : Keeps s₀ (showFree s) := by
  unfold showFree
  extract_lets +onlyGivenNames v1
  clear_value v1
  apply State.wr_keeps
  exact h_s

theorem putExt_keeps {s₀ : State} (s : State) (e : Nat) (x : ExtSt) (h_s : Keeps s₀ s) : Keeps s₀ (putExt s e x) := by
  unfold putExt
  apply showFree_keeps
  apply State.setExt_keeps
  exact h_s

theorem queueSanitize_keeps {s₀ : State} (s : State) (e : Nat) (h_s : Keeps s₀ s) : Keeps s₀ (queueSanitize s e) := by
  unfold queueSanitize
  split
  · rename_i x1 x2
    exact h_s
  · rename_i x3 x4 x5
    extract_lets +onlyGivenNames v6
    have h7 : Keeps s₀ v6 := by
      subst v6
      apply putExt_keeps
      exact h_s
    clear_value v6
    refine Keeps.upd ?_ rfl
    exact h7

theorem zeroExtent_keeps {s₀ : State} (s : State) (e : Nat) (h : Keeps s₀ s) : Keeps s₀ (zeroExtent s e) :=
  ⟨h.1, h.2.1, h.2.2.1, fun x =>
    show Memory.wf (dropKeys s.pool.mem (fun a => extentOf a == e)) = true from dropKeys_wf _ _ (h.2.2.2 x)⟩

theorem sanitizeEvent_keeps {s₀ : State} (s : State) (e : Nat) (h_s : Keeps s₀ s) : Keeps s₀ (sanitizeEvent s e) := by
  unfold sanitizeEvent
  refine Keeps.foldl ?_ ?_
  · exact h_s
  · intro y1 y2 y3
    apply raiseEvent_keeps
    exact y3

theorem endPair_keeps {s₀ : State} (s : State) (e : Nat) (h_s : Keeps s₀ s) : Keeps s₀ (endPair s e) := by
  unfold endPair
  split
  · rename_i x1 x2
    exact h_s
  · rename_i x3 x4 x5
    refine ite_of (Keeps s₀) ?_ ?_
    · extract_lets +onlyGivenNames v6
      clear_value v6
      extract_lets +onlyGivenNames v7
      have h8 : Keeps s₀ v7 := by
        subst v7
        apply putExt_keeps
        exact h_s
      clear_value v7
      split
      · rename_i x9 x10 x11
        refine ite_of (Keeps s₀) ?_ ?_
        · apply queueSanitize_keeps
          apply State.setExt_keeps
          exact h8
        · exact h8
      · rename_i x12 x13
        exact h8
    · exact h_s

theorem startRelease_keeps {s₀ : State} (s : State) (e : Nat) (h_s : Keeps s₀ s) : Keeps s₀ (startRelease s e) := by
  unfold startRelease
  split
  · rename_i x1 x2
    exact h_s
  · rename_i x3 x4 x5
    extract_lets +onlyGivenNames v6
    have h7 : Keeps s₀ v6 := by
      subst v6
      refine ite_of (Keeps s₀) ?_ ?_
      · apply endPair_keeps
        exact h_s
      · exact h_s
    clear_value v6
    split
    · rename_i x8 x9
      exact h7
    · rename_i x10 x11 x12
      apply purge_keeps
      apply putExt_keeps
      exact h7

theorem dropExtent_keeps {s₀ : State} (s : State) (e : Nat) (h_s : Keeps s₀ s) : Keeps s₀ (dropExtent s e) := by
  unfold dropExtent
  extract_lets +onlyGivenNames v1
  clear_value v1
  extract_lets +onlyGivenNames v2
  have h3 : Keeps s₀ v2 := by
    subst v2
    refine Keeps.foldl ?_ ?_
    · exact h_s
    · intro y4 y5 y6
      apply freeSf_keeps
      refine Keeps.foldl ?_ ?_
      · exact y6
      · intro y7 y8 y9
        apply sendSnp_keeps
        exact y9
  clear_value v2
  apply zeroExtent_keeps
  refine Keeps.upd ?_ rfl
  exact h3

theorem failExtent_keeps {s₀ : State} (s : State) (e : Nat) (h_s : Keeps s₀ s) : Keeps s₀ (failExtent s e) := by
  unfold failExtent
  split
  · rename_i x1 x2
    exact h_s
  · rename_i x3 x4 x5
    refine ite_of (Keeps s₀) ?_ ?_
    · exact h_s
    · extract_lets +onlyGivenNames v6
      clear_value v6
      extract_lets +onlyGivenNames v7
      have h8 : Keeps s₀ v7 := by
        subst v7
        apply putExt_keeps
        apply dropExtent_keeps
        exact h_s
      clear_value v7
      apply deviceEvent_keeps
      apply poolEvent_keeps
      exact h8

theorem stackLost_keeps {s₀ : State} (s : State) (e : Nat) (h_s : Keeps s₀ s) : Keeps s₀ (stackLost s e) := by
  unfold stackLost
  split
  · rename_i x1 x2
    exact h_s
  · rename_i x3 x4 x5
    refine ite_of (Keeps s₀) ?_ ?_
    · apply putExt_keeps
      exact h_s
    · refine ite_of (Keeps s₀) ?_ ?_
      · extract_lets +onlyGivenNames v6
        clear_value v6
        extract_lets +onlyGivenNames v7
        have h8 : Keeps s₀ v7 := by
          subst v7
          split
          · rename_i x9 x10 x11
            refine ite_of (Keeps s₀) ?_ ?_
            · apply failExtent_keeps
              exact h_s
            · apply putExt_keeps
              exact h_s
          · rename_i x12 x13
            exact h_s
        clear_value v7
        apply failExtent_keeps
        apply State.setExt_keeps
        exact h8
      · apply failExtent_keeps
        refine ite_of (Keeps s₀) ?_ ?_
        · apply endPair_keeps
          exact h_s
        · exact h_s

theorem failStack_keeps {s₀ : State} (s : State) (i : Nat) (h_s : Keeps s₀ s) : Keeps s₀ (failStack s i) := by
  unfold failStack
  refine ite_of (Keeps s₀) h_s (Keeps.foldl ?_ (fun t k ht => stackLost_keeps t _ ht))
  apply deviceEvent_keeps
  refine poolSan_keeps ?_ _
  apply elogWrite_keeps
  apply poolEvent_keeps
  apply State.wr_keeps
  apply State.wr_keeps
  exact h_s

theorem poisonLine_keeps {s₀ : State} (s : State) (line : Nat) (source : Nat) (st : Nat) (h_s : Keeps s₀ s) : Keeps s₀ (poisonLine s line source st) := by
  unfold poisonLine
  refine ite_of (Keeps s₀) ?_ ?_
  · exact h_s
  · apply elogWrite_keeps
    apply setPoison_keeps
    exact h_s

theorem uncorrLine_keeps {s₀ : State} (s : State) (line : Nat) (source : Nat) (otherGood : Bool) (h_s : Keeps s₀ s) : Keeps s₀ (uncorrLine s line source otherGood) := by
  unfold uncorrLine
  extract_lets +onlyGivenNames v1
  clear_value v1
  extract_lets +onlyGivenNames v2
  clear_value v2
  extract_lets +onlyGivenNames v3
  clear_value v3
  extract_lets +onlyGivenNames v4
  clear_value v4
  extract_lets +onlyGivenNames v5
  have h6 : Keeps s₀ v5 := by
    subst v5
    apply State.bump_keeps
    exact h_s
  clear_value v5
  extract_lets +onlyGivenNames v7
  have h8 : Keeps s₀ v7 := by
    subst v7
    apply recordError_keeps
    exact h6
  clear_value v7
  extract_lets +onlyGivenNames v9
  have h10 : Keeps s₀ v9 := by
    subst v9
    refine ite_of (Keeps s₀) ?_ ?_
    · apply State.bump_keeps
      exact h8
    · apply poisonLine_keeps
      exact h8
  clear_value v9
  extract_lets +onlyGivenNames v11
  clear_value v11
  extract_lets +onlyGivenNames v12
  extract_lets +onlyGivenNames v13
  have h14 : Keeps s₀ v13 := by
    subst v13
    refine Keeps.upd ?_ rfl
    exact h10
  clear_value v13
  refine ite_of (Keeps s₀) ?_ ?_
  · apply failStack_keeps
    exact h14
  · exact h14


/-! ### Machine/HostOps.lean -/

theorem attEvent_keeps {s₀ : State} (s : State) (a : Nat) (i : Nat) (h_s : Keeps s₀ s) : Keeps s₀ (attEvent s a i) := by
  unfold attEvent
  apply State.setEvt_keeps
  exact h_s

theorem applyHostCfg_keeps {s₀ : State} (s : State) (h : Nat) (h_s : Keeps s₀ s) : Keeps s₀ (applyHostCfg s h) := by
  unfold applyHostCfg
  extract_lets +onlyGivenNames v1
  clear_value v1
  refine ite_of (Keeps s₀) ?_ ?_
  · exact h_s
  · extract_lets +onlyGivenNames v2
    clear_value v2
    extract_lets +onlyGivenNames v3
    clear_value v3
    extract_lets +onlyGivenNames v4
    clear_value v4
    refine Keeps.upd ?_ rfl
    exact h_s

theorem linkGone_keeps {s₀ : State} (s : State) (a : Nat) (st : Nat) (h_s : Keeps s₀ s) : Keeps s₀ (linkGone s a st) := by
  unfold linkGone
  extract_lets +onlyGivenNames v1
  clear_value v1
  apply applyHostCfg_keeps
  apply State.wr_keeps
  apply State.wr_keeps
  apply State.wr_keeps
  apply State.wr_keeps
  exact h_s

theorem hotReset_keeps {s₀ : State} (s : State) (a : Nat) (h_s : Keeps s₀ s) : Keeps s₀ (hotReset s a) := by
  unfold hotReset
  extract_lets +onlyGivenNames v1
  clear_value v1
  apply State.emit_keeps
  apply linkGone_keeps
  apply State.setAtt_keeps
  exact h_s

theorem msixReset_keeps {s₀ : State} (s : State) (f : Nat) (h_s : Keeps s₀ s) : Keeps s₀ (msixReset s f) := by
  unfold msixReset
  extract_lets +onlyGivenNames v1
  clear_value v1
  extract_lets +onlyGivenNames v2
  have h3 : Keeps s₀ v2 := by
    subst v2
    apply State.setFn_keeps
    exact h_s
  clear_value v2
  refine Keeps.upd ?_ rfl
  exact h3

theorem attachGoesDown_keeps {s₀ : State} (s : State) (a : Nat) (cause : Nat) (h_s : Keeps s₀ s) : Keeps s₀ (attachGoesDown s a cause) := by
  unfold attachGoesDown
  extract_lets +onlyGivenNames v1
  clear_value v1
  extract_lets +onlyGivenNames v2
  clear_value v2
  extract_lets +onlyGivenNames v3
  have h4 : Keeps s₀ v3 := by
    subst v3
    refine Keeps.foldl ?_ ?_
    · exact h_s
    · intro y5 y6 y7
      apply msixReset_keeps
      apply queueReset_keeps
      exact y7
  clear_value v3
  extract_lets +onlyGivenNames v8
  clear_value v8
  extract_lets +onlyGivenNames v9
  clear_value v9
  extract_lets +onlyGivenNames v10
  have h11 : Keeps s₀ v10 := by
    subst v10
    apply State.setAtt_keeps
    exact h4
  clear_value v10
  extract_lets +onlyGivenNames v12
  have h13 : Keeps s₀ v12 := by
    subst v12
    refine Keeps.foldl ?_ ?_
    · exact h11
    · intro y14 y15 y16
      apply farKill_keeps
      exact y16
  clear_value v12
  extract_lets +onlyGivenNames v17
  have h18 : Keeps s₀ v17 := by
    subst v17
    refine Keeps.foldl ?_ ?_
    · exact h13
    · intro y19 y20 y21
      apply hotReset_keeps
      exact y21
  clear_value v17
  extract_lets +onlyGivenNames v22
  have h23 : Keeps s₀ v22 := by
    subst v22
    apply linkGone_keeps
    exact h18
  clear_value v22
  extract_lets +onlyGivenNames v24
  have h25 : Keeps s₀ v24 := by
    subst v24
    apply agentDies_keeps
    exact h23
  clear_value v24
  apply deviceEvent_keeps
  apply attEvent_keeps
  exact h25

theorem contain_keeps {s₀ : State} (s : State) (a : Nat) (h_s : Keeps s₀ s) : Keeps s₀ (contain s a) := by
  unfold contain
  extract_lets +onlyGivenNames v1
  clear_value v1
  extract_lets +onlyGivenNames v2
  clear_value v2
  extract_lets +onlyGivenNames v3
  have h4 : Keeps s₀ v3 := by
    subst v3
    apply State.setAtt_keeps
    exact h_s
  clear_value v3
  refine Keeps.foldl ?_ ?_
  · apply attEvent_keeps
    apply attEvent_keeps
    apply linkGone_keeps
    exact h4
  · intro y5 y6 y7
    apply failExtent_keeps
    exact y7

theorem release_keeps {s₀ : State} (s : State) (a : Nat) (h_s : Keeps s₀ s) : Keeps s₀ (release s a) := by
  unfold release
  extract_lets +onlyGivenNames v1
  clear_value v1
  extract_lets +onlyGivenNames v2
  have h3 : Keeps s₀ v2 := by
    subst v2
    apply State.setAtt_keeps
    exact h_s
  clear_value v2
  refine ite_of (Keeps s₀) ?_ ?_
  · apply linkGone_keeps
    exact h3
  · exact h3

theorem setBind_keeps {s₀ : State} (s : State) (a : Nat) (vcs : Nat) (valid : Nat) (vppb : Nat) (h_s : Keeps s₀ s) : Keeps s₀ (setBind s a vcs valid vppb) := by
  unfold setBind
  extract_lets +onlyGivenNames v1
  clear_value v1
  apply State.wr_keeps
  apply State.wr_keeps
  apply State.wr_keeps
  exact h_s

theorem unbound_keeps {s₀ : State} (s : State) (a : Nat) (h_s : Keeps s₀ s) : Keeps s₀ (unbound s a) := by
  unfold unbound
  extract_lets +onlyGivenNames v1
  clear_value v1
  extract_lets +onlyGivenNames v2
  have h3 : Keeps s₀ v2 := by
    subst v2
    apply setBind_keeps
    apply State.setAtt_keeps
    exact h_s
  clear_value v2
  refine Keeps.upd ?_ rfl
  exact h3

theorem fmBind_keeps {s₀ : State} (s : State) (u : Nat) (v : Nat) (a : Nat) (h_s : Keeps s₀ s) : Keeps s₀ (fmBind s u v a).snd := by
  unfold fmBind
  refine ite_of (fun (p : _ × State) => Keeps s₀ p.2) ?_ ?_
  · exact h_s
  · refine ite_of (fun (p : _ × State) => Keeps s₀ p.2) ?_ ?_
    · exact h_s
    · extract_lets +onlyGivenNames v1
      have h2 : Keeps s₀ v1 := by
        subst v1
        apply setBind_keeps
        apply hotReset_keeps
        exact h_s
      clear_value v1
      refine Keeps.mkPair ?_
      apply State.emit_keeps
      refine Keeps.upd ?_ rfl
      exact h2

theorem fmUnbind_keeps {s₀ : State} (s : State) (u : Nat) (v : Nat) (option : Nat) (h_s : Keeps s₀ s) : Keeps s₀ (fmUnbind s u v option).snd := by
  unfold fmUnbind
  refine ite_of (fun (p : _ × State) => Keeps s₀ p.2) ?_ ?_
  · exact h_s
  · split
    · rename_i x1 x2
      exact h_s
    · rename_i x3 x4 x5
      refine ite_of (fun (p : _ × State) => Keeps s₀ p.2) ?_ ?_
      · exact h_s
      · extract_lets +onlyGivenNames v6
        have h7 : Keeps s₀ v6 := by
          subst v6
          refine Keeps.upd ?_ rfl
          exact h_s
        clear_value v6
        refine ite_of (fun (p : _ × State) => Keeps s₀ p.2) ?_ ?_
        · refine Keeps.mkPair ?_
          apply State.emit_keeps
          apply unbound_keeps
          apply contain_keeps
          exact h7
        · extract_lets +onlyGivenNames v8
          clear_value v8
          extract_lets +onlyGivenNames v9
          have h10 : Keeps s₀ v9 := by
            subst v9
            apply State.setAtt_keeps
            exact h7
          clear_value v9
          refine Keeps.mkPair ?_
          refine ite_of (Keeps s₀) ?_ ?_
          · apply State.emit_keeps
            exact h10
          · exact h10

theorem dcAdd_keeps {s₀ : State} (s : State) (u : Nat) (e : Nat) (tag : Nat) (h_s : Keeps s₀ s) : Keeps s₀ (dcAdd s u e tag).snd := by
  unfold dcAdd
  split
  · rename_i x1 x2
    exact h_s
  · rename_i x3 x4 x5
    refine ite_of (fun (p : _ × State) => Keeps s₀ p.2) ?_ ?_
    · exact h_s
    · refine ite_of (fun (p : _ × State) => Keeps s₀ p.2) ?_ ?_
      · refine Keeps.mkPair ?_
        apply State.emit_keeps
        apply putExt_keeps
        exact h_s
      · refine ite_of (fun (p : _ × State) => Keeps s₀ p.2) ?_ ?_
        · refine Keeps.mkPair ?_
          apply State.emit_keeps
          apply putExt_keeps
          exact h_s
        · exact h_s

theorem dcRemove_keeps {s₀ : State} (s : State) (u : Nat) (e : Nat) (h_s : Keeps s₀ s) : Keeps s₀ (dcRemove s u e).snd := by
  unfold dcRemove
  split
  · rename_i x1 x2
    exact h_s
  · rename_i x3 x4 x5
    refine ite_of (fun (p : _ × State) => Keeps s₀ p.2) ?_ ?_
    · extract_lets +onlyGivenNames v6
      have h7 : Keeps s₀ v6 := by
        subst v6
        refine ite_of (Keeps s₀) ?_ ?_
        · apply endPair_keeps
          exact h_s
        · exact h_s
      clear_value v6
      split
      · rename_i x8 x9
        exact h7
      · rename_i x10 x11 x12
        refine Keeps.mkPair ?_
        apply showFree_keeps
        apply pumpExtents_keeps
        apply putExt_keeps
        exact h7
    · exact h_s

theorem dcAnswer_keeps {s₀ : State} (s : State) (u : Nat) (e : Nat) (accept : Bool) (h_s : Keeps s₀ s) : Keeps s₀ (dcAnswer s u e accept) := by
  unfold dcAnswer
  split
  · rename_i x1 x2
    exact h_s
  · rename_i x3 x4 x5
    refine ite_of (Keeps s₀) ?_ ?_
    · exact h_s
    · extract_lets +onlyGivenNames v6
      refine ite_of (Keeps s₀) ?_ ?_
      · refine ite_of (Keeps s₀) ?_ ?_
        · apply putExt_keeps
          exact h_s
        · refine ite_of (Keeps s₀) ?_ ?_
          · apply putExt_keeps
            exact h_s
          · apply putExt_keeps
            exact h_s
      · refine ite_of (Keeps s₀) ?_ ?_
        · apply putExt_keeps
          exact h_s
        · apply putExt_keeps
          exact h_s

theorem setPerst_keeps {s₀ : State} (s : State) (a : Nat) (on : Bool) (h_s : Keeps s₀ s) : Keeps s₀ (setPerst s a on) := by
  unfold setPerst
  extract_lets +onlyGivenNames v1
  have h2 : Keeps s₀ v1 := by
    subst v1
    refine ite_of (Keeps s₀) ?_ ?_
    · apply hotReset_keeps
      exact h_s
    · exact h_s
  clear_value v1
  extract_lets +onlyGivenNames v3
  clear_value v3
  apply State.emit_keeps
  apply State.setAtt_keeps
  exact h2

theorem dcEach_keeps {s₀ : State} (s : State) (es : List (Fin 131072)) (run : State → Nat → Nat × State) (h_s : Keeps s₀ s) (h_run : ∀ (a : State) (a_1 : Nat), Keeps s₀ a → Keeps s₀ (run a a_1).snd) : Keeps s₀ (dcEach s es run).snd := by
  unfold dcEach
  extract_lets +onlyGivenNames v1
  have h2 : Keeps s₀ v1.snd := by
    subst v1
    refine Keeps.foldlSnd ?_ ?_
    · exact h_s
    · intro y3 y4 y5
      refine ite_of (fun (p : _ × State) => Keeps s₀ p.2) ?_ ?_
      · apply h_run
        exact y5
      · exact y5
  clear_value v1
  refine ite_of (fun (p : _ × State) => Keeps s₀ p.2) ?_ ?_
  · exact h2
  · exact h_s

theorem runDc_keeps {s₀ : State} (s : State) (c : FmCmd) (h_s : Keeps s₀ s) : Keeps s₀ (runDc s c).snd := by
  unfold runDc
  split
  · rename_i x1
    exact h_s
  · rename_i x2 x3 x4 x5
    exact h_s
  · rename_i x6 x7 x8 x9
    exact h_s
  · rename_i x10 x11 x12 x13
    apply dcEach_keeps
    · exact h_s
    · intro y14 y15 y16
      apply dcAdd_keeps
      exact y16
  · rename_i x17 x18 x19
    apply dcEach_keeps
    · exact h_s
    · intro y20 y21 y22
      refine ite_of (fun (p : _ × State) => Keeps s₀ p.2) ?_ ?_
      · refine Keeps.mkPair ?_
        apply State.emit_keeps
        exact y22
      · exact y22
  · rename_i x23 x24 x25
    apply dcEach_keeps
    · exact h_s
    · intro y26 y27 y28
      extract_lets +onlyGivenNames v29
      have h30 : Keeps s₀ v29.snd := by
        subst v29
        apply dcRemove_keeps
        exact y28
      clear_value v29
      refine Keeps.mkPair ?_
      refine ite_of (Keeps s₀) ?_ ?_
      · apply State.emit_keeps
        exact h30
      · exact h30
  · rename_i x31 x32 x33 x34 x35 x36 x37
    exact h_s

theorem runFm_keeps {s₀ : State} (s : State) (c : FmCmd) (h_s : Keeps s₀ s) : Keeps s₀ (runFm s c).snd := by
  unfold runFm
  extract_lets +onlyGivenNames v1
  clear_value v1
  split
  · rename_i x2
    exact h_s
  · rename_i x3 x4
    exact h_s
  · rename_i x5 x6 x7
    refine ite_of (fun (p : _ × State) => Keeps s₀ p.2) ?_ ?_
    · refine Keeps.mkPair ?_
      split
      · rename_i x8
        apply setPerst_keeps
        exact h_s
      · rename_i x9
        apply setPerst_keeps
        exact h_s
      · rename_i x10
        apply hotReset_keeps
        exact h_s
    · exact h_s
  · rename_i x11 x12 x13 x14 x15
    refine ite_of (fun (p : _ × State) => Keeps s₀ p.2) ?_ ?_
    · extract_lets +onlyGivenNames v16
      have h17 : Keeps s₀ v16 := by
        subst v16
        apply State.emit_keeps
        exact h_s
      clear_value v16
      split
      · rename_i x18 x19
        exact h17
      · rename_i x20
        refine Keeps.mkPair ?_
        apply State.spend_keeps
        exact h17
    · exact h_s
  · rename_i x21 x22 x23 x24
    exact h_s
  · rename_i x25 x26 x27 x28
    extract_lets +onlyGivenNames v29
    have h30 : Keeps s₀ v29.snd := by
      subst v29
      apply fmBind_keeps
      exact h_s
    clear_value v29
    exact h30
  · rename_i x31 x32 x33 x34
    extract_lets +onlyGivenNames v35
    have h36 : Keeps s₀ v35.snd := by
      subst v35
      apply fmUnbind_keeps
      exact h_s
    clear_value v35
    exact h36
  · rename_i x37 x38 x39 x40
    refine ite_of (fun (p : _ × State) => Keeps s₀ p.2) ?_ ?_
    · refine Keeps.mkPair ?_
      apply State.emit_keeps
      exact h_s
    · exact h_s
  · rename_i x41
    split
    · rename_i x42 x43 x44
      exact h_s
    · rename_i x45 x46
      exact h_s
  · rename_i x47
    exact h_s
  · rename_i x48
    apply runDc_keeps
    exact h_s
  · rename_i x49 x50 x51 x52
    apply runDc_keeps
    exact h_s
  · rename_i x53 x54 x55 x56
    apply runDc_keeps
    exact h_s
  · rename_i x57 x58 x59 x60
    apply runDc_keeps
    exact h_s
  · rename_i x61 x62 x63
    apply runDc_keeps
    exact h_s
  · rename_i x64 x65 x66
    apply runDc_keeps
    exact h_s
  · rename_i x67 x68
    apply runDc_keeps
    exact h_s

theorem answerFm_keeps {s₀ : State} (s : State) (c : FmCmd) (h_s : Keeps s₀ s) : Keeps s₀ (answerFm s c) := by
  unfold answerFm
  extract_lets +onlyGivenNames v1
  have h2 : Keeps s₀ v1.snd := by
    subst v1
    apply runFm_keeps
    exact h_s
  clear_value v1
  apply State.emit_keeps
  exact h2


/-! ### Machine/FenceOps.lean -/

theorem replaceHead_keeps {s₀ : State} (s : State) (k : Nat) (c : SwPkt) (h_s : Keeps s₀ s) : Keeps s₀ (replaceHead s k c) := by
  unfold replaceHead
  refine ite_of (Keeps s₀) ?_ ?_
  · apply rerouteHead_keeps
    exact h_s
  · extract_lets +onlyGivenNames v1
    have h2 : Keeps s₀ v1.snd := by
      subst v1
      apply deliverHead_keeps
      exact h_s
    clear_value v1
    split
    · rename_i x3 x4 x5 x6
      apply askOutput_keeps
      exact h2
    · rename_i x7 x8
      apply discardWaiting_keeps
      exact h2

theorem goneInput_keeps {s₀ : State} (s : State) (k : Nat) (h_s : Keeps s₀ s) : Keeps s₀ (goneInput s k) := by
  unfold goneInput
  split
  · rename_i x1 x2
    exact h_s
  · rename_i x3 x4 x5
    refine ite_of (Keeps s₀) ?_ ?_
    · apply cutInput_keeps
      · exact h_s
      · intro y6 y7
        unfold id
        exact y7
    · apply haltInput_keeps
      · exact h_s
      · intro y8 y9
        unfold id
        exact y9

theorem tileGone_keeps {s₀ : State} (s : State) (t : Nat) (h_s : Keeps s₀ s) : Keeps s₀ (tileGone s t) := by
  unfold tileGone
  extract_lets +onlyGivenNames v1
  clear_value v1
  extract_lets +onlyGivenNames v2
  have h3 : Keeps s₀ v2 := by
    subst v2
    refine Keeps.foldl ?_ ?_
    · exact h_s
    · intro y4 y5 y6
      apply goneInput_keeps
      exact y6
  clear_value v2
  extract_lets +onlyGivenNames v7
  have h8 : Keeps s₀ v7 := by
    subst v7
    refine Keeps.foldl ?_ ?_
    · exact h3
    · intro y9 y10 y11
      extract_lets +onlyGivenNames v12
      have h13 : Keeps s₀ v12 := by
        subst v12
        refine Keeps.foldl ?_ ?_
        · exact y11
        · intro y14 y15 y16
          apply outStomp_keeps
          exact y16
      clear_value v12
      extract_lets +onlyGivenNames v17
      have h18 : Keeps s₀ v17 := by
        subst v17
        apply setQueue_keeps
        exact h13
      clear_value v17
      apply dropQueued_keeps
      exact h18
  clear_value v7
  refine Keeps.foldl ?_ ?_
  · exact h8
  · intro y19 y20 y21
    split
    · rename_i x22 x23 x24
      apply replaceHead_keeps
      exact y21
    · rename_i x25 x26
      exact y21

theorem tileClusterGone_keeps {s₀ : State} (s : State) (c : Nat) (h_s : Keeps s₀ s) : Keeps s₀ (tileClusterGone s c) := by
  unfold tileClusterGone
  refine Keeps.foldl ?_ ?_
  · exact h_s
  · intro y1 y2 y3
    refine ite_of (Keeps s₀) ?_ ?_
    · apply portDownAfter_keeps
      exact y3
    · exact y3

theorem switchGone_keeps {s₀ : State} (s : State) (h_s : Keeps s₀ s) : Keeps s₀ (switchGone s) := by
  unfold switchGone
  extract_lets +onlyGivenNames v1
  have h2 : Keeps s₀ v1 := by
    subst v1
    refine Keeps.foldl ?_ ?_
    · exact h_s
    · intro y3 y4 y5
      apply goneInput_keeps
      exact y5
  clear_value v1
  extract_lets +onlyGivenNames v6
  have h7 : Keeps s₀ v6 := by
    subst v6
    refine Keeps.foldl ?_ ?_
    · exact h2
    · intro y8 y9 y10
      apply setQueue_keeps
      exact y10
  clear_value v6
  refine Keeps.upd ?_ rfl
  exact h7

theorem dropInbox_keeps {s₀ : State} (s : State) (ports : List Nat) (h_s : Keeps s₀ s) : Keeps s₀ (dropInbox s ports) := by
  unfold dropInbox
  refine Keeps.upd ?_ rfl
  exact h_s

theorem clusterGone_keeps {s₀ : State} (s : State) (c : Nat) (h_s : Keeps s₀ s) : Keeps s₀ (clusterGone s c) := by
  unfold clusterGone
  extract_lets +onlyGivenNames v1
  clear_value v1
  extract_lets +onlyGivenNames v2
  have h3 : Keeps s₀ v2 := by
    subst v2
    refine Keeps.foldl ?_ ?_
    · exact h_s
    · intro y4 y5 y6
      split
      · rename_i x7 x8 x9
        apply dropChan_keeps
        apply closeNow_keeps
        apply State.setChan_keeps
        exact y6
      · rename_i x10 x11
        exact y6
  clear_value v2
  extract_lets +onlyGivenNames v12
  clear_value v12
  extract_lets +onlyGivenNames v13
  have h14 : Keeps s₀ v13 := by
    subst v13
    refine Keeps.foldl ?_ ?_
    · exact h3
    · intro y15 y16 y17
      split
      · rename_i x18 x19 x20
        apply State.wr_keeps
        exact y17
      · rename_i x21 x22
        exact y17
  clear_value v13
  extract_lets +onlyGivenNames v23
  have h24 : Keeps s₀ v23 := by
    subst v23
    apply State.wr_keeps
    exact h14
  clear_value v23
  extract_lets +onlyGivenNames v25
  clear_value v25
  extract_lets +onlyGivenNames v26
  have h27 : Keeps s₀ v26 := by
    subst v26
    refine Keeps.upd ?_ rfl
    exact h24
  clear_value v26
  extract_lets +onlyGivenNames v28
  clear_value v28
  extract_lets +onlyGivenNames v29
  clear_value v29
  extract_lets +onlyGivenNames v30
  clear_value v30
  extract_lets +onlyGivenNames v31
  have h32 : Keeps s₀ v31 := by
    subst v31
    refine Keeps.upd ?_ rfl
    exact h27
  clear_value v31
  extract_lets +onlyGivenNames v33
  clear_value v33
  extract_lets +onlyGivenNames v34
  clear_value v34
  extract_lets +onlyGivenNames v35
  have h36 : Keeps s₀ v35 := by
    subst v35
    apply trailLost_keeps
    apply State.setGz_keeps
    exact h32
  clear_value v35
  apply tpSync_keeps
  apply dropInbox_keeps
  apply State.wr_keeps
  exact h36

theorem matchGone_keeps {s₀ : State} (s : State) (h_s : Keeps s₀ s) : Keeps s₀ (matchGone s) := by
  unfold matchGone
  extract_lets +onlyGivenNames v1
  have h2 : Keeps s₀ v1 := by
    subst v1
    refine Keeps.foldl ?_ ?_
    · exact h_s
    · intro y3 y4 y5
      apply loseMsgs_keeps
      exact y5
  clear_value v1
  refine Keeps.foldl ?_ ?_
  · exact h2
  · intro y6 y7 y8
    apply domSync_keeps
    apply State.setDom_keeps
    exact y8

theorem attGone_keeps {s₀ : State} (s : State) (a : Nat) (h_s : Keeps s₀ s) : Keeps s₀ (attGone s a) := by
  unfold attGone
  refine ite_of (Keeps s₀) ?_ ?_
  · apply attachGoesDown_keeps
    exact h_s
  · refine ite_of (Keeps s₀) ?_ ?_
    · refine ite_of (Keeps s₀) ?_ ?_
      · apply contain_keeps
        exact h_s
      · apply attEvent_keeps
        apply linkGone_keeps
        exact h_s
    · exact h_s

theorem sliceGone_keeps {s₀ : State} (s : State) (i : Nat) (h_s : Keeps s₀ s) : Keeps s₀ (sliceGone s i) := by
  unfold sliceGone
  extract_lets +onlyGivenNames v1
  clear_value v1
  extract_lets +onlyGivenNames v2
  have h3 : Keeps s₀ v2 := by
    subst v2
    apply State.setSlice_keeps
    exact h_s
  clear_value v2
  apply showBusy_keeps
  refine Keeps.upd ?_ rfl
  exact h3

theorem gzGone_keeps {s₀ : State} (s : State) (h_s : Keeps s₀ s) : Keeps s₀ (gzGone s) := by
  unfold gzGone
  extract_lets +onlyGivenNames v1
  clear_value v1
  extract_lets +onlyGivenNames v2
  have h3 : Keeps s₀ v2 := by
    subst v2
    refine ite_of (Keeps s₀) ?_ ?_
    · apply State.setGz_keeps
      exact h_s
    · exact h_s
  clear_value v2
  extract_lets +onlyGivenNames v4
  clear_value v4
  apply trailLost_keeps
  apply State.setGz_keeps
  exact h3

theorem giveUp_keeps {s₀ : State} (s : State) (u : UnitId) (h_s : Keeps s₀ s) : Keeps s₀ (giveUp s u) := by
  unfold giveUp
  extract_lets +onlyGivenNames v1
  have h2 : Keeps s₀ v1 := by
    subst v1
    split
    · rename_i x3 x4
      apply portDownAfter_keeps
      exact h_s
    · rename_i x5 x6
      apply tileGone_keeps
      exact h_s
    · rename_i x7 x8
      apply tileClusterGone_keeps
      exact h_s
    · rename_i x9
      apply switchGone_keeps
      exact h_s
    · rename_i x10 x11
      apply clusterGone_keeps
      exact h_s
    · rename_i x12 x13
      apply clusterGone_keeps
      exact h_s
    · rename_i x14
      apply matchGone_keeps
      exact h_s
    · rename_i x15
      apply dropInbox_keeps
      apply collReset_keeps
      exact h_s
    · rename_i x16
      apply compassReset_keeps
      exact h_s
    · rename_i x17 x18
      apply attGone_keeps
      exact h_s
    · rename_i x19 x20
      apply sliceGone_keeps
      exact h_s
    · rename_i x21
      apply gzGone_keeps
      exact h_s
    · rename_i x22 x23
      apply closeBypass_keeps
      exact h_s
    · rename_i x24
      apply dropSessions_keeps
      exact h_s
    · rename_i x25
      apply abandonStore_keeps
      exact h_s
    · rename_i x26
      exact h_s
    · rename_i x27
      exact h_s
    · rename_i x28
      exact h_s
    · rename_i x29
      exact h_s
    · rename_i x30
      exact h_s
    · rename_i x31 x32
      exact h_s
    · rename_i x33 x34
      exact h_s
    · rename_i x35 x36
      exact h_s
    · rename_i x37 x38
      exact h_s
    · rename_i x39 x40
      exact h_s
    · rename_i x41 x42
      exact h_s
  clear_value v1
  split
  · rename_i x43 x44 x45
    apply agentDies_keeps
    exact h2
  · rename_i x46 x47
    exact h2

theorem fenceFalls_keeps {s₀ : State} (s : State) (u : UnitId) (h_s : Keeps s₀ s) : Keeps s₀ (fenceFalls s u) := by
  unfold fenceFalls
  split
  · rename_i x1 x2
    apply failStack_keeps
    apply giveUp_keeps
    exact h_s
  · rename_i x3 x4
    apply giveUp_keeps
    exact h_s

theorem settleFences_keeps {s₀ : State} (k : Nat) (b s : State) (h_s : Keeps s₀ s) : Keeps s₀ (settleFences k b s) := by
  induction k generalizing b s with
  | zero =>
    unfold settleFences
    exact h_s
  | succ n ih =>
    unfold settleFences
    extract_lets +onlyGivenNames v1
    clear_value v1
    refine ite_of (Keeps s₀) ?_ ?_
    · exact h_s
    · apply ih
      refine Keeps.foldl ?_ ?_
      · exact h_s
      · intro y2 y3 y4
        apply fenceFalls_keeps
        exact y4

theorem fencing_keeps {s₀ : State} (before : State) (after : State) (h_before : Keeps s₀ before) (h_after : Keeps s₀ after) : Keeps s₀ (fencing before after) := by
  unfold fencing
  apply settleFences_keeps
  exact h_after

theorem fenceUnit_keeps {s₀ : State} (s : State) (u : UnitId) (h_s : Keeps s₀ s) : Keeps s₀ (fenceUnit s u) := by
  unfold fenceUnit
  apply fencing_keeps
  · exact h_s
  · apply markFenced_keeps
    exact h_s

theorem fatalStop_keeps {s₀ : State} (s : State) (u : UnitId) (kind : ErrKind) (sub : Nat) (info : Nat) (h_s : Keeps s₀ s) : Keeps s₀ (fatalStop s u kind sub info) := by
  unfold fatalStop
  extract_lets +onlyGivenNames v1
  clear_value v1
  refine ite_of (Keeps s₀) ?_ ?_
  · apply recordError_keeps
    exact h_s
  · extract_lets +onlyGivenNames v2
    have h3 : Keeps s₀ v2 := by
      subst v2
      apply State.wr_keeps
      apply State.wr_keeps
      exact h_s
    clear_value v2
    extract_lets +onlyGivenNames v4
    have h5 : Keeps s₀ v4 := by
      subst v4
      apply recordError_keeps
      exact h3
    clear_value v4
    extract_lets +onlyGivenNames v6
    have h7 : Keeps s₀ v6 := by
      subst v6
      refine Keeps.foldl ?_ ?_
      · exact h5
      · intro y8 y9 y10
        apply linkDownThen_keeps
        exact y10
    clear_value v6
    apply streamEvent_keeps
    exact h7

theorem dangerous_keeps {s₀ : State} (s : State) (u : UnitId) (kind : ErrKind) (sub : Nat) (info : Nat) (h_s : Keeps s₀ s) : Keeps s₀ (dangerous s u kind sub info) := by
  unfold dangerous
  refine ite_of (Keeps s₀) ?_ ?_
  · apply fatalStop_keeps
    exact h_s
  · apply fenceUnit_keeps
    apply recordError_keeps
    exact h_s


/-! ### Machine/Coherence.lean -/

theorem takeReq_keeps {s₀ : State} (s : State) (i : Nat) (q : HomeReq) (credit : List Nat) (h_s : Keeps s₀ s) : Keeps s₀ (takeReq s i q credit) := by
  unfold takeReq
  extract_lets +onlyGivenNames v1
  clear_value v1
  extract_lets +onlyGivenNames v2
  have h3 : Keeps s₀ v2 := by
    subst v2
    apply showHeld_keeps
    apply State.setSlice_keeps
    exact h_s
  clear_value v2
  extract_lets +onlyGivenNames v4
  have h5 : Keeps s₀ v4 := by
    subst v4
    apply slEvent_keeps
    exact h3
  clear_value v4
  refine ite_of (Keeps s₀) ?_ ?_
  · apply slEvent_keeps
    exact h5
  · exact h5

theorem serveBlocking_keeps {s₀ : State} (s : State) (i : Nat) (q : HomeReq) (credit : List Nat) (h_s : Keeps s₀ s) : Keeps s₀ (serveBlocking s i q credit) := by
  unfold serveBlocking
  split
  · rename_i x1 x2 x3
    extract_lets +onlyGivenNames v4
    have h5 : Keeps s₀ v4 := by
      subst v4
      apply takeReq_keeps
      exact h_s
    clear_value v4
    apply slBump_keeps
    apply setBusy_keeps
    exact h5
  · rename_i x6 x7
    refine ite_of (Keeps s₀) ?_ ?_
    · apply makeWay_keeps
      exact h_s
    · extract_lets +onlyGivenNames v8
      have h9 : Keeps s₀ v8 := by
        subst v8
        apply takeReq_keeps
        exact h_s
      clear_value v8
      extract_lets +onlyGivenNames v10
      clear_value v10
      apply settleAll_keeps
      apply startBusy_keeps
      exact h9

theorem serveCareful_keeps {s₀ : State} (s : State) (i : Nat) (q : HomeReq) (credit : List Nat) (h_s : Keeps s₀ s) : Keeps s₀ (serveCareful s i q credit) := by
  unfold serveCareful
  split
  · rename_i x1 x2
    exact h_s
  · rename_i x3 x4 x5
    refine ite_of (Keeps s₀) ?_ ?_
    · apply makeWay_keeps
      exact h_s
    · extract_lets +onlyGivenNames v6
      have h7 : Keeps s₀ v6 := by
        subst v6
        apply takeReq_keeps
        exact h_s
      clear_value v6
      extract_lets +onlyGivenNames v8
      clear_value v8
      extract_lets +onlyGivenNames v9
      clear_value v9
      extract_lets +onlyGivenNames v10
      clear_value v10
      extract_lets +onlyGivenNames v11
      have h12 : Keeps s₀ v11 := by
        subst v11
        refine ite_of (Keeps s₀) ?_ ?_
        · apply slBump_keeps
          apply setDirSh_keeps
          exact h7
        · exact h7
      clear_value v11
      extract_lets +onlyGivenNames v13
      clear_value v13
      extract_lets +onlyGivenNames v14
      clear_value v14
      extract_lets +onlyGivenNames v15
      clear_value v15
      extract_lets +onlyGivenNames v16
      have h17 : ∀ (s : State) (k : Nat), Keeps s₀ s → Keeps s₀ (v16 s k) := by
        subst v16
        intro y18 y19 y20
        dsimp -zeta only
        apply tell_keeps
        apply stackEvent_keeps
        exact y20
      clear_value v16
      extract_lets +onlyGivenNames v21
      have h22 : ∀ (s : State), Keeps s₀ s → Keeps s₀ (v21 s) := by
        subst v21
        intro y23 y24
        dsimp -zeta only
        refine Keeps.foldl ?_ ?_
        · exact y24
        · intro y25 y26 y27
          apply sendSnp_keeps
          exact y27
      clear_value v21
      refine ite_of (Keeps s₀) ?_ ?_
      · split
        · rename_i x28 x29
          apply h17
          apply setSf_keeps
          exact h12
        · rename_i x30 x31 x32
          apply sendSnp_keeps
          apply setSf_keeps
          exact h12
      · extract_lets +onlyGivenNames v33
        have h34 : ∀ (s : State), Keeps s₀ s → Keeps s₀ (v33 s) := by
          subst v33
          intro y35 y36
          dsimp -zeta only
          apply setSf_keeps
          exact y36
        clear_value v33
        split
        · rename_i x37 x38
          apply h22
          apply h17
          apply h34
          exact h12
        · rename_i x39 x40 x41
          refine ite_of (Keeps s₀) ?_ ?_
          · apply h22
            apply tell_keeps
            apply h34
            exact h12
          · apply h22
            apply sendSnp_keeps
            apply h34
            exact h12

theorem serveKind_keeps {s₀ : State} (s : State) (i : Nat) (k : HomeKind) (h_s : Keeps s₀ s) : Keeps s₀ (serveKind s i k) := by
  unfold serveKind
  refine ite_of (Keeps s₀) ?_ ?_
  · exact h_s
  · split
    · rename_i x1 x2
      exact h_s
    · rename_i x3 x4 x5 x6
      refine ite_of (Keeps s₀) ?_ ?_
      · exact h_s
      · refine ite_of (Keeps s₀) ?_ ?_
        · apply serveBlocking_keeps
          exact h_s
        · apply serveCareful_keeps
          exact h_s

theorem execRdShared_keeps {s₀ : State} (i : Fin 48) (s : State) (h_s : Keeps s₀ s) : Ends (execRdShared i s) (Keeps s₀) := by
  unfold execRdShared
  refine Ends.next ?_
  apply serveKind_keeps
  exact h_s

theorem execRdOwn_keeps {s₀ : State} (i : Fin 48) (s : State) (h_s : Keeps s₀ s) : Ends (execRdOwn i s) (Keeps s₀) := by
  unfold execRdOwn
  refine Ends.next ?_
  apply serveKind_keeps
  exact h_s

theorem execRdNoAlloc_keeps {s₀ : State} (i : Fin 48) (s : State) (h_s : Keeps s₀ s) : Ends (execRdNoAlloc i s) (Keeps s₀) := by
  unfold execRdNoAlloc
  refine Ends.next ?_
  apply serveKind_keeps
  exact h_s

theorem execWrNoAlloc_keeps {s₀ : State} (i : Fin 48) (s : State) (h_s : Keeps s₀ s) : Ends (execWrNoAlloc i s) (Keeps s₀) := by
  unfold execWrNoAlloc
  refine Ends.next ?_
  apply serveKind_keeps
  exact h_s

theorem serveWb_keeps {s₀ : State} (s : State) (i : Nat) (k : WbKind) (h_s : Keeps s₀ s) : Keeps s₀ (serveWb s i k) := by
  unfold serveWb
  refine ite_of (Keeps s₀) ?_ ?_
  · exact h_s
  · split
    · rename_i x1 x2
      exact h_s
    · rename_i x3 x4 x5
      refine ite_of (Keeps s₀) ?_ ?_
      · exact h_s
      · extract_lets +onlyGivenNames v6
        clear_value v6
        extract_lets +onlyGivenNames v7
        have h8 : Keeps s₀ v7 := by
          subst v7
          refine Keeps.upd ?_ rfl
          exact h_s
        clear_value v7
        refine ite_of (Keeps s₀) ?_ ?_
        · apply slBump_keeps
          exact h8
        · apply doWriteback_keeps
          exact h8

theorem execWbMod_keeps {s₀ : State} (i : Fin 48) (s : State) (h_s : Keeps s₀ s) : Ends (execWbMod i s) (Keeps s₀) := by
  unfold execWbMod
  refine Ends.next ?_
  apply serveWb_keeps
  exact h_s

theorem execWbClean_keeps {s₀ : State} (i : Fin 48) (s : State) (h_s : Keeps s₀ s) : Ends (execWbClean i s) (Keeps s₀) := by
  unfold execWbClean
  refine Ends.next ?_
  apply serveWb_keeps
  exact h_s

theorem execEvict_keeps {s₀ : State} (i : Fin 48) (s : State) (h_s : Keeps s₀ s) : Ends (execEvict i s) (Keeps s₀) := by
  unfold execEvict
  refine Ends.next ?_
  apply serveWb_keeps
  exact h_s

theorem takeResponse_keeps {s₀ : State} (s : State) (a : Nat) (line : Nat) (r : SnpAns) (data : List Byte) (bad : Bool) (h_s : Keeps s₀ s) : Keeps s₀ (takeResponse s a line r data bad) := by
  unfold takeResponse
  extract_lets +onlyGivenNames v1
  clear_value v1
  split
  · rename_i x2 x3
    exact h_s
  · rename_i x4 x5 x6
    refine ite_of (Keeps s₀) ?_ ?_
    · exact h_s
    · extract_lets +onlyGivenNames v7
      clear_value v7
      extract_lets +onlyGivenNames v8
      clear_value v8
      extract_lets +onlyGivenNames v9
      have h10 : Keeps s₀ v9 := by
        subst v9
        apply setBusy_keeps
        exact h_s
      clear_value v9
      extract_lets +onlyGivenNames v11
      have h12 : Keeps s₀ v11 := by
        subst v11
        split
        · rename_i x13
          apply stackEvent_keeps
          apply writeLine_keeps
          exact h10
        · rename_i x14
          apply stackEvent_keeps
          apply writeLine_keeps
          exact h10
        · rename_i x15
          apply cnt1_keeps
          apply slBump_keeps
          exact h10
        · rename_i x16 x17 x18 x19
          exact h10
      clear_value v11
      extract_lets +onlyGivenNames v20
      have h21 : Keeps s₀ v20 := by
        subst v20
        split
        · rename_i x22
          apply sfRemove_keeps
          exact h12
        · rename_i x23
          apply sfRemove_keeps
          exact h12
        · rename_i x24
          apply sfRemove_keeps
          exact h12
        · rename_i x25
          apply sfDemote_keeps
          exact h12
        · rename_i x26
          apply sfDemote_keeps
          exact h12
        · rename_i x27
          exact h12
        · rename_i x28
          exact h12
      clear_value v20
      apply settleAll_keeps
      exact h21

theorem carefulHost_keeps {s₀ : State} (s : State) (x : Snp) (h_s : Keeps s₀ s) : Keeps s₀ (carefulHost s x) := by
  unfold carefulHost
  extract_lets +onlyGivenNames v1
  clear_value v1
  extract_lets +onlyGivenNames v2
  have h3 : Keeps s₀ v2 := by
    subst v2
    refine Keeps.upd ?_ rfl
    exact h_s
  clear_value v2
  extract_lets +onlyGivenNames v4
  clear_value v4
  split
  · rename_i x5 x6 x7
    apply tell_keeps
    exact h3
  · rename_i x8 x9 x10
    apply tell_keeps
    apply stackEvent_keeps
    exact h3
  · rename_i x11 x12 x13 x14
    apply tell_keeps
    apply stackEvent_keeps
    exact h3
  · rename_i x15 x16 x17 x18
    exact h3

theorem execHomeSnoopResponse_keeps {s₀ : State} (a : Fin 80) (line : BitVec 46) (h : HostAns) (s : State) (h_s : Keeps s₀ s) : Ends (execHomeSnoopResponse a line h s) (Keeps s₀) := by
  unfold execHomeSnoopResponse
  extract_lets +onlyGivenNames v1
  clear_value v1
  refine ite_of (fun o => Ends o (Keeps s₀)) ?_ ?_
  · refine Ends.next ?_
    refine ite_of (Keeps s₀) ?_ ?_
    · apply slBump_keeps
      exact h_s
    · split
      · rename_i x2 x3 x4
        apply carefulHost_keeps
        exact h_s
      · rename_i x5 x6
        apply takeResponse_keeps
        exact h_s
  · split
    · rename_i x7 x8 x9 x10 x11 x12 x13
      extract_lets +onlyGivenNames v14
      clear_value v14
      extract_lets +onlyGivenNames v15
      have h16 : Keeps s₀ v15 := by
        subst v15
        refine Keeps.upd ?_ rfl
        exact h_s
      clear_value v15
      refine Ends.next ?_
      refine ite_of (Keeps s₀) ?_ ?_
      · apply slBump_keeps
        exact h16
      · apply takeResponse_keeps
        exact h16
    · rename_i x17 x18
      refine Ends.next ?_
      exact h_s

theorem execHomeAck_keeps {s₀ : State} (a : Fin 80) (line : BitVec 46) (s : State) (h_s : Keeps s₀ s) : Ends (execHomeAck a line s) (Keeps s₀) := by
  unfold execHomeAck
  extract_lets +onlyGivenNames v1
  clear_value v1
  extract_lets +onlyGivenNames v2
  clear_value v2
  refine ite_of (fun o => Ends o (Keeps s₀)) ?_ ?_
  · refine Ends.next ?_
    exact h_s
  · extract_lets +onlyGivenNames v3
    clear_value v3
    extract_lets +onlyGivenNames v4
    have h5 : Keeps s₀ v4 := by
      subst v4
      refine Keeps.upd ?_ rfl
      exact h_s
    clear_value v4
    split
    · rename_i x6 x7
      refine Ends.next ?_
      exact h5
    · rename_i x8 x9 x10
      refine ite_of (fun o => Ends o (Keeps s₀)) ?_ ?_
      · refine Ends.next ?_
        apply settleAll_keeps
        apply setBusy_keeps
        exact h5
      · refine Ends.next ?_
        exact h5

theorem execSnoopTimeout_keeps {s₀ : State} (a : Fin 80) (s : State) (h_s : Keeps s₀ s) : Ends (execSnoopTimeout a s) (Keeps s₀) := by
  unfold execSnoopTimeout
  split
  · rename_i x1 x2
    refine Ends.next ?_
    exact h_s
  · rename_i x3 x4 x5 x6
    extract_lets +onlyGivenNames v7
    have h8 : Keeps s₀ v7 := by
      subst v7
      apply State.setEvt_keeps
      apply State.spend_keeps
      exact h_s
    clear_value v7
    extract_lets +onlyGivenNames v9
    have h10 : Keeps s₀ v9 := by
      subst v9
      split
      · rename_i x11 x12 x13
        apply recordError_keeps
        exact h8
      · rename_i x14 x15
        exact h8
    clear_value v9
    refine Ends.next ?_
    apply fencing_keeps
    · exact h10
    · apply agentDies_keeps
      exact h10

theorem execAgentSnoop_keeps {s₀ : State} (a : Fin 80) (line : BitVec 46) (s : State) (h_s : Keeps s₀ s) : Ends (execAgentSnoop a line s) (Keeps s₀) := by
  unfold execAgentSnoop
  extract_lets +onlyGivenNames v1
  clear_value v1
  split
  · rename_i x2 x3
    refine Ends.next ?_
    exact h_s
  · rename_i x4 x5 x6
    refine ite_of (fun o => Ends o (Keeps s₀)) ?_ ?_
    · extract_lets +onlyGivenNames v7
      clear_value v7
      extract_lets +onlyGivenNames v8
      have h9 : Keeps s₀ v8 := by
        subst v8
        apply takeSnoop_keeps
        refine Keeps.upd ?_ rfl
        exact h_s
      clear_value v8
      refine Ends.next ?_
      apply fencing_keeps
      · exact h_s
      · refine ite_of (Keeps s₀) ?_ ?_
        · apply watchSnooped_keeps
          exact h9
        · exact h9
    · refine Ends.next ?_
      exact h_s

theorem withMessage_keeps {s₀ : State} (s : State) (a : Nat) (line : Nat) (f : State → AgentMsg → Option State) (h_s : Keeps s₀ s) (h_f : ∀ (a : State) (a_1 : AgentMsg), Keeps s₀ a → KeepsO s₀ (f a a_1)) : Keeps s₀ (withMessage s a line f) := by
  unfold withMessage
  split
  · rename_i x1 x2
    exact h_s
  · rename_i x3 x4 x5
    refine ite_of (Keeps s₀) ?_ ?_
    · refine Keeps.getD ?_ ?_
      · apply h_f
        refine Keeps.upd ?_ rfl
        exact h_s
      · exact h_s
    · exact h_s

theorem execAgentGrant_keeps {s₀ : State} (a : Fin 80) (line : BitVec 46) (s : State) (h_s : Keeps s₀ s) : Ends (execAgentGrant a line s) (Keeps s₀) := by
  unfold execAgentGrant
  refine Ends.next ?_
  apply fencing_keeps
  · exact h_s
  · apply withMessage_keeps
    · exact h_s
    · intro y1 y2 y3
      split
      · rename_i x4 x5 x6
        refine KeepsO.ofSome ?_
        apply takeGrant_keeps
        exact y3
      · rename_i x7 x8 x9
        refine KeepsO.ofSome ?_
        apply takeGrant_keeps
        exact y3
      · rename_i x10 x11 x12
        exact KeepsO.ofNone _

theorem execAgentCmp_keeps {s₀ : State} (a : Fin 80) (line : BitVec 46) (s : State) (h_s : Keeps s₀ s) : Ends (execAgentCmp a line s) (Keeps s₀) := by
  unfold execAgentCmp
  refine Ends.next ?_
  apply fencing_keeps
  · exact h_s
  · apply withMessage_keeps
    · exact h_s
    · intro y1 y2 y3
      split
      · rename_i x4
        refine KeepsO.ofSome ?_
        apply takeCmp_keeps
        exact y3
      · rename_i x5 x6
        exact KeepsO.ofNone _

theorem execAgentLoad_keeps {s₀ : State} (a : Fin 80) (line : BitVec 46) (s : State) (h_s : Keeps s₀ s) : Ends (execAgentLoad a line s) (Keeps s₀) := by
  unfold execAgentLoad
  refine Ends.next ?_
  refine ite_of (Keeps s₀) ?_ ?_
  · apply localOp_keeps
    exact h_s
  · exact h_s

theorem execAgentStore_keeps {s₀ : State} (a : Fin 80) (line : BitVec 46) (off : Fin 64) (bytes : List Byte) (s : State) (h_s : Keeps s₀ s) : Ends (execAgentStore a line off bytes s) (Keeps s₀) := by
  unfold execAgentStore
  refine Ends.next ?_
  refine ite_of (Keeps s₀) ?_ ?_
  · apply localOp_keeps
    exact h_s
  · exact h_s

theorem execAgentReplace_keeps {s₀ : State} (a : Fin 80) (line : BitVec 46) (s : State) (h_s : Keeps s₀ s) : Ends (execAgentReplace a line s) (Keeps s₀) := by
  unfold execAgentReplace
  refine Ends.next ?_
  refine ite_of (Keeps s₀) ?_ ?_
  · apply localOp_keeps
    exact h_s
  · exact h_s

theorem execAgentData_keeps {s₀ : State} (a : Fin 80) (line : BitVec 46) (s : State) (h_s : Keeps s₀ s) : Ends (execAgentData a line s) (Keeps s₀) := by
  unfold execAgentData
  refine Ends.next ?_
  apply fencing_keeps
  · exact h_s
  · apply withMessage_keeps
    · exact h_s
    · intro y1 y2 y3
      split
      · rename_i x4 x5 x6 x7
        refine KeepsO.ofSome ?_
        apply takeData_keeps
        exact y3
      · rename_i x8 x9
        exact KeepsO.ofNone _

theorem execAgentInvack_keeps {s₀ : State} (a : Fin 80) (line : BitVec 46) (s : State) (h_s : Keeps s₀ s) : Ends (execAgentInvack a line s) (Keeps s₀) := by
  unfold execAgentInvack
  refine Ends.next ?_
  apply fencing_keeps
  · exact h_s
  · apply withMessage_keeps
    · exact h_s
    · intro y1 y2 y3
      split
      · rename_i x4
        refine KeepsO.ofSome ?_
        apply takeInvAck_keeps
        exact y3
      · rename_i x5 x6
        exact KeepsO.ofNone _

theorem execAgentGntm_keeps {s₀ : State} (a : Fin 80) (line : BitVec 46) (s : State) (h_s : Keeps s₀ s) : Ends (execAgentGntm a line s) (Keeps s₀) := by
  unfold execAgentGntm
  refine Ends.next ?_
  apply fencing_keeps
  · exact h_s
  · apply withMessage_keeps
    · exact h_s
    · intro y1 y2 y3
      split
      · rename_i x4 x5
        refine KeepsO.ofSome ?_
        apply takeGntM_keeps
        exact y3
      · rename_i x6 x7
        exact KeepsO.ofNone _

theorem rebuildSf_keeps {s₀ : State} (s : State) (line : Nat) (h_s : Keeps s₀ s) : Keeps s₀ (rebuildSf s line) := by
  unfold rebuildSf
  refine ite_of (Keeps s₀) ?_ ?_
  · exact h_s
  · apply settle_keeps
    apply startBusy_keeps
    exact h_s

theorem enterService_keeps {s₀ : State} (s : State) (i : Nat) (h_s : Keeps s₀ s) : Keeps s₀ (enterService s i) := by
  unfold enterService
  extract_lets +onlyGivenNames v1
  clear_value v1
  extract_lets +onlyGivenNames v2
  clear_value v2
  extract_lets +onlyGivenNames v3
  have h4 : Keeps s₀ v3 := by
    subst v3
    refine Keeps.upd ?_ rfl
    exact h_s
  clear_value v3
  apply pumpExtents_keeps
  refine Keeps.foldl ?_ ?_
  · apply setMode_keeps
    exact h4
  · intro y5 y6 y7
    apply rebuildSf_keeps
    exact y7

theorem startDrain_keeps {s₀ : State} (s : State) (i : Nat) (h_s : Keeps s₀ s) : Keeps s₀ (startDrain s i) := by
  unfold startDrain
  extract_lets +onlyGivenNames v1
  clear_value v1
  extract_lets +onlyGivenNames v2
  have h3 : Keeps s₀ v2 := by
    subst v2
    apply setMode_keeps
    exact h_s
  clear_value v2
  extract_lets +onlyGivenNames v4
  clear_value v4
  extract_lets +onlyGivenNames v5
  have h6 : Keeps s₀ v5 := by
    subst v5
    apply State.setSlice_keeps
    exact h3
  clear_value v5
  refine ite_of (Keeps s₀) ?_ ?_
  · apply enterService_keeps
    exact h6
  · refine Keeps.foldl ?_ ?_
    · exact h6
    · intro y7 y8 y9
      apply sendSnp_keeps
      exact y9

theorem execAgentSnpdrain_keeps {s₀ : State} (a : Fin 80) (i : Fin 48) (s : State) (h_s : Keeps s₀ s) : Ends (execAgentSnpdrain a i s) (Keeps s₀) := by
  unfold execAgentSnpdrain
  split
  · rename_i x1 x2
    refine Ends.next ?_
    exact h_s
  · rename_i x3 x4 x5
    extract_lets +onlyGivenNames v6
    clear_value v6
    refine ite_of (fun o => Ends o (Keeps s₀)) ?_ ?_
    · refine Ends.next ?_
      exact h_s
    · extract_lets +onlyGivenNames v7
      clear_value v7
      refine ite_of (fun o => Ends o (Keeps s₀)) ?_ ?_
      · refine Ends.next ?_
        refine Keeps.foldl ?_ ?_
        · exact h_s
        · intro y8 y9 y10
          apply agentWb_keeps
          apply setLine_keeps
          exact y10
      · extract_lets +onlyGivenNames v11
        clear_value v11
        extract_lets +onlyGivenNames v12
        have h13 : Keeps s₀ v12 := by
          subst v12
          refine Keeps.upd ?_ rfl
          exact h_s
        clear_value v12
        refine Ends.next ?_
        refine Keeps.foldl ?_ ?_
        · exact h13
        · intro y14 y15 y16
          apply retryAll_keeps
          exact y16

theorem execRspdrain_keeps {s₀ : State} (a : Fin 80) (i : Fin 48) (s : State) (h_s : Keeps s₀ s) : Ends (execRspdrain a i s) (Keeps s₀) := by
  unfold execRspdrain
  extract_lets +onlyGivenNames v1
  clear_value v1
  refine ite_of (fun o => Ends o (Keeps s₀)) ?_ ?_
  · refine Ends.next ?_
    exact h_s
  · extract_lets +onlyGivenNames v2
    clear_value v2
    extract_lets +onlyGivenNames v3
    have h4 : Keeps s₀ v3 := by
      subst v3
      refine Keeps.upd ?_ rfl
      exact h_s
    clear_value v3
    refine ite_of (fun o => Ends o (Keeps s₀)) ?_ ?_
    · refine Ends.next ?_
      apply slBump_keeps
      exact h4
    · extract_lets +onlyGivenNames v5
      clear_value v5
      extract_lets +onlyGivenNames v6
      have h7 : Keeps s₀ v6 := by
        subst v6
        apply State.setSlice_keeps
        exact h4
      clear_value v6
      refine Ends.next ?_
      refine ite_of (Keeps s₀) ?_ ?_
      · apply enterService_keeps
        exact h7
      · exact h7

theorem execEnterCareful_keeps {s₀ : State} (r : Route) (i : Fin 48) (s : State) (h_s : Keeps s₀ s) : Ends (execEnterCareful r i s) (Keeps s₀) := by
  unfold execEnterCareful
  refine Ends.next ?_
  apply guarded_keeps
  · exact h_s
  · intro y1 y2
    refine ite_of (Keeps s₀) ?_ ?_
    · apply setMode_keeps
      exact y2
    · exact y2

theorem execCarefulEntered_keeps {s₀ : State} (i : Fin 48) (s : State) (h_s : Keeps s₀ s) : Ends (execCarefulEntered i s) (Keeps s₀) := by
  unfold execCarefulEntered
  refine Ends.next ?_
  refine ite_of (Keeps s₀) ?_ ?_
  · apply setMode_keeps
    exact h_s
  · exact h_s

theorem execLeaveCareful_keeps {s₀ : State} (r : Route) (i : Fin 48) (s : State) (h_s : Keeps s₀ s) : Ends (execLeaveCareful r i s) (Keeps s₀) := by
  unfold execLeaveCareful
  refine Ends.next ?_
  apply guarded_keeps
  · exact h_s
  · intro y1 y2
    refine ite_of (Keeps s₀) ?_ ?_
    · apply startDrain_keeps
      exact y2
    · exact y2

theorem execAgentKill_keeps {s₀ : State} (r : Route) (s : State) (h_s : Keeps s₀ s) : Ends (execAgentKill r s) (Keeps s₀) := by
  unfold execAgentKill
  refine Ends.next ?_
  apply guarded_keeps
  · exact h_s
  · intro y1 y2
    apply fencing_keeps
    · exact y2
    · apply agentDies_keeps
      exact y2

theorem scanSlice_keeps {s₀ : State} (s : State) (i : Nat) (d : Nat) (h_s : Keeps s₀ s) : Keeps s₀ (scanSlice s i d) := by
  unfold scanSlice
  refine Keeps.foldl ?_ ?_
  · exact h_s
  · intro y1 y2 y3
    split
    · rename_i x4 x5
      exact y3
    · rename_i x6 x7 x8
      refine ite_of (Keeps s₀) ?_ ?_
      · apply loseLine_keeps
        exact y3
      · apply sfRemove_keeps
        exact y3

theorem recoveryStep_keeps {s₀ : State} (s : State) (i : Nat) (d : Nat) (h_s : Keeps s₀ s) : Keeps s₀ (recoveryStep s i d) := by
  unfold recoveryStep
  extract_lets +onlyGivenNames v1
  clear_value v1
  extract_lets +onlyGivenNames v2
  clear_value v2
  extract_lets +onlyGivenNames v3
  clear_value v3
  extract_lets +onlyGivenNames v4
  have h5 : Keeps s₀ v4 := by
    subst v4
    refine Keeps.upd ?_ rfl
    exact h_s
  clear_value v4
  apply showRecovery_keeps
  refine Keeps.foldl ?_ ?_
  · exact h5
  · intro y6 y7 y8
    apply deviceEvent_keeps
    exact y8

theorem execReclaimScanDone_keeps {s₀ : State} (i : Fin 48) (s : State) (h_s : Keeps s₀ s) : Ends (execReclaimScanDone i s) (Keeps s₀) := by
  unfold execReclaimScanDone
  split
  · rename_i x1 x2
    refine Ends.next ?_
    exact h_s
  · rename_i x3 x4 x5
    refine ite_of (fun o => Ends o (Keeps s₀)) ?_ ?_
    · refine Ends.next ?_
      exact h_s
    · extract_lets +onlyGivenNames v6
      have h7 : Keeps s₀ v6 := by
        subst v6
        apply recoveryStep_keeps
        apply scanSlice_keeps
        exact h_s
      clear_value v6
      refine Ends.next ?_
      refine ite_of (Keeps s₀) ?_ ?_
      · exact h7
      · apply startDrain_keeps
        exact h7

theorem startBct_keeps {s₀ : State} (s : State) (h_s : Keeps s₀ s) : Keeps s₀ (startBct s) := by
  unfold startBct
  extract_lets +onlyGivenNames v1
  have h2 : Keeps s₀ v1 := by
    subst v1
    apply State.wr_keeps
    exact h_s
  clear_value v1
  refine Keeps.foldl ?_ ?_
  · exact h2
  · intro y3 y4 y5
    apply setMode_keeps
    exact y5

theorem execBctRun_keeps {s₀ : State} (r : Route) (s : State) (h_s : Keeps s₀ s) : Ends (execBctRun r s) (Keeps s₀) := by
  unfold execBctRun
  refine Ends.next ?_
  apply guarded_keeps
  · exact h_s
  · intro y1 y2
    refine ite_of (Keeps s₀) ?_ ?_
    · exact y2
    · apply startBct_keeps
      exact y2

theorem execBctDone_keeps {s₀ : State} (ok : Bool) (i : Fin 48) (s : State) (h_s : Keeps s₀ s) : Ends (execBctDone ok i s) (Keeps s₀) := by
  unfold execBctDone
  refine ite_of (fun o => Ends o (Keeps s₀)) ?_ ?_
  · refine Ends.next ?_
    exact h_s
  · extract_lets +onlyGivenNames v1
    have h2 : Keeps s₀ v1 := by
      subst v1
      apply State.setEvt_keeps
      exact h_s
    clear_value v1
    extract_lets +onlyGivenNames v3
    have h4 : Keeps s₀ v3 := by
      subst v3
      refine ite_of (Keeps s₀) ?_ ?_
      · apply State.wr_keeps
        exact h2
      · apply State.wr_keeps
        apply State.wr_keeps
        exact h2
    clear_value v3
    refine ite_of (fun o => Ends o (Keeps s₀)) ?_ ?_
    · extract_lets +onlyGivenNames v5
      clear_value v5
      extract_lets +onlyGivenNames v6
      have h7 : Keeps s₀ v6 := by
        subst v6
        refine Keeps.upd ?_ rfl
        exact h4
      clear_value v6
      refine Ends.next ?_
      apply fatalStop_keeps
      exact h7
    · extract_lets +onlyGivenNames v8
      clear_value v8
      extract_lets +onlyGivenNames v9
      have h10 : Keeps s₀ v9 := by
        subst v9
        refine Keeps.upd ?_ rfl
        exact h4
      clear_value v9
      refine Ends.next ?_
      refine Keeps.foldl ?_ ?_
      · exact h10
      · intro y11 y12 y13
        refine ite_of (Keeps s₀) ?_ ?_
        · exact y13
        · apply startDrain_keeps
          exact y13

theorem execSfEccError_keeps {s₀ : State} (line : SfUpset) (s : State) (h_s : Keeps s₀ s) : Ends (execSfEccError line s) (Keeps s₀) := by
  unfold execSfEccError
  extract_lets +onlyGivenNames v1
  clear_value v1
  extract_lets +onlyGivenNames v2
  clear_value v2
  refine ite_of (fun o => Ends o (Keeps s₀)) ?_ ?_
  · refine Ends.next ?_
    exact h_s
  · extract_lets +onlyGivenNames v3
    have h4 : Keeps s₀ v3 := by
      subst v3
      apply State.setEvt_keeps
      exact h_s
    clear_value v3
    extract_lets +onlyGivenNames v5
    have h6 : Keeps s₀ v5 := by
      subst v5
      apply recordError_keeps
      exact h4
    clear_value v5
    refine Ends.next ?_
    refine ite_of (Keeps s₀) ?_ ?_
    · exact h6
    · refine ite_of (Keeps s₀) ?_ ?_
      · refine Keeps.upd ?_ rfl
        exact h6
      · apply pumpExtents_keeps
        apply rebuildSf_keeps
        exact h6

theorem execSliceCntClr_keeps {s₀ : State} (r : Route) (i : Fin 48) (s : State) (h_s : Keeps s₀ s) : Ends (execSliceCntClr r i s) (Keeps s₀) := by
  unfold execSliceCntClr
  extract_lets +onlyGivenNames v1
  clear_value v1
  refine Ends.next ?_
  apply guarded_keeps
  · exact h_s
  · intro y2 y3
    extract_lets +onlyGivenNames v4
    have h5 : Keeps s₀ v4 := by
      subst v4
      apply State.clearAll_keeps
      exact y3
    clear_value v4
    apply State.wr_keeps
    exact h5


/-! ### Machine/Counters.lean -/

theorem applySel_keeps {s₀ : State} (s : State) (u : UnitId) (kvs : List (Nat × Nat)) (h_s : Keeps s₀ s) : Keeps s₀ (applySel s u kvs) := by
  unfold applySel
  split
  · rename_i x1 x2
    exact h_s
  · rename_i x3 x4 x5
    refine ite_of (Keeps s₀) ?_ ?_
    · exact h_s
    · extract_lets +onlyGivenNames v6
      clear_value v6
      extract_lets +onlyGivenNames v7
      have h8 : Keeps s₀ v7 := by
        subst v7
        refine Keeps.upd ?_ rfl
        exact h_s
      clear_value v7
      extract_lets +onlyGivenNames v9
      have h10 : Keeps s₀ v9 := by
        subst v9
        apply State.wr_keeps
        exact h8
      clear_value v9
      extract_lets +onlyGivenNames v11
      clear_value v11
      extract_lets +onlyGivenNames v12
      have h13 : Keeps s₀ v12 := by
        subst v12
        apply State.setGz_keeps
        exact h10
      clear_value v12
      extract_lets +onlyGivenNames v14
      clear_value v14
      refine ite_of (Keeps s₀) ?_ ?_
      · apply configError_keeps
        exact h13
      · exact h13

theorem bankPut_keeps {s₀ : State} (s : State) (u : UnitId) (kvs : List (Nat × Nat)) (h_s : Keeps s₀ s) : Keeps s₀ (bankPut s u kvs) := by
  unfold bankPut
  refine ite_of (Keeps s₀) ?_ ?_
  · apply State.setGz_keeps
    exact h_s
  · apply applySel_keeps
    exact h_s

theorem applyHeld_keeps {s₀ : State} (s : State) (h_s : Keeps s₀ s) : Keeps s₀ (applyHeld s) := by
  unfold applyHeld
  refine Keeps.foldl ?_ ?_
  · exact h_s
  · intro y1 y2 y3
    refine ite_of (Keeps s₀) ?_ ?_
    · extract_lets +onlyGivenNames v4
      clear_value v4
      extract_lets +onlyGivenNames v5
      clear_value v5
      extract_lets +onlyGivenNames v6
      have h7 : Keeps s₀ v6 := by
        subst v6
        apply State.setGz_keeps
        exact y3
      clear_value v6
      apply applySel_keeps
      exact h7
    · exact y3

theorem putFields_keeps {s₀ : State} (s : State) (u : UnitId) (w : Nat) (v : Nat) (acc : Field → Bool) (act : State → List (Nat × Nat) → State) (h_s : Keeps s₀ s) (h_act : ∀ (a : State) (a_1 : List (Nat × Nat)), Keeps s₀ a → Keeps s₀ (act a a_1)) : Keeps s₀ (putFields s u w v acc act) := by
  unfold putFields
  extract_lets +onlyGivenNames v1
  clear_value v1
  extract_lets +onlyGivenNames v2
  have h3 : Keeps s₀ v2 := by
    subst v2
    refine ite_of (Keeps s₀) ?_ ?_
    · apply configError_keeps
      exact h_s
    · exact h_s
  clear_value v2
  refine ite_of (Keeps s₀) ?_ ?_
  · exact h3
  · apply h_act
    exact h3

theorem selWrite_keeps {s₀ : State} (s : State) (r : Route) (u : UnitId) (off : Nat) (v : Nat) (h_s : Keeps s₀ s) : Keeps s₀ (selWrite s r u off v) := by
  unfold selWrite
  refine ite_of (Keeps s₀) ?_ ?_
  · apply postFp_keeps
    exact h_s
  · apply putFields_keeps
    · exact h_s
    · intro y1 y2 y3
      apply bankPut_keeps
      exact y3

theorem execCounterSelWrite_keeps {s₀ : State} (r : Route) (w : BusWrite) (s : State) (h_s : Keeps s₀ s) : Ends (execCounterSelWrite r w s) (Keeps s₀) := by
  unfold execCounterSelWrite
  extract_lets +onlyGivenNames v1
  clear_value v1
  extract_lets +onlyGivenNames v2
  clear_value v2
  refine ite_of (fun o => Ends o (Keeps s₀)) ?_ ?_
  · refine Ends.next ?_
    exact h_s
  · refine Ends.next ?_
    split
    · rename_i x3 x4 x5
      apply accViol_keeps
      exact h_s
    · rename_i x6 x7
      refine ite_of (Keeps s₀) ?_ ?_
      · apply selWrite_keeps
        exact h_s
      · exact h_s

theorem execSweepTick_keeps {s₀ : State} (s : State) (h_s : Keeps s₀ s) : Ends (execSweepTick s) (Keeps s₀) := by
  unfold execSweepTick
  refine ite_of (fun o => Ends o (Keeps s₀)) ?_ ?_
  · refine Ends.next ?_
    exact h_s
  · extract_lets +onlyGivenNames v1
    clear_value v1
    extract_lets +onlyGivenNames v2
    clear_value v2
    extract_lets +onlyGivenNames v3
    have h4 : Keeps s₀ v3 := by
      subst v3
      apply State.setGz_keeps
      exact h_s
    clear_value v3
    refine ite_of (fun o => Ends o (Keeps s₀)) ?_ ?_
    · extract_lets +onlyGivenNames v5
      have h6 : Keeps s₀ v5 := by
        subst v5
        apply State.setEvt_keeps
        apply State.bump_keeps
        exact h4
      clear_value v5
      refine Ends.next ?_
      apply applyHeld_keeps
      apply State.setGz_keeps
      exact h6
    · extract_lets +onlyGivenNames v7
      clear_value v7
      extract_lets +onlyGivenNames v8
      clear_value v8
      refine Ends.next ?_
      apply applyHeld_keeps
      apply State.setGz_keeps
      exact h4

theorem gzWrite_keeps {s₀ : State} (s : State) (da : Nat) (b : List Byte) (h_s : Keeps s₀ s) : Keeps s₀ (gzWrite s da b) := by
  unfold gzWrite
  split
  · rename_i x1 x2
    apply directWrite_keeps
    exact h_s
  · rename_i x3 x4 x5 x6
    apply State.emit_keeps
    exact h_s
  · rename_i x7 x8 x9
    exact h_s

theorem dumpLost_keeps {s₀ : State} (s : State) (h_s : Keeps s₀ s) : Keeps s₀ (dumpLost s) := by
  unfold dumpLost
  extract_lets +onlyGivenNames v1
  have h2 : Keeps s₀ v1 := by
    subst v1
    apply State.setEvt_keeps
    apply State.bump_keeps
    exact h_s
  clear_value v1
  extract_lets +onlyGivenNames v3
  clear_value v3
  extract_lets +onlyGivenNames v4
  clear_value v4
  extract_lets +onlyGivenNames v5
  have h6 : Keeps s₀ v5 := by
    subst v5
    apply State.setGz_keeps
    exact h2
  clear_value v5
  refine ite_of (Keeps s₀) ?_ ?_
  · exact h6
  · apply deviceEvent_keeps
    exact h6

theorem dumpToStream_keeps {s₀ : State} (s : State) (b : List Byte) (h_s : Keeps s₀ s) : Keeps s₀ (dumpToStream s b) := by
  unfold dumpToStream
  split
  · rename_i x1 x2
    exact h_s
  · rename_i x3 x4 x5
    extract_lets +onlyGivenNames v6
    clear_value v6
    extract_lets +onlyGivenNames v7
    extract_lets +onlyGivenNames v8
    clear_value v8
    extract_lets +onlyGivenNames v9
    have h10 : Keeps s₀ v9 := by
      subst v9
      refine Keeps.upd ?_ rfl
      exact h_s
    clear_value v9
    refine ite_of (Keeps s₀) ?_ ?_
    · apply streamPut_keeps
      exact h10
    · exact h10

theorem gzStop_keeps {s₀ : State} (s : State) (h_s : Keeps s₀ s) : Keeps s₀ (gzStop s) := by
  unfold gzStop
  apply applyHeld_keeps
  apply State.wr_keeps
  apply State.setGz_keeps
  exact h_s

theorem dumpOver_keeps {s₀ : State} (s : State) (h_s : Keeps s₀ s) : Keeps s₀ (dumpOver s) := by
  unfold dumpOver
  extract_lets +onlyGivenNames v1
  clear_value v1
  extract_lets +onlyGivenNames v2
  have h3 : Keeps s₀ v2 := by
    subst v2
    apply State.setGz_keeps
    exact h_s
  clear_value v2
  refine ite_of (Keeps s₀) ?_ ?_
  · apply gzStop_keeps
    exact h3
  · exact h3

theorem execDumpWritten_keeps {s₀ : State} (fault : Bool) (s : State) (h_s : Keeps s₀ s) : Ends (execDumpWritten fault s) (Keeps s₀) := by
  unfold execDumpWritten
  split
  · rename_i x1 x2
    refine Ends.next ?_
    exact h_s
  · rename_i x3 x4 x5
    extract_lets +onlyGivenNames v6
    clear_value v6
    extract_lets +onlyGivenNames v7
    clear_value v7
    extract_lets +onlyGivenNames v8
    clear_value v8
    extract_lets +onlyGivenNames v9
    clear_value v9
    extract_lets +onlyGivenNames v10
    clear_value v10
    extract_lets +onlyGivenNames v11
    clear_value v11
    refine ite_of (fun o => Ends o (Keeps s₀)) ?_ ?_
    · refine Ends.next ?_
      apply dumpOver_keeps
      apply dumpLost_keeps
      exact h_s
    · refine ite_of (fun o => Ends o (Keeps s₀)) ?_ ?_
      · refine Ends.next ?_
        apply dumpOver_keeps
        apply dumpLost_keeps
        apply State.setEvt_keeps
        exact h_s
      · extract_lets +onlyGivenNames v12
        clear_value v12
        extract_lets +onlyGivenNames v13
        have h14 : Keeps s₀ v13 := by
          subst v13
          refine ite_of (Keeps s₀) ?_ ?_
          · exact h_s
          · apply gzWrite_keeps
            refine Keeps.upd ?_ rfl
            exact h_s
        clear_value v13
        extract_lets +onlyGivenNames v15
        have h16 : Keeps s₀ v15 := by
          subst v15
          apply gzWrite_keeps
          exact h14
        clear_value v15
        extract_lets +onlyGivenNames v17
        clear_value v17
        extract_lets +onlyGivenNames v18
        have h19 : Keeps s₀ v18 := by
          subst v18
          apply State.wr_keeps
          apply State.wr_keeps
          exact h16
        clear_value v18
        extract_lets +onlyGivenNames v20
        clear_value v20
        extract_lets +onlyGivenNames v21
        have h22 : Keeps s₀ v21 := by
          subst v21
          refine ite_of (Keeps s₀) ?_ ?_
          · exact h19
          · apply gzWrite_keeps
            exact h19
        clear_value v21
        extract_lets +onlyGivenNames v23
        have h24 : Keeps s₀ v23 := by
          subst v23
          apply countEv_keeps
          apply cnt1_keeps
          exact h22
        clear_value v23
        refine Ends.next ?_
        apply dumpOver_keeps
        apply dumpToStream_keeps
        apply State.setGz_keeps
        exact h24

theorem execGzCiWrite_keeps {s₀ : State} (r : Route) (x : BitVec 32) (s : State) (h_s : Keeps s₀ s) : Ends (execGzCiWrite r x s) (Keeps s₀) := by
  unfold execGzCiWrite
  refine Ends.next ?_
  apply guarded_keeps
  · exact h_s
  · intro y1 y2
    refine ite_of (Keeps s₀) ?_ ?_
    · apply State.wr_keeps
      exact y2
    · apply configError_keeps
      exact y2

theorem execGzEnWrite_keeps {s₀ : State} (r : Route) (x : BitVec 32) (s : State) (h_s : Keeps s₀ s) : Ends (execGzEnWrite r x s) (Keeps s₀) := by
  unfold execGzEnWrite
  refine Ends.next ?_
  apply guarded_keeps
  · exact h_s
  · intro y1 y2
    refine ite_of (Keeps s₀) ?_ ?_
    · refine ite_of (Keeps s₀) ?_ ?_
      · apply State.setGz_keeps
        exact y2
      · apply State.wr_keeps
        apply State.setGz_keeps
        exact y2
    · refine ite_of (Keeps s₀) ?_ ?_
      · exact y2
      · refine ite_of (Keeps s₀) ?_ ?_
        · apply State.setGz_keeps
          exact y2
        · apply gzStop_keeps
          exact y2

theorem execGzCntClr_keeps {s₀ : State} (r : Route) (s : State) (h_s : Keeps s₀ s) : Ends (execGzCntClr r s) (Keeps s₀) := by
  unfold execGzCntClr
  refine Ends.next ?_
  apply guarded_keeps
  · exact h_s
  · intro y1 y2
    apply State.clearAll_keeps
    exact y2

theorem execTrailEnWrite_keeps {s₀ : State} (r : Route) (x : BitVec 32) (s : State) (h_s : Keeps s₀ s) : Ends (execTrailEnWrite r x s) (Keeps s₀) := by
  unfold execTrailEnWrite
  refine Ends.next ?_
  apply guarded_keeps
  · exact h_s
  · intro y1 y2
    extract_lets +onlyGivenNames v3
    clear_value v3
    extract_lets +onlyGivenNames v4
    clear_value v4
    extract_lets +onlyGivenNames v5
    have h6 : Keeps s₀ v5 := by
      subst v5
      apply State.wr_keeps
      apply State.wr_keeps
      apply State.wr_keeps
      apply State.wr_keeps
      apply State.wr_keeps
      exact y2
    clear_value v5
    refine ite_of (Keeps s₀) ?_ ?_
    · refine Keeps.foldl ?_ ?_
      · refine ite_of (Keeps s₀) ?_ ?_
        · exact h6
        · apply State.setGz_keeps
          exact h6
      · intro y7 y8 y9
        apply trailReload_keeps
        exact y9
    · exact h6

theorem execTrailItemEnd_keeps {s₀ : State} (s : State) (h_s : Keeps s₀ s) : Ends (execTrailItemEnd s) (Keeps s₀) := by
  unfold execTrailItemEnd
  split
  · rename_i x1 x2
    refine Ends.next ?_
    exact h_s
  · rename_i x3 x4 x5
    extract_lets +onlyGivenNames v6
    clear_value v6
    extract_lets +onlyGivenNames v7
    clear_value v7
    extract_lets +onlyGivenNames v8
    have h9 : Keeps s₀ v8 := by
      subst v8
      apply State.setGz_keeps
      exact h_s
    clear_value v8
    refine ite_of (fun o => Ends o (Keeps s₀)) ?_ ?_
    · extract_lets +onlyGivenNames v10
      clear_value v10
      extract_lets +onlyGivenNames v11
      have h12 : Keeps s₀ v11 := by
        subst v11
        apply State.setGz_keeps
        exact h9
      clear_value v11
      refine Ends.next ?_
      apply cnt1_keeps
      apply State.wr_keeps
      exact h12
    · refine Ends.next ?_
      apply trailLost_keeps
      exact h9

theorem execTrailRecordMove_keeps {s₀ : State} (fault : Bool) (s : State) (h_s : Keeps s₀ s) : Ends (execTrailRecordMove fault s) (Keeps s₀) := by
  unfold execTrailRecordMove
  split
  · rename_i x1 x2
    refine Ends.next ?_
    exact h_s
  · rename_i x3 x4 x5 x6
    extract_lets +onlyGivenNames v7
    clear_value v7
    extract_lets +onlyGivenNames v8
    clear_value v8
    extract_lets +onlyGivenNames v9
    clear_value v9
    refine ite_of (fun o => Ends o (Keeps s₀)) ?_ ?_
    · refine Ends.next ?_
      exact h_s
    · extract_lets +onlyGivenNames v10
      clear_value v10
      extract_lets +onlyGivenNames v11
      have h12 : Keeps s₀ v11 := by
        subst v11
        apply State.wr_keeps
        apply State.setGz_keeps
        exact h_s
      clear_value v11
      refine ite_of (fun o => Ends o (Keeps s₀)) ?_ ?_
      · refine Ends.next ?_
        apply trailLost_keeps
        apply State.setEvt_keeps
        exact h12
      · refine Ends.next ?_
        apply State.wr_keeps
        apply gzWrite_keeps
        exact h12


/-! ### Machine/Mgmt.lean -/

theorem forwardFrame_keeps {s₀ : State} (s : State) (p : Nat) (e : Nat → Emit) (h_s : Keeps s₀ s) : Keeps s₀ (forwardFrame s p e) := by
  unfold forwardFrame
  extract_lets +onlyGivenNames v1
  clear_value v1
  refine ite_of (Keeps s₀) ?_ ?_
  · apply cnt1_keeps
    apply cnt1_keeps
    apply State.bump_keeps
    apply State.emit_keeps
    exact h_s
  · apply State.bump_keeps
    exact h_s

theorem takeHello_keeps {s₀ : State} (s : State) (p : Nat) (x : List Byte) (h_s : Keeps s₀ s) : Keeps s₀ (takeHello s p x) := by
  unfold takeHello
  extract_lets +onlyGivenNames v1
  clear_value v1
  extract_lets +onlyGivenNames v2
  have h3 : Keeps s₀ v2 := by
    subst v2
    apply State.wr64_keeps
    apply State.wr_keeps
    apply State.wr_keeps
    apply State.wr_keeps
    exact h_s
  clear_value v2
  extract_lets +onlyGivenNames v4
  clear_value v4
  extract_lets +onlyGivenNames v5
  have h6 : Keeps s₀ v5 := by
    subst v5
    apply State.setMg_keeps
    exact h3
  clear_value v5
  refine ite_of (Keeps s₀) ?_ ?_
  · apply setBroken_keeps
    exact h6
  · exact h6

theorem execMgmtFrameReceive_keeps {s₀ : State} (p : Fin 2) (f : MgmtFrame) (s : State) (h_s : Keeps s₀ s) : Ends (execMgmtFrameReceive p f s) (Keeps s₀) := by
  unfold execMgmtFrameReceive
  extract_lets +onlyGivenNames v1
  clear_value v1
  refine ite_of (fun o => Ends o (Keeps s₀)) ?_ ?_
  · refine Ends.next ?_
    exact h_s
  · refine ite_of (fun o => Ends o (Keeps s₀)) ?_ ?_
    · refine Ends.next ?_
      apply State.bump_keeps
      exact h_s
    · refine ite_of (fun o => Ends o (Keeps s₀)) ?_ ?_
      · refine Ends.next ?_
        exact h_s
      · extract_lets +onlyGivenNames v2
        have h3 : Keeps s₀ v2 := by
          subst v2
          apply cnt1_keeps
          exact h_s
        clear_value v2
        extract_lets +onlyGivenNames v4
        clear_value v4
        refine ite_of (fun o => Ends o (Keeps s₀)) ?_ ?_
        · refine Ends.next ?_
          apply meEvent_keeps
          apply State.bump_keeps
          exact h3
        · refine ite_of (fun o => Ends o (Keeps s₀)) ?_ ?_
          · refine Ends.next ?_
            apply forwardFrame_keeps
            exact h3
          · refine ite_of (fun o => Ends o (Keeps s₀)) ?_ ?_
            · refine Ends.next ?_
              apply State.bump_keeps
              exact h3
            · refine ite_of (fun o => Ends o (Keeps s₀)) ?_ ?_
              · refine Ends.next ?_
                apply takeHello_keeps
                exact h3
              · refine ite_of (fun o => Ends o (Keeps s₀)) ?_ ?_
                · refine Ends.next ?_
                  exact h3
                · refine ite_of (fun o => Ends o (Keeps s₀)) ?_ ?_
                  · refine Ends.next ?_
                    apply meEvent_keeps
                    apply State.bump_keeps
                    exact h3
                  · refine Ends.next ?_
                    apply forwardFrame_keeps
                    exact h3

theorem execHelloTimer_keeps {s₀ : State} (s : State) (h_s : Keeps s₀ s) : Ends (execHelloTimer s) (Keeps s₀) := by
  unfold execHelloTimer
  extract_lets +onlyGivenNames v1
  have h2 : Keeps s₀ v1 := by
    subst v1
    refine Keeps.foldl ?_ ?_
    · exact h_s
    · intro y3 y4 y5
      refine ite_of (Keeps s₀) ?_ ?_
      · exact y5
      · apply State.bump_keeps
        exact y5
  clear_value v1
  extract_lets +onlyGivenNames v6
  clear_value v6
  extract_lets +onlyGivenNames v7
  have h8 : Keeps s₀ v7 := by
    subst v7
    apply State.setMg_keeps
    exact h2
  clear_value v7
  refine Ends.next ?_
  refine Keeps.foldl ?_ ?_
  · exact h8
  · intro y9 y10 y11
    refine ite_of (Keeps s₀) ?_ ?_
    · apply cnt1_keeps
      apply State.emit_keeps
      exact y11
    · exact y11

theorem execHelloTimeout_keeps {s₀ : State} (p : Fin 2) (s : State) (h_s : Keeps s₀ s) : Ends (execHelloTimeout p s) (Keeps s₀) := by
  unfold execHelloTimeout
  refine Ends.next ?_
  apply setBroken_keeps
  exact h_s

theorem execMgmtLinkChange_keeps {s₀ : State} (p : Fin 2) (st : BitVec 2) (s : State) (h_s : Keeps s₀ s) : Ends (execMgmtLinkChange p st s) (Keeps s₀) := by
  unfold execMgmtLinkChange
  extract_lets +onlyGivenNames v1
  clear_value v1
  extract_lets +onlyGivenNames v2
  clear_value v2
  refine ite_of (fun o => Ends o (Keeps s₀)) ?_ ?_
  · refine Ends.next ?_
    exact h_s
  · refine ite_of (fun o => Ends o (Keeps s₀)) ?_ ?_
    · refine Ends.next ?_
      exact h_s
    · refine Ends.next ?_
      apply setMeLink_keeps
      exact h_s

theorem execBypassClose_keeps {s₀ : State} (s : State) (h_s : Keeps s₀ s) : Ends (execBypassClose s) (Keeps s₀) := by
  unfold execBypassClose
  refine Ends.next ?_
  refine ite_of (Keeps s₀) ?_ ?_
  · apply closeBypass_keeps
    exact h_s
  · exact h_s

theorem execBypassOpen_keeps {s₀ : State} (s : State) (h_s : Keeps s₀ s) : Ends (execBypassOpen s) (Keeps s₀) := by
  unfold execBypassOpen
  refine ite_of (fun o => Ends o (Keeps s₀)) ?_ ?_
  · refine Ends.next ?_
    exact h_s
  · refine Ends.next ?_
    apply State.emit_keeps
    refine Keeps.foldl ?_ ?_
    · exact h_s
    · intro y1 y2 y3
      apply State.wr_keeps
      exact y3

theorem spdmAt_keeps {s₀ : State} (s : State) (p : Nat) (mac : BitVec 48) (need : Nat) (go : State → SpdmAns × State) (h_s : Keeps s₀ s) (h_go : ∀ (a : State), Keeps s₀ a → Keeps s₀ (go a).snd) : Keeps s₀ (spdmAt s p mac need go) := by
  unfold spdmAt
  refine ite_of (Keeps s₀) ?_ ?_
  · exact h_s
  · extract_lets +onlyGivenNames v1
    have h2 : Keeps s₀ v1.snd := by
      subst v1
      refine ite_of (fun (p : _ × State) => Keeps s₀ p.2) ?_ ?_
      · exact h_s
      · apply h_go
        exact h_s
    clear_value v1
    apply sendOut_keeps
    exact h2

theorem spdmStep_keeps {s₀ : State} (s : State) (mac : BitVec 48) (n : Nat) (h_s : Keeps s₀ s) : Keeps s₀ (spdmStep s mac n) := by
  unfold spdmStep
  apply State.setMg_keeps
  exact h_s

theorem execGetVersion_keeps {s₀ : State} (p : Fin 2) (mac : BitVec 48) (s : State) (h_s : Keeps s₀ s) : Ends (execGetVersion p mac s) (Keeps s₀) := by
  unfold execGetVersion
  refine Ends.next ?_
  apply spdmAt_keeps
  · exact h_s
  · intro y1 y2
    dsimp -zeta only
    apply spdmStep_keeps
    exact y2

theorem execGetCapabilities_keeps {s₀ : State} (p : Fin 2) (mac : BitVec 48) (s : State) (h_s : Keeps s₀ s) : Ends (execGetCapabilities p mac s) (Keeps s₀) := by
  unfold execGetCapabilities
  refine Ends.next ?_
  apply spdmAt_keeps
  · exact h_s
  · intro y1 y2
    dsimp -zeta only
    apply spdmStep_keeps
    exact y2

theorem execNegotiateAlgorithms_keeps {s₀ : State} (p : Fin 2) (mac : BitVec 48) (offers : Bool) (s : State) (h_s : Keeps s₀ s) : Ends (execNegotiateAlgorithms p mac offers s) (Keeps s₀) := by
  unfold execNegotiateAlgorithms
  refine Ends.next ?_
  apply spdmAt_keeps
  · exact h_s
  · intro y1 y2
    refine ite_of (fun (p : _ × State) => Keeps s₀ p.2) ?_ ?_
    · refine Keeps.mkPair ?_
      apply spdmStep_keeps
      exact y2
    · exact y2

theorem execGetDigests_keeps {s₀ : State} (p : Fin 2) (mac : BitVec 48) (s : State) (h_s : Keeps s₀ s) : Ends (execGetDigests p mac s) (Keeps s₀) := by
  unfold execGetDigests
  refine Ends.next ?_
  apply spdmAt_keeps
  · exact h_s
  · intro y1 y2
    dsimp -zeta only
    exact y2

theorem execGetCertificate_keeps {s₀ : State} (p : Fin 2) (mac : BitVec 48) (slot : BitVec 4) (off : BitVec 16) (n : BitVec 16) (s : State) (h_s : Keeps s₀ s) : Ends (execGetCertificate p mac slot off n s) (Keeps s₀) := by
  unfold execGetCertificate
  refine Ends.next ?_
  apply spdmAt_keeps
  · exact h_s
  · intro y1 y2
    dsimp -zeta only
    exact y2

theorem execChallenge_keeps {s₀ : State} (p : Fin 2) (mac : BitVec 48) (slot : BitVec 4) (s : State) (h_s : Keeps s₀ s) : Ends (execChallenge p mac slot s) (Keeps s₀) := by
  unfold execChallenge
  refine Ends.next ?_
  apply spdmAt_keeps
  · exact h_s
  · intro y1 y2
    dsimp -zeta only
    exact y2

theorem execGetMeasurements_keeps {s₀ : State} (p : Fin 2) (mac : BitVec 48) (index : BitVec 8) (s : State) (h_s : Keeps s₀ s) : Ends (execGetMeasurements p mac index s) (Keeps s₀) := by
  unfold execGetMeasurements
  refine Ends.next ?_
  apply spdmAt_keeps
  · exact h_s
  · intro y1 y2
    exact y2

theorem execKeyExchange_keeps {s₀ : State} (p : Fin 2) (mac : BitVec 48) (session : BitVec 32) (s : State) (h_s : Keeps s₀ s) : Ends (execKeyExchange p mac session s) (Keeps s₀) := by
  unfold execKeyExchange
  extract_lets +onlyGivenNames v1
  clear_value v1
  refine ite_of (fun o => Ends o (Keeps s₀)) ?_ ?_
  · refine Ends.next ?_
    exact h_s
  · refine ite_of (fun o => Ends o (Keeps s₀)) ?_ ?_
    · refine Ends.next ?_
      apply sendOut_keeps
      exact h_s
    · refine ite_of (fun o => Ends o (Keeps s₀)) ?_ ?_
      · refine Ends.next ?_
        apply sendOut_keeps
        exact h_s
      · extract_lets +onlyGivenNames v2
        clear_value v2
        extract_lets +onlyGivenNames v3
        clear_value v3
        extract_lets +onlyGivenNames v4
        have h5 : Keeps s₀ v4 := by
          subst v4
          apply State.setMg_keeps
          exact h_s
        clear_value v4
        refine Ends.next ?_
        apply sendOut_keeps
        apply sendOut_keeps
        exact h5

theorem execDeliverEncapsulatedResponse_keeps {s₀ : State} (session : BitVec 32) (x : EncapResp) (s : State) (h_s : Keeps s₀ s) : Ends (execDeliverEncapsulatedResponse session x s) (Keeps s₀) := by
  unfold execDeliverEncapsulatedResponse
  split
  · rename_i x1 x2
    refine Ends.next ?_
    exact h_s
  · rename_i x3 x4 x5
    refine ite_of (fun o => Ends o (Keeps s₀)) ?_ ?_
    · refine Ends.next ?_
      exact h_s
    · split
      · rename_i x6
        refine Ends.next ?_
        apply sendOut_keeps
        apply setSess_keeps
        exact h_s
      · rename_i x7 x8 x9
        refine ite_of (fun o => Ends o (Keeps s₀)) ?_ ?_
        · refine Ends.next ?_
          apply sendOut_keeps
          exact h_s
        · refine ite_of (fun o => Ends o (Keeps s₀)) ?_ ?_
          · refine Ends.next ?_
            apply setSess_keeps
            exact h_s
          · extract_lets +onlyGivenNames v10
            have h11 : Keeps s₀ v10 := by
              subst v10
              apply drsEvent_keeps
              apply State.bump_keeps
              apply dropSession_keeps
              exact h_s
            clear_value v10
            refine Ends.next ?_
            apply sendOut_keeps
            exact h11

theorem execFinish_keeps {s₀ : State} (session : BitVec 32) (good : Bool) (s : State) (h_s : Keeps s₀ s) : Ends (execFinish session good s) (Keeps s₀) := by
  unfold execFinish
  split
  · rename_i x1 x2
    refine Ends.next ?_
    exact h_s
  · rename_i x3 x4 x5
    refine ite_of (fun o => Ends o (Keeps s₀)) ?_ ?_
    · refine Ends.next ?_
      exact h_s
    · refine ite_of (fun o => Ends o (Keeps s₀)) ?_ ?_
      · extract_lets +onlyGivenNames v6
        have h7 : Keeps s₀ v6 := by
          subst v6
          apply setSess_keeps
          exact h_s
        clear_value v6
        extract_lets +onlyGivenNames v8
        have h9 : Keeps s₀ v8 := by
          subst v8
          apply drsEvent_keeps
          apply State.wr_keeps
          exact h7
        clear_value v8
        refine Ends.next ?_
        apply sendOut_keeps
        exact h9
      · refine Ends.next ?_
        apply sendOut_keeps
        apply dropSession_keeps
        exact h_s

theorem onSession_keeps {s₀ : State} (s : State) (id : Nat) (go : State → SessSt → State) (h_s : Keeps s₀ s) (h_go : ∀ (a : State) (a_1 : SessSt), Keeps s₀ a → Keeps s₀ (go a a_1)) : Keeps s₀ (onSession s id go) := by
  unfold onSession
  split
  · rename_i x1 x2
    exact h_s
  · rename_i x3 x4 x5
    refine ite_of (Keeps s₀) ?_ ?_
    · apply h_go
      exact h_s
    · exact h_s

theorem execHeartbeat_keeps {s₀ : State} (session : BitVec 32) (s : State) (h_s : Keeps s₀ s) : Ends (execHeartbeat session s) (Keeps s₀) := by
  unfold execHeartbeat
  refine Ends.next ?_
  apply onSession_keeps
  · exact h_s
  · intro y1 y2 y3
    apply sendOut_keeps
    apply setSess_keeps
    exact y3

theorem execKeyUpdate_keeps {s₀ : State} (session : BitVec 32) (s : State) (h_s : Keeps s₀ s) : Ends (execKeyUpdate session s) (Keeps s₀) := by
  unfold execKeyUpdate
  refine Ends.next ?_
  apply onSession_keeps
  · exact h_s
  · intro y1 y2 y3
    apply sendOut_keeps
    apply setSess_keeps
    exact y3

theorem execEndSession_keeps {s₀ : State} (session : BitVec 32) (s : State) (h_s : Keeps s₀ s) : Ends (execEndSession session s) (Keeps s₀) := by
  unfold execEndSession
  refine Ends.next ?_
  apply onSession_keeps
  · exact h_s
  · intro y1 y2 y3
    apply dropSession_keeps
    apply sendOut_keeps
    exact y3

theorem execSessionTimeout_keeps {s₀ : State} (session : BitVec 32) (s : State) (h_s : Keeps s₀ s) : Ends (execSessionTimeout session s) (Keeps s₀) := by
  unfold execSessionTimeout
  refine Ends.next ?_
  apply dropSession_keeps
  exact h_s

theorem execStreamRecordSend_keeps {s₀ : State} (st : Fin 4) (fit : Nat) (drop_ : Nat) (s : State) (h_s : Keeps s₀ s) : Ends (execStreamRecordSend st fit drop_ s) (Keeps s₀) := by
  unfold execStreamRecordSend
  split
  · rename_i x1 x2
    refine Ends.next ?_
    exact h_s
  · rename_i x3 x4 x5
    split
    · rename_i x6 x7
      refine Ends.next ?_
      exact h_s
    · rename_i x8 x9 x10
      refine ite_of (fun o => Ends o (Keeps s₀)) ?_ ?_
      · refine Ends.next ?_
        exact h_s
      · extract_lets +onlyGivenNames v11
        clear_value v11
        extract_lets +onlyGivenNames v12
        clear_value v12
        extract_lets +onlyGivenNames v13
        clear_value v13
        extract_lets +onlyGivenNames v14
        clear_value v14
        extract_lets +onlyGivenNames v15
        have h16 : Keeps s₀ v15 := by
          subst v15
          refine ite_of (Keeps s₀) ?_ ?_
          · apply State.add_keeps
            refine Keeps.upd ?_ rfl
            exact h_s
          · apply State.setMg_keeps
            exact h_s
        clear_value v15
        refine Ends.next ?_
        refine Keeps.foldl ?_ ?_
        · exact h16
        · intro y17 y18 y19
          apply sendSecured_keeps
          exact y19

theorem offerOffset_keeps {s₀ : State} (s : State) (o : Int) (h_s : Keeps s₀ s) : Keeps s₀ (offerOffset s o) := by
  unfold offerOffset
  refine Keeps.upd ?_ rfl
  exact h_s

theorem refillsPassed_keeps {s₀ : State} (s : State) (n : Nat) (h_s : Keeps s₀ s) : Keeps s₀ (refillsPassed s n) := by
  unfold refillsPassed
  refine Keeps.foldl ?_ ?_
  · exact h_s
  · intro y1 y2 y3
    extract_lets +onlyGivenNames v4
    clear_value v4
    extract_lets +onlyGivenNames v5
    clear_value v5
    extract_lets +onlyGivenNames v6
    clear_value v6
    apply setBuckets_keeps
    refine ite_of (Keeps s₀) ?_ ?_
    · exact y3
    · apply heldAgain_keeps
      exact y3

theorem ticksPassed_keeps {s₀ : State} (s : State) (n : Nat) (h_s : Keeps s₀ s) : Keeps s₀ (ticksPassed s n) := by
  unfold ticksPassed
  extract_lets +onlyGivenNames v1
  clear_value v1
  extract_lets +onlyGivenNames v2
  clear_value v2
  refine ite_of (Keeps s₀) ?_ ?_
  · exact h_s
  · extract_lets +onlyGivenNames v3
    have h4 : Keeps s₀ v3 := by
      subst v3
      apply State.setEvt_keeps
      apply State.add_keeps
      exact h_s
    clear_value v3
    apply applyHeld_keeps
    apply State.setGz_keeps
    exact h4

theorem advanceBase_keeps {s₀ : State} (s : State) (n : Nat) (h_s : Keeps s₀ s) : Keeps s₀ (advanceBase s n) := by
  unfold advanceBase
  apply State.wr64_keeps
  exact h_s

theorem stepBase_keeps {s₀ : State} (s : State) (o : Nat) (h_s : Keeps s₀ s) : Keeps s₀ (stepBase s o) := by
  unfold stepBase
  extract_lets +onlyGivenNames v1
  clear_value v1
  extract_lets +onlyGivenNames v2
  clear_value v2
  extract_lets +onlyGivenNames v3
  have h4 : Keeps s₀ v3 := by
    subst v3
    apply ticksPassed_keeps
    apply refillsPassed_keeps
    exact h_s
  clear_value v3
  extract_lets +onlyGivenNames v5
  have h6 : Keeps s₀ v5 := by
    subst v5
    apply State.bump_keeps
    apply advanceBase_keeps
    exact h4
  clear_value v5
  apply State.setMg_keeps
  exact h6

theorem slewBase_keeps {s₀ : State} (s : State) (o : Int) (t : Nat) (h_s : Keeps s₀ s) : Keeps s₀ (slewBase s o t) := by
  unfold slewBase
  extract_lets +onlyGivenNames v1
  clear_value v1
  extract_lets +onlyGivenNames v2
  clear_value v2
  extract_lets +onlyGivenNames v3
  clear_value v3
  extract_lets +onlyGivenNames v4
  clear_value v4
  extract_lets +onlyGivenNames v5
  clear_value v5
  extract_lets +onlyGivenNames v6
  clear_value v6
  extract_lets +onlyGivenNames v7
  have h8 : Keeps s₀ v7 := by
    subst v7
    apply State.setMg_keeps
    exact h_s
  clear_value v7
  apply State.wr_keeps
  exact h8

theorem execTbOffsetSample_keeps {s₀ : State} (s : State) (h_s : Keeps s₀ s) : Ends (execTbOffsetSample s) (Keeps s₀) := by
  unfold execTbOffsetSample
  split
  · rename_i x1 x2
    refine Ends.next ?_
    exact h_s
  · rename_i x3 x4 x5 x6
    extract_lets +onlyGivenNames v7
    have h8 : Keeps s₀ v7 := by
      subst v7
      refine Keeps.upd ?_ rfl
      exact h_s
    clear_value v7
    refine ite_of (fun o => Ends o (Keeps s₀)) ?_ ?_
    · refine Ends.next ?_
      exact h8
    · extract_lets +onlyGivenNames v9
      clear_value v9
      extract_lets +onlyGivenNames v10
      have h11 : Keeps s₀ v10 := by
        subst v10
        apply State.wr_keeps
        apply State.wr_keeps
        exact h8
      clear_value v10
      extract_lets +onlyGivenNames v12
      have h13 : Keeps s₀ v12 := by
        subst v12
        apply State.spend_keeps
        exact h11
      clear_value v12
      extract_lets +onlyGivenNames v14
      clear_value v14
      extract_lets +onlyGivenNames v15
      have h16 : Keeps s₀ v15 := by
        subst v15
        apply State.setMg_keeps
        exact h13
      clear_value v15
      refine ite_of (fun o => Ends o (Keeps s₀)) ?_ ?_
      · refine Ends.next ?_
        apply stepBase_keeps
        exact h16
      · refine Ends.next ?_
        apply slewBase_keeps
        exact h16

theorem execTbHoldover_keeps {s₀ : State} (s : State) (h_s : Keeps s₀ s) : Ends (execTbHoldover s) (Keeps s₀) := by
  unfold execTbHoldover
  extract_lets +onlyGivenNames v1
  clear_value v1
  refine ite_of (fun o => Ends o (Keeps s₀)) ?_ ?_
  · refine Ends.next ?_
    exact h_s
  · refine Ends.next ?_
    apply deviceEvent_keeps
    apply State.setMg_keeps
    apply State.wr_keeps
    exact h_s

theorem execTimePpsInEdge_keeps {s₀ : State} (s : State) (h_s : Keeps s₀ s) : Ends (execTimePpsInEdge s) (Keeps s₀) := by
  unfold execTimePpsInEdge
  extract_lets +onlyGivenNames v1
  clear_value v1
  extract_lets +onlyGivenNames v2
  clear_value v2
  refine Ends.next ?_
  refine ite_of (Keeps s₀) ?_ ?_
  · apply offerOffset_keeps
    exact h_s
  · exact h_s

theorem execTimePpsOutEdge_keeps {s₀ : State} (rise : Bool) (s : State) (h_s : Keeps s₀ s) : Ends (execTimePpsOutEdge rise s) (Keeps s₀) := by
  unfold execTimePpsOutEdge
  refine Ends.next ?_
  refine ite_of (Keeps s₀) ?_ ?_
  · exact h_s
  · apply State.emit_keeps
    apply State.setMg_keeps
    exact h_s

theorem execPtpEventMessage_keeps {s₀ : State} (p : Fin 2) (domain : BitVec 8) (residence : BitVec 32) (offset : Option (BitVec 64)) (s : State) (h_s : Keeps s₀ s) : Ends (execPtpEventMessage p domain residence offset s) (Keeps s₀) := by
  unfold execPtpEventMessage
  refine ite_of (fun o => Ends o (Keeps s₀)) ?_ ?_
  · refine Ends.next ?_
    exact h_s
  · extract_lets +onlyGivenNames v1
    have h2 : Keeps s₀ v1 := by
      subst v1
      apply forwardFrame_keeps
      apply cnt1_keeps
      exact h_s
    clear_value v1
    split
    · rename_i x3 x4
      refine ite_of (fun o => Ends o (Keeps s₀)) ?_ ?_
      · refine Ends.next ?_
        apply offerOffset_keeps
        apply State.wr_keeps
        exact h2
      · refine Ends.next ?_
        exact h2
    · rename_i x5
      refine Ends.next ?_
      exact h2

theorem dropUnconfirmed_keeps {s₀ : State} (s : State) (h_s : Keeps s₀ s) : Keeps s₀ (dropUnconfirmed s) := by
  unfold dropUnconfirmed
  extract_lets +onlyGivenNames v1
  clear_value v1
  refine ite_of (Keeps s₀) ?_ ?_
  · extract_lets +onlyGivenNames v2
    clear_value v2
    refine ite_of (Keeps s₀) ?_ ?_
    · extract_lets +onlyGivenNames v3
      clear_value v3
      extract_lets +onlyGivenNames v4
      have h5 : Keeps s₀ v4 := by
        subst v4
        refine Keeps.upd ?_ rfl
        exact h_s
      clear_value v4
      apply State.wr64_keeps
      apply State.wr_keeps
      exact h5
    · extract_lets +onlyGivenNames v6
      clear_value v6
      extract_lets +onlyGivenNames v7
      have h8 : Keeps s₀ v7 := by
        subst v7
        refine Keeps.upd ?_ rfl
        exact h_s
      clear_value v7
      apply State.wr64_keeps
      apply State.wr_keeps
      exact h8
  · exact h_s

theorem mpFails_keeps {s₀ : State} (s : State) (h_s : Keeps s₀ s) : Keeps s₀ (mpFails s) := by
  unfold mpFails
  extract_lets +onlyGivenNames v1
  have h2 : Keeps s₀ v1 := by
    subst v1
    apply State.wr_keeps
    exact h_s
  clear_value v1
  refine ite_of (Keeps s₀) ?_ ?_
  · apply fatalStop_keeps
    apply dropUnconfirmed_keeps
    exact h2
  · exact h2

theorem mpRestart_keeps {s₀ : State} (s : State) (cause : Nat) (h_s : Keeps s₀ s) : Keeps s₀ (mpRestart s cause) := by
  unfold mpRestart
  refine ite_of (Keeps s₀) ?_ ?_
  · exact h_s
  · extract_lets +onlyGivenNames v1
    have h2 : Keeps s₀ v1 := by
      subst v1
      apply State.wr_keeps
      apply State.bump_keeps
      apply State.wr_keeps
      exact h_s
    clear_value v1
    extract_lets +onlyGivenNames v3
    have h4 : Keeps s₀ v3 := by
      subst v3
      apply drsEvent_keeps
      exact h2
    clear_value v3
    extract_lets +onlyGivenNames v5
    have h6 : Keeps s₀ v5 := by
      subst v5
      refine ite_of (Keeps s₀) ?_ ?_
      · exact h4
      · apply recordError_keeps
        exact h4
    clear_value v5
    extract_lets +onlyGivenNames v7
    clear_value v7
    extract_lets +onlyGivenNames v8
    clear_value v8
    extract_lets +onlyGivenNames v9
    clear_value v9
    extract_lets +onlyGivenNames v10
    have h11 : Keeps s₀ v10 := by
      subst v10
      apply fenceUnit_keeps
      apply abandonStore_keeps
      apply dropSessions_keeps
      apply State.setMg_keeps
      exact h6
    clear_value v10
    extract_lets +onlyGivenNames v12
    clear_value v12
    extract_lets +onlyGivenNames v13
    have h14 : Keeps s₀ v13 := by
      subst v13
      apply State.setMg_keeps
      exact h11
    clear_value v13
    refine ite_of (Keeps s₀) ?_ ?_
    · apply mpFails_keeps
      exact h14
    · exact h14

theorem execLockstepMismatch_keeps {s₀ : State} (s : State) (h_s : Keeps s₀ s) : Ends (execLockstepMismatch s) (Keeps s₀) := by
  unfold execLockstepMismatch
  refine Ends.next ?_
  apply mpRestart_keeps
  exact h_s

theorem execMpWatchdogExpire_keeps {s₀ : State} (s : State) (h_s : Keeps s₀ s) : Ends (execMpWatchdogExpire s) (Keeps s₀) := by
  unfold execMpWatchdogExpire
  refine Ends.next ?_
  apply mpRestart_keeps
  exact h_s

theorem execMpMemoryError_keeps {s₀ : State} (s : State) (h_s : Keeps s₀ s) : Ends (execMpMemoryError s) (Keeps s₀) := by
  unfold execMpMemoryError
  refine Ends.next ?_
  apply mpRestart_keeps
  exact h_s

theorem execMpRestart_keeps {s₀ : State} (r : Route) (s : State) (h_s : Keeps s₀ s) : Ends (execMpRestart r s) (Keeps s₀) := by
  unfold execMpRestart
  refine Ends.next ?_
  apply guarded_keeps
  · exact h_s
  · intro y1 y2
    apply mpRestart_keeps
    exact y2

theorem execMpRestartDone_keeps {s₀ : State} (good : Bool) (s : State) (h_s : Keeps s₀ s) : Ends (execMpRestartDone good s) (Keeps s₀) := by
  unfold execMpRestartDone
  refine ite_of (fun o => Ends o (Keeps s₀)) ?_ ?_
  · refine Ends.next ?_
    exact h_s
  · refine ite_of (fun o => Ends o (Keeps s₀)) ?_ ?_
    · extract_lets +onlyGivenNames v1
      have h2 : Keeps s₀ v1 := by
        subst v1
        apply State.wr_keeps
        exact h_s
      clear_value v1
      extract_lets +onlyGivenNames v3
      clear_value v3
      extract_lets +onlyGivenNames v4
      clear_value v4
      extract_lets +onlyGivenNames v5
      have h6 : Keeps s₀ v5 := by
        subst v5
        refine ite_of (Keeps s₀) ?_ ?_
        · refine Keeps.upd ?_ rfl
          exact h2
        · exact h2
      clear_value v5
      extract_lets +onlyGivenNames v7
      have h8 : Keeps s₀ v7 := by
        subst v7
        refine ite_of (Keeps s₀) ?_ ?_
        · exact h6
        · apply setDead_keeps
          exact h6
      clear_value v7
      refine Ends.next ?_
      apply deviceEvent_keeps
      exact h8
    · refine Ends.next ?_
      apply mpFails_keeps
      exact h_s

theorem execMgmtEthCntClr_keeps {s₀ : State} (r : Route) (k : Fin 2) (s : State) (h_s : Keeps s₀ s) : Ends (execMgmtEthCntClr r k s) (Keeps s₀) := by
  unfold execMgmtEthCntClr
  refine Ends.next ?_
  apply guarded_keeps
  · exact h_s
  · intro y1 y2
    apply State.clearAll_keeps
    exact y2

theorem execMpCntClr_keeps {s₀ : State} (r : Route) (s : State) (h_s : Keeps s₀ s) : Ends (execMpCntClr r s) (Keeps s₀) := by
  unfold execMpCntClr
  refine Ends.next ?_
  apply guarded_keeps
  · exact h_s
  · intro y1 y2
    apply State.clearAll_keeps
    exact y2


/-! ### Machine/Routing.lean -/

theorem routingEvents_keeps {s₀ : State} (before : State) (s : State) (h_before : Keeps s₀ before) (h_s : Keeps s₀ s) : Keeps s₀ (routingEvents before s) := by
  unfold routingEvents
  refine ite_of (Keeps s₀) ?_ ?_
  · exact h_s
  · apply deviceEvent_keeps
    exact h_s

theorem execInjEpochWrite_keeps {s₀ : State} (r : Route) (e : BitVec 32) (s : State) (h_s : Keeps s₀ s) : Ends (execInjEpochWrite r e s) (Keeps s₀) := by
  unfold execInjEpochWrite
  refine Ends.next ?_
  apply guarded_keeps
  · exact h_s
  · intro y1 y2
    apply routingEvents_keeps
    · exact y2
    · apply State.wr_keeps
      exact y2

theorem showEst_keeps {s₀ : State} (s : State) (n : Nat) (e : Dyadic) (h_s : Keeps s₀ s) : Keeps s₀ (showEst s n e) := by
  unfold showEst
  apply State.wri_keeps
  exact h_s

theorem gatherEst_keeps {s₀ : State} (s : State) (n : Nat) (e : Dyadic) (h_s : Keeps s₀ s) : Keeps s₀ (gatherEst s n e) := by
  unfold gatherEst
  refine ite_of (Keeps s₀) ?_ ?_
  · extract_lets +onlyGivenNames v1
    clear_value v1
    extract_lets +onlyGivenNames v2
    clear_value v2
    refine Keeps.upd ?_ rfl
    exact h_s
  · exact h_s

theorem estUpdate_keeps {s₀ : State} (s : State) (n : Nat) (h_s : Keeps s₀ s) : Keeps s₀ (estUpdate s n) := by
  unfold estUpdate
  extract_lets +onlyGivenNames v1
  clear_value v1
  extract_lets +onlyGivenNames v2
  clear_value v2
  extract_lets +onlyGivenNames v3
  have h4 : Keeps s₀ v3 := by
    subst v3
    refine Keeps.upd ?_ rfl
    exact h_s
  clear_value v3
  apply gatherEst_keeps
  apply showEst_keeps
  exact h4

theorem execCongEstTick_keeps {s₀ : State} (s : State) (h_s : Keeps s₀ s) : Ends (execCongEstTick s) (Keeps s₀) := by
  unfold execCongEstTick
  refine Ends.next ?_
  refine Keeps.foldl ?_ ?_
  · exact h_s
  · intro y1 y2 y3
    apply estUpdate_keeps
    exact y3

theorem execWarmupEnd_keeps {s₀ : State} (n : Fin 96) (s : State) (h_s : Keeps s₀ s) : Ends (execWarmupEnd n s) (Keeps s₀) := by
  unfold execWarmupEnd
  refine ite_of (fun o => Ends o (Keeps s₀)) ?_ ?_
  · extract_lets +onlyGivenNames v1
    clear_value v1
    extract_lets +onlyGivenNames v2
    have h3 : Keeps s₀ v2 := by
      subst v2
      apply showEst_keeps
      exact h_s
    clear_value v2
    extract_lets +onlyGivenNames v4
    have h5 : Keeps s₀ v4 := by
      subst v4
      apply State.wri_keeps
      exact h3
    clear_value v4
    refine Ends.next ?_
    refine Keeps.upd ?_ rfl
    exact h5
  · refine Ends.next ?_
    exact h_s

theorem execFmgtWaitTimeout_keeps {s₀ : State} (p : Fin 128) (vc : Fin 16) (s : State) (h_s : Keeps s₀ s) : Ends (execFmgtWaitTimeout p vc s) (Keeps s₀) := by
  unfold execFmgtWaitTimeout
  extract_lets +onlyGivenNames v1
  clear_value v1
  split
  · rename_i x2 x3 x4
    refine ite_of (fun o => Ends o (Keeps s₀)) ?_ ?_
    · refine Ends.next ?_
      apply discardWaiting_keeps
      apply State.bump_keeps
      exact h_s
    · refine Ends.next ?_
      exact h_s
  · rename_i x5 x6
    refine Ends.next ?_
    exact h_s

theorem mgmtRefused_keeps {s₀ : State} (s : State) (p : Packet) (h_s : Keeps s₀ s) : KeepsO s₀ (mgmtRefused s p) := by
  unfold mgmtRefused
  refine ite_of (KeepsO s₀) ?_ ?_
  · refine KeepsO.ofSome ?_
    exact h_s
  · refine ite_of (KeepsO s₀) ?_ ?_
    · refine KeepsO.ofSome ?_
      apply State.bump_keeps
      exact h_s
    · refine ite_of (KeepsO s₀) ?_ ?_
      · refine KeepsO.ofSome ?_
        apply recordError_keeps
        exact h_s
      · refine ite_of (KeepsO s₀) ?_ ?_
        · refine KeepsO.ofSome ?_
          apply recordError_keeps
          apply State.bump_keeps
          exact h_s
        · exact KeepsO.ofNone _

theorem fmgtTake_keeps {s₀ : State} (s : State) (p : Packet) (h_s : Keeps s₀ s) : Keeps s₀ (fmgtTake s p) := by
  unfold fmgtTake
  refine ite_of (Keeps s₀) ?_ ?_
  · exact h_s
  · apply State.emit_keeps
    refine Keeps.upd ?_ rfl
    exact h_s

theorem execFmgtReceive_keeps {s₀ : State} (room : Bool) (s : State) (h_s : Keeps s₀ s) : Ends (execFmgtReceive room s) (Keeps s₀) := by
  unfold execFmgtReceive
  refine ite_of (fun o => Ends o (Keeps s₀)) ?_ ?_
  · refine Ends.next ?_
    exact h_s
  · split
    · rename_i x1 x2
      refine Ends.next ?_
      exact h_s
    · rename_i x3 x4 x5 x6
      refine ite_of (fun o => Ends o (Keeps s₀)) ?_ ?_
      · refine Ends.next ?_
        exact h_s
      · extract_lets +onlyGivenNames v7
        clear_value v7
        extract_lets +onlyGivenNames v8
        have h9 : Keeps s₀ v8 := by
          subst v8
          refine Keeps.upd ?_ rfl
          exact h_s
        clear_value v8
        split
        · rename_i x10 x11 x12
          have h13 : Keeps s₀ x11 := by
            refine KeepsO.at ?_ x12
            apply mgmtRefused_keeps
            exact h9
          refine Ends.next ?_
          exact h13
        · rename_i x14 x15
          refine Ends.next ?_
          refine ite_of (Keeps s₀) ?_ ?_
          · apply fmgtTake_keeps
            exact h9
          · exact h9

theorem putEntryWord_keeps {s₀ : State} (s : State) (b : Nat) (w : Nat) (x : Nat) (h_s : Keeps s₀ s) : Keeps s₀ (putEntryWord s b w x) := by
  unfold putEntryWord
  refine Keeps.foldl ?_ ?_
  · exact h_s
  · intro y1 y2 y3
    apply State.wr_keeps
    exact y3

theorem latchWord_keeps {s₀ : State} (s : State) (r : Route) (b : Nat) (w : Nat) (x : Nat) (h_s : Keeps s₀ s) : Keeps s₀ (latchWord s r b w x) := by
  unfold latchWord
  refine Keeps.upd ?_ rfl
  exact h_s

theorem mendWord_keeps {s₀ : State} (s : State) (off : Nat) (h_s : Keeps s₀ s) : Keeps s₀ (mendWord s off) := by
  unfold mendWord
  refine Keeps.upd ?_ rfl
  exact h_s

theorem applyEntry_keeps {s₀ : State} (s : State) (r : Route) (b : Nat) (x : Nat) (h_s : Keeps s₀ s) : Keeps s₀ (applyEntry s r b x) := by
  unfold applyEntry
  apply mendWord_keeps
  apply putEntryWord_keeps
  refine Keeps.foldl ?_ ?_
  · exact h_s
  · intro y1 y2 y3
    apply putEntryWord_keeps
    exact y3

theorem execAtlasEntryWordWrite_keeps {s₀ : State} (r : Route) (v : Fin 2) (e : AtlasEntry) (w : Fin 3) (x : BitVec 32) (s : State) (h_s : Keeps s₀ s) : Ends (execAtlasEntryWordWrite r v e w x s) (Keeps s₀) := by
  unfold execAtlasEntryWordWrite
  refine Ends.next ?_
  apply guarded_keeps
  · exact h_s
  · intro y1 y2
    apply latchWord_keeps
    exact y2

theorem execAtlasEntryApply_keeps {s₀ : State} (r : Route) (v : Fin 2) (e : AtlasEntry) (x : BitVec 32) (s : State) (h_s : Keeps s₀ s) : Ends (execAtlasEntryApply r v e x s) (Keeps s₀) := by
  unfold execAtlasEntryApply
  refine Ends.next ?_
  apply guarded_keeps
  · exact h_s
  · intro y1 y2
    apply applyEntry_keeps
    exact y2

theorem execWaypointEntryWrite_keeps {s₀ : State} (r : Route) (v : Fin 2) (i : Fin 256) (x : BitVec 32) (s : State) (h_s : Keeps s₀ s) : Ends (execWaypointEntryWrite r v i x s) (Keeps s₀) := by
  unfold execWaypointEntryWrite
  extract_lets +onlyGivenNames v1
  clear_value v1
  refine Ends.next ?_
  apply guarded_keeps
  · exact h_s
  · intro y2 y3
    apply mendWord_keeps
    apply State.wr_keeps
    exact y3

theorem clearAtlas_keeps {s₀ : State} (s : State) (h_s : Keeps s₀ s) : Keeps s₀ (clearAtlas s) := by
  unfold clearAtlas
  apply State.clearAll_keeps
  exact h_s

theorem execAtlasValidWrite_keeps {s₀ : State} (r : Route) (x : BitVec 32) (s : State) (h_s : Keeps s₀ s) : Ends (execAtlasValidWrite r x s) (Keeps s₀) := by
  unfold execAtlasValidWrite
  refine Ends.next ?_
  apply guarded_keeps
  · exact h_s
  · intro y1 y2
    extract_lets +onlyGivenNames v3
    have h4 : Keeps s₀ v3 := by
      subst v3
      apply routingEvents_keeps
      · exact y2
      · apply State.wr_keeps
        apply State.wr_keeps
        exact y2
    clear_value v3
    refine ite_of (Keeps s₀) ?_ ?_
    · apply clearAtlas_keeps
      exact h4
    · exact h4

theorem execAtlasCntClr_keeps {s₀ : State} (r : Route) (s : State) (h_s : Keeps s₀ s) : Ends (execAtlasCntClr r s) (Keeps s₀) := by
  unfold execAtlasCntClr
  refine Ends.next ?_
  apply guarded_keeps
  · exact h_s
  · intro y1 y2
    apply clearAtlas_keeps
    exact y2

theorem execFenceRelease_keeps {s₀ : State} (ch : BitVec 20) (s : State) (h_s : Keeps s₀ s) : Ends (execFenceRelease ch s) (Keeps s₀) := by
  unfold execFenceRelease
  refine Ends.next ?_
  apply releaseAll_keeps
  exact h_s

theorem execFenceTimeout_keeps {s₀ : State} (ch : BitVec 20) (psn : BitVec 24) (s : State) (h_s : Keeps s₀ s) : Ends (execFenceTimeout ch psn s) (Keeps s₀) := by
  unfold execFenceTimeout
  extract_lets +onlyGivenNames v1
  clear_value v1
  refine ite_of (fun o => Ends o (Keeps s₀)) ?_ ?_
  · extract_lets +onlyGivenNames v2
    have h3 : Keeps s₀ v2 := by
      subst v2
      apply setFence_keeps
      exact h_s
    clear_value v2
    refine Ends.next ?_
    apply State.setEvt_keeps
    apply State.bump_keeps
    exact h3
  · refine Ends.next ?_
    exact h_s

end Sys2Proof.Machine
end

