-- ==== Sys2Proof/Laws/Keeps5.lean ====
section
/-!
SUPPORT. What each operation and each command of these files of Machine/ keeps: Streams.lean, Resets.lean, FlaskOps.lean, Startup.lean, Pace.lean, Link.lean, Pool.lean, HostPorts.lean.
One lemma for each: an operation on a state that keeps what a state s₀ had (Keeps of Laws/Keeps.lean: the queue, the clock, what was
emitted, the form of the pool's memory) gives one that keeps it, and a command on such a state answers a next state that keeps it.
-/
namespace Sys2Proof.Machine

/-! ### Machine/Streams.lean -/

theorem contourStart_keeps {s₀ : State} (s : State) (h_s : Keeps s₀ s) : Keeps s₀ (contourStart s) := by
  unfold contourStart
  extract_lets +onlyGivenNames v1
  clear_value v1
  extract_lets +onlyGivenNames v2
  clear_value v2
  extract_lets +onlyGivenNames v3
  clear_value v3
  refine Keeps.upd ?_ rfl
  exact h_s

theorem execContourPeriod_keeps {s₀ : State} (room : Bool) (s : State) (h_s : Keeps s₀ s) : Ends (execContourPeriod room s) (Keeps s₀) := by
  unfold execContourPeriod
  refine ite_of (fun o => Ends o (Keeps s₀)) ?_ ?_
  · refine Ends.next ?_
    exact h_s
  · extract_lets +onlyGivenNames v1
    clear_value v1
    extract_lets +onlyGivenNames v2
    clear_value v2
    extract_lets +onlyGivenNames v3
    have h4 : Keeps s₀ v3 := by
      subst v3
      refine Keeps.upd ?_ rfl
      exact h_s
    clear_value v3
    refine Ends.next ?_
    apply contourStart_keeps
    refine ite_of (Keeps s₀) ?_ ?_
    · apply streamPut_keeps
      exact h4
    · exact h4


/-! ### Machine/Resets.lean -/

theorem loadRecord_keeps {s₀ : State} (s : State) (off : Nat) (v : Nat) (h_s : Keeps s₀ s) : Keeps s₀ (loadRecord s off v).snd := by
  unfold loadRecord
  extract_lets +onlyGivenNames v1
  clear_value v1
  extract_lets +onlyGivenNames v2
  clear_value v2
  extract_lets +onlyGivenNames v3
  clear_value v3
  extract_lets +onlyGivenNames v4
  clear_value v4
  refine ite_of (fun (p : _ × State) => Keeps s₀ p.2) ?_ ?_
  · exact h_s
  · refine ite_of (fun (p : _ × State) => Keeps s₀ p.2) ?_ ?_
    · refine Keeps.mkPair ?_
      refine ite_of (Keeps s₀) ?_ ?_
      · apply configError_keeps
        exact h_s
      · apply configError_keeps
        refine Keeps.upd ?_ rfl
        exact h_s
    · refine ite_of (fun (p : _ × State) => Keeps s₀ p.2) ?_ ?_
      · refine Keeps.mkPair ?_
        apply setFnValid_keeps
        exact h_s
      · refine Keeps.mkPair ?_
        refine Keeps.upd ?_ rfl
        exact h_s

theorem settleRates_keeps {s₀ : State} (s : State) (off : Nat) (h_s : Keeps s₀ s) : Keeps s₀ (settleRates s off) := by
  unfold settleRates
  split
  · rename_i x1 x2
    exact h_s
  · rename_i x3 x4 x5
    refine ite_of (Keeps s₀) ?_ ?_
    · apply configError_keeps
      apply State.wr_keeps
      apply State.wr_keeps
      exact h_s
    · exact h_s

theorem loadImage_keeps {s₀ : State} (s : State) (recs : List (Nat × Nat)) (h_s : Keeps s₀ s) : Keeps s₀ (loadImage s recs).snd := by
  unfold loadImage
  extract_lets +onlyGivenNames v1
  have h2 : Keeps s₀ v1.snd := by
    subst v1
    refine Keeps.foldlSnd ?_ ?_
    · exact h_s
    · intro y3 y4 y5
      extract_lets +onlyGivenNames v6
      have h7 : Keeps s₀ v6.snd := by
        subst v6
        apply loadRecord_keeps
        exact y5
      clear_value v6
      exact h7
  clear_value v1
  refine Keeps.mkPair ?_
  refine Keeps.foldl ?_ ?_
  · exact h2
  · intro y8 y9 y10
    apply settleRates_keeps
    exact y10

theorem reloadCfg_keeps {s₀ : State} (s : State) (u : UnitId) (h_s : Keeps s₀ s) : Keeps s₀ (reloadCfg s u) := by
  unfold reloadCfg
  apply loadImage_keeps
  exact h_s

theorem dropWrites_keeps {s₀ : State} (s : State) (u : UnitId) (h_s : Keeps s₀ s) : Keeps s₀ (dropWrites s u) := by
  unfold dropWrites
  extract_lets +onlyGivenNames v1
  have h2 : Keeps s₀ v1 := by
    subst v1
    refine Keeps.foldl ?_ ?_
    · exact h_s
    · intro y3 y4 y5
      split
      · rename_i x6 x7 x8
        refine ite_of (Keeps s₀) ?_ ?_
        · apply dropFp_keeps
          exact y5
        · exact y5
      · rename_i x9 x10
        exact y5
  clear_value v1
  extract_lets +onlyGivenNames v11
  clear_value v11
  extract_lets +onlyGivenNames v12
  clear_value v12
  extract_lets +onlyGivenNames v13
  have h14 : Keeps s₀ v13 := by
    subst v13
    refine Keeps.upd ?_ rfl
    exact h2
  clear_value v13
  apply refreshPending_keeps
  refine Keeps.foldl ?_ ?_
  · exact h14
  · intro y15 y16 y17
    apply finishGroup_keeps
    exact y17

theorem stackCut_keeps {s₀ : State} (s : State) (i : Nat) (h_s : Keeps s₀ s) : Keeps s₀ (stackCut s i) := by
  unfold stackCut
  refine Keeps.foldl ?_ ?_
  · exact h_s
  · intro y1 y2 y3
    apply endPair_keeps
    exact y3

theorem fnTableGone_keeps {s₀ : State} (s : State) (h_s : Keeps s₀ s) : Keeps s₀ (fnTableGone s) := by
  unfold fnTableGone
  refine Keeps.foldl ?_ ?_
  · exact h_s
  · intro y1 y2 y3
    apply queueReset_keeps
    exact y3

theorem clearPort_keeps {s₀ : State} (s : State) (n : Nat) (h_s : Keeps s₀ s) : Keeps s₀ (clearPort s n) := by
  unfold clearPort
  apply State.wri_keeps
  refine Keeps.upd ?_ rfl
  exact h_s

theorem clearUnit_keeps {s₀ : State} (s : State) (u : UnitId) (h_s : Keeps s₀ s) : Keeps s₀ (clearUnit s u) := by
  unfold clearUnit
  split
  · rename_i x1 x2
    refine ite_of (Keeps s₀) ?_ ?_
    · apply State.setPort_keeps
      exact h_s
    · apply clearPort_keeps
      exact h_s
  · rename_i x3
    refine Keeps.upd ?_ rfl
    exact h_s
  · rename_i x4
    apply setFence_keeps
    refine Keeps.upd ?_ rfl
    exact h_s
  · rename_i x5 x6
    refine ite_of (Keeps s₀) ?_ ?_
    · apply fnTableGone_keeps
      exact h_s
    · exact h_s
  · rename_i x7
    apply matchUnitReset_keeps
    exact h_s
  · rename_i x8
    refine Keeps.upd ?_ rfl
    exact h_s
  · rename_i x9
    refine Keeps.upd ?_ rfl
    exact h_s
  · rename_i x10
    refine Keeps.upd ?_ rfl
    exact h_s
  · rename_i x11 x12
    refine Keeps.upd ?_ rfl
    exact h_s
  · rename_i x13
    apply State.setGz_keeps
    exact h_s
  · rename_i x14 x15
    extract_lets +onlyGivenNames v16
    have h17 : Keeps s₀ v16 := by
      subst v16
      apply State.setAtt_keeps
      exact h_s
    clear_value v16
    refine Keeps.upd ?_ rfl
    exact h17
  · rename_i x18 x19
    refine Keeps.upd ?_ rfl
    exact h_s
  · rename_i x20 x21
    refine Keeps.upd ?_ rfl
    exact h_s
  · rename_i x22 x23
    apply stackCut_keeps
    exact h_s
  · rename_i x24
    apply State.setMg_keeps
    exact h_s
  · rename_i x25
    exact h_s
  · rename_i x26
    exact h_s
  · rename_i x27
    exact h_s
  · rename_i x28 x29
    exact h_s
  · rename_i x30
    exact h_s
  · rename_i x31 x32
    exact h_s
  · rename_i x33 x34
    exact h_s
  · rename_i x35 x36
    exact h_s
  · rename_i x37 x38
    exact h_s
  · rename_i x39 x40
    exact h_s
  · rename_i x41 x42
    exact h_s

theorem portsDown_keeps {s₀ : State} (s : State) (u : UnitId) (h_s : Keeps s₀ s) : Keeps s₀ (portsDown s u) := by
  unfold portsDown
  refine Keeps.foldl ?_ ?_
  · exact h_s
  · intro y1 y2 y3
    refine ite_of (Keeps s₀) ?_ ?_
    · apply portDown_keeps
      exact y3
    · exact y3

theorem banksReset_keeps {s₀ : State} (s : State) (us : List UnitId) (h_s : Keeps s₀ s) : Keeps s₀ (banksReset s us) := by
  unfold banksReset
  extract_lets +onlyGivenNames v1
  clear_value v1
  apply State.setGz_keeps
  exact h_s

theorem beginReset_keeps {s₀ : State} (s : State) (u : UnitId) (h_s : Keeps s₀ s) : Keeps s₀ (beginReset s u) := by
  unfold beginReset
  extract_lets +onlyGivenNames v1
  clear_value v1
  extract_lets +onlyGivenNames v2
  have h3 : Keeps s₀ v2 := by
    subst v2
    exact h_s
  clear_value v2
  extract_lets +onlyGivenNames v4
  have h5 : Keeps s₀ v4 := by
    subst v4
    apply portsDown_keeps
    refine Keeps.foldl ?_ ?_
    · exact h_s
    · intro y6 y7 y8
      apply giveUp_keeps
      exact y8
  clear_value v4
  extract_lets +onlyGivenNames v9
  have h10 : Keeps s₀ v9 := by
    subst v9
    refine Keeps.foldl ?_ ?_
    · apply dropWrites_keeps
      exact h5
    · intro y11 y12 y13
      apply clearUnit_keeps
      exact y13
  clear_value v9
  extract_lets +onlyGivenNames v14
  have h15 : Keeps s₀ v14 := by
    subst v14
    refine Keeps.upd ?_ rfl
    exact h10
  clear_value v14
  extract_lets +onlyGivenNames v16
  have h17 : Keeps s₀ v16 := by
    subst v16
    apply banksReset_keeps
    apply reloadCfg_keeps
    exact h15
  clear_value v16
  extract_lets +onlyGivenNames v18
  have h19 : Keeps s₀ v18 := by
    subst v18
    refine ite_of (Keeps s₀) ?_ ?_
    · apply routingEvents_keeps
      · exact h3
      · refine Keeps.foldl ?_ ?_
        · exact h17
        · intro y20 y21 y22
          refine ite_of (Keeps s₀) ?_ ?_
          · apply setMask96_keeps
            exact y22
          · exact y22
    · exact h17
  clear_value v18
  extract_lets +onlyGivenNames v23
  have h24 : Keeps s₀ v23 := by
    subst v23
    refine ite_of (Keeps s₀) ?_ ?_
    · apply showRecovery_keeps
      apply showFree_keeps
      exact h19
    · exact h19
  clear_value v23
  refine Keeps.upd ?_ rfl
  exact h24

theorem portReset_keeps {s₀ : State} (s : State) (n : Nat) (h_s : Keeps s₀ s) : Keeps s₀ (portReset s n) := by
  unfold portReset
  extract_lets +onlyGivenNames v1
  clear_value v1
  extract_lets +onlyGivenNames v2
  clear_value v2
  extract_lets +onlyGivenNames v3
  have h4 : Keeps s₀ v3 := by
    subst v3
    apply clearPort_keeps
    apply portDown_keeps
    apply State.setPort_keeps
    exact h_s
  clear_value v3
  extract_lets +onlyGivenNames v5
  have h6 : Keeps s₀ v5 := by
    subst v5
    apply reloadCfg_keeps
    refine Keeps.upd ?_ rfl
    exact h4
  clear_value v5
  refine ite_of (Keeps s₀) ?_ ?_
  · apply autoStart_keeps
    exact h6
  · exact h6

theorem execLinkDownSent_keeps {s₀ : State} (n : Fin 96) (s : State) (h_s : Keeps s₀ s) : Ends (execLinkDownSent n s) (Keeps s₀) := by
  unfold execLinkDownSent
  extract_lets +onlyGivenNames v1
  clear_value v1
  refine Ends.next ?_
  refine ite_of (Keeps s₀) ?_ ?_
  · split
    · rename_i x2 x3
      exact h_s
    · rename_i x4 x5 x6
      apply portDown_keeps
      apply State.setPort_keeps
      exact h_s
    · rename_i x7 x8
      apply portReset_keeps
      exact h_s
  · exact h_s

theorem execUnitResetDone_keeps {s₀ : State} (u : UnitId) (s : State) (h_s : Keeps s₀ s) : Ends (execUnitResetDone u s) (Keeps s₀) := by
  unfold execUnitResetDone
  refine ite_of (fun o => Ends o (Keeps s₀)) ?_ ?_
  · refine Ends.next ?_
    exact h_s
  · extract_lets +onlyGivenNames v1
    clear_value v1
    extract_lets +onlyGivenNames v2
    clear_value v2
    extract_lets +onlyGivenNames v3
    clear_value v3
    extract_lets +onlyGivenNames v4
    clear_value v4
    extract_lets +onlyGivenNames v5
    have h6 : Keeps s₀ v5 := by
      subst v5
      refine Keeps.upd ?_ rfl
      exact h_s
    clear_value v5
    extract_lets +onlyGivenNames v7
    have h8 : Keeps s₀ v7 := by
      subst v7
      refine Keeps.foldl ?_ ?_
      · exact h6
      · intro y9 y10 y11
        split
        · rename_i x12 x13 x14
          refine ite_of (Keeps s₀) ?_ ?_
          · exact y11
          · apply setDead_keeps
            exact y11
        · rename_i x15 x16
          exact y11
    clear_value v7
    extract_lets +onlyGivenNames v17
    have h18 : Keeps s₀ v17 := by
      subst v17
      refine ite_of (Keeps s₀) ?_ ?_
      · apply State.wr_keeps
        exact h8
      · exact h8
    clear_value v17
    extract_lets +onlyGivenNames v19
    have h20 : Keeps s₀ v19 := by
      subst v19
      refine Keeps.foldl ?_ ?_
      · exact h18
      · intro y21 y22 y23
        apply fenceUnit_keeps
        exact y23
    clear_value v19
    refine Ends.next ?_
    refine ite_of (Keeps s₀) ?_ ?_
    · apply autoStartAll_keeps
      exact h20
    · exact h20

theorem recordCause_keeps {s₀ : State} (s : State) (cause : Nat) (group : Nat) (h_s : Keeps s₀ s) : Keeps s₀ (recordCause s cause group) := by
  unfold recordCause
  refine ite_of (Keeps s₀) ?_ ?_
  · extract_lets +onlyGivenNames v1
    clear_value v1
    refine ite_of (Keeps s₀) ?_ ?_
    · apply State.wr_keeps
      apply State.wr_keeps
      exact h_s
    · refine ite_of (Keeps s₀) ?_ ?_
      · apply State.wr_keeps
        exact h_s
      · exact h_s
  · extract_lets +onlyGivenNames v2
    have h3 : Keeps s₀ v2 := by
      subst v2
      apply State.bump_keeps
      apply State.wr_keeps
      apply State.wr_keeps
      exact h_s
    clear_value v2
    refine Keeps.upd ?_ rfl
    exact h3

theorem lowerRails_keeps {s₀ : State} (s : State) (h_s : Keeps s₀ s) : Keeps s₀ (lowerRails s) := by
  unfold lowerRails
  extract_lets +onlyGivenNames v1
  have h2 : Keeps s₀ v1 := by
    subst v1
    refine Keeps.foldl ?_ ?_
    · exact h_s
    · intro y3 y4 y5
      refine ite_of (Keeps s₀) ?_ ?_
      · apply State.emit_keeps
        exact y5
      · exact y5
  clear_value v1
  refine Keeps.upd ?_ rfl
  exact h2

theorem raiseRail_keeps {s₀ : State} (s : State) (g : Nat) (h_s : Keeps s₀ s) : Keeps s₀ (raiseRail s g) := by
  unfold raiseRail
  refine ite_of (Keeps s₀) ?_ ?_
  · exact h_s
  · apply State.emit_keeps
    refine Keeps.upd ?_ rfl
    exact h_s

theorem startPower_keeps {s₀ : State} (s : State) (h_s : Keeps s₀ s) : Keeps s₀ (startPower s) := by
  unfold startPower
  refine ite_of (Keeps s₀) ?_ ?_
  · apply raiseRail_keeps
    exact h_s
  · exact h_s

theorem releaseTherm_keeps {s₀ : State} (s : State) (h_s : Keeps s₀ s) : Keeps s₀ (releaseTherm s) := by
  unfold releaseTherm
  extract_lets +onlyGivenNames v1
  have h2 : Keeps s₀ v1 := by
    subst v1
    refine ite_of (Keeps s₀) ?_ ?_
    · apply State.emit_keeps
      exact h_s
    · exact h_s
  clear_value v1
  refine Keeps.upd ?_ rfl
  exact h2

theorem coldState_keeps {s₀ : State} (s : State) (h : Keeps s₀ s) : Keeps s₀ (coldState s) :=
  ⟨h.1, h.2.1, h.2.2.1, fun _ => rfl⟩

theorem coldStart_keeps {s₀ : State} (s : State) (cause : Nat) (group : Nat) (h_s : Keeps s₀ s) : Keeps s₀ (coldStart s cause group) := by
  unfold coldStart
  apply startPower_keeps
  apply coldState_keeps
  apply lowerRails_keeps
  apply recordCause_keeps
  apply releaseTherm_keeps
  apply closeBypass_keeps
  exact h_s

theorem warmExtents_keeps {s₀ : State} (s : State) (h_s : Keeps s₀ s) : Keeps s₀ (warmExtents s) := by
  unfold warmExtents
  refine Keeps.foldl ?_ ?_
  · exact h_s
  · intro y1 y2 y3
    extract_lets +onlyGivenNames v4
    clear_value v4
    split
    · rename_i x5 x6
      exact y3
    · rename_i x7 x8 x9
      refine ite_of (Keeps s₀) ?_ ?_
      · extract_lets +onlyGivenNames v10
        have h11 : Keeps s₀ v10 := by
          subst v10
          refine ite_of (Keeps s₀) ?_ ?_
          · exact y3
          · apply deviceEvent_keeps
            apply poolEvent_keeps
            exact y3
        clear_value v10
        refine Keeps.upd ?_ rfl
        exact h11
      · split
        · rename_i x12 x13
          apply putExt_keeps
          exact y3
        · rename_i x14 x15
          apply queueSanitize_keeps
          apply State.setExt_keeps
          exact y3
        · rename_i x16 x17
          apply endPair_keeps
          exact y3
        · rename_i x18 x19
          refine ite_of (Keeps s₀) ?_ ?_
          · exact y3
          · apply putExt_keeps
            exact y3
        · rename_i x20 x21
          refine ite_of (Keeps s₀) ?_ ?_
          · exact y3
          · apply putExt_keeps
            exact y3

theorem agentsWriteBack_keeps {s₀ : State} (s : State) (h_s : Keeps s₀ s) : Keeps s₀ (agentsWriteBack s) := by
  unfold agentsWriteBack
  extract_lets +onlyGivenNames v1
  have h2 : Keeps s₀ v1 := by
    subst v1
    refine Keeps.foldl ?_ ?_
    · exact h_s
    · intro y3 y4 y5
      refine Keeps.foldl ?_ ?_
      · exact y5
      · intro y6 y7 y8
        apply writeLine_keeps
        exact y8
  clear_value v1
  extract_lets +onlyGivenNames v9
  have h10 : Keeps s₀ v9 := by
    subst v9
    refine Keeps.foldl ?_ ?_
    · exact h2
    · intro y11 y12 y13
      refine ite_of (Keeps s₀) ?_ ?_
      · apply wbData_keeps
        exact y13
      · exact y13
  clear_value v9
  extract_lets +onlyGivenNames v14
  clear_value v14
  extract_lets +onlyGivenNames v15
  have h16 : Keeps s₀ v15 := by
    subst v15
    refine Keeps.upd ?_ rfl
    exact h10
  clear_value v15
  refine Keeps.foldl ?_ ?_
  · exact h16
  · intro y17 y18 y19
    refine Keeps.foldl ?_ ?_
    · exact y19
    · intro y20 y21 y22
      apply sfRemove_keeps
      exact y22

theorem reclaimAll_keeps {s₀ : State} (before : Nat) (s : State) (h_s : Keeps s₀ s) : Keeps s₀ (reclaimAll before s) := by
  unfold reclaimAll
  extract_lets +onlyGivenNames v1
  have h2 : Keeps s₀ v1 := by
    subst v1
    refine Keeps.foldl ?_ ?_
    · exact h_s
    · intro y3 y4 y5
      apply agentDies_keeps
      exact y5
  clear_value v1
  extract_lets +onlyGivenNames v6
  have h7 : Keeps s₀ v6 := by
    subst v6
    refine Keeps.foldl ?_ ?_
    · exact h2
    · intro y8 y9 y10
      refine Keeps.foldl ?_ ?_
      · exact y10
      · intro y11 y12 y13
        apply recoveryStep_keeps
        apply scanSlice_keeps
        exact y13
  clear_value v6
  refine ite_of (Keeps s₀) ?_ ?_
  · exact h7
  · apply State.wr_keeps
    exact h7

theorem warmState_keeps {s₀ : State} (s : State) (h : Keeps s₀ s) : Keeps s₀ (warmState s) := h.same rfl rfl rfl rfl

theorem warmStart_keeps {s₀ : State} (s : State) (h_s : Keeps s₀ s) : Keeps s₀ (warmStart s) := by
  unfold warmStart
  refine ite_of (Keeps s₀) ?_ ?_
  · exact h_s
  · extract_lets +onlyGivenNames v1
    clear_value v1
    extract_lets +onlyGivenNames v2
    have h3 : Keeps s₀ v2 := by
      subst v2
      apply closeBypass_keeps
      apply recordCause_keeps
      apply releaseTherm_keeps
      exact h_s
    clear_value v2
    extract_lets +onlyGivenNames v4
    have h5 : Keeps s₀ v4 := by
      subst v4
      refine Keeps.foldl ?_ ?_
      · exact h3
      · intro y6 y7 y8
        refine ite_of (Keeps s₀) ?_ ?_
        · apply attachGoesDown_keeps
          exact y8
        · refine ite_of (Keeps s₀) ?_ ?_
          · apply linkGone_keeps
            exact y8
          · exact y8
    clear_value v4
    extract_lets +onlyGivenNames v9
    have h10 : Keeps s₀ v9 := by
      subst v9
      apply dropSessions_keeps
      exact h5
    clear_value v9
    extract_lets +onlyGivenNames v11
    have h12 : Keeps s₀ v11 := by
      subst v11
      apply warmExtents_keeps
      apply reclaimAll_keeps
      apply agentsWriteBack_keeps
      exact h10
    clear_value v11
    apply showFree_keeps
    apply warmState_keeps
    exact h12


/-! ### Machine/FlaskOps.lean -/

theorem flaskEvent_keeps {s₀ : State} (s : State) (i : Nat) (h_s : Keeps s₀ s) : Keeps s₀ (flaskEvent s i) := by
  unfold flaskEvent
  apply State.setEvt_keeps
  exact h_s

theorem setBank_keeps {s₀ : State} (s : State) (cfgArea : Bool) (bankB : Bool) (b : FlaskBank) (h_s : Keeps s₀ s) : Keeps s₀ (setBank s cfgArea bankB b) := by
  unfold setBank
  split
  · rename_i x1 x2
    refine Keeps.upd ?_ rfl
    exact h_s
  · rename_i x3 x4
    refine Keeps.upd ?_ rfl
    exact h_s
  · rename_i x5 x6
    refine Keeps.upd ?_ rfl
    exact h_s
  · rename_i x7 x8
    refine Keeps.upd ?_ rfl
    exact h_s

theorem showBank_keeps {s₀ : State} (s : State) (cfgArea : Bool) (bankB : Bool) (good : Bool) (h_s : Keeps s₀ s) : Keeps s₀ (showBank s cfgArea bankB good) := by
  unfold showBank
  extract_lets +onlyGivenNames v1
  clear_value v1
  apply State.wr64_keeps
  apply State.wr_keeps
  exact h_s

theorem testBanks_keeps {s₀ : State} (s : State) (sigA : Bool) (sigB : Bool) (h_s : Keeps s₀ s) : Keeps s₀ (testBanks s sigA sigB) := by
  unfold testBanks
  extract_lets +onlyGivenNames v1
  have h2 : Keeps s₀ v1 := by
    subst v1
    apply showBank_keeps
    exact h_s
  clear_value v1
  extract_lets +onlyGivenNames v3
  have h4 : Keeps s₀ v3 := by
    subst v3
    apply showBank_keeps
    exact h2
  clear_value v3
  extract_lets +onlyGivenNames v5
  have h6 : Keeps s₀ v5 := by
    subst v5
    apply showBank_keeps
    exact h4
  clear_value v5
  apply showBank_keeps
  exact h6


/-! ### Machine/Startup.lean -/

theorem setBoot_keeps {s₀ : State} (s : State) (b : BootSt) (h_s : Keeps s₀ s) : Keeps s₀ (setBoot s b) := by
  unfold setBoot
  refine Keeps.upd ?_ rfl
  exact h_s

theorem unlock_keeps {s₀ : State} (s : State) (h_s : Keeps s₀ s) : Keeps s₀ (unlock s) := by
  unfold unlock
  apply setBoot_keeps
  exact h_s

theorem execV3p3AuxRise_keeps {s₀ : State} (s : State) (h_s : Keeps s₀ s) : Ends (execV3p3AuxRise s) (Keeps s₀) := by
  unfold execV3p3AuxRise
  refine ite_of (fun o => Ends o (Keeps s₀)) ?_ ?_
  · refine Ends.next ?_
    exact h_s
  · refine Ends.next ?_
    apply startPower_keeps
    apply setBoot_keeps
    exact h_s

theorem execV3p3AuxLoss_keeps {s₀ : State} (s : State) (h_s : Keeps s₀ s) : Ends (execV3p3AuxLoss s) (Keeps s₀) := by
  unfold execV3p3AuxLoss
  refine ite_of (fun o => Ends o (Keeps s₀)) ?_ ?_
  · refine Ends.next ?_
    exact h_s
  · extract_lets +onlyGivenNames v1
    have h2 : Keeps s₀ v1 := by
      subst v1
      apply coldState_keeps
      apply lowerRails_keeps
      apply releaseTherm_keeps
      apply closeBypass_keeps
      exact h_s
    clear_value v1
    extract_lets +onlyGivenNames v3
    have h4 : Keeps s₀ v3 := by
      subst v3
      refine Keeps.upd ?_ rfl
      exact h2
    clear_value v3
    refine Ends.next ?_
    apply setBoot_keeps
    exact h4

theorem execPwrGoodRise_keeps {s₀ : State} (s : State) (h_s : Keeps s₀ s) : Ends (execPwrGoodRise s) (Keeps s₀) := by
  unfold execPwrGoodRise
  refine ite_of (fun o => Ends o (Keeps s₀)) ?_ ?_
  · refine Ends.next ?_
    exact h_s
  · extract_lets +onlyGivenNames v1
    clear_value v1
    extract_lets +onlyGivenNames v2
    clear_value v2
    extract_lets +onlyGivenNames v3
    have h4 : Keeps s₀ v3 := by
      subst v3
      apply setBoot_keeps
      exact h_s
    clear_value v3
    refine Ends.next ?_
    apply startPower_keeps
    refine ite_of (Keeps s₀) ?_ ?_
    · apply unlock_keeps
      exact h4
    · exact h4

theorem execPwrGoodFall_keeps {s₀ : State} (s : State) (h_s : Keeps s₀ s) : Ends (execPwrGoodFall s) (Keeps s₀) := by
  unfold execPwrGoodFall
  refine ite_of (fun o => Ends o (Keeps s₀)) ?_ ?_
  · refine Ends.next ?_
    exact h_s
  · extract_lets +onlyGivenNames v1
    clear_value v1
    extract_lets +onlyGivenNames v2
    have h3 : Keeps s₀ v2 := by
      subst v2
      apply setBoot_keeps
      exact h_s
    clear_value v2
    refine Ends.next ?_
    refine ite_of (Keeps s₀) ?_ ?_
    · apply coldStart_keeps
      exact h3
    · exact h3

theorem execResetNAssert_keeps {s₀ : State} (s : State) (h_s : Keeps s₀ s) : Ends (execResetNAssert s) (Keeps s₀) := by
  unfold execResetNAssert
  refine ite_of (fun o => Ends o (Keeps s₀)) ?_ ?_
  · refine Ends.next ?_
    exact h_s
  · extract_lets +onlyGivenNames v1
    clear_value v1
    extract_lets +onlyGivenNames v2
    have h3 : Keeps s₀ v2 := by
      subst v2
      apply setBoot_keeps
      exact h_s
    clear_value v2
    refine Ends.next ?_
    refine ite_of (Keeps s₀) ?_ ?_
    · apply coldStart_keeps
      exact h3
    · exact h3

theorem execResetNRelease_keeps {s₀ : State} (s : State) (h_s : Keeps s₀ s) : Ends (execResetNRelease s) (Keeps s₀) := by
  unfold execResetNRelease
  refine ite_of (fun o => Ends o (Keeps s₀)) ?_ ?_
  · refine Ends.next ?_
    exact h_s
  · refine Ends.next ?_
    apply startPower_keeps
    apply unlock_keeps
    apply setBoot_keeps
    exact h_s

theorem execTestEnAssert_keeps {s₀ : State} (s : State) (h_s : Keeps s₀ s) : Ends (execTestEnAssert s) (Keeps s₀) := by
  unfold execTestEnAssert
  refine ite_of (fun o => Ends o (Keeps s₀)) ?_ ?_
  · refine Ends.next ?_
    exact h_s
  · extract_lets +onlyGivenNames v1
    clear_value v1
    extract_lets +onlyGivenNames v2
    have h3 : Keeps s₀ v2 := by
      subst v2
      apply setBoot_keeps
      exact h_s
    clear_value v2
    refine Ends.next ?_
    refine ite_of (Keeps s₀) ?_ ?_
    · apply coldStart_keeps
      exact h3
    · exact h3

theorem execTestEnRelease_keeps {s₀ : State} (s : State) (h_s : Keeps s₀ s) : Ends (execTestEnRelease s) (Keeps s₀) := by
  unfold execTestEnRelease
  refine ite_of (fun o => Ends o (Keeps s₀)) ?_ ?_
  · refine Ends.next ?_
    exact h_s
  · refine Ends.next ?_
    apply startPower_keeps
    apply setBoot_keeps
    exact h_s

theorem execRailPgRise_keeps {s₀ : State} (g : Fin 4) (s : State) (h_s : Keeps s₀ s) : Ends (execRailPgRise g s) (Keeps s₀) := by
  unfold execRailPgRise
  extract_lets +onlyGivenNames v1
  clear_value v1
  extract_lets +onlyGivenNames v2
  have h3 : Keeps s₀ v2 := by
    subst v2
    apply setBoot_keeps
    exact h_s
  clear_value v2
  refine Ends.next ?_
  refine ite_of (Keeps s₀) ?_ ?_
  · apply raiseRail_keeps
    exact h3
  · exact h3

theorem railFails_keeps {s₀ : State} (s : State) (g : Nat) (h_s : Keeps s₀ s) : Keeps s₀ (railFails s g) := by
  unfold railFails
  apply coldStart_keeps
  apply setBoot_keeps
  exact h_s

theorem execRailPgTimeout_keeps {s₀ : State} (g : Fin 4) (s : State) (h_s : Keeps s₀ s) : Ends (execRailPgTimeout g s) (Keeps s₀) := by
  unfold execRailPgTimeout
  refine Ends.next ?_
  refine ite_of (Keeps s₀) ?_ ?_
  · apply railFails_keeps
    exact h_s
  · exact h_s

theorem execRailPgFall_keeps {s₀ : State} (g : Fin 4) (s : State) (h_s : Keeps s₀ s) : Ends (execRailPgFall g s) (Keeps s₀) := by
  unfold execRailPgFall
  refine ite_of (fun o => Ends o (Keeps s₀)) ?_ ?_
  · refine Ends.next ?_
    exact h_s
  · extract_lets +onlyGivenNames v1
    clear_value v1
    extract_lets +onlyGivenNames v2
    have h3 : Keeps s₀ v2 := by
      subst v2
      apply setBoot_keeps
      exact h_s
    clear_value v2
    refine Ends.next ?_
    refine ite_of (Keeps s₀) ?_ ?_
    · apply railFails_keeps
      exact h3
    · exact h3

theorem execIslandLock_keeps {s₀ : State} (s : State) (h_s : Keeps s₀ s) : Ends (execIslandLock s) (Keeps s₀) := by
  unfold execIslandLock
  refine ite_of (fun o => Ends o (Keeps s₀)) ?_ ?_
  · refine Ends.next ?_
    exact h_s
  · refine Ends.next ?_
    extract_lets +onlyGivenNames v1
    clear_value v1
    extract_lets +onlyGivenNames v2
    have h3 : Keeps s₀ v2 := by
      subst v2
      apply setBoot_keeps
      exact h_s
    clear_value v2
    refine Keeps.upd ?_ rfl
    exact h3

theorem mpStarts_keeps {s₀ : State} (s : State) (h_s : Keeps s₀ s) : Keeps s₀ (mpStarts s) := by
  unfold mpStarts
  apply State.wr_keeps
  apply setBoot_keeps
  exact h_s

theorem measure_keeps {s₀ : State} (s : State) (i : Nat) (d : BitVec 256) (h_s : Keeps s₀ s) : Keeps s₀ (measure s i d) := by
  unfold measure
  refine Keeps.upd ?_ rfl
  exact h_s

theorem chooseConfig_keeps {s₀ : State} (s : State) (h_s : Keeps s₀ s) : Keeps s₀ (chooseConfig s) := by
  unfold chooseConfig
  split
  · rename_i x1 x2 x3
    apply measure_keeps
    apply State.wr_keeps
    apply State.wr_keeps
    exact h_s
  · rename_i x4 x5
    apply measure_keeps
    apply State.wr_keeps
    exact h_s

theorem bootBank_keeps {s₀ : State} (s : State) (b : Bool) (h_s : Keeps s₀ s) : Keeps s₀ (bootBank s b) := by
  unfold bootBank
  extract_lets +onlyGivenNames v1
  clear_value v1
  extract_lets +onlyGivenNames v2
  have h3 : Keeps s₀ v2 := by
    subst v2
    apply measure_keeps
    apply State.wr_keeps
    exact h_s
  clear_value v2
  extract_lets +onlyGivenNames v4
  have h5 : Keeps s₀ v4 := by
    subst v4
    apply State.wr_keeps
    apply State.wr_keeps
    exact h3
  clear_value v4
  extract_lets +onlyGivenNames v6
  have h7 : Keeps s₀ v6 := by
    subst v6
    apply State.wr_keeps
    exact h5
  clear_value v6
  apply mpStarts_keeps
  apply setBoot_keeps
  exact h7

theorem bootRecovery_keeps {s₀ : State} (s : State) (h_s : Keeps s₀ s) : Keeps s₀ (bootRecovery s) := by
  unfold bootRecovery
  extract_lets +onlyGivenNames v1
  have h2 : Keeps s₀ v1 := by
    subst v1
    apply measure_keeps
    apply State.wr_keeps
    exact h_s
  clear_value v1
  extract_lets +onlyGivenNames v3
  have h4 : Keeps s₀ v3 := by
    subst v3
    apply State.wr_keeps
    apply State.wr_keeps
    exact h2
  clear_value v3
  apply mpStarts_keeps
  apply State.spend_keeps
  exact h4

theorem execBootFirmwareSelect_keeps {s₀ : State} (c : BootChecks) (s : State) (h_s : Keeps s₀ s) : Ends (execBootFirmwareSelect c s) (Keeps s₀) := by
  unfold execBootFirmwareSelect
  refine ite_of (fun o => Ends o (Keeps s₀)) ?_ ?_
  · refine Ends.next ?_
    exact h_s
  · extract_lets +onlyGivenNames v1
    have h2 : Keeps s₀ v1 := by
      subst v1
      apply testBanks_keeps
      exact h_s
    clear_value v1
    extract_lets +onlyGivenNames v3
    have h4 : Keeps s₀ v3 := by
      subst v3
      refine ite_of (Keeps s₀) ?_ ?_
      · exact h2
      · apply flaskEvent_keeps
        exact h2
    clear_value v3
    extract_lets +onlyGivenNames v5
    have h6 : Keeps s₀ v5 := by
      subst v5
      apply chooseConfig_keeps
      apply measure_keeps
      apply measure_keeps
      exact h4
    clear_value v5
    refine Ends.next ?_
    split
    · rename_i x7 x8 x9
      apply bootBank_keeps
      exact h6
    · rename_i x10 x11
      refine ite_of (Keeps s₀) ?_ ?_
      · apply bootRecovery_keeps
        exact h6
      · apply State.wr_keeps
        exact h6

theorem startConfigured_keeps {s₀ : State} (s : State) (h_s : Keeps s₀ s) : Keeps s₀ (startConfigured s) := by
  unfold startConfigured
  extract_lets +onlyGivenNames v1
  have h2 : Keeps s₀ v1 := by
    subst v1
    refine ite_of (Keeps s₀) ?_ ?_
    · apply contourStart_keeps
      exact h_s
    · exact h_s
  clear_value v1
  extract_lets +onlyGivenNames v3
  have h4 : Keeps s₀ v3 := by
    subst v3
    refine ite_of (Keeps s₀) ?_ ?_
    · refine Keeps.foldl ?_ ?_
      · exact h2
      · intro y5 y6 y7
        apply trailReload_keeps
        exact y7
    · exact h2
  clear_value v3
  refine ite_of (Keeps s₀) ?_ ?_
  · exact h4
  · apply State.wr_keeps
    exact h4

theorem execConfigImageApply_keeps {s₀ : State} (s : State) (h_s : Keeps s₀ s) : Ends (execConfigImageApply s) (Keeps s₀) := by
  unfold execConfigImageApply
  refine ite_of (fun o => Ends o (Keeps s₀)) ?_ ?_
  · refine Ends.next ?_
    exact h_s
  · extract_lets +onlyGivenNames v1
    clear_value v1
    extract_lets +onlyGivenNames v2
    clear_value v2
    extract_lets +onlyGivenNames v3
    have h4 : Keeps s₀ v3.snd := by
      subst v3
      apply loadImage_keeps
      refine Keeps.upd ?_ rfl
      exact h_s
    clear_value v3
    extract_lets +onlyGivenNames v5
    have h6 : Keeps s₀ v5 := by
      subst v5
      apply State.add_keeps
      exact h4
    clear_value v5
    refine Ends.next ?_
    apply startConfigured_keeps
    apply setBoot_keeps
    exact h6

theorem execStackInService_keeps {s₀ : State} (st : Fin 6) (s : State) (h_s : Keeps s₀ s) : Ends (execStackInService st s) (Keeps s₀) := by
  unfold execStackInService
  refine ite_of (fun o => Ends o (Keeps s₀)) ?_ ?_
  · refine Ends.next ?_
    exact h_s
  · extract_lets +onlyGivenNames v1
    have h2 : Keeps s₀ v1 := by
      subst v1
      apply State.wr_keeps
      exact h_s
    clear_value v1
    refine ite_of (fun o => Ends o (Keeps s₀)) ?_ ?_
    · refine Ends.next ?_
      exact h2
    · refine ite_of (fun o => Ends o (Keeps s₀)) ?_ ?_
      · refine Ends.next ?_
        apply startBct_keeps
        exact h2
      · refine Ends.next ?_
        apply fencing_keeps
        · exact h2
        · refine Keeps.foldl ?_ ?_
          · apply setBoot_keeps
            exact h2
          · intro y3 y4 y5
            apply startDrain_keeps
            exact y5

theorem execFabricReady_keeps {s₀ : State} (s : State) (h_s : Keeps s₀ s) : Ends (execFabricReady s) (Keeps s₀) := by
  unfold execFabricReady
  refine Ends.next ?_
  refine ite_of (Keeps s₀) ?_ ?_
  · apply State.wr_keeps
    exact h_s
  · exact h_s

theorem confirmFw_keeps {s₀ : State} (s : State) (c : BootChecks) (h_s : Keeps s₀ s) : Keeps s₀ (confirmFw s c) := by
  unfold confirmFw
  refine ite_of (Keeps s₀) ?_ ?_
  · exact h_s
  · extract_lets +onlyGivenNames v1
    clear_value v1
    extract_lets +onlyGivenNames v2
    have h3 : Keeps s₀ v2 := by
      subst v2
      apply State.wr_keeps
      exact h_s
    clear_value v2
    extract_lets +onlyGivenNames v4
    clear_value v4
    extract_lets +onlyGivenNames v5
    have h6 : Keeps s₀ v5 := by
      subst v5
      refine Keeps.upd ?_ rfl
      exact h3
    clear_value v5
    apply State.wr_keeps
    apply testBanks_keeps
    exact h6

theorem execFwConfirm_keeps {s₀ : State} (r : Route) (c : BootChecks) (s : State) (h_s : Keeps s₀ s) : Ends (execFwConfirm r c s) (Keeps s₀) := by
  unfold execFwConfirm
  refine Ends.next ?_
  apply guarded_keeps
  · exact h_s
  · intro y1 y2
    apply confirmFw_keeps
    exact y2

theorem execStallWatchdogFire_keeps {s₀ : State} (u : UnitId) (stage : BitVec 16) (held : BitVec 16) (s : State) (h_s : Keeps s₀ s) : Ends (execStallWatchdogFire u stage held s) (Keeps s₀) := by
  unfold execStallWatchdogFire
  refine ite_of (fun o => Ends o (Keeps s₀)) ?_ ?_
  · refine Ends.next ?_
    exact h_s
  · refine Ends.next ?_
    apply dangerous_keeps
    exact h_s

theorem execWatchdogTest_keeps {s₀ : State} (u : UnitId) (stage : BitVec 16) (fired : Bool) (s : State) (h_s : Keeps s₀ s) : Ends (execWatchdogTest u stage fired s) (Keeps s₀) := by
  unfold execWatchdogTest
  refine ite_of (fun o => Ends o (Keeps s₀)) ?_ ?_
  · refine Ends.next ?_
    exact h_s
  · extract_lets +onlyGivenNames v1
    have h2 : Keeps s₀ v1 := by
      subst v1
      apply State.bump_keeps
      exact h_s
    clear_value v1
    refine Ends.next ?_
    refine ite_of (Keeps s₀) ?_ ?_
    · exact h2
    · apply recordError_keeps
      exact h2

theorem clearEntry_keeps {s₀ : State} (s : State) (off : Nat) (h_s : Keeps s₀ s) : Keeps s₀ (clearEntry s off) := by
  unfold clearEntry
  extract_lets +onlyGivenNames v1
  clear_value v1
  extract_lets +onlyGivenNames v2
  clear_value v2
  split
  · rename_i x3
    extract_lets +onlyGivenNames v4
    clear_value v4
    extract_lets +onlyGivenNames v5
    clear_value v5
    extract_lets +onlyGivenNames v6
    clear_value v6
    extract_lets +onlyGivenNames v7
    have h8 : Keeps s₀ v7 := by
      subst v7
      refine ite_of (Keeps s₀) ?_ ?_
      · apply State.wr_keeps
        exact h_s
      · refine Keeps.upd ?_ rfl
        exact h_s
    clear_value v7
    extract_lets +onlyGivenNames v9
    have h10 : Keeps s₀ v9 := by
      subst v9
      apply mendWord_keeps
      exact h8
    clear_value v9
    apply recordError_keeps
    apply State.setEvt_keeps
    exact h10
  · rename_i x11
    extract_lets +onlyGivenNames v12
    clear_value v12
    apply recordError_keeps
    apply State.wri_keeps
    exact h_s
  · rename_i x13 x14 x15
    exact h_s

theorem execConfigScrubTick_keeps {s₀ : State} (u : UnitId) (res : ScrubResult) (s : State) (h_s : Keeps s₀ s) : Ends (execConfigScrubTick u res s) (Keeps s₀) := by
  unfold execConfigScrubTick
  refine ite_of (fun o => Ends o (Keeps s₀)) ?_ ?_
  · refine Ends.next ?_
    exact h_s
  · split
    · rename_i x1
      refine Ends.next ?_
      exact h_s
    · rename_i x2 x3
      refine ite_of (fun o => Ends o (Keeps s₀)) ?_ ?_
      · refine Ends.next ?_
        apply clearEntry_keeps
        exact h_s
      · refine Ends.next ?_
        exact h_s
    · rename_i x4 x5 x6
      refine Ends.next ?_
      apply dangerous_keeps
      exact h_s

theorem islandLost_keeps {s₀ : State} (s : State) (i : Nat) (h_s : Keeps s₀ s) : Keeps s₀ (islandLost s i) := by
  unfold islandLost
  refine ite_of (Keeps s₀) ?_ ?_
  · exact h_s
  · extract_lets +onlyGivenNames v1
    clear_value v1
    extract_lets +onlyGivenNames v2
    have h3 : Keeps s₀ v2 := by
      subst v2
      apply setBoot_keeps
      exact h_s
    clear_value v2
    extract_lets +onlyGivenNames v4
    clear_value v4
    refine ite_of (Keeps s₀) ?_ ?_
    · apply fatalStop_keeps
      exact h3
    · refine ite_of (Keeps s₀) ?_ ?_
      · exact h3
      · extract_lets +onlyGivenNames v5
        have h6 : Keeps s₀ v5 := by
          subst v5
          apply recordError_keeps
          exact h3
        clear_value v5
        refine ite_of (Keeps s₀) ?_ ?_
        · refine Keeps.foldl ?_ ?_
          · exact h6
          · intro y7 y8 y9
            refine ite_of (Keeps s₀) ?_ ?_
            · exact y9
            · apply portDown_keeps
              exact y9
        · refine ite_of (Keeps s₀) ?_ ?_
          · refine Keeps.foldl ?_ ?_
            · exact h6
            · intro y10 y11 y12
              apply attGone_keeps
              exact y12
          · refine ite_of (Keeps s₀) ?_ ?_
            · apply failStack_keeps
              exact h6
            · refine ite_of (Keeps s₀) ?_ ?_
              · apply closeBypass_keeps
                exact h6
              · refine ite_of (Keeps s₀) ?_ ?_
                · apply mpRestart_keeps
                  apply State.spend_keeps
                  exact h6
                · apply fenceUnit_keeps
                  exact h6

theorem execClockLoss_keeps {s₀ : State} (c : ClockId) (s : State) (h_s : Keeps s₀ s) : Ends (execClockLoss c s) (Keeps s₀) := by
  unfold execClockLoss
  refine Ends.next ?_
  apply fencing_keeps
  · exact h_s
  · refine Keeps.foldl ?_ ?_
    · exact h_s
    · intro y1 y2 y3
      apply islandLost_keeps
      exact y3

theorem execClockRestored_keeps {s₀ : State} (c : ClockId) (s : State) (h_s : Keeps s₀ s) : Ends (execClockRestored c s) (Keeps s₀) := by
  unfold execClockRestored
  extract_lets +onlyGivenNames v1
  clear_value v1
  extract_lets +onlyGivenNames v2
  clear_value v2
  extract_lets +onlyGivenNames v3
  have h4 : Keeps s₀ v3 := by
    subst v3
    apply setBoot_keeps
    exact h_s
  clear_value v3
  refine Ends.next ?_
  refine ite_of (Keeps s₀) ?_ ?_
  · apply autoStartAll_keeps
    exact h4
  · exact h4

theorem clearErrors_keeps {s₀ : State} (s : State) (us : List UnitId) (h_s : Keeps s₀ s) : Keeps s₀ (clearErrors s us) := by
  unfold clearErrors
  extract_lets +onlyGivenNames v1
  clear_value v1
  extract_lets +onlyGivenNames v2
  clear_value v2
  refine Keeps.upd ?_ rfl
  exact h_s

theorem execClrAll_keeps {s₀ : State} (r : Route) (s : State) (h_s : Keeps s₀ s) : Ends (execClrAll r s) (Keeps s₀) := by
  unfold execClrAll
  refine Ends.next ?_
  apply guarded_keeps
  · exact h_s
  · intro y1 y2
    apply clearErrors_keeps
    exact y2

theorem clearUnitErrors_keeps {s₀ : State} (s : State) (h_s : Keeps s₀ s) : Keeps s₀ (clearUnitErrors s) := by
  unfold clearUnitErrors
  split
  · rename_i x1 x2 x3
    apply clearErrors_keeps
    exact h_s
  · rename_i x4 x5
    apply configError_keeps
    exact h_s

theorem execClrUnit_keeps {s₀ : State} (r : Route) (s : State) (h_s : Keeps s₀ s) : Ends (execClrUnit r s) (Keeps s₀) := by
  unfold execClrUnit
  refine Ends.next ?_
  apply guarded_keeps
  · exact h_s
  · intro y1 y2
    apply clearUnitErrors_keeps
    exact y2

theorem execLogClr_keeps {s₀ : State} (r : Route) (s : State) (h_s : Keeps s₀ s) : Ends (execLogClr r s) (Keeps s₀) := by
  unfold execLogClr
  refine Ends.next ?_
  apply guarded_keeps
  · exact h_s
  · intro y1 y2
    apply State.wr_keeps
    exact y2

theorem execErrCntClr_keeps {s₀ : State} (r : Route) (s : State) (h_s : Keeps s₀ s) : Ends (execErrCntClr r s) (Keeps s₀) := by
  unfold execErrCntClr
  refine Ends.next ?_
  apply guarded_keeps
  · exact h_s
  · intro y1 y2
    apply State.clearAll_keeps
    exact y2

theorem hkEvent_keeps {s₀ : State} (s : State) (i : Nat) (h_s : Keeps s₀ s) : Keeps s₀ (hkEvent s i) := by
  unfold hkEvent
  apply State.setEvt_keeps
  exact h_s

theorem setTherm_keeps {s₀ : State} (s : State) (b : Bool) (h_s : Keeps s₀ s) : Keeps s₀ (setTherm s b) := by
  unfold setTherm
  apply State.emit_keeps
  apply setBoot_keeps
  exact h_s

theorem hardTrips_keeps {s₀ : State} (s : State) (h_s : Keeps s₀ s) : Keeps s₀ (hardTrips s) := by
  unfold hardTrips
  extract_lets +onlyGivenNames v1
  clear_value v1
  extract_lets +onlyGivenNames v2
  have h3 : Keeps s₀ v2 := by
    subst v2
    apply setBoot_keeps
    exact h_s
  clear_value v2
  refine ite_of (Keeps s₀) ?_ ?_
  · apply coldState_keeps
    apply lowerRails_keeps
    apply releaseTherm_keeps
    apply State.wr_keeps
    apply State.wr_keeps
    exact h3
  · extract_lets +onlyGivenNames v4
    have h5 : Keeps s₀ v4 := by
      subst v4
      apply recordCause_keeps
      apply releaseTherm_keeps
      apply closeBypass_keeps
      exact h3
    clear_value v4
    apply coldState_keeps
    apply lowerRails_keeps
    apply State.wr_keeps
    apply State.wr_keeps
    exact h5

theorem thermalStop_keeps {s₀ : State} (s : State) (tj : Nat) (h_s : Keeps s₀ s) : Keeps s₀ (thermalStop s tj) := by
  unfold thermalStop
  refine ite_of (Keeps s₀) ?_ ?_
  · exact h_s
  · extract_lets +onlyGivenNames v1
    have h2 : Keeps s₀ v1 := by
      subst v1
      refine ite_of (Keeps s₀) ?_ ?_
      · exact h_s
      · apply setTherm_keeps
        exact h_s
    clear_value v1
    apply hkEvent_keeps
    apply fatalStop_keeps
    apply setBoot_keeps
    exact h2

theorem thermFollow_keeps {s₀ : State} (s : State) (tj : Nat) (h_s : Keeps s₀ s) : Keeps s₀ (thermFollow s tj) := by
  unfold thermFollow
  extract_lets +onlyGivenNames v1
  clear_value v1
  extract_lets +onlyGivenNames v2
  have h3 : Keeps s₀ v2 := by
    subst v2
    refine ite_of (Keeps s₀) ?_ ?_
    · apply hkEvent_keeps
      apply deviceEvent_keeps
      apply setTherm_keeps
      exact h_s
    · refine ite_of (Keeps s₀) ?_ ?_
      · apply hkEvent_keeps
        apply deviceEvent_keeps
        apply setTherm_keeps
        exact h_s
      · exact h_s
  clear_value v2
  refine ite_of (Keeps s₀) ?_ ?_
  · apply thermalStop_keeps
    exact h3
  · exact h3

theorem execThermalSensorRead_keeps {s₀ : State} (t : SensorReadings) (s : State) (h_s : Keeps s₀ s) : Ends (execThermalSensorRead t s) (Keeps s₀) := by
  unfold execThermalSensorRead
  refine ite_of (fun o => Ends o (Keeps s₀)) ?_ ?_
  · refine Ends.next ?_
    exact h_s
  · extract_lets +onlyGivenNames v1
    clear_value v1
    extract_lets +onlyGivenNames v2
    have h3 : ∀ (u : State), Keeps s₀ u → Keeps s₀ (v2 u) := by
      subst v2
      intro y4 y5
      dsimp -zeta only
      apply State.wr_keeps
      apply State.wr_keeps
      exact y5
    clear_value v2
    extract_lets +onlyGivenNames v6
    have h7 : Keeps s₀ v6 := by
      subst v6
      apply State.wr_keeps
      apply h3
      exact h_s
    clear_value v6
    refine Ends.next ?_
    refine ite_of (Keeps s₀) ?_ ?_
    · refine ite_of (Keeps s₀) ?_ ?_
      · exact h7
      · apply h3
        apply hardTrips_keeps
        exact h7
    · refine ite_of (Keeps s₀) ?_ ?_
      · exact h7
      · apply thermFollow_keeps
        exact h7

theorem execTjPeakClr_keeps {s₀ : State} (r : Route) (s : State) (h_s : Keeps s₀ s) : Ends (execTjPeakClr r s) (Keeps s₀) := by
  unfold execTjPeakClr
  refine Ends.next ?_
  apply guarded_keeps
  · exact h_s
  · intro y1 y2
    apply State.wr_keeps
    exact y2


/-! ### Machine/Pace.lean -/

theorem enterLow_keeps {s₀ : State} (s : State) (h_s : Keeps s₀ s) : Keeps s₀ (enterLow s) := by
  unfold enterLow
  extract_lets +onlyGivenNames v1
  have h2 : Keeps s₀ v1 := by
    subst v1
    apply State.wr_keeps
    exact h_s
  clear_value v1
  apply deviceEvent_keeps
  refine Keeps.upd ?_ rfl
  exact h2

theorem capCheck_keeps {s₀ : State} (s : State) (h_s : Keeps s₀ s) : Keeps s₀ (capCheck s) := by
  unfold capCheck
  refine ite_of (Keeps s₀) ?_ ?_
  · apply enterLow_keeps
    exact h_s
  · exact h_s

theorem execPaceIntervalEnd_keeps {s₀ : State} (counts : List (BitVec 16)) (s : State) (h_s : Keeps s₀ s) : Ends (execPaceIntervalEnd counts s) (Keeps s₀) := by
  unfold execPaceIntervalEnd
  refine ite_of (fun o => Ends o (Keeps s₀)) ?_ ?_
  · extract_lets +onlyGivenNames v1
    clear_value v1
    extract_lets +onlyGivenNames v2
    have h3 : Keeps s₀ v2 := by
      subst v2
      apply State.wr_keeps
      exact h_s
    clear_value v2
    extract_lets +onlyGivenNames v4
    clear_value v4
    extract_lets +onlyGivenNames v5
    have h6 : Keeps s₀ v5 := by
      subst v5
      refine ite_of (Keeps s₀) ?_ ?_
      · apply State.emit_keeps
        exact h3
      · exact h3
    clear_value v5
    refine Ends.next ?_
    refine Keeps.upd ?_ rfl
    exact h6
  · refine Ends.next ?_
    exact h_s

theorem execPaceLowEnter_keeps {s₀ : State} (s : State) (h_s : Keeps s₀ s) : Ends (execPaceLowEnter s) (Keeps s₀) := by
  unfold execPaceLowEnter
  refine Ends.next ?_
  refine ite_of (Keeps s₀) ?_ ?_
  · apply enterLow_keeps
    exact h_s
  · exact h_s

theorem execPaceRestored_keeps {s₀ : State} (s : State) (h_s : Keeps s₀ s) : Ends (execPaceRestored s) (Keeps s₀) := by
  unfold execPaceRestored
  refine ite_of (fun o => Ends o (Keeps s₀)) ?_ ?_
  · extract_lets +onlyGivenNames v1
    have h2 : Keeps s₀ v1 := by
      subst v1
      apply State.wr_keeps
      exact h_s
    clear_value v1
    refine Ends.next ?_
    apply deviceEvent_keeps
    refine Keeps.upd ?_ rfl
    exact h2
  · refine Ends.next ?_
    exact h_s

theorem setFloor_keeps {s₀ : State} (s : State) (v : Nat) (h_s : Keeps s₀ s) : Keeps s₀ (setFloor s v) := by
  unfold setFloor
  refine ite_of (Keeps s₀) ?_ ?_
  · extract_lets +onlyGivenNames v1
    have h2 : Keeps s₀ v1 := by
      subst v1
      apply State.wr_keeps
      exact h_s
    clear_value v1
    refine ite_of (Keeps s₀) ?_ ?_
    · refine Keeps.upd ?_ rfl
      exact h2
    · exact h2
  · apply configError_keeps
    exact h_s

theorem execPaceFloorWrite_keeps {s₀ : State} (r : Route) (v : BitVec 32) (s : State) (h_s : Keeps s₀ s) : Ends (execPaceFloorWrite r v s) (Keeps s₀) := by
  unfold execPaceFloorWrite
  refine Ends.next ?_
  apply guarded_keeps
  · exact h_s
  · intro y1 y2
    apply setFloor_keeps
    exact y2

theorem avsSettle_keeps {s₀ : State} (s : State) (h_s : Keeps s₀ s) : Keeps s₀ (avsSettle s) := by
  unfold avsSettle
  refine ite_of (Keeps s₀) ?_ ?_
  · refine Keeps.upd ?_ rfl
    exact h_s
  · exact h_s

theorem avsCommand_keeps {s₀ : State} (s : State) (mv : Nat) (h_s : Keeps s₀ s) : Keeps s₀ (avsCommand s mv) := by
  unfold avsCommand
  extract_lets +onlyGivenNames v1
  have h2 : Keeps s₀ v1 := by
    subst v1
    apply avsSettle_keeps
    exact h_s
  clear_value v1
  extract_lets +onlyGivenNames v3
  clear_value v3
  apply cnt1_keeps
  apply State.emit_keeps
  refine Keeps.upd ?_ rfl
  exact h2

theorem loopRow_keeps {s₀ : State} (s : State) (h_s : Keeps s₀ s) : Keeps s₀ (loopRow s) := by
  unfold loopRow
  refine ite_of (Keeps s₀) ?_ ?_
  · exact h_s
  · refine ite_of (Keeps s₀) ?_ ?_
    · apply avsCommand_keeps
      exact h_s
    · refine ite_of (Keeps s₀) ?_ ?_
      · exact h_s
      · refine ite_of (Keeps s₀) ?_ ?_
        · apply avsCommand_keeps
          exact h_s
        · refine ite_of (Keeps s₀) ?_ ?_
          · apply avsCommand_keeps
            exact h_s
          · exact h_s

theorem execAvsLoopPeriod_keeps {s₀ : State} (s : State) (h_s : Keeps s₀ s) : Ends (execAvsLoopPeriod s) (Keeps s₀) := by
  unfold execAvsLoopPeriod
  refine Ends.next ?_
  refine ite_of (Keeps s₀) ?_ ?_
  · apply capCheck_keeps
    apply loopRow_keeps
    exact h_s
  · exact h_s

theorem railPower_keeps {s₀ : State} (s : State) (rail : Option RailReading) (h_s : Keeps s₀ s) : Keeps s₀ (railPower s rail).snd := by
  unfold railPower
  refine ite_of (fun (p : _ × State) => Keeps s₀ p.2) ?_ ?_
  · exact h_s
  · split
    · rename_i x1 x2
      extract_lets +onlyGivenNames v3
      clear_value v3
      extract_lets +onlyGivenNames v4
      clear_value v4
      refine Keeps.mkPair ?_
      apply State.wr_keeps
      refine Keeps.upd ?_ rfl
      exact h_s
    · rename_i x5
      exact h_s

theorem execPowerEstimate_keeps {s₀ : State} (rail : Option RailReading) (islandsW : BitVec 16) (s : State) (h_s : Keeps s₀ s) : Ends (execPowerEstimate rail islandsW s) (Keeps s₀) := by
  unfold execPowerEstimate
  refine ite_of (fun o => Ends o (Keeps s₀)) ?_ ?_
  · split
    · rename_i x1 x2 x3 x4
      have h5 : Keeps s₀ x3 := by
        refine Keeps.ofPair ?_ x4
        apply railPower_keeps
        exact h_s
      extract_lets +onlyGivenNames v6
      clear_value v6
      extract_lets +onlyGivenNames v7
      clear_value v7
      extract_lets +onlyGivenNames v8
      have h9 : Keeps s₀ v8 := by
        subst v8
        apply State.wr_keeps
        refine Keeps.upd ?_ rfl
        exact h5
      clear_value v8
      refine Ends.next ?_
      apply capCheck_keeps
      exact h9
  · refine Ends.next ?_
    exact h_s

theorem execAvsTxnNack_keeps {s₀ : State} (s : State) (h_s : Keeps s₀ s) : Ends (execAvsTxnNack s) (Keeps s₀) := by
  unfold execAvsTxnNack
  refine ite_of (fun o => Ends o (Keeps s₀)) ?_ ?_
  · refine Ends.next ?_
    exact h_s
  · extract_lets +onlyGivenNames v1
    clear_value v1
    extract_lets +onlyGivenNames v2
    have h3 : Keeps s₀ v2 := by
      subst v2
      refine Keeps.upd ?_ rfl
      exact h_s
    refine ite_of (fun o => Ends o (Keeps s₀)) ?_ ?_
    · refine Ends.next ?_
      apply State.emit_keeps
      apply State.wr_keeps
      apply State.wr_keeps
      exact h3
    · refine Ends.next ?_
      exact h3

theorem execAvsStatusRead_keeps {s₀ : State} (s : State) (h_s : Keeps s₀ s) : Ends (execAvsStatusRead s) (Keeps s₀) := by
  unfold execAvsStatusRead
  refine Ends.next ?_
  refine ite_of (Keeps s₀) ?_ ?_
  · apply State.emit_keeps
    exact h_s
  · exact h_s

theorem execAvsStatusAck_keeps {s₀ : State} (mv : BitVec 16) (s : State) (h_s : Keeps s₀ s) : Ends (execAvsStatusAck mv s) (Keeps s₀) := by
  unfold execAvsStatusAck
  refine ite_of (fun o => Ends o (Keeps s₀)) ?_ ?_
  · extract_lets +onlyGivenNames v1
    have h2 : Keeps s₀ v1 := by
      subst v1
      apply State.wr_keeps
      apply State.wr_keeps
      exact h_s
    clear_value v1
    refine Ends.next ?_
    refine Keeps.upd ?_ rfl
    exact h2
  · refine Ends.next ?_
    exact h_s


/-! ### Machine/Link.lean -/

theorem emitBlock_keeps {s₀ : State} (s : State) (n : Nat) (b : LinkBlock) (h_s : Keeps s₀ s) : Keeps s₀ (emitBlock s n b) := by
  unfold emitBlock
  split
  · rename_i x1 x2 x3
    apply State.emit_keeps
    exact h_s
  · rename_i x4 x5
    apply State.emit_keeps
    exact h_s

theorem stampMsgs_keeps {s₀ : State} (s : State) (n : Nat) (ms : List (BitVec 512)) (h_s : Keeps s₀ s) : Keeps s₀ (stampMsgs s n ms).snd := by
  unfold stampMsgs
  refine Keeps.mkPair ?_
  refine ite_of (Keeps s₀) ?_ ?_
  · apply State.setPort_keeps
    apply State.spend_keeps
    exact h_s
  · exact h_s

theorem sendControl_keeps {s₀ : State} (s : State) (n : Nat) (ms : List (BitVec 512)) (rest : List (BitVec 512)) (h_s : Keeps s₀ s) : Keeps s₀ (sendControl s n ms rest) := by
  unfold sendControl
  split
  · rename_i x1 x2 x3 x4
    have h5 : Keeps s₀ x3 := by
      refine Keeps.ofPair ?_ x4
      apply stampMsgs_keeps
      exact h_s
    split
    · rename_i x6 x7 x8 x9
      extract_lets +onlyGivenNames v10
      have h11 : Keeps s₀ v10 := by
        subst v10
        apply emitBlock_keeps
        apply State.setPort_keeps
        exact h5
      clear_value v10
      apply State.setPort_keeps
      exact h11

theorem sendData_keeps {s₀ : State} (s : State) (n : Nat) (h_s : Keeps s₀ s) : Keeps s₀ (sendData s n) := by
  unfold sendData
  extract_lets +onlyGivenNames v1
  clear_value v1
  extract_lets +onlyGivenNames v2
  clear_value v2
  extract_lets +onlyGivenNames v3
  clear_value v3
  extract_lets +onlyGivenNames v4
  clear_value v4
  extract_lets +onlyGivenNames v5
  clear_value v5
  extract_lets +onlyGivenNames v6
  clear_value v6
  extract_lets +onlyGivenNames v7
  clear_value v7
  split
  · rename_i x8 x9 x10 x11
    split
    · rename_i x12 x13 x14 x15
      split
      · rename_i x16 x17 x18 x19
        extract_lets +onlyGivenNames v20
        clear_value v20
        extract_lets +onlyGivenNames v21
        clear_value v21
        extract_lets +onlyGivenNames v22
        clear_value v22
        extract_lets +onlyGivenNames v23
        clear_value v23
        extract_lets +onlyGivenNames v24
        have h25 : Keeps s₀ v24 := by
          subst v24
          apply emitBlock_keeps
          apply State.setPort_keeps
          exact h_s
        clear_value v24
        extract_lets +onlyGivenNames v26
        have h27 : Keeps s₀ v26 := by
          subst v26
          refine ite_of (Keeps s₀) ?_ ?_
          · exact h25
          · apply cntCM_keeps
            exact h25
        clear_value v26
        refine ite_of (Keeps s₀) ?_ ?_
        · exact h27
        · apply cntCM_keeps
          exact h27

theorem execLinkBlockSend_keeps {s₀ : State} (n : Fin 96) (s : State) (h_s : Keeps s₀ s) : Ends (execLinkBlockSend n s) (Keeps s₀) := by
  unfold execLinkBlockSend
  extract_lets +onlyGivenNames v1
  clear_value v1
  extract_lets +onlyGivenNames v2
  clear_value v2
  refine Ends.next ?_
  refine ite_of (Keeps s₀) ?_ ?_
  · split
    · rename_i x3 x4 x5 x6
      apply emitBlock_keeps
      apply State.setPort_keeps
      exact h_s
  · refine ite_of (Keeps s₀) ?_ ?_
    · apply State.emit_keeps
      exact h_s
    · refine ite_of (Keeps s₀) ?_ ?_
      · refine ite_of (Keeps s₀) ?_ ?_
        · apply sendControl_keeps
          exact h_s
        · split
          · rename_i x7 x8 x9 x10 x11
            apply emitBlock_keeps
            apply State.setPort_keeps
            exact h_s
          · rename_i x12 x13
            refine ite_of (Keeps s₀) ?_ ?_
            · apply sendData_keeps
              exact h_s
            · apply sendControl_keeps
              exact h_s
      · refine ite_of (Keeps s₀) ?_ ?_
        · extract_lets +onlyGivenNames v14
          clear_value v14
          apply sendControl_keeps
          exact h_s
        · apply sendControl_keeps
          exact h_s

theorem flitArrive_keeps {s₀ : State} (s : State) (n : Nat) (v : Nat) (f : BitVec 512) (tail : Bool) (h_s : Keeps s₀ s) : Keeps s₀ (flitArrive s n v f tail) := by
  unfold flitArrive
  extract_lets +onlyGivenNames v1
  clear_value v1
  extract_lets +onlyGivenNames v2
  have h3 : Keeps s₀ v2 := by
    subst v2
    apply State.setPort_keeps
    exact h_s
  clear_value v2
  extract_lets +onlyGivenNames v4
  have h5 : Keeps s₀ v4 := by
    subst v4
    apply cntCM_keeps
    exact h3
  clear_value v4
  extract_lets +onlyGivenNames v6
  clear_value v6
  split
  · rename_i x7 x8 x9
    refine ite_of (Keeps s₀) ?_ ?_
    · extract_lets +onlyGivenNames v10
      clear_value v10
      apply State.setPort_keeps
      exact h5
    · apply flow_keeps
      apply setCur_keeps
      exact h5
  · rename_i x11 x12
    extract_lets +onlyGivenNames v13
    clear_value v13
    apply State.setPort_keeps
    exact h5

theorem acceptBlock_keeps {s₀ : State} (s : State) (n : Nat) (b : LinkBlock) (h_s : Keeps s₀ s) : Keeps s₀ (acceptBlock s n b) := by
  unfold acceptBlock
  extract_lets +onlyGivenNames v1
  clear_value v1
  refine ite_of (Keeps s₀) ?_ ?_
  · apply violation_keeps
    exact h_s
  · extract_lets +onlyGivenNames v2
    clear_value v2
    extract_lets +onlyGivenNames v3
    have h4 : Keeps s₀ v3 := by
      subst v3
      apply State.setPort_keeps
      exact h_s
    clear_value v3
    refine Keeps.foldl ?_ ?_
    · exact h4
    · intro y5 y6 y7
      apply flitArrive_keeps
      exact y7

theorem auditBlock_keeps {s₀ : State} (s : State) (n : Nat) (b : LinkBlock) (h_s : Keeps s₀ s) : Keeps s₀ (auditBlock s n b) := by
  unfold auditBlock
  extract_lets +onlyGivenNames v1
  clear_value v1
  split
  · rename_i x2 x3
    exact h_s
  · rename_i x4 x5 x6
    refine ite_of (Keeps s₀) ?_ ?_
    · apply State.setPort_keeps
      exact h_s
    · apply State.bump_keeps
      exact h_s

theorem goodBlock_keeps {s₀ : State} (s : State) (n : Nat) (b : LinkBlock) (h_s : Keeps s₀ s) : Keeps s₀ (goodBlock s n b) := by
  unfold goodBlock
  extract_lets +onlyGivenNames v1
  have h2 : Keeps s₀ v1 := by
    subst v1
    apply auditBlock_keeps
    apply State.setPort_keeps
    exact h_s
  clear_value v1
  refine ite_of (Keeps s₀) ?_ ?_
  · apply State.add_keeps
    exact h2
  · extract_lets +onlyGivenNames v3
    clear_value v3
    extract_lets +onlyGivenNames v4
    clear_value v4
    refine ite_of (Keeps s₀) ?_ ?_
    · apply acceptBlock_keeps
      exact h2
    · refine ite_of (Keeps s₀) ?_ ?_
      · exact h2
      · refine ite_of (Keeps s₀) ?_ ?_
        · apply requestReplay_keeps
          exact h2
        · exact h2

theorem lockLost_keeps {s₀ : State} (s : State) (n : Nat) (h_s : Keeps s₀ s) : Keeps s₀ (lockLost s n) := by
  unfold lockLost
  refine ite_of (Keeps s₀) ?_ ?_
  · apply ownRetrain_keeps
    apply linkEvent_keeps
    exact h_s
  · exact h_s

theorem lockedBlock_keeps {s₀ : State} (s : State) (n : Nat) (b : LinkBlock) (good : Bool) (h_s : Keeps s₀ s) : Keeps s₀ (lockedBlock s n b good) := by
  unfold lockedBlock
  refine ite_of (Keeps s₀) ?_ ?_
  · extract_lets +onlyGivenNames v1
    have h2 : Keeps s₀ v1 := by
      subst v1
      apply State.bump_keeps
      exact h_s
    clear_value v1
    refine ite_of (Keeps s₀) ?_ ?_
    · apply requestReplay_keeps
      exact h2
    · exact h2
  · refine ite_of (Keeps s₀) ?_ ?_
    · apply violation_keeps
      exact h_s
    · refine ite_of (Keeps s₀) ?_ ?_
      · apply goodBlock_keeps
        exact h_s
      · refine ite_of (Keeps s₀) ?_ ?_
        · apply State.add_keeps
          exact h_s
        · exact h_s

theorem execLinkBlockReceive_keeps {s₀ : State} (n : Fin 96) (b : RxBlock) (crc : BitVec 32) (fecBad : Option (Fin 4)) (fecCorr : List (Fin 4)) (s : State) (h_s : Keeps s₀ s) : Ends (execLinkBlockReceive n b crc fecBad fecCorr s) (Keeps s₀) := by
  unfold execLinkBlockReceive
  extract_lets +onlyGivenNames v1
  clear_value v1
  refine ite_of (fun o => Ends o (Keeps s₀)) ?_ ?_
  · refine Ends.next ?_
    exact h_s
  · extract_lets +onlyGivenNames v2
    have h3 : Keeps s₀ v2 := by
      subst v2
      refine Keeps.foldl ?_ ?_
      · exact h_s
      · intro y4 y5 y6
        apply cnt1_keeps
        apply State.bumpi_keeps
        exact y6
    clear_value v2
    extract_lets +onlyGivenNames v7
    have h8 : Keeps s₀ v7 := by
      subst v7
      split
      · rename_i x9 x10
        apply cnt1_keeps
        apply State.bumpi_keeps
        exact h3
      · rename_i x11
        exact h3
    clear_value v7
    extract_lets +onlyGivenNames v12
    clear_value v12
    extract_lets +onlyGivenNames v13
    clear_value v13
    extract_lets +onlyGivenNames v14
    clear_value v14
    extract_lets +onlyGivenNames v15
    clear_value v15
    extract_lets +onlyGivenNames v16
    clear_value v16
    extract_lets +onlyGivenNames v17
    have h18 : Keeps s₀ v17 := by
      subst v17
      apply State.setPort_keeps
      exact h8
    clear_value v17
    refine Ends.next ?_
    refine ite_of (Keeps s₀) ?_ ?_
    · exact h18
    · extract_lets +onlyGivenNames v19
      have h20 : Keeps s₀ v19 := by
        subst v19
        apply lockedBlock_keeps
        exact h18
      clear_value v19
      refine ite_of (Keeps s₀) ?_ ?_
      · exact h20
      · apply lockLost_keeps
        exact h20

theorem replayFrom_keeps {s₀ : State} (s : State) (n : Nat) (q : Nat) (h_s : Keeps s₀ s) : Keeps s₀ (replayFrom s n q) := by
  unfold replayFrom
  extract_lets +onlyGivenNames v1
  clear_value v1
  apply cnt1_keeps
  apply State.bump_keeps
  apply State.setPort_keeps
  exact h_s

theorem execReplayReqReceive_keeps {s₀ : State} (n : Fin 96) (ex : BitVec 12) (s : State) (h_s : Keeps s₀ s) : Ends (execReplayReqReceive n ex s) (Keeps s₀) := by
  unfold execReplayReqReceive
  extract_lets +onlyGivenNames v1
  clear_value v1
  extract_lets +onlyGivenNames v2
  clear_value v2
  refine Ends.next ?_
  refine ite_of (Keeps s₀) ?_ ?_
  · exact h_s
  · refine ite_of (Keeps s₀) ?_ ?_
    · apply replayFrom_keeps
      exact h_s
    · refine ite_of (Keeps s₀) ?_ ?_
      · exact h_s
      · apply violation_keeps
        exact h_s

theorem execReplayTimeout_keeps {s₀ : State} (n : Fin 96) (s : State) (h_s : Keeps s₀ s) : Ends (execReplayTimeout n s) (Keeps s₀) := by
  unfold execReplayTimeout
  refine Ends.next ?_
  refine ite_of (Keeps s₀) ?_ ?_
  · apply requestReplay_keeps
    exact h_s
  · exact h_s

theorem execCreditGrantPeriod_keeps {s₀ : State} (n : Fin 96) (s : State) (h_s : Keeps s₀ s) : Ends (execCreditGrantPeriod n s) (Keeps s₀) := by
  unfold execCreditGrantPeriod
  extract_lets +onlyGivenNames v1
  clear_value v1
  refine Ends.next ?_
  refine ite_of (Keeps s₀) ?_ ?_
  · extract_lets +onlyGivenNames v2
    clear_value v2
    extract_lets +onlyGivenNames v3
    clear_value v3
    extract_lets +onlyGivenNames v4
    clear_value v4
    apply State.setPort_keeps
    exact h_s
  · exact h_s

theorem execAuditTimeout_keeps {s₀ : State} (n : Fin 96) (vc : Fin 16) (s : State) (h_s : Keeps s₀ s) : Ends (execAuditTimeout n vc s) (Keeps s₀) := by
  unfold execAuditTimeout
  refine Ends.next ?_
  refine ite_of (Keeps s₀) ?_ ?_
  · apply portBroken_keeps
    apply recordError_keeps
    apply linkEvent_keeps
    exact h_s
  · exact h_s

theorem execCreditStallTimeout_keeps {s₀ : State} (n : Fin 96) (vc : Fin 16) (s : State) (h_s : Keeps s₀ s) : Ends (execCreditStallTimeout n vc s) (Keeps s₀) := by
  unfold execCreditStallTimeout
  extract_lets +onlyGivenNames v1
  clear_value v1
  refine Ends.next ?_
  refine ite_of (Keeps s₀) ?_ ?_
  · apply State.emit_keeps
    apply linkEvent_keeps
    exact h_s
  · exact h_s

theorem laneLost_keeps {s₀ : State} (s : State) (n : Nat) (l : Nat) (h_s : Keeps s₀ s) : Keeps s₀ (laneLost s n l) := by
  unfold laneLost
  extract_lets +onlyGivenNames v1
  clear_value v1
  extract_lets +onlyGivenNames v2
  clear_value v2
  apply cnt1_keeps
  apply State.setPort_keeps
  apply State.wr_keeps
  exact h_s

theorem laneGained_keeps {s₀ : State} (s : State) (n : Nat) (l : Nat) (h_s : Keeps s₀ s) : Keeps s₀ (laneGained s n l) := by
  unfold laneGained
  extract_lets +onlyGivenNames v1
  clear_value v1
  apply State.setPort_keeps
  apply State.wr_keeps
  exact h_s

theorem execLaneFault_keeps {s₀ : State} (n : Fin 96) (e : LaneEvent) (s : State) (h_s : Keeps s₀ s) : Ends (execLaneFault n e s) (Keeps s₀) := by
  unfold execLaneFault
  extract_lets +onlyGivenNames v1
  clear_value v1
  refine ite_of (fun o => Ends o (Keeps s₀)) ?_ ?_
  · refine Ends.next ?_
    exact h_s
  · extract_lets +onlyGivenNames v2
    clear_value v2
    refine Ends.next ?_
    split
    · rename_i x3 x4
      extract_lets +onlyGivenNames v5
      have h6 : Keeps s₀ v5 := by
        subst v5
        apply laneLost_keeps
        exact h_s
      clear_value v5
      refine ite_of (Keeps s₀) ?_ ?_
      · apply ownRetrain_keeps
        apply linkEvent_keeps
        exact h6
      · exact h6
    · rename_i x7 x8
      extract_lets +onlyGivenNames v9
      have h10 : Keeps s₀ v9 := by
        subst v9
        apply laneLost_keeps
        exact h_s
      clear_value v9
      refine ite_of (Keeps s₀) ?_ ?_
      · apply ownRetrain_keeps
        apply linkEvent_keeps
        exact h10
      · exact h10
    · rename_i x11
      apply lockLost_keeps
      apply State.setPort_keeps
      exact h_s

theorem execLaneLockGain_keeps {s₀ : State} (n : Fin 96) (lane : Fin 4) (s : State) (h_s : Keeps s₀ s) : Ends (execLaneLockGain n lane s) (Keeps s₀) := by
  unfold execLaneLockGain
  refine Ends.next ?_
  refine ite_of (Keeps s₀) ?_ ?_
  · exact h_s
  · apply laneGained_keeps
    exact h_s

theorem execWidthRestoreDue_keeps {s₀ : State} (n : Fin 96) (s : State) (h_s : Keeps s₀ s) : Ends (execWidthRestoreDue n s) (Keeps s₀) := by
  unfold execWidthRestoreDue
  extract_lets +onlyGivenNames v1
  clear_value v1
  extract_lets +onlyGivenNames v2
  clear_value v2
  extract_lets +onlyGivenNames v3
  clear_value v3
  extract_lets +onlyGivenNames v4
  clear_value v4
  extract_lets +onlyGivenNames v5
  clear_value v5
  refine Ends.next ?_
  refine ite_of (Keeps s₀) ?_ ?_
  · apply ownRetrain_keeps
    exact h_s
  · exact h_s

theorem lanesLocked_keeps {s₀ : State} (s : State) (n : Nat) (m : Nat) (h_s : Keeps s₀ s) : Keeps s₀ (lanesLocked s n m) := by
  unfold lanesLocked
  refine Keeps.foldl ?_ ?_
  · exact h_s
  · intro y1 y2 y3
    refine ite_of (Keeps s₀) ?_ ?_
    · exact y3
    · refine ite_of (Keeps s₀) ?_ ?_
      · apply laneGained_keeps
        exact y3
      · apply laneLost_keeps
        exact y3

theorem execBringupPhaseDone_keeps {s₀ : State} (n : Fin 96) (ph : TrainPhase) (s : State) (h_s : Keeps s₀ s) : Ends (execBringupPhaseDone n ph s) (Keeps s₀) := by
  unfold execBringupPhaseDone
  extract_lets +onlyGivenNames v1
  clear_value v1
  refine ite_of (fun o => Ends o (Keeps s₀)) ?_ ?_
  · refine Ends.next ?_
    exact h_s
  · extract_lets +onlyGivenNames v2
    clear_value v2
    split
    · rename_i x3
      refine Ends.next ?_
      refine ite_of (Keeps s₀) ?_ ?_
      · apply State.setPort_keeps
        exact h_s
      · exact h_s
    · rename_i x4 x5
      refine Ends.next ?_
      refine ite_of (Keeps s₀) ?_ ?_
      · apply lanesLocked_keeps
        apply State.setPort_keeps
        exact h_s
      · exact h_s

theorem follow_keeps {s₀ : State} (s : State) (n : Nat) (m : TrainMsg) (h_s : Keeps s₀ s) : Keeps s₀ (follow s n m) := by
  unfold follow
  extract_lets +onlyGivenNames v1
  clear_value v1
  extract_lets +onlyGivenNames v2
  have h3 : Keeps s₀ v2.snd := by
    subst v2
    split
    · rename_i x4 x5 x6
      exact h_s
    · rename_i x7 x8
      apply drawIdent_keeps
      exact h_s
  clear_value v2
  extract_lets +onlyGivenNames v9
  have h10 : Keeps s₀ v9 := by
    subst v9
    exact h3
  clear_value v9
  extract_lets +onlyGivenNames v11
  clear_value v11
  extract_lets +onlyGivenNames v12
  clear_value v12
  extract_lets +onlyGivenNames v13
  have h14 : Keeps s₀ v13 := by
    subst v13
    apply State.setPort_keeps
    exact h10
  clear_value v13
  extract_lets +onlyGivenNames v15
  have h16 : Keeps s₀ v15 := by
    subst v15
    apply State.wr_keeps
    exact h14
  clear_value v15
  apply pushLcm_keeps
  exact h16

theorem loopedBack_keeps {s₀ : State} (s : State) (n : Nat) (h_s : Keeps s₀ s) : Keeps s₀ (loopedBack s n) := by
  unfold loopedBack
  extract_lets +onlyGivenNames v1
  clear_value v1
  extract_lets +onlyGivenNames v2
  have h3 : Keeps s₀ v2 := by
    subst v2
    apply State.setPort_keeps
    exact h_s
  clear_value v2
  refine ite_of (Keeps s₀) ?_ ?_
  · apply portBroken_keeps
    exact h3
  · extract_lets +onlyGivenNames v4
    clear_value v4
    apply State.setPort_keeps
    apply State.wr_keeps
    exact h3

theorem execBlockLockGain_keeps {s₀ : State} (n : Fin 96) (g : LockGain) (s : State) (h_s : Keeps s₀ s) : Ends (execBlockLockGain n g s) (Keeps s₀) := by
  unfold execBlockLockGain
  extract_lets +onlyGivenNames v1
  clear_value v1
  refine ite_of (fun o => Ends o (Keeps s₀)) ?_ ?_
  · refine Ends.next ?_
    exact h_s
  · extract_lets +onlyGivenNames v2
    clear_value v2
    extract_lets +onlyGivenNames v3
    have h4 : Keeps s₀ v3 := by
      subst v3
      apply State.setPort_keeps
      exact h_s
    clear_value v3
    refine Ends.next ?_
    refine ite_of (Keeps s₀) ?_ ?_
    · extract_lets +onlyGivenNames v5
      clear_value v5
      extract_lets +onlyGivenNames v6
      have h7 : Keeps s₀ v6 := by
        subst v6
        apply State.setPort_keeps
        exact h4
      clear_value v6
      refine ite_of (Keeps s₀) ?_ ?_
      · exact h7
      · split
        · rename_i x8 x9 x10
          refine ite_of (Keeps s₀) ?_ ?_
          · apply loopedBack_keeps
            exact h7
          · refine ite_of (Keeps s₀) ?_ ?_
            · apply follow_keeps
              exact h7
            · apply ownRequest_keeps
              exact h7
        · rename_i x11 x12
          apply ownRequest_keeps
          exact h7
    · exact h4

theorem crossing_keeps {s₀ : State} (s : State) (n : Nat) (m : TrainMsg) (h_s : Keeps s₀ s) : Keeps s₀ (crossing s n m) := by
  unfold crossing
  extract_lets +onlyGivenNames v1
  have h2 : Keeps s₀ v1 := by
    subst v1
    apply linkEvent_keeps
    exact h_s
  clear_value v1
  refine ite_of (Keeps s₀) ?_ ?_
  · exact h2
  · apply follow_keeps
    exact h2

theorem execTrainReqReceive_keeps {s₀ : State} (n : Fin 96) (m : TrainMsg) (s : State) (h_s : Keeps s₀ s) : Ends (execTrainReqReceive n m s) (Keeps s₀) := by
  unfold execTrainReqReceive
  extract_lets +onlyGivenNames v1
  clear_value v1
  extract_lets +onlyGivenNames v2
  clear_value v2
  refine Ends.next ?_
  refine ite_of (Keeps s₀) ?_ ?_
  · exact h_s
  · refine ite_of (Keeps s₀) ?_ ?_
    · apply loopedBack_keeps
      exact h_s
    · refine ite_of (Keeps s₀) ?_ ?_
      · refine ite_of (Keeps s₀) ?_ ?_
        · refine ite_of (Keeps s₀) ?_ ?_
          · refine ite_of (Keeps s₀) ?_ ?_
            · apply startBringup_keeps
              exact h_s
            · exact h_s
          · refine ite_of (Keeps s₀) ?_ ?_
            · apply crossing_keeps
              exact h_s
            · refine ite_of (Keeps s₀) ?_ ?_
              · exact h_s
              · apply follow_keeps
                exact h_s
        · apply pushLcm_keeps
          exact h_s
      · refine ite_of (Keeps s₀) ?_ ?_
        · apply portBroken_keeps
          exact h_s
        · refine ite_of (Keeps s₀) ?_ ?_
          · apply enterRetrain_keeps
            · exact h_s
            · intro y3 y4
              apply follow_keeps
              exact y4
          · refine ite_of (Keeps s₀) ?_ ?_
            · refine ite_of (Keeps s₀) ?_ ?_
              · apply crossing_keeps
                exact h_s
              · apply follow_keeps
                exact h_s
            · exact h_s

theorem restartExchange_keeps {s₀ : State} (s : State) (n : Nat) (h_s : Keeps s₀ s) : Keeps s₀ (restartExchange s n) := by
  unfold restartExchange
  extract_lets +onlyGivenNames v1
  clear_value v1
  apply State.setPort_keeps
  exact h_s

theorem execTrainAckReceive_keeps {s₀ : State} (n : Fin 96) (m : TrainMsg) (s : State) (h_s : Keeps s₀ s) : Ends (execTrainAckReceive n m s) (Keeps s₀) := by
  unfold execTrainAckReceive
  extract_lets +onlyGivenNames v1
  clear_value v1
  extract_lets +onlyGivenNames v2
  clear_value v2
  refine Ends.next ?_
  refine ite_of (Keeps s₀) ?_ ?_
  · exact h_s
  · refine ite_of (Keeps s₀) ?_ ?_
    · apply loopedBack_keeps
      exact h_s
    · refine ite_of (Keeps s₀) ?_ ?_
      · exact h_s
      · refine ite_of (Keeps s₀) ?_ ?_
        · refine ite_of (Keeps s₀) ?_ ?_
          · apply portBroken_keeps
            exact h_s
          · exact h_s
        · extract_lets +onlyGivenNames v3
          clear_value v3
          split
          · rename_i x4 x5
            refine ite_of (Keeps s₀) ?_ ?_
            · apply portBroken_keeps
              exact h_s
            · apply restartExchange_keeps
              exact h_s
          · rename_i x6 x7 x8
            extract_lets +onlyGivenNames v9
            clear_value v9
            extract_lets +onlyGivenNames v10
            have h11 : Keeps s₀ v10 := by
              subst v10
              apply State.setPort_keeps
              exact h_s
            clear_value v10
            extract_lets +onlyGivenNames v12
            have h13 : Keeps s₀ v12 := by
              subst v12
              apply State.wr_keeps
              exact h11
            clear_value v12
            apply pushLcm_keeps
            exact h13

theorem execTrainDoneReceive_keeps {s₀ : State} (n : Fin 96) (m : TrainMsg) (s : State) (h_s : Keeps s₀ s) : Ends (execTrainDoneReceive n m s) (Keeps s₀) := by
  unfold execTrainDoneReceive
  extract_lets +onlyGivenNames v1
  clear_value v1
  extract_lets +onlyGivenNames v2
  clear_value v2
  refine Ends.next ?_
  refine ite_of (Keeps s₀) ?_ ?_
  · exact h_s
  · refine ite_of (Keeps s₀) ?_ ?_
    · apply loopedBack_keeps
      exact h_s
    · refine ite_of (Keeps s₀) ?_ ?_
      · exact h_s
      · refine ite_of (Keeps s₀) ?_ ?_
        · apply State.setPort_keeps
          exact h_s
        · extract_lets +onlyGivenNames v3
          clear_value v3
          extract_lets +onlyGivenNames v4
          have h5 : Keeps s₀ v4 := by
            subst v4
            apply State.setPort_keeps
            exact h_s
          clear_value v4
          apply pushLcm_keeps
          exact h5

theorem bringupEnds_keeps {s₀ : State} (s : State) (n : Nat) (h_s : Keeps s₀ s) : Keeps s₀ (bringupEnds s n) := by
  unfold bringupEnds
  extract_lets +onlyGivenNames v1
  have h2 : Keeps s₀ v1 := by
    subst v1
    apply setPeer_keeps
    exact h_s
  clear_value v1
  extract_lets +onlyGivenNames v3
  clear_value v3
  extract_lets +onlyGivenNames v4
  have h5 : Keeps s₀ v4 := by
    subst v4
    apply State.setPort_keeps
    exact h2
  clear_value v4
  apply pushLcm_keeps
  exact h5

theorem execTrainResume_keeps {s₀ : State} (n : Fin 96) (s : State) (h_s : Keeps s₀ s) : Ends (execTrainResume n s) (Keeps s₀) := by
  unfold execTrainResume
  extract_lets +onlyGivenNames v1
  clear_value v1
  extract_lets +onlyGivenNames v2
  clear_value v2
  refine Ends.next ?_
  refine ite_of (Keeps s₀) ?_ ?_
  · exact h_s
  · extract_lets +onlyGivenNames v3
    clear_value v3
    refine ite_of (Keeps s₀) ?_ ?_
    · apply bringupEnds_keeps
      apply State.setPort_keeps
      exact h_s
    · refine ite_of (Keeps s₀) ?_ ?_
      · extract_lets +onlyGivenNames v4
        clear_value v4
        extract_lets +onlyGivenNames v5
        have h6 : Keeps s₀ v5 := by
          subst v5
          apply State.setPort_keeps
          exact h_s
        clear_value v5
        extract_lets +onlyGivenNames v7
        have h8 : Keeps s₀ v7 := by
          subst v7
          refine ite_of (Keeps s₀) ?_ ?_
          · apply replayFrom_keeps
            exact h6
          · exact h6
        clear_value v7
        apply enterUp_keeps
        apply setPeer_keeps
        exact h8
      · apply violation_keeps
        exact h_s

theorem execBringupTimeout_keeps {s₀ : State} (n : Fin 96) (s : State) (h_s : Keeps s₀ s) : Ends (execBringupTimeout n s) (Keeps s₀) := by
  unfold execBringupTimeout
  extract_lets +onlyGivenNames v1
  clear_value v1
  extract_lets +onlyGivenNames v2
  clear_value v2
  refine Ends.next ?_
  refine ite_of (Keeps s₀) ?_ ?_
  · extract_lets +onlyGivenNames v3
    have h4 : Keeps s₀ v3 := by
      subst v3
      apply linkEvent_keeps
      apply State.emit_keeps
      apply State.wr_keeps
      exact h_s
    clear_value v3
    extract_lets +onlyGivenNames v5
    have h6 : Keeps s₀ v5 := by
      subst v5
      apply resetLink_keeps
      exact h4
    clear_value v5
    apply autoStart_keeps
    apply State.setPort_keeps
    exact h6
  · exact h_s

theorem execRetrainTimeout_keeps {s₀ : State} (n : Fin 96) (s : State) (h_s : Keeps s₀ s) : Ends (execRetrainTimeout n s) (Keeps s₀) := by
  unfold execRetrainTimeout
  refine Ends.next ?_
  refine ite_of (Keeps s₀) ?_ ?_
  · apply portBroken_keeps
    exact h_s
  · exact h_s

theorem execLinkDownReceive_keeps {s₀ : State} (n : Fin 96) (_reason : BitVec 8) (s : State) (h_s : Keeps s₀ s) : Ends (execLinkDownReceive n _reason s) (Keeps s₀) := by
  unfold execLinkDownReceive
  refine Ends.next ?_
  refine ite_of (Keeps s₀) ?_ ?_
  · apply portBroken_keeps
    exact h_s
  · exact h_s

theorem execSalvageComplete_keeps {s₀ : State} (n : Fin 96) (s : State) (h_s : Keeps s₀ s) : Ends (execSalvageComplete n s) (Keeps s₀) := by
  unfold execSalvageComplete
  extract_lets +onlyGivenNames v1
  clear_value v1
  refine Ends.next ?_
  refine ite_of (Keeps s₀) ?_ ?_
  · apply linkEvent_keeps
    apply State.setPort_keeps
    exact h_s
  · exact h_s

theorem execBrokenHoldExpire_keeps {s₀ : State} (n : Fin 96) (s : State) (h_s : Keeps s₀ s) : Ends (execBrokenHoldExpire n s) (Keeps s₀) := by
  unfold execBrokenHoldExpire
  extract_lets +onlyGivenNames v1
  clear_value v1
  refine Ends.next ?_
  refine ite_of (Keeps s₀) ?_ ?_
  · apply autoStart_keeps
    apply resetLink_keeps
    apply setPortState_keeps
    exact h_s
  · exact h_s

theorem bringup_keeps {s₀ : State} (s : State) (n : Nat) (h_s : Keeps s₀ s) : Keeps s₀ (bringup s n) := by
  unfold bringup
  apply autoStart_keeps
  apply State.setPort_keeps
  exact h_s

theorem retrain_keeps {s₀ : State} (s : State) (n : Nat) (h_s : Keeps s₀ s) : Keeps s₀ (retrain s n) := by
  unfold retrain
  refine ite_of (Keeps s₀) ?_ ?_
  · apply ownRetrain_keeps
    exact h_s
  · exact h_s

theorem takedown_keeps {s₀ : State} (s : State) (n : Nat) (h_s : Keeps s₀ s) : Keeps s₀ (takedown s n) := by
  unfold takedown
  refine ite_of (Keeps s₀) ?_ ?_
  · apply portBroken_keeps
    apply State.setPort_keeps
    exact h_s
  · exact h_s

theorem portCountersClear_keeps {s₀ : State} (s : State) (n : Nat) (h_s : Keeps s₀ s) : Keeps s₀ (portCountersClear s n) := by
  unfold portCountersClear
  apply State.clearArr_keeps
  apply State.clearArr_keeps
  apply State.clearAll_keeps
  exact h_s

theorem execPortBringup_keeps {s₀ : State} (r : Route) (n : Fin 96) (s : State) (h_s : Keeps s₀ s) : Ends (execPortBringup r n s) (Keeps s₀) := by
  unfold execPortBringup
  refine Ends.next ?_
  apply guarded_keeps
  · exact h_s
  · intro y1 y2
    apply bringup_keeps
    exact y2

theorem execPortRetrain_keeps {s₀ : State} (r : Route) (n : Fin 96) (s : State) (h_s : Keeps s₀ s) : Ends (execPortRetrain r n s) (Keeps s₀) := by
  unfold execPortRetrain
  refine Ends.next ?_
  apply guarded_keeps
  · exact h_s
  · intro y1 y2
    apply retrain_keeps
    exact y2

theorem execPortTakedown_keeps {s₀ : State} (r : Route) (n : Fin 96) (s : State) (h_s : Keeps s₀ s) : Ends (execPortTakedown r n s) (Keeps s₀) := by
  unfold execPortTakedown
  refine Ends.next ?_
  apply guarded_keeps
  · exact h_s
  · intro y1 y2
    apply takedown_keeps
    exact y2

theorem execPortCntClr_keeps {s₀ : State} (r : Route) (n : Fin 96) (s : State) (h_s : Keeps s₀ s) : Ends (execPortCntClr r n s) (Keeps s₀) := by
  unfold execPortCntClr
  refine Ends.next ?_
  apply guarded_keeps
  · exact h_s
  · intro y1 y2
    apply portCountersClear_keeps
    exact y2

theorem execTimeSyncPeriod_keeps {s₀ : State} (n : Fin 96) (s : State) (h_s : Keeps s₀ s) : Ends (execTimeSyncPeriod n s) (Keeps s₀) := by
  unfold execTimeSyncPeriod
  refine Ends.next ?_
  refine ite_of (Keeps s₀) ?_ ?_
  · apply pushLcm_keeps
    exact h_s
  · exact h_s

theorem execTimeSyncReceive_keeps {s₀ : State} (n : Fin 96) (t1 : LinkTime) (t2 : LinkTime) (t3 : BitVec 18) (s : State) (h_s : Keeps s₀ s) : Ends (execTimeSyncReceive n t1 t2 t3 s) (Keeps s₀) := by
  unfold execTimeSyncReceive
  refine Ends.next ?_
  refine ite_of (Keeps s₀) ?_ ?_
  · apply pushLcm_keeps
    exact h_s
  · exact h_s

theorem endExchange_keeps {s₀ : State} (s : State) (n : Nat) (h_s : Keeps s₀ s) : Keeps s₀ (endExchange s n) := by
  unfold endExchange
  extract_lets +onlyGivenNames v1
  clear_value v1
  extract_lets +onlyGivenNames v2
  have h3 : Keeps s₀ v2 := by
    subst v2
    apply State.setPort_keeps
    exact h_s
  clear_value v2
  refine ite_of (Keeps s₀) ?_ ?_
  · apply enterUp_keeps
    exact h3
  · exact h3

theorem execTimeReplyReceive_keeps {s₀ : State} (n : Fin 96) (t1 : LinkTime) (t2 : LinkTime) (t3 : LinkTime) (t4 : LinkTime) (s : State) (h_s : Keeps s₀ s) : Ends (execTimeReplyReceive n t1 t2 t3 t4 s) (Keeps s₀) := by
  unfold execTimeReplyReceive
  extract_lets +onlyGivenNames v1
  clear_value v1
  refine Ends.next ?_
  refine ite_of (Keeps s₀) ?_ ?_
  · extract_lets +onlyGivenNames v2
    clear_value v2
    extract_lets +onlyGivenNames v3
    clear_value v3
    extract_lets +onlyGivenNames v4
    clear_value v4
    extract_lets +onlyGivenNames v5
    clear_value v5
    extract_lets +onlyGivenNames v6
    clear_value v6
    extract_lets +onlyGivenNames v7
    clear_value v7
    extract_lets +onlyGivenNames v8
    clear_value v8
    extract_lets +onlyGivenNames v9
    have h10 : Keeps s₀ v9 := by
      subst v9
      apply State.wr_keeps
      exact h_s
    clear_value v9
    extract_lets +onlyGivenNames v11
    have h12 : Keeps s₀ v11 := by
      subst v11
      apply State.wr_keeps
      exact h10
    clear_value v11
    extract_lets +onlyGivenNames v13
    have h14 : Keeps s₀ v13 := by
      subst v13
      refine ite_of (Keeps s₀) ?_ ?_
      · refine Keeps.upd ?_ rfl
        exact h12
      · exact h12
    clear_value v13
    apply endExchange_keeps
    exact h14
  · exact h_s

theorem execTimeExchangeTimeout_keeps {s₀ : State} (n : Fin 96) (s : State) (h_s : Keeps s₀ s) : Ends (execTimeExchangeTimeout n s) (Keeps s₀) := by
  unfold execTimeExchangeTimeout
  refine Ends.next ?_
  refine ite_of (Keeps s₀) ?_ ?_
  · apply endExchange_keeps
    apply linkEvent_keeps
    exact h_s
  · exact h_s


/-! ### Machine/Pool.lean -/

theorem extCmd_keeps {s₀ : State} (r : Route) (op : Nat) (run : State → Nat → ExtSt → Nat × State) (s : State) (h_run : ∀ (a : State) (a_1 : Nat) (a_2 : ExtSt), Keeps s₀ a → Keeps s₀ (run a a_1 a_2).snd) (h_s : Keeps s₀ s) : Keeps s₀ (extCmd r op run s) := by
  unfold extCmd
  apply guarded_keeps
  · exact h_s
  · intro y1 y2
    refine ite_of (Keeps s₀) ?_ ?_
    · apply accViol_keeps
      exact y2
    · extract_lets +onlyGivenNames v3
      have h4 : Keeps s₀ v3 := by
        subst v3
        apply State.wr_keeps
        exact y2
      clear_value v3
      extract_lets +onlyGivenNames v5
      clear_value v5
      extract_lets +onlyGivenNames v6
      have h7 : Keeps s₀ v6.snd := by
        subst v6
        split
        · rename_i x8 x9
          exact h4
        · rename_i x10 x11 x12
          apply h_run
          exact h4
      clear_value v6
      apply State.wr_keeps
      exact h7

theorem execAssign_keeps {s₀ : State} (r : Route) (s : State) (h_s : Keeps s₀ s) : Ends (execAssign r s) (Keeps s₀) := by
  unfold execAssign
  refine Ends.next ?_
  apply extCmd_keeps
  · intro y1 y2 y3 y4
    extract_lets +onlyGivenNames v5
    clear_value v5
    refine ite_of (fun (p : _ × State) => Keeps s₀ p.2) ?_ ?_
    · exact y4
    · refine ite_of (fun (p : _ × State) => Keeps s₀ p.2) ?_ ?_
      · refine Keeps.mkPair ?_
        apply putExt_keeps
        exact y4
      · refine ite_of (fun (p : _ × State) => Keeps s₀ p.2) ?_ ?_
        · refine Keeps.mkPair ?_
          apply putExt_keeps
          exact y4
        · exact y4
  · exact h_s

theorem execRelease_keeps {s₀ : State} (r : Route) (s : State) (h_s : Keeps s₀ s) : Ends (execRelease r s) (Keeps s₀) := by
  unfold execRelease
  refine Ends.next ?_
  apply extCmd_keeps
  · intro y1 y2 y3 y4
    refine ite_of (fun (p : _ × State) => Keeps s₀ p.2) ?_ ?_
    · refine Keeps.mkPair ?_
      apply startRelease_keeps
      exact y4
    · refine ite_of (fun (p : _ × State) => Keeps s₀ p.2) ?_ ?_
      · refine Keeps.mkPair ?_
        apply putExt_keeps
        exact y4
      · exact y4
  · exact h_s

theorem execPair_keeps {s₀ : State} (r : Route) (s : State) (h_s : Keeps s₀ s) : Ends (execPair r s) (Keeps s₀) := by
  unfold execPair
  refine Ends.next ?_
  apply extCmd_keeps
  · intro y1 y2 y3 y4
    extract_lets +onlyGivenNames v5
    clear_value v5
    extract_lets +onlyGivenNames v6
    split
    · rename_i x7 x8
      exact y4
    · rename_i x9 x10 x11
      refine ite_of (fun (p : _ × State) => Keeps s₀ p.2) ?_ ?_
      · extract_lets +onlyGivenNames v12
        have h13 : Keeps s₀ v12 := by
          subst v12
          apply State.setExt_keeps
          exact y4
        clear_value v12
        refine ite_of (fun (p : _ × State) => Keeps s₀ p.2) ?_ ?_
        · refine Keeps.mkPair ?_
          apply putExt_keeps
          exact h13
        · refine Keeps.mkPair ?_
          apply putExt_keeps
          exact h13
      · exact y4
  · exact h_s

theorem execUnpair_keeps {s₀ : State} (r : Route) (s : State) (h_s : Keeps s₀ s) : Ends (execUnpair r s) (Keeps s₀) := by
  unfold execUnpair
  refine Ends.next ?_
  apply extCmd_keeps
  · intro y1 y2 y3 y4
    refine ite_of (fun (p : _ × State) => Keeps s₀ p.2) ?_ ?_
    · refine Keeps.mkPair ?_
      apply endPair_keeps
      exact y4
    · exact y4
  · exact h_s

theorem execExtentQuery_keeps {s₀ : State} (r : Route) (s : State) (h_s : Keeps s₀ s) : Ends (execExtentQuery r s) (Keeps s₀) := by
  unfold execExtentQuery
  refine Ends.next ?_
  apply extCmd_keeps
  · intro y1 y2 y3 y4
    extract_lets +onlyGivenNames v5
    clear_value v5
    extract_lets +onlyGivenNames v6
    have h7 : Keeps s₀ v6 := by
      subst v6
      apply State.wr_keeps
      apply State.wr_keeps
      apply State.wr_keeps
      apply State.wr_keeps
      exact y4
    clear_value v6
    extract_lets +onlyGivenNames v8
    have h9 : Keeps s₀ v8 := by
      subst v8
      apply State.wr_keeps
      apply State.wr_keeps
      apply State.wr_keeps
      exact h7
    clear_value v8
    refine Keeps.mkPair ?_
    apply State.wr64_keeps
    exact h9
  · exact h_s

theorem execReleaseDrained_keeps {s₀ : State} (e : Fin 131072) (s : State) (h_s : Keeps s₀ s) : Ends (execReleaseDrained e s) (Keeps s₀) := by
  unfold execReleaseDrained
  split
  · rename_i x1 x2
    refine Ends.next ?_
    exact h_s
  · rename_i x3 x4 x5
    refine ite_of (fun o => Ends o (Keeps s₀)) ?_ ?_
    · refine Ends.next ?_
      exact h_s
    · extract_lets +onlyGivenNames v6
      have h7 : Keeps s₀ v6 := by
        subst v6
        apply pumpExtents_keeps
        exact h_s
      clear_value v6
      refine ite_of (fun o => Ends o (Keeps s₀)) ?_ ?_
      · refine Ends.next ?_
        exact h7
      · refine ite_of (fun o => Ends o (Keeps s₀)) ?_ ?_
        · extract_lets +onlyGivenNames v8
          have h9 : Keeps s₀ v8 := by
            subst v8
            apply endPair_keeps
            exact h7
          clear_value v8
          refine Ends.next ?_
          split
          · rename_i x10 x11 x12
            apply putExt_keeps
            apply zeroExtent_keeps
            exact h9
          · rename_i x13 x14
            exact h9
        · refine Ends.next ?_
          apply queueSanitize_keeps
          apply endPair_keeps
          exact h7

theorem execSanitizeDone_keeps {s₀ : State} (e : Fin 131072) (s : State) (h_s : Keeps s₀ s) : Ends (execSanitizeDone e s) (Keeps s₀) := by
  unfold execSanitizeDone
  extract_lets +onlyGivenNames v1
  clear_value v1
  split
  · rename_i x2 x3
    refine Ends.next ?_
    exact h_s
  · rename_i x4 x5 x6 x7
    refine ite_of (fun o => Ends o (Keeps s₀)) ?_ ?_
    · refine Ends.next ?_
      exact h_s
    · extract_lets +onlyGivenNames v8
      extract_lets +onlyGivenNames v9
      have h10 : Keeps s₀ v9 := by
        subst v9
        refine Keeps.upd ?_ rfl
        exact h_s
      clear_value v9
      extract_lets +onlyGivenNames v11
      clear_value v11
      extract_lets +onlyGivenNames v12
      have h13 : Keeps s₀ v12 := by
        subst v12
        apply putExt_keeps
        apply zeroExtent_keeps
        exact h10
      clear_value v12
      extract_lets +onlyGivenNames v14
      have h15 : Keeps s₀ v14 := by
        subst v14
        apply State.bump_keeps
        exact h13
      clear_value v14
      refine Ends.next ?_
      apply sanitizeEvent_keeps
      apply countEv_keeps
      exact h15

theorem execPairCopyDone_keeps {s₀ : State} (e : Fin 1152) (s : State) (h_s : Keeps s₀ s) : Ends (execPairCopyDone e s) (Keeps s₀) := by
  unfold execPairCopyDone
  split
  · rename_i x1 x2 x3
    refine Ends.next ?_
    refine ite_of (Keeps s₀) ?_ ?_
    · apply putExt_keeps
      exact h_s
    · exact h_s
  · rename_i x4 x5
    refine Ends.next ?_
    exact h_s

theorem execPoolInitDone_keeps {s₀ : State} (s : State) (h_s : Keeps s₀ s) : Ends (execPoolInitDone s) (Keeps s₀) := by
  unfold execPoolInitDone
  refine ite_of (fun o => Ends o (Keeps s₀)) (.next h_s) (.next (showFree_keeps _ ?_))
  exact ⟨h_s.1, h_s.2.1, h_s.2.2.1, fun _ => rfl⟩

theorem execHbmPhyLockLoss_keeps {s₀ : State} (st : Fin 6) (s : State) (h_s : Keeps s₀ s) : Ends (execHbmPhyLockLoss st s) (Keeps s₀) := by
  unfold execHbmPhyLockLoss
  refine Ends.next ?_
  apply failStack_keeps
  exact h_s

theorem execHbmCmdTimeout_keeps {s₀ : State} (st : Fin 6) (s : State) (h_s : Keeps s₀ s) : Ends (execHbmCmdTimeout st s) (Keeps s₀) := by
  unfold execHbmCmdTimeout
  refine Ends.next ?_
  apply failStack_keeps
  exact h_s

theorem execHbmUncorrError_keeps {s₀ : State} (line : BitVec 46) (otherGood : Bool) (s : State) (h_s : Keeps s₀ s) : Ends (execHbmUncorrError line otherGood s) (Keeps s₀) := by
  unfold execHbmUncorrError
  refine Ends.next ?_
  refine ite_of (Keeps s₀) ?_ ?_
  · apply uncorrLine_keeps
    exact h_s
  · exact h_s

theorem execStackOffline_keeps {s₀ : State} (r : Route) (st : Fin 6) (s : State) (h_s : Keeps s₀ s) : Ends (execStackOffline r st s) (Keeps s₀) := by
  unfold execStackOffline
  refine Ends.next ?_
  apply guarded_keeps
  · exact h_s
  · intro y1 y2
    apply failStack_keeps
    exact y2

theorem execScrubRead_keeps {s₀ : State} (x : ScrubRead) (s : State) (h_s : Keeps s₀ s) : Ends (execScrubRead x s) (Keeps s₀) := by
  unfold execScrubRead
  refine ite_of (fun o => Ends o (Keeps s₀)) ?_ ?_
  · refine Ends.next ?_
    exact h_s
  · extract_lets +onlyGivenNames v1
    clear_value v1
    extract_lets +onlyGivenNames v2
    extract_lets +onlyGivenNames v3
    have h4 : Keeps s₀ v3 := by
      subst v3
      refine Keeps.upd ?_ rfl
      exact h_s
    clear_value v3
    refine ite_of (fun o => Ends o (Keeps s₀)) ?_ ?_
    · refine Ends.next ?_
      exact h4
    · extract_lets +onlyGivenNames v5
      clear_value v5
      extract_lets +onlyGivenNames v6
      have h7 : Keeps s₀ v6 := by
        subst v6
        apply cnt1_keeps
        exact h4
      clear_value v6
      split
      · rename_i x8
        refine Ends.next ?_
        exact h7
      · rename_i x9
        extract_lets +onlyGivenNames v10
        have h11 : Keeps s₀ v10 := by
          subst v10
          apply State.bump_keeps
          apply State.bump_keeps
          exact h7
        clear_value v10
        refine Ends.next ?_
        apply recordError_keeps
        exact h11
      · rename_i x12 x13
        refine Ends.next ?_
        apply uncorrLine_keeps
        exact h7

theorem execPoolCntClr_keeps {s₀ : State} (r : Route) (s : State) (h_s : Keeps s₀ s) : Ends (execPoolCntClr r s) (Keeps s₀) := by
  unfold execPoolCntClr
  refine Ends.next ?_
  apply guarded_keeps
  · exact h_s
  · intro y1 y2
    apply State.clearAll_keeps
    exact y2

theorem execElogClr_keeps {s₀ : State} (r : Route) (s : State) (h_s : Keeps s₀ s) : Ends (execElogClr r s) (Keeps s₀) := by
  unfold execElogClr
  refine Ends.next ?_
  apply guarded_keeps
  · exact h_s
  · intro y1 y2
    apply State.wr_keeps
    exact y2


/-! ### Machine/HostPorts.lean -/

theorem execAttachLinkUp_keeps {s₀ : State} (a : Fin 64) (rate : BitVec 3) (width : BitVec 5) (cxl : Bool) (isSwitch : Bool) (s : State) (h_s : Keeps s₀ s) : Ends (execAttachLinkUp a rate width cxl isSwitch s) (Keeps s₀) := by
  unfold execAttachLinkUp
  extract_lets +onlyGivenNames v1
  clear_value v1
  extract_lets +onlyGivenNames v2
  clear_value v2
  refine ite_of (fun o => Ends o (Keeps s₀)) ?_ ?_
  · refine Ends.next ?_
    apply cnt1_keeps
    exact h_s
  · refine ite_of (fun o => Ends o (Keeps s₀)) ?_ ?_
    · refine Ends.next ?_
      exact h_s
    · extract_lets +onlyGivenNames v3
      clear_value v3
      extract_lets +onlyGivenNames v4
      have h5 : Keeps s₀ v4 := by
        subst v4
        apply State.wr_keeps
        apply State.wr_keeps
        apply State.wr_keeps
        apply State.wr_keeps
        exact h_s
      clear_value v4
      extract_lets +onlyGivenNames v6
      clear_value v6
      extract_lets +onlyGivenNames v7
      clear_value v7
      extract_lets +onlyGivenNames v8
      have h9 : Keeps s₀ v8 := by
        subst v8
        apply State.setAtt_keeps
        exact h5
      clear_value v8
      extract_lets +onlyGivenNames v10
      have h11 : Keeps s₀ v10 := by
        subst v10
        apply attEvent_keeps
        apply deviceEvent_keeps
        exact h9
      clear_value v10
      extract_lets +onlyGivenNames v12
      have h13 : Keeps s₀ v12 := by
        subst v12
        refine ite_of (Keeps s₀) ?_ ?_
        · apply attEvent_keeps
          exact h11
        · exact h11
      clear_value v12
      refine Ends.next ?_
      refine ite_of (Keeps s₀) ?_ ?_
      · apply setDead_keeps
        exact h13
      · exact h13

theorem execAttachDown_keeps {s₀ : State} (a : Fin 64) (s : State) (h_s : Keeps s₀ s) : Ends (execAttachDown a s) (Keeps s₀) := by
  unfold execAttachDown
  refine Ends.next ?_
  refine ite_of (Keeps s₀) ?_ ?_
  · apply fencing_keeps
    · exact h_s
    · apply attachGoesDown_keeps
      exact h_s
  · exact h_s

theorem execDownstreamLinkDown_keeps {s₀ : State} (a : Fin 64) (s : State) (h_s : Keeps s₀ s) : Ends (execDownstreamLinkDown a s) (Keeps s₀) := by
  unfold execDownstreamLinkDown
  refine ite_of (fun o => Ends o (Keeps s₀)) ?_ ?_
  · refine Ends.next ?_
    exact h_s
  · refine ite_of (fun o => Ends o (Keeps s₀)) ?_ ?_
    · refine Ends.next ?_
      apply contain_keeps
      exact h_s
    · refine Ends.next ?_
      apply attEvent_keeps
      apply linkGone_keeps
      exact h_s

theorem cfgRead_keeps {s₀ : State} (s : State) (a : Nat) (d : CfgDev) (r : CfgReg) (h_s : Keeps s₀ s) : Keeps s₀ (cfgRead s a d r) := by
  unfold cfgRead
  apply State.emit_keeps
  apply State.spend_keeps
  exact h_s

theorem execHostConfigRequest_keeps {s₀ : State} (a : Fin 64) (q : CfgReq) (s : State) (h_s : Keeps s₀ s) : Ends (execHostConfigRequest a q s) (Keeps s₀) := by
  unfold execHostConfigRequest
  extract_lets +onlyGivenNames v1
  clear_value v1
  refine ite_of (fun o => Ends o (Keeps s₀)) ?_ ?_
  · refine Ends.next ?_
    exact h_s
  · extract_lets +onlyGivenNames v2
    have h3 : Keeps s₀ v2 := by
      subst v2
      apply cnt1_keeps
      exact h_s
    clear_value v2
    refine ite_of (fun o => Ends o (Keeps s₀)) ?_ ?_
    · refine Ends.next ?_
      apply State.emit_keeps
      exact h3
    · refine ite_of (fun o => Ends o (Keeps s₀)) ?_ ?_
      · refine Ends.next ?_
        apply State.emit_keeps
        exact h3
      · refine ite_of (fun o => Ends o (Keeps s₀)) ?_ ?_
        · refine Ends.next ?_
          apply cnt1_keeps
          apply cnt1_keeps
          apply State.emit_keeps
          exact h3
        · extract_lets +onlyGivenNames v4
          clear_value v4
          extract_lets +onlyGivenNames v5
          have h6 : Keeps s₀ v5 := by
            subst v5
            split
            · rename_i x7 x8 x9
              apply cfgRead_keeps
              exact h3
            · rename_i x10
              exact h3
            · rename_i x11 x12 x13
              apply State.setAtt_keeps
              exact h3
            · rename_i x14 x15 x16
              apply State.setAtt_keeps
              exact h3
            · rename_i x17 x18
              refine ite_of (Keeps s₀) ?_ ?_
              · apply State.setAtt_keeps
                exact h3
              · exact h3
            · rename_i x19 x20
              apply State.setAtt_keeps
              exact h3
            · rename_i x21 x22
              apply State.setAtt_keeps
              exact h3
            · rename_i x23 x24 x25 x26
              refine ite_of (Keeps s₀) ?_ ?_
              · apply msixReleaseAll_keeps
                apply State.setFn_keeps
                exact h3
              · exact h3
          clear_value v5
          refine Ends.next ?_
          apply cnt1_keeps
          apply State.emit_keeps
          exact h6

theorem execHostReady_keeps {s₀ : State} (s : State) (h_s : Keeps s₀ s) : Ends (execHostReady s) (Keeps s₀) := by
  unfold execHostReady
  refine ite_of (fun o => Ends o (Keeps s₀)) ?_ ?_
  · refine Ends.next ?_
    exact h_s
  · refine Ends.next ?_
    apply autoStartAll_keeps
    refine Keeps.foldl ?_ ?_
    · exact h_s
    · intro y1 y2 y3
      refine ite_of (Keeps s₀) ?_ ?_
      · apply State.wr_keeps
        exact y3
      · exact y3

theorem execDpcTriggerClear_keeps {s₀ : State} (a : Fin 64) (s : State) (h_s : Keeps s₀ s) : Ends (execDpcTriggerClear a s) (Keeps s₀) := by
  unfold execDpcTriggerClear
  refine Ends.next ?_
  refine ite_of (Keeps s₀) ?_ ?_
  · apply release_keeps
    exact h_s
  · exact h_s

theorem execDpcRelease_keeps {s₀ : State} (r : Route) (a : Fin 64) (s : State) (h_s : Keeps s₀ s) : Ends (execDpcRelease r a s) (Keeps s₀) := by
  unfold execDpcRelease
  refine Ends.next ?_
  apply guarded_keeps
  · exact h_s
  · intro y1 y2
    refine ite_of (Keeps s₀) ?_ ?_
    · apply release_keeps
      exact y2
    · exact y2

theorem execAttachCntClr_keeps {s₀ : State} (r : Route) (a : Fin 64) (s : State) (h_s : Keeps s₀ s) : Ends (execAttachCntClr r a s) (Keeps s₀) := by
  unfold execAttachCntClr
  refine Ends.next ?_
  apply guarded_keeps
  · exact h_s
  · intro y1 y2
    apply State.clearAll_keeps
    exact y2

theorem execIdentifySwitchDevice_keeps {s₀ : State} (s : State) (h_s : Keeps s₀ s) : Ends (execIdentifySwitchDevice s) (Keeps s₀) := by
  unfold execIdentifySwitchDevice
  refine Ends.next ?_
  apply answerFm_keeps
  exact h_s

theorem execGetPhysicalPortState_keeps {s₀ : State} (ports : List (Fin 64)) (s : State) (h_s : Keeps s₀ s) : Ends (execGetPhysicalPortState ports s) (Keeps s₀) := by
  unfold execGetPhysicalPortState
  refine Ends.next ?_
  apply answerFm_keeps
  exact h_s

theorem execPhysicalPortControl_keeps {s₀ : State} (a : Fin 64) (op : PortControl) (s : State) (h_s : Keeps s₀ s) : Ends (execPhysicalPortControl a op s) (Keeps s₀) := by
  unfold execPhysicalPortControl
  refine Ends.next ?_
  apply answerFm_keeps
  exact h_s

theorem execSendPpbConfigRequest_keeps {s₀ : State} (a : Fin 64) (reg : BitVec 12) (write : Option (BitVec 32)) (s : State) (h_s : Keeps s₀ s) : Ends (execSendPpbConfigRequest a reg write s) (Keeps s₀) := by
  unfold execSendPpbConfigRequest
  refine Ends.next ?_
  apply answerFm_keeps
  exact h_s

theorem execGetVirtualCxlSwitchInfo_keeps {s₀ : State} (u : Fin 64) (s : State) (h_s : Keeps s₀ s) : Ends (execGetVirtualCxlSwitchInfo u s) (Keeps s₀) := by
  unfold execGetVirtualCxlSwitchInfo
  refine Ends.next ?_
  apply answerFm_keeps
  exact h_s

theorem execBindVppb_keeps {s₀ : State} (u : Fin 64) (v : Fin 18) (a : Fin 64) (s : State) (h_s : Keeps s₀ s) : Ends (execBindVppb u v a s) (Keeps s₀) := by
  unfold execBindVppb
  refine Ends.next ?_
  apply answerFm_keeps
  exact h_s

theorem execUnbindVppb_keeps {s₀ : State} (u : Fin 64) (v : Fin 18) (option : Fin 3) (s : State) (h_s : Keeps s₀ s) : Ends (execUnbindVppb u v option s) (Keeps s₀) := by
  unfold execUnbindVppb
  refine Ends.next ?_
  apply answerFm_keeps
  exact h_s

theorem execUnbindComplete_keeps {s₀ : State} (a : Fin 64) (s : State) (h_s : Keeps s₀ s) : Ends (execUnbindComplete a s) (Keeps s₀) := by
  unfold execUnbindComplete
  refine Ends.next ?_
  refine ite_of (Keeps s₀) ?_ ?_
  · apply unbound_keeps
    refine ite_of (Keeps s₀) ?_ ?_
    · apply linkGone_keeps
      exact h_s
    · exact h_s
  · exact h_s

theorem execGenerateAerEvent_keeps {s₀ : State} (u : Fin 64) (v : Fin 18) (error : BitVec 32) (s : State) (h_s : Keeps s₀ s) : Ends (execGenerateAerEvent u v error s) (Keeps s₀) := by
  unfold execGenerateAerEvent
  refine Ends.next ?_
  apply answerFm_keeps
  exact h_s

theorem execBackgroundOperationStatus_keeps {s₀ : State} (s : State) (h_s : Keeps s₀ s) : Ends (execBackgroundOperationStatus s) (Keeps s₀) := by
  unfold execBackgroundOperationStatus
  refine Ends.next ?_
  apply answerFm_keeps
  exact h_s

theorem execInitiateDynamicCapacityAdd_keeps {s₀ : State} (u : Fin 64) (e : Fin 131072) (tag : BitVec 128) (s : State) (h_s : Keeps s₀ s) : Ends (execInitiateDynamicCapacityAdd u e tag s) (Keeps s₀) := by
  unfold execInitiateDynamicCapacityAdd
  refine Ends.next ?_
  apply answerFm_keeps
  exact h_s

theorem execForcedDcRemoval_keeps {s₀ : State} (u : Fin 64) (e : Fin 131072) (s : State) (h_s : Keeps s₀ s) : Ends (execForcedDcRemoval u e s) (Keeps s₀) := by
  unfold execForcedDcRemoval
  refine Ends.next ?_
  apply answerFm_keeps
  exact h_s

theorem execAddDcResponse_keeps {s₀ : State} (u : Fin 64) (e : Fin 131072) (accept : Bool) (s : State) (h_s : Keeps s₀ s) : Ends (execAddDcResponse u e accept s) (Keeps s₀) := by
  unfold execAddDcResponse
  refine Ends.next ?_
  apply dcAnswer_keeps
  exact h_s

theorem execDcRespTimeout_keeps {s₀ : State} (u : Fin 64) (e : Fin 131072) (s : State) (h_s : Keeps s₀ s) : Ends (execDcRespTimeout u e s) (Keeps s₀) := by
  unfold execDcRespTimeout
  refine Ends.next ?_
  apply dcAnswer_keeps
  exact h_s

theorem execDcReleaseResponse_keeps {s₀ : State} (u : Fin 64) (e : Fin 131072) (s : State) (h_s : Keeps s₀ s) : Ends (execDcReleaseResponse u e s) (Keeps s₀) := by
  unfold execDcReleaseResponse
  refine Ends.next ?_
  apply dcRemove_keeps
  exact h_s

theorem unallocated_keeps {s₀ : State} (s : State) (u : Nat) (line : Nat) (q : HostMem) (h_s : Keeps s₀ s) : Keeps s₀ (unallocated s u line q) := by
  unfold unallocated
  extract_lets +onlyGivenNames v1
  clear_value v1
  extract_lets +onlyGivenNames v2
  have h3 : ∀ (t : State), Keeps s₀ t → Keeps s₀ (v2 t) := by
    subst v2
    intro y4 y5
    dsimp -zeta only
    apply State.bump_keeps
    exact y5
  clear_value v2
  extract_lets +onlyGivenNames v6
  have h7 : ∀ (k : HomeKind), Keeps s₀ (v6 k) := by
    subst v6
    intro y8
    dsimp -zeta only
    apply State.emit_keeps
    apply State.spend_keeps
    apply h3
    exact h_s
  clear_value v6
  split
  · rename_i x9
    apply h7
  · rename_i x10
    apply h7
  · rename_i x11
    apply h7
  · rename_i x12
    apply State.emit_keeps
    exact h_s
  · rename_i x13 x14 x15
    apply State.emit_keeps
    refine ite_of (Keeps s₀) ?_ ?_
    · apply State.bump_keeps
      exact h_s
    · apply h3
      exact h_s
  · rename_i x16 x17 x18 x19
    apply State.emit_keeps
    apply h3
    exact h_s

theorem contained_keeps {s₀ : State} (s : State) (u : Nat) (line : Nat) (q : HostMem) (h_s : Keeps s₀ s) : Keeps s₀ (contained s u line q) := by
  unfold contained
  extract_lets +onlyGivenNames v1
  have h2 : ∀ (k : HomeKind), Keeps s₀ (v1 k) := by
    subst v1
    intro y3
    dsimp -zeta only
    apply State.emit_keeps
    apply State.spend_keeps
    exact h_s
  clear_value v1
  split
  · rename_i x4
    apply h2
  · rename_i x5
    apply h2
  · rename_i x6
    apply h2
  · rename_i x7
    apply State.emit_keeps
    exact h_s
  · rename_i x8 x9 x10
    apply State.emit_keeps
    exact h_s
  · rename_i x11 x12 x13 x14
    apply State.emit_keeps
    exact h_s

theorem execHostMemRequest_keeps {s₀ : State} (u : Fin 64) (line : BitVec 46) (q : HostMem) (s : State) (h_s : Keeps s₀ s) : Ends (execHostMemRequest u line q s) (Keeps s₀) := by
  unfold execHostMemRequest
  extract_lets +onlyGivenNames v1
  clear_value v1
  extract_lets +onlyGivenNames v2
  clear_value v2
  extract_lets +onlyGivenNames v3
  clear_value v3
  refine ite_of (fun o => Ends o (Keeps s₀)) ?_ ?_
  · refine Ends.next ?_
    exact h_s
  · extract_lets +onlyGivenNames v4
    clear_value v4
    extract_lets +onlyGivenNames v5
    clear_value v5
    refine ite_of (fun o => Ends o (Keeps s₀)) ?_ ?_
    · refine Ends.next ?_
      apply contained_keeps
      exact h_s
    · refine ite_of (fun o => Ends o (Keeps s₀)) ?_ ?_
      · refine Ends.next ?_
        apply unallocated_keeps
        exact h_s
      · extract_lets +onlyGivenNames v6
        have h7 : ∀ (t : State) (code : Nat), Keeps s₀ t → Keeps s₀ (v6 t code) := by
          subst v6
          intro y8 y9 y10
          dsimp -zeta only
          apply countEv_keeps
          exact y10
        clear_value v6
        extract_lets +onlyGivenNames v11
        have h12 : ∀ (t : State) (k : HomeKind) (off : Nat) (b : List Byte) (bad : Bool), Keeps s₀ t → Keeps s₀ (v11 t k off b bad) := by
          subst v11
          intro y13 y14 y15 y16 y17 y18
          dsimp -zeta only
          apply askHome_keeps
          exact y18
        clear_value v11
        extract_lets +onlyGivenNames v19
        have h20 : ∀ (t : State) (k : WbKind) (d : List Byte) (bad : Bool), Keeps s₀ t → Keeps s₀ (v19 t k d bad) := by
          subst v19
          intro y21 y22 y23 y24 y25
          dsimp -zeta only
          refine Keeps.upd ?_ rfl
          exact y25
        clear_value v19
        split
        · rename_i x26
          refine Ends.next ?_
          apply h12
          apply h7
          exact h_s
        · rename_i x27
          refine Ends.next ?_
          apply h12
          apply h7
          exact h_s
        · rename_i x28
          refine Ends.next ?_
          apply h12
          apply h7
          exact h_s
        · rename_i x29
          refine Ends.next ?_
          apply h20
          exact h_s
        · rename_i x30 x31 x32
          refine Ends.next ?_
          apply h20
          apply h7
          exact h_s
        · rename_i x33 x34 x35 x36
          refine Ends.next ?_
          apply h12
          apply h7
          exact h_s

theorem execFarWindowRead_keeps {s₀ : State} (a : Fin 64) (off : BitVec 44) (n : BitVec 13) (req : BitVec 16) (s : State) (h_s : Keeps s₀ s) : Ends (execFarWindowRead a off n req s) (Keeps s₀) := by
  unfold execFarWindowRead
  extract_lets +onlyGivenNames v1
  clear_value v1
  extract_lets +onlyGivenNames v2
  clear_value v2
  refine ite_of (fun o => Ends o (Keeps s₀)) ?_ ?_
  · refine Ends.next ?_
    exact h_s
  · extract_lets +onlyGivenNames v3
    have h4 : Keeps s₀ v3 := by
      subst v3
      apply cnt1_keeps
      exact h_s
    clear_value v3
    refine ite_of (fun o => Ends o (Keeps s₀)) ?_ ?_
    · refine Ends.next ?_
      apply State.emit_keeps
      exact h4
    · split
      · rename_i x5 x6
        refine Ends.next ?_
        apply State.emit_keeps
        apply State.bump_keeps
        exact h4
      · rename_i x7 x8 x9
        extract_lets +onlyGivenNames v10
        have h11 : Keeps s₀ v10 := by
          subst v10
          apply cntCM_keeps
          apply State.bump_keeps
          exact h4
        clear_value v10
        refine ite_of (fun o => Ends o (Keeps s₀)) ?_ ?_
        · refine Ends.next ?_
          apply State.emit_keeps
          exact h11
        · extract_lets +onlyGivenNames v12
          clear_value v12
          extract_lets +onlyGivenNames v13
          clear_value v13
          extract_lets +onlyGivenNames v14
          clear_value v14
          extract_lets +onlyGivenNames v15
          clear_value v15
          extract_lets +onlyGivenNames v16
          have h17 : Keeps s₀ v16 := by
            subst v16
            apply State.setAtt_keeps
            exact h11
          clear_value v16
          refine Ends.next ?_
          apply tpEnd_keeps
          exact h17

theorem execFarWindowWrite_keeps {s₀ : State} (a : Fin 64) (off : BitVec 44) (bytes : List Byte) (s : State) (h_s : Keeps s₀ s) : Ends (execFarWindowWrite a off bytes s) (Keeps s₀) := by
  unfold execFarWindowWrite
  extract_lets +onlyGivenNames v1
  clear_value v1
  refine ite_of (fun o => Ends o (Keeps s₀)) ?_ ?_
  · refine Ends.next ?_
    exact h_s
  · extract_lets +onlyGivenNames v2
    have h3 : Keeps s₀ v2 := by
      subst v2
      apply cnt1_keeps
      exact h_s
    clear_value v2
    refine ite_of (fun o => Ends o (Keeps s₀)) ?_ ?_
    · refine Ends.next ?_
      exact h3
    · split
      · rename_i x4 x5
        refine Ends.next ?_
        apply State.bump_keeps
        exact h3
      · rename_i x6 x7 x8
        extract_lets +onlyGivenNames v9
        have h10 : Keeps s₀ v9 := by
          subst v9
          apply State.bump_keeps
          exact h3
        clear_value v9
        refine ite_of (fun o => Ends o (Keeps s₀)) ?_ ?_
        · refine Ends.next ?_
          apply State.bump_keeps
          exact h10
        · extract_lets +onlyGivenNames v11
          clear_value v11
          extract_lets +onlyGivenNames v12
          clear_value v12
          extract_lets +onlyGivenNames v13
          clear_value v13
          refine Ends.next ?_
          apply tpEnd_keeps
          apply State.setAtt_keeps
          exact h10

theorem execFarReadComplete_keeps {s₀ : State} (a : Fin 64) (req : BitVec 16) (s : State) (h_s : Keeps s₀ s) : Ends (execFarReadComplete a req s) (Keeps s₀) := by
  unfold execFarReadComplete
  extract_lets +onlyGivenNames v1
  clear_value v1
  split
  · rename_i x2 x3
    refine Ends.next ?_
    exact h_s
  · rename_i x4 x5 x6
    extract_lets +onlyGivenNames v7
    clear_value v7
    refine ite_of (fun o => Ends o (Keeps s₀)) ?_ ?_
    · refine Ends.next ?_
      exact h_s
    · extract_lets +onlyGivenNames v8
      have h9 : Keeps s₀ v8 := by
        subst v8
        apply cntCM_keeps
        exact h_s
      clear_value v8
      refine Ends.next ?_
      apply cnt1_keeps
      apply farEnd_keeps
      exact h9

theorem execFarReadTimeout_keeps {s₀ : State} (a : Fin 64) (req : BitVec 16) (s : State) (h_s : Keeps s₀ s) : Ends (execFarReadTimeout a req s) (Keeps s₀) := by
  unfold execFarReadTimeout
  extract_lets +onlyGivenNames v1
  clear_value v1
  split
  · rename_i x2 x3
    refine Ends.next ?_
    exact h_s
  · rename_i x4 x5 x6
    extract_lets +onlyGivenNames v7
    clear_value v7
    extract_lets +onlyGivenNames v8
    have h9 : Keeps s₀ v8 := by
      subst v8
      apply State.bump_keeps
      exact h_s
    clear_value v8
    extract_lets +onlyGivenNames v10
    have h11 : Keeps s₀ v10 := by
      subst v10
      apply attEvent_keeps
      apply farKill_keeps
      apply farEnd_keeps
      exact h9
    clear_value v10
    refine ite_of (fun o => Ends o (Keeps s₀)) ?_ ?_
    · refine Ends.next ?_
      apply tpEnd_keeps
      exact h11
    · extract_lets +onlyGivenNames v12
      clear_value v12
      extract_lets +onlyGivenNames v13
      have h14 : Keeps s₀ v13 := by
        subst v13
        apply State.setAtt_keeps
        exact h11
      clear_value v13
      refine Ends.next ?_
      apply tpEnd_keeps
      apply raiseEvent_keeps
      exact h14

theorem execFarWinValidWrite_keeps {s₀ : State} (r : Route) (a : Fin 64) (w : Fin 16) (x : BitVec 32) (s : State) (h_s : Keeps s₀ s) : Ends (execFarWinValidWrite r a w x s) (Keeps s₀) := by
  unfold execFarWinValidWrite
  extract_lets +onlyGivenNames v1
  clear_value v1
  refine Ends.next ?_
  apply guarded_keeps
  · exact h_s
  · intro y2 y3
    extract_lets +onlyGivenNames v4
    clear_value v4
    refine ite_of (Keeps s₀) ?_ ?_
    · refine ite_of (Keeps s₀) ?_ ?_
      · exact y3
      · apply State.wr_keeps
        exact y3
    · extract_lets +onlyGivenNames v5
      have h6 : Keeps s₀ v5 := by
        subst v5
        apply State.wr_keeps
        apply State.wr_keeps
        exact y3
      clear_value v5
      extract_lets +onlyGivenNames v7
      clear_value v7
      extract_lets +onlyGivenNames v8
      clear_value v8
      extract_lets +onlyGivenNames v9
      have h10 : Keeps s₀ v9 := by
        subst v9
        refine ite_of (Keeps s₀) ?_ ?_
        · apply State.wr_keeps
          exact h6
        · apply configError_keeps
          exact h6
      clear_value v9
      refine ite_of (Keeps s₀) ?_ ?_
      · exact h10
      · refine ite_of (Keeps s₀) ?_ ?_
        · apply configError_keeps
          exact h10
        · apply State.wr_keeps
          exact h10

theorem execDownstreamMessage_keeps {s₀ : State} (a : Fin 64) (m : DownMsg) (s : State) (h_s : Keeps s₀ s) : Ends (execDownstreamMessage a m s) (Keeps s₀) := by
  unfold execDownstreamMessage
  extract_lets +onlyGivenNames v1
  clear_value v1
  extract_lets +onlyGivenNames v2
  clear_value v2
  refine ite_of (fun o => Ends o (Keeps s₀)) ?_ ?_
  · refine Ends.next ?_
    apply pumpMsgs_keeps
    apply State.setAtt_keeps
    exact h_s
  · refine Ends.next ?_
    exact h_s

theorem devContained_keeps {s₀ : State} (s : State) (k : Nat) (q : DevReq) (h_s : Keeps s₀ s) : Keeps s₀ (devContained s k q) := by
  unfold devContained
  split
  · rename_i x1 x2 x3
    apply State.emit_keeps
    exact h_s
  · rename_i x4 x5 x6
    exact h_s

theorem execOwnedDeviceRequest_keeps {s₀ : State} (a : Fin 64) (da : BitVec 52) (q : DevReq) (s : State) (h_s : Keeps s₀ s) : Ends (execOwnedDeviceRequest a da q s) (Keeps s₀) := by
  unfold execOwnedDeviceRequest
  extract_lets +onlyGivenNames v1
  clear_value v1
  refine ite_of (fun o => Ends o (Keeps s₀)) ?_ ?_
  · refine Ends.next ?_
    exact h_s
  · refine ite_of (fun o => Ends o (Keeps s₀)) ?_ ?_
    · refine Ends.next ?_
      apply devContained_keeps
      exact h_s
    · refine ite_of (fun o => Ends o (Keeps s₀)) ?_ ?_
      · refine Ends.next ?_
        apply devPool_keeps
        exact h_s
      · refine Ends.next ?_
        apply State.emit_keeps
        exact h_s

theorem execBoundDeviceRequest_keeps {s₀ : State} (a : Fin 64) (q : HostDevReq) (s : State) (h_s : Keeps s₀ s) : Ends (execBoundDeviceRequest a q s) (Keeps s₀) := by
  unfold execBoundDeviceRequest
  extract_lets +onlyGivenNames v1
  clear_value v1
  refine ite_of (fun o => Ends o (Keeps s₀)) ?_ ?_
  · refine Ends.next ?_
    exact h_s
  · refine Ends.next ?_
    apply State.emit_keeps
    exact h_s

theorem execDownstreamDeviceRequest_keeps {s₀ : State} (a : Fin 64) (d : DevDest) (q : DevReq) (s : State) (h_s : Keeps s₀ s) : Ends (execDownstreamDeviceRequest a d q s) (Keeps s₀) := by
  unfold execDownstreamDeviceRequest
  extract_lets +onlyGivenNames v1
  clear_value v1
  extract_lets +onlyGivenNames v2
  clear_value v2
  refine ite_of (fun o => Ends o (Keeps s₀)) ?_ ?_
  · refine Ends.next ?_
    exact h_s
  · refine ite_of (fun o => Ends o (Keeps s₀)) ?_ ?_
    · refine Ends.next ?_
      apply devContained_keeps
      exact h_s
    · split
      · rename_i x3 x4
        refine Ends.next ?_
        split
        · rename_i x5 x6 x7
          apply State.emit_keeps
          exact h_s
        · rename_i x8 x9 x10
          apply State.emit_keeps
          exact h_s
      · rename_i x11 x12
        extract_lets +onlyGivenNames v13
        clear_value v13
        extract_lets +onlyGivenNames v14
        clear_value v14
        refine ite_of (fun o => Ends o (Keeps s₀)) ?_ ?_
        · refine Ends.next ?_
          apply devPool_keeps
          exact h_s
        · extract_lets +onlyGivenNames v15
          have h16 : Keeps s₀ v15 := by
            subst v15
            apply State.bump_keeps
            exact h_s
          clear_value v15
          split
          · rename_i x17 x18 x19
            refine Ends.next ?_
            apply State.emit_keeps
            apply State.spend_keeps
            exact h16
          · rename_i x20 x21 x22
            refine Ends.next ?_
            exact h16

theorem unclaim_keeps {s₀ : State} (s : State) (e : Nat) (h_s : Keeps s₀ s) : Keeps s₀ (unclaim s e) := by
  unfold unclaim
  refine Keeps.upd ?_ rfl
  exact h_s

theorem execClaimValidWrite_keeps {s₀ : State} (r : Route) (a : Fin 64) (k : Fin 8) (x : BitVec 32) (fits : Bool) (s : State) (h_s : Keeps s₀ s) : Ends (execClaimValidWrite r a k x fits s) (Keeps s₀) := by
  unfold execClaimValidWrite
  extract_lets +onlyGivenNames v1
  clear_value v1
  extract_lets +onlyGivenNames v2
  clear_value v2
  refine Ends.next ?_
  apply guarded_keeps
  · exact h_s
  · intro y3 y4
    refine ite_of (Keeps s₀) ?_ ?_
    · refine ite_of (Keeps s₀) ?_ ?_
      · exact y4
      · extract_lets +onlyGivenNames v5
        clear_value v5
        extract_lets +onlyGivenNames v6
        clear_value v6
        refine ite_of (Keeps s₀) ?_ ?_
        · refine Keeps.foldl ?_ ?_
          · apply State.wr_keeps
            exact y4
          · intro y7 y8 y9
            apply unclaim_keeps
            exact y9
        · apply configError_keeps
          exact y4
    · extract_lets +onlyGivenNames v10
      clear_value v10
      extract_lets +onlyGivenNames v11
      have h12 : Keeps s₀ v11 := by
        subst v11
        refine ite_of (Keeps s₀) ?_ ?_
        · apply State.wr_keeps
          exact y4
        · apply configError_keeps
          exact y4
      clear_value v11
      refine ite_of (Keeps s₀) ?_ ?_
      · exact h12
      · refine ite_of (Keeps s₀) ?_ ?_
        · apply configError_keeps
          exact h12
        · extract_lets +onlyGivenNames v13
          clear_value v13
          extract_lets +onlyGivenNames v14
          clear_value v14
          refine Keeps.foldl ?_ ?_
          · apply State.emit_keeps
            apply State.wr_keeps
            exact h12
          · intro y15 y16 y17
            apply queueSanitize_keeps
            apply State.setExt_keeps
            exact y17

theorem tunDrop_keeps {s₀ : State} (s : State) (a : Nat) (h_s : Keeps s₀ s) : Keeps s₀ (tunDrop s a) := by
  unfold tunDrop
  apply attEvent_keeps
  apply State.bump_keeps
  exact h_s

theorem tunDeliver_keeps {s₀ : State} (s : State) (a : Nat) (p : Packet) (frag : Option (List Byte)) (h_s : Keeps s₀ s) : KeepsO s₀ (tunDeliver s a p frag) := by
  unfold tunDeliver
  extract_lets +onlyGivenNames v1
  clear_value v1
  extract_lets +onlyGivenNames v2
  clear_value v2
  extract_lets +onlyGivenNames v3
  clear_value v3
  extract_lets +onlyGivenNames v4
  clear_value v4
  refine ite_of (KeepsO s₀) ?_ ?_
  · refine KeepsO.ofSome ?_
    apply tunDrop_keeps
    exact h_s
  · split
    · rename_i x5 x6
      refine KeepsO.ofSome ?_
      apply tunDrop_keeps
      exact h_s
    · rename_i x7 x8 x9
      refine ite_of (KeepsO s₀) ?_ ?_
      · exact KeepsO.ofNone _
      · split
        · rename_i x10 x11 x12
          have h13 : Keeps s₀ x11 := by
            refine Keeps.ofPair ?_ x12
            apply xlate_keeps
            exact h_s
          exact KeepsO.ofNone _
        · rename_i x14 x15 x16
          have h17 : Keeps s₀ x15 := by
            refine Keeps.ofPair ?_ x16
            apply xlate_keeps
            exact h_s
          refine KeepsO.ofSome ?_
          apply tunDrop_keeps
          exact h17
        · rename_i x18 x19 x20 x21
          have h22 : Keeps s₀ x20 := by
            refine Keeps.ofPair ?_ x21
            apply xlate_keeps
            exact h_s
          refine ite_of (KeepsO s₀) ?_ ?_
          · refine KeepsO.ofSome ?_
            apply tunDrop_keeps
            exact h22
          · extract_lets +onlyGivenNames v23
            clear_value v23
            extract_lets +onlyGivenNames v24
            clear_value v24
            refine ite_of (KeepsO s₀) ?_ ?_
            · refine KeepsO.ofSome ?_
              apply tunDrop_keeps
              exact h22
            · split
              · rename_i x25 x26 x27
                have h28 : Keeps s₀ x26 := by
                  refine Keeps.ofPair ?_ x27
                  apply fragChunks_keeps
                  exact h22
                exact KeepsO.ofNone _
              · rename_i x29 x30 x31 x32
                have h33 : Keeps s₀ x31 := by
                  refine Keeps.ofPair ?_ x32
                  apply fragChunks_keeps
                  exact h22
                extract_lets +onlyGivenNames v34
                have h35 : Keeps s₀ v34 := by
                  subst v34
                  apply scatterPayload_keeps
                  exact h33
                clear_value v34
                extract_lets +onlyGivenNames v36
                have h37 : Keeps s₀ v36 := by
                  subst v36
                  apply cqReserve_keeps
                  apply State.bump_keeps
                  apply State.wr_keeps
                  exact h35
                clear_value v36
                refine KeepsO.ofSome ?_
                apply cqPut_keeps
                exact h37
              · rename_i x38 x39 x40 x41 x42 x43
                have h44 : Keeps s₀ x40 := by
                  refine Keeps.ofPair ?_ x43
                  apply fragChunks_keeps
                  exact h22
                refine KeepsO.ofSome ?_
                apply tunDrop_keeps
                exact h44

theorem tunWait_keeps {s₀ : State} (s : State) (a : Nat) (p : Packet) (h_s : Keeps s₀ s) : Keeps s₀ (tunWait s a p) := by
  unfold tunWait
  extract_lets +onlyGivenNames v1
  clear_value v1
  extract_lets +onlyGivenNames v2
  clear_value v2
  split
  · rename_i x3 x4 x5 x6
    have h7 : Keeps s₀ x5 := by
      refine Keeps.ofPair ?_ x6
      apply xlate_keeps
      exact h_s
    apply fragChunks_keeps
    exact h7
  · rename_i x8 x9 x10 x11 x12
    have h13 : Keeps s₀ x10 := by
      refine Keeps.ofPair ?_ x12
      apply xlate_keeps
      exact h_s
    exact h13

theorem execTunnelReceive_keeps {s₀ : State} (p : Fin 128) (frag : Option (List Byte)) (s : State) (h_s : Keeps s₀ s) : Ends (execTunnelReceive p frag s) (Keeps s₀) := by
  unfold execTunnelReceive
  refine ite_of (fun o => Ends o (Keeps s₀)) ?_ ?_
  · refine Ends.next ?_
    exact h_s
  · extract_lets +onlyGivenNames v1
    clear_value v1
    extract_lets +onlyGivenNames v2
    clear_value v2
    refine ite_of (fun o => Ends o (Keeps s₀)) ?_ ?_
    · split
      · rename_i x3 x4
        refine Ends.next ?_
        exact h_s
      · rename_i x5 x6 x7 x8
        have h9 : Keeps s₀ x7 := by
          refine takeInbox_keeps ?_ x8
          exact h_s
        split
        · rename_i x10 x11 x12
          have h13 : Keeps s₀ x11 := by
            refine KeepsO.at ?_ x12
            apply mgmtRefused_keeps
            exact h9
          refine Ends.next ?_
          exact h13
        · rename_i x14 x15
          refine Ends.next ?_
          apply State.emit_keeps
          exact h9
    · refine ite_of (fun o => Ends o (Keeps s₀)) ?_ ?_
      · refine Ends.next ?_
        exact h_s
      · extract_lets +onlyGivenNames v16
        clear_value v16
        split
        · rename_i x17 x18
          refine Ends.next ?_
          exact h_s
        · rename_i x19 x20 x21 x22
          have h23 : Keeps s₀ x21 := by
            refine takeInbox_keeps ?_ x22
            exact h_s
          split
          · rename_i x24 x25 x26
            have h27 : Keeps s₀ x25 := by
              refine KeepsO.at ?_ x26
              apply arriveGood_keeps
              exact h23
            refine Ends.next ?_
            exact h27
          · rename_i x28 x29
            extract_lets +onlyGivenNames v30
            clear_value v30
            split
            · rename_i x31
              refine Ends.next ?_
              apply recordError_keeps
              apply State.bump_keeps
              exact h23
            · rename_i x32 x33
              split
              · rename_i x34 x35 x36
                have h37 : Keeps s₀ x35 := by
                  refine KeepsO.at ?_ x36
                  apply tunDeliver_keeps
                  exact h23
                refine Ends.next ?_
                apply tpSyncAll_keeps
                exact h37
              · rename_i x38 x39
                refine Ends.next ?_
                apply tunWait_keeps
                exact h_s

theorem execTrqDoorbell_keeps {s₀ : State} (f : Fin 1024) (v : BitVec 32) (s : State) (h_s : Keeps s₀ s) : Ends (execTrqDoorbell f v s) (Keeps s₀) := by
  unfold execTrqDoorbell
  refine ite_of (fun o => Ends o (Keeps s₀)) ?_ ?_
  · refine Ends.next ?_
    exact h_s
  · extract_lets +onlyGivenNames v1
    clear_value v1
    refine ite_of (fun o => Ends o (Keeps s₀)) ?_ ?_
    · refine Ends.next ?_
      exact h_s
    · refine ite_of (fun o => Ends o (Keeps s₀)) ?_ ?_
      · refine Ends.next ?_
        apply State.wr_keeps
        exact h_s
      · refine Ends.next ?_
        apply badIndex_keeps
        exact h_s

end Sys2Proof.Machine
end

