-- ==== Sys2Proof/Laws/Keeps6.lean ====
section
/-!
SUPPORT. What each operation and each command of these files of Machine/ keeps: Bus.lean, Clock.lean, Drisiul.lean.
One lemma for each: an operation on a state that keeps what a state s₀ had (Keeps of Laws/Keeps.lean: the queue, the clock, what was
emitted, the form of the pool's memory) gives one that keeps it, and a command on such a state answers a next state that keeps it.
-/
namespace Sys2Proof.Machine

/-! ### Machine/Bus.lean -/

theorem goOn_keeps {s₀ : State} (s : State) (o : Host.Outcome State Fault Refusal) (h_s : Keeps s₀ s) (h_o : Ends o (Keeps s₀)) :
    Keeps s₀ (goOn s o) := by
  obtain ⟨t, rfl, k⟩ := h_o
  exact k

theorem execBridgeCodeError_keeps {s₀ : State} (w : BridgePlace) (s : State) (h_s : Keeps s₀ s) : Ends (execBridgeCodeError w s) (Keeps s₀) := by
  unfold execBridgeCodeError
  extract_lets +onlyGivenNames v1
  clear_value v1
  extract_lets +onlyGivenNames v2
  clear_value v2
  refine ite_of (fun o => Ends o (Keeps s₀)) ?_ ?_
  · refine Ends.next ?_
    exact h_s
  · extract_lets +onlyGivenNames v3
    have h4 : Keeps s₀ v3 := by
      subst v3
      split
      · rename_i x5 x6 x7 x8
        refine ite_of (Keeps s₀) ?_ ?_
        · apply strikeOutput_keeps
          exact h_s
        · apply strikeInput_keeps
          · exact h_s
          · intro y9 y10
            unfold id
            exact y10
      · rename_i x11 x12
        exact h_s
    clear_value v3
    extract_lets +onlyGivenNames v13
    clear_value v13
    extract_lets +onlyGivenNames v14
    extract_lets +onlyGivenNames v15
    clear_value v15
    extract_lets +onlyGivenNames v16
    have h17 : Keeps s₀ v16 := by
      subst v16
      apply recordError_keeps
      refine Keeps.upd ?_ rfl
      exact h4
    clear_value v16
    refine Ends.next ?_
    refine ite_of (Keeps s₀) ?_ ?_
    · apply fenceUnit_keeps
      exact h17
    · exact h17

theorem setGroup_keeps {s₀ : State} (s : State) (u : UnitId) (g : Nat) (h_s : Keeps s₀ s) : Keeps s₀ (setGroup s u g) := by
  unfold setGroup
  extract_lets +onlyGivenNames v1
  clear_value v1
  refine ite_of (Keeps s₀) ?_ ?_
  · exact h_s
  · refine ite_of (Keeps s₀) ?_ ?_
    · apply configError_keeps
      exact h_s
    · refine Keeps.upd ?_ rfl
      exact h_s

theorem fenceOrReset_keeps {s₀ : State} (s : State) (r : Route) (u : UnitId) (fence : Bool) (reset : Bool) (h_s : Keeps s₀ s) : Keeps s₀ (fenceOrReset s r u fence reset) := by
  unfold fenceOrReset
  refine ite_of (Keeps s₀) ?_ ?_
  · exact h_s
  · refine ite_of (Keeps s₀) ?_ ?_
    · apply accViol_keeps
      exact h_s
    · refine ite_of (Keeps s₀) ?_ ?_
      · apply beginReset_keeps
        exact h_s
      · apply fenceUnit_keeps
        exact h_s

theorem writeControl_keeps {s₀ : State} (s : State) (r : Route) (u : UnitId) (v : Nat) (h_s : Keeps s₀ s) : Keeps s₀ (writeControl s r u v) := by
  unfold writeControl
  extract_lets +onlyGivenNames v1
  clear_value v1
  extract_lets +onlyGivenNames v2
  have h3 : Keeps s₀ v2 := by
    subst v2
    refine ite_of (Keeps s₀) ?_ ?_
    · exact h_s
    · apply setGroup_keeps
      exact h_s
  clear_value v2
  apply fenceOrReset_keeps
  exact h3

theorem execFence_keeps {s₀ : State} (r : Route) (u : UnitId) (s : State) (h_s : Keeps s₀ s) : Ends (execFence r u s) (Keeps s₀) := by
  unfold execFence
  refine Ends.next ?_
  apply guarded_keeps
  · exact h_s
  · intro y1 y2
    apply fenceOrReset_keeps
    exact y2

theorem execUnitReset_keeps {s₀ : State} (r : Route) (u : UnitId) (alsoFence : Bool) (s : State) (h_s : Keeps s₀ s) : Ends (execUnitReset r u alsoFence s) (Keeps s₀) := by
  unfold execUnitReset
  refine Ends.next ?_
  apply guarded_keeps
  · exact h_s
  · intro y1 y2
    apply fenceOrReset_keeps
    exact y2

theorem execCmtGroupWrite_keeps {s₀ : State} (r : Route) (u : UnitId) (g : Fin 32) (s : State) (h_s : Keeps s₀ s) : Ends (execCmtGroupWrite r u g s) (Keeps s₀) := by
  unfold execCmtGroupWrite
  refine Ends.next ?_
  apply guarded_keeps
  · exact h_s
  · intro y1 y2
    apply setGroup_keeps
    exact y2

theorem rwPut_keeps {s₀ : State} (s : State) (r : Route) (u : UnitId) (ws : List (Nat × Nat)) (h_s : Keeps s₀ s) : Keeps s₀ (rwPut s r u ws) := by
  unfold rwPut
  extract_lets +onlyGivenNames v1
  clear_value v1
  extract_lets +onlyGivenNames v2
  clear_value v2
  extract_lets +onlyGivenNames v3
  clear_value v3
  extract_lets +onlyGivenNames v4
  clear_value v4
  extract_lets +onlyGivenNames v5
  clear_value v5
  extract_lets +onlyGivenNames v6
  have h7 : Keeps s₀ v6 := by
    subst v6
    refine ite_of (Keeps s₀) ?_ ?_
    · apply accViol_keeps
      exact h_s
    · exact h_s
  clear_value v6
  extract_lets +onlyGivenNames v8
  have h9 : Keeps s₀ v8 := by
    subst v8
    refine ite_of (Keeps s₀) ?_ ?_
    · apply configError_keeps
      exact h7
    · exact h7
  clear_value v8
  refine ite_of (Keeps s₀) ?_ ?_
  · exact h9
  · extract_lets +onlyGivenNames v10
    clear_value v10
    extract_lets +onlyGivenNames v11
    clear_value v11
    extract_lets +onlyGivenNames v12
    have h13 : Keeps s₀ v12 := by
      subst v12
      refine Keeps.upd ?_ rfl
      exact h9
    clear_value v12
    refine ite_of (Keeps s₀) ?_ ?_
    · exact h13
    · apply bankPut_keeps
      exact h13

theorem stPut_keeps {s₀ : State} (s : State) (u : UnitId) (ws : List (Nat × Nat)) (h_s : Keeps s₀ s) : Keeps s₀ (stPut s u ws) := by
  unfold stPut
  extract_lets +onlyGivenNames v1
  clear_value v1
  refine ite_of (Keeps s₀) ?_ ?_
  · exact h_s
  · refine ite_of (Keeps s₀) ?_ ?_
    · apply configError_keeps
      exact h_s
    · extract_lets +onlyGivenNames v2
      clear_value v2
      extract_lets +onlyGivenNames v3
      have h4 : Keeps s₀ v3 := by
        subst v3
        refine ite_of (Keeps s₀) ?_ ?_
        · apply configError_keeps
          exact h_s
        · exact h_s
      clear_value v3
      refine Keeps.foldl ?_ ?_
      · exact h4
      · intro y5 y6 y7
        apply stageValue_keeps
        exact y7

theorem fpPut_keeps {s₀ : State} (s : State) (r : Route) (u : UnitId) (ws : List (Nat × Nat)) (h_s : Keeps s₀ s) : Keeps s₀ (fpPut s r u ws) := by
  unfold fpPut
  extract_lets +onlyGivenNames v1
  clear_value v1
  refine ite_of (Keeps s₀) ?_ ?_
  · exact h_s
  · apply postFp_keeps
    exact h_s

theorem rwFollow_keeps {s₀ : State} (before : State) (s : State) (u : UnitId) (w : Nat) (h_before : Keeps s₀ before) (h_s : Keeps s₀ s) : Keeps s₀ (rwFollow before s u w) := by
  unfold rwFollow
  split
  · rename_i x1
    extract_lets +onlyGivenNames v2
    clear_value v2
    refine ite_of (Keeps s₀) ?_ ?_
    · apply State.wr_keeps
      exact h_s
    · exact h_s
  · rename_i x3
    refine ite_of (Keeps s₀) ?_ ?_
    · apply contourStart_keeps
      exact h_s
    · exact h_s
  · rename_i x4 x5
    refine ite_of (Keeps s₀) ?_ ?_
    · apply closeBypass_keeps
      exact h_s
    · exact h_s
  · rename_i x6 x7 x8 x9
    exact h_s

theorem putWords_keeps {s₀ : State} (s : State) (r : Route) (u : UnitId) (ws : List (Nat × Nat)) (h_s : Keeps s₀ s) : Keeps s₀ (putWords s r u ws) := by
  unfold putWords
  extract_lets +onlyGivenNames v1
  have h2 : Keeps s₀ v1 := by
    subst v1
    refine Keeps.foldl ?_ ?_
    · apply rwPut_keeps
      exact h_s
    · intro y3 y4 y5
      apply rwFollow_keeps
      · exact h_s
      · exact y5
  clear_value v1
  apply fpPut_keeps
  apply stPut_keeps
  exact h2

theorem ownWord_keeps {s₀ : State} (s : State) (r : Route) (u : UnitId) (w : Nat) (v : BitVec 32) (h_s : Keeps s₀ s) : KeepsO s₀ (ownWord s r u w v) := by
  unfold ownWord
  extract_lets +onlyGivenNames v1
  have h2 : ∀ (o : Host.Outcome State Fault Refusal), Ends o (Keeps s₀) → KeepsO s₀ (v1 o) := by
    subst v1
    intro y3 y4
    dsimp -zeta only
    refine KeepsO.ofSome ?_
    apply goOn_keeps
    · exact h_s
    · exact y4
  clear_value v1
  split
  · rename_i x5
    refine ite_of (KeepsO s₀) ?_ ?_
    · apply h2
      apply execCmtStrobe_keeps
      exact h_s
    · refine ite_of (KeepsO s₀) ?_ ?_
      · apply h2
        apply execCmtDiscard_keeps
        exact h_s
      · refine ite_of (KeepsO s₀) ?_ ?_
        · apply h2
          apply execPaceFloorWrite_keeps
          exact h_s
        · refine ite_of (KeepsO s₀) ?_ ?_
          · apply h2
            apply execInjEpochWrite_keeps
            exact h_s
          · exact KeepsO.ofNone _
  · rename_i x6
    refine ite_of (KeepsO s₀) ?_ ?_
    · apply h2
      apply execAtlasValidWrite_keeps
      exact h_s
    · refine ite_of (KeepsO s₀) ?_ ?_
      · extract_lets +onlyGivenNames v7
        clear_value v7
        extract_lets +onlyGivenNames v8
        clear_value v8
        extract_lets +onlyGivenNames v9
        clear_value v9
        extract_lets +onlyGivenNames v10
        have h11 : ∀ (e : AtlasEntry), KeepsO s₀ (v10 e) := by
          subst v10
          intro y12
          dsimp -zeta only
          refine ite_of (KeepsO s₀) ?_ ?_
          · apply h2
            apply execAtlasEntryApply_keeps
            exact h_s
          · apply h2
            apply execAtlasEntryWordWrite_keeps
            exact h_s
        clear_value v10
        refine ite_of (KeepsO s₀) ?_ ?_
        · apply h11
        · refine ite_of (KeepsO s₀) ?_ ?_
          · apply h11
          · refine ite_of (KeepsO s₀) ?_ ?_
            · apply h2
              apply execWaypointEntryWrite_keeps
              exact h_s
            · exact KeepsO.ofNone _
      · exact KeepsO.ofNone _
  · rename_i x13
    refine ite_of (KeepsO s₀) ?_ ?_
    · extract_lets +onlyGivenNames v14
      clear_value v14
      extract_lets +onlyGivenNames v15
      clear_value v15
      refine ite_of (KeepsO s₀) ?_ ?_
      · apply h2
        apply execMcEntryApply_keeps
        exact h_s
      · apply h2
        apply execMcEntryWordWrite_keeps
        exact h_s
    · exact KeepsO.ofNone _
  · rename_i x16 x17
    refine ite_of (KeepsO s₀) ?_ ?_
    · apply h2
      apply execFnValidWrite_keeps
      exact h_s
    · exact KeepsO.ofNone _
  · rename_i x18
    refine ite_of (KeepsO s₀) ?_ ?_
    · apply h2
      apply execKeyCfgEnWrite_keeps
      exact h_s
    · exact KeepsO.ofNone _
  · rename_i x19
    refine ite_of (KeepsO s₀) ?_ ?_
    · apply h2
      apply execGzEnWrite_keeps
      exact h_s
    · refine ite_of (KeepsO s₀) ?_ ?_
      · apply h2
        apply execGzCiWrite_keeps
        exact h_s
      · refine ite_of (KeepsO s₀) ?_ ?_
        · apply h2
          apply execTrailEnWrite_keeps
          exact h_s
        · exact KeepsO.ofNone _
  · rename_i x20 x21
    refine ite_of (KeepsO s₀) ?_ ?_
    · apply h2
      apply execFarWinValidWrite_keeps
      exact h_s
    · refine ite_of (KeepsO s₀) ?_ ?_
      · apply h2
        apply execClaimValidWrite_keeps
        apply State.spend_keeps
        exact h_s
      · exact KeepsO.ofNone _
  · rename_i x22 x23 x24 x25 x26 x27 x28 x29
    exact KeepsO.ofNone _

theorem devControl_keeps {s₀ : State} (s : State) (v : Nat) (h_s : Keeps s₀ s) : Keeps s₀ (devControl s v) := by
  unfold devControl
  extract_lets +onlyGivenNames v1
  have h2 : Keeps s₀ v1 := by
    subst v1
    refine ite_of (Keeps s₀) ?_ ?_
    · apply State.wr_keeps
      exact h_s
    · exact h_s
  clear_value v1
  refine ite_of (Keeps s₀) ?_ ?_
  · apply coldStart_keeps
    exact h2
  · refine ite_of (Keeps s₀) ?_ ?_
    · apply warmStart_keeps
      exact h2
    · exact h2

theorem portControl_keeps {s₀ : State} (s : State) (n : Nat) (v : Nat) (h_s : Keeps s₀ s) : Keeps s₀ (portControl s n v) := by
  unfold portControl
  extract_lets +onlyGivenNames v1
  have h2 : Keeps s₀ v1 := by
    subst v1
    refine ite_of (Keeps s₀) ?_ ?_
    · apply portCountersClear_keeps
      exact h_s
    · exact h_s
  clear_value v1
  refine ite_of (Keeps s₀) ?_ ?_
  · apply takedown_keeps
    exact h2
  · extract_lets +onlyGivenNames v3
    have h4 : Keeps s₀ v3 := by
      subst v3
      refine ite_of (Keeps s₀) ?_ ?_
      · apply bringup_keeps
        exact h2
      · exact h2
    clear_value v3
    refine ite_of (Keeps s₀) ?_ ?_
    · apply retrain_keeps
      exact h4
    · exact h4

theorem unlessBusy_keeps {s₀ : State} (s : State) (r : Route) (busy : Nat) (off : Nat) (run : State → State) (h_s : Keeps s₀ s) (h_run : ∀ (a : State), Keeps s₀ a → Keeps s₀ (run a)) : Keeps s₀ (unlessBusy s r busy off run) := by
  unfold unlessBusy
  refine ite_of (Keeps s₀) ?_ ?_
  · apply accViol_keeps
    exact h_s
  · apply h_run
    exact h_s

theorem chanGo_keeps {s₀ : State} (s : State) (r : Route) (c : Fin 4) (h_s : Keeps s₀ s) : Keeps s₀ (chanGo s r c) := by
  unfold chanGo
  extract_lets +onlyGivenNames v1
  clear_value v1
  extract_lets +onlyGivenNames v2
  clear_value v2
  refine ite_of (Keeps s₀) ?_ ?_
  · apply clusterCmd_keeps
    exact h_s
  · refine ite_of (Keeps s₀) ?_ ?_
    · exact h_s
    · apply unlessBusy_keeps
      · exact h_s
      · intro y3 y4
        apply State.wr_keeps
        exact y4

theorem outGo_keeps {s₀ : State} (s : State) (r : Route) (h_s : Keeps s₀ s) : Keeps s₀ (outGo s r) := by
  unfold outGo
  split
  · rename_i x1 x2
    apply goOn_keeps
    · exact h_s
    · apply execOutingCreate_keeps
      exact h_s
  · rename_i x3 x4
    apply goOn_keeps
    · exact h_s
    · apply execOutingAbort_keeps
      exact h_s
  · rename_i x5 x6
    apply goOn_keeps
    · exact h_s
    · apply execOutingRebuild_keeps
      exact h_s
  · rename_i x7 x8
    apply goOn_keeps
    · exact h_s
    · apply execOutingDestroy_keeps
      exact h_s
  · rename_i x9 x10 x11 x12 x13
    refine ite_of (Keeps s₀) ?_ ?_
    · exact h_s
    · apply unlessBusy_keeps
      · exact h_s
      · intro y14 y15
        apply State.wr_keeps
        exact y15

theorem extGo_keeps {s₀ : State} (s : State) (r : Route) (h_s : Keeps s₀ s) : Keeps s₀ (extGo s r) := by
  unfold extGo
  split
  · rename_i x1 x2
    apply goOn_keeps
    · exact h_s
    · apply execAssign_keeps
      exact h_s
  · rename_i x3 x4
    apply goOn_keeps
    · exact h_s
    · apply execRelease_keeps
      exact h_s
  · rename_i x5 x6
    apply goOn_keeps
    · exact h_s
    · apply execPair_keeps
      exact h_s
  · rename_i x7 x8
    apply goOn_keeps
    · exact h_s
    · apply execUnpair_keeps
      exact h_s
  · rename_i x9 x10
    apply goOn_keeps
    · exact h_s
    · apply execExtentQuery_keeps
      exact h_s
  · rename_i x11 x12 x13 x14 x15 x16
    apply unlessBusy_keeps
    · exact h_s
    · intro y17 y18
      apply State.wr_keeps
      exact y18

theorem actIf_keeps {s₀ : State} (v : Nat) (i : Nat) (act : State → Host.Outcome State Fault Refusal) (s : State) (h_act : ∀ (a : State), Keeps s₀ a → Ends (act a) (Keeps s₀)) (h_s : Keeps s₀ s) : Keeps s₀ (actIf v i act s) := by
  unfold actIf
  refine ite_of (Keeps s₀) ?_ ?_
  · apply goOn_keeps
    · exact h_s
    · apply h_act
      exact h_s
  · exact h_s

theorem w1Acts_keeps {s₀ : State} (s : State) (r : Route) (u : UnitId) (w : Nat) (v : Nat) (h_s : Keeps s₀ s) : Keeps s₀ (w1Acts s r u w v) := by
  unfold w1Acts
  split
  · rename_i x1
    refine ite_of (Keeps s₀) ?_ ?_
    · apply devControl_keeps
      exact h_s
    · refine ite_of (Keeps s₀) ?_ ?_
      · apply actIf_keeps
        · intro y2 y3
          apply execErrCntClr_keeps
          exact y3
        · apply actIf_keeps
          · intro y4 y5
            apply execLogClr_keeps
            exact y5
          · apply actIf_keeps
            · intro y6 y7
              apply execClrUnit_keeps
              exact y7
            · apply actIf_keeps
              · intro y8 y9
                apply execClrAll_keeps
                exact y9
              · exact h_s
      · refine ite_of (Keeps s₀) ?_ ?_
        · apply actIf_keeps
          · intro y10 y11
            apply execTjPeakClr_keeps
            exact y11
          · exact h_s
        · exact h_s
  · rename_i x12 x13
    refine ite_of (Keeps s₀) ?_ ?_
    · apply portControl_keeps
      exact h_s
    · exact h_s
  · rename_i x14
    refine ite_of (Keeps s₀) ?_ ?_
    · apply actIf_keeps
      · intro y15 y16
        apply execSwitchCntClr_keeps
        exact y16
      · apply actIf_keeps
        · intro y17 y18
          apply execPoolHwmClr_keeps
          exact y18
        · exact h_s
    · exact h_s
  · rename_i x19 x20
    refine ite_of (Keeps s₀) ?_ ?_
    · refine ite_of (Keeps s₀) ?_ ?_
      · apply chanGo_keeps
        exact h_s
      · exact h_s
    · refine ite_of (Keeps s₀) ?_ ?_
      · apply actIf_keeps
        · intro y21 y22
          apply execTransportCntClr_keeps
          exact y22
        · exact h_s
      · exact h_s
  · rename_i x23 x24
    refine ite_of (Keeps s₀) ?_ ?_
    · apply actIf_keeps
      · intro y25 y26
        apply execEngineCntClr_keeps
        exact y26
      · exact h_s
    · exact h_s
  · rename_i x27
    refine ite_of (Keeps s₀) ?_ ?_
    · apply actIf_keeps
      · intro y28 y29
        apply execMatchCntClr_keeps
        exact y29
      · exact h_s
    · exact h_s
  · rename_i x30
    refine ite_of (Keeps s₀) ?_ ?_
    · refine ite_of (Keeps s₀) ?_ ?_
      · apply outGo_keeps
        exact h_s
      · exact h_s
    · refine ite_of (Keeps s₀) ?_ ?_
      · apply actIf_keeps
        · intro y31 y32
          apply execCollCntClr_keeps
          exact y32
        · exact h_s
      · exact h_s
  · rename_i x33
    refine ite_of (Keeps s₀) ?_ ?_
    · apply actIf_keeps
      · intro y34 y35
        apply execFlogClr_keeps
        exact y35
      · apply actIf_keeps
        · intro y36 y37
          apply execXlateCntClr_keeps
          exact y37
        · exact h_s
    · exact h_s
  · rename_i x38 x39
    refine ite_of (Keeps s₀) ?_ ?_
    · apply actIf_keeps
      · intro y40 y41
        apply execAttachCntClr_keeps
        exact y41
      · apply actIf_keeps
        · intro y42 y43
          apply execDpcRelease_keeps
          exact y43
        · exact h_s
    · exact h_s
  · rename_i x44 x45
    extract_lets +onlyGivenNames v46
    have h47 : Keeps s₀ v46 := by
      subst v46
      refine ite_of (Keeps s₀) ?_ ?_
      · apply actIf_keeps
        · intro y48 y49
          apply execStackOffline_keeps
          exact y49
        · exact h_s
      · exact h_s
    clear_value v46
    refine ite_of (Keeps s₀) ?_ ?_
    · exact h47
    · refine ite_of (Keeps s₀) ?_ ?_
      · refine ite_of (Keeps s₀) ?_ ?_
        · apply extGo_keeps
          exact h47
        · exact h47
      · refine ite_of (Keeps s₀) ?_ ?_
        · apply actIf_keeps
          · intro y50 y51
            apply execElogClr_keeps
            exact y51
          · apply actIf_keeps
            · intro y52 y53
              apply execPoolCntClr_keeps
              exact y53
            · exact h47
        · refine ite_of (Keeps s₀) ?_ ?_
          · apply actIf_keeps
            · intro y54 y55
              apply execAgentKill_keeps
              exact y55
            · exact h47
          · refine ite_of (Keeps s₀) ?_ ?_
            · apply actIf_keeps
              · intro y56 y57
                apply execBctRun_keeps
                exact y57
              · exact h47
            · exact h47
  · rename_i x58 x59
    refine ite_of (Keeps s₀) ?_ ?_
    · apply actIf_keeps
      · intro y60 y61
        apply execSliceCntClr_keeps
        exact y61
      · apply actIf_keeps
        · intro y62 y63
          apply execLeaveCareful_keeps
          exact y63
        · apply actIf_keeps
          · intro y64 y65
            apply execEnterCareful_keeps
            exact y65
          · exact h_s
    · exact h_s
  · rename_i x66
    refine ite_of (Keeps s₀) ?_ ?_
    · apply actIf_keeps
      · intro y67 y68
        apply execMeterCntClr_keeps
        exact y68
      · exact h_s
    · exact h_s
  · rename_i x69
    refine ite_of (Keeps s₀) ?_ ?_
    · apply actIf_keeps
      · intro y70 y71
        apply execMeterCntClr_keeps
        exact y71
      · exact h_s
    · exact h_s
  · rename_i x72 x73
    refine ite_of (Keeps s₀) ?_ ?_
    · apply actIf_keeps
      · intro y74 y75
        apply execMeterCntClr_keeps
        exact y75
      · exact h_s
    · exact h_s
  · rename_i x76
    refine ite_of (Keeps s₀) ?_ ?_
    · apply actIf_keeps
      · intro y77 y78
        apply execGzCntClr_keeps
        exact y78
      · exact h_s
    · exact h_s
  · rename_i x79 x80
    refine ite_of (Keeps s₀) ?_ ?_
    · apply actIf_keeps
      · intro y81 y82
        apply execMgmtEthCntClr_keeps
        exact y82
      · exact h_s
    · exact h_s
  · rename_i x83
    refine ite_of (Keeps s₀) ?_ ?_
    · apply actIf_keeps
      · intro y84 y85
        apply execMpRestart_keeps
        exact y85
      · apply actIf_keeps
        · intro y86 y87
          apply execMpCntClr_keeps
          exact y87
        · exact h_s
    · exact h_s
  · rename_i x88
    refine ite_of (Keeps s₀) ?_ ?_
    · apply goOn_keeps
      · exact h_s
      · apply execFwConfirm_keeps
        apply State.spend_keeps
        apply State.spend_keeps
        exact h_s
    · exact h_s
  · rename_i x89
    exact h_s
  · rename_i x90
    exact h_s
  · rename_i x91 x92
    exact h_s
  · rename_i x93 x94
    exact h_s
  · rename_i x95 x96
    exact h_s
  · rename_i x97 x98
    exact h_s
  · rename_i x99 x100
    exact h_s
  · rename_i x101 x102
    exact h_s

theorem takeWrite_keeps {s₀ : State} (s : State) (r : Route) (off : Nat) (v : BitVec 32) (h_s : Keeps s₀ s) : Keeps s₀ (takeWrite s r off v) := by
  unfold takeWrite
  extract_lets +onlyGivenNames v1
  clear_value v1
  extract_lets +onlyGivenNames v2
  clear_value v2
  refine ite_of (Keeps s₀) ?_ ?_
  · refine ite_of (Keeps s₀) ?_ ?_
    · apply writeControl_keeps
      exact h_s
    · exact h_s
  · refine ite_of (Keeps s₀) ?_ ?_
    · apply fpPut_keeps
      exact h_s
    · refine ite_of (Keeps s₀) ?_ ?_
      · refine Keeps.upd ?_ rfl
        exact h_s
      · refine ite_of (Keeps s₀) ?_ ?_
        · extract_lets +onlyGivenNames v3
          clear_value v3
          apply putWords_keeps
          refine Keeps.upd ?_ rfl
          exact h_s
        · split
          · rename_i x4 x5 x6
            have h7 : Keeps s₀ x5 := by
              refine KeepsO.at ?_ x6
              apply ownWord_keeps
              exact h_s
            exact h7
          · rename_i x8 x9
            apply w1Acts_keeps
            apply putWords_keeps
            exact h_s

theorem busWrite_keeps {s₀ : State} (s : State) (r : Route) (w : BusWrite) (h_s : Keeps s₀ s) : Keeps s₀ (busWrite s r w) := by
  unfold busWrite
  refine ite_of (Keeps s₀) ?_ ?_
  · exact h_s
  · split
    · rename_i x1 x2 x3
      apply accViol_keeps
      exact h_s
    · rename_i x4 x5
      apply takeWrite_keeps
      exact h_s

theorem wideWrite_keeps {s₀ : State} (s : State) (r : Route) (off : BitVec 28) (v : BitVec 64) (en : BitVec 8) (h_s : Keeps s₀ s) : Keeps s₀ (wideWrite s r off v en) := by
  unfold wideWrite
  refine ite_of (Keeps s₀) ?_ ?_
  · exact h_s
  · refine ite_of (Keeps s₀) ?_ ?_
    · apply accViol_keeps
      exact h_s
    · refine ite_of (Keeps s₀) ?_ ?_
      · apply accViol_keeps
        exact h_s
      · apply busWrite_keeps
        apply busWrite_keeps
        exact h_s

theorem busWriteIf_keeps {s₀ : State} (s : State) (r : Route) (w : BusWrite) (kind : UnitId → Nat → Bool) (h_s : Keeps s₀ s) : Keeps s₀ (busWriteIf s r w kind) := by
  unfold busWriteIf
  extract_lets +onlyGivenNames v1
  clear_value v1
  refine ite_of (Keeps s₀) ?_ ?_
  · apply busWrite_keeps
    exact h_s
  · exact h_s

theorem queueReg_keeps {s₀ : State} (s : State) (f : Fin 1024) (o : Nat) (v : BitVec 32) (h_s : Keeps s₀ s) : Keeps s₀ (queueReg s f o v) := by
  unfold queueReg
  extract_lets +onlyGivenNames v1
  clear_value v1
  extract_lets +onlyGivenNames v2
  clear_value v2
  refine ite_of (Keeps s₀) ?_ ?_
  · apply actIf_keeps
    · intro y3 y4
      apply execQueueReset_keeps
      exact y4
    · exact h_s
  · refine ite_of (Keeps s₀) ?_ ?_
    · extract_lets +onlyGivenNames v5
      have h6 : Keeps s₀ v5 := by
        subst v5
        apply State.wr_keeps
        exact h_s
      clear_value v5
      extract_lets +onlyGivenNames v7
      clear_value v7
      apply State.wr_keeps
      exact h6
    · refine ite_of (Keeps s₀) ?_ ?_
      · extract_lets +onlyGivenNames v8
        have h9 : Keeps s₀ v8 := by
          subst v8
          apply State.wr_keeps
          exact h_s
        clear_value v8
        refine ite_of (Keeps s₀) ?_ ?_
        · exact h9
        · refine ite_of (Keeps s₀) ?_ ?_
          · apply fnCmd_keeps
            exact h9
          · apply State.wr_keeps
            exact h9
      · refine ite_of (Keeps s₀) ?_ ?_
        · apply State.wr_keeps
          exact h_s
        · refine ite_of (Keeps s₀) ?_ ?_
          · apply State.wri_keeps
            exact h_s
          · refine ite_of (Keeps s₀) ?_ ?_
            · refine ite_of (Keeps s₀) ?_ ?_
              · exact h_s
              · apply State.wr_keeps
                exact h_s
            · refine ite_of (Keeps s₀) ?_ ?_
              · refine ite_of (Keeps s₀) ?_ ?_
                · exact h_s
                · apply State.wr_keeps
                  exact h_s
              · refine ite_of (Keeps s₀) ?_ ?_
                · extract_lets +onlyGivenNames v10
                  clear_value v10
                  extract_lets +onlyGivenNames v11
                  have h12 : Keeps s₀ v11 := by
                    subst v11
                    apply State.wr_keeps
                    exact h_s
                  clear_value v11
                  extract_lets +onlyGivenNames v13
                  have h14 : Keeps s₀ v13 := by
                    subst v13
                    refine ite_of (Keeps s₀) ?_ ?_
                    · exact h12
                    · refine ite_of (Keeps s₀) ?_ ?_
                      · apply State.wr_keeps
                        exact h12
                      · apply configError_keeps
                        exact h12
                  clear_value v13
                  extract_lets +onlyGivenNames v15
                  clear_value v15
                  refine ite_of (Keeps s₀) ?_ ?_
                  · exact h14
                  · refine ite_of (Keeps s₀) ?_ ?_
                    · apply configError_keeps
                      exact h14
                    · apply State.wr_keeps
                      exact h14
                · refine ite_of (Keeps s₀) ?_ ?_
                  · apply goOn_keeps
                    · exact h_s
                    · apply execEqCiWrite_keeps
                      exact h_s
                  · refine ite_of (Keeps s₀) ?_ ?_
                    · apply actIf_keeps
                      · intro y16 y17
                        apply execEqArm_keeps
                        exact y17
                      · exact h_s
                    · refine ite_of (Keeps s₀) ?_ ?_
                      · extract_lets +onlyGivenNames v18
                        have h19 : Keeps s₀ v18 := by
                          subst v18
                          apply State.wr_keeps
                          exact h_s
                        clear_value v18
                        refine ite_of (Keeps s₀) ?_ ?_
                        · apply keyCmd_keeps
                          exact h19
                        · exact h19
                      · refine ite_of (Keeps s₀) ?_ ?_
                        · apply State.wr_keeps
                          exact h_s
                        · refine ite_of (Keeps s₀) ?_ ?_
                          · apply State.wri_keeps
                            exact h_s
                          · refine ite_of (Keeps s₀) ?_ ?_
                            · refine ite_of (Keeps s₀) ?_ ?_
                              · exact h_s
                              · apply State.wr_keeps
                                exact h_s
                            · refine ite_of (Keeps s₀) ?_ ?_
                              · refine ite_of (Keeps s₀) ?_ ?_
                                · exact h_s
                                · apply State.wr_keeps
                                  exact h_s
                              · refine ite_of (Keeps s₀) ?_ ?_
                                · refine ite_of (Keeps s₀) ?_ ?_
                                  · exact h_s
                                  · extract_lets +onlyGivenNames v20
                                    have h21 : Keeps s₀ v20 := by
                                      subst v20
                                      apply State.wr_keeps
                                      exact h_s
                                    clear_value v20
                                    extract_lets +onlyGivenNames v22
                                    have h23 : Keeps s₀ v22 := by
                                      subst v22
                                      refine ite_of (Keeps s₀) ?_ ?_
                                      · apply State.wr_keeps
                                        exact h21
                                      · apply configError_keeps
                                        exact h21
                                    clear_value v22
                                    refine ite_of (Keeps s₀) ?_ ?_
                                    · apply State.wr_keeps
                                      exact h23
                                    · exact h23
                                · refine ite_of (Keeps s₀) ?_ ?_
                                  · apply goOn_keeps
                                    · exact h_s
                                    · apply execTrqDoorbell_keeps
                                      exact h_s
                                  · refine ite_of (Keeps s₀) ?_ ?_
                                    · extract_lets +onlyGivenNames v24
                                      clear_value v24
                                      refine ite_of (Keeps s₀) ?_ ?_
                                      · apply goOn_keeps
                                        · exact h_s
                                        · apply execWqDoorbell_keeps
                                          exact h_s
                                      · refine ite_of (Keeps s₀) ?_ ?_
                                        · apply goOn_keeps
                                          · exact h_s
                                          · apply execCqCiWrite_keeps
                                            exact h_s
                                        · refine ite_of (Keeps s₀) ?_ ?_
                                          · apply actIf_keeps
                                            · intro y25 y26
                                              apply execCqArm_keeps
                                              exact y26
                                            · exact h_s
                                          · exact h_s
                                    · exact h_s

theorem domainReg_keeps {s₀ : State} (s : State) (f : Fin 1024) (o : Nat) (v : BitVec 32) (h_s : Keeps s₀ s) : Keeps s₀ (domainReg s f o v) := by
  unfold domainReg
  extract_lets +onlyGivenNames v1
  clear_value v1
  extract_lets +onlyGivenNames v2
  clear_value v2
  extract_lets +onlyGivenNames v3
  clear_value v3
  extract_lets +onlyGivenNames v4
  have h5 : ∀ (g : Field), Keeps s₀ (v4 g) := by
    subst v4
    intro y6
    dsimp -zeta only
    apply State.wri_keeps
    exact h_s
  clear_value v4
  split
  · rename_i x7 x8
    exact h_s
  · rename_i x9 x10 x11
    refine ite_of (Keeps s₀) ?_ ?_
    · apply goOn_keeps
      · exact h_s
      · apply execRqDoorbell_keeps
        exact h_s
    · refine ite_of (Keeps s₀) ?_ ?_
      · apply goOn_keeps
        · exact h_s
        · refine ite_of (fun o => Ends o (Keeps s₀)) ?_ ?_
          · apply execDomainEnable_keeps
            exact h_s
          · apply execDomainDisable_keeps
            exact h_s
      · refine ite_of (Keeps s₀) ?_ ?_
        · refine ite_of (Keeps s₀) ?_ ?_
          · apply h5
          · apply configError_keeps
            exact h_s
        · refine ite_of (Keeps s₀) ?_ ?_
          · apply h5
          · refine ite_of (Keeps s₀) ?_ ?_
            · exact h_s
            · refine ite_of (Keeps s₀) ?_ ?_
              · apply h5
              · refine ite_of (Keeps s₀) ?_ ?_
                · apply h5
                · refine ite_of (Keeps s₀) ?_ ?_
                  · refine ite_of (Keeps s₀) ?_ ?_
                    · apply h5
                    · apply configError_keeps
                      exact h_s
                  · refine ite_of (Keeps s₀) ?_ ?_
                    · apply h5
                    · refine ite_of (Keeps s₀) ?_ ?_
                      · refine ite_of (Keeps s₀) ?_ ?_
                        · apply h5
                        · apply configError_keeps
                          exact h_s
                      · refine ite_of (Keeps s₀) ?_ ?_
                        · apply h5
                        · refine ite_of (Keeps s₀) ?_ ?_
                          · refine ite_of (Keeps s₀) ?_ ?_
                            · apply h5
                            · apply configError_keeps
                              exact h_s
                          · refine ite_of (Keeps s₀) ?_ ?_
                            · apply h5
                            · exact h_s

theorem msixReg_keeps {s₀ : State} (s : State) (f : Nat) (o : Nat) (n : Nat) (h_s : Keeps s₀ s) : Keeps s₀ (msixReg s f o n) := by
  unfold msixReg
  extract_lets +onlyGivenNames v1
  clear_value v1
  refine ite_of (Keeps s₀) ?_ ?_
  · exact h_s
  · refine ite_of (Keeps s₀) ?_ ?_
    · apply State.wri_keeps
      exact h_s
    · refine ite_of (Keeps s₀) ?_ ?_
      · apply State.wri_keeps
        exact h_s
      · refine ite_of (Keeps s₀) ?_ ?_
        · apply State.wri_keeps
          exact h_s
        · apply msixRelease_keeps
          apply State.wri_keeps
          exact h_s

theorem queueViol_keeps {s₀ : State} (s : State) (h_s : Keeps s₀ s) : Keeps s₀ (queueViol s) := by
  unfold queueViol
  extract_lets +onlyGivenNames v1
  clear_value v1
  extract_lets +onlyGivenNames v2
  clear_value v2
  extract_lets +onlyGivenNames v3
  have h4 : Keeps s₀ v3 := by
    subst v3
    apply State.spend_keeps
    apply State.spend_keeps
    apply State.spend_keeps
    exact h_s
  clear_value v3
  apply accViol_keeps
  apply State.spend_keeps
  exact h4

theorem queueWrite_keeps {s₀ : State} (s : State) (f : Fin 1024) (o : Nat) (v : BitVec 32) (enables : Nat) (h_s : Keeps s₀ s) : Keeps s₀ (queueWrite s f o v enables) := by
  unfold queueWrite
  refine ite_of (Keeps s₀) ?_ ?_
  · exact h_s
  · refine ite_of (Keeps s₀) ?_ ?_
    · apply queueViol_keeps
      exact h_s
    · refine ite_of (Keeps s₀) ?_ ?_
      · apply msixReg_keeps
        exact h_s
      · refine ite_of (Keeps s₀) ?_ ?_
        · apply queueReg_keeps
          exact h_s
        · refine ite_of (Keeps s₀) ?_ ?_
          · exact h_s
          · refine ite_of (Keeps s₀) ?_ ?_
            · apply domainReg_keeps
              exact h_s
            · apply queueReg_keeps
              exact h_s

theorem queueRead_keeps {s₀ : State} (s : State) (f : Nat) (off : Nat) (n : Nat) (h_s : Keeps s₀ s) : Keeps s₀ (queueRead s f off n) := by
  unfold queueRead
  refine Keeps.foldl ?_ ?_
  · exact h_s
  · intro y1 y2 y3
    apply State.emit_keeps
    exact y3

theorem execRcFieldRead_keeps {s₀ : State} (x : RegRead) (n : Fin 8) (s : State) (h_s : Keeps s₀ s) : Ends (execRcFieldRead x n s) (Keeps s₀) := by
  unfold execRcFieldRead
  refine Ends.next ?_
  split
  · rename_i x1 x2 x3
    apply readSetup_keeps
    exact h_s
  · rename_i x4 x5 x6
    apply queueRead_keeps
    exact h_s

theorem execRegisterWrite_keeps {s₀ : State} (w : RegWrite) (s : State) (h_s : Keeps s₀ s) : Ends (execRegisterWrite w s) (Keeps s₀) := by
  unfold execRegisterWrite
  refine Ends.next ?_
  split
  · rename_i x1 x2 x3
    apply busWrite_keeps
    exact h_s
  · rename_i x4 x5 x6 x7 x8
    apply wideWrite_keeps
    exact h_s
  · rename_i x9 x10 x11 x12 x13
    apply queueWrite_keeps
    exact h_s

theorem execReg64LowWrite_keeps {s₀ : State} (r : Route) (w : BusWrite) (s : State) (h_s : Keeps s₀ s) : Ends (execReg64LowWrite r w s) (Keeps s₀) := by
  unfold execReg64LowWrite
  refine Ends.next ?_
  apply busWriteIf_keeps
  exact h_s

theorem execReg64HighWrite_keeps {s₀ : State} (r : Route) (w : BusWrite) (s : State) (h_s : Keeps s₀ s) : Ends (execReg64HighWrite r w s) (Keeps s₀) := by
  unfold execReg64HighWrite
  refine Ends.next ?_
  apply busWriteIf_keeps
  exact h_s

theorem execStFieldWrite_keeps {s₀ : State} (r : Route) (w : BusWrite) (s : State) (h_s : Keeps s₀ s) : Ends (execStFieldWrite r w s) (Keeps s₀) := by
  unfold execStFieldWrite
  refine Ends.next ?_
  apply busWriteIf_keeps
  exact h_s

theorem execFpFieldWrite_keeps {s₀ : State} (r : Route) (w : BusWrite) (s : State) (h_s : Keeps s₀ s) : Ends (execFpFieldWrite r w s) (Keeps s₀) := by
  unfold execFpFieldWrite
  refine Ends.next ?_
  apply busWriteIf_keeps
  exact h_s

theorem fpTake_keeps {s₀ : State} (s : State) (i : Nat) (h_s : Keeps s₀ s) : Keeps s₀ (fpTake s i) := by
  unfold fpTake
  extract_lets +onlyGivenNames v1
  clear_value v1
  extract_lets +onlyGivenNames v2
  clear_value v2
  extract_lets +onlyGivenNames v3
  clear_value v3
  extract_lets +onlyGivenNames v4
  clear_value v4
  extract_lets +onlyGivenNames v5
  have h6 : Keeps s₀ v5 := by
    subst v5
    apply dropFp_keeps
    exact h_s
  clear_value v5
  extract_lets +onlyGivenNames v7
  clear_value v7
  extract_lets +onlyGivenNames v8
  clear_value v8
  extract_lets +onlyGivenNames v9
  clear_value v9
  extract_lets +onlyGivenNames v10
  clear_value v10
  extract_lets +onlyGivenNames v11
  have h12 : Keeps s₀ v11 := by
    subst v11
    refine ite_of (Keeps s₀) ?_ ?_
    · apply configError_keeps
      exact h6
    · exact h6
  clear_value v11
  extract_lets +onlyGivenNames v13
  clear_value v13
  extract_lets +onlyGivenNames v14
  have h15 : Keeps s₀ v14 := by
    subst v14
    refine Keeps.upd ?_ rfl
    exact h12
  clear_value v14
  refine ite_of (Keeps s₀) ?_ ?_
  · exact h15
  · apply bankPut_keeps
    exact h15

theorem execFpWriteApplied_keeps {s₀ : State} (island : Fin 60) (s : State) (h_s : Keeps s₀ s) : Ends (execFpWriteApplied island s) (Keeps s₀) := by
  unfold execFpWriteApplied
  refine Ends.next ?_
  refine ite_of (Keeps s₀) ?_ ?_
  · apply fpTake_keeps
    exact h_s
  · exact h_s

theorem portCommitted_keeps {s₀ : State} (s : State) (n : Nat) (h_s : Keeps s₀ s) : Keeps s₀ (portCommitted s n) := by
  unfold portCommitted
  refine ite_of (Keeps s₀) ?_ ?_
  · refine ite_of (Keeps s₀) ?_ ?_
    · apply takedown_keeps
      exact h_s
    · refine ite_of (Keeps s₀) ?_ ?_
      · apply resetLink_keeps
        exact h_s
      · exact h_s
  · apply autoStart_keeps
    exact h_s

theorem applyCommit_keeps {s₀ : State} (s : State) (u : UnitId) (h_s : Keeps s₀ s) : Keeps s₀ (applyCommit s u) := by
  unfold applyCommit
  extract_lets +onlyGivenNames v1
  clear_value v1
  extract_lets +onlyGivenNames v2
  clear_value v2
  extract_lets +onlyGivenNames v3
  have h4 : Keeps s₀ v3 := by
    subst v3
    refine Keeps.upd ?_ rfl
    exact h_s
  clear_value v3
  extract_lets +onlyGivenNames v5
  clear_value v5
  extract_lets +onlyGivenNames v6
  clear_value v6
  extract_lets +onlyGivenNames v7
  clear_value v7
  extract_lets +onlyGivenNames v8
  clear_value v8
  extract_lets +onlyGivenNames v9
  have h10 : Keeps s₀ v9 := by
    subst v9
    refine ite_of (Keeps s₀) ?_ ?_
    · exact h_s
    · apply configError_keeps
      exact h_s
  clear_value v9
  extract_lets +onlyGivenNames v11
  clear_value v11
  extract_lets +onlyGivenNames v12
  have h13 : Keeps s₀ v12 := by
    subst v12
    refine Keeps.upd ?_ rfl
    exact h10
  clear_value v12
  extract_lets +onlyGivenNames v14
  have h15 : Keeps s₀ v14 := by
    subst v14
    split
    · rename_i x16 x17
      apply applyHostCfg_keeps
      exact h13
    · rename_i x18 x19
      apply applyHostCfg_keeps
      exact h13
    · rename_i x20 x21
      apply portCommitted_keeps
      exact h13
    · rename_i x22 x23 x24 x25
      exact h13
  clear_value v14
  refine ite_of (Keeps s₀) ?_ ?_
  · apply commitDone_keeps
    exact h15
  · exact h15

theorem execCommitApply_keeps {s₀ : State} (u : UnitId) (s : State) (h_s : Keeps s₀ s) : Ends (execCommitApply u s) (Keeps s₀) := by
  unfold execCommitApply
  refine Ends.next ?_
  refine ite_of (Keeps s₀) ?_ ?_
  · apply applyCommit_keeps
    exact h_s
  · exact h_s

theorem execWarmReset_keeps {s₀ : State} (r : Route) (s : State) (h_s : Keeps s₀ s) : Ends (execWarmReset r s) (Keeps s₀) := by
  unfold execWarmReset
  refine Ends.next ?_
  apply guarded_keeps
  · exact h_s
  · intro y1 y2
    apply devControl_keeps
    exact y2

theorem execColdReset_keeps {s₀ : State} (r : Route) (s : State) (h_s : Keeps s₀ s) : Ends (execColdReset r s) (Keeps s₀) := by
  unfold execColdReset
  refine Ends.next ?_
  apply guarded_keeps
  · exact h_s
  · intro y1 y2
    apply devControl_keeps
    exact y2

theorem execPoolStaleClr_keeps {s₀ : State} (r : Route) (s : State) (h_s : Keeps s₀ s) : Ends (execPoolStaleClr r s) (Keeps s₀) := by
  unfold execPoolStaleClr
  refine Ends.next ?_
  apply guarded_keeps
  · exact h_s
  · intro y1 y2
    apply devControl_keeps
    exact y2

theorem execOpenCmd_keeps {s₀ : State} (r : Route) (c : Fin 4) (s : State) (h_s : Keeps s₀ s) : Ends (execOpenCmd r c s) (Keeps s₀) := by
  unfold execOpenCmd
  apply execOpen_keeps
  exact h_s


/-! ### Machine/Clock.lean -/

theorem timeTick_keeps {s₀ : State} (s : State) (h_s : Keeps s₀ s) : Keeps s₀ (timeTick s).snd := by
  unfold timeTick
  refine ite_of (fun (p : _ × State) => Keeps s₀ p.2) ?_ ?_
  · exact h_s
  · extract_lets +onlyGivenNames v1
    clear_value v1
    extract_lets +onlyGivenNames v2
    clear_value v2
    refine Keeps.mkPair ?_
    apply State.setMg_keeps
    apply advanceBase_keeps
    exact h_s

theorem drawShakes_keeps {s₀ : State} (s : State) (h_s : Keeps s₀ s) : Keeps s₀ (drawShakes s).snd := by
  unfold drawShakes
  refine Keeps.mkPair ?_
  apply State.spend_keeps
  exact h_s

theorem unitShakes_keeps {s₀ : State} (s : State) (u : UnitId) (h_s : Keeps s₀ s) : Keeps s₀ (unitShakes s u).snd := by
  unfold unitShakes
  refine ite_of (fun (p : _ × State) => Keeps s₀ p.2) ?_ ?_
  · split
    · rename_i x1 x2 x3
      exact h_s
    · rename_i x4 x5
      refine Keeps.mkPair ?_
      apply State.spend_keeps
      exact h_s
  · apply drawShakes_keeps
    exact h_s

theorem bankTick_keeps {s₀ : State} (n : Nat) (s : State) (u : UnitId) (h_s : Keeps s₀ s) : Keeps s₀ (bankTick n s u) := by
  unfold bankTick
  refine ite_of (Keeps s₀) ?_ ?_
  · exact h_s
  · extract_lets +onlyGivenNames v1
    have h2 : Keeps s₀ v1 := by
      subst v1
      apply countEv_keeps
      exact h_s
    clear_value v1
    extract_lets +onlyGivenNames v3
    have h4 : Keeps s₀ v3 := by
      subst v3
      refine ite_of (Keeps s₀) ?_ ?_
      · apply countEv_keeps
        exact h2
      · exact h2
    clear_value v3
    split
    · rename_i x5 x6
      exact h4
    · rename_i x7 x8
      extract_lets +onlyGivenNames v9
      have h10 : Keeps s₀ v9.snd := by
        subst v9
        apply unitShakes_keeps
        exact h4
      clear_value v9
      apply countEv_keeps
      exact h10

theorem addSlots_keeps {s₀ : State} (s : State) (e : Nat) (j : Nat) (n : Nat) (h_s : Keeps s₀ s) : Keeps s₀ (addSlots s e j n) := by
  unfold addSlots
  extract_lets +onlyGivenNames v1
  clear_value v1
  apply State.wr64_keeps
  exact h_s

theorem slotTick_keeps {s₀ : State} (s : State) (e : Nat) (h_s : Keeps s₀ s) : Keeps s₀ (slotTick s e) := by
  unfold slotTick
  refine ite_of (Keeps s₀) ?_ ?_
  · exact h_s
  · extract_lets +onlyGivenNames v1
    have h2 : Keeps s₀ v1.snd := by
      subst v1
      apply drawShakes_keeps
      exact h_s
    clear_value v1
    extract_lets +onlyGivenNames v3
    clear_value v3
    extract_lets +onlyGivenNames v4
    have h5 : Keeps s₀ v4 := by
      subst v4
      apply State.spend_keeps
      exact h2
    clear_value v4
    extract_lets +onlyGivenNames v6
    clear_value v6
    extract_lets +onlyGivenNames v7
    have h8 : Keeps s₀ v7 := by
      subst v7
      apply State.spend_keeps
      exact h5
    clear_value v7
    extract_lets +onlyGivenNames v9
    clear_value v9
    extract_lets +onlyGivenNames v10
    have h11 : Keeps s₀ v10 := by
      subst v10
      apply State.spend_keeps
      exact h8
    clear_value v10
    extract_lets +onlyGivenNames v12
    have h13 : Keeps s₀ v12 := by
      subst v12
      apply addSlots_keeps
      apply addSlots_keeps
      apply addSlots_keeps
      apply addSlots_keeps
      exact h11
    clear_value v12
    refine ite_of (Keeps s₀) ?_ ?_
    · apply countEv_keeps
      exact h13
    · exact h13

theorem countTick_keeps {s₀ : State} (s : State) (n : Nat) (h_s : Keeps s₀ s) : Keeps s₀ (countTick s n) := by
  unfold countTick
  refine ite_of (Keeps s₀) ?_ ?_
  · exact h_s
  · extract_lets +onlyGivenNames v1
    have h2 : Keeps s₀ v1 := by
      subst v1
      refine Keeps.foldl ?_ ?_
      · exact h_s
      · intro y3 y4 y5
        apply bankTick_keeps
        exact y5
    clear_value v1
    extract_lets +onlyGivenNames v6
    have h7 : Keeps s₀ v6 := by
      subst v6
      refine ite_of (Keeps s₀) ?_ ?_
      · apply countEv_keeps
        exact h2
      · exact h2
    clear_value v6
    refine Keeps.foldl ?_ ?_
    · exact h7
    · intro y8 y9 y10
      apply slotTick_keeps
      exact y10

/-- A passing nanosecond moves the clock and keeps the rest. -/
theorem tick_keeps (s : State) : Keeps { s with now := s.now + 1 } (tick s) := by
  have h := countTick_keeps (timeTick { s with now := s.now + 1 }).2 (timeTick { s with now := s.now + 1 }).1
    (timeTick_keeps { s with now := s.now + 1 } (Keeps.refl _))
  unfold tick
  dsimp only
  split
  · exact h
  · exact eqDrainAll_keeps _ h


/-! ### Machine/Drisiul.lean -/

theorem answerReq_keeps {s₀ : State} (s : State) (q : ReqRun) (h_s : Keeps s₀ s) : Keeps s₀ (answerReq s q) := by
  unfold answerReq
  extract_lets +onlyGivenNames v1
  clear_value v1
  extract_lets +onlyGivenNames v2
  have h3 : Keeps s₀ v2 := by
    subst v2
    apply State.setMg_keeps
    exact h_s
  clear_value v2
  split
  · rename_i x4 x5
    exact h3
  · rename_i x6 x7 x8
    extract_lets +onlyGivenNames v9
    have h10 : Keeps s₀ v9 := by
      subst v9
      apply setSess_keeps
      exact h3
    clear_value v9
    apply sendSecured_keeps
    exact h10

theorem setFront_keeps {s₀ : State} (s : State) (q : ReqRun) (h_s : Keeps s₀ s) : Keeps s₀ (setFront s q) := by
  unfold setFront
  apply State.setMg_keeps
  exact h_s

theorem endOp_keeps {s₀ : State} (s : State) (status : Nat) (data : List (BitVec 32)) (h_s : Keeps s₀ s) : Keeps s₀ (endOp s status data) := by
  unfold endOp
  split
  · rename_i x1 x2
    exact h_s
  · rename_i x3 x4 x5 x6
    split
    · rename_i x7 x8
      exact h_s
    · rename_i x9 x10 x11 x12
      extract_lets +onlyGivenNames v13
      clear_value v13
      refine ite_of (Keeps s₀) ?_ ?_
      · apply setFront_keeps
        exact h_s
      · apply setFront_keeps
        exact h_s

theorem settleReqs_keeps {s₀ : State} (k : Nat) (s : State) (h_s : Keeps s₀ s) : Keeps s₀ (settleReqs k s) := by
  induction k generalizing s with
  | zero =>
    unfold settleReqs
    exact h_s
  | succ n ih =>
    unfold settleReqs
    split
    · rename_i x1 x2
      exact h_s
    · rename_i x3 x4 x5 x6
      split
      · rename_i x7 x8
        apply ih
        apply answerReq_keeps
        exact h_s
      · rename_i x9 x10 x11 x12
        apply ih
        apply endOp_keeps
        exact h_s
      · rename_i x13 x14 x15 x16
        apply ih
        apply endOp_keeps
        exact h_s
      · rename_i x17 x18 x19 x20
        exact h_s

theorem finishOp_keeps {s₀ : State} (s : State) (status : Nat) (data : List (BitVec 32)) (h_s : Keeps s₀ s) : Keeps s₀ (finishOp s status data) := by
  unfold finishOp
  apply settleReqs_keeps
  apply endOp_keeps
  exact h_s

theorem badTag_keeps {s₀ : State} (s : State) (h_s : Keeps s₀ s) : Keeps s₀ (badTag s) := by
  unfold badTag
  apply drsEvent_keeps
  apply State.bump_keeps
  exact h_s

theorem execDrisiulRequest_keeps {s₀ : State} (q : DrsReq) (s : State) (h_s : Keeps s₀ s) : Ends (execDrisiulRequest q s) (Keeps s₀) := by
  unfold execDrisiulRequest
  refine ite_of (fun o => Ends o (Keeps s₀)) ?_ ?_
  · refine Ends.next ?_
    exact h_s
  · split
    · rename_i x1 x2
      refine Ends.next ?_
      apply badTag_keeps
      exact h_s
    · rename_i x3 x4 x5
      extract_lets +onlyGivenNames v6
      clear_value v6
      refine ite_of (fun o => Ends o (Keeps s₀)) ?_ ?_
      · refine Ends.next ?_
        apply badTag_keeps
        exact h_s
      · refine ite_of (fun o => Ends o (Keeps s₀)) ?_ ?_
        · refine Ends.next ?_
          apply dropSession_keeps
          exact h_s
        · extract_lets +onlyGivenNames v7
          clear_value v7
          extract_lets +onlyGivenNames v8
          clear_value v8
          extract_lets +onlyGivenNames v9
          have h10 : Keeps s₀ v9 := by
            subst v9
            apply setSess_keeps
            exact h_s
          clear_value v9
          extract_lets +onlyGivenNames v11
          have h12 : Keeps s₀ v11 := by
            subst v11
            apply State.bump_keeps
            exact h10
          clear_value v11
          extract_lets +onlyGivenNames v13
          clear_value v13
          extract_lets +onlyGivenNames v14
          clear_value v14
          extract_lets +onlyGivenNames v15
          clear_value v15
          extract_lets +onlyGivenNames v16
          clear_value v16
          extract_lets +onlyGivenNames v17
          clear_value v17
          extract_lets +onlyGivenNames v18
          have h19 : Keeps s₀ v18 := by
            subst v18
            apply State.setMg_keeps
            exact h10
          clear_value v18
          refine ite_of (fun o => Ends o (Keeps s₀)) ?_ ?_
          · refine Ends.next ?_
            exact h12
          · split
            · rename_i x20 x21
              refine Ends.next ?_
              apply settleReqs_keeps
              exact h19
            · rename_i x22 x23 x24 x25
              refine ite_of (fun o => Ends o (Keeps s₀)) ?_ ?_
              · refine Ends.next ?_
                apply sendSecured_keeps
                exact h12
              · refine ite_of (fun o => Ends o (Keeps s₀)) ?_ ?_
                · refine Ends.next ?_
                  apply settleReqs_keeps
                  exact h19
                · refine Ends.next ?_
                  exact h12

theorem onFront_keeps {s₀ : State} (s : State) (pick : ReqRun → DrsOp → Option State) (h_s : Keeps s₀ s) (h_pick : ∀ (a : ReqRun) (a_1 : DrsOp), KeepsO s₀ (pick a a_1)) : Ends (onFront s pick) (Keeps s₀) := by
  unfold onFront
  refine ite_of (fun o => Ends o (Keeps s₀)) ?_ ?_
  · refine Ends.next ?_
    exact h_s
  · split
    · rename_i x1 x2
      refine Ends.next ?_
      exact h_s
    · rename_i x3 x4 x5 x6
      split
      · rename_i x7 x8
        refine Ends.next ?_
        exact h_s
      · rename_i x9 x10 x11 x12
        split
        · rename_i x13 x14
          refine Ends.next ?_
          exact h_s
        · rename_i x15 x16 x17
          have h18 : Keeps s₀ x16 := by
            refine KeepsO.at ?_ x17
            apply h_pick
          refine Ends.next ?_
          refine ite_of (Keeps s₀) ?_ ?_
          · apply finishOp_keeps
            exact h_s
          · exact h18

theorem readWords_keeps {s₀ : State} (k : Nat) (s : State) (off : Nat) (acc : List (BitVec 32)) (h_s : Keeps s₀ s) : Keeps s₀ (readWords k s off acc).2 := by
  induction k generalizing s off acc with
  | zero =>
    unfold readWords
    exact h_s
  | succ n ih =>
    unfold readWords
    extract_lets +onlyGivenNames v1
    have h2 : Keeps s₀ v1.snd := by
      subst v1
      apply busRead_keeps
      exact h_s
    clear_value v1
    apply ih
    exact h2

theorem execRegRead_keeps {s₀ : State} (s : State) (h_s : Keeps s₀ s) : Ends (execRegRead s) (Keeps s₀) := by
  unfold execRegRead
  apply onFront_keeps
  · exact h_s
  · intro y1 y2
    split
    · rename_i x3 x4 x5
      extract_lets +onlyGivenNames v6
      clear_value v6
      refine ite_of (KeepsO s₀) ?_ ?_
      · refine KeepsO.ofSome ?_
        apply finishOp_keeps
        exact h_s
      · refine ite_of (KeepsO s₀) ?_ ?_
        · refine KeepsO.ofSome ?_
          apply finishOp_keeps
          exact h_s
        · extract_lets +onlyGivenNames v7
          have h8 : Keeps s₀ v7.snd := by
            subst v7
            apply readWords_keeps
            exact h_s
          clear_value v7
          refine KeepsO.ofSome ?_
          apply finishOp_keeps
          exact h8
    · rename_i x9 x10
      exact KeepsO.ofNone _

theorem drsWrite_keeps {s₀ : State} (s : State) (off : Nat) (v : BitVec 32) (h_s : Keeps s₀ s) : Keeps s₀ (drsWrite s off v) := by
  unfold drsWrite
  apply busWrite_keeps
  exact h_s

theorem writeWords_keeps {s₀ : State} (k : List (BitVec 32)) (s : State) (off : Nat) (h_s : Keeps s₀ s) : Keeps s₀ (writeWords k s off).2 := by
  induction k generalizing s off with
  | nil =>
    unfold writeWords
    exact h_s
  | cons v rest ih =>
    unfold writeWords
    extract_lets +onlyGivenNames v1
    have h2 : Keeps s₀ v1 := by
      subst v1
      apply drsWrite_keeps
      exact h_s
    clear_value v1
    refine ite_of (fun (p : _ × State) => Keeps s₀ p.2) ?_ ?_
    · exact h2
    · apply ih
      exact h2

theorem execRegWrite_keeps {s₀ : State} (s : State) (h_s : Keeps s₀ s) : Ends (execRegWrite s) (Keeps s₀) := by
  unfold execRegWrite
  apply onFront_keeps
  · exact h_s
  · intro y1 y2
    split
    · rename_i x3 x4 x5
      refine ite_of (KeepsO s₀) ?_ ?_
      · refine KeepsO.ofSome ?_
        apply finishOp_keeps
        exact h_s
      · extract_lets +onlyGivenNames v6
        have h7 : Keeps s₀ v6.snd := by
          subst v6
          apply writeWords_keeps
          exact h_s
        clear_value v6
        refine KeepsO.ofSome ?_
        apply finishOp_keeps
        exact h7
    · rename_i x8 x9
      exact KeepsO.ofNone _

theorem execRegRmw_keeps {s₀ : State} (s : State) (h_s : Keeps s₀ s) : Ends (execRegRmw s) (Keeps s₀) := by
  unfold execRegRmw
  apply onFront_keeps
  · exact h_s
  · intro y1 y2
    split
    · rename_i x3 x4 x5 x6
      refine ite_of (KeepsO s₀) ?_ ?_
      · refine KeepsO.ofSome ?_
        apply finishOp_keeps
        exact h_s
      · refine ite_of (KeepsO s₀) ?_ ?_
        · refine KeepsO.ofSome ?_
          apply finishOp_keeps
          exact h_s
        · extract_lets +onlyGivenNames v7
          have h8 : Keeps s₀ v7.snd := by
            subst v7
            apply busRead_keeps
            exact h_s
          clear_value v7
          extract_lets +onlyGivenNames v9
          clear_value v9
          extract_lets +onlyGivenNames v10
          have h11 : Keeps s₀ v10 := by
            subst v10
            apply drsWrite_keeps
            exact h8
          clear_value v10
          refine ite_of (KeepsO s₀) ?_ ?_
          · refine KeepsO.ofSome ?_
            apply finishOp_keeps
            exact h11
          · refine ite_of (KeepsO s₀) ?_ ?_
            · refine KeepsO.ofSome ?_
              apply finishOp_keeps
              exact h11
            · refine KeepsO.ofSome ?_
              apply finishOp_keeps
              exact h11
    · rename_i x12 x13
      exact KeepsO.ofNone _

theorem execPoll_keeps {s₀ : State} (s : State) (h_s : Keeps s₀ s) : Ends (execPoll s) (Keeps s₀) := by
  unfold execPoll
  apply onFront_keeps
  · exact h_s
  · intro y1 y2
    split
    · rename_i x3 x4 x5 x6 x7
      refine ite_of (KeepsO s₀) ?_ ?_
      · refine KeepsO.ofSome ?_
        exact h_s
      · refine ite_of (KeepsO s₀) ?_ ?_
        · refine KeepsO.ofSome ?_
          apply finishOp_keeps
          exact h_s
        · refine ite_of (KeepsO s₀) ?_ ?_
          · refine KeepsO.ofSome ?_
            apply finishOp_keeps
            exact h_s
          · refine KeepsO.ofSome ?_
            apply setFront_keeps
            exact h_s
    · rename_i x8 x9
      exact KeepsO.ofNone _

theorem execPollEnd_keeps {s₀ : State} (timeout : Bool) (s : State) (h_s : Keeps s₀ s) : Ends (execPollEnd timeout s) (Keeps s₀) := by
  unfold execPollEnd
  apply onFront_keeps
  · exact h_s
  · intro y1 y2
    split
    · rename_i x3 x4 x5 x6 x7
      refine ite_of (KeepsO s₀) ?_ ?_
      · refine KeepsO.ofSome ?_
        exact h_s
      · extract_lets +onlyGivenNames v8
        have h9 : Keeps s₀ v8.snd := by
          subst v8
          apply busRead_keeps
          exact h_s
        clear_value v8
        extract_lets +onlyGivenNames v10
        clear_value v10
        refine ite_of (KeepsO s₀) ?_ ?_
        · refine KeepsO.ofSome ?_
          apply finishOp_keeps
          exact h9
        · refine ite_of (KeepsO s₀) ?_ ?_
          · refine KeepsO.ofSome ?_
            apply finishOp_keeps
            exact h9
          · refine KeepsO.ofSome ?_
            exact h9
    · rename_i x11 x12
      exact KeepsO.ofNone _

theorem execCommit_keeps {s₀ : State} (s : State) (h_s : Keeps s₀ s) : Ends (execCommit s) (Keeps s₀) := by
  unfold execCommit
  apply onFront_keeps
  · exact h_s
  · intro y1 y2
    split
    · rename_i x3 x4 x5
      refine ite_of (KeepsO s₀) ?_ ?_
      · refine KeepsO.ofSome ?_
        exact h_s
      · refine ite_of (KeepsO s₀) ?_ ?_
        · refine KeepsO.ofSome ?_
          apply finishOp_keeps
          exact h_s
        · refine KeepsO.ofSome ?_
          apply setFront_keeps
          apply drsWrite_keeps
          exact h_s
    · rename_i x6 x7
      exact KeepsO.ofNone _

theorem execCommitWaitEnd_keeps {s₀ : State} (timeout : Bool) (s : State) (h_s : Keeps s₀ s) : Ends (execCommitWaitEnd timeout s) (Keeps s₀) := by
  unfold execCommitWaitEnd
  apply onFront_keeps
  · exact h_s
  · intro y1 y2
    split
    · rename_i x3 x4 x5
      extract_lets +onlyGivenNames v6
      clear_value v6
      refine ite_of (KeepsO s₀) ?_ ?_
      · refine KeepsO.ofSome ?_
        exact h_s
      · refine ite_of (KeepsO s₀) ?_ ?_
        · refine KeepsO.ofSome ?_
          apply finishOp_keeps
          exact h_s
        · refine ite_of (KeepsO s₀) ?_ ?_
          · refine KeepsO.ofSome ?_
            apply finishOp_keeps
            exact h_s
          · refine KeepsO.ofSome ?_
            exact h_s
    · rename_i x7 x8
      exact KeepsO.ofNone _

theorem loadEntries_keeps {s₀ : State} (s : State) (per : Nat) (at_ : Nat → Nat) (ws : List (BitVec 32)) (h_s : Keeps s₀ s) : Keeps s₀ (loadEntries s per at_ ws) := by
  unfold loadEntries
  refine Keeps.foldl ?_ ?_
  · exact h_s
  · intro y1 y2 y3
    apply guarded_keeps
    · exact y3
    · intro y4 y5
      refine ite_of (Keeps s₀) ?_ ?_
      · extract_lets +onlyGivenNames v6
        clear_value v6
        apply State.wr_keeps
        exact y5
      · refine Keeps.foldl ?_ ?_
        · exact y5
        · intro y7 y8 y9
          apply putEntryWord_keeps
          exact y9

theorem execAtlasLoad_keeps {s₀ : State} (s : State) (h_s : Keeps s₀ s) : Ends (execAtlasLoad s) (Keeps s₀) := by
  unfold execAtlasLoad
  apply onFront_keeps
  · exact h_s
  · intro y1 y2
    split
    · rename_i x3 x4 x5 x6 x7 x8
      refine KeepsO.ofSome ?_
      split
      · rename_i x9 x10
        apply finishOp_keeps
        exact h_s
      · rename_i x11 x12 x13 x14 x15
        refine ite_of (Keeps s₀) ?_ ?_
        · apply finishOp_keeps
          exact h_s
        · refine ite_of (Keeps s₀) ?_ ?_
          · apply finishOp_keeps
            exact h_s
          · apply finishOp_keeps
            apply loadEntries_keeps
            exact h_s
    · rename_i x16 x17
      exact KeepsO.ofNone _

theorem execAtlasRead_keeps {s₀ : State} (s : State) (h_s : Keeps s₀ s) : Ends (execAtlasRead s) (Keeps s₀) := by
  unfold execAtlasRead
  apply onFront_keeps
  · exact h_s
  · intro y1 y2
    split
    · rename_i x3 x4 x5 x6 x7
      refine KeepsO.ofSome ?_
      split
      · rename_i x8 x9
        apply finishOp_keeps
        exact h_s
      · rename_i x10 x11 x12 x13 x14
        refine ite_of (Keeps s₀) ?_ ?_
        · apply finishOp_keeps
          exact h_s
        · refine ite_of (Keeps s₀) ?_ ?_
          · apply finishOp_keeps
            exact h_s
          · apply finishOp_keeps
            exact h_s
    · rename_i x15 x16
      exact KeepsO.ofNone _

theorem execStream_keeps {s₀ : State} (s : State) (h_s : Keeps s₀ s) : Ends (execStream s) (Keeps s₀) := by
  unfold execStream
  apply onFront_keeps
  · exact h_s
  · intro y1 y2
    split
    · rename_i x3 x4 x5 x6 x7
      extract_lets +onlyGivenNames v8
      clear_value v8
      extract_lets +onlyGivenNames v9
      clear_value v9
      refine ite_of (KeepsO s₀) ?_ ?_
      · refine KeepsO.ofSome ?_
        apply finishOp_keeps
        exact h_s
      · refine ite_of (KeepsO s₀) ?_ ?_
        · refine ite_of (KeepsO s₀) ?_ ?_
          · refine KeepsO.ofSome ?_
            apply finishOp_keeps
            exact h_s
          · refine KeepsO.ofSome ?_
            apply finishOp_keeps
            apply State.setMg_keeps
            exact h_s
        · refine ite_of (KeepsO s₀) ?_ ?_
          · refine KeepsO.ofSome ?_
            apply finishOp_keeps
            apply State.setMg_keeps
            exact h_s
          · refine KeepsO.ofSome ?_
            apply finishOp_keeps
            exact h_s
    · rename_i x10 x11
      exact KeepsO.ofNone _

theorem execFmapi_keeps {s₀ : State} (s : State) (h_s : Keeps s₀ s) : Ends (execFmapi s) (Keeps s₀) := by
  unfold execFmapi
  apply onFront_keeps
  · exact h_s
  · intro y1 y2
    split
    · rename_i x3 x4
      extract_lets +onlyGivenNames v5
      have h6 : Keeps s₀ v5.snd := by
        subst v5
        apply runFm_keeps
        exact h_s
      clear_value v5
      extract_lets +onlyGivenNames v7
      clear_value v7
      refine ite_of (KeepsO s₀) ?_ ?_
      · refine KeepsO.ofSome ?_
        apply finishOp_keeps
        exact h6
      · refine KeepsO.ofSome ?_
        apply finishOp_keeps
        exact h_s
    · rename_i x8 x9
      exact KeepsO.ofNone _

theorem storeFault_keeps {s₀ : State} (s : State) (h_s : Keeps s₀ s) : Keeps s₀ (storeFault s) := by
  unfold storeFault
  apply finishOp_keeps
  apply flaskEvent_keeps
  exact h_s

theorem setStore_keeps {s₀ : State} (s : State) (x : Option StoreOpen) (h_s : Keeps s₀ s) : Keeps s₀ (setStore s x) := by
  unfold setStore
  extract_lets +onlyGivenNames v1
  clear_value v1
  extract_lets +onlyGivenNames v2
  have h3 : Keeps s₀ v2 := by
    subst v2
    refine Keeps.upd ?_ rfl
    exact h_s
  clear_value v2
  split
  · rename_i x4
    apply State.wr_keeps
    apply State.wr_keeps
    exact h3
  · rename_i x5 x6
    apply State.wr_keeps
    apply State.wr_keeps
    exact h3

theorem execStoreOpen_keeps {s₀ : State} (fault : Bool) (s : State) (h_s : Keeps s₀ s) : Ends (execStoreOpen fault s) (Keeps s₀) := by
  unfold execStoreOpen
  apply onFront_keeps
  · exact h_s
  · intro y1 y2
    split
    · rename_i x3 x4 x5
      refine ite_of (KeepsO s₀) ?_ ?_
      · refine KeepsO.ofSome ?_
        apply finishOp_keeps
        exact h_s
      · refine ite_of (KeepsO s₀) ?_ ?_
        · refine KeepsO.ofSome ?_
          apply finishOp_keeps
          exact h_s
        · refine ite_of (KeepsO s₀) ?_ ?_
          · refine KeepsO.ofSome ?_
            apply storeFault_keeps
            exact h_s
          · extract_lets +onlyGivenNames v6
            clear_value v6
            extract_lets +onlyGivenNames v7
            have h8 : Keeps s₀ v7 := by
              subst v7
              apply showBank_keeps
              apply setBank_keeps
              exact h_s
            clear_value v7
            extract_lets +onlyGivenNames v9
            have h10 : Keeps s₀ v9 := by
              subst v9
              apply setStore_keeps
              exact h8
            clear_value v9
            refine KeepsO.ofSome ?_
            apply finishOp_keeps
            apply flaskEvent_keeps
            exact h10
    · rename_i x11 x12
      exact KeepsO.ofNone _

theorem execStoreData_keeps {s₀ : State} (fault : Bool) (s : State) (h_s : Keeps s₀ s) : Ends (execStoreData fault s) (Keeps s₀) := by
  unfold execStoreData
  apply onFront_keeps
  · exact h_s
  · intro y1 y2
    split
    · rename_i x3 x4 x5
      split
      · rename_i x6 x7
        refine KeepsO.ofSome ?_
        apply finishOp_keeps
        exact h_s
      · rename_i x8 x9 x10
        refine ite_of (KeepsO s₀) ?_ ?_
        · refine KeepsO.ofSome ?_
          apply finishOp_keeps
          exact h_s
        · refine ite_of (KeepsO s₀) ?_ ?_
          · refine KeepsO.ofSome ?_
            apply finishOp_keeps
            exact h_s
          · refine ite_of (KeepsO s₀) ?_ ?_
            · refine KeepsO.ofSome ?_
              apply storeFault_keeps
              exact h_s
            · extract_lets +onlyGivenNames v11
              clear_value v11
              extract_lets +onlyGivenNames v12
              have h13 : Keeps s₀ v12 := by
                subst v12
                apply setBank_keeps
                exact h_s
              clear_value v12
              refine KeepsO.ofSome ?_
              apply finishOp_keeps
              apply setStore_keeps
              exact h13
    · rename_i x14 x15
      exact KeepsO.ofNone _

theorem closeBank_keeps {s₀ : State} (s : State) (cfg : Bool) (bankB : Bool) (n : Nat) (svn : Nat) (h_s : Keeps s₀ s) : Keeps s₀ (closeBank s cfg bankB n svn) := by
  unfold closeBank
  extract_lets +onlyGivenNames v1
  clear_value v1
  extract_lets +onlyGivenNames v2
  clear_value v2
  extract_lets +onlyGivenNames v3
  have h4 : Keeps s₀ v3 := by
    subst v3
    apply setBank_keeps
    exact h_s
  clear_value v3
  apply showBank_keeps
  exact h4

theorem execStoreClose_keeps {s₀ : State} (sig : Bool) (fault : Bool) (s : State) (h_s : Keeps s₀ s) : Ends (execStoreClose sig fault s) (Keeps s₀) := by
  unfold execStoreClose
  apply onFront_keeps
  · exact h_s
  · intro y1 y2
    split
    · rename_i x3
      split
      · rename_i x4 x5
        refine KeepsO.ofSome ?_
        apply finishOp_keeps
        exact h_s
      · rename_i x6 x7 x8
        refine ite_of (KeepsO s₀) ?_ ?_
        · refine KeepsO.ofSome ?_
          apply finishOp_keeps
          exact h_s
        · refine ite_of (KeepsO s₀) ?_ ?_
          · refine KeepsO.ofSome ?_
            apply storeFault_keeps
            exact h_s
          · extract_lets +onlyGivenNames v9
            clear_value v9
            extract_lets +onlyGivenNames v10
            clear_value v10
            extract_lets +onlyGivenNames v11
            have h12 : Keeps s₀ v11 := by
              subst v11
              apply flaskEvent_keeps
              apply setStore_keeps
              exact h_s
            clear_value v11
            refine ite_of (KeepsO s₀) ?_ ?_
            · refine KeepsO.ofSome ?_
              apply finishOp_keeps
              apply closeBank_keeps
              exact h12
            · refine KeepsO.ofSome ?_
              apply finishOp_keeps
              exact h12
    · rename_i x13 x14
      exact KeepsO.ofNone _

theorem execStoreAbort_keeps {s₀ : State} (s : State) (h_s : Keeps s₀ s) : Ends (execStoreAbort s) (Keeps s₀) := by
  unfold execStoreAbort
  apply onFront_keeps
  · exact h_s
  · intro y1 y2
    split
    · rename_i x3
      split
      · rename_i x4 x5
        refine KeepsO.ofSome ?_
        apply finishOp_keeps
        exact h_s
      · rename_i x6 x7 x8
        refine ite_of (KeepsO s₀) ?_ ?_
        · refine KeepsO.ofSome ?_
          apply finishOp_keeps
          exact h_s
        · refine KeepsO.ofSome ?_
          apply finishOp_keeps
          apply abandonStore_keeps
          exact h_s
    · rename_i x9 x10
      exact KeepsO.ofNone _

theorem execCfgSave_keeps {s₀ : State} (fault : Bool) (s : State) (h_s : Keeps s₀ s) : Ends (execCfgSave fault s) (Keeps s₀) := by
  unfold execCfgSave
  apply onFront_keeps
  · exact h_s
  · intro y1 y2
    split
    · rename_i x3
      refine ite_of (KeepsO s₀) ?_ ?_
      · refine KeepsO.ofSome ?_
        apply finishOp_keeps
        exact h_s
      · refine ite_of (KeepsO s₀) ?_ ?_
        · refine KeepsO.ofSome ?_
          apply storeFault_keeps
          exact h_s
        · extract_lets +onlyGivenNames v4
          clear_value v4
          extract_lets +onlyGivenNames v5
          clear_value v5
          extract_lets +onlyGivenNames v6
          clear_value v6
          extract_lets +onlyGivenNames v7
          have h8 : Keeps s₀ v7 := by
            subst v7
            apply showBank_keeps
            apply setBank_keeps
            exact h_s
          clear_value v7
          refine KeepsO.ofSome ?_
          apply finishOp_keeps
          apply closeBank_keeps
          exact h8
    · rename_i x9 x10
      exact KeepsO.ofNone _

end Sys2Proof.Machine
end

