-- ==== Sys2Proof/WellFormed.lean ====
section
/-!
DEFINITION. What the manual requires of a command's operands beyond their types: the fixed lengths of lists, and bytes that stay
within their line. Machine/Step.lean runs ill-formed commands too; no rule speaks of them.
-/
namespace Sys2Proof

/-- An answer that, where there is one, has `n` bytes. -/
def ofLength (n : Nat) (d : Option (List Byte)) : Bool :=
  match d with
  | some b => b.length == n
  | none => true

/-- A link block has sixteen slots, at most sixteen of them data (R113). -/
def wfBlock (b : LinkBlock) : Bool := b.slots.length == 16 && b.ndata.toNat ≤ 16

/-- A training message lists sixteen virtual channels (R119). -/
def wfTrain (m : TrainMsg) : Bool := m.vcMin.length == 16

/-- Bytes from `off` on lie within one 64-byte line. -/
def inLine (off : Nat) (b : List Byte) : Bool := 0 < b.length && off + b.length ≤ 64

/-- A host's write carries a line, or bytes within one (R472). -/
def wfHostMem : HostMem → Bool
  | .readS | .readA | .readNoOp | .evict => true
  | .writeBack d _ => d.length == 64
  | .writePart off b _ => inLine off.val b

/-- A device's read asks for at least one byte. -/
def wfDevReq : DevReq → Bool
  | .read _ n => n != 0
  | .write b _ => 0 < b.length

/-- A request message holds REQ_ID, OP_COUNT and the header of at least one operation (R554). -/
def wfRequest (q : DrsReq) : Bool := 16 ≤ q.msg.length

/-- The command's operands have the form that the manual gives them. -/
def Instr.wellFormed : Instr → Bool
  | .paceIntervalEnd counts => counts.length == 8
  | .thermalSensorRead t => t.length == 32
  | .linkBlockReceive _ b _ _ _ => wfBlock b.block
  | .trainReqReceive _ m => wfTrain m
  | .trainAckReceive _ m => wfTrain m
  | .trainDoneReceive _ m => wfTrain m
  | .blockLockGain _ g => (match g.req with | some m => wfTrain m | none => true)
  | .ctxFetchDone _ w => (match w with | some l => l.length == 64 | none => true)
  | .watchedLineReadDone _ _ d => ofLength 64 d
  | .wqEntryArrive _ d => ofLength 64 d
  | .recvEntryTake _ d => ofLength 64 d
  | .tunnelReceive _ d => ofLength 16 d
  | .hostMemRequest _ _ q => wfHostMem q
  | .agentStore _ _ off b => inLine off.val b
  | .farWindowWrite _ _ b => 0 < b.length
  | .ownedDeviceRequest _ _ q => wfDevReq q
  | .downstreamDeviceRequest _ _ q => wfDevReq q
  | .drisiulRequest q => wfRequest q
  | _ => true

end Sys2Proof
end

