-- ==== Sys2Proof/Tests/Slice0.lean ====
section
/-!
SUPPORT. The model's own tests: terms that well-formedness refuses, the manual's worked examples, and for each obligation with
hypotheses a witness that meets them, clause by clause, at boundary values.
-/
open Sys2Proof Sys2Proof.Machine
namespace Sys2Proof.Tests

/-- The state after reset with the boot over: power good, clocks running, firmware running, configuration applied. -/
def up : State :=
  { State.reset with
    regs := [(Reg.Mp.MP_STATE.key mpBase, 1)]
    pace := { State.reset.pace with running := true }
    boot := { State.reset.boot with
      kind := none, pwrGood := true, pwrEn := [true, true, true, true], railPg := [true, true, true, true], stopped := [], locked := true
      fwBooted := true, cfgApplied := true, started := true } }

/-- `up` with a register field set. -/
def reg (b : Nat) (f : Field) (v : Nat) : State := up.wr b f v

/-- `up` with register fields set. -/
def regs (l : List (Nat × Field × Nat)) : State := l.foldl (fun s x => s.wr x.1 x.2.1 x.2.2) up

/-- A fabric port in link state `st` with this link-layer state. -/
def prt (n st : Nat) (p : PortSt) : State := (reg (portBase n) Reg.Port.PORT_STATE_STATE st).setPort n p

/-- A packet to `dst` as its source sends it. -/
def pk (dst cls op thlen channel psn : Nat) (words : List Nat) (payload : List Byte) : Packet :=
  Packet.originate
    { rh := mkRoute dst cls 0 0 0 (lenOf thlen payload.length) 0 false false 0
      th := mkTrans op thlen channel 0 psn true true false 0 words, payload := payload, tr := { crc := 0, stomp := 0, reason := 0, dev := 0 } }

/-- A channel with this context and nothing in progress. -/
def ch0 (c : Ctx) : ChanSt := ChanSt.ofCtx c

/-- `up` with one channel on die. -/
def chn (s : State) (ch : Nat) (x : ChanSt) : State := { s with tp := { s.tp with chans := put s.tp.chans ch x } }

/-- A packet waiting in the switch core. -/
def swp (q : Packet) (phase : InPhase) (out outVc : Nat) : SwPkt :=
  { rh := q.rh, inRh := q.rh, flits := q.allFlits, whole := true, checked := false, left := 0, phase := phase, out := out, outVc := outVc
    viaFabric := false, salvaged := false, since := 0 }

/-- `s` with the packet of one input virtual channel. -/
def cur (s : State) (k : Nat) (c : SwPkt) : State := { s with switch := { s.switch with cur := put s.switch.cur k c } }

/-- `s` with one packet delivered to the unit behind a core port. -/
def inb (s : State) (p : Nat) (q : Packet) : State := { s with switch := { s.switch with inbox := [(p, [q])] } }

/-- The next state of an outcome. -/
def after (o : Host.Outcome State Fault Refusal) : State := match o with | .next t => t | _ => State.reset

/-- A data block of one flit, the tail of a packet on VC 0. -/
def blk : LinkBlock :=
  { slots := [5], seq := 4095, ack := 0, ctl := false, ndata := 1, tail := 1, split := 1, vcA := 0, vcB := 0, audVc := 0, cr0Vc := 0
    cr0Cnt := 0, cr1Vc := 0, cr1Cnt := 0, audCa := 0 }

/-- A packet of one flit that an egress has begun. -/
def tx0 : TxPkt :=
  { rh := mkRoute 66 0 0 0 0 48 0 false false 0, flits := [5], whole := true, vc := 0, sent := 0, seqs := []
    kept := mkRoute 66 0 0 0 0 48 0 false false 0, viaFabric := false }

/-- A training request of reason 1. -/
def train : TrainMsg :=
  { reason := 1, reqId := 5, ownId := 6, rxGood := 1, width := 1, rate := false, rxExpect := 9, vcMin := List.replicate 16 8 }

/-- `s` with an empty inbox behind a core port. -/
def inb0 (s : State) (p : Nat) : State := { s with switch := { s.switch with inbox := [(p, [])] } }

/-- A channel with one packet that is not acknowledged. -/
def sending : ChanSt :=
  { ch0 { Ctx.zero with state := csOpen, retryMax := 5, sndNxt := 1 } with
    sent := [{ psn := 0, job := 0, op := 1, first := true, last := true, ackreq := true, fence := false, fenceCnt := 0, words := []
               off := 0, n := 0, marked := false, fast := false }] }

/-- Function 0 valid, with eight work queues and eight completion queues, its event queue on; attachment 0 is a host whose
link is up, and addresses translate to themselves. -/
def fnRegs : List (Nat × Field × Nat) :=
  [(fnTab, Reg.FnTab.FN_VALID, 1), (fnTab, Reg.FnTab.FN_WQ_COUNT, 8), (fnTab, Reg.FnTab.FN_CQ_COUNT, 8),
    (bar2 0, Reg.Bar2.EQ_CFG_EN, 1), (bar2 0, Reg.Bar2.EQ_CFG_LOG_SIZE, 4),
    (attBase 0, Reg.Att.ATT_CFG_ROLE, 1), (attBase 0, Reg.Att.ATT_STATE_LINK, 2), (xlBase, Reg.FnXl.VALID, 1)]

/-- `up` with these registers. -/
def fn0 : State := regs fnRegs

/-- An address of host 0's memory, which is its own translation while both stages are off. -/
def hostA : Nat := 0x8000000000000

/-- A work queue of function 0 with sixteen entries. -/
def wq0 : WqSt :=
  { fn := 0, idx := 7, logSize := 4, watched := false, cluster := 0, weight := 1, burst := 1, cq := 7, prefetch := 4, ring := hostA
    wb := hostA, watchAddr := 0, watchWord := 0, next := none, fetched := [], waiting := false, wbCi := 0, wbAt := none }

/-- A completion queue of function 0 with sixteen entries. -/
def cq0 : CqSt :=
  { fn := 0, idx := 7, logSize := 4, intEn := true, vec := 3, ring := hostA, wb := 0, reserved := 0, armed := false, wbPi := 0
    wbAt := none, wait := [] }

/-- `s` with work queue 7 and completion queue 7 created. -/
def qs (s : State) (q : WqSt) (c : CqSt) : State := { s with wq := { s.wq with wqs := [(7, q)], cqs := [(7, c)] } }

/-- `s` with MSI-X of function 0 on, vector 3 masked or not. -/
def msix0 (mask : Bool) (s : State) : State :=
  (s.setFn 0 { FnSt.init with msixOn := true }).wri (bar2 0) Reg.Msix.MASK 3 (b2n mask)

/-- A watched line of function 0. -/
def line0 : WatchSt := { fn := 0, addr := hostA, cluster := 0, line := none, reading := false, again := false }

/-- `fn0` with one watched line. -/
def lines (w : WatchSt) : State := { fn0 with wq := { fn0.wq with lines := [w] } }

/-- 64 bytes, zero but for some. -/
def entry (l : List (Nat × Byte)) : List Byte := (List.range 64).map (fun i => lookD l i 0)

/-- The first chunk of a translation. -/
def chunk (r : XRes) : Chunk :=
  match r with
  | .ok (c :: _) => c
  | _ => { da := 0, len := 0, dev := false, tag := { fn := 0, va := 0, vaLog := 0, ipa := 0, part := 0, key := none } }

/-- Function 0 with eight matching domains, domain 7 on with completion queue 7 and its rings in host memory. -/
def mt0 : State :=
  (qs (regs (fnRegs ++ [(mtBase, Reg.Mt.FN_DOM_DOM_COUNT, 8)])) wq0 cq0).wri (bar2 0) Reg.Dom.DOM_CFG_CQ 7 7

/-- `s` with domain 7 on and entries in its receive ring. -/
def domUp (s : State) : State :=
  (((((s.wri (bar2 0) Reg.Dom.DOM_CFG_EN 7 1).wri (bar2 0) Reg.Dom.RQ_BASE_HI 7 0x80000).wri (bar2 0) Reg.Dom.UX_BASE_HI 7 0x80000).wri
    (bar2 0) Reg.Dom.UX_SLOTS 7 4).wri (bar2 0) Reg.Dom.RQ_PI 7 3)

/-- A posted receive of index 5. -/
def post0 : PostEnt :=
  { seq := 0, index := 5, srcAny := true, source := 0, comm := 0, tag := 0, ignore := 0, addr := hostA, va := hostA, len := 8, lkey := 0
    onDie := true }

/-- A bound receive of index 5 whose eight bytes have arrived. -/
def bound0 : BoundEnt :=
  { index := 5, addr := hostA, va := hostA, len := 8, lkey := 0, ch := 7, gen := 0, psn := 0, src := 0, tag := 0, msgLen := 8, rts := false
    slot := none, arrived := true, fault := false }

/-- `s` with matching domain 7. -/
def dom7 (s : State) (x : DomSt) : State := { s with doms := [(7, x)] }

/-- A rendezvous read whose packets have all returned. -/
def rndv0 : Job :=
  { id := 1, src := .rndv 7 5, fn := 0, op := opReadReq, raddr := 0, rkey := 0, len := 8, data := .frags [], words := [], fence := false
    done_ := 8, left := 0, started := true, cut := true, firstPsn := 0, poison := false, writeFault := false, finStatus := none
    killed := false }

/-- Outing slot 255 with one child, a device, as collective 9 of GEN 1. -/
def cl0 (st root depth : Nat) : State :=
  regs [(clBase + 512 * 255, Reg.Out.STATE, st), (clBase + 512 * 255, Reg.Out.ROOT, root), (clBase + 512 * 255, Reg.Out.DEPTH, depth),
    (clBase + 512 * 255, Reg.Out.GEN, 1), (clBase + 512 * 255, Reg.Out.OID, 9), (clBase + 512 * 255, Reg.Out.CHILD_KIND, 1),
    (clBase + 512 * 255, Reg.Out.CHILD_ID, 5), (clBase + 512 * 255, Reg.Out.PARENT, 5), (clBase, Reg.Cl.OUT_CMD_SLOT, 255)]

/-- `s` with what the engine holds for slot 255. -/
def slot (s : State) (x : OutingSt) : State := { s with coll := { s.coll with slots := [(255, x)] } }

/-- A barrier's segment that its child has supplied. -/
def seg0 : SegSt :=
  { call := 0, seg := 0, last := true, inputs := [(0, { bytes := [], count := 0, flags := 0 })], out := none, sent := false, turned := false }

/-- A barrier's parameters. -/
def ref0 : CollRef :=
  { call := 0, rmode := 0, op := opBarrier, func := 0, dtype := 0, scale := 0, n := some 0, segs := some 1, least := 0, turns := 0 }

/-- A contribution whose only segment is being read. -/
def contrib0 : Contrib :=
  { id := 1, g := 7, index := 0, userId := 0, signal := false, fn := 0, slot := 0, call := 0, len := 0, src := { addr := 0, len := 0, lkey := 0 }
    dst := { addr := 0, len := 0, lkey := 0 }, next := 0, reading := some (1, [], 0), got := 0, flags := 0, vis := [], toWrite := [] }

/-- What a walk asks for. -/
def needOf (r : WalkRes) : Nat × WalkEnt :=
  match r with
  | .need ea w => (ea, w)
  | _ => (0, { stage := 0, owner := 0, level := 0, start := 0, entry := 0 })

/-- The translation a walk ends in. -/
def hitOf (r : WalkRes) : TlbEnt :=
  match r with
  | .hit e => e
  | _ => { fn := 0, part := 0, va := 0, log := 0, ipa := 0, da := 0, s1 := false, s2 := false, rd1 := false, wr1 := false, dev1 := false
           lvl1 := 0, ea1 := 0, rd2 := false, wr2 := false, dev2 := false, lvl2 := 0, ea2 := 0, fresh := false }

/-- Function 0 with keys on, keys 1 to 15 its own, and this key command's KEY. -/
def keysOn (key : Nat) : State :=
  regs (fnRegs ++ [(xlBase, Reg.Xl.KEY_CFG_EN, 1), (xlBase, Reg.Xl.KEY_ENTRIES, 16), (xlBase, Reg.FnXl.KEY_COUNT, 16),
    (bar2 0, Reg.KeyBar.KEY_CMD_KEY, key)])

/-- A good key image of length 1. -/
def keyImg (s : State) : State := (s.wri (bar2 0) Reg.KeyBar.KEY_IMAGE 2 0).wri (bar2 0) Reg.KeyBar.KEY_IMAGE 4 1

/-- A walk of function 0 at address 0 that has read nothing. -/
def walk0 : Walk :=
  { fn := 0, va := 0, acc := accLocal false, ctx := xlCtx up 0, spec := false, since := 0, got := [], failed := none }

/-- Attachment 63 in this role, its link up. -/
def att63 (role : Nat) (l : List (Nat × Field × Nat)) : State :=
  regs ([(attBase 63, Reg.Att.ATT_CFG_ROLE, role), (attBase 63, Reg.Att.ATT_STATE_LINK, 2)] ++ l)

/-- Attachment 63 as a host whose window 15 of 64 KiB reads and writes through channel 7. -/
def far63 : State :=
  (att63 1 [(attBase 63 + 32 * 15, Reg.FarWin.VALID, 1), (attBase 63 + 32 * 15, Reg.FarWin.RD_EN, 1),
    (attBase 63 + 32 * 15, Reg.FarWin.WR_EN, 1), (attBase 63 + 32 * 15, Reg.FarWin.LOG_SIZE, 16),
    (attBase 63 + 32 * 15, Reg.FarWin.CHANNEL, 7), (atBase, Reg.Atlas.ATLAS_CTL_VALID0, 1)]).setAtt 63 { AttSt.init with barLog := 30 }

/-- A host read through window 15 whose bytes have come. -/
def farRd0 : FarRead := { id := 1, req := 9, w := 15, off := 0, len := 4, ch := 7, got := [(0, [1, 2, 3, 4])], bad := false, since := 0 }

/-- A tunnel frame to attachment 63. -/
def tun63 (dst : Nat) : Packet :=
  let p := pk dst 2 0x0A 1 0 0 [14] (List.replicate 14 0)
  { p with rh := { p.rh with hoplvl := 0 } }

/-- Attachment 63 whose tunnel frames go to function 0, its receive queue on with one entry, and a completion queue. -/
def tunUp (c : CqSt) : State :=
  qs (regs (fnRegs ++ [(attBase 63, Reg.Att.ATT_CFG_ROLE, 1), (attBase 63, Reg.Att.TUN_EN, 1), (bar2 0, Reg.Trq.TRQ_CFG_EN, 1),
    (bar2 0, Reg.Trq.TRQ_CFG_CQ, 7), (bar2 0, Reg.Trq.TRQ_PI, 1)])) wq0 c

/-- `s` with the fatal stop. -/
def fatal (s : State) : State := s.wr 0 Reg.Err.ERR_STATUS_FATAL 1

/-- An owned downstream device on attachment 63. -/
def own63 : State := att63 2 [(attBase 63, Reg.Att.ATT_CFG_OWNED, 1)]

/-- A bound downstream device on attachment 63, at vPPB 17 of switch 0. -/
def bnd63 : State :=
  att63 2 [(attBase 63, Reg.Att.BIND_VALID, 1), (attBase 63, Reg.Att.BIND_VCS, 0), (attBase 63, Reg.Att.BIND_VPPB, 17)]

/-- `s` with one extent. -/
def ext (s : State) (e : Nat) (x : ExtSt) : State := { s with pool := { s.pool with exts := put s.pool.exts e x } }

/-- `up` with the extent commands about extent 1151. -/
def extUp (x : ExtSt) (l : List (Nat × Field × Nat)) : State :=
  { ext (regs ([(poolBase, Reg.Pool.EXT_CMD_EXTENT, 1151)] ++ l)) 1151 x with
    pool := { up.pool with ready := true, exts := [(1151, x)] } }

/-- A home request of agent 0 for line 0. -/
def req0 (k : HomeKind) : HomeReq :=
  { kind := k, asker := .agent 0, line := 0, off := 0, bytes := [], bad := false, group := 0, seg := 0, tag := none, since := 0, held := false }

/-- The slice of line 0, in service, with these requests delivered. -/
def home (l : List HomeReq) : State :=
  (reg (sliceBase (lineSlice 0)) Reg.Slc.SLICE_MODE 0).setSlice (lineSlice 0) { SliceSt.init with ing := l, credit := [1, 1, 1] }

/-- A line of line address 0 in agent 64. -/
def line64 (st : LineState) : State :=
  { up with mesh := { up.mesh with cache := [(64, [(0, { CLine.none_ with st := st, data := List.replicate 64 7 })])] } }

/-- A busy line whose request agent 71's acknowledgement ends. -/
def busy0 : BusyEnt :=
  { req := some { req0 .rdOwn with asker := .agent 71 }, waits := [], got := none, wbFrom := [], wbGot := [], dir := false, acking := true
    queue := [], since := 0 }

/-- Gazetteer and Trail on, their rings in host memory. -/
def gzUp (l : List (Nat × Field × Nat)) : State :=
  regs (fnRegs ++ [(gzBase, Reg.Gz.GZ_CFG_EN, 1), (gzBase, Reg.Gz.GZ_BASE_HI, 0x80000), (gzBase, Reg.Gz.TR_BASE_HI, 0x80000)] ++ l)

/-- A dump of no unit type. -/
def dump0 : DumpSt := { tick := 5, seq := 1, period := 1, pace := 1000, low := false, mask := 0 }

/-- An ended Trail item. -/
def item0 : TrailItem :=
  { engine := 0, key := .send 7 0, opcode := 1, status := 0, ended := true, ch := 7, gen := 0, psn := 0, src := 0, fn := 0, va := 0, da := 0
    t := [] }

/-- Both management ports up, the bypass open. -/
def ring0 (l : List (Nat × Field × Nat)) : State :=
  regs ([(meBase 0, Reg.Me.ME_STATE_LINK, 2), (meBase 1, Reg.Me.ME_STATE_LINK, 2), (meBase 0, Reg.Me.ME_STATE_BYPASS_CLOSED, 0),
    (meBase 1, Reg.Me.ME_STATE_BYPASS_CLOSED, 0), (mpBase, Reg.Mp.MP_STATE, 1)] ++ l)

/-- This device's ring address. -/
def own0 : List (Nat × Field × Nat) := [(mpBase, Reg.Mp.DRS_MAC_HI, 2), (mpBase, Reg.Mp.DRS_MAC_LO, 7)]

/-- A frame of another device to a third one. -/
def frame0 : MgmtFrame :=
  { fcsGood := true, src := 5, dst := 6, etype := BitVec.ofNat 16 (ring0 [] |>.rd mpBase Reg.Mp.DRS_ETYPE)
    body := DrsHdr.toBytes { ver := 1, kind := 3, ttl := 1, bodyLen := 0, session := 0, seq := 0 } ++ List.replicate 30 0 }

/-- An established full session of number 9. -/
def sess0 : SessSt :=
  { id := 9, mac := 5, port := 1, phase := .established, full := true, digests := true, tx := 0, high := none, seen := [], last := none, heard := 0 }

/-- `ring0` with sessions, requests and a stream's records. -/
def mg0 (k : List SessSt) (q : List ReqRun) : State :=
  { ring0 [] with mg := { (ring0 []).mg with sess := k, reqs := q, spdm := [(5, 3)] } }


/-- A firmware bank whose image is a prologue alone. -/
def bank0 : FlaskBank :=
  let b : FlaskBank :=
    { magic := magicFw, hdrVer := 1, svn := 3, seq := 7, length := 64, check := 0
      image := leBytes magicImg 4 ++ [3, 0, 0, 0] ++ leBytes 64 4 ++ leBytes magicFw.toNat 4 ++ List.replicate 48 0 }
  { b with check := BitVec.ofNat 32 (bankCheck b) }

/-- `up` with its stacks and home slices in service and no port that starts by itself. -/
def settled : State :=
  regs ((List.range 6).map (fun i => (stackBase i, Reg.Stk.STACK_STATE, 1)) ++
    (List.range 48).map (fun i => (sliceBase i, Reg.Slc.SLICE_MODE, 0)) ++
    (List.range 96).map (fun n => (portBase n, Reg.Port.PORT_CFG_AUTO, 0)))


/-- A request of session 9 with these operations left and this message space used, its front operation waiting since then. -/
def rq (l : List DrsOp) (since : Option Nat) (used : Nat) : ReqRun :=
  { session := 9, mac := 5, port := 1, reqId := 7, count := 1, heads := [(0, 0)], left := l
    done_ := [{ op := 1, status := 0, data := List.replicate used 0 }], since := since }

/-- Session 9 established with this request at the front, and this store open. -/
def front (q : ReqRun) (x : Option StoreOpen) : State := { mg0 [sess0] [q] with flask := { up.flask with store := x } }

/-- An open store of this session. -/
def store0 (cfg : Bool) (session : Nat) : StoreOpen := { cfgArea := cfg, bankB := false, session := session, total := 64, written := 0 }

/-- A request message of this REQ_ID with one CFG_SAVE. -/
def msg0 (id : Nat) : List Byte := beBytes id 4 ++ beBytes 1 4 ++ beBytes 0x43000000 4 ++ beBytes 0 4

/-- A request of session 9 with this message. -/
def drs0 (m : List Byte) : DrsReq := { port := 1, mac := 5, session := 9, seq := 3, tagGood := true, msg := m }

/-- `up` with another boot state. -/
def boot (b : BootSt → BootSt) : State := { up with boot := b up.boot }

/-- A cold boot before the firmware is chosen. -/
def cold : State := { State.reset with boot := { State.reset.boot with locked := true, pwrGood := true, stopped := [57] } }

/-- Every stack in service but the last, the boot otherwise over, BOOT_CFG.BCT_EN as given. -/
def lastStack (bct : Nat) : State :=
  { (settled.wr (stackBase 5) Reg.Stk.STACK_STATE 0).wr flaskBase Reg.Flk.BOOT_CFG_BCT_EN bct with boot := { up.boot with started := false } }

set_option maxRecDepth 100000
set_option exponentiation.threshold 600

/-! ### Terms that well-formedness refuses, one for each of its checks -/

theorem test_wf_pace_counts : (Instr.paceIntervalEnd [1]).wellFormed = false := by decide
theorem test_wf_sensor_values : (Instr.thermalSensorRead [1]).wellFormed = false := by decide
theorem test_wf_block : (Instr.linkBlockReceive 0 { block := blk, lane := none } 0 none []).wellFormed = false := by decide
theorem test_wf_train_req : (Instr.trainReqReceive 0 { train with vcMin := [] }).wellFormed = false := by decide
theorem test_wf_train_ack : (Instr.trainAckReceive 0 { train with vcMin := [] }).wellFormed = false := by decide
theorem test_wf_train_done : (Instr.trainDoneReceive 0 { train with vcMin := [] }).wellFormed = false := by decide
theorem test_wf_block_lock : (Instr.blockLockGain 0 { lanes := 1, req := some { train with vcMin := [] } }).wellFormed = false := by decide
theorem test_wf_ctx_fetch : (Instr.ctxFetchDone 0 (some [])).wellFormed = false := by decide
theorem test_wf_watched_line : (Instr.watchedLineReadDone 0 0 (some [0])).wellFormed = false := by decide
theorem test_wf_wq_entry : (Instr.wqEntryArrive 0 (some [0])).wellFormed = false := by decide
theorem test_wf_recv_entry : (Instr.recvEntryTake 0 (some [0])).wellFormed = false := by decide
theorem test_wf_tunnel : (Instr.tunnelReceive 0 (some [0])).wellFormed = false := by decide
theorem test_wf_host_write : (Instr.hostMemRequest 0 0 (.writeBack [0] false)).wellFormed = false := by decide
theorem test_wf_agent_store : (Instr.agentStore 64 0 63 [1, 2]).wellFormed = false := by decide
theorem test_wf_far_write : (Instr.farWindowWrite 0 0 []).wellFormed = false := by decide
theorem test_wf_owned_device : (Instr.ownedDeviceRequest 0 0 (.read 0 0)).wellFormed = false := by decide
theorem test_wf_drisiul_request : (Instr.drisiulRequest (drs0 [])).wellFormed = false := by decide
theorem test_wf_downstream_device : (Instr.downstreamDeviceRequest 0 (.pool 0) (.write [] false)).wellFormed = false := by decide

/-! ### The manual's worked examples -/

/-- spec/02_setup_space.md, worked example: attachment 5 is on host macro 1, its window 0x0616_8000, its island 25, its group 4. -/
theorem test_attachment_5 :
    base (.attachment 5) = 0x06168000 ∧ parent (.attachment 5) = some (.hostMacro 1) ∧ legIsland (.attachment 5) = 25 ∧
      defaultGroup (.attachment 5) = 4 ∧ base (.hostMacro 1) = 0x06140000 ∧ base (.hostGroup 0) = 0x06000000 := by decide

/-- The WRITE of spec/03_cicen_packets.md's worked example. -/
def exampleWrite : Packet :=
  { rh := mkRoute 0x004140 clsReq 0x0C2A05 1 0 (lenOf 2 256) 0x5D3E false false green
    th := mkTrans opWrite 2 0x03A17 3 0x1F40 true true true 0 [0x0004B7A2, 0x00007F00, 0x00100000]
    payload := List.replicate 256 0, tr := { crc := 0, stomp := 0, reason := 0, dev := 0 } }

/-- Its route header's words, but for HDR_CHK. -/
theorem test_write_route_words :
    exampleWrite.rh.wordsWith 0 = [0x00414000, 0x0C2A0504, 0x00004C00, 0x5D3E0000] := by decide

/-- Its transport header's words. -/
theorem test_write_transport_words :
    exampleWrite.th.allWords = [0x01803A17, 0x03001F40, 0xE0000000, 0x0004B7A2, 0x00007F00, 0x00100000, 0, 0] := by decide

/-- Its length, flits and pad. -/
theorem test_write_length : exampleWrite.rh.len = 0x130 ∧ exampleWrite.flits = 5 ∧ exampleWrite.pad = 8 := by decide

/-- spec/04_cicen_link.md, worked example, step 6: three and two good lanes give a width of two. -/
theorem test_width_two : chooseWidth (lanesIn 0b1011) (lanesIn 0b0011) 0 = some 1 := by decide

/-- spec/05_switch_core.md, worked example: RED's average moves to 663,552 bytes and P is 32. -/
theorem test_red_example :
    redStep (655360 * 256) 720896 3 = 663552 * 256 ∧
      redP { ((up.wri swBase Reg.Q.Y_MIN_KIB 121 256).wri swBase Reg.Q.Y_MAX_KIB 121 1024).wri swBase Reg.Q.Y_MAXP 121 64 with
        switch := { up.switch with avg := [(121, 663552 * 256)] } } 121 yellow = 32 := by decide

/-- spec/06_routing.md, worked example: the flow pick of 0x5D3E on both devices. -/
theorem test_flow_pick :
    flowIndex (reg atBase Reg.Atlas.ROUTE_SALT 0xDD3E) 0x5D3E 3 = 1 ∧
      flowIndex (reg atBase Reg.Atlas.ROUTE_SALT 0x1D3E) 0x5D3E 2 = 1 ∧
      flowIndex (reg atBase Reg.Atlas.ROUTE_SALT 0xDD3E) 0x5D3E 2 = 1 := by decide

/-- spec/10_collectives.md, worked example: the inputs in the 64-bit window of E −30. -/
theorem test_to_window :
    toWindow (fmtOf 5) 0x4B800000 (-30) 64 2 = (0x0040000000000000, 0) ∧
      toWindow (fmtOf 5) 0x3F800000 (-30) 64 2 = (0x40000000, 0) ∧
      toWindow (fmtOf 5) 0x3DCCCCCD (-30) 64 2 = (0x06666668, 0) := by decide

/-- The same example, step 4: the totals converted back, the second one rounded. -/
theorem test_from_window :
    fromWindow (fmtOf 5) 0x0040000080000000 64 (-30) = (0x4B800001, false) ∧
      fromWindow (fmtOf 5) 0x13333338 64 (-30) = (0x3E99999A, true) := by decide

/-- The same example: word 0x1C of the COLL_UP. -/
theorem test_coll_word :
    refWord { CollRef.blank with call := 7, rmode := 1, op := opAllreduce, func := 0, dtype := 5 } = 0x00074050 := by decide

/-- spec/13_memory_pool.md, worked example: slice 1, channel 6. -/
theorem test_pool_line_home : sliceOf 0x0A30010040 = 1 ∧ hbmChannel 0x0A30010040 = 6 := by decide

/-- spec/14_coherence.md, worked example: the line at 0x4000_1FC0 is homed at slice 6. -/
theorem test_home_slice : sliceOf 0x40001FC0 = 6 := by decide

/-- Meter 3,000 of spec/15_policing_shaping.md's worked example. -/
def meterExample : State :=
  ((((up.wr (meterRef 3000).entry Reg.Mtr.CIR_MBPS 100000).wr (meterRef 3000).entry Reg.Mtr.PIR_MBPS 200000).wr
    (meterRef 3000).entry Reg.Mtr.CBS_BYTES 32000).wr (meterRef 3000).entry Reg.Mtr.PBS_BYTES 16000).wr
    (meterRef 3000).entry Reg.Mtr.REFILL_64NS 10

/-- A refill adds 8,000 bytes to Tc and 16,000 bytes to Tp. -/
theorem test_refill :
    refilled (setBuckets meterExample (meterRef 3000) { tc := 0, tp := 0 }) (meterRef 3000) = { tc := 8000 * 8000, tp := 16000 * 8000 } := by
  decide

/-- Window 4 of the example: six green frames, four yellow, then red; Tc is left at 560 bytes, Tp at 600. -/
theorem test_meter_window :
    (List.range 16).foldl (fun (r : List Nat × Buckets) _ =>
        let x := meterResult false r.2 green (costOf 1532 0)
        (r.1 ++ [x.1], x.2)) ([], { tc := 9800 * 8000, tp := 16000 * 8000 }) =
      ([0, 0, 0, 0, 0, 0, 1, 1, 1, 1, 2, 2, 2, 2, 2, 2], { tc := 560 * 8000, tp := 600 * 8000 }) := by decide

/-! ### Steps and rows -/

/-- R90's check word of a header sent by this device is the one an arrival checks. -/
theorem test_originate_check : exampleWrite.originate.rh.chk.toNat = exampleWrite.originate.rh.check := by decide

/-- An empty queue idles: the time-driven step leaves the queue empty (notes/assumptions/1.md). -/
theorem test_idle_step : (match step up with | .next t => t.pending | _ => [.paceRestored]) = [] := by decide

/-! ### Witnesses: the hypotheses of each obligation can be met -/

theorem witness_PaceIntervalTakesLowestCount :
    (∃ (s : State), s.pace.running = true) ∧
    (∃ (s : State), s.pace.running = false) ∧
    (∃ (l : List Nat), l ≠ []) :=
  ⟨⟨up, by decide⟩,
    ⟨{ up with pace := { up.pace with running := false } }, by decide⟩,
    ⟨[3, 2], by decide⟩⟩

theorem witness_PaceGuardMovesBetweenNormalAndLow :
    (∃ (s : State), s.rd 0 Reg.Root.DEV_STATUS_PACE_LOW = 0 ∧ (4 ≤ s.pace.lowRun ∨ (950 * s.pace.power.length < total s.pace.power ∧
      s.pace.vcore = 600))) ∧
    (∃ (s : State), (s.rd 0 Reg.Root.DEV_STATUS_PACE_LOW ≠ 0 ∨ (s.pace.lowRun < 4 ∧
      (s.pace.vcore ≠ 600 ∨ total s.pace.power ≤ 950 * s.pace.power.length)))) ∧
    (∃ (s : State), s.rd 0 Reg.Root.DEV_STATUS_PACE_LOW ≠ 0 ∧ 64 ≤ s.pace.highRun ∧ total s.pace.power ≤ 950 * s.pace.power.length) ∧
    (∃ (s : State), (s.rd 0 Reg.Root.DEV_STATUS_PACE_LOW = 0 ∨ s.pace.highRun < 64 ∨ 950 * s.pace.power.length < total s.pace.power)) ∧
    (∃ (r : Route) (v : BitVec 32) (s : State), Takes s r 0x74 ∧ 850 ≤ v.toNat % 65536 ∧ v.toNat % 65536 ≤ 1400) ∧
    (∃ (r : Route) (v : BitVec 32) (s : State), Takes s r 0x74 ∧ (v.toNat % 65536 < 850 ∨ 1400 < v.toNat % 65536)) :=
  ⟨⟨{ up with pace := { up.pace with lowRun := 4 } }, by decide⟩,
    ⟨up, by decide⟩,
    ⟨{ reg 0 Reg.Root.DEV_STATUS_PACE_LOW 1 with pace := { up.pace with highRun := 64, power := [950, 950] } }, by decide⟩,
    ⟨up, by decide⟩,
    ⟨.mp, 850, up, by unfold Takes; decide⟩,
    ⟨.mp, 849, up, by unfold Takes; decide⟩⟩

theorem witness_VoltageLoopStaysInItsRange :
    (∃ (s : State), s.pace.running = true ∧ s.rd 0 Reg.Root.DEV_STATUS_AVS_FAILED = 0 ∧ 950 * s.pace.power.length < total s.pace.power ∧
      600 < s.pace.vcore ∧ (610 < s.pace.vcore ∨ s.rd 0 Reg.Root.DEV_STATUS_PACE_LOW ≠ 0)) ∧
    (∃ (s : State), s.pace.running = true ∧ s.rd 0 Reg.Root.DEV_STATUS_AVS_FAILED = 0 ∧ 950 * s.pace.power.length < total s.pace.power ∧
      600 ≤ s.pace.vcore ∧ s.pace.vcore ≤ 610 ∧ s.rd 0 Reg.Root.DEV_STATUS_PACE_LOW = 0) ∧
    (∃ (s : State), s.pace.running = true ∧ s.rd 0 Reg.Root.DEV_STATUS_AVS_FAILED = 0 ∧ 930 * s.pace.power.length < total s.pace.power ∧
      total s.pace.power ≤ 950 * s.pace.power.length) ∧
    (∃ (s : State), s.pace.running = true ∧ s.rd 0 Reg.Root.DEV_STATUS_AVS_FAILED = 0 ∧ total s.pace.power ≤ 930 * s.pace.power.length ∧
      total s.pace.hist < 1485 * s.pace.hist.length ∧ s.pace.vcore < 850) ∧
    (∃ (s : State), s.pace.running = true ∧ s.rd 0 Reg.Root.DEV_STATUS_AVS_FAILED = 0 ∧ total s.pace.power ≤ 930 * s.pace.power.length ∧
      1515 * s.pace.hist.length < total s.pace.hist ∧ 600 < s.pace.vcore) ∧
    (∃ (s : State), s.pace.running = true ∧ s.rd 0 Reg.Root.DEV_STATUS_AVS_FAILED = 0 ∧ total s.pace.power ≤ 930 * s.pace.power.length ∧
      (1485 * s.pace.hist.length ≤ total s.pace.hist ∨ 850 ≤ s.pace.vcore) ∧
      (total s.pace.hist ≤ 1515 * s.pace.hist.length ∨ s.pace.vcore ≤ 600)) ∧
    (∃ (s : State), s.rd 0 Reg.Root.DEV_STATUS_AVS_FAILED ≠ 0 ∧ total s.pace.power ≤ 950 * s.pace.power.length) ∧
    (∃ (s : State) (t : State) (v : Nat), exec .avsLoopPeriod s = .next t ∧ .avsVoltage v ∈ t.out) :=
  ⟨⟨{ up with pace := { up.pace with power := [951], vcore := 611 } }, by decide⟩,
    ⟨{ up with pace := { up.pace with power := [951], vcore := 610 } }, by decide⟩,
    ⟨{ up with pace := { up.pace with power := [950] } }, by decide⟩,
    ⟨{ up with pace := { up.pace with power := [930], hist := [1484], vcore := 849 } }, by decide⟩,
    ⟨{ up with pace := { up.pace with power := [930], hist := [1516], vcore := 601 } }, by decide⟩,
    ⟨{ up with pace := { up.pace with power := [930], hist := [1485], vcore := 601 } }, by decide⟩,
    ⟨reg 0 Reg.Root.DEV_STATUS_AVS_FAILED 1, by decide⟩,
    ⟨{ up with pace := { up.pace with power := [951], vcore := 611 } },
      after (execAvsLoopPeriod { up with pace := { up.pace with power := [951], vcore := 611 } }), 601, rfl, by decide⟩⟩

theorem witness_PowerEstimateAndAvsBusFailure :
    (∃ (s : State), s.pace.running = true ∧ s.rd 0 Reg.Root.DEV_STATUS_AVS_FAILED = 0 ∧
      (s.pace.vcore ≠ 600 ∨ s.rd 0 Reg.Root.DEV_STATUS_PACE_LOW ≠ 0)) ∧
    (∃ (x : Option RailReading) (s : State), s.pace.running = true ∧ (s.rd 0 Reg.Root.DEV_STATUS_AVS_FAILED ≠ 0 ∨ x = none) ∧
      (s.pace.vcore ≠ 600 ∨ s.rd 0 Reg.Root.DEV_STATUS_PACE_LOW ≠ 0)) ∧
    (∃ (x : RailReading) (w : BitVec 16) (s : State), s.pace.running = true ∧ s.rd 0 Reg.Root.DEV_STATUS_AVS_FAILED = 0 ∧
      s.pace.vcore = 600 ∧ s.rd 0 Reg.Root.DEV_STATUS_PACE_LOW = 0 ∧
      950 * (((x.watts.toNat + w.toNat) :: s.pace.power).take 10).length < total (((x.watts.toNat + w.toNat) :: s.pace.power).take 10)) ∧
    (∃ (s : State), s.rd 0 Reg.Root.DEV_STATUS_AVS_FAILED = 0 ∧ s.pace.nacks < 2) ∧
    (∃ (s : State), s.rd 0 Reg.Root.DEV_STATUS_AVS_FAILED = 0 ∧ 2 ≤ s.pace.nacks) ∧
    (∃ (s : State), s.rd 0 Reg.Root.DEV_STATUS_AVS_FAILED ≠ 0) :=
  ⟨⟨up, by decide⟩,
    ⟨none, up, by decide⟩,
    ⟨{ watts := 900, mv := 600 }, 60, { up with pace := { up.pace with vcore := 600 } }, by decide⟩,
    ⟨{ up with pace := { up.pace with nacks := 1 } }, by decide⟩,
    ⟨{ up with pace := { up.pace with nacks := 2 } }, by decide⟩,
    ⟨reg 0 Reg.Root.DEV_STATUS_AVS_FAILED 1, by decide⟩⟩

theorem witness_RegisterWritesReachTheirFields :
    (∃ (r : Route) (v : BitVec 32) (s : State), Takes s r 0x110 ∧ clockRuns s .root = true ∧ v.toNat % 4 ≠ 0) ∧
    (∃ (r : Route) (v : BitVec 32) (s : State), Takes s r 0x110 ∧ clockRuns s .root = true ∧ v.toNat % 4 = 0) ∧
    (∃ (f : Fin 1024) (s : State), fatalStopped s = false ∧ s.boot.hardTrip = false ∧ fnReady s f.val = true) ∧
    (∃ (r : Route) (off : BitVec 28) (s : State), s.boot.hardTrip = false ∧ routeServed s r = true ∧ off.toNat % 8 = 0) ∧
    (∃ (r : Route) (off : BitVec 28) (e : BitVec 8) (s : State), s.boot.hardTrip = false ∧ routeServed s r = true ∧
      (off.toNat % 8 ≠ 0 ∨ e ≠ 255)) ∧
    (∃ (r : Route) (s : State), s.boot.hardTrip = false ∧ routeServed s r = false) :=
  ⟨⟨.mp, 1, up, by unfold Takes; decide⟩,
    ⟨.mp, 0, up, by unfold Takes; decide⟩,
    ⟨0, reg fnTab Reg.FnTab.FN_VALID 1, by decide⟩,
    ⟨.mp, 8, up, by decide⟩,
    ⟨.mp, 12, 0, up, by decide⟩,
    ⟨.bar0 0, up, by decide⟩⟩

theorem witness_DeniedWritesOnlyRecordAViolation :
    (∃ (r : Route) (w : BusWrite) (x : Viol) (s : State), s.boot.hardTrip = false ∧ writeRefused s r w.off.toNat w.enables.toNat = some x) ∧
    (∃ (off : Nat) (s : State), off < 2 ^ 28 ∧ s.rd 0 Reg.Root.ACC_VIOL_VALID = 0) ∧
    (∃ (s : State), s.rd 0 Reg.Root.ACC_VIOL_VALID ≠ 0) ∧
    (∃ (r : Route) (s : State), readReaches s r .root 0x90 = true) :=
  ⟨⟨.mp, { off := 0x111, value := 0, enables := 15 }, .misaligned, up, by decide⟩,
    ⟨0x111, up, by decide⟩,
    ⟨reg 0 Reg.Root.ACC_VIOL_VALID 1, by decide⟩,
    ⟨.mp, reg 0 Reg.Root.ACC_VIOL_VALID 1, by decide⟩⟩

theorem witness_RcFieldsAndLongRegistersReadInTheirWay :
    (∃ (r : Route) (off : BitVec 28) (s : State), off.toNat % 4 = 0 ∧
      readReaches s r (unitAt off.toNat) (off.toNat - base (unitAt off.toNat)) = true ∧
      isReg64 (unitAt off.toNat) (off.toNat - base (unitAt off.toNat)) = false ∧
      (4 ≤ off.toNat - base (unitAt off.toNat) → isReg64 (unitAt off.toNat) (off.toNat - base (unitAt off.toNat) - 4) = false)) ∧
    (∃ (off : BitVec 28), off.toNat % 8 = 0) ∧
    (∃ (r : Route) (off : BitVec 28) (s : State), off.toNat % 4 = 0 ∧ routeServed s r = false) ∧
    (∃ (r : Route) (s : State), Takes s r 0x58 ∧ clockRuns s .root = true) ∧
    (∃ (r : Route) (low : BitVec 32) (s : State), Takes s r 0x5C ∧ clockRuns s .root = true ∧
      look s.setup.wlatch (routeIdx r) = some (0x5C * 2 ^ 32 + low.toNat)) ∧
    (∃ (r : Route) (off : BitVec 28) (s : State), off.toNat % 4 = 0 ∧ routeServed s r = true ∧
      isReg64 (unitAt off.toNat) (off.toNat - base (unitAt off.toNat)) = true) ∧
    (∃ (r : Route) (off : BitVec 28) (high : Nat) (s : State), off.toNat % 4 = 0 ∧ routeServed s r = true ∧
      4 ≤ off.toNat - base (unitAt off.toNat) ∧ isReg64 (unitAt off.toNat) (off.toNat - base (unitAt off.toNat) - 4) = true ∧
      high < 2 ^ 32 ∧ look s.setup.rlatch (routeIdx r) = some (off.toNat * 2 ^ 32 + high)) ∧
    (∃ (r : Route) (off : BitVec 28) (s : State), off.toNat % 4 = 0 ∧ routeServed s r = true ∧ 4 ≤ off.toNat - base (unitAt off.toNat) ∧
      isReg64 (unitAt off.toNat) (off.toNat - base (unitAt off.toNat) - 4) = true ∧
      (look s.setup.rlatch (routeIdx r)).map (· / 2 ^ 32) ≠ some off.toNat) :=
  ⟨⟨.mp, 0x90, reg 0 Reg.Root.ACC_VIOL_VALID 1, by decide⟩,
    ⟨8, by decide⟩,
    ⟨.bar0 0, 0x58, up, by decide⟩,
    ⟨.mp, up, by unfold Takes; decide⟩,
    ⟨.mp, 7, { up with setup := { up.setup with wlatch := [(0, 0x5C * 2 ^ 32 + 7)] } }, by unfold Takes; decide⟩,
    ⟨.mp, 0x58, up, by decide⟩,
    ⟨.mp, 0x5C, 1, { up with setup := { up.setup with rlatch := [(0, 0x5C * 2 ^ 32 + 1)] } }, by decide⟩,
    ⟨.mp, 0x5C, up, by decide⟩⟩

theorem witness_StagedAndFarPostedWritesWait :
    (∃ (r : Route) (v : BitVec 32) (h : Fin 16) (s : State), Takes s r (base (.hostMacro h) + 0x40) ∧ clockRuns s (.hostMacro h) = true ∧
      bitOf (s.rd 0 Reg.Root.CMT_STATUS) (groupOf s (.hostMacro h)) = false ∧ v.toNat % 4 ≤ 2) ∧
    (∃ (r : Route) (s : State), Takes s r 0x188 ∧ clockRuns s .root = true ∧ winBusy s 59 = false) ∧
    (∃ (warn : Nat) (trip : Nat) (s : State), winBusy s 59 = true ∧ 59 ∉ s.boot.stopped ∧ look s.setup.fpAt 59 = some 0x188 ∧
      look s.setup.fp 59 = some [(Reg.Hk.THERM_WARN_C.key 0, warn), (Reg.Hk.THERM_TRIP_C.key 0, trip)] ∧ 85 ≤ warn ∧ warn ≤ 110 ∧
      100 ≤ trip ∧ trip ≤ 115 ∧ warn + 5 ≤ trip) ∧
    (∃ (i : Fin 60) (s : State), winBusy s i.val = true) :=
  ⟨⟨.mp, 2, 0, up, by unfold Takes; decide⟩,
    ⟨.mp, up, by unfold Takes; decide⟩,
    ⟨110, 115,
      { setWinBusy up 59 true with setup := { up.setup with fpAt := [(59, 0x188)], fp := [(59, [(Reg.Hk.THERM_WARN_C.key 0, 110), (Reg.Hk.THERM_TRIP_C.key 0, 115)])] } },
      by decide⟩,
    ⟨59, setWinBusy up 59 true, by decide⟩⟩

theorem witness_CommitGroupsApplyOrDiscardStagedValues :
    (∃ (r : Route) (g : Fin 32) (s : State), Takes s r 0x60 ∧ bitOf (s.rd 0 Reg.Root.CMT_STATUS) g.val = false ∧ unitsStaged s g.val ≠ []) ∧
    (∃ (r : Route) (g : Fin 32) (s : State), Takes s r 0x6C ∧ bitOf (s.rd 0 Reg.Root.CMT_STATUS) g.val = false) ∧
    (∃ (s : State), .switchCore ∈ s.setup.toApply ∧ clockRuns s .switchCore = true ∧ (∀ u ∈ s.setup.toApply,
      u ≠ .switchCore → groupOf s u ≠ groupOf s .switchCore)) ∧
    (∃ (r : Route) (u : UnitId) (g : Fin 32) (s : State), Takes s r (base u + 0x1C) ∧ commitPending s u = false ∧ (∀ v ∈ subtree u,
      bitOf (s.rd 0 Reg.Root.CMT_STATUS) (groupOf s v) = false) ∧ groupOf s u ≠ g.val) :=
  ⟨⟨.mp, ⟨groupOf up (.hostMacro 0) % 32, by omega⟩,
      { up with setup := { up.setup with staged := [(Reg.Mac.MAC_CFG_BIFURC.key (base (.hostMacro 0)), 1)] } }, by unfold Takes; decide⟩,
    ⟨.mp, ⟨groupOf up (.hostMacro 0) % 32, by omega⟩,
      { up with setup := { up.setup with staged := [(Reg.Mac.MAC_CFG_BIFURC.key (base (.hostMacro 0)), 1)] } }, by unfold Takes; decide⟩,
    ⟨{ up with setup := { up.setup with toApply := [.switchCore] } }, by decide⟩,
    ⟨.mp, .hostMacro 0, 31, up, by unfold Takes; decide⟩⟩

theorem witness_FencesAndUnitResetsCoverTheSubtree :
    (∃ (r : Route) (u : UnitId) (s : State), Takes s r (base u + 0x1C) ∧ u ≠ .root ∧ inReset s u = false) ∧
    (∃ (r : Route) (u : UnitId) (s : State), Takes s r (base u + 0x1C) ∧ inReset s u = false ∧
      u ∈ [UnitId.atlas, UnitId.meterBank, UnitId.injShaper]) ∧
    (∃ (r : Route) (u : UnitId) (s : State), Takes s r (base u + 0x1C) ∧ u ≠ .root ∧ inReset s u = true) ∧
    (∃ (r : Route) (s : State), Takes s r 0x1C) ∧
    (∃ (u : UnitId) (s : State), look s.setup.resetAt (base u) = none) ∧
    (∃ (u : UnitId) (s : State), look s.setup.resetAt (base u) ≠ none ∧ s.setup.fencePend = [] ∧ s.boot.started = false) :=
  ⟨⟨.mp, .hostMacro 0, up, by unfold Takes; decide⟩,
    ⟨.mp, .atlas, up, by unfold Takes; decide⟩,
    ⟨.mp, .atlas, { up with setup := { up.setup with inReset := [.atlas], resetAt := [(base .atlas, 0)] } }, by unfold Takes; decide⟩,
    ⟨.mp, up, by unfold Takes; decide⟩,
    ⟨.hostMacro 0, up, by decide⟩,
    ⟨.hostMacro 0,
      { up with setup := { up.setup with inReset := [.hostMacro 0, .attachment 0], resetAt := [(base (.hostMacro 0), 0)] }, boot := { up.boot with started := false } },
      by decide⟩⟩

theorem witness_DeviceResetsLeaveResetState :
    (∃ (r : Route) (s : State), Takes s r 0x54 ∧ s.boot.kind = none) ∧
    (∃ (r : Route) (s : State), Takes s r 0x54 ∧ s.boot.kind ≠ none) :=
  ⟨⟨.mp, up, by unfold Takes; decide⟩,
    ⟨.mp, { up with boot := { up.boot with kind := some .warm } }, by unfold Takes; decide⟩⟩

theorem witness_InjectedPacketIsDelivered :
    (∃ (p : Fin 128) (vc : Fin 16) (q : Packet) (s : State), CoreRuns s ∧ MirrorsOff s ∧ 96 ≤ p.val ∧
      look s.switch.cur (inKey p.val vc.val) = none ∧ isFenced s (.tileCluster (idx 15 (p.val / 8))) = false ∧
      look s.switch.inj p.val = some [q] ∧ q.cls = vc.val ∧ q.cls = clsFmgt ∧ q.rtLen = 0 ∧ q.rh.mc = false ∧
      q.rh.dst.toNat = deviceId s * 256 + 66 ∧ tileLost s p.val 126 = false ∧ (Packet.ofFlits q.rh q.allFlits).rtLen = 0) ∧
    (∃ (k : Nat) (c : SwPkt) (s : State), CoreRuns s ∧ MirrorsOff s ∧ look s.switch.cur k = some c ∧ c.phase = .waiting ∧ c.out = 126 ∧
      c.outVc = clsFmgt ∧ c.rh.vclass.toNat = clsFmgt ∧ waitingAt s 126 = [k] ∧ outBusy s 126 clsFmgt = false ∧ unitAccepts s 126 = true ∧
      c.whole = true ∧ c.checked = false ∧ 16 * 96 ≤ k ∧ k < 2048) ∧
    (∃ (p : Fin 128) (vc : Fin 16) (c : SwPkt) (a : AsmPkt) (s : State), 96 ≤ p.val ∧ look s.switch.cur (inKey p.val vc.val) = some c ∧
      c.whole = true ∧ c.checked = true ∧ c.phase = .granted ∧ c.salvaged = false ∧ 96 ≤ c.out ∧ writtenBy s (inKey p.val vc.val) = [] ∧
      look s.switch.asm (inKey c.out c.outVc) = some a ∧ a.att = none) :=
  ⟨⟨126, 5, pk 66 5 0x20 2 0 0 [0] (List.replicate 16 0),
      { up with switch := { up.switch with inj := [(126, [pk 66 5 0x20 2 0 0 [0] (List.replicate 16 0)])] } },
      by unfold CoreRuns MirrorsOff; decide⟩,
    ⟨2021, swp (pk 66 5 0x20 2 0 0 [0] (List.replicate 16 0)) .waiting 126 5,
      cur up 2021 (swp (pk 66 5 0x20 2 0 0 [0] (List.replicate 16 0)) .waiting 126 5), by unfold CoreRuns MirrorsOff; decide⟩,
    ⟨126, 5, { swp (pk 66 5 0x20 2 0 0 [0] (List.replicate 16 0)) .granted 126 5 with checked := true },
      { rh := ({ swp (pk 66 5 0x20 2 0 0 [0] (List.replicate 16 0)) .granted 126 5 with checked := true }).rh, flits := [], att := none },
      { cur up 2021 ({ swp (pk 66 5 0x20 2 0 0 [0] (List.replicate 16 0)) .granted 126 5 with checked := true }) with switch := { (cur up 2021 ({ swp (pk 66 5 0x20 2 0 0 [0] (List.replicate 16 0)) .granted 126 5 with checked := true })).switch with asm := [(inKey 126 5, ({ rh := ({ swp (pk 66 5 0x20 2 0 0 [0] (List.replicate 16 0)) .granted 126 5 with checked := true }).rh, flits := [], att := none }))] } },
      by decide⟩⟩

theorem witness_RedAveragesAndBufferErrors :
    (∃ (q : Fin 384) (i : Nat) (x : PoolPkt) (s : State), (queue s q.val)[i]? = some x ∧ x.begun = false) ∧
    (∃ (p : Fin 96) (vc : Fin 16) (c : SwPkt) (s : State), look s.switch.cur (inKey p.val vc.val) = some c ∧ c.whole = true ∧
      c.phase = .waiting ∧ writtenBy s (inKey p.val vc.val) = []) :=
  ⟨⟨0, 0,
      { rh := (pk 66 2 1 2 0 0 [] []).rh, inRh := (pk 66 2 1 2 0 0 [] []).rh, flits := [], whole := true, begun := false, n := 1, src := none, inPort := 0, viaFabric := false, mirror := none, att := none, slow := false },
      { up with switch := { up.switch with pool := [(0, [({ rh := (pk 66 2 1 2 0 0 [] []).rh, inRh := (pk 66 2 1 2 0 0 [] []).rh, flits := [], whole := true, begun := false, n := 1, src := none, inPort := 0, viaFabric := false, mirror := none, att := none, slow := false })])] } },
      by decide⟩,
    ⟨0, 5, swp (pk 66 5 0x20 2 0 0 [0] (List.replicate 16 0)) .waiting 126 5,
      cur up 5 (swp (pk 66 5 0x20 2 0 0 [0] (List.replicate 16 0)) .waiting 126 5), by decide⟩⟩

theorem witness_SwitchRegistersTakeTheirWrites :
    (∃ (r : Route) (s : State), Takes s r (swBase + 0x50)) ∧
    (∃ (r : Route) (g : Fin 65536) (w : Fin 7) (s : State), Takes s r (swBase + 0x800000 + 32 * g.val + 4 * w.val)) ∧
    (∃ (r : Route) (g : Fin 65536) (x : Nat) (s : State), Takes s r (swBase + 0x80001C + 32 * g.val) ∧
      look s.switch.mcLatch (routeIdx r) = some (g.val, [(0, x)])) ∧
    (∃ (r : Route) (e : BitVec 32) (s : State), Takes s r Reg.Root.INJ_EPOCH_EPOCH.off ∧
      injValid (s.wr 0 Reg.Root.INJ_EPOCH_EPOCH (e.toNat % 2)) = injValid s) ∧
    (∃ (r : Route) (e : BitVec 32) (s : State), Takes s r Reg.Root.INJ_EPOCH_EPOCH.off ∧
      injValid (s.wr 0 Reg.Root.INJ_EPOCH_EPOCH (e.toNat % 2)) ≠ injValid s) :=
  ⟨⟨.mp, regs [(swBase, Reg.Sw.MC_MISS_CNT, 3), (swBase, Reg.Sw.POOL_USED, 9)], by unfold Takes; decide⟩,
    ⟨.mp, 65535, 6, up, by unfold Takes; decide⟩,
    ⟨.mp, 65535, 7, { up with switch := { up.switch with mcLatch := [(0, 65535, [(0, 7)])] } }, by unfold Takes; decide⟩,
    ⟨.mp, 2, up, by unfold Takes; decide⟩,
    ⟨.mp, 3, reg atBase Reg.Atlas.ATLAS_CTL_VALID1 1, by unfold Takes; decide⟩⟩

theorem witness_BlocksAreSentAndAcceptedInSequence :
    (∃ (n : Fin 96) (s : State), 0 < (s.port n.val).ldLeft) ∧
    (∃ (n : Fin 96) (s : State), (s.port n.val).ldLeft = 0 ∧ portState s n.val = stDown ∧ (s.port n.val).phase = 0 ∧
      (s.port n.val).upWaits = false) ∧
    (∃ (n : Fin 96) (s : State), (s.port n.val).ldLeft = 0 ∧ portRunning s n.val = true ∧ controlTurn (s.port n.val) = true) ∧
    (∃ (n : Fin 96) (q : Nat) (b : LinkBlock) (rest : List (Nat × LinkBlock)) (s : State), (s.port n.val).ldLeft = 0 ∧
      portRunning s n.val = true ∧ controlTurn (s.port n.val) = false ∧ (s.port n.val).resend = (q, b) :: rest) ∧
    (∃ (n : Fin 96) (s : State), (s.port n.val).ldLeft = 0 ∧ portRunning s n.val = true ∧ controlTurn (s.port n.val) = false ∧
      (s.port n.val).resend = [] ∧ dataReady (s.port n.val) = true) ∧
    (∃ (n : Fin 96) (b : RxBlock) (crc : BitVec 32) (e : Option (Fin 4)) (s : State), Locked s n.val b.lane ∧
      (blkLockOf (s.port n.val) (streamOf b.lane)).run < 3 ∧ (crc.toNat ≠ linkCrc b.block ∨ e ≠ none) ∧ (s.port n.val).inSeq = false) ∧
    (∃ (n : Fin 96) (b : RxBlock) (crc : BitVec 32) (e : Option (Fin 4)) (s : State), Locked s n.val b.lane ∧
      (s.port n.val).lock.length = 5 ∧ 3 ≤ (blkLockOf (s.port n.val) (streamOf b.lane)).run ∧ (crc.toNat ≠ linkCrc b.block ∨ e ≠ none) ∧
      portRunning s n.val = false) ∧
    (∃ (n : Fin 96) (b : RxBlock) (crc : BitVec 32) (s : State), Locked s n.val b.lane ∧ crc.toNat = linkCrc b.block ∧
      blockGood b.block = true ∧ linkAlive s n.val = true ∧ b.block.ctl = false ∧ b.block.ndata = 1 ∧
      (s.port n.val).expect = b.block.seq.toNat ∧ creditOverrun (s.port n.val) b.block = false ∧ (s.port n.val).rx.length = 16 ∧
      look s.switch.cur (inKey n.val (slotVc b.block 0)) = none) ∧
    (∃ (n : Fin 96) (b : RxBlock) (crc : BitVec 32) (s : State), Locked s n.val b.lane ∧ crc.toNat = linkCrc b.block ∧
      blockGood b.block = true ∧ linkAlive s n.val = true ∧ b.block.ctl = false ∧ 2048 ≤ seqDist (s.port n.val).expect b.block.seq.toNat) ∧
    (∃ (n : Fin 96) (s : State), rxOff s n.val = true) :=
  ⟨⟨95, prt 95 stBroken { PortSt.init with ldLeft := 8 }, by decide⟩,
    ⟨95, up, by decide⟩,
    ⟨95, prt 95 stUp { PortSt.init with lcms := [5] }, by decide⟩,
    ⟨95, 4095, blk, [], prt 95 stUp { PortSt.init with resend := [(4095, (blk))] }, by decide⟩,
    ⟨95, prt 95 stUp { PortSt.init with nextSeq := 4095, tx := [tx0] }, by decide⟩,
    ⟨95, { block := blk, lane := none }, 5, none,
      prt 95 stUp { PortSt.init with inSeq := false, rxW := some 0, lock := List.replicate 5 { held := true, run := 2 } },
      by unfold Locked; decide⟩,
    ⟨95, { block := blk, lane := none }, 5, some 0,
      prt 95 stRetrain { PortSt.init with rxW := some 0, lock := List.replicate 5 { held := true, run := 3 } }, by unfold Locked; decide⟩,
    ⟨95, { block := blk, lane := none }, BitVec.ofNat 32 (linkCrc blk),
      prt 95 stUp { PortSt.init with expect := 4095, g := List.replicate 16 1, rxW := some 0, lock := List.replicate 5 { held := true, run := 0 } },
      by unfold Locked; decide⟩,
    ⟨95, { block := blk, lane := some 3 }, BitVec.ofNat 32 (linkCrc blk),
      prt 95 stUp { PortSt.init with expect := 0, lock := List.replicate 5 { held := true, run := 0 } }, by unfold Locked; decide⟩,
    ⟨95, { up with setup := { up.setup with fenced := [.port 95] } }, by decide⟩⟩

theorem witness_ReplayAndCreditsKeepTheLinkGoing :
    (∃ (n : Fin 96) (ex : BitVec 12) (s : State), linkAlive s n.val = true ∧ holdsSeq (s.port n.val) ex.toNat = true) ∧
    (∃ (n : Fin 96) (ex : BitVec 12) (s : State), linkAlive s n.val = true ∧ holdsSeq (s.port n.val) ex.toNat = false ∧
      ex.toNat = (s.port n.val).nextSeq) ∧
    (∃ (n : Fin 96) (ex : BitVec 12) (s : State), linkAlive s n.val = true ∧ holdsSeq (s.port n.val) ex.toNat = false ∧
      ex.toNat ≠ (s.port n.val).nextSeq) ∧
    (∃ (n : Fin 96) (s : State), portRunning s n.val = true ∧ (s.port n.val).inSeq = false ∧
      (s.port n.val).reqCount < prd s n.val Reg.Port.REPLAY_LIMIT) ∧
    (∃ (n : Fin 96) (vc : Fin 16) (k : Nat) (c : SwPkt) (s : State), k ∈ waitingAt s n.val ∧ look s.switch.cur k = some c ∧
      c.outVc = vc.val ∧ nth (s.port n.val).credits vc.val < flitsOfLen c.rh.len.toNat) :=
  ⟨⟨95, 4095, prt 95 stUp { PortSt.init with replay := [⟨4094, blk, true⟩, ⟨4095, blk, false⟩] }, by decide⟩,
    ⟨95, 0, prt 95 stUp PortSt.init, by decide⟩,
    ⟨95, 1, prt 95 stUp PortSt.init, by decide⟩,
    ⟨95, prt 95 stUp { PortSt.init with inSeq := false, reqCount := 1 }, by decide⟩,
    ⟨95, 0, 0, swp (pk 66 0 1 2 0 0 [] []) .waiting 95 0, cur up 0 (swp (pk 66 0 1 2 0 0 [] []) .waiting 95 0), by decide⟩⟩

theorem witness_RetrainingAgreesOnAWidth :
    (∃ (n : Fin 96) (l : Fin 4) (e : LaneEvent) (s : State), rxOff s n.val = false ∧ portRunning s n.val = true ∧
      (e = .signal l ∨ e = .codeword l) ∧ l.val ∈ (s.port n.val).lanes ∧ retrainsRecent s n.val < prd s n.val Reg.Port.RETRAIN_LIMIT) ∧
    (∃ (n : Fin 96) (l : Fin 4) (e : LaneEvent) (s : State), rxOff s n.val = false ∧ (e = .signal l ∨ e = .codeword l) ∧
      (l.val ∉ (s.port n.val).lanes ∨ portRunning s n.val = false)) ∧
    (∃ (n : Fin 96) (s : State), rxOff s n.val = true) ∧
    (∃ (n : Fin 96) (w : Nat) (l : Nat) (s : State), portState s n.val = stDegraded ∧ prd s n.val Reg.Port.PORT_CFG_AUTO_RESTORE = 1 ∧
      l < 4 ∧ bitOf (prd s n.val Reg.Port.PORT_STATE_RX_GOOD) l = true ∧ l ∉ (s.port n.val).lanes ∧
      chooseWidth (lanesIn (prd s n.val Reg.Port.PORT_STATE_RX_GOOD)) 4 (s.port n.val).widthMax = some w ∧
      w < prd s n.val Reg.Port.PORT_STATE_WIDTH ∧ ((s.port n.val).ident.getD 0).toNat < (s.port n.val).peerId.toNat ∧
      retrainsRecent s n.val < prd s n.val Reg.Port.RETRAIN_LIMIT) ∧
    (∃ (n : Fin 96) (m : TrainMsg) (i : BitVec 64) (s : State), trainable s n.val = true ∧ isLooped s n.val m = false ∧
      portState s n.val = stDown ∧ m.reason = 1 ∧ (s.port n.val).phase ≠ 0 ∧ (s.port n.val).reqOut = false ∧
      (s.port n.val).doneSent = false ∧ (s.port n.val).ident = some i) ∧
    (∃ (n : Fin 96) (m : TrainMsg) (s : State), trainable s n.val = true ∧ isLooped s n.val m = false ∧ portState s n.val = stDown ∧
      m.reason ≠ 1) ∧
    (∃ (n : Fin 96) (m : TrainMsg) (w : Nat) (s : State), trainable s n.val = true ∧ isLooped s n.val m = false ∧
      inTraining s n.val = true ∧ (s.port n.val).reqOut = true ∧ (s.port n.val).ident = some m.reqId ∧ m.reason = 0 ∧
      chooseWidth (lanesIn (prd s n.val Reg.Port.PORT_STATE_RX_GOOD)) (lanesIn m.rxGood.toNat) (s.port n.val).widthMax = some w) ∧
    (∃ (n : Fin 96) (m : TrainMsg) (s : State), trainable s n.val = true ∧ isLooped s n.val m = false ∧ inTraining s n.val = true ∧
      (s.port n.val).doneSent = false ∧ (s.port n.val).ident = some m.reqId ∨ ((s.port n.val).reqOut = false ∧
      (s.port n.val).peerId = m.reqId)) ∧
    (∃ (n : Fin 96) (m : TrainMsg) (s : State), trainable s n.val = true ∧ isLooped s n.val m = false ∧ inTraining s n.val = true ∧
      (s.port n.val).doneSent = true ∧ (s.port n.val).ident = some m.reqId ∨ ((s.port n.val).reqOut = false ∧
      (s.port n.val).peerId = m.reqId)) ∧
    (∃ (n : Fin 96) (s : State), rxOff s n.val = false ∧ (s.port n.val).phase = 4 ∧ (s.port n.val).txW ≠ none ∧ (s.port n.val).rxW ≠ none ∧
      (s.port n.val).upWaits = false ∧ portState s n.val = stDown) ∧
    (∃ (n : Fin 96) (s : State), rxOff s n.val = false ∧ portState s n.val = stRetrain ∧ (s.port n.val).txW ≠ none ∧
      (s.port n.val).rxW ≠ none ∧ (s.port n.val).upWaits = false ∧ holdsSeq (s.port n.val) (s.port n.val).peerExpect = false ∧
      (s.port n.val).peerExpect = (s.port n.val).nextSeq) :=
  ⟨⟨95, 3, .signal 3, prt 95 stUp { PortSt.init with lanes := [0, 3] }, by decide⟩,
    ⟨95, 3, .codeword 3, prt 95 stUp { PortSt.init with lanes := [0] }, by decide⟩,
    ⟨95, { up with setup := { up.setup with fenced := [.port 95] } }, by decide⟩,
    ⟨95, 1, 1,
      ((prt 95 stDegraded { PortSt.init with peerId := 9, ident := some 8, lanes := [0] }).wr (portBase 95) Reg.Port.PORT_STATE_WIDTH 2).wr (portBase 95) Reg.Port.PORT_STATE_RX_GOOD 3,
      by decide⟩,
    ⟨95, train, 7, prt 95 stDown { PortSt.init with phase := 4, ident := some 7 }, by decide⟩,
    ⟨95, { train with reason := 2 }, prt 95 stDown { PortSt.init with phase := 4, ident := some 7 }, by decide⟩,
    ⟨95, { train with reason := 0 }, 2,
      (prt 95 stDown { PortSt.init with phase := 4, ident := some 5, reqOut := true }).wr (portBase 95) Reg.Port.PORT_STATE_RX_GOOD 15,
      by decide⟩,
    ⟨95, train, prt 95 stDown { PortSt.init with phase := 4, ident := some 5 }, by decide⟩,
    ⟨95, train, prt 95 stDown { PortSt.init with phase := 4, peerId := 5, doneSent := true }, by decide⟩,
    ⟨95, prt 95 stDown { PortSt.init with phase := 4, txW := some 0, rxW := some 0 }, by decide⟩,
    ⟨95, prt 95 stRetrain { PortSt.init with phase := 4, txW := some 0, rxW := some 0 }, by decide⟩⟩

theorem witness_BringupRunsThroughItsPhases :
    (∃ (r : Route) (n : Fin 96) (s : State), Takes s r (portCtl n.val) ∧ portState s n.val = stDown ∧ (s.port n.val).phase = 0 ∧
      roleOf s n.val ≠ 0 ∧ portUsable s n.val = true) ∧
    (∃ (r : Route) (n : Fin 96) (s : State), Takes s r (portCtl n.val) ∧
      (portState s n.val ≠ stDown ∨ (s.port n.val).phase ≠ 0 ∨ roleOf s n.val = 0 ∨ portUsable s n.val = false)) ∧
    (∃ (n : Fin 96) (s : State), rxOff s n.val = false ∧ (s.port n.val).phase = 1) ∧
    (∃ (n : Fin 96) (s : State), rxOff s n.val = false ∧ (s.port n.val).phase = 2) ∧
    (∃ (n : Fin 96) (s : State), (rxOff s n.val = true ∨ ((s.port n.val).phase ≠ 1 ∧ (s.port n.val).phase ≠ 2))) ∧
    (∃ (n : Fin 96) (g : LockGain) (s : State), AllLock s n.val g ∧ portState s n.val ≠ stRetrain ∧ (s.port n.val).phase = 3 ∧
      (∀ m ∈ g.req, isLooped s n.val m = false ∧ m.reason ≠ 1)) ∧
    (∃ (n : Fin 96) (g : LockGain) (m : TrainMsg) (s : State), AllLock s n.val g ∧ portState s n.val ≠ stRetrain ∧
      (s.port n.val).phase = 3 ∧ g.req = some m ∧ isLooped s n.val m = false ∧ m.reason = 1) ∧
    (∃ (n : Fin 96) (g : LockGain) (m : TrainMsg) (s : State), AllLock s n.val g ∧ portState s n.val = stDown ∧ (s.port n.val).phase = 3 ∧
      g.req = some m ∧ isLooped s n.val m = true) ∧
    (∃ (n : Fin 96) (g : LockGain) (s : State), AllLock s n.val g ∧ portState s n.val = stRetrain ∧ (s.port n.val).phase = 3) ∧
    (∃ (n : Fin 96) (s : State), rxOff s n.val = false ∧ (s.port n.val).phase ≠ 3) ∧
    (∃ (n : Fin 96) (s : State), rxOff s n.val = true) ∧
    (∃ (n : Fin 96) (s : State), portState s n.val = stDown ∧ (s.port n.val).phase ≠ 0 ∨ (s.port n.val).upWaits = true) ∧
    (∃ (n : Fin 96) (s : State), (portState s n.val ≠ stDown ∨ ((s.port n.val).phase = 0 ∧ (s.port n.val).upWaits = false))) :=
  ⟨⟨.mp, 95, up, by unfold Takes; decide⟩,
    ⟨.mp, 95, prt 95 stUp PortSt.init, by unfold Takes; decide⟩,
    ⟨95, prt 95 stDown { PortSt.init with phase := 1 }, by decide⟩,
    ⟨95, prt 95 stDown { PortSt.init with phase := 2 }, by decide⟩,
    ⟨95, prt 95 stDown { PortSt.init with phase := 3 }, by decide⟩,
    ⟨95, { lanes := 15, req := none }, (prt 95 stDown { PortSt.init with phase := 3 }).wr (portBase 95) Reg.Port.PORT_STATE_RX_GOOD 15,
      by unfold AllLock; decide⟩,
    ⟨95, { lanes := 15, req := some train }, train,
      (prt 95 stDown { PortSt.init with phase := 3 }).wr (portBase 95) Reg.Port.PORT_STATE_RX_GOOD 15, by unfold AllLock; decide⟩,
    ⟨95, { lanes := 15, req := some train }, train,
      (prt 95 stDown { PortSt.init with phase := 3, ident := some 6 }).wr (portBase 95) Reg.Port.PORT_STATE_RX_GOOD 15,
      by unfold AllLock; decide⟩,
    ⟨95, { lanes := 15, req := none }, (prt 95 stRetrain { PortSt.init with phase := 3 }).wr (portBase 95) Reg.Port.PORT_STATE_RX_GOOD 15,
      by unfold AllLock; decide⟩,
    ⟨95, prt 95 stDown { PortSt.init with phase := 1 }, by decide⟩,
    ⟨95, { up with setup := { up.setup with fenced := [.port 95] } }, by decide⟩,
    ⟨95, (prt 95 stDown { PortSt.init with phase := 4 }).wr (portBase 95) Reg.Port.PORT_CFG_ROLE 0, by decide⟩,
    ⟨95, prt 95 stUp PortSt.init, by decide⟩⟩

theorem witness_LinksGoDownForTheirReasons :
    (∃ (n : Fin 96) (s : State), portState s n.val = stRetrain ∧ s.switch.cur = [] ∧ s.switch.pool = []) ∧
    (∃ (n : Fin 96) (s : State), rxOff s n.val = false ∧ linkAlive s n.val = true ∧ s.switch.cur = [] ∧ s.switch.pool = []) ∧
    (∃ (r : Route) (n : Fin 96) (s : State), Takes s r (portCtl n.val) ∧ linkAlive s n.val = true ∧ s.switch.cur = [] ∧ s.switch.pool = []) ∧
    (∃ (r : Route) (n : Fin 96) (s : State), Takes s r (portCtl n.val) ∧ portRunning s n.val = true ∧
      retrainsRecent s n.val < prd s n.val Reg.Port.RETRAIN_LIMIT) ∧
    (∃ (n : Fin 96) (r : Nat) (s : State), (s.port n.val).ldLeft = 0 ∧ (s.port n.val).ldThen = .toDown r) ∧
    (∃ (n : Fin 96) (s : State), (s.port n.val).ldLeft = 0 ∧ (s.port n.val).ldThen = .reset) ∧
    (∃ (n : Fin 96) (s : State), (0 < (s.port n.val).ldLeft ∨ (s.port n.val).ldThen = .stayBroken)) ∧
    (∃ (n : Fin 96) (s : State), portState s n.val = stBroken ∧ (s.port n.val).salvage = [] ∧ (s.port n.val).tx = [] ∧
      (s.port n.val).salvDone = none) ∧
    (∃ (n : Fin 96) (s : State), portState s n.val = stBroken ∧ (s.port n.val).salvDone ≠ none ∧ (s.port n.val).ldLeft = 0) ∧
    (∃ (n : Fin 96) (s : State), portState s n.val ≠ stBroken) :=
  ⟨⟨95, prt 95 stRetrain PortSt.init, by decide⟩,
    ⟨95, prt 95 stUp PortSt.init, by decide⟩,
    ⟨.mp, 95, prt 95 stUp PortSt.init, by unfold Takes; decide⟩,
    ⟨.mp, 95, prt 95 stUp PortSt.init, by unfold Takes; decide⟩,
    ⟨95, 6, prt 95 stBroken { PortSt.init with ldThen := .toDown 6 }, by decide⟩,
    ⟨95, prt 95 stBroken { PortSt.init with ldThen := .reset }, by decide⟩,
    ⟨95, prt 95 stBroken { PortSt.init with ldLeft := 1 }, by decide⟩,
    ⟨95, prt 95 stBroken PortSt.init, by decide⟩,
    ⟨95, prt 95 stBroken { PortSt.init with salvDone := some 0 }, by decide⟩,
    ⟨95, prt 95 stUp PortSt.init, by decide⟩⟩

theorem witness_TimebaseExchangesRunAndPortCountersClear :
    (∃ (n : Fin 96) (s : State), portRunning s n.val = true ∧ timeStarter s = some n.val ∧ (s.port n.val).exch = none) ∧
    (∃ (n : Fin 96) (s : State), timeStarter s ≠ some n.val) ∧
    (∃ (n : Fin 96) (s : State), rxOff s n.val = false ∧ (linkAlive s n.val = true ∨ (s.port n.val).phase = 4)) ∧
    (∃ (n : Fin 96) (t1 : LinkTime) (s : State), rxOff s n.val = false ∧ (s.port n.val).exch = some t1 ∧ (s.port n.val).upWaits = false) ∧
    (∃ (n : Fin 96) (s : State), (s.port n.val).upWaits = true) ∧
    (∃ (r : Route) (n : Fin 96) (s : State), Takes s r (portCtl n.val)) :=
  ⟨⟨95, (prt 95 stUp PortSt.init).wr (portBase 95) Reg.Port.PORT_CFG_TIME_FOLLOW 1, by decide⟩,
    ⟨95, up, by decide⟩,
    ⟨95, prt 95 stUp PortSt.init, by decide⟩,
    ⟨95, { ns := 1, frac := 0 }, prt 95 stUp { PortSt.init with exch := some ({ ns := 1, frac := 0 }) }, by decide⟩,
    ⟨95, prt 95 stDown { PortSt.init with phase := 4, upWaits := true }, by decide⟩,
    ⟨.mp, 95, (prt 95 stUp PortSt.init).wr (portBase 95) Reg.Port.CRC_ERR_CNT 4, by unfold Takes; decide⟩⟩

theorem witness_CongestionEstimatesFollowTheirSamples :
    (∃ (s : State), s.rd atBase Reg.Atlas.CONTOUR_CFG_EN = 0) ∧
    (∃ (n : Fin 96) (s : State), look s.route.warmAt n.val ≠ none) :=
  ⟨⟨{ up with route := { up.route with est := [(0, 5000, 1)] } }, by decide⟩,
    ⟨95, { up with route := { up.route with warmAt := [(95, 1)] } }, by decide⟩⟩

theorem witness_ManagementPacketsAreTakenOrDiscarded :
    (∃ (p : Fin 128) (vc : Fin 16) (c : SwPkt) (s : State), look s.switch.cur (inKey p.val vc.val) = some c ∧ c.phase = .waiting ∧
      c.rh.vclass.toNat = clsFmgt ∧ c.whole = true ∧ c.checked = true ∧ writtenBy s (inKey p.val vc.val) = []) ∧
    (∃ (p : Packet) (rest : List Packet) (s : State), fatalStopped s = false ∧ unitOff s .mgmtProc = false ∧
      lookD s.switch.inbox 126 [] = p :: rest ∧ p.op ≠ opTunnel ∧ p.tr.stomp = 0 ∧ p.whole = true ∧ p.malformed = false ∧
      fmgtDup s p = false) ∧
    (∃ (p : Packet) (rest : List Packet) (room : Bool) (s : State), fatalStopped s = false ∧ lookD s.switch.inbox 126 [] = p :: rest ∧
      p.op ≠ opTunnel ∧ (unitOff s .mgmtProc = true ∨ (p.tr.stomp = 0 ∧ p.whole = true ∧ p.malformed = false ∧
      (fmgtDup s p = true ∨ room = false)))) ∧
    (∃ (p : Packet) (rest : List Packet) (s : State), fatalStopped s = false ∧ unitOff s .mgmtProc = false ∧
      lookD s.switch.inbox 126 [] = p :: rest ∧ p.op ≠ opTunnel ∧ p.tr.stomp ≠ 0) :=
  ⟨⟨0, 15, { swp (pk 66 5 0x20 2 0 0 [0] (List.replicate 16 0)) .waiting 126 5 with checked := true },
      cur up 15 ({ swp (pk 66 5 0x20 2 0 0 [0] (List.replicate 16 0)) .waiting 126 5 with checked := true }), by decide⟩,
    ⟨pk 66 5 0x20 2 0 0 [0] (List.replicate 16 0), [], inb up 126 (pk 66 5 0x20 2 0 0 [0] (List.replicate 16 0)), by decide⟩,
    ⟨pk 66 5 0x20 2 0 0 [0] (List.replicate 16 0), [], false, inb up 126 (pk 66 5 0x20 2 0 0 [0] (List.replicate 16 0)), by decide⟩,
    ⟨{ pk 66 5 0x20 2 0 0 [0] (List.replicate 16 0) with tr := { crc := 0, stomp := 0xA5, reason := 1, dev := 0 } }, [],
      inb up 126 ({ pk 66 5 0x20 2 0 0 [0] (List.replicate 16 0) with tr := { crc := 0, stomp := 0xA5, reason := 1, dev := 0 } }),
      by decide⟩⟩

theorem witness_AtlasTablesTakeTheirWrites :
    (∃ (r : Route) (v : Fin 2) (e : AtlasEntry) (w : Fin 3) (s : State), Takes s r (entryBase v.val e + 4 * w.val)) ∧
    (∃ (r : Route) (v : Fin 2) (e : AtlasEntry) (y : Nat) (w : Fin 3) (s : State), Takes s r (entryBase v.val e + 12) ∧
      look s.route.latch (routeIdx r) = some (entryBase v.val e, [(w.val, y)])) ∧
    (∃ (r : Route) (v : Fin 2) (i : Fin 256) (s : State), Takes s r (atBase + 0x10000 * v.val + 4 * i.val + Reg.Atlas.WAYPOINT_ENTRY.off)) ∧
    (∃ (r : Route) (x : BitVec 32) (s : State), Takes s r (atBase + 0x40) ∧ bitOf x.toNat 8 = false ∧
      injValid ((s.wr atBase Reg.Atlas.ATLAS_CTL_VALID0 (x.toNat % 2)).wr atBase Reg.Atlas.ATLAS_CTL_VALID1 (x.toNat / 2 % 2)) = injValid s) ∧
    (∃ (r : Route) (x : BitVec 32) (s : State), Takes s r (atBase + 0x40) ∧ bitOf x.toNat 8 = false ∧
      injValid ((s.wr atBase Reg.Atlas.ATLAS_CTL_VALID0 (x.toNat % 2)).wr atBase Reg.Atlas.ATLAS_CTL_VALID1 (x.toNat / 2 % 2)) ≠ injValid s) ∧
    (∃ (r : Route) (x : BitVec 32) (s : State), Takes s r (atBase + 0x40) ∧ bitOf x.toNat 8 = true) :=
  ⟨⟨.mp, 1, .group 2047, 2, up, by unfold Takes; decide⟩,
    ⟨.mp, 1, .device 31, 5, 2, { up with route := { up.route with latch := [(0, entryBase 1 (.device 31), [(2, 5)])] } },
      by unfold Takes; decide⟩,
    ⟨.mp, 1, 255, up, by unfold Takes; decide⟩,
    ⟨.mp, 2, up, by unfold Takes; decide⟩,
    ⟨.mp, 3, up, by unfold Takes; decide⟩,
    ⟨.mp, 0x103, up, by unfold Takes; decide⟩⟩

theorem witness_FenceStoreAndContourPeriods :
    (∃ (ch : BitVec 20) (x : ChanSt) (h : FenceHeld) (s : State), s.chan ch.toNat = some x ∧ s.route.fence = [h] ∧ h.channel = ch.toNat ∧
      fenceOpen x h.pkt = true ∧ (step67 (setFence (drawSpace s h.pkt).2 []) ch.toNat h.pkt false (drawSpace s h.pkt).1).1 = false ∧
      (step67 (setFence (drawSpace s h.pkt).2 []) ch.toNat h.pkt false (drawSpace s h.pkt).1).2.route.fence = []) ∧
    (∃ (ch : BitVec 20) (x : ChanSt) (s : State), s.chan ch.toNat = some x ∧ (∀ h ∈ s.route.fence,
      h.channel = ch.toNat → fenceOpen x h.pkt = false)) ∧
    (∃ (ch : BitVec 20) (psn : BitVec 24) (h : FenceHeld) (s : State), h ∈ s.route.fence ∧ h.channel = ch.toNat ∧ h.pkt.th.psn = psn) ∧
    (∃ (s : State), s.rd atBase Reg.Atlas.CONTOUR_CFG_EN ≠ 0 ∧ look s.mg.streams 1 ≠ none) ∧
    (∃ (s : State), s.rd atBase Reg.Atlas.CONTOUR_CFG_EN = 0) :=
  ⟨⟨1, ch0 { Ctx.zero with state := csOpen, rcvNxt := 5 },
      { channel := 1, pkt := { pk 64 2 1 2 1 5 [] [] with rh := { (pk 64 2 1 2 1 5 [] []).rh with fence := true } }, since := 0 },
      { (chn up 1 (ch0 { Ctx.zero with state := csOpen, rcvNxt := 5 })) with route := { up.route with fence := [({ channel := 1, pkt := { pk 64 2 1 2 1 5 [] [] with rh := { (pk 64 2 1 2 1 5 [] []).rh with fence := true } }, since := 0 })] } },
      by decide⟩,
    ⟨1, ch0 { Ctx.zero with state := csOpen, rcvNxt := 5 }, chn up 1 (ch0 { Ctx.zero with state := csOpen, rcvNxt := 5 }), by decide⟩,
    ⟨1, 5, { channel := 1, pkt := pk 64 2 1 2 1 5 [] [], since := 0 },
      { up with route := { up.route with fence := [({ channel := 1, pkt := pk 64 2 1 2 1 5 [] [], since := 0 })] } }, by decide⟩,
    ⟨{ reg atBase Reg.Atlas.CONTOUR_CFG_EN 1 with mg := { up.mg with streams := [(1, { session := 1, rate := 1, decim := 1, count := 0 })] } },
      by decide⟩,
    ⟨up, by decide⟩⟩

theorem witness_ChannelCommandsRunOnResidentContexts :
    (∃ (r : Route) (c : Fin 4) (ch : Nat) (x : ChanSt) (s : State), Takes s r (clusterBase c.val + 0x84) ∧ clusterLost s c.val = false ∧
      s.rd (clusterBase c.val) Reg.Tc.CMD_STATUS_BUSY = 0 ∧ s.rd (clusterBase c.val) Reg.Tc.CHAN_CMD_CHANNEL = ch ∧ clusterOf ch = c.val ∧
      ctxExists s ch = true ∧ s.chan ch = some x) ∧
    (∃ (r : Route) (c : Fin 4) (ch : Nat) (x : ChanSt) (s : State), Takes s r (clusterBase c.val + 0x84) ∧ clusterLost s c.val = false ∧
      s.rd (clusterBase c.val) Reg.Tc.CMD_STATUS_BUSY = 0 ∧ s.rd (clusterBase c.val) Reg.Tc.CHAN_CMD_CHANNEL = ch ∧ clusterOf ch = c.val ∧
      ctxExists s ch = true ∧ look s.tp.chans ch = some x ∧ x.resident = false ∧ x.fetching = true) ∧
    (∃ (r : Route) (c : Fin 4) (i : Instr) (s : State), Takes s r (clusterBase c.val + 0x84) ∧ clusterLost s c.val = false ∧
      s.rd (clusterBase c.val) Reg.Tc.CMD_STATUS_BUSY = 0 ∧ ctxExists s (s.rd (clusterBase c.val) Reg.Tc.CHAN_CMD_CHANNEL) = false ∧
      i ∈ [Instr.openCmd r c, .modify r c, .close r c, .closeForce r c, .query r c]) ∧
    (∃ (r : Route) (c : Fin 4) (i : Instr) (s : State), Takes s r (clusterBase c.val + 0x84) ∧ clusterLost s c.val = false ∧
      s.rd (clusterBase c.val) Reg.Tc.CMD_STATUS_BUSY ≠ 0 ∧ i ∈ [Instr.openCmd r c, .modify r c, .close r c, .closeForce r c, .query r c]) ∧
    (∃ (k : Nat), k < 16) ∧
    (∃ (x : ChanSt), x.ctx.state ≠ csClosed) ∧
    (∃ (ch : Nat) (x : ChanSt) (s : State), x.ctx.state = csOpen ∧ s.chanAny ch = some x) ∧
    (∃ (x : ChanSt), x.ctx.state = csClosed) :=
  ⟨⟨.mp, 3, 7, ch0 Ctx.zero, chn (regs [(clusterBase 3, Reg.Tc.CTX_CFG_EN, 1), (clusterBase 3, Reg.Tc.CTX_ENTRIES, 8), (clusterBase 3,
      Reg.Tc.CHAN_CMD_CHANNEL, 7)]) 7 (ch0 Ctx.zero), by unfold Takes; decide⟩,
    ⟨.mp, 3, 7, { ch0 Ctx.zero with resident := false, fetching := true }, chn (regs [(clusterBase 3, Reg.Tc.CTX_CFG_EN, 1),
      (clusterBase 3, Reg.Tc.CTX_ENTRIES, 8), (clusterBase 3, Reg.Tc.CHAN_CMD_CHANNEL,
      7)]) 7 { ch0 Ctx.zero with resident := false, fetching := true }, by unfold Takes; decide⟩,
    ⟨.mp, 3, .close (.mp) (3), up, by unfold Takes; decide⟩,
    ⟨.mp, 3, .query (.mp) (3), reg (clusterBase 3) Reg.Tc.CMD_STATUS_BUSY 1, by unfold Takes; decide⟩,
    ⟨15, by decide⟩,
    ⟨ch0 { Ctx.zero with state := csError }, by decide⟩,
    ⟨7, { ch0 { Ctx.zero with state := csOpen } with unacked := 1 }, chn up 7 { ch0 { Ctx.zero with state := csOpen } with unacked := 1 },
      by decide⟩,
    ⟨ch0 Ctx.zero, by decide⟩⟩

theorem witness_ContextsComeAndGo :
    (∃ (ch : Fin 1048576) (x : ChanSt) (s : State), s.chan ch.val = some x ∧ closable x = true) ∧
    (∃ (ch : Fin 1048576) (s : State), (∀ x ∈ s.chan ch.val, closable x = false)) ∧
    (∃ (ch : Nat) (x : ChanSt) (s : State), s.chanAny ch = some x ∧ x.closers = []) ∧
    (∃ (ch : Fin 1048576) (words : Option (List (BitVec 32))) (x : ChanSt) (c : Ctx) (s : State), let u := countEv s (tpUnit ch.val) (CntEvent.plain 0x101 (s.now - x.fetchAt));
      look s.tp.chans ch.val = some x ∧ x.fetching = true ∧ x.slotWait = false ∧ x.parked = [] ∧ x.parkDrop = none ∧ (∀ k ∈ s.tp.cmds,
      k.ch ≠ ch.val) ∧ (∀ k ∈ s.tp.scans, k.ch ≠ ch.val) ∧ (∀ kv ∈ s.doms, kv.2.owed = []) ∧ (s.fn c.owner).resetting = false ∧
      fetchedCtx u ch.val words = some c) ∧
    (∃ (ch : Fin 1048576) (words : Option (List (BitVec 32))) (x : ChanSt) (s : State), let u := countEv s (tpUnit ch.val) (CntEvent.plain 0x101 (s.now - x.fetchAt));
      look s.tp.chans ch.val = some x ∧ x.fetching = true ∧ x.slotWait = false ∧ fetchedCtx u ch.val words = none) ∧
    (∃ (ch : Fin 1048576) (s : State), (∀ x ∈ look s.tp.chans ch.val, x.fetching = false ∨ x.slotWait = true) ∧ (∀ k ∈ s.tp.scans,
      k.ch ≠ ch.val)) ∧
    (∃ (ch : Fin 1048576) (x : ChanSt) (s : State), look s.tp.chans ch.val = some x ∧ x.writing = true ∧ (∀ kv ∈ s.doms, kv.2.owed = [])) ∧
    (∃ (ch : Fin 1048576) (x : ChanSt) (s : State), look s.tp.chans ch.val = some x ∧ x.writing = true ∧
      (x.ctx.state = csClosed ∨ x.ctx.state = csError)) ∧
    (∃ (ch : Fin 1048576) (x : ChanSt) (s : State), look s.tp.chans ch.val = some x ∧ x.writing = true ∧
      (x.ctx.state = csOpen ∨ x.ctx.state = csClosing)) :=
  ⟨⟨1048575, ch0 { Ctx.zero with state := csClosing }, chn up 1048575 (ch0 { Ctx.zero with state := csClosing }), by decide⟩,
    ⟨7, up, by decide⟩,
    ⟨7, ch0 { Ctx.zero with state := csClosing }, chn up 7 (ch0 { Ctx.zero with state := csClosing }), by decide⟩,
    ⟨7, some (List.replicate 64 0), { ch0 Ctx.zero with fetching := true, resident := false }, Ctx.ofWords (List.replicate 64 0),
      chn (regs [(clusterBase 3, Reg.Tc.CTX_CFG_EN, 1), (clusterBase 3, Reg.Tc.CTX_CFG_LOC, 1), (clusterBase 3, Reg.Tc.CTX_ENTRIES,
      8)]) 7 { ch0 Ctx.zero with fetching := true, resident := false }, by intros; decide⟩,
    ⟨7, none, { ch0 Ctx.zero with fetching := true, resident := false }, chn (regs [(clusterBase 3, Reg.Tc.CTX_CFG_EN, 1), (clusterBase 3,
      Reg.Tc.CTX_CFG_LOC, 1), (clusterBase 3, Reg.Tc.CTX_ENTRIES, 8)]) 7 { ch0 Ctx.zero with fetching := true, resident := false },
      by intros; decide⟩,
    ⟨7, up, by decide⟩,
    ⟨7, { ch0 Ctx.zero with writing := true }, chn up 7 { ch0 Ctx.zero with writing := true }, by decide⟩,
    ⟨7, { ch0 Ctx.zero with writing := true }, chn up 7 { ch0 Ctx.zero with writing := true }, by decide⟩,
    ⟨7, { ch0 { Ctx.zero with state := csClosing } with writing := true },
      chn up 7 { ch0 { Ctx.zero with state := csClosing } with writing := true }, by decide⟩⟩

theorem witness_ChannelsSendAndReadPayloads :
    (∃ (ch : Fin 1048576) (s : State), (mayOriginate s = false ∨ (∀ x ∈ s.chan ch.val, (x.ctx.state ≠ csOpen ∧
      x.ctx.state ≠ csClosing) ∨ nextPkt ch.val x = none))) ∧
    (∃ (ch : Fin 1048576) (x : ChanSt) (j : Job) (p : SentPkt) (s : State), mayOriginate s = true ∧ s.chan ch.val = some x ∧
      x.ctx.state = csOpen ∧ nextPkt ch.val x = some (.fresh j p) ∧ windowOf ch.val ≤ psnDist x.ctx.sndUna x.high) ∧
    (∃ (ch : Nat) (x : ChanSt) (s : State), s.chan ch = some x) ∧
    (∃ (ch : Fin 1048576) (x : ChanSt) (psn : Nat) (id : Nat) (l : List Chunk) (s : State), s.chan ch.val = some x ∧ x.reading = some (psn,
      id, l) ∧ readDone s id = true) ∧
    (∃ (ch : Fin 1048576) (s : State), (∀ x ∈ s.chan ch.val, ∀ y ∈ x.reading, readDone s y.2.1 = false)) ∧
    (∃ (ch : Fin 1048576) (psn : Fin 16777216) (s : State), (∀ x ∈ s.chan ch.val, ∀ r ∈ x.rsps, r.psn ≠ psn.val)) :=
  ⟨⟨7, up, by decide⟩,
    ⟨7, { ch0 { Ctx.zero with state := csOpen, sndNxt := 2048 } with jobs := [{ rndv0 with cut := false }] }, { rndv0 with cut := false },
      cutPkt ({ ch0 { Ctx.zero with state := csOpen, sndNxt := 2048 } with jobs := [{ rndv0 with cut := false }] }).ctx ({ rndv0 with cut := false }) ({ ch0 { Ctx.zero with state := csOpen, sndNxt := 2048 } with jobs := [{ rndv0 with cut := false }] }).high,
      chn (regs [(0, Reg.Root.DEV_CICEN_ID_VALID, 1), (atBase, Reg.Atlas.ATLAS_CTL_VALID0,
      1)]) 7 { ch0 { Ctx.zero with state := csOpen, sndNxt := 2048 } with jobs := [{ rndv0 with cut := false }] }, by decide⟩,
    ⟨7, sending, chn up 7 sending, by decide⟩,
    ⟨7, { ch0 { Ctx.zero with state := csOpen } with reading := some (3, 1, []) }, 3, 1, [],
      chn up 7 { ch0 { Ctx.zero with state := csOpen } with reading := some (3, 1, []) }, by decide⟩,
    ⟨7, up, by decide⟩,
    ⟨7, 4, up, by decide⟩⟩

theorem witness_DeliveredPacketsReachTheirRules :
    (∃ (c : Fin 4) (p : Packet) (s : State) (t : State), fatalStopped s = false ∧
      takeInbox s (tpPorts c.val) (fun p => !(answerOp p.op) && p.op != opTunnel) = some (p, t) ∧ arriveGood t c.val p = none ∧
      requestOp p.op = true) ∧
    (∃ (c : Fin 4) (p : Packet) (s : State) (t : State), fatalStopped s = false ∧
      takeInbox s (tpPorts c.val) (fun p => p.op == opAck) = some (p, t) ∧ arriveGood t c.val p = none) ∧
    (∃ (c : Fin 4) (p : Packet) (s : State) (t : State), fatalStopped s = false ∧
      takeInbox s (tpPorts c.val) (fun p => p.op == opNak) = some (p, t) ∧ arriveGood t c.val p = none) ∧
    (∃ (c : Fin 4) (p : Packet) (s : State) (t : State), fatalStopped s = false ∧
      takeInbox s (tpPorts c.val) (fun p => p.op == opReadRsp) = some (p, t) ∧ arriveGood t c.val p = none) ∧
    (∃ (c : Fin 4) (space : Bool) (i : Instr) (s : State), (fatalStopped s = true ∨ (∀ p ∈ tpPorts c.val,
      lookD s.switch.inbox p [] = [])) ∧ i ∈ [Instr.channelPacketReceive c space, .ackReceive c, .nakReceive c, .readRspReceive c]) ∧
    (∃ (c : Fin 4) (space : Bool) (i : Instr) (p : Packet) (rest : List Packet) (s : State), fatalStopped s = false ∧
      clusterLost s c.val = false ∧ lookD s.switch.inbox (112 + 3 * c.val) [] = p :: rest ∧ p.rh.mc = false ∧ p.tr.stomp.toNat = 0xA5 ∧
      (requestOp p.op = true ∧ i = .channelPacketReceive c space ∨ p.op = opAck ∧ i = .ackReceive c ∨ p.op = opNak ∧
      i = .nakReceive c ∨ p.op = opReadRsp ∧ i = .readRspReceive c)) ∧
    (∃ (p : Packet) (s : State), answerOn s p = none) ∧
    (∃ (p : Packet) (s : State), s.on gzBase Reg.Gz.TR_CFG_EN = false ∧ ctxExists s p.th.channel.toNat = false) :=
  ⟨⟨3, pk 64 2 1 2 0xFF003 0 [0, 0, 0, 0] [1], inb up 121 (pk 64 2 1 2 0xFF003 0 [0, 0, 0, 0] [1]), inb0 up 121, by decide⟩,
    ⟨3, pk 64 1 0x10 1 7 0 [] [], inb up 121 (pk 64 1 0x10 1 7 0 [] []), inb0 up 121, by decide⟩,
    ⟨3, pk 64 1 0x11 1 7 0 [] [], inb up 121 (pk 64 1 0x11 1 7 0 [] []), inb0 up 121, by decide⟩,
    ⟨3, pk 64 1 3 1 7 0 [] [1], inb up 121 (pk 64 1 3 1 7 0 [] [1]), inb0 up 121, by decide⟩,
    ⟨3, false, .ackReceive (3), up, by decide⟩,
    ⟨3, false, .ackReceive (3), { (pk 64 1 0x10 1 7 0 [] []) with tr := { crc := 0, stomp := 0xA5, reason := 0, dev := 0 } }, [],
      inb up 121 { (pk 64 1 0x10 1 7 0 [] []) with tr := { crc := 0, stomp := 0xA5, reason := 0, dev := 0 } }, by decide⟩,
    ⟨pk 64 1 3 1 7 0 [] [1], up, by decide⟩,
    ⟨pk 64 2 1 2 7 0 [0, 0, 0, 0] [1], up, by decide⟩⟩

theorem witness_TransportTimersAndCompletionsAct :
    (∃ (ch : Fin 1048576) (x : ChanSt) (s : State), s.chan ch.val = some x ∧ x.ackAt ≠ none) ∧
    (∃ (ch : Fin 1048576) (s : State), (∀ x ∈ s.chan ch.val, x.ackAt = none)) ∧
    (∃ (ch : Fin 1048576) (x : ChanSt) (s : State), s.chan ch.val = some x ∧ x.outstanding = true ∧ x.ctx.retryCnt < x.ctx.retryMax) ∧
    (∃ (ch : Fin 1048576) (x : ChanSt) (s : State), s.chan ch.val = some x ∧ x.outstanding = true ∧ x.ctx.retryMax ≤ x.ctx.retryCnt) ∧
    (∃ (ch : Fin 1048576) (s : State), (∀ x ∈ s.chan ch.val, x.outstanding = false)) ∧
    (∃ (ch : Fin 1048576) (x : ChanSt) (n : Nat) (l : List Nat) (s : State), s.chan ch.val = some x ∧ x.backoff = n :: l) ∧
    (∃ (ch : Fin 1048576) (s : State), (∀ x ∈ s.chan ch.val, x.backoff = [])) ∧
    (∃ (ch : Fin 1048576) (x : ChanSt) (s : State), s.chan ch.val = some x ∧ x.ctx.ccEn = true) ∧
    (∃ (ch : Fin 1048576) (s : State), (∀ x ∈ s.chan ch.val, x.ctx.ccEn = false) ∧ (s.chan ch.val = none → look s.tp.priv ch.val = none)) ∧
    (∃ (ch : Fin 1048576) (k : EngPriv) (s : State), s.chan ch.val = none ∧ look s.tp.priv ch.val = some k ∧ k.ctx.ccEn = true) ∧
    (∃ (r : Route) (c : Fin 4) (s : State), Takes s r (clusterBase c.val + 0x90)) ∧
    (∃ (c : Fin 4) (q : HomeReq) (ch : Nat) (id : Nat) (n : Nat) (x : ChanSt) (s : State),
      s.mesh.cmps.find? (fun q => match q.asker with | .payload cl _ _ => cl == c.val | _ => false) = some q ∧
      q.asker = .payload c.val ch id ∧ ({ s with mesh := { s.mesh with cmps := s.mesh.cmps.erase q } } : State).chanAny ch = some x ∧
      x.vis = [(id, n + 2)]) ∧
    (∃ (s : State), s.mesh.cmps = []) :=
  ⟨⟨7, { ch0 { Ctx.zero with state := csOpen } with ackAt := some 5 },
      chn up 7 { ch0 { Ctx.zero with state := csOpen } with ackAt := some 5 }, by decide⟩,
    ⟨7, up, by decide⟩,
    ⟨7, sending, chn up 7 sending, by decide⟩,
    ⟨7, { sending with ctx := { sending.ctx with retryCnt := 5 } }, chn up 7 { sending with ctx := { sending.ctx with retryCnt := 5 } },
      by decide⟩,
    ⟨7, up, by decide⟩,
    ⟨0xFF007, { sending with backoff := [3] }, 3, [], chn up 0xFF007 { sending with backoff := [3] }, by decide⟩,
    ⟨7, up, by decide⟩,
    ⟨7, ch0 { Ctx.zero with ccEn := true, rate := 100 }, chn up 7 (ch0 { Ctx.zero with ccEn := true, rate := 100 }), by decide⟩,
    ⟨7, up, by decide⟩,
    ⟨7,
      { ctx := { Ctx.zero with ccEn := true }, rate := 5, cutAt := none, cutNow := false, nextStart := 0, nakAt := none, seqSeen := none },
      { up with tp := { up.tp with priv := [(7, { ctx := { Ctx.zero with ccEn := true }, rate := 5, cutAt := none, cutNow := false, nextStart := 0, nakAt := none, seqSeen := none })] } },
      by decide⟩,
    ⟨.mp, 3, reg (clusterBase 3) Reg.Tc.DUP_CNT 3, by unfold Takes; decide⟩,
    ⟨3,
      { kind := .wrNoAlloc, asker := .payload 3 7 1, line := 0, off := 0, bytes := [], bad := false, group := 1, seg := 0, tag := none, since := 0, held := false },
      7, 1, 0, { sending with vis := [(1, 2)] },
      { (chn up 7 ({ sending with vis := [(1, 2)] })) with mesh := { up.mesh with cmps := [({ kind := .wrNoAlloc, asker := .payload 3 7 1, line := 0, off := 0, bytes := [], bad := false, group := 1, seg := 0, tag := none, since := 0, held := false })] } },
      by decide⟩,
    ⟨up, by decide⟩⟩

theorem witness_IndexWritesAreTestedBeforeTheyAreTaken :
    (∃ (f : Fin 1024) (i : Fin 4096) (v : BitVec 32) (q : WqSt) (s : State), let n := 2 ^ q.logSize; fatalStopped s = false ∧
      fnReady s f.val = true ∧ localWq s f.val i.val = some q ∧ q.watched = false ∧ ringDist v.toNat (wqCi s q) ≤ n ∧
      ringDist v.toNat (wqPi s q) ≤ n) ∧
    (∃ (f : Fin 1024) (i : Fin 4096) (v : BitVec 32) (q : WqSt) (s : State), let n := 2 ^ q.logSize; fatalStopped s = false ∧
      fnReady s f.val = true ∧ localWq s f.val i.val = some q ∧ q.watched = false ∧
      (n < ringDist v.toNat (wqCi s q) ∨ n < ringDist v.toNat (wqPi s q))) ∧
    (∃ (f : Fin 1024) (i : Fin 4096) (q : WqSt) (s : State), fatalStopped s = false ∧ fnReady s f.val = true ∧
      localWq s f.val i.val = some q ∧ q.watched = true) ∧
    (∃ (f : Fin 1024) (i : Fin 4096) (x : CqSt) (s : State), fatalStopped s = false ∧ fnReady s f.val = true ∧
      localCq s f.val i.val = some x ∧ x.intEn = true ∧ cqPi s x ≠ cqCi s x ∧ msixOpen s x.fn x.vec = true) ∧
    (∃ (f : Fin 1024) (i : Fin 4096) (x : CqSt) (s : State), fatalStopped s = false ∧ fnReady s f.val = true ∧
      localCq s f.val i.val = some x ∧ x.intEn = true ∧ cqPi s x ≠ cqCi s x ∧ (s.fn x.fn).msixOn = true ∧ msixOpen s x.fn x.vec = false) ∧
    (∃ (f : Fin 1024) (i : Fin 4096) (x : CqSt) (s : State), fatalStopped s = false ∧ fnReady s f.val = true ∧
      localCq s f.val i.val = some x ∧ x.intEn = true ∧ cqPi s x ≠ cqCi s x ∧ (s.fn x.fn).msixOn = false) ∧
    (∃ (f : Fin 1024) (i : Fin 4096) (x : CqSt) (s : State), fatalStopped s = false ∧ fnReady s f.val = true ∧
      localCq s f.val i.val = some x ∧ x.intEn = true ∧ cqPi s x = cqCi s x) ∧
    (∃ (f : Fin 1024) (i : Fin 4096) (x : CqSt) (s : State), fatalStopped s = false ∧ fnReady s f.val = true ∧
      localCq s f.val i.val = some x ∧ x.intEn = false) ∧
    (∃ (f : Fin 1024) (s : State), fatalStopped s = false ∧ fnReady s f.val = true ∧ s.on (bar2 f.val) Reg.Bar2.EQ_CFG_EN = true) ∧
    (∃ (f : Fin 1024) (i : Fin 4096) (v : BitVec 32) (c : Instr) (s : State),
      (fatalStopped s = true ∨ fnReady s f.val = false ∨ localWq s f.val i.val = none ∧ localCq s f.val i.val = none) ∧
      c ∈ [Instr.wqDoorbell f i v, .cqCiWrite f i v, .cqArm f i]) ∧
    (∃ (f : Fin 1024) (s : State), (fatalStopped s = true ∨ fnReady s f.val = false)) ∧
    (∃ (f : Fin 1024) (i : Fin 2048) (v : BitVec 32) (s : State), fatalStopped s = false ∧ s.boot.hardTrip = false ∧
      (s.fn f.val).msixOn = true ∧ (s.fn f.val).msixMask = false ∧ msixPending s f.val i.val = true ∧ v.toNat % 2 = 0) :=
  ⟨⟨0, 7, 16, wq0, qs fn0 wq0 cq0, by intros; decide⟩,
    ⟨0, 7, 17, wq0, qs fn0 wq0 cq0, by intros; decide⟩,
    ⟨0, 7, { wq0 with watched := true }, qs fn0 { wq0 with watched := true } cq0, by decide⟩,
    ⟨0, 7, cq0, msix0 false ((qs fn0 wq0 cq0).wri (bar2 0) Reg.Bar2.CQ_PI 7 1), by decide⟩,
    ⟨0, 7, cq0, msix0 true ((qs fn0 wq0 cq0).wri (bar2 0) Reg.Bar2.CQ_PI 7 1), by decide⟩,
    ⟨0, 7, cq0, (qs fn0 wq0 cq0).wri (bar2 0) Reg.Bar2.CQ_PI 7 1, by decide⟩,
    ⟨0, 7, cq0, qs fn0 wq0 cq0, by decide⟩,
    ⟨0, 7, { cq0 with intEn := false }, qs fn0 wq0 { cq0 with intEn := false }, by decide⟩,
    ⟨0, fn0, by decide⟩,
    ⟨0, 7, 0, .cqArm (0) (7), up, by decide⟩,
    ⟨1, up, by decide⟩,
    ⟨0, 2047, 0, (msix0 true fn0).wri (bar2 0) Reg.Msix.PBA 63 0x80000000, by decide⟩⟩

theorem witness_WatchedLinesAndEntriesMove :
    (∃ (f : Fin 1024) (a : BitVec 64) (w : WatchSt) (l : List Chunk) (s : State) (t : State),
      s.wq.lines.find? (fun w => w.fn == f.val && w.addr == a.toNat) = some w ∧ w.reading = true ∧ clusterLost s w.cluster = false ∧
      xlate s f.val a.toNat 64 (accLocal false) = (.ok l, t) ∧ watchedLine l = none) ∧
    (∃ (f : Fin 1024) (a : BitVec 64) (w : WatchSt) (l : List Chunk) (n : Nat) (s : State) (t : State),
      s.wq.lines.find? (fun w => w.fn == f.val && w.addr == a.toNat) = some w ∧ w.reading = true ∧ clusterLost s w.cluster = false ∧
      xlate s f.val a.toNat 64 (accLocal false) = (.ok l, t) ∧ watchedLine l = some n) ∧
    (∃ (w : WatchSt), w.again = false) ∧
    (∃ (f : Fin 1024) (a : BitVec 64) (s : State), (∀ w ∈ s.wq.lines.find? (fun w => w.fn == f.val && w.addr == a.toNat),
      w.reading = false ∨ clusterLost s w.cluster = true)) ∧
    (∃ (w : WatchSt) (s : State), s.rd fnTab Reg.FnTab.WATCH_POLL_US ≠ 0 ∧ s.wq.lines = [w]) ∧
    (∃ (s : State), s.rd fnTab Reg.FnTab.WATCH_POLL_US = 0) ∧
    (∃ (g : Fin 65536) (q : WqSt) (l : List Chunk) (s : State) (t : State), s.wqAt g.val = some q ∧ clusterLost s q.cluster = false ∧
      (s.fn q.fn).resetting = false ∧ wqCi s q ≠ wqPi s q ∧ q.fetched.length < q.prefetch ∧ fetchRoom s (engineOf g.val q) g.val = true ∧
      xlate s q.fn (q.ring + 64 * (wqCi s q % 2 ^ q.logSize)) 64 (accLocal false) = (.ok l, t)) ∧
    (∃ (g : Fin 65536) (s : State), (∀ q ∈ s.wqAt g.val,
      clusterLost s q.cluster = true ∨ (s.fn q.fn).resetting = true ∨ wqCi s q = wqPi s q ∨ q.prefetch ≤ q.fetched.length ∨ fetchRoom s (engineOf g.val q) g.val = false)) ∧
    (∃ (g : Fin 65536) (q : WqSt) (x : Fetched) (rest : List Fetched) (b : List Byte) (s : State), s.wqAt g.val = some q ∧
      q.fetched = x :: rest ∧ x.bytes = some b ∧ x.table = none ∧ weKind b = 2 ∧ leAt b 0x20 8 % 16 ≠ 0) ∧
    (∃ (g : Fin 65536) (q : WqSt) (x : Fetched) (rest : List Fetched) (b : List Byte) (va : Nat) (l : List Chunk) (s : State) (t : State) (u : State),
      s.wqAt g.val = some q ∧ q.fetched = x :: rest ∧ x.bytes = some b ∧ x.table = none ∧ weKind b = 2 ∧ leAt b 0x20 8 % 16 = 0 ∧
      keyCheck s q.fn (leAt b 0x2C 4) (leAt b 0x20 8) (16 * weTblCount b) rLRead = (.ok va, t) ∧
      xlate t q.fn va (16 * weTblCount b) { accLocal false with key := leAt b 0x2C 4 / 256 } = (.ok l, u) ∧ gatherBad u l = false) ∧
    (∃ (g : Fin 65536) (s : State), (∀ q ∈ s.wqAt g.val, ∀ x ∈ q.fetched.head?, x.bytes = none ∨ x.table ≠ none ∨ ∀ b ∈ x.bytes,
      weKind b ≠ 2)) ∧
    (∃ (s : State), fatalStopped s = false) ∧
    (∃ (s : State), fatalStopped s = true) ∧
    (∃ (g : Nat) (q : WqSt) (s : State), s.wqAt g = some q ∧
      (q.fetched = [] ∨ q.waiting = true ∨ (s.fn q.fn).resetting = true ∨ ∀ c ∈ s.cqAt (cqNo s q.fn q.cq), cqRoom s c 1 = false)) ∧
    (∃ (x : Fetched), x.bytes = none) ∧
    (∃ (s : State) (x : Fetched) (b : List Byte), x.bytes = some b ∧ weOp b ≠ 4 ∧ weOp b ≠ 0x10 ∧ weFields s b = false) ∧
    (∃ (s : State) (q : WqSt) (x : Fetched) (b : List Byte), x.bytes = some b ∧ weOp b ∈ [1, 2, 3, 5] ∧ weFields s b = true ∧
      (clusterOf (weChan b) ≠ q.cluster ∨ ctxExists s (weChan b) = false)) ∧
    (∃ (g : Fin 65536) (q : WqSt) (l : List Chunk) (s : State) (t : State), s.wqAt g.val = some q ∧ wqCi s q ≠ q.wbCi ∧
      within s q.wbAt 256 = false ∧ q.wb ≠ 0 ∧ xlate s q.fn q.wb 4 (accLocal true) = (.ok l, t)) ∧
    (∃ (g : Fin 65536) (q : WqSt) (s : State) (t : State), s.wqAt g.val = some q ∧ wqCi s q ≠ q.wbCi ∧ within s q.wbAt 256 = false ∧
      q.wb ≠ 0 ∧ xlate s q.fn q.wb 4 (accLocal true) = (.fault, t)) ∧
    (∃ (g : Fin 65536) (x : CqSt) (l : List Chunk) (s : State) (t : State), s.cqAt g.val = some x ∧ cqPi s x ≠ x.wbPi ∧
      within s x.wbAt 256 = false ∧ x.wb ≠ 0 ∧ xlate s x.fn x.wb 4 (accLocal true) = (.ok l, t)) ∧
    (∃ (g : Fin 65536) (s : State), (∀ q ∈ s.wqAt g.val, wqCi s q = q.wbCi ∨ within s q.wbAt 256 = true)) ∧
    (∃ (g : Fin 65536) (s : State), (∀ x ∈ s.cqAt g.val, cqPi s x = x.wbPi ∨ within s x.wbAt 256 = true)) :=
  ⟨⟨0, 0x8000000000000, { line0 with reading := true },
      [chunk (xlate (lines ({ line0 with reading := true })) 0 hostA 64 (accLocal false)).1], lines ({ line0 with reading := true }),
      (xlate (lines ({ line0 with reading := true })) 0 hostA 64 (accLocal false)).2, by decide⟩,
    ⟨0, 0, { line0 with addr := 0, reading := true },
      [chunk (xlate (ext (lines ({ line0 with addr := 0, reading := true })) 0 { ExtSt.init with owner := .fabric }) 0 0 64 (accLocal false)).1],
      0, ext (lines ({ line0 with addr := 0, reading := true })) 0 { ExtSt.init with owner := .fabric },
      (xlate (ext (lines ({ line0 with addr := 0, reading := true })) 0 { ExtSt.init with owner := .fabric }) 0 0 64 (accLocal false)).2,
      by decide⟩,
    ⟨line0, by decide⟩,
    ⟨0, 7, up, by decide⟩,
    ⟨line0, (lines line0).wr fnTab Reg.FnTab.WATCH_POLL_US 1, by decide⟩,
    ⟨up.wr fnTab Reg.FnTab.WATCH_POLL_US 0, by decide⟩,
    ⟨7, wq0, [chunk (xlate ((qs fn0 wq0 cq0).wri (bar2 0) Reg.Bar2.WQ_PI 7 1) 0 hostA 64 (accLocal false)).1],
      (qs fn0 wq0 cq0).wri (bar2 0) Reg.Bar2.WQ_PI 7 1,
      (xlate ((qs fn0 wq0 cq0).wri (bar2 0) Reg.Bar2.WQ_PI 7 1) 0 hostA 64 (accLocal false)).2, by decide⟩,
    ⟨7, qs fn0 wq0 cq0, by decide⟩,
    ⟨7, { wq0 with fetched := [({ index := 0, bytes := some (entry [(1, 8), (0x20, 1)]), table := none, asked := false })] },
      { index := 0, bytes := some (entry [(1, 8), (0x20, 1)]), table := none, asked := false }, [], entry [(1, 8), (0x20, 1)],
      qs fn0 ({ wq0 with fetched := [({ index := 0, bytes := some (entry [(1, 8), (0x20, 1)]), table := none, asked := false })] }) cq0,
      by decide⟩,
    ⟨7,
      { wq0 with fetched := [({ index := 0, bytes := some (entry [(1, 8), (0x26, 8), (0x28, 1), (0x2C, 1), (0x2D, 8)]), table := none, asked := false })] },
      { index := 0, bytes := some (entry [(1, 8), (0x26, 8), (0x28, 1), (0x2C, 1), (0x2D, 8)]), table := none, asked := false }, [],
      entry [(1, 8), (0x26, 8), (0x28, 1), (0x2C, 1), (0x2D, 8)], hostA,
      [chunk (xlate ({ (qs (((fn0.wr xlBase Reg.Xl.KEY_CFG_EN 1).wr xlBase Reg.Xl.KEY_ENTRIES 16).wr xlBase Reg.FnXl.KEY_COUNT 16) ({ wq0 with fetched := [({ index := 0, bytes := some (entry [(1, 8), (0x26, 8), (0x28, 1), (0x2C, 1), (0x2D, 8)]), table := none, asked := false })] }) cq0) with xl := { fn0.xl with keys := [(8, { valid := true, rights := 15, zeroBased := false, tag := 1, owner := 0, base := 0, length := 2 ^ 60 })] } }) 0 hostA 16 { accLocal false with key := 8 }).1],
      { (qs (((fn0.wr xlBase Reg.Xl.KEY_CFG_EN 1).wr xlBase Reg.Xl.KEY_ENTRIES 16).wr xlBase Reg.FnXl.KEY_COUNT 16) ({ wq0 with fetched := [({ index := 0, bytes := some (entry [(1, 8), (0x26, 8), (0x28, 1), (0x2C, 1), (0x2D, 8)]), table := none, asked := false })] }) cq0) with xl := { fn0.xl with keys := [(8, { valid := true, rights := 15, zeroBased := false, tag := 1, owner := 0, base := 0, length := 2 ^ 60 })] } },
      ({ (qs (((fn0.wr xlBase Reg.Xl.KEY_CFG_EN 1).wr xlBase Reg.Xl.KEY_ENTRIES 16).wr xlBase Reg.FnXl.KEY_COUNT 16) ({ wq0 with fetched := [({ index := 0, bytes := some (entry [(1, 8), (0x26, 8), (0x28, 1), (0x2C, 1), (0x2D, 8)]), table := none, asked := false })] }) cq0) with xl := { fn0.xl with keys := [(8, { valid := true, rights := 15, zeroBased := false, tag := 1, owner := 0, base := 0, length := 2 ^ 60 })] } }),
      (xlate ({ (qs (((fn0.wr xlBase Reg.Xl.KEY_CFG_EN 1).wr xlBase Reg.Xl.KEY_ENTRIES 16).wr xlBase Reg.FnXl.KEY_COUNT 16) ({ wq0 with fetched := [({ index := 0, bytes := some (entry [(1, 8), (0x26, 8), (0x28, 1), (0x2C, 1), (0x2D, 8)]), table := none, asked := false })] }) cq0) with xl := { fn0.xl with keys := [(8, { valid := true, rights := 15, zeroBased := false, tag := 1, owner := 0, base := 0, length := 2 ^ 60 })] } }) 0 hostA 16 { accLocal false with key := 8 }).2,
      by decide⟩,
    ⟨7, qs fn0 wq0 cq0, by decide⟩,
    ⟨up, by decide⟩,
    ⟨reg 0 Reg.Err.ERR_STATUS_FATAL 1, by decide⟩,
    ⟨7, wq0, qs fn0 wq0 cq0, by decide⟩,
    ⟨{ index := 0, bytes := none, table := none, asked := false }, by decide⟩,
    ⟨up, { index := 0, bytes := some (entry [(0, 1)]), table := none, asked := false }, entry [(0, 1)], by decide⟩,
    ⟨up, wq0, { index := 0, bytes := some (entry [(0, 1), (1, 4), (0x1C, 1)]), table := none, asked := false }, entry [(0, 1), (1, 4),
      (0x1C, 1)], by decide⟩,
    ⟨7, { wq0 with wbCi := 1 }, [chunk (xlate (qs fn0 ({ wq0 with wbCi := 1 }) cq0) 0 hostA 4 (accLocal true)).1],
      qs fn0 ({ wq0 with wbCi := 1 }) cq0, (xlate (qs fn0 ({ wq0 with wbCi := 1 }) cq0) 0 hostA 4 (accLocal true)).2, by decide⟩,
    ⟨7, { wq0 with wbCi := 1, wb := 2 ^ 48 }, qs fn0 ({ wq0 with wbCi := 1, wb := 2 ^ 48 }) cq0,
      (xlate (qs fn0 ({ wq0 with wbCi := 1, wb := 2 ^ 48 }) cq0) 0 (2 ^ 48) 4 (accLocal true)).2, by decide⟩,
    ⟨7, { cq0 with wb := hostA, wbPi := 1 },
      [chunk (xlate (qs fn0 wq0 ({ cq0 with wb := hostA, wbPi := 1 })) 0 hostA 4 (accLocal true)).1],
      qs fn0 wq0 ({ cq0 with wb := hostA, wbPi := 1 }),
      (xlate (qs fn0 wq0 ({ cq0 with wb := hostA, wbPi := 1 })) 0 hostA 4 (accLocal true)).2, by decide⟩,
    ⟨7, up, by decide⟩,
    ⟨7, up, by decide⟩⟩

theorem witness_QueueCommandsRunOnReadyFunctions :
    (∃ (r : Route) (f : Fin 1024) (s : State), Takes s r (fnTab + 0x101C + 32 * f.val) ∧ fnRd s f.val Reg.FnTab.FN_VALID = 0 ∧
      fnRangesGood s f.val = true) ∧
    (∃ (r : Route) (f : Fin 1024) (s : State), Takes s r (fnTab + 0x101C + 32 * f.val) ∧ fnRd s f.val Reg.FnTab.FN_VALID = 0 ∧
      fnRangesGood s f.val = false) ∧
    (∃ (r : Route) (f : Fin 1024) (s : State), Takes s r (fnTab + 0x101C + 32 * f.val) ∧ fnRd s f.val Reg.FnTab.FN_VALID = 1) ∧
    (∃ (s : State), fatalStopped s = true) ∧
    (∃ (f : Nat) (k : Nat), bar2 f ≤ k / 32 ∧ k / 32 < bar2 f + 0x34000) ∧
    (∃ (f : Fin 1024) (s : State), (s.fn f.val).resetting = true ∧ (∀ t ∈ liveTags s, t.fn ≠ f.val) ∧ (∀ k ∈ s.tp.scans, k.fn ≠ f.val)) ∧
    (∃ (f : Fin 1024) (s : State), (s.fn f.val).resetting = false ∨ (∃ t ∈ liveTags s, t.fn = f.val) ∨ (∃ k ∈ s.tp.scans, k.fn = f.val)) ∧
    (∃ (f : Fin 1024) (s : State), fatalStopped s = false ∧ fnReady s f.val = true ∧ s.on (bar2 f.val) Reg.Bar2.CMD_STATUS_BUSY = false) ∧
    (∃ (f : Fin 1024) (i : Instr) (s : State),
      (fatalStopped s = true ∨ fnReady s f.val = false ∨ s.on (bar2 f.val) Reg.Bar2.CMD_STATUS_BUSY = true) ∧
      i ∈ [Instr.wqCreate f, .wqModify f, .cqCreate f, .wqQuery f, .cqQuery f, .chOpen f, .chModify f, .chClose f, .chCloseForce f, .chQuery f]) ∧
    (∃ (f : Nat) (op : Nat) (s : State), (op ∈ [1, 2, 4] ∧ fnRd s f Reg.FnTab.FN_WQ_COUNT ≤ s.rd (bar2 f) Reg.Bar2.CMD_ARG ∨ op ∈ [3, 5] ∧
      fnRd s f Reg.FnTab.FN_CQ_COUNT ≤ s.rd (bar2 f) Reg.Bar2.CMD_ARG)) ∧
    (∃ (f : Nat) (q : WqSt) (s : State), s.rd (bar2 f) Reg.Bar2.CMD_ARG < fnRd s f Reg.FnTab.FN_WQ_COUNT ∧
      localWq s f (s.rd (bar2 f) Reg.Bar2.CMD_ARG) = some q) ∧
    (∃ (f : Nat) (s : State), s.rd (bar2 f) Reg.Bar2.CMD_ARG < fnRd s f Reg.FnTab.FN_WQ_COUNT ∧
      localWq s f (s.rd (bar2 f) Reg.Bar2.CMD_ARG) = none) ∧
    (∃ (r : Route) (e : Fin 16) (s : State), Takes s r (engBase e.val + 0x50)) :=
  ⟨⟨.mp, 1023, fn0.wri fnTab Reg.FnTab.FN_WQ_FIRST 1023 8, by unfold Takes; decide⟩,
    ⟨.mp, 1023, regs [(fnTab, Reg.FnTab.FN_VALID, 1), (fnTab, Reg.FnTab.FN_WQ_COUNT, 8), (fnTab + 32 * 1023, Reg.FnTab.FN_WQ_COUNT, 8)],
      by unfold Takes; decide⟩,
    ⟨.mp, 0, fn0, by unfold Takes; decide⟩,
    ⟨reg 0 Reg.Err.ERR_STATUS_FATAL 1, by decide⟩,
    ⟨0, bar2 0 * 32, by decide⟩,
    ⟨0, fn0.setFn 0 { fn0.fn 0 with resetting := true }, by decide⟩,
    ⟨0, up, by decide⟩,
    ⟨0, fn0, by decide⟩,
    ⟨0, .chOpen (0), up, by decide⟩,
    ⟨0, 4, fn0.wr (bar2 0) Reg.Bar2.CMD_ARG 8, by decide⟩,
    ⟨0, wq0, (qs fn0 wq0 cq0).wr (bar2 0) Reg.Bar2.CMD_ARG 7, by decide⟩,
    ⟨0, (qs fn0 wq0 cq0).wr (bar2 0) Reg.Bar2.CMD_ARG 6, by decide⟩,
    ⟨.mp, 15, reg (engBase 15) Reg.Eng.TAKEN_CNT 4, by unfold Takes; decide⟩⟩

theorem witness_ReceiveEntriesAreFiledBoundOrRefused :
    (∃ (f : Fin 1024) (j : Fin 256) (s : State), fatalStopped s = false ∧ unitOff s .matching = false ∧ fnReady s f.val = true ∧
      j.val < s.rdi mtBase Reg.Mt.FN_DOM_DOM_COUNT f.val) ∧
    (∃ (f : Fin 1024) (j : Fin 256) (v : BitVec 32) (w : BitVec 32) (i : Instr) (s : State),
      (fatalStopped s = true ∨ unitOff s .matching = true ∨ fnReady s f.val = false ∨ s.rdi mtBase Reg.Mt.FN_DOM_DOM_COUNT f.val ≤ j.val) ∧
      i ∈ [Instr.rqDoorbell f j v, .domainEnable f j w, .domainDisable f j w]) ∧
    (∃ (d : Fin 4096) (data : Option (List Byte)) (f : Nat) (j : Nat) (q : CqSt) (l : List Chunk) (s : State) (t : State),
      unitOff s .matching = false ∧ domOwner s d.val = some (f, j) ∧ fnReady s f = true ∧ domOn s f j = true ∧
      drd s f j Reg.Dom.RQ_CI ≠ drd s f j Reg.Dom.RQ_PI ∧ s.cqAt (cqNo s f (drd s f j Reg.Dom.DOM_CFG_CQ)) = some q ∧ cqRoom s q 1 = true ∧
      xlate s f (drd64 s f j Reg.Dom.RQ_BASE_LO Reg.Dom.RQ_BASE_HI + 64 * (drd s f j Reg.Dom.RQ_CI % 2 ^ drd s f j Reg.Dom.DOM_CFG_LOG_SIZE)) 64 (accLocal false) = (.ok l,
      t) ∧ (gatherBad t l = true ∨ (data = none ∧ outside l = true))) ∧
    (∃ (d : Fin 4096) (data : Option (List Byte)) (f : Nat) (j : Nat) (q : CqSt) (l : List Chunk) (s : State) (t : State), let b := gather t l (data.getD []);
      unitOff s .matching = false ∧ domOwner s d.val = some (f, j) ∧ fnReady s f = true ∧ domOn s f j = true ∧
      drd s f j Reg.Dom.RQ_CI ≠ drd s f j Reg.Dom.RQ_PI ∧ s.cqAt (cqNo s f (drd s f j Reg.Dom.DOM_CFG_CQ)) = some q ∧ cqRoom s q 1 = true ∧
      xlate s f (drd64 s f j Reg.Dom.RQ_BASE_LO Reg.Dom.RQ_BASE_HI + 64 * (drd s f j Reg.Dom.RQ_CI % 2 ^ drd s f j Reg.Dom.DOM_CFG_LOG_SIZE)) 64 (accLocal false) = (.ok l,
      t) ∧ gatherBad t l = false ∧ data.isSome = true ∧ reKind b = 1) ∧
    (∃ (d : Fin 4096) (data : Option (List Byte)) (f : Nat) (j : Nat) (q : CqSt) (l : List Chunk) (s : State) (t : State), let b := gather t l (data.getD []);
      unitOff s .matching = false ∧ domOwner s d.val = some (f, j) ∧ fnReady s f = true ∧ domOn s f j = true ∧
      drd s f j Reg.Dom.RQ_CI ≠ drd s f j Reg.Dom.RQ_PI ∧ s.cqAt (cqNo s f (drd s f j Reg.Dom.DOM_CFG_CQ)) = some q ∧ cqRoom s q 1 = true ∧
      xlate s f (drd64 s f j Reg.Dom.RQ_BASE_LO Reg.Dom.RQ_BASE_HI + 64 * (drd s f j Reg.Dom.RQ_CI % 2 ^ drd s f j Reg.Dom.DOM_CFG_LOG_SIZE)) 64 (accLocal false) = (.ok l,
      t) ∧ gatherBad t l = false ∧ data.isSome = true ∧ reKind b = 2 ∧ reLen b ≤ 2 ^ 31) ∧
    (∃ (d : Fin 4096) (data : Option (List Byte)) (f : Nat) (j : Nat) (q : CqSt) (l : List Chunk) (s : State) (t : State), let b := gather t l (data.getD []);
      unitOff s .matching = false ∧ domOwner s d.val = some (f, j) ∧ fnReady s f = true ∧ domOn s f j = true ∧
      drd s f j Reg.Dom.RQ_CI ≠ drd s f j Reg.Dom.RQ_PI ∧ s.cqAt (cqNo s f (drd s f j Reg.Dom.DOM_CFG_CQ)) = some q ∧ cqRoom s q 1 = true ∧
      xlate s f (drd64 s f j Reg.Dom.RQ_BASE_LO Reg.Dom.RQ_BASE_HI + 64 * (drd s f j Reg.Dom.RQ_CI % 2 ^ drd s f j Reg.Dom.DOM_CFG_LOG_SIZE)) 64 (accLocal false) = (.ok l,
      t) ∧ gatherBad t l = false ∧ data.isSome = true ∧ reKind b ≠ 1 ∧ reKind b ≠ 2) ∧
    (∃ (d : Fin 4096) (s : State), (unitOff s .matching = true ∨ (∀ fj ∈ domOwner s d.val,
      fnReady s fj.1 = false ∨ domOn s fj.1 fj.2 = false ∨ drd s fj.1 fj.2 Reg.Dom.RQ_CI = drd s fj.1 fj.2 Reg.Dom.RQ_PI))) ∧
    (∃ (s : State) (d : Nat) (f : Nat) (j : Nat) (i : Nat) (b : List Byte), let u := countSearch (takeSlot s f j i) d false;
      findUx (s.dom d) (postOf b (s.dom d).postSeq i) = none ∧ postRoom s d f j = some true ∧ reLen b = 0 ∧ (∀ u ∈ (s.dom d).ux,
      u.onDie = true)) ∧
    (∃ (s : State) (d : Nat) (b : List Byte) (p : PostEnt), (s.dom d).posted.find? (fun p => p.index == reCancel b) = some p) ∧
    (∃ (s : State) (d : Nat) (b : List Byte), (∀ p ∈ (s.dom d).posted, p.index ≠ reCancel b)) ∧
    (∃ (s : State), unitOff s .matching = true) ∧
    (∃ (d : Fin 4096) (index : BitVec 32) (b : BoundEnt) (s : State), unitOff s .matching = false ∧
      (s.dom d.val).bound.find? (fun b => b.index == index.toNat && !b.rts && b.slot.isNone && b.arrived) = some b) ∧
    (∃ (d : Fin 4096) (index : BitVec 32) (s : State), (unitOff s .matching = true ∨ (∀ b ∈ (s.dom d.val).bound, b.index ≠ index.toNat))) ∧
    (∃ (d : Fin 4096) (index : BitVec 32) (data : Option (List Byte)) (b : BoundEnt) (f : Nat) (j : Nat) (slot : Nat) (l : List Chunk) (w : List Chunk) (s : State) (t : State) (u : State),
      unitOff s .matching = false ∧ (s.dom d.val).bound.find? (fun b => b.index == index.toNat && !b.rts && b.arrived) = some b ∧
      domOwner s d.val = some (f, j) ∧ b.slot = some slot ∧ msgHidden s b = false ∧ 0 < Nat.min b.msgLen b.len ∧
      xlate s f (drd64 s f j Reg.Dom.UX_BASE_LO Reg.Dom.UX_BASE_HI + 8192 * slot) (Nat.min b.msgLen b.len) (accLocal false) = (.ok l, t) ∧
      gatherBad t l = false ∧ data.isSome = true ∧ xlate t f b.va (Nat.min b.msgLen b.len) (accLocal true) = (.ok w, u)) ∧
    (∃ (ch : Fin 1048576) (x : ChanSt) (k : Job) (d : Nat) (i : Nat) (b : BoundEnt) (s : State), s.chanAny ch.val = some x ∧
      x.jobs.find? (fun k => jobReady x k && (match k.src with | .rndv .. => true | _ => false)) = some k ∧ k.src = .rndv d i ∧
      (s.dom d).bound.find? (fun b => b.index == i && b.rts && b.ch == ch.val) = some b) ∧
    (∃ (ch : Fin 1048576) (s : State), (∀ x ∈ s.chanAny ch.val, x.jobs = [])) ∧
    (∃ (f : Fin 1024) (j : Fin 256) (d : Nat) (s : State), fatalStopped s = false ∧ unitOff s .matching = false ∧
      domOfLocal s f.val j.val = some d ∧ domOn s f.val j.val = false) ∧
    (∃ (f : Fin 1024) (j : Fin 256) (d : Nat) (s : State), fatalStopped s = false ∧ unitOff s .matching = false ∧
      domOfLocal s f.val j.val = some d ∧ domOn s f.val j.val = true) ∧
    (∃ (s : State) (t : State) (f : Nat) (j : Nat) (q : CqSt), localCq s f (drd s f j Reg.Dom.DOM_CFG_CQ) = some q ∧
      drd64 s f j Reg.Dom.RQ_BASE_LO Reg.Dom.RQ_BASE_HI % (64 * 2 ^ drd s f j Reg.Dom.DOM_CFG_LOG_SIZE) = 0 ∧
      rangesGood s f (domRanges s f j) = (some true, t)) ∧
    (∃ (s : State) (f : Nat) (j : Nat),
      (localCq s f (drd s f j Reg.Dom.DOM_CFG_CQ) = none ∨ drd64 s f j Reg.Dom.RQ_BASE_LO Reg.Dom.RQ_BASE_HI % (64 * 2 ^ drd s f j Reg.Dom.DOM_CFG_LOG_SIZE) ≠ 0)) ∧
    (∃ (r : Route) (s : State), Takes s r (mtBase + 0x4C)) :=
  ⟨⟨0, 7, mt0, by decide⟩,
    ⟨1, 0, 0, 0, .domainEnable (1) (0) (0), up, by decide⟩,
    ⟨7, none, 0, 7, cq0, [chunk (xlate (domUp mt0) 0 hostA 64 (accLocal false)).1], domUp mt0,
      (xlate (domUp mt0) 0 hostA 64 (accLocal false)).2, by decide⟩,
    ⟨7, some (entry [(0, 1), (0x27, 8)]), 0, 7, cq0, [chunk (xlate (domUp mt0) 0 hostA 64 (accLocal false)).1], domUp mt0,
      (xlate (domUp mt0) 0 hostA 64 (accLocal false)).2, by intros; decide⟩,
    ⟨7, some (entry [(0, 2)]), 0, 7, cq0, [chunk (xlate (domUp mt0) 0 hostA 64 (accLocal false)).1], domUp mt0,
      (xlate (domUp mt0) 0 hostA 64 (accLocal false)).2, by intros; decide⟩,
    ⟨7, some (entry [(0, 9)]), 0, 7, cq0, [chunk (xlate (domUp mt0) 0 hostA 64 (accLocal false)).1], domUp mt0,
      (xlate (domUp mt0) 0 hostA 64 (accLocal false)).2, by intros; decide⟩,
    ⟨7, mt0, by decide⟩,
    ⟨domUp mt0, 7, 0, 7, 4, entry [(0, 1)], by intros; decide⟩,
    ⟨dom7 (domUp mt0) { DomSt.init with posted := [post0] }, 7, entry [(0, 2), (0x30, 5)], post0, by decide⟩,
    ⟨dom7 (domUp mt0) { DomSt.init with posted := [post0] }, 7, entry [(0, 2), (0x30, 6)], by decide⟩,
    ⟨{ up with setup := { up.setup with fenced := [.matching] } }, by decide⟩,
    ⟨7, 5, bound0, dom7 (domUp mt0) { DomSt.init with bound := [bound0] }, by decide⟩,
    ⟨7, 5, up, by decide⟩,
    ⟨7, 5, some (List.replicate 8 1), { bound0 with slot := some 3 }, 0, 7, 3,
      [chunk (xlate (dom7 (domUp mt0) { DomSt.init with bound := [({ bound0 with slot := some 3 })] }) 0 (hostA + 8192 * 3) 8 (accLocal false)).1],
      [chunk (xlate ((xlate (dom7 (domUp mt0) { DomSt.init with bound := [({ bound0 with slot := some 3 })] }) 0 (hostA + 8192 * 3) 8 (accLocal false)).2) 0 hostA 8 (accLocal true)).1],
      dom7 (domUp mt0) { DomSt.init with bound := [({ bound0 with slot := some 3 })] },
      (xlate (dom7 (domUp mt0) { DomSt.init with bound := [({ bound0 with slot := some 3 })] }) 0 (hostA + 8192 * 3) 8 (accLocal false)).2,
      (xlate ((xlate (dom7 (domUp mt0) { DomSt.init with bound := [({ bound0 with slot := some 3 })] }) 0 (hostA + 8192 * 3) 8 (accLocal false)).2) 0 hostA 8 (accLocal true)).2,
      by decide⟩,
    ⟨7, { ch0 Ctx.zero with jobs := [rndv0] }, rndv0, 7, 5, { bound0 with rts := true },
      chn (dom7 (domUp mt0) { DomSt.init with bound := [({ bound0 with rts := true })] }) 7 ({ ch0 Ctx.zero with jobs := [rndv0] }),
      by decide⟩,
    ⟨7, up, by decide⟩,
    ⟨0, 7, 7, mt0, by decide⟩,
    ⟨0, 7, 7, domUp mt0, by decide⟩,
    ⟨domUp mt0, (rangesGood (domUp mt0) 0 (domRanges (domUp mt0) 0 7)).2, 0, 7, cq0, by decide⟩,
    ⟨up, 0, 7, by decide⟩,
    ⟨.mp, reg mtBase Reg.Mt.ABORT_CNT 3, by unfold Takes; decide⟩⟩

theorem witness_OutingCommandsAnswerTheirResult :
    (∃ (r : Route) (s : State), Takes s r (clBase + 0x40) ∧ unitOff s .collective = false ∧ s.rd clBase Reg.Cl.OUT_STATUS_BUSY = 0) ∧
    (∃ (r : Route) (i : Instr) (s : State), Takes s r (clBase + 0x40) ∧ unitOff s .collective = true ∧
      i ∈ [Instr.outingCreate r, .outingAbort r, .outingRebuild r, .outingDestroy r]) ∧
    (∃ (s : State) (o : Nat), o < 256 ∧ oState s o ≠ oFree) ∧
    (∃ (s : State) (o : Nat), o < 256 ∧ oState s o = oFree ∧ entryGood s o = false) ∧
    (∃ (s : State) (o : Nat), o < 256 ∧ oState s o = oFree ∧ entryGood s o = true ∧ s.rd clBase Reg.Cl.BASKET_FREE < basketUnits s o) ∧
    (∃ (s : State) (o : Nat), o < 256 ∧ oState s o = oFree ∧ entryGood s o = true ∧ basketUnits s o ≤ s.rd clBase Reg.Cl.BASKET_FREE ∧
      memberFns s o = []) ∧
    (∃ (s : State) (o : Nat), o < 256 ∧ oState s o = oActive ∧ (s.outing o).contribs = [] ∧ memberFns s o = []) ∧
    (∃ (s : State) (o : Nat), o < 256 ∧ oState s o = oAborted ∧ (entryGood s o = false ∨ (s.outing o).gen = ord s o Reg.Out.GEN)) :=
  ⟨⟨.mp, cl0 0 0 1, by unfold Takes; decide⟩,
    ⟨.mp, .outingAbort (.mp), { up with setup := { up.setup with fenced := [.collective] } }, by unfold Takes; decide⟩,
    ⟨cl0 1 0 1, 255, by decide⟩,
    ⟨cl0 0 0 17, 255, by decide⟩,
    ⟨(cl0 0 0 1).wr clBase Reg.Cl.BASKET_FREE 1, 255, by decide⟩,
    ⟨cl0 0 0 16, 255, by decide⟩,
    ⟨cl0 1 0 1, 255, by decide⟩,
    ⟨(cl0 2 0 17).setOuting 255 { OutingSt.init with gen := 1 }, 255, by decide⟩⟩

theorem witness_CollectiveSegmentsMoveUpAndDown :
    (∃ (o : Fin 256) (k : Fin 64) (c : Contrib) (id : Nat) (seg : Nat) (b : Nat) (l : List Chunk) (s : State),
      (s.outing o.val).contribs.find? (fun c => c.slot == k.val && c.reading.isSome) = some c ∧ c.reading = some (id, l, seg) ∧
      callStart s o.val c.call = some b ∧ readDone s id = true) ∧
    (∃ (o : Fin 256) (k : Fin 64) (s : State), (∀ c ∈ (s.outing o.val).contribs, c.slot = k.val → c.reading = none)) ∧
    (∃ (o : Fin 256) (psn : Nat) (g : SegSt) (s : State), let r := refOf s o.val g.call;
      let l := (childSlots s o.val).filterMap (fun k => look g.inputs k); oState s o.val = oActive ∧ readySeg s o.val = some (psn, g) ∧
      basketBusy s o.val psn = false ∧ ord s o.val Reg.Out.ROOT = 1 ∧ (r.op ≠ opBroadcast ∨ r.n = some 0 ∨ (∃ q ∈ l, q.count ≠ 0))) ∧
    (∃ (o : Fin 256) (psn : Nat) (g : SegSt) (s : State), oState s o.val = oActive ∧ readySeg s o.val = some (psn, g) ∧
      basketBusy s o.val psn = false ∧ ord s o.val Reg.Out.ROOT ≠ 1) ∧
    (∃ (o : Fin 256) (s : State), (oState s o.val ≠ oActive ∨ readySeg s o.val = none)) ∧
    (∃ (p : Packet) (s : State) (t : State), fatalStopped s = false ∧ takeInbox s [124, 125] (fun p => p.op != opCollDown) = some (p, t)) ∧
    (∃ (s : State), (fatalStopped s = true ∨ lookD s.switch.inbox 124 [] = [] ∧ lookD s.switch.inbox 125 [] = [])) ∧
    (∃ (p : Packet) (o : Nat) (t : State), collGood t p = none ∧ slotOfOid t p.th.channel.toNat = some o ∧
      ord t o Reg.Out.GEN = p.th.gen.toNat ∧ childKind t o (cChild p) = 1 ∧ p.rh.src.toNat = 256 * childId t o (cChild p) + 65 ∧
      cSeg p = 0xFFFF) ∧
    (∃ (p : Packet) (o : Nat) (t : State), collGood t p = none ∧ slotOfOid t p.th.channel.toNat = some o ∧
      ord t o Reg.Out.GEN = p.th.gen.toNat ∧ childKind t o (cChild p) = 1 ∧ p.rh.src.toNat = 256 * childId t o (cChild p) + 65 ∧
      cSeg p ≠ 0xFFFF ∧ oState t o ≠ oActive) ∧
    (∃ (p : Packet) (o : Nat) (t : State), collGood t p = none ∧ slotOfOid t p.th.channel.toNat = some o ∧
      ord t o Reg.Out.GEN = p.th.gen.toNat ∧ childKind t o (cChild p) = 1 ∧ p.rh.src.toNat = 256 * childId t o (cChild p) + 65 ∧
      cSeg p ≠ 0xFFFF ∧ oState t o = oActive ∧ psnDist (dueOf t o (cChild p)) p.th.psn.toNat < depth t o ∧
      look (t.outing o).segs p.th.psn.toNat = none) ∧
    (∃ (p : Packet) (o : Nat) (t : State), collGood t p = none ∧ slotOfOid t p.th.channel.toNat = some o ∧
      ord t o Reg.Out.GEN = p.th.gen.toNat ∧ childKind t o (cChild p) = 1 ∧ p.rh.src.toNat = 256 * childId t o (cChild p) + 65 ∧
      cSeg p ≠ 0xFFFF ∧ oState t o = oActive ∧ depth t o ≤ 2 ^ 23 ∧ 2 ^ 23 ≤ psnDist (dueOf t o (cChild p)) p.th.psn.toNat) ∧
    (∃ (p : Packet) (t : State), collGood t p = none ∧ slotOfOid t p.th.channel.toNat = none) ∧
    (∃ (p : Packet) (t : State), unitOff t .collective = false ∧ (p.tr.stomp ≠ 0 ∨ p.whole = true ∧ p.malformed = false ∧ p.op ≠ opCollUp ∧
      p.op ≠ opCollDown)) ∧
    (∃ (t : State), unitOff t .collective = true) ∧
    (∃ (p : Packet) (o : Nat) (s : State) (t : State), fatalStopped s = false ∧
      takeInbox s [124, 125] (fun p => p.op == opCollDown) = some (p, t) ∧ collGood t p = none ∧ slotOfOid t p.th.channel.toNat = some o ∧
      ord t o Reg.Out.GEN = p.th.gen.toNat ∧ ord t o Reg.Out.ROOT ≠ 1 ∧ p.rh.src.toNat = 256 * ord t o Reg.Out.PARENT + 65 ∧ cSeg p = 0xFFFF) ∧
    (∃ (p : Packet) (o : Nat) (s : State) (t : State), fatalStopped s = false ∧
      takeInbox s [124, 125] (fun p => p.op == opCollDown) = some (p, t) ∧ collGood t p = none ∧ slotOfOid t p.th.channel.toNat = some o ∧
      ord t o Reg.Out.GEN = p.th.gen.toNat ∧ ord t o Reg.Out.ROOT ≠ 1 ∧ p.rh.src.toNat = 256 * ord t o Reg.Out.PARENT + 65 ∧
      cSeg p ≠ 0xFFFF ∧ oState t o ≠ oActive) ∧
    (∃ (p : Packet) (o : Nat) (s : State) (t : State), fatalStopped s = false ∧
      takeInbox s [124, 125] (fun p => p.op == opCollDown) = some (p, t) ∧ collGood t p = none ∧ slotOfOid t p.th.channel.toNat = some o ∧
      ord t o Reg.Out.GEN = p.th.gen.toNat ∧ ord t o Reg.Out.ROOT ≠ 1 ∧ p.rh.src.toNat = 256 * ord t o Reg.Out.PARENT + 65 ∧
      cSeg p = 0xFFFE ∧ oState t o = oActive) ∧
    (∃ (p : Packet) (o : Nat) (s : State) (t : State), fatalStopped s = false ∧
      takeInbox s [124, 125] (fun p => p.op == opCollDown) = some (p, t) ∧ collGood t p = none ∧ slotOfOid t p.th.channel.toNat = some o ∧
      ord t o Reg.Out.GEN = p.th.gen.toNat ∧ ord t o Reg.Out.ROOT ≠ 1 ∧ p.rh.src.toNat = 256 * ord t o Reg.Out.PARENT + 65 ∧
      cSeg p < 0xFFFE ∧ oState t o = oActive) ∧
    (∃ (o : Nat) (q : HomeReq) (id : Nat) (x : OutingSt) (s : State),
      s.mesh.cmps.find? (fun q => match q.asker with | .coll _ => true | _ => false) = some q ∧ q.asker = .coll id ∧
      s.coll.slots.find? (fun kv => kv.2.contribs.any (fun k => k.id == id / 65536)) = some (o, x)) ∧
    (∃ (s : State), s.mesh.cmps = []) ∧
    (∃ (o : Fin 256) (psn : Nat) (g : SegSt) (s : State), (s.outing o.val).segs = [(psn, g)] ∧ g.sent = true ∧ g.turned = false ∧
      oState s o.val = oActive ∧ s.rd clBase Reg.Cl.COLL_RETRY_MAX ≤ (s.outing o.val).retry) ∧
    (∃ (o : Fin 256) (psn : Nat) (g : SegSt) (s : State), (s.outing o.val).segs = [(psn, g)] ∧ g.sent = true ∧ g.turned = false ∧
      oState s o.val = oActive ∧ (s.outing o.val).retry < s.rd clBase Reg.Cl.COLL_RETRY_MAX) ∧
    (∃ (o : Fin 256) (s : State), (∀ kv ∈ (s.outing o.val).segs, kv.2.sent = false ∨ kv.2.turned = true)) ∧
    (∃ (r : Route) (s : State), Takes s r (clBase + 0x58)) :=
  ⟨⟨255, 0, contrib0, 1, 0, 0, [], slot (cl0 1 0 1) { OutingSt.init with contribs := [contrib0], refs := [ref0] }, by decide⟩,
    ⟨255, 0, up, by decide⟩,
    ⟨255, 0, seg0, slot (cl0 1 1 1) { OutingSt.init with segs := [(0, seg0)], refs := [ref0] }, by intros; decide⟩,
    ⟨255, 0, seg0, slot (cl0 1 0 1) { OutingSt.init with segs := [(0, seg0)], refs := [ref0] }, by decide⟩,
    ⟨255, up, by decide⟩,
    ⟨pk 65 0 8 2 8 0 [0, 0, 0, 0] [], inb (cl0 1 1 1) 124 (pk 65 0 8 2 8 0 [0, 0, 0, 0] []), inb0 (cl0 1 1 1) 124, by decide⟩,
    ⟨up, by decide⟩,
    ⟨{ pk 65 0 8 2 9 0 [0, 0xFFFF, 0, 0] [] with th := { (pk 65 0 8 2 9 0 [0, 0xFFFF, 0, 0] []).th with gen := 1 }, rh := { (pk 65 0 8 2 9 0 [0, 0, 0, 0] []).rh with src := 1345 } }.originate,
      255, cl0 1 1 1, by decide⟩,
    ⟨{ pk 65 0 8 2 9 0 [0, 0, 0, 0] [] with th := { (pk 65 0 8 2 9 0 [0, 0, 0, 0] []).th with gen := 1 }, rh := { (pk 65 0 8 2 9 0 [0, 0, 0, 0] []).rh with src := 1345 } }.originate,
      255, cl0 2 1 1, by decide⟩,
    ⟨{ pk 65 0 8 2 9 0 [0, 0, 0, 0] [] with th := { (pk 65 0 8 2 9 0 [0, 0, 0, 0] []).th with gen := 1 }, rh := { (pk 65 0 8 2 9 0 [0, 0, 0, 0] []).rh with src := 1345 } }.originate,
      255, cl0 1 1 1, by decide⟩,
    ⟨{ pk 65 0 8 2 9 0xFFFFFF [0, 0, 0, 0] [] with th := { (pk 65 0 8 2 9 0xFFFFFF [0, 0, 0, 0] []).th with gen := 1 }, rh := { (pk 65 0 8 2 9 0 [0, 0, 0, 0] []).rh with src := 1345 } }.originate,
      255, cl0 1 1 1, by decide⟩,
    ⟨pk 65 0 8 2 8 0 [0, 0, 0, 0] [], cl0 1 1 1, by decide⟩,
    ⟨{ pk 65 0 1 2 8 0 [0, 0, 0, 0] [] with tr := { crc := 0, stomp := 0xA5, reason := 1, dev := 0 } }, cl0 1 1 1, by decide⟩,
    ⟨{ up with setup := { up.setup with fenced := [.collective] } }, by decide⟩,
    ⟨{ pk 65 1 9 2 9 0 [0, 0xFFFF, 0, 0] [] with th := { (pk 65 1 9 2 9 0 [0, 0xFFFF, 0, 0] []).th with gen := 1 }, rh := { (pk 65 1 9 2 9 0 [0, 0, 0, 0] []).rh with src := 1345 } }.originate,
      255,
      inb (cl0 1 0 1) 124 ({ pk 65 1 9 2 9 0 [0, 0xFFFF, 0, 0] [] with th := { (pk 65 1 9 2 9 0 [0, 0xFFFF, 0, 0] []).th with gen := 1 }, rh := { (pk 65 1 9 2 9 0 [0, 0, 0, 0] []).rh with src := 1345 } }.originate),
      inb0 (cl0 1 0 1) 124, by decide⟩,
    ⟨{ pk 65 1 9 2 9 0 [0, 0, 0, 0] [] with th := { (pk 65 1 9 2 9 0 [0, 0, 0, 0] []).th with gen := 1 }, rh := { (pk 65 1 9 2 9 0 [0, 0, 0, 0] []).rh with src := 1345 } }.originate,
      255,
      inb (cl0 2 0 1) 124 ({ pk 65 1 9 2 9 0 [0, 0, 0, 0] [] with th := { (pk 65 1 9 2 9 0 [0, 0, 0, 0] []).th with gen := 1 }, rh := { (pk 65 1 9 2 9 0 [0, 0, 0, 0] []).rh with src := 1345 } }.originate),
      inb0 (cl0 2 0 1) 124, by decide⟩,
    ⟨{ pk 65 1 9 2 9 0 [0, 0xFFFE, 0, 0] [] with th := { (pk 65 1 9 2 9 0 [0, 0xFFFE, 0, 0] []).th with gen := 1 }, rh := { (pk 65 1 9 2 9 0 [0, 0, 0, 0] []).rh with src := 1345 } }.originate,
      255,
      inb (cl0 1 0 1) 124 ({ pk 65 1 9 2 9 0 [0, 0xFFFE, 0, 0] [] with th := { (pk 65 1 9 2 9 0 [0, 0xFFFE, 0, 0] []).th with gen := 1 }, rh := { (pk 65 1 9 2 9 0 [0, 0, 0, 0] []).rh with src := 1345 } }.originate),
      inb0 (cl0 1 0 1) 124, by decide⟩,
    ⟨{ pk 65 1 9 2 9 0 [0, 0, 0, 0] [] with th := { (pk 65 1 9 2 9 0 [0, 0, 0, 0] []).th with gen := 1 }, rh := { (pk 65 1 9 2 9 0 [0, 0, 0, 0] []).rh with src := 1345 } }.originate,
      255,
      inb (cl0 1 0 1) 124 ({ pk 65 1 9 2 9 0 [0, 0, 0, 0] [] with th := { (pk 65 1 9 2 9 0 [0, 0, 0, 0] []).th with gen := 1 }, rh := { (pk 65 1 9 2 9 0 [0, 0, 0, 0] []).rh with src := 1345 } }.originate),
      inb0 (cl0 1 0 1) 124, by decide⟩,
    ⟨255,
      { kind := .wrNoAlloc, asker := .coll 65536, line := 0, off := 0, bytes := [], bad := false, group := 1, seg := 0, tag := none, since := 0, held := false },
      65536, { OutingSt.init with contribs := [{ contrib0 with vis := [(0, 1)] }] },
      { slot (cl0 1 0 1) ({ OutingSt.init with contribs := [{ contrib0 with vis := [(0, 1)] }] }) with mesh := { up.mesh with cmps := [({ kind := .wrNoAlloc, asker := .coll 65536, line := 0, off := 0, bytes := [], bad := false, group := 1, seg := 0, tag := none, since := 0, held := false })] } },
      by decide⟩,
    ⟨up, by decide⟩,
    ⟨255, 0, { seg0 with sent := true },
      (slot (cl0 1 0 1) { OutingSt.init with segs := [(0, ({ seg0 with sent := true }))], refs := [ref0], retry := 0 }).wr clBase Reg.Cl.COLL_RETRY_MAX 0,
      by decide⟩,
    ⟨255, 0, { seg0 with sent := true },
      (slot (cl0 1 0 1) { OutingSt.init with segs := [(0, ({ seg0 with sent := true }))], refs := [ref0], retry := 0 }).wr clBase Reg.Cl.COLL_RETRY_MAX 1,
      by decide⟩,
    ⟨255, up, by decide⟩,
    ⟨.mp, reg clBase Reg.Cl.CLIP_CNT 3, by unfold Takes; decide⟩⟩

theorem witness_KeysWalksAndInvalidatesRun :
    (∃ (f : Fin 1024) (i : Instr) (s : State), i ∈ [Instr.keyWrite f, .keyFree f, .keyQuery f] ∧
      (fatalStopped s = true ∨ fnReady s f.val = false ∨ s.on (bar2 f.val) Reg.KeyBar.KEY_STATUS_BUSY = true)) ∧
    (∃ (f : Fin 1024) (s : State), fatalStopped s = false ∧ fnReady s f.val = true ∧ s.on (bar2 f.val) Reg.KeyBar.KEY_STATUS_BUSY = false ∧
      s.on xlBase Reg.Xl.KEY_CFG_EN = false) ∧
    (∃ (f : Fin 1024) (s : State), let b := bar2 f.val; let i := s.rd b Reg.KeyBar.KEY_CMD_KEY / 256; fatalStopped s = false ∧
      fnReady s f.val = true ∧ s.on (bar2 f.val) Reg.KeyBar.KEY_STATUS_BUSY = false ∧ s.on xlBase Reg.Xl.KEY_CFG_EN = true ∧
      keyInRange s f.val i = false) ∧
    (∃ (f : Fin 1024) (s : State), let b := bar2 f.val; let i := s.rd b Reg.KeyBar.KEY_CMD_KEY / 256; fatalStopped s = false ∧
      fnReady s f.val = true ∧ s.on (bar2 f.val) Reg.KeyBar.KEY_STATUS_BUSY = false ∧ s.on xlBase Reg.Xl.KEY_CFG_EN = true ∧
      keyInRange s f.val i = true ∧ keyImageGood (keyImage s f.val) = false) ∧
    (∃ (f : Fin 1024) (s : State), let b := bar2 f.val; let i := s.rd b Reg.KeyBar.KEY_CMD_KEY / 256; fatalStopped s = false ∧
      fnReady s f.val = true ∧ s.on (bar2 f.val) Reg.KeyBar.KEY_STATUS_BUSY = false ∧ s.on xlBase Reg.Xl.KEY_CFG_EN = true ∧
      keyInRange s f.val i = true ∧ keyImageGood (keyImage s f.val) = true ∧ keyPlace s i = false) ∧
    (∃ (f : Fin 1024) (s : State), let b := bar2 f.val; let i := s.rd b Reg.KeyBar.KEY_CMD_KEY / 256; fatalStopped s = false ∧
      fnReady s f.val = true ∧ s.on (bar2 f.val) Reg.KeyBar.KEY_STATUS_BUSY = false ∧ s.on xlBase Reg.Xl.KEY_CFG_EN = true ∧
      keyInRange s f.val i = true ∧ keyImageGood (keyImage s f.val) = true ∧ keyPlace s i = true) ∧
    (∃ (f : Fin 1024) (s : State), let b := bar2 f.val; let i := s.rd b Reg.KeyBar.KEY_CMD_KEY / 256; fatalStopped s = false ∧
      fnReady s f.val = true ∧ s.on (bar2 f.val) Reg.KeyBar.KEY_STATUS_BUSY = false ∧ s.on xlBase Reg.Xl.KEY_CFG_EN = true ∧
      keyInRange s f.val i = true ∧ keyStored s i = none) ∧
    (∃ (f : Fin 1024) (s : State) (k : KeyEnt), let b := bar2 f.val; let i := s.rd b Reg.KeyBar.KEY_CMD_KEY / 256; fatalStopped s = false ∧
      fnReady s f.val = true ∧ s.on (bar2 f.val) Reg.KeyBar.KEY_STATUS_BUSY = false ∧ s.on xlBase Reg.Xl.KEY_CFG_EN = true ∧
      keyInRange s f.val i = true ∧ keyStored s i = some k) ∧
    (∃ (f : Fin 1024) (i : Nat) (s : State), look s.xl.keyCmd f.val = some i ∧ (∀ t ∈ liveTags s, t.key ≠ some i)) ∧
    (∃ (f : Fin 1024) (s : State), (∀ i ∈ look s.xl.keyCmd f.val, (liveTags s).any (fun t => t.key == some i) = true)) ∧
    (∃ (r : Route) (en : Bool) (s : State), Takes s r (xlBase + 0x40) ∧ s.on xlBase Reg.Xl.KEY_CFG_EN = en) ∧
    (∃ (r : Route) (en : Bool) (s : State), Takes s r (xlBase + 0x40) ∧ s.on xlBase Reg.Xl.KEY_CFG_EN ≠ en) ∧
    (∃ (i : Fin 1048576) (s : State), i.val ∉ s.xl.keyWant) ∧
    (∃ (i : Fin 1048576) (s : State) (k : KeyEnt), let u : State := { s with xl := { s.xl with keyWant := s.xl.keyWant.erase i.val } };
      i.val ∈ s.xl.keyWant ∧ keyStored u i.val = some k) ∧
    (∃ (i : Fin 1048576) (s : State), let u : State := { s with xl := { s.xl with keyWant := s.xl.keyWant.erase i.val } };
      i.val ∈ s.xl.keyWant ∧ keyStored u i.val = none) ∧
    (∃ (f : Fin 1024) (a : BitVec 64) (s : State), (∀ w ∈ s.xl.walks, w.fn = f.val → w.va = a.toNat → w.failed.isSome = true)) ∧
    (∃ (f : Fin 1024) (a : BitVec 64) (w : Walk) (ea : Nat) (want : WalkEnt) (s : State),
      s.xl.walks.find? (fun w => w.fn == f.val && w.va == a.toNat && w.failed.isNone) = some w ∧
      walk s w.ctx w.got w.fn w.va w.acc = .need ea want) ∧
    (∃ (f : Fin 1024) (a : BitVec 64) (w : Walk) (e : TlbEnt) (y : WalkFault) (s : State),
      s.xl.walks.find? (fun w => w.fn == f.val && w.va == a.toNat && w.failed.isNone) = some w ∧
      (walk s w.ctx w.got w.fn w.va w.acc = .hit e ∨ walk s w.ctx w.got w.fn w.va w.acc = .fault y)) ∧
    (∃ (g : Fin 65536) (w : InvalWait) (q : WqSt) (s : State), s.xl.inval.find? (fun w => w.wq == g.val) = some w ∧ (∀ t ∈ liveTags s,
      invCovers w t = false) ∧ s.wqAt g.val = some q) ∧
    (∃ (g : Fin 65536) (s : State), (∀ w ∈ s.xl.inval, w.wq = g.val → (liveTags s).any (invCovers w) = true)) ∧
    (∃ (w : InvalWait), w.scope ≤ 5 ∧ 1 ≤ w.scope ∧ w.scope = 1) ∧
    (∃ (w : InvalWait), w.scope ≤ 5 ∧ 1 ≤ w.scope ∧ w.scope = 2) ∧
    (∃ (w : InvalWait), w.scope ≤ 5 ∧ 1 ≤ w.scope ∧ w.scope = 3) ∧
    (∃ (w : InvalWait), w.scope ≤ 5 ∧ 1 ≤ w.scope ∧ w.scope = 4) ∧
    (∃ (w : InvalWait), w.scope ≤ 5 ∧ 1 ≤ w.scope ∧ w.scope = 5) ∧
    (∃ (r : Route) (s : State), Takes s r (xlBase + 0x54)) :=
  ⟨⟨1, .keyFree (1), up, by decide⟩,
    ⟨0, fn0, by decide⟩,
    ⟨0, keysOn 0x1007, by intros; decide⟩,
    ⟨0, keysOn 0xF07, by intros; decide⟩,
    ⟨0, ext (keyImg (keysOn 0xF07)) 0 { ExtSt.init with owner := .failed }, by intros; decide⟩,
    ⟨0, keyImg (keysOn 0x107), by intros; decide⟩,
    ⟨0, ext (keysOn 0xF07) 0 { ExtSt.init with owner := .failed }, by intros; decide⟩,
    ⟨0, keysOn 0xF07, KeyEnt.ofBytes (List.replicate 32 0), by intros; decide⟩,
    ⟨0, 8, { fn0.wr (bar2 0) Reg.KeyBar.KEY_STATUS_BUSY 1 with xl := { up.xl with keyCmd := [(0, 8)] } }, by decide⟩,
    ⟨1023, up, by decide⟩,
    ⟨.mp, false, up, by unfold Takes; decide⟩,
    ⟨.mp, true, up, by unfold Takes; decide⟩,
    ⟨8, up, by decide⟩,
    ⟨8, { fn0 with xl := { fn0.xl with keyWant := [8] } }, KeyEnt.ofBytes (List.replicate 32 0), by intros; decide⟩,
    ⟨8, ext { fn0 with xl := { fn0.xl with keyWant := [8] } } 0 { ExtSt.init with owner := .failed }, by intros; decide⟩,
    ⟨1023, 0, up, by decide⟩,
    ⟨0, 0,
      { walk0 with ctx := xlCtx (((fn0.wr xlBase Reg.FnXl.S1_EN 1).wr xlBase Reg.FnXl.S1_IA_BITS 48).wr xlBase Reg.FnXl.S1_ROOT_HI 0x80000) 0 },
      (needOf (walk ({ fn0 with xl := { up.xl with walks := [({ walk0 with ctx := xlCtx (((fn0.wr xlBase Reg.FnXl.S1_EN 1).wr xlBase Reg.FnXl.S1_IA_BITS 48).wr xlBase Reg.FnXl.S1_ROOT_HI 0x80000) 0 })] } }) ({ walk0 with ctx := xlCtx (((fn0.wr xlBase Reg.FnXl.S1_EN 1).wr xlBase Reg.FnXl.S1_IA_BITS 48).wr xlBase Reg.FnXl.S1_ROOT_HI 0x80000) 0 }).ctx [] 0 0 (accLocal false))).1,
      (needOf (walk ({ fn0 with xl := { up.xl with walks := [({ walk0 with ctx := xlCtx (((fn0.wr xlBase Reg.FnXl.S1_EN 1).wr xlBase Reg.FnXl.S1_IA_BITS 48).wr xlBase Reg.FnXl.S1_ROOT_HI 0x80000) 0 })] } }) ({ walk0 with ctx := xlCtx (((fn0.wr xlBase Reg.FnXl.S1_EN 1).wr xlBase Reg.FnXl.S1_IA_BITS 48).wr xlBase Reg.FnXl.S1_ROOT_HI 0x80000) 0 }).ctx [] 0 0 (accLocal false))).2,
      { fn0 with xl := { up.xl with walks := [({ walk0 with ctx := xlCtx (((fn0.wr xlBase Reg.FnXl.S1_EN 1).wr xlBase Reg.FnXl.S1_IA_BITS 48).wr xlBase Reg.FnXl.S1_ROOT_HI 0x80000) 0 })] } },
      by decide⟩,
    ⟨0, 0, { walk0 with ctx := xlCtx fn0 0 },
      hitOf (walk ({ fn0 with xl := { up.xl with walks := [({ walk0 with ctx := xlCtx fn0 0 })] } }) ({ walk0 with ctx := xlCtx fn0 0 }).ctx [] 0 0 (accLocal false)),
      wf 0 0 0 0 0, { fn0 with xl := { up.xl with walks := [({ walk0 with ctx := xlCtx fn0 0 })] } }, by decide⟩,
    ⟨7, { wq := 7, index := 3, userId := 0, signal := true, scope := 5, target := 0, part := 0, addr := 0, len := 0 }, wq0,
      { (qs fn0 wq0 cq0) with xl := { up.xl with inval := [({ wq := 7, index := 3, userId := 0, signal := true, scope := 5, target := 0, part := 0, addr := 0, len := 0 })] } },
      by decide⟩,
    ⟨7, up, by decide⟩,
    ⟨{ wq := 7, index := 3, userId := 0, signal := true, scope := 1, target := 0, part := 0, addr := 0, len := 0 }, by decide⟩,
    ⟨{ wq := 7, index := 3, userId := 0, signal := true, scope := 2, target := 0, part := 0, addr := 0, len := 0 }, by decide⟩,
    ⟨{ wq := 7, index := 3, userId := 0, signal := true, scope := 3, target := 0, part := 0, addr := 0, len := 0 }, by decide⟩,
    ⟨{ wq := 7, index := 3, userId := 0, signal := true, scope := 4, target := 0, part := 0, addr := 0, len := 0 }, by decide⟩,
    ⟨{ wq := 7, index := 3, userId := 0, signal := true, scope := 5, target := 0, part := 0, addr := 0, len := 0 }, by decide⟩,
    ⟨.mp, reg xlBase Reg.Xl.FAULT_CNT 3, by unfold Takes; decide⟩⟩

theorem witness_HostLinksComeAndGo :
    (∃ (a : Fin 64) (rate : BitVec 3) (width : BitVec 5) (cxl : Bool) (s : State), s.boot.cfgApplied = true ∧
      attRd s a.val Reg.Att.ATT_CFG_ROLE ≠ 0 ∧ attRd s a.val Reg.Att.ATT_STATE_LINK ≤ 1 ∧ width.toNat ∈ [1, 2, 4, 8, 16] ∧
      width.toNat ≤ attLanes s a.val ∧ rate.toNat ≤ s.rd (macBase (a.val / 4)) Reg.Mac.MAC_CFG_MAX_RATE ∧ rate.toNat ≤ 5 ∧
      (cxl = true → 2 ≤ rate.toNat) ∧ (s.att a.val).perst = false ∧ unitOff s (.attachment a) = false) ∧
    (∃ (a : Fin 64) (rate : BitVec 3) (width : BitVec 5) (cxl : Bool) (s : State), linkUp s a.val = false ∧
      (s.boot.cfgApplied = false ∨ attRd s a.val Reg.Att.ATT_CFG_ROLE = 0 ∨ 1 < attRd s a.val Reg.Att.ATT_STATE_LINK ∨ width.toNat ∉ [1, 2, 4, 8, 16] ∨ attLanes s a.val < width.toNat ∨ s.rd (macBase (a.val / 4)) Reg.Mac.MAC_CFG_MAX_RATE < rate.toNat ∨ 5 < rate.toNat ∨ (cxl = true ∧
      rate.toNat < 2) ∨ (s.att a.val).perst = true ∨ unitOff s (.attachment a) = true)) ∧
    (∃ (a : Fin 64) (s : State), attUp s a.val = false) ∧
    (∃ (a : Fin 64) (s : State), isDown s a.val = true ∧ linkUp s a.val = true ∧ (isBound s a.val || isOwned s a.val) = true ∧
      (s.att a.val).unbind = none) ∧
    (∃ (a : Fin 64) (s : State), isDown s a.val = true ∧ linkUp s a.val = true ∧
      (isBound s a.val || isOwned s a.val) = false ∨ (s.att a.val).unbind ≠ none) ∧
    (∃ (a : Fin 64) (s : State), (isDown s a.val = false ∨ linkUp s a.val = false)) ∧
    (∃ (s : State) (a : Nat), a < 64 ∧ isDown s a = true ∧ isOwned s a = false) ∧
    (∃ (a : Fin 64) (q : CfgReq) (s : State), let ready := s.on (attBase a.val) Reg.Att.ATT_STATE_HOST_READY; attUp s a.val = true ∧
      (fatalStopped s = true ∨ (ready = true ∧ cfgThere s a.val q = false))) ∧
    (∃ (a : Fin 64) (s : State), let ready := s.on (attBase a.val) Reg.Att.ATT_STATE_HOST_READY; attUp s a.val = true ∧
      fatalStopped s = false ∧ ready = false) ∧
    (∃ (a : Fin 64) (q : CfgReq) (s : State) (d : CfgDev) (r : CfgReg), let ready := s.on (attBase a.val) Reg.Att.ATT_STATE_HOST_READY;
      attUp s a.val = true ∧ fatalStopped s = false ∧ ready = true ∧ cfgThere s a.val q = true ∧ q = .read d r) ∧
    (∃ (a : Fin 64) (q : CfgReq) (s : State), let ready := s.on (attBase a.val) Reg.Att.ATT_STATE_HOST_READY; attUp s a.val = true ∧
      fatalStopped s = false ∧ ready = true ∧ cfgThere s a.val q = true ∧ q = .other) ∧
    (∃ (a : Fin 64) (q : CfgReq) (s : State) (i : Fin 6) (v : BitVec 32), let ready := s.on (attBase a.val) Reg.Att.ATT_STATE_HOST_READY;
      attUp s a.val = true ∧ fatalStopped s = false ∧ ready = true ∧ cfgThere s a.val q = true ∧ q = .bar i v) ∧
    (∃ (a : Fin 64) (q : CfgReq) (s : State) (i : Fin 6) (v : BitVec 32), let ready := s.on (attBase a.val) Reg.Att.ATT_STATE_HOST_READY;
      attUp s a.val = true ∧ fatalStopped s = false ∧ ready = true ∧ cfgThere s a.val q = true ∧ q = .vfBar i v) ∧
    (∃ (a : Fin 64) (q : CfgReq) (s : State) (n : BitVec 16), let ready := s.on (attBase a.val) Reg.Att.ATT_STATE_HOST_READY;
      attUp s a.val = true ∧ fatalStopped s = false ∧ ready = true ∧ cfgThere s a.val q = true ∧ q = .numVfs n ∧
      n.toNat ≤ attRd s a.val Reg.Att.VF_MAX) ∧
    (∃ (a : Fin 64) (q : CfgReq) (s : State) (n : BitVec 16), let ready := s.on (attBase a.val) Reg.Att.ATT_STATE_HOST_READY;
      attUp s a.val = true ∧ fatalStopped s = false ∧ ready = true ∧ cfgThere s a.val q = true ∧ q = .numVfs n ∧
      attRd s a.val Reg.Att.VF_MAX < n.toNat) ∧
    (∃ (a : Fin 64) (q : CfgReq) (s : State) (b : Bool), let ready := s.on (attBase a.val) Reg.Att.ATT_STATE_HOST_READY;
      attUp s a.val = true ∧ fatalStopped s = false ∧ ready = true ∧ cfgThere s a.val q = true ∧ q = .cacheEnable b) ∧
    (∃ (a : Fin 64) (q : CfgReq) (s : State) (v : BitVec 4), let ready := s.on (attBase a.val) Reg.Att.ATT_STATE_HOST_READY;
      attUp s a.val = true ∧ fatalStopped s = false ∧ ready = true ∧ cfgThere s a.val q = true ∧ q = .completionTimeout v) ∧
    (∃ (a : Fin 64) (q : CfgReq) (s : State) (f : Fin 1024) (on : Bool) (mask : Bool), let ready := s.on (attBase a.val) Reg.Att.ATT_STATE_HOST_READY;
      attUp s a.val = true ∧ fatalStopped s = false ∧ ready = true ∧ cfgThere s a.val q = true ∧ q = .msix f on mask ∧
      attOfFn s f.val = some a.val) ∧
    (∃ (a : Fin 64) (q : CfgReq) (s : State) (f : Fin 1024) (on : Bool) (mask : Bool), let ready := s.on (attBase a.val) Reg.Att.ATT_STATE_HOST_READY;
      attUp s a.val = true ∧ fatalStopped s = false ∧ ready = true ∧ cfgThere s a.val q = true ∧ q = .msix f on mask ∧
      attOfFn s f.val ≠ some a.val) ∧
    (∃ (a : Fin 64) (f : Fin 1024) (s : State), attUp s a.val = true ∧ fatalStopped s = false ∧
      s.on (attBase a.val) Reg.Att.ATT_STATE_HOST_READY = true ∧ attOfFn s f.val = some a.val) ∧
    (∃ (s : State), s.boot.cfgApplied = true ∧ fatalStopped s = false ∧ s.on (base .flask) Reg.Flk.BANK_STATUS_RECOVERY = false ∧
      s.boot.bctFailed = false ∧ (∀ i, i < 48 → sliceMode s i = 0)) ∧
    (∃ (s : State),
      (s.boot.cfgApplied = false ∨ fatalStopped s = true ∨ s.on (base .flask) Reg.Flk.BANK_STATUS_RECOVERY = true ∨ s.boot.bctFailed = true ∨ (List.range 48).any (fun i => sliceMode s i != 0) = true)) ∧
    (∃ (a : Fin 64) (s : State), (s.att a.val).dpc = true) ∧
    (∃ (a : Fin 64) (s : State), (s.att a.val).dpc = false) ∧
    (∃ (r : Route) (a : Fin 64) (s : State), Takes s r (attBase a.val + 0x64) ∧ isOwned s a.val = true) ∧
    (∃ (r : Route) (a : Fin 64) (s : State), Takes s r (attBase a.val + 0x64) ∧ isOwned s a.val = false) :=
  ⟨⟨60, 1, 16, false,
      ((reg (attBase 60) Reg.Att.ATT_CFG_ROLE 1).wr (macBase 15) Reg.Mac.MAC_CFG_MAX_RATE 4).wr (macBase 15) Reg.Mac.MAC_CFG_BIFURC 0,
      by decide⟩,
    ⟨63, 7, 16, false, up, by decide⟩,
    ⟨63, up, by decide⟩,
    ⟨63, own63, by decide⟩,
    ⟨63, att63 2 [], by decide⟩,
    ⟨63, up, by decide⟩,
    ⟨bnd63, 63, by decide⟩,
    ⟨63, .read (.vf 62) .ids, att63 1 [(attBase 63, Reg.Att.ATT_STATE_HOST_READY, 1)], by intros; decide⟩,
    ⟨63, att63 1 [], by intros; decide⟩,
    ⟨63, .read (.nic) (.classRev), att63 1 [(attBase 63, Reg.Att.ATT_STATE_HOST_READY, 1)], .nic, .classRev, by intros; decide⟩,
    ⟨63, .other, att63 1 [(attBase 63, Reg.Att.ATT_STATE_HOST_READY, 1)], by intros; decide⟩,
    ⟨63, .bar (5) (0), att63 1 [(attBase 63, Reg.Att.ATT_STATE_HOST_READY, 1)], 5, 0, by intros; decide⟩,
    ⟨63, .vfBar (5) (0), att63 1 [(attBase 63, Reg.Att.ATT_STATE_HOST_READY, 1)], 5, 0, by intros; decide⟩,
    ⟨63, .numVfs (0), att63 1 [(attBase 63, Reg.Att.ATT_STATE_HOST_READY, 1)], 0, by intros; decide⟩,
    ⟨63, .numVfs (65535), att63 1 [(attBase 63, Reg.Att.ATT_STATE_HOST_READY, 1)], 65535, by intros; decide⟩,
    ⟨63, .cacheEnable (true), att63 1 [(attBase 63, Reg.Att.ATT_STATE_HOST_READY, 1)], true, by intros; decide⟩,
    ⟨63, .completionTimeout (15), att63 1 [(attBase 63, Reg.Att.ATT_STATE_HOST_READY, 1)], 15, by intros; decide⟩,
    ⟨63, .msix (63) (false) (false), att63 1 [(attBase 63, Reg.Att.ATT_STATE_HOST_READY, 1)], 63, false, false, by intros; decide⟩,
    ⟨63, .msix (62) (false) (false), att63 1 [(attBase 63, Reg.Att.ATT_STATE_HOST_READY, 1)], 62, false, false, by intros; decide⟩,
    ⟨63, 63, att63 1 [(attBase 63, Reg.Att.ATT_STATE_HOST_READY, 1)], by decide⟩,
    ⟨settled, by decide⟩,
    ⟨State.reset, by decide⟩,
    ⟨63, bnd63.setAtt 63 { AttSt.init with dpc := true }, by decide⟩,
    ⟨63, up, by decide⟩,
    ⟨.mp, 63, own63, by unfold Takes; decide⟩,
    ⟨.mp, 63, up, by unfold Takes; decide⟩⟩

theorem witness_FmApiCommandsAnswer :
    (∃ (s : State) (a : Fin 64), isDown s a.val = false) ∧
    (∃ (s : State) (a : Fin 64) (op : PortControl), isDown s a.val = true ∧ op = .assertPerst) ∧
    (∃ (s : State) (a : Fin 64) (op : PortControl), isDown s a.val = true ∧ op = .deassertPerst) ∧
    (∃ (s : State) (u : Fin 64), hasSwitch s u.val = true) ∧
    (∃ (s : State) (u : Fin 64), hasSwitch s u.val = false) ∧
    (∃ (s : State) (u : Nat) (v : Nat) (a : Nat), u < 64 ∧ v < 18 ∧
      (v < 2 ∨ hasSwitch s u = false ∨ isDown s a = false ∨ isOwned s a = true ∨ isBound s a = true ∨ (s.att a).unusable = true ∨ boundAt s u v ≠ none)) ∧
    (∃ (s : State) (u : Nat) (v : Nat) (a : Nat), u < 64 ∧ v < 18 ∧ 2 ≤ v ∧ hasSwitch s u = true ∧ isDown s a = true ∧
      isOwned s a = false ∧ isBound s a = false ∧ (s.att a).unusable = false ∧ boundAt s u v = none ∧ bgBusy s = true) ∧
    (∃ (s : State) (u : Nat) (v : Nat) (a : Nat), u < 64 ∧ v < 18 ∧ 2 ≤ v ∧ hasSwitch s u = true ∧ isDown s a = true ∧
      isOwned s a = false ∧ isBound s a = false ∧ (s.att a).unusable = false ∧ boundAt s u v = none ∧ bgBusy s = false) ∧
    (∃ (s : State) (u : Nat) (v : Nat), (v < 2 ∨ boundAt s u v = none)) ∧
    (∃ (s : State) (u : Nat) (v : Nat) (a : Nat), 2 ≤ v ∧ boundAt s u v = some a ∧ bgBusy s = true) ∧
    (∃ (s : State) (u : Nat) (v : Nat) (o : Nat) (a : Nat), 2 ≤ v ∧ boundAt s u v = some a ∧ bgBusy s = false ∧ o < 2) ∧
    (∃ (s : State) (u : Nat) (v : Nat) (o : Nat) (a : Nat), 2 ≤ v ∧ boundAt s u v = some a ∧ bgBusy s = false ∧ o = 2) ∧
    (∃ (a : Fin 64) (s : State), (s.att a.val).unbind ≠ none) ∧
    (∃ (a : Fin 64) (s : State), (s.att a.val).unbind = none) ∧
    (∃ (s : State) (u : Nat) (e : Nat) (x : ExtSt), s.ext e = some x ∧ (hasSwitch s u = false ∨ x.xstate ≠ .settled ∨ x.isMirror = true)) ∧
    (∃ (s : State) (u : Nat) (e : Nat) (x : ExtSt), s.ext e = some x ∧ hasSwitch s u = true ∧ x.xstate = .settled ∧ x.isMirror = false ∧
      x.owner = .free) ∧
    (∃ (s : State) (u : Nat) (e : Nat) (tag : Nat) (x : ExtSt), s.ext e = some x ∧ hasSwitch s u = true ∧ x.xstate = .settled ∧
      x.isMirror = false ∧ (x.owner = .host ∨ x.owner = .shared) ∧ x.tag = some tag ∧ bitOf x.hosts u = false ∧ u ∉ x.offers) ∧
    (∃ (s : State) (u : Fin 64) (e : Fin 131072) (tag : BitVec 128), (dcAdd s u.val e.val tag.toNat).1 = fmOk) ∧
    (∃ (s : State) (u : Fin 64) (e : Fin 131072) (tag : BitVec 128), (dcAdd s u.val e.val tag.toNat).1 ≠ fmOk) ∧
    (∃ (s : State) (u : Fin 64) (e : Fin 131072), (dcRemove s u.val e.val).1 = fmOk) ∧
    (∃ (s : State) (u : Fin 64) (e : Fin 131072), (dcRemove s u.val e.val).1 ≠ fmOk) ∧
    (∃ (u : Fin 64) (e : Fin 131072) (x : ExtSt) (s : State), s.ext e.val = some x ∧ u.val ∈ x.offers ∧ x.xstate = .offered) ∧
    (∃ (u : Fin 64) (e : Fin 131072) (x : ExtSt) (s : State), s.ext e.val = some x ∧ u.val ∈ x.offers ∧ x.xstate ≠ .offered ∧
      (x.owner = .host ∨ x.owner = .shared)) ∧
    (∃ (u : Fin 64) (e : Fin 131072) (x : ExtSt) (s : State), s.ext e.val = some x ∧ u.val ∈ x.offers ∧ x.xstate ≠ .offered ∧
      x.owner ≠ .host ∧ x.owner ≠ .shared) ∧
    (∃ (u : Fin 64) (e : Fin 131072) (s : State), (∀ x ∈ s.ext e.val, u.val ∉ x.offers)) ∧
    (∃ (u : Fin 64) (e : Fin 131072) (x : ExtSt) (s : State), s.ext e.val = some x ∧ (x.owner = .host ∨ x.owner = .shared) ∧
      bitOf x.hosts u.val = true ∧ (x.xstate ≠ .copying ∨ clrBit x.hosts u.val ≠ 0)) ∧
    (∃ (u : Fin 64) (e : Fin 131072) (s : State), (∀ x ∈ s.ext e.val, (x.owner ≠ .host ∧ x.owner ≠ .shared) ∨ bitOf x.hosts u.val = false)) :=
  ⟨⟨up, 63, by decide⟩,
    ⟨att63 2 [], 63, .assertPerst, by decide⟩,
    ⟨att63 2 [], 63, .deassertPerst, by decide⟩,
    ⟨att63 1 [], 63, by decide⟩,
    ⟨up, 63, by decide⟩,
    ⟨up, 63, 17, 0, by decide⟩,
    ⟨{ att63 2 [(attBase 0, Reg.Att.ATT_CFG_ROLE, 1)] with fmBg := some { op := 0x5202, att := 1, done_ := false } }, 0, 17, 63,
      by decide⟩,
    ⟨att63 2 [(attBase 0, Reg.Att.ATT_CFG_ROLE, 1)], 0, 2, 63, by decide⟩,
    ⟨up, 0, 1, by decide⟩,
    ⟨{ bnd63 with fmBg := some { op := 0x5202, att := 1, done_ := false } }, 0, 17, 63, by decide⟩,
    ⟨bnd63, 0, 17, 1, 63, by decide⟩,
    ⟨bnd63, 0, 17, 2, 63, by decide⟩,
    ⟨63, (bnd63.wr (attBase 63) Reg.Att.ATT_STATE_LINK 0).setAtt 63 { AttSt.init with unbind := some 0 }, by decide⟩,
    ⟨63, up, by decide⟩,
    ⟨ext up 1151 (ExtSt.init), 63, 1151, ExtSt.init, by decide⟩,
    ⟨ext (att63 1 []) 1151 (ExtSt.init), 63, 1151, ExtSt.init, by decide⟩,
    ⟨ext (att63 1 []) 1151 ({ ExtSt.init with owner := .host, hosts := 1, tag := some 1 }), 63, 1151, 1,
      { ExtSt.init with owner := .host, hosts := 1, tag := some 1 }, by decide⟩,
    ⟨ext (att63 1 []) 1151 ExtSt.init, 63, 1151, 1, by decide⟩,
    ⟨ext up 1151 ExtSt.init, 63, 1151, 1, by decide⟩,
    ⟨ext (att63 1 []) 1151 { ExtSt.init with owner := .host, hosts := 2 ^ 63 }, 63, 1151, by decide⟩,
    ⟨ext up 1151 ExtSt.init, 63, 1151, by decide⟩,
    ⟨63, 1151, { ExtSt.init with offers := [63], xstate := .offered, tag := some 1 },
      ext up 1151 ({ ExtSt.init with offers := [63], xstate := .offered, tag := some 1 }), by decide⟩,
    ⟨63, 1151, { ExtSt.init with offers := [63], owner := .host, hosts := 1 },
      ext up 1151 ({ ExtSt.init with offers := [63], owner := .host, hosts := 1 }), by decide⟩,
    ⟨63, 1151, { ExtSt.init with offers := [63], owner := .failed }, ext up 1151 ({ ExtSt.init with offers := [63], owner := .failed }),
      by decide⟩,
    ⟨63, 131071, up, by decide⟩,
    ⟨63, 1151, { ExtSt.init with owner := .host, hosts := 2 ^ 63 }, ext up 1151 ({ ExtSt.init with owner := .host, hosts := 2 ^ 63 }),
      by decide⟩,
    ⟨63, 1151, up, by decide⟩⟩

theorem witness_HostAndFarAccessesGoTheirWay :
    (∃ (u : Fin 64) (line : BitVec 46) (s : State), attUp s u.val = true ∧ s.on (attBase u.val) Reg.Att.ATT_STATE_CXL = true ∧
      isDead s u.val = false ∧ fatalStopped s = false ∧ hostAdmitted s u.val (extentOf (64 * line.toNat)) = true) ∧
    (∃ (u : Fin 64) (line : BitVec 46) (s : State), attUp s u.val = true ∧ s.on (attBase u.val) Reg.Att.ATT_STATE_CXL = true ∧
      isDead s u.val = false ∧ fatalStopped s = false ∧
      (hostAdmitted s u.val (extentOf (64 * line.toNat)) = true ∨ u.val ∈ holders s line.toNat)) ∧
    (∃ (u : Fin 64) (line : BitVec 46) (s : State), attUp s u.val = true ∧ s.on (attBase u.val) Reg.Att.ATT_STATE_CXL = true ∧
      isDead s u.val = false ∧ fatalStopped s = false ∧ hostAdmitted s u.val (extentOf (64 * line.toNat)) = false ∧
      u.val ∉ holders s line.toNat ∧ lineFailed s line.toNat = true) ∧
    (∃ (u : Fin 64) (line : BitVec 46) (s : State), attUp s u.val = true ∧ s.on (attBase u.val) Reg.Att.ATT_STATE_CXL = true ∧
      isDead s u.val = false ∧ fatalStopped s = false ∧ hostAdmitted s u.val (extentOf (64 * line.toNat)) = false ∧
      u.val ∉ holders s line.toNat ∧ lineFailed s line.toNat = false) ∧
    (∃ (u : Fin 64) (s : State), (attUp s u.val = false ∨ s.on (attBase u.val) Reg.Att.ATT_STATE_CXL = false ∨ isDead s u.val = true)) ∧
    (∃ (u : Fin 64) (s : State), attUp s u.val = true ∧ s.on (attBase u.val) Reg.Att.ATT_STATE_CXL = true ∧ isDead s u.val = false ∧
      fatalStopped s = true) ∧
    (∃ (a : Fin 64) (n : BitVec 13) (s : State),
      (attUp s a.val = false ∨ n.toNat = 0 ∨ attRd s a.val Reg.Att.FAR_READ_MAX ≤ (s.att a.val).far.length)) ∧
    (∃ (a : Fin 64) (bytes : List Byte) (s : State), (attUp s a.val = false ∨ bytes = [])) ∧
    (∃ (a : Fin 64) (n : BitVec 13) (s : State), attUp s a.val = true ∧ 0 < n.toNat ∧
      (s.att a.val).far.length < attRd s a.val Reg.Att.FAR_READ_MAX ∧ fatalStopped s = true) ∧
    (∃ (a : Fin 64) (off : BitVec 44) (n : BitVec 13) (s : State), attUp s a.val = true ∧ 0 < n.toNat ∧
      (s.att a.val).far.length < attRd s a.val Reg.Att.FAR_READ_MAX ∧ fatalStopped s = false ∧
      winOf s a.val off.toNat n.toNat Reg.FarWin.RD_EN = none) ∧
    (∃ (a : Fin 64) (off : BitVec 44) (n : BitVec 13) (s : State) (w : Nat), attUp s a.val = true ∧ 0 < n.toNat ∧
      (s.att a.val).far.length < attRd s a.val Reg.Att.FAR_READ_MAX ∧ fatalStopped s = false ∧
      winOf s a.val off.toNat n.toNat Reg.FarWin.RD_EN = some w ∧ epochReady s = false) ∧
    (∃ (a : Fin 64) (off : BitVec 44) (n : BitVec 13) (s : State) (w : Nat), attUp s a.val = true ∧ 0 < n.toNat ∧
      (s.att a.val).far.length < attRd s a.val Reg.Att.FAR_READ_MAX ∧ fatalStopped s = false ∧
      winOf s a.val off.toNat n.toNat Reg.FarWin.RD_EN = some w ∧ epochReady s = true) ∧
    (∃ (a : Fin 64) (bytes : List Byte) (s : State), attUp s a.val = true ∧ bytes ≠ [] ∧ fatalStopped s = true) ∧
    (∃ (a : Fin 64) (off : BitVec 44) (bytes : List Byte) (s : State), attUp s a.val = true ∧ bytes ≠ [] ∧ fatalStopped s = false ∧
      winOf s a.val off.toNat bytes.length Reg.FarWin.WR_EN = none) ∧
    (∃ (a : Fin 64) (off : BitVec 44) (bytes : List Byte) (s : State) (w : Nat), attUp s a.val = true ∧ bytes ≠ [] ∧
      fatalStopped s = false ∧ winOf s a.val off.toNat bytes.length Reg.FarWin.WR_EN = some w ∧ epochReady s = false) ∧
    (∃ (a : Fin 64) (off : BitVec 44) (bytes : List Byte) (s : State) (w : Nat), attUp s a.val = true ∧ bytes ≠ [] ∧
      fatalStopped s = false ∧ winOf s a.val off.toNat bytes.length Reg.FarWin.WR_EN = some w ∧ epochReady s = true) ∧
    (∃ (a : Fin 64) (req : BitVec 16) (q : FarRead) (s : State), (s.att a.val).far.find? (fun q => q.req == req.toNat) = some q ∧
      (q.got.flatMap (fun kv => kv.2)).length = q.len) ∧
    (∃ (a : Fin 64) (req : BitVec 16) (q : FarRead) (s : State), (s.att a.val).far.find? (fun q => q.req == req.toNat) = some q ∧
      (q.got.flatMap (fun kv => kv.2)).length ≠ q.len) ∧
    (∃ (a : Fin 64) (req : BitVec 16) (s : State), (∀ q ∈ (s.att a.val).far, q.req ≠ req.toNat)) ∧
    (∃ (a : Fin 64) (req : BitVec 16) (q : FarRead) (s : State), let t := attEvent (farKill (farEnd (s.bump (attBase a.val) Reg.Att.FAR_TMO_CNT) a.val q.id .completerAbort) a.val q.ch q.id) a.val 3;
      (s.att a.val).far.find? (fun q => q.req == req.toNat) = some q ∧ within t (look (t.att a.val).tmoAt q.w) 1000000 = true) ∧
    (∃ (a : Fin 64) (req : BitVec 16) (q : FarRead) (s : State), let t := attEvent (farKill (farEnd (s.bump (attBase a.val) Reg.Att.FAR_TMO_CNT) a.val q.id .completerAbort) a.val q.ch q.id) a.val 3;
      (s.att a.val).far.find? (fun q => q.req == req.toNat) = some q ∧ within t (look (t.att a.val).tmoAt q.w) 1000000 = false) ∧
    (∃ (r : Route) (a : Fin 64) (w : Fin 16) (x : BitVec 32) (s : State), let b := attBase a.val + 32 * w.val;
      Takes s r (attBase a.val + 32 * w.val + 0x100) ∧ s.on b Reg.FarWin.VALID = true ∧ x.getLsbD 0 = true) ∧
    (∃ (r : Route) (a : Fin 64) (w : Fin 16) (x : BitVec 32) (s : State), let b := attBase a.val + 32 * w.val;
      Takes s r (attBase a.val + 32 * w.val + 0x100) ∧ s.on b Reg.FarWin.VALID = true ∧ x.getLsbD 0 = false) ∧
    (∃ (r : Route) (a : Fin 64) (w : Fin 16) (x : BitVec 32) (s : State), let b := attBase a.val + 32 * w.val;
      let log := bits x.toNat 13 8; Takes s r (attBase a.val + 32 * w.val + 0x100) ∧ s.on b Reg.FarWin.VALID = false ∧ (log < 12 ∨ 44 < log)) ∧
    (∃ (r : Route) (a : Fin 64) (w : Fin 16) (x : BitVec 32) (s : State), let b := attBase a.val + 32 * w.val;
      let log := bits x.toNat 13 8; Takes s r (attBase a.val + 32 * w.val + 0x100) ∧ s.on b Reg.FarWin.VALID = false ∧ 12 ≤ log ∧ log ≤ 44 ∧
      x.getLsbD 0 = false) ∧
    (∃ (r : Route) (a : Fin 64) (w : Fin 16) (x : BitVec 32) (s : State), let b := attBase a.val + 32 * w.val;
      let log := bits x.toNat 13 8; let t := (s.wr b Reg.FarWin.RD_EN (x.toNat / 2)).wr b Reg.FarWin.WR_EN (x.toNat / 4);
      let u := t.wr b Reg.FarWin.LOG_SIZE log; Takes s r (attBase a.val + 32 * w.val + 0x100) ∧ s.on b Reg.FarWin.VALID = false ∧ 12 ≤ log ∧
      log ≤ 44 ∧ x.getLsbD 0 = true ∧ winBad u a.val w.val log = true) ∧
    (∃ (r : Route) (a : Fin 64) (w : Fin 16) (x : BitVec 32) (s : State), let b := attBase a.val + 32 * w.val;
      let log := bits x.toNat 13 8; let t := (s.wr b Reg.FarWin.RD_EN (x.toNat / 2)).wr b Reg.FarWin.WR_EN (x.toNat / 4);
      let u := t.wr b Reg.FarWin.LOG_SIZE log; Takes s r (attBase a.val + 32 * w.val + 0x100) ∧ s.on b Reg.FarWin.VALID = false ∧ 12 ≤ log ∧
      log ≤ 44 ∧ x.getLsbD 0 = true ∧ winBad u a.val w.val log = false) ∧
    (∃ (a : Fin 64) (s : State), isDown s a.val = true ∧ linkUp s a.val = true ∧ (s.att a.val).unusable = false ∧
      (isBound s a.val || isOwned s a.val) = true) ∧
    (∃ (a : Fin 64) (s : State),
      (isDown s a.val = false ∨ linkUp s a.val = false ∨ (s.att a.val).unusable = true ∨ (isBound s a.val || isOwned s a.val) = false)) ∧
    (∃ (a : Fin 64) (s : State), (isOwned s a.val = false ∨ linkUp s a.val = false ∨ (s.att a.val).unusable = true)) ∧
    (∃ (a : Fin 64) (s : State), isOwned s a.val = true ∧ linkUp s a.val = true ∧ (s.att a.val).unusable = false ∧ fatalStopped s = true) ∧
    (∃ (a : Fin 64) (da : BitVec 52) (q : DevReq) (s : State), isOwned s a.val = true ∧ linkUp s a.val = true ∧
      (s.att a.val).unusable = false ∧ fatalStopped s = false ∧
      allExtents s da.toNat (devLen q) (fun x => x.owner == .device && x.open_) = true) ∧
    (∃ (a : Fin 64) (da : BitVec 52) (q : DevReq) (s : State), isOwned s a.val = true ∧ linkUp s a.val = true ∧
      (s.att a.val).unusable = false ∧ fatalStopped s = false ∧
      allExtents s da.toNat (devLen q) (fun x => x.owner == .device && x.open_) = false) ∧
    (∃ (a : Fin 64) (s : State), isBound s a.val = false) ∧
    (∃ (a : Fin 64) (s : State), isBound s a.val = true ∧ (linkUp s a.val = false ∨ fatalStopped s = true)) ∧
    (∃ (a : Fin 64) (s : State), (isBound s a.val = false ∨ linkUp s a.val = false ∨ (s.att a.val).unusable = true)) ∧
    (∃ (a : Fin 64) (s : State), isBound s a.val = true ∧ linkUp s a.val = true ∧ (s.att a.val).unusable = false ∧ fatalStopped s = true) ∧
    (∃ (a : Fin 64) (da : BitVec 52) (q : DevReq) (s : State), let u := attRd s a.val Reg.Att.BIND_VCS; let l := devLen q;
      let m := extentOf (da.toNat + l - 1) + 1 - extentOf da.toNat;
      let good := 0 < l ∧ ∀ i, i < m → hostAdmitted s u (extentOf da.toNat + i) = true; isBound s a.val = true ∧ linkUp s a.val = true ∧
      (s.att a.val).unusable = false ∧ fatalStopped s = false ∧ good) ∧
    (∃ (a : Fin 64) (da : BitVec 52) (tag : BitVec 16) (n : BitVec 13) (q : DevReq) (s : State), let u := attRd s a.val Reg.Att.BIND_VCS;
      let l := devLen q; let m := extentOf (da.toNat + l - 1) + 1 - extentOf da.toNat;
      let good := 0 < l ∧ ∀ i, i < m → hostAdmitted s u (extentOf da.toNat + i) = true; isBound s a.val = true ∧ linkUp s a.val = true ∧
      (s.att a.val).unusable = false ∧ fatalStopped s = false ∧ ¬good ∧ q = .read tag n) ∧
    (∃ (a : Fin 64) (da : BitVec 52) (bytes : List Byte) (poison : Bool) (q : DevReq) (s : State), let u := attRd s a.val Reg.Att.BIND_VCS;
      let l := devLen q; let m := extentOf (da.toNat + l - 1) + 1 - extentOf da.toNat;
      let good := 0 < l ∧ ∀ i, i < m → hostAdmitted s u (extentOf da.toNat + i) = true; isBound s a.val = true ∧ linkUp s a.val = true ∧
      (s.att a.val).unusable = false ∧ fatalStopped s = false ∧ ¬good ∧ q = .write bytes poison) ∧
    (∃ (r : Route) (a : Fin 64) (k : Fin 8) (x : BitVec 32) (s : State), let b := attBase a.val + 16 * k.val;
      Takes s r (attBase a.val + 16 * k.val + 0x50C) ∧ s.on b Reg.Claim.VALID = true ∧ x.getLsbD 31 = true) ∧
    (∃ (r : Route) (a : Fin 64) (k : Fin 8) (x : BitVec 32) (s : State), let b := attBase a.val + 16 * k.val;
      let mine := (List.range (claimRange s a.val k.val).2).map ((claimRange s a.val k.val).1 + ·);
      let freed := mine.all (fun e => ((s.ext e).map (fun y => y.owner == .free && y.xstate != .offered && y.xstate != .releasing)).getD true);
      Takes s r (attBase a.val + 16 * k.val + 0x50C) ∧ s.on b Reg.Claim.VALID = true ∧ x.getLsbD 31 = false ∧ freed = true) ∧
    (∃ (r : Route) (a : Fin 64) (k : Fin 8) (x : BitVec 32) (s : State), let b := attBase a.val + 16 * k.val;
      let mine := (List.range (claimRange s a.val k.val).2).map ((claimRange s a.val k.val).1 + ·);
      let freed := mine.all (fun e => ((s.ext e).map (fun y => y.owner == .free && y.xstate != .offered && y.xstate != .releasing)).getD true);
      Takes s r (attBase a.val + 16 * k.val + 0x50C) ∧ s.on b Reg.Claim.VALID = true ∧ x.getLsbD 31 = false ∧ freed = false) ∧
    (∃ (r : Route) (a : Fin 64) (k : Fin 8) (x : BitVec 32) (s : State), let b := attBase a.val + 16 * k.val; let n := x.toNat % 2 ^ 17;
      Takes s r (attBase a.val + 16 * k.val + 0x50C) ∧ s.on b Reg.Claim.VALID = false ∧ (n < 1 ∨ 65536 < n)) ∧
    (∃ (r : Route) (a : Fin 64) (k : Fin 8) (x : BitVec 32) (s : State), let b := attBase a.val + 16 * k.val; let n := x.toNat % 2 ^ 17;
      Takes s r (attBase a.val + 16 * k.val + 0x50C) ∧ s.on b Reg.Claim.VALID = false ∧ 1 ≤ n ∧ n ≤ 65536 ∧ x.getLsbD 31 = false) ∧
    (∃ (r : Route) (a : Fin 64) (k : Fin 8) (x : BitVec 32) (fits : Bool) (s : State), let b := attBase a.val + 16 * k.val;
      let n := x.toNat % 2 ^ 17; let t := s.wr b Reg.Claim.EXT_COUNT n; Takes s r (attBase a.val + 16 * k.val + 0x50C) ∧
      s.on b Reg.Claim.VALID = false ∧ 1 ≤ n ∧ n ≤ 65536 ∧ x.getLsbD 31 = true ∧ claimBad t a.val k.val n fits = true) ∧
    (∃ (r : Route) (a : Fin 64) (k : Fin 8) (x : BitVec 32) (fits : Bool) (s : State), let b := attBase a.val + 16 * k.val;
      let n := x.toNat % 2 ^ 17; let t := s.wr b Reg.Claim.EXT_COUNT n; Takes s r (attBase a.val + 16 * k.val + 0x50C) ∧
      s.on b Reg.Claim.VALID = false ∧ 1 ≤ n ∧ n ≤ 65536 ∧ x.getLsbD 31 = true ∧ claimBad t a.val k.val n fits = false) ∧
    (∃ (p : Fin 128) (x : Packet) (s : State) (t : State) (u : State), let c := (p.val - 112) / 3; fatalStopped s = false ∧ 112 ≤ p.val ∧
      p.val < 124 ∧ takeInbox s [p.val] (fun x => x.op == opTunnel) = some (x, t) ∧ arriveGood t c x = some u) ∧
    (∃ (p : Fin 128) (x : Packet) (s : State) (t : State), let c := (p.val - 112) / 3;
      let dest := if x.rh.mc = true then (lookD s.switch.mcTo p.val []).head? else if x.endpoint < 64 then some x.endpoint else none;
      fatalStopped s = false ∧ 112 ≤ p.val ∧ p.val < 124 ∧ takeInbox s [p.val] (fun x => x.op == opTunnel) = some (x, t) ∧
      arriveGood t c x = none ∧ dest = none) ∧
    (∃ (p : Fin 128) (frag : Option (List Byte)) (x : Packet) (s : State) (t : State) (a : Nat) (u : State), let c := (p.val - 112) / 3;
      let dest := if x.rh.mc = true then (lookD s.switch.mcTo p.val []).head? else if x.endpoint < 64 then some x.endpoint else none;
      fatalStopped s = false ∧ 112 ≤ p.val ∧ p.val < 124 ∧ takeInbox s [p.val] (fun x => x.op == opTunnel) = some (x, t) ∧
      arriveGood t c x = none ∧ dest = some a ∧ tunDeliver t a x frag = some u) ∧
    (∃ (p : Fin 128) (frag : Option (List Byte)) (x : Packet) (s : State) (t : State) (a : Nat), let c := (p.val - 112) / 3;
      let dest := if x.rh.mc = true then (lookD s.switch.mcTo p.val []).head? else if x.endpoint < 64 then some x.endpoint else none;
      fatalStopped s = false ∧ 112 ≤ p.val ∧ p.val < 124 ∧ takeInbox s [p.val] (fun x => x.op == opTunnel) = some (x, t) ∧
      arriveGood t c x = none ∧ dest = some a ∧ tunDeliver t a x frag = none) ∧
    (∃ (x : Packet) (s : State) (t : State) (u : State), fatalStopped s = false ∧ takeInbox s [126] (fun x => x.op == opTunnel) = some (x,
      t) ∧ mgmtRefused t x = some u) ∧
    (∃ (x : Packet) (s : State) (t : State), fatalStopped s = false ∧ takeInbox s [126] (fun x => x.op == opTunnel) = some (x, t) ∧
      mgmtRefused t x = none) ∧
    (∃ (p : Fin 128) (s : State),
      (fatalStopped s = true ∨ p.val < 112 ∨ p.val = 124 ∨ p.val = 125 ∨ p.val = 127 ∨ lookD s.switch.inbox p.val [] = [])) ∧
    (∃ (s : State) (a : Nat) (p : Packet), let f := tunFn s a p.payload;
      (attRd s a Reg.Att.TUN_EN = 0 ∨ s.on (bar2 f) Reg.Trq.TRQ_CFG_EN = false ∨ fnReady s f = false ∨ s.rd (bar2 f) Reg.Trq.TRQ_CI = s.rd (bar2 f) Reg.Trq.TRQ_PI)) ∧
    (∃ (f : Fin 1024) (s : State), let b := bar2 f.val;
      (fatalStopped s = true ∨ fnReady s f.val = false ∨ s.on b Reg.Trq.TRQ_CFG_EN = false)) ∧
    (∃ (f : Fin 1024) (v : BitVec 32) (s : State), let b := bar2 f.val; fatalStopped s = false ∧ fnReady s f.val = true ∧
      s.on b Reg.Trq.TRQ_CFG_EN = true ∧ ringDist v.toNat (s.rd b Reg.Trq.TRQ_CI) ≤ 2 ^ s.rd b Reg.Trq.TRQ_CFG_LOG_SIZE ∧
      ringDist v.toNat (s.rd b Reg.Trq.TRQ_PI) ≤ 2 ^ s.rd b Reg.Trq.TRQ_CFG_LOG_SIZE) ∧
    (∃ (f : Fin 1024) (v : BitVec 32) (s : State), let b := bar2 f.val; fatalStopped s = false ∧ fnReady s f.val = true ∧
      s.on b Reg.Trq.TRQ_CFG_EN = true ∧
      (2 ^ s.rd b Reg.Trq.TRQ_CFG_LOG_SIZE < ringDist v.toNat (s.rd b Reg.Trq.TRQ_CI) ∨ 2 ^ s.rd b Reg.Trq.TRQ_CFG_LOG_SIZE < ringDist v.toNat (s.rd b Reg.Trq.TRQ_PI))) :=
  ⟨⟨63, 0, ext (att63 1 [(attBase 63, Reg.Att.ATT_STATE_CXL, 1)]) 0 { ExtSt.init with owner := .host, hosts := 2 ^ 63 }, by decide⟩,
    ⟨63, 0,
      { att63 1 [(attBase 63, Reg.Att.ATT_STATE_CXL, 1)] with mesh := { up.mesh with sf := [(0, { owner := some 63, sharers := [], mask := 0, used := 0 })] } },
      by decide⟩,
    ⟨63, 0, ext (att63 1 [(attBase 63, Reg.Att.ATT_STATE_CXL, 1)]) 0 { ExtSt.init with owner := .failed }, by decide⟩,
    ⟨63, 0, att63 1 [(attBase 63, Reg.Att.ATT_STATE_CXL, 1)], by decide⟩,
    ⟨63, up, by decide⟩,
    ⟨63, fatal (att63 1 [(attBase 63, Reg.Att.ATT_STATE_CXL, 1)]), by decide⟩,
    ⟨63, 4, up, by decide⟩,
    ⟨63, [], up, by decide⟩,
    ⟨63, 4, fatal (att63 1 []), by decide⟩,
    ⟨63, 0, 4, att63 1 [], by decide⟩,
    ⟨63, 65532, 4, far63.wr atBase Reg.Atlas.ATLAS_CTL_VALID0 0, 15, by decide⟩,
    ⟨63, 65532, 4, far63.wr 0 Reg.Root.DEV_CICEN_ID_VALID 1, 15, by decide⟩,
    ⟨63, [1], fatal (att63 1 []), by decide⟩,
    ⟨63, 0, [1], att63 1 [], by decide⟩,
    ⟨63, 65535, [1], far63.wr atBase Reg.Atlas.ATLAS_CTL_VALID0 0, 15, by decide⟩,
    ⟨63, 65535, [1], far63.wr 0 Reg.Root.DEV_CICEN_ID_VALID 1, 15, by decide⟩,
    ⟨63, 9, farRd0, far63.setAtt 63 { AttSt.init with far := [farRd0] }, by decide⟩,
    ⟨63, 9, { farRd0 with len := 5 }, far63.setAtt 63 { AttSt.init with far := [({ farRd0 with len := 5 })] }, by decide⟩,
    ⟨63, 9, up, by decide⟩,
    ⟨63, 9, farRd0, far63.setAtt 63 { AttSt.init with far := [farRd0], tmoAt := [(15, 0)] }, by intros; decide⟩,
    ⟨63, 9, farRd0, far63.setAtt 63 { AttSt.init with far := [farRd0] }, by intros; decide⟩,
    ⟨.mp, 63, 15, 1, far63, by unfold Takes; intros; decide⟩,
    ⟨.mp, 63, 15, 2, far63, by unfold Takes; intros; decide⟩,
    ⟨.mp, 63, 15, 1, up, by unfold Takes; intros; decide⟩,
    ⟨.mp, 63, 15, 0x2C06, up, by unfold Takes; intros; decide⟩,
    ⟨.mp, 63, 15, 0x2C01, far63.wr (attBase 63 + 32 * 15) Reg.FarWin.VALID 0, by unfold Takes; intros; decide⟩,
    ⟨.mp, 63, 15, 0x0C07,
      ((far63.wr (attBase 63 + 32 * 15) Reg.FarWin.VALID 0).wr (fnTab + 32 * 63) Reg.FnTab.FN_CHAN_COUNT 8).wr (attBase 63) Reg.Att.FAR_BAR_LOG 30,
      by unfold Takes; intros; decide⟩,
    ⟨63, own63, by decide⟩,
    ⟨63, up, by decide⟩,
    ⟨63, up, by decide⟩,
    ⟨63, fatal own63, by decide⟩,
    ⟨63, 0, .read 3 4, ext own63 0 { ExtSt.init with owner := .device }, by decide⟩,
    ⟨63, 0, .read 3 4, own63, by decide⟩,
    ⟨63, up, by decide⟩,
    ⟨63, fatal bnd63, by decide⟩,
    ⟨63, up, by decide⟩,
    ⟨63, fatal bnd63, by decide⟩,
    ⟨63, 0, .write [1] false, ext bnd63 0 { ExtSt.init with owner := .host, hosts := 1 }, by intros; decide⟩,
    ⟨63, 0, 0, 4, .read (0) (4), bnd63, by intros; decide⟩,
    ⟨63, 0, [1], false, .write ([1]) (false), bnd63, by intros; decide⟩,
    ⟨.mp, 63, 7, 0x80000001, own63.wr (attBase 63 + 16 * 7) Reg.Claim.VALID 1, by unfold Takes; intros; decide⟩,
    ⟨.mp, 63, 7, 0, own63.wr (attBase 63 + 16 * 7) Reg.Claim.VALID 1, by unfold Takes; intros; decide⟩,
    ⟨.mp, 63, 7, 0,
      ext ((own63.wr (attBase 63 + 16 * 7) Reg.Claim.VALID 1).wr (attBase 63 + 16 * 7) Reg.Claim.EXT_COUNT 1) 0 { ExtSt.init with owner := .device },
      by unfold Takes; intros; decide⟩,
    ⟨.mp, 63, 7, 65537, up, by unfold Takes; intros; decide⟩,
    ⟨.mp, 63, 7, 65536, own63, by unfold Takes; intros; decide⟩,
    ⟨.mp, 63, 7, 0x80000001, false, att63 2 [], by unfold Takes; intros; decide⟩,
    ⟨.mp, 63, 7, 0x80000001, true, own63.wr (attBase 63 + 16 * 7) Reg.Claim.EXT_FIRST 65536, by unfold Takes; intros; decide⟩,
    ⟨123, { tun63 63 with tr := { (tun63 63).tr with stomp := 0xA5 } },
      inb up 123 ({ tun63 63 with tr := { (tun63 63).tr with stomp := 0xA5 } }), inb0 up 123,
      (arriveGood (inb0 up 123) 3 ({ tun63 63 with tr := { (tun63 63).tr with stomp := 0xA5 } })).getD up, by intros; decide⟩,
    ⟨112, tun63 64, inb up 112 (tun63 64), inb0 up 112, by intros; decide⟩,
    ⟨123, none, tun63 63, inb (att63 1 []) 123 (tun63 63), inb0 (att63 1 []) 123, 63,
      (tunDeliver (inb0 (att63 1 []) 123) 63 (tun63 63) none).getD up, by intros; decide⟩,
    ⟨123, none, tun63 63, inb (tunUp { cq0 with reserved := 16 }) 123 (tun63 63), inb0 (tunUp { cq0 with reserved := 16 }) 123, 63,
      by intros; decide +kernel⟩,
    ⟨tun63 66, inb { up with setup := { up.setup with fenced := [.mgmtProc] } } 126 (tun63 66),
      inb0 { up with setup := { up.setup with fenced := [.mgmtProc] } } 126,
      (inb0 { up with setup := { up.setup with fenced := [.mgmtProc] } } 126), by decide⟩,
    ⟨tun63 66, inb up 126 (tun63 66), inb0 up 126, by decide⟩,
    ⟨127, up, by decide⟩,
    ⟨up, 63, tun63 63, by intros; decide⟩,
    ⟨0, up, by intros; decide⟩,
    ⟨0, 16, (fn0.wr (bar2 0) Reg.Trq.TRQ_CFG_EN 1).wr (bar2 0) Reg.Trq.TRQ_CFG_LOG_SIZE 4, by intros; decide⟩,
    ⟨0, 17, (fn0.wr (bar2 0) Reg.Trq.TRQ_CFG_EN 1).wr (bar2 0) Reg.Trq.TRQ_CFG_LOG_SIZE 4, by intros; decide⟩⟩

theorem witness_ExtentCommandsAnswerTheirResult :
    (∃ (r : Route) (s : State) (i : Instr), Takes s r (poolBase + 0x40) ∧ s.on poolBase Reg.Pool.EXT_STATUS_BUSY = true ∧
      i ∈ [Instr.assign r, .release r, .pair r, .unpair r, .extentQuery r]) ∧
    (∃ (r : Route) (s : State), let e := s.rd poolBase Reg.Pool.EXT_CMD_EXTENT; Takes s r (poolBase + 0x40) ∧
      s.on poolBase Reg.Pool.EXT_STATUS_BUSY = false ∧ s.ext e = none) ∧
    (∃ (r : Route) (s : State) (x : ExtSt), let e := s.rd poolBase Reg.Pool.EXT_CMD_EXTENT; let o := s.rd poolBase Reg.ExtIm.OWNER;
      Takes s r (poolBase + 0x40) ∧ s.on poolBase Reg.Pool.EXT_STATUS_BUSY = false ∧ s.ext e = some x ∧ x.owner = .free ∧
      x.xstate = .settled ∧ x.isMirror = false ∧ o = 3) ∧
    (∃ (r : Route) (s : State) (x : ExtSt), let e := s.rd poolBase Reg.Pool.EXT_CMD_EXTENT; let o := s.rd poolBase Reg.ExtIm.OWNER;
      Takes s r (poolBase + 0x40) ∧ s.on poolBase Reg.Pool.EXT_STATUS_BUSY = false ∧ s.ext e = some x ∧ x.owner = .free ∧
      x.xstate = .settled ∧ x.isMirror = false ∧ o = 4) ∧
    (∃ (r : Route) (s : State) (x : ExtSt), let e := s.rd poolBase Reg.Pool.EXT_CMD_EXTENT; let o := s.rd poolBase Reg.ExtIm.OWNER;
      Takes s r (poolBase + 0x40) ∧ s.on poolBase Reg.Pool.EXT_STATUS_BUSY = false ∧ s.ext e = some x ∧ x.owner = .free ∧
      x.xstate = .settled ∧ x.isMirror = false ∧ (o = 6 ∨ o = 7)) ∧
    (∃ (r : Route) (s : State) (x : ExtSt), let e := s.rd poolBase Reg.Pool.EXT_CMD_EXTENT; let o := s.rd poolBase Reg.ExtIm.OWNER;
      Takes s r (poolBase + 0x40) ∧ s.on poolBase Reg.Pool.EXT_STATUS_BUSY = false ∧ s.ext e = some x ∧ x.owner = .free ∧
      x.xstate = .settled ∧ x.isMirror = false ∧ (o < 3 ∨ o = 5)) ∧
    (∃ (r : Route) (s : State) (x : ExtSt), let e := s.rd poolBase Reg.Pool.EXT_CMD_EXTENT; Takes s r (poolBase + 0x40) ∧
      s.on poolBase Reg.Pool.EXT_STATUS_BUSY = false ∧ s.ext e = some x ∧ (x.owner ≠ .free ∨ x.xstate ≠ .settled ∨ x.isMirror = true)) ∧
    (∃ (r : Route) (s : State) (x : ExtSt), let e := s.rd poolBase Reg.Pool.EXT_CMD_EXTENT; Takes s r (poolBase + 0x40) ∧
      s.on poolBase Reg.Pool.EXT_STATUS_BUSY = false ∧ s.ext e = some x ∧ (x.owner = .fabric ∨ x.owner = .device) ∧ x.open_ = true) ∧
    (∃ (r : Route) (s : State) (x : ExtSt), let e := s.rd poolBase Reg.Pool.EXT_CMD_EXTENT; Takes s r (poolBase + 0x40) ∧
      s.on poolBase Reg.Pool.EXT_STATUS_BUSY = false ∧ s.ext e = some x ∧ x.owner = .failed ∧ isHbm e = false) ∧
    (∃ (r : Route) (s : State) (x : ExtSt), let e := s.rd poolBase Reg.Pool.EXT_CMD_EXTENT; Takes s r (poolBase + 0x40) ∧
      s.on poolBase Reg.Pool.EXT_STATUS_BUSY = false ∧ s.ext e = some x ∧ (x.open_ = false ∨ (x.owner ≠ .fabric ∧ x.owner ≠ .device)) ∧
      (x.owner ≠ .failed ∨ isHbm e = true)) ∧
    (∃ (r : Route) (s : State) (x : ExtSt), let e := s.rd poolBase Reg.Pool.EXT_CMD_EXTENT; let m := s.rd poolBase Reg.ExtIm.MIRROR;
      Takes s r (poolBase + 0x40) ∧ s.on poolBase Reg.Pool.EXT_STATUS_BUSY = false ∧ s.ext e = some x ∧ s.ext m = none) ∧
    (∃ (r : Route) (s : State) (x : ExtSt) (y : ExtSt), let e := s.rd poolBase Reg.Pool.EXT_CMD_EXTENT;
      let m := s.rd poolBase Reg.ExtIm.MIRROR; let alive := fun (k : Nat) => s.rd (stackBase (homeStack k)) Reg.Stk.STACK_STATE != 2;
      let apart := isHbm e && isHbm m && homeStack e != homeStack m && alive e && alive m;
      let unused := y.owner == .free && y.xstate == .settled && !y.isMirror && !y.mirrored;
      let good := apart && unused && !x.mirrored && !x.isMirror && !x.onMirror && x.xstate != .copying; Takes s r (poolBase + 0x40) ∧
      s.on poolBase Reg.Pool.EXT_STATUS_BUSY = false ∧ s.ext e = some x ∧ s.ext m = some y ∧ good = true ∧ x.owner = .free) ∧
    (∃ (r : Route) (s : State) (x : ExtSt) (y : ExtSt), let e := s.rd poolBase Reg.Pool.EXT_CMD_EXTENT;
      let m := s.rd poolBase Reg.ExtIm.MIRROR; let alive := fun (k : Nat) => s.rd (stackBase (homeStack k)) Reg.Stk.STACK_STATE != 2;
      let apart := isHbm e && isHbm m && homeStack e != homeStack m && alive e && alive m;
      let unused := y.owner == .free && y.xstate == .settled && !y.isMirror && !y.mirrored;
      let good := apart && unused && !x.mirrored && !x.isMirror && !x.onMirror && x.xstate != .copying; Takes s r (poolBase + 0x40) ∧
      s.on poolBase Reg.Pool.EXT_STATUS_BUSY = false ∧ s.ext e = some x ∧ s.ext m = some y ∧ good = true ∧ x.owner ≠ .free) ∧
    (∃ (r : Route) (s : State) (x : ExtSt) (y : ExtSt), let e := s.rd poolBase Reg.Pool.EXT_CMD_EXTENT;
      let m := s.rd poolBase Reg.ExtIm.MIRROR; let alive := fun (k : Nat) => s.rd (stackBase (homeStack k)) Reg.Stk.STACK_STATE != 2;
      let apart := isHbm e && isHbm m && homeStack e != homeStack m && alive e && alive m;
      let unused := y.owner == .free && y.xstate == .settled && !y.isMirror && !y.mirrored;
      let good := apart && unused && !x.mirrored && !x.isMirror && !x.onMirror && x.xstate != .copying; Takes s r (poolBase + 0x40) ∧
      s.on poolBase Reg.Pool.EXT_STATUS_BUSY = false ∧ s.ext e = some x ∧ s.ext m = some y ∧ good = false) ∧
    (∃ (r : Route) (s : State) (x : ExtSt), let e := s.rd poolBase Reg.Pool.EXT_CMD_EXTENT; Takes s r (poolBase + 0x40) ∧
      s.on poolBase Reg.Pool.EXT_STATUS_BUSY = false ∧ s.ext e = some x ∧ x.mirrored = true ∧ x.onMirror = false) ∧
    (∃ (r : Route) (s : State) (x : ExtSt), let e := s.rd poolBase Reg.Pool.EXT_CMD_EXTENT; Takes s r (poolBase + 0x40) ∧
      s.on poolBase Reg.Pool.EXT_STATUS_BUSY = false ∧ s.ext e = some x ∧ (x.mirrored = false ∨ x.onMirror = true)) :=
  ⟨⟨.mp, extUp ExtSt.init [(poolBase, Reg.Pool.EXT_STATUS_BUSY, 1)], .pair (.mp), by unfold Takes; decide⟩,
    ⟨.mp, regs [(poolBase, Reg.Pool.EXT_CMD_EXTENT, 65536)], by unfold Takes; intros; decide⟩,
    ⟨.mp, extUp (ExtSt.init) [(poolBase, Reg.ExtIm.OWNER, 3), (poolBase, Reg.ExtIm.PARTITION, 5)], ExtSt.init,
      by unfold Takes; intros; decide⟩,
    ⟨.mp, extUp (ExtSt.init) [(poolBase, Reg.ExtIm.OWNER, 4), (poolBase, Reg.ExtIm.PARTITION, 5)], ExtSt.init,
      by unfold Takes; intros; decide⟩,
    ⟨.mp, extUp (ExtSt.init) [(poolBase, Reg.ExtIm.OWNER, 7)], ExtSt.init, by unfold Takes; intros; decide⟩,
    ⟨.mp, extUp (ExtSt.init) [(poolBase, Reg.ExtIm.OWNER, 5)], ExtSt.init, by unfold Takes; intros; decide⟩,
    ⟨.mp, extUp ({ ExtSt.init with owner := .host }) [], { ExtSt.init with owner := .host }, by unfold Takes; intros; decide⟩,
    ⟨.mp, extUp ({ ExtSt.init with owner := .fabric }) [], { ExtSt.init with owner := .fabric }, by unfold Takes; intros; decide⟩,
    ⟨.mp, ext (regs [(poolBase, Reg.Pool.EXT_CMD_EXTENT, 65536)]) 65536 ({ ExtSt.init with owner := .failed }),
      { ExtSt.init with owner := .failed }, by unfold Takes; intros; decide⟩,
    ⟨.mp, extUp (ExtSt.init) [], ExtSt.init, by unfold Takes; intros; decide⟩,
    ⟨.mp, extUp (ExtSt.init) [(poolBase, Reg.ExtIm.MIRROR, 1152)], ExtSt.init, by unfold Takes; intros; decide⟩,
    ⟨.mp, extUp (ExtSt.init) [(poolBase, Reg.ExtIm.MIRROR, 0)], ExtSt.init, ExtSt.init, by unfold Takes; intros; decide⟩,
    ⟨.mp, extUp ({ ExtSt.init with owner := .fabric }) [(poolBase, Reg.ExtIm.MIRROR, 0)], { ExtSt.init with owner := .fabric },
      ExtSt.init, by unfold Takes; intros; decide⟩,
    ⟨.mp, extUp (ExtSt.init) [(poolBase, Reg.ExtIm.MIRROR, 1150)], ExtSt.init, ExtSt.init, by unfold Takes; intros; decide⟩,
    ⟨.mp, extUp ({ ExtSt.init with owner := .fabric, mirrored := true, mirror := 3 }) [],
      { ExtSt.init with owner := .fabric, mirrored := true, mirror := 3 }, by unfold Takes; intros; decide⟩,
    ⟨.mp, extUp ({ ExtSt.init with owner := .fabric, onMirror := true, mirror := 3 }) [],
      { ExtSt.init with owner := .fabric, onMirror := true, mirror := 3 }, by unfold Takes; intros; decide⟩⟩

theorem witness_ExtentsAreSanitizedPairedAndScrubbed :
    (∃ (e : Fin 131072) (x : ExtSt) (s : State), let t := pumpExtents s; s.ext e.val = some x ∧ x.xstate = .releasing ∧
      extentQuiet t e.val = false) ∧
    (∃ (e : Fin 131072) (x : ExtSt) (s : State), let t := pumpExtents s; s.ext e.val = some x ∧ x.xstate = .releasing ∧
      extentQuiet t e.val = true ∧ x.onMirror = false) ∧
    (∃ (e : Fin 131072) (x : ExtSt) (s : State) (y : ExtSt), let t := pumpExtents s; let u := endPair t e.val; s.ext e.val = some x ∧
      x.xstate = .releasing ∧ extentQuiet t e.val = true ∧ x.onMirror = true ∧ u.ext e.val = some y) ∧
    (∃ (e : Fin 131072) (s : State), (∀ x ∈ s.ext e.val, x.xstate ≠ .releasing)) ∧
    (∃ (e : Fin 131072) (rest : List Nat) (s : State), lookD s.pool.san (homeStack e.val) [] = e.val :: rest) ∧
    (∃ (e : Fin 131072) (s : State),
      (lookD s.pool.san (homeStack e.val) [] = [] ∨ (lookD s.pool.san (homeStack e.val) []).head? ≠ some e.val)) ∧
    (∃ (e : Nat) (a : Nat) (s : State), PoolForm s ∧ extentOf a = e) ∧
    (∃ (e : Nat) (a : Nat) (s : State), PoolForm s ∧ extentOf a ≠ e) ∧
    (∃ (e : Fin 1152) (x : ExtSt) (s : State), s.ext e.val = some x ∧ x.xstate = .copying) ∧
    (∃ (e : Fin 1152) (x : ExtSt) (s : State), s.ext e.val = some x ∧ x.xstate ≠ .copying) ∧
    (∃ (s : State), s.pool.ready = false) ∧
    (∃ (s : State), s.pool.ready = true) ∧
    (∃ (st : Fin 6) (s : State), s.rd (stackBase st.val) Reg.Stk.STACK_STATE = 2) ∧
    (∃ (r : Route) (st : Fin 6) (s : State), Takes s r (stackBase st.val + 0x404)) ∧
    (∃ (line : BitVec 46) (s : State), hbmLine s line.toNat = true) ∧
    (∃ (line : BitVec 46) (s : State), hbmLine s line.toNat = false) ∧
    (∃ (s : State), s.rd poolBase Reg.Pool.SCRUB_HOURS = 0) ∧
    (∃ (s : State), s.rd poolBase Reg.Pool.SCRUB_HOURS ≠ 0 ∧ scrubbable s s.pool.scrub = false) ∧
    (∃ (s : State), s.rd poolBase Reg.Pool.SCRUB_HOURS ≠ 0 ∧ scrubbable s s.pool.scrub = true) ∧
    (∃ (r : Route) (s : State), Takes s r (poolBase + 0x6C)) :=
  ⟨⟨1151, { ExtSt.init with xstate := .releasing },
      { extUp ({ ExtSt.init with xstate := .releasing }) [] with mesh := { up.mesh with wbs := [{ kind := .wbMod, agent := 64, line := 1151 * 2 ^ 22, data := [], bad := false }] } },
      by intros; decide⟩,
    ⟨1151, { ExtSt.init with xstate := .releasing }, extUp ({ ExtSt.init with xstate := .releasing }) [], by intros; decide⟩,
    ⟨1151, { ExtSt.init with xstate := .releasing, onMirror := true },
      extUp ({ ExtSt.init with xstate := .releasing, onMirror := true }) [],
      ((endPair (pumpExtents (extUp ({ ExtSt.init with xstate := .releasing, onMirror := true }) [])) 1151).ext 1151).getD ExtSt.init,
      by intros; decide⟩,
    ⟨131071, up, by decide⟩,
    ⟨1151, [1150],
      { extUp { ExtSt.init with xstate := .sanitizing } [] with pool := { (extUp { ExtSt.init with xstate := .sanitizing } []).pool with san := [(5, [1151, 1150])] } },
      by decide⟩,
    ⟨1151, up, by decide⟩,
    ⟨1, 2^28, { up with pool := { up.pool with mem := [(2^28, 7)] } }, by unfold PoolForm; decide⟩,
    ⟨0, 2^28, { up with pool := { up.pool with mem := [(5, 9), (2^28, 7)] } }, by unfold PoolForm; decide⟩,
    ⟨1151, { ExtSt.init with xstate := .copying, mirror := 0 }, extUp ({ ExtSt.init with xstate := .copying, mirror := 0 }) [], by decide⟩,
    ⟨1151, ExtSt.init, extUp (ExtSt.init) [], by decide⟩,
    ⟨{ up with pool := { up.pool with mem := [(5, 9)] } }, by decide⟩,
    ⟨extUp ExtSt.init [], by decide⟩,
    ⟨5, reg (stackBase 5) Reg.Stk.STACK_STATE 2, by decide⟩,
    ⟨.mp, 5, up, by unfold Takes; decide⟩,
    ⟨4831838207, up, by decide⟩,
    ⟨4831838208, up, by decide⟩,
    ⟨reg poolBase Reg.Pool.SCRUB_HOURS 0, by decide⟩,
    ⟨{ (reg poolBase Reg.Pool.SCRUB_HOURS 24).wr (stackBase 5) Reg.Stk.STACK_STATE 2 with pool := { up.pool with scrub := 1152 * 2 ^ 22 - 1 } },
      by decide⟩,
    ⟨{ reg poolBase Reg.Pool.SCRUB_HOURS 24 with pool := { up.pool with scrub := 1152 * 2 ^ 22 - 1 } }, by decide⟩,
    ⟨.mp, regs [(poolBase, Reg.Pool.SAN_DONE_CNT, 4), (poolBase, Reg.Pool.ELOG_PI, 6)], by unfold Takes; decide⟩⟩

theorem witness_HomeServesRequestsAndWritebacks :
    (∃ (i : Fin 48) (q : HomeReq) (credit : List Nat) (s : State), sliceOff s i.val = false ∧ (∀ w ∈ s.mesh.wbs,
      lineSlice w.line ≠ i.val) ∧ nextReq s i.val = some (q, credit) ∧ q.kind = .rdShared) ∧
    (∃ (i : Fin 48) (q : HomeReq) (credit : List Nat) (s : State), sliceOff s i.val = false ∧ (∀ w ∈ s.mesh.wbs,
      lineSlice w.line ≠ i.val) ∧ nextReq s i.val = some (q, credit) ∧ q.kind = .rdOwn) ∧
    (∃ (i : Fin 48) (q : HomeReq) (credit : List Nat) (s : State), sliceOff s i.val = false ∧ (∀ w ∈ s.mesh.wbs,
      lineSlice w.line ≠ i.val) ∧ nextReq s i.val = some (q, credit) ∧ q.kind = .rdNoAlloc) ∧
    (∃ (i : Fin 48) (q : HomeReq) (credit : List Nat) (s : State), sliceOff s i.val = false ∧ (∀ w ∈ s.mesh.wbs,
      lineSlice w.line ≠ i.val) ∧ nextReq s i.val = some (q, credit) ∧ q.kind = .wrNoAlloc) ∧
    (∃ (i : Fin 48) (c : Instr) (k : HomeKind) (s : State), (c,
      k) ∈ [(Instr.rdShared i, HomeKind.rdShared), (.rdOwn i, .rdOwn), (.rdNoAlloc i, .rdNoAlloc), (.wrNoAlloc i, .wrNoAlloc)] ∧
      (sliceOff s i.val = true ∨ s.mesh.wbs.any (fun w => lineSlice w.line == i.val) = true ∨ (∀ x ∈ nextReq s i.val, x.1.kind ≠ k))) ∧
    (∃ (i : Nat) (q : HomeReq) (credit : List Nat) (s : State), nextReq s i = some (q, credit)) ∧
    (∃ (q : HomeReq) (s : State) (b : BusyEnt), busyOf s q.line = some b) ∧
    (∃ (q : HomeReq) (s : State), busyOf s q.line = none) ∧
    (∃ (i : Nat) (r : Nat) (q : HomeReq) (credit : List Nat) (s : State), let t := takeReq s i q credit; let e := sfTouch t q.line;
      q.asker = .agent r ∧ q.kind = .rdShared ∧ (needsWay s q = false ∨ (waysUsed s q.line).length < 16) ∧ e.owner = none) ∧
    (∃ (i : Nat) (r : Nat) (o : Nat) (q : HomeReq) (credit : List Nat) (s : State), let t := takeReq s i q credit;
      let e := sfTouch t q.line; q.asker = .agent r ∧ q.kind = .rdShared ∧ (needsWay s q = false ∨ (waysUsed s q.line).length < 16) ∧
      e.owner = some o) ∧
    (∃ (i : Fin 48) (w : WbReq) (s : State), sliceOff s i.val = false ∧ s.mesh.wbs.find? (fun w => lineSlice w.line == i.val) = some w ∧
      w.kind = .wbMod) ∧
    (∃ (i : Fin 48) (w : WbReq) (s : State), sliceOff s i.val = false ∧ s.mesh.wbs.find? (fun w => lineSlice w.line == i.val) = some w ∧
      w.kind = .wbClean) ∧
    (∃ (i : Fin 48) (w : WbReq) (s : State), sliceOff s i.val = false ∧ s.mesh.wbs.find? (fun w => lineSlice w.line == i.val) = some w ∧
      w.kind = .evict) ∧
    (∃ (i : Fin 48) (c : Instr) (k : WbKind) (s : State), (c,
      k) ∈ [(Instr.wbMod i, WbKind.wbMod), (.wbClean i, .wbClean), (.evict i, .evict)] ∧
      (sliceOff s i.val = true ∨ (∀ w ∈ s.mesh.wbs.find? (fun w => lineSlice w.line == i.val), w.kind ≠ k))) ∧
    (∃ (a : Fin 80) (s : State), a.val < 64 ∧ isDead s a.val = true) ∧
    (∃ (a : Fin 80) (line : BitVec 46) (s : State) (x : Snp), a.val < 64 ∧ isDead s a.val = false ∧
      s.mesh.snps.find? (fun x => x.agent == a.val && x.line == line.toNat) = some x) ∧
    (∃ (a : Fin 80) (line : BitVec 46) (s : State), a.val < 64 ∧ isDead s a.val = false ∧ (∀ x ∈ s.mesh.snps,
      x.agent = a.val → x.line ≠ line.toNat)) ∧
    (∃ (a : Fin 80) (line : BitVec 46) (s : State), let mine := fun (m : HomeMsg) => match m with | .rsp x y _ _ _ => x == a.val && y == line.toNat | _ => false;
      64 ≤ a.val ∧ s.mesh.toHome.any mine = false) ∧
    (∃ (a : Fin 80) (line : BitVec 46) (r : SnpAns) (d : List Byte) (bad : Bool) (s : State), let mine := fun (m : HomeMsg) => match m with | .rsp x y _ _ _ => x == a.val && y == line.toNat | _ => false;
      64 ≤ a.val ∧ s.mesh.toHome.find? mine = some (.rsp a.val line.toNat r d bad) ∧ isDead s a.val = false) ∧
    (∃ (a : Fin 80) (line : BitVec 46) (r : SnpAns) (d : List Byte) (bad : Bool) (s : State), let mine := fun (m : HomeMsg) => match m with | .rsp x y _ _ _ => x == a.val && y == line.toNat | _ => false;
      64 ≤ a.val ∧ s.mesh.toHome.find? mine = some (.rsp a.val line.toNat r d bad) ∧ isDead s a.val = true) ∧
    (∃ (s : State) (line : Nat), busyOf s line = none) ∧
    (∃ (s : State) (a : Nat) (line : Nat) (b : BusyEnt), busyOf s line = some b ∧ a ∉ b.waits) ∧
    (∃ (a : Fin 80) (line : BitVec 46) (s : State), 64 ≤ a.val ∧ s.mesh.toHome.contains (.ack a.val line.toNat) = false) ∧
    (∃ (a : Fin 80) (line : BitVec 46) (s : State), (a.val < 64 ∨ s.mesh.toHome.contains (.ack a.val line.toNat) = true) ∧
      busyOf s line.toNat = none) ∧
    (∃ (a : Fin 80) (line : BitVec 46) (s : State) (b : BusyEnt), (a.val < 64 ∨ s.mesh.toHome.contains (.ack a.val line.toNat) = true) ∧
      busyOf s line.toNat = some b ∧ b.acking = true ∧ b.req.bind HomeReq.agent = some a.val) ∧
    (∃ (a : Fin 80) (line : BitVec 46) (s : State) (b : BusyEnt), (a.val < 64 ∨ s.mesh.toHome.contains (.ack a.val line.toNat) = true) ∧
      busyOf s line.toNat = some b ∧ (b.acking = false ∨ b.req.bind HomeReq.agent ≠ some a.val)) ∧
    (∃ (x : SfUpset) (s : State), (busyOf s x.line.toNat).isSome = true ∨ (sfEnt s x.line.toNat).isNone = true) ∧
    (∃ (line : BitVec 46) (s : State), let i := lineSlice line.toNat; busyOf s line.toNat = none ∧ (sfEnt s line.toNat).isSome = true ∧
      (sliceMode s i = 0 ∨ sliceMode s i = 2)) ∧
    (∃ (line : BitVec 46) (s : State), let i := lineSlice line.toNat; busyOf s line.toNat = none ∧ (sfEnt s line.toNat).isSome = true ∧
      (sliceMode s i = 1 ∨ sliceMode s i = 3)) ∧
    (∃ (r : Route) (i : Fin 48) (s : State), Takes s r (sliceBase i.val + 0x44)) :=
  ⟨⟨idx 47 (lineSlice 0), req0 .rdShared, [0, 1, 1], home [req0 .rdShared], by decide⟩,
    ⟨idx 47 (lineSlice 0), req0 .rdOwn, [0, 1, 1], home [req0 .rdOwn], by decide⟩,
    ⟨idx 47 (lineSlice 0), req0 .rdNoAlloc, [0, 1, 1], home [req0 .rdNoAlloc], by decide⟩,
    ⟨idx 47 (lineSlice 0), req0 .wrNoAlloc, [0, 1, 1], home [req0 .wrNoAlloc], by decide⟩,
    ⟨47, .rdOwn (47), .rdOwn, up, by decide⟩,
    ⟨lineSlice 0, req0 .wrNoAlloc, [0, 1, 1], home [req0 .wrNoAlloc], by decide⟩,
    ⟨req0 .rdOwn, { home [req0 .rdOwn] with mesh := { (home [req0 .rdOwn]).mesh with busy := [(0, busy0)] } }, busy0, by decide⟩,
    ⟨req0 .wrNoAlloc, home [req0 .wrNoAlloc], by decide⟩,
    ⟨lineSlice 0, 0, req0 .rdShared, [0, 1, 1], home [req0 .rdShared], by intros; decide⟩,
    ⟨lineSlice 0, 0, 64, req0 .rdShared, [0, 1, 1],
      { home [req0 .rdShared] with mesh := { (home [req0 .rdShared]).mesh with sf := [(0, { owner := some 64, sharers := [], mask := 0, used := 0 })] } },
      by intros; decide⟩,
    ⟨idx 47 (lineSlice 0), { kind := .wbMod, agent := 0, line := 0, data := List.replicate 64 3, bad := false },
      { home [] with mesh := { (home []).mesh with wbs := [({ kind := .wbMod, agent := 0, line := 0, data := List.replicate 64 3, bad := false })] } },
      by decide⟩,
    ⟨idx 47 (lineSlice 0), { kind := .wbClean, agent := 0, line := 0, data := List.replicate 64 3, bad := false },
      { home [] with mesh := { (home []).mesh with wbs := [({ kind := .wbClean, agent := 0, line := 0, data := List.replicate 64 3, bad := false })] } },
      by decide⟩,
    ⟨idx 47 (lineSlice 0), { kind := .evict, agent := 0, line := 0, data := [], bad := false },
      { home [] with mesh := { (home []).mesh with wbs := [({ kind := .evict, agent := 0, line := 0, data := [], bad := false })] } },
      by decide⟩,
    ⟨47, .evict (47), .evict, up, by decide⟩,
    ⟨63, reg poolBase (deadField 63) (2 ^ 31), by decide⟩,
    ⟨63, 0, { up with mesh := { up.mesh with snps := [({ agent := 63, line := 0, kind := .invTo 64 })] } },
      { agent := 63, line := 0, kind := .invTo 64 }, by decide⟩,
    ⟨63, 0, up, by decide⟩,
    ⟨64, 0, up, by intros; decide⟩,
    ⟨64, 0, .iData, List.replicate 64 3, false,
      { home [] with mesh := { (home []).mesh with toHome := [.rsp 64 0 .iData (List.replicate 64 3) false] } }, by intros; decide⟩,
    ⟨64, 0, .iData, List.replicate 64 3, false,
      { reg poolBase (deadField 64) 1 with mesh := { up.mesh with toHome := [.rsp 64 0 .iData (List.replicate 64 3) false] } },
      by intros; decide⟩,
    ⟨up, 0, by decide⟩,
    ⟨{ home [] with mesh := { (home []).mesh with busy := [(0, busy0)] } }, 5, 0, busy0, by decide⟩,
    ⟨79, 0, up, by decide⟩,
    ⟨63, 0, up, by decide⟩,
    ⟨71, 0, { home [] with mesh := { (home []).mesh with busy := [(0, busy0)], toHome := [.ack 71 0] } }, busy0, by decide⟩,
    ⟨71, 0, { home [] with mesh := { (home []).mesh with busy := [(0, ({ busy0 with acking := false }))], toHome := [.ack 71 0] } },
      { busy0 with acking := false }, by decide⟩,
    ⟨{ line := 0, corrects := true }, up, by decide⟩,
    ⟨0, { home [] with mesh := { (home []).mesh with sf := [(0, { owner := some 64, sharers := [], mask := 0, used := 0 })] } },
      by intros; decide⟩,
    ⟨0,
      { (home []).wr (sliceBase (lineSlice 0)) Reg.Slc.SLICE_MODE 3 with mesh := { (home []).mesh with sf := [(0, { owner := some 64, sharers := [], mask := 0, used := 0 })] } },
      by intros; decide⟩,
    ⟨.mp, 47, reg (sliceBase 47) Reg.Slc.SNOOP_CNT 3, by unfold Takes; decide⟩⟩

theorem witness_AgentsFollowTheirTable :
    (∃ (c : CLine), c.st = .smAD) ∧
    (∃ (c : CLine), c.st = .miA) ∧
    (∃ (c : CLine), c.st ∈ [LineState.i, .isD, .isDI, .imAD, .siA, .iiA]) ∧
    (∃ (a : Fin 80) (line : BitVec 46) (x : Snp) (s : State),
      s.mesh.snps.find? (fun x => x.agent == a.val && x.line == line.toNat && (match x.kind with | .drain _ => false | _ => true)) = some x ∧
      agentActs s a.val = true) ∧
    (∃ (a : Fin 80) (line : BitVec 46) (x : Snp) (s : State),
      s.mesh.snps.find? (fun x => x.agent == a.val && x.line == line.toNat && (match x.kind with | .drain _ => false | _ => true)) = some x ∧
      agentActs s a.val = false) ∧
    (∃ (a : Fin 80) (line : BitVec 46) (s : State), (∀ x ∈ s.mesh.snps,
      x.agent = a.val → x.line = line.toNat → (match x.kind with | .drain _ => false | _ => true) = false)) ∧
    (∃ (a : Fin 80) (line : BitVec 46) (m : AgentMsg) (s : State) (d : List Byte) (b : Bool), agentActs s a.val = true ∧
      s.mesh.toAgent.find? (fun x => x.1 == a.val && x.2.1 == line.toNat) = some (a.val, line.toNat, m) ∧ m = .gntS d b) ∧
    (∃ (a : Fin 80) (line : BitVec 46) (m : AgentMsg) (s : State) (d : Option (List Byte)) (b : Bool), agentActs s a.val = true ∧
      s.mesh.toAgent.find? (fun x => x.1 == a.val && x.2.1 == line.toNat) = some (a.val, line.toNat, m) ∧ m = .gntE d b) ∧
    (∃ (a : Fin 80) (line : BitVec 46) (m : AgentMsg) (s : State), agentActs s a.val = true ∧
      s.mesh.toAgent.find? (fun x => x.1 == a.val && x.2.1 == line.toNat) = some (a.val, line.toNat, m) ∧ m = .cmp) ∧
    (∃ (a : Fin 80) (line : BitVec 46) (m : AgentMsg) (s : State) (n : Nat) (d : List Byte) (b : Bool), agentActs s a.val = true ∧
      s.mesh.toAgent.find? (fun x => x.1 == a.val && x.2.1 == line.toNat) = some (a.val, line.toNat, m) ∧ m = .data n d b) ∧
    (∃ (a : Fin 80) (line : BitVec 46) (m : AgentMsg) (s : State), agentActs s a.val = true ∧
      s.mesh.toAgent.find? (fun x => x.1 == a.val && x.2.1 == line.toNat) = some (a.val, line.toNat, m) ∧ m = .invAck) ∧
    (∃ (a : Fin 80) (line : BitVec 46) (m : AgentMsg) (s : State) (n : Nat), agentActs s a.val = true ∧
      s.mesh.toAgent.find? (fun x => x.1 == a.val && x.2.1 == line.toNat) = some (a.val, line.toNat, m) ∧ m = .gntM n) ∧
    (∃ (a : Fin 80) (line : BitVec 46) (i : Instr) (s : State),
      i ∈ [Instr.agentGrant a line, .agentCmp a line, .agentData a line, .agentInvack a line, .agentGntm a line] ∧
      (agentActs s a.val = false ∨ s.mesh.toAgent.any (fun x => x.1 == a.val && x.2.1 == line.toNat) = false)) ∧
    (∃ (a : Fin 80) (line : BitVec 46) (s : State), let c := lineOfAgent s a.val line.toNat; agentActs s a.val = true ∧
      c.st ∈ [LineState.sh, .e, .m, .o, .smAD, .smA, .omAC, .omA]) ∧
    (∃ (a : Fin 80) (line : BitVec 46) (s : State), let c := lineOfAgent s a.val line.toNat; agentActs s a.val = true ∧ c.st = .i) ∧
    (∃ (a : Fin 80) (line : BitVec 46) (s : State), let c := lineOfAgent s a.val line.toNat; agentActs s a.val = true ∧
      c.st ∈ [LineState.isD, .isDI, .imAD, .imA, .miA, .oiA, .siA, .iiA]) ∧
    (∃ (a : Fin 80) (line : BitVec 46) (s : State), let c := lineOfAgent s a.val line.toNat; agentActs s a.val = true ∧
      (c.st = .e ∨ c.st = .m)) ∧
    (∃ (a : Fin 80) (line : BitVec 46) (s : State), let c := lineOfAgent s a.val line.toNat; agentActs s a.val = true ∧ c.st = .sh) ∧
    (∃ (a : Fin 80) (line : BitVec 46) (s : State), let c := lineOfAgent s a.val line.toNat; agentActs s a.val = true ∧ c.st = .o) ∧
    (∃ (a : Fin 80) (line : BitVec 46) (s : State), let c := lineOfAgent s a.val line.toNat; agentActs s a.val = true ∧
      c.st ∉ [LineState.i, .sh, .e, .m, .o]) ∧
    (∃ (a : Fin 80) (line : BitVec 46) (s : State), let c := lineOfAgent s a.val line.toNat; agentActs s a.val = true ∧ c.st = .e) ∧
    (∃ (a : Fin 80) (line : BitVec 46) (s : State), let c := lineOfAgent s a.val line.toNat; agentActs s a.val = true ∧ c.st = .m) ∧
    (∃ (s : State) (a : Nat) (line : Nat), (lineOfAgent s a line).st ∈ [LineState.i, .sh, .e, .m, .o]) :=
  ⟨⟨{ CLine.none_ with st := .smAD }, by decide⟩,
    ⟨{ CLine.none_ with st := .miA }, by decide⟩,
    ⟨CLine.none_, by decide⟩,
    ⟨64, 0, { agent := 64, line := 0, kind := .inv },
      { line64 .m with mesh := { (line64 .m).mesh with snps := [({ agent := 64, line := 0, kind := .inv })] } }, by decide⟩,
    ⟨64, 0, { agent := 64, line := 0, kind := .inv },
      { (line64 .m).wr poolBase (deadField 64) 1 with mesh := { (line64 .m).mesh with snps := [({ agent := 64, line := 0, kind := .inv })] } },
      by decide⟩,
    ⟨64, 0, up, by decide⟩,
    ⟨64, 0, .gntS (List.replicate 64 (1 : Byte)) (false),
      { line64 .isD with mesh := { (line64 .isD).mesh with toAgent := [(64, 0, (.gntS (List.replicate 64 (1 : Byte)) (false)))] } },
      List.replicate 64 (1 : Byte), false, by decide⟩,
    ⟨64, 0, .gntE (some (List.replicate 64 (1 : Byte))) (false),
      { line64 .isD with mesh := { (line64 .isD).mesh with toAgent := [(64, 0, (.gntE (some (List.replicate 64 (1 : Byte))) (false)))] } },
      some (List.replicate 64 (1 : Byte)), false, by decide⟩,
    ⟨64, 0, .cmp, { line64 .miA with mesh := { (line64 .miA).mesh with toAgent := [(64, 0, (.cmp))] } }, by decide⟩,
    ⟨64, 0, .data (1) (List.replicate 64 (1 : Byte)) (false),
      { line64 .imAD with mesh := { (line64 .imAD).mesh with toAgent := [(64, 0, (.data (1) (List.replicate 64 (1 : Byte)) (false)))] } },
      1, List.replicate 64 (1 : Byte), false, by decide⟩,
    ⟨64, 0, .invAck, { line64 .imA with mesh := { (line64 .imA).mesh with toAgent := [(64, 0, (.invAck))] } }, by decide⟩,
    ⟨64, 0, .gntM (0), { line64 .smAD with mesh := { (line64 .smAD).mesh with toAgent := [(64, 0, (.gntM (0)))] } }, 0, by decide⟩,
    ⟨64, 0, .agentInvack (64) (0), up, by decide⟩,
    ⟨64, 0, line64 .o, by intros; decide⟩,
    ⟨64, 0, up, by intros; decide⟩,
    ⟨64, 0, line64 .imA, by intros; decide⟩,
    ⟨64, 0, line64 .e, by intros; decide⟩,
    ⟨64, 0, line64 .sh, by intros; decide⟩,
    ⟨64, 0, line64 .o, by intros; decide⟩,
    ⟨64, 0, line64 .iiA, by intros; decide⟩,
    ⟨64, 0, line64 .e, by intros; decide⟩,
    ⟨64, 0, line64 .m, by intros; decide⟩,
    ⟨up, 64, 0, by decide⟩⟩

theorem witness_CarefulModeAndRecoveryRun :
    (∃ (r : Route) (i : Fin 48) (s : State), Takes s r (sliceBase i.val + 0x44) ∧ sliceMode s i.val = 0) ∧
    (∃ (r : Route) (i : Fin 48) (s : State), Takes s r (sliceBase i.val + 0x44) ∧ sliceMode s i.val ≠ 0) ∧
    (∃ (r : Route) (i : Fin 48) (s : State), Takes s r (sliceBase i.val + 0x44) ∧ sliceMode s i.val = 1 ∧ s.mesh.recover = [] ∧
      s.rd poolBase Reg.Coh.BCT_STATUS_STATE ≠ 1) ∧
    (∃ (r : Route) (i : Fin 48) (s : State), Takes s r (sliceBase i.val + 0x44) ∧
      (sliceMode s i.val ≠ 1 ∨ s.mesh.recover ≠ [] ∨ s.rd poolBase Reg.Coh.BCT_STATUS_STATE = 1)) ∧
    (∃ (i : Nat) (m : Nat), i < 48 ∧ m < 4) ∧
    (∃ (i : Fin 48) (s : State), sliceMode s i.val = 2 ∧ (∀ kv ∈ s.mesh.busy, lineSlice kv.1 ≠ i.val)) ∧
    (∃ (i : Fin 48) (s : State), (sliceMode s i.val ≠ 2 ∨ busyUsed s i.val ≠ 0)) ∧
    (∃ (a : Fin 80) (i : Fin 48) (x : Snp) (s : State), let l := agentLines s a.val i.val;
      s.mesh.snps.find? (fun x => x.agent == a.val && x.kind == .drain i.val) = some x ∧
      (agentActs s a.val = false ∨ l.any (fun kv => kv.2.st.transient) = true)) ∧
    (∃ (a : Fin 80) (i : Fin 48) (x : Snp) (s : State), let l := agentLines s a.val i.val; let o := l.filter (fun kv => kv.2.st == .o);
      s.mesh.snps.find? (fun x => x.agent == a.val && x.kind == .drain i.val) = some x ∧ agentActs s a.val = true ∧
      l.any (fun kv => kv.2.st.transient) = false ∧ o ≠ []) ∧
    (∃ (a : Fin 80) (i : Fin 48) (x : Snp) (s : State), let l := agentLines s a.val i.val; let o := l.filter (fun kv => kv.2.st == .o);
      s.mesh.snps.find? (fun x => x.agent == a.val && x.kind == .drain i.val) = some x ∧ agentActs s a.val = true ∧
      l.any (fun kv => kv.2.st.transient) = false ∧ o = []) ∧
    (∃ (a : Fin 80) (i : Fin 48) (s : State), (∀ x ∈ s.mesh.snps, x.agent = a.val → x.kind ≠ .drain i.val)) ∧
    (∃ (a : Fin 80) (i : Fin 48) (s : State), s.mesh.toHome.contains (.drained a.val i.val) = true ∧ isDead s a.val = true) ∧
    (∃ (a : Fin 80) (i : Fin 48) (s : State), let d := (s.slice i.val).drains.erase a.val;
      s.mesh.toHome.contains (.drained a.val i.val) = true ∧ isDead s a.val = false ∧ sliceMode s i.val = 3 ∧ d = []) ∧
    (∃ (a : Fin 80) (i : Fin 48) (s : State), let d := (s.slice i.val).drains.erase a.val;
      s.mesh.toHome.contains (.drained a.val i.val) = true ∧ isDead s a.val = false ∧ (sliceMode s i.val ≠ 3 ∨ d ≠ [])) ∧
    (∃ (a : Fin 80) (i : Fin 48) (s : State), s.mesh.toHome.contains (.drained a.val i.val) = false) ∧
    (∃ (r : Route) (s : State), Takes s r (poolBase + 0x230)) ∧
    (∃ (s : State) (d : Nat), isDead s d = true) ∧
    (∃ (a : Fin 80) (s : State), lateSnoop s a.val = none) ∧
    (∃ (a : Fin 80) (i : Nat) (da : Nat) (s : State) (u : UnitId), lateSnoop s a.val = some (i, da) ∧ agentUnit a.val = some u) ∧
    (∃ (a : Fin 80) (i : Nat) (da : Nat) (s : State), lateSnoop s a.val = some (i, da) ∧ agentUnit a.val = none) ∧
    (∃ (a : Nat) (l : Nat) (rest : List Nat) (s : State),
      keysWhere s.mesh.busy (fun _ b => b.waits.contains a || b.wbFrom.contains a) = l :: rest) ∧
    (∃ (i : Fin 48) (s : State), (sliceMode s i.val ≠ 1 ∨ (∀ r ∈ s.mesh.recover, i.val ∉ r.2.1))) ∧
    (∃ (i : Fin 48) (d : Nat × List Nat × Nat) (s : State), let t := recoveryStep (scanSlice s i.val d.1) i.val d.1;
      s.mesh.recover.find? (fun r => r.2.1.contains i.val) = some d ∧ sliceMode s i.val = 1 ∧
      (t.mesh.recover.any (fun r => r.2.1.contains i.val) = true ∨ t.rd poolBase Reg.Coh.BCT_STATUS_STATE = 1 ∨ t.boot.bctFailed = true ∨ t.boot.started = false)) ∧
    (∃ (i : Fin 48) (d : Nat × List Nat × Nat) (s : State), let t := recoveryStep (scanSlice s i.val d.1) i.val d.1;
      s.mesh.recover.find? (fun r => r.2.1.contains i.val) = some d ∧ sliceMode s i.val = 1 ∧
      t.mesh.recover.any (fun r => r.2.1.contains i.val) = false ∧ t.rd poolBase Reg.Coh.BCT_STATUS_STATE ≠ 1 ∧ t.boot.bctFailed = false ∧
      t.boot.started = true) ∧
    (∃ (r : Route) (s : State), Takes s r (poolBase + 0x238) ∧ s.rd poolBase Reg.Coh.BCT_STATUS_STATE ≠ 1) ∧
    (∃ (r : Route) (s : State), Takes s r (poolBase + 0x238) ∧ s.rd poolBase Reg.Coh.BCT_STATUS_STATE = 1) ∧
    (∃ (s : State), (s.rd poolBase Reg.Coh.BCT_STATUS_STATE ≠ 1 ∨ (List.range 48).any (fun j => sliceMode s j != 1) = true)) ∧
    (∃ (s : State), s.rd poolBase Reg.Coh.BCT_STATUS_STATE = 1 ∧ (∀ j, j < 48 → sliceMode s j = 1) ∧ s.boot.started = true) ∧
    (∃ (s : State), s.rd poolBase Reg.Coh.BCT_STATUS_STATE = 1 ∧ (∀ j, j < 48 → sliceMode s j = 1) ∧ s.boot.started = false) :=
  ⟨⟨.mp, 47, reg (sliceBase 47) Reg.Slc.SLICE_MODE 0, by unfold Takes; decide⟩,
    ⟨.mp, 47, up, by unfold Takes; decide⟩,
    ⟨.mp, 47, up, by unfold Takes; decide⟩,
    ⟨.mp, 47, reg (sliceBase 47) Reg.Slc.SLICE_MODE 3, by unfold Takes; decide⟩,
    ⟨47, 3, by decide⟩,
    ⟨47, reg (sliceBase 47) Reg.Slc.SLICE_MODE 2, by decide⟩,
    ⟨47, up, by decide⟩,
    ⟨64, idx 47 (lineSlice 0), { agent := 64, line := 0, kind := .drain (idx 47 (lineSlice 0)).val },
      { line64 .imA with mesh := { (line64 .imA).mesh with snps := [({ agent := 64, line := 0, kind := .drain (idx 47 (lineSlice 0)).val })] } },
      by intros; decide⟩,
    ⟨64, idx 47 (lineSlice 0), { agent := 64, line := 0, kind := .drain (idx 47 (lineSlice 0)).val },
      { line64 .o with mesh := { (line64 .o).mesh with snps := [({ agent := 64, line := 0, kind := .drain (idx 47 (lineSlice 0)).val })] } },
      by intros; decide⟩,
    ⟨64, 47, { agent := 64, line := 0, kind := .drain 47 },
      { up with mesh := { up.mesh with snps := [({ agent := 64, line := 0, kind := .drain 47 })] } }, by intros; decide⟩,
    ⟨64, 47, up, by decide⟩,
    ⟨64, 47, { reg poolBase (deadField 64) 1 with mesh := { up.mesh with toHome := [.drained 64 47] } }, by decide⟩,
    ⟨64, 47,
      { (reg (sliceBase 47) Reg.Slc.SLICE_MODE 3).setSlice 47 { SliceSt.init with drains := [64] } with mesh := { ((reg (sliceBase 47) Reg.Slc.SLICE_MODE 3).setSlice 47 { SliceSt.init with drains := [64] }).mesh with toHome := [.drained 64 47] } },
      by intros; decide⟩,
    ⟨64, 47, { up with mesh := { up.mesh with toHome := [.drained 64 47] } }, by intros; decide⟩,
    ⟨64, 47, up, by decide⟩,
    ⟨.mp, reg poolBase Reg.Coh.AGENT_KILL_AGENT 64, by unfold Takes; decide⟩,
    ⟨reg poolBase (deadField 63) (2 ^ 31), 63, by decide⟩,
    ⟨79, up, by decide⟩,
    ⟨71, lineSlice 0, 0, { home [] with mesh := { (home []).mesh with busy := [(0, { busy0 with waits := [71] })] } }, .mgmtProc,
      by decide⟩,
    ⟨79, lineSlice 0, 0, { home [] with mesh := { (home []).mesh with busy := [(0, { busy0 with waits := [79] })] } }, by decide⟩,
    ⟨79, 0, [], { home [] with mesh := { (home []).mesh with busy := [(0, { busy0 with waits := [79] })] } }, by decide⟩,
    ⟨47, up, by decide⟩,
    ⟨47, (64, [47], 0), { up with mesh := { up.mesh with recover := [(64, [47], 0), (65, [47], 0)] } }, by intros; decide⟩,
    ⟨47, (64, [47], 0), { up with mesh := { up.mesh with recover := [(64, [47], 0)] } }, by intros; decide⟩,
    ⟨.mp, up, by unfold Takes; decide⟩,
    ⟨.mp, reg poolBase Reg.Coh.BCT_STATUS_STATE 1, by unfold Takes; decide⟩,
    ⟨up, by decide⟩,
    ⟨reg poolBase Reg.Coh.BCT_STATUS_STATE 1, by decide⟩,
    ⟨{ reg poolBase Reg.Coh.BCT_STATUS_STATE 1 with boot := { up.boot with started := false } }, by decide⟩⟩

theorem witness_RefillsAddTokensUpToTheBucketSize :
    (∃ (s : State), unitOff s .meterBank = true) ∧
    (∃ (s : State), unitOff s .meterBank = false) ∧
    (∃ (x : ShaperId) (s : State), unitOff s (shaperRef x).unit = true) ∧
    (∃ (x : ShaperId) (s : State), unitOff s (shaperRef x).unit = false) ∧
    (∃ (x : BucketRef) (s : State), let t := setBuckets s x (refilled s x); applyDue t x = false) ∧
    (∃ (x : BucketRef) (s : State), let t := setBuckets s x (refilled s x); applyDue t x = true) ∧
    (∃ (x : BucketRef) (s : State),
      (bucketsOf s x).tc + (s.rd x.entry x.cir * (s.rd x.entry x.refill * 64) : Nat) ≤ (s.rd x.entry x.cbs : Int) * 8000) ∧
    (∃ (x : BucketRef) (s : State),
      (bucketsOf s x).tp + (s.rd x.entry x.pir * (s.rd x.entry x.refill * 64) : Nat) ≤ (s.rd x.entry x.pbs : Int) * 8000) ∧
    (∃ (x : BucketRef) (s : State), (bucketsOf s x).tc ≤ (s.rd x.entry x.cbs : Int) * 8000) ∧
    (∃ (x : BucketRef) (s : State), (bucketsOf s x).tp ≤ (s.rd x.entry x.pbs : Int) * 8000) ∧
    (∃ (m : Fin 16384) (i : ShaperId) (x : BucketRef) (s : State), x ∈ [meterRef m.val, shaperRef i] ∧ bucketConfigGood s x = false) ∧
    (∃ (m : Fin 16384) (i : ShaperId) (x : BucketRef) (s : State), x ∈ [meterRef m.val, shaperRef i] ∧ bucketConfigGood s x = true) ∧
    (∃ (r : Route) (s : State), Takes s r (base .meterBank + 0x40)) ∧
    (∃ (r : Route) (s : State), Takes s r (base .injShaper + 0x40)) ∧
    (∃ (r : Route) (n : Fin 96) (s : State), Takes s r (base (.egressShaper n) + 0x40)) :=
  ⟨⟨{ up with setup := { up.setup with fenced := [.meterBank] } }, by decide⟩,
    ⟨up, by decide⟩,
    ⟨.egress 95 2, { up with setup := { up.setup with fenced := [.egressShaper 95] } }, by decide⟩,
    ⟨.egress 95 2, up, by decide⟩,
    ⟨meterRef 5, up, by intros; decide⟩,
    ⟨meterRef 16383,
      { up with setup := { up.setup with toApply := [.meterBank], staged := [(Reg.Mtr.CIR_MBPS.key (meterRef 16383).entry, 5)] } },
      by intros; decide⟩,
    ⟨meterRef 5, regs [((meterRef 5).entry, Reg.Mtr.CIR_MBPS, 8), ((meterRef 5).entry, Reg.Mtr.CBS_BYTES, 100000), ((meterRef 5).entry,
      Reg.Mtr.REFILL_64NS, 1)] |> (setBuckets · (meterRef 5) { tc := 0, tp := 0 }), by decide⟩,
    ⟨meterRef 5, regs [((meterRef 5).entry, Reg.Mtr.PIR_MBPS, 8), ((meterRef 5).entry, Reg.Mtr.PBS_BYTES, 100000), ((meterRef 5).entry,
      Reg.Mtr.REFILL_64NS, 1)] |> (setBuckets · (meterRef 5) { tc := 0, tp := 0 }), by decide⟩,
    ⟨meterRef 5, up, by decide⟩,
    ⟨meterRef 5, up, by decide⟩,
    ⟨16383, .inj 0, meterRef 16383,
      { up with setup := { up.setup with staged := [(Reg.Mtr.CIR_MBPS.key (meterRef 16383).entry, 400000)] } }, by decide⟩,
    ⟨16383, .inj 4095, shaperRef (.inj 4095), up, by decide⟩,
    ⟨.mp, up, by unfold Takes; decide⟩,
    ⟨.mp, up, by unfold Takes; decide⟩,
    ⟨.mp, 95, up, by unfold Takes; decide⟩⟩

theorem witness_DumpsAndTrailRecordsReachTheirRings :
    (∃ (s : State), (unitOff s .gazetteer = true ∨ s.on gzBase Reg.Gz.GZ_CFG_EN = false ∨ s.gz.stopping = true)) ∧
    (∃ (s : State), unitOff s .gazetteer = false ∧ s.on gzBase Reg.Gz.GZ_CFG_EN = true ∧ s.gz.stopping = false ∧ s.gz.dump ≠ none) ∧
    (∃ (s : State), unitOff s .gazetteer = false ∧ s.on gzBase Reg.Gz.GZ_CFG_EN = true ∧ s.gz.stopping = false ∧ s.gz.dump = none) ∧
    (∃ (s : State) (u : UnitId), clockRuns s u = true) ∧
    (∃ (s : State) (u : UnitId) (x : BankSnap), clockRuns s u = false ∧ look s.gz.snaps (base u) = some x) ∧
    (∃ (d : DumpSt) (s : State), let b := dumpBytes s d; let size := 2 ^ s.rd gzBase Reg.Gz.GZ_LOG_SIZE;
      let pi := s.rd gzBase Reg.Gz.GZ_PI; let pad := if size - pi % size < b.length then size - pi % size else 0;
      let used := ringDist pi (s.rd gzBase Reg.Gz.GZ_CI) + pad + b.length; s.gz.dump = some d ∧ size < used) ∧
    (∃ (d : DumpSt) (s : State), let b := dumpBytes s d; let size := 2 ^ s.rd gzBase Reg.Gz.GZ_LOG_SIZE;
      let pi := s.rd gzBase Reg.Gz.GZ_PI; let ring := s.rd64 gzBase Reg.Gz.GZ_BASE_LO Reg.Gz.GZ_BASE_HI;
      let pad := if size - pi % size < b.length then size - pi % size else 0;
      let used := ringDist pi (s.rd gzBase Reg.Gz.GZ_CI) + pad + b.length; let reach := gzReaches s (ring + (pi + pad) % size) b.length;
      s.gz.dump = some d ∧ used ≤ size ∧ reach = false) ∧
    (∃ (d : DumpSt) (s : State), let b := dumpBytes s d; let size := 2 ^ s.rd gzBase Reg.Gz.GZ_LOG_SIZE;
      let pi := s.rd gzBase Reg.Gz.GZ_PI; let ring := s.rd64 gzBase Reg.Gz.GZ_BASE_LO Reg.Gz.GZ_BASE_HI;
      let pad := if size - pi % size < b.length then size - pi % size else 0;
      let used := ringDist pi (s.rd gzBase Reg.Gz.GZ_CI) + pad + b.length; let reach := gzReaches s (ring + (pi + pad) % size) b.length;
      s.gz.dump = some d ∧ used ≤ size ∧ reach = true) ∧
    (∃ (r : Route) (x : BitVec 32) (s : State), Takes s r (gzBase + 0x5C) ∧
      ringDist (s.rd gzBase Reg.Gz.GZ_PI) x.toNat ≤ 2 ^ s.rd gzBase Reg.Gz.GZ_LOG_SIZE) ∧
    (∃ (r : Route) (x : BitVec 32) (s : State), Takes s r (gzBase + 0x5C) ∧
      2 ^ s.rd gzBase Reg.Gz.GZ_LOG_SIZE < ringDist (s.rd gzBase Reg.Gz.GZ_PI) x.toNat) ∧
    (∃ (r : Route) (x : BitVec 32) (s : State), let on := s.on gzBase Reg.Gz.GZ_CFG_EN; Takes s r (gzBase + 0x40) ∧ x.getLsbD 0 = true ∧
      on = true) ∧
    (∃ (r : Route) (x : BitVec 32) (s : State), let on := s.on gzBase Reg.Gz.GZ_CFG_EN; Takes s r (gzBase + 0x40) ∧ x.getLsbD 0 = true ∧
      on = false) ∧
    (∃ (r : Route) (x : BitVec 32) (s : State), let on := s.on gzBase Reg.Gz.GZ_CFG_EN; Takes s r (gzBase + 0x40) ∧ x.getLsbD 0 = false ∧
      on = false) ∧
    (∃ (r : Route) (x : BitVec 32) (s : State), let on := s.on gzBase Reg.Gz.GZ_CFG_EN; Takes s r (gzBase + 0x40) ∧ x.getLsbD 0 = false ∧
      on = true ∧ s.gz.dump = none) ∧
    (∃ (r : Route) (x : BitVec 32) (s : State), let on := s.on gzBase Reg.Gz.GZ_CFG_EN; Takes s r (gzBase + 0x40) ∧ x.getLsbD 0 = false ∧
      on = true ∧ s.gz.dump ≠ none) ∧
    (∃ (r : Route) (s : State), Takes s r (gzBase + 0x74)) ∧
    (∃ (r : Route) (x : BitVec 32) (s : State), Takes s r (gzBase + 0x80) ∧ x.getLsbD 0 = false) ∧
    (∃ (r : Route) (x : BitVec 32) (s : State), Takes s r (gzBase + 0x80) ∧ x.getLsbD 0 = true) ∧
    (∃ (s : State), s.gz.items.find? (fun x => x.ended) = none) ∧
    (∃ (x : TrailItem) (s : State), s.gz.items.find? (fun x => x.ended) = some x ∧ s.gz.recs.length < 1024) ∧
    (∃ (x : TrailItem) (s : State), s.gz.items.find? (fun x => x.ended) = some x ∧ 1024 ≤ s.gz.recs.length) ∧
    (∃ (s : State), (s.gz.recs = [] ∨ 2 ^ s.rd gzBase Reg.Gz.TR_LOG_SIZE ≤ ringDist (s.rd gzBase Reg.Gz.TR_PI) (s.rd gzBase Reg.Gz.TR_CI))) ∧
    (∃ (b : List Byte) (rest : List (List Byte)) (s : State), let pi := s.rd gzBase Reg.Gz.TR_PI;
      let da := s.rd64 gzBase Reg.Gz.TR_BASE_LO Reg.Gz.TR_BASE_HI + 64 * (pi % 2 ^ s.rd gzBase Reg.Gz.TR_LOG_SIZE); s.gz.recs = b :: rest ∧
      ringDist (s.rd gzBase Reg.Gz.TR_PI) (s.rd gzBase Reg.Gz.TR_CI) < 2 ^ s.rd gzBase Reg.Gz.TR_LOG_SIZE ∧ gzReaches s da 64 = true) ∧
    (∃ (b : List Byte) (rest : List (List Byte)) (s : State), let pi := s.rd gzBase Reg.Gz.TR_PI;
      let da := s.rd64 gzBase Reg.Gz.TR_BASE_LO Reg.Gz.TR_BASE_HI + 64 * (pi % 2 ^ s.rd gzBase Reg.Gz.TR_LOG_SIZE); s.gz.recs = b :: rest ∧
      ringDist (s.rd gzBase Reg.Gz.TR_PI) (s.rd gzBase Reg.Gz.TR_CI) < 2 ^ s.rd gzBase Reg.Gz.TR_LOG_SIZE ∧ gzReaches s da 64 = false) ∧
    (∃ (s : State), s.boot.hardTrip = true) ∧
    (∃ (r : Route) (w : BusWrite) (s : State) (v : Viol), let refused := writeRefused s r w.off.toNat w.enables.toNat;
      s.boot.hardTrip = false ∧ refused = some v) ∧
    (∃ (r : Route) (w : BusWrite) (s : State), let u := unitAt w.off.toNat; let refused := writeRefused s r w.off.toNat w.enables.toNat;
      s.boot.hardTrip = false ∧ refused = none ∧ isSelection u (32 * w.off.toNat) = false) ∧
    (∃ (r : Route) (w : BusWrite) (s : State), let u := unitAt w.off.toNat; let refused := writeRefused s r w.off.toNat w.enables.toNat;
      s.boot.hardTrip = false ∧ refused = none ∧ isSelection u (32 * w.off.toNat) = true) ∧
    (∃ (s : State), s.on gzBase Reg.Gz.GZ_CFG_EN = false) :=
  ⟨⟨up, by decide⟩,
    ⟨(gzUp []).setGz { up.gz with dump := some dump0 }, by decide⟩,
    ⟨gzUp [], by decide⟩,
    ⟨up, .meterBank, by decide⟩,
    ⟨{ up with boot := { up.boot with stopped := [23] }, gz := { up.gz with snaps := [(base (.port 95), ({ vals := [1], gen := 0, noSnap := false, reset := false }))] } },
      .port 95, { vals := [1], gen := 0, noSnap := false, reset := false }, by decide⟩,
    ⟨dump0, (gzUp [(gzBase, Reg.Gz.GZ_CI, 0xFFF00000)]).setGz { up.gz with dump := some dump0 }, by intros; decide⟩,
    ⟨dump0, (gzUp [(gzBase, Reg.Gz.GZ_BASE_HI, 0xFFFFFFFF)]).setGz { up.gz with dump := some dump0 }, by intros; decide⟩,
    ⟨dump0, (gzUp [(gzBase, Reg.Gz.GZ_PI, 2 ^ (gzUp []).rd gzBase Reg.Gz.GZ_LOG_SIZE - 32), (gzBase, Reg.Gz.GZ_CI,
      2 ^ (gzUp []).rd gzBase Reg.Gz.GZ_LOG_SIZE - 32)]).setGz { up.gz with dump := some dump0 }, by intros; decide⟩,
    ⟨.mp, 0, gzUp [(gzBase, Reg.Gz.GZ_PI, 2 ^ (gzUp []).rd gzBase Reg.Gz.GZ_LOG_SIZE)], by unfold Takes; decide⟩,
    ⟨.mp, 0, gzUp [(gzBase, Reg.Gz.GZ_PI, 2 ^ (gzUp []).rd gzBase Reg.Gz.GZ_LOG_SIZE + 1)], by unfold Takes; decide⟩,
    ⟨.mp, 1, gzUp [], by unfold Takes; intros; decide⟩,
    ⟨.mp, 1, up, by unfold Takes; intros; decide⟩,
    ⟨.mp, 0, up, by unfold Takes; intros; decide⟩,
    ⟨.mp, 0, gzUp [], by unfold Takes; intros; decide⟩,
    ⟨.mp, 0, (gzUp []).setGz { up.gz with dump := some dump0 }, by unfold Takes; intros; decide⟩,
    ⟨.mp, gzUp [(gzBase, Reg.Gz.GZ_LOST, 3)], by unfold Takes; decide⟩,
    ⟨.mp, 0x00FF0006#32, gzUp [(gzBase, Reg.Gz.TR_CFG_EN, 1)], by unfold Takes; decide⟩,
    ⟨.mp, 0x03FF000F#32, up, by unfold Takes; decide⟩,
    ⟨up, by decide⟩,
    ⟨item0, (gzUp []).setGz { up.gz with items := [item0] }, by decide⟩,
    ⟨item0, (gzUp []).setGz { up.gz with items := [item0], recs := List.replicate 1024 [] }, by decide⟩,
    ⟨(gzUp [(gzBase, Reg.Gz.TR_PI, 2 ^ (gzUp []).rd gzBase Reg.Gz.TR_LOG_SIZE)]).setGz { up.gz with recs := [[1]] }, by decide⟩,
    ⟨List.replicate 64 1, [], (gzUp []).setGz { up.gz with recs := [List.replicate 64 1] }, by intros; decide⟩,
    ⟨[1], [], (gzUp [(gzBase, Reg.Gz.TR_BASE_HI, 0xFFFFFFFF)]).setGz { up.gz with recs := [[1]] }, by intros; decide⟩,
    ⟨{ up with boot := { up.boot with hardTrip := true } }, by decide⟩,
    ⟨.mp, { off := 0, value := 1, enables := 7 }, up, .misaligned, by intros; decide⟩,
    ⟨.mp, { off := 0, value := 1, enables := 15 }, up, by intros; decide⟩,
    ⟨.mp, { off := BitVec.ofNat 28 (base .atlas + 0x4010), value := 1, enables := 15 }, up, by intros; decide⟩,
    ⟨up, by decide⟩⟩

theorem witness_RingFramesAndBypassMove :
    (∃ (p : Fin 2) (s : State), meLive s p.val = false) ∧
    (∃ (p : Fin 2) (f : MgmtFrame) (s : State), meLive s p.val = true ∧ f.fcsGood = false) ∧
    (∃ (p : Fin 2) (f : MgmtFrame) (s : State), meLive s p.val = true ∧ f.fcsGood = true ∧ etherGood f = false) ∧
    (∃ (p : Fin 2) (f : MgmtFrame) (s : State), let t := cnt1 s (.mgmtEth p) 0x100; meLive s p.val = true ∧ f.fcsGood = true ∧
      etherGood f = true ∧ f.src.toNat = drsMac t) ∧
    (∃ (p : Fin 2) (f : MgmtFrame) (s : State), let t := cnt1 s (.mgmtEth p) 0x100; meLive s p.val = true ∧ f.fcsGood = true ∧
      etherGood f = true ∧ f.src.toNat ≠ drsMac t ∧ (f.etype.toNat ≠ t.rd mpBase Reg.Mp.DRS_ETYPE ∨ f.etype = 0x88F7)) ∧
    (∃ (p : Fin 2) (f : MgmtFrame) (s : State), let t := cnt1 s (.mgmtEth p) 0x100; meLive s p.val = true ∧ f.fcsGood = true ∧
      etherGood f = true ∧ f.src.toNat ≠ drsMac t ∧ f.etype.toNat = t.rd mpBase Reg.Mp.DRS_ETYPE ∧ f.etype ≠ 0x88F7 ∧ drsGood f.body = false) ∧
    (∃ (p : Fin 2) (f : MgmtFrame) (s : State), let t := cnt1 s (.mgmtEth p) 0x100; let h := DrsHdr.ofBytes f.body; meLive s p.val = true ∧
      f.fcsGood = true ∧ etherGood f = true ∧ f.src.toNat ≠ drsMac t ∧ f.etype.toNat = t.rd mpBase Reg.Mp.DRS_ETYPE ∧ f.etype ≠ 0x88F7 ∧
      drsGood f.body = true ∧ h.kind = 4) ∧
    (∃ (p : Fin 2) (f : MgmtFrame) (s : State), let t := cnt1 s (.mgmtEth p) 0x100; let h := DrsHdr.ofBytes f.body; meLive s p.val = true ∧
      f.fcsGood = true ∧ etherGood f = true ∧ f.src.toNat ≠ drsMac t ∧ f.etype.toNat = t.rd mpBase Reg.Mp.DRS_ETYPE ∧ f.etype ≠ 0x88F7 ∧
      drsGood f.body = true ∧ h.kind ≠ 4 ∧ f.dst.toNat = drsMac t) ∧
    (∃ (p : Fin 2) (f : MgmtFrame) (s : State), let t := cnt1 s (.mgmtEth p) 0x100; let h := DrsHdr.ofBytes f.body; meLive s p.val = true ∧
      f.fcsGood = true ∧ etherGood f = true ∧ f.src.toNat ≠ drsMac t ∧ f.etype.toNat = t.rd mpBase Reg.Mp.DRS_ETYPE ∧ f.etype ≠ 0x88F7 ∧
      drsGood f.body = true ∧ h.kind ≠ 4 ∧ f.dst.toNat ≠ drsMac t ∧ h.ttl = 0) ∧
    (∃ (p : Fin 2) (f : MgmtFrame) (s : State), let t := cnt1 s (.mgmtEth p) 0x100; let h := DrsHdr.ofBytes f.body; meLive s p.val = true ∧
      f.fcsGood = true ∧ etherGood f = true ∧ f.src.toNat ≠ drsMac t ∧ f.etype.toNat = t.rd mpBase Reg.Mp.DRS_ETYPE ∧ f.etype ≠ 0x88F7 ∧
      drsGood f.body = true ∧ h.kind ≠ 4 ∧ f.dst.toNat ≠ drsMac t ∧ h.ttl ≠ 0) ∧
    (∃ (s : State) (p : Nat), meLive s (1 - p) = false) ∧
    (∃ (s : State) (p : Nat), meLive s (1 - p) = true) ∧
    (∃ (s : State) (p : Fin 2), meUp s p.val = true ∧ ringBroken s p.val = false) ∧
    (∃ (p : Fin 2) (b : Bool) (s : State), ringBroken s p.val = b) ∧
    (∃ (p : Fin 2) (b : Bool) (s : State), ringBroken s p.val ≠ b) ∧
    (∃ (p : Fin 2) (st : BitVec 2) (s : State), st ≠ 0 ∧ (bypassed s = true ∨ unitOff s (.mgmtEth p) = true)) ∧
    (∃ (p : Fin 2) (st : BitVec 2) (s : State), let speed := s.rd (meBase p.val) Reg.Me.ME_CFG_SPEED; (st = 2 ∧ speed = 1) ∨ (st = 3 ∧
      speed = 2)) ∧
    (∃ (p : Fin 2) (st : BitVec 2) (s : State), let speed := s.rd (meBase p.val) Reg.Me.ME_CFG_SPEED; (st = 0 ∨ (bypassed s = false ∧
      unitOff s (.mgmtEth p) = false)) ∧ ¬(st = 2 ∧ speed = 1) ∧ ¬(st = 3 ∧ speed = 2)) ∧
    (∃ (p : Fin 2) (st : Nat) (s : State), s.rd (meBase p.val) Reg.Me.ME_STATE_LINK = st) ∧
    (∃ (p : Fin 2) (st : Nat) (s : State), s.rd (meBase p.val) Reg.Me.ME_STATE_LINK ≠ st ∧ 2 ≤ st) ∧
    (∃ (p : Fin 2) (st : Nat) (s : State), s.rd (meBase p.val) Reg.Me.ME_STATE_LINK ≠ st ∧ st < 2) ∧
    (∃ (s : State), bypassCause s = true) ∧
    (∃ (s : State), (bypassCause s = true ∨ bypassed s = false)) ∧
    (∃ (s : State), bypassCause s = false ∧ bypassed s = true) ∧
    (∃ (s : State), bypassed s = false) :=
  ⟨⟨1, ring0 [(meBase 1, Reg.Me.ME_STATE_LINK, 1)], by decide⟩,
    ⟨1, { frame0 with fcsGood := false }, ring0 own0, by decide⟩,
    ⟨1, { frame0 with etype := 0x8100 }, ring0 own0, by decide⟩,
    ⟨1, { frame0 with src := 0x20007 }, ring0 own0, by intros; decide⟩,
    ⟨1, { frame0 with etype := 0x0800 }, ring0 own0, by intros; decide⟩,
    ⟨1, { frame0 with body := [] }, ring0 own0, by intros; decide⟩,
    ⟨1,
      { frame0 with body := DrsHdr.toBytes { ver := 1, kind := 4, ttl := 0, bodyLen := 16, session := 0, seq := 0 } ++ List.replicate 30 0 },
      ring0 own0, by intros; decide⟩,
    ⟨1, { frame0 with dst := 0x20007 }, ring0 own0, by intros; decide⟩,
    ⟨1,
      { frame0 with body := DrsHdr.toBytes { ver := 1, kind := 3, ttl := 0, bodyLen := 0, session := 0, seq := 0 } ++ List.replicate 30 0 },
      ring0 own0, by intros; decide⟩,
    ⟨1, frame0, ring0 own0, by intros; decide⟩,
    ⟨up, 1, by decide⟩,
    ⟨ring0 [], 1, by decide⟩,
    ⟨ring0 [(meBase 1, Reg.Me.ME_STATE_RING_BROKEN, 0)], 1, by decide⟩,
    ⟨1, true, ring0 [(meBase 1, Reg.Me.ME_STATE_RING_BROKEN, 1)], by decide⟩,
    ⟨1, true, ring0 [(meBase 1, Reg.Me.ME_STATE_RING_BROKEN, 0)], by decide⟩,
    ⟨1, 1, ring0 [(meBase 0, Reg.Me.ME_STATE_BYPASS_CLOSED, 1)], by decide⟩,
    ⟨1, 3, ring0 [(meBase 1, Reg.Me.ME_CFG_SPEED, 2)], by intros; decide⟩,
    ⟨1, 2, ring0 [(meBase 1, Reg.Me.ME_CFG_SPEED, 2)], by intros; decide⟩,
    ⟨1, 2, ring0 [], by decide⟩,
    ⟨1, 3, ring0 [], by decide⟩,
    ⟨1, 1, ring0 [], by decide⟩,
    ⟨ring0 [(meBase 0, Reg.Me.ME_CFG_BYPASS_FORCE, 1)], by decide⟩,
    ⟨ring0 [], by decide⟩,
    ⟨ring0 [(meBase 0, Reg.Me.ME_STATE_BYPASS_CLOSED, 1)], by decide⟩,
    ⟨ring0 [], by decide⟩⟩

theorem witness_SpdmSessionsFollowTheirOrder :
    (∃ (p : Fin 2) (mac : BitVec 48) (offers : Bool) (slot : BitVec 4) (off : BitVec 16) (n : BitVec 16) (index : BitVec 8) (id : BitVec 32) (i : Instr) (s : State),
      (mpServes s = false ∨ meLive s p.val = false) ∧
      i ∈ [Instr.getVersion p mac, .getCapabilities p mac, .negotiateAlgorithms p mac offers, .getDigests p mac, .getCertificate p mac slot off n, .challenge p mac slot, .getMeasurements p mac index, .keyExchange p mac id]) ∧
    (∃ (p : Fin 2) (mac : BitVec 48) (s : State), let step := lookD s.mg.spdm mac.toNat 0; mpServes s = true ∧ meLive s p.val = true ∧
      step < 1) ∧
    (∃ (p : Fin 2) (mac : BitVec 48) (s : State), let step := lookD s.mg.spdm mac.toNat 0; mpServes s = true ∧ meLive s p.val = true ∧
      1 ≤ step) ∧
    (∃ (p : Fin 2) (mac : BitVec 48) (s : State), let step := lookD s.mg.spdm mac.toNat 0; mpServes s = true ∧ meLive s p.val = true ∧
      step < 2) ∧
    (∃ (p : Fin 2) (mac : BitVec 48) (s : State), let step := lookD s.mg.spdm mac.toNat 0; mpServes s = true ∧ meLive s p.val = true ∧
      2 ≤ step) ∧
    (∃ (p : Fin 2) (mac : BitVec 48) (slot : BitVec 4) (off : BitVec 16) (n : BitVec 16) (index : BitVec 8) (s : State) (i : Instr), let step := lookD s.mg.spdm mac.toNat 0;
      mpServes s = true ∧ meLive s p.val = true ∧ step < 3 ∧
      i ∈ [Instr.getDigests p mac, .getCertificate p mac slot off n, .challenge p mac slot, .getMeasurements p mac index]) ∧
    (∃ (p : Fin 2) (mac : BitVec 48) (index : BitVec 8) (s : State), let step := lookD s.mg.spdm mac.toNat 0; mpServes s = true ∧
      meLive s p.val = true ∧ 3 ≤ step ∧ index = 0) ∧
    (∃ (p : Fin 2) (mac : BitVec 48) (index : BitVec 8) (s : State), let step := lookD s.mg.spdm mac.toNat 0; mpServes s = true ∧
      meLive s p.val = true ∧ 3 ≤ step ∧ 1 ≤ index.toNat ∧ index.toNat ≤ 4) ∧
    (∃ (p : Fin 2) (mac : BitVec 48) (index : BitVec 8) (s : State), let step := lookD s.mg.spdm mac.toNat 0; mpServes s = true ∧
      meLive s p.val = true ∧ 3 ≤ step ∧ index = 5) ∧
    (∃ (p : Fin 2) (mac : BitVec 48) (index : BitVec 8) (s : State), let step := lookD s.mg.spdm mac.toNat 0; mpServes s = true ∧
      meLive s p.val = true ∧ 3 ≤ step ∧ index = 0x10) ∧
    (∃ (p : Fin 2) (mac : BitVec 48) (index : BitVec 8) (s : State), let step := lookD s.mg.spdm mac.toNat 0; mpServes s = true ∧
      meLive s p.val = true ∧ 3 ≤ step ∧ index = 0xFF) ∧
    (∃ (p : Fin 2) (mac : BitVec 48) (index : BitVec 8) (s : State), let step := lookD s.mg.spdm mac.toNat 0; mpServes s = true ∧
      meLive s p.val = true ∧ 3 ≤ step ∧ 5 < index.toNat ∧ index ≠ 0x10 ∧ index ≠ 0xFF) ∧
    (∃ (p : Fin 2) (mac : BitVec 48) (id : BitVec 32) (s : State), mpServes s = true ∧ meLive s p.val = true ∧
      (lookD s.mg.spdm mac.toNat 0 < 3 ∨ id = 0 ∨ sessOf s id.toNat ≠ none)) ∧
    (∃ (p : Fin 2) (mac : BitVec 48) (id : BitVec 32) (s : State), mpServes s = true ∧ meLive s p.val = true ∧
      3 ≤ lookD s.mg.spdm mac.toNat 0 ∧ id ≠ 0 ∧ sessOf s id.toNat = none ∧ 8 ≤ s.mg.sess.length) ∧
    (∃ (p : Fin 2) (mac : BitVec 48) (id : BitVec 32) (s : State), mpServes s = true ∧ meLive s p.val = true ∧
      3 ≤ lookD s.mg.spdm mac.toNat 0 ∧ id ≠ 0 ∧ sessOf s id.toNat = none ∧ s.mg.sess.length < 8) ∧
    (∃ (id : BitVec 32) (s : State), (mpServes s = false ∨ sessOf s id.toNat = none)) ∧
    (∃ (id : BitVec 32) (k : SessSt) (s : State), sessOf s id.toNat = some k ∧ mpServes s = true ∧ k.phase ≠ .exchange) ∧
    (∃ (id : BitVec 32) (k : SessSt) (s : State), sessOf s id.toNat = some k ∧ mpServes s = true ∧ k.phase = .exchange ∧ k.digests = false) ∧
    (∃ (id : BitVec 32) (k : SessSt) (good : Bool) (root : BitVec 256) (s : State), sessOf s id.toNat = some k ∧ mpServes s = true ∧
      k.phase = .exchange ∧ k.digests = true ∧ (good && (fmRoot s == 0 || root == fmRoot s)) = true) ∧
    (∃ (id : BitVec 32) (k : SessSt) (good : Bool) (root : BitVec 256) (s : State), sessOf s id.toNat = some k ∧ mpServes s = true ∧
      k.phase = .exchange ∧ k.digests = true ∧ (good && (fmRoot s == 0 || root == fmRoot s)) = false) ∧
    (∃ (id : BitVec 32) (k : SessSt) (s : State), sessOf s id.toNat = some k ∧ mpServes s = true ∧ k.phase = .established) ∧
    (∃ (id : BitVec 32) (k : SessSt) (s : State), sessOf s id.toNat = some k ∧ mpServes s = true ∧ k.phase = .verified) ∧
    (∃ (id : BitVec 32) (k : SessSt) (good : Bool) (s : State), sessOf s id.toNat = some k ∧ mpServes s = true ∧
      (k.phase = .exchange ∨ (k.phase = .verified ∧ good = false))) ∧
    (∃ (id : BitVec 32) (s : State), (mpServes s = false ∨ liveSess s id.toNat = none)) ∧
    (∃ (id : BitVec 32) (k : SessSt) (s : State), liveSess s id.toNat = some k ∧ mpServes s = true) ∧
    (∃ (id : Nat) (s : State), sessOf s id = none) ∧
    (∃ (id : Nat) (k : SessSt) (s : State), sessOf s id = some k ∧ k.phase = .established) ∧
    (∃ (s : State) (p : Nat), let q := if ringBroken s p then 1 - p else p; meLive s q = true) ∧
    (∃ (s : State) (p : Nat), let q := if ringBroken s p then 1 - p else p; meLive s q = false) ∧
    (∃ (id : Nat) (k : SessSt) (s : State), liveSess s id = some k ∧ k.tx + 1 < 2 ^ 40) ∧
    (∃ (id : Nat) (k : SessSt) (s : State), liveSess s id = some k ∧ 2 ^ 40 ≤ k.tx + 1) :=
  ⟨⟨1, 6, false, 0, 0, 0, 0, 0, .keyExchange (1) (6) (0), ring0 [(mpBase, Reg.Mp.MP_STATE, 2)], by decide⟩,
    ⟨1, 6, mg0 [] [], by intros; decide⟩,
    ⟨1, 6, { mg0 [] [] with mg := { up.mg with spdm := [(6, 1)] } }, by intros; decide⟩,
    ⟨1, 6, { mg0 [] [] with mg := { up.mg with spdm := [(6, 1)] } }, by intros; decide⟩,
    ⟨1, 6, { mg0 [] [] with mg := { up.mg with spdm := [(6, 2)] } }, by intros; decide⟩,
    ⟨1, 6, 0, 0, 0, 0, { mg0 [] [] with mg := { up.mg with spdm := [(6, 2)] } }, .challenge (1) (6) (0), by intros; decide⟩,
    ⟨1, 5, 0, mg0 [] [], by intros; decide⟩,
    ⟨1, 5, 4, mg0 [] [], by intros; decide⟩,
    ⟨1, 5, 5, mg0 [] [], by intros; decide⟩,
    ⟨1, 5, 16, mg0 [] [], by intros; decide⟩,
    ⟨1, 5, 255, mg0 [] [], by intros; decide⟩,
    ⟨1, 5, 6, mg0 [] [], by intros; decide⟩,
    ⟨1, 5, 9, mg0 [sess0] [], by decide⟩,
    ⟨1, 5, 10, mg0 (List.replicate 8 sess0) [], by decide⟩,
    ⟨1, 5, 10, mg0 (List.replicate 7 sess0) [], by decide⟩,
    ⟨9, mg0 [] [], by decide⟩,
    ⟨9, sess0, mg0 [sess0] [], by decide⟩,
    ⟨9, { sess0 with phase := .exchange, digests := false }, mg0 [({ sess0 with phase := .exchange, digests := false })] [], by decide⟩,
    ⟨9, { sess0 with phase := .exchange }, true, 0, mg0 [({ sess0 with phase := .exchange })] [], by decide⟩,
    ⟨9, { sess0 with phase := .exchange }, false, 0, mg0 [({ sess0 with phase := .exchange })] [], by decide⟩,
    ⟨9, sess0, mg0 [sess0] [], by decide⟩,
    ⟨9, { sess0 with phase := .verified }, mg0 [({ sess0 with phase := .verified })] [], by decide⟩,
    ⟨9, { sess0 with phase := .verified }, false, mg0 [({ sess0 with phase := .verified })] [], by decide⟩,
    ⟨9, mg0 [{ sess0 with phase := .verified }] [], by decide⟩,
    ⟨9, sess0, mg0 [sess0] [], by decide⟩,
    ⟨9, up, by decide⟩,
    ⟨9, sess0, mg0 [sess0] [], by decide⟩,
    ⟨ring0 [], 1, by intros; decide⟩,
    ⟨up, 1, by intros; decide⟩,
    ⟨9, sess0, mg0 [sess0] [], by decide⟩,
    ⟨9, { sess0 with tx := 2 ^ 40 - 1 }, mg0 [({ sess0 with tx := 2 ^ 40 - 1 })] [], by decide⟩⟩

theorem witness_StreamsTimebaseAndRestartsRun :
    (∃ (st : Fin 4) (s : State), (look s.mg.streams st.val = none ∨ mpServes s = false)) ∧
    (∃ (st : Fin 4) (h : StreamSt) (s : State), look s.mg.streams st.val = some h ∧ liveSess s h.session = none) ∧
    (∃ (st : Fin 4) (h : StreamSt) (k : SessSt) (s : State), look s.mg.streams st.val = some h ∧ liveSess s h.session = some k ∧
      mpServes s = true ∧ st = 0) ∧
    (∃ (st : Fin 4) (h : StreamSt) (k : SessSt) (s : State), look s.mg.streams st.val = some h ∧ liveSess s h.session = some k ∧
      mpServes s = true ∧ st ≠ 0) ∧
    (∃ (p : Fin 2) (s : State), meLive s p.val = false) ∧
    (∃ (p : Fin 2) (dom : BitVec 8) (res : BitVec 32) (s : State), let t := forwardFrame (cnt1 s (.mgmtEth p) 0x100) p.val (fun q => .ptp q res.toNat);
      meLive s p.val = true ∧ (t.rd mpBase Reg.Mp.TB_CFG_SRC ≠ 2 ∨ dom.toNat ≠ t.rd mpBase Reg.Mp.PTP_DOMAIN)) ∧
    (∃ (p : Fin 2) (dom : BitVec 8) (res : BitVec 32) (s : State), let t := forwardFrame (cnt1 s (.mgmtEth p) 0x100) p.val (fun q => .ptp q res.toNat);
      meLive s p.val = true ∧ t.rd mpBase Reg.Mp.TB_CFG_SRC = 2 ∧ dom.toNat = t.rd mpBase Reg.Mp.PTP_DOMAIN) ∧
    (∃ (s : State), s.tbOffers = []) ∧
    (∃ (o : Int) (rest : List Int) (s : State), s.tbOffers = o :: rest ∧ s.rd mpBase Reg.Mp.TB_CFG_SRC = 0) ∧
    (∃ (o : Int) (rest : List Int) (s : State), let big := (1000 * s.rd mpBase Reg.Mp.TB_STEP_NS : Nat) < o ∧ s.on mpBase Reg.Mp.TB_CFG_STEP_OK = true;
      s.tbOffers = o :: rest ∧ s.rd mpBase Reg.Mp.TB_CFG_SRC ≠ 0 ∧ big) ∧
    (∃ (o : Int) (rest : List Int) (s : State), let big := (1000 * s.rd mpBase Reg.Mp.TB_STEP_NS : Nat) < o ∧ s.on mpBase Reg.Mp.TB_CFG_STEP_OK = true;
      s.tbOffers = o :: rest ∧ s.rd mpBase Reg.Mp.TB_CFG_SRC ≠ 0 ∧ ¬big) ∧
    (∃ (s : State), s.gz.held = []) ∧
    (∃ (s : State), let st := s.rd mpBase Reg.Mp.TB_STATUS_STATE; (s.rd mpBase Reg.Mp.TB_CFG_SRC = 0 ∨ (st ≠ 1 ∧ st ≠ 2))) ∧
    (∃ (s : State), let st := s.rd mpBase Reg.Mp.TB_STATUS_STATE; s.rd mpBase Reg.Mp.TB_CFG_SRC ≠ 0 ∧ (st = 1 ∨ st = 2)) ∧
    (∃ (s : State), s.rd mpBase Reg.Mp.TB_CFG_SRC ≠ 3) ∧
    (∃ (s : State), s.rd mpBase Reg.Mp.TB_CFG_SRC = 3) ∧
    (∃ (rise : Bool) (s : State), s.mg.pps = rise) ∧
    (∃ (rise : Bool) (s : State), s.mg.pps ≠ rise) ∧
    (∃ (r : Route) (s : State), Takes s r (mpBase + 0x4C)) ∧
    (∃ (s : State), s.rd mpBase Reg.Mp.MP_STATE ≠ 1) ∧
    (∃ (s : State), s.rd mpBase Reg.Mp.MP_STATE ≠ 2) ∧
    (∃ (s : State), s.rd mpBase Reg.Mp.MP_STATE = 2) ∧
    (∃ (s : State), bankRuns s = false) ∧
    (∃ (s : State), bankRuns s = true) ∧
    (∃ (r : Route) (k : Fin 2) (s : State), Takes s r (meBase k.val + 0x54)) :=
  ⟨⟨3, up, by decide⟩,
    ⟨3, { session := 9, rate := 1, decim := 1, count := 0 },
      { mg0 [] [] with mg := { (mg0 [] []).mg with streams := [(3, ({ session := 9, rate := 1, decim := 1, count := 0 }))] } }, by decide⟩,
    ⟨0, { session := 9, rate := 1, decim := 1, count := 0 }, sess0,
      { mg0 [sess0] [] with mg := { (mg0 [sess0] []).mg with streams := [(0, ({ session := 9, rate := 1, decim := 1, count := 0 }))] } },
      by decide⟩,
    ⟨3, { session := 9, rate := 1, decim := 1, count := 0 }, sess0,
      { mg0 [sess0] [] with mg := { (mg0 [sess0] []).mg with streams := [(3, ({ session := 9, rate := 1, decim := 1, count := 0 }))], recs := [(3, [.bytes [1], .bytes [2], .bytes [3]])] } },
      by decide⟩,
    ⟨1, up, by decide⟩,
    ⟨1, 5, 7, ring0 [(mpBase, Reg.Mp.TB_CFG_SRC, 2), (mpBase, Reg.Mp.PTP_DOMAIN, 6)], by intros; decide⟩,
    ⟨1, 5, 7, ring0 [(mpBase, Reg.Mp.TB_CFG_SRC, 2), (mpBase, Reg.Mp.PTP_DOMAIN, 5)], by intros; decide⟩,
    ⟨up, by decide⟩,
    ⟨-500000, [], { ring0 [(mpBase, Reg.Mp.TB_CFG_SRC, 0)] with tbOffers := [-500000] }, by decide⟩,
    ⟨2000000000, [],
      { ring0 [(mpBase, Reg.Mp.TB_CFG_SRC, 1), (mpBase, Reg.Mp.TB_CFG_STEP_OK, 1), (mpBase, Reg.Mp.TB_STEP_NS, 1000)] with tbOffers := [2000000000] },
      by intros; decide⟩,
    ⟨-500000, [], { ring0 [(mpBase, Reg.Mp.TB_CFG_SRC, 1)] with tbOffers := [-500000] }, by intros; decide⟩,
    ⟨up, by decide⟩,
    ⟨ring0 [(mpBase, Reg.Mp.TB_CFG_SRC, 1), (mpBase, Reg.Mp.TB_STATUS_STATE, 3)], by intros; decide⟩,
    ⟨ring0 [(mpBase, Reg.Mp.TB_CFG_SRC, 1), (mpBase, Reg.Mp.TB_STATUS_STATE, 2)], by intros; decide⟩,
    ⟨ring0 [(mpBase, Reg.Mp.TB_CFG_SRC, 2)], by decide⟩,
    ⟨ring0 [(mpBase, Reg.Mp.TB_CFG_SRC, 3)], by decide⟩,
    ⟨false, ring0 [], by decide⟩,
    ⟨true, ring0 [], by decide⟩,
    ⟨.mp, ring0 [], by unfold Takes; decide⟩,
    ⟨ring0 [(mpBase, Reg.Mp.MP_STATE, 2)], by decide⟩,
    ⟨ring0 [], by decide⟩,
    ⟨{ ring0 [(mpBase, Reg.Mp.MP_STATE, 2)] with mesh := { up.mesh with recover := [(71, [3], 0)] } }, by decide⟩,
    ⟨{ up with boot := { up.boot with fwBooted := false } }, by decide⟩,
    ⟨regs [(base .flask, Reg.Flk.BANK_STATUS_RECOVERY, 0)], by decide⟩,
    ⟨.mp, 1, ring0 [(meBase 1, Reg.Me.FCS_ERR, 4)], by unfold Takes; decide⟩⟩

theorem witness_DrisiulOperationsRunInTurn :
    (∃ (q : DrsReq) (s : State), (mpServes s = false ∨ meLive s q.port.val = false)) ∧
    (∃ (q : DrsReq) (s : State), mpServes s = true ∧ meLive s q.port.val = true ∧ liveSess s q.session.toNat = none) ∧
    (∃ (q : DrsReq) (k : SessSt) (s : State), mpServes s = true ∧ meLive s q.port.val = true ∧ liveSess s q.session.toNat = some k ∧
      (q.tagGood = false ∨ seqFresh k q.seq.toNat = false)) ∧
    (∃ (q : DrsReq) (k : SessSt) (s : State), mpServes s = true ∧ meLive s q.port.val = true ∧ liveSess s q.session.toNat = some k ∧
      q.tagGood = true ∧ seqFresh k q.seq.toNat = true ∧ 2 ^ 40 ≤ q.seq.toNat) ∧
    (∃ (q : DrsReq) (k : SessSt) (s : State), let free_ := s.mg.reqs.any (fun x => x.session == k.id) = false;
      let good := q.tagGood = true ∧ seqFresh k q.seq.toNat = true ∧ q.seq.toNat < 2 ^ 40; mpServes s = true ∧ meLive s q.port.val = true ∧
      liveSess s q.session.toNat = some k ∧ good ∧ ¬free_) ∧
    (∃ (q : DrsReq) (k : SessSt) (s : State), let free_ := s.mg.reqs.any (fun x => x.session == k.id) = false;
      let good := q.tagGood = true ∧ seqFresh k q.seq.toNat = true ∧ q.seq.toNat < 2 ^ 40; mpServes s = true ∧ meLive s q.port.val = true ∧
      liveSess s q.session.toNat = some k ∧ good ∧ free_ ∧ k.last = none) ∧
    (∃ (q : DrsReq) (k : SessSt) (s : State) (n : Nat) (msg : List Byte), let id := beAt q.msg 0 4;
      let free_ := s.mg.reqs.any (fun x => x.session == k.id) = false;
      let good := q.tagGood = true ∧ seqFresh k q.seq.toNat = true ∧ q.seq.toNat < 2 ^ 40; mpServes s = true ∧ meLive s q.port.val = true ∧
      liveSess s q.session.toNat = some k ∧ good ∧ free_ ∧ k.last = some (n, msg) ∧ id = n) ∧
    (∃ (q : DrsReq) (k : SessSt) (s : State) (n : Nat) (msg : List Byte), let id := beAt q.msg 0 4;
      let free_ := s.mg.reqs.any (fun x => x.session == k.id) = false;
      let good := q.tagGood = true ∧ seqFresh k q.seq.toNat = true ∧ q.seq.toNat < 2 ^ 40; mpServes s = true ∧ meLive s q.port.val = true ∧
      liveSess s q.session.toNat = some k ∧ good ∧ free_ ∧ k.last = some (n, msg) ∧ id ≠ n ∧ ringDist id n < 2 ^ 31) ∧
    (∃ (q : DrsReq) (k : SessSt) (s : State) (n : Nat) (msg : List Byte), let id := beAt q.msg 0 4;
      let free_ := s.mg.reqs.any (fun x => x.session == k.id) = false;
      let good := q.tagGood = true ∧ seqFresh k q.seq.toNat = true ∧ q.seq.toNat < 2 ^ 40; mpServes s = true ∧ meLive s q.port.val = true ∧
      liveSess s q.session.toNat = some k ∧ good ∧ free_ ∧ k.last = some (n, msg) ∧ id ≠ n ∧ 2 ^ 31 ≤ ringDist id n) ∧
    (∃ (q : ReqRun) (o : DrsOp) (rest : List DrsOp) (l : List ReqRun) (status : Nat) (data : List (BitVec 32)) (s : State), let res := q.done_ ++ [{ op := opCode o, status := status, data := data }];
      let skipped : List OpRes := rest.map (fun x => { op := opCode x, status := 8, data := [] });
      let q' := if status = 0 then { q with left := rest, since := none, done_ := res } else { q with left := [], since := none, done_ := res ++ skipped };
      s.mg.reqs = q :: l ∧ q.left = o :: rest ∧ status = 0 ∧ rest.head?.any opNamed = true) ∧
    (∃ (q : ReqRun) (o : DrsOp) (rest : List DrsOp) (l : List ReqRun) (status : Nat) (data : List (BitVec 32)) (s : State), let res := q.done_ ++ [{ op := opCode o, status := status, data := data }];
      let skipped : List OpRes := rest.map (fun x => { op := opCode x, status := 8, data := [] });
      let q' := if status = 0 then { q with left := rest, since := none, done_ := res } else { q with left := [], since := none, done_ := res ++ skipped };
      s.mg.reqs = q :: l ∧ q.left = o :: rest ∧ (rest = [] ∨ status ≠ 0) ∧ l = []) ∧
    (∃ (q : ReqRun) (s : State), let t := s.setMg { s.mg with reqs := s.mg.reqs.drop 1 }; liveSess t q.session = none) ∧
    (∃ (q : ReqRun) (s : State) (k : SessSt), let t := s.setMg { s.mg with reqs := s.mg.reqs.drop 1 }; liveSess t q.session = some k) ∧
    (∃ (c : Instr) (code : Nat) (s : State), (c,
      code) ∈ [(Instr.regRead, 1), (.regWrite, 2), (.regRmw, 3), (.poll, 4), (.pollEnd true, 4), (.pollEnd false, 4), (.commit, 5), (.commitWaitEnd true, 5), (.commitWaitEnd false, 5), (.atlasLoad, 16), (.atlasRead, 17), (.stream, 32), (.fmapi, 48), (.storeOpen true, 64), (.storeOpen false, 64), (.storeData true, 65), (.storeData false, 65), (.storeClose true true, 66), (.storeClose true false, 66), (.storeClose false true, 66), (.storeClose false false, 66), (.cfgSave true, 67), (.cfgSave false, 67), (.storeAbort, 68)] ∧
      (mpServes s = false ∨ s.mg.reqs = [])) ∧
    (∃ (c : Instr) (code : Nat) (s : State) (q : ReqRun) (l : List ReqRun), (c,
      code) ∈ [(Instr.regRead, 1), (.regWrite, 2), (.regRmw, 3), (.poll, 4), (.pollEnd true, 4), (.pollEnd false, 4), (.commit, 5), (.commitWaitEnd true, 5), (.commitWaitEnd false, 5), (.atlasLoad, 16), (.atlasRead, 17), (.stream, 32), (.fmapi, 48), (.storeOpen true, 64), (.storeOpen false, 64), (.storeData true, 65), (.storeData false, 65), (.storeClose true true, 66), (.storeClose true false, 66), (.storeClose false true, 66), (.storeClose false false, 66), (.cfgSave true, 67), (.cfgSave false, 67), (.storeAbort, 68)] ∧
      s.mg.reqs = q :: l ∧ q.left = []) ∧
    (∃ (c : Instr) (code : Nat) (s : State) (q : ReqRun) (o : DrsOp) (rest : List DrsOp) (l : List ReqRun), (c,
      code) ∈ [(Instr.regRead, 1), (.regWrite, 2), (.regRmw, 3), (.poll, 4), (.pollEnd true, 4), (.pollEnd false, 4), (.commit, 5), (.commitWaitEnd true, 5), (.commitWaitEnd false, 5), (.atlasLoad, 16), (.atlasRead, 17), (.stream, 32), (.fmapi, 48), (.storeOpen true, 64), (.storeOpen false, 64), (.storeData true, 65), (.storeData false, 65), (.storeClose true true, 66), (.storeClose true false, 66), (.storeClose false true, 66), (.storeClose false false, 66), (.cfgSave true, 67), (.cfgSave false, 67), (.storeAbort, 68)] ∧
      s.mg.reqs = q :: l ∧ q.left = o :: rest ∧ (opCode o ≠ code ∨ opNamed o = false)) ∧
    (∃ (c : Instr) (code : Nat) (s : State) (q : ReqRun) (o : DrsOp) (rest : List DrsOp) (l : List ReqRun), (c,
      code) ∈ [(Instr.regRead, 1), (.regWrite, 2), (.regRmw, 3), (.poll, 4), (.pollEnd true, 4), (.pollEnd false, 4), (.commit, 5), (.commitWaitEnd true, 5), (.commitWaitEnd false, 5), (.atlasLoad, 16), (.atlasRead, 17), (.stream, 32), (.fmapi, 48), (.storeOpen true, 64), (.storeOpen false, 64), (.storeData true, 65), (.storeData false, 65), (.storeClose true true, 66), (.storeClose true false, 66), (.storeClose false true, 66), (.storeClose false false, 66), (.cfgSave true, 67), (.cfgSave false, 67), (.storeAbort, 68)] ∧
      s.mg.reqs = q :: l ∧ q.left = o :: rest ∧ mpServes s = true ∧ opCode o = code ∧ opNamed o = true ∧ opDenied s q o = true) ∧
    (∃ (q : ReqRun) (o : DrsOp) (rest : List DrsOp) (l : List ReqRun) (s : State) (off : BitVec 32) (n : BitVec 32), let bad := n.toNat = 0 ∨ 2048 < n.toNat ∨ 2 ^ 28 < off.toNat + 4 * n.toNat;
      mpServes s = true ∧ s.mg.reqs = q :: l ∧ q.left = o :: rest ∧ opDenied s q o = false ∧ o = .regRead off n ∧ bad) ∧
    (∃ (q : ReqRun) (o : DrsOp) (rest : List DrsOp) (l : List ReqRun) (s : State) (off : BitVec 32) (n : BitVec 32), let bad := n.toNat = 0 ∨ 2048 < n.toNat ∨ 2 ^ 28 < off.toNat + 4 * n.toNat;
      mpServes s = true ∧ s.mg.reqs = q :: l ∧ q.left = o :: rest ∧ opDenied s q o = false ∧ o = .regRead off n ∧ ¬bad ∧
      fitsResponse q n.toNat = false) ∧
    (∃ (q : ReqRun) (o : DrsOp) (rest : List DrsOp) (l : List ReqRun) (s : State) (off : BitVec 32) (n : BitVec 32), let bad := n.toNat = 0 ∨ 2048 < n.toNat ∨ 2 ^ 28 < off.toNat + 4 * n.toNat;
      mpServes s = true ∧ s.mg.reqs = q :: l ∧ q.left = o :: rest ∧ opDenied s q o = false ∧ o = .regRead off n ∧ ¬bad ∧
      fitsResponse q n.toNat = true) ∧
    (∃ (q : ReqRun) (o : DrsOp) (rest : List DrsOp) (l : List ReqRun) (s : State) (off : BitVec 32) (ws : List (BitVec 32)), let bad := ws = [] ∨ 2 ^ 28 < off.toNat + 4 * ws.length;
      mpServes s = true ∧ s.mg.reqs = q :: l ∧ q.left = o :: rest ∧ opDenied s q o = false ∧ o = .regWrite off ws ∧ bad) ∧
    (∃ (q : ReqRun) (o : DrsOp) (rest : List DrsOp) (l : List ReqRun) (s : State) (off : BitVec 32) (ws : List (BitVec 32)), let r := writeWords ws s off.toNat;
      let bad := ws = [] ∨ 2 ^ 28 < off.toNat + 4 * ws.length; mpServes s = true ∧ s.mg.reqs = q :: l ∧ q.left = o :: rest ∧
      opDenied s q o = false ∧ o = .regWrite off ws ∧ ¬bad ∧ r.1 = false) ∧
    (∃ (q : ReqRun) (o : DrsOp) (rest : List DrsOp) (l : List ReqRun) (s : State) (off : BitVec 32) (ws : List (BitVec 32)), let r := writeWords ws s off.toNat;
      let bad := ws = [] ∨ 2 ^ 28 < off.toNat + 4 * ws.length; mpServes s = true ∧ s.mg.reqs = q :: l ∧ q.left = o :: rest ∧
      opDenied s q o = false ∧ o = .regWrite off ws ∧ ¬bad ∧ r.1 = true ∧ off.toNat % 4 ≠ 0) ∧
    (∃ (q : ReqRun) (o : DrsOp) (rest : List DrsOp) (l : List ReqRun) (s : State) (off : BitVec 32) (ws : List (BitVec 32)), let r := writeWords ws s off.toNat;
      let bad := ws = [] ∨ 2 ^ 28 < off.toNat + 4 * ws.length; mpServes s = true ∧ s.mg.reqs = q :: l ∧ q.left = o :: rest ∧
      opDenied s q o = false ∧ o = .regWrite off ws ∧ ¬bad ∧ r.1 = true ∧ off.toNat % 4 = 0) ∧
    (∃ (q : ReqRun) (o : DrsOp) (rest : List DrsOp) (l : List ReqRun) (s : State) (off : BitVec 32) (mask : BitVec 32) (value : BitVec 32),
      mpServes s = true ∧ s.mg.reqs = q :: l ∧ q.left = o :: rest ∧ opDenied s q o = false ∧ o = .regRmw off mask value ∧
      2 ^ 28 < off.toNat + 4) ∧
    (∃ (q : ReqRun) (o : DrsOp) (rest : List DrsOp) (l : List ReqRun) (s : State) (off : BitVec 32) (mask : BitVec 32) (value : BitVec 32),
      mpServes s = true ∧ s.mg.reqs = q :: l ∧ q.left = o :: rest ∧ opDenied s q o = false ∧ o = .regRmw off mask value ∧
      off.toNat + 4 ≤ 2 ^ 28 ∧ fitsResponse q 1 = false) ∧
    (∃ (q : ReqRun) (o : DrsOp) (rest : List DrsOp) (l : List ReqRun) (s : State) (off : BitVec 32) (mask : BitVec 32) (value : BitVec 32), let no := writeRefused s .drisiul off.toNat 15 = some .denied;
      mpServes s = true ∧ s.mg.reqs = q :: l ∧ q.left = o :: rest ∧ opDenied s q o = false ∧ o = .regRmw off mask value ∧
      off.toNat + 4 ≤ 2 ^ 28 ∧ fitsResponse q 1 = true ∧ no) ∧
    (∃ (q : ReqRun) (o : DrsOp) (rest : List DrsOp) (l : List ReqRun) (s : State) (off : BitVec 32) (mask : BitVec 32) (value : BitVec 32), let no := writeRefused s .drisiul off.toNat 15 = some .denied;
      mpServes s = true ∧ s.mg.reqs = q :: l ∧ q.left = o :: rest ∧ opDenied s q o = false ∧ o = .regRmw off mask value ∧
      off.toNat + 4 ≤ 2 ^ 28 ∧ fitsResponse q 1 = true ∧ ¬no ∧ off.toNat % 4 ≠ 0) ∧
    (∃ (q : ReqRun) (o : DrsOp) (rest : List DrsOp) (l : List ReqRun) (s : State) (off : BitVec 32) (mask : BitVec 32) (value : BitVec 32), let no := writeRefused s .drisiul off.toNat 15 = some .denied;
      mpServes s = true ∧ s.mg.reqs = q :: l ∧ q.left = o :: rest ∧ opDenied s q o = false ∧ o = .regRmw off mask value ∧
      off.toNat + 4 ≤ 2 ^ 28 ∧ fitsResponse q 1 = true ∧ ¬no ∧ off.toNat % 4 = 0) ∧
    (∃ (q : ReqRun) (o : DrsOp) (rest : List DrsOp) (l : List ReqRun) (s : State) (off : BitVec 32) (mask : BitVec 32) (value : BitVec 32) (tmo : BitVec 32), let bad := tmo.toNat = 0 ∨ 1000000 < tmo.toNat ∨ 2 ^ 28 < off.toNat + 4;
      mpServes s = true ∧ s.mg.reqs = q :: l ∧ q.left = o :: rest ∧ opDenied s q o = false ∧ o = .poll off mask value tmo ∧ q.since = none ∧
      bad) ∧
    (∃ (q : ReqRun) (o : DrsOp) (rest : List DrsOp) (l : List ReqRun) (s : State) (off : BitVec 32) (mask : BitVec 32) (value : BitVec 32) (tmo : BitVec 32), let bad := tmo.toNat = 0 ∨ 1000000 < tmo.toNat ∨ 2 ^ 28 < off.toNat + 4;
      mpServes s = true ∧ s.mg.reqs = q :: l ∧ q.left = o :: rest ∧ opDenied s q o = false ∧ o = .poll off mask value tmo ∧ q.since = none ∧
      ¬bad ∧ fitsResponse q 1 = false) ∧
    (∃ (q : ReqRun) (o : DrsOp) (rest : List DrsOp) (l : List ReqRun) (s : State) (off : BitVec 32) (mask : BitVec 32) (value : BitVec 32) (tmo : BitVec 32), let bad := tmo.toNat = 0 ∨ 1000000 < tmo.toNat ∨ 2 ^ 28 < off.toNat + 4;
      mpServes s = true ∧ s.mg.reqs = q :: l ∧ q.left = o :: rest ∧ opDenied s q o = false ∧ o = .poll off mask value tmo ∧ q.since = none ∧
      ¬bad ∧ fitsResponse q 1 = true) ∧
    (∃ (q : ReqRun) (o : DrsOp) (rest : List DrsOp) (l : List ReqRun) (s : State) (off : BitVec 32) (mask : BitVec 32) (value : BitVec 32) (tmo : BitVec 32), let r := busRead s .drisiul off.toNat;
      let v := BitVec.ofNat 32 r.1; mpServes s = true ∧ s.mg.reqs = q :: l ∧ q.left = o :: rest ∧ opDenied s q o = false ∧
      o = .poll off mask value tmo ∧ q.since ≠ none ∧ v &&& mask = value) ∧
    (∃ (q : ReqRun) (o : DrsOp) (rest : List DrsOp) (l : List ReqRun) (s : State) (off : BitVec 32) (mask : BitVec 32) (value : BitVec 32) (tmo : BitVec 32), let r := busRead s .drisiul off.toNat;
      let v := BitVec.ofNat 32 r.1; mpServes s = true ∧ s.mg.reqs = q :: l ∧ q.left = o :: rest ∧ opDenied s q o = false ∧
      o = .poll off mask value tmo ∧ q.since ≠ none ∧ v &&& mask ≠ value) ∧
    (∃ (q : ReqRun) (o : DrsOp) (rest : List DrsOp) (l : List ReqRun) (s : State) (g : BitVec 32) (tmo : BitVec 32), mpServes s = true ∧
      s.mg.reqs = q :: l ∧ q.left = o :: rest ∧ opDenied s q o = false ∧ o = .commit g tmo ∧ q.since = none ∧ fitsResponse q 1 = false) ∧
    (∃ (q : ReqRun) (o : DrsOp) (rest : List DrsOp) (l : List ReqRun) (s : State) (g : BitVec 32) (tmo : BitVec 32), mpServes s = true ∧
      s.mg.reqs = q :: l ∧ q.left = o :: rest ∧ opDenied s q o = false ∧ o = .commit g tmo ∧ q.since = none ∧ fitsResponse q 1 = true) ∧
    (∃ (q : ReqRun) (o : DrsOp) (rest : List DrsOp) (l : List ReqRun) (s : State) (g : BitVec 32) (tmo : BitVec 32), let v := BitVec.ofNat 32 (s.rd 0 Reg.Root.CMT_STATUS);
      mpServes s = true ∧ s.mg.reqs = q :: l ∧ q.left = o :: rest ∧ opDenied s q o = false ∧ o = .commit g tmo ∧ q.since ≠ none ∧
      v &&& g = 0) ∧
    (∃ (q : ReqRun) (o : DrsOp) (rest : List DrsOp) (l : List ReqRun) (s : State) (g : BitVec 32) (tmo : BitVec 32), let v := BitVec.ofNat 32 (s.rd 0 Reg.Root.CMT_STATUS);
      mpServes s = true ∧ s.mg.reqs = q :: l ∧ q.left = o :: rest ∧ opDenied s q o = false ∧ o = .commit g tmo ∧ q.since ≠ none ∧
      v &&& g ≠ 0) ∧
    (∃ (q : ReqRun) (o : DrsOp) (rest : List DrsOp) (l : List ReqRun) (s : State) (v : Fin 2) (force : Bool) (first : BitVec 11) (ws : List (BitVec 32)),
      mpServes s = true ∧ s.mg.reqs = q :: l ∧ q.left = o :: rest ∧ opDenied s q o = false ∧ o = .atlasLoad 3 v force first ws) ∧
    (∃ (q : ReqRun) (o : DrsOp) (rest : List DrsOp) (l : List ReqRun) (s : State) (v : Fin 2) (first : BitVec 11) (n : BitVec 32),
      mpServes s = true ∧ s.mg.reqs = q :: l ∧ q.left = o :: rest ∧ opDenied s q o = false ∧ o = .atlasRead 3 v first n) ∧
    (∃ (q : ReqRun) (o : DrsOp) (rest : List DrsOp) (l : List ReqRun) (s : State) (x : BitVec 2 × Nat × Nat × Nat) (v : Fin 2) (force : Bool) (first : BitVec 11) (ws : List (BitVec 32)), let per := x.2.2.1;
      let bad := ws = [] ∨ ws.length % per ≠ 0 ∨ x.2.1 < first.toNat + ws.length / per; mpServes s = true ∧ s.mg.reqs = q :: l ∧
      q.left = o :: rest ∧ opDenied s q o = false ∧ x ∈ [(0, 2048, 4, 0x10000), (1, 32, 4, 0x18000), (2, 256, 1, 0x19000)] ∧
      o = .atlasLoad x.1 v force first ws ∧ bad) ∧
    (∃ (q : ReqRun) (o : DrsOp) (rest : List DrsOp) (l : List ReqRun) (s : State) (x : BitVec 2 × Nat × Nat × Nat) (v : Fin 2) (force : Bool) (first : BitVec 11) (ws : List (BitVec 32)), let per := x.2.2.1;
      let bad := ws = [] ∨ ws.length % per ≠ 0 ∨ x.2.1 < first.toNat + ws.length / per;
      let used := s.rd 0 Reg.Root.INJ_EPOCH_EPOCH = v.val ∧ force = false; mpServes s = true ∧ s.mg.reqs = q :: l ∧ q.left = o :: rest ∧
      opDenied s q o = false ∧ x ∈ [(0, 2048, 4, 0x10000), (1, 32, 4, 0x18000), (2, 256, 1, 0x19000)] ∧
      o = .atlasLoad x.1 v force first ws ∧ ¬bad ∧ used) ∧
    (∃ (q : ReqRun) (o : DrsOp) (rest : List DrsOp) (l : List ReqRun) (s : State) (x : BitVec 2 × Nat × Nat × Nat) (v : Fin 2) (force : Bool) (first : BitVec 11) (ws : List (BitVec 32)), let per := x.2.2.1;
      let bad := ws = [] ∨ ws.length % per ≠ 0 ∨ x.2.1 < first.toNat + ws.length / per;
      let used := s.rd 0 Reg.Root.INJ_EPOCH_EPOCH = v.val ∧ force = false; mpServes s = true ∧ s.mg.reqs = q :: l ∧ q.left = o :: rest ∧
      opDenied s q o = false ∧ x ∈ [(0, 2048, 4, 0x10000), (1, 32, 4, 0x18000), (2, 256, 1, 0x19000)] ∧
      o = .atlasLoad x.1 v force first ws ∧ ¬bad ∧ ¬used) ∧
    (∃ (q : ReqRun) (o : DrsOp) (rest : List DrsOp) (l : List ReqRun) (s : State) (x : BitVec 2 × Nat × Nat × Nat) (v : Fin 2) (first : BitVec 11) (n : BitVec 32), let bad := n = 0 ∨ x.2.1 < first.toNat + n.toNat;
      mpServes s = true ∧ s.mg.reqs = q :: l ∧ q.left = o :: rest ∧ opDenied s q o = false ∧
      x ∈ [(0, 2048, 4, 0x10000), (1, 32, 4, 0x18000), (2, 256, 1, 0x19000)] ∧ o = .atlasRead x.1 v first n ∧ bad) ∧
    (∃ (q : ReqRun) (o : DrsOp) (rest : List DrsOp) (l : List ReqRun) (s : State) (x : BitVec 2 × Nat × Nat × Nat) (v : Fin 2) (first : BitVec 11) (n : BitVec 32), let per := x.2.2.1;
      let bad := n = 0 ∨ x.2.1 < first.toNat + n.toNat; mpServes s = true ∧ s.mg.reqs = q :: l ∧ q.left = o :: rest ∧
      opDenied s q o = false ∧ x ∈ [(0, 2048, 4, 0x10000), (1, 32, 4, 0x18000), (2, 256, 1, 0x19000)] ∧ o = .atlasRead x.1 v first n ∧
      ¬bad ∧ fitsResponse q (per * n.toNat) = false) ∧
    (∃ (q : ReqRun) (o : DrsOp) (rest : List DrsOp) (l : List ReqRun) (s : State) (x : BitVec 2 × Nat × Nat × Nat) (v : Fin 2) (first : BitVec 11) (n : BitVec 32), let per := x.2.2.1;
      let bad := n = 0 ∨ x.2.1 < first.toNat + n.toNat; mpServes s = true ∧ s.mg.reqs = q :: l ∧ q.left = o :: rest ∧
      opDenied s q o = false ∧ x ∈ [(0, 2048, 4, 0x10000), (1, 32, 4, 0x18000), (2, 256, 1, 0x19000)] ∧ o = .atlasRead x.1 v first n ∧
      ¬bad ∧ fitsResponse q (per * n.toNat) = true) ∧
    (∃ (q : ReqRun) (o : DrsOp) (rest : List DrsOp) (l : List ReqRun) (s : State) (st : BitVec 4) (on : Bool) (rate : BitVec 32) (decim : BitVec 32),
      mpServes s = true ∧ s.mg.reqs = q :: l ∧ q.left = o :: rest ∧ opDenied s q o = false ∧ o = .stream st on rate decim ∧ 3 < st.toNat) ∧
    (∃ (q : ReqRun) (o : DrsOp) (rest : List DrsOp) (l : List ReqRun) (s : State) (st : BitVec 4) (on : Bool) (rate : BitVec 32) (decim : BitVec 32), let good := 0 < rate.toNat ∧ rate.toNat ≤ 10000 ∧ 0 < decim.toNat ∧ decim.toNat ≤ 65535;
      mpServes s = true ∧ s.mg.reqs = q :: l ∧ q.left = o :: rest ∧ opDenied s q o = false ∧ o = .stream st on rate decim ∧ st.toNat ≤ 3 ∧
      on = true ∧ ¬good) ∧
    (∃ (q : ReqRun) (o : DrsOp) (rest : List DrsOp) (l : List ReqRun) (s : State) (st : BitVec 4) (on : Bool) (rate : BitVec 32) (decim : BitVec 32), let good := 0 < rate.toNat ∧ rate.toNat ≤ 10000 ∧ 0 < decim.toNat ∧ decim.toNat ≤ 65535;
      mpServes s = true ∧ s.mg.reqs = q :: l ∧ q.left = o :: rest ∧ opDenied s q o = false ∧ o = .stream st on rate decim ∧ st.toNat ≤ 3 ∧
      on = true ∧ good) ∧
    (∃ (q : ReqRun) (o : DrsOp) (rest : List DrsOp) (l : List ReqRun) (s : State) (st : BitVec 4) (on : Bool) (rate : BitVec 32) (decim : BitVec 32), let held := (look s.mg.streams st.toNat).map (·.session) = some q.session;
      mpServes s = true ∧ s.mg.reqs = q :: l ∧ q.left = o :: rest ∧ opDenied s q o = false ∧ o = .stream st on rate decim ∧ st.toNat ≤ 3 ∧
      on = false ∧ held) ∧
    (∃ (q : ReqRun) (o : DrsOp) (rest : List DrsOp) (l : List ReqRun) (s : State) (st : BitVec 4) (on : Bool) (rate : BitVec 32) (decim : BitVec 32), let held := (look s.mg.streams st.toNat).map (·.session) = some q.session;
      mpServes s = true ∧ s.mg.reqs = q :: l ∧ q.left = o :: rest ∧ opDenied s q o = false ∧ o = .stream st on rate decim ∧ st.toNat ≤ 3 ∧
      on = false ∧ ¬held) ∧
    (∃ (q : ReqRun) (o : DrsOp) (rest : List DrsOp) (l : List ReqRun) (s : State) (c : FmCmd), let w := dataWords (runFm s c).1.2;
      mpServes s = true ∧ s.mg.reqs = q :: l ∧ q.left = o :: rest ∧ opDenied s q o = false ∧ o = .fmapi c ∧
      fitsResponse q (1 + w.length) = false) ∧
    (∃ (q : ReqRun) (o : DrsOp) (rest : List DrsOp) (l : List ReqRun) (s : State) (c : FmCmd), let w := dataWords (runFm s c).1.2;
      mpServes s = true ∧ s.mg.reqs = q :: l ∧ q.left = o :: rest ∧ opDenied s q o = false ∧ o = .fmapi c ∧
      fitsResponse q (1 + w.length) = true) ∧
    (∃ (q : ReqRun) (o : DrsOp) (rest : List DrsOp) (l : List ReqRun) (s : State) (cfg : Bool) (n : BitVec 32), mpServes s = true ∧
      s.mg.reqs = q :: l ∧ q.left = o :: rest ∧ opDenied s q o = false ∧ o = .storeOpen cfg n ∧ s.flask.store ≠ none) ∧
    (∃ (q : ReqRun) (o : DrsOp) (rest : List DrsOp) (l : List ReqRun) (s : State) (cfg : Bool) (n : BitVec 32), mpServes s = true ∧
      s.mg.reqs = q :: l ∧ q.left = o :: rest ∧ opDenied s q o = false ∧ o = .storeOpen cfg n ∧ s.flask.store = none ∧
      lengthGood cfg n.toNat = false) ∧
    (∃ (q : ReqRun) (o : DrsOp) (rest : List DrsOp) (l : List ReqRun) (s : State) (cfg : Bool) (n : BitVec 32) (fault : Bool), let fails := fault = true ∨ unitOff s .flask = true;
      mpServes s = true ∧ s.mg.reqs = q :: l ∧ q.left = o :: rest ∧ opDenied s q o = false ∧ o = .storeOpen cfg n ∧ s.flask.store = none ∧
      lengthGood cfg n.toNat = true ∧ fails) ∧
    (∃ (q : ReqRun) (o : DrsOp) (rest : List DrsOp) (l : List ReqRun) (s : State) (cfg : Bool) (n : BitVec 32) (fault : Bool), let fails := fault = true ∨ unitOff s .flask = true;
      mpServes s = true ∧ s.mg.reqs = q :: l ∧ q.left = o :: rest ∧ opDenied s q o = false ∧ o = .storeOpen cfg n ∧ s.flask.store = none ∧
      lengthGood cfg n.toNat = true ∧ ¬fails) ∧
    (∃ (q : ReqRun) (o : DrsOp) (rest : List DrsOp) (l : List ReqRun) (s : State) (off : BitVec 32) (bytes : List Byte),
      mpServes s = true ∧ s.mg.reqs = q :: l ∧ q.left = o :: rest ∧ opDenied s q o = false ∧ o = .storeData off bytes ∧ s.flask.store = none) ∧
    (∃ (q : ReqRun) (o : DrsOp) (rest : List DrsOp) (l : List ReqRun) (s : State) (off : BitVec 32) (bytes : List Byte) (x : StoreOpen),
      mpServes s = true ∧ s.mg.reqs = q :: l ∧ q.left = o :: rest ∧ opDenied s q o = false ∧ o = .storeData off bytes ∧
      s.flask.store = some x ∧ x.session ≠ q.session) ∧
    (∃ (q : ReqRun) (o : DrsOp) (rest : List DrsOp) (l : List ReqRun) (s : State) (off : BitVec 32) (bytes : List Byte) (x : StoreOpen), let bad := bytes.length % 4 ≠ 0 ∨ off.toNat % 4 ≠ 0 ∨ x.total < off.toNat + bytes.length;
      mpServes s = true ∧ s.mg.reqs = q :: l ∧ q.left = o :: rest ∧ opDenied s q o = false ∧ o = .storeData off bytes ∧
      s.flask.store = some x ∧ x.session = q.session ∧ bad) ∧
    (∃ (q : ReqRun) (o : DrsOp) (rest : List DrsOp) (l : List ReqRun) (s : State) (off : BitVec 32) (bytes : List Byte) (fault : Bool) (x : StoreOpen), let fails := fault = true ∨ unitOff s .flask = true;
      let bad := bytes.length % 4 ≠ 0 ∨ off.toNat % 4 ≠ 0 ∨ x.total < off.toNat + bytes.length; mpServes s = true ∧ s.mg.reqs = q :: l ∧
      q.left = o :: rest ∧ opDenied s q o = false ∧ o = .storeData off bytes ∧ s.flask.store = some x ∧ x.session = q.session ∧ ¬bad ∧ fails) ∧
    (∃ (q : ReqRun) (o : DrsOp) (rest : List DrsOp) (l : List ReqRun) (s : State) (off : BitVec 32) (bytes : List Byte) (fault : Bool) (x : StoreOpen), let fails := fault = true ∨ unitOff s .flask = true;
      let bad := bytes.length % 4 ≠ 0 ∨ off.toNat % 4 ≠ 0 ∨ x.total < off.toNat + bytes.length; mpServes s = true ∧ s.mg.reqs = q :: l ∧
      q.left = o :: rest ∧ opDenied s q o = false ∧ o = .storeData off bytes ∧ s.flask.store = some x ∧ x.session = q.session ∧ ¬bad ∧
      ¬fails) ∧
    (∃ (q : ReqRun) (o : DrsOp) (rest : List DrsOp) (l : List ReqRun) (s : State), mpServes s = true ∧ s.mg.reqs = q :: l ∧
      q.left = o :: rest ∧ opDenied s q o = false ∧ o = .storeClose ∧ s.flask.store = none) ∧
    (∃ (q : ReqRun) (o : DrsOp) (rest : List DrsOp) (l : List ReqRun) (s : State) (x : StoreOpen), mpServes s = true ∧ s.mg.reqs = q :: l ∧
      q.left = o :: rest ∧ opDenied s q o = false ∧ o = .storeClose ∧ s.flask.store = some x ∧ x.session ≠ q.session) ∧
    (∃ (q : ReqRun) (o : DrsOp) (rest : List DrsOp) (l : List ReqRun) (s : State) (fault : Bool) (x : StoreOpen), let fails := fault = true ∨ unitOff s .flask = true;
      mpServes s = true ∧ s.mg.reqs = q :: l ∧ q.left = o :: rest ∧ opDenied s q o = false ∧ o = .storeClose ∧ s.flask.store = some x ∧
      x.session = q.session ∧ fails) ∧
    (∃ (q : ReqRun) (o : DrsOp) (rest : List DrsOp) (l : List ReqRun) (s : State) (sig : Bool) (fault : Bool) (x : StoreOpen), let fails := fault = true ∨ unitOff s .flask = true;
      let img := (bankOf s x.cfgArea x.bankB).image.take x.total;
      let good := x.cfgArea = true ∨ (sig = true ∧ prologueGood img x.total = true ∧ minSvn s ≤ imageSvn img); mpServes s = true ∧
      s.mg.reqs = q :: l ∧ q.left = o :: rest ∧ opDenied s q o = false ∧ o = .storeClose ∧ s.flask.store = some x ∧ x.session = q.session ∧
      ¬fails ∧ ¬good) ∧
    (∃ (q : ReqRun) (o : DrsOp) (rest : List DrsOp) (l : List ReqRun) (s : State) (sig : Bool) (fault : Bool) (x : StoreOpen), let fails := fault = true ∨ unitOff s .flask = true;
      let img := (bankOf s x.cfgArea x.bankB).image.take x.total;
      let good := x.cfgArea = true ∨ (sig = true ∧ prologueGood img x.total = true ∧ minSvn s ≤ imageSvn img); mpServes s = true ∧
      s.mg.reqs = q :: l ∧ q.left = o :: rest ∧ opDenied s q o = false ∧ o = .storeClose ∧ s.flask.store = some x ∧ x.session = q.session ∧
      ¬fails ∧ good) ∧
    (∃ (q : ReqRun) (o : DrsOp) (rest : List DrsOp) (l : List ReqRun) (s : State), mpServes s = true ∧ s.mg.reqs = q :: l ∧
      q.left = o :: rest ∧ opDenied s q o = false ∧ o = .storeAbort ∧ s.flask.store = none) ∧
    (∃ (q : ReqRun) (o : DrsOp) (rest : List DrsOp) (l : List ReqRun) (s : State) (x : StoreOpen), mpServes s = true ∧ s.mg.reqs = q :: l ∧
      q.left = o :: rest ∧ opDenied s q o = false ∧ o = .storeAbort ∧ s.flask.store = some x ∧ x.session ≠ q.session) ∧
    (∃ (q : ReqRun) (o : DrsOp) (rest : List DrsOp) (l : List ReqRun) (s : State) (x : StoreOpen), mpServes s = true ∧ s.mg.reqs = q :: l ∧
      q.left = o :: rest ∧ opDenied s q o = false ∧ o = .storeAbort ∧ s.flask.store = some x ∧ x.session = q.session) ∧
    (∃ (q : ReqRun) (o : DrsOp) (rest : List DrsOp) (l : List ReqRun) (s : State), mpServes s = true ∧ s.mg.reqs = q :: l ∧
      q.left = o :: rest ∧ opDenied s q o = false ∧ o = .cfgSave ∧ s.flask.store ≠ none) ∧
    (∃ (q : ReqRun) (o : DrsOp) (rest : List DrsOp) (l : List ReqRun) (s : State) (fault : Bool), let fails := fault = true ∨ unitOff s .flask = true;
      mpServes s = true ∧ s.mg.reqs = q :: l ∧ q.left = o :: rest ∧ opDenied s q o = false ∧ o = .cfgSave ∧ s.flask.store = none ∧ fails) ∧
    (∃ (q : ReqRun) (o : DrsOp) (rest : List DrsOp) (l : List ReqRun) (s : State) (fault : Bool), let fails := fault = true ∨ unitOff s .flask = true;
      mpServes s = true ∧ s.mg.reqs = q :: l ∧ q.left = o :: rest ∧ opDenied s q o = false ∧ o = .cfgSave ∧ s.flask.store = none ∧ ¬fails) :=
  ⟨⟨drs0 [], ring0 [(mpBase, Reg.Mp.MP_STATE, 2)], by decide⟩,
    ⟨drs0 [], mg0 [] [], by decide⟩,
    ⟨{ drs0 (msg0 7) with tagGood := false }, sess0, mg0 [sess0] [], by decide⟩,
    ⟨{ drs0 (msg0 7) with seq := 2 ^ 40 }, sess0, mg0 [sess0] [], by decide⟩,
    ⟨drs0 (msg0 7), sess0, mg0 [sess0] [rq [.cfgSave] none 0], by intros; decide⟩,
    ⟨drs0 (msg0 7), sess0, mg0 [sess0] [], by intros; decide⟩,
    ⟨drs0 (msg0 7), { sess0 with last := some (7, [1]) }, mg0 [({ sess0 with last := some (7, [1]) })] [], 7, [1], by intros; decide⟩,
    ⟨drs0 (msg0 7), { sess0 with last := some (6, [1]) }, mg0 [({ sess0 with last := some (6, [1]) })] [], 6, [1], by intros; decide⟩,
    ⟨drs0 (msg0 7), { sess0 with last := some (8, [1]) }, mg0 [({ sess0 with last := some (8, [1]) })] [], 8, [1], by intros; decide⟩,
    ⟨rq (.regRead 8 1 :: ([.cfgSave])) none 0, .regRead 8 1, [.cfgSave], [], 0, [],
      mg0 [sess0] [(rq (.regRead 8 1 :: ([.cfgSave])) none 0)], by intros; decide⟩,
    ⟨rq (.regRead 8 1 :: ([.cfgSave])) none 0, .regRead 8 1, [.cfgSave], [], 2, [],
      mg0 [sess0] [(rq (.regRead 8 1 :: ([.cfgSave])) none 0)], by intros; decide⟩,
    ⟨rq [] none 0, mg0 [] [(rq [] none 0)], by intros; decide⟩,
    ⟨rq [] none 0, mg0 [sess0] [(rq [] none 0)], sess0, by intros; decide⟩,
    ⟨.fmapi, 48, up, by decide⟩,
    ⟨.fmapi, 48, mg0 [sess0] [(rq [] none 0)], rq [] none 0, [], by decide⟩,
    ⟨.fmapi, 48, mg0 [sess0] [(rq [.cfgSave] none 0)], rq [.cfgSave] none 0, .cfgSave, [], [], by decide⟩,
    ⟨.fmapi, 48, mg0 [] [(rq [.fmapi .backgroundStatus] none 0)], rq [.fmapi .backgroundStatus] none 0, .fmapi .backgroundStatus, [], [],
      by decide⟩,
    ⟨rq [.regRead 8 0] none 0, .regRead 8 0, [], [], front (rq [.regRead 8 0] none 0) none, (8 : BitVec 32), (0 : BitVec 32),
      by intros; decide⟩,
    ⟨rq [.regRead 8 1] none 2290, .regRead 8 1, [], [], front (rq [.regRead 8 1] none 2290) none, (8 : BitVec 32), (1 : BitVec 32),
      by intros; decide⟩,
    ⟨rq [.regRead 0x0FFFE000 2048] none 0, .regRead 0x0FFFE000 2048, [], [], front (rq [.regRead 0x0FFFE000 2048] none 0) none,
      (0x0FFFE000 : BitVec 32), (2048 : BitVec 32), by intros; decide⟩,
    ⟨rq [.regWrite 64 []] none 0, .regWrite 64 [], [], [], front (rq [.regWrite 64 []] none 0) none, (64 : BitVec 32),
      ([] : List (BitVec 32)), by intros; decide⟩,
    ⟨rq [.regWrite (BitVec.ofNat 32 (base .secProc)) [5]] none 0, .regWrite (BitVec.ofNat 32 (base .secProc)) [5], [], [],
      front (rq [.regWrite (BitVec.ofNat 32 (base .secProc)) [5]] none 0) none, ((BitVec.ofNat 32 (base .secProc)) : BitVec 32),
      ([5] : List (BitVec 32)), by intros; decide⟩,
    ⟨rq [.regWrite 65 [5]] none 0, .regWrite 65 [5], [], [], front (rq [.regWrite 65 [5]] none 0) none, (65 : BitVec 32),
      ([5] : List (BitVec 32)), by intros; decide⟩,
    ⟨rq [.regWrite 64 [5]] none 0, .regWrite 64 [5], [], [], front (rq [.regWrite 64 [5]] none 0) none, (64 : BitVec 32),
      ([5] : List (BitVec 32)), by intros; decide⟩,
    ⟨rq [.regRmw 0x0FFFFFFD 15 5] none 0, .regRmw 0x0FFFFFFD 15 5, [], [], front (rq [.regRmw 0x0FFFFFFD 15 5] none 0) none,
      (0x0FFFFFFD : BitVec 32), (15 : BitVec 32), (5 : BitVec 32), by decide⟩,
    ⟨rq [.regRmw 64 15 5] none 2290, .regRmw 64 15 5, [], [], front (rq [.regRmw 64 15 5] none 2290) none, (64 : BitVec 32),
      (15 : BitVec 32), (5 : BitVec 32), by decide⟩,
    ⟨rq [.regRmw (BitVec.ofNat 32 (base .secProc)) 15 5] none 0, .regRmw (BitVec.ofNat 32 (base .secProc)) 15 5, [], [],
      front (rq [.regRmw (BitVec.ofNat 32 (base .secProc)) 15 5] none 0) none, ((BitVec.ofNat 32 (base .secProc)) : BitVec 32),
      (15 : BitVec 32), (5 : BitVec 32), by intros; decide⟩,
    ⟨rq [.regRmw 65 15 5] none 0, .regRmw 65 15 5, [], [], front (rq [.regRmw 65 15 5] none 0) none, (65 : BitVec 32), (15 : BitVec 32),
      (5 : BitVec 32), by intros; decide⟩,
    ⟨rq [.regRmw 64 15 5] none 0, .regRmw 64 15 5, [], [], front (rq [.regRmw 64 15 5] none 0) none, (64 : BitVec 32), (15 : BitVec 32),
      (5 : BitVec 32), by intros; decide⟩,
    ⟨rq [.poll 0 0 0 1000001] none 0, .poll 0 0 0 1000001, [], [], front (rq [.poll 0 0 0 1000001] none 0) none, (0 : BitVec 32),
      (0 : BitVec 32), (0 : BitVec 32), (1000001 : BitVec 32), by intros; decide⟩,
    ⟨rq [.poll 0 0 0 1000000] none 2290, .poll 0 0 0 1000000, [], [], front (rq [.poll 0 0 0 1000000] none 2290) none, (0 : BitVec 32),
      (0 : BitVec 32), (0 : BitVec 32), (1000000 : BitVec 32), by intros; decide⟩,
    ⟨rq [.poll 0 0 0 1000000] none 0, .poll 0 0 0 1000000, [], [], front (rq [.poll 0 0 0 1000000] none 0) none, (0 : BitVec 32),
      (0 : BitVec 32), (0 : BitVec 32), (1000000 : BitVec 32), by intros; decide⟩,
    ⟨rq [.poll 0 0 0 100] (some 0) 0, .poll 0 0 0 100, [], [], front (rq [.poll 0 0 0 100] (some 0) 0) none, (0 : BitVec 32),
      (0 : BitVec 32), (0 : BitVec 32), (100 : BitVec 32), by intros; decide⟩,
    ⟨rq [.poll 0 0 1 100] (some 0) 0, .poll 0 0 1 100, [], [], front (rq [.poll 0 0 1 100] (some 0) 0) none, (0 : BitVec 32),
      (0 : BitVec 32), (1 : BitVec 32), (100 : BitVec 32), by intros; decide⟩,
    ⟨rq [.commit 1 100] none 2290, .commit 1 100, [], [], front (rq [.commit 1 100] none 2290) none, (1 : BitVec 32), (100 : BitVec 32),
      by decide⟩,
    ⟨rq [.commit 1 100] none 0, .commit 1 100, [], [], front (rq [.commit 1 100] none 0) none, (1 : BitVec 32), (100 : BitVec 32),
      by decide⟩,
    ⟨rq [.commit 1 100] (some 0) 0, .commit 1 100, [], [], front (rq [.commit 1 100] (some 0) 0) none, (1 : BitVec 32), (100 : BitVec 32),
      by intros; decide⟩,
    ⟨rq [.commit 1 100] (some 0) 0, .commit 1 100, [], [], (front (rq [.commit 1 100] (some 0) 0) none).wr 0 Reg.Root.CMT_STATUS 1,
      (1 : BitVec 32), (100 : BitVec 32), by intros; decide⟩,
    ⟨rq [.atlasLoad 3 1 true 0 [1]] none 0, .atlasLoad 3 1 true 0 [1], [], [], front (rq [.atlasLoad 3 1 true 0 [1]] none 0) none,
      (1 : Fin 2), true, (0 : BitVec 11), ([1] : List (BitVec 32)), by decide⟩,
    ⟨rq [.atlasRead 3 1 0 1] none 0, .atlasRead 3 1 0 1, [], [], front (rq [.atlasRead 3 1 0 1] none 0) none, (1 : Fin 2),
      (0 : BitVec 11), (1 : BitVec 32), by decide⟩,
    ⟨rq [.atlasLoad 0 1 true 2047 [1]] none 0, .atlasLoad 0 1 true 2047 [1], [], [],
      front (rq [.atlasLoad 0 1 true 2047 [1]] none 0) none, ((0, 2048, 4, 0x10000) : BitVec 2 × Nat × Nat × Nat), (1 : Fin 2), true,
      (2047 : BitVec 11), ([1] : List (BitVec 32)), by intros; decide⟩,
    ⟨rq [.atlasLoad 0 1 false 2047 [1, 2, 3, 4]] none 0, .atlasLoad 0 1 false 2047 [1, 2, 3, 4], [], [],
      (front (rq [.atlasLoad 0 1 false 2047 [1, 2, 3, 4]] none 0) none).wr 0 Reg.Root.INJ_EPOCH_EPOCH 1, ((0, 2048, 4,
      0x10000) : BitVec 2 × Nat × Nat × Nat), (1 : Fin 2), false, (2047 : BitVec 11), ([1, 2, 3, 4] : List (BitVec 32)), by intros; decide⟩,
    ⟨rq [.atlasLoad 0 1 false 2047 [1, 2, 3, 4]] none 0, .atlasLoad 0 1 false 2047 [1, 2, 3, 4], [], [],
      front (rq [.atlasLoad 0 1 false 2047 [1, 2, 3, 4]] none 0) none, ((0, 2048, 4, 0x10000) : BitVec 2 × Nat × Nat × Nat), (1 : Fin 2),
      false, (2047 : BitVec 11), ([1, 2, 3, 4] : List (BitVec 32)), by intros; decide⟩,
    ⟨rq [.atlasRead 2 1 255 2] none 0, .atlasRead 2 1 255 2, [], [], front (rq [.atlasRead 2 1 255 2] none 0) none, ((2, 256, 1,
      0x19000) : BitVec 2 × Nat × Nat × Nat), (1 : Fin 2), (255 : BitVec 11), (2 : BitVec 32), by intros; decide⟩,
    ⟨rq [.atlasRead 2 1 255 1] none 2290, .atlasRead 2 1 255 1, [], [], front (rq [.atlasRead 2 1 255 1] none 2290) none, ((2, 256, 1,
      0x19000) : BitVec 2 × Nat × Nat × Nat), (1 : Fin 2), (255 : BitVec 11), (1 : BitVec 32), by intros; decide⟩,
    ⟨rq [.atlasRead 2 1 255 1] none 0, .atlasRead 2 1 255 1, [], [], front (rq [.atlasRead 2 1 255 1] none 0) none, ((2, 256, 1,
      0x19000) : BitVec 2 × Nat × Nat × Nat), (1 : Fin 2), (255 : BitVec 11), (1 : BitVec 32), by intros; decide⟩,
    ⟨rq [.stream 4 true 1 1] none 0, .stream 4 true 1 1, [], [], front (rq [.stream 4 true 1 1] none 0) none, (4 : BitVec 4), true,
      (1 : BitVec 32), (1 : BitVec 32), by decide⟩,
    ⟨rq [.stream 3 true 10001 1] none 0, .stream 3 true 10001 1, [], [], front (rq [.stream 3 true 10001 1] none 0) none, (3 : BitVec 4),
      true, (10001 : BitVec 32), (1 : BitVec 32), by intros; decide⟩,
    ⟨rq [.stream 3 true 10000 65535] none 0, .stream 3 true 10000 65535, [], [], front (rq [.stream 3 true 10000 65535] none 0) none,
      (3 : BitVec 4), true, (10000 : BitVec 32), (65535 : BitVec 32), by intros; decide⟩,
    ⟨rq [.stream 3 false 0 0] none 0, .stream 3 false 0 0, [], [],
      { front (rq [.stream 3 false 0 0] none 0) none with mg := { (front (rq [.stream 3 false 0 0] none 0) none).mg with streams := [(3, { session := 9, rate := 1, decim := 1, count := 0 })] } },
      (3 : BitVec 4), false, (0 : BitVec 32), (0 : BitVec 32), by intros; decide⟩,
    ⟨rq [.stream 3 false 0 0] none 0, .stream 3 false 0 0, [], [], front (rq [.stream 3 false 0 0] none 0) none, (3 : BitVec 4), false,
      (0 : BitVec 32), (0 : BitVec 32), by intros; decide⟩,
    ⟨rq [.fmapi .backgroundStatus] none 2290, .fmapi .backgroundStatus, [], [], front (rq [.fmapi .backgroundStatus] none 2290) none,
      FmCmd.backgroundStatus, by intros; decide⟩,
    ⟨rq [.fmapi .backgroundStatus] none 0, .fmapi .backgroundStatus, [], [], front (rq [.fmapi .backgroundStatus] none 0) none,
      FmCmd.backgroundStatus, by intros; decide⟩,
    ⟨rq [.storeOpen false 64] none 0, .storeOpen false 64, [], [], front (rq [.storeOpen false 64] none 0) (some (store0 false 9)), false,
      (64 : BitVec 32), by decide⟩,
    ⟨rq [.storeOpen false 6] none 0, .storeOpen false 6, [], [], front (rq [.storeOpen false 6] none 0) none, false, (6 : BitVec 32),
      by decide⟩,
    ⟨rq [.storeOpen false 64] none 0, .storeOpen false 64, [], [], front (rq [.storeOpen false 64] none 0) none, false, (64 : BitVec 32),
      true, by intros; decide⟩,
    ⟨rq [.storeOpen false 64] none 0, .storeOpen false 64, [], [], front (rq [.storeOpen false 64] none 0) none, false, (64 : BitVec 32),
      false, by intros; decide⟩,
    ⟨rq [.storeData 60 [1, 2, 3, 4]] none 0, .storeData 60 [1, 2, 3, 4], [], [], front (rq [.storeData 60 [1, 2, 3, 4]] none 0) none,
      (60 : BitVec 32), ([1, 2, 3, 4] : List Byte), by decide⟩,
    ⟨rq [.storeData 60 [1, 2, 3, 4]] none 0, .storeData 60 [1, 2, 3, 4], [], [], front (rq [.storeData 60 [1, 2, 3,
      4]] none 0) (some (store0 false 8)), (60 : BitVec 32), ([1, 2, 3, 4] : List Byte), store0 false 8, by decide⟩,
    ⟨rq [.storeData 64 [1, 2, 3, 4]] none 0, .storeData 64 [1, 2, 3, 4], [], [], front (rq [.storeData 64 [1, 2, 3,
      4]] none 0) (some (store0 false 9)), (64 : BitVec 32), ([1, 2, 3, 4] : List Byte), store0 false 9, by intros; decide⟩,
    ⟨rq [.storeData 60 [1, 2, 3, 4]] none 0, .storeData 60 [1, 2, 3, 4], [], [], front (rq [.storeData 60 [1, 2, 3,
      4]] none 0) (some (store0 false 9)), (60 : BitVec 32), ([1, 2, 3, 4] : List Byte), true, store0 false 9, by intros; decide⟩,
    ⟨rq [.storeData 60 [1, 2, 3, 4]] none 0, .storeData 60 [1, 2, 3, 4], [], [], front (rq [.storeData 60 [1, 2, 3,
      4]] none 0) (some (store0 false 9)), (60 : BitVec 32), ([1, 2, 3, 4] : List Byte), false, store0 false 9, by intros; decide⟩,
    ⟨rq [.storeClose] none 0, .storeClose, [], [], front (rq [.storeClose] none 0) none, by decide⟩,
    ⟨rq [.storeClose] none 0, .storeClose, [], [], front (rq [.storeClose] none 0) (some (store0 true 8)), store0 true 8, by decide⟩,
    ⟨rq [.storeClose] none 0, .storeClose, [], [], front (rq [.storeClose] none 0) (some (store0 true 9)), true, store0 true 9,
      by intros; decide⟩,
    ⟨rq [.storeClose] none 0, .storeClose, [], [], front (rq [.storeClose] none 0) (some (store0 false 9)), false, false, store0 false 9,
      by intros; decide⟩,
    ⟨rq [.storeClose] none 0, .storeClose, [], [], front (rq [.storeClose] none 0) (some (store0 true 9)), false, false, store0 true 9,
      by intros; decide⟩,
    ⟨rq [.storeAbort] none 0, .storeAbort, [], [], front (rq [.storeAbort] none 0) none, by decide⟩,
    ⟨rq [.storeAbort] none 0, .storeAbort, [], [], front (rq [.storeAbort] none 0) (some (store0 true 8)), store0 true 8, by decide⟩,
    ⟨rq [.storeAbort] none 0, .storeAbort, [], [], front (rq [.storeAbort] none 0) (some (store0 true 9)), store0 true 9, by decide⟩,
    ⟨rq [.cfgSave] none 0, .cfgSave, [], [], front (rq [.cfgSave] none 0) (some (store0 true 9)), by decide⟩,
    ⟨rq [.cfgSave] none 0, .cfgSave, [], [], front (rq [.cfgSave] none 0) none, true, by intros; decide⟩,
    ⟨rq [.cfgSave] none 0, .cfgSave, [], [], front (rq [.cfgSave] none 0) none, false, by intros; decide⟩⟩

theorem witness_PinsAndRailsStartAndResetTheDevice :
    (∃ (s : State), s.boot.aux = false) ∧
    (∃ (s : State), s.boot.aux = true) ∧
    (∃ (s : State), s.boot.pwrGood = true) ∧
    (∃ (s : State), s.boot.pwrGood = false ∧ s.boot.pwrLowAt = none) ∧
    (∃ (s : State) (low : Nat), s.boot.pwrGood = false ∧ s.boot.pwrLowAt = some low) ∧
    (∃ (s : State), s.boot.resetN = false) ∧
    (∃ (s : State), s.boot.resetN = true) ∧
    (∃ (s : State), s.boot.testEn = true) ∧
    (∃ (s : State), s.boot.testEn = false) ∧
    (∃ (s : State), let b := s.boot;
      let all := b.aux = true ∧ b.pwrGood = true ∧ b.resetN = true ∧ b.testEn = false ∧ b.lockedOut = false ∧ b.kind = some .cold; all) ∧
    (∃ (s : State), let b := s.boot;
      let all := b.aux = true ∧ b.pwrGood = true ∧ b.resetN = true ∧ b.testEn = false ∧ b.lockedOut = false ∧ b.kind = some .cold; ¬all) ∧
    (∃ (s : State) (g : Nat), railOn s g = true) ∧
    (∃ (s : State) (g : Nat), railOn s g = false) ∧
    (∃ (s : State), s.boot.resetAt ≠ some s.now) ∧
    (∃ (g : Fin 4) (s : State), railOn s g.val = true ∧ g.val < 3) ∧
    (∃ (g : Fin 4) (s : State), (railOn s g.val = false ∨ g.val = 3)) ∧
    (∃ (g : Fin 4) (s : State), railOn s g.val = true ∧ railGood s g.val = false) ∧
    (∃ (g : Fin 4) (s : State), (railOn s g.val = false ∨ railGood s g.val = true)) ∧
    (∃ (g : Fin 4) (s : State), railGood s g.val = true ∧ railOn s g.val = true) ∧
    (∃ (g : Fin 4) (s : State), railGood s g.val = true ∧ railOn s g.val = false) :=
  ⟨⟨boot (fun b => { b with aux := false }), by decide⟩,
    ⟨up, by decide⟩,
    ⟨up, by decide⟩,
    ⟨State.reset, by decide⟩,
    ⟨boot (fun b => { b with pwrGood := false, pwrLowAt := some 5 }), 5, by decide⟩,
    ⟨boot (fun b => { b with resetN := false }), by decide⟩,
    ⟨up, by decide⟩,
    ⟨boot (fun b => { b with testEn := true }), by decide⟩,
    ⟨up, by decide⟩,
    ⟨boot (fun b => { b with kind := some .cold }), by intros; decide⟩,
    ⟨up, by intros; decide⟩,
    ⟨up, 3, by decide⟩,
    ⟨State.reset, 0, by decide⟩,
    ⟨up, by decide⟩,
    ⟨2, up, by decide⟩,
    ⟨3, up, by decide⟩,
    ⟨3, boot (fun b => { b with railPg := [true, true, true, false] }), by decide⟩,
    ⟨3, up, by decide⟩,
    ⟨3, up, by decide⟩,
    ⟨3, boot (fun b => { b with pwrEn := [true, true, true, false] }), by decide⟩⟩

theorem witness_TheBootTakesItsSteps :
    (∃ (s : State), let up_ := (List.range 4).all (fun g => railOn s g && railGood s g); s.boot.kind = some .cold ∧ s.boot.locked = false ∧
      up_ = true) ∧
    (∃ (s : State), let up_ := (List.range 4).all (fun g => railOn s g && railGood s g);
      (s.boot.kind ≠ some .cold ∨ s.boot.locked = true ∨ up_ = false)) ∧
    (∃ (s : State), (s.boot.kind = none ∨ s.boot.locked = false ∨ s.boot.fwBooted = true ∨ s.rd mpBase Reg.Mp.MP_STATE = 3)) ∧
    (∃ (c : BootChecks) (b : Bool) (s : State), let tested := testBanks s c.sigA c.sigB;
      let told := if [false, true].all (fun a => [false, true].all (bankGood tested a)) then tested else flaskEvent tested 3;
      let t := chooseConfig (measure (measure told 1 Config.bootRomDigest) 4 Config.factoryDigest); s.boot.kind ≠ none ∧
      s.boot.locked = true ∧ s.boot.fwBooted = false ∧ s.rd mpBase Reg.Mp.MP_STATE ≠ 3 ∧ bestBank t false = some b) ∧
    (∃ (c : BootChecks) (s : State), let tested := testBanks s c.sigA c.sigB;
      let told := if [false, true].all (fun a => [false, true].all (bankGood tested a)) then tested else flaskEvent tested 3;
      let t := chooseConfig (measure (measure told 1 Config.bootRomDigest) 4 Config.factoryDigest); s.boot.kind ≠ none ∧
      s.boot.locked = true ∧ s.boot.fwBooted = false ∧ s.rd mpBase Reg.Mp.MP_STATE ≠ 3 ∧ bestBank t false = none ∧ c.sigRecovery = true) ∧
    (∃ (c : BootChecks) (s : State), let tested := testBanks s c.sigA c.sigB;
      let told := if [false, true].all (fun a => [false, true].all (bankGood tested a)) then tested else flaskEvent tested 3;
      let t := chooseConfig (measure (measure told 1 Config.bootRomDigest) 4 Config.factoryDigest); s.boot.kind ≠ none ∧
      s.boot.locked = true ∧ s.boot.fwBooted = false ∧ s.rd mpBase Reg.Mp.MP_STATE ≠ 3 ∧ bestBank t false = none ∧ c.sigRecovery = false) ∧
    (∃ (s : State), bestBank s true = none) ∧
    (∃ (s : State) (b : Bool), bestBank s true = some b) ∧
    (∃ (s : State), (s.boot.fwBooted = false ∨ s.boot.cfgApplied = true)) ∧
    (∃ (s : State), s.boot.fwBooted = true ∧ s.boot.cfgApplied = false) ∧
    (∃ (off : Nat), off % 4 ≠ 0) ∧
    (∃ (st : Fin 6) (s : State), let first := s.boot.cfgApplied = true ∧ s.rd (stackBase st.val) Reg.Stk.STACK_STATE = 0; ¬first) ∧
    (∃ (st : Fin 6) (s : State), let u := s.wr (stackBase st.val) Reg.Stk.STACK_STATE 1;
      let last := stacksReady u = true ∧ s.boot.started = false ∧ s.boot.bctFailed = false ∧ u.rd poolBase Reg.Coh.BCT_STATUS_STATE ≠ 1;
      let first := s.boot.cfgApplied = true ∧ s.rd (stackBase st.val) Reg.Stk.STACK_STATE = 0; first ∧ ¬last) ∧
    (∃ (st : Fin 6) (s : State), let u := s.wr (stackBase st.val) Reg.Stk.STACK_STATE 1;
      let last := stacksReady u = true ∧ s.boot.started = false ∧ s.boot.bctFailed = false ∧ u.rd poolBase Reg.Coh.BCT_STATUS_STATE ≠ 1;
      let first := s.boot.cfgApplied = true ∧ s.rd (stackBase st.val) Reg.Stk.STACK_STATE = 0; first ∧ last ∧
      u.on flaskBase Reg.Flk.BOOT_CFG_BCT_EN = true) ∧
    (∃ (st : Fin 6) (s : State), let u := s.wr (stackBase st.val) Reg.Stk.STACK_STATE 1;
      let last := stacksReady u = true ∧ s.boot.started = false ∧ s.boot.bctFailed = false ∧ u.rd poolBase Reg.Coh.BCT_STATUS_STATE ≠ 1;
      let first := s.boot.cfgApplied = true ∧ s.rd (stackBase st.val) Reg.Stk.STACK_STATE = 0; first ∧ last ∧
      u.on flaskBase Reg.Flk.BOOT_CFG_BCT_EN = false) ∧
    (∃ (s : State), fabricSettled s = true) ∧
    (∃ (s : State), fabricSettled s = false) ∧
    (∃ (r : Route) (s : State), Takes s r (flaskBase + 0x6C) ∧ bankRuns s = false) ∧
    (∃ (r : Route) (s : State), Takes s r (flaskBase + 0x6C) ∧ bankRuns s = true) :=
  ⟨⟨{ State.reset with boot := { State.reset.boot with pwrGood := true, pwrEn := [true, true, true, true], railPg := [true, true, true, true] } },
      by intros; decide⟩,
    ⟨State.reset, by intros; decide⟩,
    ⟨up, by decide⟩,
    ⟨{ sigA := true, sigB := true, sigRecovery := true }, true,
      { cold with regs := [(Reg.Flk.SVN_MIN_SVN.key flaskBase, 1)], flask := { State.reset.flask with fwB := bank0 } }, by intros; decide⟩,
    ⟨{ sigA := true, sigB := true, sigRecovery := true }, cold, by intros; decide⟩,
    ⟨{ sigA := true, sigB := true, sigRecovery := false }, cold, by intros; decide⟩,
    ⟨cold, by decide⟩,
    ⟨reg flaskBase Reg.Flk.BANK_STATUS_CFGB_VALID 1, true, by decide⟩,
    ⟨up, by decide⟩,
    ⟨boot (fun b => { b with cfgApplied := false }), by decide⟩,
    ⟨2, by decide⟩,
    ⟨5, settled, by intros; decide⟩,
    ⟨5, up, by intros; decide⟩,
    ⟨5, lastStack 1, by intros; decide⟩,
    ⟨5, lastStack 0, by intros; decide⟩,
    ⟨settled, by decide⟩,
    ⟨up, by decide⟩,
    ⟨.mp, reg flaskBase Reg.Flk.BANK_STATUS_RECOVERY 1, by unfold Takes; decide⟩,
    ⟨.mp, (reg flaskBase Reg.Flk.SVN_FW_SVN 9).setPort 0 ((up.port 0)), by unfold Takes; decide⟩⟩

theorem witness_FailuresFenceOrStop :
    (∃ (w : BridgePlace) (s : State), isFenced s (bridgeOwner w).1 = true) ∧
    (∃ (w : BridgePlace) (s : State), let o := bridgeOwner w;
      let v := match w with | .mesh _ => s | .pipeline p vc outward => if outward then strikeOutput s p.val vc.val stompBridge else strikeInput s (inKey p.val vc.val) stompBridge id;
      let ts := v.now :: (lookD v.err.bridge (base o.1) []).filter (fun t => v.now < t + 1000000); isFenced s (bridgeOwner w).1 = false ∧
      ts.length < 16) ∧
    (∃ (w : BridgePlace) (s : State), let o := bridgeOwner w;
      let v := match w with | .mesh _ => s | .pipeline p vc outward => if outward then strikeOutput s p.val vc.val stompBridge else strikeInput s (inKey p.val vc.val) stompBridge id;
      let ts := v.now :: (lookD v.err.bridge (base o.1) []).filter (fun t => v.now < t + 1000000); isFenced s (bridgeOwner w).1 = false ∧
      16 ≤ ts.length) ∧
    (∃ (u : UnitId) (s : State), (legIsland u ≠ 0xFF ∨ unitOff s u = true)) ∧
    (∃ (u : UnitId) (s : State), legIsland u = 0xFF ∧ unitOff s u = false) ∧
    (∃ (u : UnitId) (s : State), unitOff s u = true) ∧
    (∃ (u : UnitId) (off : BitVec 28) (s : State), let place := unitAt off.toNat = u ∧ entryPlace off.toNat = true; unitOff s u = false ∧
      place) ∧
    (∃ (u : UnitId) (off : BitVec 28) (s : State), let place := unitAt off.toNat = u ∧ entryPlace off.toNat = true; unitOff s u = false ∧
      ¬place) ∧
    (∃ (u : UnitId), fatalUnit u = true) ∧
    (∃ (u : UnitId), fatalUnit u = false) ∧
    (∃ (s : State), fatalStopped s = true) ∧
    (∃ (i : Nat) (s : State), i ∈ s.boot.stopped) ∧
    (∃ (i : Nat) (s : State), i ∉ s.boot.stopped ∧ (i = 54 ∨ i = 56)) ∧
    (∃ (i : Nat) (s : State), i ∉ s.boot.stopped ∧ (i = 57 ∨ i = 59)) ∧
    (∃ (i : Nat) (s : State), i ∉ s.boot.stopped ∧ i = 58) ∧
    (∃ (s : State), s.boot.started = true) ∧
    (∃ (s : State), s.boot.started = false) :=
  ⟨⟨.mesh 15, { up with setup := { up.setup with fenced := [.hostMacro 15] } }, by decide⟩,
    ⟨.pipeline 95 15 true, up, by intros; decide⟩,
    ⟨.mesh 15, { up with now := 900000, err := { up.err with bridge := [(base (.hostMacro 15), List.replicate 15 800000)] } },
      by intros; decide⟩,
    ⟨.port 95, up, by decide⟩,
    ⟨.switchCore, up, by decide⟩,
    ⟨.atlas, { up with setup := { up.setup with fenced := [.atlas] } }, by decide⟩,
    ⟨.atlas, BitVec.ofNat 28 (atBase + 0x2001C), up, by intros; decide⟩,
    ⟨.atlas, BitVec.ofNat 28 (atBase + 0x8), up, by intros; decide⟩,
    ⟨.switchCore, by decide⟩,
    ⟨.tile 47, by decide⟩,
    ⟨reg 0 Reg.Err.ERR_STATUS_FATAL 1, by decide⟩,
    ⟨57, { up with boot := { up.boot with stopped := [57] } }, by decide⟩,
    ⟨56, up, by decide⟩,
    ⟨59, up, by decide⟩,
    ⟨58, up, by decide⟩,
    ⟨{ up with boot := { up.boot with stopped := [18, 23, 57] } }, by decide⟩,
    ⟨{ up with boot := { up.boot with started := false, stopped := [18, 23, 57] } }, by decide⟩⟩

theorem witness_ErrorsClearAndTemperatureActs :
    (∃ (r : Route) (s : State) (u : UnitId), let hit := allUnits.find? (fun u => base u == s.rd 0 Reg.Err.ERR_CLR_WIN); Takes s r 0x104 ∧
      hit = some u) ∧
    (∃ (r : Route) (s : State), let hit := allUnits.find? (fun u => base u == s.rd 0 Reg.Err.ERR_CLR_WIN); Takes s r 0x104 ∧ hit = none) ∧
    (∃ (us : List UnitId) (u : UnitId) (s : State), u ∈ us ∧ isFenced s u = false) ∧
    (∃ (us : List UnitId) (b : Nat) (s : State), us.all (fun v => base v != b || isFenced s v) = true) ∧
    (∃ (s : State), s.boot.aux = false) ∧
    (∃ (s : State), s.boot.aux = true ∧ s.boot.hardTrip = true) ∧
    (∃ (t : SensorReadings) (s : State), s.boot.aux = true ∧ s.boot.hardTrip = false ∧ (hottest t).1 < 1200) ∧
    (∃ (t : SensorReadings) (s : State), s.boot.aux = true ∧ s.boot.hardTrip = false ∧ 1200 ≤ (hottest t).1) ∧
    (∃ (t : SensorReadings) (x : BitVec 16), x ∈ t) ∧
    (∃ (tj : Nat) (s : State), let warn := 10 * s.rd 0 Reg.Hk.THERM_WARN_C; tj < 10 * s.rd 0 Reg.Hk.THERM_TRIP_C ∧ warn ≤ tj ∧
      s.boot.thermAsserted = false) ∧
    (∃ (tj : Nat) (s : State), let warn := 10 * s.rd 0 Reg.Hk.THERM_WARN_C; tj < 10 * s.rd 0 Reg.Hk.THERM_TRIP_C ∧ warn ≤ tj ∧
      s.boot.thermAsserted = true) ∧
    (∃ (tj : Nat) (s : State), let warn := 10 * s.rd 0 Reg.Hk.THERM_WARN_C; tj < 10 * s.rd 0 Reg.Hk.THERM_TRIP_C ∧ tj + 30 < warn ∧
      s.boot.thermAsserted = true ∧ s.boot.thermTripped = false) ∧
    (∃ (tj : Nat) (s : State), let warn := 10 * s.rd 0 Reg.Hk.THERM_WARN_C; tj < 10 * s.rd 0 Reg.Hk.THERM_TRIP_C ∧ tj < warn ∧
      (warn ≤ tj + 30 ∨ s.boot.thermAsserted = false ∨ s.boot.thermTripped = true)) ∧
    (∃ (tj : Nat) (s : State), 10 * s.rd 0 Reg.Hk.THERM_TRIP_C ≤ tj ∧ s.boot.thermAsserted = true ∧ s.boot.thermTripped = true) ∧
    (∃ (tj : Nat) (s : State), 10 * s.rd 0 Reg.Hk.THERM_TRIP_C ≤ tj ∧ s.boot.thermAsserted = true ∧ s.boot.thermTripped = false ∧
      10 * s.rd 0 Reg.Hk.THERM_WARN_C ≤ tj) ∧
    (∃ (tj : Nat) (s : State), 10 * s.rd 0 Reg.Hk.THERM_TRIP_C ≤ tj ∧ 10 * s.rd 0 Reg.Hk.THERM_WARN_C ≤ tj ∧ s.boot.thermAsserted = false) ∧
    (∃ (r : Route) (s : State), Takes s r 0x18C) :=
  ⟨⟨.mp, { regs [(0, Reg.Err.ERR_CLR_WIN, base .atlas)] with err := { up.err with sev := [(base .atlas, 2)] } }, UnitId.atlas,
      by unfold Takes; intros; decide⟩,
    ⟨.mp, regs [(0, Reg.Err.ERR_CLR_WIN, 1)], by unfold Takes; intros; decide⟩,
    ⟨[.atlas], .atlas, { up with err := { up.err with sev := [(base .atlas, 2)] } }, by decide⟩,
    ⟨[.atlas], base .atlas, { up with setup := { up.setup with fenced := [.atlas] }, err := { up.err with sev := [(base .atlas, 2)] } },
      by decide⟩,
    ⟨boot (fun b => { b with aux := false }), by decide⟩,
    ⟨boot (fun b => { b with hardTrip := true }), by decide⟩,
    ⟨[250, 300], up, by decide⟩,
    ⟨[250, 1200], up, by decide⟩,
    ⟨[250, 300], 300, by decide⟩,
    ⟨1000, up, by intros; decide⟩,
    ⟨1000, boot (fun b => { b with thermAsserted := true }), by intros; decide⟩,
    ⟨500, boot (fun b => { b with thermAsserted := true }), by intros; decide⟩,
    ⟨500, up, by intros; decide⟩,
    ⟨1150, boot (fun b => { b with thermAsserted := true, thermTripped := true }), by decide⟩,
    ⟨1150, boot (fun b => { b with thermAsserted := true }), by decide⟩,
    ⟨1150, up, by decide⟩,
    ⟨.mp, regs [(0, Reg.Hk.TJ_NOW, 40), (0, Reg.Hk.TJ_PEAK, 90)], by unfold Takes; decide⟩⟩

theorem witness_StepRunsTheFrontCommand :
    (∃ (c : Instr) (rest : List Instr) (s : State), s.pending = c :: rest) ∧
    (∃ (s : State), s.pending = []) :=
  ⟨⟨.islandLock, [.islandLock], { up with pending := [.islandLock, .islandLock] }, by decide⟩,
    ⟨up, by decide⟩⟩

theorem witness_EveryStepKeepsTimeOrderAndWhatWasEmitted :
    ∃ (s : State) (t : State), step s = .next t :=
  ⟨up, after (step up), rfl⟩

theorem witness_EveryStepKeepsThePoolMemorysForm :
    ∃ (s : State) (t : State), PoolForm s ∧ step s = .next t :=
  ⟨up, after (step up), by unfold PoolForm; decide, rfl⟩

theorem witness_ResetStateIsTheColdState :
    ∃ (i : Nat), i < 48 :=
  ⟨(47 : Nat), by decide⟩

theorem witness_FieldsAndPoolMemoryHoldWhatWasWritten :
    (∃ (b : Nat) (c : Nat) (f : Field) (g : Field), f.key b ≠ g.key c) ∧
    (∃ (a : Nat) (c : Nat), c ≠ a) ∧
    (∃ (m : List Host.Cell), Memory.wf m = true) :=
  ⟨⟨0, 0, Reg.Hk.THERM_WARN_C, Reg.Hk.THERM_TRIP_C, by decide⟩,
    ⟨3, 4, by decide⟩,
    ⟨[], by decide⟩⟩

end Sys2Proof.Tests
end

section
/-!
PROOFS. Register writes (R5, R37, R38, R59, R309): what a write does to a word that holds one RW field, to a queue BAR's CMD_ARG, and
as 8 bytes.
-/
namespace Sys2Proof.Machine

/-! ### The writes that the device takes -/

/-- A whole-word write that the device takes goes on to its word (R36, R38). -/
theorem busWrite_of_takes {s : State} {r : Route} {off : Nat} (v : BitVec 32) (hoff : off < 2 ^ 28) (h : Takes s r off) :
    busWrite s r (wordWrite off v) = takeWrite s r off v := by
  obtain ⟨htrip, hfree⟩ := h
  have hmod : off % 2 ^ 28 = off := Nat.mod_eq_of_lt hoff
  simp only [busWrite, wordWrite, BitVec.toNat_ofNat, hmod, htrip, Bool.false_eq_true, if_false]
  rw [show (15 : BitVec 4).toNat = 15 from rfl, hfree]

/-! ### One RW field in a word (R5, R59) -/

/-- An RW field that has its word to itself and that no state locks: a value in its range is held at once, any other is a
configuration error of its unit. -/
theorem rwPut_oneField (s : State) (r : Route) (u : UnitId) (w v : Nat) (f : Field) (hfields : fieldsAt u w = [f])
    (hacc : f.acc = .rw) (hlock : lockOf s u (keyWord u (keyAt u w f)) f = .open_) (hgood : wordBad s u w v = false)
    (hsel : isSelection u (keyAt u w f) = false) :
    rwPut s r u [(w, v)] = if f.takes (v / 2 ^ f.lo % 2 ^ f.width) then
      { s with regs := put s.regs (keyAt u w f) (v / 2 ^ f.lo % 2 ^ f.width) } else configError s u := by
  by_cases htakes : f.takes (v / 2 ^ f.lo % 2 ^ f.width) = true <;>
    simp [rwPut, wordsFields, fieldWrites, inRange, *]

/-- A word with one field has no field of another access code. -/
theorem wordsFields_oneField_other (u : UnitId) (w v : Nat) (f : Field) (acc : Access) (hfields : fieldsAt u w = [f])
    (hacc : f.acc ≠ acc) : wordsFields u [(w, v)] acc = [] := by
  simp [wordsFields, fieldWrites, hfields, hacc]

/-- A write of one word in which an RW field stands alone is that field's write and what follows it. -/
theorem putWords_oneField (s : State) (r : Route) (u : UnitId) (w v : Nat) (f : Field) (hfields : fieldsAt u w = [f])
    (hacc : f.acc = .rw) : putWords s r u [(w, v)] = rwFollow s (rwPut s r u [(w, v)]) u w := by
  have hst := wordsFields_oneField_other u w v f .st hfields (by simp [hacc])
  have hfp := wordsFields_oneField_other u w v f .fp hfields (by simp [hacc])
  simp [putWords, stPut, fpPut, hst, hfp]

/-! ### The word of ERR_EVT_MIN_SEV -/

theorem fieldsAt_root_minSev : fieldsAt .root 0x110 = [Reg.Err.ERR_EVT_MIN_SEV] := by decide

/-- Housekeeping has no field in the word, so the root's own clock is all that it needs. -/
theorem wordClock_root_minSev (s : State) : wordClock s .root 0x110 = clockRuns s .root := by
  have hhk : Reg.Hk.all.any (fun f => f.hits 0x110) = false := by decide
  simp [wordClock, hhk]

/-- The register table's range of ERR_EVT_MIN_SEV: 1 to 3 of its two bits (R612). -/
theorem minSev_takes (n : Nat) : Reg.Err.ERR_EVT_MIN_SEV.takes (n % 4) = decide (n % 4 ≠ 0) := by
  have hlt : n % 4 < 4 := Nat.mod_lt _ (by decide)
  generalize n % 4 = m at hlt ⊢
  revert m
  decide

theorem rwPut_minSev (s : State) (r : Route) (v : Nat) :
    rwPut s r .root [(0x110, v)] = if v % 4 ≠ 0 then s.wr 0 Reg.Err.ERR_EVT_MIN_SEV v else configError s .root := by
  have h := rwPut_oneField s r .root 0x110 v _ fieldsAt_root_minSev rfl rfl rfl (by decide)
  have hval : v / 2 ^ Reg.Err.ERR_EVT_MIN_SEV.lo % 2 ^ Reg.Err.ERR_EVT_MIN_SEV.width = v % 4 := by
    simp [Reg.Err.ERR_EVT_MIN_SEV, fld, Field.rng, Field.fromCfg]
  rw [hval, minSev_takes] at h
  simp only [decide_eq_true_eq] at h
  exact h

/-- The root gives the word no meaning but its field's. -/
theorem takeWrite_minSev (s : State) (r : Route) (v : BitVec 32) (hclock : clockRuns s .root = true) :
    takeWrite s r 0x110 v =
      if v.toNat % 4 ≠ 0 then s.wr 0 Reg.Err.ERR_EVT_MIN_SEV v.toNat else configError s .root := by
  have hunit : unitAt 0x110 = .root := by decide
  have hlow : isReg64 .root 0x110 = false := by decide
  have hhigh : isReg64 .root (0x110 - 4) = false := by decide
  have hput := putWords_oneField s r .root 0x110 v.toNat _ fieldsAt_root_minSev rfl
  have hclock' := (wordClock_root_minSev s).trans hclock
  rw [← rwPut_minSev s r v.toNat]
  simp only [takeWrite, hunit, base, Nat.sub_zero, hclock', hlow, hhigh, hput]
  rfl

/-- REGISTER_WRITE of ERR_EVT_MIN_SEV where the device takes the write and the root's clock runs. -/
theorem exec_registerWrite_minSev {s : State} {r : Route} (v : BitVec 32) (htakes : Takes s r 0x110)
    (hclock : clockRuns s .root = true) :
    exec (.registerWrite (.setup r (wordWrite 0x110 v))) s =
      .next (if v.toNat % 4 ≠ 0 then s.wr 0 Reg.Err.ERR_EVT_MIN_SEV v.toNat else configError s .root) :=
  congrArg Host.Outcome.next ((busWrite_of_takes v (by decide) htakes).trans (takeWrite_minSev s r v hclock))

/-! ### Queue BARs (R309) -/

/-- Outside a fatal stop and a hard trip, a ready function's CMD_ARG takes the whole word. -/
theorem queueWrite_cmdArg (s : State) (f : Fin 1024) (v : BitVec 32) (hfatal : fatalStopped s = false)
    (htrip : s.boot.hardTrip = false) (hready : fnReady s f.val = true) :
    queueWrite s f 0x24 v 15 = s.wr (bar2 f.val) Reg.Bar2.CMD_ARG v.toNat := by
  simp [queueWrite, queueReg, hfatal, htrip, hready]

/-! ### Writes of 8 bytes (R37, R38) -/

/-- A write of 8 bytes that is served, aligned and whole is its two words, the lower offset first. -/
theorem wideWrite_two_words (s : State) (r : Route) (off : BitVec 28) (v : BitVec 64) (htrip : s.boot.hardTrip = false)
    (hserved : routeServed s r = true) (halign : off.toNat % 8 = 0) :
    wideWrite s r off v 255 = busWrite (busWrite s r (wordWrite off.toNat (v.setWidth 32))) r
      (wordWrite (off.toNat + 4) ((v >>> 32).setWidth 32)) := by
  have hlow : BitVec.ofNat 28 off.toNat = off := by simp
  have hhigh : BitVec.ofNat 28 (off.toNat + 4) = off + 4 := by rw [BitVec.ofNat_add, hlow]; rfl
  simp [wideWrite, wordWrite, htrip, hserved, halign, hlow, hhigh]

theorem wideWrite_misaligned (s : State) (r : Route) (off : BitVec 28) (v : BitVec 64) (e : BitVec 8)
    (htrip : s.boot.hardTrip = false) (hserved : routeServed s r = true) (hform : off.toNat % 8 ≠ 0 ∨ e ≠ 255) :
    wideWrite s r off v e = accViol s r .misaligned off.toNat := by
  have hform' : off.toNat % 8 ≠ 0 ∨ e.toNat ≠ 255 :=
    hform.imp id (fun he h => he (BitVec.eq_of_toNat_eq h))
  simp only [wideWrite, htrip, hserved, if_pos hform', Bool.not_true, Bool.false_eq_true, if_false]

theorem wideWrite_denied (s : State) (r : Route) (off : BitVec 28) (v : BitVec 64) (e : BitVec 8)
    (htrip : s.boot.hardTrip = false) (hserved : routeServed s r = false) :
    wideWrite s r off v e = accViol s r .denied off.toNat := by
  simp [wideWrite, htrip, hserved]

/-- Writing one field leaves the rest of the state. -/
theorem onlyFields_wr (s : State) (b : Nat) (f : Field) (v : Nat) : OnlyFields [f.key b] s (s.wr b f v) :=
  ⟨by simp, fun k hk => State.look_wr_other s b f v k (by simpa using hk)⟩

/-- Settles O5. A write in the range of ERR_EVT_MIN_SEV or of a queue's CMD_ARG is one field's write, a value outside the range only
the configuration error, and an 8-byte write is two words or one recorded violation, by the lemma of each. -/
theorem registerWritesReachTheirFields : Obligations.RegisterWritesReachTheirFields := by
  unfold Obligations.RegisterWritesReachTheirFields
  refine ⟨?inRange, ?outOfRange, ?queueBar, ?twoWords, ?misaligned, ?denied⟩
  case inRange =>
    intro r v s htakes hclock hv
    refine ⟨s.wr 0 Reg.Err.ERR_EVT_MIN_SEV v.toNat, ?_, State.rd_wr_same .., onlyFields_wr ..⟩
    rw [exec_registerWrite_minSev v htakes hclock, if_pos hv]
  case outOfRange =>
    intro r v s htakes hclock hv
    rw [exec_registerWrite_minSev v htakes hclock, if_neg (not_not_intro hv)]
  case queueBar =>
    intro f v s hfatal htrip hready
    exact congrArg Host.Outcome.next (queueWrite_cmdArg s f v hfatal htrip hready)
  case twoWords =>
    intro r off v s htrip hserved halign
    exact congrArg Host.Outcome.next (wideWrite_two_words s r off v htrip hserved halign)
  case misaligned =>
    intro r off v e s htrip hserved hform
    exact congrArg Host.Outcome.next (wideWrite_misaligned s r off v e htrip hserved hform)
  case denied =>
    intro r off v e s htrip hserved
    exact congrArg Host.Outcome.next (wideWrite_denied s r off v e htrip hserved)

end Sys2Proof.Machine
end

section
/-!
PROOFS. The switch core's registers (R162, R175, R177 to R181, R209): the RED averages at the idle tick, what a buffer error takes
out and reports, the clear actions, the multicast table's latch, and INJ_EPOCH.
-/
namespace Sys2Proof.Machine

/-! ### What error records and events touch (R302, R562, R603 to R605) -/

/-- The state without its registers, error state, EVENTS stream and functions: all that an error record or an event can touch. -/
def sansReports (s : State) : State :=
  { s with regs := [], err := State.reset.err, events := State.reset.events, fns := [] }

@[simp] theorem sansReports_wr (s : State) (b : Nat) (f : Field) (v : Nat) : sansReports (s.wr b f v) = sansReports s := rfl
@[simp] theorem sansReports_wr64 (s : State) (b : Nat) (lo hi : Field) (v : Nat) :
    sansReports (s.wr64 b lo hi v) = sansReports s := rfl
@[simp] theorem sansReports_bump (s : State) (b : Nat) (f : Field) : sansReports (s.bump b f) = sansReports s := rfl
@[simp] theorem sansReports_setFn (s : State) (f : Nat) (x : FnSt) : sansReports (s.setFn f x) = sansReports s := rfl
@[simp] theorem sansReports_setErr (s : State) (x : ErrSt) : sansReports { s with err := x } = sansReports s := rfl
@[simp] theorem sansReports_setEvents (s : State) (x : EvStream) : sansReports { s with events := x } = sansReports s := rfl

theorem sansReports_of_regsOnly {s t : State} (h : RegsOnly s t) : sansReports t = sansReports s :=
  (congrArg sansReports h : sansReports { t with regs := s.regs } = _)

@[simp] theorem sansReports_cnt1 (s : State) (u : UnitId) (code : Nat) : sansReports (cnt1 s u code) = sansReports s :=
  sansReports_of_regsOnly (countEv_regsOnly s u _)

@[simp] theorem sansReports_raiseEvent (s : State) (f code : Nat) (d : List Nat) :
    sansReports (raiseEvent s f code d) = sansReports s := by
  simp only [raiseEvent]
  split
  · split <;> simp
  · rfl

@[simp] theorem sansReports_streamEvent (s : State) (code : Nat) (d : List Nat) :
    sansReports (streamEvent s code d) = sansReports s := by
  simp only [streamEvent]
  split <;> simp

@[simp] theorem sansReports_errSummary (s : State) (e : ErrRec) : sansReports (errSummary s e) = sansReports s := rfl

@[simp] theorem sansReports_errLogWrite (s : State) (e : ErrRec) : sansReports (errLogWrite s e) = sansReports s := by
  simp only [errLogWrite]
  split <;> simp

@[simp] theorem sansReports_errReport (s : State) (e : ErrRec) : sansReports (errReport s e) = sansReports s := by
  simp only [errReport]
  split
  · rw [foldl_keeps sansReports _ (fun t f => sansReports_raiseEvent t f _ _)]
    simp
  · simp

/-- Recording an error touches nothing but registers, error state, the EVENTS stream and the functions' event queues. -/
@[simp] theorem sansReports_recordError (s : State) (e : ErrRec) : sansReports (recordError s e) = sansReports s := by
  simp [recordError, apply_ite sansReports]

@[simp] theorem recordError_switch (s : State) (e : ErrRec) : (recordError s e).switch = s.switch :=
  (congrArg State.switch (sansReports_recordError s e) : (sansReports (recordError s e)).switch = (sansReports s).switch)

/-! ### RED averages (R162) -/

/-- The state without its registers and RED averages: all that an update of an average touches. -/
def sansAverages (s : State) : State := { s with regs := [], switch := { s.switch with avg := [] } }

/-- What the idle tick does at one queue: the average moves where no packet has arrived. -/
def redIdle (seen : List Nat) (s : State) (q : Nat) : State := if seen.contains q then s else redUpdate s q

theorem sansAverages_redUpdate (s : State) (q : Nat) : sansAverages (redUpdate s q) = sansAverages s := rfl

theorem look_avg_redUpdate (s : State) (q p : Nat) : look (redUpdate s q).switch.avg p =
    if p = q then some (redStep (lookD s.switch.avg q 0) (64 * depthOf s q) (qrd s Reg.Q.RED_W q))
    else look s.switch.avg p := by
  by_cases h : p = q
  · simp [redUpdate, State.wri, h]
  · simp [redUpdate, State.wri, h, look_put_other]

/-- An average's register is in another word than any queue's weight. -/
theorem redWeight_redUpdate (s : State) (q p : Nat) : qrd (redUpdate s q) Reg.Q.RED_W p = qrd s Reg.Q.RED_W p := by
  refine State.rd_wr_other _ _ _ _ _ _ ?_
  simp only [Field.key, Reg.Q.RED_W, Reg.Q.AVG_BYTES, fld, Field.arr, Field.rng, Field.fromCfg]
  simp only [if_true]
  omega

theorem sansAverages_redIdle (seen : List Nat) (s : State) (q : Nat) : sansAverages (redIdle seen s q) = sansAverages s := by
  simp only [redIdle]
  split <;> rfl

theorem redWeight_redIdle (seen : List Nat) (s : State) (q p : Nat) :
    qrd (redIdle seen s q) Reg.Q.RED_W p = qrd s Reg.Q.RED_W p := by
  simp only [redIdle]
  split
  · rfl
  · exact redWeight_redUpdate s q p

theorem look_avg_redIdle (seen : List Nat) (s : State) (q p : Nat) : look (redIdle seen s q).switch.avg p =
    if p = q ∧ q ∉ seen then some (redStep (lookD s.switch.avg q 0) (64 * depthOf s q) (qrd s Reg.Q.RED_W q))
    else look s.switch.avg p := by
  by_cases h : q ∈ seen <;> simp [redIdle, h, look_avg_redUpdate]

/-- Queue depths are not among what an average's update touches. -/
theorem depthOf_of_sansAverages {s t : State} (h : sansAverages t = sansAverages s) (q : Nat) : depthOf t q = depthOf s q :=
  (congrArg (depthOf · q) h : depthOf (sansAverages t) q = depthOf (sansAverages s) q)

/-- The first `n` queues of the tick: each that saw no arrival has moved from its own average, depth and weight. -/
theorem look_avg_redIdle_foldl (seen : List Nat) (s : State) (n p : Nat) :
    look ((List.range n).foldl (redIdle seen) s).switch.avg p =
      if p < n ∧ p ∉ seen then some (redStep (lookD s.switch.avg p 0) (64 * depthOf s p) (qrd s Reg.Q.RED_W p))
      else look s.switch.avg p := by
  induction n generalizing p with
  | zero => simp
  | succ n ih =>
    have hdepth := depthOf_of_sansAverages
      (foldl_keeps sansAverages (redIdle seen) (sansAverages_redIdle seen) (List.range n) s) n
    have hweight := foldl_keeps (qrd · Reg.Q.RED_W n) (redIdle seen) (fun t q => redWeight_redIdle seen t q n) (List.range n) s
    rw [List.range_succ, List.foldl_append, List.foldl_cons, List.foldl_nil, look_avg_redIdle]
    by_cases hp : p = n
    · subst hp
      have hown : lookD _ p 0 = lookD s.switch.avg p 0 := congrArg (Option.getD · 0) ((ih p).trans (if_neg (by simp)))
      by_cases hseen : p ∈ seen <;> simp [hseen, ih, hown, hdepth, hweight]
    · have hlt : p < n + 1 ↔ p < n := by omega
      simp [hp, hlt, ih]

/-- RED_AVG_IDLE_TICK moves the averages of the queues without an arrival, and begins the next interval. -/
theorem redAvgIdleTick_ends (s : State) : Ends (exec .redAvgIdleTick s) (fun t =>
    (∀ q, q < 384 → q ∉ s.switch.redSeen →
      lookD t.switch.avg q 0 = redStep (lookD s.switch.avg q 0) (64 * depthOf s q) (qrd s Reg.Q.RED_W q)) ∧
    (∀ q, q ∈ s.switch.redSeen → look t.switch.avg q = look s.switch.avg q) ∧ t.switch.redSeen = [] ∧
    t.switch.pool = s.switch.pool ∧ { t with regs := s.regs, switch := s.switch } = s) := by
  have hframe := foldl_keeps sansAverages _ (sansAverages_redIdle s.switch.redSeen) (List.range 384) s
  have hlook := look_avg_redIdle_foldl s.switch.redSeen s 384
  refine ⟨_, rfl, ?moved, ?kept, rfl, ?pool, ?rest⟩
  case moved =>
    intro q hq hseen
    exact congrArg (Option.getD · 0) ((hlook q).trans (if_pos ⟨hq, hseen⟩))
  case kept =>
    intro q hseen
    exact (hlook q).trans (if_neg (fun h => h.2 hseen))
  case pool => exact congrArg (·.switch.pool) hframe
  case rest => exact congrArg (fun x => { x with regs := s.regs, switch := s.switch }) hframe

/-! ### Buffer errors (R175, R603) -/

/-- The depth and occupancy registers are registers only. -/
theorem poolRegs_regsOnly (s : State) (q : Nat) : RegsOnly s (poolRegs s q) := by
  simp only [poolRegs]
  exact RegsOnly.ite rfl rfl

/-- Lost mirror copies are counted and shown in registers only. -/
theorem copiesLost_regsOnly (s : State) (l : List PoolPkt) : RegsOnly s (copiesLost s l) :=
  foldl_rel RegsOnly RegsOnly.refl (fun _ _ _ => RegsOnly.trans) copyDropped (fun _ _ => rfl) _ s

theorem RegsOnly.switch_eq {s t : State} (h : RegsOnly s t) : t.switch = s.switch :=
  (congrArg State.switch h : { t with regs := s.regs }.switch = s.switch)

/-- A queue set to a list holds that list. -/
theorem queue_setQueue_same (s : State) (q : Nat) (l : List PoolPkt) : queue (setQueue s q l) q = l := by
  rw [queue, setQueue, (poolRegs_regsOnly _ q).switch_eq]
  cases l <;> simp [lookD]

/-- A packet of the pool struck before it has begun to leave is taken out of its queue; besides only registers change. -/
theorem eccPool_notBegun {s : State} {q i : Nat} {x : PoolPkt} (hx : (queue s q)[i]? = some x) (hbegun : x.begun = false) :
    queue (eccPool s q i) q = (queue s q).erase x ∧
    { eccPool s q i with regs := s.regs, switch := s.switch } = s := by
  have hstruck : eccPool s q i =
      (copiesLost (setQueue s q ((queue s q).erase x)) [x]).bump swBase Reg.Sw.ECC_UNCORR_CNT := by
    simp [eccPool, hx, hbegun]
  have hregs : RegsOnly (setQueue s q ((queue s q).erase x)) (eccPool s q i) := hstruck ▸ copiesLost_regsOnly _ [x]
  refine ⟨?_, ?_⟩
  · rw [queue, hregs.switch_eq]
    exact queue_setQueue_same s q _
  · exact congrArg (fun u => { u with regs := s.regs, switch := s.switch }) ((poolRegs_regsOnly _ q).trans hregs)

@[simp] theorem flitsLeave_switch (s : State) (p v k : Nat) : (flitsLeave s p v k).switch = s.switch := by
  simp only [flitsLeave]
  split <;> rfl

@[simp] theorem salvageLeft_switch (s : State) (k : Nat) (c : SwPkt) : (salvageLeft s k c).switch = s.switch := by
  simp only [salvageLeft]
  split <;> rfl

/-- Freeing an input VC takes its current packet out of the switch core, and nothing else. -/
theorem freeInput_switch (s : State) (k : Nat) (c : SwPkt) :
    (freeInput s k c).switch = { s.switch with cur := del s.switch.cur k } := by
  simp only [freeInput, dropCur, salvageLeft_switch]
  split <;> simp

/-- An input VC that writes no queue has no mirror copy to complete. -/
theorem mirFinish_of_writtenBy_nil {s : State} {k : Nat} (orig : List (BitVec 512)) (cut : Option Nat) (h : writtenBy s k = []) :
    mirFinish s k orig cut = s := by
  simp [mirFinish, h]

/-- A packet that is to be dropped and writes no queue only frees its input. -/
theorem finishInput_dropped {s : State} {k : Nat} {c : SwPkt} (cut : Option Nat) (hcur : look s.switch.cur k = some c)
    (hphase : c.phase = .dropped) (hwrites : writtenBy s k = []) : finishInput s k cut = freeInput s k c := by
  simp only [finishInput, hcur, hphase, mirFinish_of_writtenBy_nil c.flits cut hwrites]

/-- A whole packet that waits in an input buffer and writes no queue is taken out of its input when it is struck, and nothing else
leaves the switch core. -/
theorem eccInput_waiting_switch {s : State} {p vc : Nat} {c : SwPkt} (hcur : look s.switch.cur (inKey p vc) = some c)
    (hwhole : c.whole = true) (hphase : c.phase = .waiting) (hwrites : writtenBy s (inKey p vc) = []) :
    (eccInput s p vc).switch = { s.switch with
      cur := del (put s.switch.cur (inKey p vc) { c with phase := .dropped }) (inKey p vc) } := by
  have hstruck : eccInput s p vc = finishInput (setCur (s.bump swBase Reg.Sw.ECC_UNCORR_CNT) (inKey p vc)
      { c with phase := .dropped }) (inKey p vc) (some stompEcc) := by
    simp only [eccInput, strikeInput, stompOrDrop, hcur, hwhole, hphase, Option.isSome_some, if_true]
  rw [hstruck, finishInput_dropped _ (look_put_same ..) rfl ?writes, freeInput_switch]
  case writes => exact hwrites
  rfl

/-- The state in which an uncorrectable buffer error has been shown in SW_EVENT bit 4 and recorded. -/
def uncorrReported (w : EccPlace) (s : State) : State :=
  recordError (s.setEvt swBase Reg.Sw.SW_EVENT 4) (eccRec w false)

theorem uncorrReported_switch (w : EccPlace) (s : State) : (uncorrReported w s).switch = s.switch :=
  recordError_switch _ _

theorem sansReports_uncorrReported (w : EccPlace) (s : State) : sansReports (uncorrReported w s) = sansReports s :=
  sansReports_recordError _ _

theorem exec_bufferEccError_pool (q : Fin 384) (i : Nat) (s : State) :
    exec (.bufferEccError (.pool q i) false) s = .next (eccPool (uncorrReported (.pool q i) s) q.val i) := rfl

theorem exec_bufferEccError_rxBuffer (p : Fin 96) (vc : Fin 16) (s : State) :
    exec (.bufferEccError (.rxBuffer p vc) false) s =
      .next (eccInput (uncorrReported (.rxBuffer p vc) s) p.val vc.val) := rfl

/-- A report, and then a change of registers and the switch core only. -/
theorem report_then_switch_frame {s u t : State} (hreport : sansReports u = sansReports s)
    (hswitch : { t with regs := u.regs, switch := u.switch } = u) :
    { t with regs := s.regs, switch := s.switch, err := s.err, events := s.events, out := s.out, fns := s.fns, free := s.free } = s := by
  have hafter := congrArg (fun x : State => { x with
    regs := s.regs, switch := s.switch, err := s.err, events := s.events, out := s.out, fns := s.fns, free := s.free }) hswitch
  have hbefore := congrArg (fun x : State => { x with
    regs := s.regs, switch := s.switch, err := s.err, events := s.events, out := s.out, fns := s.fns, free := s.free }) hreport
  exact hafter.trans hbefore

/-- An uncorrectable error in a packet of the pool that has not begun to leave takes exactly that packet out of its queue. -/
theorem bufferEccError_pool_ends {q : Fin 384} {i : Nat} {x : PoolPkt} {s : State} (hx : (queue s q.val)[i]? = some x)
    (hbegun : x.begun = false) :
    Ends (exec (.bufferEccError (.pool q i) false) s) (fun t =>
      queue t q.val = (queue s q.val).erase x ∧
      { t with regs := s.regs, switch := s.switch, err := s.err, events := s.events, out := s.out, fns := s.fns, free := s.free } = s) := by
  have hqueue : queue (uncorrReported (.pool q i) s) q.val = queue s q.val := by rw [queue, uncorrReported_switch, queue]
  obtain ⟨hout, hrest⟩ := eccPool_notBegun (hqueue.symm ▸ hx) hbegun
  rw [hqueue] at hout
  exact ⟨_, exec_bufferEccError_pool q i s, hout, report_then_switch_frame (sansReports_uncorrReported _ s) hrest⟩

/-- An uncorrectable error in a whole packet that waits in an input buffer takes it out of its input. -/
theorem bufferEccError_rxBuffer_ends {p : Fin 96} {vc : Fin 16} {c : SwPkt} {s : State}
    (hcur : look s.switch.cur (inKey p.val vc.val) = some c) (hwhole : c.whole = true) (hphase : c.phase = .waiting)
    (hwrites : writtenBy s (inKey p.val vc.val) = []) :
    Ends (exec (.bufferEccError (.rxBuffer p vc) false) s) (fun t =>
      look t.switch.cur (inKey p.val vc.val) = none ∧ t.switch.pool = s.switch.pool ∧ t.switch.asm = s.switch.asm ∧
      t.switch.inbox = s.switch.inbox) := by
  have hreport := uncorrReported_switch (.rxBuffer p vc) s
  have hwrites' : writtenBy (uncorrReported (.rxBuffer p vc) s) (inKey p.val vc.val) = [] := by
    rw [writtenBy, hreport]; exact hwrites
  have hafter := eccInput_waiting_switch (hreport.symm ▸ hcur) hwhole hphase hwrites'
  refine ⟨_, exec_bufferEccError_rxBuffer p vc s, ?_⟩
  simp only [hafter, hreport, look_del_same, and_self]

/-- Settles O13. The idle tick is a fold over the queues in which each moves from its own average; a buffer error's record touches no
part of the switch core, and what is struck leaves its queue or its input by the lemma of each. -/
theorem redAveragesAndBufferErrors : Obligations.RedAveragesAndBufferErrors := by
  unfold Obligations.RedAveragesAndBufferErrors
  refine ⟨redAvgIdleTick_ends, fun w s => rfl, ?pool, ?input⟩
  case pool =>
    intro q i x s hx hbegun
    exact bufferEccError_pool_ends hx hbegun
  case input =>
    intro p vc c s hcur hwhole hphase hwrites
    exact bufferEccError_rxBuffer_ends hcur hwhole hphase hwrites

end Sys2Proof.Machine
end

section
/-!
PROOFS. The switch core's clear actions (R177 to R179, R181), the multicast table's latch (R180) and INJ_EPOCH (R209, R303).
-/
namespace Sys2Proof.Machine

/-! ### Clearing sets of register fields -/

/-- `t` is `s` with the register fields of these keys at 0, and nothing else changed. -/
structure Clears (keys : Nat → Prop) (s t : State) : Prop where
  regsOnly : RegsOnly s t
  zero : ∀ k, keys k → look t.regs k = some 0
  other : ∀ k, ¬ keys k → look t.regs k = look s.regs k

theorem Clears.rd_zero {keys : Nat → Prop} {s t : State} {b : Nat} {f : Field} (h : Clears keys s t) (hk : keys (f.key b)) :
    t.rd b f = 0 := by
  simp [State.rd, h.zero _ hk]

theorem Clears.rd_other {keys : Nat → Prop} {s t : State} {b : Nat} {f : Field} (h : Clears keys s t)
    (hk : ¬ keys (f.key b)) : t.rd b f = s.rd b f := by
  simp [State.rd, h.other _ hk]

theorem Clears.wr (s : State) (b : Nat) (f : Field) : Clears (· = f.key b) s (s.wr b f 0) where
  regsOnly := rfl
  zero k hk := by simp [hk]
  other k hk := State.look_wr_other s b f 0 k hk

theorem Clears.trans {keys keys' : Nat → Prop} {s t u : State} (h : Clears keys s t) (h' : Clears keys' t u) :
    Clears (fun k => keys k ∨ keys' k) s u where
  regsOnly := h.regsOnly.trans h'.regsOnly
  zero k hk := by
    by_cases hlast : keys' k
    · exact h'.zero k hlast
    · exact (h'.other k hlast).trans (h.zero k (hk.resolve_right hlast))
  other k hk := (h'.other k (fun x => hk (.inr x))).trans (h.other k (fun x => hk (.inl x)))

/-- A fold clears what its steps clear. -/
theorem Clears.foldl {β : Type} {step : State → β → State} {keys : β → Nat → Prop} (h : ∀ s x, Clears (keys x) s (step s x))
    (l : List β) (s : State) : Clears (fun k => ∃ x ∈ l, keys x k) s (l.foldl step s) := by
  induction l generalizing s with
  | nil => exact ⟨rfl, by simp, by simp⟩
  | cons x l ih => simpa using (h s x).trans (ih (step s x))

theorem Clears.clearAll (s : State) (b : Nat) (fs : List Field) :
    Clears (fun k => ∃ f ∈ fs, k = f.key b) s (s.clearAll b fs) :=
  Clears.foldl (fun t f => Clears.wr t b f) fs s

theorem Clears.clearArr (s : State) (b : Nat) (f : Field) (n : Nat) :
    Clears (fun k => ∃ i ∈ List.range n, k = f.key (b + f.stride * i)) s (s.clearArr b f n) :=
  Clears.foldl (fun t i => Clears.wr t (b + f.stride * i) f) (List.range n) s

/-- Several array fields of one length cleared. -/
theorem Clears.clearArrs (s : State) (b : Nat) (fs : List Field) (n : Nat) :
    Clears (fun k => ∃ f ∈ fs, ∃ i ∈ List.range n, k = f.key (b + f.stride * i)) s
      (fs.foldl (fun t f => t.clearArr b f n) s) :=
  Clears.foldl (fun t f => Clears.clearArr t b f n) fs s

/-! ### SW_CTL (R177, R181) -/

/-- The switch core's single counters (R177). -/
def swCounters : List Field := [Reg.Sw.MC_MISS_CNT, Reg.Sw.MC_COPY_DROP_CNT, Reg.Sw.ECC_CORR_CNT, Reg.Sw.ECC_UNCORR_CNT]

/-- The counters of each lossy queue (R178). -/
def queueCounters : List Field :=
  [Reg.Q.TAIL_DROP, Reg.Q.RED_DROP, Reg.Q.PUSHED_OUT, Reg.Q.PORT_DROP, Reg.Q.MARKED]

/-- The counters of each mirror session (R179; notes/assumptions/77.md). -/
def mirrorCounters : List Field := [Reg.Mir.COPIES, Reg.Mir.COPY_DROPS]

/-- Keys of the fields that the switch core's CNT_CLR clears. -/
def switchCounterKey (k : Nat) : Prop :=
  (((∃ f ∈ swCounters, k = f.key swBase) ∨
    (∃ o ∈ List.range 128, k = Reg.Sw.CE_MARK_CNT.key (swBase + Reg.Sw.CE_MARK_CNT.stride * o))) ∨
    (∃ f ∈ mirrorCounters, ∃ m ∈ List.range 16, k = f.key (swBase + f.stride * m))) ∨
  (∃ f ∈ queueCounters, ∃ q ∈ List.range 384, k = f.key (swBase + f.stride * q))

theorem switchCntClr_clears {s : State} {r : Route} (h : Takes s r (swBase + 0x50)) :
    Ends (exec (.switchCntClr r) s) (Clears switchCounterKey s) := by
  refine ⟨_, congrArg Host.Outcome.next (guarded_of_takes _ h), ?_⟩
  exact (((Clears.clearAll s swBase swCounters).trans (Clears.clearArr _ swBase Reg.Sw.CE_MARK_CNT 128)).trans
    (Clears.clearArrs _ swBase mirrorCounters 16)).trans (Clears.clearArrs _ swBase queueCounters 384)

theorem switchCounterKey_sw {f : Field} (hf : f ∈ swCounters) : switchCounterKey (f.key swBase) :=
  .inl (.inl (.inl ⟨f, hf, rfl⟩))

theorem switchCounterKey_ceMark {o : Nat} (ho : o < 128) :
    switchCounterKey (Reg.Sw.CE_MARK_CNT.key (swBase + Reg.Sw.CE_MARK_CNT.stride * o)) :=
  .inl (.inl (.inr ⟨o, List.mem_range.mpr ho, rfl⟩))

theorem switchCounterKey_mirror {f : Field} {m : Nat} (hf : f ∈ mirrorCounters) (hm : m < 16) :
    switchCounterKey (f.key (swBase + f.stride * m)) :=
  .inl (.inr ⟨f, hf, m, List.mem_range.mpr hm, rfl⟩)

theorem switchCounterKey_queue {f : Field} {q : Nat} (hf : f ∈ queueCounters) (hq : q < 384) :
    switchCounterKey (f.key (swBase + f.stride * q)) :=
  .inr ⟨f, hf, q, List.mem_range.mpr hq, rfl⟩

/-- POOL_USED is an occupancy and no counter: its word lies below all of them. -/
theorem not_switchCounterKey_poolUsed : ¬ switchCounterKey (Reg.Sw.POOL_USED.key swBase) := by
  have hlow : ∀ {f : Field} {b : Nat}, swBase ≤ b → 0x48 < f.off → Reg.Sw.POOL_USED.key swBase ≠ f.key b := by
    intro f b hb hoff
    simp only [Field.key, Reg.Sw.POOL_USED, fld]
    omega
  have hsw : ∀ f ∈ swCounters, 0x48 < f.off := by decide
  have hmir : ∀ f ∈ mirrorCounters, 0x48 < f.off := by decide
  have hqueue : ∀ f ∈ queueCounters, 0x48 < f.off := by decide
  rintro (((⟨f, hf, h⟩ | ⟨o, -, h⟩) | ⟨f, hf, m, -, h⟩) | ⟨f, hf, q, -, h⟩)
  · exact hlow (Nat.le_refl _) (hsw f hf) h
  · exact hlow (Nat.le_add_right ..) (by decide) h
  · exact hlow (Nat.le_add_right ..) (hmir f hf) h
  · exact hlow (Nat.le_add_right ..) (hqueue f hf) h

/-! ### The multicast table (R180) -/

/-- The word waits in the route's latch for the entry named. -/
theorem mcEntryWordWrite_ends {s : State} {r : Route} {g : Fin 65536} {w : Fin 7} (v : BitVec 32)
    (h : Takes s r (swBase + 0x800000 + 32 * g.val + 4 * w.val)) :
    Ends (exec (.mcEntryWordWrite r g w v) s) (fun t =>
      (∃ m, look t.switch.mcLatch (routeIdx r) = some (g.val, m) ∧ look m w.val = some v.toNat) ∧ t.regs = s.regs ∧
      { t with switch := s.switch } = s) :=
  ⟨_, congrArg Host.Outcome.next (guarded_of_takes _ h), ⟨_, look_put_same .., look_put_same ..⟩, rfl, rfl⟩

/-- Word 7 applies a latch of the entry that holds its word 0 alone: the first FPORT_MASK, and VALID. -/
theorem mcEntryApply_word0 {s : State} {r : Route} {g : Fin 65536} {x : Nat} (v : BitVec 32)
    (h : Takes s r (swBase + 0x80001C + 32 * g.val)) (hlatch : look s.switch.mcLatch (routeIdx r) = some (g.val, [(0, x)])) :
    exec (.mcEntryApply r g v) s = .next ((s.wr (swBase + 32 * g.val) Reg.Mc.FPORT_MASK x).wr (swBase + 32 * g.val) Reg.Mc.VALID
      (v.toNat / 2 ^ 31 % 2)) := by
  refine congrArg Host.Outcome.next ((guarded_of_takes _ h).trans ?_)
  simp [hlatch, bits]

/-! ### INJ_EPOCH (R209, R303) -/

/-- INJ_EPOCH takes bit 0; the routing events follow from what that does to the version's validity. -/
theorem exec_injEpochWrite {s : State} {r : Route} (e : BitVec 32) (h : Takes s r Reg.Root.INJ_EPOCH_EPOCH.off) :
    exec (.injEpochWrite r e) s = .next (routingEvents s (s.wr 0 Reg.Root.INJ_EPOCH_EPOCH (e.toNat % 2))) := by
  refine congrArg Host.Outcome.next ((guarded_of_takes _ h).trans ?_)
  simp [bits]

theorem routingEvents_same {s t : State} (h : injValid t = injValid s) : routingEvents s t = t := if_pos h

/-- Of two validities that differ, the later one tells which event is raised. -/
theorem routingEvents_changed {s t : State} (h : injValid t ≠ injValid s) :
    routingEvents s t = deviceEvent t (if injValid s = true then 0x14 else 0x15) [t.rd 0 Reg.Root.INJ_EPOCH_EPOCH, 0, 0, 0] := by
  have hafter : injValid t = !injValid s := Bool.eq_not_of_ne h
  cases hbefore : injValid s <;> simp [routingEvents, hafter, hbefore]

/-- Settles O14. CNT_CLR clears a set of keys in which POOL_USED is not; the other writes are their guarded actions, and INJ_EPOCH's
event follows from whether the validity changed. -/
theorem switchRegistersTakeTheirWrites : Obligations.SwitchRegistersTakeTheirWrites := by
  unfold Obligations.SwitchRegistersTakeTheirWrites
  refine ⟨?hwmClr, ?cntClr, ?wordWrite, ?apply, ?sameValidity, ?otherValidity⟩
  case hwmClr =>
    intro r s htakes
    exact congrArg Host.Outcome.next (guarded_of_takes _ htakes)
  case cntClr =>
    intro r s htakes
    obtain ⟨t, hexec, hclears⟩ := switchCntClr_clears htakes
    have hsw : ∀ f ∈ swCounters, t.rd swBase f = 0 := fun f hf => hclears.rd_zero (switchCounterKey_sw hf)
    have hmirror : ∀ f ∈ mirrorCounters, ∀ m, m < 16 → mrd t f m = 0 :=
      fun f hf m hm => hclears.rd_zero (switchCounterKey_mirror hf hm)
    have hqueue : ∀ f ∈ queueCounters, ∀ q, q < 384 → qrd t f q = 0 :=
      fun f hf q hq => hclears.rd_zero (switchCounterKey_queue hf hq)
    simp only [swCounters, mirrorCounters, queueCounters, List.forall_mem_cons] at hsw hmirror hqueue
    obtain ⟨hmiss, hcopyDrop, hcorr, huncorr, -⟩ := hsw
    obtain ⟨hcopies, hcopyDrops, -⟩ := hmirror
    obtain ⟨htail, hred, hpushed, hport, hmarked, -⟩ := hqueue
    exact ⟨t, hexec, hmiss, hcopyDrop, hcorr, huncorr, fun m hm => ⟨hcopies m hm, hcopyDrops m hm⟩,
      fun o ho => hclears.rd_zero (switchCounterKey_ceMark ho),
      fun q hq => ⟨htail q hq, hred q hq, hpushed q hq, hport q hq, hmarked q hq⟩,
      hclears.rd_other not_switchCounterKey_poolUsed, hclears.regsOnly⟩
  case wordWrite =>
    intro r g w v s htakes
    exact mcEntryWordWrite_ends v htakes
  case apply =>
    intro r g x v s htakes hlatch
    exact mcEntryApply_word0 v htakes hlatch
  case sameValidity =>
    intro r e s htakes hsame
    rw [exec_injEpochWrite e htakes, routingEvents_same hsame]
  case otherValidity =>
    intro r e s htakes hchanged
    have hepoch : e.toNat % 2 % 2 ^ Reg.Root.INJ_EPOCH_EPOCH.width = e.toNat % 2 := Nat.mod_mod ..
    rw [exec_injEpochWrite e htakes, routingEvents_changed hchanged, State.rd_wr_same, hepoch]

end Sys2Proof.Machine
end

section
/-!
PROOFS. Congestion estimates (R197, R224): what the update of one port touches, the fold over the ports, and the end of a warm-up.
-/
namespace Sys2Proof.Machine

/-! ### The update of one port (R197) -/

/-- The estimate that an update gives port `n`: the one held while it is seeded, else the old one moved toward its sample. -/
def nextEst (s : State) (n : Nat) : Dyadic :=
  if (look s.route.warmAt n).isSome then congEst s n
  else estStep (congEst s n) (congSample s n) (s.rd atBase Reg.Atlas.ATLAS_CFG_CONG_W)

/-- What PORT_EST.E shows of an estimate (R224). -/
def shownEst (e : Dyadic) : Nat := Nat.min (e.1 / 2 ^ e.2) 65535

/-- The state without its registers, estimates and Contour map: all that an update of an estimate touches. -/
def sansEstimates (s : State) : State := { s with regs := [], route := { s.route with est := [], contour := [] } }

@[simp] theorem gatherEst_regs (s : State) (n : Nat) (e : Dyadic) : (gatherEst s n e).regs = s.regs := by
  simp only [gatherEst]
  split <;> rfl

@[simp] theorem gatherEst_est (s : State) (n : Nat) (e : Dyadic) : (gatherEst s n e).route.est = s.route.est := by
  simp only [gatherEst]
  split <;> rfl

@[simp] theorem sansEstimates_gatherEst (s : State) (n : Nat) (e : Dyadic) :
    sansEstimates (gatherEst s n e) = sansEstimates s := by
  simp only [gatherEst]
  split <;> rfl

/-- With the Contour map off nothing is gathered. -/
theorem gatherEst_contour {s : State} (n : Nat) (e : Dyadic) (hoff : s.rd atBase Reg.Atlas.CONTOUR_CFG_EN = 0) :
    (gatherEst s n e).route.contour = s.route.contour := by
  simp [gatherEst, State.on, hoff]

theorem estUpdate_regs (s : State) (n : Nat) :
    (estUpdate s n).regs = (s.wri atBase Reg.Atlas.PORT_EST_E n (shownEst (nextEst s n))).regs :=
  gatherEst_regs _ _ _

theorem estUpdate_est (s : State) (n : Nat) : (estUpdate s n).route.est =
    if (nextEst s n).1 = 0 then del s.route.est n else put s.route.est n (nextEst s n) :=
  gatherEst_est _ _ _

theorem sansEstimates_estUpdate (s : State) (n : Nat) : sansEstimates (estUpdate s n) = sansEstimates s :=
  sansEstimates_gatherEst _ _ _

theorem estUpdate_switch (s : State) (n : Nat) : (estUpdate s n).switch = s.switch :=
  (congrArg State.switch (sansEstimates_estUpdate s n) : (sansEstimates (estUpdate s n)).switch = (sansEstimates s).switch)

theorem estUpdate_warmAt (s : State) (n : Nat) : (estUpdate s n).route.warmAt = s.route.warmAt :=
  (congrArg (·.route.warmAt) (sansEstimates_estUpdate s n) :
    (sansEstimates (estUpdate s n)).route.warmAt = (sansEstimates s).route.warmAt)

theorem rd_estUpdate (s : State) (n b : Nat) (f : Field) :
    (estUpdate s n).rd b f = (s.wri atBase Reg.Atlas.PORT_EST_E n (shownEst (nextEst s n))).rd b f :=
  congrArg (fun m => (look m (f.key b)).getD f.reset) (estUpdate_regs s n)

/-- An update shows the port's new estimate. -/
theorem rdi_portEst_estUpdate_same (s : State) (n : Nat) :
    (estUpdate s n).rdi atBase Reg.Atlas.PORT_EST_E n = shownEst (nextEst s n) := by
  have hlt : shownEst (nextEst s n) < 2 ^ Reg.Atlas.PORT_EST_E.width := Nat.lt_succ_of_le (Nat.min_le_right ..)
  rw [State.rdi, rd_estUpdate, State.wri, State.rd_wr_same, Nat.mod_eq_of_lt hlt]

theorem portEst_key (n : Nat) :
    Reg.Atlas.PORT_EST_E.key (atBase + Reg.Atlas.PORT_EST_E.stride * n) = (atBase + 4 * n + 0x100) * 32 := by
  simp [Field.key, Reg.Atlas.PORT_EST_E, fld, Field.arr]

theorem rdi_portEst_estUpdate_other (s : State) {n p : Nat} (h : p ≠ n) :
    (estUpdate s n).rdi atBase Reg.Atlas.PORT_EST_E p = s.rdi atBase Reg.Atlas.PORT_EST_E p := by
  refine (rd_estUpdate s n _ _).trans (State.rd_wr_other _ _ _ _ _ _ ?_)
  rw [portEst_key, portEst_key]
  omega

/-- Atlas's registers below its port estimates are untouched. -/
theorem rd_estUpdate_below (s : State) (n : Nat) {f : Field} (hoff : f.off < 0x100) (hlo : f.lo < 32) :
    (estUpdate s n).rd atBase f = s.rd atBase f := by
  refine (rd_estUpdate s n _ _).trans (State.rd_wr_other _ _ _ _ _ _ ?_)
  rw [portEst_key, Field.key]
  omega

/-- The sample speaks of the switch core only. -/
theorem congSample_of_switch {s t : State} (h : t.switch = s.switch) (n : Nat) : congSample t n = congSample s n := by
  simp only [congSample, llBacklog, depthOf, queue, h]

theorem lookD_est_estUpdate_other (s : State) {n p : Nat} (h : p ≠ n) (d : Dyadic) :
    lookD (estUpdate s n).route.est p d = lookD s.route.est p d := by
  rw [estUpdate_est]
  split
  · simp only [lookD, look_del_other _ _ _ h]
  · exact lookD_put_other _ _ _ _ _ h

/-- The update of one port does not change what another's will be. -/
theorem nextEst_estUpdate_other (s : State) {n p : Nat} (h : p ≠ n) : nextEst (estUpdate s n) p = nextEst s p := by
  have hsample := congSample_of_switch (estUpdate_switch s n) p
  have hweight := rd_estUpdate_below s n (f := Reg.Atlas.ATLAS_CFG_CONG_W) (by decide) (by decide)
  have hflits := rd_estUpdate_below s n (f := Reg.Atlas.WARMUP_FLITS) (by decide) (by decide)
  have hest : congEst (estUpdate s n) p = congEst s p := by
    simp only [congEst, estUpdate_warmAt, hflits, hsample, lookD_est_estUpdate_other s h]
  simp only [nextEst, estUpdate_warmAt, hest, hsample, hweight]

theorem estUpdate_contour {s : State} (n : Nat) (hoff : s.rd atBase Reg.Atlas.CONTOUR_CFG_EN = 0) :
    (estUpdate s n).route.contour = s.route.contour := by
  have hoff' := (rd_estUpdate_below s n (f := Reg.Atlas.CONTOUR_CFG_EN) (by decide) (by decide)).trans hoff
  rw [rd_estUpdate] at hoff'
  exact gatherEst_contour n (nextEst s n) hoff'

/-! ### The tick over all ports -/

theorem rdi_portEst_foldl_other {n : Nat} {l : List Nat} (h : n ∉ l) (s : State) :
    (l.foldl estUpdate s).rdi atBase Reg.Atlas.PORT_EST_E n = s.rdi atBase Reg.Atlas.PORT_EST_E n := by
  induction l generalizing s with
  | nil => rfl
  | cons m l ih =>
    rw [List.foldl_cons, ih (List.not_mem_of_not_mem_cons h), rdi_portEst_estUpdate_other s (List.ne_of_not_mem_cons h)]

/-- Each port of the list is updated once, from the state before the tick. -/
theorem rdi_portEst_foldl {n : Nat} {l : List Nat} (hnodup : l.Nodup) (h : n ∈ l) (s : State) :
    (l.foldl estUpdate s).rdi atBase Reg.Atlas.PORT_EST_E n = shownEst (nextEst s n) := by
  induction l generalizing s with
  | nil => cases h
  | cons m l ih =>
    obtain ⟨hm, hl⟩ := List.nodup_cons.mp hnodup
    rw [List.foldl_cons]
    by_cases hn : n = m
    · subst hn
      rw [rdi_portEst_foldl_other hm, rdi_portEst_estUpdate_same]
    · rw [ih hl ((List.mem_cons.mp h).resolve_left hn), nextEst_estUpdate_other s hn]

theorem contour_foldl_estUpdate (l : List Nat) {s : State} (hoff : s.rd atBase Reg.Atlas.CONTOUR_CFG_EN = 0) :
    (l.foldl estUpdate s).route.contour = s.route.contour := by
  induction l generalizing s with
  | nil => rfl
  | cons m l ih =>
    have hoff' := (rd_estUpdate_below s m (f := Reg.Atlas.CONTOUR_CFG_EN) (by decide) (by decide)).trans hoff
    rw [List.foldl_cons, ih hoff', estUpdate_contour m hoff]

theorem nextEst_of_notWarming {s : State} {n : Nat} (h : look s.route.warmAt n = none) :
    nextEst s n = estStep (congEst s n) (congSample s n) (s.rd atBase Reg.Atlas.ATLAS_CFG_CONG_W) := by
  simp [nextEst, h]

/-! ### The end of a warm-up (R197) -/

theorem exec_warmupEnd {n : Fin 96} {s : State} (h : look s.route.warmAt n.val ≠ none) :
    exec (.warmupEnd n) s =
      .next ({ showEst s n.val (congEst s n.val) with
        route := { s.route with est := put s.route.est n.val (congEst s n.val), warmAt := del s.route.warmAt n.val }
        }.wri atBase Reg.Atlas.PORT_EST_WARMING n.val 0) :=
  if_pos (Option.isSome_iff_ne_none.mpr h)

/-- Settles O21. The tick is a fold in which each port is updated once and no update changes what another port's will be; a warm-up
ends with the value that it held stored as the estimate. -/
theorem congestionEstimatesFollowTheirSamples : Obligations.CongestionEstimatesFollowTheirSamples := by
  unfold Obligations.CongestionEstimatesFollowTheirSamples
  refine ⟨?tick, ?warmup⟩
  case tick =>
    intro s hoff
    have hexec : exec .congEstTick s = .next ((List.range 96).foldl estUpdate s) := rfl
    have hframe := foldl_keeps sansEstimates estUpdate sansEstimates_estUpdate (List.range 96) s
    have hcontour := contour_foldl_estUpdate (List.range 96) hoff
    have hshown := fun n (hn : n < 96) => rdi_portEst_foldl List.nodup_range (List.mem_range.mpr hn) s
    generalize (List.range 96).foldl estUpdate s = t at hexec hframe hcontour hshown
    refine ⟨t, hexec, fun n hn hcold => ?_, hcontour, congrArg (·.route.fence) hframe,
      congrArg (fun x => { x with regs := s.regs, route := s.route }) hframe⟩
    rw [hshown n hn, nextEst_of_notWarming hcold, shownEst]
  case warmup =>
    intro n s hwarm
    refine ⟨_, exec_warmupEnd hwarm, ?warming, look_del_same .., ?estimate, rfl⟩
    case warming => rw [State.rdi, State.wri, State.rd_wr_same, Nat.zero_mod]
    case estimate => simp [congEst, State.wri]

end Sys2Proof.Machine
end

section
/-!
PROOFS. Atlas tables (R185 to R187, R212, R225): the entries' latch, waypoints, the VALID bits with their events, and the counters.
-/
namespace Sys2Proof.Machine

theorem bits_from_zero (n hi : Nat) : bits n hi 0 = n % 2 ^ (hi + 1) := by simp [bits]

theorem bits_single (n i : Nat) : bits n i i = n / 2 ^ i % 2 := by simp [bits]

/-! ### Entries and waypoints (R185 to R187) -/

/-- The word waits in the route's latch for the entry named. -/
theorem atlasEntryWordWrite_ends {s : State} {r : Route} {v : Fin 2} {e : AtlasEntry} {w : Fin 3} (x : BitVec 32)
    (h : Takes s r (entryBase v.val e + 4 * w.val)) :
    Ends (exec (.atlasEntryWordWrite r v e w x) s) (fun t =>
      (∃ m, look t.route.latch (routeIdx r) = some (entryBase v.val e, m) ∧ look m w.val = some x.toNat) ∧ t.regs = s.regs ∧
      { t with route := s.route } = s) :=
  ⟨_, congrArg Host.Outcome.next (guarded_of_takes _ h), ⟨_, look_put_same .., look_put_same ..⟩, rfl, rfl⟩

theorem latched_of_look {s : State} {r : Route} {b : Nat} {m : AMap Nat} (h : look s.route.latch (routeIdx r) = some (b, m)) :
    latched s r b = m := by
  simp [latched, h]

/-- Word 3 applies the words that the route's latch holds of the entry, in order, and itself. -/
theorem exec_atlasEntryApply {s : State} {r : Route} {v : Fin 2} {e : AtlasEntry} {m : AMap Nat} (x : BitVec 32)
    (h : Takes s r (entryBase v.val e + 12)) (hlatch : look s.route.latch (routeIdx r) = some (entryBase v.val e, m)) :
    exec (.atlasEntryApply r v e x) s = .next (mendWord (putEntryWord
      (m.foldl (fun t kv => putEntryWord t (entryBase v.val e) kv.1 kv.2) s) (entryBase v.val e) 3 x.toNat) (entryBase v.val e)) := by
  refine congrArg Host.Outcome.next ((guarded_of_takes _ h).trans ?_)
  rw [applyEntry, latched_of_look hlatch]

theorem exec_waypointEntryWrite {s : State} {r : Route} {v : Fin 2} {i : Fin 256} (x : BitVec 32)
    (h : Takes s r (atBase + 0x10000 * v.val + 4 * i.val + Reg.Atlas.WAYPOINT_ENTRY.off)) :
    exec (.waypointEntryWrite r v i x) s = .next (mendWord (s.wr (atBase + 0x10000 * v.val + 4 * i.val) Reg.Atlas.WAYPOINT_ENTRY
      (x.toNat % 2 ^ 11 + 2 ^ 31 * (x.toNat / 2 ^ 31 % 2))) (waypointAt v.val i.val)) := by
  refine congrArg Host.Outcome.next ((guarded_of_takes _ h).trans ?_)
  rw [bits_from_zero, bits_single]

/-! ### What a device event writes (R269, R302, R563) -/

/-- An event writes no register of the setup space. -/
theorem look_raiseEvent_setup (s : State) (f code : Nat) (d : List Nat) {k : Nat} (hk : k < bar2 0 * 32) :
    look (raiseEvent s f code d).regs k = look s.regs k := by
  have hkey : k ≠ Reg.Bar2.EQ_OVERFLOW.key (bar2 f) := by
    simp only [bar2, Field.key] at hk ⊢
    omega
  simp only [raiseEvent]
  split
  · split
    · rfl
    · exact State.look_wr_other _ _ _ _ _ hkey
  · rfl

theorem look_streamEvent (s : State) (code : Nat) (d : List Nat) {k : Nat} (hk : k ≠ Reg.Mp.EVT_LOST.key (base .mgmtProc)) :
    look (streamEvent s code d).regs k = look s.regs k := by
  simp only [streamEvent]
  split
  · rfl
  · exact State.look_wr_other _ _ _ _ _ hk

/-- Of the setup space's registers a device event can change EVT_LOST only. -/
theorem look_deviceEvent_setup (s : State) (code : Nat) (d : List Nat) {k : Nat} (hk : k < bar2 0 * 32)
    (hlost : k ≠ Reg.Mp.EVT_LOST.key (base .mgmtProc)) : look (deviceEvent s code d).regs k = look s.regs k := by
  rw [deviceEvent, foldl_keeps (fun t => look t.regs k) _ (fun t f => look_raiseEvent_setup t f code d hk)]
  exact look_streamEvent s code d hlost

/-- The routing events leave Atlas's own registers. -/
theorem rd_routingEvents_atlas (s t : State) {f : Field} (hoff : f.off < 0x10000) (hlo : f.lo < 32) :
    (routingEvents s t).rd atBase f = t.rd atBase f := by
  have hbase : atBase = 0x100000 := rfl
  have hlost : Reg.Mp.EVT_LOST.key (base .mgmtProc) < atBase * 32 := by decide
  have hlow : f.key atBase < bar2 0 * 32 := by simp only [Field.key, bar2, hbase]; omega
  have hne : f.key atBase ≠ Reg.Mp.EVT_LOST.key (base .mgmtProc) := by simp only [Field.key] at hlost ⊢; omega
  simp only [routingEvents]
  split
  · rfl
  · simp only [State.rd, look_deviceEvent_setup _ _ _ hlow hne]

/-! ### ATLAS_CTL (R212, R225) -/

/-- The state with the VALID bits of a word written to ATLAS_CTL. -/
def withValid (s : State) (x : Nat) : State :=
  (s.wr atBase Reg.Atlas.ATLAS_CTL_VALID0 (x % 2)).wr atBase Reg.Atlas.ATLAS_CTL_VALID1 (x / 2 % 2)

@[simp] theorem rd_withValid_valid0 (s : State) (x : Nat) : (withValid s x).rd atBase Reg.Atlas.ATLAS_CTL_VALID0 = x % 2 := by
  rw [withValid, State.rd_wr_other _ _ _ _ _ _ (by decide), State.rd_wr_same]
  exact Nat.mod_mod ..

@[simp] theorem rd_withValid_valid1 (s : State) (x : Nat) : (withValid s x).rd atBase Reg.Atlas.ATLAS_CTL_VALID1 = x / 2 % 2 :=
  (State.rd_wr_same ..).trans (Nat.mod_mod ..)

theorem rd_withValid_injEpoch (s : State) (x : Nat) :
    (withValid s x).rd 0 Reg.Root.INJ_EPOCH_EPOCH = s.rd 0 Reg.Root.INJ_EPOCH_EPOCH := by
  rw [withValid, State.rd_wr_other _ _ _ _ _ _ (by decide), State.rd_wr_other _ _ _ _ _ _ (by decide)]

/-- A write of ATLAS_CTL sets the VALID bits, then raises the routing events, then clears the counters if bit 8 asks it. -/
theorem exec_atlasValidWrite {s : State} {r : Route} (x : BitVec 32) (h : Takes s r (atBase + 0x40)) :
    exec (.atlasValidWrite r x) s = .next (if bitOf x.toNat 8 then clearAtlas (routingEvents s (withValid s x.toNat))
      else routingEvents s (withValid s x.toNat)) := by
  refine congrArg Host.Outcome.next ((guarded_of_takes _ h).trans ?_)
  rw [bits_from_zero, bits_single]
  rfl

/-- Atlas's counters (R225). -/
def atlasCounters : List Field :=
  [Reg.Atlas.NOROUTE_CNT, Reg.Atlas.BUDGET_DROP_CNT, Reg.Atlas.HOPLIMIT_CNT, Reg.Atlas.NOT_READY_CNT, Reg.Atlas.FMGT_DROP_CNT,
    Reg.Atlas.FENCE_FULL_CNT, Reg.Atlas.FENCE_TMO_CNT, Reg.Atlas.REROUTE_CNT, Reg.Atlas.RAMBLE_CNT, Reg.Atlas.MISMATCH_CNT,
    Reg.Atlas.ECC_CORR_CNT]

theorem clearAtlas_clears (s : State) : Clears (fun k => ∃ f ∈ atlasCounters, k = f.key atBase) s (clearAtlas s) :=
  Clears.clearAll s atBase atlasCounters

theorem rd_clearAtlas_counter (s : State) {f : Field} (hf : f ∈ atlasCounters) : (clearAtlas s).rd atBase f = 0 :=
  (clearAtlas_clears s).rd_zero ⟨f, hf, rfl⟩

/-- No counter shares a word with ATLAS_CTL. -/
theorem rd_clearAtlas_ctl (s : State) {f : Field} (hoff : f.off = 0x40) (hlo : f.lo < 32) :
    (clearAtlas s).rd atBase f = s.rd atBase f := by
  refine (clearAtlas_clears s).rd_other ?_
  rintro ⟨g, hg, hkey⟩
  have habove : ∀ g ∈ atlasCounters, 0x40 < g.off := by decide
  have hgoff := habove g hg
  simp only [Field.key, hoff] at hkey
  omega

/-- Settles O23. Every write is its guarded action; VALID's event follows from whether the injection version's validity changed, and
neither it nor the clearing of the counters touches the VALID bits. -/
theorem atlasTablesTakeTheirWrites : Obligations.AtlasTablesTakeTheirWrites := by
  unfold Obligations.AtlasTablesTakeTheirWrites
  refine ⟨?word, ?apply, ?waypoint, ?sameValidity, ?otherValidity, ?validAndClear, ?cntClr⟩
  case word =>
    intro r v e w x s htakes
    exact atlasEntryWordWrite_ends x htakes
  case apply =>
    intro r v e x y w s htakes hlatch
    exact exec_atlasEntryApply x htakes hlatch
  case waypoint =>
    intro r v i x s htakes
    exact exec_waypointEntryWrite x htakes
  case sameValidity =>
    intro r x s htakes hbit hsame
    have hevents : routingEvents s (withValid s x.toNat) = withValid s x.toNat := routingEvents_same hsame
    rw [exec_atlasValidWrite x htakes, hbit, hevents]
    rfl
  case otherValidity =>
    intro r x s htakes hbit hchanged
    have hevents := routingEvents_changed (t := withValid s x.toNat) hchanged
    rw [exec_atlasValidWrite x htakes, hbit, hevents, rd_withValid_injEpoch]
    rfl
  case validAndClear =>
    intro r x s htakes hbit
    have hexec := exec_atlasValidWrite x htakes
    rw [if_pos hbit] at hexec
    have hctl : ∀ f : Field, f.off = 0x40 → f.lo < 32 →
        (clearAtlas (routingEvents s (withValid s x.toNat))).rd atBase f = (withValid s x.toNat).rd atBase f :=
      fun f hoff hlo => (rd_clearAtlas_ctl _ hoff hlo).trans (rd_routingEvents_atlas _ _ (by omega) hlo)
    exact ⟨_, hexec, (hctl _ rfl (by decide)).trans (rd_withValid_valid0 ..), (hctl _ rfl (by decide)).trans (rd_withValid_valid1 ..),
      rd_clearAtlas_counter _ (by decide), rd_clearAtlas_counter _ (by decide)⟩
  case cntClr =>
    intro r s htakes
    exact ⟨_, congrArg Host.Outcome.next (guarded_of_takes _ htakes), fun f hf => rd_clearAtlas_counter s hf,
      rd_clearAtlas_ctl s rfl (by decide), (clearAtlas_clears s).regsOnly⟩

end Sys2Proof.Machine
end

section
/-!
PROOFS. The fence store (R214, R216) and the Contour map's periods (R218).
-/
namespace Sys2Proof.Machine

/-! ### The fence store -/

/-- While no held packet of the channel may go, a release does nothing. -/
theorem releaseFence_noneOpen {s : State} {ch : Nat}
    (h : ∀ x, s.chan ch = some x → ∀ g ∈ s.route.fence, g.channel = ch → fenceOpen x g.pkt = false) (k : Nat) :
    releaseFence s ch k = s := by
  cases k with
  | zero => rfl
  | succ k =>
    cases hchan : s.chan ch with
    | none => simp only [releaseFence, hchan]
    | some x =>
      have hnone : s.route.fence.filter (fun g => g.channel == ch && fenceOpen x g.pkt) = [] := by
        simpa [List.filter_eq_nil_iff] using h x hchan
      simp only [releaseFence, hchan, hnone, List.foldl_nil]

/-- The only held packet, when it may go, leaves the store and is executed; the release goes on unless it has to wait. -/
theorem releaseFence_single {s : State} {ch : Nat} {x : ChanSt} {h : FenceHeld} (hchan : s.chan ch = some x)
    (hfence : s.route.fence = [h]) (hch : h.channel = ch) (hopen : fenceOpen x h.pkt = true) (k : Nat)
    (hgoes : (step67 (setFence (drawSpace s h.pkt).2 []) ch h.pkt false (drawSpace s h.pkt).1).1 = false) :
    releaseFence s ch (k + 1) =
      releaseFence (step67 (setFence (drawSpace s h.pkt).2 []) ch h.pkt false (drawSpace s h.pkt).1).2 ch k := by
  have hmine : [h].filter (fun g => g.channel == ch && fenceOpen x g.pkt) = [h] := by simp [hch, hopen]
  simp only [releaseFence, hchan, hfence, hmine, List.foldl_cons, List.foldl_nil, List.erase_cons_head, hgoes,
    Bool.false_eq_true, if_false]

theorem releaseFence_empty {s : State} (ch k : Nat) (hempty : s.route.fence = []) : releaseFence s ch k = s :=
  releaseFence_noneOpen (by simp [hempty]) k

/-- A packet held too long leaves the store, counted and shown. -/
theorem exec_fenceTimeout_held {ch : BitVec 20} {psn : BitVec 24} {h : FenceHeld} {s : State} (hmem : h ∈ s.route.fence)
    (hch : h.channel = ch.toNat) (hpsn : h.pkt.th.psn = psn) :
    exec (.fenceTimeout ch psn) s = .next (((setFence s (s.route.fence.filter
      (fun g => !(g.channel == ch.toNat && g.pkt.th.psn == psn)))).bump atBase Reg.Atlas.FENCE_TMO_CNT).setEvt atBase
        Reg.Atlas.ATLAS_EVENT 6) := by
  have hany : s.route.fence.any (fun g => g.channel == ch.toNat && g.pkt.th.psn == psn) = true :=
    List.any_eq_true.mpr ⟨h, hmem, by simp [hch, hpsn]⟩
  exact if_pos hany

/-! ### Contour periods -/

/-- A record put to an open stream goes behind those that it holds. -/
theorem streamPut_of_open {s : State} {st : Nat} (h : look s.mg.streams st ≠ none) (r : StreamRec) :
    streamPut s st r = { s with mg := { s.mg with recs := put s.mg.recs st (lookD s.mg.recs st [] ++ [r]) } } :=
  if_pos (Option.isSome_iff_ne_none.mpr h)

/-- The start of a period changes what the Contour map gathers for the ports only. -/
theorem contourStart_eq (s : State) : ∃ m, contourStart s = { s with route := { s.route with contour := m } } :=
  ⟨_, by rw [contourStart]⟩

/-- The state in which the next Contour record has its number. -/
def contourNumbered (s : State) : State :=
  { s with route := { s.route with contourSeq := (s.route.contourSeq + 1) % 2 ^ 32 } }

/-- The state in which the Contour record of this period has gone to the stream where there is room. -/
def contourClosed (s : State) (room : Bool) : State :=
  if room then streamPut (contourNumbered s) 1 (.bytes (contourRecord s s.route.contourSeq)) else contourNumbered s

theorem exec_contourPeriod_on {s : State} (room : Bool) (hon : s.rd atBase Reg.Atlas.CONTOUR_CFG_EN ≠ 0) :
    exec (.contourPeriod room) s = .next (contourStart (contourClosed s room)) :=
  if_neg (by simpa [State.on] using hon)

theorem exec_contourPeriod_off {s : State} (room : Bool) (hoff : s.rd atBase Reg.Atlas.CONTOUR_CFG_EN = 0) :
    exec (.contourPeriod room) s = .next s :=
  if_pos (by simp [State.on, hoff])

/-- Settles O24. A release takes the one open packet out and then finds the store empty, and without an open packet does nothing; a
Contour period numbers and adds its record before the next period starts. -/
theorem fenceStoreAndContourPeriods : Obligations.FenceStoreAndContourPeriods := by
  unfold Obligations.FenceStoreAndContourPeriods
  refine ⟨?oneOpen, ?noneOpen, ?timeout, ?periodOn, ?periodOff⟩
  case oneOpen =>
    intro ch x h s hchan hfence hch hopen hgoes hempty
    have hfirst := releaseFence_single hchan hfence hch hopen s.route.fence.length hgoes
    exact congrArg Host.Outcome.next (hfirst.trans (releaseFence_empty _ _ hempty))
  case noneOpen =>
    intro ch x s hchan hclosed
    refine congrArg Host.Outcome.next (releaseFence_noneOpen ?_ _)
    intro y hy
    obtain rfl : x = y := Option.some.inj (hchan.symm.trans hy)
    exact hclosed
  case timeout =>
    intro ch psn h s hmem hch hpsn
    exact exec_fenceTimeout_held hmem hch hpsn
  case periodOn =>
    intro room s hon hstream
    obtain ⟨m, hstart⟩ := contourStart_eq (contourClosed s room)
    refine ⟨_, (exec_contourPeriod_on room hon).trans (congrArg Host.Outcome.next hstart), ?_⟩
    cases room with
    | false => exact ⟨rfl, (List.append_nil _).symm, rfl, rfl⟩
    | true =>
      have hclosed : contourClosed s true = _ := streamPut_of_open (s := contourNumbered s) hstream _
      rw [hclosed]
      exact ⟨rfl, lookD_put_same .., rfl, rfl⟩
  case periodOff =>
    intro room s hoff
    exact exec_contourPeriod_off room hoff

end Sys2Proof.Machine
end

section
/-!
PROOFS. Channels that close, context fetches and writebacks (R231, R234, R237, R256 to R258).
-/
namespace Sys2Proof.Machine

/-! ### Channels in state -/

/-- A channel with a slot is held as its slot has it. -/
theorem chanAny_of_look {s : State} {ch : Nat} {x : ChanSt} (h : look s.tp.chans ch = some x) : s.chanAny ch = some x := by
  simp [State.chanAny, h]

theorem chan_of_look {s : State} {ch : Nat} {x : ChanSt} (h : look s.tp.chans ch = some x) (hres : x.resident = true) :
    s.chan ch = some x := by
  simp [State.chan, chanAny_of_look h, hres]

/-- A channel that nothing closes becomes CLOSED and ends no command. -/
theorem toClosed_of_noClosers {s : State} {ch : Nat} {x : ChanSt} (hany : s.chanAny ch = some x) (hclosers : x.closers = []) :
    toClosed s ch = freeFence (s.setChan ch { x with
      ctx := { x.ctx with state := csClosed, errCode := 0 }, closers := [], unacked := 0, ackAt := none, ackDue := false,
      score := [], vis := [] }) ch := by
  simp only [toClosed, hany, hclosers, List.foldl_nil]

theorem exec_channelCloseComplete_of_chan {ch : Fin 1048576} {x : ChanSt} {s : State} (h : s.chan ch.val = some x) :
    exec (.channelCloseComplete ch) s =
      .next (if closable x then tpEnd (toClosed s ch.val) (clusterOf ch.val) else s) := by
  show execChannelCloseComplete ch s = _
  simp only [execChannelCloseComplete, h]

/-! ### A context that has been fetched (R231, R256) -/

/-- Whether or not ENGINE_PRIVATE counts, a fetched context is resident, keeps its owner, and stands as after a fetch that parked
nothing. -/
theorem restored_fresh (s : State) (ch : Nat) (c : Ctx) : (restored s ch c).resident = true ∧
    (restored s ch c).ctx.owner = c.owner ∧ (restored s ch c).parkDrop = none ∧ (restored s ch c).parkLeft = 0 := by
  simp only [restored]
  split
  · exact ⟨rfl, rfl, rfl, rfl⟩
  · split <;> exact ⟨rfl, rfl, rfl, rfl⟩

theorem ChanSt.set_parked_of_none {x : ChanSt} (hdrop : x.parkDrop = none) (hleft : x.parkLeft = 0) :
    { x with parkDrop := none, parkLeft := 0 } = x := by
  cases x
  subst hdrop hleft
  rfl

/-- What is restored depends on the transport's state only. -/
theorem restored_of_tp {s t : State} (h : t.tp = s.tp) (ch : Nat) (c : Ctx) : restored t ch c = restored s ch c := by
  simp only [restored, h]

/-- The state in which a fetched context is on die. -/
def cameOnDie (s : State) (ch : Nat) (c : Ctx) : State :=
  { s with tp := { s.tp with chans := put s.tp.chans ch (restored s ch c), priv := del s.tp.priv ch } }

theorem cameOnDie_of_tp {s t : State} (h : t.tp = s.tp) (ch : Nat) (c : Ctx) : cameOnDie t ch c =
    { t with tp := { s.tp with chans := put s.tp.chans ch (restored s ch c), priv := del s.tp.priv ch } } := by
  rw [cameOnDie, restored_of_tp h, h]

theorem chan_cameOnDie (s : State) (ch : Nat) (c : Ctx) : (cameOnDie s ch c).chan ch = some (restored s ch c) :=
  chan_of_look (look_put_same ..) (restored_fresh s ch c).1

/-! ### What a fetch or a writeback finds waiting -/

theorem closeIfResetting_of_notResetting {s : State} {ch : Nat} {x : ChanSt} (h : s.chan ch = some x)
    (hreset : (s.fn x.ctx.owner).resetting = false) : closeIfResetting s ch = s := by
  simp [closeIfResetting, h, hreset]

/-- Without a command of the channel in the queue none runs. -/
theorem runWaiting_of_noCmd {s : State} {ch : Nat} (h : ∀ k ∈ s.tp.cmds, k.ch ≠ ch) (run : State → CmdWait → State) :
    runWaiting s ch run = s := by
  have hmine : s.tp.cmds.filter (fun k => k.ch == ch) = [] := by simpa [List.filter_eq_nil_iff] using h
  have hothers : s.tp.cmds.filter (fun k => k.ch != ch) = s.tp.cmds := by simpa [List.filter_eq_self] using h
  simp only [runWaiting, hmine, hothers, List.foldl_nil]

theorem missNak_of_noDrop {s : State} {ch : Nat} {x : ChanSt} (h : s.chan ch = some x) (hdrop : x.parkDrop = none) :
    missNak s ch = s := by
  simp only [missNak, h, hdrop]

/-- Without a scan at the channel none goes on. -/
theorem scansPass_of_noScan {s : State} {ch : Nat} (h : ∀ k ∈ s.tp.scans, k.ch ≠ ch) : scansPass s ch = s := by
  have hmine : s.tp.scans.filter (fun k => k.ch == ch && !k.writing) = [] := by
    simpa [List.filter_eq_nil_iff] using fun k hk hch => absurd hch (h k hk)
  simp only [scansPass, hmine, List.foldl_nil]

theorem scanAt_of_noScan {s : State} {ch : Nat} (h : ∀ k ∈ s.tp.scans, k.ch ≠ ch) (w : Bool) : scanAt s ch w = none := by
  simpa [scanAt, List.find?_eq_none] using fun k hk hch => absurd hch (h k hk)

/-- A fold whose every step on the list changes nothing changes nothing. -/
theorem foldl_eq_self {σ β : Type} {f : σ → β → σ} {l : List β} (h : ∀ x ∈ l, ∀ t, f t x = t) (s : σ) : l.foldl f s = s := by
  induction l with
  | nil => rfl
  | cons x l ih =>
    obtain ⟨hx, hl⟩ := List.forall_mem_cons.mp h
    rw [List.foldl_cons, hx s]
    exact ih hl

/-- Where no domain owes an RNDV_FIN none is paid. -/
theorem payFins_of_noneOwed {s : State} (h : ∀ kv ∈ s.doms, kv.2.owed = []) : payFins s = s :=
  foldl_eq_self (fun kv hkv t => by rw [h kv hkv, List.foldl_nil]) s

/-- A context that has come on die with nothing waiting for it stays as it came. -/
theorem cameOnDie_idle {s : State} {ch : Nat} {c : Ctx} (hcmds : ∀ k ∈ s.tp.cmds, k.ch ≠ ch) (hscans : ∀ k ∈ s.tp.scans, k.ch ≠ ch)
    (howed : ∀ kv ∈ s.doms, kv.2.owed = []) (hreset : (s.fn c.owner).resetting = false) (run : State → CmdWait → State) :
    payFins (scansPass (missNak (runWaiting (closeIfResetting (cameOnDie s ch c) ch) ch run) ch) ch) = cameOnDie s ch c := by
  have hchan := chan_cameOnDie s ch c
  obtain ⟨-, howner, hdrop, -⟩ := restored_fresh s ch c
  rw [closeIfResetting_of_notResetting hchan (by rw [howner]; exact hreset), runWaiting_of_noCmd (s := cameOnDie s ch c) hcmds,
    missNak_of_noDrop hchan hdrop, scansPass_of_noScan (s := cameOnDie s ch c) hscans,
    payFins_of_noneOwed (s := cameOnDie s ch c) howed]

/-! ### CTX_FETCH_DONE (R256 to R258) -/

/-- The state in which the time of a channel's fetch has been counted (CTX_FETCH_NS, R525). -/
def fetchCounted (s : State) (ch : Nat) (x : ChanSt) : State := countEv s (tpUnit ch) (CntEvent.plain 0x101 (s.now - x.fetchAt))

theorem RegsOnly.tp_eq {s t : State} (h : RegsOnly s t) : t.tp = s.tp :=
  (congrArg State.tp h : { t with regs := s.regs }.tp = s.tp)

theorem RegsOnly.doms_eq {s t : State} (h : RegsOnly s t) : t.doms = s.doms :=
  (congrArg State.doms h : { t with regs := s.regs }.doms = s.doms)

theorem RegsOnly.fn_eq {s t : State} (h : RegsOnly s t) (f : Nat) : t.fn f = s.fn f :=
  (congrArg (State.fn · f) h : { t with regs := s.regs }.fn f = s.fn f)

theorem fetchCounted_regsOnly (s : State) (ch : Nat) (x : ChanSt) : RegsOnly s (fetchCounted s ch x) := countEv_regsOnly ..

/-- A fetch that returns a context, nothing being parked: the channel is resident with it, then what waits for it goes on. -/
theorem exec_ctxFetchDone_good {ch : Fin 1048576} {words : Option (List (BitVec 32))} {x : ChanSt} {c : Ctx} {s : State}
    (hlook : look s.tp.chans ch.val = some x) (hfetching : x.fetching = true) (hslot : x.slotWait = false)
    (hparked : x.parked = []) (hdrop : x.parkDrop = none) (hgood : fetchedCtx (fetchCounted s ch.val x) ch.val words = some c) :
    exec (.ctxFetchDone ch words) s = .next (tpEnd (payFins (scansPass (missNak (runWaiting (closeIfResetting
      (cameOnDie (fetchCounted s ch.val x) ch.val c) ch.val) ch.val (fun t k => runCmd t k.fn k.op ch.val)) ch.val) ch.val))
      (clusterOf ch.val)) := by
  have hrunning : (some x).filter (fun x => x.fetching && !x.slotWait) = some x := by simp [hfetching, hslot]
  obtain ⟨-, -, hnone, hzero⟩ := restored_fresh (fetchCounted s ch.val x) ch.val c
  have hfresh := ChanSt.set_parked_of_none hnone hzero
  show execCtxFetchDone ch words s = _
  rw [fetchCounted] at hgood hfresh
  simp only [execCtxFetchDone, hlook, hrunning, hgood, hparked, hdrop, List.length_nil, hfresh, List.foldl_nil, cameOnDie, fetchCounted]

/-- A fetch that returns no context: the slot is free, the failure counted and reported, and what waits for it fails. -/
theorem exec_ctxFetchDone_failed {ch : Fin 1048576} {words : Option (List (BitVec 32))} {x : ChanSt} {s : State}
    (hlook : look s.tp.chans ch.val = some x) (hfetching : x.fetching = true) (hslot : x.slotWait = false)
    (hfailed : fetchedCtx (fetchCounted s ch.val x) ch.val words = none) :
    exec (.ctxFetchDone ch words) s = .next (tpEnd (scansPass (finsFail (farFail (runWaiting
      (fetchFailed (dropChan (fetchCounted s ch.val x) ch.val) ch.val) ch.val (fun t k => cmdDone t k.fn ch.val 4 none)) ch.val)
      ch.val) ch.val) (clusterOf ch.val)) := by
  have hrunning : (some x).filter (fun x => x.fetching && !x.slotWait) = some x := by simp [hfetching, hslot]
  show execCtxFetchDone ch words s = _
  rw [fetchCounted] at hfailed
  simp only [execCtxFetchDone, hlook, hrunning, hfailed, fetchCounted]

/-- No fetch of the channel is out, and no scan stands at it. -/
theorem exec_ctxFetchDone_none {ch : Fin 1048576} {words : Option (List (BitVec 32))} {s : State}
    (hfetch : ∀ x ∈ look s.tp.chans ch.val, x.fetching = false ∨ x.slotWait = true) (hscans : ∀ k ∈ s.tp.scans, k.ch ≠ ch.val) :
    exec (.ctxFetchDone ch words) s = .next s := by
  have hidle : (look s.tp.chans ch.val).filter (fun x => x.fetching && !x.slotWait) = none := by
    simp only [Option.filter_eq_none_iff, Bool.and_eq_true, Bool.not_eq_true', not_and, Bool.not_eq_false]
    intro x hx hfetching
    exact (hfetch x hx).resolve_left (by simp [hfetching])
  show execCtxFetchDone ch words s = _
  simp only [execCtxFetchDone, hidle, scanAt_of_noScan hscans]

/-! ### CTX_WRITEBACK_DONE and CTX_WRITEBACK_FAIL (R233, R234, R237, R269) -/

/-- Trail items that end with a channel are no part of the transport's state. -/
theorem trailChanEnds_tp (s : State) (ch : Nat) : (trailChanEnds s ch).tp = s.tp := by
  rw [trailChanEnds, trailEndAll]
  exact foldl_keeps State.tp (fun t (x : TrailItem) => trailEnd t x.key 0) (fun _ _ => rfl) _ s

theorem trailChanEnds_doms (s : State) (ch : Nat) : (trailChanEnds s ch).doms = s.doms := by
  rw [trailChanEnds, trailEndAll]
  exact foldl_keeps State.doms (fun t (x : TrailItem) => trailEnd t x.key 0) (fun _ _ => rfl) _ s

/-- An evicted context leaves its slot, and its ENGINE_PRIVATE words are kept. -/
theorem evictChan_tp (s : State) (ch : Nat) (x : ChanSt) : (evictChan s ch x).tp = { s.tp with
    chans := del s.tp.chans ch
    priv := put s.tp.priv ch { ctx := x.ctx, rate := x.ctx.rate, cutAt := x.cutAt, cutNow := x.cutNow, nextStart := x.nextStart,
                               nakAt := x.nakAt, seqSeen := x.seqSeen } } :=
  trailChanEnds_tp ..

theorem evictChan_doms (s : State) (ch : Nat) (x : ChanSt) : (evictChan s ch x).doms = s.doms := trailChanEnds_doms ..

/-- What the end of a writeback makes of its slot: free, unless the context has been used again or is pinned (R237). -/
def writtenBack (s : State) (ch : Nat) (x : ChanSt) : State :=
  if x.dirty = true ∨ chanPinned s ch { x with writing := false } = true then
    { s with tp := { s.tp with chans := put s.tp.chans ch { x with writing := false } } }
  else evictChan s ch { x with writing := false }

theorem writtenBack_doms (s : State) (ch : Nat) (x : ChanSt) : (writtenBack s ch x).doms = s.doms := by
  unfold writtenBack
  split
  · rfl
  · exact evictChan_doms ..

theorem exec_ctxWritebackDone_of_writing {ch : Fin 1048576} {x : ChanSt} {s : State} (hlook : look s.tp.chans ch.val = some x)
    (hwriting : x.writing = true) :
    exec (.ctxWritebackDone ch) s = .next (tpEnd (payFins (writtenBack s ch.val x)) (clusterOf ch.val)) := by
  have hout : (some x).filter (·.writing) = some x := by simp [hwriting]
  show execCtxWritebackDone ch s = _
  simp only [execCtxWritebackDone, hlook, hout, writtenBack, Bool.or_eq_true]

/-- The state in which a channel whose writeback failed holds its slot with the context still changed. -/
def stillDirty (s : State) (ch : Nat) (x : ChanSt) : State :=
  { s with tp := { s.tp with chans := put s.tp.chans ch { x with writing := false, dirty := true } } }

theorem exec_ctxWritebackFail_of_writing {ch : Fin 1048576} {x : ChanSt} {s : State} (hlook : look s.tp.chans ch.val = some x)
    (hwriting : x.writing = true) :
    exec (.ctxWritebackFail ch) s = .next (tpEnd (failSlotCmds (writebackFailed
      (if x.ctx.state = csOpen ∨ x.ctx.state = csClosing then chanError (stillDirty s ch.val x) ch.val 9 0
        else stillDirty s ch.val x) ch.val) ch.val) (clusterOf ch.val)) := by
  have hout : (some x).filter (·.writing) = some x := by simp [hwriting]
  show execCtxWritebackFail ch s = _
  simp only [execCtxWritebackFail, hlook, hout, stillDirty]

/-- Settles O26. A fetch that ends runs what waits for its context, each part of which is idle where nothing waits; a writeback
that ends frees the slot or keeps it, and one that fails is an error of a channel that is OPEN or CLOSING only. -/
theorem contextsComeAndGo : Obligations.ContextsComeAndGo := by
  unfold Obligations.ContextsComeAndGo
  refine ⟨?closes, ?staysOpen, ?closed, ?fetched, ?fetchFailed, ?noFetch, ?written, ?evicted, ?failedIdle, ?failedLive⟩
  case closes =>
    intro ch x s hchan hclosable
    rw [exec_channelCloseComplete_of_chan hchan, if_pos hclosable]
  case staysOpen =>
    intro ch s hnot
    cases hchan : s.chan ch.val with
    | none =>
      show execChannelCloseComplete ch s = _
      simp only [execChannelCloseComplete, hchan]
    | some x => rw [exec_channelCloseComplete_of_chan hchan, hnot x hchan, if_neg Bool.false_ne_true]
  case closed =>
    intro ch x s hany hclosers
    rw [toClosed_of_noClosers hany hclosers]
    exact ⟨_, chanAny_of_look (look_put_same ..), rfl, rfl⟩
  case fetched =>
    intro ch words x c s hlook hfetching hslot hparked hdrop hcmds hscans howed hreset u hgood
    have hregs := fetchCounted_regsOnly s ch.val x
    have hidle := cameOnDie_idle (s := fetchCounted s ch.val x) (c := c) (by rw [hregs.tp_eq]; exact hcmds)
      (by rw [hregs.tp_eq]; exact hscans) (by rw [hregs.doms_eq]; exact howed) (by rw [hregs.fn_eq]; exact hreset)
    rw [exec_ctxFetchDone_good hlook hfetching hslot hparked hdrop hgood, hidle, cameOnDie_of_tp hregs.tp_eq]
    rfl
  case fetchFailed =>
    intro ch words x s hlook hfetching hslot u hfailed
    exact exec_ctxFetchDone_failed hlook hfetching hslot hfailed
  case noFetch =>
    intro ch words s hfetch hscans
    exact exec_ctxFetchDone_none hfetch hscans
  case written =>
    intro ch x s hlook hwriting howed
    rw [exec_ctxWritebackDone_of_writing hlook hwriting, payFins_of_noneOwed (by rwa [writtenBack_doms])]
    rfl
  case evicted =>
    intro ch x s
    rw [evictChan_tp]
    exact ⟨rfl, _, look_put_same .., rfl, rfl, rfl⟩
  case failedIdle =>
    intro ch x s hlook hwriting hstate
    have hidle : ¬ (x.ctx.state = csOpen ∨ x.ctx.state = csClosing) := by
      rcases hstate with h | h <;> simp [h, csOpen, csClosing, csClosed, csError]
    rw [exec_ctxWritebackFail_of_writing hlook hwriting, if_neg hidle]
    rfl
  case failedLive =>
    intro ch x s hlook hwriting hstate
    rw [exec_ctxWritebackFail_of_writing hlook hwriting, if_pos hstate]
    rfl

end Sys2Proof.Machine
end

section
/-!
PROOFS. The transport's timers, rate increase, counter clear and write completions (R251, R260, R261, R265, R269, R271, R493).
-/
namespace Sys2Proof.Machine

/-! ### ACK_DELAY_TIMEOUT (R251) -/

theorem exec_ackDelayTimeout_of_chan {ch : Fin 1048576} {x : ChanSt} {s : State} (h : s.chan ch.val = some x) :
    exec (.ackDelayTimeout ch) s =
      .next (if x.ackAt.isSome then tpEnd (ackDue s ch.val) (clusterOf ch.val) else s) := by
  show execAckDelayTimeout ch s = _
  simp only [execAckDelayTimeout, h]

theorem exec_ackDelayTimeout_of_idle {ch : Fin 1048576} {s : State} (h : ∀ x ∈ s.chan ch.val, x.ackAt = none) :
    exec (.ackDelayTimeout ch) s = .next s := by
  cases hchan : s.chan ch.val with
  | none =>
    show execAckDelayTimeout ch s = _
    simp only [execAckDelayTimeout, hchan]
  | some x =>
    rw [exec_ackDelayTimeout_of_chan hchan, h x hchan]
    rfl

/-! ### RETX_TIMEOUT (R261, R269) -/

/-- The channel as a retransmit timer below RETRY_MAX leaves it: the retry counted, the timer started again, and what is to be
resent due (R261, R262; notes/assumptions/29.md). -/
def retried (now ch : Nat) (x : ChanSt) : ChanSt :=
  let c := { x.ctx with
    retryCnt := x.ctx.retryCnt + 1
    sndNxt := if isSr ch then x.ctx.sndNxt else x.ctx.sndUna }
  { x with
    ctx := c
    timer := some (now + rtoNs c (x.ctx.retryCnt + 1))
    sent := x.sent.map (fun p => { p with fast := false })
    resend := if isSr ch then (x.sent.filter (fun p => !p.marked || p.op == opReadReq)).map (·.psn) else []
    backoff := if isSr ch then x.backoff else [] }

theorem exec_retxTimeout_again {ch : Fin 1048576} {x : ChanSt} {s : State} (h : s.chan ch.val = some x)
    (hout : x.outstanding = true) (hbelow : x.ctx.retryCnt < x.ctx.retryMax) :
    let t := (s.bump (tb ch.val) Reg.Tc.RETX_TMO_CNT).setChan ch.val (retried s.now ch.val x)
    exec (.retxTimeout ch) s = .next (tpEnd
      (if x.ctx.retryCnt + 1 = 4 then
        raiseEvent t x.ctx.owner 0x02 [ch.val + 2 ^ 24 * x.ctx.gen, x.ctx.errCode, x.ctx.errPsn, 0] else t)
      (clusterOf ch.val)) := by
  show execRetxTimeout ch s = _
  simp only [execRetxTimeout, h, hout, Bool.not_true, Bool.false_eq_true, if_false, if_neg (Nat.not_le.mpr hbelow)]
  rfl

theorem exec_retxTimeout_ends {ch : Fin 1048576} {x : ChanSt} {s : State} (h : s.chan ch.val = some x)
    (hout : x.outstanding = true) (hmax : x.ctx.retryMax ≤ x.ctx.retryCnt) :
    exec (.retxTimeout ch) s = .next (tpEnd (chanError (s.bump (tb ch.val) Reg.Tc.RETX_TMO_CNT) ch.val 1 x.ctx.sndUna)
      (clusterOf ch.val)) := by
  show execRetxTimeout ch s = _
  simp only [execRetxTimeout, h, hout, Bool.not_true, Bool.false_eq_true, if_false, if_pos hmax]

theorem exec_retxTimeout_of_idle {ch : Fin 1048576} {s : State} (h : ∀ x ∈ s.chan ch.val, x.outstanding = false) :
    exec (.retxTimeout ch) s = .next s := by
  show execRetxTimeout ch s = _
  cases hchan : s.chan ch.val with
  | none => simp only [execRetxTimeout, hchan]
  | some x => simp only [execRetxTimeout, hchan, h x hchan, Bool.not_false, if_true]

/-! ### MISS_BACKOFF_EXPIRE (R260) -/

theorem exec_missBackoffExpire_of_oldest {ch : Fin 1048576} {x : ChanSt} {n : Nat} {l : List Nat} {s : State}
    (h : s.chan ch.val = some x) (hbackoff : x.backoff = n :: l) :
    exec (.missBackoffExpire ch) s = .next (tpEnd (s.setChan ch.val { x with
      backoff := l, resend := if isSr ch.val = true then addOnce x.resend n else x.resend }) (clusterOf ch.val)) := by
  show execMissBackoffExpire ch s = _
  simp only [execMissBackoffExpire, h, hbackoff]

theorem exec_missBackoffExpire_of_idle {ch : Fin 1048576} {s : State} (h : ∀ x ∈ s.chan ch.val, x.backoff = []) :
    exec (.missBackoffExpire ch) s = .next s := by
  show execMissBackoffExpire ch s = _
  cases hchan : s.chan ch.val with
  | none => simp only [execMissBackoffExpire, hchan]
  | some x => simp only [execMissBackoffExpire, hchan, h x hchan]

/-! ### CC_INC_PERIOD (R265) -/

theorem exec_ccIncPeriod_onDie {ch : Fin 1048576} {x : ChanSt} {s : State} (h : s.chan ch.val = some x) (hcc : x.ctx.ccEn = true) :
    exec (.ccIncPeriod ch) s = .next (tpEnd (s.setChan ch.val { x with
      ctx := { x.ctx with rate := rateUp s ch.val x.ctx.rate x.cutNow }, cutNow := false }) (clusterOf ch.val)) := by
  show execCcIncPeriod ch s = _
  simp only [execCcIncPeriod, h, hcc, Bool.not_true, Bool.false_eq_true, if_false]

/-- No channel on die has congestion control, and nothing is kept of one off die. -/
theorem exec_ccIncPeriod_of_idle {ch : Fin 1048576} {s : State} (h : ∀ x ∈ s.chan ch.val, x.ctx.ccEn = false)
    (hkept : s.chan ch.val = none → look s.tp.priv ch.val = none) : exec (.ccIncPeriod ch) s = .next s := by
  show execCcIncPeriod ch s = _
  cases hchan : s.chan ch.val with
  | none => simp only [execCcIncPeriod, hchan, hkept hchan]
  | some x => simp only [execCcIncPeriod, hchan, h x hchan, Bool.not_false, if_true]

/-- A context off die that keeps a rate has it raised where the device keeps it. -/
theorem exec_ccIncPeriod_kept {ch : Fin 1048576} {k : EngPriv} {s : State} (h : s.chan ch.val = none)
    (hkept : look s.tp.priv ch.val = some k) (hcc : k.ctx.ccEn = true) :
    exec (.ccIncPeriod ch) s = .next { s with tp := { s.tp with
      priv := put s.tp.priv ch.val { k with rate := rateUp s ch.val k.rate k.cutNow, cutNow := false } } } := by
  show execCcIncPeriod ch s = _
  simp only [execCcIncPeriod, h, hkept, hcc, if_true]

/-! ### TRANSPORT_CNT_CLR (R271, R272) -/

/-- Keys of the fields that a cluster's CNT_CLR clears. -/
def tpCounterKey (b k : Nat) : Prop :=
  ((∃ f ∈ tpCounters, k = f.key b) ∨
    (∃ i ∈ List.range 10, k = Reg.Tc.NAK_SENT_CNT.key (b + Reg.Tc.NAK_SENT_CNT.stride * i))) ∨
  (∃ i ∈ List.range 10, k = Reg.Tc.NAK_RCVD_CNT.key (b + Reg.Tc.NAK_RCVD_CNT.stride * i))

theorem transportCntClr_clears {s : State} {r : Route} {c : Fin 4} (h : Takes s r (clusterBase c.val + 0x90)) :
    Ends (exec (.transportCntClr r c) s) (Clears (tpCounterKey (clusterBase c.val)) s) :=
  ⟨_, congrArg Host.Outcome.next (guarded_of_takes _ h),
    ((Clears.clearAll s (clusterBase c.val) tpCounters).trans (Clears.clearArr _ _ Reg.Tc.NAK_SENT_CNT 10)).trans
      (Clears.clearArr _ _ Reg.Tc.NAK_RCVD_CNT 10)⟩

/-- The keys that CNT_CLR clears, as a list. -/
def tpCounterKeys (b : Nat) : List Nat :=
  tpCounters.map (Field.key · b) ++ (List.range 10).flatMap (fun i =>
    [Reg.Tc.NAK_SENT_CNT.key (b + Reg.Tc.NAK_SENT_CNT.stride * i), Reg.Tc.NAK_RCVD_CNT.key (b + Reg.Tc.NAK_RCVD_CNT.stride * i)])

theorem mem_tpCounterKeys {b k : Nat} (h : tpCounterKey b k) : k ∈ tpCounterKeys b := by
  rcases h with (⟨f, hf, rfl⟩ | ⟨i, hi, rfl⟩) | ⟨i, hi, rfl⟩
  · exact List.mem_append_left _ (List.mem_map_of_mem hf)
  · exact List.mem_append_right _ (List.mem_flatMap.mpr ⟨i, hi, by simp⟩)
  · exact List.mem_append_right _ (List.mem_flatMap.mpr ⟨i, hi, by simp⟩)

/-! ### WRNOALLOC_CMP (R493, R499) -/

/-- The Cmp is of a payload write of the cluster. -/
def cmpOfCluster (c : Nat) (q : HomeReq) : Bool := match q.asker with
  | .payload cl _ _ => cl == c
  | _ => false

/-- The state in which the Cmp has been taken. -/
def cmpTaken (s : State) (q : HomeReq) : State := { s with mesh := { s.mesh with cmps := s.mesh.cmps.erase q } }

/-- One write of a packet of the channel has become visible: the packet owes one less, and what waited for it is tried again. -/
def writeVisible (s : State) (ch id : Nat) : State :=
  match s.chanAny ch with
  | none => s
  | some x =>
    let vis := (x.vis.map (fun v => if v.1 = id then (v.1, v.2 - 1) else v)).filter (fun v => v.2 != 0)
    let s := s.setChan ch { x with vis := vis }
    releaseAll (finishJobs (tryAck (if vis.any (fun v => v.1 = id) then s else trailMark s (.recv ch id) 3) ch) ch) ch

/-- Where the packet still owes a write, its Trail item does not move. -/
theorem writeVisible_owing {s : State} {ch id n : Nat} {x : ChanSt} (hchan : s.chanAny ch = some x) (hvis : x.vis = [(id, n + 2)]) :
    writeVisible s ch id = releaseAll (finishJobs (tryAck (s.setChan ch { x with vis := [(id, n + 1)] }) ch) ch) ch := by
  simp [writeVisible, hchan, hvis]

theorem exec_wrnoallocCmp_of_payload {c : Fin 4} {q : HomeReq} {ch id : Nat} {s : State}
    (hfind : s.mesh.cmps.find? (cmpOfCluster c.val) = some q) (hasker : q.asker = .payload c.val ch id) :
    exec (.wrnoallocCmp c) s =
      .next (tpEnd (resumeCluster (writeVisible (cmpTaken s q) ch id) c.val) c.val) := by
  show execWrnoallocCmp c s = _
  unfold execWrnoallocCmp
  split
  next hnone => exact absurd (hfind.symm.trans hnone) (by simp)
  next q' hsome =>
    obtain rfl : q = q' := Option.some.inj (hfind.symm.trans hsome)
    split
    next ch' id' hpayload =>
      obtain ⟨-, rfl, rfl⟩ := Asker.payload.inj (hasker.symm.trans hpayload)
      rfl
    next hother => exact absurd hasker (hother _ _ _)

theorem exec_wrnoallocCmp_of_none {c : Fin 4} {s : State} (h : s.mesh.cmps = []) : exec (.wrnoallocCmp c) s = .next s := by
  show execWrnoallocCmp c s = _
  simp only [execWrnoallocCmp, h, List.find?_nil]

/-- Settles O29. Each timer acts on a channel on which it runs and does nothing otherwise, by the lemmas of its command; CNT_CLR clears
exactly the keys of the counters. -/
theorem transportTimersAndCompletionsAct : Obligations.TransportTimersAndCompletionsAct := by
  unfold Obligations.TransportTimersAndCompletionsAct
  refine ⟨?ackDue, ?noAck, ?retry, ?retryMax, ?noRetry, ?backoff, ?noBackoff, ?rate, ?noRate, ?rateKept, ?cntClr, ?cmp, ?noCmp⟩
  case ackDue =>
    intro ch x s hchan hdue
    rw [exec_ackDelayTimeout_of_chan hchan, if_pos (Option.isSome_iff_ne_none.mpr hdue)]
  case noAck =>
    intro ch s hidle
    exact exec_ackDelayTimeout_of_idle hidle
  case retry =>
    intro ch x s hchan hout hbelow
    exact exec_retxTimeout_again hchan hout hbelow
  case retryMax =>
    intro ch x s hchan hout hmax
    exact exec_retxTimeout_ends hchan hout hmax
  case noRetry =>
    intro ch s hidle
    exact exec_retxTimeout_of_idle hidle
  case backoff =>
    intro ch x n l s hchan hbackoff
    exact exec_missBackoffExpire_of_oldest hchan hbackoff
  case noBackoff =>
    intro ch s hidle
    exact exec_missBackoffExpire_of_idle hidle
  case rate =>
    intro ch x s hchan hcc
    exact exec_ccIncPeriod_onDie hchan hcc
  case noRate =>
    intro ch s hidle hkept
    exact exec_ccIncPeriod_of_idle hidle hkept
  case rateKept =>
    intro ch k s hchan hkept hcc
    exact ⟨_, exec_ccIncPeriod_kept hchan hkept hcc, ⟨_, look_put_same .., rfl, rfl, rfl⟩, rfl, rfl⟩
  case cntClr =>
    intro r c s htakes
    obtain ⟨t, hexec, hclears⟩ := transportCntClr_clears htakes
    refine ⟨t, hexec, fun f hf => ?single, fun i hi => ⟨?sent, ?received⟩, hclears.regsOnly, fun k hk => ?others⟩
    case single => exact hclears.rd_zero (.inl (.inl ⟨f, hf, rfl⟩))
    case sent => exact hclears.rd_zero (.inl (.inr ⟨i, List.mem_range.mpr hi, rfl⟩))
    case received => exact hclears.rd_zero (.inr ⟨i, List.mem_range.mpr hi, rfl⟩)
    case others => exact hclears.other k (fun hkey => hk (mem_tpCounterKeys hkey))
  case cmp =>
    intro c q ch id n x s hfind hasker hchan hvis
    rw [exec_wrnoallocCmp_of_payload hfind hasker, writeVisible_owing (s := cmpTaken s q) hchan hvis]
    rfl
  case noCmp =>
    intro c s hnone
    exact exec_wrnoallocCmp_of_none hnone

end Sys2Proof.Machine
end

section
/-!
PROOFS. Doorbells, consumer indices, arming and the MSI-X table of a queue BAR (R273, R278, R286, R300, R412, R609).
-/
namespace Sys2Proof.Machine

/-! ### Queues in state -/

/-- Of two values put at one key the later one stays. -/
theorem put_put_same {α : Type} (m : AMap α) (k : Nat) (v w : α) : put (put m k v) k w = put m k w := by
  induction m with
  | nil => simp [put]
  | cons h m ih =>
    obtain ⟨k', v'⟩ := h
    by_cases hlt : k < k'
    · simp [put, hlt]
    · by_cases heq : k = k' <;> simp [put, hlt, heq, ih]

theorem State.setCq_setCq_same (s : State) (g : Nat) (x y : CqSt) : (s.setCq g x).setCq g y = s.setCq g y := by
  simp [State.setCq, put_put_same]

@[simp] theorem State.cqAt_setCq_same (s : State) (g : Nat) (x : CqSt) : (s.setCq g x).cqAt g = some x := look_put_same ..

@[simp] theorem State.wqAt_setWq_same (s : State) (g : Nat) (q : WqSt) : (s.setWq g q).wqAt g = some q := look_put_same ..

/-! ### MSI-X messages (R300, R412; notes/assumptions/72.md) -/

theorem sendMsix_of_open {s : State} {f v : Nat} (hopen : msixOpen s f v = true) : sendMsix s f v = msixWrite s f v :=
  if_pos hopen

/-- A masked vector becomes pending. -/
theorem sendMsix_of_masked {s : State} {f v : Nat} (hon : (s.fn f).msixOn = true) (hclosed : msixOpen s f v = false) :
    sendMsix s f v = s.wri (bar2 f) Reg.Msix.PBA (v / 32) (setBit (s.rdi (bar2 f) Reg.Msix.PBA (v / 32)) (v % 32)) := by
  simp [sendMsix, hon, hclosed]

theorem sendMsix_of_off {s : State} {f v : Nat} (hoff : (s.fn f).msixOn = false) : sendMsix s f v = s := by
  simp [sendMsix, msixOpen, hoff]

theorem msixRelease_of_pending {s : State} {f v : Nat} (hpending : msixPending s f v = true) (hopen : msixOpen s f v = true) :
    msixRelease s f v = msixWrite (s.wri (bar2 f) Reg.Msix.PBA (v / 32)
      (s.rdi (bar2 f) Reg.Msix.PBA (v / 32) - 2 ^ (v % 32))) f v := by
  simp [msixRelease, hpending, hopen]

/-! ### WQ_DOORBELL (R278, R286) -/

/-- The state in which work queue `g` has its new producer index, and is among those with entries to fetch where it has any. -/
def piTaken (s : State) (g : Nat) (q : WqSt) (v : Nat) : State :=
  ({ s with wq := { s.wq with order := if v = wqCi s q then s.wq.order else addOnce s.wq.order g } }).wri
    (bar2 q.fn) Reg.Bar2.WQ_PI q.idx v

theorem indexGood_iff {p ci pi log : Nat} : indexGood p ci pi log = true ↔ ringDist p ci ≤ 2 ^ log ∧ ringDist p pi ≤ 2 ^ log := by
  simp [indexGood]

theorem consumerGood_iff {c ci pi log : Nat} :
    consumerGood c ci pi log = true ↔ ringDist pi c ≤ 2 ^ log ∧ ringDist c ci ≤ 2 ^ log := by
  simp [consumerGood]

theorem applyPi_good {s : State} {g v : Nat} {q : WqSt} (h : indexGood v (wqCi s q) (wqPi s q) q.logSize = true) :
    applyPi s g q v = (true, piTaken s g q v) := by
  simp only [applyPi, piTaken, h, if_true]
  split <;> rfl

theorem applyPi_bad {s : State} {g v : Nat} {q : WqSt} (h : indexGood v (wqCi s q) (wqPi s q) q.logSize = false) :
    applyPi s g q v = (false, badIndex s q.fn (engineOf g q) q.idx v false) := by
  simp [applyPi, h]

section Ready
variable {f : Fin 1024} {i : Fin 4096} {s : State} (hfatal : fatalStopped s = false) (hready : fnReady s f.val = true)
include hfatal hready

theorem exec_wqDoorbell_plain {q : WqSt} (v : BitVec 32) (hq : localWq s f.val i.val = some q) (hplain : q.watched = false) :
    exec (.wqDoorbell f i v) s = .next (
      if indexGood v.toNat (wqCi s q) (wqPi s q) q.logSize then
        (piTaken s (wqNo s f.val i.val) q v.toNat).bump (engBase (engineOf (wqNo s f.val i.val) q)) Reg.Eng.DB_MMIO_CNT
      else badIndex s q.fn (engineOf (wqNo s f.val i.val) q) q.idx v.toNat false) := by
  show execWqDoorbell f i v s = _
  simp only [execWqDoorbell, hfatal, hready, hq, hplain, Bool.not_true, Bool.false_eq_true, if_false]
  cases hgood : indexGood v.toNat (wqCi s q) (wqPi s q) q.logSize
  · rw [applyPi_bad hgood]; rfl
  · rw [applyPi_good hgood]; rfl

theorem exec_wqDoorbell_watched {q : WqSt} (v : BitVec 32) (hq : localWq s f.val i.val = some q) (hwatched : q.watched = true) :
    exec (.wqDoorbell f i v) s = .next (s.bump (engBase (engineOf (wqNo s f.val i.val) q)) Reg.Eng.BAD_PI_CNT) := by
  show execWqDoorbell f i v s = _
  simp only [execWqDoorbell, hfatal, hready, hq, hwatched, Bool.not_true, Bool.false_eq_true, if_false, if_true]

/-! ### Consumer indices (R278) -/

theorem exec_cqCiWrite_of_cq {x : CqSt} (v : BitVec 32) (hx : localCq s f.val i.val = some x) :
    exec (.cqCiWrite f i v) s = .next (
      if consumerGood v.toNat (cqCi s x) (cqPi s x) x.logSize then s.wri (bar2 f.val) Reg.Bar2.CQ_CI i.val v.toNat
      else badIndex s f.val (countEngine (cqNo s f.val i.val)) i.val v.toNat true) := by
  show execCqCiWrite f i v s = _
  simp only [execCqCiWrite, hfatal, hready, hx, Bool.not_true, Bool.false_eq_true, if_false]
  split <;> rfl

theorem exec_eqCiWrite_of_ready (v : BitVec 32) :
    exec (.eqCiWrite f v) s = .next (
      if consumerGood v.toNat (s.rd (bar2 f.val) Reg.Bar2.EQ_CI) (s.rd (bar2 f.val) Reg.Bar2.EQ_PI)
          (s.rd (bar2 f.val) Reg.Bar2.EQ_CFG_LOG_SIZE) then s.wr (bar2 f.val) Reg.Bar2.EQ_CI v.toNat
      else badIndex s f.val (countEngine f.val) 0 v.toNat false) := by
  show execEqCiWrite f v s = _
  simp only [execEqCiWrite, hfatal, hready, Bool.not_true, Bool.false_eq_true, if_false]
  split <;> rfl

/-! ### Arming (R300) -/

theorem exec_cqArm_of_cq {x : CqSt} (hx : localCq s f.val i.val = some x) :
    exec (.cqArm f i) s = .next (cqFire (s.setCq (cqNo s f.val i.val) { x with armed := true }) (cqNo s f.val i.val)) := by
  show execCqArm f i s = _
  simp only [execCqArm, hfatal, hready, hx, Bool.not_true, Bool.false_eq_true, if_false]

theorem exec_eqArm_of_on (hon : s.on (bar2 f.val) Reg.Bar2.EQ_CFG_EN = true) :
    exec (.eqArm f) s = .next (eqFire (s.setFn f.val { s.fn f.val with eqArmed := true }) f.val) := by
  show execEqArm f s = _
  simp only [execEqArm, hfatal, hready, hon, Bool.and_self, Bool.false_eq_true, if_false, if_true]

end Ready

theorem cqFire_of_show {s : State} {g : Nat} {x : CqSt} (hx : s.cqAt g = some x) (hint : x.intEn = true) (harmed : x.armed = true)
    (hshow : cqPi s x ≠ cqCi s x) : cqFire s g = sendMsix (s.setCq g { x with armed := false }) x.fn x.vec := by
  simp [cqFire, hx, hint, harmed, hshow]

/-- With interrupts disabled or no entry to show the queue stays as it is. -/
theorem cqFire_of_quiet {s : State} {g : Nat} {x : CqSt} (hx : s.cqAt g = some x) (hquiet : x.intEn = false ∨ cqPi s x = cqCi s x) :
    cqFire s g = s := by
  rcases hquiet with h | h <;> simp [cqFire, hx, h]

/-- Arming a queue with an entry to show sends its message and disarms it. -/
theorem cqFire_arm_show {s : State} {x : CqSt} (g : Nat) (hint : x.intEn = true) (hshow : cqPi s x ≠ cqCi s x) :
    cqFire (s.setCq g { x with armed := true }) g = sendMsix (s.setCq g { x with armed := false }) x.fn x.vec := by
  rw [cqFire_of_show (s := s.setCq g { x with armed := true }) (State.cqAt_setCq_same ..) hint rfl hshow, State.setCq_setCq_same]

theorem cqFire_arm_quiet {s : State} {x : CqSt} (g : Nat) (hquiet : x.intEn = false ∨ cqPi s x = cqCi s x) :
    cqFire (s.setCq g { x with armed := true }) g = s.setCq g { x with armed := true } :=
  cqFire_of_quiet (s := s.setCq g { x with armed := true }) (State.cqAt_setCq_same ..) hquiet

theorem eqFire_of_armed {s : State} {f : Nat} (harmed : (s.fn f).eqArmed = true) :
    eqFire s f = if s.rd (bar2 f) Reg.Bar2.EQ_PI ≠ s.rd (bar2 f) Reg.Bar2.EQ_CI then
      sendMsix (s.setFn f { s.fn f with eqArmed := false }) f (s.rd (bar2 f) Reg.Bar2.EQ_CFG_VEC) else s := by
  simp [eqFire, harmed]

@[simp] theorem State.fn_setFn_same (s : State) (f : Nat) (x : FnSt) : (s.setFn f x).fn f = x := lookD_put_same ..

/-! ### Functions that are not ready, and fatal stops (R273, R309, R609) -/

theorem exec_wqDoorbell_of_idle {f : Fin 1024} {i : Fin 4096} {s : State} (v : BitVec 32)
    (h : fatalStopped s = true ∨ fnReady s f.val = false ∨ localWq s f.val i.val = none) : exec (.wqDoorbell f i v) s = .next s := by
  show execWqDoorbell f i v s = _
  rcases h with h | h | h <;> simp [execWqDoorbell, h]

theorem exec_cqCiWrite_of_idle {f : Fin 1024} {i : Fin 4096} {s : State} (v : BitVec 32)
    (h : fatalStopped s = true ∨ fnReady s f.val = false ∨ localCq s f.val i.val = none) : exec (.cqCiWrite f i v) s = .next s := by
  show execCqCiWrite f i v s = _
  rcases h with h | h | h <;> simp [execCqCiWrite, h]

theorem exec_cqArm_of_idle {f : Fin 1024} {i : Fin 4096} {s : State}
    (h : fatalStopped s = true ∨ fnReady s f.val = false ∨ localCq s f.val i.val = none) : exec (.cqArm f i) s = .next s := by
  show execCqArm f i s = _
  rcases h with h | h | h <;> simp [execCqArm, h]

theorem exec_eqCiWrite_of_idle {f : Fin 1024} {s : State} (v : BitVec 32) (h : fatalStopped s = true ∨ fnReady s f.val = false) :
    exec (.eqCiWrite f v) s = .next s := by
  show execEqCiWrite f v s = _
  rcases h with h | h <;> simp [execEqCiWrite, h]

theorem exec_eqArm_of_idle {f : Fin 1024} {s : State} (h : fatalStopped s = true ∨ fnReady s f.val = false) :
    exec (.eqArm f) s = .next s := by
  show execEqArm f s = _
  rcases h with h | h <;> simp [execEqArm, h]

/-! ### The MSI-X table (R412) -/

/-- Outside a fatal stop and a hard trip a whole word in the MSI-X area is taken, whether or not the function is ready. -/
theorem queueWrite_msix {s : State} (f : Fin 1024) {o : Nat} (v : BitVec 32) (hfatal : fatalStopped s = false)
    (htrip : s.boot.hardTrip = false) (halign : o % 4 = 0) (harea : 0x34000 ≤ o) :
    queueWrite s f o v 15 = msixReg s f.val o v.toNat := by
  simp [queueWrite, hfatal, htrip, halign, harea]

/-- The word at offset 12 of a table entry is its vector's mask. -/
theorem msixReg_mask (s : State) (f i n : Nat) :
    msixReg s f (0x3800C + 16 * i) n = msixRelease (s.wri (bar2 f) Reg.Msix.MASK i n) f i := by
  have hvec : (0x3800C + 16 * i - 0x38000) / 16 = i := by omega
  have hword : (0x3800C + 16 * i) % 16 = 12 := by omega
  have harea : ¬ 0x3800C + 16 * i < 0x38000 := by omega
  simp only [msixReg, hvec, hword, if_neg harea]
  rfl

/-- The pending bits lie below the table. -/
theorem rdi_pba_wri_mask (s : State) (f i n : Nat) {j : Nat} (hj : j < 64) :
    (s.wri (bar2 f) Reg.Msix.MASK i n).rdi (bar2 f) Reg.Msix.PBA j = s.rdi (bar2 f) Reg.Msix.PBA j := by
  refine State.rd_wr_other _ _ _ _ _ _ ?_
  simp only [Field.key, Reg.Msix.PBA, Reg.Msix.MASK, fld, Field.arr, if_true]
  omega

/-- Clearing the mask of a vector whose message is pending lets the message leave. -/
theorem exec_registerWrite_unmask {f : Fin 1024} {i : Fin 2048} {v : BitVec 32} {s : State} (hfatal : fatalStopped s = false)
    (htrip : s.boot.hardTrip = false) (hon : (s.fn f.val).msixOn = true) (hfree : (s.fn f.val).msixMask = false)
    (hpending : msixPending s f.val i.val = true) (hclear : v.toNat % 2 = 0) :
    exec (.registerWrite (.queue f (BitVec.ofNat 18 (0x3800C + 16 * i.val)) v 15)) s =
      .next (msixWrite ((s.wri (bar2 f.val) Reg.Msix.MASK i.val v.toNat).wri (bar2 f.val) Reg.Msix.PBA (i.val / 32)
        (s.rdi (bar2 f.val) Reg.Msix.PBA (i.val / 32) - 2 ^ (i.val % 32))) f.val i.val) := by
  have hoff : (BitVec.ofNat 18 (0x3800C + 16 * i.val)).toNat = 0x3800C + 16 * i.val := by
    rw [BitVec.toNat_ofNat]; exact Nat.mod_eq_of_lt (by omega)
  have hpba := rdi_pba_wri_mask s f.val i.val v.toNat (j := i.val / 32) (by omega)
  have hmask : (s.wri (bar2 f.val) Reg.Msix.MASK i.val v.toNat).rdi (bar2 f.val) Reg.Msix.MASK i.val = 0 :=
    (State.rd_wr_same ..).trans hclear
  have hopen : msixOpen (s.wri (bar2 f.val) Reg.Msix.MASK i.val v.toNat) f.val i.val = true := by
    have hfn : (s.wri (bar2 f.val) Reg.Msix.MASK i.val v.toNat).fn f.val = s.fn f.val := rfl
    simp [msixOpen, hmask, hfn, hon, hfree]
  have hstill : msixPending (s.wri (bar2 f.val) Reg.Msix.MASK i.val v.toNat) f.val i.val = true := by
    rw [msixPending, hpba]; exact hpending
  show Host.Outcome.next (queueWrite s f (BitVec.ofNat 18 (0x3800C + 16 * i.val)).toNat v 15) = _
  rw [hoff, queueWrite_msix f v hfatal htrip (by omega) (by omega), msixReg_mask, msixRelease_of_pending hstill hopen, hpba]

/-- Settles O30. Every index is taken or refused by the test of its ring; arming is CQ or EQ interrupt logic on the armed queue, whose
message takes its way by the masks; a function that is not ready takes nothing, and a cleared mask frees its vector. -/
theorem indexWritesAreTestedBeforeTheyAreTaken : Obligations.IndexWritesAreTestedBeforeTheyAreTaken := by
  unfold Obligations.IndexWritesAreTestedBeforeTheyAreTaken
  refine ⟨?plain, ?watched, ?cqCi, ?eqCi, ?cqArm, ?cqArmQuiet, ?eqArm, ?queueIdle, ?eqIdle, ?unmask⟩
  case plain =>
    intro f i v q s hfatal hready hq hplain
    refine ⟨fun hci hpi => ?taken, fun hbeyond => ?refused⟩
    case taken =>
      rw [exec_wqDoorbell_plain hfatal hready v hq hplain, if_pos (indexGood_iff.mpr ⟨hci, hpi⟩)]
      rfl
    case refused =>
      have hbad : ¬ indexGood v.toNat (wqCi s q) (wqPi s q) q.logSize = true := by
        rw [indexGood_iff]; omega
      rw [exec_wqDoorbell_plain hfatal hready v hq hplain, if_neg hbad]
      rfl
  case watched =>
    intro f i v q s hfatal hready hq hwatched
    exact exec_wqDoorbell_watched hfatal hready v hq hwatched
  case cqCi =>
    intro f i v x s hfatal hready hx
    simp only [exec_cqCiWrite_of_cq hfatal hready v hx, consumerGood_iff]
    rfl
  case eqCi =>
    intro f v s hfatal hready
    simp only [exec_eqCiWrite_of_ready hfatal hready v, consumerGood_iff]
    rfl
  case cqArm =>
    intro f i x s hfatal hready hx hint u
    have hexec := exec_cqArm_of_cq hfatal hready hx
    refine ⟨fun hshow hopen => ?sent, fun hshow hon hclosed => ?pending, fun hshow hoff => ?nothing, fun hnone => ?armed⟩
    case sent => rw [hexec, cqFire_arm_show _ hint hshow, sendMsix_of_open (s := u) hopen]
    case pending => rw [hexec, cqFire_arm_show _ hint hshow, sendMsix_of_masked (s := u) hon hclosed]; rfl
    case nothing => rw [hexec, cqFire_arm_show _ hint hshow, sendMsix_of_off (s := u) hoff]
    case armed => rw [hexec, cqFire_arm_quiet _ (.inr hnone)]
  case cqArmQuiet =>
    intro f i x s hfatal hready hx hint
    rw [exec_cqArm_of_cq hfatal hready hx, cqFire_arm_quiet _ (.inl hint)]
  case eqArm =>
    intro f s hfatal hready hon u
    rw [exec_eqArm_of_on hfatal hready hon, eqFire_of_armed (congrArg FnSt.eqArmed (State.fn_setFn_same ..))]
    rfl
  case queueIdle =>
    intro f i v c s hidle hc
    have hwq : fatalStopped s = true ∨ fnReady s f.val = false ∨ localWq s f.val i.val = none := hidle.imp_right (.imp_right And.left)
    have hcq : fatalStopped s = true ∨ fnReady s f.val = false ∨ localCq s f.val i.val = none := hidle.imp_right (.imp_right And.right)
    simp only [List.mem_cons, List.not_mem_nil, or_false] at hc
    rcases hc with rfl | rfl | rfl
    · exact exec_wqDoorbell_of_idle v hwq
    · exact exec_cqCiWrite_of_idle v hcq
    · exact exec_cqArm_of_idle hcq
  case eqIdle =>
    intro f v s hidle
    exact ⟨exec_eqCiWrite_of_idle v hidle, exec_eqArm_of_idle hidle⟩
  case unmask =>
    intro f i v s hfatal htrip hon hfree hpending hclear
    exact exec_registerWrite_unmask hfatal htrip hon hfree hpending hclear

end Sys2Proof.Machine
end

section
/-!
PROOFS. Watched lines, the fetch of work entries and their fragment tables, the checks of an entry taken, and index write-backs (R279,
R280, R283, R284, R288, R289, R291 to R293, R304).
-/
namespace Sys2Proof.Machine

/-! ### Reads of the device's own structures (R277) -/

/-- A read that failed: a chunk was bad, or bytes of host memory did not come. -/
theorem readFailed_iff {t : State} {l : List Chunk} {data : Option (List Byte)} :
    (gatherBad t l || (data.isNone && outside l)) = true ↔ gatherBad t l = true ∨ (data = none ∧ outside l = true) := by
  simp

/-! ### Watched lines (R288, R289) -/

/-- The watched line of function `f` at `a`, as a command finds it. -/
def lineAt (s : State) (f a : Nat) : Option WatchSt := s.wq.lines.find? (fun w => w.fn == f && w.addr == a)

theorem lineAt_names {s : State} {f a : Nat} {w : WatchSt} (h : lineAt s f a = some w) : w.fn = f ∧ w.addr = a := by
  simpa using List.find?_some h

theorem exec_watchedLineSnoop_of_line {f : Fin 1024} {a : BitVec 64} {w : WatchSt} {s : State}
    (h : lineAt s f.val a.toNat = some w) : exec (.watchedLineSnoop f a) s = .next (lineTaken s w) := by
  rw [lineAt] at h
  show execWatchedLineSnoop f a s = _
  simp only [execWatchedLineSnoop, h]

/-- A read of a watched line that is out, in a cluster that is there, ends as its translation has it. -/
theorem exec_watchedLineReadDone_of_reading {f : Fin 1024} {a : BitVec 64} {w : WatchSt} {l : List Chunk} {s t : State}
    (data : Option (List Byte)) (h : lineAt s f.val a.toNat = some w) (hreading : w.reading = true)
    (hhere : clusterLost s w.cluster = false) (hxlate : xlate s f.val a.toNat 64 (accLocal false) = (.ok l, t)) :
    exec (.watchedLineReadDone f a data) s = .next (match watchedLine l with
      | some line => readPoolLine t w line
      | none => lineGave t w (gather t l (data.getD [])) (gatherBad t l || (data.isNone && outside l))) := by
  rw [lineAt] at h
  show execWatchedLineReadDone f a data s = _
  simp only [execWatchedLineReadDone, h, hreading, hhere, hxlate, Bool.not_true, Bool.or_self, Bool.false_eq_true, if_false]
  cases watchedLine l <;> rfl

theorem exec_watchedLineReadDone_of_none {f : Fin 1024} {a : BitVec 64} {s : State} (data : Option (List Byte))
    (h : ∀ w ∈ lineAt s f.val a.toNat, w.reading = false ∨ clusterLost s w.cluster = true) :
    exec (.watchedLineReadDone f a data) s = .next s := by
  rw [lineAt] at h
  show execWatchedLineReadDone f a data s = _
  cases hline : s.wq.lines.find? (fun w => w.fn == f.val && w.addr == a.toNat) with
  | none => simp only [execWatchedLineReadDone, hline]
  | some w => rcases h w hline with h | h <;> simp [execWatchedLineReadDone, hline, h]

/-- A read that comes back with bytes is applied, one that failed is reported, at the line's own place. -/
theorem lineGave_at {w : WatchSt} {f a : Nat} (hfn : w.fn = f) (haddr : w.addr = a) (s : State) (b : List Byte) (bad : Bool) :
    lineGave s w b bad = lineReadEnds (if bad = true then lineFault s f a else applyLine s f a b) w := by
  rw [lineGave, hfn, haddr]

theorem lineReadEnds_of_notAgain {w : WatchSt} (s : State) (h : w.again = false) :
    lineReadEnds s w = mapLine s w.fn w.addr (fun k => { k with reading := k.again, again := false }) := by
  simp [lineReadEnds, h]

/-! ### WQ_ENTRY_ARRIVE (R279, R291) -/

/-- No entry of the queue is wanted, or the engine's buffer has no room for it. -/
def NoFetch (s : State) (g : Nat) (q : WqSt) : Prop :=
  clusterLost s q.cluster = true ∨ (s.fn q.fn).resetting = true ∨ wqCi s q = wqPi s q ∨ q.prefetch ≤ q.fetched.length ∨
    fetchRoom s (engineOf g q) g = false

/-- The state in which the entry `b` of queue `g`, or that it could not be read, stands behind those on die and its Trail item has
met the countdown. -/
def entryOnDie (s t : State) (g : Nat) (q : WqSt) (b : Option (List Byte)) : State :=
  let v := t.setWq g { q with fetched := q.fetched ++ [{ index := wqCi s q, bytes := b, table := none, asked := false }] }
  trailStart v (sendItem v (engineOf g q) g (wqCi s q) q.fn (b.getD []))

/-- The bytes that a read of one's own structure gave, or that it failed. -/
def readBytes (t : State) (l : List Chunk) (data : Option (List Byte)) : Option (List Byte) :=
  if gatherBad t l || (data.isNone && outside l) then none else some (gather t l (data.getD []))

theorem exec_wqEntryArrive_of_wanted {g : Fin 65536} {q : WqSt} {l : List Chunk} {s t : State} (data : Option (List Byte))
    (hq : s.wqAt g.val = some q) (hwanted : ¬ NoFetch s g.val q)
    (hxlate : xlate s q.fn (q.ring + 64 * (wqCi s q % 2 ^ q.logSize)) 64 (accLocal false) = (.ok l, t)) :
    let u := entryOnDie s t g.val q (readBytes t l data)
    exec (.wqEntryArrive g data) s = .next (pfSync ((if (wqCi s q + 1) % 2 ^ 32 = wqPi u q then
        { u with wq := { u.wq with order := u.wq.order.erase g.val } } else u).wri (bar2 q.fn) Reg.Bar2.WQ_CI q.idx (wqCi s q + 1))
      (engineOf g.val q)) := by
  have hgo : ¬ (clusterLost s q.cluster = true ∨ (s.fn q.fn).resetting = true ∨ wqCi s q = wqPi s q ∨
      q.prefetch ≤ q.fetched.length ∨ (!fetchRoom s (engineOf g.val q) g.val) = true) := by
    simpa only [Bool.not_eq_true', NoFetch] using hwanted
  show execWqEntryArrive g data s = _
  simp only [execWqEntryArrive, hq, if_neg hgo, hxlate]
  rfl

theorem exec_wqEntryArrive_of_unwanted {g : Fin 65536} {s : State} (data : Option (List Byte))
    (h : ∀ q ∈ s.wqAt g.val, NoFetch s g.val q) : exec (.wqEntryArrive g data) s = .next s := by
  show execWqEntryArrive g data s = _
  cases hq : s.wqAt g.val with
  | none => simp only [execWqEntryArrive, hq]
  | some q =>
    have hstop : clusterLost s q.cluster = true ∨ (s.fn q.fn).resetting = true ∨ wqCi s q = wqPi s q ∨
        q.prefetch ≤ q.fetched.length ∨ (!fetchRoom s (engineOf g.val q) g.val) = true := by
      simpa only [Bool.not_eq_true', NoFetch] using h q hq
    simp only [execWqEntryArrive, hq, if_pos hstop]

/-! ### FRAG_TABLE_READ_DONE (R283) -/

section Table
variable {g : Fin 65536} {q : WqSt} {x : Fetched} {rest : List Fetched} {b : List Byte} {s : State}
  (hq : s.wqAt g.val = some q) (hfetched : q.fetched = x :: rest) (hbytes : x.bytes = some b) (htable : x.table = none)
  (hkind : weKind b = 2)
include hq hfetched hbytes htable hkind

theorem exec_fragTableReadDone_misaligned (data : Option (List Byte)) (halign : leAt b 0x20 8 % 16 ≠ 0) :
    exec (.fragTableReadDone g data) s = .next (s.setWq g.val { q with fetched := { x with table := some none } :: rest }) := by
  show execFragTableReadDone g data s = _
  simp only [execFragTableReadDone, hq, hfetched, hbytes, htable, hkind, ne_eq, not_true, if_false, if_pos halign]

theorem exec_fragTableReadDone_read (d : List Byte) {va : Nat} {l : List Chunk} {t u : State} (halign : leAt b 0x20 8 % 16 = 0)
    (hkey : keyCheck s q.fn (leAt b 0x2C 4) (leAt b 0x20 8) (16 * weTblCount b) rLRead = (.ok va, t))
    (hxlate : xlate t q.fn va (16 * weTblCount b) { accLocal false with key := leAt b 0x2C 4 / 256 } = (.ok l, u))
    (hgood : gatherBad u l = false) :
    exec (.fragTableReadDone g (some d)) s = .next (u.setWq g.val { q with
      fetched := { x with table := some (some (tableOf (gather u l d) (weTblCount b))) } :: rest }) := by
  show execFragTableReadDone g (some d) s = _
  simp only [execFragTableReadDone, hq, hfetched, hbytes, htable, hkind, ne_eq, not_true, if_false, halign, hkey, hxlate, hgood,
    Option.isNone_some, Bool.false_and, Bool.or_self, Bool.false_eq_true, Option.getD_some]

end Table

/-- The oldest entry of the queue wants no table. -/
theorem exec_fragTableReadDone_of_none {g : Fin 65536} {s : State} (data : Option (List Byte))
    (h : ∀ q ∈ s.wqAt g.val, ∀ x ∈ q.fetched.head?, x.bytes = none ∨ x.table ≠ none ∨ ∀ b ∈ x.bytes, weKind b ≠ 2) :
    exec (.fragTableReadDone g data) s = .next s := by
  show execFragTableReadDone g data s = _
  unfold execFragTableReadDone
  split
  next => rfl
  next q hq =>
    split
    next => rfl
    next x rest hfetched =>
      split
      next b hbytes htable =>
        have hkind : weKind b ≠ 2 := by simpa [hbytes, htable] using h q hq x (by simp [hfetched])
        rw [if_pos hkind]
      next => rfl

/-! ### WQ_ENTRY_TAKE (R284, R292) -/

/-- A queue with nothing fetched, waiting for an INVALIDATE, in reset, or without room in its completion queue is not served. -/
theorem tryTake_of_ineligible {s : State} {g : Nat} {q : WqSt} (hq : s.wqAt g = some q)
    (h : q.fetched = [] ∨ q.waiting = true ∨ (s.fn q.fn).resetting = true ∨
      ∀ c ∈ s.cqAt (cqNo s q.fn q.cq), cqRoom s c 1 = false) : tryTake s g = (false, s) := by
  simp only [tryTake, hq]
  split
  next x rest c hfetched hc =>
    refine if_pos ?_
    rcases h with h | h | h | h
    · exact absurd (hfetched.symm.trans h) (by simp)
    · simp [h]
    · simp [h]
    · simp [h c hc]
  next => rfl

theorem checkEntry_of_unread {s : State} {g : Nat} {q : WqSt} {x : Fetched} (h : x.bytes = none) :
    checkEntry s g q x = (.fail stEntryFault, s) := by
  simp only [checkEntry, h]

theorem checkEntry_of_badFields {s : State} {g : Nat} {q : WqSt} {x : Fetched} {b : List Byte} (h : x.bytes = some b)
    (hcoll : weOp b ≠ 4) (hinv : weOp b ≠ 0x10) (hfields : weFields s b = false) :
    checkEntry s g q x = (.fail stBadEntry, s) := by
  simp only [checkEntry, h, if_neg hinv, if_neg hcoll, hfields, Bool.not_false, if_true]

/-- A WRITE, READ, SEND or NOTIFY with good fields goes on to its channel. -/
theorem checkEntry_of_chanOp {s : State} {g : Nat} {q : WqSt} {x : Fetched} {b : List Byte} (h : x.bytes = some b)
    (hop : weOp b ∈ [1, 2, 3, 5]) (hfields : weFields s b = true) : checkEntry s g q x = chanTake s g q x b := by
  have hne : weOp b ≠ 0x10 ∧ weOp b ≠ 4 ∧ weOp b ≠ 6 := by
    simp only [List.mem_cons, List.not_mem_nil, or_false] at hop
    omega
  obtain ⟨hinv, hcoll, htunnel⟩ := hne
  simp only [checkEntry, h, if_neg hinv, if_neg hcoll, if_neg htunnel, hfields, Bool.not_true, Bool.false_eq_true, if_false]

theorem chanTake_of_badChannel {s : State} {g : Nat} {q : WqSt} {x : Fetched} {b : List Byte}
    (h : clusterOf (weChan b) ≠ q.cluster ∨ ctxExists s (weChan b) = false) : chanTake s g q x b = (.fail stBadChannel, s) := by
  simp only [chanTake]
  exact if_pos (by simpa using h)

/-! ### INDEX_WRITEBACK (R280, R304) -/

theorem writeIndex_of_ok {s t : State} {f addr : Nat} {l : List Chunk} (v : Nat) (haddr : addr ≠ 0)
    (h : xlate s f addr 4 (accLocal true) = (.ok l, t)) : writeIndex s f addr v = (.ok l, scatter t l (leBytes v 4) false) := by
  simp only [writeIndex, if_neg haddr, h]

theorem writeIndex_of_fault {s t : State} {f addr : Nat} (v : Nat) (haddr : addr ≠ 0)
    (h : xlate s f addr 4 (accLocal true) = (.fault, t)) : writeIndex s f addr v = (.fault, t) := by
  simp only [writeIndex, if_neg haddr, h]

/-- The state in which `ci` has been written back for work queue `g`. -/
def wqWritten (s : State) (g ci : Nat) (q : WqSt) : State := s.setWq g { q with wbCi := ci, wbAt := some s.now }

theorem exec_indexWriteback_wq {g : Fin 65536} {q : WqSt} {s : State} (hq : s.wqAt g.val = some q) (hnew : wqCi s q ≠ q.wbCi)
    (hpause : within s q.wbAt 256 = false) :
    exec (.indexWriteback (.wq g)) s = .next (match writeIndex s q.fn q.wb (wqCi s q) with
      | (.wait, t) => t
      | (.ok _, t) => wqWritten t g.val (wqCi s q) q
      | (.fault, t) => wbFault (wqWritten t g.val (wqCi s q) q) q.fn q.idx false) := by
  show execIndexWriteback (.wq g) s = _
  simp only [execIndexWriteback, hq, hnew, hpause, Bool.false_eq_true, or_self, if_false]
  rcases writeIndex s q.fn q.wb (wqCi s q) with ⟨_ | _ | _, t⟩ <;> rfl

theorem exec_indexWriteback_cq_ok {g : Fin 65536} {x : CqSt} {l : List Chunk} {s t : State} (hx : s.cqAt g.val = some x)
    (hnew : cqPi s x ≠ x.wbPi) (hpause : within s x.wbAt 256 = false) (h : writeIndex s x.fn x.wb (cqPi s x) = (.ok l, t)) :
    exec (.indexWriteback (.cq g)) s = .next (cqFire (t.setCq g.val { x with wbPi := cqPi s x, wbAt := some t.now }) g.val) := by
  show execIndexWriteback (.cq g) s = _
  simp only [execIndexWriteback, hx, hnew, hpause, Bool.false_eq_true, or_self, if_false, h]

theorem exec_indexWriteback_wq_of_idle {g : Fin 65536} {s : State}
    (h : ∀ q ∈ s.wqAt g.val, wqCi s q = q.wbCi ∨ within s q.wbAt 256 = true) : exec (.indexWriteback (.wq g)) s = .next s := by
  show execIndexWriteback (.wq g) s = _
  cases hq : s.wqAt g.val with
  | none => simp only [execIndexWriteback, hq]
  | some q => simp only [execIndexWriteback, hq, if_pos (h q hq)]

theorem exec_indexWriteback_cq_of_idle {g : Fin 65536} {s : State}
    (h : ∀ x ∈ s.cqAt g.val, cqPi s x = x.wbPi ∨ within s x.wbAt 256 = true) : exec (.indexWriteback (.cq g)) s = .next s := by
  show execIndexWriteback (.cq g) s = _
  cases hx : s.cqAt g.val with
  | none => simp only [execIndexWriteback, hx]
  | some x => simp only [execIndexWriteback, hx, if_pos (h x hx)]

/-- Settles O31. A line is taken, read and applied at its own place; an entry joins those on die where one is wanted, its table is read
once, and its checks fail in their order; an index goes back where it changed and the last write-back is long enough ago. -/
theorem watchedLinesAndEntriesMove : Obligations.WatchedLinesAndEntriesMove := by
  unfold Obligations.WatchedLinesAndEntriesMove
  refine ⟨?snoop, ?hostLine, ?poolLine, ?readEnds, ?noRead, ?poll, ?pollOff, ?arrive, ?notWanted, ?tableMisaligned, ?table, ?noTable,
    ?take, ?takeStopped, ?ineligible, ?checks, ?wqBack, ?wqFault, ?cqBack, ?noBack⟩
  case snoop =>
    intro f a w s hline
    obtain ⟨hfn, haddr⟩ := lineAt_names hline
    rw [exec_watchedLineSnoop_of_line hline, lineTaken, hfn, haddr]
  case hostLine =>
    intro f a data w l s t hline hreading hhere hxlate hhost
    obtain ⟨hfn, haddr⟩ := lineAt_names hline
    rw [exec_watchedLineReadDone_of_reading data hline hreading hhere hxlate, hhost]
    simp only [lineGave_at hfn haddr, readFailed_iff]
  case poolLine =>
    intro f a data w l n s t hline hreading hhere hxlate hpool
    rw [exec_watchedLineReadDone_of_reading data hline hreading hhere hxlate, hpool]
  case readEnds =>
    intro w s hagain
    exact lineReadEnds_of_notAgain s hagain
  case noRead =>
    intro f a data s h
    exact exec_watchedLineReadDone_of_none data h
  case poll =>
    intro w s hperiod hlines
    show execWatchPollTimer s = _
    simp only [execWatchPollTimer, if_neg hperiod, hlines, List.foldl_cons, List.foldl_nil]
  case pollOff =>
    intro s hperiod
    exact if_pos hperiod
  case arrive =>
    intro g data q l s t hq hhere hrun hnew hahead hroom hxlate
    have hwanted : ¬ NoFetch s g.val q := by simp [NoFetch, hhere, hrun, hnew, hroom, hahead]
    have harrive := exec_wqEntryArrive_of_wanted data hq hwanted hxlate
    simp only [readBytes, readFailed_iff] at harrive
    exact harrive
  case notWanted =>
    intro g data s h
    exact exec_wqEntryArrive_of_unwanted data h
  case tableMisaligned =>
    intro g data q x rest b s hq hfetched hbytes htable hkind halign
    exact exec_fragTableReadDone_misaligned hq hfetched hbytes htable hkind data halign
  case table =>
    intro g d q x rest b va l s t u hq hfetched hbytes htable hkind halign hkey hxlate hgood
    exact exec_fragTableReadDone_read hq hfetched hbytes htable hkind d halign hkey hxlate hgood
  case noTable =>
    intro g data s h
    exact exec_fragTableReadDone_of_none data h
  case take =>
    intro e s hfatal
    exact if_neg (by simp [hfatal])
  case takeStopped =>
    intro e s hfatal
    exact if_pos hfatal
  case ineligible =>
    intro g q s hq h
    exact tryTake_of_ineligible hq h
  case checks =>
    intro s g q x b
    refine ⟨checkEntry_of_unread, checkEntry_of_badFields, fun hbytes hop hfields hchan => ?_⟩
    rw [checkEntry_of_chanOp hbytes hop hfields, chanTake_of_badChannel hchan]
  case wqBack =>
    intro g q l s t hq hnew hpause haddr hxlate
    rw [exec_indexWriteback_wq hq hnew hpause, writeIndex_of_ok _ haddr hxlate]
    rfl
  case wqFault =>
    intro g q s t hq hnew hpause haddr hxlate
    rw [exec_indexWriteback_wq hq hnew hpause, writeIndex_of_fault _ haddr hxlate]
    rfl
  case cqBack =>
    intro g x l s t hx hnew hpause haddr hxlate
    exact exec_indexWriteback_cq_ok hx hnew hpause (writeIndex_of_ok _ haddr hxlate)
  case noBack =>
    intro g s
    exact ⟨exec_indexWriteback_wq_of_idle, exec_indexWriteback_cq_of_idle⟩

end Sys2Proof.Machine
end

section
/-!
PROOFS. Matching (R53, R273, R278, R319, R321, R324 to R326, R330, R333, R335, R336, R342, R344, R345): what changing a domain touches,
receive entries taken, overflow moved on die, receives that complete, and domains enabled and disabled.
-/
namespace Sys2Proof.Machine

/-! ### A domain changed (R325, R342, R344) -/

/-- The domains' areas lie in the queue BARs, above the setup space. -/
theorem look_wri_below (s : State) (f j v : Nat) (g : Field) {k : Nat} (hk : k / 32 < bar2 0) :
    look (s.wri (bar2 f) g j v).regs k = look s.regs k := by
  refine State.look_wr_other _ _ _ _ _ ?_
  rintro rfl
  simp only [Field.key, bar2] at hk
  omega

/-- The state in which the matching unit's counts of entries on die are shown (R342). -/
def countsShown (s : State) : State :=
  (s.wr mtBase Reg.Mt.PR_ON_DIE (s.doms.foldl (fun m kv => m + (kv.2.posted.filter (·.onDie)).length) 0)).wr
    mtBase Reg.Mt.UX_ON_DIE (s.doms.foldl (fun m kv => m + (kv.2.ux.filter (·.onDie)).length) 0)

/-- The state in which the status registers of local domain `j` of function `f` show the domain `x` (R344). -/
def statusShown (s : State) (f j : Nat) (x : DomSt) : State :=
  let w := fun (t : State) (g : Field) (v : Nat) => t.wri (bar2 f) g j v
  w (w (w (w (w s Reg.Dom.DOM_STATUS_UX_SLOTS_USED x.slots.length) Reg.Dom.DOM_STATUS_PR_IN_OVF
    (b2n (x.posted.any (fun p => !p.onDie)))) Reg.Dom.DOM_STATUS_UX_IN_OVF (b2n (x.ux.any (fun u => !u.onDie))))
    Reg.Dom.DOM_STATUS_OVF_FULL (b2n (x.fullPost || x.fullHead))) Reg.Dom.OVF_USED x.ovf

theorem domSync_of_unowned {s : State} {d : Nat} (h : domOwner (countsShown s) d = none) : domSync s d = countsShown s := by
  unfold domSync
  extract_lets pr ux t
  have ht : domOwner t d = none := h
  simp only [ht]
  rfl

theorem domSync_of_owned {s : State} {d f j : Nat} (h : domOwner (countsShown s) d = some (f, j)) :
    domSync s d = statusShown (countsShown s) f j ((countsShown s).dom d) := by
  unfold domSync
  extract_lets pr ux t
  have ht : domOwner t d = some (f, j) := h
  simp only [ht]
  rfl

theorem countsShown_regsOnly (s : State) : RegsOnly s (countsShown s) := by
  simp only [countsShown, RegsOnly.wr, RegsOnly.self]

theorem statusShown_regsOnly (s : State) (f j : Nat) (x : DomSt) : RegsOnly s (statusShown s f j x) := by
  simp only [statusShown, State.wri, RegsOnly.wr, RegsOnly.self]

/-- Showing the status of a domain changes registers only. -/
theorem domSync_regsOnly (s : State) (d : Nat) : RegsOnly s (domSync s d) := by
  cases howner : domOwner (countsShown s) d with
  | none => rw [domSync_of_unowned howner]; exact countsShown_regsOnly s
  | some fj => rw [domSync_of_owned howner]; exact (countsShown_regsOnly s).trans (statusShown_regsOnly ..)

/-- Below the queue BARs only the two counts of entries on die are shown. -/
theorem look_domSync (s : State) (d : Nat) {k : Nat} (hk : k / 32 < bar2 0) (hpr : k ≠ Reg.Mt.PR_ON_DIE.key mtBase)
    (hux : k ≠ Reg.Mt.UX_ON_DIE.key mtBase) : look (domSync s d).regs k = look s.regs k := by
  have hcounts : look (countsShown s).regs k = look s.regs k :=
    (State.look_wr_other _ _ _ _ _ hux).trans (State.look_wr_other _ _ _ _ _ hpr)
  cases howner : domOwner (countsShown s) d with
  | none => rw [domSync_of_unowned howner, hcounts]
  | some fj => simp only [domSync_of_owned howner, statusShown, look_wri_below _ _ _ _ _ hk, hcounts]

/-- A domain changed is the domain stored, its full conditions reconsidered, and its status shown. -/
theorem State.setDom_eq_domSync (s : State) (d : Nat) (x : DomSt) : ∃ post head : Bool,
    s.setDom d x = domSync { s with doms := put s.doms d { x with fullPost := post, fullHead := head } } d := by
  unfold State.setDom
  extract_lets t
  cases howner : domOwner t d with
  | none => exact ⟨x.fullPost, x.fullHead, rfl⟩
  | some fj => exact ⟨_, _, congrArg (fun m => domSync { s with doms := m } d) (put_put_same ..)⟩

theorem State.setDom_doms (s : State) (d : Nat) (x : DomSt) : ∃ post head : Bool,
    (s.setDom d x).doms = put s.doms d { x with fullPost := post, fullHead := head } := by
  obtain ⟨post, head, hset⟩ := s.setDom_eq_domSync d x
  exact ⟨post, head, by rw [hset, (domSync_regsOnly _ d).doms_eq]⟩

/-- The domain holds what was stored but for its full conditions. -/
theorem State.dom_setDom_same (s : State) (d : Nat) (x : DomSt) : ∃ post head : Bool,
    (s.setDom d x).dom d = { x with fullPost := post, fullHead := head } := by
  obtain ⟨post, head, hdoms⟩ := s.setDom_doms d x
  exact ⟨post, head, by rw [State.dom, hdoms, lookD_put_same]⟩

theorem State.dom_setDom_other (s : State) (d : Nat) (x : DomSt) {e : Nat} (h : e ≠ d) : (s.setDom d x).dom e = s.dom e := by
  obtain ⟨post, head, hdoms⟩ := s.setDom_doms d x
  rw [State.dom, hdoms, lookD_put_other _ _ _ _ _ h, State.dom]

@[simp] theorem State.dom_wri (s : State) (b j v : Nat) (g : Field) (e : Nat) : (s.wri b g j v).dom e = s.dom e := rfl

@[simp] theorem State.dom_setDom_posted (s : State) (d : Nat) (x : DomSt) : ((s.setDom d x).dom d).posted = x.posted := by
  obtain ⟨post, head, hdom⟩ := s.dom_setDom_same d x
  rw [hdom]

@[simp] theorem State.dom_setDom_ux (s : State) (d : Nat) (x : DomSt) : ((s.setDom d x).dom d).ux = x.ux := by
  obtain ⟨post, head, hdom⟩ := s.dom_setDom_same d x
  rw [hdom]

@[simp] theorem State.dom_setDom_used (s : State) (d : Nat) (x : DomSt) : ((s.setDom d x).dom d).used = x.used := by
  obtain ⟨post, head, hdom⟩ := s.dom_setDom_same d x
  rw [hdom]

/-- What changed the domains and then registers only changed nothing else. -/
theorem RegsOnly.frame_of_doms {s t : State} {m : AMap DomSt} (h : RegsOnly { s with doms := m } t) :
    { t with doms := s.doms, regs := s.regs } = s :=
  congrArg (fun u : State => { u with doms := s.doms }) h

/-- A domain changed touches the domains and registers only. -/
theorem State.setDom_frame (s : State) (d : Nat) (x : DomSt) : { s.setDom d x with doms := s.doms, regs := s.regs } = s := by
  obtain ⟨post, head, hset⟩ := s.setDom_eq_domSync d x
  rw [hset]
  exact (domSync_regsOnly _ d).frame_of_doms

theorem State.look_setDom (s : State) (d : Nat) (x : DomSt) {k : Nat} (hk : k / 32 < bar2 0)
    (hpr : k ≠ Reg.Mt.PR_ON_DIE.key mtBase) (hux : k ≠ Reg.Mt.UX_ON_DIE.key mtBase) :
    look (s.setDom d x).regs k = look s.regs k := by
  obtain ⟨post, head, hset⟩ := s.setDom_eq_domSync d x
  rw [hset]
  exact look_domSync _ d hk hpr hux

/-! ### RQ_DOORBELL (R278, R344) -/

theorem exec_rqDoorbell_of_ready {f : Fin 1024} {j : Fin 256} {s : State} (v : BitVec 32) (hfatal : fatalStopped s = false)
    (hon : unitOff s .matching = false) (hready : fnReady s f.val = true)
    (hhas : j.val < s.rdi mtBase Reg.Mt.FN_DOM_DOM_COUNT f.val) :
    exec (.rqDoorbell f j v) s = .next (
      if indexGood v.toNat (drd s f.val j.val Reg.Dom.RQ_CI) (drd s f.val j.val Reg.Dom.RQ_PI)
          (drd s f.val j.val Reg.Dom.DOM_CFG_LOG_SIZE) then s.wri (bar2 f.val) Reg.Dom.RQ_PI j.val v.toNat
      else badIndex s f.val (countEngine (s.rdi mtBase Reg.Mt.FN_DOM_DOM_FIRST f.val + j.val)) j.val v.toNat false) := by
  show execRqDoorbell f j v s = _
  simp only [execRqDoorbell, hfatal, hon, hready, decide_eq_false (Nat.not_le.mpr hhas), Bool.not_true, Bool.or_self,
    Bool.false_eq_true, if_false]
  split <;> rfl

/-- Nothing of the function's domain may be touched: a fatal stop holds, the unit is off, or the function is not ready or has no such
domain. -/
def NoDomain (s : State) (f j : Nat) : Prop :=
  fatalStopped s = true ∨ unitOff s .matching = true ∨ fnReady s f = false ∨ s.rdi mtBase Reg.Mt.FN_DOM_DOM_COUNT f ≤ j

theorem exec_rqDoorbell_of_noDomain {f : Fin 1024} {j : Fin 256} {s : State} (v : BitVec 32) (h : NoDomain s f.val j.val) :
    exec (.rqDoorbell f j v) s = .next s := by
  show execRqDoorbell f j v s = _
  rcases h with h | h | h | h <;> simp [execRqDoorbell, h]

/-! ### RECV_ENTRY_TAKE (R319, R321, R335) -/

theorem readBytes_of_failed {t : State} {l : List Chunk} {data : Option (List Byte)}
    (h : gatherBad t l = true ∨ (data = none ∧ outside l = true)) : readBytes t l data = none :=
  if_pos (readFailed_iff.mpr h)

theorem readBytes_of_good {t : State} {l : List Chunk} {data : Option (List Byte)} (hgood : gatherBad t l = false)
    (hdata : data.isSome = true) : readBytes t l data = some (gather t l (data.getD [])) := by
  obtain ⟨b, rfl⟩ := Option.isSome_iff_exists.mp hdata
  simp [readBytes, hgood]

/-- What becomes of the receive entry at index `i`, read or not, by its KIND (R319). -/
def recvTaken (t : State) (d f j i : Nat) : Option (List Byte) → State
  | none => endRecv (takeSlot t f j i) d kTaggedRecv stEntryFault i 0
  | some b =>
    if reKind b = 1 then tpSyncAll (payFins (takePost t d f j i b))
    else if reKind b = 2 then
      if 2 ^ 31 < reLen b then endRecv (takeSlot t f j i) d kRecvCancel stBadRecv i (reCancel b) else takeCancel t d f j i b
    else endRecv (takeSlot t f j i) d kTaggedRecv stBadRecv i 0

theorem exec_recvEntryTake_of_waiting {d : Fin 4096} {f j : Nat} {q : CqSt} {l : List Chunk} {s t : State}
    (data : Option (List Byte)) (hon : unitOff s .matching = false) (howner : domOwner s d.val = some (f, j))
    (hready : fnReady s f = true) (hdom : domOn s f j = true) (hentry : drd s f j Reg.Dom.RQ_CI ≠ drd s f j Reg.Dom.RQ_PI)
    (hq : s.cqAt (cqNo s f (drd s f j Reg.Dom.DOM_CFG_CQ)) = some q) (hroom : cqRoom s q 1 = true)
    (hxlate : xlate s f (drd64 s f j Reg.Dom.RQ_BASE_LO Reg.Dom.RQ_BASE_HI +
      64 * (drd s f j Reg.Dom.RQ_CI % 2 ^ drd s f j Reg.Dom.DOM_CFG_LOG_SIZE)) 64 (accLocal false) = (.ok l, t)) :
    exec (.recvEntryTake d data) s = .next (recvTaken t d.val f j (drd s f j Reg.Dom.RQ_CI) (readBytes t l data)) := by
  show execRecvEntryTake d data s = _
  simp only [execRecvEntryTake, hon, howner, hready, hdom, beq_eq_false_iff_ne.mpr hentry, hq, Option.map_some, Option.getD_some,
    hroom, Bool.not_true, Bool.or_self, Bool.false_eq_true, if_false, hxlate, readBytes]
  by_cases hfailed : (gatherBad t l || (data.isNone && outside l)) = true
  · simp only [if_pos hfailed, recvTaken]
  · simp only [if_neg hfailed, recvTaken, apply_ite Host.Outcome.next]

/-- The domain has no entry to take. -/
theorem exec_recvEntryTake_of_none {d : Fin 4096} {s : State} (data : Option (List Byte))
    (h : unitOff s .matching = true ∨ (∀ fj ∈ domOwner s d.val, fnReady s fj.1 = false ∨ domOn s fj.1 fj.2 = false ∨
        drd s fj.1 fj.2 Reg.Dom.RQ_CI = drd s fj.1 fj.2 Reg.Dom.RQ_PI)) : exec (.recvEntryTake d data) s = .next s := by
  show execRecvEntryTake d data s = _
  rcases h with hoff | hidle
  · simp [execRecvEntryTake, hoff]
  · cases howner : domOwner s d.val with
    | none => simp [execRecvEntryTake, howner]
    | some fj => rcases hidle fj howner with h | h | h <;> simp [execRecvEntryTake, howner, h]

@[simp] theorem cqReserve_doms (s : State) (g n : Nat) : (cqReserve s g n).doms = s.doms := by
  simp only [cqReserve]
  split <;> rfl

@[simp] theorem takeSlot_dom (s : State) (f j i d : Nat) : (takeSlot s f j i).dom d = s.dom d := by
  simp [State.dom, takeSlot, State.wri]

@[simp] theorem countSearch_dom (s : State) (d e : Nat) (reached : Bool) : (countSearch s d reached).dom e = s.dom e := by
  have hcount : ∀ (t : State) (code : Nat), (cntCM t .matching code 1 none (some d)).doms = t.doms :=
    fun t _ => (countEv_regsOnly t _ _).doms_eq
  have hdoms : (countSearch s d reached).doms = s.doms := by
    simp only [countSearch]
    split
    · simp only [hcount, State.bump, State.add, State.wr_doms]
    · exact hcount s 0x100
  rw [State.dom, hdoms, State.dom]

/-- A zero-length entry that matches no message waits at the end of the posted list, with the next sequence number. -/
theorem takePost_filed {s : State} {d f j i : Nat} {b : List Byte}
    (hunmatched : findUx (s.dom d) (postOf b (s.dom d).postSeq i) = none) (hroom : postRoom s d f j = some true)
    (hlen : reLen b = 0) (hux : ∀ u ∈ (s.dom d).ux, u.onDie = true) :
    takePost s d f j i b = cntCM (((countSearch (takeSlot s f j i) d false).setDom d { s.dom d with
      fullPost := false
      posted := (s.dom d).posted ++
        [{ postOf b (s.dom d).postSeq i with va := (postOf b (s.dom d).postSeq i).addr, onDie := true }]
      postSeq := ((s.dom d).postSeq + 1) % 2 ^ 32 }).bump mtBase Reg.Mt.POST_FILED_CNT) .matching 0x105 1 none (some d) := by
  have hzero : (postOf b (s.dom d).postSeq i).len = 0 := hlen
  have hshort : ¬ 2 ^ 31 < (postOf b (s.dom d).postSeq i).len := by omega
  have hreached : (s.dom d).ux.any (fun u => !u.onDie) = false := by simpa using hux
  simp only [takePost, hunmatched, hroom, hreached, Option.isNone_none, Option.getD_some, countSearch_dom, takeSlot_dom, if_pos hzero,
    if_neg hshort, reduceCtorEq, and_false, if_false, if_true]

/-- A cancel of a posted entry removes it and completes both. -/
theorem takeCancel_posted {s : State} {d i : Nat} {b : List Byte} {p : PostEnt} (f j : Nat)
    (h : (s.dom d).posted.find? (fun p => p.index == reCancel b) = some p) :
    takeCancel s d f j i b = endRecv (completeRecv ((takeSlot s f j i).setDom d { s.dom d with posted := (s.dom d).posted.erase p })
      d kTaggedRecv 0x24 p.index 0 0 0 0 0) d kRecvCancel 0 i (reCancel b) := by
  simp only [takeCancel, takeSlot_dom, h]

theorem takeCancel_unposted {s : State} {d i : Nat} {b : List Byte} (f j : Nat)
    (h : ∀ p ∈ (s.dom d).posted, p.index ≠ reCancel b) :
    takeCancel s d f j i b = endRecv (takeSlot s f j i) d kRecvCancel 0x26 i (reCancel b) := by
  have hnone : (s.dom d).posted.find? (fun p => p.index == reCancel b) = none := by simpa [List.find?_eq_none] using h
  simp only [takeCancel, takeSlot_dom, hnone]

/-! ### OVERFLOW_MOVE (R324) -/

/-- Entry `i` of the posted list as a move leaves it, which has brought the first `n` on die. -/
def postMoved (n i : Nat) (p : PostEnt) : PostEnt := { p with onDie := p.onDie || decide (i < n) }

/-- Entry `i` of the unexpected list as a move leaves it, which has brought the first `n` on die. -/
def uxMoved (n i : Nat) (u : UxEnt) : UxEnt := { u with onDie := u.onDie || decide (i < n) }

theorem moveOverflow_eq_setDom (s : State) (d : Nat) : ∃ n m : Nat, moveOverflow s d = s.setDom d { s.dom d with
    posted := (s.dom d).posted.mapIdx (postMoved n), ux := (s.dom d).ux.mapIdx (uxMoved m) } := by
  unfold moveOverflow
  extract_lets x allP allU ownP ownU roomP roomU
  exact ⟨ownP + roomP, ownU + roomU, rfl⟩

/-- What does not see a change that depends on the place sees a list as it was. -/
theorem map_mapIdx_eq_map {α β : Type} {g : α → β} {h : Nat → α → α} (hsame : ∀ i a, g (h i a) = g a) (l : List α) :
    (l.mapIdx h).map g = l.map g := by
  refine List.ext_getElem? (fun i => ?_)
  simp [Function.comp_def, hsame]

theorem onDie_postMoved {l : List PostEnt} (n i : Nat) (h : (l[i]?).any (fun p => p.onDie) = true) :
    ((l.mapIdx (postMoved n))[i]?).any (fun p => p.onDie) = true := by
  rw [List.getElem?_mapIdx]
  cases hentry : l[i]? with
  | none => simp [hentry] at h
  | some p =>
    have honDie : p.onDie = true := by simpa [hentry] using h
    simp [postMoved, honDie]

/-! ### Receives that complete (R330, R333, R334) -/

theorem exec_eagerRecvDone_of_arrived {d : Fin 4096} {index : BitVec 32} {b : BoundEnt} {s : State}
    (hon : unitOff s .matching = false)
    (h : (s.dom d.val).bound.find? (fun b => b.index == index.toNat && !b.rts && b.slot.isNone && b.arrived) = some b) :
    exec (.eagerRecvDone d index) s = .next (if msgHidden s b then s else endBound s d.val b (recvStatus b)) := by
  show execEagerRecvDone d index s = _
  simp only [execEagerRecvDone, hon, h, Bool.false_eq_true, if_false]
  split <;> rfl

theorem exec_eagerRecvDone_of_none {d : Fin 4096} {index : BitVec 32} {s : State}
    (h : unitOff s .matching = true ∨ (∀ b ∈ (s.dom d.val).bound, b.index ≠ index.toNat)) :
    exec (.eagerRecvDone d index) s = .next s := by
  show execEagerRecvDone d index s = _
  rcases h with hoff | hunbound
  · exact if_pos hoff
  · have hnone : (s.dom d.val).bound.find? (fun b => b.index == index.toNat && !b.rts && b.slot.isNone && b.arrived) = none :=
      List.find?_eq_none.mpr (fun b hb => by simp [hunbound b hb])
    simp only [execEagerRecvDone, hnone, ite_self]

theorem exec_uxCopyDone_of_none {d : Fin 4096} {index : BitVec 32} {s : State} (data : Option (List Byte))
    (h : unitOff s .matching = true ∨ (∀ b ∈ (s.dom d.val).bound, b.index ≠ index.toNat)) :
    exec (.uxCopyDone d index data) s = .next s := by
  show execUxCopyDone d index data s = _
  rcases h with hoff | hunbound
  · exact if_pos hoff
  · have hnone : (s.dom d.val).bound.find? (fun b => b.index == index.toNat && !b.rts && b.arrived) = none :=
      List.find?_eq_none.mpr (fun b hb => by simp [hunbound b hb])
    simp only [execUxCopyDone, hnone, ite_self]

/-- The bytes kept go from the slot to the receive buffer, both translations being there. -/
theorem exec_uxCopyDone_of_copied {d : Fin 4096} {index : BitVec 32} {data : Option (List Byte)} {b : BoundEnt} {f j slot : Nat}
    {l w : List Chunk} {s t u : State} (hon : unitOff s .matching = false)
    (hb : (s.dom d.val).bound.find? (fun b => b.index == index.toNat && !b.rts && b.arrived) = some b)
    (howner : domOwner s d.val = some (f, j)) (hslot : b.slot = some slot) (hseen : msgHidden s b = false)
    (hlen : 0 < Nat.min b.msgLen b.len)
    (hread : xlate s f (drd64 s f j Reg.Dom.UX_BASE_LO Reg.Dom.UX_BASE_HI + 8192 * slot) (Nat.min b.msgLen b.len)
      (accLocal false) = (.ok l, t)) (hgood : gatherBad t l = false) (hdata : data.isSome = true)
    (hwrite : xlate t f b.va (Nat.min b.msgLen b.len) (accLocal true) = (.ok w, u)) :
    exec (.uxCopyDone d index data) s =
      .next (endBound (scatter u w (gather u l (data.getD [])) false) d.val b (recvStatus b)) := by
  have hdata' : data.isNone = false := by simpa [Option.isNone_eq_false_iff] using hdata
  show execUxCopyDone d index data s = _
  simp only [execUxCopyDone, hon, hb, howner, hslot, hseen, if_neg (Nat.ne_of_gt hlen), hread, hgood, hdata', hwrite,
    Bool.false_and, Bool.or_self, Bool.false_eq_true, if_false]

/-- The job is a rendezvous job. -/
def rndvJob (k : Job) : Bool := match k.src with
  | .rndv .. => true
  | _ => false

/-- The status with which the receive of a rendezvous job completes (R333, R334). -/
def rndvStatus (k : Job) (b : BoundEnt) : Nat :=
  if k.killed then 0x22 else if k.poison then stPoisoned else if k.writeFault then stLocalWrite else recvStatus b

/-- The status of the RNDV_FIN that follows (R316, R334). -/
def rndvFin (k : Job) (b : BoundEnt) : Nat :=
  if k.killed then 2 else if k.poison || k.writeFault then 3 else if b.len < b.msgLen then 1 else 0

/-- A write fault of the job and one of the receive are one status. -/
theorem rndvStatus_eq (k : Job) (b : BoundEnt) : rndvStatus k b =
    if k.killed = true then 0x22 else if k.poison = true then 0x11 else if k.writeFault = true ∨ b.fault = true then 0x12
      else if b.len < b.msgLen then 0x23 else 0 := by
  simp only [rndvStatus, recvStatus, stPoisoned, stLocalWrite]
  by_cases hjob : k.writeFault = true <;> by_cases hrecv : b.fault = true <;> simp [hjob, hrecv]

theorem exec_rndvJobDone_of_job {ch : Fin 1048576} {x : ChanSt} {k : Job} {d i : Nat} {b : BoundEnt} {s : State}
    (hx : s.chanAny ch.val = some x) (hk : x.jobs.find? (fun k => jobReady x k && rndvJob k) = some k) (hsrc : k.src = .rndv d i)
    (hb : (s.dom d).bound.find? (fun b => b.index == i && b.rts && b.ch == ch.val) = some b) :
    exec (.rndvJobDone ch) s = .next (tpEnd (addFin (endBound (s.setChan ch.val { x with jobs := x.jobs.filter (· != k) }) d b
      (rndvStatus k b)) ch.val (rndvFin k b) b.psn k.len) (clusterOf ch.val)) := by
  have hb' : ((s.setChan ch.val { x with jobs := x.jobs.filter (· != k) }).dom d).bound.find?
      (fun b => b.index == i && b.rts && b.ch == ch.val) = some b := hb
  show execRndvJobDone ch s = _
  simp only [execRndvJobDone, hx]
  split
  next hnone => exact absurd (hk.symm.trans hnone) (by simp)
  next k' hsome =>
    obtain rfl : k = k' := Option.some.inj (hk.symm.trans hsome)
    simp only [hsrc, hb']
    rfl

theorem exec_rndvJobDone_of_none {ch : Fin 1048576} {s : State} (h : ∀ x ∈ s.chanAny ch.val, x.jobs = []) :
    exec (.rndvJobDone ch) s = .next s := by
  show execRndvJobDone ch s = _
  cases hx : s.chanAny ch.val with
  | none => simp only [execRndvJobDone, hx]
  | some x => simp only [execRndvJobDone, hx, h x hx, List.find?_nil]

/-! ### Enabling and disabling a domain (R336, R344, R345) -/

theorem exec_domainEnable_of_dom {f : Fin 1024} {j : Fin 256} {d : Nat} {s : State} (w : BitVec 32) (hfatal : fatalStopped s = false)
    (hon : unitOff s .matching = false) (hd : domOfLocal s f.val j.val = some d) :
    exec (.domainEnable f j w) s = .next (
      if domOn s f.val j.val then s else domEnable (domCfgWord s f.val j.val d w.toNat) f.val j.val d) := by
  show execDomainEnable f j w s = _
  simp only [execDomainEnable, hfatal, hon, hd, Bool.or_self, Bool.false_eq_true, if_false]
  split <;> rfl

theorem exec_domainDisable_of_dom {f : Fin 1024} {j : Fin 256} {d : Nat} {s : State} (w : BitVec 32) (hfatal : fatalStopped s = false)
    (hon : unitOff s .matching = false) (hd : domOfLocal s f.val j.val = some d) :
    exec (.domainDisable f j w) s = .next (
      if domOn s f.val j.val then tpSyncAll (payFins (domReset s d))
      else domCfgWord (s.setDom d { s.dom d with enabling := false }) f.val j.val d w.toNat) := by
  show execDomainDisable f j w s = _
  simp only [execDomainDisable, hfatal, hon, hd, Bool.or_self, Bool.false_eq_true, if_false]
  split <;> rfl

theorem domOfLocal_eq_none {s : State} {f j : Nat} (h : fnReady s f = false ∨ s.rdi mtBase Reg.Mt.FN_DOM_DOM_COUNT f ≤ j) :
    domOfLocal s f j = none := by
  rcases h with h | h <;> simp [domOfLocal, h]

theorem exec_domainEnable_of_noDomain {f : Fin 1024} {j : Fin 256} {s : State} (w : BitVec 32) (h : NoDomain s f.val j.val) :
    exec (.domainEnable f j w) s = .next s := by
  show execDomainEnable f j w s = _
  rcases h with h | h | h
  · simp [execDomainEnable, h]
  · simp [execDomainEnable, h]
  · simp [execDomainEnable, domOfLocal_eq_none h]

theorem exec_domainDisable_of_noDomain {f : Fin 1024} {j : Fin 256} {s : State} (w : BitVec 32) (h : NoDomain s f.val j.val) :
    exec (.domainDisable f j w) s = .next s := by
  show execDomainDisable f j w s = _
  rcases h with h | h | h
  · simp [execDomainDisable, h]
  · simp [execDomainDisable, h]
  · simp [execDomainDisable, domOfLocal_eq_none h]

theorem drd_wri_same (s : State) (f j v : Nat) (g : Field) : drd (s.wri (bar2 f) g j v) f j g = v % 2 ^ g.width :=
  State.rd_wr_same ..

/-- CFG_ERR stands in another word than EN. -/
theorem drd_en_wri_cfgErr (s : State) (f j v : Nat) :
    drd (s.wri (bar2 f) Reg.Dom.DOM_STATUS_CFG_ERR j v) f j Reg.Dom.DOM_CFG_EN = drd s f j Reg.Dom.DOM_CFG_EN := by
  refine State.rd_wr_other _ _ _ _ _ _ ?_
  simp only [Field.key, Reg.Dom.DOM_STATUS_CFG_ERR, Reg.Dom.DOM_CFG_EN, fld, Field.arr, if_true]
  omega

/-- The state in which the domain is enabled. -/
def domEnabled (s : State) (f j d : Nat) : State :=
  ((s.setDom d { s.dom d with enabling := false, used := true }).wri (bar2 f) Reg.Dom.DOM_CFG_EN j 1).wri (bar2 f)
    Reg.Dom.DOM_STATUS_CFG_ERR j 0

/-- A domain whose queue and ranges pass is enabled. -/
theorem domEnable_of_good {s t : State} {f j : Nat} {q : CqSt} (d : Nat) (hq : localCq s f (drd s f j Reg.Dom.DOM_CFG_CQ) = some q)
    (halign : drd64 s f j Reg.Dom.RQ_BASE_LO Reg.Dom.RQ_BASE_HI % (64 * 2 ^ drd s f j Reg.Dom.DOM_CFG_LOG_SIZE) = 0)
    (hranges : rangesGood s f (domRanges s f j) = (some true, t)) : domEnable s f j d = domEnabled t f j d := by
  simp only [domEnable, hq, halign, hranges, Option.isNone_some, bne_self_eq_false, Bool.or_self, Bool.false_eq_true, if_false, domEnabled]

theorem domEnabled_reads (s : State) (f j d : Nat) : drd (domEnabled s f j d) f j Reg.Dom.DOM_CFG_EN = 1 ∧
    drd (domEnabled s f j d) f j Reg.Dom.DOM_STATUS_CFG_ERR = 0 ∧ ((domEnabled s f j d).dom d).used = true :=
  ⟨(drd_en_wri_cfgErr ..).trans (drd_wri_same ..), drd_wri_same ..,
    by simp only [domEnabled, State.dom_wri, State.dom_setDom_used]⟩

/-- A domain whose queue does not exist or whose ring is not aligned is refused. -/
theorem domEnable_of_bad {s : State} {f j : Nat} (d : Nat) (h : localCq s f (drd s f j Reg.Dom.DOM_CFG_CQ) = none ∨
    drd64 s f j Reg.Dom.RQ_BASE_LO Reg.Dom.RQ_BASE_HI % (64 * 2 ^ drd s f j Reg.Dom.DOM_CFG_LOG_SIZE) ≠ 0) :
    domEnable s f j d = enableFail s f j d :=
  if_pos (by simpa using h)

/-! ### MATCH_CNT_CLR (R342) -/

/-- The counters of the matching unit. -/
def matchCounters : List Field :=
  [Reg.Mt.HEAD_BOUND_CNT, Reg.Mt.HEAD_FILED_CNT, Reg.Mt.POST_BOUND_CNT, Reg.Mt.POST_FILED_CNT, Reg.Mt.OVF_SEARCH_CNT,
   Reg.Mt.RNDV_JOB_CNT, Reg.Mt.TRUNC_CNT, Reg.Mt.CANCEL_CNT, Reg.Mt.NOSPACE_NAK_CNT, Reg.Mt.FIN_STALE_CNT,
   Reg.Mt.RQ_STALL_CNT, Reg.Mt.ABORT_CNT]

theorem matchCntClr_clears {s : State} {r : Route} (h : Takes s r (mtBase + 0x4C)) :
    Ends (exec (.matchCntClr r) s) (Clears (fun k => ∃ f ∈ matchCounters, k = f.key mtBase) s) :=
  ⟨_, congrArg Host.Outcome.next (guarded_of_takes _ h), Clears.clearAll s mtBase matchCounters⟩

/-- Settles O33. A doorbell passes its ring's test or is counted; an entry taken goes by its KIND; a move changes only where entries
stand; a receive ends with the status of its bytes; a domain is enabled where its queue and ranges pass. -/
theorem receiveEntriesAreFiledBoundOrRefused : Obligations.ReceiveEntriesAreFiledBoundOrRefused := by
  unfold Obligations.ReceiveEntriesAreFiledBoundOrRefused
  refine ⟨?doorbell, ?noDomain, ?take, ?noEntry, ?filed, ?cancelled, ?notPosted, ?move, ?moveOff, ?eager, ?unbound, ?copied, ?rndv,
    ?noJob, ?enable, ?enabled, ?refused, fun d s => rfl, ?cntClr⟩
  case doorbell =>
    intro f j v s hfatal hon hready hhas
    simp only [exec_rqDoorbell_of_ready v hfatal hon hready hhas, indexGood_iff]
    rfl
  case noDomain =>
    intro f j v w i s hnone hi
    simp only [List.mem_cons, List.not_mem_nil, or_false] at hi
    rcases hi with rfl | rfl | rfl
    · exact exec_rqDoorbell_of_noDomain v hnone
    · exact exec_domainEnable_of_noDomain w hnone
    · exact exec_domainDisable_of_noDomain w hnone
  case take =>
    intro d data f j q l s t hon howner hready hdom hentry hq hroom hxlate i b
    have htake := exec_recvEntryTake_of_waiting data hon howner hready hdom hentry hq hroom hxlate
    refine ⟨fun hfailed => ?unread, fun hgood hdata hkind => ?post, fun hgood hdata hkind hlen => ?cancel,
      fun hgood hdata hpost hcancel => ?other⟩
    case unread => rw [htake, readBytes_of_failed hfailed]; rfl
    case post => rw [htake, readBytes_of_good hgood hdata, recvTaken, if_pos hkind]
    case cancel =>
      have hpost : ¬ reKind b = 1 := by omega
      rw [htake, readBytes_of_good hgood hdata, recvTaken, if_neg hpost, if_pos hkind, if_neg (Nat.not_lt.mpr hlen)]
    case other => rw [htake, readBytes_of_good hgood hdata, recvTaken, if_neg hpost, if_neg hcancel]
  case noEntry =>
    intro d data s h
    exact exec_recvEntryTake_of_none data h
  case filed =>
    intro s d f j i b hunmatched hroom hlen hux u
    rw [takePost_filed hunmatched hroom hlen hux, show u.dom d = s.dom d by simp [u]]
  case cancelled =>
    intro s d f j i b p h
    exact takeCancel_posted f j h
  case notPosted =>
    intro s d f j i b h
    exact takeCancel_unposted f j h
  case move =>
    intro d s hon
    obtain ⟨n, m, hmove⟩ := moveOverflow_eq_setDom s d.val
    refine ⟨moveOverflow s d.val, if_neg (by simp [hon]), ?_⟩
    rw [hmove]
    refine ⟨?posted, ?ux, fun i honDie => ?onDie, fun e he => State.dom_setDom_other s d.val _ he,
      fun k hk hpr hux => State.look_setDom s d.val _ hk hpr hux, State.setDom_frame s d.val _⟩
    case posted => rw [State.dom_setDom_posted]; exact map_mapIdx_eq_map (h := postMoved n) (fun _ _ => rfl) _
    case ux => rw [State.dom_setDom_ux]; exact map_mapIdx_eq_map (h := uxMoved m) (fun _ _ => rfl) _
    case onDie => rw [State.dom_setDom_posted]; exact onDie_postMoved n i honDie
  case moveOff =>
    intro d s hoff
    exact if_pos hoff
  case eager =>
    intro d index b s hon hb
    exact exec_eagerRecvDone_of_arrived hon hb
  case unbound =>
    intro d index data s h
    exact ⟨exec_eagerRecvDone_of_none h, exec_uxCopyDone_of_none data h⟩
  case copied =>
    intro d index data b f j slot l w s t u hon hb howner hslot hseen hlen hread hgood hdata hwrite
    exact exec_uxCopyDone_of_copied hon hb howner hslot hseen hlen hread hgood hdata hwrite
  case rndv =>
    intro ch x k d i b s hx hk hsrc hb status fin
    have hfin : rndvFin k b = fin := by simp only [rndvFin, Bool.or_eq_true, fin]
    rw [exec_rndvJobDone_of_job hx hk hsrc hb, rndvStatus_eq, hfin]
  case noJob =>
    intro ch s h
    exact exec_rndvJobDone_of_none h
  case enable =>
    intro f j w d s hfatal hon hd
    rw [exec_domainEnable_of_dom w hfatal hon hd, exec_domainDisable_of_dom w hfatal hon hd]
    refine ⟨fun hoff => ?_, fun hdom => ?_⟩
    · simp only [hoff, Bool.false_eq_true, if_false, and_self]
    · simp only [hdom, if_true, and_self]
  case enabled =>
    intro s t f j d q hq halign hranges
    rw [domEnable_of_good d hq halign hranges]
    exact domEnabled_reads t f j d
  case refused =>
    intro s f j d h
    rw [domEnable_of_bad d h]
    exact drd_wri_same ..
  case cntClr =>
    intro r s htakes
    obtain ⟨t, hexec, hclears⟩ := matchCntClr_clears htakes
    refine ⟨t, hexec, fun c hc => hclears.rd_zero ⟨c, hc, rfl⟩, hclears.regsOnly, fun k hk => hclears.other k ?_⟩
    rintro ⟨f, hf, rfl⟩
    exact hk (List.mem_map_of_mem hf)

end Sys2Proof.Machine
end

section
/-!
PROOFS. Compass (R379, R380, R389 to R391, R395, R397 to R400, R404): the key commands by the tests that they pass, what comes back
for keys, walks and INVALIDATEs, and the clear actions.
-/
namespace Sys2Proof.Machine

/-! ### What GO leaves to read (R379, R404) -/

/-- Two fields in different words have different keys. -/
theorem Field.key_ne_of_word {b c : Nat} {f g : Field} (hword : c + g.off ≠ b + f.off) (hf : f.lo < 32) (hg : g.lo < 32) :
    g.key c ≠ f.key b := by
  simp only [Field.key]
  omega

/-- The state in which KEY_CMD.OP shows the command. -/
def opShown (s : State) (f op : Nat) : State := s.wr (bar2 f) Reg.KeyBar.KEY_CMD_OP op

theorem rd_opShown (s : State) (f op : Nat) {b : Nat} {g : Field} (hword : b + g.off ≠ bar2 f + 0x300) (hlo : g.lo < 32) :
    (opShown s f op).rd b g = s.rd b g :=
  State.rd_wr_other _ _ _ _ _ _ (Field.key_ne_of_word hword (by decide) hlo)

/-- Compass's window lies below the queue BARs. -/
theorem rd_xl_opShown (s : State) (f op : Nat) {k : Nat} {g : Field} (hbelow : k + g.off < 0x100000) (hlo : g.lo < 32) :
    (opShown s f op).rd (xlBase + k) g = s.rd (xlBase + k) g := by
  refine rd_opShown s f op ?_ hlo
  simp only [bar2, xlBase, base]
  omega

theorem rd_cmdKey_opShown (s : State) (f op : Nat) :
    (opShown s f op).rd (bar2 f) Reg.KeyBar.KEY_CMD_KEY = s.rd (bar2 f) Reg.KeyBar.KEY_CMD_KEY :=
  rd_opShown s f op (by simp [Reg.KeyBar.KEY_CMD_KEY, fld]) (by decide)

theorem keyEn_opShown (s : State) (f op : Nat) : (opShown s f op).on xlBase Reg.Xl.KEY_CFG_EN = s.on xlBase Reg.Xl.KEY_CFG_EN :=
  congrArg (· != 0) (rd_xl_opShown s f op (k := 0) (by decide) (by decide))

theorem keyInRange_opShown (s : State) (f : Fin 1024) (op i : Nat) : keyInRange (opShown s f.val op) f.val i = keyInRange s f.val i := by
  have hentries : (opShown s f.val op).rd xlBase Reg.Xl.KEY_ENTRIES = s.rd xlBase Reg.Xl.KEY_ENTRIES :=
    rd_xl_opShown s f.val op (k := 0) (by decide) (by decide)
  have hfn : ∀ g : Field, g.off < 0x2000 → g.stride = 0x20 → g.lo < 32 →
      (opShown s f.val op).rdi xlBase g f.val = s.rdi xlBase g f.val := fun g hoff hstride hlo =>
    rd_xl_opShown s f.val op (by rw [hstride]; omega) hlo
  simp only [keyInRange, hentries, hfn Reg.FnXl.KEY_FIRST (by decide) (by decide) (by decide),
    hfn Reg.FnXl.KEY_COUNT (by decide) (by decide) (by decide)]

theorem keyImage_opShown (s : State) (f op : Nat) : keyImage (opShown s f op) f = keyImage s f := by
  have hword : ∀ i, (opShown s f op).rdi (bar2 f) Reg.KeyBar.KEY_IMAGE i = s.rdi (bar2 f) Reg.KeyBar.KEY_IMAGE i := by
    intro i
    refine rd_opShown s f op ?_ (by decide)
    simp only [Reg.KeyBar.KEY_IMAGE, fld, Field.arr, if_true]
    omega
  simp only [keyImage, hword]

theorem keyTable_opShown (s : State) (f op : Nat) : keyTable (opShown s f op) = keyTable s := by
  have hword : ∀ g : Field, g.off < 0x100 → g.lo < 32 → (opShown s f op).rd xlBase g = s.rd xlBase g :=
    fun g hoff hlo => rd_xl_opShown s f op (k := 0) (by omega) hlo
  simp only [keyTable, State.rd64, hword Reg.Xl.KEY_TABLE_BASE_LO (by decide) (by decide),
    hword Reg.Xl.KEY_TABLE_BASE_HI (by decide) (by decide)]

theorem keyPlace_opShown (s : State) (f op i : Nat) : keyPlace (opShown s f op) i = keyPlace s i := by
  simp only [keyPlace, keyTable_opShown]
  rfl

theorem keyStored_opShown (s : State) (f op i : Nat) : keyStored (opShown s f op) i = keyStored s i := by
  simp only [keyStored, keyPlace_opShown, keyTable_opShown]
  rfl

/-- An entry that can be read can be accessed. -/
theorem keyPlace_of_stored {s : State} {i : Nat} {k : KeyEnt} (h : keyStored s i = some k) : keyPlace s i = true := by
  cases hplace : keyPlace s i with
  | true => rfl
  | false => simp [keyStored, hplace] at h

/-! ### Key commands by the tests that they pass (R379, R404) -/

theorem keyCmd_of_idle {s : State} {f : Nat} (op : Nat)
    (h : fnReady s f = false ∨ s.on (bar2 f) Reg.KeyBar.KEY_STATUS_BUSY = true) : keyCmd s f op = s :=
  if_pos (by simpa using h)

/-- The index that a key command names. -/
def cmdIndex (s : State) (f : Nat) : Nat := s.rd (bar2 f) Reg.KeyBar.KEY_CMD_KEY / 256

/-- The tag of the key that a key command names. -/
def cmdTag (s : State) (f : Nat) : Nat := s.rd (bar2 f) Reg.KeyBar.KEY_CMD_KEY % 256

/-- The image in the queue BAR as the entry that a KEY_WRITE stores. -/
def imageEntry (s : State) (f : Nat) : KeyEnt := { KeyEnt.ofBytes (keyImage s f) with tag := cmdTag s f, owner := f }

/-- The state in which the image in the queue BAR is that of stored entry `i`. -/
def imageShown (s t : State) (f i : Nat) : State :=
  (List.range 8).foldl (fun u j => u.wri (bar2 f) Reg.KeyBar.KEY_IMAGE j (leAt (viewBytes s (keyTable s + 32 * i) 32) (4 * j) 4)) t

/-- A command that a ready function takes while it is not busy, with every test made on the state before GO. -/
theorem keyCmd_served {s : State} {f : Fin 1024} {op : Nat} (hready : fnReady s f.val = true)
    (hidle : s.on (bar2 f.val) Reg.KeyBar.KEY_STATUS_BUSY = false) (hop : op = 1 ∨ op = 2 ∨ op = 3) : keyCmd s f.val op =
    let t := opShown s f.val op
    let i := cmdIndex s f.val
    if s.on xlBase Reg.Xl.KEY_CFG_EN = false then keyEnd t f.val 4
    else if keyInRange s f.val i = false then keyEnd t f.val 1
    else if op = 1 then
      if keyImageGood (keyImage s f.val) = false then keyEnd t f.val 3
      else if keyPlace s i = true then keyHold (keyStore t i (imageEntry s f.val)) f.val i
      else keyEnd t f.val 4
    else (keyStored s i).elim (keyEnd t f.val 4) (fun k =>
      if op = 2 then keyHold (keyStore t i { k with valid := false }) f.val i else keyEnd (imageShown s t f.val i) f.val 0) := by
  have hview : viewBytes (opShown s f.val op) = viewBytes s := rfl
  have hnamed : ¬ (op = 0 ∨ 3 < op) := by omega
  have hshown : s.wr (bar2 f.val) Reg.KeyBar.KEY_CMD_OP op = opShown s f.val op := rfl
  have hindex : s.rd (bar2 f.val) Reg.KeyBar.KEY_CMD_KEY / 256 = cmdIndex s f.val := rfl
  simp only [keyCmd, hready, hidle, Bool.not_true, Bool.or_self, Bool.false_eq_true, if_false, hshown, rd_cmdKey_opShown,
    keyEn_opShown, keyInRange_opShown, keyImage_opShown, keyTable_opShown, keyPlace_opShown, keyStored_opShown, hview, hnamed,
    Bool.not_eq_true', hindex]
  refine ite_congr rfl (fun _ => rfl) fun _ => ite_congr rfl (fun _ => rfl) fun _ => ?_
  rcases hop with rfl | hop
  · simp only [true_and, if_true]
    refine ite_congr rfl (fun _ => rfl) fun _ => ?_
    cases keyPlace s (cmdIndex s f.val) <;> cases keyStored s (cmdIndex s f.val) <;> rfl
  · have hnotWrite : op ≠ 1 := by omega
    simp only [hnotWrite, false_and, if_false]
    cases hstored : keyStored s (cmdIndex s f.val) with
    | none => cases keyPlace s (cmdIndex s f.val) <;> rfl
    | some k =>
      rw [keyPlace_of_stored hstored]
      rfl

/-! ### Key commands outside a fatal stop (R379, R404) -/

theorem exec_keyWrite_of_running {f : Fin 1024} {s : State} (hfatal : fatalStopped s = false) :
    exec (.keyWrite f) s = .next (keyCmd s f.val 1) :=
  if_neg (by simp [hfatal])

theorem exec_keyFree_of_running {f : Fin 1024} {s : State} (hfatal : fatalStopped s = false) :
    exec (.keyFree f) s = .next (keyCmd s f.val 2) :=
  if_neg (by simp [hfatal])

theorem exec_keyQuery_of_running {f : Fin 1024} {s : State} (hfatal : fatalStopped s = false) :
    exec (.keyQuery f) s = .next (keyCmd s f.val 3) :=
  if_neg (by simp [hfatal])

/-- A key command does nothing in a fatal stop, or where its function is not ready or busy. -/
theorem exec_keyCommand_of_idle {f : Fin 1024} {i : Instr} {s : State} (hi : i ∈ [Instr.keyWrite f, .keyFree f, .keyQuery f])
    (h : fatalStopped s = true ∨ fnReady s f.val = false ∨ s.on (bar2 f.val) Reg.KeyBar.KEY_STATUS_BUSY = true) :
    exec i s = .next s := by
  simp only [List.mem_cons, List.not_mem_nil, or_false] at hi
  cases hfatal : fatalStopped s with
  | true => rcases hi with rfl | rfl | rfl <;> exact if_pos hfatal
  | false =>
    have hidle := h.resolve_left (by simp [hfatal])
    rcases hi with rfl | rfl | rfl
    · rw [exec_keyWrite_of_running hfatal, keyCmd_of_idle _ hidle]
    · rw [exec_keyFree_of_running hfatal, keyCmd_of_idle _ hidle]
    · rw [exec_keyQuery_of_running hfatal, keyCmd_of_idle _ hidle]

/-! ### KEY_CMD_DONE (R379) -/

theorem exec_keyCmdDone_of_free {f : Fin 1024} {i : Nat} {s : State} (hcmd : look s.xl.keyCmd f.val = some i)
    (hfree : ∀ t ∈ liveTags s, t.key ≠ some i) : exec (.keyCmdDone f) s = .next (keyEnd s f.val 0) := by
  have hnone : (liveTags s).any (fun t => t.key == some i) = false := by simpa using hfree
  show execKeyCmdDone f s = _
  simp only [execKeyCmdDone, hcmd, hnone, Bool.false_eq_true, if_false]

theorem exec_keyCmdDone_of_held {f : Fin 1024} {s : State}
    (h : ∀ i ∈ look s.xl.keyCmd f.val, (liveTags s).any (fun t => t.key == some i) = true) : exec (.keyCmdDone f) s = .next s := by
  show execKeyCmdDone f s = _
  cases hcmd : look s.xl.keyCmd f.val with
  | none => simp only [execKeyCmdDone, hcmd]
  | some i => simp only [execKeyCmdDone, hcmd, h i hcmd, if_true]

/-- What a key command that ends leaves to read. -/
theorem keyEnd_reads (s : State) (f result : Nat) : (keyEnd s f result).rd (bar2 f) Reg.KeyBar.KEY_STATUS_BUSY = 0 ∧
    (keyEnd s f result).rd (bar2 f) Reg.KeyBar.KEY_STATUS_RESULT = result % 16 ∧ look (keyEnd s f result).xl.keyCmd f = none := by
  refine ⟨?busy, State.rd_wr_same .., look_del_same ..⟩
  have hkey := Field.key_ne (bar2 f) Reg.KeyBar.KEY_STATUS_RESULT Reg.KeyBar.KEY_STATUS_BUSY (by decide) (by decide) (by decide)
  exact (State.rd_wr_other _ _ _ _ _ _ hkey).trans (State.rd_wr_same ..)

/-! ### KEY_CFG_EN_WRITE (R380) -/

theorem exec_keyCfgEnWrite_of_takes {r : Route} {s : State} (en : Bool) (h : Takes s r (xlBase + 0x40)) :
    exec (.keyCfgEnWrite r en) s = .next (setKeyEn s en) :=
  congrArg Host.Outcome.next (guarded_of_takes _ h)

theorem setKeyEn_same {s : State} {en : Bool} (h : s.on xlBase Reg.Xl.KEY_CFG_EN = en) : setKeyEn s en = s := if_pos h

theorem setKeyEn_other {s : State} {en : Bool} (h : s.on xlBase Reg.Xl.KEY_CFG_EN ≠ en) :
    setKeyEn s en = { s.wr xlBase Reg.Xl.KEY_CFG_EN (b2n en) with xl := { s.xl with keys := [], keyBad := [] } } := if_neg h

theorem on_wr_keyEn (s : State) (en : Bool) : (s.wr xlBase Reg.Xl.KEY_CFG_EN (b2n en)).on xlBase Reg.Xl.KEY_CFG_EN = en := by
  rw [State.on, State.rd_wr_same]
  cases en <;> rfl

/-! ### KEY_FETCH_DONE (R380) -/

/-- The state in which a fetch of entry `i` is no longer awaited. -/
def keyFetched (s : State) (i : Nat) : State := { s with xl := { s.xl with keyWant := s.xl.keyWant.erase i } }

theorem exec_keyFetchDone_of_unwanted {i : Fin 1048576} {s : State} (h : i.val ∉ s.xl.keyWant) :
    exec (.keyFetchDone i) s = .next s :=
  if_pos (by simpa using h)

theorem exec_keyFetchDone_good {i : Fin 1048576} {k : KeyEnt} {s : State} (hwant : i.val ∈ s.xl.keyWant)
    (hstored : keyStored (keyFetched s i.val) i.val = some k) :
    let u := keyFetched s i.val
    exec (.keyFetchDone i) s = .next (resumeEverything
      (if s.xl.keys.length < 8192 then { u with xl := { u.xl with keys := put s.xl.keys i.val k } }
        else { u.spend with xl := { u.xl with keys := put (s.xl.keys.eraseIdx (u.drawn 16 % s.xl.keys.length)) i.val k } })) := by
  show execKeyFetchDone i s = _
  have hcontains : s.xl.keyWant.contains i.val = true := by simpa using hwant
  have hfetched : ({ s with xl := { s.xl with keyWant := s.xl.keyWant.erase i.val } } : State) = keyFetched s i.val := rfl
  simp only [execKeyFetchDone, hcontains, Bool.not_true, Bool.false_eq_true, if_false, hfetched, hstored]
  by_cases hroom : s.xl.keys.length < 8192
  · simp only [hroom, if_true]
  · simp only [hroom, if_false, evictOne]
    rfl

theorem exec_keyFetchDone_bad {i : Fin 1048576} {s : State} (hwant : i.val ∈ s.xl.keyWant)
    (hstored : keyStored (keyFetched s i.val) i.val = none) :
    let u := keyFetched s i.val
    exec (.keyFetchDone i) s = .next
      (resumeEverything ({ u with xl := { u.xl with keyBad := s.xl.keyBad ++ [i.val] } }.setEvt xlBase Reg.Xl.XL_EVENT 2)) := by
  show execKeyFetchDone i s = _
  have hcontains : s.xl.keyWant.contains i.val = true := by simpa using hwant
  have hfetched : ({ s with xl := { s.xl with keyWant := s.xl.keyWant.erase i.val } } : State) = keyFetched s i.val := rfl
  simp only [execKeyFetchDone, hcontains, Bool.not_true, Bool.false_eq_true, if_false, hfetched, hstored]
  rfl

/-! ### WALK_ENTRY_READ_DONE (R389 to R391, R395) -/

/-- The walk of `a` for function `f` that is under way. -/
def walkUnderWay (s : State) (f a : Nat) : Option Walk := s.xl.walks.find? (fun w => w.fn == f && w.va == a && w.failed.isNone)

theorem walkUnderWay_eq_none {s : State} {f a : Nat} (h : ∀ w ∈ s.xl.walks, w.fn = f → w.va = a → w.failed.isSome = true) :
    walkUnderWay s f a = none := by
  refine List.find?_eq_none.mpr fun w hw hway => ?_
  simp only [Bool.and_eq_true, beq_iff_eq] at hway
  obtain ⟨⟨hfn, hva⟩, hnone⟩ := hway
  exact absurd (h w hw hfn hva) (by simpa using hnone)

theorem exec_walkEntryReadDone_of_none {f : Fin 1024} {a : BitVec 64} {s : State} (x : Option (BitVec 64))
    (h : walkUnderWay s f.val a.toNat = none) : exec (.walkEntryReadDone f a { entry := x, upset := none }) s = .next s := by
  unfold walkUnderWay at h
  show execWalkEntryReadDone f a { entry := x, upset := none } s = _
  simp only [execWalkEntryReadDone, h]

/-- The value of the entry that a walk asked for: of the pool, or the one that came (R390). -/
def entryValue (s : State) (ea : Nat) (x : Option (BitVec 64)) : Option Nat :=
  if regionOf ea = .pool then (if viewBad s ea 8 = true then none else some (leNat (viewBytes s ea 8))) else x.map BitVec.toNat

theorem exec_walkEntryReadDone_of_need {f : Fin 1024} {a : BitVec 64} {w : Walk} {ea : Nat} {want : WalkEnt} {s : State}
    (x : Option (BitVec 64)) (hw : walkUnderWay s f.val a.toNat = some w)
    (hneed : walk s w.ctx w.got w.fn w.va w.acc = .need ea want) :
    let t := cntCM (s.bump xlBase Reg.Xl.WALK_READ_CNT) .compass 0x102 1 none (some f.val)
    let u := ((entryValue s ea x).map (cacheEntry t want)).getD t
    let k : Walk := { w with got := put w.got ea (entryValue s ea x) }
    exec (.walkEntryReadDone f a { entry := x, upset := none }) s =
      .next (resumeEverything (walkOn { u with xl := { u.xl with walks := u.xl.walks.map (fun m => if m == w then k else m) } } k)) := by
  unfold walkUnderWay at hw
  intro t u k
  show execWalkEntryReadDone f a { entry := x, upset := none } s = _
  simp only [execWalkEntryReadDone, hw, hneed]
  split
  next e hcame =>
    have hvalue : entryValue s ea x = some e := by
      rw [← hcame, entryValue]
      cases regionOf ea <;> rfl
    simp only [t, u, k, hcame, hvalue, Option.map_some, Option.getD_some]
  next hcame =>
    have hvalue : entryValue s ea x = none := by
      rw [← hcame, entryValue]
      cases regionOf ea <;> rfl
    simp only [t, u, k, hcame, hvalue, Option.map_none, Option.getD_none]

theorem exec_walkEntryReadDone_of_done {f : Fin 1024} {a : BitVec 64} {w : Walk} {e : TlbEnt} {y : WalkFault} {s : State}
    (x : Option (BitVec 64)) (hw : walkUnderWay s f.val a.toNat = some w)
    (hdone : walk s w.ctx w.got w.fn w.va w.acc = .hit e ∨ walk s w.ctx w.got w.fn w.va w.acc = .fault y) :
    exec (.walkEntryReadDone f a { entry := x, upset := none }) s = .next (resumeEverything (walkOn s w)) := by
  unfold walkUnderWay at hw
  show execWalkEntryReadDone f a { entry := x, upset := none } s = _
  rcases hdone with hdone | hdone <;> simp only [execWalkEntryReadDone, hw, hdone]

/-! ### INVALIDATE (R397 to R399) -/

/-- An INVALIDATE of the queue that waits for its completion. -/
def invalWaiting (s : State) (g : Nat) : Option InvalWait := s.xl.inval.find? (fun w => w.wq == g)

theorem exec_invalidateDone_of_clear {g : Fin 65536} {w : InvalWait} {q : WqSt} {s : State} (hw : invalWaiting s g.val = some w)
    (hclear : ∀ t ∈ liveTags s, invCovers w t = false) (hq : s.wqAt g.val = some q) :
    exec (.invalidateDone g) s = .next (completeWq ((({ s with xl := { s.xl with inval := s.xl.inval.erase w } } : State).setWq g.val
      { q with waiting := false }).bump xlBase Reg.Xl.INVAL_CNT) g.val w.index w.userId w.signal 0x10 0 0 0 0) := by
  have hnone : (liveTags s).any (invCovers w) = false := by simpa using hclear
  have hq' : ({ s with xl := { s.xl with inval := s.xl.inval.erase w } } : State).wqAt g.val = some q := hq
  unfold invalWaiting at hw
  show execInvalidateDone g s = _
  simp only [execInvalidateDone, hw, hnone, hq', Bool.false_eq_true, if_false]

theorem exec_invalidateDone_of_held {g : Fin 65536} {s : State}
    (h : ∀ w ∈ s.xl.inval, w.wq = g.val → (liveTags s).any (invCovers w) = true) : exec (.invalidateDone g) s = .next s := by
  show execInvalidateDone g s = _
  cases hw : s.xl.inval.find? (fun w => w.wq == g.val) with
  | none => simp only [execInvalidateDone, hw]
  | some w =>
    have hlive := h w (List.mem_of_find?_eq_some hw) (by simpa using List.find?_some hw)
    simp only [execInvalidateDone, hw, hlive, if_true]

theorem mem_tlb_invRemoves {w : InvalWait} {s : State} (e : TlbEnt) (hlast : w.scope ≤ 5) (hfirst : 1 ≤ w.scope) :
    e ∈ (invRemoves w s).xl.tlb ↔ e ∈ s.xl.tlb ∧
      (w.scope = 1 → ¬(e.fn = w.target ∧ e.va < w.addr + w.len ∧ w.addr < e.va + 2 ^ e.log)) ∧ (w.scope = 2 → e.fn ≠ w.target) ∧
      (w.scope = 3 → ¬(e.part = w.part ∧ e.ipa < w.addr + w.len ∧ w.addr < e.ipa + 2 ^ e.log)) ∧ (w.scope = 4 → e.part ≠ w.part) ∧
      w.scope ≠ 5 := by
  obtain h | h | h | h | h : w.scope = 1 ∨ w.scope = 2 ∨ w.scope = 3 ∨ w.scope = 4 ∨ w.scope = 5 := by omega
  all_goals simp [invRemoves, h, Decidable.imp_iff_not_or, or_assoc]

theorem wcache_invRemoves_all {w : InvalWait} (s : State) (h : w.scope = 5) : (invRemoves w s).xl.wcache = [] := by
  simp [invRemoves, h]

theorem mem_wcache_invRemoves {w : InvalWait} {s : State} {e : WalkEnt} (h : e ∈ (invRemoves w s).xl.wcache) :
    e ∈ s.xl.wcache ∧ (w.scope = 2 → ¬(e.stage = 1 ∧ e.owner = w.target)) ∧ (w.scope = 4 → ¬(e.stage = 2 ∧ e.owner = w.part)) := by
  obtain ⟨hmem, hstays⟩ := List.mem_filter.mp h
  refine ⟨hmem, fun hscope => ?_, fun hscope => ?_⟩ <;> simpa [hscope, Decidable.imp_iff_not_or] using hstays

/-! ### XLATE_CNT_CLR (R400) -/

/-- The counters of Compass. -/
def xlCounters : List Field :=
  [Reg.Xl.TLB_HIT_CNT, Reg.Xl.TLB_MISS_CNT, Reg.Xl.WALK_READ_CNT, Reg.Xl.FAULT_CNT, Reg.Xl.SPEC_DROP_CNT, Reg.Xl.KEY_MISS_CNT,
   Reg.Xl.KEY_FAIL_CNT, Reg.Xl.INVAL_CNT, Reg.Xl.ECC_CORR_CNT, Reg.Xl.ECC_UNCORR_CNT]

theorem xlateCntClr_clears {s : State} {r : Route} (h : Takes s r (xlBase + 0x54)) :
    Ends (exec (.xlateCntClr r) s) (Clears (fun k => ∃ f ∈ xlCounters, k = f.key xlBase) s) :=
  ⟨_, congrArg Host.Outcome.next (guarded_of_takes _ h), Clears.clearAll s xlBase xlCounters⟩

/-- Settles O36. A key command is its tests made on the state before GO, each of which its case decides; what comes back acts by the
lemma of its command, an INVALIDATE's removal is a filter split by scope, and CNT_CLR clears exactly the counters' keys. -/
theorem keysWalksAndInvalidatesRun : Obligations.KeysWalksAndInvalidatesRun := by
  unfold Obligations.KeysWalksAndInvalidatesRun
  refine ⟨?idle, ?served, ?cmdDone, ?cmdHeld, ?cfgEn, ?fetch, fun f a d x s => rfl, ?noWalk, ?need, ?done, ?invalDone, ?invalHeld,
    ?invRemoves, ?clear⟩
  case idle =>
    intro f i s hi h
    exact exec_keyCommand_of_idle hi h
  case served =>
    intro f s hfatal hready hidle b i tag go put
    rw [exec_keyWrite_of_running hfatal, exec_keyFree_of_running hfatal, exec_keyQuery_of_running hfatal,
      keyCmd_served hready hidle (.inl rfl), keyCmd_served hready hidle (.inr (.inl rfl)), keyCmd_served hready hidle (.inr (.inr rfl)),
      show cmdIndex s f.val = i from rfl]
    refine ⟨?off, ?range, ?image, ?write, ?stored⟩
    case off =>
      intro hoff
      simp only [hoff, if_true]
      exact ⟨rfl, rfl, rfl⟩
    case range =>
      intro hon hrange
      simp only [hon, hrange, Bool.true_eq_false, if_false, if_true]
      exact ⟨rfl, rfl, rfl⟩
    case image =>
      intro hon hrange hbad
      simp only [hon, hrange, hbad, Bool.true_eq_false, if_false, if_true]
      rfl
    case write =>
      intro hon hrange hgood
      simp only [hon, hrange, hgood, Bool.true_eq_false, if_false, if_true]
      exact ⟨fun hplace => by rw [hplace]; rfl, fun hplace => by rw [hplace]; rfl⟩
    case stored =>
      intro hon hrange
      simp only [hon, hrange, Bool.true_eq_false, if_false]
      exact ⟨fun hnone => by rw [hnone]; exact ⟨rfl, rfl⟩, fun k hsome => by rw [hsome]; exact ⟨rfl, rfl⟩⟩
  case cmdDone =>
    intro f i s hcmd hfree
    obtain ⟨hbusy, hresult, hnone⟩ := keyEnd_reads s f.val 0
    exact ⟨_, exec_keyCmdDone_of_free hcmd hfree, hbusy, hresult, hnone, rfl⟩
  case cmdHeld =>
    intro f s h
    exact exec_keyCmdDone_of_held h
  case cfgEn =>
    intro r en s htakes
    rw [exec_keyCfgEnWrite_of_takes en htakes]
    refine ⟨fun hsame => by rw [setKeyEn_same hsame], fun hother => ?_⟩
    rw [setKeyEn_other hother]
    exact ⟨_, rfl, on_wr_keyEn s en, rfl, (onlyFields_wr ..).2, rfl⟩
  case fetch =>
    intro i s u
    exact ⟨exec_keyFetchDone_of_unwanted, fun k hwant hstored => exec_keyFetchDone_good hwant hstored,
      fun hwant hstored => exec_keyFetchDone_bad hwant hstored⟩
  case noWalk =>
    intro f a x s h
    exact exec_walkEntryReadDone_of_none x (walkUnderWay_eq_none h)
  case need =>
    intro f a w x ea want s hw hneed
    exact exec_walkEntryReadDone_of_need x hw hneed
  case done =>
    intro f a w x e y s hw hdone
    exact exec_walkEntryReadDone_of_done x hw hdone
  case invalDone =>
    intro g w q s hw hclear hq
    exact exec_invalidateDone_of_clear hw hclear hq
  case invalHeld =>
    intro g s h
    exact exec_invalidateDone_of_held h
  case invRemoves =>
    intro w s hlast hfirst
    exact ⟨fun e => mem_tlb_invRemoves e hlast hfirst, wcache_invRemoves_all s, fun e he => mem_wcache_invRemoves he, rfl⟩
  case clear =>
    intro r s htakes
    obtain ⟨t, hexec, hclears⟩ := xlateCntClr_clears htakes
    refine ⟨⟨t, hexec, fun c hc => hclears.rd_zero ⟨c, hc, rfl⟩, hclears.regsOnly, fun k hk => hclears.other k ?_⟩,
      congrArg Host.Outcome.next (guarded_of_takes _ htakes)⟩
    rintro ⟨f, hf, rfl⟩
    exact hk (List.mem_map_of_mem hf)

end Sys2Proof.Machine
end

section
/-!
PROOFS. The FM API (R409 to R411, R446 to R448, R559): what a written BIND reads, the tests of binds and unbinds, dynamic capacity on
one extent, and a host's answers to offers and removals.
-/
namespace Sys2Proof.Machine

/-! ### BIND (R411) -/

theorem attRd_setBind (s : State) (a vcs valid vppb : Nat) :
    attRd (setBind s a vcs valid vppb) a Reg.Att.BIND_VCS = vcs % 64 ∧
    attRd (setBind s a vcs valid vppb) a Reg.Att.BIND_VALID = valid % 2 ∧
    attRd (setBind s a vcs valid vppb) a Reg.Att.BIND_VPPB = vppb % 32 := by
  have hother : ∀ (t : State) (f g : Field) (v : Nat), (g.off, g.lo) ≠ (f.off, f.lo) → f.lo < 32 → g.lo < 32 →
      (t.wr (attBase a) f v).rd (attBase a) g = t.rd (attBase a) g :=
    fun t f g v hne hf hg => State.rd_wr_other _ _ _ _ _ _ (Field.key_ne _ _ _ hne hf hg)
  refine ⟨?_, ?_, State.rd_wr_same ..⟩
  · exact (hother _ _ _ _ (by decide) (by decide) (by decide)).trans
      ((hother _ _ _ _ (by decide) (by decide) (by decide)).trans (State.rd_wr_same ..))
  · exact (hother _ _ _ _ (by decide) (by decide) (by decide)).trans (State.rd_wr_same ..)

theorem isBound_setBind (s : State) (a vcs valid vppb : Nat) :
    isBound (setBind s a vcs valid vppb) a = (valid % 2 == 1) := by
  rw [isBound, (attRd_setBind s a vcs valid vppb).2.1]

@[simp] theorem State.att_setAtt_same (s : State) (a : Nat) (x : AttSt) : (s.setAtt a x).att a = x := lookD_put_same ..

/-- An attachment's fields are registers. -/
theorem attRd_of_regs {s t : State} (h : t.regs = s.regs) (a : Nat) (f : Field) : attRd t a f = attRd s a f := by
  rw [attRd, attRd, State.rd, State.rd, h]

/-- An attachment that has been unbound is free. -/
theorem isBound_unbound (s : State) (a : Nat) : isBound (unbound s a) a = false := by
  have hregs : (unbound s a).regs = (setBind (s.setAtt a { s.att a with unbind := none }) a 0x3F 0 0).regs := rfl
  rw [isBound, attRd_of_regs hregs, ← isBound, isBound_setBind]
  rfl

theorem att_unbind_unbound (s : State) (a : Nat) : ((unbound s a).att a).unbind = none :=
  congrArg AttSt.unbind (State.att_setAtt_same s a { s.att a with unbind := none })

/-! ### Bind and unbind (R410, R411) -/

/-- Attachment `a` joined to vPPB `v` of switch `u`, with the background operation that tells of it. -/
def vppbBound (s : State) (u v a : Nat) : State :=
  { setBind (hotReset s a) a u 1 v with fmBg := some { op := 0x5201, att := a, done_ := true } }.emit (.slotChange u v true)

theorem fmBind_of_unusable {s : State} {u v a : Nat} (h : v < 2 ∨ hasSwitch s u = false ∨ isDown s a = false ∨ isOwned s a = true ∨
    isBound s a = true ∨ (s.att a).unusable = true ∨ boundAt s u v ≠ none) : fmBind s u v a = (fmInvalid, s) := by
  refine if_pos ?_
  simpa [or_left_comm, Option.isSome_iff_ne_none] using h

theorem fmBind_of_free {s : State} {u v a : Nat} (hv : 2 ≤ v) (hswitch : hasSwitch s u = true) (hdown : isDown s a = true)
    (howned : isOwned s a = false) (hbound : isBound s a = false) (husable : (s.att a).unusable = false)
    (hfree : boundAt s u v = none) :
    fmBind s u v a = if bgBusy s then (fmBusy, s) else (fmBackground, vppbBound s u v a) := by
  have hpair : ¬ v < 2 := Nat.not_lt.mpr hv
  refine (if_neg ?_).trans rfl
  simp [hpair, hswitch, hdown, howned, hbound, husable, hfree]

theorem vppbBound_bind (s : State) {u v : Nat} (a : Nat) (hu : u < 64) (hv : v < 18) : isBound (vppbBound s u v a) a = true ∧
    attRd (vppbBound s u v a) a Reg.Att.BIND_VCS = u ∧ attRd (vppbBound s u v a) a Reg.Att.BIND_VPPB = v := by
  obtain ⟨hvcs, -, hvppb⟩ := attRd_setBind (hotReset s a) a u 1 v
  have hread := attRd_of_regs (s := setBind (hotReset s a) a u 1 v) (t := vppbBound s u v a) rfl a
  refine ⟨?_, ?_, ?_⟩
  · rw [isBound, hread, ← isBound, isBound_setBind]; rfl
  · rw [hread, hvcs, Nat.mod_eq_of_lt hu]
  · rw [hread, hvppb, Nat.mod_eq_of_lt (by omega)]

/-- What an unbind of attachment `a` at vPPB `v` of switch `u` begins: it waits for the host, or with option 2 ends at once. -/
def unbindStarted (s : State) (u v a option : Nat) : State :=
  let t := { s with fmBg := some { op := 0x5202, att := a, done_ := false } }
  if option = 2 then (unbound (contain t a) a).emit (.slotChange u v false)
  else
    let t := t.setAtt a { s.att a with unbind := some option }
    if option = 1 then t.emit (.attention u v) else t

theorem fmUnbind_of_unbound {s : State} {u v : Nat} (option : Nat) (h : v < 2 ∨ boundAt s u v = none) :
    fmUnbind s u v option = (fmInvalid, s) := by
  rcases h with h | h <;> simp [fmUnbind, h]

theorem fmUnbind_of_bound {s : State} {u v a : Nat} (option : Nat) (hv : 2 ≤ v) (hat : boundAt s u v = some a) :
    fmUnbind s u v option = if bgBusy s then (fmBusy, s) else (fmBackground, unbindStarted s u v a option) := by
  have hv' : ¬ v < 2 := by omega
  simp only [fmUnbind, if_neg hv', hat, unbindStarted]
  split
  · rfl
  · split <;> rfl

theorem unbindStarted_waits (s : State) (u v a : Nat) {option : Nat} (h : option < 2) :
    ((unbindStarted s u v a option).att a).unbind = some option := by
  have h2 : option ≠ 2 := by omega
  simp only [unbindStarted, if_neg h2]
  split <;> exact congrArg AttSt.unbind (State.att_setAtt_same ..)

theorem unbindStarted_ends (s : State) (u v a : Nat) : isBound (unbindStarted s u v a 2) a = false :=
  isBound_unbound (contain { s with fmBg := some { op := 0x5202, att := a, done_ := false } } a) a

/-! ### UNBIND_COMPLETE (R411) -/

theorem exec_unbindComplete (a : Fin 64) (s : State) : exec (.unbindComplete a) s =
    .next (if (s.att a.val).unbind.isSome then unbound (if linkUp s a.val then linkGone s a.val 0 else s) a.val else s) := rfl

/-! ### Commands on physical ports (R409) -/

theorem runFm_ofPort_notDown {s : State} {a : Fin 64} (h : isDown s a.val = false) (op : PortControl) (reg : BitVec 12) (en : BitVec 4)
    (w : Option (BitVec 32)) :
    runFm s (.portControl a op) = ((fmInvalid, []), s) ∧ runFm s (.ppbConfig a reg en w) = ((fmInvalid, []), s) := by
  simp [runFm, h]

theorem runFm_portControl_down {s : State} {a : Fin 64} (h : isDown s a.val = true) (op : PortControl) :
    runFm s (.portControl a op) = ((fmOk, []), match op with
      | .assertPerst => setPerst s a.val true
      | .deassertPerst => setPerst s a.val false
      | .resetPpb => hotReset s a.val) := if_pos h

theorem att_setPerst (s : State) (a : Nat) (on : Bool) : ((setPerst s a on).att a).perst = on :=
  congrArg AttSt.perst (State.att_setAtt_same ..)

/-- A PPB configuration request of a downstream attachment goes to its port, whether it reads or writes. -/
theorem runFm_ppbConfig_down {s : State} {a : Fin 64} (h : isDown s a.val = true) (reg : BitVec 12) (en : BitVec 4)
    (w : Option (BitVec 32)) : (runFm s (.ppbConfig a reg en w)).1.1 = fmOk ∧
      (runFm s (.ppbConfig a reg en w)).2.out = .ppbConfig a.val reg en w :: s.out := by
  cases w <;> simp [runFm, h]

/-! ### Dynamic capacity (R446 to R448) -/

theorem dcAdd_of_unfit {s : State} {u e : Nat} (tag : Nat) {x : ExtSt} (hx : s.ext e = some x)
    (h : hasSwitch s u = false ∨ x.xstate ≠ .settled ∨ x.isMirror = true) : dcAdd s u e tag = (fmInvalid, s) := by
  simp only [dcAdd, hx]
  exact if_pos (by simpa using h)

section Fit
variable {s : State} {u e : Nat} {x : ExtSt} (hx : s.ext e = some x) (hswitch : hasSwitch s u = true) (hsettled : x.xstate = .settled)
  (hprimary : x.isMirror = false)
include hx hswitch hsettled hprimary

theorem dcAdd_of_free (tag : Nat) (hfree : x.owner = .free) : dcAdd s u e tag = (fmOk,
    (putExt s e { x with xstate := .offered, offers := [u], tag := some tag }).emit (.dcOffer u e tag)) := by
  simp [dcAdd, hx, hswitch, hsettled, hprimary, hfree]

theorem dcAdd_of_held {tag : Nat} (howner : x.owner = .host ∨ x.owner = .shared) (htag : x.tag = some tag)
    (hnew : bitOf x.hosts u = false) (hunoffered : u ∉ x.offers) :
    dcAdd s u e tag = (fmOk, (putExt s e { x with offers := x.offers ++ [u] }).emit (.dcOffer u e tag)) := by
  have hused : x.owner ≠ .free := by rcases howner with h | h <;> simp [h]
  simp [dcAdd, hx, hswitch, hsettled, hprimary, hused, howner, htag, hnew, addOnce, hunoffered]

end Fit

/-- A dynamic-capacity command on one extent is its operation on that extent, undone where it fails. -/
theorem dcEach_single (s : State) (e : Fin 131072) (run : State → Nat → Nat × State) :
    dcEach s [e] run = if (run s e.val).1 = fmOk then ((fmOk, []), (run s e.val).2) else (((run s e.val).1, []), s) := rfl

theorem runFm_dcAdd (s : State) (u : Fin 64) (e : Fin 131072) (tag : BitVec 128) : runFm s (.dcAdd u [e] tag) =
    if (dcAdd s u.val e.val tag.toNat).1 = fmOk then ((fmOk, []), (dcAdd s u.val e.val tag.toNat).2)
    else (((dcAdd s u.val e.val tag.toNat).1, []), s) :=
  dcEach_single s e (fun s e => dcAdd s u.val e tag.toNat)

theorem runFm_dcForcedRemoval (s : State) (u : Fin 64) (e : Fin 131072) : runFm s (.dcForcedRemoval u [e]) =
    if (dcRemove s u.val e.val).1 = fmOk then ((fmOk, []), (dcRemove s u.val e.val).2.emit (.dcRemoved u.val e.val))
    else (((dcRemove s u.val e.val).1, []), s) := by
  have h : runFm s (.dcForcedRemoval u [e]) = _ := dcEach_single s e (fun s e => ((dcRemove s u.val e).1,
    if (dcRemove s u.val e).1 = fmOk then (dcRemove s u.val e).2.emit (.dcRemoved u.val e) else (dcRemove s u.val e).2))
  rw [h]
  split <;> rfl

/-! ### The host's answers (R417, R447, R448) -/

section Offered
variable {u : Fin 64} {e : Fin 131072} {x : ExtSt} {s : State} (hx : s.ext e.val = some x) (hoffer : u.val ∈ x.offers)
include hx hoffer

theorem exec_addDcResponse_accept : exec (.addDcResponse u e true) s = .next (putExt s e.val (
    if x.xstate = .offered then
      { x with offers := x.offers.erase u.val, owner := .host, xstate := .settled, hosts := setBit 0 u.val }
    else if x.owner = .host ∨ x.owner = .shared then
      { x with offers := x.offers.erase u.val, owner := .shared, hosts := setBit x.hosts u.val }
    else { x with offers := x.offers.erase u.val })) := by
  show Host.Outcome.next (dcAnswer s u.val e.val true) = _
  simp only [dcAnswer, hx, List.contains_iff_mem.mpr hoffer, Bool.not_true, Bool.false_eq_true, if_false, if_true]
  split
  · rfl
  · split <;> rfl

theorem exec_addDcResponse_refuse : exec (.addDcResponse u e false) s = .next (putExt s e.val (
    if x.xstate = .offered then { x with offers := x.offers.erase u.val, xstate := .settled, tag := none }
    else { x with offers := x.offers.erase u.val })) := by
  show Host.Outcome.next (dcAnswer s u.val e.val false) = _
  simp only [dcAnswer, hx, List.contains_iff_mem.mpr hoffer, Bool.not_true, Bool.false_eq_true, if_false]
  split <;> rfl

end Offered

theorem dcAnswer_of_unoffered {s : State} {u e : Nat} (accept : Bool) (h : ∀ x ∈ s.ext e, u ∉ x.offers) :
    dcAnswer s u e accept = s := by
  cases hx : s.ext e with
  | none => simp only [dcAnswer, hx]
  | some x => simp [dcAnswer, hx, h x hx]

/-- A host that holds the extent leaves it; its pair, if one is being copied, stays while other hosts do. -/
theorem dcRemove_of_holder {s : State} {u e : Nat} {x : ExtSt} (hx : s.ext e = some x) (howner : x.owner = .host ∨ x.owner = .shared)
    (hholds : bitOf x.hosts u = true) (hpair : x.xstate ≠ .copying ∨ clrBit x.hosts u ≠ 0) :
    dcRemove s u e = (fmOk, showFree (pumpExtents (putExt s e { x with leaving := addOnce x.leaving u }))) := by
  have hstays : ¬ (x.xstate = XState.copying ∧ clrBit x.hosts u = 0) :=
    fun hlast => hpair.elim (· hlast.1) (· hlast.2)
  simp only [dcRemove, hx, if_pos (And.intro howner hholds), if_neg hstays]

theorem dcRemove_of_nonHolder {s : State} {u e : Nat}
    (h : ∀ x ∈ s.ext e, (x.owner ≠ .host ∧ x.owner ≠ .shared) ∨ bitOf x.hosts u = false) : dcRemove s u e = (fmInvalid, s) := by
  cases hx : s.ext e with
  | none => simp only [dcRemove, hx]
  | some x =>
    have hnot : ¬ ((x.owner = .host ∨ x.owner = .shared) ∧ bitOf x.hosts u = true) := by
      rintro ⟨howner, hholds⟩
      rcases h x hx with ⟨hhost, hshared⟩ | hclear
      · exact howner.elim hhost hshared
      · exact Bool.eq_false_iff.mp hclear hholds
    simp only [dcRemove, hx, if_neg hnot]

/-- Settles O38. Each command is its answer given once; a bind or unbind goes by the tests of its lemma, a written BIND reads as
written, and dynamic capacity moves the one extent as its state and its offers say. -/
theorem fmApiCommandsAnswer : Obligations.FmApiCommandsAnswer := by
  unfold Obligations.FmApiCommandsAnswer
  refine ⟨?answers, ?queries, ?ports, ?aer, ?bind, ?unbind, ?complete, ?add, ?addRun, ?answer, ?unoffered, ?leave, ?stay⟩
  case answers =>
    intros
    exact ⟨rfl, rfl, rfl, rfl, rfl, rfl, rfl, rfl, rfl, rfl, rfl⟩
  case queries =>
    intro s ports us start limit
    refine ⟨rfl, rfl, rfl, rfl, rfl, rfl, rfl, ?_⟩
    cases hbg : s.fmBg <;> simp [runFm, hbg, leBytes]
  case ports =>
    intro s a op reg en w
    refine ⟨fun hup => runFm_ofPort_notDown hup op reg en w, fun hdown => ?_⟩
    obtain ⟨hok, hout⟩ := runFm_ppbConfig_down hdown reg en w
    rw [runFm_portControl_down hdown op]
    refine ⟨rfl, hok, ?_, ?_, hout⟩
    · rintro rfl; exact att_setPerst ..
    · rintro rfl; exact att_setPerst ..
  case aer =>
    intro s u v x
    exact ⟨fun h => by simp [runFm, h], fun h => by simp [runFm, h]⟩
  case bind =>
    intro s u v a hu hv
    refine ⟨fmBind_of_unusable, fun hpair hswitch hdown howned hbound husable hfree => ?_⟩
    rw [fmBind_of_free hpair hswitch hdown howned hbound husable hfree]
    exact ⟨fun hbusy => if_pos hbusy, fun hidle => by simpa [hidle] using vppbBound_bind s a hu hv⟩
  case unbind =>
    intro s u v o
    refine ⟨fmUnbind_of_unbound o, fun a hv hat => ?_⟩
    rw [fmUnbind_of_bound o hv hat]
    refine ⟨fun hbusy => if_pos hbusy, fun hidle => ?_⟩
    rw [hidle, if_neg Bool.false_ne_true]
    exact ⟨rfl, unbindStarted_waits s u v a, fun hnow => hnow ▸ unbindStarted_ends s u v a⟩
  case complete =>
    intro a s
    rw [exec_unbindComplete]
    exact ⟨fun hwaits => by rw [if_pos (Option.isSome_iff_ne_none.mpr hwaits)], fun hnone => by simp [hnone],
      isBound_unbound s a.val, att_unbind_unbound s a.val⟩
  case add =>
    intro s u e tag x hx
    exact ⟨dcAdd_of_unfit tag hx, fun hswitch hsettled hprimary => dcAdd_of_free hx hswitch hsettled hprimary tag,
      fun hswitch hsettled hprimary => dcAdd_of_held hx hswitch hsettled hprimary⟩
  case addRun =>
    intro s u e tag
    rw [runFm_dcAdd, runFm_dcForcedRemoval]
    refine ⟨?_, fun hok => by rw [if_pos hok], fun hbad => by rw [if_neg hbad], fun hok => if_pos hok, fun hbad => ?_⟩
    · split
      case isTrue hok => exact hok.symm
      case isFalse => rfl
    · rw [if_neg hbad]
      exact ⟨hbad, rfl⟩
  case answer =>
    intro u e x s hx hoffer
    rw [exec_addDcResponse_accept hx hoffer]
    refine ⟨fun hnew => by rw [if_pos hnew], fun hold howner => by rw [if_neg hold, if_pos howner],
      fun hold hhost hshared => by rw [if_neg hold, if_neg (not_or_intro hhost hshared)], ?_, ?_, rfl⟩
    · intro hnew; rw [exec_addDcResponse_refuse hx hoffer, if_pos hnew]
    · intro hold; rw [exec_addDcResponse_refuse hx hoffer, if_neg hold]
  case unoffered =>
    intro u e b s h
    exact ⟨congrArg Host.Outcome.next (dcAnswer_of_unoffered b h), congrArg Host.Outcome.next (dcAnswer_of_unoffered false h)⟩
  case leave =>
    intro u e x s hx howner hholds hpair
    exact congrArg (Host.Outcome.next ·.2) (dcRemove_of_holder hx howner hholds hpair)
  case stay =>
    intro u e s h
    exact congrArg (Host.Outcome.next ·.2) (dcRemove_of_nonHolder h)

end Sys2Proof.Machine
end

section
/-!
PROOFS. Far windows (R420 to R425): what counting at an attachment leaves alone, the ends of far reads and writes, and the writes of a
window's VALID word.
-/
namespace Sys2Proof.Machine

/-! ### Counting at an attachment (R436, R519) -/

/-- Keys of the counters of attachment `a` (R436), and every key from its counter bank on. -/
def attCounterKey (a k : Nat) : Prop :=
  (attBase a + 0x80 ≤ k / 32 ∧ k / 32 < attBase a + 0xA8) ∨ attBase a + 0x4000 ≤ k / 32

/-- `t` is `s` but for counters of attachment `a`. -/
structure AttCounted (a : Nat) (s t : State) : Prop where
  regsOnly : RegsOnly s t
  other : ∀ k, ¬ attCounterKey a k → look t.regs k = look s.regs k

theorem AttCounted.refl (a : Nat) (s : State) : AttCounted a s s := ⟨rfl, fun _ _ => rfl⟩

theorem AttCounted.trans {a : Nat} {s t u : State} (h : AttCounted a s t) (h' : AttCounted a t u) : AttCounted a s u :=
  ⟨h.regsOnly.trans h'.regsOnly, fun k hk => (h'.other k hk).trans (h.other k hk)⟩

theorem AttCounted.wr {a : Nat} (s : State) {b : Nat} {f : Field} (v : Nat) (hkey : attCounterKey a (f.key b)) :
    AttCounted a s (s.wr b f v) :=
  ⟨rfl, fun k hk => State.look_wr_other s b f v k (fun h => hk (h ▸ hkey))⟩

theorem AttCounted.bump {a : Nat} (s : State) {f : Field} (hoff : 0x80 ≤ f.off ∧ f.off < 0xA8) (hlo : f.lo < 32) :
    AttCounted a s (s.bump (attBase a) f) := by
  refine AttCounted.wr s _ (.inl ?_)
  simp only [Field.key]
  omega

/-- Every value register of a bank lies above the bank's start. -/
theorem AttCounted.countEv (s : State) (a : Fin 64) (e : CntEvent) : AttCounted a.val s (countEv s (.attachment a) e) := by
  have hbase : base (.attachment a) = attBase a.val := by rw [attBase, idx, Fin.ofNat_val_eq_self]
  simp only [Machine.countEv, bankOffset, hbase]
  refine foldl_rel (AttCounted a.val) (AttCounted.refl a.val) (fun _ _ _ => AttCounted.trans) _ (fun t i => ?_) _ _
  have hkey : ∀ f : Field, f.lo < 32 → attCounterKey a.val (f.key (attBase a.val + 0x4000 + 16 * i)) := by
    intro f hlo
    right
    simp only [Field.key]
    omega
  split
  · exact (AttCounted.wr t _ (hkey Reg.Cnt.VALUE_LO (by decide))).trans (AttCounted.wr _ _ (hkey Reg.Cnt.VALUE_HI (by decide)))
  · exact AttCounted.refl a.val t

theorem AttCounted.cnt1 (s : State) (a : Fin 64) (code : Nat) : AttCounted a.val s (cnt1 s (.attachment a) code) :=
  AttCounted.countEv ..

theorem AttCounted.cntCM (s : State) (a : Fin 64) (code n : Nat) (cls master : Option Nat) :
    AttCounted a.val s (cntCM s (.attachment a) code n cls master) := AttCounted.countEv ..

/-- A search asks its predicate of members only. -/
theorem find?_eq_of_forall_mem {α : Type} {p q : α → Bool} {l : List α} (h : ∀ x ∈ l, p x = q x) : l.find? p = l.find? q := by
  induction l with
  | nil => rfl
  | cons x l ih =>
    rw [List.find?_cons, List.find?_cons, h x List.mem_cons_self, ih (fun y hy => h y (List.mem_cons_of_mem x hy))]

section Counted
variable {a : Nat} {s t : State} (h : AttCounted a s t)
include h

/-- A field of the attachment between its counters and its bank, or anywhere below its counters, reads as before. -/
theorem AttCounted.rd {b : Nat} {f : Field} (hlo : f.lo < 32)
    (hword : b + f.off < attBase a + 0x80 ∨ (attBase a + 0xA8 ≤ b + f.off ∧ b + f.off < attBase a + 0x4000)) :
    t.rd b f = s.rd b f := by
  have hkey : ¬ attCounterKey a (f.key b) := by
    simp only [attCounterKey, Field.key]
    omega
  rw [State.rd, State.rd, h.other _ hkey]

theorem AttCounted.att (b : Nat) : t.att b = s.att b :=
  (congrArg (State.att · b) h.regsOnly : { t with regs := s.regs }.att b = s.att b)

theorem AttCounted.now : t.now = s.now :=
  (congrArg State.now h.regsOnly : { t with regs := s.regs }.now = s.now)

/-- The units below the host groups lie below every attachment. -/
theorem AttCounted.rd_below {b : Nat} {f : Field} (hlo : f.lo < 32) (hword : b + f.off < 0x6000000) : t.rd b f = s.rd b f := by
  refine h.rd hlo (.inl (Nat.lt_of_lt_of_le hword ?_))
  simp only [attBase, base]
  omega

theorem AttCounted.fatalStopped : fatalStopped t = fatalStopped s := by
  rw [Machine.fatalStopped, Machine.fatalStopped, State.on, State.on, h.rd_below (by decide) (by decide)]

theorem AttCounted.epochReady : epochReady t = epochReady s := by
  have hoff : unitOff t .atlas = unitOff s .atlas :=
    (congrArg (unitOff · .atlas) h.regsOnly : unitOff { t with regs := s.regs } .atlas = _)
  have hvalid : ∀ v, atlasValid t v = atlasValid s v := by
    intro v
    rw [atlasValid, atlasValid, hoff, State.on, State.on]
    split <;> rw [h.rd_below (by decide) (by decide)]
  rw [Machine.epochReady, Machine.epochReady, mayOriginate, mayOriginate, hvalid, State.on, State.on,
    h.rd_below (b := 0) (f := Reg.Root.DEV_CICEN_ID_VALID) (by decide) (by decide),
    h.rd_below (b := 0) (f := Reg.Root.INJ_EPOCH_EPOCH) (by decide) (by decide)]

/-- The fields of a window stand between the attachment's counters and its bank. -/
theorem AttCounted.winRd {w : Nat} {f : Field} (hw : w < 16) (hf : f ∈ Reg.FarWin.all) : winRd t a w f = winRd s a w f := by
  have hplace : ∀ f ∈ Reg.FarWin.all, 0x100 ≤ f.off ∧ f.off < 0x120 ∧ f.lo < 32 := by decide
  obtain ⟨hfirst, hlast, hlo⟩ := hplace f hf
  exact h.rd hlo (.inr ⟨by omega, by omega⟩)

theorem AttCounted.winOf (off n : Nat) {right : Field} (hright : right ∈ Reg.FarWin.all) :
    winOf t a off n right = winOf s a off n right := by
  rw [Machine.winOf, Machine.winOf, h.att]
  congr 1
  refine find?_eq_of_forall_mem (fun w hw => ?_)
  have hw : w < 16 := List.mem_range.mp hw
  have hat : winAt t a w = winAt s a w := by
    show Machine.winRd t a w Reg.FarWin.BASE_LO + 2 ^ 32 * Machine.winRd t a w Reg.FarWin.BASE_HI = _
    rw [h.winRd hw (by decide), h.winRd hw (by decide)]
    rfl
  rw [hat, h.winRd hw hright, h.winRd (f := Reg.FarWin.VALID) hw (by decide), h.winRd (f := Reg.FarWin.LOG_SIZE) hw (by decide)]

end Counted

/-- A window that an access falls in is one of the sixteen. -/
theorem lt_of_winOf {s : State} {a off n w : Nat} {right : Field} (h : winOf s a off n right = some w) : w < 16 := by
  simp only [winOf] at h
  split at h
  · cases h
  · exact List.mem_range.mp (List.mem_of_find?_eq_some h)

/-! ### FAR_WINDOW_READ (R421, R423) -/

theorem exec_farWindowRead_of_idle {a : Fin 64} {n : BitVec 13} {s : State} (off : BitVec 44) (req : BitVec 16)
    (h : attUp s a.val = false ∨ n.toNat = 0 ∨ attRd s a.val Reg.Att.FAR_READ_MAX ≤ (s.att a.val).far.length) :
    exec (.farWindowRead a off n req) s = .next s := by
  refine if_pos ?_
  simpa [or_assoc] using h

/-- Read number `farSeq + 1` held at attachment `a`, and its access queued for channel `ch`. -/
def farReadHeld (s t : State) (a w : Nat) (off : BitVec 44) (n : BitVec 13) (req : BitVec 16) (ch : Nat) : State :=
  let id := (s.att a).farSeq + 1
  t.setAtt a { s.att a with
    far := (s.att a).far ++ [{ id := id, req := req.toNat, w := w, off := off.toNat, len := n.toNat, ch := ch, got := [],
                               bad := false, since := s.now }]
    farSeq := id
    farQ := (s.att a).farQ ++ [{ id := id, w := w, off := off.toNat, ch := ch, bytes := none, n := n.toNat }] }

/-- A read at an attachment with room for it is counted, and goes on by the window it falls in. -/
theorem exec_farWindowRead_of_room {a : Fin 64} {off : BitVec 44} {n : BitVec 13} {s : State} (req : BitVec 16)
    (hup : attUp s a.val = true) (hlen : 0 < n.toNat) (hroom : (s.att a.val).far.length < attRd s a.val Reg.Att.FAR_READ_MAX) :
    exec (.farWindowRead a off n req) s =
    let c := cnt1 s (.attachment a) 0x100
    if fatalStopped s then .next (c.emit (.farDone a.val req.toNat .unsupported))
    else (winOf s a.val off.toNat n.toNat Reg.FarWin.RD_EN).elim
      (.next ((c.bump (attBase a.val) Reg.Att.FAR_UR_CNT).emit (.farDone a.val req.toNat .unsupported))) (fun w =>
        let t := cntCM (c.bump (attBase a.val) Reg.Att.FAR_READ_CNT) (.attachment a) 0x105 1 none (some w)
        let ch := winRd s a.val w Reg.FarWin.CHANNEL
        .next (if epochReady s then tpEnd (farReadHeld s t a.val w off n req ch) (clusterOf ch)
          else t.emit (.farDone a.val req.toNat .completerAbort))) := by
  have hcount := AttCounted.cnt1 s a 0x100
  have hguard : (!(attUp s a.val) || n.toNat == 0 || decide (attRd s a.val Reg.Att.FAR_READ_MAX ≤ (s.att a.val).far.length)) = false := by
    simp [hup, hroom, Nat.pos_iff_ne_zero.mp hlen]
  show execFarWindowRead a off n req s = _
  simp only [execFarWindowRead, hguard, hcount.fatalStopped, hcount.winOf off.toNat n.toNat (right := Reg.FarWin.RD_EN) (by decide),
    Bool.false_eq_true, if_false]
  split
  · rfl
  · cases hwin : winOf s a.val off.toNat n.toNat Reg.FarWin.RD_EN with
    | none => rfl
    | some w =>
      have hread : AttCounted a.val s (cntCM ((cnt1 s (.attachment a) 0x100).bump (attBase a.val) Reg.Att.FAR_READ_CNT)
          (.attachment a) 0x105 1 none (some w)) :=
        (hcount.trans (AttCounted.bump _ (by decide) (by decide))).trans (AttCounted.cntCM ..)
      simp only [Option.elim, hread.epochReady, hread.winRd (f := Reg.FarWin.CHANNEL) (lt_of_winOf hwin) (by decide), hread.now]
      cases epochReady s <;> rfl

/-! ### FAR_WINDOW_WRITE (R421 to R423) -/

theorem exec_farWindowWrite_of_idle {a : Fin 64} {bytes : List Byte} {s : State} (off : BitVec 44)
    (h : attUp s a.val = false ∨ bytes = []) : exec (.farWindowWrite a off bytes) s = .next s := by
  refine if_pos ?_
  simpa using h

/-- A write's access queued for channel `ch`. -/
def farWriteQueued (s t : State) (a w : Nat) (off : BitVec 44) (bytes : List Byte) (ch : Nat) : State :=
  t.setAtt a { s.att a with
    farQ := (s.att a).farQ ++ [{ id := 0, w := w, off := off.toNat, ch := ch, bytes := some bytes, n := bytes.length }] }

theorem exec_farWindowWrite_of_bytes {a : Fin 64} {off : BitVec 44} {bytes : List Byte} {s : State} (hup : attUp s a.val = true)
    (hbytes : bytes ≠ []) : exec (.farWindowWrite a off bytes) s =
    let c := cnt1 s (.attachment a) 0x100
    if fatalStopped s then .next c
    else (winOf s a.val off.toNat bytes.length Reg.FarWin.WR_EN).elim (.next (c.bump (attBase a.val) Reg.Att.FAR_UR_CNT)) (fun w =>
      let t := c.bump (attBase a.val) Reg.Att.FAR_WRITE_CNT
      let ch := winRd s a.val w Reg.FarWin.CHANNEL
      .next (if epochReady s then tpEnd (farWriteQueued s t a.val w off bytes ch) (clusterOf ch)
        else t.bump (attBase a.val) Reg.Att.FAR_DROP_CNT)) := by
  have hcount := AttCounted.cnt1 s a 0x100
  have hguard : (!(attUp s a.val) || bytes.isEmpty) = false := by simp [hup, hbytes]
  show execFarWindowWrite a off bytes s = _
  simp only [execFarWindowWrite, hguard, hcount.fatalStopped, hcount.winOf off.toNat bytes.length (right := Reg.FarWin.WR_EN) (by decide),
    Bool.false_eq_true, if_false]
  split
  · rfl
  · cases hwin : winOf s a.val off.toNat bytes.length Reg.FarWin.WR_EN with
    | none => rfl
    | some w =>
      have hwritten : AttCounted a.val s ((cnt1 s (.attachment a) 0x100).bump (attBase a.val) Reg.Att.FAR_WRITE_CNT) :=
        hcount.trans (AttCounted.bump _ (by decide) (by decide))
      simp only [Option.elim, hwritten.epochReady, hwritten.winRd (f := Reg.FarWin.CHANNEL) (lt_of_winOf hwin) (by decide),
        hwritten.att]
      cases epochReady s <;> rfl

/-! ### The ends of far reads (R423 to R425) -/

/-- The read that attachment `a` holds under this number of the host. -/
def heldRead (s : State) (a req : Nat) : Option FarRead := (s.att a).far.find? (fun q => q.req == req)

theorem heldRead_eq_none {s : State} {a req : Nat} (h : ∀ q ∈ (s.att a).far, q.req ≠ req) : heldRead s a req = none :=
  List.find?_eq_none.mpr (by simpa using h)

theorem exec_farReadComplete_of_none {a : Fin 64} {req : BitVec 16} {s : State} (h : heldRead s a.val req.toNat = none) :
    exec (.farReadComplete a req) s = .next s := by
  rw [heldRead] at h
  show execFarReadComplete a req s = _
  simp only [execFarReadComplete, h]

theorem exec_farReadTimeout_of_none {a : Fin 64} {req : BitVec 16} {s : State} (h : heldRead s a.val req.toNat = none) :
    exec (.farReadTimeout a req) s = .next s := by
  rw [heldRead] at h
  show execFarReadTimeout a req s = _
  simp only [execFarReadTimeout, h]

theorem exec_farReadComplete_of_held {a : Fin 64} {req : BitVec 16} {q : FarRead} {s : State}
    (h : heldRead s a.val req.toNat = some q) : exec (.farReadComplete a req) s =
    .next (if (q.got.flatMap (fun kv => kv.2)).length = q.len then
      cnt1 (farEnd (cntCM s (.attachment a) 0x106 (s.now - q.since) none (some q.w)) a.val q.id
        (.data (q.got.flatMap (fun kv => kv.2)) q.bad)) (.attachment a) 0x101
    else s) := by
  rw [heldRead] at h
  show execFarReadComplete a req s = _
  simp only [execFarReadComplete, h, ne_eq, ite_not]
  split <;> rfl

/-- The read ended in Completer Abort, its job killed, and the time-out counted and shown (R423, R434). -/
def farAborted (s : State) (a : Nat) (q : FarRead) : State :=
  attEvent (farKill (farEnd (s.bump (attBase a) Reg.Att.FAR_TMO_CNT) a q.id .completerAbort) a q.ch q.id) a 3

/-- The first PSN of the job that a held read has on its channel. -/
def readFirstPsn (s : State) (a : Nat) (q : FarRead) : Option Nat :=
  ((s.chanAny q.ch).bind (fun x => x.jobs.find? (fun j => match j.src with
    | .far b _ i _ => b == a && i == q.id && j.op == opReadReq
    | _ => false))).map Job.firstPsn

/-- FAR_READ_TMO reported for the read's window (R425). -/
def farTmoReported (t : State) (a : Nat) (q : FarRead) (first : Option Nat) : State :=
  raiseEvent (t.setAtt a { t.att a with tmoAt := put (t.att a).tmoAt q.w t.now }) a 0x48
    [q.w, first.getD 0, q.off % 2 ^ 32, q.off / 2 ^ 32]

theorem exec_farReadTimeout_of_held {a : Fin 64} {req : BitVec 16} {q : FarRead} {s : State}
    (h : heldRead s a.val req.toNat = some q) : exec (.farReadTimeout a req) s =
    let t := farAborted s a.val q
    if within t (look (t.att a.val).tmoAt q.w) 1000000 then .next (tpEnd t (clusterOf q.ch))
    else .next (tpEnd (farTmoReported t a.val q (readFirstPsn s a.val q)) (clusterOf q.ch)) := by
  rw [heldRead] at h
  show execFarReadTimeout a req s = _
  simp only [execFarReadTimeout, h]
  rfl

/-! ### FAR_WIN_VALID_WRITE (R420) -/

theorem bitOf_toNat {w : Nat} (x : BitVec w) (i : Nat) : bitOf x.toNat i = x.getLsbD i := by
  rw [bitOf, ← BitVec.testBit_toNat, Nat.testBit_eq_decide_div_mod_eq]
  rfl

/-- The rights of a window's word written, before its size and VALID are looked at. -/
def rightsShown (s : State) (b v : Nat) : State := (s.wr b Reg.FarWin.RD_EN (v / 2)).wr b Reg.FarWin.WR_EN (v / 4)

section Window
variable {r : Route} {a : Fin 64} {w : Fin 16} {s : State} (x : BitVec 32) (htakes : Takes s r (attBase a.val + 32 * w.val + 0x100))
include htakes

theorem exec_farWinValidWrite_of_valid (hvalid : s.on (attBase a.val + 32 * w.val) Reg.FarWin.VALID = true) :
    exec (.farWinValidWrite r a w x) s =
      .next (if x.getLsbD 0 then s else s.wr (attBase a.val + 32 * w.val) Reg.FarWin.VALID 0) := by
  refine congrArg Host.Outcome.next ((guarded_of_takes _ htakes).trans ?_)
  simp only [hvalid, if_true, bitOf_toNat]

theorem exec_farWinValidWrite_badSize (hinvalid : s.on (attBase a.val + 32 * w.val) Reg.FarWin.VALID = false)
    (hsize : bits x.toNat 13 8 < 12 ∨ 44 < bits x.toNat 13 8) : exec (.farWinValidWrite r a w x) s =
    let t := configError (rightsShown s (attBase a.val + 32 * w.val) x.toNat) (.attachment a)
    .next (if x.getLsbD 0 then configError t (.attachment a) else t) := by
  have hbad : (decide (12 ≤ bits x.toNat 13 8) && decide (bits x.toNat 13 8 ≤ 44)) = false := by
    rw [Bool.and_eq_false_iff, decide_eq_false_iff_not, decide_eq_false_iff_not]; omega
  refine congrArg Host.Outcome.next ((guarded_of_takes _ htakes).trans ?_)
  simp only [hinvalid, hbad, bitOf_toNat, Bool.not_false, Bool.or_true, Bool.false_eq_true, if_false, if_true]
  cases x.getLsbD 0 <;> rfl

/-- With a size in its range the window's size is that of the write, and VALID is set where the window is good. -/
theorem exec_farWinValidWrite_goodSize (hinvalid : s.on (attBase a.val + 32 * w.val) Reg.FarWin.VALID = false)
    (hfirst : 12 ≤ bits x.toNat 13 8) (hlast : bits x.toNat 13 8 ≤ 44) : exec (.farWinValidWrite r a w x) s =
    let log := bits x.toNat 13 8
    let u := (rightsShown s (attBase a.val + 32 * w.val) x.toNat).wr (attBase a.val + 32 * w.val) Reg.FarWin.LOG_SIZE log
    .next (if x.getLsbD 0 then
      (if winBad u a.val w.val log then configError u (.attachment a) else u.wr (attBase a.val + 32 * w.val) Reg.FarWin.VALID 1)
    else u) := by
  have hgood : (decide (12 ≤ bits x.toNat 13 8) && decide (bits x.toNat 13 8 ≤ 44)) = true := by
    simp [hfirst, hlast]
  have hlog : bits x.toNat 13 8 % 2 ^ Reg.FarWin.LOG_SIZE.width = bits x.toNat 13 8 := Nat.mod_mod ..
  refine congrArg Host.Outcome.next ((guarded_of_takes _ htakes).trans ?_)
  simp only [hinvalid, hgood, bitOf_toNat, State.rd_wr_same, hlog, Bool.not_true, Bool.or_false, Bool.false_eq_true, if_false, if_true]
  cases x.getLsbD 0 <;> rfl

end Window

end Sys2Proof.Machine
end

section
/-!
PROOFS. Host memory requests, downstream devices, claims and tunnel queues (R417, R418, R426 to R433, R444, R456, R472, R609), with far
windows (R420 to R425) as proved above.
-/
namespace Sys2Proof.Machine

/-! ### HOST_MEM_REQUEST (R417, R444, R472, R609) -/

/-- An eviction or a writeback, which a host may hand in for a line that it holds. -/
def handsBack : HostMem → Bool
  | .evict | .writeBack .. => true
  | .readS | .readA | .readNoOp | .writePart .. => false

/-- What a request does that goes to its line's home: it is counted, and asked of the home or handed in as a writeback. -/
def hostServed (s : State) (u : Fin 64) (line : Nat) (q : HostMem) : State :=
  let count := fun (code : Nat) => countEv s (.attachment u)
    { code := code, inc := 1, priv := none, master := none, addr := some (64 * line), cls := none }
  let ask := fun (t : State) (k : HomeKind) (off : Nat) (b : List Byte) (bad : Bool) => askHome t
    { kind := k, asker := .agent u.val, line := line, off := off, bytes := b, bad := bad, group := 0, seg := 0, tag := none,
      since := 0, held := false }
  let back := fun (t : State) (k : WbKind) (d : List Byte) (bad : Bool) => { t with mesh := { t.mesh with
    wbs := t.mesh.wbs ++ [{ kind := k, agent := u.val, line := line, data := d, bad := bad }] } }
  match q with
  | .readS => ask (count 0x102) .rdShared 0 [] false
  | .readA => ask (count 0x102) .rdOwn 0 [] false
  | .readNoOp => ask (count 0x102) .rdNoAlloc 0 (List.replicate 64 0) false
  | .evict => back s .evict [] false
  | .writeBack d bad => back (count 0x103) .wbMod (d.take 64) bad
  | .writePart off b bad => ask (count 0x103) .wrNoAlloc off.val (b.take (64 - off.val)) bad

theorem exec_hostMemRequest_of_noLink {u : Fin 64} {s : State} (line : BitVec 46) (q : HostMem)
    (h : attUp s u.val = false ∨ s.on (attBase u.val) Reg.Att.ATT_STATE_CXL = false ∨ isDead s u.val = true) :
    exec (.hostMemRequest u line q) s = .next s := by
  refine if_pos ?_
  simpa [or_assoc] using h

section Linked
variable {u : Fin 64} {s : State} (hup : attUp s u.val = true) (hcxl : s.on (attBase u.val) Reg.Att.ATT_STATE_CXL = true)
  (hlive : isDead s u.val = false)
include hup hcxl hlive

theorem exec_hostMemRequest_of_fatal (line : BitVec 46) (q : HostMem) (hfatal : fatalStopped s = true) :
    exec (.hostMemRequest u line q) s = .next (contained s u.val line.toNat q) := by
  show execHostMemRequest u line q s = _
  simp [execHostMemRequest, hup, hcxl, hlive, hfatal]

/-- An admitted host's request goes to the home, and so does what a host hands back of a line that it holds. -/
theorem exec_hostMemRequest_of_running (line : BitVec 46) (q : HostMem) (hfatal : fatalStopped s = false) :
    exec (.hostMemRequest u line q) s =
      if !(hostAdmitted s u.val (extentOf (64 * line.toNat))) && !(handsBack q && (holders s line.toNat).contains u.val) then
        .next (unallocated s u.val line.toNat q)
      else .next (hostServed s u line.toNat q) := by
  show execHostMemRequest u line q s = _
  cases q <;> simp only [execHostMemRequest, hostServed, handsBack, hup, hcxl, hlive, hfatal, Bool.not_true, Bool.or_self,
    Bool.false_eq_true, Bool.true_and, Bool.false_and, if_false]

theorem exec_hostMemRequest_of_unadmitted {line : BitVec 46} {q : HostMem} (hfatal : fatalStopped s = false)
    (hno : hostAdmitted s u.val (extentOf (64 * line.toNat)) = false)
    (hback : handsBack q = false ∨ u.val ∉ holders s line.toNat) :
    exec (.hostMemRequest u line q) s = .next (unallocated s u.val line.toNat q) := by
  rw [exec_hostMemRequest_of_running hup hcxl hlive line q hfatal, if_pos]
  rcases hback with hback | hback <;> simp [hno, hback]

theorem exec_hostMemRequest_of_admitted {line : BitVec 46} (q : HostMem) (hfatal : fatalStopped s = false)
    (hadmitted : hostAdmitted s u.val (extentOf (64 * line.toNat)) = true) :
    exec (.hostMemRequest u line q) s = .next (hostServed s u line.toNat q) := by
  rw [exec_hostMemRequest_of_running hup hcxl hlive line q hfatal, if_neg]
  simp [hadmitted]

theorem exec_hostMemRequest_of_handedBack {line : BitVec 46} {q : HostMem} (hfatal : fatalStopped s = false) (hback : handsBack q = true)
    (hreach : hostAdmitted s u.val (extentOf (64 * line.toNat)) = true ∨ u.val ∈ holders s line.toNat) :
    exec (.hostMemRequest u line q) s = .next (hostServed s u line.toNat q) := by
  rw [exec_hostMemRequest_of_running hup hcxl hlive line q hfatal, if_neg]
  rcases hreach with hreach | hreach <;> simp [hreach, hback]

end Linked

/-! ### Downstream devices (R418, R426 to R428, R609) -/

theorem exec_downstreamMessage_of_link {a : Fin 64} {s : State} (m : DownMsg) (hdown : isDown s a.val = true)
    (hlink : linkUp s a.val = true) (husable : (s.att a.val).unusable = false) (hmine : (isBound s a.val || isOwned s a.val) = true) :
    exec (.downstreamMessage a m) s = .next (pumpMsgs (s.setAtt a.val { s.att a.val with
      msgs := (s.att a.val).msgs ++ [((s.att a.val).wseq, m)] }) a.val) :=
  if_pos (by rw [hdown, hlink, husable, hmine]; rfl)

theorem exec_downstreamMessage_of_noLink {a : Fin 64} {s : State} (m : DownMsg) (h : isDown s a.val = false ∨ linkUp s a.val = false ∨
    (s.att a.val).unusable = true ∨ (isBound s a.val || isOwned s a.val) = false) : exec (.downstreamMessage a m) s = .next s := by
  refine if_neg ?_
  rcases h with h | h | h | h <;> simp [h]

theorem exec_ownedDeviceRequest_of_noLink {a : Fin 64} {s : State} (da : BitVec 52) (q : DevReq)
    (h : isOwned s a.val = false ∨ linkUp s a.val = false ∨ (s.att a.val).unusable = true) :
    exec (.ownedDeviceRequest a da q) s = .next s := by
  refine if_pos ?_
  simpa [or_assoc] using h

theorem exec_ownedDeviceRequest_of_link {a : Fin 64} {s : State} (da : BitVec 52) (q : DevReq) (howned : isOwned s a.val = true)
    (hlink : linkUp s a.val = true) (husable : (s.att a.val).unusable = false) : exec (.ownedDeviceRequest a da q) s =
    if fatalStopped s then .next (devContained s a.val q)
    else if allExtents s da.toNat (devLen q) (fun x => x.owner == .device && x.open_) then .next (devPool s a.val da.toNat q)
    else .next (s.emit (.deviceDone a.val (devTag q) .unsupported)) :=
  if_neg (by simp [howned, hlink, husable])

theorem exec_boundDeviceRequest_of_unbound {a : Fin 64} {s : State} (q : HostDevReq) (h : isBound s a.val = false) :
    exec (.boundDeviceRequest a q) s = .next s := if_pos (by simp [h])

/-- What becomes of a host's request to a contained device (R418). -/
def heldBack : HostDevReq → HostDevEnd
  | .nonPosted => .unsupported
  | .posted => .discarded
  | .memRead => .poisoned
  | .memWrite => .discarded

theorem exec_boundDeviceRequest_of_bound {a : Fin 64} {s : State} (q : HostDevReq) (h : isBound s a.val = true) :
    exec (.boundDeviceRequest a q) s =
      .next (s.emit (.toDevice a.val q (if linkUp s a.val && !(fatalStopped s) then .forwarded else heldBack q))) :=
  if_neg (by simp [h])

theorem exec_downstreamDeviceRequest_of_noLink {a : Fin 64} {s : State} (d : DevDest) (q : DevReq)
    (h : isBound s a.val = false ∨ linkUp s a.val = false ∨ (s.att a.val).unusable = true) :
    exec (.downstreamDeviceRequest a d q) s = .next s := by
  refine if_pos ?_
  simpa [or_assoc] using h

/-- Host `u` is admitted to every extent that `l` bytes at `da` touch. -/
def poolAdmits (s : State) (u da l : Nat) : Bool :=
  0 < l && (List.range (extentOf (da + l - 1) + 1 - extentOf da)).all (fun i => hostAdmitted s u (extentOf da + i))

theorem poolAdmits_iff {s : State} {u da l : Nat} : poolAdmits s u da l = true ↔
    0 < l ∧ ∀ i, i < extentOf (da + l - 1) + 1 - extentOf da → hostAdmitted s u (extentOf da + i) = true := by
  simp [poolAdmits]

section Bound
variable {a : Fin 64} {s : State} (hbound : isBound s a.val = true) (hlink : linkUp s a.val = true)
  (husable : (s.att a.val).unusable = false)
include hbound hlink husable

theorem exec_downstreamDeviceRequest_of_fatal (d : DevDest) (q : DevReq) (hfatal : fatalStopped s = true) :
    exec (.downstreamDeviceRequest a d q) s = .next (devContained s a.val q) := by
  show execDownstreamDeviceRequest a d q s = _
  simp [execDownstreamDeviceRequest, hbound, hlink, husable, hfatal]

variable (hfatal : fatalStopped s = false)
include hfatal

theorem exec_downstreamDeviceRequest_host (addr : BitVec 64) :
    (∀ tag n, exec (.downstreamDeviceRequest a (.host addr) (.read tag n)) s =
      .next (s.emit (.memRead (attRd s a.val Reg.Att.BIND_VCS) addr.toNat n.toNat))) ∧
    (∀ bytes poison, exec (.downstreamDeviceRequest a (.host addr) (.write bytes poison)) s =
      .next (s.emit (.memWrite (attRd s a.val Reg.Att.BIND_VCS) addr.toNat bytes))) := by
  refine ⟨fun tag n => ?_, fun bytes poison => ?_⟩
  · show execDownstreamDeviceRequest a (.host addr) (.read tag n) s = _
    simp [execDownstreamDeviceRequest, hbound, hlink, husable, hfatal]
  · show execDownstreamDeviceRequest a (.host addr) (.write bytes poison) s = _
    simp [execDownstreamDeviceRequest, hbound, hlink, husable, hfatal]

theorem exec_downstreamDeviceRequest_admitted {da : BitVec 52} {q : DevReq}
    (hadmits : poolAdmits s (attRd s a.val Reg.Att.BIND_VCS) da.toNat (devLen q) = true) :
    exec (.downstreamDeviceRequest a (.pool da) q) s = .next (devPool s a.val da.toNat q) := by
  rw [poolAdmits] at hadmits
  show execDownstreamDeviceRequest a (.pool da) q s = _
  simp only [execDownstreamDeviceRequest, hbound, hlink, husable, hfatal, hadmits, Bool.not_true, Bool.or_self, Bool.false_eq_true,
    if_false, if_true]

/-- Without its host's admission a device's read returns poison, and its write is discarded. -/
theorem exec_downstreamDeviceRequest_unadmitted {da : BitVec 52} {q : DevReq}
    (hrefuses : poolAdmits s (attRd s a.val Reg.Att.BIND_VCS) da.toNat (devLen q) = false) :
    (∀ tag n, q = .read tag n → exec (.downstreamDeviceRequest a (.pool da) q) s =
      .next ((s.bump (attBase (attRd s a.val Reg.Att.BIND_VCS)) Reg.Att.UNALLOC_CNT).spend.emit
        (.deviceDone a.val tag.toNat (.data (leBytes (s.drawn (8 * n.toNat)) n.toNat) true)))) ∧
    (∀ bytes poison, q = .write bytes poison → exec (.downstreamDeviceRequest a (.pool da) q) s =
      .next (s.bump (attBase (attRd s a.val Reg.Att.BIND_VCS)) Reg.Att.UNALLOC_CNT)) := by
  rw [poolAdmits] at hrefuses
  have hexec : exec (.downstreamDeviceRequest a (.pool da) q) s = execDownstreamDeviceRequest a (.pool da) q s := rfl
  simp only [hexec, execDownstreamDeviceRequest, hbound, hlink, husable, hfatal, hrefuses, Bool.not_true, Bool.or_self,
    Bool.false_eq_true, if_false]
  exact ⟨fun tag n hq => hq ▸ rfl, fun bytes poison hq => hq ▸ rfl⟩

end Bound

/-! ### CLAIM_VALID_WRITE (R429, R456) -/

/-- The extents that claim entry `k` of attachment `a` names. -/
def claimExtents (s : State) (a k : Nat) : List Nat := (List.range (claimRange s a k).2).map ((claimRange s a k).1 + ·)

/-- The extent is not in use, so that its claim may end (R456). -/
def claimLoose (s : State) (e : Nat) : Bool :=
  ((s.ext e).map (fun y => y.owner == .free && y.xstate != .offered && y.xstate != .releasing)).getD true

/-- A claim entry made valid: its decoder is set, and its extents enter the pool by way of their sanitizing. -/
def claimMade (s t : State) (a k : Nat) : State :=
  let b := attBase a + 16 * k
  (claimExtents t a k).foldl (fun t e => queueSanitize (t.setExt e ExtSt.init) e) ((t.wr b Reg.Claim.VALID 1).emit
    (.claimDecoder a k (s.rd64 b Reg.Claim.DPA_BASE_LO Reg.Claim.DPA_BASE_HI) (claimRange t a k).1 (claimRange t a k).2))

theorem rd64_dpaBase_wr_count (s : State) (b n : Nat) : (s.wr b Reg.Claim.EXT_COUNT n).rd64 b Reg.Claim.DPA_BASE_LO Reg.Claim.DPA_BASE_HI =
    s.rd64 b Reg.Claim.DPA_BASE_LO Reg.Claim.DPA_BASE_HI := by
  rw [State.rd64, State.rd64, State.rd_wr_other _ _ _ _ _ _ (Field.key_ne _ _ _ (by decide) (by decide) (by decide)),
    State.rd_wr_other _ _ _ _ _ _ (Field.key_ne _ _ _ (by decide) (by decide) (by decide))]

section Claim
variable {r : Route} {a : Fin 64} {k : Fin 8} {s : State} (x : BitVec 32) (fits : Bool)
  (htakes : Takes s r (attBase a.val + 16 * k.val + 0x50C))
include htakes

theorem exec_claimValidWrite_of_valid (hvalid : s.on (attBase a.val + 16 * k.val) Reg.Claim.VALID = true) :
    exec (.claimValidWrite r a k x fits) s = .next (if x.getLsbD 31 then s
      else if (claimExtents s a.val k.val).all (claimLoose s) then
        (claimExtents s a.val k.val).foldl unclaim (s.wr (attBase a.val + 16 * k.val) Reg.Claim.VALID 0)
      else configError s (.attachment a)) := by
  refine congrArg Host.Outcome.next ((guarded_of_takes _ htakes).trans ?_)
  simp only [hvalid, if_true, bitOf_toNat]
  rfl

theorem exec_claimValidWrite_badCount (hinvalid : s.on (attBase a.val + 16 * k.val) Reg.Claim.VALID = false)
    (hcount : x.toNat % 2 ^ 17 < 1 ∨ 65536 < x.toNat % 2 ^ 17) : exec (.claimValidWrite r a k x fits) s =
    let t := configError s (.attachment a)
    .next (if x.getLsbD 31 then configError t (.attachment a) else t) := by
  have hbad : (decide (1 ≤ x.toNat % 2 ^ 17) && decide (x.toNat % 2 ^ 17 ≤ 65536)) = false := by
    rw [Bool.and_eq_false_iff, decide_eq_false_iff_not, decide_eq_false_iff_not]; omega
  refine congrArg Host.Outcome.next ((guarded_of_takes _ htakes).trans ?_)
  simp only [hinvalid, hbad, bitOf_toNat, Bool.not_false, Bool.true_or, Bool.false_eq_true, if_false, if_true]
  cases x.getLsbD 31 <;> rfl

theorem exec_claimValidWrite_goodCount (hinvalid : s.on (attBase a.val + 16 * k.val) Reg.Claim.VALID = false)
    (hfirst : 1 ≤ x.toNat % 2 ^ 17) (hlast : x.toNat % 2 ^ 17 ≤ 65536) : exec (.claimValidWrite r a k x fits) s =
    let n := x.toNat % 2 ^ 17
    let t := s.wr (attBase a.val + 16 * k.val) Reg.Claim.EXT_COUNT n
    .next (if x.getLsbD 31 then
      (if claimBad t a.val k.val n fits then configError t (.attachment a) else claimMade s t a.val k.val)
    else t) := by
  have hgood : (decide (1 ≤ x.toNat % 2 ^ 17) && decide (x.toNat % 2 ^ 17 ≤ 65536)) = true := by
    rw [Bool.and_eq_true, decide_eq_true_iff, decide_eq_true_iff]; exact ⟨hfirst, hlast⟩
  refine congrArg Host.Outcome.next ((guarded_of_takes _ htakes).trans ?_)
  simp only [hinvalid, hgood, bitOf_toNat, rd64_dpaBase_wr_count, Bool.not_true, Bool.false_or, Bool.false_eq_true, if_false, if_true]
  cases x.getLsbD 31 <;> rfl

end Claim

/-! ### TUNNEL_RECEIVE (R31, R97, R432, R433) -/

/-- A TUNNEL packet that waits at core port `o`, oldest first. -/
def tunnelAt (s : State) (o : Nat) : Option (Packet × State) := takeInbox s [o] (fun x => x.op == opTunnel)

theorem tunnelAt_of_empty {s : State} {o : Nat} (h : lookD s.switch.inbox o [] = []) : tunnelAt s o = none := by
  simp [tunnelAt, takeInbox, h]

/-- The attachment that a TUNNEL packet at core port `o` is for. -/
def tunnelDest (s : State) (o : Nat) (x : Packet) : Option Nat :=
  if x.rh.mc = true then (lookD s.switch.mcTo o []).head? else if x.endpoint < 64 then some x.endpoint else none

/-- A packet at a cluster's port ends at the checks of R97, or goes to its attachment. -/
theorem exec_tunnelReceive_cluster {p : Fin 128} {x : Packet} {s t : State} (frag : Option (List Byte)) (hfatal : fatalStopped s = false)
    (hfirst : 112 ≤ p.val) (hlast : p.val < 124) (htake : tunnelAt s p.val = some (x, t)) : exec (.tunnelReceive p frag) s =
    .next ((arriveGood t ((p.val - 112) / 3) x).getD ((tunnelDest s p.val x).elim
      (recordError (t.bump (clusterBase ((p.val - 112) / 3)) Reg.Tc.MALFORMED_CNT)
        (ErrRec.contained (.cluster (idx 3 ((p.val - 112) / 3))) .protocol 0 0))
      (fun a => (tunDeliver t a x frag).elim (tunWait s a x) tpSyncAll))) := by
  have hport : ¬ p.val = 126 := by omega
  have hcluster : ¬ (p.val < 112 ∨ 124 ≤ p.val) := by omega
  have hexec : exec (.tunnelReceive p frag) s = execTunnelReceive p frag s := rfl
  rw [tunnelAt] at htake
  simp only [hexec, execTunnelReceive, hfatal, if_neg hport, if_neg hcluster, htake, Bool.false_eq_true, if_false]
  cases arriveGood t ((p.val - 112) / 3) x with
  | some u => rfl
  | none =>
    simp only [← tunnelDest.eq_1, Option.getD_none]
    cases tunnelDest s p.val x with
    | none => rw [Option.elim_none]
    | some a =>
      cases hdeliver : tunDeliver t a x frag <;> simp only [hdeliver, Option.elim_some, Option.elim_none]

theorem exec_tunnelReceive_mgmt {x : Packet} {s t : State} (frag : Option (List Byte)) (hfatal : fatalStopped s = false)
    (htake : tunnelAt s 126 = some (x, t)) : exec (.tunnelReceive 126 frag) s =
    .next ((mgmtRefused t x).getD (t.emit (.toMgmt x))) := by
  have hport : ((126 : Fin 128).val) = 126 := rfl
  rw [tunnelAt] at htake
  show execTunnelReceive 126 frag s = _
  simp only [execTunnelReceive, hfatal, hport, htake, Bool.false_eq_true, if_false, if_true]
  cases mgmtRefused t x <;> rfl

theorem exec_tunnelReceive_of_none {p : Fin 128} {s : State} (frag : Option (List Byte)) (h : fatalStopped s = true ∨ p.val < 112 ∨
    p.val = 124 ∨ p.val = 125 ∨ p.val = 127 ∨ tunnelAt s p.val = none) : exec (.tunnelReceive p frag) s = .next s := by
  show execTunnelReceive p frag s = _
  rcases h with hfatal | hlow | hport | hport | hport | hnone
  · exact if_pos hfatal
  · have hport : ¬ p.val = 126 := by omega
    simp [execTunnelReceive, hport, hlow]
  · simp [execTunnelReceive, hport]
  · simp [execTunnelReceive, hport]
  · simp [execTunnelReceive, hport]
  · rw [tunnelAt] at hnone
    by_cases hport : p.val = 126
    · rw [hport] at hnone
      simp [execTunnelReceive, hport, hnone]
    · simp [execTunnelReceive, hport, hnone]

theorem tunDeliver_of_off {s : State} {a : Nat} {p : Packet} (frag : Option (List Byte))
    (h : attRd s a Reg.Att.TUN_EN = 0 ∨ s.on (bar2 (tunFn s a p.payload)) Reg.Trq.TRQ_CFG_EN = false ∨
      fnReady s (tunFn s a p.payload) = false ∨
      s.rd (bar2 (tunFn s a p.payload)) Reg.Trq.TRQ_CI = s.rd (bar2 (tunFn s a p.payload)) Reg.Trq.TRQ_PI) :
    tunDeliver s a p frag = some (tunDrop s a) := by
  refine if_pos ?_
  simpa using h

/-! ### TRQ_DOORBELL (R278, R433) -/

theorem exec_trqDoorbell_of_idle {f : Fin 1024} {s : State} (v : BitVec 32)
    (h : fatalStopped s = true ∨ fnReady s f.val = false ∨ s.on (bar2 f.val) Reg.Trq.TRQ_CFG_EN = false) :
    exec (.trqDoorbell f v) s = .next s := by
  show execTrqDoorbell f v s = _
  rcases h with h | h | h <;> simp [execTrqDoorbell, h]

theorem exec_trqDoorbell_of_on {f : Fin 1024} {s : State} (v : BitVec 32) (hfatal : fatalStopped s = false)
    (hready : fnReady s f.val = true) (hon : s.on (bar2 f.val) Reg.Trq.TRQ_CFG_EN = true) : exec (.trqDoorbell f v) s = .next (
      if indexGood v.toNat (s.rd (bar2 f.val) Reg.Trq.TRQ_CI) (s.rd (bar2 f.val) Reg.Trq.TRQ_PI)
          (s.rd (bar2 f.val) Reg.Trq.TRQ_CFG_LOG_SIZE) then s.wr (bar2 f.val) Reg.Trq.TRQ_PI v.toNat
      else badIndex s f.val (countEngine f.val) 0 v.toNat false) := by
  show execTrqDoorbell f v s = _
  simp only [execTrqDoorbell, hfatal, hready, hon, Bool.not_true, Bool.or_self, Bool.false_eq_true, if_false]
  split <;> rfl

/-- Settles O39. Each command is taken by the tests of its own lemma: link and admission for a host's or a device's request, window and
version for a far access, size and place for a window or a claim, port and queue for a tunnel packet. -/
theorem hostAndFarAccessesGoTheirWay : Obligations.HostAndFarAccessesGoTheirWay := by
  unfold Obligations.HostAndFarAccessesGoTheirWay
  refine ⟨?reached, ?unadmitted, ?noLink, ?farIdle, ?farRead, ?farWrite, ?complete, ?unheld, ?timeout, ?window, ?message, ?owned, ?bound,
    ?downstream, ?claim, ?tunnel, ?mgmt, ?noTunnel, ?tunnelOff, ?doorbell⟩
  case reached =>
    intro u line off b d bad s hup hcxl hlive hfatal count ask back
    have hserved := fun q => exec_hostMemRequest_of_admitted hup hcxl hlive (line := line) q hfatal
    refine ⟨fun h => ⟨hserved .readS h, hserved .readA h, hserved .readNoOp h, hserved (.writePart off b bad) h⟩,
      fun h => ⟨?_, ?_⟩⟩
    · exact exec_hostMemRequest_of_handedBack hup hcxl hlive (q := .evict) hfatal rfl h
    · rw [exec_hostMemRequest_of_handedBack hup hcxl hlive (q := .writeBack d bad) hfatal rfl h]
      simp only [hostServed, back, count]
  case unadmitted =>
    intro u line off b d bad s hup hcxl hlive hfatal hno t
    have hrefused := fun q => exec_hostMemRequest_of_unadmitted hup hcxl hlive (q := q) hfatal hno
    refine ⟨hrefused .readS (.inl rfl), hrefused .readA (.inl rfl), hrefused .readNoOp (.inl rfl),
      hrefused (.writePart off b bad) (.inl rfl), fun hholds => ⟨hrefused .evict (.inr hholds), fun hfailed => ?_, fun hgood => ?_⟩⟩
    · rw [hrefused (.writeBack d bad) (.inr hholds), unallocated, hfailed]; rfl
    · rw [hrefused (.writeBack d bad) (.inr hholds), unallocated, hgood]; rfl
  case noLink =>
    intro u line q s
    exact ⟨exec_hostMemRequest_of_noLink line q, fun hup hcxl hlive => exec_hostMemRequest_of_fatal hup hcxl hlive line q⟩
  case farIdle =>
    intro a off n req bytes s
    exact ⟨exec_farWindowRead_of_idle off req, exec_farWindowWrite_of_idle off⟩
  case farRead =>
    intro a off n req s hup hlen hroom c
    have hexec := exec_farWindowRead_of_room (off := off) req hup hlen hroom
    refine ⟨fun hfatal => ?_, fun hfatal hnone => ?_, fun w hfatal hwin => ⟨fun hwait => ?_, fun hready => ?_⟩⟩
    · exact hexec.trans (if_pos hfatal)
    · rw [hfatal, hnone] at hexec; exact hexec
    · rw [hfatal, hwin, hwait] at hexec; exact hexec
    · rw [hfatal, hwin, hready] at hexec; exact hexec
  case farWrite =>
    intro a off bytes s hup hbytes c
    have hexec := exec_farWindowWrite_of_bytes (off := off) hup hbytes
    refine ⟨fun hfatal => ?_, fun hfatal hnone => ?_, fun w hfatal hwin => ⟨fun hwait => ?_, fun hready => ?_⟩⟩
    · exact hexec.trans (if_pos hfatal)
    · rw [hfatal, hnone] at hexec; exact hexec
    · rw [hfatal, hwin, hwait] at hexec; exact hexec
    · rw [hfatal, hwin, hready] at hexec; exact hexec
  case complete =>
    intro a req q s hq
    rw [exec_farReadComplete_of_held hq]
    exact ⟨fun hall => by rw [if_pos hall], fun hpart => by rw [if_neg hpart]⟩
  case unheld =>
    intro a req s h
    have hnone := heldRead_eq_none h
    exact ⟨exec_farReadComplete_of_none hnone, exec_farReadTimeout_of_none hnone⟩
  case timeout =>
    intro a req q s hq first t
    rw [exec_farReadTimeout_of_held hq]
    exact ⟨fun hrecent => if_pos hrecent, fun hold => if_neg (Bool.eq_false_iff.mp hold)⟩
  case window =>
    intro r a w x s htakes b log t u
    refine ⟨fun hvalid => ?_, fun hinvalid hsize => exec_farWinValidWrite_badSize x htakes hinvalid hsize,
      fun hinvalid hfirst hlast => ?_⟩
    · rw [exec_farWinValidWrite_of_valid x htakes hvalid]
      exact ⟨fun hset => by rw [if_pos hset], fun hclear => by rw [hclear]; rfl⟩
    · have hexec := exec_farWinValidWrite_goodSize x htakes hinvalid hfirst hlast
      exact ⟨fun hclear => hexec.trans (congrArg Host.Outcome.next (if_neg (Bool.eq_false_iff.mp hclear))),
        fun hset hbad => hexec.trans (congrArg Host.Outcome.next ((if_pos hset).trans (if_pos hbad))),
        fun hset hgood => hexec.trans (congrArg Host.Outcome.next ((if_pos hset).trans (if_neg (Bool.eq_false_iff.mp hgood))))⟩
  case message =>
    intro a m s
    exact ⟨exec_downstreamMessage_of_link m, exec_downstreamMessage_of_noLink m⟩
  case owned =>
    intro a da q s
    refine ⟨exec_ownedDeviceRequest_of_noLink da q, fun howned hlink husable => ?_⟩
    rw [exec_ownedDeviceRequest_of_link da q howned hlink husable]
    exact ⟨fun hfatal => if_pos hfatal, fun hfatal hopen => by rw [hfatal, hopen]; rfl,
      fun hfatal hclosed => by rw [hfatal, hclosed]; rfl⟩
  case bound =>
    intro a q s
    refine ⟨exec_boundDeviceRequest_of_unbound q, fun hbound hlink hfatal => ?_, fun hbound hheld => ?_⟩
    · rw [exec_boundDeviceRequest_of_bound q hbound, hlink, hfatal]; rfl
    · have hoff : (linkUp s a.val && !(fatalStopped s)) = false := by rcases hheld with h | h <;> simp [h]
      simp only [exec_boundDeviceRequest_of_bound _ hbound, hoff, Bool.false_eq_true, if_false]
      exact ⟨rfl, rfl, rfl, rfl⟩
  case downstream =>
    intro a addr da d bytes poison tag n q s
    refine ⟨exec_downstreamDeviceRequest_of_noLink d q, fun hbound hlink husable =>
      ⟨exec_downstreamDeviceRequest_of_fatal hbound hlink husable d q, fun hfatal => ?_⟩⟩
    obtain ⟨hread, hwrite⟩ := exec_downstreamDeviceRequest_host hbound hlink husable hfatal addr
    have hrefused := fun hbad => exec_downstreamDeviceRequest_unadmitted hbound hlink husable hfatal (da := da) (q := q)
      (Bool.eq_false_iff.mpr (mt poolAdmits_iff.mp hbad))
    exact ⟨hread tag n, hwrite bytes poison,
      fun hgood => exec_downstreamDeviceRequest_admitted hbound hlink husable hfatal (poolAdmits_iff.mpr hgood),
      fun hbad => (hrefused hbad).1 tag n, fun hbad => (hrefused hbad).2 bytes poison⟩
  case claim =>
    intro r a k x fits s htakes b n t err mine freed
    refine ⟨fun hvalid => ?_, fun hinvalid hcount => ?_, fun hinvalid hfirst hlast => ?_⟩
    · have hexec := exec_claimValidWrite_of_valid x fits htakes hvalid
      exact ⟨fun hset => hexec.trans (congrArg Host.Outcome.next (if_pos hset)),
        fun hclear hfree => hexec.trans (congrArg Host.Outcome.next ((if_neg (Bool.eq_false_iff.mp hclear)).trans (if_pos hfree))),
        fun hclear hheld => hexec.trans (congrArg Host.Outcome.next
          ((if_neg (Bool.eq_false_iff.mp hclear)).trans (if_neg (Bool.eq_false_iff.mp hheld))))⟩
    · exact exec_claimValidWrite_badCount x fits htakes hinvalid hcount
    · have hexec := exec_claimValidWrite_goodCount x fits htakes hinvalid hfirst hlast
      exact ⟨fun hclear => hexec.trans (congrArg Host.Outcome.next (if_neg (Bool.eq_false_iff.mp hclear))),
        fun hset hbad => hexec.trans (congrArg Host.Outcome.next ((if_pos hset).trans (if_pos hbad))),
        fun hset hgood => hexec.trans (congrArg Host.Outcome.next ((if_pos hset).trans (if_neg (Bool.eq_false_iff.mp hgood))))⟩
  case tunnel =>
    intro p frag x s t hfatal hfirst hlast htake c dest
    have hexec := exec_tunnelReceive_cluster frag hfatal hfirst hlast htake
    refine ⟨fun u harrive => ?_, fun harrive hdest => ?_, fun a harrive hdest => ⟨fun u hdeliver => ?_, fun hwait => ?_⟩⟩
    · rw [hexec, harrive, Option.getD_some]
    · rw [hexec, harrive, show tunnelDest s p.val x = none from hdest, Option.getD_none, Option.elim_none]
    · rw [hexec, harrive, show tunnelDest s p.val x = some a from hdest, Option.getD_none, Option.elim_some, hdeliver, Option.elim_some]
    · rw [hexec, harrive, show tunnelDest s p.val x = some a from hdest, Option.getD_none, Option.elim_some, hwait, Option.elim_none]
  case mgmt =>
    intro frag x s t hfatal htake
    rw [exec_tunnelReceive_mgmt frag hfatal htake]
    exact ⟨fun u hrefused => by rw [hrefused]; rfl, fun hnone => by rw [hnone]; rfl⟩
  case noTunnel =>
    intro p frag s h
    exact exec_tunnelReceive_of_none frag (h.imp_right (.imp_right (.imp_right (.imp_right (.imp_right tunnelAt_of_empty)))))
  case tunnelOff =>
    intro s a p frag f h
    exact tunDeliver_of_off frag h
  case doorbell =>
    intro f v s b
    refine ⟨exec_trqDoorbell_of_idle v, fun hfatal hready hon hci hpi => ?_, fun hfatal hready hon hbeyond => ?_⟩
    · rw [exec_trqDoorbell_of_on v hfatal hready hon, if_pos (indexGood_iff.mpr ⟨hci, hpi⟩)]
    · have hbad : ¬ indexGood v.toNat (s.rd b Reg.Trq.TRQ_CI) (s.rd b Reg.Trq.TRQ_PI) (s.rd b Reg.Trq.TRQ_CFG_LOG_SIZE) = true := by
        rw [indexGood_iff]; omega
      rw [exec_trqDoorbell_of_on v hfatal hready hon, if_neg hbad]
      rfl

end Sys2Proof.Machine
end

section
/-!
PROOFS. What every step keeps, of which the form of the pool's memory is a part (R449, R450), and the state after reset (R450, R483,
R589, R590).
-/
namespace Sys2Proof.Machine

/-! ### Every command and every step keeps (notes/assumptions/4.md) -/

/-- Each command ends in a next state, and that state keeps, by the lemma of its operation. -/
theorem exec_keeps (c : Instr) (s : State) : Ends (exec c s) (Keeps s) :=
  match c with
  | .paceIntervalEnd counts => execPaceIntervalEnd_keeps counts s (Keeps.refl s)
  | .paceLowEnter => execPaceLowEnter_keeps s (Keeps.refl s)
  | .paceRestored => execPaceRestored_keeps s (Keeps.refl s)
  | .paceFloorWrite r v => execPaceFloorWrite_keeps r v s (Keeps.refl s)
  | .avsLoopPeriod => execAvsLoopPeriod_keeps s (Keeps.refl s)
  | .powerEstimate rail islandsW => execPowerEstimate_keeps rail islandsW s (Keeps.refl s)
  | .avsTxnNack => execAvsTxnNack_keeps s (Keeps.refl s)
  | .avsStatusRead => execAvsStatusRead_keeps s (Keeps.refl s)
  | .avsStatusAck mv => execAvsStatusAck_keeps mv s (Keeps.refl s)
  | .bridgeCodeError w => execBridgeCodeError_keeps w s (Keeps.refl s)
  | .registerWrite w => execRegisterWrite_keeps w s (Keeps.refl s)
  | .rcFieldRead x n => execRcFieldRead_keeps x n s (Keeps.refl s)
  | .reg64LowWrite r w => execReg64LowWrite_keeps r w s (Keeps.refl s)
  | .reg64HighWrite r w => execReg64HighWrite_keeps r w s (Keeps.refl s)
  | .reg64LowRead r off => execReg64LowRead_keeps r off s (Keeps.refl s)
  | .reg64HighRead r off => execReg64HighRead_keeps r off s (Keeps.refl s)
  | .stFieldWrite r w => execStFieldWrite_keeps r w s (Keeps.refl s)
  | .fpFieldWrite r w => execFpFieldWrite_keeps r w s (Keeps.refl s)
  | .fpWriteApplied island => execFpWriteApplied_keeps island s (Keeps.refl s)
  | .fpWriteAbandon island => execFpWriteAbandon_keeps island s (Keeps.refl s)
  | .fence r u => execFence_keeps r u s (Keeps.refl s)
  | .unitReset r u alsoFence => execUnitReset_keeps r u alsoFence s (Keeps.refl s)
  | .unitResetDone u => execUnitResetDone_keeps u s (Keeps.refl s)
  | .cmtGroupWrite r u g => execCmtGroupWrite_keeps r u g s (Keeps.refl s)
  | .cmtStrobe r groups => execCmtStrobe_keeps r groups s (Keeps.refl s)
  | .commitApply u => execCommitApply_keeps u s (Keeps.refl s)
  | .cmtDiscard r groups => execCmtDiscard_keeps r groups s (Keeps.refl s)
  | .warmReset r => execWarmReset_keeps r s (Keeps.refl s)
  | .coldReset r => execColdReset_keeps r s (Keeps.refl s)
  | .poolStaleClr r => execPoolStaleClr_keeps r s (Keeps.refl s)
  | .injEpochWrite r e => execInjEpochWrite_keeps r e s (Keeps.refl s)
  | .packetHeadArrive p vc => execPacketHeadArrive_keeps p vc s (Keeps.refl s)
  | .egressGrant o => execEgressGrant_keeps o s (Keeps.refl s)
  | .packetTailArrive p vc => execPacketTailArrive_keeps p vc s (Keeps.refl s)
  | .redAvgIdleTick => execRedAvgIdleTick_keeps s (Keeps.refl s)
  | .bufferEccError w corrected => execBufferEccError_keeps w corrected s (Keeps.refl s)
  | .poolHwmClr r => execPoolHwmClr_keeps r s (Keeps.refl s)
  | .switchCntClr r => execSwitchCntClr_keeps r s (Keeps.refl s)
  | .mcEntryWordWrite r g w v => execMcEntryWordWrite_keeps r g w v s (Keeps.refl s)
  | .mcEntryApply r g v => execMcEntryApply_keeps r g v s (Keeps.refl s)
  | .linkBlockSend n => execLinkBlockSend_keeps n s (Keeps.refl s)
  | .linkBlockReceive n b crc fecBad fecCorr => execLinkBlockReceive_keeps n b crc fecBad fecCorr s (Keeps.refl s)
  | .replayReqReceive n ex => execReplayReqReceive_keeps n ex s (Keeps.refl s)
  | .replayTimeout n => execReplayTimeout_keeps n s (Keeps.refl s)
  | .creditGrantPeriod n => execCreditGrantPeriod_keeps n s (Keeps.refl s)
  | .auditTimeout n vc => execAuditTimeout_keeps n vc s (Keeps.refl s)
  | .creditStallTimeout n vc => execCreditStallTimeout_keeps n vc s (Keeps.refl s)
  | .laneFault n e => execLaneFault_keeps n e s (Keeps.refl s)
  | .laneLockGain n lane => execLaneLockGain_keeps n lane s (Keeps.refl s)
  | .widthRestoreDue n => execWidthRestoreDue_keeps n s (Keeps.refl s)
  | .blockLockGain n g => execBlockLockGain_keeps n g s (Keeps.refl s)
  | .bringupPhaseDone n p => execBringupPhaseDone_keeps n p s (Keeps.refl s)
  | .trainReqReceive n m => execTrainReqReceive_keeps n m s (Keeps.refl s)
  | .trainAckReceive n m => execTrainAckReceive_keeps n m s (Keeps.refl s)
  | .trainDoneReceive n m => execTrainDoneReceive_keeps n m s (Keeps.refl s)
  | .trainResume n => execTrainResume_keeps n s (Keeps.refl s)
  | .bringupTimeout n => execBringupTimeout_keeps n s (Keeps.refl s)
  | .retrainTimeout n => execRetrainTimeout_keeps n s (Keeps.refl s)
  | .linkDownSent n => execLinkDownSent_keeps n s (Keeps.refl s)
  | .linkDownReceive n reason => execLinkDownReceive_keeps n reason s (Keeps.refl s)
  | .salvageComplete n => execSalvageComplete_keeps n s (Keeps.refl s)
  | .brokenHoldExpire n => execBrokenHoldExpire_keeps n s (Keeps.refl s)
  | .portBringup r n => execPortBringup_keeps r n s (Keeps.refl s)
  | .portRetrain r n => execPortRetrain_keeps r n s (Keeps.refl s)
  | .portTakedown r n => execPortTakedown_keeps r n s (Keeps.refl s)
  | .portCntClr r n => execPortCntClr_keeps r n s (Keeps.refl s)
  | .timeSyncPeriod n => execTimeSyncPeriod_keeps n s (Keeps.refl s)
  | .timeSyncReceive n t1 t2 t3 => execTimeSyncReceive_keeps n t1 t2 t3 s (Keeps.refl s)
  | .timeReplyReceive n t1 t2 t3 t4 => execTimeReplyReceive_keeps n t1 t2 t3 t4 s (Keeps.refl s)
  | .timeExchangeTimeout n => execTimeExchangeTimeout_keeps n s (Keeps.refl s)
  | .congEstTick => execCongEstTick_keeps s (Keeps.refl s)
  | .warmupEnd n => execWarmupEnd_keeps n s (Keeps.refl s)
  | .fmgtWaitTimeout p vc => execFmgtWaitTimeout_keeps p vc s (Keeps.refl s)
  | .fmgtReceive room => execFmgtReceive_keeps room s (Keeps.refl s)
  | .atlasEntryWordWrite r v e w x => execAtlasEntryWordWrite_keeps r v e w x s (Keeps.refl s)
  | .atlasEntryApply r v e x => execAtlasEntryApply_keeps r v e x s (Keeps.refl s)
  | .waypointEntryWrite r v i1 x => execWaypointEntryWrite_keeps r v i1 x s (Keeps.refl s)
  | .atlasValidWrite r x => execAtlasValidWrite_keeps r x s (Keeps.refl s)
  | .atlasCntClr r => execAtlasCntClr_keeps r s (Keeps.refl s)
  | .fenceRelease ch => execFenceRelease_keeps ch s (Keeps.refl s)
  | .fenceTimeout ch psn => execFenceTimeout_keeps ch psn s (Keeps.refl s)
  | .contourPeriod room => execContourPeriod_keeps room s (Keeps.refl s)
  | .openCmd r c => execOpenCmd_keeps r c s (Keeps.refl s)
  | .modify r c => execModify_keeps r c s (Keeps.refl s)
  | .close r c => execClose_keeps r c s (Keeps.refl s)
  | .closeForce r c => execCloseForce_keeps r c s (Keeps.refl s)
  | .query r c => execQuery_keeps r c s (Keeps.refl s)
  | .channelCloseComplete ch => execChannelCloseComplete_keeps ch s (Keeps.refl s)
  | .ctxFetchDone ch words => execCtxFetchDone_keeps ch words s (Keeps.refl s)
  | .ctxWritebackFail ch => execCtxWritebackFail_keeps ch s (Keeps.refl s)
  | .channelPacketSend ch space => execChannelPacketSend_keeps ch space s (Keeps.refl s)
  | .payloadReadDone w data => execPayloadReadDone_keeps w data s (Keeps.refl s)
  | .channelPacketReceive c space => execChannelPacketReceive_keeps c space s (Keeps.refl s)
  | .ackDelayTimeout ch => execAckDelayTimeout_keeps ch s (Keeps.refl s)
  | .ackReceive c => execAckReceive_keeps c s (Keeps.refl s)
  | .nakReceive c => execNakReceive_keeps c s (Keeps.refl s)
  | .readRspReceive c => execReadRspReceive_keeps c s (Keeps.refl s)
  | .retxTimeout ch => execRetxTimeout_keeps ch s (Keeps.refl s)
  | .missBackoffExpire ch => execMissBackoffExpire_keeps ch s (Keeps.refl s)
  | .ccIncPeriod ch => execCcIncPeriod_keeps ch s (Keeps.refl s)
  | .transportCntClr r c => execTransportCntClr_keeps r c s (Keeps.refl s)
  | .wqDoorbell f i1 v => execWqDoorbell_keeps f i1 v s (Keeps.refl s)
  | .watchedLineSnoop f a => execWatchedLineSnoop_keeps f a s (Keeps.refl s)
  | .watchedLineReadDone f a data => execWatchedLineReadDone_keeps f a data s (Keeps.refl s)
  | .watchPollTimer => execWatchPollTimer_keeps s (Keeps.refl s)
  | .wqEntryArrive g data => execWqEntryArrive_keeps g data s (Keeps.refl s)
  | .fragTableReadDone g data => execFragTableReadDone_keeps g data s (Keeps.refl s)
  | .wqEntryTake e => execWqEntryTake_keeps e s (Keeps.refl s)
  | .indexWriteback q => execIndexWriteback_keeps q s (Keeps.refl s)
  | .cqCiWrite f i1 v => execCqCiWrite_keeps f i1 v s (Keeps.refl s)
  | .cqArm f i1 => execCqArm_keeps f i1 s (Keeps.refl s)
  | .eqArm f => execEqArm_keeps f s (Keeps.refl s)
  | .eqCiWrite f v => execEqCiWrite_keeps f v s (Keeps.refl s)
  | .queueReset f => execQueueReset_keeps f s (Keeps.refl s)
  | .queueResetDone f => execQueueResetDone_keeps f s (Keeps.refl s)
  | .fnValidWrite r f v => execFnValidWrite_keeps r f v s (Keeps.refl s)
  | .wqCreate f => execWqCreate_keeps f s (Keeps.refl s)
  | .wqModify f => execWqModify_keeps f s (Keeps.refl s)
  | .cqCreate f => execCqCreate_keeps f s (Keeps.refl s)
  | .wqQuery f => execWqQuery_keeps f s (Keeps.refl s)
  | .cqQuery f => execCqQuery_keeps f s (Keeps.refl s)
  | .chOpen f => execChOpen_keeps f s (Keeps.refl s)
  | .chModify f => execChModify_keeps f s (Keeps.refl s)
  | .chClose f => execChClose_keeps f s (Keeps.refl s)
  | .chCloseForce f => execChCloseForce_keeps f s (Keeps.refl s)
  | .chQuery f => execChQuery_keeps f s (Keeps.refl s)
  | .engineCntClr r e => execEngineCntClr_keeps r e s (Keeps.refl s)
  | .rqDoorbell f j v => execRqDoorbell_keeps f j v s (Keeps.refl s)
  | .recvEntryTake d data => execRecvEntryTake_keeps d data s (Keeps.refl s)
  | .overflowMove d => execOverflowMove_keeps d s (Keeps.refl s)
  | .eagerRecvDone d index => execEagerRecvDone_keeps d index s (Keeps.refl s)
  | .uxCopyDone d index data => execUxCopyDone_keeps d index data s (Keeps.refl s)
  | .rndvJobDone ch => execRndvJobDone_keeps ch s (Keeps.refl s)
  | .domainEnable f j w => execDomainEnable_keeps f j w s (Keeps.refl s)
  | .domainDisable f j w => execDomainDisable_keeps f j w s (Keeps.refl s)
  | .matchListEccError d => execMatchListEccError_keeps d s (Keeps.refl s)
  | .matchCntClr r => execMatchCntClr_keeps r s (Keeps.refl s)
  | .outingCreate r => execOutingCreate_keeps r s (Keeps.refl s)
  | .outingAbort r => execOutingAbort_keeps r s (Keeps.refl s)
  | .outingRebuild r => execOutingRebuild_keeps r s (Keeps.refl s)
  | .outingDestroy r => execOutingDestroy_keeps r s (Keeps.refl s)
  | .collSourceReadDone o k data => execCollSourceReadDone_keeps o k data s (Keeps.refl s)
  | .collUpReceive => execCollUpReceive_keeps s (Keeps.refl s)
  | .collDownReceive => execCollDownReceive_keeps s (Keeps.refl s)
  | .segmentCombine o => execSegmentCombine_keeps o s (Keeps.refl s)
  | .collResultDelivered => execCollResultDelivered_keeps s (Keeps.refl s)
  | .collRtoExpire o => execCollRtoExpire_keeps o s (Keeps.refl s)
  | .basketEccError o corrected => execBasketEccError_keeps o corrected s (Keeps.refl s)
  | .collCntClr r => execCollCntClr_keeps r s (Keeps.refl s)
  | .keyWrite f => execKeyWrite_keeps f s (Keeps.refl s)
  | .keyFree f => execKeyFree_keeps f s (Keeps.refl s)
  | .keyQuery f => execKeyQuery_keeps f s (Keeps.refl s)
  | .keyCmdDone f => execKeyCmdDone_keeps f s (Keeps.refl s)
  | .keyCfgEnWrite r en => execKeyCfgEnWrite_keeps r en s (Keeps.refl s)
  | .keyFetchDone i1 => execKeyFetchDone_keeps i1 s (Keeps.refl s)
  | .walkEntryReadDone f a data => execWalkEntryReadDone_keeps f a data s (Keeps.refl s)
  | .invalidateDone g => execInvalidateDone_keeps g s (Keeps.refl s)
  | .xlateCntClr r => execXlateCntClr_keeps r s (Keeps.refl s)
  | .flogClr r => execFlogClr_keeps r s (Keeps.refl s)
  | .attachLinkUp a rate width cxl isSwitch => execAttachLinkUp_keeps a rate width cxl isSwitch s (Keeps.refl s)
  | .attachDown a => execAttachDown_keeps a s (Keeps.refl s)
  | .downstreamLinkDown a => execDownstreamLinkDown_keeps a s (Keeps.refl s)
  | .hostConfigRequest a q => execHostConfigRequest_keeps a q s (Keeps.refl s)
  | .hostReady => execHostReady_keeps s (Keeps.refl s)
  | .dpcTriggerClear a => execDpcTriggerClear_keeps a s (Keeps.refl s)
  | .dpcRelease r a => execDpcRelease_keeps r a s (Keeps.refl s)
  | .attachCntClr r a => execAttachCntClr_keeps r a s (Keeps.refl s)
  | .identifySwitchDevice => execIdentifySwitchDevice_keeps s (Keeps.refl s)
  | .getPhysicalPortState ports => execGetPhysicalPortState_keeps ports s (Keeps.refl s)
  | .physicalPortControl a op => execPhysicalPortControl_keeps a op s (Keeps.refl s)
  | .sendPpbConfigRequest a reg write => execSendPpbConfigRequest_keeps a reg write s (Keeps.refl s)
  | .getVirtualCxlSwitchInfo u => execGetVirtualCxlSwitchInfo_keeps u s (Keeps.refl s)
  | .bindVppb u v a => execBindVppb_keeps u v a s (Keeps.refl s)
  | .unbindVppb u v option => execUnbindVppb_keeps u v option s (Keeps.refl s)
  | .unbindComplete a => execUnbindComplete_keeps a s (Keeps.refl s)
  | .generateAerEvent u v error => execGenerateAerEvent_keeps u v error s (Keeps.refl s)
  | .backgroundOperationStatus => execBackgroundOperationStatus_keeps s (Keeps.refl s)
  | .initiateDynamicCapacityAdd u e tag => execInitiateDynamicCapacityAdd_keeps u e tag s (Keeps.refl s)
  | .forcedDcRemoval u e => execForcedDcRemoval_keeps u e s (Keeps.refl s)
  | .addDcResponse u e accept => execAddDcResponse_keeps u e accept s (Keeps.refl s)
  | .dcRespTimeout u e => execDcRespTimeout_keeps u e s (Keeps.refl s)
  | .dcReleaseResponse u e => execDcReleaseResponse_keeps u e s (Keeps.refl s)
  | .hostMemRequest u line q => execHostMemRequest_keeps u line q s (Keeps.refl s)
  | .farWindowRead a off n req => execFarWindowRead_keeps a off n req s (Keeps.refl s)
  | .farWindowWrite a off bytes => execFarWindowWrite_keeps a off bytes s (Keeps.refl s)
  | .farReadComplete a req => execFarReadComplete_keeps a req s (Keeps.refl s)
  | .farReadTimeout a req => execFarReadTimeout_keeps a req s (Keeps.refl s)
  | .farWinValidWrite r a w x => execFarWinValidWrite_keeps r a w x s (Keeps.refl s)
  | .downstreamMessage a m => execDownstreamMessage_keeps a m s (Keeps.refl s)
  | .ownedDeviceRequest a da q => execOwnedDeviceRequest_keeps a da q s (Keeps.refl s)
  | .claimValidWrite r a k x fits => execClaimValidWrite_keeps r a k x fits s (Keeps.refl s)
  | .tunnelReceive p frag => execTunnelReceive_keeps p frag s (Keeps.refl s)
  | .trqDoorbell f v => execTrqDoorbell_keeps f v s (Keeps.refl s)
  | .assign r => execAssign_keeps r s (Keeps.refl s)
  | .release r => execRelease_keeps r s (Keeps.refl s)
  | .pair r => execPair_keeps r s (Keeps.refl s)
  | .unpair r => execUnpair_keeps r s (Keeps.refl s)
  | .extentQuery r => execExtentQuery_keeps r s (Keeps.refl s)
  | .releaseDrained e => execReleaseDrained_keeps e s (Keeps.refl s)
  | .sanitizeDone e => execSanitizeDone_keeps e s (Keeps.refl s)
  | .pairCopyDone e => execPairCopyDone_keeps e s (Keeps.refl s)
  | .poolInitDone => execPoolInitDone_keeps s (Keeps.refl s)
  | .hbmPhyLockLoss st => execHbmPhyLockLoss_keeps st s (Keeps.refl s)
  | .hbmCmdTimeout st => execHbmCmdTimeout_keeps st s (Keeps.refl s)
  | .hbmUncorrError line otherGood => execHbmUncorrError_keeps line otherGood s (Keeps.refl s)
  | .stackOffline r st => execStackOffline_keeps r st s (Keeps.refl s)
  | .scrubRead x => execScrubRead_keeps x s (Keeps.refl s)
  | .poolCntClr r => execPoolCntClr_keeps r s (Keeps.refl s)
  | .elogClr r => execElogClr_keeps r s (Keeps.refl s)
  | .rdShared i1 => execRdShared_keeps i1 s (Keeps.refl s)
  | .rdOwn i1 => execRdOwn_keeps i1 s (Keeps.refl s)
  | .rdNoAlloc i1 => execRdNoAlloc_keeps i1 s (Keeps.refl s)
  | .wrNoAlloc i1 => execWrNoAlloc_keeps i1 s (Keeps.refl s)
  | .wbMod i1 => execWbMod_keeps i1 s (Keeps.refl s)
  | .wbClean i1 => execWbClean_keeps i1 s (Keeps.refl s)
  | .evict i1 => execEvict_keeps i1 s (Keeps.refl s)
  | .homeSnoopResponse a line h => execHomeSnoopResponse_keeps a line h s (Keeps.refl s)
  | .homeAck a line => execHomeAck_keeps a line s (Keeps.refl s)
  | .snoopTimeout a => execSnoopTimeout_keeps a s (Keeps.refl s)
  | .agentSnoop a line => execAgentSnoop_keeps a line s (Keeps.refl s)
  | .agentGrant a line => execAgentGrant_keeps a line s (Keeps.refl s)
  | .agentCmp a line => execAgentCmp_keeps a line s (Keeps.refl s)
  | .agentLoad a line => execAgentLoad_keeps a line s (Keeps.refl s)
  | .agentStore a line off bytes => execAgentStore_keeps a line off bytes s (Keeps.refl s)
  | .agentReplace a line => execAgentReplace_keeps a line s (Keeps.refl s)
  | .agentData a line => execAgentData_keeps a line s (Keeps.refl s)
  | .agentInvack a line => execAgentInvack_keeps a line s (Keeps.refl s)
  | .agentGntm a line => execAgentGntm_keeps a line s (Keeps.refl s)
  | .agentSnpdrain a i1 => execAgentSnpdrain_keeps a i1 s (Keeps.refl s)
  | .rspdrain a i1 => execRspdrain_keeps a i1 s (Keeps.refl s)
  | .enterCareful r i1 => execEnterCareful_keeps r i1 s (Keeps.refl s)
  | .carefulEntered i1 => execCarefulEntered_keeps i1 s (Keeps.refl s)
  | .leaveCareful r i1 => execLeaveCareful_keeps r i1 s (Keeps.refl s)
  | .agentKill r => execAgentKill_keeps r s (Keeps.refl s)
  | .reclaimScanDone i1 => execReclaimScanDone_keeps i1 s (Keeps.refl s)
  | .bctRun r => execBctRun_keeps r s (Keeps.refl s)
  | .bctDone ok i1 => execBctDone_keeps ok i1 s (Keeps.refl s)
  | .sfEccError line => execSfEccError_keeps line s (Keeps.refl s)
  | .sliceCntClr r i1 => execSliceCntClr_keeps r i1 s (Keeps.refl s)
  | .meterRefill m => execMeterRefill_keeps m s (Keeps.refl s)
  | .shaperRefill x => execShaperRefill_keeps x s (Keeps.refl s)
  | .meterCntClr r b => execMeterCntClr_keeps r b s (Keeps.refl s)
  | .sweepTick => execSweepTick_keeps s (Keeps.refl s)
  | .dumpWritten fault => execDumpWritten_keeps fault s (Keeps.refl s)
  | .counterSelWrite r w => execCounterSelWrite_keeps r w s (Keeps.refl s)
  | .gzCiWrite r x => execGzCiWrite_keeps r x s (Keeps.refl s)
  | .gzEnWrite r x => execGzEnWrite_keeps r x s (Keeps.refl s)
  | .gzCntClr r => execGzCntClr_keeps r s (Keeps.refl s)
  | .trailEnWrite r x => execTrailEnWrite_keeps r x s (Keeps.refl s)
  | .trailItemEnd => execTrailItemEnd_keeps s (Keeps.refl s)
  | .trailRecordMove fault => execTrailRecordMove_keeps fault s (Keeps.refl s)
  | .mgmtFrameReceive p f => execMgmtFrameReceive_keeps p f s (Keeps.refl s)
  | .helloTimer => execHelloTimer_keeps s (Keeps.refl s)
  | .helloTimeout p => execHelloTimeout_keeps p s (Keeps.refl s)
  | .mgmtLinkChange p st => execMgmtLinkChange_keeps p st s (Keeps.refl s)
  | .bypassClose => execBypassClose_keeps s (Keeps.refl s)
  | .bypassOpen => execBypassOpen_keeps s (Keeps.refl s)
  | .getVersion p mac => execGetVersion_keeps p mac s (Keeps.refl s)
  | .getCapabilities p mac => execGetCapabilities_keeps p mac s (Keeps.refl s)
  | .negotiateAlgorithms p mac offers => execNegotiateAlgorithms_keeps p mac offers s (Keeps.refl s)
  | .getDigests p mac => execGetDigests_keeps p mac s (Keeps.refl s)
  | .getCertificate p mac slot off n => execGetCertificate_keeps p mac slot off n s (Keeps.refl s)
  | .challenge p mac slot => execChallenge_keeps p mac slot s (Keeps.refl s)
  | .getMeasurements p mac index => execGetMeasurements_keeps p mac index s (Keeps.refl s)
  | .keyExchange p mac session => execKeyExchange_keeps p mac session s (Keeps.refl s)
  | .finish session good => execFinish_keeps session good s (Keeps.refl s)
  | .heartbeat session => execHeartbeat_keeps session s (Keeps.refl s)
  | .keyUpdate session => execKeyUpdate_keeps session s (Keeps.refl s)
  | .endSession session => execEndSession_keeps session s (Keeps.refl s)
  | .sessionTimeout session => execSessionTimeout_keeps session s (Keeps.refl s)
  | .drisiulRequest q => execDrisiulRequest_keeps q s (Keeps.refl s)
  | .regRead => execRegRead_keeps s (Keeps.refl s)
  | .regWrite => execRegWrite_keeps s (Keeps.refl s)
  | .regRmw => execRegRmw_keeps s (Keeps.refl s)
  | .poll => execPoll_keeps s (Keeps.refl s)
  | .pollEnd timeout => execPollEnd_keeps timeout s (Keeps.refl s)
  | .commit => execCommit_keeps s (Keeps.refl s)
  | .commitWaitEnd timeout => execCommitWaitEnd_keeps timeout s (Keeps.refl s)
  | .atlasLoad => execAtlasLoad_keeps s (Keeps.refl s)
  | .atlasRead => execAtlasRead_keeps s (Keeps.refl s)
  | .stream => execStream_keeps s (Keeps.refl s)
  | .fmapi => execFmapi_keeps s (Keeps.refl s)
  | .storeOpen fault => execStoreOpen_keeps fault s (Keeps.refl s)
  | .storeData fault => execStoreData_keeps fault s (Keeps.refl s)
  | .storeClose sig fault => execStoreClose_keeps sig fault s (Keeps.refl s)
  | .cfgSave fault => execCfgSave_keeps fault s (Keeps.refl s)
  | .storeAbort => execStoreAbort_keeps s (Keeps.refl s)
  | .streamRecordSend st fit drop => execStreamRecordSend_keeps st fit drop s (Keeps.refl s)
  | .ptpEventMessage p domain residence offset => execPtpEventMessage_keeps p domain residence offset s (Keeps.refl s)
  | .tbOffsetSample => execTbOffsetSample_keeps s (Keeps.refl s)
  | .tbHoldover => execTbHoldover_keeps s (Keeps.refl s)
  | .timePpsInEdge => execTimePpsInEdge_keeps s (Keeps.refl s)
  | .timePpsOutEdge rise => execTimePpsOutEdge_keeps rise s (Keeps.refl s)
  | .lockstepMismatch => execLockstepMismatch_keeps s (Keeps.refl s)
  | .mpWatchdogExpire => execMpWatchdogExpire_keeps s (Keeps.refl s)
  | .mpMemoryError => execMpMemoryError_keeps s (Keeps.refl s)
  | .mpRestart r => execMpRestart_keeps r s (Keeps.refl s)
  | .mpRestartDone good => execMpRestartDone_keeps good s (Keeps.refl s)
  | .mgmtEthCntClr r k => execMgmtEthCntClr_keeps r k s (Keeps.refl s)
  | .mpCntClr r => execMpCntClr_keeps r s (Keeps.refl s)
  | .v3p3AuxRise => execV3p3AuxRise_keeps s (Keeps.refl s)
  | .v3p3AuxLoss => execV3p3AuxLoss_keeps s (Keeps.refl s)
  | .pwrGoodRise => execPwrGoodRise_keeps s (Keeps.refl s)
  | .pwrGoodFall => execPwrGoodFall_keeps s (Keeps.refl s)
  | .resetNAssert => execResetNAssert_keeps s (Keeps.refl s)
  | .resetNRelease => execResetNRelease_keeps s (Keeps.refl s)
  | .testEnAssert => execTestEnAssert_keeps s (Keeps.refl s)
  | .railPgRise g => execRailPgRise_keeps g s (Keeps.refl s)
  | .railPgTimeout g => execRailPgTimeout_keeps g s (Keeps.refl s)
  | .railPgFall g => execRailPgFall_keeps g s (Keeps.refl s)
  | .bootFirmwareSelect c => execBootFirmwareSelect_keeps c s (Keeps.refl s)
  | .configImageApply => execConfigImageApply_keeps s (Keeps.refl s)
  | .stackInService st => execStackInService_keeps st s (Keeps.refl s)
  | .fabricReady => execFabricReady_keeps s (Keeps.refl s)
  | .fwConfirm r c => execFwConfirm_keeps r c s (Keeps.refl s)
  | .stallWatchdogFire u stage held => execStallWatchdogFire_keeps u stage held s (Keeps.refl s)
  | .watchdogTest u stage fired => execWatchdogTest_keeps u stage fired s (Keeps.refl s)
  | .configScrubTick u res => execConfigScrubTick_keeps u res s (Keeps.refl s)
  | .clockLoss c => execClockLoss_keeps c s (Keeps.refl s)
  | .clrAll r => execClrAll_keeps r s (Keeps.refl s)
  | .clrUnit r => execClrUnit_keeps r s (Keeps.refl s)
  | .logClr r => execLogClr_keeps r s (Keeps.refl s)
  | .errCntClr r => execErrCntClr_keeps r s (Keeps.refl s)
  | .thermalSensorRead t => execThermalSensorRead_keeps t s (Keeps.refl s)
  | .tjPeakClr r => execTjPeakClr_keeps r s (Keeps.refl s)
  | .ctxWritebackDone ch => execCtxWritebackDone_keeps ch s (Keeps.refl s)
  | .wrnoallocCmp c => execWrnoallocCmp_keeps c s (Keeps.refl s)
  | .islandLock => execIslandLock_keeps s (Keeps.refl s)
  | .clockRestored c => execClockRestored_keeps c s (Keeps.refl s)
  | .testEnRelease => execTestEnRelease_keeps s (Keeps.refl s)
  | .deliverEncapsulatedResponse session x => execDeliverEncapsulatedResponse_keeps session x s (Keeps.refl s)
  | .boundDeviceRequest a q => execBoundDeviceRequest_keeps a q s (Keeps.refl s)
  | .downstreamDeviceRequest a d q => execDownstreamDeviceRequest_keeps a d q s (Keeps.refl s)

/-- The state that a step starts from: the front command taken off the queue, or with nothing waiting a nanosecond passed. -/
def stepStart (s : State) : State :=
  match s.pending with
  | [] => { s with now := s.now + 1 }
  | _ :: rest => { s with pending := rest }

/-- Taking the front command or letting a nanosecond pass leaves the pool's memory alone. -/
theorem stepStart_poolForm {s : State} (h : PoolForm s) : PoolForm (stepStart s) := by
  unfold stepStart
  split <;> exact h

theorem step_keeps {s t : State} (h : step s = .next t) : Keeps (stepStart s) t := by
  cases hwait : s.pending with
  | nil =>
    have hstart : stepStart s = { s with now := s.now + 1 } := by simp only [stepStart, hwait]
    have hstep : step s = .next (tick s) := by simp only [step, hwait]
    rw [hstart, ← Host.Outcome.next.inj (hstep.symm.trans h)]
    exact tick_keeps s
  | cons c rest =>
    have hstart : stepStart s = { s with pending := rest } := by simp only [stepStart, hwait]
    have hstep : step s = exec c { s with pending := rest } := by simp only [step, hwait]
    rw [hstart]
    exact Keeps.ofNext (exec_keeps c _) (hstep.symm.trans h)

/-- Settles O58. A step keeps the form from its start on, and its start has the memory of the state before it. -/
theorem everyStepKeepsThePoolMemorysForm : Obligations.EveryStepKeepsThePoolMemorysForm := by
  intro s t hform hstep
  obtain ⟨-, -, -, hkeepsForm⟩ := step_keeps hstep
  exact hkeepsForm (stepStart_poolForm hform)

/-! ### The state after reset (R589, R590) -/

/-- No field is held at reset, so each reads the reset value of its table. -/
theorem rd_reset (b : Nat) (f : Field) : State.reset.rd b f = f.reset := rfl

/-- Settles O59. Registers, memory, queue and log are empty at reset, so what is read there is a default: a field's reset value, or 0. -/
theorem resetStateIsTheColdState : Obligations.ResetStateIsTheColdState := by
  unfold Obligations.ResetStateIsTheColdState
  refine ⟨?form, rfl, rfl, rfl, rd_reset, ?warn, ?trip, ?careful, fun a => rfl⟩
  case form => exact (rfl : Memory.wf [] = true)
  case warn => exact rd_reset 0 Reg.Hk.THERM_WARN_C
  case trip => exact rd_reset 0 Reg.Hk.THERM_TRIP_C
  case careful =>
    intro i _
    exact rd_reset (sliceBase i) Reg.Slc.SLICE_MODE

end Sys2Proof.Machine
end

section
/-!
PROOFS. Extent commands (R448, R451, R458, R459): what GO leaves of the image and of the extents, each command as its RESULT and the
state it leaves, and what a list of register writes leaves to read.
-/
namespace Sys2Proof.Machine

/-! ### A list of register writes (R38) -/

/-- The fields of the window at `b` written in order. -/
def writeAll (s : State) (b : Nat) (l : List (Field × Nat)) : State := l.foldl (fun t w => t.wr b w.1 w.2) s

theorem writeAll_onlyFields (s : State) (b : Nat) (l : List (Field × Nat)) :
    OnlyFields ((l.map Prod.fst).map (Field.key · b)) s (writeAll s b l) := by
  induction l generalizing s with
  | nil => exact ⟨rfl, fun _ _ => rfl⟩
  | cons w l ih =>
    obtain ⟨hregs, hother⟩ := ih (s.wr b w.1 w.2)
    refine ⟨(onlyFields_wr s b w.1 w.2).1.trans hregs, fun k hk => ?_⟩
    rw [List.map_cons, List.map_cons, List.mem_cons, not_or] at hk
    exact (hother k hk.2).trans (State.look_wr_other s b w.1 w.2 k hk.1)

/-- Fields with different keys each read as written. -/
theorem rd_writeAll (s : State) {b : Nat} {l : List (Field × Nat)} (hdiff : ((l.map Prod.fst).map (Field.key · b)).Nodup)
    {f : Field} {v : Nat} (h : (f, v) ∈ l) : (writeAll s b l).rd b f = v % 2 ^ f.width := by
  induction l generalizing s with
  | nil => cases h
  | cons w l ih =>
    rw [List.map_cons, List.map_cons, List.nodup_cons] at hdiff
    obtain ⟨hfirst, hrest⟩ := hdiff
    rcases List.mem_cons.mp h with rfl | h
    · have hlater := (writeAll_onlyFields (s.wr b f v) b l).2 _ hfirst
      exact (congrArg (Option.getD · f.reset) hlater).trans (State.rd_wr_same s b f v)
    · exact ih (s.wr b w.1 w.2) hrest h

/-! ### GO (R458) -/

/-- The state in which EXT_CMD.OP shows the command. -/
def extOpShown (s : State) (op : Nat) : State := s.wr poolBase Reg.Pool.EXT_CMD_OP op

/-- What a command that ends with this RESULT and state answers. -/
def extEnds (y : Nat × State) : Host.Outcome State Fault Refusal := .next (y.2.wr poolBase Reg.Pool.EXT_STATUS_RESULT y.1)

/-- The extent that EXT_CMD.EXTENT names. -/
def cmdExtent (s : State) : Nat := s.rd poolBase Reg.Pool.EXT_CMD_EXTENT

theorem rd_extOpShown (s : State) (op : Nat) {f : Field} (hoff : f.off ≠ 0x40) (hlo : f.lo < 32) :
    (extOpShown s op).rd poolBase f = s.rd poolBase f := by
  refine State.rd_wr_other _ _ _ _ _ _ (Field.key_ne_of_word ?_ (by decide) hlo)
  simp only [Reg.Pool.EXT_CMD_OP, fld]
  omega

/-- The state of a stack lies beyond EXT_CMD in its window. -/
theorem rd_stackState_extOpShown (s : State) (op i : Nat) :
    (extOpShown s op).rd (stackBase i) Reg.Stk.STACK_STATE = s.rd (stackBase i) Reg.Stk.STACK_STATE := by
  refine State.rd_wr_other _ _ _ _ _ _ (Field.key_ne_of_word ?_ (by decide) (by decide))
  simp only [stackBase, poolBase, base, Reg.Stk.STACK_STATE, Reg.Pool.EXT_CMD_OP, fld]
  change _ ≠ 0x8000000 + 0x200000 * 0 + 0x40
  omega

section Commands
variable {r : Route} {s : State} (htakes : Takes s r (poolBase + 0x40))
include htakes

theorem extCmd_of_busy (op : Nat) (run : State → Nat → ExtSt → Nat × State) (hbusy : s.on poolBase Reg.Pool.EXT_STATUS_BUSY = true) :
    extCmd r op run s = accViol s r .cmdBusy (poolBase + 0x40) :=
  (guarded_of_takes _ htakes).trans (if_pos hbusy)

variable (hidle : s.on poolBase Reg.Pool.EXT_STATUS_BUSY = false)
include hidle

theorem extCmd_of_idle (op : Nat) (run : State → Nat → ExtSt → Nat × State) : Host.Outcome.next (extCmd r op run s) =
    extEnds ((s.ext (cmdExtent s)).elim (1, extOpShown s op) (run (extOpShown s op) (cmdExtent s))) := by
  have hshown : s.wr poolBase Reg.Pool.EXT_CMD_OP op = extOpShown s op := rfl
  have hnamed : (extOpShown s op).rd poolBase Reg.Pool.EXT_CMD_EXTENT = cmdExtent s := rd_extOpShown s op (by decide) (by decide)
  have hext : (extOpShown s op).ext (cmdExtent s) = s.ext (cmdExtent s) := rfl
  simp only [extCmd, guarded_of_takes _ htakes, hidle, Bool.false_eq_true, if_false, hshown, hnamed, hext, extEnds]
  cases s.ext (cmdExtent s) <;> rfl

theorem extCmd_of_absent (op : Nat) (run : State → Nat → ExtSt → Nat × State) (hnone : s.ext (cmdExtent s) = none) :
    Host.Outcome.next (extCmd r op run s) = extEnds (1, extOpShown s op) := by
  rw [extCmd_of_idle htakes hidle, hnone, Option.elim_none]

variable {x : ExtSt} (hx : s.ext (cmdExtent s) = some x)
include hx

theorem extCmd_of_ext (op : Nat) (run : State → Nat → ExtSt → Nat × State) :
    Host.Outcome.next (extCmd r op run s) = extEnds (run (extOpShown s op) (cmdExtent s) x) := by
  rw [extCmd_of_idle htakes hidle, hx, Option.elim_some]

/-! ### The commands on an extent that exists (R448, R451, R459) -/

theorem exec_assign_of_ext : exec (.assign r) s =
    let o := s.rd poolBase Reg.ExtIm.OWNER
    let owned := fun w : Owner => putExt (extOpShown s 1) (cmdExtent s) { x with owner := w, partition := s.rd poolBase Reg.ExtIm.PARTITION }
    extEnds (if x.owner ≠ .free ∨ x.xstate ≠ .settled ∨ x.isMirror = true then (2, extOpShown s 1)
      else if o = 3 then (0, owned .fabric) else if o = 4 then (0, owned .device)
      else (if o = 6 ∨ o = 7 then 3 else 2, extOpShown s 1)) := by
  have howner : (extOpShown s 1).rd poolBase Reg.ExtIm.OWNER = _ := rd_extOpShown s 1 (by decide) (by decide)
  have hpart : (extOpShown s 1).rd poolBase Reg.ExtIm.PARTITION = _ := rd_extOpShown s 1 (by decide) (by decide)
  refine (extCmd_of_ext htakes hidle hx 1 _).trans ?_
  simp only [howner, hpart]

theorem exec_release_of_ext : exec (.release r) s = extEnds (
    if (x.owner = .fabric ∨ x.owner = .device) ∧ x.open_ = true then (0, startRelease (extOpShown s 2) (cmdExtent s))
    else if x.owner = .failed ∧ isHbm (cmdExtent s) = false then (0, putExt (extOpShown s 2) (cmdExtent s) ExtSt.init)
    else (2, extOpShown s 2)) := by
  refine (extCmd_of_ext htakes hidle hx 2 _).trans ?_
  simp only [Bool.not_eq_true']

theorem exec_unpair_of_ext : exec (.unpair r) s =
    extEnds (if (x.mirrored && !x.onMirror) = true then (0, endPair (extOpShown s 4) (cmdExtent s)) else (3, extOpShown s 4)) :=
  extCmd_of_ext htakes hidle hx 4 _

theorem exec_pair_of_noMirror (hnone : s.ext (s.rd poolBase Reg.ExtIm.MIRROR) = none) :
    exec (.pair r) s = extEnds (3, extOpShown s 3) := by
  have hmirror : (extOpShown s 3).rd poolBase Reg.ExtIm.MIRROR = _ := rd_extOpShown s 3 (by decide) (by decide)
  have hext : (extOpShown s 3).ext (s.rd poolBase Reg.ExtIm.MIRROR) = none := hnone
  refine (extCmd_of_ext htakes hidle hx 3 _).trans ?_
  simp only [hmirror, hext]

end Commands

/-- Extents `e` and `m`, which stand at `x` and `y`, may become a pair (R451). -/
def pairGood (s : State) (e m : Nat) (x y : ExtSt) : Bool :=
  let alive := fun (k : Nat) => s.rd (stackBase (homeStack k)) Reg.Stk.STACK_STATE != 2
  let apart := isHbm e && isHbm m && homeStack e != homeStack m && alive e && alive m
  let unused := y.owner == .free && y.xstate == .settled && !y.isMirror && !y.mirrored
  apart && unused && !x.mirrored && !x.isMirror && !x.onMirror && x.xstate != .copying

/-- Extent `m`, at `y`, as the mirror of `e`. -/
def mirrorTaken (s : State) (e m : Nat) (y : ExtSt) : State := s.setExt m { y with isMirror := true, mirror := e }

theorem exec_pair_of_mirror {r : Route} {s : State} {x y : ExtSt} (htakes : Takes s r (poolBase + 0x40))
    (hidle : s.on poolBase Reg.Pool.EXT_STATUS_BUSY = false) (hx : s.ext (cmdExtent s) = some x)
    (hy : s.ext (s.rd poolBase Reg.ExtIm.MIRROR) = some y) : exec (.pair r) s =
    let e := cmdExtent s
    let m := s.rd poolBase Reg.ExtIm.MIRROR
    let t := mirrorTaken (extOpShown s 3) e m y
    extEnds (if pairGood s e m x y = true then
      if x.owner = .free then (0, putExt t e { x with mirrored := true, mirror := m })
      else (0, putExt t e { x with xstate := .copying, mirror := m })
      else (3, extOpShown s 3)) := by
  have hmirror : (extOpShown s 3).rd poolBase Reg.ExtIm.MIRROR = _ := rd_extOpShown s 3 (by decide) (by decide)
  have hext : (extOpShown s 3).ext (s.rd poolBase Reg.ExtIm.MIRROR) = some y := hy
  refine (extCmd_of_ext htakes hidle hx 3 _).trans ?_
  simp only [hmirror, hext, rd_stackState_extOpShown, pairGood, mirrorTaken, Bool.and_eq_true, Bool.not_eq_true', bne_iff_ne,
    beq_iff_eq, and_assoc]

/-! ### QUERY (R459) -/

/-- The fields that QUERY writes. -/
def queryFields : List Field :=
  [Reg.Pool.EXT_CMD_OP, Reg.ExtIm.OWNER, Reg.ExtIm.XSTATE, Reg.ExtIm.MIRRORED, Reg.ExtIm.IS_MIRROR, Reg.ExtIm.ON_MIRROR,
   Reg.ExtIm.PARTITION, Reg.ExtIm.MIRROR, Reg.ExtIm.HOST_MASK_LO, Reg.ExtIm.HOST_MASK_HI, Reg.Pool.EXT_STATUS_RESULT]

/-- What QUERY of an extent that stands at `x` writes to them. -/
def queryValues (x : ExtSt) : List Nat :=
  [5, x.owner.code, x.xstate.code, b2n x.mirrored, b2n x.isMirror, b2n x.onMirror, x.partition, x.mirror, x.hosts, x.hosts / 2 ^ 32, 0]

theorem exec_extentQuery_of_ext {r : Route} {s : State} {x : ExtSt} (htakes : Takes s r (poolBase + 0x40))
    (hidle : s.on poolBase Reg.Pool.EXT_STATUS_BUSY = false) (hx : s.ext (cmdExtent s) = some x) :
    exec (.extentQuery r) s = .next (writeAll s poolBase (queryFields.zip (queryValues x))) :=
  extCmd_of_ext htakes hidle hx 5 _

/-- The image holds the entry. -/
theorem rd_query (s : State) (x : ExtSt) {f : Field} {v : Nat} (h : (f, v) ∈ queryFields.zip (queryValues x)) :
    (writeAll s poolBase (queryFields.zip (queryValues x))).rd poolBase f = v % 2 ^ f.width :=
  rd_writeAll s (show (queryFields.map (Field.key · poolBase)).Nodup by decide) h

theorem ownerCode_fits (o : Owner) : o.code % 2 ^ Reg.ExtIm.OWNER.width = o.code := by cases o <;> rfl

theorem xstateCode_fits (x : XState) : x.code % 2 ^ Reg.ExtIm.XSTATE.width = x.code := by cases x <;> rfl

theorem b2n_mod_two (b : Bool) : b2n b % 2 ^ 1 = b2n b := by cases b <;> rfl

/-- QUERY leaves the entry in the image and touches nothing but what it writes. -/
theorem extentQuery_shows {r : Route} {s : State} {x : ExtSt} (htakes : Takes s r (poolBase + 0x40))
    (hidle : s.on poolBase Reg.Pool.EXT_STATUS_BUSY = false) (hx : s.ext (cmdExtent s) = some x) :
    Ends (exec (.extentQuery r) s) (fun t => t.rd poolBase Reg.Pool.EXT_STATUS_RESULT = 0 ∧
      t.rd poolBase Reg.ExtIm.OWNER = x.owner.code ∧ t.rd poolBase Reg.ExtIm.XSTATE = x.xstate.code ∧
      t.rd poolBase Reg.ExtIm.MIRRORED = b2n x.mirrored ∧ t.rd poolBase Reg.ExtIm.IS_MIRROR = b2n x.isMirror ∧
      t.rd poolBase Reg.ExtIm.ON_MIRROR = b2n x.onMirror ∧
      t.rd poolBase Reg.ExtIm.PARTITION = x.partition % 2 ^ Reg.ExtIm.PARTITION.width ∧
      t.rd poolBase Reg.ExtIm.MIRROR = x.mirror % 2 ^ Reg.ExtIm.MIRROR.width ∧
      OnlyFields (queryFields.map (Field.key · poolBase)) s t) := by
  refine ⟨_, exec_extentQuery_of_ext htakes hidle hx, rd_query s x (v := 0) ?_, (rd_query s x ?_).trans (ownerCode_fits x.owner),
    (rd_query s x ?_).trans (xstateCode_fits x.xstate), (rd_query s x ?_).trans (b2n_mod_two x.mirrored),
    (rd_query s x ?_).trans (b2n_mod_two x.isMirror), (rd_query s x ?_).trans (b2n_mod_two x.onMirror), rd_query s x ?_,
    rd_query s x ?_, writeAll_onlyFields s poolBase (queryFields.zip (queryValues x))⟩ <;> simp [queryFields, queryValues]

/-- Settles O40. GO shows the operation and moves no field that a command reads, so each command is its table of tests made on the
state before GO; QUERY is a list of writes to fields with different keys. -/
theorem extentCommandsAnswerTheirResult : Obligations.ExtentCommandsAnswerTheirResult := by
  unfold Obligations.ExtentCommandsAnswerTheirResult
  intro r s htakes e o p m go done
  refine ⟨?busy, ?absent, ?present⟩
  case busy =>
    intro i hbusy hi
    simp only [List.mem_cons, List.not_mem_nil, or_false] at hi
    rcases hi with rfl | rfl | rfl | rfl | rfl <;>
      exact congrArg Host.Outcome.next (extCmd_of_busy htakes _ _ hbusy)
  case absent =>
    intro hidle hnone
    have habsent := fun op run => extCmd_of_absent htakes hidle op run hnone
    exact ⟨habsent 1 _, habsent 2 _, habsent 3 _, habsent 4 _, habsent 5 _⟩
  case present =>
    intro x hidle hx
    have hassign := exec_assign_of_ext htakes hidle hx
    have hrelease := exec_release_of_ext htakes hidle hx
    have hunpair := exec_unpair_of_ext htakes hidle hx
    refine ⟨?assign, ?assignHeld, ?release, ?releaseFailed, ?releaseNot, ?pairAbsent, ?pair, ?unpair, ?unpairNot, ?query⟩
    case assign =>
      intro hfree hsettled hplain
      have hunused : ¬ (x.owner ≠ .free ∨ x.xstate ≠ .settled ∨ x.isMirror = true) := by simp [hfree, hsettled, hplain]
      simp only [if_neg hunused] at hassign
      refine ⟨fun ho => ?_, fun ho => ?_, fun ho => ?_, fun ho => ?_⟩ <;> refine hassign.trans ?_
      · rw [if_pos ho]; rfl
      · rw [if_neg (by omega), if_pos ho]; rfl
      · rw [if_neg (by omega), if_neg (by omega), if_pos ho]; rfl
      · rw [if_neg (by omega), if_neg (by omega), if_neg (by omega)]; rfl
    case assignHeld =>
      intro hheld
      exact hassign.trans (congrArg extEnds (if_pos hheld))
    case release =>
      intro howner hopen
      exact hrelease.trans (congrArg extEnds (if_pos ⟨howner, hopen⟩))
    case releaseFailed =>
      intro hfailed hfar
      rw [if_neg (by simp [hfailed]), if_pos ⟨hfailed, hfar⟩] at hrelease
      exact hrelease
    case releaseNot =>
      intro hclosed hkept
      have hnotOpen : ¬ ((x.owner = .fabric ∨ x.owner = .device) ∧ x.open_ = true) := by
        rintro ⟨howner, hopen⟩
        rcases hclosed with h | ⟨hf, hd⟩
        · simp [h] at hopen
        · exact howner.elim hf hd
      have hnotFar : ¬ (x.owner = .failed ∧ isHbm (cmdExtent s) = false) := fun ⟨hfailed, hfar⟩ =>
        hkept.elim (· hfailed) (fun hhbm : isHbm (cmdExtent s) = true => by simp [hfar] at hhbm)
      rw [if_neg hnotOpen, if_neg hnotFar] at hrelease
      exact hrelease
    case pairAbsent =>
      intro hnone
      exact exec_pair_of_noMirror htakes hidle hx hnone
    case pair =>
      intro y hy alive apart unused good
      have hpair : exec (.pair r) s = extEnds (if good = true then _ else _) := exec_pair_of_mirror htakes hidle hx hy
      refine ⟨fun hgood howner => ?_, fun hgood howner => ?_, fun hbad => ?_⟩
      · rw [if_pos hgood, if_pos howner] at hpair; exact hpair
      · rw [if_pos hgood, if_neg howner] at hpair; exact hpair
      · rw [if_neg (Bool.eq_false_iff.mp hbad)] at hpair; exact hpair
    case unpair =>
      intro hmirrored hhome
      exact hunpair.trans (congrArg extEnds (if_pos (by simp [hmirrored, hhome])))
    case unpairNot =>
      intro hnot
      refine hunpair.trans (congrArg extEnds (if_neg ?_))
      rcases hnot with h | h <;> simp [h]
    case query =>
      obtain ⟨t, hexec, hresult, howner, hxstate, hmirrored, hisMirror, honMirror, hpartition, hmirror, hregs, hother⟩ :=
        extentQuery_shows htakes hidle hx
      refine ⟨t, hexec, hresult, howner, hxstate, hmirrored, hisMirror, honMirror, hpartition, hmirror, hregs, fun k hk => ?_⟩
      refine hother k (fun hin => hk ?_)
      obtain ⟨f, hf, rfl⟩ := List.mem_map.mp hin
      exact List.mem_map_of_mem ((by decide : ∀ f ∈ queryFields, f ∈ _) f hf)

end Sys2Proof.Machine
end

section
/-!
PROOFS. What the pool does by itself (R448 to R454, R458): a drained extent, an extent sanitized, a pair formed, initialisation, failing
stacks, scrub reads and the clear actions.
-/
namespace Sys2Proof.Machine

/-! ### The bytes of an extent (R449) -/

theorem look_dropKeys {α : Type} (m : AMap α) (p : Nat → Bool) (k : Nat) :
    look (dropKeys m p) k = if p k = true then none else look m k := by
  induction m with
  | nil => simp [dropKeys]
  | cons c m ih =>
    obtain ⟨k', v⟩ := c
    unfold dropKeys at ih
    by_cases hkey : k = k'
    · subst hkey
      by_cases hp : p k = true <;> simp [dropKeys, look, hp, ih]
    · by_cases hp : p k' = true <;> simp [dropKeys, look, hp, hkey, ih]

theorem memByte_zeroExtent (s : State) (e a : Nat) :
    memByte (zeroExtent s e).pool.mem a = if extentOf a = e then 0 else memByte s.pool.mem a := by
  have hlook := look_dropKeys s.pool.mem (fun a => extentOf a == e) a
  simp only [beq_iff_eq] at hlook
  simp only [zeroExtent, memByte, hlook]
  split <;> rfl

/-! ### RELEASE_DRAINED (R448, R451) -/

theorem exec_releaseDrained_of_notReleasing {e : Fin 131072} {s : State} (h : ∀ x ∈ s.ext e.val, x.xstate ≠ .releasing) :
    exec (.releaseDrained e) s = .next s := by
  show execReleaseDrained e s = _
  cases hx : s.ext e.val with
  | none => simp only [execReleaseDrained, hx]
  | some x => simp only [execReleaseDrained, hx, ne_eq, h x hx, not_false_eq_true, if_true]

section Releasing
variable {e : Fin 131072} {x : ExtSt} {s : State} (hx : s.ext e.val = some x) (hreleasing : x.xstate = .releasing)
include hx hreleasing

theorem exec_releaseDrained_of_held (hheld : extentQuiet (pumpExtents s) e.val = false) :
    exec (.releaseDrained e) s = .next (pumpExtents s) := by
  show execReleaseDrained e s = _
  simp [execReleaseDrained, hx, hreleasing, hheld]

variable (hquiet : extentQuiet (pumpExtents s) e.val = true)
include hquiet

theorem exec_releaseDrained_of_quiet (hhome : x.onMirror = false) :
    exec (.releaseDrained e) s = .next (queueSanitize (endPair (pumpExtents s) e.val) e.val) := by
  show execReleaseDrained e s = _
  simp [execReleaseDrained, hx, hreleasing, hquiet, hhome]

/-- The data was on the mirror, and the pair has ended (notes/assumptions/43.md). -/
theorem exec_releaseDrained_of_onMirror {y : ExtSt} (haway : x.onMirror = true)
    (hy : (endPair (pumpExtents s) e.val).ext e.val = some y) : exec (.releaseDrained e) s =
      .next (putExt (zeroExtent (endPair (pumpExtents s) e.val) e.val) e.val
        { y with owner := .failed, xstate := .settled, hosts := 0, partition := 0 }) := by
  show execReleaseDrained e s = _
  simp [execReleaseDrained, hx, hreleasing, hquiet, haway, hy]

end Releasing

/-! ### SANITIZE_DONE (R448, R449) -/

/-- The sanitize queue of stack `i` with `rest` left in it. -/
def sanLeft (s : State) (i : Nat) (rest : List Nat) : State :=
  { s with pool := { s.pool with san := if rest.isEmpty then del s.pool.san i else put s.pool.san i rest } }

theorem sanQueue_sanLeft (s : State) (i : Nat) (rest : List Nat) : lookD (sanLeft s i rest).pool.san i [] = rest := by
  cases rest with
  | nil => simp [sanLeft, lookD]
  | cons k l => exact lookD_put_same ..

/-- An extent after its sanitize: free and settled, its pair as it was. -/
def sanitized : Option ExtSt → ExtSt
  | some x => { ExtSt.init with mirrored := x.mirrored, isMirror := x.isMirror, onMirror := x.onMirror, mirror := x.mirror }
  | none => ExtSt.init

/-- Error records and events touch neither the pool, the mesh nor the transport. -/
theorem parts_of_sansReports {s t : State} (h : sansReports t = sansReports s) : t.pool = s.pool ∧ t.mesh = s.mesh ∧ t.tp = s.tp :=
  ⟨(congrArg State.pool h : (sansReports t).pool = _), (congrArg State.mesh h : (sansReports t).mesh = _),
    (congrArg State.tp h : (sansReports t).tp = _)⟩

/-- What a finished sanitize does to the pool; its counts and events come on top. -/
def sanitizedState (s : State) (e : Nat) (rest : List Nat) : State :=
  putExt (zeroExtent (sanLeft s (homeStack e) rest) e) e (sanitized (s.ext e))

/-- What a finished sanitize counts and raises. -/
def sanitizeReported (s : State) (e : Nat) : State :=
  sanitizeEvent (countEv (s.bump poolBase Reg.Pool.SAN_DONE_CNT) (.stack (idx 5 (homeStack e))) (CntEvent.plain 0x103 4194304)) e

theorem sansReports_sanitizeReported (s : State) (e : Nat) : sansReports (sanitizeReported s e) = sansReports s := by
  rw [sanitizeReported, sanitizeEvent, foldl_keeps sansReports _ (fun t f => sansReports_raiseEvent t f _ _),
    sansReports_of_regsOnly (countEv_regsOnly ..), sansReports_bump]

theorem exec_sanitizeDone_of_head {e : Fin 131072} {rest : List Nat} {s : State}
    (h : lookD s.pool.san (homeStack e.val) [] = e.val :: rest) :
    exec (.sanitizeDone e) s = .next (sanitizeReported (sanitizedState s e.val rest) e.val) := by
  show execSanitizeDone e s = _
  simp only [execSanitizeDone, h, ne_eq, not_true_eq_false, if_false]
  rfl

theorem exec_sanitizeDone_of_other {e : Fin 131072} {s : State}
    (h : (lookD s.pool.san (homeStack e.val) []).head? ≠ some e.val) : exec (.sanitizeDone e) s = .next s := by
  show execSanitizeDone e s = _
  cases hqueue : lookD s.pool.san (homeStack e.val) [] with
  | nil => simp only [execSanitizeDone, hqueue]
  | cons k rest =>
    have hother : k ≠ e.val := by simpa [hqueue] using h
    simp only [execSanitizeDone, hqueue, hother, ne_eq, not_false_eq_true, if_true]

theorem ext_putExt_same (s : State) (e : Nat) (x : ExtSt) : (putExt s e x).ext e = some x := by
  simp [putExt, showFree, State.ext, State.setExt, lookD]

theorem sanitizeDone_ends {e : Fin 131072} {rest : List Nat} {s : State} (h : lookD s.pool.san (homeStack e.val) [] = e.val :: rest) :
    Ends (exec (.sanitizeDone e) s) (fun t => t.ext e.val = some (sanitized (s.ext e.val)) ∧
      lookD t.pool.san (homeStack e.val) [] = rest ∧ t.pool.mem = (zeroExtent s e.val).pool.mem ∧
      t.pool.poison = (zeroExtent s e.val).pool.poison ∧ t.mesh = s.mesh ∧ t.tp = s.tp) := by
  obtain ⟨hpool, hmesh, htp⟩ := parts_of_sansReports (sansReports_sanitizeReported (sanitizedState s e.val rest) e.val)
  refine ⟨_, exec_sanitizeDone_of_head h, ?ext, ?queue, ?mem, ?poison, hmesh, htp⟩
  case ext =>
    simp only [State.ext, hpool]
    exact ext_putExt_same ..
  case queue =>
    rw [hpool]
    exact sanQueue_sanLeft s (homeStack e.val) rest
  case mem => rw [hpool]; rfl
  case poison => rw [hpool]; rfl

theorem sanitized_free (o : Option ExtSt) : (sanitized o).owner = .free ∧ (sanitized o).xstate = .settled ∧ (sanitized o).hosts = 0 ∧
    (sanitized o).tag = none ∧ (sanitized o).offers = [] := by
  cases o <;> exact ⟨rfl, rfl, rfl, rfl, rfl⟩

theorem sanitized_pair {o : Option ExtSt} {x : ExtSt} (h : x ∈ o) :
    (sanitized o).mirrored = x.mirrored ∧ (sanitized o).isMirror = x.isMirror ∧ (sanitized o).mirror = x.mirror := by
  cases h
  exact ⟨rfl, rfl, rfl⟩

/-! ### PAIR_COPY_DONE, POOL_INIT_DONE (R450, R451) -/

theorem exec_pairCopyDone_of_ext {e : Fin 1152} {x : ExtSt} {s : State} (h : s.ext e.val = some x) : exec (.pairCopyDone e) s =
    .next (if x.xstate = .copying then putExt s e.val { x with xstate := .settled, mirrored := true } else s) := by
  show execPairCopyDone e s = _
  simp only [execPairCopyDone, h]

/-- Every line of the pool written with zeros. -/
def poolZeroed (s : State) : State := { s with pool := { s.pool with ready := true, mem := [], poison := [], dirSh := [] } }

theorem exec_poolInitDone_of_unready {s : State} (h : s.pool.ready = false) : exec .poolInitDone s = .next (showFree (poolZeroed s)) :=
  if_neg (by simp [h])

theorem exec_poolInitDone_of_ready {s : State} (h : s.pool.ready = true) : exec .poolInitDone s = .next s :=
  if_pos h

/-! ### Failures and scrub (R452 to R454) -/

theorem failStack_of_failed {s : State} {i : Nat} (h : s.rd (stackBase i) Reg.Stk.STACK_STATE = 2) : failStack s i = s := if_pos h

theorem exec_hbmUncorrError (line : BitVec 46) (good : Bool) (s : State) : exec (.hbmUncorrError line good) s =
    .next (if hbmLine s line.toNat = true then uncorrLine s line.toNat 0 good else s) := rfl

theorem exec_scrubRead_off {s : State} (x : ScrubRead) (h : s.rd poolBase Reg.Pool.SCRUB_HOURS = 0) : exec (.scrubRead x) s = .next s :=
  if_pos h

/-- The state in which the scrub stands at the next line. -/
def scrubMoved (s : State) : State := { s with pool := { s.pool with scrub := (s.pool.scrub + 1) % (1152 * 2 ^ 22) } }

/-- The home stack of the line that the scrub stands at. -/
def scrubStack (s : State) : Nat := homeStack (extentOf (64 * s.pool.scrub))

/-- What a scrub read of a line does with what it found (R453, R454). -/
def scrubbed (u : State) (line : Nat) (st : Nat) : ScrubRead → State
  | .good => u
  | .corrected => recordError ((u.bump poolBase Reg.Pool.SCRUB_CORR_CNT).bump (stackBase st) Reg.Stk.ECC_CORR_CNT)
      (ErrRec.ecc (.stack (idx 5 st)) true 0 (64 * line))
  | .uncorrectable g => uncorrLine u line 1 g

theorem exec_scrubRead_on {s : State} (x : ScrubRead) (hon : s.rd poolBase Reg.Pool.SCRUB_HOURS ≠ 0) : exec (.scrubRead x) s =
    .next (if scrubbable s s.pool.scrub = true then
      scrubbed (cnt1 (scrubMoved s) (.stack (idx 5 (scrubStack s))) 0x102) s.pool.scrub (scrubStack s) x
      else scrubMoved s) := by
  have hmoved : ({ s with pool := { s.pool with scrub := (s.pool.scrub + 1) % (1152 * 2 ^ 22) } } : State) = scrubMoved s := rfl
  have hsame : scrubbable (scrubMoved s) s.pool.scrub = scrubbable s s.pool.scrub := rfl
  have hstack : homeStack (extentOf (64 * s.pool.scrub)) = scrubStack s := rfl
  show execScrubRead x s = _
  simp only [execScrubRead, hon, if_false, hmoved, hsame, hstack, Bool.not_eq_true']
  cases scrubbable s s.pool.scrub with
  | false => rfl
  | true =>
    simp only [Bool.true_eq_false, if_false, if_true]
    cases x <;> rfl

/-! ### POOL_CTL (R458) -/

/-- The counters of the pool. -/
def poolCounters : List Field :=
  [Reg.Pool.SAN_DONE_CNT, Reg.Pool.SCRUB_CORR_CNT, Reg.Pool.POISON_NEW_CNT, Reg.Pool.MIRROR_REPAIR_CNT, Reg.Pool.LOST_WB_CNT,
   Reg.Pool.POISON_READ_CNT]

theorem poolCntClr_clears {s : State} {r : Route} (h : Takes s r (poolBase + 0x6C)) :
    Ends (exec (.poolCntClr r) s) (Clears (fun k => ∃ f ∈ poolCounters, k = f.key poolBase) s) :=
  ⟨_, congrArg Host.Outcome.next (guarded_of_takes _ h), Clears.clearAll s poolBase poolCounters⟩

/-- Settles O41. Each command is taken by the tests of its own lemma; an extent's bytes leave the memory by their key, and what a
finished sanitize counts and raises touches no part of the pool. -/
theorem extentsAreSanitizedPairedAndScrubbed : Obligations.ExtentsAreSanitizedPairedAndScrubbed := by
  unfold Obligations.ExtentsAreSanitizedPairedAndScrubbed
  refine ⟨?drained, fun e s h => exec_releaseDrained_of_notReleasing h, ?sanitized, ?notFirst, ?zeroed, ?kept, ?pair, ?init,
    fun s h => exec_poolInitDone_of_ready h, fun st s => ⟨rfl, rfl, failStack_of_failed⟩, ?offline, ?uncorr,
    fun x s h => exec_scrubRead_off x h, ?scrub, ?clear⟩
  case drained =>
    intro e x s hx hreleasing t u
    exact ⟨exec_releaseDrained_of_held hx hreleasing, exec_releaseDrained_of_quiet hx hreleasing,
      fun y hquiet haway hy => exec_releaseDrained_of_onMirror hx hreleasing hquiet haway hy⟩
  case sanitized =>
    intro e rest s hqueue
    obtain ⟨t, hexec, hext, hframe⟩ := sanitizeDone_ends hqueue
    obtain ⟨hfree, hsettled, hhosts, htag, hoffers⟩ := sanitized_free (s.ext e.val)
    exact ⟨t, hexec, _, hext, hfree, hsettled, hhosts, htag, hoffers, fun x hx => sanitized_pair hx, hframe⟩
  case notFirst =>
    intro e s h
    exact exec_sanitizeDone_of_other (h.elim (fun hempty => by simp [hempty]) id)
  case zeroed =>
    intro e a s _ hin
    rw [memByte_zeroExtent, if_pos hin]
  case kept =>
    intro e a s _ hout
    rw [memByte_zeroExtent, if_neg hout]
  case pair =>
    intro e x s hx
    rw [exec_pairCopyDone_of_ext hx]
    exact ⟨fun hcopying => by rw [if_pos hcopying], fun hnot => by rw [if_neg hnot]⟩
  case init =>
    intro s hunready
    exact ⟨_, exec_poolInitDone_of_unready hunready, rfl, fun a => rfl, rfl, rfl, (onlyFields_wr ..).2, rfl⟩
  case offline =>
    intro r st s htakes
    exact congrArg Host.Outcome.next (guarded_of_takes _ htakes)
  case uncorr =>
    intro line good s
    rw [exec_hbmUncorrError]
    exact ⟨fun hline => by rw [if_pos hline], fun hline => by rw [hline]; rfl⟩
  case scrub =>
    intro s hon t st u
    refine ⟨fun x hskip => ?_, fun g hread => ?_⟩
    · rw [exec_scrubRead_on x hon, hskip]; rfl
    · have hscrubbed := fun x => (exec_scrubRead_on x hon).trans (congrArg Host.Outcome.next (if_pos hread))
      exact ⟨hscrubbed .good, hscrubbed (.uncorrectable g), hscrubbed .corrected⟩
  case clear =>
    intro r s htakes
    obtain ⟨t, hexec, hclears⟩ := poolCntClr_clears htakes
    refine ⟨⟨t, hexec, fun c hc => hclears.rd_zero ⟨c, hc, rfl⟩, hclears.regsOnly, fun k hk => hclears.other k ?_⟩,
      congrArg Host.Outcome.next (guarded_of_takes _ htakes)⟩
    rintro ⟨f, hf, rfl⟩
    exact hk (List.mem_map_of_mem hf)

end Sys2Proof.Machine
end

section
/-!
PROOFS. The totality of the commands (spec/00_scope.md, spec/98_reader.md).
-/
namespace Sys2Proof.Machine

/-- Settles O56. What every command keeps is said of the next state that it answers, so there is one. -/
theorem everyCommandAnswersANextState : Obligations.EveryCommandAnswersANextState := by
  unfold Obligations.EveryCommandAnswersANextState
  intro c s
  obtain ⟨t, hexec, -⟩ := exec_keeps c s
  exact ⟨t, hexec⟩

end Sys2Proof.Machine
end

section
/-!
PROOFS. The management ring (R541, R543, R545 to R548, R570): the bytes of headers and HELLOs, what a frame's way through the device
is, ring breaks, link changes and the bypass.
-/
namespace Sys2Proof.Machine

/-! ### Big-endian numbers (R2) -/

@[simp] theorem beBytes_length (v n : Nat) : (beBytes v n).length = n := by simp [beBytes]

theorem beBytes_succ (v n : Nat) : beBytes v (n + 1) = beBytes (v / 256) n ++ [BitVec.ofNat 8 v] := by
  have hdigit : ∀ i, i < n → v / 256 ^ (n - i) = v / 256 / 256 ^ (n - 1 - i) := by
    intro i hi
    rw [Nat.div_div_eq_div_mul, ← Nat.pow_succ', show (n - 1 - i).succ = n - i by omega]
  simp only [beBytes, List.range_succ, List.map_append, List.map_cons, List.map_nil, Nat.add_sub_cancel, Nat.sub_self, Nat.pow_zero,
    Nat.div_one]
  refine congrArg (· ++ _) (List.map_congr_left fun i hi => ?_)
  rw [hdigit i (List.mem_range.mp hi)]

theorem beNat_append_single (l : List Byte) (x : Byte) : beNat (l ++ [x]) = beNat l * 256 + x.toNat := by simp [beNat]

/-- A number's bytes read back as the number, as far as they go. -/
theorem beNat_beBytes (v n : Nat) : beNat (beBytes v n) = v % 256 ^ n := by
  induction n generalizing v with
  | zero => simp [beBytes, beNat, Nat.mod_one]
  | succ n ih =>
    have hsplit : v % 256 ^ (n + 1) = v % 256 + 256 * (v / 256 % 256 ^ n) := by rw [Nat.pow_succ', Nat.mod_mul]
    rw [beBytes_succ, beNat_append_single, ih, BitVec.toNat_ofNat, hsplit]
    omega

theorem beNat_lt (l : List Byte) : beNat l < 256 ^ l.length := by
  induction l using List.reverseRecOn with
  | nil => simp [beNat]
  | append_singleton l x ih =>
    have hx := x.isLt
    rw [beNat_append_single, List.length_append, List.length_singleton, Nat.pow_succ]
    omega

theorem beAt_lt (b : List Byte) (i n : Nat) : beAt b i n < 256 ^ n := by
  have hlen : ((b.drop i).take n).length ≤ n := by simp
  exact Nat.lt_of_lt_of_le (beNat_lt _) (Nat.pow_le_pow_right (by decide) hlen)

/-- The number that stands after `i` bytes. -/
theorem beAt_beBytes (l r : List Byte) (v n : Nat) : beAt (l ++ (beBytes v n ++ r)) l.length n = v % 256 ^ n := by
  rw [beAt, List.drop_left, List.take_left' (by simp), beNat_beBytes]

/-! ### Drisiul headers (R547, R548) -/

/-- The header's fields lie within the bits that R547 gives them. -/
structure DrsHdr.Fits (h : DrsHdr) : Prop where
  ver : h.ver < 16
  kind : h.kind < 16
  ttl : h.ttl < 256
  bodyLen : h.bodyLen < 0x10000
  session : h.session < 0x100000000
  seq : h.seq < 0x10000000000000000

@[simp] theorem DrsHdr.toBytes_length (h : DrsHdr) : h.toBytes.length = 16 := by simp [DrsHdr.toBytes]

/-- The header that three words of 4, 4 and 8 bytes give. -/
theorem DrsHdr.ofBytes_words (w session seq : Nat) (rest : List Byte) :
    DrsHdr.ofBytes (beBytes w 4 ++ (beBytes session 4 ++ (beBytes seq 8 ++ rest))) =
      { ver := w % 0x100000000 / 2 ^ 28, kind := w % 0x100000000 / 2 ^ 24 % 16, ttl := w % 0x100000000 / 2 ^ 16 % 256,
        bodyLen := w % 0x100000000 % 2 ^ 16, session := session % 0x100000000, seq := seq % 0x10000000000000000 } := by
  have hword := beAt_beBytes [] (beBytes session 4 ++ (beBytes seq 8 ++ rest)) w 4
  have hsession := beAt_beBytes (beBytes w 4) (beBytes seq 8 ++ rest) session 4
  have hseq := beAt_beBytes (beBytes w 4 ++ beBytes session 4) rest seq 8
  norm_num at hword hsession hseq
  simp only [DrsHdr.ofBytes, hword, hsession, hseq]

/-- A header that fits reads back from its bytes. -/
theorem DrsHdr.ofBytes_toBytes {h : DrsHdr} (hfits : h.Fits) (rest : List Byte) : DrsHdr.ofBytes (h.toBytes ++ rest) = h := by
  obtain ⟨hver, hkind, httl, hlen, hsession, hseq⟩ := hfits
  obtain ⟨ver, kind, ttl, bodyLen, session, seq⟩ := h
  simp only at hver hkind httl hlen hsession hseq
  simp only [DrsHdr.toBytes, List.append_assoc, DrsHdr.ofBytes_words, DrsHdr.mk.injEq]
  exact ⟨by omega, by omega, by omega, by omega, Nat.mod_eq_of_lt hsession, Nat.mod_eq_of_lt hseq⟩

/-- What stands in a header's bytes fits. -/
theorem DrsHdr.ofBytes_fits (b : List Byte) : (DrsHdr.ofBytes b).Fits := by
  have hword := beAt_lt b 0 4
  have hsession := beAt_lt b 4 4
  have hseq := beAt_lt b 8 8
  norm_num at hword hsession hseq
  refine ⟨?_, ?_, ?_, ?_, hsession, hseq⟩ <;> simp only [DrsHdr.ofBytes] <;> omega

theorem DrsHdr.Fits.withTtl {h : DrsHdr} (hfits : h.Fits) {ttl : Nat} (httl : ttl < 256) : { h with ttl := ttl }.Fits :=
  ⟨hfits.ver, hfits.kind, httl, hfits.bodyLen, hfits.session, hfits.seq⟩

/-- A frame that is passed on is the same but for a TTL one less. -/
theorem ofBytes_lessTtl (f : MgmtFrame) :
    DrsHdr.ofBytes (lessTtl f).body = { DrsHdr.ofBytes f.body with ttl := (DrsHdr.ofBytes f.body).ttl - 1 } := by
  have hfits := DrsHdr.ofBytes_fits f.body
  exact DrsHdr.ofBytes_toBytes (hfits.withTtl (Nat.lt_of_le_of_lt (Nat.sub_le ..) hfits.ttl)) _

theorem drop_lessTtl (f : MgmtFrame) : (lessTtl f).body.drop 16 = f.body.drop 16 := by
  simp [lessTtl]

/-- The header of every HELLO. -/
def helloHdr : DrsHdr := { ver := 1, kind := 4, ttl := 0, bodyLen := 16, session := 0, seq := 0 }

/-- What follows the header in the HELLO of port `p`: the device's ID, the port, the serial number, and the padding. -/
def helloRest (s : State) (p : Nat) : List Byte :=
  beBytes (deviceId s * 2 ^ 16 + b2n (s.on 0 Reg.Root.DEV_CICEN_ID_VALID)) 4 ++ (beBytes p 4 ++
    (beBytes Config.devSerial.toNat 8 ++ List.replicate 14 0))

theorem helloFrame_body (s : State) (p : Nat) : (helloFrame s p).body = helloHdr.toBytes ++ helloRest s p := by
  simp [helloFrame, ownFrame, helloHdr, helloRest]

theorem ofBytes_helloFrame (s : State) (p : Nat) : DrsHdr.ofBytes (helloFrame s p).body = helloHdr := by
  rw [helloFrame_body]
  exact DrsHdr.ofBytes_toBytes ⟨by decide, by decide, by decide, by decide, by decide, by decide⟩ _

theorem helloFrame_body_length (s : State) (p : Nat) : (helloFrame s p).body.length = 46 := by
  simp [helloFrame_body, helloRest]

/-- The word that names the sending port. -/
theorem helloFrame_port (s : State) (p : Fin 2) : beAt (helloFrame s p.val).body 20 4 = p.val := by
  have hport := beAt_beBytes (helloHdr.toBytes ++ beBytes (deviceId s * 2 ^ 16 + b2n (s.on 0 Reg.Root.DEV_CICEN_ID_VALID)) 4)
    (beBytes Config.devSerial.toNat 8 ++ List.replicate 14 0) p.val 4
  simp only [List.length_append, DrsHdr.toBytes_length, beBytes_length, List.append_assoc] at hport
  rw [helloFrame_body, helloRest, hport]
  omega

/-- A HELLO is a well-formed Drisiul frame of the ring's own address. -/
theorem helloFrame_good (s : State) (p : Fin 2) : drsGood (helloFrame s p.val).body = true := by
  simp [drsGood, ofBytes_helloFrame, helloFrame_body_length, helloHdr]

/-! ### Reading a field after a write to another one -/

theorem State.rd_wr_apart (s : State) (b : Nat) {f g : Field} (v : Nat)
    (h : ((g.off, g.lo) ≠ (f.off, f.lo) ∧ f.lo < 32) ∧ g.lo < 32) : (s.wr b f v).rd b g = s.rd b g :=
  State.rd_wr_other _ _ _ _ _ _ (Field.key_ne b f g h.1.1 h.1.2 h.2)

/-! ### What events and ring breaks touch (R302, R546, R562) -/

@[simp] theorem sansReports_deviceEvent (s : State) (code : Nat) (d : List Nat) : sansReports (deviceEvent s code d) = sansReports s := by
  rw [deviceEvent, foldl_keeps sansReports _ (fun t f => sansReports_raiseEvent t f code d), sansReports_streamEvent]

@[simp] theorem sansReports_setEvt (s : State) (b : Nat) (f : Field) (i : Nat) : sansReports (s.setEvt b f i) = sansReports s := rfl

theorem setBroken_same {s : State} {p : Nat} {b : Bool} (h : ringBroken s p = b) : setBroken s p b = s := if_pos h

theorem setBroken_other {s : State} {p : Nat} {b : Bool} (h : ringBroken s p ≠ b) : setBroken s p b =
    deviceEvent (meEvent (s.wr (meBase p) Reg.Me.ME_STATE_RING_BROKEN (b2n b)) p (if b then 1 else 2)) (if b then 0x5C else 0x5D)
      [p, 0, 0, 0] := if_neg h

@[simp] theorem sansReports_setBroken (s : State) (p : Nat) (b : Bool) : sansReports (setBroken s p b) = sansReports s := by
  by_cases h : ringBroken s p = b
  · rw [setBroken_same h]
  · rw [setBroken_other h, sansReports_deviceEvent]
    rfl

@[simp] theorem sansReports_setMeLink (s : State) (p st : Nat) : sansReports (setMeLink s p st) = sansReports s := by
  simp only [setMeLink]
  split
  · rfl
  · split
    · exact sansReports_setBroken _ p true
    · rfl

/-- A register of the setup space that neither shows a ring break nor counts lost events is as it was. -/
theorem look_setBroken (s : State) (p : Nat) (b : Bool) {k : Nat} (hk : k < bar2 0 * 32)
    (hlost : k ≠ Reg.Mp.EVT_LOST.key (base .mgmtProc)) (hbroken : k ≠ Reg.Me.ME_STATE_RING_BROKEN.key (meBase p))
    (hevent : k ≠ Reg.Me.ME_EVENT.key (meBase p)) : look (setBroken s p b).regs k = look s.regs k := by
  by_cases h : ringBroken s p = b
  · rw [setBroken_same h]
  · rw [setBroken_other h, look_deviceEvent_setup _ _ _ hk hlost]
    exact (State.look_wr_other _ _ _ _ _ hevent).trans (State.look_wr_other _ _ _ _ _ hbroken)

theorem look_setMeLink (s : State) (p st : Nat) {k : Nat} (hk : k < bar2 0 * 32)
    (hlost : k ≠ Reg.Mp.EVT_LOST.key (base .mgmtProc)) (hlink : k ≠ Reg.Me.ME_STATE_LINK.key (meBase p))
    (hbroken : k ≠ Reg.Me.ME_STATE_RING_BROKEN.key (meBase p)) (hevent : k ≠ Reg.Me.ME_EVENT.key (meBase p)) :
    look (setMeLink s p st).regs k = look s.regs k := by
  have hshown : look (meEvent (s.wr (meBase p) Reg.Me.ME_STATE_LINK st) p 0).regs k = look s.regs k :=
    (State.look_wr_other _ _ _ _ _ hevent).trans (State.look_wr_other _ _ _ _ _ hlink)
  simp only [setMeLink]
  split
  · rfl
  · split
    · exact (look_setBroken _ p true hk hlost hbroken hevent).trans hshown
    · exact hshown

/-- The link of a port that goes down reads 0. -/
theorem rd_link_setMeLink_down (s : State) (p : Fin 2) : (setMeLink s p.val 0).rd (meBase p.val) Reg.Me.ME_STATE_LINK = 0 := by
  have hlow : Reg.Me.ME_STATE_LINK.key (meBase p.val) < bar2 0 * 32 := by revert p; decide
  have hlost : Reg.Me.ME_STATE_LINK.key (meBase p.val) ≠ Reg.Mp.EVT_LOST.key (base .mgmtProc) := by revert p; decide
  by_cases h : s.rd (meBase p.val) Reg.Me.ME_STATE_LINK = 0
  · rw [setMeLink, if_pos h, h]
  · have hbroken := look_setBroken (meEvent (s.wr (meBase p.val) Reg.Me.ME_STATE_LINK 0) p.val 0) p.val true hlow hlost
      (Field.key_ne _ _ _ (by decide) (by decide) (by decide)) (Field.key_ne _ _ _ (by decide) (by decide) (by decide))
    rw [setMeLink, if_neg h, if_pos (by decide), State.rd, hbroken]
    exact (State.rd_wr_apart _ _ _ (by decide)).trans (State.rd_wr_same ..)

/-! ### The bypass (R543, R544) -/

/-- The bypass closed at port `p`, whose link drops. -/
def portBypassed (s : State) (p : Nat) : State := setMeLink (s.wr (meBase p) Reg.Me.ME_STATE_BYPASS_CLOSED 1) p 0

theorem closeBypass_closed {s : State} (h : bypassed s = true) : closeBypass s = s := if_pos h

theorem closeBypass_open {s : State} (h : bypassed s = false) :
    closeBypass s = (portBypassed (portBypassed s 0) 1).emit (.bypass true) := if_neg (by simp [h])

@[simp] theorem sansReports_portBypassed (s : State) (p : Nat) : sansReports (portBypassed s p) = sansReports s :=
  sansReports_setMeLink _ p 0

theorem rd_link_portBypassed (s : State) (p : Fin 2) : (portBypassed s p.val).rd (meBase p.val) Reg.Me.ME_STATE_LINK = 0 :=
  rd_link_setMeLink_down _ p

theorem rd_closed_portBypassed (s : State) (p : Fin 2) : (portBypassed s p.val).rd (meBase p.val) Reg.Me.ME_STATE_BYPASS_CLOSED = 1 := by
  have hlook := look_setMeLink (s.wr (meBase p.val) Reg.Me.ME_STATE_BYPASS_CLOSED 1) p.val 0
    (k := Reg.Me.ME_STATE_BYPASS_CLOSED.key (meBase p.val)) (by revert p; decide) (by revert p; decide)
    (Field.key_ne _ _ _ (by decide) (by decide) (by decide)) (Field.key_ne _ _ _ (by decide) (by decide) (by decide))
    (Field.key_ne _ _ _ (by decide) (by decide) (by decide))
  rw [State.rd, portBypassed, hlook]
  exact State.rd_wr_same ..

/-- What port 1 does leaves the registers of port 0. -/
theorem rd_portBypassed_one (s : State) {f : Field} (hf : f ∈ Reg.Me.all) : (portBypassed s 1).rd (meBase 0) f = s.rd (meBase 0) f := by
  have hapart : ∀ f ∈ Reg.Me.all, f.key (meBase 0) < bar2 0 * 32 ∧ f.key (meBase 0) ≠ Reg.Mp.EVT_LOST.key (base .mgmtProc) ∧
      ∀ g ∈ [Reg.Me.ME_STATE_BYPASS_CLOSED, Reg.Me.ME_STATE_LINK, Reg.Me.ME_STATE_RING_BROKEN, Reg.Me.ME_EVENT],
        f.key (meBase 0) ≠ g.key (meBase 1) := by decide
  obtain ⟨hlow, hlost, hother⟩ := hapart f hf
  simp only [List.forall_mem_cons] at hother
  obtain ⟨hclosed, hlink, hbroken, hevent, -⟩ := hother
  rw [State.rd, portBypassed, look_setMeLink _ _ _ hlow hlost hlink hbroken hevent]
  exact State.rd_wr_other _ _ _ _ _ _ hclosed

/-- Closing the bypass shows it, and both links are down. -/
theorem closeBypass_closes {s : State} (h : bypassed s = false) : bypassed (closeBypass s) = true ∧ meUp (closeBypass s) 0 = false ∧
    meUp (closeBypass s) 1 = false ∧ (closeBypass s).out.head? = some (.bypass true) := by
  have hclosed : (portBypassed (portBypassed s 0) 1).rd (meBase 0) Reg.Me.ME_STATE_BYPASS_CLOSED = 1 :=
    (rd_portBypassed_one _ (by decide)).trans (rd_closed_portBypassed s 0)
  have hlink0 : (portBypassed (portBypassed s 0) 1).rd (meBase 0) Reg.Me.ME_STATE_LINK = 0 :=
    (rd_portBypassed_one _ (by decide)).trans (rd_link_portBypassed s 0)
  have hlink1 : (portBypassed (portBypassed s 0) 1).rd (meBase 1) Reg.Me.ME_STATE_LINK = 0 := rd_link_portBypassed _ 1
  rw [closeBypass_open h]
  refine ⟨?_, ?_, ?_, rfl⟩
  · simp [bypassed, State.on, hclosed]
  · simp [meUp, hlink0]
  · simp [meUp, hlink1]

/-- Closing the bypass touches registers, reports and what is emitted. -/
theorem closeBypass_frame (s : State) : ∃ o, sansReports (closeBypass s) = sansReports { s with out := o } := by
  by_cases h : bypassed s = true
  · exact ⟨s.out, by rw [closeBypass_closed h]⟩
  · rw [closeBypass_open (Bool.eq_false_iff.mpr h)]
    have hports : sansReports (portBypassed (portBypassed s 0) 1) = sansReports s := by simp
    exact ⟨_, congrArg (fun t => { t with out := .bypass true :: (portBypassed (portBypassed s 0) 1).out }) hports⟩

/-! ### Frames (R541, R545, R547) -/

theorem RegsOnly.out_eq {s t : State} (h : RegsOnly s t) : t.out = s.out :=
  (congrArg State.out h : { t with regs := s.regs }.out = s.out)

@[simp] theorem cnt1_out (s : State) (u : UnitId) (code : Nat) : (cnt1 s u code).out = s.out := (countEv_regsOnly s u _).out_eq

/-- What a frame that the port accepts comes to, in the order of R545. -/
theorem exec_mgmtFrameReceive_accepted {p : Fin 2} {f : MgmtFrame} {s : State} (hlive : meLive s p.val = true) (hfcs : f.fcsGood = true)
    (hether : etherGood f = true) : exec (.mgmtFrameReceive p f) s =
    let b := meBase p.val
    let t := cnt1 s (.mgmtEth p) 0x100
    .next (if f.src.toNat = drsMac t then meEvent (t.bump b Reg.Me.LOOP_DROP) p.val 4
      else if f.etype.toNat ≠ t.rd mpBase Reg.Mp.DRS_ETYPE ∨ f.etype = 0x88F7 then forwardFrame t p.val (fun q => .mgmtFrame q f)
      else if drsGood f.body = false then t.bump b Reg.Me.BAD_FRAME
      else if (DrsHdr.ofBytes f.body).kind = 4 then takeHello t p.val f.body
      else if f.dst.toNat = drsMac t then t
      else if (DrsHdr.ofBytes f.body).ttl = 0 then meEvent (t.bump b Reg.Me.TTL_DROP) p.val 3
      else forwardFrame t p.val (fun q => .mgmtFrame q (lessTtl f))) := by
  have hexec : exec (.mgmtFrameReceive p f) s = execMgmtFrameReceive p f s := rfl
  simp only [hexec, execMgmtFrameReceive, hlive, hfcs, hether, Bool.not_true, Bool.false_eq_true, if_false, Bool.not_eq_true',
    apply_ite Host.Outcome.next]

theorem exec_mgmtFrameReceive_notLive {p : Fin 2} {s : State} (f : MgmtFrame) (hlive : meLive s p.val = false) :
    exec (.mgmtFrameReceive p f) s = .next s := if_pos (by simp [hlive])

theorem exec_mgmtFrameReceive_badFcs {p : Fin 2} {f : MgmtFrame} {s : State} (hlive : meLive s p.val = true) (hfcs : f.fcsGood = false) :
    exec (.mgmtFrameReceive p f) s = .next (s.bump (meBase p.val) Reg.Me.FCS_ERR) :=
  (if_neg (by simp [hlive])).trans (if_pos (by simp [hfcs]))

theorem exec_mgmtFrameReceive_notEther {p : Fin 2} {f : MgmtFrame} {s : State} (hlive : meLive s p.val = true) (hfcs : f.fcsGood = true)
    (hether : etherGood f = false) : exec (.mgmtFrameReceive p f) s = .next s :=
  (if_neg (by simp [hlive])).trans ((if_neg (by simp [hfcs])).trans (if_pos (by simp [hether])))

theorem forwardFrame_notLive {s : State} {p : Nat} (e : Nat → Emit) (h : meLive s (1 - p) = false) :
    forwardFrame s p e = s.bump (meBase p) Reg.Me.FWD_DROP := if_neg (by simp [h])

theorem forwardFrame_live_out {s : State} {p : Nat} (e : Nat → Emit) (h : meLive s (1 - p) = true) :
    (forwardFrame s p e).out = e (1 - p) :: s.out := by
  rw [forwardFrame, if_pos h, cnt1_out, cnt1_out]
  rfl

/-! ### HELLOs (R546, R548) -/

/-- The neighbour of port `p` shown as the HELLO names it, and the port marked as heard. -/
def neighShown (s : State) (p : Nat) (x : List Byte) : State :=
  (writeAll s (meBase p) [(Reg.Me.NEIGH_DEVICE_ID, beAt x 16 2), (Reg.Me.NEIGH_PORT, beAt x 20 4 % 2), (Reg.Me.NEIGH_VALID, 1),
    (Reg.Me.NEIGH_SERIAL_LO, beAt x 24 8), (Reg.Me.NEIGH_SERIAL_HI, beAt x 24 8 / 2 ^ 32)]).setMg
    { s.mg with heard := addOnce s.mg.heard p }

/-- The words that name the neighbour. -/
def neighFields : List Field :=
  [Reg.Me.NEIGH_DEVICE_ID, Reg.Me.NEIGH_PORT, Reg.Me.NEIGH_VALID, Reg.Me.NEIGH_SERIAL_LO, Reg.Me.NEIGH_SERIAL_HI]

theorem neighKeys_nodup (p : Fin 2) : (neighFields.map (Field.key · (meBase p.val))).Nodup := by
  revert p
  decide

theorem rd_neighShown_other (s : State) (p : Fin 2) (x : List Byte) {f : Field} (hf : f ∈ Reg.Me.all) (hnot : f ∉ neighFields) :
    (neighShown s p.val x).rd (meBase p.val) f = s.rd (meBase p.val) f := by
  have hkeys : ∀ p : Fin 2, ∀ f ∈ Reg.Me.all, f ∉ neighFields → f.key (meBase p.val) ∉ neighFields.map (Field.key · (meBase p.val)) := by
    decide
  exact congrArg (Option.getD · f.reset) ((writeAll_onlyFields s (meBase p.val) _).2 _ (hkeys p f hf hnot))

/-- A HELLO at a port that is up and not ring-broken only names the neighbour. -/
theorem takeHello_unbroken {s : State} {p : Fin 2} (x : List Byte) (hbroken : ringBroken s p.val = false) :
    takeHello s p.val x = neighShown s p.val x := by
  have hsame : ringBroken (neighShown s p.val x) p.val = false := by
    rw [ringBroken, State.on, rd_neighShown_other s p x (by decide) (by decide)]
    exact hbroken
  have htake : takeHello s p.val x = if meUp (neighShown s p.val x) p.val then setBroken (neighShown s p.val x) p.val false
    else neighShown s p.val x := rfl
  rw [htake, setBroken_same hsame, ite_self]

theorem takeHello_shows {s : State} {p : Fin 2} (x : List Byte) (hbroken : ringBroken s p.val = false) :
    (takeHello s p.val x).mg = { s.mg with heard := addOnce s.mg.heard p.val } ∧
    (takeHello s p.val x).rd (meBase p.val) Reg.Me.NEIGH_DEVICE_ID = beAt x 16 2 % 2 ^ 16 ∧
    (takeHello s p.val x).rd (meBase p.val) Reg.Me.NEIGH_PORT = beAt x 20 4 % 2 ∧
    (takeHello s p.val x).rd (meBase p.val) Reg.Me.NEIGH_VALID = 1 := by
  have hread := fun {f v} => rd_writeAll s (neighKeys_nodup p) (l := [(Reg.Me.NEIGH_DEVICE_ID, beAt x 16 2),
    (Reg.Me.NEIGH_PORT, beAt x 20 4 % 2), (Reg.Me.NEIGH_VALID, 1), (Reg.Me.NEIGH_SERIAL_LO, beAt x 24 8),
    (Reg.Me.NEIGH_SERIAL_HI, beAt x 24 8 / 2 ^ 32)]) (f := f) (v := v)
  rw [takeHello_unbroken x hbroken]
  refine ⟨rfl, hread (by simp), (hread (v := beAt x 20 4 % 2) (by simp)).trans (Nat.mod_mod ..), hread (v := 1) (by simp)⟩

/-- A port without a HELLO in the interval has missed one. -/
def helloMissed (heard : List Nat) (t : State) (p : Nat) : State := if heard.contains p then t else t.bump (meBase p) Reg.Me.HELLO_MISS

theorem helloMissed_mg (heard : List Nat) (t : State) (p : Nat) : (helloMissed heard t p).mg = t.mg := by
  rw [helloMissed]
  split <;> rfl

/-- Both ports' intervals end, port 0's first. -/
theorem foldl_helloMissed (s : State) : (List.range 2).foldl (fun t p => helloMissed t.mg.heard t p) s =
    helloMissed s.mg.heard (helloMissed s.mg.heard s 0) 1 := by
  have hfold : (List.range 2).foldl (fun t p => helloMissed t.mg.heard t p) s =
    helloMissed (helloMissed s.mg.heard s 0).mg.heard (helloMissed s.mg.heard s 0) 1 := rfl
  rw [hfold, helloMissed_mg]

/-- A port that can send sends its HELLO. -/
def helloSent (t : State) (p : Fin 2) : State :=
  if meLive t p.val then cnt1 (t.emit (.mgmtFrame p.val (helloFrame t p.val))) (.mgmtEth p) 0x101 else t

theorem exec_helloTimer (s : State) : exec .helloTimer s =
    .next (helloSent (helloSent ((helloMissed s.mg.heard (helloMissed s.mg.heard s 0) 1).setMg { s.mg with heard := [] }) 0) 1) := by
  have hexec : exec .helloTimer s =
      let m := (List.range 2).foldl (fun t p => helloMissed t.mg.heard t p) s
      .next (helloSent (helloSent (m.setMg { m.mg with heard := [] }) 0) 1) := rfl
  simp only [hexec, foldl_helloMissed, helloMissed_mg]

/-! ### Link changes (R541, R570) -/

theorem exec_mgmtLinkChange (p : Fin 2) (st : BitVec 2) (s : State) : exec (.mgmtLinkChange p st) s =
    if st ≠ 0 ∧ (bypassed s = true ∨ unitOff s (.mgmtEth p) = true) then .next s
    else if (st = 2 ∧ s.rd (meBase p.val) Reg.Me.ME_CFG_SPEED = 1) ∨ (st = 3 ∧ s.rd (meBase p.val) Reg.Me.ME_CFG_SPEED = 2) then .next s
    else .next (setMeLink s p.val st.toNat) := rfl

/-- Settles O47. A frame takes the first of R545's cases that fits; a header that is passed on or sent reads back as it was made; a
ring break, a link change and the closing of the bypass are each their own writes, which leave the registers that the statement reads. -/
theorem ringFramesAndBypassMove : Obligations.RingFramesAndBypassMove := by
  unfold Obligations.RingFramesAndBypassMove
  refine ⟨fun p f s hlive => exec_mgmtFrameReceive_notLive f hlive, ?frame, ?passedOn, ?forward, ?hello, ?timer, ?ownHello,
    fun p s => rfl, fun p b s => ⟨setBroken_same, setBroken_other⟩, ?change, ?link, ?bypass⟩
  case frame =>
    intro p f s hlive b t h
    refine ⟨fun hfcs => exec_mgmtFrameReceive_badFcs hlive hfcs, fun hfcs hether => exec_mgmtFrameReceive_notEther hlive hfcs hether,
      fun hfcs hether => ?_⟩
    have hexec := exec_mgmtFrameReceive_accepted hlive hfcs hether
    refine ⟨fun hown => ?_, fun hother hplain => ?_, fun hother hetype hnotPtp => ?_⟩
    · rw [hexec]; exact congrArg _ (if_pos hown)
    · rw [hexec]; exact congrArg _ ((if_neg hother).trans (if_pos hplain))
    · have hdrs : ¬ (f.etype.toNat ≠ t.rd mpBase Reg.Mp.DRS_ETYPE ∨ f.etype = 0x88F7) := not_or.mpr ⟨not_not_intro hetype, hnotPtp⟩
      replace hexec := hexec.trans (congrArg _ ((if_neg hother).trans (if_neg hdrs)))
      refine ⟨fun hbad => ?_, fun hgood hkind => ?_, fun hgood hkind hmine => ?_, fun hgood hkind hnotMine httl => ?_,
        fun hgood hkind hnotMine httl => ?_⟩ <;> rw [hexec]
      · rw [if_pos hbad]
      · rw [if_neg (by simp [hgood]), if_pos hkind]
      · rw [if_neg (by simp [hgood]), if_neg hkind, if_pos hmine]
      · rw [if_neg (by simp [hgood]), if_neg hkind, if_neg hnotMine, if_pos httl]
      · rw [if_neg (by simp [hgood]), if_neg hkind, if_neg hnotMine, if_neg httl]
  case passedOn =>
    intro f _
    exact ⟨ofBytes_lessTtl f, drop_lessTtl f, rfl⟩
  case forward =>
    intro s p e
    exact ⟨forwardFrame_notLive e, forwardFrame_live_out e⟩
  case hello =>
    intro s p x _ hbroken
    exact takeHello_shows x hbroken
  case timer =>
    exact exec_helloTimer
  case ownHello =>
    intro s p
    have hhdr := ofBytes_helloFrame s p.val
    exact ⟨rfl, rfl, helloFrame_good s p, congrArg DrsHdr.kind hhdr, congrArg DrsHdr.ttl hhdr, helloFrame_port s p,
      helloFrame_body_length s p.val⟩
  case change =>
    intro p st s speed
    rw [exec_mgmtLinkChange]
    refine ⟨fun hst hoff => if_pos ⟨hst, hoff⟩, fun hspeed => ?_, fun hfree h2 h3 => ?_⟩
    · rw [if_pos hspeed, ite_self]
    · have hnotOff : ¬ (st ≠ 0 ∧ (bypassed s = true ∨ unitOff s (.mgmtEth p) = true)) := by
        rintro ⟨hst, hoff⟩
        obtain ⟨hopen, hon⟩ := hfree.resolve_left hst
        simp [hopen, hon] at hoff
      exact (if_neg hnotOff).trans (if_neg (not_or.mpr ⟨h2, h3⟩))
  case link =>
    intro p st s t
    exact ⟨fun h => if_pos h, fun h hup => (if_neg h).trans (if_neg (by omega)), fun h hdown => (if_neg h).trans (if_pos hdown)⟩
  case bypass =>
    intro s
    refine ⟨fun h => ?_, fun h => ?_, fun h => ?_, fun hfree hclosed => ?_, closeBypass_closed, closeBypass_closes⟩
    · exact congrArg _ (if_pos h)
    · exact congrArg _ (if_neg (by simp [h]))
    · exact if_pos (by simpa using h)
    · exact if_neg (by simp [hfree, hclosed])

end Sys2Proof.Machine
end

section
/-!
PROOFS. Power-up, pins and rails (R585, R589, R590, R616, R620, R621, R633, R634): what each stage of a cold reset keeps, the causes
that it records, and the commands of the pins and rails.
-/
namespace Sys2Proof.Machine

/-! ### What the stages of a reset keep (R589, R590, R631, R634) -/

/-- The state of the power sequencing, Flask, the clock and the queue, which no report touches. -/
theorem kept_of_sansReports {s t : State} (h : sansReports t = sansReports s) : t.boot = s.boot ∧ t.flask = s.flask ∧ t.now = s.now ∧
    t.pending = s.pending := by
  have hkept : ∀ x : State, (sansReports x).boot = x.boot ∧ (sansReports x).flask = x.flask ∧ (sansReports x).now = x.now ∧
      (sansReports x).pending = x.pending := fun _ => ⟨rfl, rfl, rfl, rfl⟩
  have ht := hkept t
  rw [h] at ht
  obtain ⟨hboot, hflask, hnow, hpending⟩ := ht
  exact ⟨hboot.symm, hflask.symm, hnow.symm, hpending.symm⟩

theorem closeBypass_kept (s : State) : (closeBypass s).boot = s.boot ∧ (closeBypass s).flask = s.flask ∧ (closeBypass s).now = s.now ∧
    (closeBypass s).pending = s.pending := by
  obtain ⟨o, ho⟩ := closeBypass_frame s
  exact kept_of_sansReports (s := { s with out := o }) ho

@[simp] theorem closeBypass_boot (s : State) : (closeBypass s).boot = s.boot := (closeBypass_kept s).1
@[simp] theorem closeBypass_flask (s : State) : (closeBypass s).flask = s.flask := (closeBypass_kept s).2.1
@[simp] theorem closeBypass_now (s : State) : (closeBypass s).now = s.now := (closeBypass_kept s).2.2.1
@[simp] theorem closeBypass_pending (s : State) : (closeBypass s).pending = s.pending := (closeBypass_kept s).2.2.2

theorem releaseTherm_eq (s : State) : ∃ o, releaseTherm s =
    { s with out := o, boot := { s.boot with thermAsserted := false, thermTripped := false } } := by
  by_cases h : s.boot.thermAsserted = true
  · exact ⟨.thermN false :: s.out, by simp [releaseTherm, h]⟩
  · exact ⟨s.out, by simp [releaseTherm, h]⟩

@[simp] theorem releaseTherm_boot (s : State) :
    (releaseTherm s).boot = { s.boot with thermAsserted := false, thermTripped := false } := by
  obtain ⟨o, ho⟩ := releaseTherm_eq s
  rw [ho]

@[simp] theorem releaseTherm_flask (s : State) : (releaseTherm s).flask = s.flask := by
  obtain ⟨o, ho⟩ := releaseTherm_eq s
  rw [ho]

@[simp] theorem releaseTherm_now (s : State) : (releaseTherm s).now = s.now := by
  obtain ⟨o, ho⟩ := releaseTherm_eq s
  rw [ho]

@[simp] theorem releaseTherm_pending (s : State) : (releaseTherm s).pending = s.pending := by
  obtain ⟨o, ho⟩ := releaseTherm_eq s
  rw [ho]

@[simp] theorem releaseTherm_regs (s : State) : (releaseTherm s).regs = s.regs := by
  obtain ⟨o, ho⟩ := releaseTherm_eq s
  rw [ho]

/-- Recording a cause writes the word LAST_RESET and notes the instant. -/
theorem recordCause_eq (s : State) (cause group : Nat) : ∃ m, recordCause s cause group =
    { s with regs := m, boot := { s.boot with resetAt := some s.now } } := by
  by_cases h : s.boot.resetAt = some s.now
  · have hboot : s.boot = { s.boot with resetAt := some s.now } := by rw [← h]
    simp only [recordCause, if_pos h]
    rw [← hboot]
    split
    · exact ⟨_, rfl⟩
    · split
      · exact ⟨_, rfl⟩
      · exact ⟨s.regs, rfl⟩
  · simp only [recordCause, if_neg h]
    exact ⟨_, rfl⟩

@[simp] theorem recordCause_boot (s : State) (cause group : Nat) :
    (recordCause s cause group).boot = { s.boot with resetAt := some s.now } := by
  obtain ⟨m, hm⟩ := recordCause_eq s cause group
  rw [hm]

@[simp] theorem recordCause_flask (s : State) (cause group : Nat) : (recordCause s cause group).flask = s.flask := by
  obtain ⟨m, hm⟩ := recordCause_eq s cause group
  rw [hm]

@[simp] theorem recordCause_now (s : State) (cause group : Nat) : (recordCause s cause group).now = s.now := by
  obtain ⟨m, hm⟩ := recordCause_eq s cause group
  rw [hm]

@[simp] theorem recordCause_pending (s : State) (cause group : Nat) : (recordCause s cause group).pending = s.pending := by
  obtain ⟨m, hm⟩ := recordCause_eq s cause group
  rw [hm]

/-- A reset that begins at an instant of its own shows its cause and group. -/
theorem recordCause_shows {s : State} (cause group : Nat) (h : s.boot.resetAt ≠ some s.now) :
    (recordCause s cause group).rd 0 Reg.Hk.LAST_RESET_CAUSE = cause % 8 ∧
    (recordCause s cause group).rd 0 Reg.Hk.LAST_RESET_GROUP = group % 16 := by
  have hrec : (recordCause s cause group).regs =
      (((s.wr 0 Reg.Hk.LAST_RESET_CAUSE cause).wr 0 Reg.Hk.LAST_RESET_GROUP group).bump 0 Reg.Hk.LAST_RESET_COUNT).regs := by
    rw [recordCause, if_neg h]
  rw [State.rd, State.rd, hrec]
  exact ⟨(State.rd_wr_apart _ _ _ (by decide)).trans ((State.rd_wr_apart _ _ _ (by decide)).trans (State.rd_wr_same ..)),
    (State.rd_wr_apart _ _ _ (by decide)).trans (State.rd_wr_same ..)⟩

/-- Lowering the rails emits the enables that fall; all enables and rails are down. -/
theorem lowerRails_eq (s : State) : ∃ o, lowerRails s = { s with out := o, boot := { s.boot with
    pwrEn := [false, false, false, false], railPg := [false, false, false, false] } } := by
  have hfold : ∀ (l : List Nat) (t : State), ∃ o,
      l.foldl (fun t g => if t.boot.pwrEn.getD g false then t.emit (.pwrEn g false) else t) t = { t with out := o } := by
    intro l
    induction l with
    | nil => exact fun t => ⟨t.out, rfl⟩
    | cons g l ih =>
      intro t
      obtain ⟨o, ho⟩ := ih (if t.boot.pwrEn.getD g false then t.emit (.pwrEn g false) else t)
      refine ⟨o, ho.trans ?_⟩
      split <;> rfl
  obtain ⟨o, ho⟩ := hfold [3, 2, 1, 0] s
  exact ⟨o, by rw [lowerRails, ho]⟩

@[simp] theorem lowerRails_boot (s : State) : (lowerRails s).boot = { s.boot with
    pwrEn := [false, false, false, false], railPg := [false, false, false, false] } := by
  obtain ⟨o, ho⟩ := lowerRails_eq s
  rw [ho]

@[simp] theorem lowerRails_flask (s : State) : (lowerRails s).flask = s.flask := by
  obtain ⟨o, ho⟩ := lowerRails_eq s
  rw [ho]

@[simp] theorem lowerRails_now (s : State) : (lowerRails s).now = s.now := by
  obtain ⟨o, ho⟩ := lowerRails_eq s
  rw [ho]

@[simp] theorem lowerRails_pending (s : State) : (lowerRails s).pending = s.pending := by
  obtain ⟨o, ho⟩ := lowerRails_eq s
  rw [ho]

@[simp] theorem lowerRails_regs (s : State) : (lowerRails s).regs = s.regs := by
  obtain ⟨o, ho⟩ := lowerRails_eq s
  rw [ho]

theorem look_filterKeys {α : Type} (m : AMap α) (p : Nat → Bool) (k : Nat) :
    look (m.filter (fun kv => p kv.1)) k = if p k = true then look m k else none := by
  have h := look_dropKeys m (fun k => !p k) k
  simp only [dropKeys, Bool.not_not, Bool.not_eq_true'] at h
  rw [h]
  cases p k <;> rfl

/-- The word LAST_RESET outlives a cold reset (R590, R634). -/
theorem rd_lastReset_coldState (s : State) {f : Field} (hoff : f.off = 0x19C) (hlo : f.lo < 32) :
    (coldState s).rd 0 f = s.rd 0 f := by
  have hword : f.key 0 / 32 = 0x19C := by
    simp only [Field.key]
    omega
  have hkept : regKept .cold s (f.key 0) = true := by simp [regKept, hword]
  have hlook : look (coldState s).regs (f.key 0) = look s.regs (f.key 0) :=
    (look_filterKeys s.regs (regKept .cold s) (f.key 0)).trans (if_pos hkept)
  rw [State.rd, State.rd, hlook]

/-! ### Power-up (R585, R620) -/

theorem raiseRail_on {s : State} {g : Nat} (h : railOn s g = true) : raiseRail s g = s := if_pos h

theorem raiseRail_off {s : State} {g : Nat} (h : railOn s g = false) :
    raiseRail s g = (setBoot s { s.boot with pwrEn := s.boot.pwrEn.set g true }).emit (.pwrEn g true) :=
  if_neg (Bool.eq_false_iff.mp h)

/-- Every condition of R585 for the power-up sequence to start. -/
def powerReady (b : BootSt) : Prop :=
  b.aux = true ∧ b.pwrGood = true ∧ b.resetN = true ∧ b.testEn = false ∧ b.lockedOut = false ∧ b.kind = some .cold

theorem startPower_of_ready {s : State} (h : powerReady s.boot) : startPower s = raiseRail s 0 := by
  obtain ⟨haux, hgood, hreset, htest, hlock, hkind⟩ := h
  simp [startPower, *]

theorem startPower_of_not {s : State} (h : ¬ powerReady s.boot) : startPower s = s := by
  refine if_neg (fun hall => h ?_)
  simpa [powerReady, and_assoc] using hall

/-- The state without the enables and what has been emitted: all that the start of the power-up changes. -/
def sansEnables (s : State) : State := { s with boot := { s.boot with pwrEn := [] }, out := [] }

theorem sansEnables_raiseRail (s : State) (g : Nat) : sansEnables (raiseRail s g) = sansEnables s := by
  cases h : railOn s g
  · rw [raiseRail_off h]; rfl
  · rw [raiseRail_on h]

theorem sansEnables_startPower (s : State) : sansEnables (startPower s) = sansEnables s := by
  by_cases h : powerReady s.boot
  · rw [startPower_of_ready h, sansEnables_raiseRail]
  · rw [startPower_of_not h]

theorem parts_of_sansEnables {t u : State} (h : sansEnables t = sansEnables u) : t.boot.kind = u.boot.kind ∧
    t.boot.cfgApplied = u.boot.cfgApplied ∧ t.boot.locked = u.boot.locked ∧ t.pool = u.pool ∧ t.setup = u.setup ∧ t.ports = u.ports ∧
    t.flask = u.flask ∧ t.regs = u.regs :=
  ⟨congrArg (·.boot.kind) h, congrArg (·.boot.cfgApplied) h, congrArg (·.boot.locked) h, congrArg (·.pool) h, congrArg (·.setup) h,
    congrArg (·.ports) h, congrArg (·.flask) h, congrArg (·.regs) h⟩

/-- What of Flask a cold state keeps: the banks and the boot record. -/
def flaskKept (x : FlaskSt) : FlaskSt := { x with store := none, meas := [], image := [] }

theorem coldState_flask (s : State) : (coldState s).flask = flaskKept s.flask := rfl

theorem coldState_cold (s : State) : (coldState s).boot.kind = some .cold ∧ (coldState s).boot.cfgApplied = false ∧
    (coldState s).boot.locked = false ∧ (coldState s).pool = State.reset.pool ∧ (coldState s).setup = State.reset.setup ∧
    (coldState s).ports = [] := ⟨rfl, rfl, rfl, rfl, rfl, rfl⟩

/-- The state from which a cold reset makes its cold state: bypass closed, THERM_N released, cause recorded, rails lowered. -/
def stopped (s : State) (cause group : Nat) : State := lowerRails (recordCause (releaseTherm (closeBypass s)) cause group)

theorem stopped_flask (s : State) (cause group : Nat) : (stopped s cause group).flask = s.flask := by simp [stopped]

theorem stopped_shows {s : State} (cause group : Nat) (h : s.boot.resetAt ≠ some s.now) :
    (stopped s cause group).rd 0 Reg.Hk.LAST_RESET_CAUSE = cause % 8 ∧
    (stopped s cause group).rd 0 Reg.Hk.LAST_RESET_GROUP = group % 16 := by
  have hregs : (stopped s cause group).regs = (recordCause (releaseTherm (closeBypass s)) cause group).regs := lowerRails_regs _
  rw [State.rd, State.rd, hregs]
  exact recordCause_shows (s := releaseTherm (closeBypass s)) cause group (by simpa using h)

/-- What a cold reset leaves (R589, R590, R633). -/
theorem coldStart_leaves (s : State) (cause group : Nat) : let t := coldStart s cause group
    t.boot.kind = some .cold ∧ t.boot.cfgApplied = false ∧ t.boot.locked = false ∧ t.pool = State.reset.pool ∧
    t.setup = State.reset.setup ∧ t.ports = [] ∧ t.flask.fwA = s.flask.fwA ∧ t.flask.fwB = s.flask.fwB ∧
    t.flask.cfgA = s.flask.cfgA ∧ t.flask.cfgB = s.flask.cfgB ∧ t.flask.confirmed = s.flask.confirmed ∧
    (s.boot.resetAt ≠ some s.now → t.rd 0 Reg.Hk.LAST_RESET_CAUSE = cause % 8 ∧ t.rd 0 Reg.Hk.LAST_RESET_GROUP = group % 16) := by
  have hsame : sansEnables (coldStart s cause group) = sansEnables (coldState (stopped s cause group)) := sansEnables_startPower _
  obtain ⟨hkind, hcfg, hlocked, hpool, hsetup, hports⟩ := coldState_cold (stopped s cause group)
  obtain ⟨hkind', hcfg', hlocked', hpool', hsetup', hports', hflask, hregs⟩ := parts_of_sansEnables hsame
  rw [coldState_flask, stopped_flask] at hflask
  simp only [hkind', hcfg', hlocked', hpool', hsetup', hports', hkind, hcfg, hlocked, hpool, hsetup, hports, hflask, true_and]
  refine ⟨rfl, rfl, rfl, rfl, rfl, fun h => ?_⟩
  rw [State.rd, State.rd, hregs, ← State.rd, ← State.rd, rd_lastReset_coldState _ rfl (by decide),
    rd_lastReset_coldState _ rfl (by decide)]
  exact stopped_shows cause group h

/-! ### Pins (R585, R589, R616, R621, R627) -/

/-- A state of which the auxiliary supply leaves only the fuses among the registers. -/
def fusesOnly (c : State) : State :=
  setBoot { c with regs := c.regs.filter (fun kv => kv.1 == Reg.Flk.SVN_MIN_SVN.key flaskBase) }
    { c.boot with aux := false, lockedOut := false, hardTrip := false, resetAt := none }

theorem look_fusesOnly (c : State) {k : Nat} (hk : k ≠ Reg.Flk.SVN_MIN_SVN.key flaskBase) : look (fusesOnly c).regs k = none :=
  (look_filterKeys c.regs (· == Reg.Flk.SVN_MIN_SVN.key flaskBase) k).trans (if_neg (mt eq_of_beq hk))

/-- The state that the loss of V3P3_AUX leaves. -/
def auxLost (s : State) : State := fusesOnly (coldState (lowerRails (releaseTherm (closeBypass s))))

theorem exec_v3p3AuxLoss_of_up {s : State} (h : s.boot.aux = true) : exec .v3p3AuxLoss s = .next (auxLost s) :=
  if_neg (by simp [h])

theorem auxLost_flask (s : State) : (auxLost s).flask = flaskKept s.flask := by simp [auxLost, fusesOnly, setBoot, coldState_flask]

theorem auxLost_kept (s : State) : (auxLost s).boot.pwrEn = [false, false, false, false] ∧ (auxLost s).pending = s.pending ∧
    (auxLost s).now = s.now := by
  simp [auxLost, fusesOnly, coldState, setBoot]

theorem auxLost_leaves (s : State) : (auxLost s).boot.aux = false ∧
    (∀ k, k ≠ Reg.Flk.SVN_MIN_SVN.key flaskBase → look (auxLost s).regs k = none) ∧ (auxLost s).flask.fwA = s.flask.fwA ∧
    (auxLost s).flask.fwB = s.flask.fwB ∧ (auxLost s).flask.cfgA = s.flask.cfgA ∧ (auxLost s).flask.cfgB = s.flask.cfgB ∧
    (auxLost s).flask.confirmed = s.flask.confirmed ∧ (auxLost s).boot.pwrEn = [false, false, false, false] ∧
    (auxLost s).pool = State.reset.pool ∧ (auxLost s).pending = s.pending ∧ (auxLost s).now = s.now := by
  obtain ⟨hdown, hpending, hnow⟩ := auxLost_kept s
  rw [auxLost_flask]
  exact ⟨rfl, fun k hk => look_fusesOnly _ hk, rfl, rfl, rfl, rfl, rfl, hdown, rfl, hpending, hnow⟩

/-- PWR_GOOD shown as risen. -/
def pwrGoodShown (s : State) : State := setBoot s { s.boot with pwrGood := true, pwrLowAt := none }

theorem exec_pwrGoodRise_first {s : State} (h : s.boot.pwrGood = false) (hfirst : s.boot.pwrLowAt = none) :
    exec .pwrGoodRise s = .next (startPower (unlock (pwrGoodShown s))) := by
  have hexec : exec .pwrGoodRise s = execPwrGoodRise s := rfl
  simp only [hexec, execPwrGoodRise, h, hfirst, Bool.false_eq_true, if_false, if_true, pwrGoodShown]

theorem exec_pwrGoodRise_after {s : State} {low : Nat} (h : s.boot.pwrGood = false) (hat : s.boot.pwrLowAt = some low) :
    exec .pwrGoodRise s = .next (startPower (if low + 1000000 ≤ s.now then unlock (pwrGoodShown s) else pwrGoodShown s)) := by
  have hexec : exec .pwrGoodRise s = execPwrGoodRise s := rfl
  simp only [hexec, execPwrGoodRise, h, hat, Bool.false_eq_true, if_false, decide_eq_true_eq, pwrGoodShown]

/-! ### Rails (R620, R621) -/

theorem exec_railPgFall_of_good {g : Fin 4} {s : State} (h : railGood s g.val = true) : exec (.railPgFall g) s =
    .next (if railOn s g.val = true then railFails (setBoot s { s.boot with railPg := s.boot.railPg.set g.val false }) g.val
      else setBoot s { s.boot with railPg := s.boot.railPg.set g.val false }) := if_neg (by simp [h])

/-- Settles O51. A cold reset is its stages one after the other, each of which keeps Flask, the clock and the queue, and the start of
the power-up changes only the enables; the commands of the pins and rails are their own tests. -/
theorem pinsAndRailsStartAndResetTheDevice : Obligations.PinsAndRailsStartAndResetTheDevice := by
  unfold Obligations.PinsAndRailsStartAndResetTheDevice
  refine ⟨?aux, ?pwrRise, ?assert, ?release, ?start, ?raise, coldStart_leaves, ?rails, fun s g => rfl⟩
  case aux =>
    intro s
    refine ⟨fun h => if_neg (by simp [h]), fun h => if_pos h, fun h => if_pos (by simp [h]), fun h => ?_⟩
    exact ⟨_, exec_v3p3AuxLoss_of_up h, auxLost_leaves s⟩
  case pwrRise =>
    intro s u
    exact ⟨fun h => if_pos h, exec_pwrGoodRise_first, fun low => exec_pwrGoodRise_after⟩
  case assert =>
    intro s u v w
    exact ⟨fun h => if_pos (by simp [h]), fun h => if_neg (by simp [h]), fun h => if_pos (by simp [h]), fun h => if_neg (by simp [h]),
      fun h => if_pos h, fun h => if_neg (by simp [h])⟩
  case release =>
    intro s
    exact ⟨fun h => if_pos h, fun h => if_neg (by simp [h]), fun h => if_pos (by simp [h]), fun h => if_neg (by simp [h])⟩
  case start =>
    intro s b all
    exact ⟨startPower_of_ready, startPower_of_not⟩
  case raise =>
    intro s g
    refine ⟨raiseRail_on, fun h => ?_⟩
    rw [raiseRail_off h]
    exact ⟨rfl, rfl⟩
  case rails =>
    intro g s u d
    refine ⟨fun hon hg => ?_, fun h => ?_, fun hon hbad => ?_, fun h => ?_, fun h => if_pos (by simp [h]), fun hgood hon => ?_,
      fun hgood hoff => ?_⟩
    · exact congrArg Host.Outcome.next (if_pos (Bool.and_eq_true_iff.mpr ⟨hon, decide_eq_true hg⟩))
    · refine congrArg Host.Outcome.next (if_neg fun hall => ?_)
      obtain ⟨hon, hlast⟩ := Bool.and_eq_true_iff.mp hall
      rcases h with h | h
      · exact Bool.false_ne_true (h.symm.trans hon)
      · exact absurd (of_decide_eq_true hlast) (by omega)
    · exact congrArg Host.Outcome.next (if_pos (by simp [hon, hbad]))
    · exact congrArg Host.Outcome.next (if_neg (by rcases h with h | h <;> simp [h]))
    · rw [exec_railPgFall_of_good hgood, if_pos hon]
    · rw [exec_railPgFall_of_good hgood, if_neg (Bool.eq_false_iff.mp hoff)]

end Sys2Proof.Machine
end

section
/-!
PROOFS. Clearing errors (R606, R612) and following the temperature (R631 to R634): which summaries a clear takes out, what the readings
show, and the thresholds of THERM_N, of the stop and of the hard trip.
-/
namespace Sys2Proof.Machine

/-! ### Clear actions (R606, R612) -/

/-- A CNT_CLR zeroes its counters and changes nothing else. -/
theorem clearAll_ends (s : State) (b : Nat) (fs : List Field) : (∀ f ∈ fs, (s.clearAll b fs).rd b f = 0) ∧
    OnlyFields (fs.map (Field.key · b)) s (s.clearAll b fs) := by
  have hclears := Clears.clearAll s b fs
  refine ⟨fun f hf => hclears.rd_zero ⟨f, hf, rfl⟩, hclears.regsOnly, fun k hk => hclears.other k ?_⟩
  rintro ⟨f, hf, rfl⟩
  exact hk (List.mem_map_of_mem hf)

theorem exec_clrUnit_of_takes {r : Route} {s : State} (h : Takes s r 0x104) : exec (.clrUnit r) s = .next (clearUnitErrors s) :=
  congrArg Host.Outcome.next (guarded_of_takes _ h)

theorem clearUnitErrors_of_unit {s : State} {u : UnitId} (h : allUnits.find? (fun u => base u == s.rd 0 Reg.Err.ERR_CLR_WIN) = some u) :
    clearUnitErrors s = clearErrors s (subtree u) := by
  rw [clearUnitErrors, h]

theorem clearUnitErrors_of_none {s : State} (h : allUnits.find? (fun u => base u == s.rd 0 Reg.Err.ERR_CLR_WIN) = none) :
    clearUnitErrors s = configError s .root := by
  rw [clearUnitErrors, h]

/-- The summary of a unit that is named and not fenced goes. -/
theorem look_sev_clearErrors_of_mem {us : List UnitId} {u : UnitId} {s : State} (hmem : u ∈ us) (hfence : isFenced s u = false) :
    look (clearErrors s us).err.sev (base u) = none := by
  refine (look_dropKeys s.err.sev (fun b => us.any (fun v => base v == b && !isFenced s v)) (base u)).trans (if_pos ?_)
  exact List.any_eq_true.mpr ⟨u, hmem, by simp [hfence]⟩

/-- The summary at a window where every unit named is fenced stays. -/
theorem look_sev_clearErrors_of_fenced {us : List UnitId} {b : Nat} {s : State}
    (h : us.all (fun v => base v != b || isFenced s v) = true) : look (clearErrors s us).err.sev b = look s.err.sev b := by
  refine (look_dropKeys s.err.sev (fun b => us.any (fun v => base v == b && !isFenced s v)) b).trans (if_neg fun hany => ?_)
  obtain ⟨u, hmem, hgone⟩ := List.any_eq_true.mp hany
  obtain ⟨hbase, hfree⟩ := Bool.and_eq_true_iff.mp hgone
  have hkept := List.all_eq_true.mp h u hmem
  simp_all

/-! ### Readings (R631) -/

/-- One sensor's reading taken into the highest one so far. -/
def hotter (m : Nat × Nat) (x : BitVec 16 × Nat) : Nat × Nat := if m.1 < x.1.toNat then (x.1.toNat, x.2) else m

theorem hotter_ge (m : Nat × Nat) (x : BitVec 16 × Nat) : m.1 ≤ (hotter m x).1 ∧ x.1.toNat ≤ (hotter m x).1 := by
  unfold hotter
  split
  · exact ⟨by omega, Nat.le_refl _⟩
  · exact ⟨Nat.le_refl _, by omega⟩

theorem foldl_hotter_ge (l : List (BitVec 16 × Nat)) (m : Nat × Nat) :
    m.1 ≤ (l.foldl hotter m).1 ∧ ∀ x ∈ l, x.1.toNat ≤ (l.foldl hotter m).1 := by
  induction l generalizing m with
  | nil => simp
  | cons y l ih =>
    obtain ⟨hfirst, hrest⟩ := ih (hotter m y)
    obtain ⟨hm, hy⟩ := hotter_ge m y
    refine ⟨hm.trans hfirst, fun x hx => ?_⟩
    rcases List.mem_cons.mp hx with rfl | hx
    · exact hy.trans hfirst
    · exact hrest x hx

theorem le_hottest {t : List (BitVec 16)} {x : BitVec 16} (h : x ∈ t) : x.toNat ≤ (hottest t).1 := by
  obtain ⟨i, hi⟩ := List.getElem?_of_mem h
  exact (foldl_hotter_ge t.zipIdx (0, 0)).2 (x, i) (List.mem_zipIdx_iff_getElem?.mpr hi)

/-- A reading shown with the number of its sensor. -/
def tjShown (s : State) (h : Nat × Nat) : State := (s.wr 0 Reg.Hk.TJ_NOW h.1).wr 0 Reg.Hk.TJ_SENSOR h.2

/-- A reading shown, and its peak kept. -/
def tjTaken (s : State) (h : Nat × Nat) : State := (tjShown s h).wr 0 Reg.Hk.TJ_PEAK (Nat.max (s.rd 0 Reg.Hk.TJ_PEAK) h.1)

theorem exec_thermalSensorRead_of_aux {t : SensorReadings} {s : State} (h : s.boot.aux = true) : exec (.thermalSensorRead t) s =
    .next (if 1200 ≤ (hottest t).1 then
        if s.boot.hardTrip = true then tjTaken s (hottest t) else tjShown (hardTrips (tjTaken s (hottest t))) (hottest t)
      else if s.boot.hardTrip = true then tjTaken s (hottest t) else thermFollow (tjTaken s (hottest t)) (hottest t).1) := by
  have hexec : exec (.thermalSensorRead t) s = execThermalSensorRead t s := rfl
  simp only [hexec, execThermalSensorRead, h, Bool.not_true, Bool.false_eq_true, if_false, State.wr_boot]
  rfl

/-! ### The hard trip (R632, R634) -/

/-- The state from which a hard trip makes its cold state. -/
def tripStopped (s : State) : State :=
  let t := setBoot s { s.boot with hardTrip := true, lockedOut := true }
  let caused := fun (u : State) => (u.wr 0 Reg.Hk.LAST_RESET_CAUSE 5).wr 0 Reg.Hk.LAST_RESET_GROUP 0
  if s.boot.kind.isSome then lowerRails (releaseTherm (caused t))
  else lowerRails (caused (recordCause (releaseTherm (closeBypass t)) 5 0))

theorem hardTrips_eq (s : State) : hardTrips s = coldState (tripStopped s) := by
  have hkind : (setBoot s { s.boot with hardTrip := true, lockedOut := true }).boot.kind = s.boot.kind := rfl
  simp only [hardTrips, tripStopped, hkind]
  split <;> rfl

theorem tripStopped_kept (s : State) : (tripStopped s).boot.hardTrip = true ∧ (tripStopped s).boot.lockedOut = true ∧
    (tripStopped s).boot.pwrEn = [false, false, false, false] ∧ (tripStopped s).flask = s.flask ∧
    (tripStopped s).pending = s.pending ∧ (tripStopped s).now = s.now := by
  unfold tripStopped
  split <;> simp [setBoot]

theorem rd_cause_tripStopped (s : State) : (tripStopped s).rd 0 Reg.Hk.LAST_RESET_CAUSE = 5 := by
  have hcaused : ∀ u : State, ((u.wr 0 Reg.Hk.LAST_RESET_CAUSE 5).wr 0 Reg.Hk.LAST_RESET_GROUP 0).rd 0 Reg.Hk.LAST_RESET_CAUSE = 5 :=
    fun u => (State.rd_wr_apart _ _ _ (by decide)).trans (State.rd_wr_same ..)
  unfold tripStopped
  split
  · rw [State.rd, lowerRails_regs, releaseTherm_regs]
    exact hcaused _
  · rw [State.rd, lowerRails_regs]
    exact hcaused _

theorem hardTrips_leaves (s : State) (h : Nat × Nat) : let u := tjShown (hardTrips s) h
    u.boot.hardTrip = true ∧ u.boot.lockedOut = true ∧ u.boot.pwrEn = [false, false, false, false] ∧
    u.rd 0 Reg.Hk.LAST_RESET_CAUSE = 5 ∧ u.flask = flaskKept s.flask ∧ u.pending = s.pending ∧ u.now = s.now := by
  obtain ⟨htrip, hlock, hdown, hflask, hpending, hnow⟩ := tripStopped_kept s
  have hshown : ∀ c : State, (tjShown c h).boot = c.boot ∧ (tjShown c h).flask = c.flask ∧ (tjShown c h).pending = c.pending ∧
    (tjShown c h).now = c.now := fun _ => ⟨rfl, rfl, rfl, rfl⟩
  obtain ⟨hboot, hflask', hpending', hnow'⟩ := hshown (coldState (tripStopped s))
  have hcause : (tjShown (coldState (tripStopped s)) h).rd 0 Reg.Hk.LAST_RESET_CAUSE = 5 :=
    (State.rd_wr_apart _ _ _ (by decide)).trans ((State.rd_wr_apart _ _ _ (by decide)).trans
      ((rd_lastReset_coldState _ rfl (by decide)).trans (rd_cause_tripStopped s)))
  simp only [hardTrips_eq, hboot, hflask', hpending', hnow', hcause, coldState_flask, hflask, true_and]
  simp [coldState, htrip, hlock, hdown, hpending, hnow]

/-! ### Warning and stop (R631) -/

/-- The thresholds are registers that no report of a temperature writes. -/
theorem rd_thermTrip_hkEvent_deviceEvent (s : State) (code i : Nat) (d : List Nat) :
    (hkEvent (deviceEvent s code d) i).rd 0 Reg.Hk.THERM_TRIP_C = s.rd 0 Reg.Hk.THERM_TRIP_C := by
  refine (State.rd_wr_apart _ _ _ (by decide)).trans ?_
  rw [State.rd, look_deviceEvent_setup _ _ _ (by decide) (by decide), ← State.rd]

/-- Crossing a threshold of THERM_N: the pin, the event and the event bit. -/
def thermTurned (s : State) (b : Bool) (tj : Nat) : State :=
  hkEvent (deviceEvent (setTherm s b) (if b then 0x62 else 0x63) [tj, 0, 0, 0]) (if b then 0 else 1)

theorem rd_thermTrip_thermTurned (s : State) (b : Bool) (tj : Nat) :
    (thermTurned s b tj).rd 0 Reg.Hk.THERM_TRIP_C = s.rd 0 Reg.Hk.THERM_TRIP_C := rd_thermTrip_hkEvent_deviceEvent _ _ _ _

/-- What a reading makes of THERM_N. -/
def thermNoted (s : State) (tj : Nat) : State :=
  if 10 * s.rd 0 Reg.Hk.THERM_WARN_C ≤ tj ∧ s.boot.thermAsserted = false then thermTurned s true tj
  else if tj + 30 < 10 * s.rd 0 Reg.Hk.THERM_WARN_C ∧ s.boot.thermAsserted = true ∧ s.boot.thermTripped = false then
    thermTurned s false tj
  else s

theorem rd_thermTrip_thermNoted (s : State) (tj : Nat) :
    (thermNoted s tj).rd 0 Reg.Hk.THERM_TRIP_C = s.rd 0 Reg.Hk.THERM_TRIP_C := by
  unfold thermNoted
  split
  · exact rd_thermTrip_thermTurned ..
  · split
    · exact rd_thermTrip_thermTurned ..
    · rfl

theorem thermFollow_eq (s : State) (tj : Nat) : thermFollow s tj =
    if 10 * s.rd 0 Reg.Hk.THERM_TRIP_C ≤ tj then thermalStop (thermNoted s tj) tj else thermNoted s tj := by
  have hfollow : thermFollow s tj =
      if 10 * (thermNoted s tj).rd 0 Reg.Hk.THERM_TRIP_C ≤ tj then thermalStop (thermNoted s tj) tj else thermNoted s tj := by
    simp only [thermFollow, thermNoted, thermTurned, Bool.not_eq_true', if_true, Bool.false_eq_true, if_false]
  rw [hfollow, rd_thermTrip_thermNoted]

section Below
variable {s : State} {tj : Nat} (htrip : tj < 10 * s.rd 0 Reg.Hk.THERM_TRIP_C)
include htrip

theorem thermFollow_below : thermFollow s tj = thermNoted s tj := (thermFollow_eq s tj).trans (if_neg (by omega))

theorem thermFollow_warns (hwarn : 10 * s.rd 0 Reg.Hk.THERM_WARN_C ≤ tj) (hquiet : s.boot.thermAsserted = false) :
    thermFollow s tj = thermTurned s true tj := (thermFollow_below htrip).trans (if_pos ⟨hwarn, hquiet⟩)

theorem thermFollow_releases (hcool : tj + 30 < 10 * s.rd 0 Reg.Hk.THERM_WARN_C) (hasserted : s.boot.thermAsserted = true)
    (hrunning : s.boot.thermTripped = false) : thermFollow s tj = thermTurned s false tj :=
  (thermFollow_below htrip).trans ((if_neg (fun h => by omega)).trans (if_pos ⟨hcool, hasserted, hrunning⟩))

theorem thermFollow_between (h : ¬ (10 * s.rd 0 Reg.Hk.THERM_WARN_C ≤ tj ∧ s.boot.thermAsserted = false))
    (h' : ¬ (tj + 30 < 10 * s.rd 0 Reg.Hk.THERM_WARN_C ∧ s.boot.thermAsserted = true ∧ s.boot.thermTripped = false)) :
    thermFollow s tj = s := (thermFollow_below htrip).trans ((if_neg h).trans (if_neg h'))

end Below

theorem thermNoted_tripped {s : State} (tj : Nat) (hasserted : s.boot.thermAsserted = true) (htripped : s.boot.thermTripped = true) :
    thermNoted s tj = s := (if_neg (by simp [hasserted])).trans (if_neg (by simp [htripped]))

theorem thermNoted_asserted {s : State} {tj : Nat} (hasserted : s.boot.thermAsserted = true)
    (hwarn : 10 * s.rd 0 Reg.Hk.THERM_WARN_C ≤ tj) : thermNoted s tj = s :=
  (if_neg (by simp [hasserted])).trans (if_neg (fun h => by omega))

theorem thermalStop_tripped {s : State} (tj : Nat) (h : s.boot.thermTripped = true) : thermalStop s tj = s := if_pos h

theorem thermalStop_asserted {s : State} (tj : Nat) (hrunning : s.boot.thermTripped = false) (hasserted : s.boot.thermAsserted = true) :
    thermalStop s tj = hkEvent (fatalStop (setBoot s { s.boot with thermTripped := true }) .root .thermal 0 tj) 2 := by
  simp [thermalStop, hrunning, hasserted]

/-- Settles O54. A clear drops the keys that it names; a reading is shown first, and what follows of it are the cases of the two
thresholds, which no report writes; a hard trip is a cold state made of one in which the enables are down. -/
theorem errorsClearAndTemperatureActs : Obligations.ErrorsClearAndTemperatureActs := by
  unfold Obligations.ErrorsClearAndTemperatureActs
  refine ⟨?clear, fun us u s => look_sev_clearErrors_of_mem, fun us b s => look_sev_clearErrors_of_fenced, fun us s => rfl, ?noAux, ?read,
    fun t x => le_hottest, ?below, ?above, ?first, fun b s => ⟨rfl, rfl⟩, ?peak⟩
  case clear =>
    intro r s htakes hit cs
    refine ⟨congrArg _ (guarded_of_takes _ htakes), congrArg _ (guarded_of_takes _ htakes), fun u hu => ?_, fun hnone => ?_,
      _, congrArg Host.Outcome.next (guarded_of_takes _ htakes), clearAll_ends s 0 cs⟩
    · rw [exec_clrUnit_of_takes htakes, clearUnitErrors_of_unit hu]
    · rw [exec_clrUnit_of_takes htakes, clearUnitErrors_of_none hnone]
  case noAux =>
    intro t s haux
    exact if_pos (by simp [haux])
  case read =>
    intro t s haux shown
    have hexec := exec_thermalSensorRead_of_aux (t := t) haux
    refine ⟨fun htrip => ?_, fun htrip hcool => ?_, fun htrip hhot => ?_⟩
    · rw [if_pos htrip, if_pos htrip, ite_self] at hexec
      exact hexec
    · rw [if_neg (by omega), if_neg (by simp [htrip])] at hexec
      exact hexec
    · rw [if_pos hhot, if_neg (by simp [htrip])] at hexec
      obtain ⟨htrips, hlock, hdown, hcause, hflask, hpending, hnow⟩ := hardTrips_leaves (tjTaken s (hottest t)) (hottest t)
      exact ⟨_, hexec, htrips, hlock, hdown, hcause, hpending, hnow,
        (congrArg flaskKept hflask : flaskKept _ = flaskKept (flaskKept s.flask))⟩
  case below =>
    intro tj s warn htrip
    refine ⟨thermFollow_warns htrip, fun hwarn hasserted => ?_, thermFollow_releases htrip, fun hcool h => ?_⟩
    · exact thermFollow_between htrip (by simp [hasserted]) (fun h => by omega)
    · refine thermFollow_between htrip (fun hwarn => by omega) ?_
      rintro ⟨hfar, hasserted, hrunning⟩
      rcases h with h | h | h
      · omega
      · exact Bool.false_ne_true (h.symm.trans hasserted)
      · exact Bool.false_ne_true (hrunning.symm.trans h)
  case above =>
    intro tj s htrip hasserted
    have hfollow := (thermFollow_eq s tj).trans (if_pos htrip)
    refine ⟨fun htripped => ?_, fun hrunning hwarn => ?_⟩
    · rw [hfollow, thermNoted_tripped tj hasserted htripped, thermalStop_tripped tj htripped]
    · rw [hfollow, thermNoted_asserted hasserted hwarn, thermalStop_asserted tj hrunning hasserted]
  case first =>
    intro tj s htrip hwarn hquiet
    have hnoted : thermNoted s tj = thermTurned s true tj := if_pos ⟨hwarn, hquiet⟩
    exact ((thermFollow_eq s tj).trans (if_pos htrip)).trans (congrArg (thermalStop · tj) hnoted)
  case peak =>
    intro r s htakes
    exact congrArg _ (guarded_of_takes _ htakes)

end Sys2Proof.Machine
end

section
/-!
PROOFS. Meters and shapers (R504, R505, R507, R515, R517, R518): the arithmetic of a refill, the installation of committed values, and
the clear actions of the banks.
-/
namespace Sys2Proof.Machine

/-! ### Refills (R504, R505) -/

theorem refillBucket_notDue {s : State} {x : BucketRef} (h : applyDue (setBuckets s x (refilled s x)) x = false) :
    refillBucket s x = setBuckets s x (refilled s x) := if_neg (Bool.eq_false_iff.mp h)

theorem refillBucket_due {s : State} {x : BucketRef} (h : applyDue (setBuckets s x (refilled s x)) x = true) :
    refillBucket s x = applyBucket (setBuckets s x (refilled s x)) x := if_pos h

/-- A bucket at `k` refilled by `d` up to `size` stays within its size, gains all where that fits, and loses nothing it could hold. -/
theorem refill_bounds (k : Int) (d : Nat) (size : Int) : min (k + d) size ≤ size ∧ (k + d ≤ size → min (k + d) size = k + d) ∧
    (k ≤ size → k ≤ min (k + d) size) :=
  ⟨min_le_right _ _, min_eq_left, fun h => le_min (by omega) h⟩

/-! ### Installation (R505, R507) -/

/-- The entry with its staged values in force. -/
def entryInstalled (s : State) (x : BucketRef) : State :=
  { s with regs := (stagedEntry s x).foldl (fun m kv => put m kv.1 kv.2) s.regs }

/-- Both buckets of an entry full. -/
def fullBuckets (s : State) (x : BucketRef) : Buckets :=
  { tc := (s.rd x.entry x.cbs : Int) * 8000, tp := (s.rd x.entry x.pbs : Int) * 8000 }

/-- Both buckets clipped to their sizes. -/
def clipped (s : State) (x : BucketRef) : Buckets :=
  { tc := min (bucketsOf s x).tc (fullBuckets s x).tc, tp := min (bucketsOf s x).tp (fullBuckets s x).tp }

/-- The buckets after the installation: full where EN goes from 0 to 1, else clipped. -/
def installedBuckets (s : State) (x : BucketRef) : Buckets :=
  if (!s.on x.entry x.en && (entryInstalled s x).on x.entry x.en) = true then fullBuckets (entryInstalled s x) x
  else clipped (entryInstalled s x) x

theorem installedBuckets_le (s : State) (x : BucketRef) :
    (installedBuckets s x).tc ≤ (fullBuckets (entryInstalled s x) x).tc ∧
    (installedBuckets s x).tp ≤ (fullBuckets (entryInstalled s x) x).tp := by
  unfold installedBuckets
  split
  · exact ⟨le_refl _, le_refl _⟩
  · exact ⟨min_le_right _ _, min_le_right _ _⟩

theorem installedBuckets_turnedOn {s : State} {x : BucketRef} (hoff : s.on x.entry x.en = false)
    (hon : (entryInstalled s x).on x.entry x.en = true) : installedBuckets s x = fullBuckets (entryInstalled s x) x :=
  if_pos (by simp [hoff, hon])

theorem applyBucket_good {s : State} {x : BucketRef} (h : bucketConfigGood s x = true) :
    applyBucket s x = dropStagedEntry (setBuckets (entryInstalled s x) x (installedBuckets s x)) x := if_pos h

theorem applyBucket_bad {s : State} {x : BucketRef} (h : bucketConfigGood s x = false) :
    applyBucket s x = dropStagedEntry (configError s x.unit) x := if_neg (Bool.eq_false_iff.mp h)

theorem setBuckets_police (s : State) (x : BucketRef) (b : Buckets) :
    (setBuckets s x b).police = { s.police with buckets := put s.police.buckets x.key b } := by
  simp only [setBuckets]
  split <;> rfl

@[simp] theorem bucketsOf_setBuckets (s : State) (x : BucketRef) (b : Buckets) : bucketsOf (setBuckets s x b) x = b := by
  rw [bucketsOf, setBuckets_police]
  exact lookD_put_same ..

theorem setBuckets_frame (s : State) (x : BucketRef) (b : Buckets) :
    { setBuckets s x b with regs := s.regs, police := s.police } = s := by
  simp only [setBuckets]
  split <;> rfl

/-- The configuration fields of a meter and of a shaper. -/
def bucketFields (x : BucketRef) : List Field := [x.cbs, x.pbs, x.en]

/-- The words in which a shaper shows its buckets hold no field of its configuration. -/
theorem rd_setBuckets {m : Fin 16384} {i : ShaperId} {x : BucketRef} (hx : x ∈ [meterRef m.val, shaperRef i]) (s : State)
    (b : Buckets) {f : Field} (hf : f ∈ bucketFields x) : (setBuckets s x b).rd x.entry f = s.rd x.entry f := by
  rw [List.mem_pair] at hx
  rcases hx with rfl | rfl
  · simp only [setBuckets]
    rw [if_pos (show (meterRef m.val).key < 16384 from m.isLt)]
    rfl
  · have hkey : ¬ (shaperRef i).key < 16384 := by
      cases i with
      | inj i => simp [shaperRef, shaperAt]
      | egress n k =>
        simp only [shaperRef, shaperAt]
        omega
    have hapart : ∀ f ∈ [Reg.Shp.CBS_BYTES, Reg.Shp.PBS_BYTES, Reg.Shp.EN],
        (((f.off, f.lo) ≠ (Reg.Shp.TP_BYTES.off, Reg.Shp.TP_BYTES.lo) ∧ Reg.Shp.TP_BYTES.lo < 32) ∧ f.lo < 32) ∧
        (((f.off, f.lo) ≠ (Reg.Shp.TC_BYTES.off, Reg.Shp.TC_BYTES.lo) ∧ Reg.Shp.TC_BYTES.lo < 32) ∧ f.lo < 32) := by decide
    have hfields : bucketFields (shaperRef i) = [Reg.Shp.CBS_BYTES, Reg.Shp.PBS_BYTES, Reg.Shp.EN] := by cases i <;> rfl
    obtain ⟨htp, htc⟩ := hapart f (hfields ▸ hf)
    simp only [setBuckets, if_neg hkey]
    exact (State.rd_wr_apart _ _ _ htp).trans (State.rd_wr_apart _ _ _ htc)

/-- A good configuration is installed with each bucket within its new size, and full where EN goes from 0 to 1. -/
theorem applyBucket_installs {m : Fin 16384} {i : ShaperId} {x : BucketRef} {s : State} (hx : x ∈ [meterRef m.val, shaperRef i])
    (hgood : bucketConfigGood s x = true) : ∃ t, applyBucket s x = dropStagedEntry t x ∧
    (bucketsOf t x).tc ≤ (t.rd x.entry x.cbs : Int) * 8000 ∧ (bucketsOf t x).tp ≤ (t.rd x.entry x.pbs : Int) * 8000 ∧
    (s.on x.entry x.en = false → t.on x.entry x.en = true → bucketsOf t x =
      { tc := (t.rd x.entry x.cbs : Int) * 8000, tp := (t.rd x.entry x.pbs : Int) * 8000 }) ∧
    { t with regs := s.regs, police := s.police } = s := by
  have hread := fun {f} => rd_setBuckets hx (entryInstalled s x) (installedBuckets s x) (f := f)
  have hcbs := hread (f := x.cbs) (by simp [bucketFields])
  have hpbs := hread (f := x.pbs) (by simp [bucketFields])
  have hen : (setBuckets (entryInstalled s x) x (installedBuckets s x)).on x.entry x.en = (entryInstalled s x).on x.entry x.en :=
    congrArg (· != 0) (hread (f := x.en) (by simp [bucketFields]))
  obtain ⟨htc, htp⟩ := installedBuckets_le s x
  refine ⟨_, applyBucket_good hgood, ?_⟩
  rw [bucketsOf_setBuckets, hcbs, hpbs, hen]
  exact ⟨htc, htp, fun hoff hon => installedBuckets_turnedOn hoff hon,
    congrArg (fun t : State => { t with regs := s.regs, police := s.police })
      (setBuckets_frame (entryInstalled s x) x (installedBuckets s x))⟩

/-! ### Packets held by a meter (R510) -/

/-- A channel whose packet the meter `m` held may test it again. -/
def unheld (m : Nat) (x : ChanSt) : ChanSt := if x.mtWait = some m then { x with mtWait := none } else x

theorem unheld_mtWait (m : Nat) (x : ChanSt) : (unheld m x).mtWait ≠ some m := by
  unfold unheld
  split
  · simp
  · assumption

theorem heldAgain_frees (m : Nat) (s : State) : (∀ kv ∈ (heldAgain s m).tp.chans, kv.2.mtWait ≠ some m) ∧
    ∃ l, heldAgain s m = { s with tp := { s.tp with chans := l } } ∧ l.map Prod.fst = s.tp.chans.map Prod.fst := by
  refine ⟨fun kv hkv => ?_, s.tp.chans.map (fun kv => (kv.1, unheld m kv.2)), rfl, by simp⟩
  obtain ⟨old, -, rfl⟩ := List.mem_map.mp hkv
  exact unheld_mtWait m old.2

/-! ### Clear actions (R515, R517, R518) -/

/-- The register fields of these keys put back at their reset values, and nothing else changed. -/
theorem rd_dropRegs {s : State} {p : Nat → Bool} {b : Nat} {f : Field} (h : p (f.key b) = true) :
    ({ s with regs := dropKeys s.regs p } : State).rd b f = f.reset := by
  rw [State.rd, look_dropKeys, if_pos h, Option.getD_none]

theorem look_dropRegs {m : AMap Nat} {p : Nat → Bool} {k : Nat} (h : p k = false) : look (dropKeys m p) k = look m k :=
  (look_dropKeys m p k).trans (if_neg (Bool.eq_false_iff.mp h))

/-- The counters of the meters lie at these keys of the bank. -/
def meterCounter (k : Nat) : Bool :=
  base .meterBank ≤ k / 32 && 0x80000 ≤ k / 32 - base .meterBank && k / 32 - base .meterBank < 0x80000 + 32 * 16384 &&
    0x14 ≤ (k / 32 - base .meterBank) % 32 && (k / 32 - base .meterBank) % 32 ≤ 0x1C

/-- The meter bank's counters cleared. -/
def metersCleared (s : State) : State :=
  let t := s.wr (base .meterBank) Reg.Mb.INJ_HOLD_CNT 0
  { t with regs := dropKeys t.regs meterCounter }

theorem meterCounter_key {m : Nat} (hm : m < 16384) {f : Field} (hlow : 0x80014 ≤ f.off) (hhigh : f.off ≤ 0x8001C) (hlo : f.lo < 32) :
    meterCounter (f.key (meterRef m).entry) = true := by
  have hword : f.key (meterRef m).entry / 32 = base .meterBank + 32 * m + f.off := by
    simp only [Field.key, meterRef]
    omega
  simp only [meterCounter, hword, Bool.and_eq_true, decide_eq_true_eq]
  omega

theorem meterCounter_injHold : meterCounter (Reg.Mb.INJ_HOLD_CNT.key (base .meterBank)) = false := by decide

theorem not_meterCounter {k : Nat} (h : k / 32 < base .meterBank + 0x80000 ∨ base .meterBank + 0x100000 ≤ k / 32 ∨
    (k / 32 - base .meterBank) % 32 < 0x14 ∨ 0x1C < (k / 32 - base .meterBank) % 32) : meterCounter k = false := by
  simp only [meterCounter, Bool.and_eq_false_iff, decide_eq_false_iff_not]
  omega

/-- The counters of the injection shapers lie at these keys of the bank. -/
def injCounter (k : Nat) : Bool :=
  base .injShaper ≤ k / 32 && 0x10000 ≤ k / 32 - base .injShaper && k / 32 - base .injShaper < 0x10000 + 32 * 4096 &&
    (k / 32 - base .injShaper) % 32 == 0x14

theorem injCounter_key (i : Fin 4096) : injCounter (Reg.Shp.SHAPED_CNT.key (shaperRef (.inj i)).entry) = true := by
  have hword : Reg.Shp.SHAPED_CNT.key (shaperRef (.inj i)).entry / 32 = base .injShaper + 0x10000 + 32 * i.val + 0x14 := by
    simp only [Field.key, shaperRef, shaperAt, Reg.Shp.SHAPED_CNT, fld]
    omega
  simp only [injCounter, hword, Bool.and_eq_true, decide_eq_true_eq, beq_iff_eq]
  omega

theorem not_injCounter {k : Nat} (h : k / 32 < base .injShaper + 0x10000 ∨ base .injShaper + 0x30000 ≤ k / 32 ∨
    (k / 32 - base .injShaper) % 32 ≠ 0x14) : injCounter k = false := by
  simp only [injCounter, Bool.and_eq_false_iff, decide_eq_false_iff_not, beq_eq_false_iff_ne]
  omega

/-- The windows of a port's three shapers. -/
theorem egressClear_clears (n : Fin 96) (s : State) :
    Clears (fun k => ∃ j ∈ List.range 3, k = Reg.Shp.SHAPED_CNT.key (base (.egressShaper n) + 0x100 + 32 * j)) s
      ((List.range 3).foldl (fun t j => t.wr (base (.egressShaper n) + 0x100 + 32 * j) Reg.Shp.SHAPED_CNT 0) s) :=
  Clears.foldl (fun t j => Clears.wr t (base (.egressShaper n) + 0x100 + 32 * j) Reg.Shp.SHAPED_CNT) (List.range 3) s

/-- Settles O45. A refill is its bounded sum, then the commit where one is due; an installation reads its sizes where the buckets are
not shown; the clear actions drop or zero the keys of their counters. -/
theorem refillsAddTokensUpToTheBucketSize : Obligations.RefillsAddTokensUpToTheBucketSize := by
  unfold Obligations.RefillsAddTokensUpToTheBucketSize
  refine ⟨?meter, ?shaper, fun x s => ⟨refillBucket_notDue, refillBucket_due⟩, ?bounds, fun m i x s hx =>
    ⟨applyBucket_bad, applyBucket_installs hx⟩, heldAgain_frees, ?clrMeters, ?clrInj, ?clrEgress⟩
  case meter =>
    intro m s
    exact ⟨fun h => congrArg _ (if_pos h), fun h => congrArg _ (if_neg (Bool.eq_false_iff.mp h))⟩
  case shaper =>
    intro x s
    exact ⟨fun h => congrArg _ (if_pos h), fun h => congrArg _ (if_neg (Bool.eq_false_iff.mp h))⟩
  case bounds =>
    intro x s
    obtain ⟨htc, hctc, hktc⟩ := refill_bounds (bucketsOf s x).tc (s.rd x.entry x.cir * (s.rd x.entry x.refill * 64))
      ((s.rd x.entry x.cbs : Int) * 8000)
    obtain ⟨htp, hctp, hktp⟩ := refill_bounds (bucketsOf s x).tp (s.rd x.entry x.pir * (s.rd x.entry x.refill * 64))
      ((s.rd x.entry x.pbs : Int) * 8000)
    exact ⟨htc, htp, hctc, hctp, hktc, hktp⟩
  case clrMeters =>
    intro r s htakes
    refine ⟨metersCleared s, congrArg Host.Outcome.next (guarded_of_takes _ htakes), ?_, fun m hm => ?_, fun k hk hout => ?_, rfl⟩
    · rw [State.rd, metersCleared, look_dropRegs meterCounter_injHold, ← State.rd, State.rd_wr_same, Nat.zero_mod]
    · exact ⟨rd_dropRegs (meterCounter_key hm (by decide) (by decide) (by decide)),
        rd_dropRegs (meterCounter_key hm (by decide) (by decide) (by decide)),
        rd_dropRegs (meterCounter_key hm (by decide) (by decide) (by decide))⟩
    · exact (look_dropRegs (not_meterCounter hout)).trans (State.look_wr_other _ _ _ _ _ hk)
  case clrInj =>
    intro r s htakes
    exact ⟨{ s with regs := dropKeys s.regs injCounter }, congrArg Host.Outcome.next (guarded_of_takes _ htakes),
      fun i => rd_dropRegs (injCounter_key i), fun k hout => look_dropRegs (not_injCounter hout), rfl⟩
  case clrEgress =>
    intro r n s htakes
    have hclears := egressClear_clears n s
    refine ⟨_, congrArg Host.Outcome.next (guarded_of_takes _ htakes), fun k => hclears.rd_zero ⟨k.val, List.mem_range.mpr k.isLt, rfl⟩,
      hclears.regsOnly, fun k hk => hclears.other k ?_⟩
    rintro ⟨j, hj, rfl⟩
    exact hk (List.mem_map.mpr ⟨⟨j, List.mem_range.mp hj⟩, by have := List.mem_range.mp hj; interval_cases j <;> simp, rfl⟩)

end Sys2Proof.Machine
end

section
/-!
PROOFS. On-die agents (R477, R479, R485, R487): what a local operation does by the state of its line, and how a delivered snoop or
message is taken.
-/
namespace Sys2Proof.Machine

/-- With no new fence nothing falls. -/
theorem fencing_self (s : State) : fencing s s = s := by
  have hnone : (s.setup.fenced.filter (fun u => !(s.setup.fenced.contains u))) = [] :=
    List.filter_eq_nil_iff.mpr (fun u hu => by simp [hu])
  simp only [fencing, settleFences, hnone]
  rfl

/-! ### Local operations (R485) -/

/-- The states in which a load finds its data. -/
theorem localOp_load_hit {c : CLine} (s : State) (a line : Nat)
    (h : c.st ∈ [LineState.sh, .e, .m, .o, .smAD, .smA, .omAC, .omA]) : localOp s a line c .load = hit s a line c := by
  simp only [List.mem_cons, List.not_mem_nil, or_false] at h
  rcases h with h | h | h | h | h | h | h | h <;> simp only [localOp, h]

/-- The states in which a load waits. -/
theorem localOp_load_held {c : CLine} (s : State) (a line : Nat)
    (h : c.st ∈ [LineState.isD, .isDI, .imAD, .imA, .miA, .oiA, .siA, .iiA]) :
    localOp s a line c .load = setLine s a line { c with held := c.held ++ [.load] } := by
  simp only [List.mem_cons, List.not_mem_nil, or_false] at h
  rcases h with h | h | h | h | h | h | h | h <;> simp only [localOp, h]

/-- A transient state holds stores and replacements. -/
theorem localOp_held {c : CLine} (s : State) (a line : Nat) (h : c.st ∉ [LineState.i, .sh, .e, .m, .o]) {op : LineOp}
    (hop : op ≠ .load) : localOp s a line c op = setLine s a line { c with held := c.held ++ [op] } := by
  simp only [List.mem_cons, List.not_mem_nil, or_false, not_or] at h
  obtain ⟨hi, hsh, he, hm, ho⟩ := h
  cases op with
  | load => exact absurd rfl hop
  | store off b => cases hst : c.st <;> simp only [localOp, hst] <;> contradiction
  | replace => cases hst : c.st <;> simp only [localOp, hst] <;> contradiction

/-- A line in E or M takes a store. -/
theorem localOp_store_hit {c : CLine} (s : State) (a line off : Nat) (b : List Byte) (h : c.st = .e ∨ c.st = .m) :
    localOp s a line c (.store off b) = setLine s a line { c.store off b with st := .m } := by
  rcases h with h | h <;> simp only [localOp, h]

/-- The request that an operation turns into, held back while the line drains (R487). -/
def askLine (s : State) (a line : Nat) (c : CLine) (k : HomeKind) (st : LineState) (op : LineOp) : State :=
  if draining s a line then setLine s a line { c with held := c.held ++ [op] }
  else agentAsk (setLine s a line { c with st := st, a := 0, op := some op }) a line k

theorem localOp_load_asks {c : CLine} (s : State) (a line : Nat) (h : c.st = .i) :
    localOp s a line c .load = askLine s a line c .rdShared .isD .load := by simp only [localOp, h, askLine]

theorem localOp_store_asks {c : CLine} (s : State) (a line off : Nat) (b : List Byte) {st st' : LineState} (h : c.st = st)
    (hst : (st, st') ∈ [(LineState.i, LineState.imAD), (.sh, .smAD), (.o, .omAC)]) :
    localOp s a line c (.store off b) = askLine s a line c .rdOwn st' (.store off b) := by
  simp only [List.mem_cons, List.not_mem_nil, or_false, Prod.mk.injEq] at hst
  rcases hst with ⟨rfl, rfl⟩ | ⟨rfl, rfl⟩ | ⟨rfl, rfl⟩ <;> simp only [localOp, h, askLine]

/-- What a replacement writes back, by the state of the line. -/
theorem localOp_replace_back {c : CLine} (s : State) (a line : Nat) {st st' : LineState} {k : WbKind} {data : Bool} (h : c.st = st)
    (hst : (st, k, st', data) ∈ [(LineState.sh, WbKind.evict, LineState.siA, false), (.e, .wbClean, .miA, false),
      (.m, .wbMod, .miA, true), (.o, .wbMod, .oiA, true)]) :
    localOp s a line c .replace = agentWb (setLine s a line { c with st := st', wb := data }) a line k c := by
  simp only [List.mem_cons, List.not_mem_nil, or_false, Prod.mk.injEq] at hst
  rcases hst with ⟨rfl, rfl, rfl, rfl⟩ | ⟨rfl, rfl, rfl, rfl⟩ | ⟨rfl, rfl, rfl, rfl⟩ | ⟨rfl, rfl, rfl, rfl⟩ <;>
    simp only [localOp, h] <;> rfl

theorem localOp_replace_invalid {c : CLine} (s : State) (a line : Nat) (h : c.st = .i) : localOp s a line c .replace = s := by
  simp only [localOp, h]

theorem next_askLine (s : State) (a line : Nat) (c : CLine) (k : HomeKind) (st : LineState) (op : LineOp) :
    (Host.Outcome.next (askLine s a line c k st op) : Host.Outcome State Fault Refusal) =
      if draining s a line = true then .next (setLine s a line { c with held := c.held ++ [op] })
      else .next (agentAsk (setLine s a line { c with st := st, a := 0, op := some op }) a line k) := apply_ite ..

/-! ### Service-mode answers (R477) -/

section
variable {c : CLine}

theorem serviceAnswer_shared (h : c.st = .sh) : serviceAnswer c .inv = (.i, { c with st := .i }) ∧
    serviceAnswer c .shr = (.s, c) ∧ serviceAnswer c .cur = (.s, c) := by
  cases c; cases h; exact ⟨rfl, rfl, rfl⟩

theorem serviceAnswer_upgrading (h : c.st = .smAD) : serviceAnswer c .inv = (.i, { c with st := .imAD }) ∧
    serviceAnswer c .shr = (.s, c) ∧ serviceAnswer c .cur = (.s, c) := by
  cases c; cases h; exact ⟨rfl, rfl, rfl⟩

theorem serviceAnswer_exclusive (h : c.st = .e) : serviceAnswer c .inv = (.i, { c with st := .i }) ∧
    serviceAnswer c .shr = (.s, { c with st := .sh }) ∧ serviceAnswer c .cur = (.cur, c) := by
  cases c; cases h; exact ⟨rfl, rfl, rfl⟩

theorem serviceAnswer_modified (h : c.st = .m) : serviceAnswer c .inv = (.iData, { c with st := .i }) ∧
    serviceAnswer c .shr = (.sData, { c with st := .sh }) ∧ serviceAnswer c .cur = (.curData, c) := by
  cases c; cases h; exact ⟨rfl, rfl, rfl⟩

theorem serviceAnswer_writingBack (k : SnpKind) (h : c.st = .miA) : serviceAnswer c k = (if c.wb = true then .iWb else .i, c) := by
  obtain ⟨_, _, _, _, _, _, _, _ | _⟩ := c <;> cases h <;> rfl

theorem serviceAnswer_invalid (k : SnpKind) (h : c.st ∈ [LineState.i, .isD, .isDI, .imAD, .siA, .iiA]) :
    serviceAnswer c k = (.i, c) := by
  obtain ⟨st, _, _, _, _, _, _, _⟩ := c
  simp only [List.mem_cons, List.not_mem_nil, or_false] at h
  rcases h with rfl | rfl | rfl | rfl | rfl | rfl <;> rfl

end

/-! ### Messages to an agent -/

theorem withMessage_taken {s t : State} {a line : Nat} {f : State → AgentMsg → Option State} {m : AgentMsg} (hacts : agentActs s a = true)
    (hfind : s.mesh.toAgent.find? (fun x => x.1 == a && x.2.1 == line) = some (a, line, m))
    (hf : f { s with mesh := { s.mesh with toAgent := s.mesh.toAgent.erase (a, line, m) } } m = some t) :
    withMessage s a line f = t := by
  simp only [withMessage, hfind, hacts, if_true, hf, Option.getD_some]

theorem withMessage_left {s : State} {a line : Nat} {f : State → AgentMsg → Option State} {m : AgentMsg}
    (hfind : s.mesh.toAgent.find? (fun x => x.1 == a && x.2.1 == line) = some (a, line, m))
    (hf : f { s with mesh := { s.mesh with toAgent := s.mesh.toAgent.erase (a, line, m) } } m = none) : withMessage s a line f = s := by
  simp only [withMessage, hfind, hf, Option.getD_none, ite_self]

theorem withMessage_idle {s : State} {a line : Nat} {f : State → AgentMsg → Option State}
    (h : agentActs s a = false ∨ s.mesh.toAgent.any (fun x => x.1 == a && x.2.1 == line) = false) : withMessage s a line f = s := by
  rcases h with h | h
  · cases hfind : s.mesh.toAgent.find? (fun x => x.1 == a && x.2.1 == line) with
    | none => simp only [withMessage, hfind]
    | some x => simp only [withMessage, hfind, h, Bool.false_eq_true, if_false]
  · have hnone : s.mesh.toAgent.find? (fun x => x.1 == a && x.2.1 == line) = none :=
      List.find?_eq_none.mpr (List.any_eq_false.mp h)
    simp only [withMessage, hnone]

/-- A message that its command takes is acted on, and fences fall. -/
theorem next_withMessage_taken {s t : State} {a line : Nat} {f : State → AgentMsg → Option State} {m : AgentMsg}
    (hacts : agentActs s a = true) (hfind : s.mesh.toAgent.find? (fun x => x.1 == a && x.2.1 == line) = some (a, line, m))
    (hf : f { s with mesh := { s.mesh with toAgent := s.mesh.toAgent.erase (a, line, m) } } m = some t) :
    (Host.Outcome.next (fencing s (withMessage s a line f)) : Host.Outcome State Fault Refusal) = .next (fencing s t) :=
  congrArg (fun u => Host.Outcome.next (fencing s u)) (withMessage_taken hacts hfind hf)

theorem next_withMessage_same {s : State} {a line : Nat} {f : State → AgentMsg → Option State} (h : withMessage s a line f = s) :
    (Host.Outcome.next (fencing s (withMessage s a line f)) : Host.Outcome State Fault Refusal) = .next s :=
  congrArg Host.Outcome.next (h.symm ▸ fencing_self s)

/-! ### Pairs that the table does not list (R485, R51) -/

/-- A stable line awaits no message of a transaction: its agent fences itself. -/
theorem stable_faults {s : State} {a line : Nat} (n : Nat) (d : List Byte) (bad : Bool)
    (h : (lineOfAgent s a line).st ∈ [LineState.i, .sh, .e, .m, .o]) :
    takeData s a line n d bad = agentFault s a line ∧ takeInvAck s a line = agentFault s a line ∧
    takeGntM s a line n = agentFault s a line ∧ takeCmp s a line = agentFault s a line ∧
    ∀ x : Bool, takeGrant s a line x (some d) bad = agentFault s a line := by
  simp only [List.mem_cons, List.not_mem_nil, or_false] at h
  rcases h with h | h | h | h | h <;>
    simp only [takeData, takeInvAck, takeGntM, takeCmp, takeGrant, h, implies_true, and_self]

/-- Settles O43. Each row is read off the table of the operation, snoop or message it names. -/
theorem agentsFollowTheirTable : Obligations.AgentsFollowTheirTable := by
  unfold Obligations.AgentsFollowTheirTable
  refine ⟨?answers, ?snoop, ?noSnoop, ?messages, ?idle, ?deadOps, ?ops, fun s a line n d bad h => stable_faults n d bad h⟩
  case answers =>
    intro c
    exact ⟨serviceAnswer_shared, serviceAnswer_upgrading, serviceAnswer_exclusive, serviceAnswer_modified,
      fun k => serviceAnswer_writingBack k, fun k => serviceAnswer_invalid k⟩
  case snoop =>
    intro a line x s hfind
    refine ⟨fun hacts => ?_, fun hacts => ?_⟩
    · simp only [exec, execAgentSnoop, hfind, hacts, if_true, Bool.and_eq_true, decide_eq_true_eq]
    · simp only [exec, execAgentSnoop, hfind, hacts, Bool.false_eq_true, if_false]
  case noSnoop =>
    intro a line s hnone
    simp only [exec, execAgentSnoop]
    split
    · rfl
    · rename_i x hfind
      have hx := List.find?_some hfind
      simp only [Bool.and_eq_true, beq_iff_eq] at hx
      obtain ⟨⟨hagent, hline⟩, hkind⟩ := hx
      exact absurd hkind (Bool.eq_false_iff.mp (hnone x (List.mem_of_find?_eq_some hfind) hagent hline))
  case messages =>
    intro a line m s hacts hfind
    refine ⟨fun d b hm => ?_, fun d b hm => ?_, fun hm => ?_, fun n d b hm => ?_, fun hm => ?_, fun n hm => ?_⟩ <;> subst hm
    · exact next_withMessage_taken hacts hfind rfl
    · exact next_withMessage_taken hacts hfind rfl
    · exact ⟨next_withMessage_taken hacts hfind rfl, next_withMessage_same (withMessage_left hfind rfl)⟩
    · exact ⟨next_withMessage_taken hacts hfind rfl, next_withMessage_same (withMessage_left hfind rfl)⟩
    · exact ⟨next_withMessage_taken hacts hfind rfl, next_withMessage_same (withMessage_left hfind rfl)⟩
    · exact ⟨next_withMessage_taken hacts hfind rfl, next_withMessage_same (withMessage_left hfind rfl)⟩
  case idle =>
    intro a line i s hi h
    simp only [List.mem_cons, List.not_mem_nil, or_false] at hi
    rcases hi with rfl | rfl | rfl | rfl | rfl <;> exact next_withMessage_same (withMessage_idle h)
  case deadOps =>
    intro a line off b s hacts
    have hoff := Bool.eq_false_iff.mp hacts
    exact ⟨congrArg _ (if_neg hoff), congrArg _ (if_neg hoff), congrArg _ (if_neg hoff)⟩
  case ops =>
    intro a line off b s hacts
    have hload : exec (.agentLoad a line) s = .next (localOp s a.val line.toNat (lineOfAgent s a.val line.toNat) .load) :=
      congrArg _ (if_pos hacts)
    have hstore : exec (.agentStore a line off b) s =
        .next (localOp s a.val line.toNat (lineOfAgent s a.val line.toNat) (.store off.val b)) := congrArg _ (if_pos hacts)
    have hreplace : exec (.agentReplace a line) s = .next (localOp s a.val line.toNat (lineOfAgent s a.val line.toNat) .replace) :=
      congrArg _ (if_pos hacts)
    simp only [hload, hstore, hreplace]
    generalize lineOfAgent s a.val line.toNat = c
    refine ⟨fun h => congrArg _ (localOp_load_hit _ _ _ h), fun h => ?_, fun h => congrArg _ (localOp_load_held _ _ _ h),
      fun h => congrArg _ (localOp_store_hit _ _ _ _ _ h), fun h => ?_, fun h => ?_, fun h => ?_, fun h =>
      ⟨congrArg _ (localOp_held _ _ _ h (by simp)), congrArg _ (localOp_held _ _ _ h (by simp))⟩,
      fun h => congrArg _ (localOp_replace_invalid _ _ _ h), fun h => ?_, fun h => ?_, fun h => ?_, fun h => ?_⟩
    · exact (congrArg _ (localOp_load_asks _ _ _ h)).trans (next_askLine ..)
    · exact (congrArg _ (localOp_store_asks _ _ _ _ _ h (by simp))).trans (next_askLine ..)
    · exact (congrArg _ (localOp_store_asks _ _ _ _ _ h (by simp))).trans (next_askLine ..)
    · exact (congrArg _ (localOp_store_asks _ _ _ _ _ h (by simp))).trans (next_askLine ..)
    · exact congrArg _ (localOp_replace_back _ _ _ h (by simp))
    · exact congrArg _ (localOp_replace_back _ _ _ h (by simp))
    · exact congrArg _ (localOp_replace_back _ _ _ h (by simp))
    · exact congrArg _ (localOp_replace_back _ _ _ h (by simp))

end Sys2Proof.Machine
end

section
/-!
PROOFS. Careful mode (R481, R483, R487), the recovery of dead agents (R489 to R491) and the built-in coherence test (R488, R587).
-/
namespace Sys2Proof.Machine

/-! ### The mode of a slice (R501) -/

/-- A slice's window is read apart from every other field of it. -/
theorem sliceMode_wr_apart (s : State) (i v : Nat) {f : Field}
    (h : (((Reg.Slc.SLICE_MODE.off, Reg.Slc.SLICE_MODE.lo) ≠ (f.off, f.lo) ∧ f.lo < 32) ∧ Reg.Slc.SLICE_MODE.lo < 32)) :
    sliceMode (s.wr (sliceBase i) f v) i = sliceMode s i := State.rd_wr_apart s (sliceBase i) v h

theorem sliceMode_wr_same (s : State) (i : Nat) {m : Nat} (h : m < 4) : sliceMode (s.wr (sliceBase i) Reg.Slc.SLICE_MODE m) i = m :=
  (State.rd_wr_same ..).trans (Nat.mod_eq_of_lt h)

/-- The state with MODE, MODE_REASON and the event bit of a slice written. -/
def modeShown (s : State) (i m n : Nat) : State :=
  ((s.wr (sliceBase i) Reg.Slc.SLICE_MODE m).wr (sliceBase i) Reg.Slc.MODE_REASON n).setEvt (sliceBase i) Reg.Slc.SLICE_EVENT 0

theorem sliceMode_modeShown (s : State) (i n : Nat) {m : Nat} (h : m < 4) : sliceMode (modeShown s i m n) i = m := by
  rw [modeShown, State.setEvt, sliceMode_wr_apart _ _ _ (by decide), sliceMode_wr_apart _ _ _ (by decide), sliceMode_wr_same _ _ h]

/-- The slice, its waiting requests marked as those that careful mode holds. -/
def heldMarked (x : SliceSt) (m : Nat) : SliceSt :=
  { x with ing := x.ing.map (fun q => { q with held := q.held || (m != 0 && q.holds) }) }

theorem setMode_eq (s : State) (i m n : Nat) :
    setMode s i m n = showHeld ((modeShown s i m n).setSlice i (heldMarked (s.slice i) m)) i := rfl

theorem sliceMode_showHeld (s : State) (i : Nat) : sliceMode (showHeld s i) i = sliceMode s i := sliceMode_wr_apart s i _ (by decide)

theorem slice_showHeld_setSlice (s : State) (i : Nat) (x : SliceSt) : (showHeld (s.setSlice i x) i).slice i = x := lookD_put_same ..

theorem setMode_frame (s : State) (i m n : Nat) : { setMode s i m n with regs := s.regs, mesh := s.mesh } = s := rfl

/-- A slice has no busy entry exactly when no busy line is its own. -/
theorem busyUsed_eq_zero {s : State} {i : Nat} (h : ∀ kv ∈ s.mesh.busy, lineSlice kv.1 ≠ i) : busyUsed s i = 0 :=
  List.length_eq_zero_iff.mpr (List.filter_eq_nil_iff.mpr (fun kv hkv => by simp [h kv hkv]))

/-! ### The drain's answers (R487) -/

section
variable {a : Fin 80} {i : Fin 48} {s : State}

theorem exec_agentSnpdrain_idle (h : ∀ x ∈ s.mesh.snps, x.agent = a.val → x.kind ≠ .drain i.val) :
    exec (.agentSnpdrain a i) s = .next s := by
  have hnone : s.mesh.snps.find? (fun x => x.agent == a.val && x.kind == .drain i.val) = none :=
    List.find?_eq_none.mpr (fun x hx hmine => by
      simp only [Bool.and_eq_true, beq_iff_eq] at hmine
      exact h x hx hmine.1 hmine.2)
  simp only [exec, execAgentSnpdrain, hnone]

theorem exec_rspdrain_dead (hsent : s.mesh.toHome.contains (.drained a.val i.val) = true) (hdead : isDead s a.val = true) :
    exec (.rspdrain a i) s = .next (slBump { s with mesh := { s.mesh with
      toHome := s.mesh.toHome.erase (.drained a.val i.val) } } i.val Reg.Slc.DEAD_MSG_CNT) :=
  (if_neg (by rw [hsent]; decide)).trans (if_pos hdead)

theorem exec_rspdrain_alive (hsent : s.mesh.toHome.contains (.drained a.val i.val) = true) (hdead : isDead s a.val = false) :
    exec (.rspdrain a i) s = .next (
      if sliceMode s i.val = 3 ∧ ((s.slice i.val).drains.erase a.val).isEmpty then
        enterService (State.setSlice { s with mesh := { s.mesh with toHome := s.mesh.toHome.erase (.drained a.val i.val) } } i.val
          { s.slice i.val with drains := (s.slice i.val).drains.erase a.val }) i.val
      else State.setSlice { s with mesh := { s.mesh with toHome := s.mesh.toHome.erase (.drained a.val i.val) } } i.val
          { s.slice i.val with drains := (s.slice i.val).drains.erase a.val }) :=
  (if_neg (by rw [hsent]; decide)).trans (if_neg (Bool.eq_false_iff.mp hdead))

end

/-- What falls depends on the units fenced before only. -/
theorem fencing_congr {b b' : State} (h : b.setup = b'.setup) (s : State) : fencing b s = fencing b' s := by
  simp only [fencing, settleFences, h]

theorem setup_recordError (s : State) (e : ErrRec) : (recordError s e).setup = s.setup :=
  (congrArg State.setup (sansReports_recordError s e) : (sansReports (recordError s e)).setup = _)

/-! ### Dead agents (R480, R489, R490) -/

theorem agentDies_dead {s : State} {d : Nat} (cause : Nat) (h : isDead s d = true) : agentDies s d cause = s := if_pos (by simp [h])

theorem lateSnoop_busy {s : State} {a l : Nat} {rest : List Nat}
    (h : keysWhere s.mesh.busy (fun _ b => b.waits.contains a || b.wbFrom.contains a) = l :: rest) :
    lateSnoop s a = some (lineSlice l, 64 * l) := by
  simp only [lateSnoop, h]

theorem exec_reclaimScanDone {i : Fin 48} {d : Nat × List Nat × Nat} {s : State}
    (hfind : s.mesh.recover.find? (fun r => r.2.1.contains i.val) = some d) (hmode : sliceMode s i.val = 1) :
    exec (.reclaimScanDone i) s = .next (
      let t := recoveryStep (scanSlice s i.val d.1) i.val d.1
      if t.mesh.recover.any (fun r => r.2.1.contains i.val) ∨ t.rd poolBase Reg.Coh.BCT_STATUS_STATE = 1 ∨ t.boot.bctFailed ∨
        !t.boot.started then t else startDrain t i.val) := by
  simp only [exec, execReclaimScanDone, hfind, hmode, ne_eq, not_true_eq_false, if_false]

/-! ### The built-in test (R481, R488) -/

/-- The state in which the test has ended with its result shown. -/
def bctShown (ok : Bool) (i : Fin 48) (s : State) : State :=
  if ok then (s.setEvt poolBase Reg.Coh.COH_EVENT 4).wr poolBase Reg.Coh.BCT_STATUS_STATE 2
  else ((s.setEvt poolBase Reg.Coh.COH_EVENT 4).wr poolBase Reg.Coh.BCT_STATUS_STATE 3).wr poolBase Reg.Coh.BCT_STATUS_FAIL_SLICE i.val

theorem boot_bctShown (ok : Bool) (i : Fin 48) (s : State) : (bctShown ok i s).boot = s.boot := by
  cases ok <;> rfl

/-- The slices that no recovery waits for drain to service, with the start-up done. -/
def slicesDrained (s : State) : State :=
  (List.range 48).foldl (fun t j => if t.mesh.recover.any (fun r => r.2.1.contains j) then t else startDrain t j)
    { s with boot := { s.boot with started := true } }

/-- What follows the test's result: a fatal stop where it failed at start-up, the drain otherwise. -/
def bctFollows (ok : Bool) (i : Fin 48) (s : State) : Host.Outcome State Fault Refusal :=
  if !ok && !s.boot.started then .next (fatalStop { s with boot := { s.boot with bctFailed := true } } (.slice i) .coherence 0 i.val)
  else .next (slicesDrained s)

theorem exec_bctDone_ends {ok : Bool} {i : Fin 48} {s : State} (hruns : s.rd poolBase Reg.Coh.BCT_STATUS_STATE = 1)
    (hcareful : ∀ j, j < 48 → sliceMode s j = 1) : exec (.bctDone ok i) s = bctFollows ok i (bctShown ok i s) := by
  have hall : (List.range 48).any (fun j => sliceMode s j != 1) = false :=
    List.any_eq_false.mpr (fun j hj => by simp [hcareful j (List.mem_range.mp hj)])
  have hgo : ¬ (s.rd poolBase Reg.Coh.BCT_STATUS_STATE ≠ 1 ∨ (List.range 48).any (fun j => sliceMode s j != 1) = true) := by
    rw [hruns, hall]
    decide
  cases ok <;> exact if_neg hgo

/-- Settles O44. Each command's premises decide its conditions one by one. -/
theorem carefulModeAndRecoveryRun : Obligations.CarefulModeAndRecoveryRun := by
  unfold Obligations.CarefulModeAndRecoveryRun
  refine ⟨?modes, ?setMode, ?entered, ?snpdrain, fun a i s => exec_agentSnpdrain_idle, ?rspdrain, ?noRsp, ?kill,
    fun s d cause => agentDies_dead cause, ?noTimeout, ?timeout, fun a l rest s => lateSnoop_busy, ?noScan, ?scan, ?run, ?noDone, ?done⟩
  case modes =>
    intro r i s htakes
    refine ⟨fun h => ?_, fun h => ?_, fun hmode hrec hbct => ?_, fun h => ?_⟩
    · exact congrArg Host.Outcome.next ((guarded_of_takes _ htakes).trans (if_pos h))
    · exact congrArg Host.Outcome.next ((guarded_of_takes _ htakes).trans (if_neg h))
    · exact congrArg Host.Outcome.next ((guarded_of_takes _ htakes).trans (if_pos ⟨hmode, by simp [hrec], hbct⟩))
    · refine congrArg Host.Outcome.next ((guarded_of_takes _ htakes).trans (if_neg ?_))
      rintro ⟨hmode, hrec, hbct⟩
      exact h.elim (· hmode) (Or.elim · (· (List.isEmpty_iff.mp hrec)) hbct)
  case setMode =>
    intro i m n s _ hm
    refine ⟨?_, fun q hq => ?_, setMode_frame s i m n⟩
    · rw [setMode_eq, sliceMode_showHeld]
      exact sliceMode_modeShown s i n hm
    · rw [setMode_eq, slice_showHeld_setSlice]
      exact List.mem_map_of_mem (f := fun q : HomeReq => { q with held := q.held || (m != 0 && q.holds) }) hq
  case entered =>
    intro i s
    refine ⟨fun hmode hfree => congrArg _ (if_pos ⟨hmode, busyUsed_eq_zero hfree⟩), fun h => congrArg _ (if_neg ?_)⟩
    rintro ⟨hmode, hfree⟩
    exact h.elim (· hmode) (· hfree)
  case snpdrain =>
    intro a i x s hfind
    refine ⟨fun h => ?_, fun hacts htr hown => ?_, fun hacts htr hown => ?_⟩
    · simp only [exec, execAgentSnpdrain, hfind]
      exact if_pos (by simpa using h)
    · simp only [exec, execAgentSnpdrain, hfind, hacts, htr, Bool.not_true, Bool.or_false, Bool.false_eq_true, if_false]
      exact if_pos (by simpa using hown)
    · simp only [exec, execAgentSnpdrain, hfind, hacts, htr, Bool.not_true, Bool.or_false, Bool.false_eq_true, if_false]
      exact if_neg (by simp [hown])
  case rspdrain =>
    intro a i s hsent
    refine ⟨exec_rspdrain_dead hsent, fun hdead hmode hd => ?_, fun hdead h => ?_⟩
    · exact (exec_rspdrain_alive hsent hdead).trans (congrArg _ (if_pos ⟨hmode, by simp [hd]⟩))
    · refine (exec_rspdrain_alive hsent hdead).trans (congrArg _ (if_neg ?_))
      rintro ⟨hmode, hd⟩
      exact h.elim (· hmode) (· (List.isEmpty_iff.mp hd))
  case noRsp =>
    intro a i s h
    exact if_pos (congrArg (!·) h)
  case kill =>
    intro r s htakes
    exact congrArg Host.Outcome.next (guarded_of_takes _ htakes)
  case noTimeout =>
    intro a s h
    simp only [exec, execSnoopTimeout, h]
  case timeout =>
    intro a i da s h
    refine ⟨fun u hu => ?_, fun hu => ?_⟩
    · simp only [exec, execSnoopTimeout, h, hu]
      exact congrArg _ (fencing_congr (setup_recordError ..) _)
    · simp only [exec, execSnoopTimeout, h, hu]
      exact congrArg _ (fencing_congr rfl _)
  case noScan =>
    intro i s h
    cases hfind : s.mesh.recover.find? (fun r => r.2.1.contains i.val) with
    | none => simp only [exec, execReclaimScanDone, hfind]
    | some r =>
      have hmem : i.val ∈ r.2.1 := List.contains_iff_mem.mp (List.find?_some (p := fun r : Nat × List Nat × Nat => r.2.1.contains i.val) hfind)
      simp only [exec, execReclaimScanDone, hfind]
      exact if_pos (h.elim id (fun hno => absurd hmem (hno r (List.mem_of_find?_eq_some hfind))))
  case scan =>
    intro i d s hfind hmode
    refine ⟨fun h => (exec_reclaimScanDone hfind hmode).trans (congrArg _ (if_pos ?_)), fun hrec hbct hfail hstart =>
      (exec_reclaimScanDone hfind hmode).trans (congrArg _ (if_neg ?_))⟩
    · simpa using h
    · rw [hrec, hfail, hstart]
      simp only [hbct, Bool.false_eq_true, Bool.not_true, or_self, not_false_eq_true]
  case run =>
    intro r s htakes
    exact ⟨fun h => congrArg Host.Outcome.next ((guarded_of_takes _ htakes).trans (if_neg h)),
      fun h => congrArg Host.Outcome.next ((guarded_of_takes _ htakes).trans (if_pos h))⟩
  case noDone =>
    intro ok i s h
    exact if_pos h
  case done =>
    intro i s hruns hcareful
    refine ⟨(exec_bctDone_ends hruns hcareful).trans (if_neg Bool.false_ne_true), fun h => ?_, fun h => ?_⟩
    · exact (exec_bctDone_ends hruns hcareful).trans (if_neg (by simp [boot_bctShown, h]))
    · exact (exec_bctDone_ends hruns hcareful).trans (if_pos (by simp [boot_bctShown, h]))

end Sys2Proof.Machine
end

section
/-!
PROOFS. What an error record writes (R519, R604, R605): registers of the root, of the management processor, of the event queues and of
the counter bank of the unit that the record names.
-/
namespace Sys2Proof.Machine

/-- A count writes nothing below the unit's counter bank. -/
theorem look_countEv_below (s : State) (u : UnitId) (e : CntEvent) {k : Nat} (hk : ∀ o ∈ bankOffset u, k / 32 < base u + o) :
    look (countEv s u e).regs k = look s.regs k := by
  simp only [countEv]
  split
  · rfl
  next o ho =>
    have hkey : ∀ (i : Nat) (f : Field), f.lo < 32 → k ≠ f.key (base u + o + 16 * i) := by
      intro i f hlo
      have hbelow := hk o ho
      simp only [Field.key]
      omega
    refine foldl_keeps (fun t : State => look t.regs k) _ (fun t i => ?_) _ s
    split
    · exact (State.look_wr_other _ _ _ _ _ (hkey i _ (by decide))).trans (State.look_wr_other _ _ _ _ _ (hkey i _ (by decide)))
    · rfl

/-- The state with the error's summaries raised and its event counted. -/
def errEvents (s : State) (e : ErrRec) : State :=
  if e.sev = 1 then cnt1 (errSummary s e) e.unit 0x003 else if e.sev = 2 then cnt1 (errSummary s e) e.unit 0x004 else errSummary s e

/-- The state with the error counted at the root too, before its record. -/
def errCounted (s : State) (e : ErrRec) : State :=
  if e.sev = 1 then (errEvents s e).bump 0 Reg.Err.CORR_CNT
  else if e.sev = 2 then (errEvents s e).bump 0 Reg.Err.UNCORR_CNT else errEvents s e

/-- The time of a corrected error kept. -/
def errNoted (s : State) (e : ErrRec) : State :=
  if e.sev = 1 then { s with err := { s.err with lastCorr := put s.err.lastCorr (base e.unit) s.timebase } } else s

theorem recordError_eq (s : State) (e : ErrRec) : recordError s e =
    if e.sev = 1 && corrRecent (errCounted s e) e.unit then errCounted s e
    else errReport (errLogWrite (errNoted (errCounted s e) e) e) e := rfl

section
variable {k : Nat} (hroot : 0x20000 ≤ k / 32)
include hroot

/-- A write of the windows of the root and of the management processor. -/
theorem look_wr_root (s : State) {b : Nat} (v : Nat) {f : Field} (hb : b ≤ 0x10000) (hf : f.off < 0x10000 ∧ f.lo < 32) :
    look (s.wr b f v).regs k = look s.regs k := by
  refine State.look_wr_other _ _ _ _ _ ?_
  obtain ⟨hoff, hlo⟩ := hf
  simp only [Field.key]
  omega

theorem look_errLogWrite (s : State) (e : ErrRec) : look (errLogWrite s e).regs k = look s.regs k := by
  simp only [errLogWrite]
  split
  · have hrec : 32 * (s.rd 0 Reg.Err.ERRLOG_PI % 256) ≤ 0x10000 := by omega
    generalize 32 * (s.rd 0 Reg.Err.ERRLOG_PI % 256) = b at hrec
    have hwr : ∀ (t : State) (v : Nat) (f : Field), f.off < 0x10000 ∧ f.lo < 32 → look (t.wr b f v).regs k = look t.regs k :=
      fun t v _ hf => look_wr_root hroot t v hrec hf
    simp (disch := decide) only [State.wr64, look_wr_root hroot, hwr]
  · exact look_wr_root hroot s _ (by decide) (by decide)

variable (hbar : k < bar2 0 * 32)
include hbar

theorem look_errReport (s : State) (e : ErrRec) : look (errReport s e).regs k = look s.regs k := by
  have hlost : k ≠ Reg.Mp.EVT_LOST.key (base .mgmtProc) := by
    simp only [Field.key, Reg.Mp.EVT_LOST, fld, base]
    omega
  simp only [errReport]
  split
  · exact (foldl_keeps (fun t : State => look t.regs k) _ (fun t f => look_raiseEvent_setup t f _ _ hbar) _ _).trans
      (look_streamEvent s _ _ hlost)
  · exact look_streamEvent s _ _ hlost

/-- A record leaves alone what lies outside the root's and the management processor's windows and below the unit's counters. -/
theorem look_recordError (s : State) (e : ErrRec) (hbank : ∀ o ∈ bankOffset e.unit, k / 32 < base e.unit + o) :
    look (recordError s e).regs k = look s.regs k := by
  have hevents : look (errEvents s e).regs k = look s.regs k := by
    simp only [errEvents]
    split
    · exact look_countEv_below _ _ _ hbank
    · split
      · exact look_countEv_below _ _ _ hbank
      · rfl
  have hcounted : look (errCounted s e).regs k = look s.regs k := by
    simp only [errCounted]
    split
    · exact (look_wr_root hroot _ _ (by decide) (by decide)).trans hevents
    · split
      · exact (look_wr_root hroot _ _ (by decide) (by decide)).trans hevents
      · exact hevents
  rw [recordError_eq]
  split
  · exact hcounted
  · rw [look_errReport hroot hbar, look_errLogWrite hroot, errNoted]
    split <;> exact hcounted

end

end Sys2Proof.Machine
end

section
/-!
PROOFS. The home of a line (R468, R471, R473 to R479, R491, R501): the request chosen, the writeback served first, the responses and
the errors of the snoop filter.
-/
namespace Sys2Proof.Machine

/-! ### The request chosen (R474, R475) -/

/-- What may be served stands in the ingress. -/
theorem mem_of_mem_takeable {s : State} {i : Nat} {l : List HomeReq} {q : HomeReq} (h : q ∈ takeable s i l) : q ∈ l := by
  suffices hfold : ∀ (l : List HomeReq) (m : List HomeReq × List HomeReq), q ∈ (l.foldl (fun (m : List HomeReq × List HomeReq) q =>
      if m.2.any (sameSource q) then m
      else if canTake s i q then (m.1 ++ [q], m.2) else (m.1, m.2 ++ [q])) m).1 → q ∈ m.1 ∨ q ∈ l from
    (hfold l ([], []) h).resolve_left List.not_mem_nil
  intro l
  induction l with
  | nil => exact fun m => Or.inl
  | cons x l ih =>
    intro m h
    rw [List.foldl_cons] at h
    rcases ih _ h with hm | hl
    · split at hm
      · exact Or.inl hm
      · split at hm
        · rcases List.mem_append.mp hm with hm | hx
          · exact Or.inl hm
          · exact Or.inr (List.mem_cons.mpr (Or.inl (List.mem_singleton.mp hx)))
        · exact Or.inl hm
    · exact Or.inr (List.mem_cons_of_mem x hl)

/-- The request that weighted round robin picks among those of `l` with these credits (R474). -/
def pickReq (l : List HomeReq) (credit : List Nat) : Option (HomeReq × List Nat) :=
  [0, 1, 2].findSome? (fun g =>
    if 0 < (credit[g]?.getD 0) then (l.find? (fun q => q.group == g)).map (fun q => (q, credit.set g ((credit[g]?.getD 0) - 1))) else none)

theorem mem_of_pickReq {l : List HomeReq} {credit credit' : List Nat} {q : HomeReq} (h : pickReq l credit = some (q, credit')) :
    q ∈ l := by
  obtain ⟨g, -, hg⟩ := List.exists_of_findSome?_eq_some h
  split at hg
  · obtain ⟨x, hx, hxq⟩ := Option.map_eq_some_iff.mp hg
    obtain ⟨rfl, -⟩ := Prod.mk.injEq .. ▸ hxq
    exact List.mem_of_find?_eq_some hx
  · cases hg

theorem mem_ing_of_nextReq {s : State} {i : Nat} {q : HomeReq} {credit : List Nat} (h : nextReq s i = some (q, credit)) :
    q ∈ (s.slice i).ing := by
  have hheld : ∀ x, x ∈ (if sliceMode s i = 0 then (takeable s i (s.slice i).ing).filter HomeReq.held else []) →
      x ∈ (s.slice i).ing := by
    intro x hx
    split at hx
    · exact mem_of_mem_takeable (List.mem_filter.mp hx).1
    · exact absurd hx List.not_mem_nil
  simp only [nextReq] at h
  split at h
  next hfind =>
    obtain ⟨rfl, -⟩ := Prod.mk.injEq .. ▸ Option.some.inj h
    exact hheld _ (List.mem_of_find?_eq_some hfind)
  next hlist =>
    obtain ⟨rfl, -⟩ := Prod.mk.injEq .. ▸ Option.some.inj h
    exact hheld _ (hlist ▸ List.mem_cons_self)
  next =>
    split at h
    next r hr =>
      obtain rfl := Option.some.inj h
      exact mem_of_mem_takeable (mem_of_pickReq hr)
    next => exact mem_of_mem_takeable (mem_of_pickReq h)

/-! ### Requests served (R468, R475, R476, R484) -/

theorem serveKind_serves {s : State} {i : Nat} {q : HomeReq} {credit : List Nat} (hon : sliceOff s i = false)
    (hwbs : ∀ w ∈ s.mesh.wbs, lineSlice w.line ≠ i) (hnext : nextReq s i = some (q, credit)) {k : HomeKind} (hk : q.kind = k) :
    serveKind s i k = if sliceMode s i = 0 then serveBlocking s i q credit else serveCareful s i q credit := by
  have hnone : s.mesh.wbs.any (fun w => lineSlice w.line == i) = false := List.any_eq_false.mpr (fun w hw => by simp [hwbs w hw])
  simp only [serveKind, hon, hnone, hnext, hk, Bool.or_self, Bool.false_eq_true, if_false, ne_eq, not_true_eq_false]

theorem serveKind_idle {s : State} {i : Nat} {k : HomeKind} (h : sliceOff s i = true ∨
    s.mesh.wbs.any (fun w => lineSlice w.line == i) = true ∨ (∀ x ∈ nextReq s i, x.1.kind ≠ k)) : serveKind s i k = s := by
  by_cases hoff : (sliceOff s i || s.mesh.wbs.any (fun w => lineSlice w.line == i)) = true
  · exact if_pos hoff
  · have hother : ∀ x ∈ nextReq s i, x.1.kind ≠ k := by
      rw [Bool.or_eq_true, not_or] at hoff
      exact (h.resolve_left hoff.1).resolve_left hoff.2
    rw [serveKind, if_neg hoff]
    cases hnext : nextReq s i with
    | none => rfl
    | some x => exact if_pos (hother x hnext)

section
variable (s : State) (i : Nat) {q : HomeReq} (credit : List Nat)

theorem serveBlocking_busy {b : BusyEnt} (h : busyOf s q.line = some b) : serveBlocking s i q credit =
    slBump (setBusy (takeReq s i q credit) q.line { b with queue := b.queue ++ [q] }) i Reg.Slc.WAITQ_CNT := by
  simp only [serveBlocking, h]

theorem serveBlocking_free (h : busyOf s q.line = none) : serveBlocking s i q credit =
    if needsWay s q = true ∧ 16 ≤ (waysUsed s q.line).length then makeWay s q.line
    else settleAll (startBusy (takeReq s i q credit) q.line (some q) (snoopsFor (takeReq s i q credit) q).1
      (snoopsFor (takeReq s i q credit) q).2.1 (snoopsFor (takeReq s i q credit) q).2.2 []) q.line := by
  simp only [serveBlocking, h, Bool.and_eq_true, decide_eq_true_eq]

/-- The entry of a line shared with `r` too, no longer marked. -/
def sharedWith (s : State) (line r : Nat) : State :=
  setSf s line { sfTouch s line with sharers := addOnce (sfTouch s line).sharers r, mask := 0 }

/-- A RdShared of careful mode: the data from memory, or from the owner. -/
def sharedCarefully (s : State) (i line r : Nat) : State :=
  match (sfTouch s line).owner with
  | none => tell (stackEvent (sharedWith s line r) line 0x100) r line (.data 0 (memLine s line).1 (memLine s line).2)
  | some o => sendSnp (sharedWith s line r) i line o (.fwdS r)

theorem sharedCarefully_memory {line r : Nat} (h : (sfTouch s line).owner = none) : sharedCarefully s i line r =
    tell (stackEvent (sharedWith s line r) line 0x100) r line (.data 0 (memLine s line).1 (memLine s line).2) := by
  simp only [sharedCarefully, h]

theorem sharedCarefully_owner {line r o : Nat} (h : (sfTouch s line).owner = some o) :
    sharedCarefully s i line r = sendSnp (sharedWith s line r) i line o (.fwdS r) := by
  simp only [sharedCarefully, h]

theorem serveCareful_rdShared {r : Nat} (hasker : q.asker = .agent r) (hkind : q.kind = .rdShared)
    (hway : needsWay s q = false ∨ (waysUsed s q.line).length < 16) :
    serveCareful s i q credit = sharedCarefully (takeReq s i q credit) i q.line r := by
  have hagent : q.agent = some r := by rw [HomeReq.agent, hasker]
  have hfree : ¬ (needsWay s q && decide (16 ≤ (waysUsed s q.line).length)) = true := by
    rw [Bool.and_eq_true, decide_eq_true_eq]
    rintro ⟨hneeds, hfull⟩
    rcases hway with h | h
    · rw [h] at hneeds
      exact Bool.false_ne_true hneeds
    · omega
  have howns : (HomeKind.rdShared == HomeKind.rdOwn) = false := rfl
  simp only [serveCareful, hagent, if_neg hfree, hkind, howns, Bool.false_and, Bool.false_eq_true, if_false, if_true]
  rfl

end

/-! ### Writebacks (R474, R478, R484, R491) -/

theorem serveWb_serves {s : State} {i : Nat} {w : WbReq} (hon : sliceOff s i = false)
    (hfind : s.mesh.wbs.find? (fun w => lineSlice w.line == i) = some w) {k : WbKind} (hk : w.kind = k) :
    serveWb s i k = if isDead s w.agent then
        slBump { s with mesh := { s.mesh with wbs := s.mesh.wbs.erase w } } i Reg.Slc.DEAD_MSG_CNT
      else doWriteback { s with mesh := { s.mesh with wbs := s.mesh.wbs.erase w } } w := by
  simp only [serveWb, hon, hfind, hk, Bool.false_eq_true, if_false, ne_eq, not_true_eq_false]
  rfl

theorem serveWb_idle {s : State} {i : Nat} {k : WbKind}
    (h : sliceOff s i = true ∨ (∀ w ∈ s.mesh.wbs.find? (fun w => lineSlice w.line == i), w.kind ≠ k)) : serveWb s i k = s := by
  by_cases hoff : sliceOff s i = true
  · exact if_pos hoff
  · rw [serveWb, if_neg hoff]
    cases hfind : s.mesh.wbs.find? (fun w => lineSlice w.line == i) with
    | none => rfl
    | some w => exact if_pos (h.resolve_left hoff w hfind)

/-! ### Responses and Ack (R473, R476, R479) -/

section
variable {a : Fin 80} {line : BitVec 46} {h : HostAns} {s : State}

theorem exec_homeSnoopResponse_host (ha : a.val < 64) : exec (.homeSnoopResponse a line h) s = .next (
    if isDead s a.val then slBump s (lineSlice line.toNat) Reg.Slc.DEAD_MSG_CNT
    else match s.mesh.snps.find? (fun x => x.agent == a.val && x.line == line.toNat) with
      | some x => carefulHost s x
      | none => takeResponse s a.val line.toNat (hostAns h) [] false) := if_pos ha

theorem takeResponse_stray (s : State) (a line : Nat) (r : SnpAns) (d : List Byte) (bad : Bool) :
    (busyOf s line = none → takeResponse s a line r d bad = s) ∧
    (∀ b : BusyEnt, busyOf s line = some b → a ∉ b.waits → takeResponse s a line r d bad = s) := by
  refine ⟨fun h => by simp only [takeResponse, h], fun b h hwaits => ?_⟩
  simp only [takeResponse, h]
  exact if_pos (by simp [hwaits])

/-- The acknowledgement is heeded: a host's always, an agent's once it has sent it. -/
theorem exec_homeAck_heard (hsent : a.val < 64 ∨ s.mesh.toHome.contains (.ack a.val line.toNat) = true) :
    exec (.homeAck a line) s = match busyOf s line.toNat with
      | none => .next { s with mesh := { s.mesh with toHome := s.mesh.toHome.erase (.ack a.val line.toNat) } }
      | some b =>
        if b.acking ∧ b.req.bind HomeReq.agent = some a.val then .next (settleAll (setBusy
          { s with mesh := { s.mesh with toHome := s.mesh.toHome.erase (.ack a.val line.toNat) } } line.toNat
          { b with acking := false, req := none, dir := false }) line.toNat)
        else .next { s with mesh := { s.mesh with toHome := s.mesh.toHome.erase (.ack a.val line.toNat) } } := by
  refine if_neg ?_
  rw [Bool.and_eq_true, decide_eq_true_eq, Bool.not_eq_true']
  rintro ⟨hge, hnot⟩
  rcases hsent with hlt | hsent
  · omega
  · rw [hsent] at hnot
    cases hnot

end

/-! ### Errors of the snoop filter (R471) -/

/-- The state once an error of a line's entry is shown and recorded. -/
def sfErrShown (s : State) (line : Nat) (corrected : Bool) : State :=
  recordError (s.setEvt (sliceBase (lineSlice line)) Reg.Slc.SLICE_EVENT (if corrected then 2 else 3))
    (ErrRec.ecc (.slice (idx 47 (lineSlice line))) corrected 0 (64 * line))

theorem mesh_sfErrShown (s : State) (line : Nat) (corrected : Bool) : (sfErrShown s line corrected).mesh = s.mesh :=
  (parts_of_sansReports (sansReports_recordError ..)).2.1

/-- No record touches a slice's mode. -/
theorem sliceMode_recordError (s : State) (i : Nat) (e : ErrRec) (hunit : e.unit = .slice (idx 47 i)) :
    sliceMode (recordError s e) i = sliceMode s i := by
  have hslice := (idx 47 i).isLt
  have hlook := look_recordError (k := Reg.Slc.SLICE_MODE.key (sliceBase i))
    (by simp only [Field.key, sliceBase, base, Reg.Slc.SLICE_MODE, fld]; omega)
    (by simp only [Field.key, sliceBase, base, bar2, Reg.Slc.SLICE_MODE, fld]; omega) s e (by
      intro o ho
      rw [hunit] at ho ⊢
      obtain rfl := Option.mem_some.mp ho
      simp only [Field.key, sliceBase, Reg.Slc.SLICE_MODE, fld]
      omega)
  rw [sliceMode, State.rd, hlook]
  rfl

theorem sliceMode_sfErrShown (s : State) (line : Nat) (corrected : Bool) :
    sliceMode (sfErrShown s line corrected) (lineSlice line) = sliceMode s (lineSlice line) :=
  (sliceMode_recordError _ _ _ rfl).trans (sliceMode_wr_apart s _ _ (by decide))

theorem exec_sfEccError_shown {line : BitVec 46} {corrected : Bool} {s : State} (hbusy : busyOf s line.toNat = none)
    (hent : (sfEnt s line.toNat).isSome = true) : exec (.sfEccError { line := line, corrects := corrected }) s = .next (
      if corrected then sfErrShown s line.toNat corrected
      else if sliceMode (sfErrShown s line.toNat corrected) (lineSlice line.toNat) = 1 ∨
          sliceMode (sfErrShown s line.toNat corrected) (lineSlice line.toNat) = 3 then
        { sfErrShown s line.toNat corrected with mesh := { (sfErrShown s line.toNat corrected).mesh with
            damaged := addOnce (sfErrShown s line.toNat corrected).mesh.damaged line.toNat } }
      else pumpExtents (rebuildSf (sfErrShown s line.toNat corrected) line.toNat)) := by
  refine if_neg ?_
  obtain ⟨e, he⟩ := Option.isSome_iff_exists.mp hent
  simp [hbusy, he]

/-! ### The clear action (R501) -/

theorem RegsOnly.mesh_eq {s t : State} (h : RegsOnly s t) : t.mesh = s.mesh := (congrArg State.mesh h : _)

/-- The ten counters of a slice. -/
def sliceCounters : List Field :=
  [Reg.Slc.SNOOP_CNT, Reg.Slc.BISNP_CNT, Reg.Slc.RSPIWB_CNT, Reg.Slc.WB_BYPASS_CNT, Reg.Slc.WAITQ_CNT, Reg.Slc.SF_VICTIM_CNT,
    Reg.Slc.SPILL_CNT, Reg.Slc.DIR_BCAST_CNT, Reg.Slc.LOST_LINE_CNT, Reg.Slc.DEAD_MSG_CNT]

theorem sliceCounters_apart : ∀ c ∈ sliceCounters,
    ((c.off, c.lo) ≠ (Reg.Slc.BUSY_HWM.off, Reg.Slc.BUSY_HWM.lo) ∧ Reg.Slc.BUSY_HWM.lo < 32) ∧ c.lo < 32 := by decide

/-- Fields set to zero, and another of the window to a value. -/
theorem clearAll_wr_ends (s : State) (b v : Nat) {f : Field} {fs : List Field}
    (hapart : ∀ c ∈ fs, ((c.off, c.lo) ≠ (f.off, f.lo) ∧ f.lo < 32) ∧ c.lo < 32) :
    (∀ c ∈ fs, ((s.clearAll b fs).wr b f v).rd b c = 0) ∧ ((s.clearAll b fs).wr b f v).rd b f = v % 2 ^ f.width ∧
    OnlyFields ((f :: fs).map (Field.key · b)) s ((s.clearAll b fs).wr b f v) := by
  obtain ⟨hzero, hregs, hother⟩ := clearAll_ends s b fs
  refine ⟨fun c hc => (State.rd_wr_apart _ _ _ (hapart c hc)).trans (hzero c hc), State.rd_wr_same .., hregs.trans rfl, fun k hk => ?_⟩
  rw [List.map_cons, List.mem_cons, not_or] at hk
  exact (State.look_wr_other _ _ _ _ _ hk.1).trans (hother k hk.2)

theorem busyUsed_clearAll (s : State) (i b : Nat) (fs : List Field) : busyUsed (s.clearAll b fs) i = busyUsed s i := by
  rw [busyUsed, (clearAll_ends s b fs).2.1.mesh_eq, busyUsed]

/-- Settles O42. What stands first at the slice decides each command; the error's record leaves the slice's mode alone. -/
theorem homeServesRequestsAndWritebacks : Obligations.HomeServesRequestsAndWritebacks := by
  unfold Obligations.HomeServesRequestsAndWritebacks
  refine ⟨?served, ?idle, fun i q credit s => mem_ing_of_nextReq, fun i q credit s => ⟨fun b => serveBlocking_busy s i credit,
    serveBlocking_free s i credit⟩, ?careful, ?wbs, ?noWbs, ?hosts, ?agents, takeResponse_stray, ?noAck, ?ack, ?noEcc, ?ecc, ?clr⟩
  case served =>
    intro i q credit s hon hwbs hnext
    exact ⟨fun hk => congrArg _ (serveKind_serves hon hwbs hnext hk), fun hk => congrArg _ (serveKind_serves hon hwbs hnext hk),
      fun hk => congrArg _ (serveKind_serves hon hwbs hnext hk), fun hk => congrArg _ (serveKind_serves hon hwbs hnext hk)⟩
  case idle =>
    intro i c k s hc h
    simp only [List.mem_cons, List.not_mem_nil, or_false, Prod.mk.injEq] at hc
    rcases hc with ⟨rfl, rfl⟩ | ⟨rfl, rfl⟩ | ⟨rfl, rfl⟩ | ⟨rfl, rfl⟩ <;> exact congrArg _ (serveKind_idle h)
  case careful =>
    intro i r o q credit s hasker hkind hway
    exact ⟨fun howner => (serveCareful_rdShared s i credit hasker hkind hway).trans (sharedCarefully_memory _ _ howner),
      fun howner => (serveCareful_rdShared s i credit hasker hkind hway).trans (sharedCarefully_owner _ _ howner)⟩
  case wbs =>
    intro i w s hon hfind
    exact ⟨fun hk => congrArg _ (serveWb_serves hon hfind hk), fun hk => congrArg _ (serveWb_serves hon hfind hk),
      fun hk => congrArg _ (serveWb_serves hon hfind hk)⟩
  case noWbs =>
    intro i c k s hc h
    simp only [List.mem_cons, List.not_mem_nil, or_false, Prod.mk.injEq] at hc
    rcases hc with ⟨rfl, rfl⟩ | ⟨rfl, rfl⟩ | ⟨rfl, rfl⟩ <;> exact congrArg _ (serveWb_idle h)
  case hosts =>
    intro a line h s ha
    rw [exec_homeSnoopResponse_host ha]
    refine ⟨fun hdead => congrArg _ (if_pos hdead), fun x hdead hfind => ?_, fun hdead hnone => ?_⟩
    · rw [if_neg (Bool.eq_false_iff.mp hdead), hfind]
    · have hno : s.mesh.snps.find? (fun x => x.agent == a.val && x.line == line.toNat) = none :=
        List.find?_eq_none.mpr (fun x hx hmine => by
          simp only [Bool.and_eq_true, beq_iff_eq] at hmine
          exact hnone x hx hmine.1 hmine.2)
      rw [if_neg (Bool.eq_false_iff.mp hdead), hno]
  case agents =>
    intro a line h r d bad s ha
    have hge := not_lt.mpr ha
    refine ⟨fun hnone => ?_, fun hfind => ⟨fun hdead => ?_, fun hdead => ?_⟩⟩
    · simp only [exec, execHomeSnoopResponse, if_neg hge]
      split
      next hx => exact absurd (List.any_eq_true.mpr ⟨_, List.mem_of_find?_eq_some hx, List.find?_some hx⟩) (Bool.eq_false_iff.mp hnone)
      next => rfl
    · simp only [exec, execHomeSnoopResponse, if_neg hge, hfind]
      exact congrArg _ (if_neg (Bool.eq_false_iff.mp hdead))
    · simp only [exec, execHomeSnoopResponse, if_neg hge, hfind]
      exact congrArg _ (if_pos hdead)
  case noAck =>
    intro a line s ha hnone
    exact if_pos (by rw [hnone]; simp [ha])
  case ack =>
    intro a line s hsent
    rw [exec_homeAck_heard hsent]
    refine ⟨fun hb => by rw [hb], fun b hb hack hreq => ?_, fun b hb h => ?_⟩
    · rw [hb]
      exact if_pos ⟨hack, hreq⟩
    · rw [hb]
      refine if_neg ?_
      rintro ⟨hack, hreq⟩
      exact h.elim (fun hno => Bool.false_ne_true (hno ▸ hack)) (· hreq)
  case noEcc =>
    intro x s h
    exact if_pos (by simpa using h)
  case ecc =>
    intro line s hbusy hent
    refine ⟨(exec_sfEccError_shown hbusy hent).trans (congrArg _ (if_pos rfl)), fun hmode => ?_, fun hmode => ?_⟩
    · refine (exec_sfEccError_shown hbusy hent).trans (congrArg _ ((if_neg Bool.false_ne_true).trans (if_neg ?_)))
      rw [sliceMode_sfErrShown]
      omega
    · refine (exec_sfEccError_shown hbusy hent).trans (congrArg _ ((if_neg Bool.false_ne_true).trans ((if_pos ?_).trans ?_)))
      · rw [sliceMode_sfErrShown]
        exact hmode
      · rw [mesh_sfErrShown]
        rfl
  case clr =>
    intro r i s htakes
    have hends := clearAll_wr_ends s (sliceBase i.val) (busyUsed (s.clearAll (sliceBase i.val) sliceCounters) i.val) sliceCounters_apart
    rw [busyUsed_clearAll] at hends
    exact ⟨_, (congrArg Host.Outcome.next (guarded_of_takes _ htakes)).trans
      (congrArg (fun v => Host.Outcome.next ((s.clearAll (sliceBase i.val) sliceCounters).wr (sliceBase i.val) Reg.Slc.BUSY_HWM v))
        (busyUsed_clearAll s i.val (sliceBase i.val) sliceCounters)), hends⟩

end Sys2Proof.Machine
end

section
/-!
PROOFS. The Gazetteer and Trail (R523, R526 to R531, R535 to R540): snapshots of the banks, the form of a dump and of a record, the
countdowns that a write of TR_CFG reloads, and the ring's registers.
-/
namespace Sys2Proof.Machine

/-! ### Bytes -/

theorem leBytes_length (n k : Nat) : (leBytes n k).length = k := by rw [leBytes, List.length_map, List.length_range]

/-- A dump fills whole lines (R527). -/
theorem dumpBytes_length (s : State) (d : DumpSt) :
    (dumpBytes s d).length = wholeLines (64 + ((dumpUnits d.mask).flatMap (unitBlock s)).length) := by
  simp only [dumpBytes, List.length_append, leBytes_length, List.length_replicate, wholeLines]
  omega

theorem dumpBytes_take (s : State) (d : DumpSt) :
    (dumpBytes s d).take 16 = leBytes 0x475A4431 4 ++ leBytes (dumpBytes s d).length 4 ++ leBytes d.tick 8 := by
  rw [dumpBytes_length, dumpBytes]
  simp only [List.append_assoc]
  rw [← List.append_assoc (leBytes _ 4), ← List.append_assoc (leBytes _ 4 ++ leBytes _ 4)]
  exact (List.take_left' (by simp only [List.length_append, leBytes_length])).trans (List.append_assoc ..)

theorem record_length (x : TrailItem) (n : Nat) : (x.record n).length = 64 := by
  simp only [TrailItem.record, List.length_append, leBytes_length]

/-! ### Snapshots (R526) -/

/-- The units' windows begin at rising offsets. -/
theorem allUnits_ascending : (allUnits.map base).IsChain (· < ·) := by decide +kernel

theorem allUnits_bases : (allUnits.map base).Nodup :=
  (List.isChain_iff_pairwise.mp allUnits_ascending).imp (fun h => Nat.ne_of_lt h)

/-- The snapshots with that of unit `u` put. -/
def snapPut (s : State) (m : AMap BankSnap) (u : UnitId) : AMap BankSnap :=
  match bankOffset u with
  | some o => put m (base u) (snapOf s u o)
  | none => m

theorem look_snapPut_other (s : State) (m : AMap BankSnap) {u : UnitId} {k : Nat} (h : k ≠ base u) : look (snapPut s m u) k = look m k := by
  unfold snapPut
  split
  · exact look_put_other _ _ _ _ h
  · rfl

theorem look_foldl_snapPut_other (s : State) (m : AMap BankSnap) {us : List UnitId} {k : Nat} (h : k ∉ us.map base) :
    look (us.foldl (snapPut s) m) k = look m k := by
  induction us generalizing m with
  | nil => rfl
  | cons u us ih =>
    rw [List.map_cons, List.mem_cons, not_or] at h
    exact (ih _ h.2).trans (look_snapPut_other s m h.1)

/-- Each unit with a bank has its own snapshot. -/
theorem look_foldl_snapPut (s : State) (m : AMap BankSnap) {us : List UnitId} (hdiff : (us.map base).Nodup) {u : UnitId} (hu : u ∈ us)
    {o : Nat} (ho : bankOffset u = some o) : look (us.foldl (snapPut s) m) (base u) = some (snapOf s u o) := by
  induction us generalizing m with
  | nil => cases hu
  | cons v us ih =>
    rw [List.map_cons, List.nodup_cons] at hdiff
    rcases List.mem_cons.mp hu with rfl | hu
    · refine (look_foldl_snapPut_other s _ hdiff.1).trans ?_
      rw [snapPut, ho]
      exact look_put_same ..
    · exact ih _ hdiff.2 hu

theorem snapOf_clocked {s : State} {u : UnitId} (o : Nat) (h : clockRuns s u = true) :
    snapOf s u o = ⟨bankValues s u o, s.rd (base u + o) Reg.Cnt.CNT_INFO_SEL_GEN, false, s.gz.fresh.contains (base u)⟩ := if_pos h

theorem snapOf_unclocked {s : State} {u : UnitId} (o : Nat) (h : clockRuns s u = false) : (snapOf s u o).noSnap = true ∧
    ∀ x : BankSnap, look s.gz.snaps (base u) = some x → (snapOf s u o).vals = x.vals := by
  rw [snapOf, h]
  refine ⟨rfl, fun x hx => ?_⟩
  simp only [lookD, hx, Bool.false_eq_true, if_false, Option.getD_some]

/-! ### Countdowns (R535) -/

/-- `t` is `s` with the countdowns `es` reloaded. -/
structure Reloaded (es : List Nat) (s t : State) : Prop where
  frame : { t with free := s.free, gz := { t.gz with count := s.gz.count } } = s
  counts : ∀ e ∈ es, ∃ j, j ≤ s.rd gzBase Reg.Gz.TR_JITTER ∧ look t.gz.count e = some (s.rd gzBase Reg.Gz.TR_PERIOD - 1 + j)
  others : ∀ e, e ∉ es → look t.gz.count e = look s.gz.count e

theorem Reloaded.rd_eq {es : List Nat} {s t : State} (h : Reloaded es s t) (b : Nat) (f : Field) : t.rd b f = s.rd b f :=
  (congrArg (State.rd · b f) h.frame : _)

theorem Reloaded.regs_eq {es : List Nat} {s t : State} (h : Reloaded es s t) : t.regs = s.regs := (congrArg State.regs h.frame : _)

theorem Reloaded.trSeq_eq {es : List Nat} {s t : State} (h : Reloaded es s t) : t.gz.trSeq = s.gz.trSeq :=
  (congrArg (fun x : State => x.gz.trSeq) h.frame : _)

theorem trailReload_reloads (s : State) (e : Nat) : Reloaded [e] s (trailReload s e) where
  frame := rfl
  counts := by
    intro e' he
    obtain rfl := List.mem_singleton.mp he
    exact ⟨s.drawn 20 % (s.rd gzBase Reg.Gz.TR_JITTER + 1), Nat.lt_succ_iff.mp (Nat.mod_lt _ (Nat.succ_pos _)), look_put_same ..⟩
  others e' he := look_put_other _ _ _ _ (fun h => he (List.mem_singleton.mpr h))

theorem Reloaded.cons {e : Nat} {es : List Nat} {s t u : State} (h : Reloaded [e] s t) (h' : Reloaded es t u) : Reloaded (e :: es) s u where
  frame := (congrArg (fun x : State => { x with free := s.free, gz := { x.gz with count := s.gz.count } }) h'.frame : _).trans h.frame
  counts := by
    intro e' he
    by_cases hmem : e' ∈ es
    · rw [← h.rd_eq, ← h.rd_eq]
      exact h'.counts e' hmem
    · rw [h'.others e' hmem]
      exact h.counts e' (List.mem_singleton.mpr ((List.mem_cons.mp he).resolve_right hmem))
  others e' he := by
    rw [List.mem_cons, not_or] at he
    rw [h'.others e' he.2, h.others e' (fun hmem => he.1 (List.mem_singleton.mp hmem))]

theorem foldl_trailReload_reloads (es : List Nat) (s : State) : Reloaded es s (es.foldl trailReload s) := by
  induction es generalizing s with
  | nil => exact ⟨rfl, fun _ h => absurd h List.not_mem_nil, fun _ _ => rfl⟩
  | cons e es ih => exact (trailReload_reloads s e).cons (ih _)

/-- The five fields of TR_CFG with the values of a written word. -/
def trailFields (v : Nat) : List (Field × Nat) :=
  [(Reg.Gz.TR_CFG_EN, bits v 0 0), (Reg.Gz.TR_CFG_SEND, bits v 1 1), (Reg.Gz.TR_CFG_RECV, bits v 2 2),
    (Reg.Gz.TR_CFG_FUNC_EN, bits v 3 3), (Reg.Gz.TR_CFG_FUNC, bits v 25 16)]

/-- `t` with the record sequence begun anew, unless Trail was enabled in `s`. -/
def trailRestarted (s t : State) : State := if s.on gzBase Reg.Gz.TR_CFG_EN then t else t.setGz { t.gz with trSeq := 0 }

theorem regs_trailRestarted (s t : State) : (trailRestarted s t).regs = t.regs := by
  unfold trailRestarted
  split <;> rfl

theorem rd_trailRestarted (s t : State) (b : Nat) (f : Field) : (trailRestarted s t).rd b f = t.rd b f := by
  rw [State.rd, regs_trailRestarted, State.rd]

/-- `t` with what a write of TR_CFG may change as in `s`. -/
def trailKept (s t : State) : State :=
  { t with regs := s.regs, free := s.free, gz := { t.gz with count := s.gz.count, trSeq := s.gz.trSeq } }

theorem RegsOnly.same_view {α : Type} {s t : State} (h : RegsOnly s t) (g : State → α) : g { t with regs := s.regs } = g s := congrArg g h

theorem trailRestarted_trSeq {s t : State} (h : RegsOnly s t) :
    (trailRestarted s t).gz.trSeq = if s.on gzBase Reg.Gz.TR_CFG_EN then s.gz.trSeq else 0 := by
  unfold trailRestarted
  split
  · exact h.same_view (fun x => x.gz.trSeq)
  · rfl

theorem trailKept_restarted {s t : State} (h : RegsOnly s t) : trailKept s (trailRestarted s t) = s := by
  unfold trailRestarted
  split <;> exact h.same_view (trailKept s)

theorem exec_trailEnWrite {r : Route} (x : BitVec 32) {s : State} (h : Takes s r (gzBase + 0x80)) : exec (.trailEnWrite r x) s = .next (
    if bitOf x.toNat 0 then (List.range 16).foldl trailReload (trailRestarted s (writeAll s gzBase (trailFields x.toNat)))
    else writeAll s gzBase (trailFields x.toNat)) := congrArg Host.Outcome.next (guarded_of_takes _ h)

/-- The fields read as the word gives them, and no other field changes. -/
theorem trailFields_written (s : State) (v : Nat) :
    [Reg.Gz.TR_CFG_EN, Reg.Gz.TR_CFG_SEND, Reg.Gz.TR_CFG_RECV, Reg.Gz.TR_CFG_FUNC_EN, Reg.Gz.TR_CFG_FUNC].map
      ((writeAll s gzBase (trailFields v)).rd gzBase ·) = [v % 2, v / 2 % 2, v / 4 % 2, v / 8 % 2, v / 2 ^ 16 % 2 ^ 10] := by
  have hread : ∀ w ∈ trailFields v, (writeAll s gzBase (trailFields v)).rd gzBase w.1 = w.2 % 2 ^ w.1.width :=
    fun w hw => rd_writeAll s (b := gzBase) (l := trailFields v) (by simp only [trailFields, List.map_cons, List.map_nil]; decide) hw
  refine (List.map_congr_left hread : (trailFields v).map _ = _).trans ?_
  simp [trailFields, bits, Reg.Gz.TR_CFG_EN, Reg.Gz.TR_CFG_SEND, Reg.Gz.TR_CFG_RECV, Reg.Gz.TR_CFG_FUNC_EN, Reg.Gz.TR_CFG_FUNC, fld,
    Field.fromCfg]

theorem trailFields_only (s : State) (v : Nat) : OnlyFields ([Reg.Gz.TR_CFG_EN, Reg.Gz.TR_CFG_SEND, Reg.Gz.TR_CFG_RECV,
    Reg.Gz.TR_CFG_FUNC_EN, Reg.Gz.TR_CFG_FUNC].map (Field.key · gzBase)) s (writeAll s gzBase (trailFields v)) :=
  writeAll_onlyFields s gzBase (trailFields v)

/-! ### What the Gazetteer reaches (R445) -/

/-- The state with its held records counted. -/
def recordsHeld (s : State) (g : GzSt) (n : Nat) : State := (s.setGz g).wr gzBase Reg.Gz.TR_HELD n

theorem attUp_held (s : State) (g : GzSt) (n a : Nat) : attUp (recordsHeld s g n) a = attUp s a := by
  have hread : ∀ f : Field, (recordsHeld s g n).rd (attBase a) f = s.rd (attBase a) f := by
    intro f
    refine State.rd_wr_other _ _ _ _ _ _ ?_
    simp only [Field.key, gzBase, attBase, base, Reg.Gz.TR_HELD, fld]
    have := (idx 63 a).isLt
    omega
  rw [attUp, hread, hread, attUp]

theorem isMemory_held (s : State) (g : GzSt) (n da : Nat) : isMemory (recordsHeld s g n) da = isMemory s da := by
  simp only [isMemory, backed]
  cases regionOf da with
  | pool => rfl
  | host a h => exact congrArg (· && true) (attUp_held s g n a)
  | device a h => rw [Bool.and_false, Bool.and_false]
  | nowhere => rfl

theorem gzReaches_held (s : State) (g : GzSt) (n da len : Nat) :
    gzReaches ((s.setGz g).wr gzBase Reg.Gz.TR_HELD n) da len = gzReaches s da len := by
  rw [gzReaches, ← recordsHeld, isMemory_held, isMemory_held, gzReaches]

/-! ### Selections (R523) -/

theorem look_foldl_put_other {α : Type} (m : AMap α) {kvs : List (Nat × α)} {k : Nat} (h : k ∉ kvs.map Prod.fst) :
    look (kvs.foldl (fun m kv => put m kv.1 kv.2) m) k = look m k := by
  induction kvs generalizing m with
  | nil => rfl
  | cons kv kvs ih =>
    rw [List.map_cons, List.mem_cons, not_or] at h
    exact (ih _ h.2).trans (look_put_other _ _ _ _ h.1)

/-- Settles O46. Each command's premises decide its conditions; the snapshots, countdowns and fields are those of the lemmas above. -/
theorem dumpsAndTrailRecordsReachTheirRings : Obligations.DumpsAndTrailRecordsReachTheirRings := by
  unfold Obligations.DumpsAndTrailRecordsReachTheirRings
  refine ⟨?noTick, ?tick, fun s u o => ⟨snapOf_clocked o, snapOf_unclocked o⟩, ?noDump, ?dump, ?form, ?ci, ?en, ?clr, ?trailEn, ?noItem,
    ?item, record_length, ?noMove, ?move, ?sel, ?put⟩
  case noTick =>
    intro s h
    exact if_pos (by rcases h with h | h | h <;> simp [h])
  case tick =>
    intro s hunit hen hstop
    have hgo : ¬ (unitOff s .gazetteer || !(s.on gzBase Reg.Gz.GZ_CFG_EN) || s.gz.stopping) = true := by simp [hunit, hen, hstop]
    refine ⟨fun hdump => ?_, fun hdump => ⟨allUnits.foldl (snapPut s) s.gz.snaps, ?_, fun u hu o ho =>
      look_foldl_snapPut s _ allUnits_bases hu ho⟩⟩
    · exact (if_neg hgo).trans (if_pos (Option.isSome_iff_ne_none.mpr hdump))
    · exact (if_neg hgo).trans (if_neg (by simp [State.setGz, hdump]))
  case noDump =>
    intro fault s hdump
    simp only [exec, execDumpWritten, hdump]
  case dump =>
    intro d s hdump
    refine ⟨fun fault hfull => ?_, fun hroom => ?_, fun hroom hreach => ?_, fun hroom hreach => ?_⟩
    · simp only [exec, execDumpWritten, hdump, if_pos hfull]
    · simp only [exec, execDumpWritten, hdump, if_neg (not_lt.mpr hroom), Bool.true_or, if_true]
    · simp only [exec, execDumpWritten, hdump, if_neg (not_lt.mpr hroom), hreach, Bool.not_false, Bool.or_true, if_true]
    · simp only [exec, execDumpWritten, hdump, if_neg (not_lt.mpr hroom), hreach, Bool.not_true, Bool.or_false, Bool.false_eq_true,
        if_false]
  case form =>
    intro s d
    refine ⟨?_, dumpBytes_take s d⟩
    rw [dumpBytes_length, wholeLines, Nat.mul_mod_left]
  case ci =>
    intro r x s htakes
    exact ⟨fun h => congrArg Host.Outcome.next ((guarded_of_takes _ htakes).trans (if_pos h)),
      fun h => congrArg Host.Outcome.next ((guarded_of_takes _ htakes).trans (if_neg (not_le.mpr h)))⟩
  case en =>
    intro r x s htakes
    have hexec : exec (.gzEnWrite r x) s = .next (
        if x.getLsbD 0 then
          if s.on gzBase Reg.Gz.GZ_CFG_EN then s.setGz { s.gz with stopping := false }
          else (s.setGz { s.gz with ticks := 0, stopping := false }).wr gzBase Reg.Gz.GZ_CFG_EN 1
        else if !(s.on gzBase Reg.Gz.GZ_CFG_EN) then s
        else if s.gz.dump.isSome then s.setGz { s.gz with stopping := true }
        else gzStop s) := by
      rw [← bitOf_toNat]
      exact congrArg Host.Outcome.next (guarded_of_takes _ htakes)
    rw [hexec]
    refine ⟨fun hx hon => ?_, fun hx hon => ?_, fun hx hon => ?_, fun hx hon hdump => ?_, fun hx hon hdump => ?_⟩
    · simp only [hx, hon, if_true]
    · simp only [hx, hon, if_true, Bool.false_eq_true, if_false]
    · simp only [hx, hon, Bool.false_eq_true, if_false, Bool.not_false, if_true]
    · simp only [hx, hon, hdump, Bool.false_eq_true, if_false, Bool.not_true, Option.isSome_none]
    · simp only [hx, hon, Bool.false_eq_true, if_false, Bool.not_true, Option.isSome_iff_ne_none.mpr hdump, if_true]
  case clr =>
    intro r s htakes
    exact ⟨_, congrArg Host.Outcome.next (guarded_of_takes _ htakes), clearAll_ends ..⟩
  case trailEn =>
    intro r x s htakes
    obtain ⟨hregs, hother⟩ := trailFields_only s x.toNat
    have hread := trailFields_written s x.toNat
    rw [exec_trailEnWrite x htakes, bitOf_toNat]
    refine ⟨fun hx => ⟨_, congrArg _ (if_neg (Bool.eq_false_iff.mp hx)), ⟨hread, hother⟩, hregs⟩, fun hx => ?_⟩
    have hreload := foldl_trailReload_reloads (List.range 16) (trailRestarted s (writeAll s gzBase (trailFields x.toNat)))
    refine ⟨_, congrArg _ (if_pos hx), ⟨?_, fun k hk => ?_⟩, fun e he => ?_, ?_, ?_⟩
    · simp only [hreload.rd_eq, rd_trailRestarted]
      exact hread
    · rw [hreload.regs_eq, regs_trailRestarted]
      exact hother k hk
    · obtain ⟨j, hj, hlook⟩ := hreload.counts e (List.mem_range.mpr he)
      rw [rd_trailRestarted, State.rd, hother _ (by decide), ← State.rd] at hj hlook
      exact ⟨j, hj, hlook⟩
    · exact hreload.trSeq_eq.trans (trailRestarted_trSeq hregs)
    · exact (congrArg (trailKept s) hreload.frame).trans (trailKept_restarted hregs)
  case noItem =>
    intro s h
    simp only [exec, execTrailItemEnd, h]
  case item =>
    intro x s hx
    refine ⟨fun hroom => ?_, fun hfull => ?_⟩
    · simp only [exec, execTrailItemEnd, hx, State.setGz, if_pos hroom, List.length_append, List.length_singleton]
    · simp only [exec, execTrailItemEnd, hx]
      exact if_neg (not_lt.mpr hfull)
  case noMove =>
    intro fault s h
    cases hrecs : s.gz.recs with
    | nil => simp only [exec, execTrailRecordMove, hrecs]
    | cons b rest =>
      simp only [exec, execTrailRecordMove, hrecs]
      exact if_pos (h.resolve_left (by simp [hrecs]))
  case move =>
    intro b rest s hrecs hroom
    refine ⟨?_, fun hreach => ?_, fun hreach => ?_⟩
    · simp only [exec, execTrailRecordMove, hrecs, if_neg (not_le.mpr hroom), Bool.true_or, if_true]
    · simp only [exec, execTrailRecordMove, hrecs, if_neg (not_le.mpr hroom)]
      exact if_neg (by rw [gzReaches_held, hreach]; decide)
    · simp only [exec, execTrailRecordMove, hrecs, if_neg (not_le.mpr hroom)]
      exact if_pos (by rw [gzReaches_held, hreach]; rfl)
  case sel =>
    intro r w s
    refine ⟨fun htrip => if_pos htrip, fun v htrip href => ?_, fun htrip href hsel => ?_, fun htrip href hsel => ?_⟩
    · simp only [exec, execCounterSelWrite, htrip, href, Bool.false_eq_true, if_false]
    · simp only [exec, execCounterSelWrite, htrip, href, hsel, Bool.false_eq_true, if_false]
    · simp only [exec, execCounterSelWrite, htrip, href, hsel, Bool.false_eq_true, if_false, if_true]
  case put =>
    intro u kvs s
    exact ⟨fun h => ⟨_, if_pos h, fun k hk => look_foldl_put_other _ hk⟩, fun h => if_neg (Bool.eq_false_iff.mp h)⟩

end Sys2Proof.Machine
end

section
/-!
PROOFS. The confirmation of running firmware (R575, R583): what FW_CONFIRM leaves in MIN_SVN, and the state in which that is not the
larger of the two numbers.
-/
namespace Sys2Proof.Machine

theorem minSvn_wr_apart (s : State) (v : Nat) {f : Field}
    (h : ((Reg.Flk.SVN_MIN_SVN.off, Reg.Flk.SVN_MIN_SVN.lo) ≠ (f.off, f.lo) ∧ f.lo < 32) ∧ Reg.Flk.SVN_MIN_SVN.lo < 32) :
    minSvn (s.wr flaskBase f v) = minSvn s := State.rd_wr_apart s flaskBase v h

/-- What a test of a bank shows stands beside MIN_SVN. -/
theorem minSvn_showBank (s : State) (cfgArea bankB good : Bool) : minSvn (showBank s cfgArea bankB good) = minSvn s := by
  rw [showBank, State.wr64, minSvn_wr_apart _ _ (by cases cfgArea <;> cases bankB <;> decide),
    minSvn_wr_apart _ _ (by cases cfgArea <;> cases bankB <;> decide), minSvn_wr_apart _ _ (by cases cfgArea <;> cases bankB <;> decide)]

theorem minSvn_testBanks (s : State) (sigA sigB : Bool) : minSvn (testBanks s sigA sigB) = minSvn s := by
  simp only [testBanks, minSvn_showBank]

/-- A confirmation leaves the larger of MIN_SVN and FW_SVN (of at most 64) in the seven bits of MIN_SVN. -/
theorem minSvn_confirmFw {s : State} (c : BootChecks) (h : bankRuns s = true) : minSvn (confirmFw s c) =
    Nat.max (minSvn s) (Nat.min (s.rd flaskBase Reg.Flk.SVN_FW_SVN) 64) % 2 ^ Reg.Flk.SVN_MIN_SVN.width := by
  rw [confirmFw, if_neg (by simp [h]), minSvn_wr_apart _ _ (by decide), minSvn_testBanks]
  exact State.rd_wr_same ..

/-- A MIN_SVN that fits its seven bits rises as R583 says. -/
theorem minSvn_confirmFw_of_lt {s : State} (c : BootChecks) (h : bankRuns s = true) (hfits : minSvn s < 2 ^ 7) :
    minSvn (confirmFw s c) = Nat.max (minSvn s) (Nat.min (s.rd flaskBase Reg.Flk.SVN_FW_SVN) 64) := by
  have hfw : Nat.min (s.rd flaskBase Reg.Flk.SVN_FW_SVN) 64 ≤ 64 := Nat.min_le_right ..
  exact (minSvn_confirmFw c h).trans (Nat.mod_eq_of_lt (Nat.max_lt.mpr ⟨hfits, by
    change _ < 2 ^ 7
    omega⟩))

/-- A state with running firmware whose MIN_SVN register stands at 128, a number that its seven bits cannot hold. -/
def minSvnOverfull : State :=
  { State.reset with
    regs := [(Reg.Flk.SVN_MIN_SVN.key flaskBase, 128)]
    boot := { State.reset.boot with kind := none, locked := true, fwBooted := true } }

theorem minSvnOverfull_takes : Takes minSvnOverfull .mp (flaskBase + 0x6C) := by
  unfold Takes
  decide

/-- Refutes O52: its last clause speaks of every state, and in one whose MIN_SVN register stands at 128, beyond the register's seven
bits, the confirmation leaves 0 there and not the larger number. Where MIN_SVN fits its register the clause's value is right
(`minSvn_confirmFw_of_lt`). -/
theorem not_theBootTakesItsSteps : ¬ Obligations.TheBootTakesItsSteps := by
  unfold Obligations.TheBootTakesItsSteps
  rintro ⟨-, -, -, -, -, -, -, -, -, -, hconfirm⟩
  obtain ⟨-, hruns⟩ := hconfirm .mp ⟨true, true, true⟩ minSvnOverfull minSvnOverfull_takes
  obtain ⟨t, hexec, -, -, hmin, -⟩ := hruns (by decide)
  have ht : t = confirmFw minSvnOverfull ⟨true, true, true⟩ :=
    (Host.Outcome.next.inj ((congrArg Host.Outcome.next (guarded_of_takes _ minSvnOverfull_takes)).symm.trans hexec)).symm
  have hleft : minSvn t = 0 := by
    rw [ht, minSvn_confirmFw _ (by decide)]
    decide
  have hasked : Nat.max (minSvn minSvnOverfull) (Nat.min (minSvnOverfull.rd flaskBase Reg.Flk.SVN_FW_SVN) 64) = 128 := by decide
  exact absurd (hleft.symm.trans (hmin.trans hasked)) (by decide)

end Sys2Proof.Machine
end

section
/-!
PROOFS. SPDM (R549 to R553, R555): the steps of a requester, the key exchange and its end, and what goes with a session.
-/
namespace Sys2Proof.Machine

/-! ### Steps of a requester (R550) -/

section
variable {s : State} {p : Nat} {mac : BitVec 48} {need : Nat} {go : State → SpdmAns × State}

theorem spdmAt_idle (h : mpServes s = false ∨ meLive s p = false) : spdmAt s p mac need go = s :=
  if_pos (by rcases h with h | h <;> simp [h])

theorem spdmAt_answers (hserves : mpServes s = true) (hlive : meLive s p = true) (hstep : need ≤ lookD s.mg.spdm mac.toNat 0) :
    spdmAt s p mac need go = sendOut (go s).2 p (fun q => .spdm q mac (go s).1) := by
  simp only [spdmAt, hserves, hlive, if_neg (not_lt.mpr hstep), Bool.not_true, Bool.or_self, Bool.false_eq_true, if_false]

theorem spdmAt_early (hserves : mpServes s = true) (hlive : meLive s p = true) (hstep : lookD s.mg.spdm mac.toNat 0 < need) :
    spdmAt s p mac need go = sendOut s p (fun q => .spdm q mac .error) := by
  simp only [spdmAt, hserves, hlive, if_pos hstep, Bool.not_true, Bool.or_self, Bool.false_eq_true, if_false]

end

/-! ### Measurements (R553) -/

/-- The answer to GET_MEASUREMENTS of a block index. -/
def measAns (s : State) (i : Nat) : SpdmAns :=
  if i = 0 then .measurementCount 6
  else if i = 0xFF then .measurements ([1, 2, 3, 4, 5].filterMap (fun k => (measBlock s k).map (fun d => (k, d)))) (measRaw s)
  else if i = 0x10 then .measurements [] (measRaw s)
  else match measBlock s i with
    | some d => .measurements [(i, d)] []
    | none => .error

theorem measAns_block {s : State} {i : Nat} (hlow : 1 ≤ i) (hhigh : i ≤ 4) :
    measAns s i = .measurements [(i, lookD s.flask.meas i 0)] [] := by
  rw [measAns, if_neg (by omega), if_neg (by omega), if_neg (by omega), measBlock, if_neg (by omega), if_pos ⟨hlow, hhigh⟩]

theorem measAns_root (s : State) : measAns s 5 = .measurements [(5, fmRoot s)] [] := rfl

theorem measAns_all (s : State) : measAns s 0xFF =
    .measurements ([1, 2, 3, 4].map (fun k => (k, lookD s.flask.meas k 0)) ++ [(5, fmRoot s)]) (measRaw s) := rfl

theorem measAns_none {s : State} {i : Nat} (hlow : 5 < i) (hraw : i ≠ 0x10) (hall : i ≠ 0xFF) : measAns s i = .error := by
  rw [measAns, if_neg (by omega), if_neg hall, if_neg hraw, measBlock, if_neg (by omega), if_neg (by omega)]

/-! ### Sessions -/

theorem onSession_idle {s : State} {id : Nat} {go : State → SessSt → State} (h : mpServes s = false ∨ liveSess s id = none) :
    onSession s id go = s := by
  unfold onSession
  split
  · rfl
  next k hk =>
    rcases h with h | h
    · exact if_neg (Bool.eq_false_iff.mp h)
    · rw [hk] at h
      cases h

theorem onSession_serves {s : State} {id : Nat} {go : State → SessSt → State} {k : SessSt} (hk : liveSess s id = some k)
    (hserves : mpServes s = true) : onSession s id go = go s k := by
  simp only [onSession, hk, hserves, if_true]

/-! ### The end of a session (R552) -/

/-- The session, its requests and its streams taken away. -/
def sessGone (s : State) (id : Nat) : State :=
  s.setMg { s.mg with
    sess := s.mg.sess.filter (fun y => y.id != id)
    reqs := s.mg.reqs.filter (fun q => q.session != id)
    streams := dropKeys s.mg.streams ((s.mg.streams.filter (fun kv => kv.2.session == id)).map (·.1)).contains
    recs := dropKeys s.mg.recs ((s.mg.streams.filter (fun kv => kv.2.session == id)).map (·.1)).contains }

/-- The store given up where it is the session's. -/
def storeGone (s : State) (id : Nat) : State := if (s.flask.store.map (·.session)) = some id then abandonStore s else s

/-- The session no longer counted. -/
def sessUncounted (s : State) : State := drsEvent (s.wr mpBase Reg.Mp.SESS_ACTIVE (s.rd mpBase Reg.Mp.SESS_ACTIVE - 1)) 1

theorem dropSession_some {s : State} {id : Nat} {k : SessSt} (h : sessOf s id = some k) : dropSession s id =
    if k.phase = .established then sessUncounted (storeGone (sessGone s id) id) else storeGone (sessGone s id) id := by
  simp only [dropSession, h]
  rfl

theorem dropSession_none {s : State} {id : Nat} (h : sessOf s id = none) : dropSession s id = s := by
  simp only [dropSession, h]

theorem mg_abandonStore (s : State) : (abandonStore s).mg = s.mg := by
  unfold abandonStore
  split <;> rfl

theorem store_abandonStore (s : State) : (abandonStore s).flask.store = none := by
  unfold abandonStore
  split
  · rfl
  next h => exact Option.not_isSome_iff_eq_none.mp h

theorem sessActive_abandonStore (s : State) : (abandonStore s).rd mpBase Reg.Mp.SESS_ACTIVE = s.rd mpBase Reg.Mp.SESS_ACTIVE := by
  unfold abandonStore
  split
  · rw [State.setEvt, State.rd_wr_other _ _ _ _ _ _ (by decide), State.rd_wr_other _ _ _ _ _ _ (by decide),
      State.rd_wr_other _ _ _ _ _ _ (by decide)]
    rfl
  · rfl

theorem mg_storeGone (s : State) (id : Nat) : (storeGone s id).mg = s.mg := by
  unfold storeGone
  split
  · exact mg_abandonStore s
  · rfl

theorem store_storeGone (s : State) (id : Nat) : (storeGone s id).flask.store.map (·.session) ≠ some id := by
  unfold storeGone
  split
  · rw [store_abandonStore]
    exact nofun
  · assumption

theorem sessActive_storeGone (s : State) (id : Nat) :
    (storeGone s id).rd mpBase Reg.Mp.SESS_ACTIVE = s.rd mpBase Reg.Mp.SESS_ACTIVE := by
  unfold storeGone
  split
  · exact sessActive_abandonStore s
  · rfl

theorem mg_dropSession {s : State} {id : Nat} {k : SessSt} (h : sessOf s id = some k) : (dropSession s id).mg = (sessGone s id).mg := by
  rw [dropSession_some h]
  split <;> exact mg_storeGone (sessGone s id) id

theorem store_dropSession {s : State} {id : Nat} {k : SessSt} (h : sessOf s id = some k) :
    (dropSession s id).flask.store.map (·.session) ≠ some id := by
  rw [dropSession_some h]
  split <;> exact store_storeGone (sessGone s id) id

theorem sessActive_dropSession {s : State} {id : Nat} {k : SessSt} (h : sessOf s id = some k) (hk : k.phase = .established) :
    (dropSession s id).rd mpBase Reg.Mp.SESS_ACTIVE = (s.rd mpBase Reg.Mp.SESS_ACTIVE - 1) % 2 ^ 4 := by
  rw [dropSession_some h, if_pos hk, sessUncounted, drsEvent, State.setEvt, State.rd_wr_apart _ _ _ (by decide), State.rd_wr_same,
    sessActive_storeGone]
  rfl

theorem sessOf_dropSession (s : State) (id : Nat) : sessOf (dropSession s id) id = none := by
  cases h : sessOf s id with
  | none => rw [dropSession_none h, h]
  | some k =>
    rw [sessOf, mg_dropSession h]
    exact List.find?_eq_none.mpr (fun x hx hid => by
      have hother := (List.mem_filter.mp hx).2
      simp only [beq_iff_eq] at hid
      simp [hid] at hother)

/-- No stream of the session is left. -/
theorem streams_sessGone (s : State) (id : Nat) : (sessGone s id).mg.streams.all (·.2.session != id) = true := by
  refine List.all_eq_true.mpr (fun kv hkv => ?_)
  obtain ⟨hmem, hkept⟩ := List.mem_filter.mp hkv
  rw [bne_iff_ne]
  intro hid
  have hgone : kv.1 ∈ (s.mg.streams.filter (fun kv => kv.2.session == id)).map (·.1) :=
    List.mem_map_of_mem (List.mem_filter.mpr ⟨hmem, beq_iff_eq.mpr hid⟩)
  rw [List.contains_iff_mem.mpr hgone] at hkept
  cases hkept

theorem reqs_sessGone (s : State) (id : Nat) : (sessGone s id).mg.reqs.all (·.session != id) = true :=
  List.all_eq_true.mpr (fun _ hq => (List.mem_filter.mp hq).2)

/-! ### Frames sent (R549, R555) -/

theorem sendOut_port (s : State) (p : Nat) (e : Nat → Emit) : sendOut s p e =
    if meLive s (respPort s p) then cnt1 (s.emit (e (respPort s p))) (.mgmtEth (idx 1 (respPort s p))) 0x101 else s := rfl

theorem sendSecured_live {s : State} {id : Nat} (port : Nat) {k : SessSt} (e : Nat → Nat → Emit) (h : liveSess s id = some k) :
    sendSecured s id port e =
      if 2 ^ 40 ≤ k.tx + 1 then dropSession (sendOut (setSess s { k with tx := k.tx + 1 }) port (fun q => e q k.tx)) id
      else sendOut (setSess s { k with tx := k.tx + 1 }) port (fun q => e q k.tx) := by
  simp only [sendSecured, h]

/-- Settles O48. Each request is answered by the step reached; the lemmas above say what goes with a session. -/
theorem spdmSessionsFollowTheirOrder : Obligations.SpdmSessionsFollowTheirOrder := by
  unfold Obligations.SpdmSessionsFollowTheirOrder
  refine ⟨?idle, ?steps, ?exchange, ?noSess, ?verify, ?noLive, ?live, fun id s => rfl, fun id s =>
    ⟨sessOf_dropSession s id, dropSession_none⟩, ?dropped, ?sendOut, ?secured⟩
  case idle =>
    intro p mac offers slot off n index id i s h hi
    simp only [List.mem_cons, List.not_mem_nil, or_false] at hi
    rcases hi with rfl | rfl | rfl | rfl | rfl | rfl | rfl | rfl
    · exact congrArg _ (spdmAt_idle h)
    · exact congrArg _ (spdmAt_idle h)
    · exact congrArg _ (spdmAt_idle h)
    · exact congrArg _ (spdmAt_idle h)
    · exact congrArg _ (spdmAt_idle h)
    · exact congrArg _ (spdmAt_idle h)
    · exact congrArg _ (spdmAt_idle h)
    · exact if_pos (by rcases h with h | h <;> simp [h])
  case steps =>
    intro p mac offers slot off n index s hserves hlive
    refine ⟨congrArg _ (spdmAt_answers hserves hlive (Nat.zero_le _)), fun h => congrArg _ (spdmAt_early hserves hlive h),
      fun h => congrArg _ (spdmAt_answers hserves hlive h), fun h => congrArg _ (spdmAt_early hserves hlive h), fun h => ?_, ?_, fun h => ?_⟩
    · refine (congrArg _ (spdmAt_answers hserves hlive h)).trans ?_
      cases offers <;> rfl
    · intro i h hi
      simp only [List.mem_cons, List.not_mem_nil, or_false] at hi
      rcases hi with rfl | rfl | rfl | rfl <;> exact congrArg _ (spdmAt_early hserves hlive h)
    · have hmeas : ∀ a, measAns s index.toNat = a →
          exec (.getMeasurements p mac index) s = .next (sendOut s p.val (fun q => .spdm q mac a)) := fun a ha =>
        (congrArg _ (spdmAt_answers hserves hlive h)).trans (ha ▸ rfl)
      refine ⟨congrArg _ (spdmAt_answers hserves hlive h), congrArg _ (spdmAt_answers hserves hlive h),
        congrArg _ (spdmAt_answers hserves hlive h), fun hi => hmeas _ (hi ▸ rfl), fun hlow hhigh => hmeas _ (measAns_block hlow hhigh),
        fun hi => hmeas _ (hi ▸ measAns_root s), fun hi => hmeas _ (hi ▸ rfl), fun hi => hmeas _ (hi ▸ measAns_all s),
        fun hlow hraw hall => hmeas _ (measAns_none hlow ?_ ?_)⟩
      · exact fun h => hraw (BitVec.eq_of_toNat_eq h)
      · exact fun h => hall (BitVec.eq_of_toNat_eq h)
  case exchange =>
    intro p mac id s hserves hlive
    have hgo : ¬ (!(mpServes s) || !(meLive s p.val)) = true := by simp [hserves, hlive]
    have hid : id.toNat = 0 ↔ id = 0 := ⟨fun h => BitVec.eq_of_toNat_eq h, fun h => h ▸ rfl⟩
    have hord : 3 ≤ lookD s.mg.spdm mac.toNat 0 → id ≠ 0 → sessOf s id.toNat = none →
        ¬ (lookD s.mg.spdm mac.toNat 0 < 3 ∨ id.toNat = 0 ∨ (sessOf s id.toNat).isSome = true) := by
      rintro hstep hnz hnew (h | h | h)
      · omega
      · exact hnz (hid.mp h)
      · rw [hnew] at h
        cases h
    refine ⟨fun h => (if_neg hgo).trans (if_pos ?_), fun hstep hnz hnew hfull => ?_, fun hstep hnz hnew hroom => ?_⟩
    · rw [hid, Option.isSome_iff_ne_none]
      exact h
    · exact (if_neg hgo).trans ((if_neg (hord hstep hnz hnew)).trans (if_pos hfull))
    · exact (if_neg hgo).trans ((if_neg (hord hstep hnz hnew)).trans (if_neg (not_le.mpr hroom)))
  case noSess =>
    intro id x good s h
    cases hk : sessOf s id.toNat with
    | none => exact ⟨by simp only [exec, execDeliverEncapsulatedResponse, hk], by simp only [exec, execFinish, hk]⟩
    | some k =>
      have hserves : mpServes s = false := h.resolve_right (by simp [hk])
      refine ⟨?_, ?_⟩
      · simp only [exec, execDeliverEncapsulatedResponse, hk]
        exact if_pos (by simp [hserves])
      · simp only [exec, execFinish, hk]
        exact if_pos (by simp [hserves])
  case verify =>
    intro id k good root x s hk hserves
    refine ⟨fun h => ?_, fun h => ?_, fun h hd => ?_, fun h hd hgood => ?_, fun h hd hbad => ?_, fun h => ?_, fun h => ?_, fun h => ?_⟩
    · simp only [exec, execDeliverEncapsulatedResponse, hk]
      exact if_pos (by simp [h])
    · simp [exec, execDeliverEncapsulatedResponse, hk, hserves, h]
    · simp [exec, execDeliverEncapsulatedResponse, hk, hserves, h, hd]
    · simp only [exec, execDeliverEncapsulatedResponse, hk, hserves, h, hd, hgood, Bool.not_true, Bool.false_or, ne_eq, not_true_eq_false,
        decide_false, Bool.false_eq_true, if_false, if_true]
    · simp only [exec, execDeliverEncapsulatedResponse, hk, hserves, h, hd, hbad, Bool.not_true, Bool.false_or, ne_eq, not_true_eq_false,
        decide_false, Bool.false_eq_true, if_false]
    · simp only [exec, execFinish, hk]
      exact if_pos (by simp [h])
    · simp [exec, execFinish, hk, hserves, h]
    · simp only [exec, execFinish, hk]
      rcases h with h | ⟨h, hbad⟩
      · simp [hserves, h]
      · simp [hserves, h, hbad]
  case noLive =>
    intro id s h
    exact ⟨congrArg _ (onSession_idle h), congrArg _ (onSession_idle h), congrArg _ (onSession_idle h)⟩
  case live =>
    intro id k s hk hserves
    exact ⟨congrArg _ (onSession_serves hk hserves), congrArg _ (onSession_serves hk hserves), congrArg _ (onSession_serves hk hserves)⟩
  case dropped =>
    intro id k s h
    refine ⟨?_, ?_, store_dropSession h, sessActive_dropSession h⟩
    · rw [mg_dropSession h]
      exact streams_sessGone s id
    · rw [mg_dropSession h]
      exact reqs_sessGone s id
  case sendOut =>
    intro s p e
    rw [sendOut_port]
    exact ⟨fun h => if_pos h, fun h => if_neg (Bool.eq_false_iff.mp h)⟩
  case secured =>
    intro id port k e s h
    rw [sendSecured_live port e h]
    exact ⟨fun hlow => if_neg (not_le.mpr hlow), fun hhigh => if_pos hhigh⟩

end Sys2Proof.Machine
end

section
/-!
PROOFS. Drisiul requests (R549, R555, R556): whether a frame is taken, the end of an operation, the answer, and which command the front
operation waits for.
-/
namespace Sys2Proof.Machine

/-! ### Requests taken (R549, R555, R556) -/

theorem seqFresh_iff (k : SessSt) (n : Nat) : seqFresh k n = true ↔
    k.high = none ∨ ∃ h, k.high = some h ∧ (h < n ∨ (n < h ∧ h ≤ n + 64 ∧ n ∉ k.seen)) := by
  unfold seqFresh
  cases k.high with
  | none => simp
  | some h => simp [and_assoc]

/-- The session as a frame with a good tag leaves it. -/
def heardAt (k : SessSt) (q : DrsReq) (now : Nat) : SessSt := { seqTaken k q.seq.toNat with port := q.port.val, heard := now }

/-- The run of a request. -/
def requestRun (k : SessSt) (q : DrsReq) : ReqRun :=
  { session := k.id, mac := q.mac, port := q.port.val, reqId := beAt q.msg 0 4, count := beAt q.msg 4 4 % 2 ^ 16
    heads := (opsOf (beAt q.msg 4 4 % 2 ^ 16) (q.msg.drop 8)).map Prod.fst
    left := (opsOf (beAt q.msg 4 4 % 2 ^ 16) (q.msg.drop 8)).map Prod.snd, done_ := [], since := none }

/-- The request waits behind those before it, and what can be answered is answered. -/
def requestTaken (s : State) (r : ReqRun) : State :=
  settleReqs (reqFuel (s.setMg { s.mg with reqs := s.mg.reqs ++ [r] })) (s.setMg { s.mg with reqs := s.mg.reqs ++ [r] })

/-- The session's last response leaves again. -/
def answeredAgain (s : State) (k : SessSt) (q : DrsReq) (msg : List Byte) : State :=
  sendSecured s k.id q.port.val (fun p seq => .secured p (securedFrame s q.mac k.id seq 1 msg))

section
variable {q : DrsReq} {k : SessSt} {s : State} (hserves : mpServes s = true) (hlive : meLive s q.port.val = true)
include hserves hlive

theorem exec_drisiulRequest_noSession (hk : liveSess s q.session.toNat = none) : exec (.drisiulRequest q) s = .next (badTag s) := by
  simp only [exec, execDrisiulRequest, hserves, hlive, hk, Bool.not_true, Bool.or_self, Bool.false_eq_true, if_false]

variable (hk : liveSess s q.session.toNat = some k)
include hk

theorem exec_drisiulRequest_bad (h : q.tagGood = false ∨ seqFresh k q.seq.toNat = false) :
    exec (.drisiulRequest q) s = .next (badTag s) := by
  simp only [exec, execDrisiulRequest, hserves, hlive, hk, Bool.not_true, Bool.or_self, Bool.false_eq_true, if_false]
  exact if_pos (by rcases h with h | h <;> simp [h])

theorem exec_drisiulRequest_spent (htag : q.tagGood = true) (hfresh : seqFresh k q.seq.toNat = true) (hspent : 2 ^ 40 ≤ q.seq.toNat) :
    exec (.drisiulRequest q) s = .next (dropSession s k.id) := by
  simp only [exec, execDrisiulRequest, hserves, hlive, hk, htag, hfresh, Bool.not_true, Bool.or_self, Bool.false_eq_true, if_false]
  exact if_pos hspent

/-- A good frame's request is a duplicate, answered again, or taken, by the session's requests and its last response. -/
theorem exec_drisiulRequest_good (htag : q.tagGood = true) (hfresh : seqFresh k q.seq.toNat = true) (hseq : q.seq.toNat < 2 ^ 40) :
    exec (.drisiulRequest q) s =
      if s.mg.reqs.any (fun x => x.session == k.id) then .next ((setSess s (heardAt k q s.now)).bump mpBase Reg.Mp.REQ_DUP_CNT)
      else match k.last with
        | none => .next (requestTaken (setSess s (heardAt k q s.now)) (requestRun k q))
        | some (n, msg) =>
          if beAt q.msg 0 4 = n then
            .next (answeredAgain ((setSess s (heardAt k q s.now)).bump mpBase Reg.Mp.REQ_DUP_CNT) k q msg)
          else if ringDist (beAt q.msg 0 4) n < 2 ^ 31 then .next (requestTaken (setSess s (heardAt k q s.now)) (requestRun k q))
          else .next ((setSess s (heardAt k q s.now)).bump mpBase Reg.Mp.REQ_DUP_CNT) := by
  simp only [exec, execDrisiulRequest, hserves, hlive, hk, htag, hfresh, Bool.not_true, Bool.or_self, Bool.false_eq_true, if_false]
  exact if_neg (not_le.mpr hseq)

end

/-! ### The end of an operation and the answer (R555, R556) -/

section
variable {q : ReqRun} {o : DrsOp} {rest : List DrsOp} {l : List ReqRun} {s : State}

/-- The request once its front operation has ended: the rest goes on after STATUS 0 and is skipped otherwise. -/
def opEnded (q : ReqRun) (o : DrsOp) (rest : List DrsOp) (status : Nat) (data : List (BitVec 32)) : ReqRun :=
  if status = 0 then
    { q with left := rest, since := none, done_ := q.done_ ++ [{ op := opCode o, status := status, data := data }] }
  else
    { q with
      left := []
      since := none
      done_ := q.done_ ++ [{ op := opCode o, status := status, data := data }] ++
        rest.map (fun x => { op := opCode x, status := 8, data := [] }) }

theorem endOp_eq (hreqs : s.mg.reqs = q :: l) (hleft : q.left = o :: rest) (status : Nat) (data : List (BitVec 32)) :
    endOp s status data = s.setMg { s.mg with reqs := opEnded q o rest status data :: l } := by
  simp only [endOp, hreqs, hleft, setFront, List.drop_succ_cons, List.drop_zero, opEnded, drsOk, drsSkipped]
  by_cases hok : status = 0
  · simp only [if_pos hok]
  · simp only [if_neg hok]

theorem settleReqs_none {n : Nat} (h : s.mg.reqs = []) : settleReqs n s = s := by
  cases n with
  | zero => rfl
  | succ n => simp only [settleReqs, h]

theorem settleReqs_named {n : Nat} (hreqs : s.mg.reqs = q :: l) (hnamed : q.left.head?.any opNamed = true) : settleReqs n s = s := by
  cases n with
  | zero => rfl
  | succ n =>
    cases hleft : q.left with
    | nil => simp [hleft] at hnamed
    | cons o rest =>
      rw [hleft, List.head?_cons, Option.any_some] at hnamed
      cases o <;> simp only [settleReqs, hreqs, hleft] <;> cases hnamed

theorem reqFuel_pos (hreqs : s.mg.reqs = q :: l) : 0 < reqFuel s := by
  have hgrows : ∀ (l : List ReqRun) (m : Nat), m ≤ l.foldl (fun m q => m + 2 + q.left.length) m := by
    intro l
    induction l with
    | nil => exact fun m => le_refl m
    | cons q l ih => exact fun m => le_trans (by omega) (ih (m + 2 + q.left.length))
  rw [reqFuel, hreqs, List.foldl_cons]
  exact lt_of_lt_of_le (by omega) (hgrows l _)

theorem mg_cnt1 (s : State) (u : UnitId) (code : Nat) : (cnt1 s u code).mg = s.mg :=
  (countEv_regsOnly s u (CntEvent.plain code 1)).same_view State.mg

theorem reqs_sendOut (s : State) (p : Nat) (e : Nat → Emit) : (sendOut s p e).mg.reqs = s.mg.reqs := by
  rw [sendOut_port]
  split
  · rw [mg_cnt1]
    rfl
  · rfl

theorem reqs_dropSession_of_none (id : Nat) (h : s.mg.reqs = []) : (dropSession s id).mg.reqs = [] := by
  cases hk : sessOf s id with
  | none => rw [dropSession_none hk, h]
  | some k =>
    rw [mg_dropSession hk]
    exact (congrArg (List.filter (fun q => q.session != id)) h : _)

theorem reqs_sendSecured_of_none (id port : Nat) (e : Nat → Nat → Emit) (h : s.mg.reqs = []) :
    (sendSecured s id port e).mg.reqs = [] := by
  cases hk : liveSess s id with
  | none => simp only [sendSecured, hk, h]
  | some k =>
    have hsent : (sendOut (setSess s { k with tx := k.tx + 1 }) port (fun q => e q k.tx)).mg.reqs = [] := (reqs_sendOut ..).trans h
    rw [sendSecured_live port e hk]
    split
    · exact reqs_dropSession_of_none id hsent
    · exact hsent

/-- The answer of the only request leaves none. -/
theorem reqs_answerReq_last (h : s.mg.reqs.drop 1 = []) : (answerReq s q).mg.reqs = [] := by
  simp only [answerReq]
  split
  · exact h
  · exact reqs_sendSecured_of_none _ _ _ h

/-- The last operation of the only request: the request is answered. -/
theorem settleReqs_last {n : Nat} (hreqs : s.mg.reqs = [q]) (hleft : q.left = []) (hn : 0 < n) : settleReqs n s = answerReq s q := by
  obtain ⟨n, rfl⟩ := Nat.exists_eq_succ_of_ne_zero (Nat.ne_of_gt hn)
  simp only [settleReqs, hreqs, hleft]
  exact settleReqs_none (reqs_answerReq_last (by rw [hreqs]; rfl))

theorem answerReq_gone (h : liveSess (s.setMg { s.mg with reqs := s.mg.reqs.drop 1 }) q.session = none) :
    answerReq s q = s.setMg { s.mg with reqs := s.mg.reqs.drop 1 } := by
  simp only [answerReq, h]

theorem answerReq_live {k : SessSt} (h : liveSess (s.setMg { s.mg with reqs := s.mg.reqs.drop 1 }) q.session = some k) :
    let u := setSess (s.setMg { s.mg with reqs := s.mg.reqs.drop 1 }) { k with last := some (q.reqId, responseBytes q) }
    answerReq s q = sendSecured u k.id q.port (fun p seq => .secured p (securedFrame u q.mac k.id seq 1 (responseBytes q))) := by
  simp only [answerReq, h]

/-! ### The command that the front operation waits for (R555, R557) -/

theorem opDenied_iff : opDenied s q o = false ↔ ((∃ k, liveSess s q.session = some k ∧ k.full = true) ∨ provisioning o = true) ∧
    (s.on flaskBase Reg.Flk.BANK_STATUS_RECOVERY = false ∨ recoveryServes o = true) := by
  have hfull : ((liveSess s q.session).map (·.full)).getD false = true ↔ ∃ k, liveSess s q.session = some k ∧ k.full = true := by
    cases liveSess s q.session with
    | none => simp
    | some k => simp
  rw [← hfull, opDenied, Bool.or_eq_false_iff, Bool.and_eq_false_iff, Bool.not_eq_false', Bool.not_eq_false', Bool.or_eq_true]

/-- The OP code of an operation of R557's table. -/
def namedCode (o : DrsOp) : Option Nat := if opNamed o then some (opCode o) else none

theorem namedCode_of {code : Nat} (hcode : opCode o = code) (hnamed : opNamed o = true) : namedCode o = some code := by
  rw [namedCode, if_pos hnamed, hcode]

theorem namedCode_ne {code : Nat} (h : opCode o ≠ code ∨ opNamed o = false) : namedCode o ≠ some code := by
  intro heq
  rw [namedCode] at heq
  split at heq
  next hnamed => exact h.elim (fun hne => hne (Option.some.inj heq)) (fun hno => by simp [hno] at hnamed)
  next => cases heq

/-- `o` is the front operation, the management processor serves, and the session may run it. -/
structure Front (s : State) (q : ReqRun) (o : DrsOp) : Prop where
  serves : mpServes s = true
  reqs : s.mg.reqs.head? = some q
  left : q.left.head? = some o
  granted : opDenied s q o = false

variable {pick : ReqRun → DrsOp → Option State}

theorem onFront_idle (h : mpServes s = false ∨ s.mg.reqs = []) : onFront s pick = .next s := by
  unfold onFront
  split
  · rfl
  next hserves =>
    rw [h.resolve_left (by simpa using hserves)]

theorem onFront_done (hreqs : s.mg.reqs = q :: l) (hleft : q.left = []) : onFront s pick = .next s := by
  simp only [onFront, hreqs, hleft, ite_self]

theorem onFront_other (hreqs : s.mg.reqs = q :: l) (hleft : q.left = o :: rest) (hpick : pick q o = none) :
    onFront s pick = .next s := by
  simp only [onFront, hreqs, hleft, hpick, ite_self]

theorem onFront_denied (hserves : mpServes s = true) (hreqs : s.mg.reqs = q :: l) (hleft : q.left = o :: rest)
    (hpick : (pick q o).isSome = true) (hdenied : opDenied s q o = true) : onFront s pick = .next (finishOp s 2 []) := by
  obtain ⟨t, ht⟩ := Option.isSome_iff_exists.mp hpick
  simp only [onFront, hserves, hreqs, hleft, ht, hdenied, Bool.not_true, Bool.false_eq_true, if_false, if_true, drsDenied]

theorem onFront_runs (h : Front s q o) {t : State} (hpick : pick q o = some t) : onFront s pick = .next t := by
  obtain ⟨hserves, hreqs, hleft, hgranted⟩ := h
  obtain ⟨l, hl⟩ := List.head?_eq_some_iff.mp hreqs
  obtain ⟨rest, hrest⟩ := List.head?_eq_some_iff.mp hleft
  simp only [onFront, hserves, hl, hrest, hpick, hgranted, Bool.not_true, Bool.false_eq_true, if_false]

/-- The outcome is that of a command which runs the front operation of this code and no other. -/
def FrontCommand (s : State) (code : Nat) (out : Host.Outcome State Fault Refusal) : Prop :=
  ∃ pick, out = onFront s pick ∧ ∀ q o, (pick q o).isSome = true ↔ namedCode o = some code

variable {code : Nat} {out : Host.Outcome State Fault Refusal}

theorem FrontCommand.idle (hout : FrontCommand s code out) (h : mpServes s = false ∨ s.mg.reqs = []) : out = .next s := by
  obtain ⟨pick, rfl, -⟩ := hout
  exact onFront_idle h

theorem FrontCommand.done (hout : FrontCommand s code out) (hreqs : s.mg.reqs = q :: l) (hleft : q.left = []) : out = .next s := by
  obtain ⟨pick, rfl, -⟩ := hout
  exact onFront_done hreqs hleft

theorem FrontCommand.other (hout : FrontCommand s code out) (hreqs : s.mg.reqs = q :: l) (hleft : q.left = o :: rest)
    (h : opCode o ≠ code ∨ opNamed o = false) : out = .next s := by
  obtain ⟨pick, rfl, hpick⟩ := hout
  exact onFront_other hreqs hleft (Option.not_isSome_iff_eq_none.mp (mt (hpick q o).mp (namedCode_ne h)))

theorem FrontCommand.denied (hout : FrontCommand s code out) (hserves : mpServes s = true) (hreqs : s.mg.reqs = q :: l)
    (hleft : q.left = o :: rest) (hcode : opCode o = code) (hnamed : opNamed o = true) (hdenied : opDenied s q o = true) :
    out = .next (finishOp s 2 []) := by
  obtain ⟨pick, rfl, hpick⟩ := hout
  exact onFront_denied hserves hreqs hleft ((hpick q o).mpr (namedCode_of hcode hnamed)) hdenied

end

end Sys2Proof.Machine
end

section
/-!
PROOFS. The fourteen operations of a Drisiul request (R557 to R562): each command waits for the front operation of its own code.
-/
namespace Sys2Proof.Machine

/-! ### One command for each code (R557) -/

section
variable (s : State)

theorem regRead_front : FrontCommand s 1 (exec .regRead s) := by
  refine ⟨_, rfl, fun q o => ?_⟩
  cases o with
  | regRead off n => exact iff_of_true (by simp only [apply_ite Option.isSome, Option.isSome_some, ite_self]) rfl
  | _ => exact iff_of_false Bool.false_ne_true (by simp [namedCode, opNamed, opCode])

theorem regWrite_front : FrontCommand s 2 (exec .regWrite s) := by
  refine ⟨_, rfl, fun q o => ?_⟩
  cases o with
  | regWrite off ws => exact iff_of_true (by simp only [apply_ite Option.isSome, Option.isSome_some, ite_self]) rfl
  | _ => exact iff_of_false Bool.false_ne_true (by simp [namedCode, opNamed, opCode])

theorem regRmw_front : FrontCommand s 3 (exec .regRmw s) := by
  refine ⟨_, rfl, fun q o => ?_⟩
  cases o with
  | regRmw off mask v => exact iff_of_true (by simp only [apply_ite Option.isSome, Option.isSome_some, ite_self]) rfl
  | _ => exact iff_of_false Bool.false_ne_true (by simp [namedCode, opNamed, opCode])

theorem poll_front : FrontCommand s 4 (exec .poll s) := by
  refine ⟨_, rfl, fun q o => ?_⟩
  cases o with
  | poll off mask v tmo => exact iff_of_true (by simp only [apply_ite Option.isSome, Option.isSome_some, ite_self]) rfl
  | _ => exact iff_of_false Bool.false_ne_true (by simp [namedCode, opNamed, opCode])

theorem pollEnd_front (late : Bool) : FrontCommand s 4 (exec (.pollEnd late) s) := by
  refine ⟨_, rfl, fun q o => ?_⟩
  cases o with
  | poll off mask v tmo => exact iff_of_true (by simp only [apply_ite Option.isSome, Option.isSome_some, ite_self]) rfl
  | _ => exact iff_of_false Bool.false_ne_true (by simp [namedCode, opNamed, opCode])

theorem commit_front : FrontCommand s 5 (exec .commit s) := by
  refine ⟨_, rfl, fun q o => ?_⟩
  cases o with
  | commit g tmo => exact iff_of_true (by simp only [apply_ite Option.isSome, Option.isSome_some, ite_self]) rfl
  | _ => exact iff_of_false Bool.false_ne_true (by simp [namedCode, opNamed, opCode])

theorem commitWaitEnd_front (late : Bool) : FrontCommand s 5 (exec (.commitWaitEnd late) s) := by
  refine ⟨_, rfl, fun q o => ?_⟩
  cases o with
  | commit g tmo => exact iff_of_true (by simp only [apply_ite Option.isSome, Option.isSome_some, ite_self]) rfl
  | _ => exact iff_of_false Bool.false_ne_true (by simp [namedCode, opNamed, opCode])

theorem atlasLoad_front : FrontCommand s 16 (exec .atlasLoad s) := by
  refine ⟨_, rfl, fun q o => ?_⟩
  cases o with
  | atlasLoad x v f i ws => exact iff_of_true rfl rfl
  | _ => exact iff_of_false Bool.false_ne_true (by simp [namedCode, opNamed, opCode])

theorem atlasRead_front : FrontCommand s 17 (exec .atlasRead s) := by
  refine ⟨_, rfl, fun q o => ?_⟩
  cases o with
  | atlasRead x v i n => exact iff_of_true rfl rfl
  | _ => exact iff_of_false Bool.false_ne_true (by simp [namedCode, opNamed, opCode])

theorem stream_front : FrontCommand s 32 (exec .stream s) := by
  refine ⟨_, rfl, fun q o => ?_⟩
  cases o with
  | stream st on rate d => exact iff_of_true (by simp only [apply_ite Option.isSome, Option.isSome_some, ite_self]) rfl
  | _ => exact iff_of_false Bool.false_ne_true (by simp [namedCode, opNamed, opCode])

theorem fmapi_front : FrontCommand s 48 (exec .fmapi s) := by
  refine ⟨_, rfl, fun q o => ?_⟩
  cases o with
  | fmapi c => exact iff_of_true (by simp only [apply_ite Option.isSome, Option.isSome_some, ite_self]) rfl
  | _ => exact iff_of_false Bool.false_ne_true (by simp [namedCode, opNamed, opCode])

theorem storeOpen_front (fault : Bool) : FrontCommand s 64 (exec (.storeOpen fault) s) := by
  refine ⟨_, rfl, fun q o => ?_⟩
  cases o with
  | storeOpen cfg n => exact iff_of_true (by simp only [apply_ite Option.isSome, Option.isSome_some, ite_self]) rfl
  | _ => exact iff_of_false Bool.false_ne_true (by simp [namedCode, opNamed, opCode])

theorem storeData_front (fault : Bool) : FrontCommand s 65 (exec (.storeData fault) s) := by
  refine ⟨_, rfl, fun q o => ?_⟩
  cases o with
  | storeData off b =>
    refine iff_of_true ?_ rfl
    cases s.flask.store <;> simp only [apply_ite Option.isSome, Option.isSome_some, ite_self]
  | _ => exact iff_of_false Bool.false_ne_true (by simp [namedCode, opNamed, opCode])

theorem storeClose_front (sig fault : Bool) : FrontCommand s 66 (exec (.storeClose sig fault) s) := by
  refine ⟨_, rfl, fun q o => ?_⟩
  cases o with
  | storeClose =>
    refine iff_of_true ?_ rfl
    cases s.flask.store <;> simp only [apply_ite Option.isSome, Option.isSome_some, ite_self]
  | _ => exact iff_of_false Bool.false_ne_true (by simp [namedCode, opNamed, opCode])

theorem cfgSave_front (fault : Bool) : FrontCommand s 67 (exec (.cfgSave fault) s) := by
  refine ⟨_, rfl, fun q o => ?_⟩
  cases o with
  | cfgSave => exact iff_of_true (by simp only [apply_ite Option.isSome, Option.isSome_some, ite_self]) rfl
  | _ => exact iff_of_false Bool.false_ne_true (by simp [namedCode, opNamed, opCode])

theorem storeAbort_front : FrontCommand s 68 (exec .storeAbort s) := by
  refine ⟨_, rfl, fun q o => ?_⟩
  cases o with
  | storeAbort =>
    refine iff_of_true ?_ rfl
    cases s.flask.store <;> simp only [apply_ite Option.isSome, Option.isSome_some, ite_self]
  | _ => exact iff_of_false Bool.false_ne_true (by simp [namedCode, opNamed, opCode])

end

end Sys2Proof.Machine
end

section
/-!
PROOFS. What each Drisiul operation does when it is the front one and the session may run it (R557 to R562).
-/
namespace Sys2Proof.Machine

theorem badOffset_iff (off n : Nat) : badOffset off n = true ↔ 2 ^ 28 < off + 4 * n := decide_eq_true_iff

theorem flaskFails_iff (s : State) (fault : Bool) : flaskFails s fault = true ↔ fault = true ∨ unitOff s .flask = true := by
  rw [flaskFails, Bool.or_eq_true]

section
variable {q : ReqRun} {s : State}

/-! ### Register operations (R557) -/

theorem regRead_runs {off n : BitVec 32} (h : Front s q (.regRead off n)) : exec .regRead s = .next (
    if n.toNat = 0 ∨ 2048 < n.toNat ∨ 2 ^ 28 < off.toNat + 4 * n.toNat then finishOp s 3 []
    else if fitsResponse q n.toNat = false then finishOp s 9 []
    else finishOp (readWords n.toNat s off.toNat []).2 0 (readWords n.toNat s off.toNat []).1) :=
  onFront_runs h (by simp only [badOffset_iff, Bool.not_eq_true', apply_ite some, drsBadArg, drsTooLong, drsOk])

theorem regWrite_runs {off : BitVec 32} {ws : List (BitVec 32)} (h : Front s q (.regWrite off ws)) : exec .regWrite s = .next (
    if ws = [] ∨ 2 ^ 28 < off.toNat + 4 * ws.length then finishOp s 3 []
    else finishOp (writeWords ws s off.toNat).2
      (if (writeWords ws s off.toNat).1 = false then 2 else if off.toNat % 4 ≠ 0 then 3 else 0) []) :=
  onFront_runs h (by simp only [badOffset_iff, List.isEmpty_iff, Bool.not_eq_true', apply_ite some, drsBadArg, drsDenied, drsOk])

/-- The word that a read and modification writes. -/
def rmwWord (s : State) (off mask value : BitVec 32) : BitVec 32 :=
  (BitVec.ofNat 32 (busRead s .drisiul off.toNat).1 &&& ~~~mask) ||| (value &&& mask)

theorem regRmw_runs {off mask value : BitVec 32} (h : Front s q (.regRmw off mask value)) : exec .regRmw s = .next (
    if 2 ^ 28 < off.toNat + 4 then finishOp s 3 []
    else if fitsResponse q 1 = false then finishOp s 9 []
    else if writeRefused s .drisiul off.toNat 15 = some .denied then
      finishOp (drsWrite (busRead s .drisiul off.toNat).2 off.toNat (rmwWord s off mask value)) 2 []
    else if off.toNat % 4 ≠ 0 then finishOp (drsWrite (busRead s .drisiul off.toNat).2 off.toNat (rmwWord s off mask value)) 3 []
    else finishOp (drsWrite (busRead s .drisiul off.toNat).2 off.toNat (rmwWord s off mask value)) 0
      [BitVec.ofNat 32 (busRead s .drisiul off.toNat).1]) :=
  onFront_runs h (by simp only [badOffset_iff, Nat.mul_one, Bool.not_eq_true', apply_ite some, drsBadArg, drsTooLong, drsDenied, drsOk,
    rmwWord])

theorem poll_runs {off mask value tmo : BitVec 32} (h : Front s q (.poll off mask value tmo)) : exec .poll s = .next (
    if q.since ≠ none then s
    else if tmo.toNat = 0 ∨ 1000000 < tmo.toNat ∨ 2 ^ 28 < off.toNat + 4 then finishOp s 3 []
    else if fitsResponse q 1 = false then finishOp s 9 []
    else setFront s { q with since := some s.now }) :=
  onFront_runs h (by simp only [badOffset_iff, Nat.mul_one, Option.isSome_iff_ne_none, Bool.not_eq_true', apply_ite some, drsBadArg,
    drsTooLong])

theorem pollEnd_runs {off mask value tmo : BitVec 32} (late : Bool) (h : Front s q (.poll off mask value tmo)) :
    exec (.pollEnd late) s = .next (
    if q.since = none then s
    else if BitVec.ofNat 32 (busRead s .drisiul off.toNat).1 &&& mask = value then
      finishOp (busRead s .drisiul off.toNat).2 0 [BitVec.ofNat 32 (busRead s .drisiul off.toNat).1]
    else if late = true then finishOp (busRead s .drisiul off.toNat).2 4 [BitVec.ofNat 32 (busRead s .drisiul off.toNat).1]
    else (busRead s .drisiul off.toNat).2) :=
  onFront_runs h (by simp only [Option.isNone_iff_eq_none, apply_ite some, drsOk, drsTimeout])

theorem commit_runs {g tmo : BitVec 32} (h : Front s q (.commit g tmo)) : exec .commit s = .next (
    if q.since ≠ none then s
    else if fitsResponse q 1 = false then finishOp s 9 []
    else setFront (drsWrite s 0x60 g) { q with since := some s.now }) :=
  onFront_runs h (by simp only [Option.isSome_iff_ne_none, Bool.not_eq_true', apply_ite some, drsTooLong])

theorem commitWaitEnd_runs {g tmo : BitVec 32} (late : Bool) (h : Front s q (.commit g tmo)) : exec (.commitWaitEnd late) s = .next (
    if q.since = none then s
    else if BitVec.ofNat 32 (s.rd 0 Reg.Root.CMT_STATUS) &&& g = 0 then
      finishOp s 0 [BitVec.ofNat 32 (s.rd 0 Reg.Root.CMT_STATUS)]
    else if late = true then finishOp s 4 [BitVec.ofNat 32 (s.rd 0 Reg.Root.CMT_STATUS)]
    else s) :=
  onFront_runs h (by simp only [Option.isNone_iff_eq_none, apply_ite some, drsOk, drsTimeout])

/-! ### Atlas operations (R557, R558) -/

/-- The three Atlas tables: number, entries, words of an entry, and the place of the first. -/
def atlasTables : List (BitVec 2 × Nat × Nat × Nat) := [(0, 2048, 4, 0x10000), (1, 32, 4, 0x18000), (2, 256, 1, 0x19000)]

theorem atlasTable_mem {x : BitVec 2 × Nat × Nat × Nat} (hx : x ∈ atlasTables) (v : Nat) :
    atlasTable x.1.toNat v = some (x.2.1, x.2.2.1, fun i => atBase + x.2.2.2 + 0x10000 * v + 4 * x.2.2.1 * i) := by
  simp only [atlasTables, List.mem_cons, List.not_mem_nil, or_false] at hx
  rcases hx with rfl | rfl | rfl <;> rfl

theorem atlasLoad_noTable {v : Fin 2} {force : Bool} {first : BitVec 11} {ws : List (BitVec 32)}
    (h : Front s q (.atlasLoad 3 v force first ws)) : exec .atlasLoad s = .next (finishOp s 3 []) := onFront_runs h rfl

theorem atlasRead_noTable {v : Fin 2} {first : BitVec 11} {n : BitVec 32}
    (h : Front s q (.atlasRead 3 v first n)) : exec .atlasRead s = .next (finishOp s 3 []) := onFront_runs h rfl

theorem atlasLoad_runs {x : BitVec 2 × Nat × Nat × Nat} (hx : x ∈ atlasTables) {v : Fin 2} {force : Bool} {first : BitVec 11}
    {ws : List (BitVec 32)} (h : Front s q (.atlasLoad x.1 v force first ws)) : exec .atlasLoad s = .next (
    if ws = [] ∨ ws.length % x.2.2.1 ≠ 0 ∨ x.2.1 < first.toNat + ws.length / x.2.2.1 then finishOp s 3 []
    else if s.rd 0 Reg.Root.INJ_EPOCH_EPOCH = v.val ∧ force = false then finishOp s 5 []
    else finishOp (loadEntries s x.2.2.1 (fun i => atBase + x.2.2.2 + 0x10000 * v.val + 4 * x.2.2.1 * (first.toNat + i)) ws) 0 []) :=
  onFront_runs h (by simp only [atlasTable_mem hx, List.isEmpty_iff, Bool.not_eq_true', drsBadArg, drsBusy, drsOk])

theorem atlasRead_runs {x : BitVec 2 × Nat × Nat × Nat} (hx : x ∈ atlasTables) {v : Fin 2} {first : BitVec 11} {n : BitVec 32}
    (h : Front s q (.atlasRead x.1 v first n)) : exec .atlasRead s = .next (
    if n = 0 ∨ x.2.1 < first.toNat + n.toNat then finishOp s 3 []
    else if fitsResponse q (x.2.2.1 * n.toNat) = false then finishOp s 9 []
    else finishOp s 0 ((List.range (x.2.2.1 * n.toNat)).map (fun k => BitVec.ofNat 32
      (readWord s (atBase + x.2.2.2 + 0x10000 * v.val + 4 * x.2.2.1 * first.toNat + 4 * k))))) :=
  onFront_runs h (by simp only [atlasTable_mem hx, Bool.not_eq_true', drsBadArg, drsTooLong, drsOk])

/-! ### Streams and the FM API (R559, R562) -/

/-- The rate and the decimation of a stream may stand. -/
def streamGood (rate decim : BitVec 32) : Prop := 0 < rate.toNat ∧ rate.toNat ≤ 10000 ∧ 0 < decim.toNat ∧ decim.toNat ≤ 65535

theorem streamGood_iff (rate decim : BitVec 32) :
    ¬ (rate.toNat = 0 ∨ 10000 < rate.toNat ∨ decim.toNat = 0 ∨ 65535 < decim.toNat) ↔ streamGood rate decim := by
  rw [streamGood]
  omega

/-- The stream enabled for the session; its records stay where the session held it before. -/
def streamEnabled (s : State) (q : ReqRun) (st : BitVec 4) (rate decim : BitVec 32) : State :=
  s.setMg { s.mg with
    streams := put s.mg.streams st.toNat { session := q.session, rate := rate.toNat, decim := decim.toNat, count := 0 }
    recs := if (look s.mg.streams st.toNat).map (·.session) = some q.session then s.mg.recs else del s.mg.recs st.toNat }

theorem stream_runs {st : BitVec 4} {on : Bool} {rate decim : BitVec 32} (h : Front s q (.stream st on rate decim)) :
    exec .stream s = .next (
    if 3 < st.toNat then finishOp s 3 []
    else if on = true then
      if rate.toNat = 0 ∨ 10000 < rate.toNat ∨ decim.toNat = 0 ∨ 65535 < decim.toNat then finishOp s 3 []
      else finishOp (streamEnabled s q st rate decim) 0 []
    else if (look s.mg.streams st.toNat).map (·.session) = some q.session then
      finishOp (s.setMg { s.mg with streams := del s.mg.streams st.toNat, recs := del s.mg.recs st.toNat }) 0 []
    else finishOp s 0 []) :=
  onFront_runs h (by simp only [beq_iff_eq, apply_ite some, drsBadArg, drsOk, streamEnabled])

theorem fmapi_runs {c : FmCmd} (h : Front s q (.fmapi c)) : exec .fmapi s = .next (
    if fitsResponse q (1 + (dataWords (runFm s c).1.2).length) = true then
      finishOp (runFm s c).2 0 (BitVec.ofNat 32 (runFm s c).1.1 :: dataWords (runFm s c).1.2)
    else finishOp s 9 []) :=
  onFront_runs h (by simp only [apply_ite some, drsTooLong, drsOk])

/-! ### Stores (R560, R573 to R578) -/

/-- The target bank of an area made invalid, before an image is stored. -/
def bankOpened (s : State) (cfg : Bool) : State :=
  showBank (setBank s cfg (targetBank s cfg) (zeroUnit (bankOf s cfg (targetBank s cfg)))) cfg (targetBank s cfg) false

theorem storeOpen_runs {cfg : Bool} {n : BitVec 32} (fault : Bool) (h : Front s q (.storeOpen cfg n)) :
    exec (.storeOpen fault) s = .next (
    if s.flask.store ≠ none then finishOp s 5 []
    else if lengthGood cfg n.toNat = false then finishOp s 3 []
    else if fault = true ∨ unitOff s .flask = true then finishOp (flaskEvent s 4) 6 []
    else finishOp (flaskEvent (setStore (bankOpened s cfg) (some ⟨cfg, targetBank s cfg, q.session, n.toNat, 0⟩)) 0) 0 []) :=
  onFront_runs h (by simp only [Option.isSome_iff_ne_none, flaskFails_iff, Bool.not_eq_true', apply_ite some, drsBadArg, drsBusy, drsOk,
    storeFault, drsStoreFault, bankOpened])

theorem storeData_none {off : BitVec 32} {bytes : List Byte} (fault : Bool) (h : Front s q (.storeData off bytes))
    (hstore : s.flask.store = none) : exec (.storeData fault) s = .next (finishOp s 3 []) :=
  onFront_runs h (by simp only [hstore, drsBadArg])

/-- Image bytes put into the bank of an open store. -/
def storeFilled (s : State) (x : StoreOpen) (off : BitVec 32) (bytes : List Byte) : State :=
  setStore (setBank s x.cfgArea x.bankB { bankOf s x.cfgArea x.bankB with
      image := overwrite (bankOf s x.cfgArea x.bankB).image off.toNat bytes })
    (some { x with written := Nat.max x.written (off.toNat + bytes.length) })

theorem storeData_runs {off : BitVec 32} {bytes : List Byte} (fault : Bool) (h : Front s q (.storeData off bytes)) {x : StoreOpen}
    (hstore : s.flask.store = some x) : exec (.storeData fault) s = .next (
    if x.session ≠ q.session then finishOp s 5 []
    else if bytes.length % 4 ≠ 0 ∨ off.toNat % 4 ≠ 0 ∨ x.total < off.toNat + bytes.length then finishOp s 3 []
    else if fault = true ∨ unitOff s .flask = true then finishOp (flaskEvent s 4) 6 []
    else finishOp (storeFilled s x off bytes) 0 []) :=
  onFront_runs h (by simp only [hstore, flaskFails_iff, apply_ite some, drsBadArg, drsBusy, drsOk, storeFault, drsStoreFault, storeFilled])

theorem storeClose_none (sig fault : Bool) (h : Front s q .storeClose) (hstore : s.flask.store = none) :
    exec (.storeClose sig fault) s = .next (finishOp s 3 []) :=
  onFront_runs h (by simp only [hstore, drsBadArg])

/-- The image of an open store. -/
def storedImage (s : State) (x : StoreOpen) : List Byte := (bankOf s x.cfgArea x.bankB).image.take x.total

/-- The image of an open store may become a bank (R574, R575, R583). -/
def closeGood (s : State) (sig : Bool) (x : StoreOpen) : Bool :=
  x.cfgArea || (sig && prologueGood (storedImage s x) x.total && minSvn s ≤ imageSvn (storedImage s x))

theorem closeGood_iff (s : State) (sig : Bool) (x : StoreOpen) : closeGood s sig x = true ↔
    x.cfgArea = true ∨ (sig = true ∧ prologueGood (storedImage s x) x.total = true ∧ minSvn s ≤ imageSvn (storedImage s x)) := by
  simp only [closeGood, Bool.or_eq_true, Bool.and_eq_true, decide_eq_true_eq, and_assoc]

theorem storeClose_runs (sig fault : Bool) (h : Front s q .storeClose) {x : StoreOpen} (hstore : s.flask.store = some x) :
    exec (.storeClose sig fault) s = .next (
    if x.session ≠ q.session then finishOp s 5 []
    else if fault = true ∨ unitOff s .flask = true then finishOp (flaskEvent s 4) 6 []
    else if closeGood s sig x = true then
      finishOp (closeBank (flaskEvent (setStore s none) 1) x.cfgArea x.bankB x.total
        (if x.cfgArea then 0 else imageSvn (storedImage s x))) 0 []
    else finishOp (flaskEvent (setStore s none) 1) 7 []) :=
  onFront_runs h (by
    simp only [hstore, flaskFails_iff, ← apply_ite some, drsBusy, drsOk, drsSigFail, storeFault, drsStoreFault]
    rfl)

theorem storeAbort_none (h : Front s q .storeAbort) (hstore : s.flask.store = none) : exec .storeAbort s = .next (finishOp s 0 []) :=
  onFront_runs h (by simp only [hstore, drsOk])

theorem storeAbort_runs (h : Front s q .storeAbort) {x : StoreOpen} (hstore : s.flask.store = some x) : exec .storeAbort s = .next (
    if x.session ≠ q.session then finishOp s 5 [] else finishOp (abandonStore s) 0 []) :=
  onFront_runs h (by simp only [hstore, apply_ite some, drsBusy, drsOk])

/-- The image of the present configuration. -/
def cfgImage (s : State) : List Byte := (cfgRecords s).flatMap (fun r => leBytes r.1 4 ++ leBytes r.2 4)

theorem cfgSave_runs (fault : Bool) (h : Front s q .cfgSave) : exec (.cfgSave fault) s = .next (
    if s.flask.store ≠ none then finishOp s 5 []
    else if fault = true ∨ unitOff s .flask = true then finishOp (flaskEvent s 4) 6 []
    else finishOp (closeBank (showBank (setBank s true (targetBank s true)
      { zeroUnit (bankOf s true (targetBank s true)) with image := cfgImage s }) true (targetBank s true) false) true (targetBank s true)
      (cfgImage s).length 0) 0 []) :=
  onFront_runs h (by simp only [Option.isSome_iff_ne_none, flaskFails_iff, apply_ite some, drsBusy, drsOk, storeFault, drsStoreFault,
    cfgImage])

end

/-! ### Words in turn (R36, R557) -/

theorem readWords_length (n : Nat) (s : State) (off : Nat) (acc : List (BitVec 32)) :
    (readWords n s off acc).1.length = acc.length + n := by
  induction n generalizing s off acc with
  | zero => rfl
  | succ n ih =>
    rw [readWords, ih, List.length_append, List.length_singleton]
    omega

/-! ### The obligation -/

/-- The commands of the operations with the codes they wait for. -/
theorem frontCommands {c : Instr} {code : Nat} (hc : (c, code) ∈ [(Instr.regRead, 1), (.regWrite, 2), (.regRmw, 3), (.poll, 4),
    (.pollEnd true, 4), (.pollEnd false, 4), (.commit, 5), (.commitWaitEnd true, 5), (.commitWaitEnd false, 5), (.atlasLoad, 16),
    (.atlasRead, 17), (.stream, 32), (.fmapi, 48), (.storeOpen true, 64), (.storeOpen false, 64), (.storeData true, 65),
    (.storeData false, 65), (.storeClose true true, 66), (.storeClose true false, 66), (.storeClose false true, 66),
    (.storeClose false false, 66), (.cfgSave true, 67), (.cfgSave false, 67), (.storeAbort, 68)]) (s : State) :
    FrontCommand s code (exec c s) := by
  simp only [List.mem_cons, List.not_mem_nil, or_false, Prod.mk.injEq] at hc
  rcases hc with ⟨rfl, rfl⟩ | ⟨rfl, rfl⟩ | ⟨rfl, rfl⟩ | ⟨rfl, rfl⟩ | ⟨rfl, rfl⟩ | ⟨rfl, rfl⟩ | ⟨rfl, rfl⟩ | ⟨rfl, rfl⟩ | ⟨rfl, rfl⟩ |
    ⟨rfl, rfl⟩ | ⟨rfl, rfl⟩ | ⟨rfl, rfl⟩ | ⟨rfl, rfl⟩ | ⟨rfl, rfl⟩ | ⟨rfl, rfl⟩ | ⟨rfl, rfl⟩ | ⟨rfl, rfl⟩ | ⟨rfl, rfl⟩ | ⟨rfl, rfl⟩ |
    ⟨rfl, rfl⟩ | ⟨rfl, rfl⟩ | ⟨rfl, rfl⟩ | ⟨rfl, rfl⟩ | ⟨rfl, rfl⟩
  · exact regRead_front s
  · exact regWrite_front s
  · exact regRmw_front s
  · exact poll_front s
  · exact pollEnd_front s true
  · exact pollEnd_front s false
  · exact commit_front s
  · exact commitWaitEnd_front s true
  · exact commitWaitEnd_front s false
  · exact atlasLoad_front s
  · exact atlasRead_front s
  · exact stream_front s
  · exact fmapi_front s
  · exact storeOpen_front s true
  · exact storeOpen_front s false
  · exact storeData_front s true
  · exact storeData_front s false
  · exact storeClose_front s true true
  · exact storeClose_front s true false
  · exact storeClose_front s false true
  · exact storeClose_front s false false
  · exact cfgSave_front s true
  · exact cfgSave_front s false
  · exact storeAbort_front s

/-- Settles O50. The front operation's code decides which command acts, its arguments what that command does. -/
theorem drisiulOperationsRunInTurn : Obligations.DrisiulOperationsRunInTurn := by
  unfold Obligations.DrisiulOperationsRunInTurn
  refine ⟨?idle, fun q s hserves hlive hk => exec_drisiulRequest_noSession hserves hlive hk, ?request, seqFresh_iff, ?ended, ?answer, ?fronts,
    fun q o s => opDenied_iff, ?ops, fun ws v s off n => ⟨rfl, ?len⟩⟩
  case idle =>
    intro q s h
    exact if_pos (by rcases h with h | h <;> simp [h])
  case request =>
    intro q k s hserves hlive hk
    refine ⟨fun h => exec_drisiulRequest_bad hserves hlive hk h, fun htag hfresh hspent =>
      exec_drisiulRequest_spent hserves hlive hk htag hfresh hspent, ?_, ?_, ?_⟩
    · rintro ⟨htag, hfresh, hseq⟩ hbusy
      exact (exec_drisiulRequest_good hserves hlive hk htag hfresh hseq).trans (if_pos (by simpa using hbusy))
    · rintro ⟨htag, hfresh, hseq⟩ hfree hlast
      rw [exec_drisiulRequest_good hserves hlive hk htag hfresh hseq, if_neg (Bool.eq_false_iff.mp hfree), hlast]
      rfl
    · rintro n msg ⟨htag, hfresh, hseq⟩ hfree hlast
      rw [exec_drisiulRequest_good hserves hlive hk htag hfresh hseq, if_neg (Bool.eq_false_iff.mp hfree), hlast]
      exact ⟨fun hid => if_pos hid, fun hid hnear => (if_neg hid).trans (if_pos hnear),
        fun hid hfar => (if_neg hid).trans (if_neg (not_lt.mpr hfar))⟩
  case ended =>
    intro q o rest l status data s hreqs hleft
    have hend := endOp_eq hreqs hleft status data
    have hfinish : finishOp s status data =
        settleReqs (reqFuel s) (s.setMg { s.mg with reqs := opEnded q o rest status data :: l }) := congrArg _ hend
    refine ⟨hend, fun hok hnamed => hfinish.trans (settleReqs_named (q := opEnded q o rest status data) rfl ?_), fun hover hlast => ?_⟩
    · rw [opEnded, if_pos hok]
      exact hnamed
    · subst hlast
      refine hfinish.trans (settleReqs_last (q := opEnded q o rest status data) rfl ?_ (reqFuel_pos hreqs))
      by_cases hok : status = 0
      · rw [opEnded, if_pos hok]
        exact hover.resolve_right (· hok)
      · rw [opEnded, if_neg hok]
  case answer =>
    exact fun q s => ⟨answerReq_gone, fun k => answerReq_live⟩
  case fronts =>
    intro c code s hc
    have hfront := frontCommands hc s
    exact ⟨hfront.idle, fun q l => hfront.done, fun q o rest l hreqs hleft => ⟨hfront.other hreqs hleft,
      fun hserves hcode hnamed hdenied => hfront.denied hserves hreqs hleft hcode hnamed hdenied⟩⟩
  case len =>
    exact (readWords_length n s off []).trans (Nat.zero_add n)
  case ops =>
    intro q o rest l s hserves hreqs hleft hgranted
    have hfront : Front s q o := ⟨hserves, by rw [hreqs]; rfl, by rw [hleft]; rfl, hgranted⟩
    refine ⟨?read, ?write, ?rmw, ?poll, ?commit, ?noTable, ?load, ?tableRead, ?stream, ?fmapi, ?sopen, ?sdata, ?sclose, ?sabort, ?save⟩
    case read =>
      rintro off n rfl
      rw [regRead_runs hfront]
      exact ⟨fun hbad => congrArg _ (if_pos hbad), fun hgood hfits => congrArg _ ((if_neg hgood).trans (if_pos hfits)),
        fun hgood hfits => congrArg _ ((if_neg hgood).trans (if_neg (ne_false_of_eq_true hfits)))⟩
    case write =>
      rintro off ws rfl
      rw [regWrite_runs hfront]
      refine ⟨fun hbad => congrArg _ (if_pos hbad), fun hgood hno => ?_, fun hgood hall hoff => ?_, fun hgood hall hoff => ?_⟩
      · rw [if_neg hgood, if_pos hno]
      · rw [if_neg hgood, if_neg (ne_false_of_eq_true hall), if_pos hoff]
      · rw [if_neg hgood, if_neg (ne_false_of_eq_true hall), if_neg (not_not.mpr hoff)]
    case rmw =>
      rintro off mask value rfl
      rw [regRmw_runs hfront]
      refine ⟨fun hbad => congrArg _ (if_pos hbad), fun hgood hfits => ?_, fun hgood hfits hno => ?_, fun hgood hfits hno hoff => ?_,
        fun hgood hfits hno hoff => ?_⟩
      · rw [if_neg (not_lt.mpr hgood), if_pos hfits]
      · rw [if_neg (not_lt.mpr hgood), if_neg (ne_false_of_eq_true hfits), if_pos hno]
        rfl
      · rw [if_neg (not_lt.mpr hgood), if_neg (ne_false_of_eq_true hfits), if_neg hno, if_pos hoff]
        rfl
      · rw [if_neg (not_lt.mpr hgood), if_neg (ne_false_of_eq_true hfits), if_neg hno, if_neg (not_not.mpr hoff)]
        rfl
    case poll =>
      rintro off mask value tmo rfl
      refine ⟨fun hwait => ?_, fun hnew hbad => ?_, fun hnew hgood hfits => ?_, fun hnew hgood hfits => ?_, fun late hnew => ?_,
        fun late hwait hmatch => ?_, fun hwait hno => ⟨?_, ?_⟩⟩
      · rw [poll_runs hfront, if_pos hwait]
      · rw [poll_runs hfront, if_neg (not_not.mpr hnew), if_pos hbad]
      · rw [poll_runs hfront, if_neg (not_not.mpr hnew), if_neg hgood, if_pos hfits]
      · rw [poll_runs hfront, if_neg (not_not.mpr hnew), if_neg hgood, if_neg (ne_false_of_eq_true hfits)]
      · rw [pollEnd_runs late hfront, if_pos hnew]
      · rw [pollEnd_runs late hfront, if_neg hwait, if_pos hmatch]
      · rw [pollEnd_runs true hfront, if_neg hwait, if_neg hno, if_pos rfl]
      · rw [pollEnd_runs false hfront, if_neg hwait, if_neg hno, if_neg Bool.false_ne_true]
    case commit =>
      rintro g tmo rfl
      refine ⟨fun hwait => ?_, fun hnew hfits => ?_, fun hnew hfits => ?_, fun late hnew => ?_, fun late hwait hdone => ?_,
        fun hwait hno => ⟨?_, ?_⟩⟩
      · rw [commit_runs hfront, if_pos hwait]
      · rw [commit_runs hfront, if_neg (not_not.mpr hnew), if_pos hfits]
      · rw [commit_runs hfront, if_neg (not_not.mpr hnew), if_neg (ne_false_of_eq_true hfits)]
      · rw [commitWaitEnd_runs late hfront, if_pos hnew]
      · rw [commitWaitEnd_runs late hfront, if_neg hwait, if_pos hdone]
      · rw [commitWaitEnd_runs true hfront, if_neg hwait, if_neg hno, if_pos rfl]
      · rw [commitWaitEnd_runs false hfront, if_neg hwait, if_neg hno, if_neg Bool.false_ne_true]
    case noTable =>
      intro v force first ws n
      refine ⟨fun ho => ?_, fun ho => ?_⟩
      · subst ho
        exact atlasLoad_noTable hfront
      · subst ho
        exact atlasRead_noTable hfront
    case load =>
      rintro x v force first ws hx rfl
      rw [atlasLoad_runs hx hfront]
      exact ⟨fun hbad => congrArg _ (if_pos hbad), fun hgood hused => congrArg _ ((if_neg hgood).trans (if_pos hused)),
        fun hgood hfree => congrArg _ ((if_neg hgood).trans (if_neg hfree))⟩
    case tableRead =>
      rintro x v first n hx rfl
      rw [atlasRead_runs hx hfront]
      exact ⟨fun hbad => congrArg _ (if_pos hbad), fun hgood hfits => congrArg _ ((if_neg hgood).trans (if_pos hfits)),
        fun hgood hfits => congrArg _ ((if_neg hgood).trans (if_neg (ne_false_of_eq_true hfits)))⟩
    case stream =>
      rintro st on rate decim rfl
      rw [stream_runs hfront]
      refine ⟨fun hbad => congrArg _ (if_pos hbad), fun hst hon hbad => ?_, fun hst hon hgood => ?_, fun hst hoff hheld => ?_,
        fun hst hoff hnot => ?_⟩
      · rw [if_neg (not_lt.mpr hst), if_pos hon, if_pos (not_not.mp (mt (streamGood_iff rate decim).mp hbad))]
      · rw [if_neg (not_lt.mpr hst), if_pos hon, if_neg ((streamGood_iff rate decim).mpr hgood)]
        rfl
      · rw [if_neg (not_lt.mpr hst), if_neg (Bool.eq_false_iff.mp hoff), if_pos hheld]
      · rw [if_neg (not_lt.mpr hst), if_neg (Bool.eq_false_iff.mp hoff), if_neg hnot]
    case fmapi =>
      rintro c rfl
      rw [fmapi_runs hfront]
      exact ⟨fun hfits => congrArg _ (if_neg (Bool.eq_false_iff.mp hfits)), fun hfits => congrArg _ (if_pos hfits)⟩
    case sopen =>
      rintro cfg n fault rfl
      rw [storeOpen_runs fault hfront]
      refine ⟨fun hopen => congrArg _ (if_pos hopen), fun hnone hbad => ?_, fun hnone hgood hfails => ?_, fun hnone hgood hworks => ?_⟩
      · rw [if_neg (not_not.mpr hnone), if_pos hbad]
      · rw [if_neg (not_not.mpr hnone), if_neg (ne_false_of_eq_true hgood), if_pos hfails]
      · rw [if_neg (not_not.mpr hnone), if_neg (ne_false_of_eq_true hgood), if_neg hworks]
        rfl
    case sdata =>
      rintro off bytes fault rfl
      refine ⟨storeData_none fault hfront, fun x hstore => ?_⟩
      rw [storeData_runs fault hfront hstore]
      refine ⟨fun hother => congrArg _ (if_pos hother), fun hown hbad => ?_, fun hown hgood hfails => ?_, fun hown hgood hworks => ?_⟩
      · rw [if_neg (not_not.mpr hown), if_pos hbad]
      · rw [if_neg (not_not.mpr hown), if_neg hgood, if_pos hfails]
      · rw [if_neg (not_not.mpr hown), if_neg hgood, if_neg hworks]
        rfl
    case sclose =>
      rintro sig fault rfl
      refine ⟨storeClose_none sig fault hfront, fun x hstore => ?_⟩
      rw [storeClose_runs sig fault hfront hstore]
      refine ⟨fun hother => congrArg _ (if_pos hother), fun hown hfails => ?_, fun hown hworks hbad => ?_, fun hown hworks hgood => ?_⟩
      · rw [if_neg (not_not.mpr hown), if_pos hfails]
      · rw [if_neg (not_not.mpr hown), if_neg hworks, if_neg (mt (closeGood_iff s sig x).mp hbad)]
      · rw [if_neg (not_not.mpr hown), if_neg hworks, if_pos ((closeGood_iff s sig x).mpr hgood)]
        rfl
    case sabort =>
      rintro rfl
      refine ⟨storeAbort_none hfront, fun x hstore => ?_⟩
      rw [storeAbort_runs hfront hstore]
      exact ⟨fun hother => congrArg _ (if_pos hother), fun hown => congrArg _ (if_neg (not_not.mpr hown))⟩
    case save =>
      rintro fault rfl
      rw [cfgSave_runs fault hfront]
      refine ⟨fun hopen => congrArg _ (if_pos hopen), fun hnone hfails => ?_, fun hnone hworks => ?_⟩
      · rw [if_neg (not_not.mpr hnone), if_pos hfails]
      · rw [if_neg (not_not.mpr hnone), if_neg hworks]
        rfl

end Sys2Proof.Machine
end
